-- ==== Sys2Proof/Word.lean ====
section
/-! DEFINITION. The plain number types of the device: register words, bytes, phases, frequencies and pounds (R4, R6). -/

namespace Sys2Proof

/-- A 32-bit register or command word. -/
abbrev Word := BitVec 32
/-- A byte. -/
abbrev Byte := BitVec 8
/-- A frame phase in units of 2^-64 turn (R6). -/
abbrev Phase := BitVec 64
/-- A frame frequency, 8.64 fixed point, in turns per pound (R6). -/
abbrev Freq := BitVec 72
/-- A pound number; sums and differences are taken mod 2^64 (R4). -/
abbrev Pound := BitVec 64

end Sys2Proof
end

