-- ==== Sys2Proof/Syntax.lean ====
section
/-! DEFINITION. The commands of the device: one constructor per row of the table of operations and events, with the operands that
the row needs. What the world outside decides (a counted frequency, a received frame, a found band, a memory upset) is an operand;
what the device decides is not. -/

namespace Sys2Proof

/-- The two ports of the register bus (R320): the host serial port and the Keeper port. -/
inductive Port where
  | host
  | keeper
  deriving DecidableEq, Repr

/-- The memory upsets one engine or release step meets: an uncorrectable word of its queue or slice and whether the source of that word
cannot be read either, an uncorrectable lease table word, an uncorrectable credit counter of the wharf, and codewords of the Berth
entry read as holding one wrong bit or two (R27, R146, R197). -/
structure Upset where
  queue : Bool := false
  noSource : Bool := false
  lease : Bool := false
  credit : Bool := false
  corr : BitVec 4 := 0
  uncorr : BitVec 4 := 0
  deriving DecidableEq, Repr

/-- What the Keeper's command port takes: a command word of its firmware with its second word, or the next frame it has to re-send. -/
inductive KeeperSubmit where
  | command (w : BitVec 128) (second : Option (BitVec 128))
  | resend
  deriving DecidableEq, Repr

/-- What the flash holds as step 3 reads it (R296, R355): copies A and B as (offset, byte) pairs, and the boot configuration image. -/
structure FlashImages where
  a : List (Nat × Byte)
  b : List (Nat × Byte)
  boot : List Byte
  deriving DecidableEq, Repr

/-- What step 2 finds at the flash (R316): how often the status is read, whether the busy bit cleared within 5 s, whether the SFDP signature
was found, the density in Mbit, and the code of the quad-enable method in the basic parameter table. -/
structure FlashProbe where
  polls : Nat := 1
  idle : Bool := true
  sfdp : Bool := true
  mbit : Nat := 128
  method : Nat := 4
  deriving DecidableEq, Repr

/-- What one part of a calibration run measures (R282-R284): the histogram of a code density run with its grid counts; the readings of a
mean run, each with how often it came (readings of the unit's TDC, or times of the return sampler in 1/64 ps); the tuning-DAC codes
read in 4,096 pounds of a band-map entry, each with how often it came; a preset load of the entry, reached or overdue; the ones in 2^16
decisions of each sampler at its eight trim steps and at the trim found. -/
inductive CalPart where
  | density (bins grid : List Nat)
  | mean (readings : List (Int × Nat))
  | tunes (readings : List (Nat × Nat))
  | preset
  | trims (ones : List (List Nat))
  deriving DecidableEq, Repr

/-- How a store ends (R295): the flash does not respond, or it held copies A and B and after programming read back as `back`, and after a
second try as `again`. A copy lists the bytes that are not zero. -/
inductive StoreResult where
  | noResponse
  | written (a b back again : List (Nat × Byte))
  deriving DecidableEq, Repr

/-- The commands. -/
inductive Instr where
  /-- POWER_ON_RESET (R44): VDD_AON or VDDIO falls out of range and the whole device is reset, with every memory left arbitrary. -/
  | powerOnReset
  /-- POWER_ON_RESET_END (R45): Power-on reset ends 1 ms after VDD_AON, VDDIO, PG_IN and RESET_N are all good, and start-up step 1 begins. -/
  | powerOnResetEnd (bootsel : BitVec 2)
  /-- WARM_RESET (R44): An honoured RESET_N assertion resets everything except the AON unit and drives the outputs to their reset states. -/
  | warmReset
  /-- RESET_N_RELEASE (R45): The rising edge of RESET_N ends the warm reset, and start-up resumes at step 2. -/
  | resetNRelease
  /-- BROWNOUT (R39): A monitored rail stays below 90 % of nominal for 2 µs; the device enters warm reset and sets BROWNOUT, and also SRAM_LOST when the rail is VDD_SRAM. -/
  | brownout (rail : Fin 7)
  /-- BROWNOUT_RECOVERED (R39): The rail has been back in range for 1 ms and the brown-out warm reset is released. -/
  | brownoutRecovered (rail : Fin 7)
  /-- RAIL_DIP (R364): A rail falls below 90 % for less than 2 µs and RAIL_DIP is set. -/
  | railDip (rail : Fin 7)
  /-- OVER_TEMP (R43): The sensor reads 105 °C or above and an OVER_TEMP fault record is written. -/
  | overTemp
  /-- THERMAL_RESET (R43): The junction stays at 115 °C or above for 1 ms; the device enters warm reset and sets THERMAL. -/
  | thermalReset
  /-- THERMAL_RELEASE (R43): The sensor reads 100 °C or below and the thermal warm reset is released. -/
  | thermalRelease
  /-- PG_LOST (R37): PG_IN stays low for 10 µs outside blanking; a record is written and ENG is ramped to the OP0 divider. -/
  | pgLost
  /-- KEEPER_WATCHDOG_EXPIRY (R21): The Keeper fails to service its watchdog within the period, is block-reset, restarts from ROM, and a record is written. -/
  | keeperWatchdogExpiry
  /-- PATCH_LOAD (R356): Start-up step 2 completes when the Keeper has booted and loaded a valid patch image, or warns with code 0x21 and runs ROM firmware.
  The operands are the image as it lies in the flash, and what the probe of the flash finds. -/
  | patchLoad (image : Option (List Byte)) (found : FlashProbe := {})
  /-- CALIBRATION_LOAD (R296): Start-up step 3 completes when the in-force calibration image and the boot configuration image have been loaded. -/
  | calibrationLoad (flash : Option FlashImages)
  /-- REF_ABSENT (R50): No reference input is READY 20 ms after step 4 starts; blocking code 0x40 is set and judgement keeps retrying. -/
  | refAbsent
  /-- MPL_LOCK (R48): MPL0 and MPL1 lock, completing start-up step 5, and the digital domains are switched to MPL1 for step 6. -/
  | mplLock
  /-- MPL_LOCK_TIMEOUT (R50): MPL0 or MPL1 fails to lock in three attempts of 5 ms and start-up stops as FAILED with code 0x50 or 0x51. -/
  | mplLockTimeout (mpl1 : Bool)
  /-- FOLLOWER_NO_MASTER (R50): A follower finds no master within 50 ms; blocking code 0x80 is set and it keeps trying. -/
  | followerNoMaster
  /-- JUDGE_WINDOW (R56): A judgement window of a source ends; its counted frequency is classed against the band, and READY is gained or lost. -/
  | judgeWindow (src : Fin 6) (count : Nat)
  /-- STOP_DETECT (R57): No edge of a source is seen in 64 cycles of its second clock, and the source loses READY. -/
  | stopDetect (src : Fin 6)
  /-- REF_SWITCH (R67): A guarded write of CLK_REF_CTRL that changes SEL requests a change of REF between XI0 and XI1, with MPL0 in holdover. -/
  | refSwitch (v : Word)
  /-- MPL0_RELOCK (R67): MPL0 relocks to a READY input with phase build-out and leaves holdover. -/
  | mpl0Relock
  /-- MPL1_UNLOCK (R69): MPL1 loses lock or READY; with FALLBACK_EN set, ENG, FAB, KPR, REG and NVS move to FIO and an MPL_UNLOCK record is written. -/
  | mpl1Unlock
  /-- DOMAIN_SWITCH (R61): CLK_DOM_CTRL.SWITCH requests a glitch-free change of a domain's source, which is done or refused. -/
  | domainSwitch (v : Word)
  /-- SWITCH_DONE (R61): A domain change completes on its incoming clock with RESULT 1. -/
  | switchDone (dom : Fin 157)
  /-- SWITCH_FORCED (R64): The outgoing clock shows no low phase within 32 incoming cycles; the change is forced and the domain is marked UNTRUSTED. -/
  | switchForced (dom : Fin 157)
  /-- RAMP_STEP (R63): The 1 µs hold of a ramp divider expires and the domain steps to the next divider. -/
  | rampStep (dom : Fin 157)
  /-- DOM_RESET (R65): CLK_DOM_CTRL.DOM_RESET resets a domain's logic, abandons a switch in progress, and is refused for REG, HSP and AON. -/
  | domReset (v : Word)
  /-- BLOCK_CLOSE (R71): Clearing an enable bit closes a block once its register port is idle, with the outcomes of the block's shutdown row. -/
  | blockClose (b : Fin 118) (busy : Bool)
  /-- GATE_BUS_ABORT (R71): A gate request waits 256 REG cycles for the port, then completes the held access with zero data and sets BUS_ABORT. -/
  | gateBusAbort (b : Fin 118)
  /-- BLOCK_SHUTDOWN_DONE (R71): The analogue shutdown of a closing block completes and STATE shows CLOSED. -/
  | blockShutdownDone (b : Fin 118)
  /-- BLOCK_OPEN (R71): Setting the enable bit of a closed block starts its opening, shown as OPENING. -/
  | blockOpen (b : Fin 118)
  /-- BLOCK_OPEN_DONE (R71): The reopening action of a block has begun and STATE shows OPEN. -/
  | blockOpenDone (b : Fin 118)
  /-- OP_REQUEST (R74): A guarded write of PWR_OP_CTRL.OP_REQ requests an operating point, which the voltage–frequency sequencer starts or holds. -/
  | opRequest (v : Word)
  /-- PG_BLANKING_END (R74): The 200 µs PG_IN blanking after a VID raise ends; PG_IN high lets the ENG ramp begin.
  The operand is the level of PG_IN. -/
  | pgBlankingEnd (pg : Bool := true)
  /-- RAISE_FAILED (R74): PG_IN is not high by the power-good timeout after a raise; the previous VID is restored and RAISE_FAILED is set. -/
  | raiseFailed
  /-- AUX_DIV_UPDATE (R77): A new AUXA or AUXB divider setting takes effect at the next modulation period or within 64 output cycles. -/
  | auxDivUpdate (aux : Fin 2)
  /-- AUX_SSC_UPDATE (R78): Changes of SSC_EN, DEPTH and RATE take effect at the next modulation period boundary. -/
  | auxSscUpdate (aux : Fin 2)
  /-- POUND_BOUNDARY (R11): Every scheduling domain observes the pound strobe with the number of the pound that opens.
  The operands are by core the phase monitor's sample and the dither bits, and the pages on which an event of the last pound recurred
  before its crossing had carried the one before it (R341). -/
  | poundBoundary (raw dith : List Nat) (merged : List Nat := [])
  /-- LATE_REJECT (R14): A command not executed by the end of its issue window is rejected whole as LATE at the next boundary. -/
  | lateReject
  /-- HCQ_PUSH (R176): A write to word 3 of a host push window group pushes a command word into the host command queue, or is refused. -/
  | hcqPush (g : Fin 32) (v : Word)
  /-- HCQ_RELEASE (R177): The host command queue moves up to 8 eligible commands per ENG cycle from its head into their slices. -/
  | hcqRelease (up : Upset)
  /-- FLUSH (R177): ENG_HCQ_CTRL.FLUSH rejects every queued host command and the held word as FLUSHED. -/
  | flush (v : Word)
  /-- TT_RELEASE (R179): The timetable examines up to 32 entries from TT_HEAD per ENG cycle and releases the due ones, which are accepted at release. -/
  | ttRelease (up : Upset)
  /-- TT_END_WRITE (R180): A write of TT_END makes the loaded entries live from the next ENG cycle. -/
  | ttEndWrite (v : Word)
  /-- KPQ_SUBMIT (R181): Keeper firmware or the refresh walker submits a command word into the Keeper command port, where it is accepted. -/
  | kpqSubmit (k : KeeperSubmit)
  /-- KPQ_RELEASE (R181): The Keeper command port moves up to 2 eligible commands per ENG cycle from its head into their slices. -/
  | kpqRelease (up : Upset)
  /-- REFRESH_SUBMIT (R166): The refresh walker submits an EMIT with IMM for the next Berth id through the Keeper command port. -/
  | refreshSubmit
  /-- NOP (R156): An engine executes a NOP in one cycle, reading no Berth and taking no lease. -/
  | nop (e : Fin 64) (up : Upset)
  /-- SET_FREQ (R156): An engine re-anchors the Berth at T with the new frequency phase-continuously, and sends a Barge or loads the core. -/
  | setFreq (e : Fin 64) (up : Upset)
  /-- SET_FREQ_PHASE (R156): An engine re-anchors the Berth at T with a new frequency and absolute phase, and sends a Barge or loads the core. -/
  | setFreqPhase (e : Fin 64) (up : Upset)
  /-- ADD_PHASE (R156): An engine folds a virtual-Z rotation into the anchor phase, and sends a Barge or makes a phase-only load. -/
  | addPhase (e : Fin 64) (up : Upset)
  /-- BIND (R158): An engine binds the Berth to its channel with a FIRST Barge, or to a core or twin. -/
  | bind (e : Fin 64) (up : Upset)
  /-- RELEASE (R159): An engine releases a bound Berth, returning a bound core to free mode at T. -/
  | release (e : Fin 64) (up : Upset)
  /-- EMIT (R156): An engine re-sends the frame state of a channel-bound Berth, or reloads a core's target, without changing the Berth. -/
  | emit (e : Fin 64) (up : Upset)
  /-- PREP_HOP_TWIN (R121): An engine prepares a twin hop, loading the standby with a preset and the post-hop trajectory at the commit. -/
  | prepHopTwin (e : Fin 64) (up : Upset)
  /-- PREP_HOP_RETUNE (R128): An engine prepares a retune hop, to take effect at T as a preset load of the active core. -/
  | prepHopRetune (e : Fin 64) (up : Upset)
  /-- PREP_HOP_PARK (R124): An engine prepares a park that loads the standby core at its target pound, leaving the Berth unchanged. -/
  | prepHopPark (e : Fin 64) (up : Upset)
  /-- FENCE (R189): A source takes a FENCE and holds its later commands until every selected source has passed the fence number. -/
  | fence (src : Fin 4)
  /-- FILL (R161): The owning engine initialises a range of Berths one by one in idle cycles, each committing at a boundary. -/
  | fill (e : Fin 64) (up : Upset)
  /-- STEAL (R186): An engine with no selectable command steals a victim's best command and its lease within its cluster or on the ring. -/
  | steal (e : Fin 64) (ring : Bool) (up : Upset := {})
  /-- FENCE_RELEASE (R189): A held FENCE is released with APPLIED once every selected source has passed its fence number. -/
  | fenceRelease (src : Fin 4)
  /-- FENCE_TIMEOUT (R191): A FENCE held for 2^FENCE_TIMEOUT_LOG pounds is rejected, a record is written and the source resumes. -/
  | fenceTimeout (src : Fin 4)
  /-- ENG_CNT_SNAP (R193): A write of ENG_CNT_CTRL.SNAP requests a capture of the command counters. -/
  | engCntSnap (v : Word)
  /-- CNT_SNAP_CAPTURE (R193): The counters of all four sources are captured at the next pound boundary and DONE is set. -/
  | cntSnapCapture
  /-- ENGINES_RESET (R196): ENG_RESET.ENGINES discards slice commands and uncommitted executions and frees every lease. -/
  | enginesReset
  /-- ENGINES_RESET_DONE (R196): The 64-cycle engine reset completes, RESET_BUSY clears and RESET_DONE is set. -/
  | enginesResetDone
  /-- HCQ_RESET (R196): ENG_RESET.HCQ discards the host command queue and its held word without records. -/
  | hcqReset
  /-- KPQ_RESET (R196): ENG_RESET.KPQ discards the Keeper command port without records. -/
  | kpqReset
  /-- CORE_LOAD (R98): At the boundary of T a core takes a committed frequency or phase load, derives its settings again, or refuses the load. -/
  | coreLoad (c : Fin 16) (inBand : Bool)
  /-- LOOP_APPLY (R83): LOOP_APPLY.GO checks the staged free-mode settings and makes them pending for a boundary, or refuses them. -/
  | loopApply (c : Fin 16) (v : Word)
  /-- LOOP_APPLY_TAKE_EFFECT (R83): At the apply boundary the staged settings are checked again and applied together, setting APPLY_DONE. -/
  | loopApplyTakeEffect (c : Fin 16) (inBand : Bool)
  /-- BAND_SEARCH_DONE (R87): The eight-step band search ends; the loop closes, or the search fails with BAND_FAIL and a record. -/
  | bandSearchDone (c : Fin 16) (band : Byte) (fKhz : Nat)
  /-- LOCK_GAINED (R93): N consecutive reference cycles inside the window declare lock.
  The operand is the phase errors of the last reference cycles in ps, newest first. -/
  | lockGained (c : Fin 16) (errs : List Nat := [])
  /-- LOCK_LOST (R94): M consecutive cycles outside the window lose lock; the core stops tracking, counts and records the loss and re-acquires.
  The operand is the phase errors of the last reference cycles in ps, newest first. -/
  | lockLost (c : Fin 16) (errs : List Nat := [])
  /-- REACQUIRE_TIMEOUT (R94): A core not relocked within 50 µs runs a band search and continues as a cold start. -/
  | reacquireTimeout (c : Fin 16)
  /-- CYCLE_SLIP (R95): The slip detector sees two edges of one input without an edge of the other, and counts a slip. -/
  | cycleSlip (c : Fin 16)
  /-- TUNE_EDGE (R88): The tuning voltage of a locked core comes within 10 % of its range and TUNE_EDGE is set. -/
  | tuneEdge (c : Fin 16)
  /-- FCNT_START (R96): LOOP_FCNT_CFG.GO starts a frequency count at the next pound boundary, or after a band search. -/
  | fcntStart (c : Fin 16) (v : Word)
  /-- FCNT_DONE (R96): The frequency counter gate of 2^GATE pounds ends and DONE is set. -/
  | fcntDone (c : Fin 16) (count : Word)
  /-- PHASE_ADJ (R101): LOOP_PHASE_ADJ.GO adds STEPS to the free target at the next boundary, or is refused with PA_REFUSED. -/
  | phaseAdj (c : Fin 16) (v : Word)
  /-- MONITOR_AVERAGE (R104): A monitor average of 2^AVG pounds completes, is written to LOOP_MON_ERR and may raise PHASE_ALARM. -/
  | monitorAverage (c : Fin 16)
  /-- MONITOR_HOLD_END (R104): The monitor hold of HOLD pounds ends, sampling resumes, and ALIGNED may be set. -/
  | monitorHoldEnd (c : Fin 16)
  /-- REALIGNED (R106): A realignment after relock, slip or alarm averages 8 pounds and adds the full correction to τ. -/
  | realigned (c : Fin 16)
  /-- TWIN_EN_WRITE (R114): A write of COUT_TWIN_CTRL enables or disables twins, ignoring bits of bound twins with TWIN_REFUSED. -/
  | twinEnWrite (v : Word)
  /-- HOP_BLANK_END (R119): HOP_BLANK pounds after a preset load the lock detector resumes judging loss of lock. -/
  | hopBlankEnd (c : Fin 16)
  /-- RETUNE_SLOW (R119): A core not ALIGNED within RETUNE_LIMIT pounds of a preset load sets RETUNE_SLOW and writes a HOP_SLOW record. -/
  | retuneSlow (c : Fin 16)
  /-- HOP_READY (R122): The standby becomes hop-ready once ALIGNED and its settle count has elapsed. -/
  | hopReady (k : Fin 8)
  /-- TWIN_SWITCH (R123): At the hop pound the machinery samples readiness and changes the twin outputs to the standby. -/
  | twinSwitch (k : Fin 8)
  /-- DEFER_SWITCH (R126): A deferring twin changes over at the first later boundary with the standby hop-ready. -/
  | deferSwitch (k : Fin 8)
  /-- DEFER_TIMEOUT (R126): After 2^DEFER_LOG pounds without a change a deferred hop is abandoned as HOLD. -/
  | deferTimeout (k : Fin 8)
  /-- TWIN_SWAP (R130): COUT_TWIN_SWAP.GO requests a free-mode change of a twin at a given pound, or is refused. -/
  | twinSwap (v : Word)
  /-- OUTPUT_SOURCE_SELECT (R131): A write of COUT_SELn selects an output source, or is refused with COUT_SEL_REFUSED. -/
  | outputSourceSelect (n : Fin 32) (v : Word)
  /-- OUTPUT_SOURCE_CHANGE (R132): The new source of an output takes effect glitch-free at the next pound boundary. -/
  | outputSourceChange (n : Fin 32)
  /-- DELAY_WALK (R134): A new DELAY starts a tap walk at the next pound boundary, up to 8 taps every 2 ns. -/
  | delayWalk (n : Fin 32)
  /-- DELAY_WALK_DONE (R134): The delay walk reaches its selected tap and WALKING clears. -/
  | delayWalkDone (n : Fin 32)
  /-- DCC_LOCK (R135): Duty-cycle correction converges and DCC_LOCK is set. -/
  | dccLock (n : Fin 32)
  /-- ALIGN_ARM (R136): A write of COUT_ALIGN_ARM snapshots and arms an output's strobe program, or refuses it. -/
  | alignArm (v : Word)
  /-- ALIGN_DISARM (R136): A write of COUT_ALIGN_DISARM ends an output's strobe program after any strobe in progress. -/
  | alignDisarm (v : Word)
  /-- ALIGN_STROBE (R136): A strobe of an armed program rises at its pound, or is skipped while the output is closed or parked. -/
  | alignStrobe (n : Fin 32)
  /-- ALIGN_STROBE_END (R136): A strobe falls after WIDTH + 1 pounds, and the program ends after its last strobe. -/
  | alignStrobeEnd (n : Fin 32)
  /-- BERTH_INDIRECT_READ (R171): An indirect read of a Berth word captures the committed entry, corrects it and reports ECC errors. -/
  | berthIndirectRead (port : Port)
  /-- BERTH_INDIRECT_WRITE (R171): A write of word 7 of a staged Berth entry requests its write, or is refused for a bound entry. -/
  | berthIndirectWrite (port : Port) (v : Word)
  /-- BERTH_IND_WRITE_COMMIT (R171): The waiting indirect write takes the Berth's lease and writes the entry with fresh check bits. -/
  | berthIndWriteCommit
  /-- LANE_FRAME_RECEIVE (R257): A lane receives a frame, judges it valid, and passes its slots on or counts the error. -/
  | laneFrameReceive (n : Byte) (sync : Bool) (f : BitVec 256) (reading : Nat)
  /-- DESKEW_RELEASE (R268): A bonded wharf's deskew hold releases the frames of a pound when all joined lanes arrived or DESKEW_MAX_NS passed. -/
  | deskewRelease (h : Byte) (expired : Bool)
  /-- DECISION_LOOKUP (R207): The decision unit judges a queued event against window, source and condition table and sorts it into an outcome. -/
  | decisionLookup (up : Option Nat)
  /-- LIST_ACCEPT (R211): At the second boundary after the receive pound a matched action list is accepted whole, or discarded as LIST_OVERRUN. -/
  | listAccept (bad : BitVec 64)
  /-- DEFERRED_MOVE (R211): A deferred action command moves into the action queue at the opening of its issue window.
  The operand says how the word of the deferred store reads. -/
  | deferredMove (up : Upset := {})
  /-- ACTQ_RELEASE (R211): The action queue moves up to 32 commands per ENG cycle from its head into their slices. -/
  | actqRelease (up : Upset)
  /-- WINDOW_ADVANCE (R204): A decision window's current occurrence advances at the boundary that opens its next start pound. -/
  | windowAdvance (w : Byte)
  /-- DEC_CLEAR (R213): DEC_CTRL.CLEAR starts writing zero to the decision tables. -/
  | decClear (v : Word)
  /-- DEC_CLEAR_DONE (R213): The 8,192-cycle clear completes and CLEAR_DONE is set. -/
  | decClearDone
  /-- DEC_FLUSH (R214): DEC_CTRL.FLUSH rejects queued and deferred action commands as ACT_FLUSHED. -/
  | decFlush (v : Word)
  /-- DEC_UNIT_RESET (R214): DEC_RESET.UNIT discards queued events as DISABLED and action commands without records. -/
  | decUnitReset
  /-- DEC_LAST_EVT_READ (R209): A read of DEC_LAST_EVT3 releases the freeze of the captured discard. -/
  | decLastEvtRead
  /-- REALIGN (R223): TOW_REALIGN.GO, or start-up step 8, starts a Towpath alignment under the role in force. -/
  | realign (v : Option Word)
  /-- POUND_JUMP (R224): At the coarse step the pound counter loads or jumps, rejecting pending commands, disarming strobes and cancelling hops. -/
  | poundJump (raw dith : List Nat) (merged : List Nat := [])
  /-- TOW_ALIGNED (R223): Eight consecutive measurements within ALIGN_WIN_PS set ALIGNED and complete start-up step 8. -/
  | towAligned
  /-- TOW_LOAD_FALLBACK (R221): The TIME port is not SLAVE 50 ms after alignment begins; TOW_LOAD is used and a record is written. -/
  | towLoadFallback
  /-- WHARF_DELAY_MEASUREMENT (R230): A wharf's round-trip measurement over 2^AVG pounds completes and feeds the servo. -/
  | wharfDelayMeasurement (h : Byte)
  /-- TOW_WHF_RESOLVE (R232): Software writes a resolution of a delay step, applied at the wharf's next measurement. -/
  | towWhfResolve (v : Word)
  /-- TICK_IN_EDGE (R227): A TICK_IN rising edge is stamped and its symbol classified. -/
  | tickInEdge (reading high : Nat)
  /-- TICK_IN_LOST (R227): No TICK_IN edge in 4 pounds, or two bad words, declares the TICK source lost. -/
  | tickInLost
  /-- PPS_IN_EDGE (R239): A PPS_IN edge is stamped, judged spurious or accepted, and may give a PPS_STEP. -/
  | ppsInEdge (reading : Nat)
  /-- PPS_IN_LOST (R239): No PPS_IN edge is accepted within 1 s + PPS_TOL of the last, and the source is lost. -/
  | ppsInLost
  /-- PPS_OUT_PULSE (R240): PPS_OUT rises at each pound matching the offset mod 62,500,000. -/
  | ppsOutPulse
  /-- PPS_OUT_END (R240): PPS_OUT falls after WIDTH pounds. -/
  | ppsOutEnd
  /-- TIME_RX_FRAME (R242): A TIME port frame is filtered, stamped and passed to PTP handling or dropped and counted. -/
  | timeRxFrame (frame : List Byte) (good : Bool) (f : BitVec 24) (p : Option Pound := none)
  /-- PTP_DELAY_REQ (R244): The Keeper-run client sends a Delay_Req at the last logMessageInterval. -/
  | ptpDelayReq (f : BitVec 24) (p : Option Pound := none)
  /-- PTP_ANNOUNCE_TIMEOUT (R244): No Announce arrives within three announce intervals and the client leaves SLAVE. -/
  | ptpAnnounceTimeout
  /-- TIME_LINK_CHANGE (R242): The TIME port link goes up or down and LINK_CHANGE is set. -/
  | timeLinkChange (up : Bool)
  /-- RX_RELEASE (R245): TPT_RX_REL.GO clears the head receive slot and advances RX_HEAD. -/
  | rxRelease
  /-- TIME_TX_SEND (R246): TX_GO starts sending a transmit buffer, or is refused while it is still sending. -/
  | timeTxSend (v : Word)
  /-- TIME_TX_DONE (R246): A host-run frame has been sent, and an event message's stamp enters the timestamp queue. -/
  | timeTxDone (b : Fin 2) (f : BitVec 24) (p : Option Pound := none)
  /-- TXTS_RELEASE (R246): A write of TPT_TXTS_REL clears a transmit timestamp entry. -/
  | txtsRelease (v : Word)
  /-- TIME_MODE_CHANGE (R247): Closing the TIME port or changing MODE disables the port and clears its slots and queue. -/
  | timeModeChange (v : Word)
  /-- LANE_ENABLE (R261): Setting LANE_EN on an open quad moves a lane from OFF to WAIT. -/
  | laneEnable (n : Byte) (v : Word)
  /-- TRAINING_START (R265): Keeper firmware starts a training attempt of a lane in WAIT, entering ACQUIRE and starting the deadline. -/
  | trainingStart (n : Byte)
  /-- ACQUIRE_DONE (R261): Signal, CDR lock, equaliser adaptation, an error-free PRBS31 check and marker alignment bring the lane to READY. -/
  | acquireDone (n : Byte) (inverted : Bool)
  /-- CAPS_ENTER (R261): Two far markers with TSTATE 2 move the lane to CAPS at the next boundary. -/
  | capsEnter (n : Byte)
  /-- LANE_JOIN (R270): A deskewed lane joins its wharf at the boundary after JOINED in both directions and the wharf enters EXCHANGE. -/
  | laneJoin (n : Byte)
  /-- TRAINING_DEADLINE (R262): The training deadline passes before the lane leaves CAPS or DESKEW and the lane enters QUIET with backoff. -/
  | trainingDeadline (n : Byte)
  /-- QUIET_BACKOFF_END (R262): The backoff of 2^k ms elapses and the lane returns to WAIT. -/
  | quietBackoffEnd (n : Byte)
  /-- LOSS_OF_SIGNAL (R263): A lane input stays below the deassert threshold for 20 ns, restarting training or failing the lane. -/
  | lossOfSignal (n : Byte) (back : Bool := false)
  /-- CDR_LOCK_LOSS (R263): Loss of CDR lock or block alignment returns a training lane to ACQUIRE or fails a lane in service. -/
  | cdrLockLoss (n : Byte) (alignmentOnly : Bool) (back : Bool := false)
  /-- LANE_RETRAIN (R261): LANE_CTRL.RETRAIN fails a lane in service or restarts its attempt from WAIT, by state. -/
  | laneRetrain (n : Byte) (v : Word)
  /-- LANE_FAILURE (R269): A joined lane fails by loss, invalid frames, RETRAIN or LANE_EN clear. -/
  | laneFailure (n : Byte)
  /-- LANE_SHED (R269): At the next boundary a bonded wharf sheds the failed lane, rejects its reserved Barges as LATE and writes a record. -/
  | laneShed (n : Byte)
  /-- CREDIT_EXCHANGE_START (R267): Keeper firmware starts a credit exchange with a new XSEQ, stopping reservations from the next boundary. -/
  | creditExchangeStart (h xseq : Byte)
  /-- CREDIT_GRANT (R267): At the boundary after the grant HELD takes FREE and the wharf enters ACTIVE. -/
  | creditGrant (h : Byte)
  /-- EXCH_FAIL (R267): No grant arrives within EXCH_TIMEOUT pounds; a record is written and the wharf goes down. -/
  | exchFail (h : Byte)
  /-- WHARF_DOWN (R271): Four pounds without a valid frame take the wharf down, rejecting pending Barges as UNDELIVERABLE and setting credits aside. -/
  | wharfDown (h : Byte)
  /-- WHARF_RETRAIN (R271): WHF_CMD.RETRAIN takes a trained wharf down at the next boundary, or restarts the attempts of its lanes. -/
  | wharfRetrain (h : Byte)
  /-- WHARF_RESET (R272): WHF_CMD.RESET applies a wharf reset at the next boundary with the outcomes of a wharf down, without the record. -/
  | wharfReset (h : Byte)
  /-- POWER_STATE_REQUEST (R273): A write of WHF_CFG.PWR_REQ requests ACTIVE, STANDBY or DEEP for a wharf. -/
  | powerStateRequest (h : Byte) (v : Word)
  /-- STANDBY_ENTER (R274): A wharf enters STANDBY at the first boundary with no slot reserved. -/
  | standbyEnter (h : Byte)
  /-- STANDBY_EXIT (R274): With AUTO_WAKE a failed reservation requests exit, and the wharf is ACTIVE after 200 ns. -/
  | standbyExit (h : Byte)
  /-- DEEP_ENTER (R275): A quad whose wharves all request DEEP stops reservations, ends training and stops its PLL. -/
  | deepEnter (q : Fin 64)
  /-- DEEP_EXIT (R275): A request of ACTIVE or STANDBY restarts the quad PLL and retrains every lane. -/
  | deepExit (q : Fin 64)
  /-- CAL_START (R288): CAL_CMD.GO starts a calibration of a kind and unit, or is ignored while busy. -/
  | calStart (v : Word)
  /-- CAL_RUN_DONE (R285): A calibration run completes; after two agreeing runs the result is held pending. -/
  | calRunDone (p : CalPart)
  /-- CAL_PRECONDITION_FAIL (R286): A reference, lock, hop or unit condition fails during a calibration and ends it with its code.
  The operand is the code of the condition lost (R287). -/
  | calPreconditionFail (code : Byte)
  /-- CAL_ABORT (R287): CAL_CMD.ABORT ends the running calibration with ABORTED. -/
  | calAbort (v : Word)
  /-- CAL_DISCARD (R289): CAL_CMD.DISCARD clears every pending result. -/
  | calDiscard (v : Word)
  /-- CAL_APPLY_REQUEST (R290): CAL_APPLY.GO requests that pending results apply at a given pound, or is refused. -/
  | calApplyRequest (v : Word)
  /-- CAL_APPLY (R290): At the apply pound every pending result comes into force together and the check word is recomputed. -/
  | calApply
  /-- CAL_STORE (R295): CAL_CMD.STORE writes the in-force image to the older flash copy, or is refused. -/
  | calStore (v : Word)
  /-- CAL_STORE_DONE (R295): A store ends stored or failed, with its STORE_CODE and a record on failure. -/
  | calStoreDone (r : StoreResult)
  /-- HSP_WRITE (R304): At select release a good WRITE frame is applied word by word in address order, or is flagged bad.
  The operands are HSP_D at the SCLK edges of the command, of the address, and of the data with the CRC (the device sees one sequence),
  and how many accesses of the port have landed when the row ends (none: all that need not wait). -/
  | hspWrite (command address data : List Byte) (stageFree : Bool) (landed : Option Nat := none)
  /-- HSP_READ (R305): A READ frame performs its reads, sends busy units, then the status word, data and CRC.
  The operands are HSP_D at the SCLK edges of the command and of the address, the busy units, whether the host abandons it, how many
  accesses of the port have landed by then (none: all that need not wait), and the words whose samples disagree (R340). -/
  | hspRead (command address : List Byte) (busy : Nat) (abandoned : Bool) (landed : Option Nat := none) (unstable : List Nat := [])
  /-- HSP_STATUS (R303): A STATUS frame returns the status word and clears its sent flags.
  The operands are HSP_D at the SCLK edges of the command, the busy units, and whether the host abandons the frame while they are sent. -/
  | hspStatus (command : List Byte) (busy : Nat := 0) (abandoned : Bool := false)
  /-- RESET_FORMAT (R309): A frame of 40 cycles of ones resets the host frame format and the alive expectation.
  The operand is HSP_D at the SCLK edges of the frame. -/
  | resetFormat (cycles : List Byte := List.replicate 40 0xFF)
  /-- HSP_RESERVED_OPCODE (R307): A frame with a reserved opcode is ignored and flagged in the next reply.
  The operands are HSP_D at the SCLK edges of the command and of what follows it. -/
  | hspReservedOpcode (command rest : List Byte)
  /-- HSP_CUT (R304): Select released before a WRITE frame is complete writes nothing and counts a cut frame.
  The operand is HSP_D at the SCLK edges of the frame. -/
  | hspCut (cycles : List Byte)
  /-- NVS_PUSH (R312): NVS_Q_PUSH.GO captures an entry into the host queue, or refuses it. -/
  | nvsPush
  /-- NVS_ENTRY (R313): The head host entry runs its flash transactions while the port is owned.
  The operand is NVS_D[3:0] at the sampling points of its received data, cycle by cycle. -/
  | nvsEntry (rx : List (BitVec 4))
  /-- NVS_ENTRY_DONE (R313): A host entry completes and ENTRY_DONE is set. -/
  | nvsEntryDone
  /-- NVS_POLL (R314): A poll entry sends its one-byte read every 1 µs until the byte matches.
  The operand is NVS_D[3:0] at the sampling points of that byte. -/
  | nvsPoll (rx : List (BitVec 4))
  /-- NVS_POLL_TIMEOUT (R314): A poll without a match for TIMEOUT × 100 µs ends, sets POLL_TIMEOUT and halts the queue. -/
  | nvsPollTimeout
  /-- NVS_RESUME (R314): NVS_CTRL.RESUME clears HALTED and lets later entries run. -/
  | nvsResume
  /-- NVS_FLUSH (R318): NVS_CTRL.FLUSH removes queued host entries, stops the running one and empties both FIFOs. -/
  | nvsFlush
  /-- HOST_OWN (R315): A write of NVS_CTRL.HOST_OWN requests or ends host ownership of the store port. -/
  | hostOwn (v : Word)
  /-- OWN_GRANTED (R315): Keeper firmware grants ownership at the end of its current sequence. -/
  | ownGranted
  /-- NVS_RDATA_READ (R313): A read of NVS_RDATA removes the oldest received word and may restart a stopped NVS_SCLK. -/
  | nvsRdataRead
  /-- NVS_WDATA_WRITE (R313): A write of NVS_WDATA appends a word to the write FIFO. -/
  | nvsWdataWrite (v : Word)
  /-- REGISTER_WRITE (R22): A write to a register with no behaviour of its own takes effect per field under its access type. -/
  | registerWrite (port : Port) (addr : BitVec 24) (v : Word)
  /-- RC_READ (R326): A read of an RC field returns it and clears the bits it returned as one.
  The last operand says that its samples across a crossing disagree (R340). -/
  | rcRead (port : Port) (addr : BitVec 24) (unstable : Bool := false)
  /-- ALIAS_WRITE (R332): A write to a bit alias sets or clears the one target bit. -/
  | aliasWrite (port : Port) (addr : BitVec 24) (v : Word)
  /-- GUARD_PAIR_WRITE (R333): A value and its complement at the guard address complete a guarded write, or the pair fails with GUARD_FAIL. -/
  | guardPairWrite (port : Port) (addr : BitVec 24) (v : Word)
  /-- GUARD_TIMEOUT (R333): No partner write comes within 16 REG cycles and the held first write is ignored with GUARD_FAIL. -/
  | guardTimeout (port : Port)
  /-- CFG_UNLOCK (R334): A write of the key to CFG_UNLOCK unlocks the port for one KEY or GRD write, or is ignored in SERVICE mode. -/
  | cfgUnlock (port : Port) (v : Word)
  /-- UNLOCK_EXPIRY (R334): An unlocked port is locked again 1,024 REG cycles after the unlock. -/
  | unlockExpiry (port : Port)
  /-- INDIRECT_ADDR_WRITE (R331): A write of INDIRECT_ADDR sets the indirect address and discards any staged sequence. -/
  | indirectAddrWrite (port : Port) (page : BitVec 12) (v : Word)
  /-- INDIRECT_DATA_WRITE (R331): A write of INDIRECT_DATA writes or stages an indirect word and writes a multi-word entry at its naming word. -/
  | indirectDataWrite (port : Port) (page : BitVec 12) (v : Word)
  /-- INDIRECT_DATA_READ (R330): A read of INDIRECT_DATA returns the indirect word, capturing multi-word entries, and advances the address. -/
  | indirectDataRead (port : Port) (page : BitVec 12)
  /-- XING_TIMEOUT (R338): An access across a crossing whose far clock is stopped times out after 64 REG cycles and sets XING_ERR. -/
  | xingTimeout (port : Port) (addr : BitVec 24) (write : Bool)
  /-- CFG_SCAN (R335): A configuration scan starts every 2 ms over the configuration-class locations. -/
  | cfgScan
  /-- CFG_SCAN_DONE (R336): A scan completes, is classed, and a clean scan differing from the reference sets MISMATCH and writes a record.
  The operand says that the scan met an uncorrectable memory error. -/
  | cfgScanDone (uncorr : Bool := false)
  /-- COMMIT_REQUEST (R336): CFG_CMD.COMMIT requests that the next clean scan be copied into CFG_CRC_REF. -/
  | commitRequest
  /-- CFG_CRC_REF_WRITE (R336): A write of CFG_CRC_REF sets the reference and REF_VALID at once. -/
  | cfgCrcRefWrite (v : Word)
  /-- CORE_SETTINGS (R113): Mailbox object 0x01 requests a capture of a core's in-force settings at a pound boundary. -/
  | coreSettings (index : Byte)
  /-- CORE_PHASE (R113): Mailbox object 0x02 requests a capture of a core's target and tracking difference at a pound boundary. -/
  | corePhase (index : Byte)
  /-- MBX_CAPTURE_DONE (R328): A mailbox capture writes all four data words in one cycle, sets VALID and clears BUSY. -/
  | mbxCaptureDone (f : BitVec 24)
  /-- MBX_CAPTURE_TIMEOUT (R328): A core capture on a stopped core gives RESULT 3 after two pounds and 100 ns. -/
  | mbxCaptureTimeout
  /-- TIME (R250): Mailbox object 0x10 captures the pound count, fraction and Towpath status. -/
  | time (index : Byte)
  /-- PPS (R250): Mailbox object 0x11 captures the last PPS_IN stamp. -/
  | pps (index : Byte)
  /-- PARENT (R250): Mailbox object 0x12 captures the PTP parent data published by the Keeper. -/
  | parent (index : Byte)
  /-- MBX_UNKNOWN_OBJECT (R328): A mailbox request with an unknown object or index gives RESULT 2 without a capture. -/
  | mbxUnknownObject (v : Word)
  /-- VERSION (R354): Keeper command 0x80 returns the ROM revision, patch version and boot configuration SEQ. -/
  | version
  /-- CONTINUE (R354): Keeper command 0x81 continues a host-held start from step 3. -/
  | continueStart
  /-- TRAIN_WHARF (R354): Keeper command 0x82 resets the backoff of a wharf's lanes and starts their attempts now. -/
  | trainWharf
  /-- EMIT_WHARF (R354): Keeper command 0x83 submits an EMIT for every channel-bound Berth of a wharf. -/
  | emitWharf
  /-- PTP_RESTART (R354): Keeper command 0x84 returns the TIME port client to INITIALIZING. -/
  | ptpRestart
  /-- FAULT_REPORT (R347): The fault unit takes a queued report and coalesces it into a record or allocates a new one. -/
  | faultReport (f : BitVec 24)
  /-- FLT_CLEAR (R349): FLT_CLEAR.GO frees one fault record. -/
  | fltClear (v : Word)
  /-- CLEAR_ALL (R349): FLT_CTRL.CLEAR_ALL frees every fault record. -/
  | clearAll (v : Word)
  /-- FLT_LOG_TAIL_WRITE (R352): A write of FLT_LOG_TAIL gives up effect log entries. -/
  | fltLogTailWrite (v : Word)
  /-- KEEPER_RESUME (R21): The Keeper finishes its restart from ROM and its paused services resume: the servo and any alignment restart, lanes waiting in WAIT are started, and pending mailbox requests proceed. -/
  | keeperResume (image : Option (List Byte))
  /-- DOM_RESET_DONE (R65): A domain reset is released synchronously after 16 cycles of its clock, clearing UNTRUSTED and CLK_DOM_STAT.BUSY. -/
  | domResetDone (dom : Fin 157)
  /-- TESTMODE_CHANGE (R334): The TESTMODE input changes level, moving CFG_STAT.MODE into or out of TEST and changing where the HSP port may unlock. -/
  | testmodeChange (level : Bool)
  /-- SENSOR_UPDATE (R364): Every 1 ms the internal temperature sensor updates SYS_TEMP.NOW, and MAX when the new reading exceeds it. -/
  | sensorUpdate (celsius : Byte)
  deriving DecidableEq, Repr

end Sys2Proof
end

