-- ==== Sys2Proof/Decode.lean ====
section
/-! DEFINITION. The words that spell a command. The table gives no row any bits: commands reach the device through its pins, ports
and time, so no word spells one. -/

namespace Sys2Proof

/-- The command that a word spells: none, for the table gives no row bits. (DESIGN CHOICE: log entry 1) -/
def decodeTableWord (_nbits _w : Nat) : Option Instr := none

end Sys2Proof
end

