-- ==== Sys2Proof/Machine/Bits.lean ====
section
/-! DEFINITION. Bit fields, two's complement, byte order and the check sums the spec names. -/

namespace Sys2Proof.Machine

/-- Bits [hi:lo] of a number. -/
def bits (x hi lo : Nat) : Nat := x / 2 ^ lo % 2 ^ (hi + 1 - lo)

/-- Bit b of a number. -/
def bit (x b : Nat) : Bool := x / 2 ^ b % 2 == 1

/-- A one-bit field value. -/
def ofBool (b : Bool) : Nat := if b then 1 else 0

/-- The number x with its bits [hi:lo] replaced by v. -/
def setBits (x hi lo v : Nat) : Nat :=
  x - bits x hi lo * 2 ^ lo + v % 2 ^ (hi + 1 - lo) * 2 ^ lo

/-- The number x with bit b set. -/
def setBit (x b : Nat) : Nat := setBits x b b 1

/-- The number x with bit b clear. -/
def clearBit (x b : Nat) : Nat := setBits x b b 0

/-- A w-bit field read as a two's complement number. -/
def sgn (w x : Nat) : Int :=
  if x % 2 ^ w < 2 ^ (w - 1) then (x % 2 ^ w : Nat) else (x % 2 ^ w : Nat) - (2 ^ w : Nat)

/-- An integer narrowed to a w-bit two's complement field. -/
def unsgn (w : Nat) (z : Int) : Nat := (z % (2 ^ w : Nat)).toNat

/-- An integer clamped to the range of a w-bit two's complement field, then narrowed. -/
def unsgnSat (w : Nat) (z : Int) : Nat :=
  unsgn w (max (-(2 ^ (w - 1) : Nat)) (min ((2 ^ (w - 1) : Nat) - 1) z))

/-- An integer clamped to [-m, m]. -/
def clampAbs (m : Nat) (z : Int) : Int := max (-(m : Int)) (min m z)

/-- Division rounded to the nearest integer, halves upward. (DEDUCED: log entry 55) -/
def divRound (a : Int) (b : Nat) : Int := (2 * a + b) / (2 * b : Nat)

/-- The little-endian number of a list of bytes. -/
def leNat : List Byte → Nat
  | [] => 0
  | b :: t => b.toNat + 256 * leNat t

/-- The n low bytes of a number, least significant first. -/
def leBytes : Nat → Nat → List Byte
  | 0, _ => []
  | n + 1, x => BitVec.ofNat 8 (x % 256) :: leBytes n (x / 256)

/-- The n low bytes of a number, most significant first. -/
def beBytes (n x : Nat) : List Byte := (leBytes n x).reverse

/-- k steps of a reflected CRC shift register with the given polynomial. -/
def crcRefl (poly : Nat) : Nat → Nat → Nat
  | 0, c => c
  | k + 1, c => crcRefl poly k (if c % 2 = 1 then (c / 2).xor poly else c / 2)

/-- CRC-32C register after a list of bytes (reflected, polynomial 0x1EDC6F41; R292, R335). -/
def crc32cStep : Nat → List Byte → Nat
  | c, [] => c
  | c, b :: t => crc32cStep (crcRefl 0x82F63B78 8 (c.xor b.toNat)) t

/-- CRC-32C with initial value and final XOR 0xFFFF_FFFF (R292, R335). -/
def crc32c (l : List Byte) : Nat := (crc32cStep 0xFFFFFFFF l).xor 0xFFFFFFFF

/-- The frame check sequence of Ethernet over a list of bytes: CRC-32, reflected, initial value and final XOR 0xFFFF_FFFF (R246).
(PRESUMED: log entry 87) -/
def crc32 (l : List Byte) : Nat :=
  (l.foldl (fun c b => crcRefl 0xEDB88320 8 (c.xor b.toNat)) 0xFFFFFFFF).xor 0xFFFFFFFF

/-- k steps of a 16-bit CRC register, most significant bit first, polynomial 0x1021. -/
def crcMsb : Nat → Nat → Nat
  | 0, c => c
  | k + 1, c => crcMsb k (if c / 0x8000 % 2 = 1 then (c * 2 % 0x10000).xor 0x1021 else c * 2 % 0x10000)

/-- The 16-bit CRC of a list of bytes, polynomial 0x1021, initial value 0xFFFF, most significant bit first (R256, R302). -/
def crc16 (l : List Byte) : Nat :=
  l.foldl (fun c b => crcMsb 8 (c.xor (b.toNat * 256))) 0xFFFF

/-- Replace the element at position i of a list, if there is one. -/
def listSet {α : Type} : List α → Nat → α → List α
  | [], _, _ => []
  | _ :: t, 0, x => x :: t
  | y :: t, i + 1, x => y :: listSet t i x

/-- The numbers from lo up to but not including hi. -/
def range (lo hi : Nat) : List Nat := (List.range (hi - lo)).map (· + lo)

/-- Apply f to a state once for each list element, in order. -/
def forEach {α σ : Type} (l : List α) (f : α → σ → σ) (s : σ) : σ := l.foldl (fun s a => f a s) s

end Sys2Proof.Machine
end

