-- ==== Sys2Proof/Machine/Line.lean ====
section
/-! DEFINITION. The coding of a lane's line bits: blocks, the scrambler, the training pattern (R254, R256, R260). Bits stand in the order
in which the line carries them. -/

namespace Sys2Proof.Machine

/-- The last n bits a shift register of n bits has taken, newest in bit 0, after one more. -/
def shiftIn (n h : Nat) (y : Bool) : Nat := (2 * h + ofBool y) % 2 ^ n

/-! ## The scrambler (R254) -/

/-- The scrambler 1 + x^39 + x^58 over payload bits; `h` holds the 58 bits sent last, newest in bit 0. -/
def scramble (h : Nat) : List Bool → List Bool
  | [] => []
  | x :: t =>
    let y := x ^^ (bit h 38 ^^ bit h 57)
    y :: scramble (shiftIn 58 h y) t

/-- The descrambler of the far end; `h` holds the 58 bits received last. -/
def descramble (h : Nat) : List Bool → List Bool
  | [] => []
  | y :: t => (y ^^ (bit h 38 ^^ bit h 57)) :: descramble (shiftIn 58 h y) t

/-- The bits sent last once those of a list have gone out. -/
def shiftAll (n h : Nat) (l : List Bool) : Nat := l.foldl (shiftIn n) h

/-! ## Blocks of a frame (R254, R256) -/

/-- Payload of block b of a frame; it is sent bit 0 first (R256). -/
def frameBlock (f : BitVec 256) (b : Nat) : BitVec 64 := f.extractLsb' (192 - 64 * b) 64

/-- The 64 bits of a block's payload in the order of the line. -/
def payloadBits (x : BitVec 64) : List Bool := (List.range 64).map (fun i => x.getLsbD i)

/-- The payload bits of a frame in the order of the line, before scrambling: blocks 0 to 3, each bit 0 first (R256). -/
def framePayload (f : BitVec 256) : List Bool := (List.range 4).flatMap (fun b => payloadBits (frameBlock f b))

/-- A list of scrambled payload bits cut into blocks of 64, each behind the sync header 0b01. (DEDUCED: log entry 109) -/
def dataBlocks : Nat → List Bool → List Bool
  | 0, _ => []
  | n + 1, l => false :: true :: (l.take 64 ++ dataBlocks n (l.drop 64))

/-- The 264 line bits of a frame, with the scrambler's history at its start. -/
def frameLine (h : Nat) (f : BitVec 256) : List Bool := dataBlocks 4 (scramble h (framePayload f))

/-- The scrambler's history after a frame. -/
def scrambleOver (h : Nat) (f : BitVec 256) : Nat := shiftAll 58 h (scramble h (framePayload f))

/-! ## The training pattern (R260) -/

/-- The next n bits of PRBS31, x^31 + x^28 + 1; `s` holds its last 31 bits, newest in bit 0. -/
def prbs31 : Nat → Nat → List Bool
  | 0, _ => []
  | n + 1, s =>
    let y := bit s 30 ^^ bit s 27
    y :: prbs31 n (shiftIn 31 s y)

/-- The generator after the 264 bit times of a pound: it runs on through the marker. -/
def prbsOver (s : Nat) : Nat := shiftAll 31 s (prbs31 264 s)

/-- The 264 line bits of a pound of training: the unscrambled marker with sync header 0b10 in the first 66 bit times, then the pattern.
(DEDUCED: log entry 109) -/
def trainingLine (s : Nat) (marker : BitVec 64) : List Bool := true :: false :: (payloadBits marker ++ (prbs31 264 s).drop 66)

end Sys2Proof.Machine
end

