-- ==== Sys2Proof/Config.lean ====
section
/-! DEFINITION. What one implementation fixes and what the spec leaves open: constants without a body, so that no proof can see a
value of them. A free value that must be fresh at each use is a function of a plain counter held in the state. -/

namespace Sys2Proof.Config

/-- The silicon stepping shown in SYS_DEVICE_ID: major and minor (R364; the spec gives no value). (DESIGN CHOICE: log entry 12) -/
opaque stepMajor : BitVec 4
opaque stepMinor : BitVec 4
/-- ROM revision of the Keeper, KPR_STAT.ROM_REV (R360; the spec gives no value). (DESIGN CHOICE: log entry 12) -/
opaque romRev : BitVec 8
/-- The 64-bit die id of CAL_DIE_ID (R298; the spec gives no value). (DESIGN CHOICE: log entry 12) -/
opaque dieId : BitVec 64
/-- The CODE of the record of an uncorrectable credit counter, class WHARF (R27 has the record, R346 no code).
(DESIGN CHOICE: log entry 131) -/
opaque creditUncorrCode : BitVec 8
/-- The proportional and the integral gain of the Towpath servo for a bandwidth in 0.1 mHz and a measuring period in pounds, in 2^-60 of
steering per ps (R225 gives the bandwidth and no gain). (DESIGN CHOICE: log entry 17) -/
opaque servoGains : (bandwidth period : Nat) → Nat × Nat
/-- The nominal path offset of a stamp TDC without a valid calibration, in 1/64 ps (R293 gives no value). (DESIGN CHOICE: log entry 15) -/
opaque stampOffset : (unit : Nat) → Int
/-- A larger trim code of a lane sampler raises its density of ones (R284 gives no direction). (DESIGN CHOICE: log entry 141) -/
opaque trimRaises : Bool
/-- Free values: the n-th value the spec leaves open at a given kind of place. A statement about it holds for every value.
(DESIGN CHOICE: log entry 10) -/
opaque free : (kind n : Nat) → Nat
/-- What a memory whose content the spec calls undefined reads as, by kind of memory, epoch of the last loss and address.
(DESIGN CHOICE: log entry 11) -/
opaque arbitrary : (kind epoch address : Nat) → Nat
/-- The check bits of a Berth codeword; the spec names a SECDED code without giving its matrix (R146). (DESIGN CHOICE: log entry 13) -/
opaque checkBits : BitVec 64 → BitVec 8

end Sys2Proof.Config
end

