-- ==== Sys2Proof/Machine/Store.lean ====
section
/-! DEFINITION. A sparse table as plain data: a list of (key, value) pairs with strictly rising keys. Every memory, array and
register file of the model is one. -/

namespace Sys2Proof.Machine

/-- A sparse table. An unlisted key has the table's default value, which its owner names. -/
abbrev Store (α : Type) := List (Nat × α)

/-- The entry of key k, if listed. -/
def Store.get? {α : Type} : Store α → Nat → Option α
  | [], _ => none
  | (j, v) :: t, k => if j = k then some v else Store.get? t k

/-- The entry of key k, or the table's default. -/
def Store.getD {α : Type} (m : Store α) (k : Nat) (d : α) : α := (Store.get? m k).getD d

/-- Remove key k. -/
def Store.erase {α : Type} : Store α → Nat → Store α
  | [], _ => []
  | (j, v) :: t, k => if j = k then Store.erase t k else (j, v) :: Store.erase t k

/-- Insert a pair before the first larger key. -/
def Store.insert {α : Type} : Store α → Nat → α → Store α
  | [], k, v => [(k, v)]
  | (j, w) :: t, k, v => if k < j then (k, v) :: (j, w) :: t else (j, w) :: Store.insert t k v

/-- List v under key k. -/
def Store.set {α : Type} (m : Store α) (k : Nat) (v : α) : Store α := Store.insert (Store.erase m k) k v

/-- Give key k the value v in a table whose unlisted keys hold d: the default value is not listed. -/
def Store.put {α : Type} [DecidableEq α] (m : Store α) (d : α) (k : Nat) (v : α) : Store α :=
  if v = d then Store.erase m k else Store.set m k v

/-- Keep the entries whose key satisfies p. -/
def Store.keep {α : Type} (m : Store α) (p : Nat → Bool) : Store α := m.filter (fun e => p e.1)

/-- Canonical form: strictly rising keys. -/
def Store.wf {α : Type} : Store α → Bool
  | [] => true
  | [_] => true
  | (j, _) :: (k, w) :: t => decide (j < k) && Store.wf ((k, w) :: t)

end Sys2Proof.Machine
end

