-- ==== Sys2Proof/Machine/Fields.lean ====
section
/-! DEFINITION. What a register field and a register are: where they lie, how wide they are, how they may be accessed (R2, R3)
and what they hold after power-on reset. -/

namespace Sys2Proof.Machine

/-- The access types of R3. -/
inductive Acc where
  | rw | ro | rc | rwh | wsc | cnt | grd | key
  deriving DecidableEq, Repr

/-- The clock domain in a register's header line. -/
inductive RegDom where
  | reg | aon | eng | tow | tpx | loop
  deriving DecidableEq, Repr

/-- How the copies of a register lie in the address space: a single register, an array with a step, one per page of 4 KiB, one
per lane or wharf of a quad page, one per engine of a cluster page, the header of every page, or a bank shown one at a time
through a selector register (kept above the 24-bit address space). -/
inductive Shape where
  | one
  | step (by' count : Nat)
  | page (count : Nat)
  | lane
  | eng
  | hdr
  | bank (count : Nat)
  deriving DecidableEq, Repr

/-- Address of copy i of a register (R361, R368). -/
def Shape.addr (sh : Shape) (base i : Nat) : Nat :=
  match sh with
  | .one => base
  | .step k _ => base + k * i
  | .page _ => base + 0x1000 * i
  | .lane => base + 0x1000 * (i / 4) + 0x20 * (i % 4)
  | .eng => base + 0x1000 * (i / 8) + 4 * (i % 8)
  | .hdr => base + 0x1000 * i
  | .bank _ => base + 0x1000000 * (i + 1)

/-- How many copies there are. -/
def Shape.count : Shape → Nat
  | .one => 1
  | .step _ n => n
  | .page n => n
  | .lane => 256
  | .eng => 64
  | .hdr => 4096
  | .bank n => n

/-- Which copy lies at an address, the inverse of Shape.addr. -/
def Shape.index? (sh : Shape) (base addr : Nat) : Option Nat :=
  let o := addr - base
  if addr < base then none
  else
    match sh with
    | .one => if o = 0 then some 0 else none
    | .step k n => if o % k = 0 ∧ o / k < n then some (o / k) else none
    | .page n => if o % 0x1000 = 0 ∧ o / 0x1000 < n then some (o / 0x1000) else none
    | .lane => if o % 0x1000 % 0x20 = 0 ∧ o % 0x1000 < 0x80 ∧ o / 0x1000 < 64 then some (o / 0x1000 * 4 + o % 0x1000 / 0x20) else none
    | .eng => if o % 0x1000 % 4 = 0 ∧ o % 0x1000 < 0x20 ∧ o / 0x1000 < 8 then some (o / 0x1000 * 8 + o % 0x1000 / 4) else none
    | .hdr => if o % 0x1000 = 0 ∧ o / 0x1000 < 4096 then some (o / 0x1000) else none
    | .bank n => if o % 0x1000000 = 0 ∧ 1 ≤ o / 0x1000000 ∧ o / 0x1000000 ≤ n then some (o / 0x1000000 - 1) else none

/-- One field of a register. -/
structure Fld where
  base : Nat
  hi : Nat
  lo : Nat
  acc : Acc
  shape : Shape := .one
  reset : Nat → Nat := fun _ => 0
  cfg : Bool := false

/-- Width of a field in bits. -/
def Fld.width (f : Fld) : Nat := f.hi + 1 - f.lo

/-- Address of copy i of the field's register. -/
def Fld.addr (f : Fld) (i : Nat) : Nat := f.shape.addr f.base i

/-- The key of copy i of a field in the register store: the address of its register and the place of its low bit. -/
def Fld.key (f : Fld) (i : Nat) : Nat := f.addr i * 32 + f.lo

/-- One register: its place, the clock domain of its header line, the selector field that chooses the copy shown (for a bank)
and its fields. -/
structure Reg where
  base : Nat
  shape : Shape := .one
  dom : RegDom := .reg
  sel : Option Fld := none
  fields : List Fld

/-- A key of the register store belongs to a copy of the register. -/
def Reg.holds (r : Reg) (key : Nat) : Bool := (r.shape.index? r.base (key / 32)).isSome

end Sys2Proof.Machine
end

