-- ==== Sys2Proof/Machine/Regs.lean ====
section
/-! DEFINITION. Every register field of the register tables, one constant per field (page, offset, bits, access type, reset
value, array shape, whether it is configuration-class), and one description per register (R1-R3, R321, R361-R368).
A constant is named as the manual names it: register, underscore, field; an array index letter at the end of a register name is dropped. -/

namespace Sys2Proof.Machine

/-! Page n: 13_register_rules.md R322. -/

def F.PAGE_ID_KIND : Fld := { base := 0x0, hi := 19, lo := 12, acc := .ro, shape := .hdr }
def F.PAGE_ID_PAGE : Fld := { base := 0x0, hi := 11, lo := 0, acc := .ro, shape := .hdr }
def F.PAGE_REV_MAJOR : Fld := { base := 0x4, hi := 15, lo := 8, acc := .ro, shape := .hdr, reset := fun _ => 1 }
def F.PAGE_REV_MINOR : Fld := { base := 0x4, hi := 7, lo := 0, acc := .ro, shape := .hdr }
def F.PAGE_CTRL_IND_AINC : Fld := { base := 0x8, hi := 8, lo := 8, acc := .rw, shape := .hdr, reset := fun _ => 0x1 }
def F.PAGE_CTRL_IRQ_PAGE_EN : Fld := { base := 0x8, hi := 0, lo := 0, acc := .rw, shape := .hdr }
def F.PAGE_STAT_XING_OVR : Fld := { base := 0xC, hi := 6, lo := 6, acc := .rc, shape := .hdr }
def F.PAGE_STAT_UNSTABLE : Fld := { base := 0xC, hi := 5, lo := 5, acc := .rc, shape := .hdr }
def F.PAGE_STAT_XING_ERR : Fld := { base := 0xC, hi := 4, lo := 4, acc := .rc, shape := .hdr }
def F.PAGE_STAT_KEY_FAIL : Fld := { base := 0xC, hi := 3, lo := 3, acc := .rc, shape := .hdr }
def F.PAGE_STAT_GUARD_FAIL : Fld := { base := 0xC, hi := 2, lo := 2, acc := .rc, shape := .hdr }
def F.PAGE_STAT_IND_UNIMPL : Fld := { base := 0xC, hi := 1, lo := 1, acc := .rc, shape := .hdr }
def F.PAGE_STAT_IND_DROP : Fld := { base := 0xC, hi := 0, lo := 0, acc := .rc, shape := .hdr }
def F.IRQ_STAT_PAGE : Fld := { base := 0x10, hi := 31, lo := 31, acc := .rc, shape := .hdr }
def F.IRQ_STAT_EVT : Fld := { base := 0x10, hi := 30, lo := 0, acc := .rc, shape := .hdr }
def F.IRQ_EN_EN : Fld := { base := 0x14, hi := 31, lo := 0, acc := .rw, shape := .hdr }
def F.FAULT_SUM_ANY : Fld := { base := 0x18, hi := 31, lo := 31, acc := .ro, shape := .hdr }
def F.FAULT_SUM_COUNT : Fld := { base := 0x18, hi := 15, lo := 0, acc := .ro, shape := .hdr }
def F.INDIRECT_ADDR_ADDR : Fld := { base := 0x1C, hi := 23, lo := 2, acc := .rwh, shape := .hdr }
def F.INDIRECT_DATA_DATA : Fld := { base := 0x20, hi := 31, lo := 0, acc := .rw, shape := .hdr }
def F.INDIRECT_STAT_BUSY : Fld := { base := 0x24, hi := 31, lo := 31, acc := .ro, shape := .hdr }
def F.INDIRECT_STAT_STAGED : Fld := { base := 0x24, hi := 3, lo := 0, acc := .ro, shape := .hdr }

def R.PAGE_ID : Reg := { base := 0x0, shape := .hdr, fields := [F.PAGE_ID_KIND, F.PAGE_ID_PAGE] }
def R.PAGE_REV : Reg := { base := 0x4, shape := .hdr, fields := [F.PAGE_REV_MAJOR, F.PAGE_REV_MINOR] }
def R.PAGE_CTRL : Reg := { base := 0x8, shape := .hdr, fields := [F.PAGE_CTRL_IND_AINC, F.PAGE_CTRL_IRQ_PAGE_EN] }
def R.PAGE_STAT : Reg := { base := 0xC, shape := .hdr, fields := [F.PAGE_STAT_XING_OVR, F.PAGE_STAT_UNSTABLE, F.PAGE_STAT_XING_ERR, F.PAGE_STAT_KEY_FAIL, F.PAGE_STAT_GUARD_FAIL, F.PAGE_STAT_IND_UNIMPL, F.PAGE_STAT_IND_DROP] }
def R.IRQ_STAT : Reg := { base := 0x10, shape := .hdr, fields := [F.IRQ_STAT_PAGE, F.IRQ_STAT_EVT] }
def R.IRQ_EN : Reg := { base := 0x14, shape := .hdr, fields := [F.IRQ_EN_EN] }
def R.FAULT_SUM : Reg := { base := 0x18, shape := .hdr, fields := [F.FAULT_SUM_ANY, F.FAULT_SUM_COUNT] }
def R.INDIRECT_ADDR : Reg := { base := 0x1C, shape := .hdr, fields := [F.INDIRECT_ADDR_ADDR] }
def R.INDIRECT_DATA : Reg := { base := 0x20, shape := .hdr, fields := [F.INDIRECT_DATA_DATA] }
def R.INDIRECT_STAT : Reg := { base := 0x24, shape := .hdr, fields := [F.INDIRECT_STAT_BUSY, F.INDIRECT_STAT_STAGED] }

/-- The registers of page n in ascending offset. -/
def regsPageHdr : List Reg :=
  [R.PAGE_ID, R.PAGE_REV, R.PAGE_CTRL, R.PAGE_STAT, R.IRQ_STAT, R.IRQ_EN, R.FAULT_SUM, R.INDIRECT_ADDR] ++
  [R.INDIRECT_DATA, R.INDIRECT_STAT]

/-! Page 0x000: 02_pins_power_startup.md R50; 15_page_map.md R364. -/

def F.SYS_BOOT_STAT_READY : Fld := { base := 0x80, hi := 31, lo := 31, acc := .ro }
def F.SYS_BOOT_STAT_FAILED : Fld := { base := 0x80, hi := 30, lo := 30, acc := .ro }
def F.SYS_BOOT_STAT_BOOTSEL : Fld := { base := 0x80, hi := 29, lo := 28, acc := .ro }
def F.SYS_BOOT_STAT_STEP : Fld := { base := 0x80, hi := 27, lo := 24, acc := .ro }
def F.SYS_BOOT_STAT_CODE : Fld := { base := 0x80, hi := 23, lo := 16, acc := .ro }
def F.SYS_BOOT_STAT_WARN_QUIET : Fld := { base := 0x80, hi := 12, lo := 12, acc := .ro }
def F.SYS_BOOT_STAT_WARN_BOOTCFG : Fld := { base := 0x80, hi := 11, lo := 11, acc := .ro }
def F.SYS_BOOT_STAT_WARN_CAL : Fld := { base := 0x80, hi := 10, lo := 10, acc := .ro }
def F.SYS_BOOT_STAT_WARN_NVS : Fld := { base := 0x80, hi := 9, lo := 9, acc := .ro }
def F.SYS_BOOT_STAT_WARN_PATCH : Fld := { base := 0x80, hi := 8, lo := 8, acc := .ro }
def F.SYS_BOOT_STAT_BOOT_MS : Fld := { base := 0x80, hi := 7, lo := 0, acc := .ro }
def F.SYS_DEVICE_ID_PART : Fld := { base := 0x84, hi := 31, lo := 16, acc := .ro, reset := fun _ => 0x4096 }
def F.SYS_DEVICE_ID_STEP_MAJOR : Fld := { base := 0x84, hi := 15, lo := 12, acc := .ro }
def F.SYS_DEVICE_ID_STEP_MINOR : Fld := { base := 0x84, hi := 11, lo := 8, acc := .ro }
def F.SYS_DEVICE_ID_VENDOR : Fld := { base := 0x84, hi := 7, lo := 0, acc := .ro, reset := fun _ => 0xD5 }

def R.SYS_BOOT_STAT : Reg := { base := 0x80, fields := [F.SYS_BOOT_STAT_READY, F.SYS_BOOT_STAT_FAILED, F.SYS_BOOT_STAT_BOOTSEL, F.SYS_BOOT_STAT_STEP, F.SYS_BOOT_STAT_CODE, F.SYS_BOOT_STAT_WARN_QUIET, F.SYS_BOOT_STAT_WARN_BOOTCFG, F.SYS_BOOT_STAT_WARN_CAL, F.SYS_BOOT_STAT_WARN_NVS, F.SYS_BOOT_STAT_WARN_PATCH, F.SYS_BOOT_STAT_BOOT_MS] }
def R.SYS_DEVICE_ID : Reg := { base := 0x84, fields := [F.SYS_DEVICE_ID_PART, F.SYS_DEVICE_ID_STEP_MAJOR, F.SYS_DEVICE_ID_STEP_MINOR, F.SYS_DEVICE_ID_VENDOR] }

/-- The registers of page 0x000 in ascending offset. -/
def regsPage000 : List Reg :=
  [R.SYS_BOOT_STAT, R.SYS_DEVICE_ID]

/-! Page 0x001: 02_pins_power_startup.md R47; 15_page_map.md R364. -/

def F.SYS_RESET_CAUSE_SRAM_LOST : Fld := { base := 0x1080, hi := 5, lo := 5, acc := .rc }
def F.SYS_RESET_CAUSE_THERMAL : Fld := { base := 0x1080, hi := 4, lo := 4, acc := .rc }
def F.SYS_RESET_CAUSE_BROWNOUT : Fld := { base := 0x1080, hi := 3, lo := 3, acc := .rc }
def F.SYS_RESET_CAUSE_WARM : Fld := { base := 0x1080, hi := 2, lo := 2, acc := .rc }
def F.SYS_RESET_CAUSE_POWER_ON : Fld := { base := 0x1080, hi := 1, lo := 1, acc := .rc, reset := fun _ => 0x1 }
def F.SYS_RESET_CAUSE_KEEPER_RESTART : Fld := { base := 0x1080, hi := 0, lo := 0, acc := .rc }
def F.SYS_SCRATCH_DATA : Fld := { base := 0x1090, hi := 31, lo := 0, acc := .rw, shape := (.step 4 4) }

def R.SYS_RESET_CAUSE : Reg := { base := 0x1080, dom := .aon, fields := [F.SYS_RESET_CAUSE_SRAM_LOST, F.SYS_RESET_CAUSE_THERMAL, F.SYS_RESET_CAUSE_BROWNOUT, F.SYS_RESET_CAUSE_WARM, F.SYS_RESET_CAUSE_POWER_ON, F.SYS_RESET_CAUSE_KEEPER_RESTART] }
def R.SYS_SCRATCH : Reg := { base := 0x1090, shape := (.step 4 4), dom := .aon, fields := [F.SYS_SCRATCH_DATA] }

/-- The registers of page 0x001 in ascending offset. -/
def regsPage001 : List Reg :=
  [R.SYS_RESET_CAUSE, R.SYS_SCRATCH]

/-! Page 0x002: 03_clocks_domains.md R79. -/

def F.CLK_EN_QUAD_LO_QUAD_EN : Fld := { base := 0x2040, hi := 31, lo := 0, acc := .rw, cfg := true }
def F.CLK_EN_QUAD_HI_QUAD_EN : Fld := { base := 0x2044, hi := 31, lo := 0, acc := .rw, cfg := true }
def F.CLK_EN_LOOP_LOOP_EN : Fld := { base := 0x2048, hi := 15, lo := 0, acc := .rw, cfg := true }
def F.CLK_EN_COUT_COUT_EN : Fld := { base := 0x204C, hi := 31, lo := 0, acc := .rw, cfg := true }
def F.CLK_EN_MISC_NVS_EN : Fld := { base := 0x2050, hi := 5, lo := 5, acc := .rw, reset := fun _ => 0x1, cfg := true }
def F.CLK_EN_MISC_TIME_EN : Fld := { base := 0x2050, hi := 4, lo := 4, acc := .rw, cfg := true }
def F.CLK_EN_MISC_TT_EN : Fld := { base := 0x2050, hi := 3, lo := 3, acc := .rw, reset := fun _ => 0x1, cfg := true }
def F.CLK_EN_MISC_DEC_EN : Fld := { base := 0x2050, hi := 2, lo := 2, acc := .rw, reset := fun _ => 0x1, cfg := true }
def F.CLK_EN_MISC_AUXB_EN : Fld := { base := 0x2050, hi := 1, lo := 1, acc := .rw, cfg := true }
def F.CLK_EN_MISC_AUXA_EN : Fld := { base := 0x2050, hi := 0, lo := 0, acc := .rw, cfg := true }
def F.CLK_REF_CTRL_FALLBACK_EN : Fld := { base := 0x2080, hi := 16, lo := 16, acc := .grd, reset := fun _ => 0x1, cfg := true }
def F.CLK_REF_CTRL_AUTO_FAILOVER : Fld := { base := 0x2080, hi := 15, lo := 15, acc := .grd, reset := fun _ => 0x1, cfg := true }
def F.CLK_REF_CTRL_SEL : Fld := { base := 0x2080, hi := 14, lo := 14, acc := .grd, cfg := true }
def F.CLK_REF_CTRL_MPL0_BW : Fld := { base := 0x2080, hi := 13, lo := 12, acc := .grd, reset := fun _ => 0x1, cfg := true }
def F.CLK_REF_CTRL_XI1_MODE : Fld := { base := 0x2080, hi := 11, lo := 10, acc := .grd, cfg := true }
def F.CLK_REF_CTRL_XI1_FREQ : Fld := { base := 0x2080, hi := 9, lo := 7, acc := .grd, reset := fun _ => 0x3, cfg := true }
def F.CLK_REF_CTRL_XI0_MODE : Fld := { base := 0x2080, hi := 6, lo := 5, acc := .grd, cfg := true }
def F.CLK_REF_CTRL_XI0_FREQ : Fld := { base := 0x2080, hi := 4, lo := 2, acc := .grd, reset := fun _ => 0x3, cfg := true }
def F.CLK_REF_STAT_ACTIVE : Fld := { base := 0x2084, hi := 11, lo := 11, acc := .ro }
def F.CLK_REF_STAT_MPL1_LOCK : Fld := { base := 0x2084, hi := 10, lo := 10, acc := .ro }
def F.CLK_REF_STAT_MPL0_HOLDOVER : Fld := { base := 0x2084, hi := 9, lo := 9, acc := .ro }
def F.CLK_REF_STAT_MPL0_LOCK : Fld := { base := 0x2084, hi := 8, lo := 8, acc := .ro }
def F.CLK_REF_STAT_READY : Fld := { base := 0x2084, hi := 5, lo := 0, acc := .ro, reset := fun _ => 8 }
def F.CLK_REF_EVT_FAILOVER : Fld := { base := 0x2088, hi := 7, lo := 7, acc := .rc }
def F.CLK_REF_EVT_HOLDOVER_ENTERED : Fld := { base := 0x2088, hi := 6, lo := 6, acc := .rc }
def F.CLK_REF_EVT_READY_LOST : Fld := { base := 0x2088, hi := 5, lo := 0, acc := .rc }
def F.CLK_JUDGE_SEL_SRC : Fld := { base := 0x208C, hi := 2, lo := 0, acc := .rw, cfg := true }
def F.CLK_JUDGE_CFG_WIN_MS : Fld := { base := 0x2090, hi := 31, lo := 28, acc := .rw, shape := (.bank 6), reset := fun _ => 0x1, cfg := true }
def F.CLK_JUDGE_CFG_AGREE_PPM : Fld := { base := 0x2090, hi := 23, lo := 16, acc := .rw, shape := (.bank 6), reset := fun _ => 0x32, cfg := true }
def F.CLK_JUDGE_CFG_WIN_10PPM : Fld := { base := 0x2090, hi := 15, lo := 0, acc := .rw, shape := (.bank 6), reset := fun s => if s = 3 then 10000 else 2000, cfg := true }
def F.CLK_JUDGE_STAT_READY : Fld := { base := 0x2094, hi := 31, lo := 31, acc := .ro, shape := (.bank 6) }
def F.CLK_JUDGE_STAT_STOPPED : Fld := { base := 0x2094, hi := 30, lo := 30, acc := .ro, shape := (.bank 6) }
def F.CLK_JUDGE_STAT_SUSPENDED : Fld := { base := 0x2094, hi := 29, lo := 29, acc := .ro, shape := (.bank 6) }
def F.CLK_JUDGE_STAT_AGREE_CNT : Fld := { base := 0x2094, hi := 27, lo := 24, acc := .ro, shape := (.bank 6) }
def F.CLK_JUDGE_STAT_DEV_PPM : Fld := { base := 0x2094, hi := 23, lo := 0, acc := .ro, shape := (.bank 6) }
def F.CLK_DOM_SEL_DOM : Fld := { base := 0x20A0, hi := 7, lo := 0, acc := .rw, cfg := true }
def F.CLK_DOM_CTRL_DOM_RESET : Fld := { base := 0x20A4, hi := 9, lo := 9, acc := .wsc }
def F.CLK_DOM_CTRL_SWITCH : Fld := { base := 0x20A4, hi := 8, lo := 8, acc := .wsc }
def F.CLK_DOM_CTRL_SRC : Fld := { base := 0x20A4, hi := 7, lo := 6, acc := .rw, cfg := true }
def F.CLK_DOM_STAT_RESULT : Fld := { base := 0x20A8, hi := 23, lo := 21, acc := .ro, shape := (.bank 157) }
def F.CLK_DOM_STAT_UNTRUSTED : Fld := { base := 0x20A8, hi := 20, lo := 20, acc := .ro, shape := (.bank 157) }
def F.CLK_DOM_STAT_BUSY : Fld := { base := 0x20A8, hi := 19, lo := 19, acc := .ro, shape := (.bank 157) }
def F.CLK_DOM_STAT_STOPPED : Fld := { base := 0x20A8, hi := 18, lo := 18, acc := .ro, shape := (.bank 157) }
def F.CLK_DOM_STAT_CUR_SRC : Fld := { base := 0x20A8, hi := 17, lo := 16, acc := .ro, shape := (.bank 157), reset := fun d => if d = 150 then 3 else if d = 144 ∨ d = 145 ∨ d = 146 ∨ d = 147 ∨ d = 149 then 0 else 2 }
def F.CLK_DOM_STAT_CUR_DIV : Fld := { base := 0x20A8, hi := 13, lo := 8, acc := .ro, shape := (.bank 157), reset := fun d => if d < 64 then 33 else if d = 147 ∨ d = 149 then 2 else if d = 151 then 4 else if d = 152 then 20 else 1 }
def F.CLK_SWITCH_EVT_FALLBACK : Fld := { base := 0x20AC, hi := 3, lo := 3, acc := .rc }
def F.CLK_SWITCH_EVT_SWITCH_FORCED : Fld := { base := 0x20AC, hi := 2, lo := 2, acc := .rc }
def F.CLK_SWITCH_EVT_SWITCH_REFUSED : Fld := { base := 0x20AC, hi := 1, lo := 1, acc := .rc }
def F.CLK_SWITCH_EVT_SWITCH_DONE : Fld := { base := 0x20AC, hi := 0, lo := 0, acc := .rc }
def F.CLK_BLK_SEL_BLK : Fld := { base := 0x20C0, hi := 6, lo := 0, acc := .rw, cfg := true }
def F.CLK_BLK_STAT_RESTART_PENDING : Fld := { base := 0x20C4, hi := 2, lo := 2, acc := .ro, shape := (.bank 118) }
def F.CLK_BLK_STAT_STATE : Fld := { base := 0x20C4, hi := 1, lo := 0, acc := .ro, shape := (.bank 118), reset := fun b => if b = 114 ∨ b = 115 ∨ b = 117 then 2 else 0 }
def F.CLK_GATE_EVT_BUS_ABORT : Fld := { base := 0x20C8, hi := 1, lo := 1, acc := .rc }
def F.CLK_GATE_EVT_RESTART_DONE : Fld := { base := 0x20C8, hi := 0, lo := 0, acc := .rc }
def F.CLK_AUXA_CTRL_DIV_INT : Fld := { base := 0x20D0, hi := 31, lo := 24, acc := .rw, reset := fun _ => 0x32, cfg := true }
def F.CLK_AUXA_CTRL_DIV_FRAC : Fld := { base := 0x20D0, hi := 23, lo := 0, acc := .rw, cfg := true }
def F.CLK_AUXB_CTRL_DIV_INT : Fld := { base := 0x20D8, hi := 31, lo := 24, acc := .rw, reset := fun _ => 0x32, cfg := true }
def F.CLK_AUXB_CTRL_DIV_FRAC : Fld := { base := 0x20D8, hi := 23, lo := 0, acc := .rw, cfg := true }
def F.CLK_AUXA_SSC_SSC_EN : Fld := { base := 0x20D4, hi := 13, lo := 13, acc := .rw, cfg := true }
def F.CLK_AUXA_SSC_DEPTH : Fld := { base := 0x20D4, hi := 12, lo := 8, acc := .rw, reset := fun _ => 0x5, cfg := true }
def F.CLK_AUXA_SSC_RATE : Fld := { base := 0x20D4, hi := 5, lo := 0, acc := .rw, reset := fun _ => 0x2, cfg := true }
def F.CLK_AUXB_SSC_SSC_EN : Fld := { base := 0x20DC, hi := 13, lo := 13, acc := .rw, cfg := true }
def F.CLK_AUXB_SSC_DEPTH : Fld := { base := 0x20DC, hi := 12, lo := 8, acc := .rw, reset := fun _ => 0x5, cfg := true }
def F.CLK_AUXB_SSC_RATE : Fld := { base := 0x20DC, hi := 5, lo := 0, acc := .rw, reset := fun _ => 0x2, cfg := true }

def R.CLK_EN_QUAD_LO : Reg := { base := 0x2040, fields := [F.CLK_EN_QUAD_LO_QUAD_EN] }
def R.CLK_EN_QUAD_HI : Reg := { base := 0x2044, fields := [F.CLK_EN_QUAD_HI_QUAD_EN] }
def R.CLK_EN_LOOP : Reg := { base := 0x2048, fields := [F.CLK_EN_LOOP_LOOP_EN] }
def R.CLK_EN_COUT : Reg := { base := 0x204C, fields := [F.CLK_EN_COUT_COUT_EN] }
def R.CLK_EN_MISC : Reg := { base := 0x2050, fields := [F.CLK_EN_MISC_NVS_EN, F.CLK_EN_MISC_TIME_EN, F.CLK_EN_MISC_TT_EN, F.CLK_EN_MISC_DEC_EN, F.CLK_EN_MISC_AUXB_EN, F.CLK_EN_MISC_AUXA_EN] }
def R.CLK_REF_CTRL : Reg := { base := 0x2080, fields := [F.CLK_REF_CTRL_FALLBACK_EN, F.CLK_REF_CTRL_AUTO_FAILOVER, F.CLK_REF_CTRL_SEL, F.CLK_REF_CTRL_MPL0_BW, F.CLK_REF_CTRL_XI1_MODE, F.CLK_REF_CTRL_XI1_FREQ, F.CLK_REF_CTRL_XI0_MODE, F.CLK_REF_CTRL_XI0_FREQ] }
def R.CLK_REF_STAT : Reg := { base := 0x2084, fields := [F.CLK_REF_STAT_ACTIVE, F.CLK_REF_STAT_MPL1_LOCK, F.CLK_REF_STAT_MPL0_HOLDOVER, F.CLK_REF_STAT_MPL0_LOCK, F.CLK_REF_STAT_READY] }
def R.CLK_REF_EVT : Reg := { base := 0x2088, fields := [F.CLK_REF_EVT_FAILOVER, F.CLK_REF_EVT_HOLDOVER_ENTERED, F.CLK_REF_EVT_READY_LOST] }
def R.CLK_JUDGE_SEL : Reg := { base := 0x208C, fields := [F.CLK_JUDGE_SEL_SRC] }
def R.CLK_JUDGE_CFG : Reg := { base := 0x2090, shape := (.bank 6), sel := some F.CLK_JUDGE_SEL_SRC, fields := [F.CLK_JUDGE_CFG_WIN_MS, F.CLK_JUDGE_CFG_AGREE_PPM, F.CLK_JUDGE_CFG_WIN_10PPM] }
def R.CLK_JUDGE_STAT : Reg := { base := 0x2094, shape := (.bank 6), sel := some F.CLK_JUDGE_SEL_SRC, fields := [F.CLK_JUDGE_STAT_READY, F.CLK_JUDGE_STAT_STOPPED, F.CLK_JUDGE_STAT_SUSPENDED, F.CLK_JUDGE_STAT_AGREE_CNT, F.CLK_JUDGE_STAT_DEV_PPM] }
def R.CLK_DOM_SEL : Reg := { base := 0x20A0, fields := [F.CLK_DOM_SEL_DOM] }
def R.CLK_DOM_CTRL : Reg := { base := 0x20A4, fields := [F.CLK_DOM_CTRL_DOM_RESET, F.CLK_DOM_CTRL_SWITCH, F.CLK_DOM_CTRL_SRC] }
def R.CLK_DOM_STAT : Reg := { base := 0x20A8, shape := (.bank 157), sel := some F.CLK_DOM_SEL_DOM, fields := [F.CLK_DOM_STAT_RESULT, F.CLK_DOM_STAT_UNTRUSTED, F.CLK_DOM_STAT_BUSY, F.CLK_DOM_STAT_STOPPED, F.CLK_DOM_STAT_CUR_SRC, F.CLK_DOM_STAT_CUR_DIV] }
def R.CLK_SWITCH_EVT : Reg := { base := 0x20AC, fields := [F.CLK_SWITCH_EVT_FALLBACK, F.CLK_SWITCH_EVT_SWITCH_FORCED, F.CLK_SWITCH_EVT_SWITCH_REFUSED, F.CLK_SWITCH_EVT_SWITCH_DONE] }
def R.CLK_BLK_SEL : Reg := { base := 0x20C0, fields := [F.CLK_BLK_SEL_BLK] }
def R.CLK_BLK_STAT : Reg := { base := 0x20C4, shape := (.bank 118), sel := some F.CLK_BLK_SEL_BLK, fields := [F.CLK_BLK_STAT_RESTART_PENDING, F.CLK_BLK_STAT_STATE] }
def R.CLK_GATE_EVT : Reg := { base := 0x20C8, fields := [F.CLK_GATE_EVT_BUS_ABORT, F.CLK_GATE_EVT_RESTART_DONE] }
def R.CLK_AUXA_CTRL : Reg := { base := 0x20D0, fields := [F.CLK_AUXA_CTRL_DIV_INT, F.CLK_AUXA_CTRL_DIV_FRAC] }
def R.CLK_AUXB_CTRL : Reg := { base := 0x20D8, fields := [F.CLK_AUXB_CTRL_DIV_INT, F.CLK_AUXB_CTRL_DIV_FRAC] }
def R.CLK_AUXA_SSC : Reg := { base := 0x20D4, fields := [F.CLK_AUXA_SSC_SSC_EN, F.CLK_AUXA_SSC_DEPTH, F.CLK_AUXA_SSC_RATE] }
def R.CLK_AUXB_SSC : Reg := { base := 0x20DC, fields := [F.CLK_AUXB_SSC_SSC_EN, F.CLK_AUXB_SSC_DEPTH, F.CLK_AUXB_SSC_RATE] }

/-- The registers of page 0x002 in ascending offset. -/
def regsPage002 : List Reg :=
  [R.CLK_EN_QUAD_LO, R.CLK_EN_QUAD_HI, R.CLK_EN_LOOP, R.CLK_EN_COUT, R.CLK_EN_MISC, R.CLK_REF_CTRL, R.CLK_REF_STAT, R.CLK_REF_EVT] ++
  [R.CLK_JUDGE_SEL, R.CLK_JUDGE_CFG, R.CLK_JUDGE_STAT, R.CLK_DOM_SEL, R.CLK_DOM_CTRL, R.CLK_DOM_STAT, R.CLK_SWITCH_EVT, R.CLK_BLK_SEL] ++
  [R.CLK_BLK_STAT, R.CLK_GATE_EVT, R.CLK_AUXA_CTRL, R.CLK_AUXA_SSC, R.CLK_AUXB_CTRL, R.CLK_AUXB_SSC]

/-! Page 0x003: 03_clocks_domains.md R79. -/

def F.PWR_OP_CTRL_OP_REQ : Fld := { base := 0x3080, hi := 1, lo := 0, acc := .grd, reset := fun _ => 0x1, cfg := true }
def F.PWR_OP_STAT_HELD : Fld := { base := 0x3084, hi := 17, lo := 17, acc := .ro }
def F.PWR_OP_STAT_BUSY : Fld := { base := 0x3084, hi := 16, lo := 16, acc := .ro }
def F.PWR_OP_STAT_PHASE : Fld := { base := 0x3084, hi := 12, lo := 10, acc := .ro }
def F.PWR_OP_STAT_CLK_OP : Fld := { base := 0x3084, hi := 9, lo := 8, acc := .ro, reset := fun _ => 0x3 }
def F.PWR_OP_STAT_VOLT_OP : Fld := { base := 0x3084, hi := 7, lo := 6, acc := .ro, reset := fun _ => 0x1 }
def F.PWR_OP_STAT_VID : Fld := { base := 0x3084, hi := 5, lo := 0, acc := .ro, reset := fun _ => 0x28 }
def F.PWR_PG_TIMEOUT_TIMEOUT_US : Fld := { base := 0x3088, hi := 15, lo := 0, acc := .rw, reset := fun _ => 0x3E8, cfg := true }
def F.PWR_EVT_PG_LOST : Fld := { base := 0x308C, hi := 2, lo := 2, acc := .rc }
def F.PWR_EVT_RAISE_FAILED : Fld := { base := 0x308C, hi := 1, lo := 1, acc := .rc }
def F.PWR_EVT_OP_DONE : Fld := { base := 0x308C, hi := 0, lo := 0, acc := .rc }

def R.PWR_OP_CTRL : Reg := { base := 0x3080, dom := .aon, fields := [F.PWR_OP_CTRL_OP_REQ] }
def R.PWR_OP_STAT : Reg := { base := 0x3084, dom := .aon, fields := [F.PWR_OP_STAT_HELD, F.PWR_OP_STAT_BUSY, F.PWR_OP_STAT_PHASE, F.PWR_OP_STAT_CLK_OP, F.PWR_OP_STAT_VOLT_OP, F.PWR_OP_STAT_VID] }
def R.PWR_PG_TIMEOUT : Reg := { base := 0x3088, dom := .aon, fields := [F.PWR_PG_TIMEOUT_TIMEOUT_US] }
def R.PWR_EVT : Reg := { base := 0x308C, dom := .aon, fields := [F.PWR_EVT_PG_LOST, F.PWR_EVT_RAISE_FAILED, F.PWR_EVT_OP_DONE] }

/-- The registers of page 0x003 in ascending offset. -/
def regsPage003 : List Reg :=
  [R.PWR_OP_CTRL, R.PWR_OP_STAT, R.PWR_PG_TIMEOUT, R.PWR_EVT]

/-! Page 0x004: 12_serial_ports.md R319. -/

def F.HSP_CFG_RCLK_EN : Fld := { base := 0x4080, hi := 14, lo := 14, acc := .rw, cfg := true }
def F.HSP_CFG_DUMMY : Fld := { base := 0x4080, hi := 13, lo := 8, acc := .rw, reset := fun _ => 0x8, cfg := true }
def F.HSP_CFG_DATA_LANES : Fld := { base := 0x4080, hi := 5, lo := 4, acc := .rw, cfg := true }
def F.HSP_CFG_ADDR_LANES : Fld := { base := 0x4080, hi := 3, lo := 2, acc := .rw, cfg := true }
def F.HSP_CFG_CMD_LANES : Fld := { base := 0x4080, hi := 1, lo := 0, acc := .rw, cfg := true }
def F.HSP_STAT_APPLYING : Fld := { base := 0x40C0, hi := 31, lo := 31, acc := .ro }
def F.HSP_STAT_ALIVE_EXP : Fld := { base := 0x40C0, hi := 27, lo := 24, acc := .ro }
def F.HSP_STAT_LAST_STATUS : Fld := { base := 0x40C0, hi := 15, lo := 8, acc := .ro }
def F.HSP_STAT_NEXT_STATUS : Fld := { base := 0x40C0, hi := 7, lo := 0, acc := .ro }
def F.HSP_EVT_RESET_FORMAT : Fld := { base := 0x40C4, hi := 7, lo := 7, acc := .rc }
def F.HSP_EVT_CUT : Fld := { base := 0x40C4, hi := 6, lo := 6, acc := .rc }
def F.HSP_EVT_XING_ERR : Fld := { base := 0x40C4, hi := 5, lo := 5, acc := .rc }
def F.HSP_EVT_AINC_OVERRUN : Fld := { base := 0x40C4, hi := 4, lo := 4, acc := .rc }
def F.HSP_EVT_STAGE_FULL : Fld := { base := 0x40C4, hi := 3, lo := 3, acc := .rc }
def F.HSP_EVT_FORMAT : Fld := { base := 0x40C4, hi := 2, lo := 2, acc := .rc }
def F.HSP_EVT_ALIVE : Fld := { base := 0x40C4, hi := 1, lo := 1, acc := .rc }
def F.HSP_EVT_CRC : Fld := { base := 0x40C4, hi := 0, lo := 0, acc := .rc }
def F.HSP_FRAME_CNT_GOOD : Fld := { base := 0x40C8, hi := 31, lo := 0, acc := .cnt }
def F.HSP_BAD_CNT_ALIVE : Fld := { base := 0x40CC, hi := 31, lo := 24, acc := .cnt }
def F.HSP_BAD_CNT_FORMAT : Fld := { base := 0x40CC, hi := 23, lo := 16, acc := .cnt }
def F.HSP_BAD_CNT_CRC : Fld := { base := 0x40CC, hi := 15, lo := 0, acc := .cnt }
def F.HSP_CUT_CNT_STAGE_FULL : Fld := { base := 0x40D0, hi := 31, lo := 16, acc := .cnt }
def F.HSP_CUT_CNT_CUT : Fld := { base := 0x40D0, hi := 15, lo := 0, acc := .cnt }

def R.HSP_CFG : Reg := { base := 0x4080, fields := [F.HSP_CFG_RCLK_EN, F.HSP_CFG_DUMMY, F.HSP_CFG_DATA_LANES, F.HSP_CFG_ADDR_LANES, F.HSP_CFG_CMD_LANES] }
def R.HSP_STAT : Reg := { base := 0x40C0, fields := [F.HSP_STAT_APPLYING, F.HSP_STAT_ALIVE_EXP, F.HSP_STAT_LAST_STATUS, F.HSP_STAT_NEXT_STATUS] }
def R.HSP_EVT : Reg := { base := 0x40C4, fields := [F.HSP_EVT_RESET_FORMAT, F.HSP_EVT_CUT, F.HSP_EVT_XING_ERR, F.HSP_EVT_AINC_OVERRUN, F.HSP_EVT_STAGE_FULL, F.HSP_EVT_FORMAT, F.HSP_EVT_ALIVE, F.HSP_EVT_CRC] }
def R.HSP_FRAME_CNT : Reg := { base := 0x40C8, fields := [F.HSP_FRAME_CNT_GOOD] }
def R.HSP_BAD_CNT : Reg := { base := 0x40CC, fields := [F.HSP_BAD_CNT_ALIVE, F.HSP_BAD_CNT_FORMAT, F.HSP_BAD_CNT_CRC] }
def R.HSP_CUT_CNT : Reg := { base := 0x40D0, fields := [F.HSP_CUT_CNT_STAGE_FULL, F.HSP_CUT_CNT_CUT] }

/-- The registers of page 0x004 in ascending offset. -/
def regsPage004 : List Reg :=
  [R.HSP_CFG, R.HSP_STAT, R.HSP_EVT, R.HSP_FRAME_CNT, R.HSP_BAD_CNT, R.HSP_CUT_CNT]

/-! Page 0x005: 12_serial_ports.md R319. -/

def F.NVS_CTRL_FLUSH : Fld := { base := 0x5080, hi := 31, lo := 31, acc := .wsc }
def F.NVS_CTRL_RESUME : Fld := { base := 0x5080, hi := 30, lo := 30, acc := .wsc }
def F.NVS_CTRL_HOST_OWN : Fld := { base := 0x5080, hi := 8, lo := 8, acc := .rw }
def F.NVS_CTRL_SAMPLE_DLY : Fld := { base := 0x5080, hi := 5, lo := 4, acc := .rw, reset := fun _ => 0x1, cfg := true }
def F.NVS_CTRL_DIV : Fld := { base := 0x5080, hi := 3, lo := 0, acc := .rw, reset := fun _ => 0x3, cfg := true }
def F.NVS_Q_HDR_CONT : Fld := { base := 0x5084, hi := 31, lo := 31, acc := .rw }
def F.NVS_Q_HDR_SEL : Fld := { base := 0x5084, hi := 30, lo := 30, acc := .rw }
def F.NVS_Q_HDR_DIR : Fld := { base := 0x5084, hi := 29, lo := 29, acc := .rw }
def F.NVS_Q_HDR_POLL : Fld := { base := 0x5084, hi := 28, lo := 28, acc := .rw }
def F.NVS_Q_HDR_CMD_LANES : Fld := { base := 0x5084, hi := 27, lo := 26, acc := .rw }
def F.NVS_Q_HDR_ADDR_LANES : Fld := { base := 0x5084, hi := 25, lo := 24, acc := .rw }
def F.NVS_Q_HDR_DATA_LANES : Fld := { base := 0x5084, hi := 23, lo := 22, acc := .rw }
def F.NVS_Q_HDR_ADDR_BYTES : Fld := { base := 0x5084, hi := 21, lo := 20, acc := .rw }
def F.NVS_Q_HDR_DUMMY : Fld := { base := 0x5084, hi := 19, lo := 15, acc := .rw }
def F.NVS_Q_HDR_CMD : Fld := { base := 0x5084, hi := 7, lo := 0, acc := .rw }
def F.NVS_Q_ADDR_ADDR : Fld := { base := 0x5088, hi := 31, lo := 0, acc := .rw }
def F.NVS_Q_LEN_WORDS : Fld := { base := 0x508C, hi := 8, lo := 0, acc := .rw }
def F.NVS_Q_POLL_MASK : Fld := { base := 0x5090, hi := 31, lo := 24, acc := .rw, reset := fun _ => 0x1 }
def F.NVS_Q_POLL_VALUE : Fld := { base := 0x5090, hi := 23, lo := 16, acc := .rw }
def F.NVS_Q_POLL_TIMEOUT : Fld := { base := 0x5090, hi := 15, lo := 0, acc := .rw }
def F.NVS_Q_PUSH_PUSH_RESULT : Fld := { base := 0x5094, hi := 2, lo := 1, acc := .ro }
def F.NVS_Q_PUSH_GO : Fld := { base := 0x5094, hi := 0, lo := 0, acc := .wsc }
def F.NVS_WDATA_WORD : Fld := { base := 0x5098, hi := 31, lo := 0, acc := .rw }
def F.NVS_STAT_BUSY : Fld := { base := 0x50C0, hi := 31, lo := 31, acc := .ro }
def F.NVS_STAT_HALTED : Fld := { base := 0x50C0, hi := 30, lo := 30, acc := .ro }
def F.NVS_STAT_OWNED : Fld := { base := 0x50C0, hi := 29, lo := 29, acc := .ro }
def F.NVS_STAT_KEEPER_ACTIVE : Fld := { base := 0x50C0, hi := 28, lo := 28, acc := .ro }
def F.NVS_STAT_RLEVEL : Fld := { base := 0x50C0, hi := 26, lo := 18, acc := .ro }
def F.NVS_STAT_WLEVEL : Fld := { base := 0x50C0, hi := 17, lo := 9, acc := .ro }
def F.NVS_STAT_QLEVEL : Fld := { base := 0x50C0, hi := 4, lo := 0, acc := .ro }
def F.NVS_EVT_FLUSHED : Fld := { base := 0x50C4, hi := 4, lo := 4, acc := .rc }
def F.NVS_EVT_REFUSED : Fld := { base := 0x50C4, hi := 3, lo := 3, acc := .rc }
def F.NVS_EVT_POLL_TIMEOUT : Fld := { base := 0x50C4, hi := 2, lo := 2, acc := .rc }
def F.NVS_EVT_OWN_GRANTED : Fld := { base := 0x50C4, hi := 1, lo := 1, acc := .rc }
def F.NVS_EVT_ENTRY_DONE : Fld := { base := 0x50C4, hi := 0, lo := 0, acc := .rc }
def F.NVS_RDATA_WORD : Fld := { base := 0x50C8, hi := 31, lo := 0, acc := .rc }
def F.NVS_POLL_LAST_BYTE : Fld := { base := 0x50CC, hi := 7, lo := 0, acc := .ro }
def F.NVS_ENTRY_CNT_DONE : Fld := { base := 0x50D0, hi := 31, lo := 0, acc := .cnt }

def R.NVS_CTRL : Reg := { base := 0x5080, fields := [F.NVS_CTRL_FLUSH, F.NVS_CTRL_RESUME, F.NVS_CTRL_HOST_OWN, F.NVS_CTRL_SAMPLE_DLY, F.NVS_CTRL_DIV] }
def R.NVS_Q_HDR : Reg := { base := 0x5084, fields := [F.NVS_Q_HDR_CONT, F.NVS_Q_HDR_SEL, F.NVS_Q_HDR_DIR, F.NVS_Q_HDR_POLL, F.NVS_Q_HDR_CMD_LANES, F.NVS_Q_HDR_ADDR_LANES, F.NVS_Q_HDR_DATA_LANES, F.NVS_Q_HDR_ADDR_BYTES, F.NVS_Q_HDR_DUMMY, F.NVS_Q_HDR_CMD] }
def R.NVS_Q_ADDR : Reg := { base := 0x5088, fields := [F.NVS_Q_ADDR_ADDR] }
def R.NVS_Q_LEN : Reg := { base := 0x508C, fields := [F.NVS_Q_LEN_WORDS] }
def R.NVS_Q_POLL : Reg := { base := 0x5090, fields := [F.NVS_Q_POLL_MASK, F.NVS_Q_POLL_VALUE, F.NVS_Q_POLL_TIMEOUT] }
def R.NVS_Q_PUSH : Reg := { base := 0x5094, fields := [F.NVS_Q_PUSH_PUSH_RESULT, F.NVS_Q_PUSH_GO] }
def R.NVS_WDATA : Reg := { base := 0x5098, fields := [F.NVS_WDATA_WORD] }
def R.NVS_STAT : Reg := { base := 0x50C0, fields := [F.NVS_STAT_BUSY, F.NVS_STAT_HALTED, F.NVS_STAT_OWNED, F.NVS_STAT_KEEPER_ACTIVE, F.NVS_STAT_RLEVEL, F.NVS_STAT_WLEVEL, F.NVS_STAT_QLEVEL] }
def R.NVS_EVT : Reg := { base := 0x50C4, fields := [F.NVS_EVT_FLUSHED, F.NVS_EVT_REFUSED, F.NVS_EVT_POLL_TIMEOUT, F.NVS_EVT_OWN_GRANTED, F.NVS_EVT_ENTRY_DONE] }
def R.NVS_RDATA : Reg := { base := 0x50C8, fields := [F.NVS_RDATA_WORD] }
def R.NVS_POLL_LAST : Reg := { base := 0x50CC, fields := [F.NVS_POLL_LAST_BYTE] }
def R.NVS_ENTRY_CNT : Reg := { base := 0x50D0, fields := [F.NVS_ENTRY_CNT_DONE] }

/-- The registers of page 0x005 in ascending offset. -/
def regsPage005 : List Reg :=
  [R.NVS_CTRL, R.NVS_Q_HDR, R.NVS_Q_ADDR, R.NVS_Q_LEN, R.NVS_Q_POLL, R.NVS_Q_PUSH, R.NVS_WDATA, R.NVS_STAT] ++
  [R.NVS_EVT, R.NVS_RDATA, R.NVS_POLL_LAST, R.NVS_ENTRY_CNT]

/-! Page 0x006: 13_register_rules.md R344. -/

def F.CFG_CTRL_RECOVERY : Fld := { base := 0x6080, hi := 2, lo := 2, acc := .grd }
def F.CFG_CTRL_CHECK_EN : Fld := { base := 0x6080, hi := 1, lo := 1, acc := .grd, reset := fun _ => 0x1 }
def F.CFG_CTRL_SCAN_EN : Fld := { base := 0x6080, hi := 0, lo := 0, acc := .grd, reset := fun _ => 0x1 }
def F.CFG_CMD_COMMIT : Fld := { base := 0x6084, hi := 0, lo := 0, acc := .wsc }
def F.CFG_CRC_REF_CRC : Fld := { base := 0x6088, hi := 31, lo := 0, acc := .rwh }
def F.CFG_UNLOCK_KEY : Fld := { base := 0x608C, hi := 31, lo := 0, acc := .wsc }
def F.CFG_STAT_REF_VALID : Fld := { base := 0x60C0, hi := 31, lo := 31, acc := .ro }
def F.CFG_STAT_SCANNING : Fld := { base := 0x60C0, hi := 30, lo := 30, acc := .ro }
def F.CFG_STAT_UNLOCKED_HSP : Fld := { base := 0x60C0, hi := 29, lo := 29, acc := .ro }
def F.CFG_STAT_UNLOCKED_KPR : Fld := { base := 0x60C0, hi := 28, lo := 28, acc := .ro }
def F.CFG_STAT_MODE : Fld := { base := 0x60C0, hi := 27, lo := 26, acc := .ro }
def F.CFG_STAT_SCAN_SEQ : Fld := { base := 0x60C0, hi := 15, lo := 0, acc := .ro }
def F.CFG_EVT_COMMITTED : Fld := { base := 0x60C4, hi := 4, lo := 4, acc := .rc }
def F.CFG_EVT_INCOMPLETE : Fld := { base := 0x60C4, hi := 3, lo := 3, acc := .rc }
def F.CFG_EVT_DIRTY : Fld := { base := 0x60C4, hi := 2, lo := 2, acc := .rc }
def F.CFG_EVT_MISMATCH : Fld := { base := 0x60C4, hi := 1, lo := 1, acc := .rc }
def F.CFG_EVT_SCAN_DONE : Fld := { base := 0x60C4, hi := 0, lo := 0, acc := .rc }
def F.CFG_CRC_LAST_CRC : Fld := { base := 0x60C8, hi := 31, lo := 0, acc := .ro }
def F.CFG_MISMATCH_CNT_MISMATCHES : Fld := { base := 0x60CC, hi := 31, lo := 0, acc := .cnt }

def R.CFG_CTRL : Reg := { base := 0x6080, fields := [F.CFG_CTRL_RECOVERY, F.CFG_CTRL_CHECK_EN, F.CFG_CTRL_SCAN_EN] }
def R.CFG_CMD : Reg := { base := 0x6084, fields := [F.CFG_CMD_COMMIT] }
def R.CFG_CRC_REF : Reg := { base := 0x6088, fields := [F.CFG_CRC_REF_CRC] }
def R.CFG_UNLOCK : Reg := { base := 0x608C, fields := [F.CFG_UNLOCK_KEY] }
def R.CFG_STAT : Reg := { base := 0x60C0, fields := [F.CFG_STAT_REF_VALID, F.CFG_STAT_SCANNING, F.CFG_STAT_UNLOCKED_HSP, F.CFG_STAT_UNLOCKED_KPR, F.CFG_STAT_MODE, F.CFG_STAT_SCAN_SEQ] }
def R.CFG_EVT : Reg := { base := 0x60C4, fields := [F.CFG_EVT_COMMITTED, F.CFG_EVT_INCOMPLETE, F.CFG_EVT_DIRTY, F.CFG_EVT_MISMATCH, F.CFG_EVT_SCAN_DONE] }
def R.CFG_CRC_LAST : Reg := { base := 0x60C8, fields := [F.CFG_CRC_LAST_CRC] }
def R.CFG_MISMATCH_CNT : Reg := { base := 0x60CC, fields := [F.CFG_MISMATCH_CNT_MISMATCHES] }

/-- The registers of page 0x006 in ascending offset. -/
def regsPage006 : List Reg :=
  [R.CFG_CTRL, R.CFG_CMD, R.CFG_CRC_REF, R.CFG_UNLOCK, R.CFG_STAT, R.CFG_EVT, R.CFG_CRC_LAST, R.CFG_MISMATCH_CNT]

/-! Page 0x007: 14_faults.md R360. -/

def F.MBX_REQ_GO : Fld := { base := 0x7080, hi := 31, lo := 31, acc := .wsc }
def F.MBX_REQ_OBJ : Fld := { base := 0x7080, hi := 15, lo := 8, acc := .rw }
def F.MBX_REQ_INDEX : Fld := { base := 0x7080, hi := 7, lo := 0, acc := .rw }
def F.MBX_STAT_VALID : Fld := { base := 0x7084, hi := 31, lo := 31, acc := .ro }
def F.MBX_STAT_BUSY : Fld := { base := 0x7084, hi := 30, lo := 30, acc := .ro }
def F.MBX_STAT_RESULT : Fld := { base := 0x7084, hi := 3, lo := 0, acc := .ro }
def F.MBX_DATA_WORD : Fld := { base := 0x7090, hi := 31, lo := 0, acc := .ro, shape := (.step 4 4) }
def F.MBX_ARG_WORD : Fld := { base := 0x70A0, hi := 31, lo := 0, acc := .rw, shape := (.step 4 4) }
def F.MBX_EVT_DONE : Fld := { base := 0x70C4, hi := 0, lo := 0, acc := .rc }

def R.MBX_REQ : Reg := { base := 0x7080, fields := [F.MBX_REQ_GO, F.MBX_REQ_OBJ, F.MBX_REQ_INDEX] }
def R.MBX_STAT : Reg := { base := 0x7084, fields := [F.MBX_STAT_VALID, F.MBX_STAT_BUSY, F.MBX_STAT_RESULT] }
def R.MBX_DATA : Reg := { base := 0x7090, shape := (.step 4 4), fields := [F.MBX_DATA_WORD] }
def R.MBX_ARG : Reg := { base := 0x70A0, shape := (.step 4 4), fields := [F.MBX_ARG_WORD] }
def R.MBX_EVT : Reg := { base := 0x70C4, fields := [F.MBX_EVT_DONE] }

/-- The registers of page 0x007 in ascending offset. -/
def regsPage007 : List Reg :=
  [R.MBX_REQ, R.MBX_STAT, R.MBX_DATA, R.MBX_ARG, R.MBX_EVT]

/-! Page 0x008: 11_calibration.md R298. -/

def F.CAL_CMD_GO : Fld := { base := 0x8080, hi := 31, lo := 31, acc := .wsc }
def F.CAL_CMD_STORE : Fld := { base := 0x8080, hi := 30, lo := 30, acc := .wsc }
def F.CAL_CMD_DISCARD : Fld := { base := 0x8080, hi := 29, lo := 29, acc := .wsc }
def F.CAL_CMD_ABORT : Fld := { base := 0x8080, hi := 28, lo := 28, acc := .wsc }
def F.CAL_CMD_KIND : Fld := { base := 0x8080, hi := 10, lo := 8, acc := .rw }
def F.CAL_CMD_UNIT : Fld := { base := 0x8080, hi := 7, lo := 0, acc := .rw }
def F.CAL_CFG_UNIF_SIGMA : Fld := { base := 0x8084, hi := 23, lo := 20, acc := .rw, reset := fun _ => 0x4, cfg := true }
def F.CAL_CFG_TDC_HITS_LOG : Fld := { base := 0x8084, hi := 9, lo := 5, acc := .rw, reset := fun _ => 0x1A, cfg := true }
def F.CAL_CFG_DLY_HITS_LOG : Fld := { base := 0x8084, hi := 4, lo := 0, acc := .rw, reset := fun _ => 0x18, cfg := true }
def F.CAL_APPLY_GO : Fld := { base := 0x8088, hi := 31, lo := 31, acc := .wsc }
def F.CAL_APPLY_APPLY_RESULT : Fld := { base := 0x8088, hi := 17, lo := 16, acc := .ro }
def F.CAL_APPLY_POUND_LO_POUND : Fld := { base := 0x808C, hi := 31, lo := 0, acc := .rw }
def F.CAL_APPLY_POUND_HI_POUND : Fld := { base := 0x8090, hi := 31, lo := 0, acc := .rw }
def F.CAL_PEND_SEL_KIND : Fld := { base := 0x8094, hi := 10, lo := 8, acc := .rw }
def F.CAL_PEND_SEL_WORD : Fld := { base := 0x8094, hi := 2, lo := 0, acc := .rw }
def F.CAL_PEND_MAP_PENDING : Fld := { base := 0x8098, hi := 31, lo := 0, acc := .ro }
def F.CAL_STAT_BUSY : Fld := { base := 0x80C0, hi := 31, lo := 31, acc := .ro }
def F.CAL_STAT_PENDING_ANY : Fld := { base := 0x80C0, hi := 30, lo := 30, acc := .ro }
def F.CAL_STAT_KIND : Fld := { base := 0x80C0, hi := 22, lo := 20, acc := .ro }
def F.CAL_STAT_UNIT : Fld := { base := 0x80C0, hi := 19, lo := 12, acc := .ro }
def F.CAL_STAT_RUN : Fld := { base := 0x80C0, hi := 11, lo := 10, acc := .ro }
def F.CAL_STAT_CODE : Fld := { base := 0x80C0, hi := 7, lo := 0, acc := .ro }
def F.CAL_EVT_STALE : Fld := { base := 0x80C4, hi := 7, lo := 7, acc := .rc }
def F.CAL_EVT_STORE_FAIL : Fld := { base := 0x80C4, hi := 6, lo := 6, acc := .rc }
def F.CAL_EVT_STORED : Fld := { base := 0x80C4, hi := 5, lo := 5, acc := .rc }
def F.CAL_EVT_APPLY_REFUSED : Fld := { base := 0x80C4, hi := 4, lo := 4, acc := .rc }
def F.CAL_EVT_APPLIED : Fld := { base := 0x80C4, hi := 3, lo := 3, acc := .rc }
def F.CAL_EVT_REFUSED : Fld := { base := 0x80C4, hi := 2, lo := 2, acc := .rc }
def F.CAL_EVT_FAILED : Fld := { base := 0x80C4, hi := 1, lo := 1, acc := .rc }
def F.CAL_EVT_DONE : Fld := { base := 0x80C4, hi := 0, lo := 0, acc := .rc }
def F.CAL_RESULT_AGREE_PCT : Fld := { base := 0x80C8, hi := 31, lo := 24, acc := .ro }
def F.CAL_RESULT_UNIF_Z : Fld := { base := 0x80C8, hi := 15, lo := 0, acc := .ro }
def F.CAL_OFFSET_OFFSET : Fld := { base := 0x80CC, hi := 31, lo := 0, acc := .ro }
def F.CAL_STORE_STAT_STORE_BUSY : Fld := { base := 0x80D0, hi := 31, lo := 31, acc := .ro }
def F.CAL_STORE_STAT_STORE_CODE : Fld := { base := 0x80D0, hi := 27, lo := 24, acc := .ro }
def F.CAL_STORE_STAT_LAST_STORE : Fld := { base := 0x80D0, hi := 19, lo := 18, acc := .ro }
def F.CAL_STORE_STAT_LOADED : Fld := { base := 0x80D0, hi := 17, lo := 16, acc := .ro }
def F.CAL_SEQ_SEQ : Fld := { base := 0x80D4, hi := 31, lo := 0, acc := .ro }
def F.CAL_TEMP_STORED : Fld := { base := 0x80D8, hi := 15, lo := 8, acc := .ro }
def F.CAL_TEMP_LAST_RUN : Fld := { base := 0x80D8, hi := 7, lo := 0, acc := .ro }
def F.CAL_DIE_ID_LO_ID : Fld := { base := 0x80E0, hi := 31, lo := 0, acc := .ro }
def F.CAL_DIE_ID_HI_ID : Fld := { base := 0x80E4, hi := 31, lo := 0, acc := .ro }

def R.CAL_CMD : Reg := { base := 0x8080, fields := [F.CAL_CMD_GO, F.CAL_CMD_STORE, F.CAL_CMD_DISCARD, F.CAL_CMD_ABORT, F.CAL_CMD_KIND, F.CAL_CMD_UNIT] }
def R.CAL_CFG : Reg := { base := 0x8084, fields := [F.CAL_CFG_UNIF_SIGMA, F.CAL_CFG_TDC_HITS_LOG, F.CAL_CFG_DLY_HITS_LOG] }
def R.CAL_APPLY : Reg := { base := 0x8088, fields := [F.CAL_APPLY_GO, F.CAL_APPLY_APPLY_RESULT] }
def R.CAL_APPLY_POUND_LO : Reg := { base := 0x808C, fields := [F.CAL_APPLY_POUND_LO_POUND] }
def R.CAL_APPLY_POUND_HI : Reg := { base := 0x8090, fields := [F.CAL_APPLY_POUND_HI_POUND] }
def R.CAL_PEND_SEL : Reg := { base := 0x8094, fields := [F.CAL_PEND_SEL_KIND, F.CAL_PEND_SEL_WORD] }
def R.CAL_PEND_MAP : Reg := { base := 0x8098, fields := [F.CAL_PEND_MAP_PENDING] }
def R.CAL_STAT : Reg := { base := 0x80C0, fields := [F.CAL_STAT_BUSY, F.CAL_STAT_PENDING_ANY, F.CAL_STAT_KIND, F.CAL_STAT_UNIT, F.CAL_STAT_RUN, F.CAL_STAT_CODE] }
def R.CAL_EVT : Reg := { base := 0x80C4, fields := [F.CAL_EVT_STALE, F.CAL_EVT_STORE_FAIL, F.CAL_EVT_STORED, F.CAL_EVT_APPLY_REFUSED, F.CAL_EVT_APPLIED, F.CAL_EVT_REFUSED, F.CAL_EVT_FAILED, F.CAL_EVT_DONE] }
def R.CAL_RESULT : Reg := { base := 0x80C8, fields := [F.CAL_RESULT_AGREE_PCT, F.CAL_RESULT_UNIF_Z] }
def R.CAL_OFFSET : Reg := { base := 0x80CC, fields := [F.CAL_OFFSET_OFFSET] }
def R.CAL_STORE_STAT : Reg := { base := 0x80D0, fields := [F.CAL_STORE_STAT_STORE_BUSY, F.CAL_STORE_STAT_STORE_CODE, F.CAL_STORE_STAT_LAST_STORE, F.CAL_STORE_STAT_LOADED] }
def R.CAL_SEQ : Reg := { base := 0x80D4, fields := [F.CAL_SEQ_SEQ] }
def R.CAL_TEMP : Reg := { base := 0x80D8, fields := [F.CAL_TEMP_STORED, F.CAL_TEMP_LAST_RUN] }
def R.CAL_DIE_ID_LO : Reg := { base := 0x80E0, fields := [F.CAL_DIE_ID_LO_ID] }
def R.CAL_DIE_ID_HI : Reg := { base := 0x80E4, fields := [F.CAL_DIE_ID_HI_ID] }

/-- The registers of page 0x008 in ascending offset. -/
def regsPage008 : List Reg :=
  [R.CAL_CMD, R.CAL_CFG, R.CAL_APPLY, R.CAL_APPLY_POUND_LO, R.CAL_APPLY_POUND_HI, R.CAL_PEND_SEL, R.CAL_PEND_MAP, R.CAL_STAT] ++
  [R.CAL_EVT, R.CAL_RESULT, R.CAL_OFFSET, R.CAL_STORE_STAT, R.CAL_SEQ, R.CAL_TEMP, R.CAL_DIE_ID_LO, R.CAL_DIE_ID_HI]

/-! Page 0x009: 14_faults.md R360. -/

def F.KPR_WDOG_PERIOD_MS : Fld := { base := 0x9080, hi := 15, lo := 0, acc := .rw, reset := fun _ => 0xA, cfg := true }
def F.KPR_STAT_RUNNING : Fld := { base := 0x90C0, hi := 31, lo := 31, acc := .ro }
def F.KPR_STAT_PATCHED : Fld := { base := 0x90C0, hi := 30, lo := 30, acc := .ro }
def F.KPR_STAT_ROM_REV : Fld := { base := 0x90C0, hi := 23, lo := 16, acc := .ro }
def F.KPR_STAT_PATCH_VER : Fld := { base := 0x90C0, hi := 15, lo := 0, acc := .ro }
def F.KPR_EVT_RESTARTED : Fld := { base := 0x90C4, hi := 0, lo := 0, acc := .rc }

def R.KPR_WDOG : Reg := { base := 0x9080, dom := .aon, fields := [F.KPR_WDOG_PERIOD_MS] }
def R.KPR_STAT : Reg := { base := 0x90C0, fields := [F.KPR_STAT_RUNNING, F.KPR_STAT_PATCHED, F.KPR_STAT_ROM_REV, F.KPR_STAT_PATCH_VER] }
def R.KPR_EVT : Reg := { base := 0x90C4, fields := [F.KPR_EVT_RESTARTED] }

/-- The registers of page 0x009 in ascending offset. -/
def regsPage009 : List Reg :=
  [R.KPR_WDOG, R.KPR_STAT, R.KPR_EVT]

/-! Page 0x00A: 14_faults.md R360. -/

def F.FLT_CTRL_FAULTN_MASK : Fld := { base := 0xA080, hi := 31, lo := 16, acc := .rw, reset := fun _ => 0x26, cfg := true }
def F.FLT_CTRL_CLEAR_ALL : Fld := { base := 0xA080, hi := 1, lo := 1, acc := .wsc }
def F.FLT_CTRL_IRQ_OUT_EN : Fld := { base := 0xA080, hi := 0, lo := 0, acc := .rw, reset := fun _ => 0x1, cfg := true }
def F.FLT_CLEAR_GO : Fld := { base := 0xA084, hi := 31, lo := 31, acc := .wsc }
def F.FLT_CLEAR_INDEX : Fld := { base := 0xA084, hi := 7, lo := 0, acc := .rw }
def F.FLT_LOG_TAIL_TAIL : Fld := { base := 0xA088, hi := 11, lo := 0, acc := .rw }
def F.FLT_LOG_CFG_HIGH : Fld := { base := 0xA08C, hi := 11, lo := 0, acc := .rw, reset := fun _ => 0xC00, cfg := true }
def F.FLT_STAT_FAULT_N : Fld := { base := 0xA0C0, hi := 31, lo := 31, acc := .ro }
def F.FLT_STAT_IRQ_N : Fld := { base := 0xA0C0, hi := 30, lo := 30, acc := .ro }
def F.FLT_STAT_FULL : Fld := { base := 0xA0C0, hi := 29, lo := 29, acc := .ro }
def F.FLT_STAT_COUNT : Fld := { base := 0xA0C0, hi := 8, lo := 0, acc := .ro }
def F.FLT_EVT_LOG_LOST : Fld := { base := 0xA0C4, hi := 3, lo := 3, acc := .rc }
def F.FLT_EVT_LOG_HIGH : Fld := { base := 0xA0C4, hi := 2, lo := 2, acc := .rc }
def F.FLT_EVT_LOST : Fld := { base := 0xA0C4, hi := 1, lo := 1, acc := .rc }
def F.FLT_EVT_NEW_RECORD : Fld := { base := 0xA0C4, hi := 0, lo := 0, acc := .rc }
def F.FLT_LOST_CNT_LOST : Fld := { base := 0xA0C8, hi := 31, lo := 0, acc := .cnt }
def F.FLT_LOG_HEAD_HEAD : Fld := { base := 0xA0CC, hi := 11, lo := 0, acc := .ro }
def F.FLT_LOG_LOST_CNT_LOST : Fld := { base := 0xA0D0, hi := 31, lo := 0, acc := .cnt }
def F.FLT_NEW_IDX_INDEX : Fld := { base := 0xA0D4, hi := 7, lo := 0, acc := .ro }
def F.FLT_IRQ_SUM_PAGES : Fld := { base := 0xA0E0, hi := 31, lo := 0, acc := .ro, shape := (.step 4 4) }

def R.FLT_CTRL : Reg := { base := 0xA080, fields := [F.FLT_CTRL_FAULTN_MASK, F.FLT_CTRL_CLEAR_ALL, F.FLT_CTRL_IRQ_OUT_EN] }
def R.FLT_CLEAR : Reg := { base := 0xA084, fields := [F.FLT_CLEAR_GO, F.FLT_CLEAR_INDEX] }
def R.FLT_LOG_TAIL : Reg := { base := 0xA088, fields := [F.FLT_LOG_TAIL_TAIL] }
def R.FLT_LOG_CFG : Reg := { base := 0xA08C, fields := [F.FLT_LOG_CFG_HIGH] }
def R.FLT_STAT : Reg := { base := 0xA0C0, fields := [F.FLT_STAT_FAULT_N, F.FLT_STAT_IRQ_N, F.FLT_STAT_FULL, F.FLT_STAT_COUNT] }
def R.FLT_EVT : Reg := { base := 0xA0C4, fields := [F.FLT_EVT_LOG_LOST, F.FLT_EVT_LOG_HIGH, F.FLT_EVT_LOST, F.FLT_EVT_NEW_RECORD] }
def R.FLT_LOST_CNT : Reg := { base := 0xA0C8, fields := [F.FLT_LOST_CNT_LOST] }
def R.FLT_LOG_HEAD : Reg := { base := 0xA0CC, fields := [F.FLT_LOG_HEAD_HEAD] }
def R.FLT_LOG_LOST_CNT : Reg := { base := 0xA0D0, fields := [F.FLT_LOG_LOST_CNT_LOST] }
def R.FLT_NEW_IDX : Reg := { base := 0xA0D4, fields := [F.FLT_NEW_IDX_INDEX] }
def R.FLT_IRQ_SUM : Reg := { base := 0xA0E0, shape := (.step 4 4), fields := [F.FLT_IRQ_SUM_PAGES] }

/-- The registers of page 0x00A in ascending offset. -/
def regsPage00A : List Reg :=
  [R.FLT_CTRL, R.FLT_CLEAR, R.FLT_LOG_TAIL, R.FLT_LOG_CFG, R.FLT_STAT, R.FLT_EVT, R.FLT_LOST_CNT, R.FLT_LOG_HEAD] ++
  [R.FLT_LOG_LOST_CNT, R.FLT_NEW_IDX, R.FLT_IRQ_SUM]

/-! Page 0x00B: 15_page_map.md R364. -/

def F.SYS_TEMP_MAX : Fld := { base := 0xB080, hi := 15, lo := 8, acc := .rwh, reset := fun _ => 0x80 }
def F.SYS_TEMP_NOW : Fld := { base := 0xB080, hi := 7, lo := 0, acc := .ro }
def F.SYS_RAIL_STAT_PG_IN : Fld := { base := 0xB084, hi := 8, lo := 8, acc := .ro, reset := fun _ => 1 }
def F.SYS_RAIL_STAT_RAIL_OK : Fld := { base := 0xB084, hi := 6, lo := 0, acc := .ro, reset := fun _ => 0x7F }
def F.SYS_MON_EVT_OVER_TEMP : Fld := { base := 0xB0C4, hi := 1, lo := 1, acc := .rc }
def F.SYS_MON_EVT_RAIL_DIP : Fld := { base := 0xB0C4, hi := 0, lo := 0, acc := .rc }

def R.SYS_TEMP : Reg := { base := 0xB080, dom := .aon, fields := [F.SYS_TEMP_MAX, F.SYS_TEMP_NOW] }
def R.SYS_RAIL_STAT : Reg := { base := 0xB084, dom := .aon, fields := [F.SYS_RAIL_STAT_PG_IN, F.SYS_RAIL_STAT_RAIL_OK] }
def R.SYS_MON_EVT : Reg := { base := 0xB0C4, dom := .aon, fields := [F.SYS_MON_EVT_OVER_TEMP, F.SYS_MON_EVT_RAIL_DIP] }

/-- The registers of page 0x00B in ascending offset. -/
def regsPage00B : List Reg :=
  [R.SYS_TEMP, R.SYS_RAIL_STAT, R.SYS_MON_EVT]

/-! Page 0x010: 04_loop_cores.md R113. -/

def F.LOOP_CTRL_TANK_PREF : Fld := { base := 0x10080, hi := 9, lo := 9, acc := .rw, shape := (.page 16), cfg := true }
def F.LOOP_CTRL_AUTO_REALIGN : Fld := { base := 0x10080, hi := 8, lo := 8, acc := .rw, shape := (.page 16), reset := fun _ => 0x1, cfg := true }
def F.LOOP_CTRL_MON_MODE : Fld := { base := 0x10080, hi := 7, lo := 6, acc := .rw, shape := (.page 16), reset := fun _ => 0x1, cfg := true }
def F.LOOP_CTRL_B_FOLLOW : Fld := { base := 0x10080, hi := 5, lo := 5, acc := .rw, shape := (.page 16), cfg := true }
def F.LOOP_CTRL_INT_MODE : Fld := { base := 0x10080, hi := 4, lo := 4, acc := .rw, shape := (.page 16), cfg := true }
def F.LOOP_CTRL_DITHER : Fld := { base := 0x10080, hi := 3, lo := 3, acc := .rw, shape := (.page 16), reset := fun _ => 0x1, cfg := true }
def F.LOOP_CTRL_BW : Fld := { base := 0x10080, hi := 1, lo := 0, acc := .rw, shape := (.page 16), reset := fun _ => 0x2, cfg := true }
def F.LOOP_N_INT_N_INT : Fld := { base := 0x10084, hi := 4, lo := 0, acc := .rw, shape := (.page 16), reset := fun _ => 0x14, cfg := true }
def F.LOOP_NUM_LO_NUM : Fld := { base := 0x10088, hi := 31, lo := 0, acc := .rw, shape := (.page 16), cfg := true }
def F.LOOP_NUM_HI_NUM : Fld := { base := 0x1008C, hi := 7, lo := 0, acc := .rw, shape := (.page 16), cfg := true }
def F.LOOP_MOD_LO_MOD : Fld := { base := 0x10090, hi := 31, lo := 0, acc := .rw, shape := (.page 16), cfg := true }
def F.LOOP_MOD_HI_MOD : Fld := { base := 0x10094, hi := 7, lo := 0, acc := .rw, shape := (.page 16), cfg := true }
def F.LOOP_OUTDIV_DIV_B : Fld := { base := 0x10098, hi := 13, lo := 8, acc := .rw, shape := (.page 16), cfg := true }
def F.LOOP_OUTDIV_DIV_A : Fld := { base := 0x10098, hi := 5, lo := 0, acc := .rw, shape := (.page 16), cfg := true }
def F.LOOP_APPLY_RESULT : Fld := { base := 0x1009C, hi := 19, lo := 16, acc := .ro, shape := (.page 16) }
def F.LOOP_APPLY_PHASE_SET : Fld := { base := 0x1009C, hi := 2, lo := 2, acc := .rw, shape := (.page 16) }
def F.LOOP_APPLY_AT_POUND : Fld := { base := 0x1009C, hi := 1, lo := 1, acc := .rw, shape := (.page 16) }
def F.LOOP_APPLY_GO : Fld := { base := 0x1009C, hi := 0, lo := 0, acc := .wsc, shape := (.page 16) }
def F.LOOP_APPLY_POUND_LO_POUND : Fld := { base := 0x100A0, hi := 31, lo := 0, acc := .rw, shape := (.page 16) }
def F.LOOP_APPLY_POUND_HI_POUND : Fld := { base := 0x100A4, hi := 31, lo := 0, acc := .rw, shape := (.page 16) }
def F.LOOP_FREE_PHASE_PHASE : Fld := { base := 0x100A8, hi := 31, lo := 0, acc := .rw, shape := (.page 16) }
def F.LOOP_PHASE_ADJ_GO : Fld := { base := 0x100AC, hi := 31, lo := 31, acc := .wsc, shape := (.page 16) }
def F.LOOP_PHASE_ADJ_STEPS : Fld := { base := 0x100AC, hi := 23, lo := 0, acc := .rw, shape := (.page 16) }
def F.LOOP_LD_CFG_WIN : Fld := { base := 0x100B0, hi := 31, lo := 24, acc := .rw, shape := (.page 16), reset := fun _ => 0x96, cfg := true }
def F.LOOP_LD_CFG_M : Fld := { base := 0x100B0, hi := 23, lo := 16, acc := .rw, shape := (.page 16), reset := fun _ => 0x4, cfg := true }
def F.LOOP_LD_CFG_N : Fld := { base := 0x100B0, hi := 15, lo := 0, acc := .rw, shape := (.page 16), reset := fun _ => 0x200, cfg := true }
def F.LOOP_BAND_CTRL_MANUAL : Fld := { base := 0x100B4, hi := 9, lo := 9, acc := .rw, shape := (.page 16), cfg := true }
def F.LOOP_BAND_CTRL_TANK : Fld := { base := 0x100B4, hi := 8, lo := 8, acc := .rw, shape := (.page 16), cfg := true }
def F.LOOP_BAND_CTRL_BAND : Fld := { base := 0x100B4, hi := 7, lo := 0, acc := .rw, shape := (.page 16), reset := fun _ => 0x80, cfg := true }
def F.LOOP_MON_CFG_AVG : Fld := { base := 0x100B8, hi := 31, lo := 28, acc := .rw, shape := (.page 16), reset := fun _ => 0x8, cfg := true }
def F.LOOP_MON_CFG_ALARM_PS : Fld := { base := 0x100B8, hi := 23, lo := 16, acc := .rw, shape := (.page 16), reset := fun _ => 0xA, cfg := true }
def F.LOOP_MON_CFG_TRIM_MAX : Fld := { base := 0x100B8, hi := 15, lo := 8, acc := .rw, shape := (.page 16), reset := fun _ => 0x10, cfg := true }
def F.LOOP_MON_CFG_HOLD : Fld := { base := 0x100B8, hi := 7, lo := 0, acc := .rw, shape := (.page 16), reset := fun _ => 0x64, cfg := true }
def F.LOOP_MON_OFFSET_OFFSET : Fld := { base := 0x100BC, hi := 15, lo := 0, acc := .rwh, shape := (.page 16), cfg := true }
def F.LOOP_STAT_LOCK : Fld := { base := 0x100C0, hi := 31, lo := 31, acc := .ro, shape := (.page 16) }
def F.LOOP_STAT_BOUND : Fld := { base := 0x100C0, hi := 30, lo := 30, acc := .ro, shape := (.page 16) }
def F.LOOP_STAT_ALIGNED : Fld := { base := 0x100C0, hi := 29, lo := 29, acc := .ro, shape := (.page 16) }
def F.LOOP_STAT_TRACKING : Fld := { base := 0x100C0, hi := 28, lo := 28, acc := .ro, shape := (.page 16) }
def F.LOOP_STAT_HOLD : Fld := { base := 0x100C0, hi := 27, lo := 27, acc := .ro, shape := (.page 16) }
def F.LOOP_STAT_BAND_SEARCH : Fld := { base := 0x100C0, hi := 26, lo := 26, acc := .ro, shape := (.page 16) }
def F.LOOP_STAT_TUNE_EDGE : Fld := { base := 0x100C0, hi := 25, lo := 25, acc := .ro, shape := (.page 16) }
def F.LOOP_STAT_INT_ACTIVE : Fld := { base := 0x100C0, hi := 24, lo := 24, acc := .ro, shape := (.page 16) }
def F.LOOP_STAT_STATE : Fld := { base := 0x100C0, hi := 23, lo := 20, acc := .ro, shape := (.page 16) }
def F.LOOP_STAT_TANK : Fld := { base := 0x100C0, hi := 16, lo := 16, acc := .ro, shape := (.page 16) }
def F.LOOP_STAT_BAND : Fld := { base := 0x100C0, hi := 15, lo := 8, acc := .ro, shape := (.page 16) }
def F.LOOP_EVT_LOAD_REFUSED : Fld := { base := 0x100C4, hi := 9, lo := 9, acc := .rc, shape := (.page 16) }
def F.LOOP_EVT_APPLY_DONE : Fld := { base := 0x100C4, hi := 8, lo := 8, acc := .rc, shape := (.page 16) }
def F.LOOP_EVT_BAND_FAIL : Fld := { base := 0x100C4, hi := 7, lo := 7, acc := .rc, shape := (.page 16) }
def F.LOOP_EVT_TUNE_EDGE_SET : Fld := { base := 0x100C4, hi := 6, lo := 6, acc := .rc, shape := (.page 16) }
def F.LOOP_EVT_REALIGNED : Fld := { base := 0x100C4, hi := 5, lo := 5, acc := .rc, shape := (.page 16) }
def F.LOOP_EVT_PHASE_ALARM : Fld := { base := 0x100C4, hi := 4, lo := 4, acc := .rc, shape := (.page 16) }
def F.LOOP_EVT_CYCLE_SLIP : Fld := { base := 0x100C4, hi := 3, lo := 3, acc := .rc, shape := (.page 16) }
def F.LOOP_EVT_LOCK_LOST : Fld := { base := 0x100C4, hi := 2, lo := 2, acc := .rc, shape := (.page 16) }
def F.LOOP_EVT_LOCK_GAINED : Fld := { base := 0x100C4, hi := 1, lo := 1, acc := .rc, shape := (.page 16) }
def F.LOOP_EVT_PA_REFUSED : Fld := { base := 0x100C4, hi := 0, lo := 0, acc := .rc, shape := (.page 16) }
def F.LOOP_SLIP_CNT_SLIPS : Fld := { base := 0x100C8, hi := 31, lo := 0, acc := .cnt, shape := (.page 16) }
def F.LOOP_UNLOCK_CNT_UNLOCKS : Fld := { base := 0x100CC, hi := 31, lo := 0, acc := .cnt, shape := (.page 16) }
def F.LOOP_TRACK_CNT_STEPS : Fld := { base := 0x100D0, hi := 31, lo := 0, acc := .cnt, shape := (.page 16) }
def F.LOOP_FCNT_CFG_GO : Fld := { base := 0x100D4, hi := 31, lo := 31, acc := .wsc, shape := (.page 16) }
def F.LOOP_FCNT_CFG_DONE : Fld := { base := 0x100D4, hi := 30, lo := 30, acc := .ro, shape := (.page 16) }
def F.LOOP_FCNT_CFG_GATE : Fld := { base := 0x100D4, hi := 4, lo := 0, acc := .rw, shape := (.page 16), reset := fun _ => 0xA }
def F.LOOP_FCNT_COUNT : Fld := { base := 0x100D8, hi := 31, lo := 0, acc := .ro, shape := (.page 16) }
def F.LOOP_MON_ERR_VALID : Fld := { base := 0x100DC, hi := 31, lo := 31, acc := .ro, shape := (.page 16) }
def F.LOOP_MON_ERR_ERR : Fld := { base := 0x100DC, hi := 23, lo := 0, acc := .ro, shape := (.page 16) }
def F.LOOP_MON_RAW_RAW : Fld := { base := 0x100E0, hi := 14, lo := 0, acc := .ro, shape := (.page 16) }
def F.LOOP_TRIM_TAU : Fld := { base := 0x100E4, hi := 31, lo := 0, acc := .rwh, shape := (.page 16) }

def R.LOOP_CTRL : Reg := { base := 0x10080, shape := (.page 16), fields := [F.LOOP_CTRL_TANK_PREF, F.LOOP_CTRL_AUTO_REALIGN, F.LOOP_CTRL_MON_MODE, F.LOOP_CTRL_B_FOLLOW, F.LOOP_CTRL_INT_MODE, F.LOOP_CTRL_DITHER, F.LOOP_CTRL_BW] }
def R.LOOP_N_INT : Reg := { base := 0x10084, shape := (.page 16), fields := [F.LOOP_N_INT_N_INT] }
def R.LOOP_NUM_LO : Reg := { base := 0x10088, shape := (.page 16), fields := [F.LOOP_NUM_LO_NUM] }
def R.LOOP_NUM_HI : Reg := { base := 0x1008C, shape := (.page 16), fields := [F.LOOP_NUM_HI_NUM] }
def R.LOOP_MOD_LO : Reg := { base := 0x10090, shape := (.page 16), fields := [F.LOOP_MOD_LO_MOD] }
def R.LOOP_MOD_HI : Reg := { base := 0x10094, shape := (.page 16), fields := [F.LOOP_MOD_HI_MOD] }
def R.LOOP_OUTDIV : Reg := { base := 0x10098, shape := (.page 16), fields := [F.LOOP_OUTDIV_DIV_B, F.LOOP_OUTDIV_DIV_A] }
def R.LOOP_APPLY : Reg := { base := 0x1009C, shape := (.page 16), fields := [F.LOOP_APPLY_RESULT, F.LOOP_APPLY_PHASE_SET, F.LOOP_APPLY_AT_POUND, F.LOOP_APPLY_GO] }
def R.LOOP_APPLY_POUND_LO : Reg := { base := 0x100A0, shape := (.page 16), fields := [F.LOOP_APPLY_POUND_LO_POUND] }
def R.LOOP_APPLY_POUND_HI : Reg := { base := 0x100A4, shape := (.page 16), fields := [F.LOOP_APPLY_POUND_HI_POUND] }
def R.LOOP_FREE_PHASE : Reg := { base := 0x100A8, shape := (.page 16), fields := [F.LOOP_FREE_PHASE_PHASE] }
def R.LOOP_PHASE_ADJ : Reg := { base := 0x100AC, shape := (.page 16), fields := [F.LOOP_PHASE_ADJ_GO, F.LOOP_PHASE_ADJ_STEPS] }
def R.LOOP_LD_CFG : Reg := { base := 0x100B0, shape := (.page 16), fields := [F.LOOP_LD_CFG_WIN, F.LOOP_LD_CFG_M, F.LOOP_LD_CFG_N] }
def R.LOOP_BAND_CTRL : Reg := { base := 0x100B4, shape := (.page 16), fields := [F.LOOP_BAND_CTRL_MANUAL, F.LOOP_BAND_CTRL_TANK, F.LOOP_BAND_CTRL_BAND] }
def R.LOOP_MON_CFG : Reg := { base := 0x100B8, shape := (.page 16), fields := [F.LOOP_MON_CFG_AVG, F.LOOP_MON_CFG_ALARM_PS, F.LOOP_MON_CFG_TRIM_MAX, F.LOOP_MON_CFG_HOLD] }
def R.LOOP_MON_OFFSET : Reg := { base := 0x100BC, shape := (.page 16), fields := [F.LOOP_MON_OFFSET_OFFSET] }
def R.LOOP_STAT : Reg := { base := 0x100C0, shape := (.page 16), dom := .loop, fields := [F.LOOP_STAT_LOCK, F.LOOP_STAT_BOUND, F.LOOP_STAT_ALIGNED, F.LOOP_STAT_TRACKING, F.LOOP_STAT_HOLD, F.LOOP_STAT_BAND_SEARCH, F.LOOP_STAT_TUNE_EDGE, F.LOOP_STAT_INT_ACTIVE, F.LOOP_STAT_STATE, F.LOOP_STAT_TANK, F.LOOP_STAT_BAND] }
def R.LOOP_EVT : Reg := { base := 0x100C4, shape := (.page 16), dom := .loop, fields := [F.LOOP_EVT_LOAD_REFUSED, F.LOOP_EVT_APPLY_DONE, F.LOOP_EVT_BAND_FAIL, F.LOOP_EVT_TUNE_EDGE_SET, F.LOOP_EVT_REALIGNED, F.LOOP_EVT_PHASE_ALARM, F.LOOP_EVT_CYCLE_SLIP, F.LOOP_EVT_LOCK_LOST, F.LOOP_EVT_LOCK_GAINED, F.LOOP_EVT_PA_REFUSED] }
def R.LOOP_SLIP_CNT : Reg := { base := 0x100C8, shape := (.page 16), dom := .loop, fields := [F.LOOP_SLIP_CNT_SLIPS] }
def R.LOOP_UNLOCK_CNT : Reg := { base := 0x100CC, shape := (.page 16), dom := .loop, fields := [F.LOOP_UNLOCK_CNT_UNLOCKS] }
def R.LOOP_TRACK_CNT : Reg := { base := 0x100D0, shape := (.page 16), dom := .loop, fields := [F.LOOP_TRACK_CNT_STEPS] }
def R.LOOP_FCNT_CFG : Reg := { base := 0x100D4, shape := (.page 16), fields := [F.LOOP_FCNT_CFG_GO, F.LOOP_FCNT_CFG_DONE, F.LOOP_FCNT_CFG_GATE] }
def R.LOOP_FCNT : Reg := { base := 0x100D8, shape := (.page 16), dom := .loop, fields := [F.LOOP_FCNT_COUNT] }
def R.LOOP_MON_ERR : Reg := { base := 0x100DC, shape := (.page 16), dom := .loop, fields := [F.LOOP_MON_ERR_VALID, F.LOOP_MON_ERR_ERR] }
def R.LOOP_MON_RAW : Reg := { base := 0x100E0, shape := (.page 16), dom := .loop, fields := [F.LOOP_MON_RAW_RAW] }
def R.LOOP_TRIM : Reg := { base := 0x100E4, shape := (.page 16), dom := .loop, fields := [F.LOOP_TRIM_TAU] }

/-- The registers of page 0x010 in ascending offset. -/
def regsPage010 : List Reg :=
  [R.LOOP_CTRL, R.LOOP_N_INT, R.LOOP_NUM_LO, R.LOOP_NUM_HI, R.LOOP_MOD_LO, R.LOOP_MOD_HI, R.LOOP_OUTDIV, R.LOOP_APPLY] ++
  [R.LOOP_APPLY_POUND_LO, R.LOOP_APPLY_POUND_HI, R.LOOP_FREE_PHASE, R.LOOP_PHASE_ADJ, R.LOOP_LD_CFG, R.LOOP_BAND_CTRL, R.LOOP_MON_CFG, R.LOOP_MON_OFFSET] ++
  [R.LOOP_STAT, R.LOOP_EVT, R.LOOP_SLIP_CNT, R.LOOP_UNLOCK_CNT, R.LOOP_TRACK_CNT, R.LOOP_FCNT_CFG, R.LOOP_FCNT, R.LOOP_MON_ERR] ++
  [R.LOOP_MON_RAW, R.LOOP_TRIM]

/-! Page 0x020: 05_hopping_outputs.md R142. -/

def F.COUT_ALIGN_ARM_ARM : Fld := { base := 0x20040, hi := 31, lo := 0, acc := .wsc }
def F.COUT_ALIGN_DISARM_DISARM : Fld := { base := 0x20044, hi := 31, lo := 0, acc := .wsc }
def F.COUT_TWIN_CTRL_TWIN_EN : Fld := { base := 0x20080, hi := 7, lo := 0, acc := .rw, cfg := true }
def F.COUT_TWIN_STAT_DEFERRING : Fld := { base := 0x20084, hi := 31, lo := 24, acc := .ro }
def F.COUT_TWIN_STAT_READY : Fld := { base := 0x20084, hi := 23, lo := 16, acc := .ro }
def F.COUT_TWIN_STAT_PREPARED : Fld := { base := 0x20084, hi := 15, lo := 8, acc := .ro }
def F.COUT_TWIN_STAT_ACTIVE : Fld := { base := 0x20084, hi := 7, lo := 0, acc := .ro }
def F.COUT_HOP_EVT_TWIN_REFUSED : Fld := { base := 0x20088, hi := 31, lo := 24, acc := .rc }
def F.COUT_HOP_EVT_CANCELLED : Fld := { base := 0x20088, hi := 23, lo := 16, acc := .rc }
def F.COUT_HOP_EVT_MISSED : Fld := { base := 0x20088, hi := 15, lo := 8, acc := .rc }
def F.COUT_HOP_EVT_SWITCHED : Fld := { base := 0x20088, hi := 7, lo := 0, acc := .rc }
def F.COUT_RETUNE_EVT_RETUNE_SLOW : Fld := { base := 0x2008C, hi := 31, lo := 16, acc := .rc }
def F.COUT_RETUNE_EVT_RETUNE_DONE : Fld := { base := 0x2008C, hi := 15, lo := 0, acc := .rc }
def F.COUT_TWIN_CFG_MISS_POLICY : Fld := { base := 0x200A0, hi := 31, lo := 30, acc := .rw, shape := (.step 4 8), cfg := true }
def F.COUT_TWIN_CFG_DEFER_LOG : Fld := { base := 0x200A0, hi := 29, lo := 26, acc := .rw, shape := (.step 4 8), reset := fun _ => 0xA, cfg := true }
def F.COUT_TWIN_CFG_SETTLE_CROSS : Fld := { base := 0x200A0, hi := 19, lo := 10, acc := .rw, shape := (.step 4 8), reset := fun _ => 0x177, cfg := true }
def F.COUT_TWIN_CFG_SETTLE_SAME : Fld := { base := 0x200A0, hi := 9, lo := 0, acc := .rw, shape := (.step 4 8), reset := fun _ => 0xBC, cfg := true }
def F.COUT_HOP_POUND_T_LO : Fld := { base := 0x200C0, hi := 31, lo := 0, acc := .ro, shape := (.step 4 8) }
def F.COUT_TWIN_SWAP_GO : Fld := { base := 0x200E0, hi := 31, lo := 31, acc := .wsc }
def F.COUT_TWIN_SWAP_SWAP_RESULT : Fld := { base := 0x200E0, hi := 5, lo := 4, acc := .ro }
def F.COUT_TWIN_SWAP_TWIN : Fld := { base := 0x200E0, hi := 2, lo := 0, acc := .rw }
def F.COUT_TWIN_SWAP_POUND_LO_POUND : Fld := { base := 0x200E4, hi := 31, lo := 0, acc := .rw }
def F.COUT_TWIN_SWAP_POUND_HI_POUND : Fld := { base := 0x200E8, hi := 31, lo := 0, acc := .rw }
def F.COUT_RETUNE_CFG_HOP_BLANK : Fld := { base := 0x20100, hi := 31, lo := 24, acc := .rw, reset := fun _ => 0x40, cfg := true }
def F.COUT_RETUNE_CFG_RETUNE_LIMIT : Fld := { base := 0x20100, hi := 15, lo := 0, acc := .rw, reset := fun _ => 0x190, cfg := true }
def F.COUT_BANDMAP_CTRL_TEMP_COMP : Fld := { base := 0x20104, hi := 16, lo := 16, acc := .rw, reset := fun _ => 0x1, cfg := true }
def F.COUT_BANDMAP_CTRL_MAP_EN : Fld := { base := 0x20104, hi := 15, lo := 0, acc := .rw, cfg := true }

def R.COUT_ALIGN_ARM : Reg := { base := 0x20040, fields := [F.COUT_ALIGN_ARM_ARM] }
def R.COUT_ALIGN_DISARM : Reg := { base := 0x20044, fields := [F.COUT_ALIGN_DISARM_DISARM] }
def R.COUT_TWIN_CTRL : Reg := { base := 0x20080, fields := [F.COUT_TWIN_CTRL_TWIN_EN] }
def R.COUT_TWIN_STAT : Reg := { base := 0x20084, dom := .tow, fields := [F.COUT_TWIN_STAT_DEFERRING, F.COUT_TWIN_STAT_READY, F.COUT_TWIN_STAT_PREPARED, F.COUT_TWIN_STAT_ACTIVE] }
def R.COUT_HOP_EVT : Reg := { base := 0x20088, fields := [F.COUT_HOP_EVT_TWIN_REFUSED, F.COUT_HOP_EVT_CANCELLED, F.COUT_HOP_EVT_MISSED, F.COUT_HOP_EVT_SWITCHED] }
def R.COUT_RETUNE_EVT : Reg := { base := 0x2008C, fields := [F.COUT_RETUNE_EVT_RETUNE_SLOW, F.COUT_RETUNE_EVT_RETUNE_DONE] }
def R.COUT_TWIN_CFG : Reg := { base := 0x200A0, shape := (.step 4 8), fields := [F.COUT_TWIN_CFG_MISS_POLICY, F.COUT_TWIN_CFG_DEFER_LOG, F.COUT_TWIN_CFG_SETTLE_CROSS, F.COUT_TWIN_CFG_SETTLE_SAME] }
def R.COUT_HOP_POUND : Reg := { base := 0x200C0, shape := (.step 4 8), dom := .tow, fields := [F.COUT_HOP_POUND_T_LO] }
def R.COUT_TWIN_SWAP : Reg := { base := 0x200E0, fields := [F.COUT_TWIN_SWAP_GO, F.COUT_TWIN_SWAP_SWAP_RESULT, F.COUT_TWIN_SWAP_TWIN] }
def R.COUT_TWIN_SWAP_POUND_LO : Reg := { base := 0x200E4, fields := [F.COUT_TWIN_SWAP_POUND_LO_POUND] }
def R.COUT_TWIN_SWAP_POUND_HI : Reg := { base := 0x200E8, fields := [F.COUT_TWIN_SWAP_POUND_HI_POUND] }
def R.COUT_RETUNE_CFG : Reg := { base := 0x20100, fields := [F.COUT_RETUNE_CFG_HOP_BLANK, F.COUT_RETUNE_CFG_RETUNE_LIMIT] }
def R.COUT_BANDMAP_CTRL : Reg := { base := 0x20104, fields := [F.COUT_BANDMAP_CTRL_TEMP_COMP, F.COUT_BANDMAP_CTRL_MAP_EN] }

/-- The registers of page 0x020 in ascending offset. -/
def regsPage020 : List Reg :=
  [R.COUT_ALIGN_ARM, R.COUT_ALIGN_DISARM, R.COUT_TWIN_CTRL, R.COUT_TWIN_STAT, R.COUT_HOP_EVT, R.COUT_RETUNE_EVT, R.COUT_TWIN_CFG, R.COUT_HOP_POUND] ++
  [R.COUT_TWIN_SWAP, R.COUT_TWIN_SWAP_POUND_LO, R.COUT_TWIN_SWAP_POUND_HI, R.COUT_RETUNE_CFG, R.COUT_BANDMAP_CTRL]

/-! Page 0x021: 05_hopping_outputs.md R142. -/

def F.COUT_SEL_REFUSED_REFUSED : Fld := { base := 0x21080, hi := 31, lo := 0, acc := .rc }
def F.COUT_ALIGN_REFUSED_REFUSED : Fld := { base := 0x21084, hi := 31, lo := 0, acc := .rc }
def F.COUT_ALIGN_SKIPPED_SKIPPED : Fld := { base := 0x21088, hi := 31, lo := 0, acc := .rc }
def F.COUT_SEL_SRC : Fld := { base := 0x21100, hi := 5, lo := 0, acc := .rw, shape := (.step 4 32), reset := fun _ => 0x3F, cfg := true }
def F.COUT_DRV_FORMAT : Fld := { base := 0x21180, hi := 9, lo := 8, acc := .rw, shape := (.step 4 32), cfg := true }
def F.COUT_DRV_SWING : Fld := { base := 0x21180, hi := 7, lo := 6, acc := .rw, shape := (.step 4 32), reset := fun _ => 0x2, cfg := true }
def F.COUT_DRV_DCC_EN : Fld := { base := 0x21180, hi := 5, lo := 5, acc := .rw, shape := (.step 4 32), reset := fun _ => 0x1, cfg := true }
def F.COUT_DRV_INVERT : Fld := { base := 0x21180, hi := 4, lo := 4, acc := .rw, shape := (.step 4 32), cfg := true }
def F.COUT_DRV_UNLOCK_ACT : Fld := { base := 0x21180, hi := 3, lo := 2, acc := .rw, shape := (.step 4 32), cfg := true }
def F.COUT_DLY_DELAY : Fld := { base := 0x21200, hi := 11, lo := 0, acc := .rw, shape := (.step 4 32), cfg := true }
def F.COUT_ALIGN_CFG_PERIOD : Fld := { base := 0x21280, hi := 31, lo := 16, acc := .rw, shape := (.step 4 32) }
def F.COUT_ALIGN_CFG_COUNT : Fld := { base := 0x21280, hi := 15, lo := 8, acc := .rw, shape := (.step 4 32), reset := fun _ => 0x1 }
def F.COUT_ALIGN_CFG_WIDTH : Fld := { base := 0x21280, hi := 7, lo := 4, acc := .rw, shape := (.step 4 32) }
def F.COUT_ALIGN_CFG_EDGE_SEL : Fld := { base := 0x21280, hi := 3, lo := 3, acc := .rw, shape := (.step 4 32) }
def F.COUT_ALIGN_POUND_LO_POUND : Fld := { base := 0x21300, hi := 31, lo := 0, acc := .rw, shape := (.step 4 32) }
def F.COUT_ALIGN_POUND_HI_POUND : Fld := { base := 0x21380, hi := 31, lo := 0, acc := .rw, shape := (.step 4 32) }
def F.COUT_STAT_CUR_SRC : Fld := { base := 0x21400, hi := 31, lo := 26, acc := .ro, shape := (.step 4 32), reset := fun _ => 0x3F }
def F.COUT_STAT_PARKED : Fld := { base := 0x21400, hi := 25, lo := 25, acc := .ro, shape := (.step 4 32), reset := fun _ => 0x1 }
def F.COUT_STAT_DCC_LOCK : Fld := { base := 0x21400, hi := 24, lo := 24, acc := .ro, shape := (.step 4 32) }
def F.COUT_STAT_WALKING : Fld := { base := 0x21400, hi := 23, lo := 23, acc := .ro, shape := (.step 4 32) }
def F.COUT_STAT_ALIGN_HIGH : Fld := { base := 0x21400, hi := 22, lo := 22, acc := .ro, shape := (.step 4 32) }
def F.COUT_STAT_ALIGN_RESULT : Fld := { base := 0x21400, hi := 21, lo := 20, acc := .ro, shape := (.step 4 32) }
def F.COUT_STAT_TAP : Fld := { base := 0x21400, hi := 9, lo := 0, acc := .ro, shape := (.step 4 32) }
def F.COUT_ALIGN_CNT_FIRED : Fld := { base := 0x21480, hi := 31, lo := 0, acc := .cnt, shape := (.step 4 32) }

def R.COUT_SEL_REFUSED : Reg := { base := 0x21080, fields := [F.COUT_SEL_REFUSED_REFUSED] }
def R.COUT_ALIGN_REFUSED : Reg := { base := 0x21084, fields := [F.COUT_ALIGN_REFUSED_REFUSED] }
def R.COUT_ALIGN_SKIPPED : Reg := { base := 0x21088, fields := [F.COUT_ALIGN_SKIPPED_SKIPPED] }
def R.COUT_SEL : Reg := { base := 0x21100, shape := (.step 4 32), fields := [F.COUT_SEL_SRC] }
def R.COUT_DRV : Reg := { base := 0x21180, shape := (.step 4 32), fields := [F.COUT_DRV_FORMAT, F.COUT_DRV_SWING, F.COUT_DRV_DCC_EN, F.COUT_DRV_INVERT, F.COUT_DRV_UNLOCK_ACT] }
def R.COUT_DLY : Reg := { base := 0x21200, shape := (.step 4 32), fields := [F.COUT_DLY_DELAY] }
def R.COUT_ALIGN_CFG : Reg := { base := 0x21280, shape := (.step 4 32), fields := [F.COUT_ALIGN_CFG_PERIOD, F.COUT_ALIGN_CFG_COUNT, F.COUT_ALIGN_CFG_WIDTH, F.COUT_ALIGN_CFG_EDGE_SEL] }
def R.COUT_ALIGN_POUND_LO : Reg := { base := 0x21300, shape := (.step 4 32), fields := [F.COUT_ALIGN_POUND_LO_POUND] }
def R.COUT_ALIGN_POUND_HI : Reg := { base := 0x21380, shape := (.step 4 32), fields := [F.COUT_ALIGN_POUND_HI_POUND] }
def R.COUT_STAT : Reg := { base := 0x21400, shape := (.step 4 32), fields := [F.COUT_STAT_CUR_SRC, F.COUT_STAT_PARKED, F.COUT_STAT_DCC_LOCK, F.COUT_STAT_WALKING, F.COUT_STAT_ALIGN_HIGH, F.COUT_STAT_ALIGN_RESULT, F.COUT_STAT_TAP] }
def R.COUT_ALIGN_CNT : Reg := { base := 0x21480, shape := (.step 4 32), fields := [F.COUT_ALIGN_CNT_FIRED] }

/-- The registers of page 0x021 in ascending offset. -/
def regsPage021 : List Reg :=
  [R.COUT_SEL_REFUSED, R.COUT_ALIGN_REFUSED, R.COUT_ALIGN_SKIPPED, R.COUT_SEL, R.COUT_DRV, R.COUT_DLY, R.COUT_ALIGN_CFG, R.COUT_ALIGN_POUND_LO] ++
  [R.COUT_ALIGN_POUND_HI, R.COUT_STAT, R.COUT_ALIGN_CNT]

/-! Page 0x030: 06_berth_ledger.md R173. -/

def F.LDG_CTRL_ECC_WB : Fld := { base := 0x30080, hi := 1, lo := 1, acc := .rw, reset := fun _ => 0x1, cfg := true }
def F.LDG_CTRL_REFRESH_EN : Fld := { base := 0x30080, hi := 0, lo := 0, acc := .rw, reset := fun _ => 0x1, cfg := true }
def F.LDG_REFRESH_CFG_PERIOD_LOG : Fld := { base := 0x30084, hi := 4, lo := 0, acc := .rw, reset := fun _ => 0x14, cfg := true }
def F.LDG_LOG_CFG_LOG_MODE : Fld := { base := 0x30088, hi := 1, lo := 0, acc := .rw, cfg := true }
def F.LDG_STAT_FILL_BUSY : Fld := { base := 0x300C0, hi := 31, lo := 31, acc := .ro }
def F.LDG_STAT_IND_BUSY : Fld := { base := 0x300C0, hi := 30, lo := 30, acc := .ro }
def F.LDG_STAT_REFRESH_POS : Fld := { base := 0x300C0, hi := 16, lo := 0, acc := .ro }
def F.LDG_EVT_IND_REFUSED : Fld := { base := 0x300C4, hi := 3, lo := 3, acc := .rc }
def F.LDG_EVT_UNCORR : Fld := { base := 0x300C4, hi := 2, lo := 2, acc := .rc }
def F.LDG_EVT_CORR : Fld := { base := 0x300C4, hi := 1, lo := 1, acc := .rc }
def F.LDG_EVT_FILL_DONE : Fld := { base := 0x300C4, hi := 0, lo := 0, acc := .rc }
def F.LDG_ECC_CORR_CNT_CORRECTED : Fld := { base := 0x300C8, hi := 31, lo := 0, acc := .cnt }
def F.LDG_ECC_UNCORR_CNT_UNCORRECTABLE : Fld := { base := 0x300CC, hi := 31, lo := 0, acc := .cnt }
def F.LDG_ECC_LAST_CWORD : Fld := { base := 0x300D0, hi := 21, lo := 20, acc := .ro }
def F.LDG_ECC_LAST_UNCORR : Fld := { base := 0x300D0, hi := 19, lo := 19, acc := .ro }
def F.LDG_ECC_LAST_BERTH : Fld := { base := 0x300D0, hi := 16, lo := 0, acc := .ro }
def F.LDG_REFRESH_CNT_SUBMITTED : Fld := { base := 0x300D4, hi := 31, lo := 0, acc := .cnt }

def R.LDG_CTRL : Reg := { base := 0x30080, fields := [F.LDG_CTRL_ECC_WB, F.LDG_CTRL_REFRESH_EN] }
def R.LDG_REFRESH_CFG : Reg := { base := 0x30084, fields := [F.LDG_REFRESH_CFG_PERIOD_LOG] }
def R.LDG_LOG_CFG : Reg := { base := 0x30088, fields := [F.LDG_LOG_CFG_LOG_MODE] }
def R.LDG_STAT : Reg := { base := 0x300C0, dom := .eng, fields := [F.LDG_STAT_FILL_BUSY, F.LDG_STAT_IND_BUSY, F.LDG_STAT_REFRESH_POS] }
def R.LDG_EVT : Reg := { base := 0x300C4, fields := [F.LDG_EVT_IND_REFUSED, F.LDG_EVT_UNCORR, F.LDG_EVT_CORR, F.LDG_EVT_FILL_DONE] }
def R.LDG_ECC_CORR_CNT : Reg := { base := 0x300C8, dom := .eng, fields := [F.LDG_ECC_CORR_CNT_CORRECTED] }
def R.LDG_ECC_UNCORR_CNT : Reg := { base := 0x300CC, dom := .eng, fields := [F.LDG_ECC_UNCORR_CNT_UNCORRECTABLE] }
def R.LDG_ECC_LAST : Reg := { base := 0x300D0, dom := .eng, fields := [F.LDG_ECC_LAST_CWORD, F.LDG_ECC_LAST_UNCORR, F.LDG_ECC_LAST_BERTH] }
def R.LDG_REFRESH_CNT : Reg := { base := 0x300D4, dom := .eng, fields := [F.LDG_REFRESH_CNT_SUBMITTED] }

/-- The registers of page 0x030 in ascending offset. -/
def regsPage030 : List Reg :=
  [R.LDG_CTRL, R.LDG_REFRESH_CFG, R.LDG_LOG_CFG, R.LDG_STAT, R.LDG_EVT, R.LDG_ECC_CORR_CNT, R.LDG_ECC_UNCORR_CNT, R.LDG_ECC_LAST] ++
  [R.LDG_REFRESH_CNT]

/-! Page 0x031: 07_frame_engines.md R200. -/

def F.ENG_CTRL_FENCE_TIMEOUT_LOG : Fld := { base := 0x31080, hi := 23, lo := 20, acc := .rw, reset := fun _ => 0xE, cfg := true }
def F.ENG_CTRL_STEAL_WEIR : Fld := { base := 0x31080, hi := 15, lo := 8, acc := .rw, reset := fun _ => 0x2, cfg := true }
def F.ENG_CTRL_RING_EN : Fld := { base := 0x31080, hi := 1, lo := 1, acc := .rw, reset := fun _ => 0x1, cfg := true }
def F.ENG_CTRL_STEAL_EN : Fld := { base := 0x31080, hi := 0, lo := 0, acc := .rw, reset := fun _ => 0x1, cfg := true }
def F.ENG_RESET_KPQ : Fld := { base := 0x31084, hi := 2, lo := 2, acc := .wsc }
def F.ENG_RESET_HCQ : Fld := { base := 0x31084, hi := 1, lo := 1, acc := .wsc }
def F.ENG_RESET_ENGINES : Fld := { base := 0x31084, hi := 0, lo := 0, acc := .wsc }
def F.ENG_HCQ_CTRL_FLUSH : Fld := { base := 0x31088, hi := 31, lo := 31, acc := .wsc }
def F.ENG_HCQ_CTRL_HIGH : Fld := { base := 0x31088, hi := 24, lo := 16, acc := .rw, reset := fun _ => 0x1C0, cfg := true }
def F.ENG_HCQ_CTRL_LOW : Fld := { base := 0x31088, hi := 8, lo := 0, acc := .rw, reset := fun _ => 0x40, cfg := true }
def F.ENG_STAT_RESET_BUSY : Fld := { base := 0x310C0, hi := 31, lo := 31, acc := .ro }
def F.ENG_STAT_FLUSH_BUSY : Fld := { base := 0x310C0, hi := 30, lo := 30, acc := .ro }
def F.ENG_EVT_SLICE_UNCORR : Fld := { base := 0x310C4, hi := 7, lo := 7, acc := .rc }
def F.ENG_EVT_LEASE_UNCORR : Fld := { base := 0x310C4, hi := 6, lo := 6, acc := .rc }
def F.ENG_EVT_FENCE_TIMEOUT : Fld := { base := 0x310C4, hi := 5, lo := 5, acc := .rc }
def F.ENG_EVT_SLICE_FULL : Fld := { base := 0x310C4, hi := 4, lo := 4, acc := .rc }
def F.ENG_EVT_HCQ_REFUSED : Fld := { base := 0x310C4, hi := 3, lo := 3, acc := .rc }
def F.ENG_EVT_HCQ_LOW : Fld := { base := 0x310C4, hi := 2, lo := 2, acc := .rc }
def F.ENG_EVT_HCQ_HIGH : Fld := { base := 0x310C4, hi := 1, lo := 1, acc := .rc }
def F.ENG_EVT_RESET_DONE : Fld := { base := 0x310C4, hi := 0, lo := 0, acc := .rc }
def F.ENG_LEASE_VOID_VOID : Fld := { base := 0x310C8, hi := 31, lo := 0, acc := .ro }
def F.ENG_HCQ_STAT_HELD : Fld := { base := 0x310CC, hi := 31, lo := 31, acc := .ro }
def F.ENG_HCQ_STAT_LEVEL : Fld := { base := 0x310CC, hi := 9, lo := 0, acc := .ro }
def F.ENG_HCQ_REFUSED_CNT_REFUSED : Fld := { base := 0x310D0, hi := 31, lo := 0, acc := .cnt }
def F.ENG_KPQ_STAT_LEVEL : Fld := { base := 0x310D4, hi := 5, lo := 0, acc := .ro }
def F.ENG_SLICE_SEL_ENGINE : Fld := { base := 0x310E0, hi := 5, lo := 0, acc := .rw }
def F.ENG_SLICE_STAT_MAX_DEPTH : Fld := { base := 0x310E4, hi := 23, lo := 16, acc := .ro, shape := (.bank 64) }
def F.ENG_SLICE_STAT_DEPTH : Fld := { base := 0x310E4, hi := 7, lo := 0, acc := .ro, shape := (.bank 64) }
def F.ENG_STEAL_CNT_RING : Fld := { base := 0x310E8, hi := 31, lo := 16, acc := .cnt, shape := (.bank 64) }
def F.ENG_STEAL_CNT_CLUSTER : Fld := { base := 0x310E8, hi := 15, lo := 0, acc := .cnt, shape := (.bank 64) }
def F.ENG_FENCE_FLAGS_WAITING : Fld := { base := 0x310F0, hi := 7, lo := 4, acc := .ro }
def F.ENG_FENCE_FLAGS_VALID : Fld := { base := 0x310F0, hi := 3, lo := 0, acc := .ro }
def F.ENG_FENCE_STAT_WAIT_NUM : Fld := { base := 0x31100, hi := 31, lo := 16, acc := .ro, shape := (.step 4 4) }
def F.ENG_FENCE_STAT_PASSED : Fld := { base := 0x31100, hi := 15, lo := 0, acc := .ro, shape := (.step 4 4) }
def F.ENG_CNT_CTRL_SNAP : Fld := { base := 0x31140, hi := 31, lo := 31, acc := .wsc }
def F.ENG_CNT_CTRL_DONE : Fld := { base := 0x31140, hi := 30, lo := 30, acc := .ro }
def F.ENG_CNT_CTRL_SRC : Fld := { base := 0x31140, hi := 1, lo := 0, acc := .rw }
def F.ENG_CNT_ACCEPTED_ACCEPTED : Fld := { base := 0x31144, hi := 31, lo := 0, acc := .ro, shape := (.bank 4) }
def F.ENG_CNT_APPLIED_APPLIED : Fld := { base := 0x31148, hi := 31, lo := 0, acc := .ro, shape := (.bank 4) }
def F.ENG_CNT_REJECTED_REJECTED : Fld := { base := 0x3114C, hi := 31, lo := 0, acc := .ro, shape := (.bank 4) }
def F.ENG_CNT_PENDING_PENDING : Fld := { base := 0x31150, hi := 31, lo := 0, acc := .ro, shape := (.bank 4) }
def F.ENG_CNT_DISCARDED_DISCARDED : Fld := { base := 0x31154, hi := 31, lo := 0, acc := .ro, shape := (.bank 4) }
def F.ENG_CNT_LATE_LATE : Fld := { base := 0x31158, hi := 31, lo := 0, acc := .ro, shape := (.bank 4) }
def F.ENG_HCQ_WIN_WORD : Fld := { base := 0x31200, hi := 31, lo := 0, acc := .rw, shape := (.step 4 128) }

def R.ENG_CTRL : Reg := { base := 0x31080, fields := [F.ENG_CTRL_FENCE_TIMEOUT_LOG, F.ENG_CTRL_STEAL_WEIR, F.ENG_CTRL_RING_EN, F.ENG_CTRL_STEAL_EN] }
def R.ENG_RESET : Reg := { base := 0x31084, fields := [F.ENG_RESET_KPQ, F.ENG_RESET_HCQ, F.ENG_RESET_ENGINES] }
def R.ENG_HCQ_CTRL : Reg := { base := 0x31088, fields := [F.ENG_HCQ_CTRL_FLUSH, F.ENG_HCQ_CTRL_HIGH, F.ENG_HCQ_CTRL_LOW] }
def R.ENG_STAT : Reg := { base := 0x310C0, dom := .eng, fields := [F.ENG_STAT_RESET_BUSY, F.ENG_STAT_FLUSH_BUSY] }
def R.ENG_EVT : Reg := { base := 0x310C4, dom := .eng, fields := [F.ENG_EVT_SLICE_UNCORR, F.ENG_EVT_LEASE_UNCORR, F.ENG_EVT_FENCE_TIMEOUT, F.ENG_EVT_SLICE_FULL, F.ENG_EVT_HCQ_REFUSED, F.ENG_EVT_HCQ_LOW, F.ENG_EVT_HCQ_HIGH, F.ENG_EVT_RESET_DONE] }
def R.ENG_LEASE_VOID : Reg := { base := 0x310C8, dom := .eng, fields := [F.ENG_LEASE_VOID_VOID] }
def R.ENG_HCQ_STAT : Reg := { base := 0x310CC, dom := .eng, fields := [F.ENG_HCQ_STAT_HELD, F.ENG_HCQ_STAT_LEVEL] }
def R.ENG_HCQ_REFUSED_CNT : Reg := { base := 0x310D0, dom := .eng, fields := [F.ENG_HCQ_REFUSED_CNT_REFUSED] }
def R.ENG_KPQ_STAT : Reg := { base := 0x310D4, dom := .eng, fields := [F.ENG_KPQ_STAT_LEVEL] }
def R.ENG_SLICE_SEL : Reg := { base := 0x310E0, fields := [F.ENG_SLICE_SEL_ENGINE] }
def R.ENG_SLICE_STAT : Reg := { base := 0x310E4, shape := (.bank 64), dom := .eng, sel := some F.ENG_SLICE_SEL_ENGINE, fields := [F.ENG_SLICE_STAT_MAX_DEPTH, F.ENG_SLICE_STAT_DEPTH] }
def R.ENG_STEAL_CNT : Reg := { base := 0x310E8, shape := (.bank 64), dom := .eng, sel := some F.ENG_SLICE_SEL_ENGINE, fields := [F.ENG_STEAL_CNT_RING, F.ENG_STEAL_CNT_CLUSTER] }
def R.ENG_FENCE_FLAGS : Reg := { base := 0x310F0, dom := .eng, fields := [F.ENG_FENCE_FLAGS_WAITING, F.ENG_FENCE_FLAGS_VALID] }
def R.ENG_FENCE_STAT : Reg := { base := 0x31100, shape := (.step 4 4), dom := .eng, fields := [F.ENG_FENCE_STAT_WAIT_NUM, F.ENG_FENCE_STAT_PASSED] }
def R.ENG_CNT_CTRL : Reg := { base := 0x31140, fields := [F.ENG_CNT_CTRL_SNAP, F.ENG_CNT_CTRL_DONE, F.ENG_CNT_CTRL_SRC] }
def R.ENG_CNT_ACCEPTED : Reg := { base := 0x31144, shape := (.bank 4), dom := .eng, sel := some F.ENG_CNT_CTRL_SRC, fields := [F.ENG_CNT_ACCEPTED_ACCEPTED] }
def R.ENG_CNT_APPLIED : Reg := { base := 0x31148, shape := (.bank 4), dom := .eng, sel := some F.ENG_CNT_CTRL_SRC, fields := [F.ENG_CNT_APPLIED_APPLIED] }
def R.ENG_CNT_REJECTED : Reg := { base := 0x3114C, shape := (.bank 4), dom := .eng, sel := some F.ENG_CNT_CTRL_SRC, fields := [F.ENG_CNT_REJECTED_REJECTED] }
def R.ENG_CNT_PENDING : Reg := { base := 0x31150, shape := (.bank 4), dom := .eng, sel := some F.ENG_CNT_CTRL_SRC, fields := [F.ENG_CNT_PENDING_PENDING] }
def R.ENG_CNT_DISCARDED : Reg := { base := 0x31154, shape := (.bank 4), dom := .eng, sel := some F.ENG_CNT_CTRL_SRC, fields := [F.ENG_CNT_DISCARDED_DISCARDED] }
def R.ENG_CNT_LATE : Reg := { base := 0x31158, shape := (.bank 4), dom := .eng, sel := some F.ENG_CNT_CTRL_SRC, fields := [F.ENG_CNT_LATE_LATE] }
def R.ENG_HCQ_WIN : Reg := { base := 0x31200, shape := (.step 4 128), fields := [F.ENG_HCQ_WIN_WORD] }

/-- The registers of page 0x031 in ascending offset. -/
def regsPage031 : List Reg :=
  [R.ENG_CTRL, R.ENG_RESET, R.ENG_HCQ_CTRL, R.ENG_STAT, R.ENG_EVT, R.ENG_LEASE_VOID, R.ENG_HCQ_STAT, R.ENG_HCQ_REFUSED_CNT] ++
  [R.ENG_KPQ_STAT, R.ENG_SLICE_SEL, R.ENG_SLICE_STAT, R.ENG_STEAL_CNT, R.ENG_FENCE_FLAGS, R.ENG_FENCE_STAT, R.ENG_CNT_CTRL, R.ENG_CNT_ACCEPTED] ++
  [R.ENG_CNT_APPLIED, R.ENG_CNT_REJECTED, R.ENG_CNT_PENDING, R.ENG_CNT_DISCARDED, R.ENG_CNT_LATE, R.ENG_HCQ_WIN]

/-! Page 0x032: 07_frame_engines.md R200. -/

def F.TT_CTRL_RUN : Fld := { base := 0x32080, hi := 31, lo := 31, acc := .rw }
def F.TT_CTRL_LOW : Fld := { base := 0x32080, hi := 15, lo := 0, acc := .rw, reset := fun _ => 0x1000, cfg := true }
def F.TT_END_END : Fld := { base := 0x32084, hi := 15, lo := 0, acc := .rw }
def F.TT_HEAD_HEAD : Fld := { base := 0x320C0, hi := 15, lo := 0, acc := .rwh }
def F.TT_STAT_RUNNING : Fld := { base := 0x320C4, hi := 31, lo := 31, acc := .ro }
def F.TT_STAT_STALLED : Fld := { base := 0x320C4, hi := 30, lo := 30, acc := .ro }
def F.TT_STAT_FENCE_WAIT : Fld := { base := 0x320C4, hi := 29, lo := 29, acc := .ro }
def F.TT_STAT_LEVEL : Fld := { base := 0x320C4, hi := 15, lo := 0, acc := .ro }
def F.TT_EVT_ORDER : Fld := { base := 0x320C8, hi := 3, lo := 3, acc := .rc }
def F.TT_EVT_STALL : Fld := { base := 0x320C8, hi := 2, lo := 2, acc := .rc }
def F.TT_EVT_EMPTY : Fld := { base := 0x320C8, hi := 1, lo := 1, acc := .rc }
def F.TT_EVT_LOW : Fld := { base := 0x320C8, hi := 0, lo := 0, acc := .rc }
def F.TT_RELEASED_CNT_RELEASED : Fld := { base := 0x320CC, hi := 31, lo := 0, acc := .cnt }
def F.TT_STALL_CNT_STALLS : Fld := { base := 0x320D0, hi := 31, lo := 0, acc := .cnt }

def R.TT_CTRL : Reg := { base := 0x32080, fields := [F.TT_CTRL_RUN, F.TT_CTRL_LOW] }
def R.TT_END : Reg := { base := 0x32084, fields := [F.TT_END_END] }
def R.TT_HEAD : Reg := { base := 0x320C0, dom := .eng, fields := [F.TT_HEAD_HEAD] }
def R.TT_STAT : Reg := { base := 0x320C4, dom := .eng, fields := [F.TT_STAT_RUNNING, F.TT_STAT_STALLED, F.TT_STAT_FENCE_WAIT, F.TT_STAT_LEVEL] }
def R.TT_EVT : Reg := { base := 0x320C8, dom := .eng, fields := [F.TT_EVT_ORDER, F.TT_EVT_STALL, F.TT_EVT_EMPTY, F.TT_EVT_LOW] }
def R.TT_RELEASED_CNT : Reg := { base := 0x320CC, dom := .eng, fields := [F.TT_RELEASED_CNT_RELEASED] }
def R.TT_STALL_CNT : Reg := { base := 0x320D0, dom := .eng, fields := [F.TT_STALL_CNT_STALLS] }

/-- The registers of page 0x032 in ascending offset. -/
def regsPage032 : List Reg :=
  [R.TT_CTRL, R.TT_END, R.TT_HEAD, R.TT_STAT, R.TT_EVT, R.TT_RELEASED_CNT, R.TT_STALL_CNT]

/-! Page 0x033: 08_decisions.md R217. -/

def F.DEC_CTRL_CLEAR : Fld := { base := 0x33080, hi := 31, lo := 31, acc := .wsc }
def F.DEC_CTRL_FLUSH : Fld := { base := 0x33080, hi := 30, lo := 30, acc := .wsc }
def F.DEC_CTRL_ACCEPT : Fld := { base := 0x33080, hi := 0, lo := 0, acc := .rw }
def F.DEC_CFG_MAX_AGE : Fld := { base := 0x33084, hi := 31, lo := 16, acc := .rw, reset := fun _ => 0x400, cfg := true }
def F.DEC_RESET_UNIT : Fld := { base := 0x33088, hi := 0, lo := 0, acc := .wsc }
def F.DEC_STAT_CLEAR_BUSY : Fld := { base := 0x330C0, hi := 31, lo := 31, acc := .ro }
def F.DEC_STAT_FLUSH_BUSY : Fld := { base := 0x330C0, hi := 30, lo := 30, acc := .ro }
def F.DEC_STAT_WAITING : Fld := { base := 0x330C0, hi := 29, lo := 29, acc := .ro }
def F.DEC_STAT_EVQ_LEVEL : Fld := { base := 0x330C0, hi := 21, lo := 11, acc := .ro }
def F.DEC_STAT_ACTQ_LEVEL : Fld := { base := 0x330C0, hi := 10, lo := 0, acc := .ro }
def F.DEC_DEFER_STAT_LEVEL : Fld := { base := 0x330C4, hi := 11, lo := 0, acc := .ro }
def F.DEC_EVT_LAST_CAPTURED : Fld := { base := 0x330C8, hi := 7, lo := 7, acc := .rc }
def F.DEC_EVT_SEQ_GAP : Fld := { base := 0x330C8, hi := 6, lo := 6, acc := .rc }
def F.DEC_EVT_LIST_OVERRUN : Fld := { base := 0x330C8, hi := 5, lo := 5, acc := .rc }
def F.DEC_EVT_EVQ_OVERRUN : Fld := { base := 0x330C8, hi := 4, lo := 4, acc := .rc }
def F.DEC_EVT_BAD_EVENT : Fld := { base := 0x330C8, hi := 3, lo := 3, acc := .rc }
def F.DEC_EVT_CLEAR_DONE : Fld := { base := 0x330C8, hi := 2, lo := 2, acc := .rc }
def F.DEC_EVT_FLUSH_DONE : Fld := { base := 0x330C8, hi := 1, lo := 1, acc := .rc }
def F.DEC_EVT_RESET_DONE : Fld := { base := 0x330C8, hi := 0, lo := 0, acc := .rc }
def F.DEC_CNT_SEL_REASON : Fld := { base := 0x330E0, hi := 3, lo := 0, acc := .rw }
def F.DEC_CNT_COUNT : Fld := { base := 0x330E4, hi := 31, lo := 0, acc := .cnt, shape := (.bank 16) }
def F.DEC_LAST_EVT0_EVENT : Fld := { base := 0x330F0, hi := 31, lo := 0, acc := .ro }
def F.DEC_LAST_EVT1_EVENT : Fld := { base := 0x330F4, hi := 31, lo := 0, acc := .ro }
def F.DEC_LAST_EVT2_EVENT : Fld := { base := 0x330F8, hi := 31, lo := 0, acc := .ro }
def F.DEC_LAST_EVT3_REASON : Fld := { base := 0x330FC, hi := 31, lo := 28, acc := .ro }
def F.DEC_LAST_EVT3_WHARF : Fld := { base := 0x330FC, hi := 27, lo := 20, acc := .ro }
def F.DEC_LAST_EVT3_EVENT : Fld := { base := 0x330FC, hi := 15, lo := 0, acc := .ro }

def R.DEC_CTRL : Reg := { base := 0x33080, fields := [F.DEC_CTRL_CLEAR, F.DEC_CTRL_FLUSH, F.DEC_CTRL_ACCEPT] }
def R.DEC_CFG : Reg := { base := 0x33084, fields := [F.DEC_CFG_MAX_AGE] }
def R.DEC_RESET : Reg := { base := 0x33088, fields := [F.DEC_RESET_UNIT] }
def R.DEC_STAT : Reg := { base := 0x330C0, dom := .eng, fields := [F.DEC_STAT_CLEAR_BUSY, F.DEC_STAT_FLUSH_BUSY, F.DEC_STAT_WAITING, F.DEC_STAT_EVQ_LEVEL, F.DEC_STAT_ACTQ_LEVEL] }
def R.DEC_DEFER_STAT : Reg := { base := 0x330C4, dom := .eng, fields := [F.DEC_DEFER_STAT_LEVEL] }
def R.DEC_EVT : Reg := { base := 0x330C8, dom := .eng, fields := [F.DEC_EVT_LAST_CAPTURED, F.DEC_EVT_SEQ_GAP, F.DEC_EVT_LIST_OVERRUN, F.DEC_EVT_EVQ_OVERRUN, F.DEC_EVT_BAD_EVENT, F.DEC_EVT_CLEAR_DONE, F.DEC_EVT_FLUSH_DONE, F.DEC_EVT_RESET_DONE] }
def R.DEC_CNT_SEL : Reg := { base := 0x330E0, fields := [F.DEC_CNT_SEL_REASON] }
def R.DEC_CNT : Reg := { base := 0x330E4, shape := (.bank 16), dom := .eng, sel := some F.DEC_CNT_SEL_REASON, fields := [F.DEC_CNT_COUNT] }
def R.DEC_LAST_EVT0 : Reg := { base := 0x330F0, dom := .eng, fields := [F.DEC_LAST_EVT0_EVENT] }
def R.DEC_LAST_EVT1 : Reg := { base := 0x330F4, dom := .eng, fields := [F.DEC_LAST_EVT1_EVENT] }
def R.DEC_LAST_EVT2 : Reg := { base := 0x330F8, dom := .eng, fields := [F.DEC_LAST_EVT2_EVENT] }
def R.DEC_LAST_EVT3 : Reg := { base := 0x330FC, dom := .eng, fields := [F.DEC_LAST_EVT3_REASON, F.DEC_LAST_EVT3_WHARF, F.DEC_LAST_EVT3_EVENT] }

/-- The registers of page 0x033 in ascending offset. -/
def regsPage033 : List Reg :=
  [R.DEC_CTRL, R.DEC_CFG, R.DEC_RESET, R.DEC_STAT, R.DEC_DEFER_STAT, R.DEC_EVT, R.DEC_CNT_SEL, R.DEC_CNT] ++
  [R.DEC_LAST_EVT0, R.DEC_LAST_EVT1, R.DEC_LAST_EVT2, R.DEC_LAST_EVT3]

/-! Page 0x038: 09_towpath.md R250. -/

def F.TOW_ROLE_TICK_FMT : Fld := { base := 0x38080, hi := 8, lo := 8, acc := .grd, reset := fun _ => 0x1, cfg := true }
def F.TOW_ROLE_LOAD_SRC : Fld := { base := 0x38080, hi := 5, lo := 4, acc := .grd, cfg := true }
def F.TOW_ROLE_AUTO_ALT : Fld := { base := 0x38080, hi := 3, lo := 3, acc := .grd, cfg := true }
def F.TOW_ROLE_ROLE : Fld := { base := 0x38080, hi := 2, lo := 0, acc := .grd, cfg := true }
def F.TOW_FOLLOW_ALT_WHARF : Fld := { base := 0x38084, hi := 15, lo := 8, acc := .grd, cfg := true }
def F.TOW_FOLLOW_PRI_WHARF : Fld := { base := 0x38084, hi := 7, lo := 0, acc := .grd, cfg := true }
def F.TOW_REALIGN_GO : Fld := { base := 0x38088, hi := 31, lo := 31, acc := .wsc }
def F.TOW_REALIGN_ALLOW_JUMP : Fld := { base := 0x38088, hi := 0, lo := 0, acc := .rw }
def F.TOW_SERVO_CFG_BW : Fld := { base := 0x3808C, hi := 31, lo := 30, acc := .rw, reset := fun _ => 0x1, cfg := true }
def F.TOW_SERVO_CFG_AVG : Fld := { base := 0x3808C, hi := 27, lo := 24, acc := .rw, reset := fun _ => 0xA, cfg := true }
def F.TOW_SERVO_CFG_STEER_MAX : Fld := { base := 0x3808C, hi := 23, lo := 16, acc := .rw, reset := fun _ => 0x14, cfg := true }
def F.TOW_SERVO_CFG_ALIGN_PPM : Fld := { base := 0x3808C, hi := 15, lo := 8, acc := .rw, reset := fun _ => 0xA, cfg := true }
def F.TOW_SERVO_CFG_HOLD_LOG : Fld := { base := 0x3808C, hi := 7, lo := 4, acc := .rw, reset := fun _ => 0xA, cfg := true }
def F.TOW_SERVO_CFG2_SLEW : Fld := { base := 0x38090, hi := 31, lo := 16, acc := .rw, reset := fun _ => 0x1388, cfg := true }
def F.TOW_SERVO_CFG2_ALIGN_WIN_PS : Fld := { base := 0x38090, hi := 15, lo := 0, acc := .rw, reset := fun _ => 0x32, cfg := true }
def F.TOW_STEP_CFG_RETURN_N : Fld := { base := 0x38094, hi := 31, lo := 24, acc := .rw, reset := fun _ => 0x8, cfg := true }
def F.TOW_STEP_CFG_STEP_PS : Fld := { base := 0x38094, hi := 15, lo := 0, acc := .rw, reset := fun _ => 0x14, cfg := true }
def F.TOW_SKEW_CFG_ALT_TOL : Fld := { base := 0x38098, hi := 31, lo := 16, acc := .rw, reset := fun _ => 0x3E8, cfg := true }
def F.TOW_SKEW_CFG_SKEW_LIM : Fld := { base := 0x38098, hi := 15, lo := 0, acc := .rw, reset := fun _ => 0x1F4, cfg := true }
def F.TOW_TICK_CFG_TICK_OUT_EN : Fld := { base := 0x3809C, hi := 31, lo := 31, acc := .rw, cfg := true }
def F.TOW_TICK_CFG_TICK_DELAY_PS : Fld := { base := 0x3809C, hi := 23, lo := 0, acc := .rw, cfg := true }
def F.TOW_PPS_CFG_PPS_OUT_EN : Fld := { base := 0x380A0, hi := 31, lo := 31, acc := .rw, cfg := true }
def F.TOW_PPS_CFG_PPS_IN_EN : Fld := { base := 0x380A0, hi := 30, lo := 30, acc := .rw, cfg := true }
def F.TOW_PPS_CFG_PPS_IN_DELAY_PS : Fld := { base := 0x380A0, hi := 23, lo := 0, acc := .rw, cfg := true }
def F.TOW_PPS_TOL_TOL_NS : Fld := { base := 0x380A4, hi := 31, lo := 0, acc := .rw, reset := fun _ => 0x3E8, cfg := true }
def F.TOW_PPS_OUT_WIDTH_WIDTH : Fld := { base := 0x380A8, hi := 25, lo := 0, acc := .rw, reset := fun _ => 0x5F5E10, cfg := true }
def F.TOW_PPS_OUT_OFFSET_OFFSET : Fld := { base := 0x380AC, hi := 25, lo := 0, acc := .rw, cfg := true }
def F.TOW_LOAD_LO_POUND : Fld := { base := 0x380B0, hi := 31, lo := 0, acc := .rw }
def F.TOW_LOAD_HI_POUND : Fld := { base := 0x380B4, hi := 31, lo := 0, acc := .rw }
def F.TOW_EPOCH_LO_SECONDS : Fld := { base := 0x380B8, hi := 31, lo := 0, acc := .rwh, cfg := true }
def F.TOW_EPOCH_HI_EPOCH_VALID : Fld := { base := 0x380BC, hi := 31, lo := 31, acc := .rwh, cfg := true }
def F.TOW_EPOCH_HI_SECONDS : Fld := { base := 0x380BC, hi := 15, lo := 0, acc := .rwh, cfg := true }
def F.TOW_STAT_ALIGNED : Fld := { base := 0x380C0, hi := 31, lo := 31, acc := .ro }
def F.TOW_STAT_HOLDOVER : Fld := { base := 0x380C0, hi := 30, lo := 30, acc := .ro }
def F.TOW_STAT_ALIGNING : Fld := { base := 0x380C0, hi := 29, lo := 29, acc := .ro }
def F.TOW_STAT_SRC_OK : Fld := { base := 0x380C0, hi := 28, lo := 28, acc := .ro }
def F.TOW_STAT_REALIGN_NEEDED : Fld := { base := 0x380C0, hi := 27, lo := 27, acc := .ro }
def F.TOW_STAT_USING_ALT : Fld := { base := 0x380C0, hi := 26, lo := 26, acc := .ro }
def F.TOW_STAT_MPL0_HOLD : Fld := { base := 0x380C0, hi := 25, lo := 25, acc := .ro }
def F.TOW_STAT_SERVO_PAUSED : Fld := { base := 0x380C0, hi := 24, lo := 24, acc := .ro }
def F.TOW_STAT_DEPTH : Fld := { base := 0x380C0, hi := 23, lo := 20, acc := .ro }
def F.TOW_STAT_TOD_VALID : Fld := { base := 0x380C0, hi := 19, lo := 19, acc := .ro }
def F.TOW_STAT_ROLE : Fld := { base := 0x380C0, hi := 18, lo := 16, acc := .ro }
def F.TOW_EVT_REALIGN_DONE : Fld := { base := 0x380C4, hi := 12, lo := 12, acc := .rc }
def F.TOW_EVT_STEP_RETURNED : Fld := { base := 0x380C4, hi := 11, lo := 11, acc := .rc }
def F.TOW_EVT_POUND_MISMATCH : Fld := { base := 0x380C4, hi := 10, lo := 10, acc := .rc }
def F.TOW_EVT_PARTNER_SKEW : Fld := { base := 0x380C4, hi := 9, lo := 9, acc := .rc }
def F.TOW_EVT_PPS_STEP : Fld := { base := 0x380C4, hi := 8, lo := 8, acc := .rc }
def F.TOW_EVT_LOOP : Fld := { base := 0x380C4, hi := 7, lo := 7, acc := .rc }
def F.TOW_EVT_ALT_SWITCH : Fld := { base := 0x380C4, hi := 6, lo := 6, acc := .rc }
def F.TOW_EVT_DELAY_STEP : Fld := { base := 0x380C4, hi := 5, lo := 5, acc := .rc }
def F.TOW_EVT_SRC_LOST : Fld := { base := 0x380C4, hi := 4, lo := 4, acc := .rc }
def F.TOW_EVT_JUMPED : Fld := { base := 0x380C4, hi := 3, lo := 3, acc := .rc }
def F.TOW_EVT_HOLDOVER_LEFT : Fld := { base := 0x380C4, hi := 2, lo := 2, acc := .rc }
def F.TOW_EVT_HOLDOVER_ENTERED : Fld := { base := 0x380C4, hi := 1, lo := 1, acc := .rc }
def F.TOW_EVT_ALIGNED_SET : Fld := { base := 0x380C4, hi := 0, lo := 0, acc := .rc }
def F.TOW_POUND_LO_POUND : Fld := { base := 0x380C8, hi := 31, lo := 0, acc := .ro }
def F.TOW_OFFSET_THETA_PS : Fld := { base := 0x380CC, hi := 31, lo := 0, acc := .ro }
def F.TOW_STEER_S : Fld := { base := 0x380D0, hi := 31, lo := 0, acc := .ro }
def F.TOW_JUMP_J : Fld := { base := 0x380D4, hi := 31, lo := 0, acc := .ro }
def F.TOW_PPS_CNT_SPURIOUS : Fld := { base := 0x380D8, hi := 31, lo := 16, acc := .cnt }
def F.TOW_PPS_CNT_ACCEPTED : Fld := { base := 0x380D8, hi := 15, lo := 0, acc := .cnt }
def F.TOW_TICK_ERR_CNT_CRC_ERR : Fld := { base := 0x380DC, hi := 31, lo := 16, acc := .cnt }
def F.TOW_TICK_ERR_CNT_MISSING : Fld := { base := 0x380DC, hi := 15, lo := 0, acc := .cnt }
def F.TOW_WHF_SEL_WHARF : Fld := { base := 0x380E0, hi := 7, lo := 0, acc := .rw }
def F.TOW_WHF_STAT_STEP : Fld := { base := 0x380E4, hi := 31, lo := 31, acc := .ro, shape := (.bank 256) }
def F.TOW_WHF_STAT_UNTRUSTED : Fld := { base := 0x380E4, hi := 30, lo := 30, acc := .ro, shape := (.bank 256) }
def F.TOW_WHF_STAT_SKEW : Fld := { base := 0x380E4, hi := 29, lo := 29, acc := .ro, shape := (.bank 256) }
def F.TOW_WHF_STAT_REPORT_OK : Fld := { base := 0x380E4, hi := 28, lo := 28, acc := .ro, shape := (.bank 256) }
def F.TOW_WHF_STAT_FAR_ROLE : Fld := { base := 0x380E4, hi := 27, lo := 26, acc := .ro, shape := (.bank 256) }
def F.TOW_WHF_STAT_FAR_HOLDOVER : Fld := { base := 0x380E4, hi := 25, lo := 25, acc := .ro, shape := (.bank 256) }
def F.TOW_WHF_STAT_FAR_ALIGNED : Fld := { base := 0x380E4, hi := 24, lo := 24, acc := .ro, shape := (.bank 256) }
def F.TOW_WHF_STAT_FAR_DEPTH : Fld := { base := 0x380E4, hi := 23, lo := 20, acc := .ro, shape := (.bank 256) }
def F.TOW_WHF_STAT_MISSING : Fld := { base := 0x380E4, hi := 15, lo := 0, acc := .ro, shape := (.bank 256) }
def F.TOW_WHF_RTT_RTT_REF : Fld := { base := 0x380E8, hi := 31, lo := 0, acc := .ro, shape := (.bank 256) }
def F.TOW_WHF_LAST_RTT_M : Fld := { base := 0x380EC, hi := 31, lo := 0, acc := .ro, shape := (.bank 256) }
def F.TOW_WHF_OFFSET_THETA_PS : Fld := { base := 0x380F0, hi := 31, lo := 0, acc := .ro, shape := (.bank 256) }
def F.TOW_WHF_NEW_ASYM_ASYM_PS : Fld := { base := 0x380F4, hi := 31, lo := 0, acc := .rw }
def F.TOW_WHF_RESOLVE_REF_CAPTURE : Fld := { base := 0x380F8, hi := 31, lo := 31, acc := .wsc }
def F.TOW_WHF_RESOLVE_ACTION : Fld := { base := 0x380F8, hi := 1, lo := 0, acc := .wsc }
def F.TOW_WHF_STEP_CNT_STEPS : Fld := { base := 0x380FC, hi := 31, lo := 0, acc := .cnt, shape := (.bank 256) }

def R.TOW_ROLE : Reg := { base := 0x38080, fields := [F.TOW_ROLE_TICK_FMT, F.TOW_ROLE_LOAD_SRC, F.TOW_ROLE_AUTO_ALT, F.TOW_ROLE_ROLE] }
def R.TOW_FOLLOW : Reg := { base := 0x38084, fields := [F.TOW_FOLLOW_ALT_WHARF, F.TOW_FOLLOW_PRI_WHARF] }
def R.TOW_REALIGN : Reg := { base := 0x38088, fields := [F.TOW_REALIGN_GO, F.TOW_REALIGN_ALLOW_JUMP] }
def R.TOW_SERVO_CFG : Reg := { base := 0x3808C, fields := [F.TOW_SERVO_CFG_BW, F.TOW_SERVO_CFG_AVG, F.TOW_SERVO_CFG_STEER_MAX, F.TOW_SERVO_CFG_ALIGN_PPM, F.TOW_SERVO_CFG_HOLD_LOG] }
def R.TOW_SERVO_CFG2 : Reg := { base := 0x38090, fields := [F.TOW_SERVO_CFG2_SLEW, F.TOW_SERVO_CFG2_ALIGN_WIN_PS] }
def R.TOW_STEP_CFG : Reg := { base := 0x38094, fields := [F.TOW_STEP_CFG_RETURN_N, F.TOW_STEP_CFG_STEP_PS] }
def R.TOW_SKEW_CFG : Reg := { base := 0x38098, fields := [F.TOW_SKEW_CFG_ALT_TOL, F.TOW_SKEW_CFG_SKEW_LIM] }
def R.TOW_TICK_CFG : Reg := { base := 0x3809C, fields := [F.TOW_TICK_CFG_TICK_OUT_EN, F.TOW_TICK_CFG_TICK_DELAY_PS] }
def R.TOW_PPS_CFG : Reg := { base := 0x380A0, fields := [F.TOW_PPS_CFG_PPS_OUT_EN, F.TOW_PPS_CFG_PPS_IN_EN, F.TOW_PPS_CFG_PPS_IN_DELAY_PS] }
def R.TOW_PPS_TOL : Reg := { base := 0x380A4, fields := [F.TOW_PPS_TOL_TOL_NS] }
def R.TOW_PPS_OUT_WIDTH : Reg := { base := 0x380A8, fields := [F.TOW_PPS_OUT_WIDTH_WIDTH] }
def R.TOW_PPS_OUT_OFFSET : Reg := { base := 0x380AC, fields := [F.TOW_PPS_OUT_OFFSET_OFFSET] }
def R.TOW_LOAD_LO : Reg := { base := 0x380B0, fields := [F.TOW_LOAD_LO_POUND] }
def R.TOW_LOAD_HI : Reg := { base := 0x380B4, fields := [F.TOW_LOAD_HI_POUND] }
def R.TOW_EPOCH_LO : Reg := { base := 0x380B8, fields := [F.TOW_EPOCH_LO_SECONDS] }
def R.TOW_EPOCH_HI : Reg := { base := 0x380BC, fields := [F.TOW_EPOCH_HI_EPOCH_VALID, F.TOW_EPOCH_HI_SECONDS] }
def R.TOW_STAT : Reg := { base := 0x380C0, dom := .tow, fields := [F.TOW_STAT_ALIGNED, F.TOW_STAT_HOLDOVER, F.TOW_STAT_ALIGNING, F.TOW_STAT_SRC_OK, F.TOW_STAT_REALIGN_NEEDED, F.TOW_STAT_USING_ALT, F.TOW_STAT_MPL0_HOLD, F.TOW_STAT_SERVO_PAUSED, F.TOW_STAT_DEPTH, F.TOW_STAT_TOD_VALID, F.TOW_STAT_ROLE] }
def R.TOW_EVT : Reg := { base := 0x380C4, dom := .tow, fields := [F.TOW_EVT_REALIGN_DONE, F.TOW_EVT_STEP_RETURNED, F.TOW_EVT_POUND_MISMATCH, F.TOW_EVT_PARTNER_SKEW, F.TOW_EVT_PPS_STEP, F.TOW_EVT_LOOP, F.TOW_EVT_ALT_SWITCH, F.TOW_EVT_DELAY_STEP, F.TOW_EVT_SRC_LOST, F.TOW_EVT_JUMPED, F.TOW_EVT_HOLDOVER_LEFT, F.TOW_EVT_HOLDOVER_ENTERED, F.TOW_EVT_ALIGNED_SET] }
def R.TOW_POUND_LO : Reg := { base := 0x380C8, dom := .tow, fields := [F.TOW_POUND_LO_POUND] }
def R.TOW_OFFSET : Reg := { base := 0x380CC, dom := .tow, fields := [F.TOW_OFFSET_THETA_PS] }
def R.TOW_STEER : Reg := { base := 0x380D0, dom := .tow, fields := [F.TOW_STEER_S] }
def R.TOW_JUMP : Reg := { base := 0x380D4, dom := .tow, fields := [F.TOW_JUMP_J] }
def R.TOW_PPS_CNT : Reg := { base := 0x380D8, dom := .tow, fields := [F.TOW_PPS_CNT_SPURIOUS, F.TOW_PPS_CNT_ACCEPTED] }
def R.TOW_TICK_ERR_CNT : Reg := { base := 0x380DC, dom := .tow, fields := [F.TOW_TICK_ERR_CNT_CRC_ERR, F.TOW_TICK_ERR_CNT_MISSING] }
def R.TOW_WHF_SEL : Reg := { base := 0x380E0, fields := [F.TOW_WHF_SEL_WHARF] }
def R.TOW_WHF_STAT : Reg := { base := 0x380E4, shape := (.bank 256), dom := .tow, sel := some F.TOW_WHF_SEL_WHARF, fields := [F.TOW_WHF_STAT_STEP, F.TOW_WHF_STAT_UNTRUSTED, F.TOW_WHF_STAT_SKEW, F.TOW_WHF_STAT_REPORT_OK, F.TOW_WHF_STAT_FAR_ROLE, F.TOW_WHF_STAT_FAR_HOLDOVER, F.TOW_WHF_STAT_FAR_ALIGNED, F.TOW_WHF_STAT_FAR_DEPTH, F.TOW_WHF_STAT_MISSING] }
def R.TOW_WHF_RTT : Reg := { base := 0x380E8, shape := (.bank 256), dom := .tow, sel := some F.TOW_WHF_SEL_WHARF, fields := [F.TOW_WHF_RTT_RTT_REF] }
def R.TOW_WHF_LAST : Reg := { base := 0x380EC, shape := (.bank 256), dom := .tow, sel := some F.TOW_WHF_SEL_WHARF, fields := [F.TOW_WHF_LAST_RTT_M] }
def R.TOW_WHF_OFFSET : Reg := { base := 0x380F0, shape := (.bank 256), dom := .tow, sel := some F.TOW_WHF_SEL_WHARF, fields := [F.TOW_WHF_OFFSET_THETA_PS] }
def R.TOW_WHF_NEW_ASYM : Reg := { base := 0x380F4, fields := [F.TOW_WHF_NEW_ASYM_ASYM_PS] }
def R.TOW_WHF_RESOLVE : Reg := { base := 0x380F8, fields := [F.TOW_WHF_RESOLVE_REF_CAPTURE, F.TOW_WHF_RESOLVE_ACTION] }
def R.TOW_WHF_STEP_CNT : Reg := { base := 0x380FC, shape := (.bank 256), dom := .tow, sel := some F.TOW_WHF_SEL_WHARF, fields := [F.TOW_WHF_STEP_CNT_STEPS] }

/-- The registers of page 0x038 in ascending offset. -/
def regsPage038 : List Reg :=
  [R.TOW_ROLE, R.TOW_FOLLOW, R.TOW_REALIGN, R.TOW_SERVO_CFG, R.TOW_SERVO_CFG2, R.TOW_STEP_CFG, R.TOW_SKEW_CFG, R.TOW_TICK_CFG] ++
  [R.TOW_PPS_CFG, R.TOW_PPS_TOL, R.TOW_PPS_OUT_WIDTH, R.TOW_PPS_OUT_OFFSET, R.TOW_LOAD_LO, R.TOW_LOAD_HI, R.TOW_EPOCH_LO, R.TOW_EPOCH_HI] ++
  [R.TOW_STAT, R.TOW_EVT, R.TOW_POUND_LO, R.TOW_OFFSET, R.TOW_STEER, R.TOW_JUMP, R.TOW_PPS_CNT, R.TOW_TICK_ERR_CNT] ++
  [R.TOW_WHF_SEL, R.TOW_WHF_STAT, R.TOW_WHF_RTT, R.TOW_WHF_LAST, R.TOW_WHF_OFFSET, R.TOW_WHF_NEW_ASYM, R.TOW_WHF_RESOLVE, R.TOW_WHF_STEP_CNT]

/-! Page 0x039: 09_towpath.md R250. -/

def F.TPT_CTRL_MODE : Fld := { base := 0x39080, hi := 31, lo := 30, acc := .rw, cfg := true }
def F.TPT_CTRL_IF : Fld := { base := 0x39080, hi := 29, lo := 29, acc := .rw, cfg := true }
def F.TPT_CTRL_AN_EN : Fld := { base := 0x39080, hi := 28, lo := 28, acc := .rw, reset := fun _ => 0x1, cfg := true }
def F.TPT_CTRL_UDP_EN : Fld := { base := 0x39080, hi := 25, lo := 25, acc := .rw, reset := fun _ => 0x1, cfg := true }
def F.TPT_CTRL_L2_EN : Fld := { base := 0x39080, hi := 24, lo := 24, acc := .rw, reset := fun _ => 0x1, cfg := true }
def F.TPT_CTRL_DOMAIN : Fld := { base := 0x39080, hi := 15, lo := 8, acc := .rw, cfg := true }
def F.TPT_MAC_LO_MAC : Fld := { base := 0x39084, hi := 31, lo := 0, acc := .rw, cfg := true }
def F.TPT_MAC_HI_MAC : Fld := { base := 0x39088, hi := 15, lo := 0, acc := .rw, cfg := true }
def F.TPT_IPV4_ADDR : Fld := { base := 0x3908C, hi := 31, lo := 0, acc := .rw, cfg := true }
def F.TPT_STAT_LINK : Fld := { base := 0x390C0, hi := 31, lo := 31, acc := .ro }
def F.TPT_STAT_AN_DONE : Fld := { base := 0x390C0, hi := 30, lo := 30, acc := .ro }
def F.TPT_STAT_PORT_STATE : Fld := { base := 0x390C0, hi := 27, lo := 24, acc := .ro }
def F.TPT_STAT_TS_VALID : Fld := { base := 0x390C0, hi := 19, lo := 16, acc := .ro }
def F.TPT_STAT_RX_LEVEL : Fld := { base := 0x390C0, hi := 12, lo := 8, acc := .ro }
def F.TPT_STAT_RX_HEAD : Fld := { base := 0x390C0, hi := 7, lo := 4, acc := .ro }
def F.TPT_STAT_TX_BUSY : Fld := { base := 0x390C0, hi := 1, lo := 0, acc := .ro }
def F.TPT_EVT_LINK_CHANGE : Fld := { base := 0x390C4, hi := 7, lo := 7, acc := .rc }
def F.TPT_EVT_STATE_CHANGE : Fld := { base := 0x390C4, hi := 6, lo := 6, acc := .rc }
def F.TPT_EVT_TS_OVERRUN : Fld := { base := 0x390C4, hi := 5, lo := 5, acc := .rc }
def F.TPT_EVT_TS_AVAIL : Fld := { base := 0x390C4, hi := 4, lo := 4, acc := .rc }
def F.TPT_EVT_TX_REFUSED : Fld := { base := 0x390C4, hi := 3, lo := 3, acc := .rc }
def F.TPT_EVT_TX_DONE : Fld := { base := 0x390C4, hi := 2, lo := 2, acc := .rc }
def F.TPT_EVT_RX_DROP : Fld := { base := 0x390C4, hi := 1, lo := 1, acc := .rc }
def F.TPT_EVT_RX_AVAIL : Fld := { base := 0x390C4, hi := 0, lo := 0, acc := .rc }
def F.TPT_TOD_OFFSET_OFFSET_NS : Fld := { base := 0x390C8, hi := 31, lo := 0, acc := .ro }
def F.TPT_PATH_DELAY_DELAY_PS : Fld := { base := 0x390CC, hi := 31, lo := 0, acc := .ro }
def F.TPT_UTC_LEAP59 : Fld := { base := 0x390D0, hi := 18, lo := 18, acc := .ro }
def F.TPT_UTC_LEAP61 : Fld := { base := 0x390D0, hi := 17, lo := 17, acc := .ro }
def F.TPT_UTC_UTC_VALID : Fld := { base := 0x390D0, hi := 16, lo := 16, acc := .ro }
def F.TPT_UTC_UTC_OFFSET : Fld := { base := 0x390D0, hi := 15, lo := 0, acc := .ro }
def F.TPT_RX_REL_GO : Fld := { base := 0x390D4, hi := 0, lo := 0, acc := .wsc }
def F.TPT_TX_CTRL_GO : Fld := { base := 0x390D8, hi := 31, lo := 31, acc := .wsc }
def F.TPT_TX_CTRL_BUF : Fld := { base := 0x390D8, hi := 30, lo := 30, acc := .rw }
def F.TPT_TX_CTRL_PTP_OFS : Fld := { base := 0x390D8, hi := 23, lo := 16, acc := .rw, reset := fun _ => 0xE }
def F.TPT_TX_CTRL_LEN : Fld := { base := 0x390D8, hi := 8, lo := 0, acc := .rw, reset := fun _ => 0xE }
def F.TPT_TXTS_REL_REL : Fld := { base := 0x390DC, hi := 3, lo := 0, acc := .wsc }
def F.TPT_TXTS_OVF_CNT_DROPPED : Fld := { base := 0x390E0, hi := 31, lo := 0, acc := .cnt }
def F.TPT_RX_DROP_CNT_DROPPED : Fld := { base := 0x390E4, hi := 31, lo := 0, acc := .cnt }
def F.TPT_TXTS_KEY_DOMAIN : Fld := { base := 0x39100, hi := 31, lo := 24, acc := .ro, shape := (.step 4 4) }
def F.TPT_TXTS_KEY_MSG_TYPE : Fld := { base := 0x39100, hi := 23, lo := 20, acc := .ro, shape := (.step 4 4) }
def F.TPT_TXTS_KEY_SEQ_ID : Fld := { base := 0x39100, hi := 15, lo := 0, acc := .ro, shape := (.step 4 4) }
def F.TPT_TXTS_PLO_POUND : Fld := { base := 0x39110, hi := 31, lo := 0, acc := .ro, shape := (.step 4 4) }
def F.TPT_TXTS_PHI_POUND : Fld := { base := 0x39120, hi := 31, lo := 0, acc := .ro, shape := (.step 4 4) }
def F.TPT_TXTS_FRAC_FRAC : Fld := { base := 0x39130, hi := 31, lo := 8, acc := .ro, shape := (.step 4 4) }
def F.TPT_TXTS_FRAC_VALID : Fld := { base := 0x39130, hi := 0, lo := 0, acc := .ro, shape := (.step 4 4) }

def R.TPT_CTRL : Reg := { base := 0x39080, fields := [F.TPT_CTRL_MODE, F.TPT_CTRL_IF, F.TPT_CTRL_AN_EN, F.TPT_CTRL_UDP_EN, F.TPT_CTRL_L2_EN, F.TPT_CTRL_DOMAIN] }
def R.TPT_MAC_LO : Reg := { base := 0x39084, fields := [F.TPT_MAC_LO_MAC] }
def R.TPT_MAC_HI : Reg := { base := 0x39088, fields := [F.TPT_MAC_HI_MAC] }
def R.TPT_IPV4 : Reg := { base := 0x3908C, fields := [F.TPT_IPV4_ADDR] }
def R.TPT_STAT : Reg := { base := 0x390C0, dom := .tpx, fields := [F.TPT_STAT_LINK, F.TPT_STAT_AN_DONE, F.TPT_STAT_PORT_STATE, F.TPT_STAT_TS_VALID, F.TPT_STAT_RX_LEVEL, F.TPT_STAT_RX_HEAD, F.TPT_STAT_TX_BUSY] }
def R.TPT_EVT : Reg := { base := 0x390C4, dom := .tpx, fields := [F.TPT_EVT_LINK_CHANGE, F.TPT_EVT_STATE_CHANGE, F.TPT_EVT_TS_OVERRUN, F.TPT_EVT_TS_AVAIL, F.TPT_EVT_TX_REFUSED, F.TPT_EVT_TX_DONE, F.TPT_EVT_RX_DROP, F.TPT_EVT_RX_AVAIL] }
def R.TPT_TOD_OFFSET : Reg := { base := 0x390C8, dom := .tpx, fields := [F.TPT_TOD_OFFSET_OFFSET_NS] }
def R.TPT_PATH_DELAY : Reg := { base := 0x390CC, dom := .tpx, fields := [F.TPT_PATH_DELAY_DELAY_PS] }
def R.TPT_UTC : Reg := { base := 0x390D0, dom := .tpx, fields := [F.TPT_UTC_LEAP59, F.TPT_UTC_LEAP61, F.TPT_UTC_UTC_VALID, F.TPT_UTC_UTC_OFFSET] }
def R.TPT_RX_REL : Reg := { base := 0x390D4, fields := [F.TPT_RX_REL_GO] }
def R.TPT_TX_CTRL : Reg := { base := 0x390D8, fields := [F.TPT_TX_CTRL_GO, F.TPT_TX_CTRL_BUF, F.TPT_TX_CTRL_PTP_OFS, F.TPT_TX_CTRL_LEN] }
def R.TPT_TXTS_REL : Reg := { base := 0x390DC, fields := [F.TPT_TXTS_REL_REL] }
def R.TPT_TXTS_OVF_CNT : Reg := { base := 0x390E0, dom := .tpx, fields := [F.TPT_TXTS_OVF_CNT_DROPPED] }
def R.TPT_RX_DROP_CNT : Reg := { base := 0x390E4, dom := .tpx, fields := [F.TPT_RX_DROP_CNT_DROPPED] }
def R.TPT_TXTS_KEY : Reg := { base := 0x39100, shape := (.step 4 4), dom := .tpx, fields := [F.TPT_TXTS_KEY_DOMAIN, F.TPT_TXTS_KEY_MSG_TYPE, F.TPT_TXTS_KEY_SEQ_ID] }
def R.TPT_TXTS_PLO : Reg := { base := 0x39110, shape := (.step 4 4), dom := .tpx, fields := [F.TPT_TXTS_PLO_POUND] }
def R.TPT_TXTS_PHI : Reg := { base := 0x39120, shape := (.step 4 4), dom := .tpx, fields := [F.TPT_TXTS_PHI_POUND] }
def R.TPT_TXTS_FRAC : Reg := { base := 0x39130, shape := (.step 4 4), dom := .tpx, fields := [F.TPT_TXTS_FRAC_FRAC, F.TPT_TXTS_FRAC_VALID] }

/-- The registers of page 0x039 in ascending offset. -/
def regsPage039 : List Reg :=
  [R.TPT_CTRL, R.TPT_MAC_LO, R.TPT_MAC_HI, R.TPT_IPV4, R.TPT_STAT, R.TPT_EVT, R.TPT_TOD_OFFSET, R.TPT_PATH_DELAY] ++
  [R.TPT_UTC, R.TPT_RX_REL, R.TPT_TX_CTRL, R.TPT_TXTS_REL, R.TPT_TXTS_OVF_CNT, R.TPT_RX_DROP_CNT, R.TPT_TXTS_KEY, R.TPT_TXTS_PLO] ++
  [R.TPT_TXTS_PHI, R.TPT_TXTS_FRAC]

/-! Page 0x03C: 10_wharves_lanes.md R280. -/

def F.WHF_TRAIN_CFG_STAGGER_MS : Fld := { base := 0x3C080, hi := 31, lo := 28, acc := .rw, reset := fun _ => 0x4, cfg := true }
def F.WHF_TRAIN_CFG_QUADS_PER_GROUP : Fld := { base := 0x3C080, hi := 27, lo := 20, acc := .rw, reset := fun _ => 0x8, cfg := true }
def F.WHF_TRAIN_CFG_BACKOFF_CAP_LOG : Fld := { base := 0x3C080, hi := 19, lo := 16, acc := .rw, reset := fun _ => 0x8, cfg := true }
def F.WHF_TRAIN_CFG_DEADLINE_US : Fld := { base := 0x3C080, hi := 15, lo := 0, acc := .rw, reset := fun _ => 0x7D0, cfg := true }
def F.WHF_LINK_CFG_EXCH_TIMEOUT : Fld := { base := 0x3C084, hi := 31, lo := 16, acc := .rw, reset := fun _ => 0x400, cfg := true }
def F.WHF_LINK_CFG_DESKEW_MAX_NS : Fld := { base := 0x3C084, hi := 15, lo := 8, acc := .rw, reset := fun _ => 0x18, cfg := true }
def F.WHF_TRAINED_TRAINED : Fld := { base := 0x3C0C0, hi := 31, lo := 0, acc := .ro, shape := (.step 4 8) }
def F.WHF_DOWN_EVT_DOWN : Fld := { base := 0x3C0E0, hi := 31, lo := 0, acc := .rc, shape := (.step 4 8) }

def R.WHF_TRAIN_CFG : Reg := { base := 0x3C080, fields := [F.WHF_TRAIN_CFG_STAGGER_MS, F.WHF_TRAIN_CFG_QUADS_PER_GROUP, F.WHF_TRAIN_CFG_BACKOFF_CAP_LOG, F.WHF_TRAIN_CFG_DEADLINE_US] }
def R.WHF_LINK_CFG : Reg := { base := 0x3C084, fields := [F.WHF_LINK_CFG_EXCH_TIMEOUT, F.WHF_LINK_CFG_DESKEW_MAX_NS] }
def R.WHF_TRAINED : Reg := { base := 0x3C0C0, shape := (.step 4 8), fields := [F.WHF_TRAINED_TRAINED] }
def R.WHF_DOWN_EVT : Reg := { base := 0x3C0E0, shape := (.step 4 8), fields := [F.WHF_DOWN_EVT_DOWN] }

/-- The registers of page 0x03C in ascending offset. -/
def regsPage03C : List Reg :=
  [R.WHF_TRAIN_CFG, R.WHF_LINK_CFG, R.WHF_TRAINED, R.WHF_DOWN_EVT]

/-! Page 0x040: 10_wharves_lanes.md R280. -/

def F.LANE_QUAD_CFG_LAYOUT : Fld := { base := 0x40080, hi := 2, lo := 0, acc := .rw, shape := (.page 64), cfg := true }
def F.LANE_QUAD_STAT_PLL_LOCK : Fld := { base := 0x40084, hi := 4, lo := 4, acc := .ro, shape := (.page 64) }
def F.LANE_QUAD_STAT_DEEP : Fld := { base := 0x40084, hi := 3, lo := 3, acc := .ro, shape := (.page 64) }
def F.LANE_QUAD_STAT_LAYOUT : Fld := { base := 0x40084, hi := 2, lo := 0, acc := .ro, shape := (.page 64) }
def F.LANE_CTRL_RETRAIN : Fld := { base := 0x40100, hi := 3, lo := 3, acc := .wsc, shape := .lane }
def F.LANE_CTRL_TX_INV : Fld := { base := 0x40100, hi := 2, lo := 2, acc := .rw, shape := .lane, cfg := true }
def F.LANE_CTRL_RX_INV_AUTO : Fld := { base := 0x40100, hi := 1, lo := 1, acc := .rw, shape := .lane, reset := fun _ => 0x1, cfg := true }
def F.LANE_CTRL_LANE_EN : Fld := { base := 0x40100, hi := 0, lo := 0, acc := .rw, shape := .lane, reset := fun _ => 0x1, cfg := true }
def F.LANE_STAT_STATE : Fld := { base := 0x40104, hi := 31, lo := 28, acc := .ro, shape := .lane }
def F.LANE_STAT_SIG_DET : Fld := { base := 0x40104, hi := 27, lo := 27, acc := .ro, shape := .lane }
def F.LANE_STAT_CDR_LOCK : Fld := { base := 0x40104, hi := 26, lo := 26, acc := .ro, shape := .lane }
def F.LANE_STAT_BLOCK_ALIGN : Fld := { base := 0x40104, hi := 25, lo := 25, acc := .ro, shape := .lane }
def F.LANE_STAT_RX_INV : Fld := { base := 0x40104, hi := 24, lo := 24, acc := .ro, shape := .lane }
def F.LANE_STAT_BACKOFF_K : Fld := { base := 0x40104, hi := 23, lo := 20, acc := .ro, shape := .lane }
def F.LANE_STAT_LANE_IDX : Fld := { base := 0x40104, hi := 19, lo := 18, acc := .ro, shape := .lane }
def F.LANE_STAT_REPORT_LANE : Fld := { base := 0x40104, hi := 17, lo := 17, acc := .ro, shape := .lane }
def F.LANE_STAT_JOINED : Fld := { base := 0x40104, hi := 16, lo := 16, acc := .ro, shape := .lane }
def F.LANE_STAT_MISMATCH_WHY : Fld := { base := 0x40104, hi := 3, lo := 0, acc := .ro, shape := .lane }
def F.LANE_EVT_MISMATCH : Fld := { base := 0x40108, hi := 6, lo := 6, acc := .rc, shape := .lane }
def F.LANE_EVT_QUIET : Fld := { base := 0x40108, hi := 5, lo := 5, acc := .rc, shape := .lane }
def F.LANE_EVT_DEADLINE : Fld := { base := 0x40108, hi := 4, lo := 4, acc := .rc, shape := .lane }
def F.LANE_EVT_LOS : Fld := { base := 0x40108, hi := 3, lo := 3, acc := .rc, shape := .lane }
def F.LANE_EVT_SHED : Fld := { base := 0x40108, hi := 2, lo := 2, acc := .rc, shape := .lane }
def F.LANE_EVT_TRAINED : Fld := { base := 0x40108, hi := 1, lo := 1, acc := .rc, shape := .lane }
def F.LANE_EVT_FAIL : Fld := { base := 0x40108, hi := 0, lo := 0, acc := .rc, shape := .lane }
def F.LANE_FRAME_ERR_CNT_CRC : Fld := { base := 0x4010C, hi := 31, lo := 16, acc := .cnt, shape := .lane }
def F.LANE_FRAME_ERR_CNT_SYNC : Fld := { base := 0x4010C, hi := 15, lo := 8, acc := .cnt, shape := .lane }
def F.LANE_FRAME_ERR_CNT_ALIVE : Fld := { base := 0x4010C, hi := 7, lo := 0, acc := .cnt, shape := .lane }
def F.LANE_RETRY_CNT_LOS : Fld := { base := 0x40110, hi := 31, lo := 16, acc := .cnt, shape := .lane }
def F.LANE_RETRY_CNT_RETRIES : Fld := { base := 0x40110, hi := 15, lo := 0, acc := .cnt, shape := .lane }
def F.LANE_TRAIN_TIME_TIME_US : Fld := { base := 0x40114, hi := 15, lo := 0, acc := .ro, shape := .lane }
def F.LANE_TX_EQ_SWING : Fld := { base := 0x40118, hi := 15, lo := 12, acc := .rw, shape := .lane, reset := fun _ => 0x4, cfg := true }
def F.LANE_TX_EQ_PRE : Fld := { base := 0x40118, hi := 11, lo := 8, acc := .rw, shape := .lane, cfg := true }
def F.LANE_TX_EQ_POST : Fld := { base := 0x40118, hi := 4, lo := 0, acc := .rw, shape := .lane, reset := fun _ => 0x6, cfg := true }
def F.WHF_CFG_AUTO_WAKE : Fld := { base := 0x40200, hi := 10, lo := 10, acc := .rw, shape := .lane, reset := fun _ => 0x1, cfg := true }
def F.WHF_CFG_PWR_REQ : Fld := { base := 0x40200, hi := 9, lo := 8, acc := .rw, shape := .lane, cfg := true }
def F.WHF_CFG_MODE : Fld := { base := 0x40200, hi := 0, lo := 0, acc := .rw, shape := .lane, cfg := true }
def F.WHF_CMD_RESET : Fld := { base := 0x40204, hi := 1, lo := 1, acc := .wsc, shape := .lane }
def F.WHF_CMD_RETRAIN : Fld := { base := 0x40204, hi := 0, lo := 0, acc := .wsc, shape := .lane }
def F.WHF_STAT_TRAINED : Fld := { base := 0x40208, hi := 31, lo := 31, acc := .ro, shape := .lane }
def F.WHF_STAT_DOWN : Fld := { base := 0x40208, hi := 30, lo := 30, acc := .ro, shape := .lane }
def F.WHF_STAT_EXCHANGE : Fld := { base := 0x40208, hi := 29, lo := 29, acc := .ro, shape := .lane }
def F.WHF_STAT_STANDBY : Fld := { base := 0x40208, hi := 28, lo := 28, acc := .ro, shape := .lane }
def F.WHF_STAT_JOINED : Fld := { base := 0x40208, hi := 27, lo := 24, acc := .ro, shape := .lane }
def F.WHF_STAT_FAR_KIND : Fld := { base := 0x40208, hi := 23, lo := 20, acc := .ro, shape := .lane }
def F.WHF_STAT_WIDTH : Fld := { base := 0x40208, hi := 19, lo := 18, acc := .ro, shape := .lane }
def F.WHF_STAT_REPORT_IDX : Fld := { base := 0x40208, hi := 17, lo := 16, acc := .ro, shape := .lane }
def F.WHF_EVT_BAD_SLOT : Fld := { base := 0x4020C, hi := 7, lo := 7, acc := .rc, shape := .lane }
def F.WHF_EVT_EXCH_FAIL : Fld := { base := 0x4020C, hi := 6, lo := 6, acc := .rc, shape := .lane }
def F.WHF_EVT_EXCH_DONE : Fld := { base := 0x4020C, hi := 5, lo := 5, acc := .rc, shape := .lane }
def F.WHF_EVT_REJOINED : Fld := { base := 0x4020C, hi := 4, lo := 4, acc := .rc, shape := .lane }
def F.WHF_EVT_SHED : Fld := { base := 0x4020C, hi := 3, lo := 3, acc := .rc, shape := .lane }
def F.WHF_EVT_DOWN : Fld := { base := 0x4020C, hi := 2, lo := 2, acc := .rc, shape := .lane }
def F.WHF_EVT_TRAINED : Fld := { base := 0x4020C, hi := 1, lo := 1, acc := .rc, shape := .lane }
def F.WHF_EVT_PSTAT_NEW : Fld := { base := 0x4020C, hi := 0, lo := 0, acc := .rc, shape := .lane }
def F.WHF_CREDIT_XSEQ : Fld := { base := 0x40210, hi := 23, lo := 16, acc := .ro, shape := .lane }
def F.WHF_CREDIT_GRANT : Fld := { base := 0x40210, hi := 15, lo := 8, acc := .ro, shape := .lane }
def F.WHF_CREDIT_HELD : Fld := { base := 0x40210, hi := 6, lo := 0, acc := .ro, shape := .lane }
def F.WHF_PSTAT_PSTATE : Fld := { base := 0x40214, hi := 31, lo := 28, acc := .ro, shape := .lane }
def F.WHF_PSTAT_QLEVEL : Fld := { base := 0x40214, hi := 27, lo := 20, acc := .ro, shape := .lane }
def F.WHF_PSTAT_TEMP : Fld := { base := 0x40214, hi := 19, lo := 12, acc := .ro, shape := .lane }
def F.WHF_PSTAT_ALARMS : Fld := { base := 0x40214, hi := 11, lo := 0, acc := .ro, shape := .lane }
def F.WHF_CNT_DOWNS : Fld := { base := 0x40218, hi := 31, lo := 16, acc := .cnt, shape := .lane }
def F.WHF_CNT_BAD_SLOTS : Fld := { base := 0x40218, hi := 15, lo := 0, acc := .cnt, shape := .lane }
def F.WHF_UNDELIV_CNT_UNDELIVERABLE : Fld := { base := 0x4021C, hi := 31, lo := 0, acc := .cnt, shape := .lane }

def R.LANE_QUAD_CFG : Reg := { base := 0x40080, shape := (.page 64), fields := [F.LANE_QUAD_CFG_LAYOUT] }
def R.LANE_QUAD_STAT : Reg := { base := 0x40084, shape := (.page 64), fields := [F.LANE_QUAD_STAT_PLL_LOCK, F.LANE_QUAD_STAT_DEEP, F.LANE_QUAD_STAT_LAYOUT] }
def R.LANE_CTRL : Reg := { base := 0x40100, shape := .lane, fields := [F.LANE_CTRL_RETRAIN, F.LANE_CTRL_TX_INV, F.LANE_CTRL_RX_INV_AUTO, F.LANE_CTRL_LANE_EN] }
def R.LANE_STAT : Reg := { base := 0x40104, shape := .lane, fields := [F.LANE_STAT_STATE, F.LANE_STAT_SIG_DET, F.LANE_STAT_CDR_LOCK, F.LANE_STAT_BLOCK_ALIGN, F.LANE_STAT_RX_INV, F.LANE_STAT_BACKOFF_K, F.LANE_STAT_LANE_IDX, F.LANE_STAT_REPORT_LANE, F.LANE_STAT_JOINED, F.LANE_STAT_MISMATCH_WHY] }
def R.LANE_EVT : Reg := { base := 0x40108, shape := .lane, fields := [F.LANE_EVT_MISMATCH, F.LANE_EVT_QUIET, F.LANE_EVT_DEADLINE, F.LANE_EVT_LOS, F.LANE_EVT_SHED, F.LANE_EVT_TRAINED, F.LANE_EVT_FAIL] }
def R.LANE_FRAME_ERR_CNT : Reg := { base := 0x4010C, shape := .lane, fields := [F.LANE_FRAME_ERR_CNT_CRC, F.LANE_FRAME_ERR_CNT_SYNC, F.LANE_FRAME_ERR_CNT_ALIVE] }
def R.LANE_RETRY_CNT : Reg := { base := 0x40110, shape := .lane, fields := [F.LANE_RETRY_CNT_LOS, F.LANE_RETRY_CNT_RETRIES] }
def R.LANE_TRAIN_TIME : Reg := { base := 0x40114, shape := .lane, fields := [F.LANE_TRAIN_TIME_TIME_US] }
def R.LANE_TX_EQ : Reg := { base := 0x40118, shape := .lane, fields := [F.LANE_TX_EQ_SWING, F.LANE_TX_EQ_PRE, F.LANE_TX_EQ_POST] }
def R.WHF_CFG : Reg := { base := 0x40200, shape := .lane, fields := [F.WHF_CFG_AUTO_WAKE, F.WHF_CFG_PWR_REQ, F.WHF_CFG_MODE] }
def R.WHF_CMD : Reg := { base := 0x40204, shape := .lane, fields := [F.WHF_CMD_RESET, F.WHF_CMD_RETRAIN] }
def R.WHF_STAT : Reg := { base := 0x40208, shape := .lane, fields := [F.WHF_STAT_TRAINED, F.WHF_STAT_DOWN, F.WHF_STAT_EXCHANGE, F.WHF_STAT_STANDBY, F.WHF_STAT_JOINED, F.WHF_STAT_FAR_KIND, F.WHF_STAT_WIDTH, F.WHF_STAT_REPORT_IDX] }
def R.WHF_EVT : Reg := { base := 0x4020C, shape := .lane, fields := [F.WHF_EVT_BAD_SLOT, F.WHF_EVT_EXCH_FAIL, F.WHF_EVT_EXCH_DONE, F.WHF_EVT_REJOINED, F.WHF_EVT_SHED, F.WHF_EVT_DOWN, F.WHF_EVT_TRAINED, F.WHF_EVT_PSTAT_NEW] }
def R.WHF_CREDIT : Reg := { base := 0x40210, shape := .lane, fields := [F.WHF_CREDIT_XSEQ, F.WHF_CREDIT_GRANT, F.WHF_CREDIT_HELD] }
def R.WHF_PSTAT : Reg := { base := 0x40214, shape := .lane, fields := [F.WHF_PSTAT_PSTATE, F.WHF_PSTAT_QLEVEL, F.WHF_PSTAT_TEMP, F.WHF_PSTAT_ALARMS] }
def R.WHF_CNT : Reg := { base := 0x40218, shape := .lane, fields := [F.WHF_CNT_DOWNS, F.WHF_CNT_BAD_SLOTS] }
def R.WHF_UNDELIV_CNT : Reg := { base := 0x4021C, shape := .lane, fields := [F.WHF_UNDELIV_CNT_UNDELIVERABLE] }

/-- The registers of page 0x040 in ascending offset. -/
def regsPage040 : List Reg :=
  [R.LANE_QUAD_CFG, R.LANE_QUAD_STAT, R.LANE_CTRL, R.LANE_STAT, R.LANE_EVT, R.LANE_FRAME_ERR_CNT, R.LANE_RETRY_CNT, R.LANE_TRAIN_TIME] ++
  [R.LANE_TX_EQ, R.WHF_CFG, R.WHF_CMD, R.WHF_STAT, R.WHF_EVT, R.WHF_CREDIT, R.WHF_PSTAT, R.WHF_CNT] ++
  [R.WHF_UNDELIV_CNT]

/-! Page 0x080: 15_page_map.md R366. -/

def F.ENG_CL_CYC_CNT_CYCLES : Fld := { base := 0x80080, hi := 31, lo := 0, acc := .cnt, shape := .eng }
def F.ENG_CL_EXEC_CNT_EXECUTED : Fld := { base := 0x800A0, hi := 31, lo := 0, acc := .cnt, shape := .eng }

def R.ENG_CL_CYC_CNT : Reg := { base := 0x80080, shape := .eng, dom := .eng, fields := [F.ENG_CL_CYC_CNT_CYCLES] }
def R.ENG_CL_EXEC_CNT : Reg := { base := 0x800A0, shape := .eng, dom := .eng, fields := [F.ENG_CL_EXEC_CNT_EXECUTED] }

/-- The registers of page 0x080 in ascending offset. -/
def regsPage080 : List Reg :=
  [R.ENG_CL_CYC_CNT, R.ENG_CL_EXEC_CNT]

end Sys2Proof.Machine
end

