-- ==== Sys2Proof/Machine/State.lean ====
section
/-! DEFINITION. The state of the device as plain data, the reasons a step can stop, and the state after reset. Registers live in
one store of fields (Device.fields); everything else the spec gives the device stands in the structure of its unit. -/

namespace Sys2Proof.Machine

/-! ## Fault unit (R345-R352) -/

/-- A P:f stamp, with the PRE_TOW mark of R348. -/
structure Stamp where
  p : Pound := 0
  f : BitVec 24 := 0
  preTow : Bool := false
  deriving DecidableEq, Repr

/-- One report on its way to the fault unit: its key, its reporter bit, the pound its stamp carries where R348 fixes one, and the pound
of the change that a deferred hop has meanwhile ended with (R126). -/
structure Report where
  cls : Nat
  src : Nat
  code : Nat
  reporter : Nat
  at? : Option Pound := none
  last? : Option Pound := none
  deriving DecidableEq, Repr

/-- One entry of the fault record table (R345). A freed entry keeps its other fields with valid clear. -/
structure FaultRec where
  valid : Bool := true
  cls : Nat
  src : Nat
  code : Nat
  count : Nat
  first : Stamp
  last : Stamp
  reporters : BitVec 256
  deriving DecidableEq, Repr

/-- The fault unit: the record table by entry number (an entry never written is unlisted), the report queue of 256 entries, the reports of the REG cycle being handled
(at most four, in the order of R347), the effect log ring, and the log records taken in this pound. -/
structure FaultUnit where
  records : Store FaultRec := []
  queue : List Report := []
  batch : List Report := []
  log : Store (BitVec 128) := []
  loggedThisPound : Nat := 0
  deriving DecidableEq, Repr

/-! ## Ledger (R143-R173) -/

/-- The 256 data bits of a Berth entry, field by field (R143). -/
structure Entry where
  a : Pound
  phi : Phase
  f : Freq
  channel : BitVec 12
  state : BitVec 4
  binding : BitVec 8
  flags : BitVec 16
  gen : BitVec 16
  deriving DecidableEq, Repr

/-- A stored Berth: the entry, which of its four codewords hold one wrong bit (read corrected) and which hold two (read
uncorrectable) (R146). (DESIGN CHOICE: log entry 13) -/
structure Cell where
  entry : Entry
  corr : BitVec 4 := 0
  uncorr : BitVec 4 := 0
  deriving DecidableEq, Repr

/-- Commands as a source accepted them (R151): the first word, the 64 data bits of the second, how many words, source, SEQ, T, the
pound of acceptance, whether the refresh walker submitted it, the GEN read at its last execution (R167), whether it failed
to find a slot or credit in this pound (R183), its number in the order of entry into slices, and for a FILL how many Berths it has passed
and whether it passed a voided one. -/
structure Cmd where
  w1 : BitVec 128
  w2 : BitVec 64 := 0
  words : Nat := 1
  src : Fin 4
  seq : BitVec 16
  t : Pound
  acc : Pound
  refresh : Bool := false
  genSeen : BitVec 16 := 0
  failed : Bool := false
  entry : Nat := 0
  filled : Nat := 0
  fillVoid : Bool := false
  deriving DecidableEq, Repr

/-- The ledger: the Berth cells, the epoch of the last loss of the Berth memory, the channel map (unlisted: zero), and the indirect
write waiting for its lease: Berth id and the words written. -/
structure Ledger where
  cells : Store Cell := []
  epoch : Nat := 0
  map : Store Word := []
  waiting : Option (Nat × Store Word) := none
  deriving DecidableEq, Repr

/-! ## Loads of a core and prepared hops (R98, R121, R156) -/

/-- What falls due at a core at pound T when a command's commit reaches it (R98, R125, R156, R158, R159). -/
inductive LoadKind where
  /-- SET_FREQ, SET_FREQ_PHASE: a frequency load whose target is the committed trajectory. -/
  | freq
  /-- ADD_PHASE: the target is reloaded, the settings stay. -/
  | phase
  /-- ADD_PHASE meeting a prepared hop: the phase is added to the core's own target (R125). -/
  | addPhase
  /-- BIND: the Berth id is recorded, then a frequency load. -/
  | bind
  /-- BIND of a twin, on its standby core: the Berth id is recorded. -/
  | record
  /-- RELEASE, or a FILL or indirect write over a bound Berth: back to free mode. -/
  | release
  /-- EMIT: the target is reloaded; a core in IDLE starts. -/
  | emit
  /-- RETUNE: a preset load of the active core. -/
  | retune
  /-- PARK: a preset load of the core that was standby at the commit. -/
  | park
  /-- The preset load of the standby at the commit of a TWIN hop (R121). -/
  | hop
  deriving DecidableEq, Repr

/-- A band-map entry as looked up: tank, band, tuning preset, its calibration temperature and slope (R117). -/
structure Preset where
  tank : Nat
  band : Nat
  tune : Nat
  tempCal : Int
  tc : Int
  deriving DecidableEq, Repr

/-- A load waiting for its pound: core, kind, Berth, T, anchor, phase and frequency of the trajectory (for addPhase, phi is the
amount), the band-map entry found at the commit, and whether it is for the core of the twin that is active at T (for a record: that is
standby at T) rather than for the core named (R115). -/
structure Load where
  core : Nat
  kind : LoadKind
  berth : Nat
  t : Pound
  a : Pound := 0
  phi : Phase := 0
  f : Freq := 0
  preset? : Option Preset := none
  twin : Bool := false
  deriving DecidableEq, Repr

/-- What a command does at its commit besides the Berth write (R13, R121, R125, R127): loads that fall due later, a twin hop
prepared for a pound with the load of its standby, the cancelling of a prepared hop before further loads. -/
inductive Act where
  | none
  | loads (l : List Load)
  | hop (twin : Nat) (t : Pound) (l : Load)
  | cancelThen (twin : Nat) (l : List Load)
  deriving DecidableEq, Repr

/-- A Barge that an executed command has packed: its wharf, the lane of the wharf and the slot reserved, its 112 bits, and whether
the slot is still held. -/
structure Barge where
  wharf : Nat
  lane : Nat
  slot : Nat
  bits : BitVec 112
  deriving DecidableEq, Repr

/-- An executed and uncommitted command, holding the lease of its Berth (R13, R185): the engine, the command, the Berth, the entry to
write (none: no write), the Barge, the act on a core, and, for one Berth of a FILL, the mark that the command goes on. -/
structure Flight where
  eng : Nat
  cmd : Cmd
  berth : Nat
  entry? : Option Entry := none
  barge? : Option Barge := none
  act : Act := .none
  fill : Bool := false
  deriving DecidableEq, Repr

/-! ## Engines and sources (R174-R200) -/

/-- The counters of one source (R193). -/
structure Counts where
  accepted : Word := 0
  applied : Word := 0
  rejected : Word := 0
  pending : Word := 0
  discarded : Word := 0
  late : Word := 0
  deriving DecidableEq, Repr

/-- One engine: its slice in order of entry, the stolen command in hand with its lease, and the cycles it has used in this pound. -/
structure Engine where
  slice : List Cmd := []
  hand : Option Cmd := none
  used : Nat := 0
  deriving DecidableEq, Repr

/-- A source holding at a FENCE: the command, its NUMBER and MASK, the boundaries passed since it holds (R189, R191), and for the
timetable the entry at which it stands (R192). -/
structure FenceHold where
  cmd : Cmd
  number : BitVec 16
  mask : BitVec 4
  ticks : Nat := 0
  entry : Nat := 0
  deriving DecidableEq, Repr

/-- What an engine did in a cycle of this pound in which it selected: the cycle, the engine, and the command it took as it stood in its
slice (none: a request that was not granted). -/
structure Turn where
  cycle : Nat
  eng : Nat
  took : Option Cmd
  deriving DecidableEq, Repr

/-- The engines, the lease table and the command sources. Leases held are those of `flights`, `hand` and nothing else; `grants`
are the (bank, cycle) pairs granted in this pound; `fillLast` is the engine each bank last granted for a FILL; `steals` the
(kind, victim, cycle) grants of this pound; `turns` what the engines did in the cycles of this pound, newest first; `entered` counts the
entries into slices; `refresh` the pounds that the refresh walker has run since it was due to visit the last id (R166) and `refreshEach`
the pounds it waits for the present one (R173);
`tt` the timetable memory (unlisted: undefined content of epoch `ttEpoch`). -/
structure Engines where
  engine : Store Engine := []
  entered : Nat := 0
  refresh : Nat := 0
  refreshEach : Nat := 8
  flights : List Flight := []
  grants : List (Nat × Nat) := []
  fillLast : Store Nat := []
  steals : List (Bool × Nat × Nat) := []
  turns : List Turn := []
  counts0 : Counts := {}
  counts1 : Counts := {}
  counts2 : Counts := {}
  counts3 : Counts := {}
  snapAsked : Bool := false
  snapDue : Bool := false
  hcq : List Cmd := []
  hcqHeld : Option (BitVec 128) := none
  hcqHighTripped : Bool := false
  kpq : List Cmd := []
  holds : Store FenceHold := []
  tt : Store (BitVec 128) := []
  ttEpoch : Nat := 0
  ttLowTripped : Bool := false
  stalledThisPound : Bool := false
  deriving DecidableEq, Repr

/-! ## Synthesis cores (R80-R113) -/

/-- The frequency counter of a core (R96): idle, waiting for its first boundary, or counting for some pounds. -/
inductive Gate where
  | idle
  | armed
  | open' (pounds : Nat)
  deriving DecidableEq, Repr

/-- The settings in force of a core; `modulus` is 1 to 2^40 (R82). -/
structure Settings where
  n : Nat := 20
  num : Nat := 0
  modulus : Nat := 2 ^ 40
  dA : Nat := 1
  dB : Nat := 1
  deriving DecidableEq, Repr

/-- The carries of accumulators 2 to 4 that the modulator still combines, newest first: one of c2, two of c3, three of c4 (R84); and
whether the dither of the last cycle carried over the modulus (R85). -/
structure Carries where
  dith : Bool := false
  c2 : Nat := 0
  c3 : Nat × Nat := (0, 0)
  c4 : Nat × Nat × Nat := (0, 0, 0)
  deriving DecidableEq, Repr

/-- What a core holds besides its registers: settings in force, the four MASH accumulators with the carries they still combine, the
ratios of the feedback divider in the eight reference cycles of the last pound, the VCO cycles of dividers A and B
since their last rising edge, whether B runs with A, the frame phase and frequency of bound mode, the free target u with whether
it exists and whether it takes q at the next tracking step, the binding, the control bits in force, the phase adjustments and the
apply boundary that wait, the prediction q, the target t and the difference d of the last boundary, the TDC reading of that boundary
that waits for its tracking step, whether a load that took effect while the core opened starts it, the tuning preset, the boundaries passed since acquisition began (R93), since the last LOOP_APPLY
(R130), and the counters of pounds that the monitor, ALIGNED and the hop machinery read; whether the frequency counter has seen one
steady frequency since its gate opened. -/
structure Core where
  set : Settings := {}
  acc1 : Nat := 0
  acc2 : Nat := 0
  acc3 : Nat := 0
  acc4 : Nat := 0
  carries : Carries := {}
  ratios : List Nat := []
  cA : Nat := 0
  cB : Nat := 0
  bSync : Bool := false
  phi : Phase := 0
  f : Freq := 0
  u : Nat := 0
  hasU : Bool := false
  uFromQ : Bool := false
  berth : Option Nat := none
  bw : Nat := 2
  intMode : Bool := false
  dither : Bool := true
  bFollow : Bool := false
  adj : List Int := []
  applyAt : Option Pound := none
  qNow : Nat := 0
  lastT : Nat := 0
  lastD : Int := 0
  raw : Option Nat := none
  starts : Bool := false
  tune : Nat := 0
  tracked : Bool := false
  alarm : Bool := false
  since : Nat := 0
  holdCount : Nat := 0
  avgSum : Int := 0
  avgCount : Nat := 0
  realignDue : Bool := false
  raSum : Int := 0
  raCount : Nat := 0
  lostBefore : Bool := false
  lossPark : Bool := false
  presetPark : Bool := false
  retuning : Bool := false
  slow : Bool := false
  blank : Bool := false
  acq : Nat := 0
  sinceApply : Nat := 0
  sinceLoad : Nat := 0
  crossTank : Bool := false
  hopTarget : Bool := false
  gate : Gate := .idle
  gateSteady : Bool := false
  deriving DecidableEq, Repr

/-! ## Twins and outputs (R114-R142) -/

/-- A twin: the prepared hop (its pound, the pound of its commit, its Berth), the boundaries passed since a missed change is
deferred, whether the miss was of a free-mode swap, the
hop-readiness sampled 4 ns before the last boundary (R123), and the pending swap. -/
structure Twin where
  hop : Option (Pound × Pound × Nat) := none
  deferred : Nat := 0
  swapMissed : Bool := false
  sample : Bool := false
  swapAt : Option Pound := none
  deriving DecidableEq, Repr

/-- An armed strobe program: the snapshot of R136. -/
structure Strobes where
  pound : Pound
  period : Nat
  count : Nat
  width : Nat
  edge : Bool
  deriving DecidableEq, Repr

/-- An output: the source that waits for the next boundary and whether that boundary has passed, the core divider in force behind
the source (2c output A, 2c + 1 output B of LOOPc), the delay walk's target tap (none: no walk has started), whether a new
DELAY waits for the boundary and whether that boundary has passed, the strobe program, the number of its strobes passed, the pounds a
high strobe still has, its EDGE_SEL, and the divider whose falling edge the last edge of ALIGN was retimed to (none: pound-aligned). -/
structure Output where
  nextSrc : Option Nat := none
  srcDue : Bool := false
  behind : Option Nat := none
  walkTo : Option Nat := none
  walkAsked : Bool := false
  walkDue : Bool := false
  program : Option Strobes := none
  strobe : Nat := 0
  high : Option Nat := none
  edge : Bool := false
  edgeBy : Option Nat := none
  deriving DecidableEq, Repr

/-! ## Decisions (R201-R217) -/

/-- A decision event in the event queue: its slot, delivering wharf, receive pound, and the boundaries passed since that pound opened. -/
structure DecEvent where
  slot : BitVec 112
  wharf : Nat
  pound : Pound
  ticks : Nat := 0
  lane : Nat := 0
  place : Nat := 0
  deriving DecidableEq, Repr

/-- A matched event whose list awaits acceptance: first word and length of the list, and whether the boundary of R211 has passed. -/
structure Matched where
  ev : DecEvent
  base : Nat
  len : Nat
  due : Bool := false
  deriving DecidableEq, Repr

/-- State of a source: the last inside event's window and occurrence with whether there is one, last SEQ, SEEN. -/
structure SrcState where
  window : Nat
  occ : Nat
  inside : Bool := false
  seq : Nat
  seen : Bool := false
  deriving DecidableEq, Repr

/-- The decision unit: its tables (unlisted: zero once cleared, else undefined content of `epoch`), the window table as written and as
in force, the current occurrences, the event queue, matched events, action queue and deferred store, and whether a captured discard
is frozen. -/
structure Decisions where
  epoch : Nat := 0
  cleared : Bool := false
  srcMap : Store Word := []
  cond : Store (BitVec 64) := []
  win : Store Word := []
  winForce : Store Word := []
  occ : Store Nat := []
  action : Store (BitVec 128) := []
  base : Store Word := []
  src : Store SrcState := []
  evq : List DecEvent := []
  waiting : List Matched := []
  actq : List Cmd := []
  deferred : List Cmd := []
  frozen : Bool := false
  unseen : Bool := false
  deriving DecidableEq, Repr

/-! ## Towpath (R218-R241) -/

/-- Where an alignment stands (R223). -/
inductive AlignPhase where
  | idle | source | fine
  deriving DecidableEq, Repr

/-- Why the Towpath holds over (R234): its source failed, DEPTH at its limit (R237), or a realignment needs a jump (R223). -/
inductive HoldCause where
  | none | source | loop | jump
  deriving DecidableEq, Repr

/-- The TICK_IN receiver (R226, R227): consecutive pounds with an edge, place in the word, the bits so far and whether one of them is
missing, good and bad words in a row, pounds without an edge in a row, whether this pound had one, a marker missing where due, the
marker's arrival (boundaries passed, ps after the last), the DEPTH of the last word. -/
structure Tick where
  run : Nat := 0
  pos : Option Nat := none
  word : Nat := 0
  spoiled : Bool := false
  good : Nat := 0
  badWords : Nat := 0
  missing : Nat := 0
  edge : Bool := false
  markerMissing : Bool := false
  marker : Nat × Int := (0, 0)
  depth : Nat := 0
  deriving DecidableEq, Repr

/-- What the bytes of an image that nothing has written read as: zero (a flash copy), the fixed header of the layout and zero (R292), or
what the RAM held when it lost its contents (R44). -/
inductive ImgBase where
  | zero
  | layout
  | lost (epoch : Nat)
  deriving DecidableEq, Repr

/-- A calibration image (R292): its bytes, and what an unlisted one reads as. -/
structure Image where
  bytes : Store Byte := []
  base : ImgBase := .layout
  deriving DecidableEq, Repr

/-- A wharf as the Towpath measures it (R228-R233): the sums of a measurement and how many pounds they hold, the boundaries passed
at the last measurement, whether one was ever accepted, the skew reference, a capture asked for, the resolution that waits,
measurements in a row near the held reference, periods in a row without one, the last arrival (POUND8 and offset in ps), the
asymmetry constant in ps, by how many pounds the far end's number of its last report lies ahead of the one its POUND8 names here, and the
image by which the measurement in progress is stamped once an apply has replaced it (R290). -/
structure TowWharf where
  sumA : Int := 0
  sumRtt : Int := 0
  n : Nat := 0
  since : Nat := 0
  accepted : Bool := false
  thetaRef : Option Int := none
  capture : Bool := false
  action : Nat := 0
  run : Nat := 0
  missed : Nat := 0
  last : Option (Nat × Int) := none
  asym : Int := 0
  farOff : Int := 0
  stamp : Option Image := none
  deriving DecidableEq, Repr

/-- A PPS_IN or message stamp: pound and fraction. -/
structure PF where
  p : Pound
  f : BitVec 24
  deriving DecidableEq, Repr

/-- The Towpath besides its registers: whether it runs, the pound count, the boundaries passed, the role and its settings in force, the
alignment (with the full offset of the source's last measurement, R223), holdover, steering history (newest first) and the last offset steered on, the source receivers, PPS and TICK outputs, the staged EPOCH word. -/
structure Tow where
  running : Bool := false
  pound : Pound := 0
  ticks : Nat := 0
  loadSrc : Nat := 0
  tickWord : Bool := true
  autoAlt : Bool := false
  pri : Nat := 0
  alt : Nat := 0
  phase : AlignPhase := .idle
  startUp : Bool := false
  engaged : Bool := false
  fallback : Bool := false
  good : Nat := 0
  full : Option Int := none
  cause : HoldCause := .none
  slew : Bool := false
  hist : List Int := []
  steeredAt : Nat := 0
  lastTheta : Int := 0
  tick : Tick := {}
  wharf : Store TowWharf := []
  ppsLast : Option PF := none
  ppsAccepted : Option PF := none
  ppsHigh : Option Nat := none
  tickOn : Bool := false
  tickSend : Nat := 0
  tickSymbol : Option Nat := none
  epochLo : Word := 0
  deriving DecidableEq, Repr

/-! ## TIME port (R242-R247) -/

/-- A receive slot (R245): VALID, the frame bytes, the stamp. -/
structure RxSlot where
  valid : Bool := false
  bytes : List Byte := []
  p : Pound := 0
  f : BitVec 24 := 0
  deriving DecidableEq, Repr

/-- The Keeper's client (R244): its parent's Announce body and identity, the last Sync (sequence number, its stamp in ns, correction in
2^-16 ns) waiting for its Follow_Up, the offset term t2 - t1 in 2^-16 ns, the last Delay_Req (sequence number, stamp in ns) and the frame that carried it, the mean path delay
in 2^-16 ns, and whether the parent's messages come over UDP. -/
structure Ptp where
  parent : Option (List Byte × List Byte) := none
  sync : Option (Nat × Int × Int) := none
  fwd : Option Int := none
  req : Option (Nat × Int) := none
  reqSeq : Nat := 0
  delay : Option Int := none
  interval : Int := 0
  sent : List Byte := []
  udp : Bool := false
  deriving DecidableEq, Repr

/-- The TIME port besides its registers: receive slots, transmit buffers by buffer * 256 + byte, the frames to send (length, PTP offset), the
buffer whose frame is in progress, the staged MAC word, the client. -/
structure Tpt where
  slots : Store RxSlot := []
  tx : Store Byte := []
  sending : Store (Nat × Nat) := []
  wire : Option Nat := none
  macLo : Word := 0
  ptp : Ptp := {}
  deriving DecidableEq, Repr

/-! ## Lanes and wharves (R251-R276) -/

/-- A lane besides its registers: the ALIVE of the last frame sent, the ALIVE of the last frame received with a good CRC (none: the
next frame is exempt, R257), the CREDIT of the last valid frame (R266), consecutive invalid frames, the POUND8 of the
pounds released without its frame (R268), consecutive valid frames with a matching capability, the far capability last received, own and far JOINED, the two
markers of TSTATE 2 seen (READY leaves at the next boundary), consecutive missed deadlines (R262), the boundaries passed when its
attempt entered ACQUIRE, a failure in service that waits for its boundary (R269), the arrival offset of its last valid frame in ps, the
frame it sends in this pound, whether it was shed and sends the training pattern since (R269), the histories of its scrambler and of its
PRBS31 generator at the start of this pound (R254, R260), and the word of LANE_TX_EQ its transmitter took at its last ACQUIRE.
(DESIGN CHOICE: log entry 138) -/
structure Lane where
  aliveTx : Nat := 0
  aliveRx : Option Nat := none
  lastCredit : Nat := 0
  bad : Nat := 0
  owed : List Nat := []
  capRun : Nat := 0
  farCap : Option (BitVec 112) := none
  deskewed : Bool := false
  farJoined : Bool := false
  capsDue : Bool := false
  misses : Nat := 0
  start : Nat := 0
  failed : Bool := false
  arr : Option Int := none
  frame : Option (BitVec 256) := none
  shed : Bool := false
  scr : BitVec 58 := 0
  prbs : BitVec 31 := 1
  eq : Word := 0x4006
  deriving DecidableEq, Repr

/-- A frame held for deskew (R268): its lane, whether that was the report lane, its arrival offset in ps, and the frame; an invalid one, whose
pound is not known, holds its lane's place. -/
structure HeldFrame where
  lane : Nat
  report : Bool := false
  arr : Int := 0
  frame : Option (BitVec 256) := none
  deriving DecidableEq, Repr

/-- A wharf besides its registers: the mode in force, a credit exchange asked for that begins at the next boundary, the exchange
requesting with the boundaries passed since, the FREE of a grant received, consecutive pounds
without a valid frame and whether this pound had one, a down or a reset due at the next boundary and whether RETRAIN asked for the down, the boundaries passed since an
exit from STANDBY was requested, whether the last pound had a reservation, whether the exchange
that comes follows a training (R271), and the frames held for deskew (R268), those of each lane in the order of their arrival. -/
structure Wharf where
  towpath : Bool := false
  asked : Bool := false
  requesting : Bool := false
  reqPounds : Nat := 0
  grant : Option Nat := none
  dry : Nat := 0
  gotValid : Bool := false
  downDue : Bool := false
  resetDue : Bool := false
  retrain : Bool := false
  wake : Option Nat := none
  busy : Bool := false
  fresh : Bool := false
  held : List HeldFrame := []
  deriving DecidableEq, Repr

/-- The lanes and wharves, and by quad the boundaries passed since every wharf of it requests DEEP (R275). The PMA words (R280) by lane * 32 + word. -/
structure Wharves where
  lane : Store Lane := []
  wharf : Store Wharf := []
  deep : Store Nat := []
  pma : Store Word := []
  deriving DecidableEq, Repr

/-! ## Clocks, gates and power (R53-R79) -/

/-- The judgement of a source: its counted frequencies in Hz of up to eight consecutive windows inside the band, newest first, the
consecutive windows outside, the last counted frequency, and the windows inside the band that it has been READY for, up to eight
(R69). -/
structure Judge where
  hits : List Nat := []
  outs : Nat := 0
  count : Option Nat := none
  held : Nat := 0
  deriving DecidableEq, Repr

/-- A change of a domain in progress (R61, R63): the source (0 FIO, 1 MPL1; for REF the input) and divider it goes to, whether the
change-over is what comes next, whether it was forced, whether software requested it through CLK_DOM_CTRL, the boundaries passed
when the ramp divider in force was taken, and whether a ramp has taken one. -/
structure Switch where
  src : Nat
  div : Nat
  crossing : Bool := true
  forced : Bool := false
  host : Bool := false
  since : Nat := 0
  ramped : Bool := false
  deriving DecidableEq, Repr

/-- Clocks and power besides their registers: the judgements, the windows of a source (0 XI0, 1 XI1, 4 RefBus) that FIO or SIO has yet
to follow (source * 8 + follower, R58), the changes in progress by domain, the ENG divider recorded for its return to MPL1, whether
fallback to FIO stands and the domains it moved, whether both inputs were lost in this holdover (R68), gate requests held for a busy
port by block, the voltage-frequency sequencer (the request in progress, the held request, the VID before the raise, PG_IN ignored),
and the AUX settings in force (0 AUXA, 1 AUXB: divider word, spread word). `resetting` are the domains held in a domain reset. -/
structure Clocks where
  judge : Store Judge := []
  judgedNow : List Nat := []
  switch : Store Switch := []
  resetting : List Nat := []
  engDiv : Nat := 5
  fellBack : Bool := false
  fell : List Nat := []
  bothLost : Bool := false
  gateHeld : List Nat := []
  opTarget : Option Nat := none
  opHeld : Option Nat := none
  vidBefore : Nat := 0x28
  blank : Bool := false
  auxDiv : Store Nat := []
  auxSsc : Store Nat := []
  deriving DecidableEq, Repr

/-! ## Reset and start-up (R39, R43-R50, R355) -/

/-- One entry of the boot configuration image: phase, address, value. -/
structure BootEntry where
  phase : Nat
  addr : Nat
  value : Nat
  deriving DecidableEq, Repr

/-- Reset and start-up: whether a reset is in force and whether it is power-on reset, what holds it (RESET_N low, rails in brown-out,
thermal), the pins BOOTSEL as sampled and TESTMODE, the entries and SEQ of the boot configuration image and whether a valid one is in
use, whether start-up uses the flash, whether a warm reset came before it, whether step 6 has asked the sequencer for its operating
point, the entries held for closed quads, the quads step 7 has still to open and those the image names, the boundaries passed when
step 7 began, and the milliseconds since the reset ended, at most 255. -/
structure Boot where
  inReset : Bool := true
  powerOn : Bool := true
  pinLow : Bool := false
  rails : List Nat := []
  thermal : Bool := false
  bootsel : Nat := 0
  testmode : Bool := false
  entries : List BootEntry := []
  seq : Option Word := none
  imageOk : Bool := false
  useFlash : Bool := true
  warm : Bool := false
  opAsked : Bool := false
  held : List BootEntry := []
  toOpen : List Nat := []
  named : List Nat := []
  sevenAt : Nat := 0
  ms : Nat := 0
  deriving DecidableEq, Repr

/-! ## Calibration (R281-R298) -/

/-- A refitted band-map entry (R284): its number, BAND, TUNE, TEMP_CAL. -/
structure BandFit where
  entry : Nat
  band : Nat := 0
  tune : Nat := 0
  temp : Nat := 0
  deriving DecidableEq, Repr

/-- Where the fit of an entry stands: the readings after its band search, or its preset load at R_LO or at R_HI (R284). -/
inductive FitPhase where
  | tunes
  | lo
  | hi
  deriving DecidableEq, Repr

/-- What a complete run of a calibration has measured: positions of codes or taps in 1/64 ps, the offset in 1/64 ps, band-map entries,
trims. -/
structure CalRun where
  pos : List Int := []
  offset : Int := 0
  fits : List BandFit := []
  trims : List Nat := []
  deriving DecidableEq, Repr

/-- Calibration: the in-force and the pending image of the calibration RAM (each arbitrary until step 3, R44), the requested apply, the first run once complete, the run in progress, the entry
of a BANDMAP run that is being fitted with its phase, the entries after it, the bins of the last histogram, and the sensor reading a
store took (R295). -/
structure Cal where
  inForce : Image := { base := .lost 0 }
  pend : Image := { base := .lost 1 }
  applyAt : Option Pound := none
  first : Option CalRun := none
  now : CalRun := {}
  fit : Option (BandFit × FitPhase) := none
  left : List Nat := []
  bins : List Nat := []
  storeTemp : Nat := 0
  deriving DecidableEq, Repr

/-! ## Serial ports (R299-R319) -/

/-- A READ frame whose reads the device still performs (R305): the bits of its command and address as received, its alive counter, and the
words read so far. -/
structure Reading where
  head : List Bool
  alive : BitVec 4
  done : List Nat := []
  deriving DecidableEq, Repr

/-- The host port: the alive counter expected (none: the next frame is exempt, R306), the READ frame in progress, the last reply it drove
(the status word, then the data words) with its CRC, and the dummy cycles and busy units before it and the lanes it went out on. -/
structure Hsp where
  expect : Option Nat := none
  reading : Option Reading := none
  reply : List Word := []
  replyCrc : Nat := 0
  gap : Nat := 0
  busy : Nat := 0
  lanes : Nat := 1
  deriving DecidableEq, Repr

/-- A host entry: NVS_Q_HDR, NVS_Q_ADDR, NVS_Q_LEN and NVS_Q_POLL as captured (R312). -/
structure NvsEntry where
  hdr : Word
  addr : Word
  len : Word
  poll : Word
  deriving DecidableEq, Repr

/-- One flash transaction on the pins: select line, the lanes of command, address and data, command byte, address bytes, dummy cycles,
bytes sent, bytes to receive (R312), and the rate of NVS_SCLK in MHz that Keeper firmware sets (none: that of NVS_CTRL.DIV). -/
structure FlashTxn where
  sel : Nat
  lanes : Nat × Nat × Nat
  cmd : Nat
  addr : List Byte
  dummy : Nat
  out : List Byte
  receives : Nat
  mhz : Option Nat := none
  deriving DecidableEq, Repr

/-- How Keeper firmware uses the flash that step 2 found: whether with codes of four address bytes, and whether on four lanes (R316). -/
structure FlashMode where
  four : Bool
  quad : Bool
  deriving DecidableEq, Repr

/-- One part of a Keeper sequence on the store port (R295, R316): the probe of step 2, the first read of an image's header, the read of an
image, one try of a store of an image in copy 1 (A) or 2 (B). -/
inductive FlashSeq where
  | probe (found : FlashProbe)
  | first (base : Nat)
  | image (base bytes : Nat)
  | store (copy : Nat) (m : Image)
  deriving DecidableEq, Repr

/-- The store port: queued host entries (16), the entry that runs, the two FIFOs (256 words each), received words that wait for
room, the transactions of the last entry run; the flash as step 2 found it (none: it does not respond), and the last Keeper sequence. -/
structure Nvs where
  queue : List NvsEntry := []
  running : Option NvsEntry := none
  wdata : List Word := []
  rdata : List Word := []
  incoming : List Word := []
  txns : List FlashTxn := []
  flash : Option FlashMode := none
  keeper : List FlashSeq := []
  deriving DecidableEq, Repr

/-! ## Register bus, configuration scan, mailbox, Keeper (R320-R344, R353) -/

/-- An access that a port has issued and that has not landed (R304, R305, R320, R339): a write, none past the end of its page, by an
unlocked Keeper port or not, with the mark of a frame's last word; a read whose samples disagree or not (R340); a word of a READ frame,
with the same two; the reset of the host frame format. -/
inductive BusAccess where
  | write (addr : Option Nat) (value : Nat) (unlocked last : Bool)
  | read (addr : Nat) (unstable : Bool)
  | frameRead (addr : Option Nat) (unstable last : Bool)
  | resetFormat
  deriving DecidableEq, Repr

/-- The register bus: by port (0 host port, 1 Keeper port) the accesses that have not landed, in the port's order, and the open guarded
pair (address and value of its first write); by address the value last taken across a crossing (R340; unlisted: the Reset value); by page
the staged entry (its first indirect address, the words written by number) and the captured entry (the indirect address last read, its
words); the scan's marks DIRTY and INCOMPLETE, whether its result is to be committed, and the boundary count at its start while TOW ran;
and the word the last read returned. -/
structure Bus where
  held : Store (List BusAccess) := []
  taken : Store Nat := []
  pair : Store (Nat × Nat) := []
  staged : Store (Nat × Store Word) := []
  captured : Store (Nat × List Word) := []
  dirty : Bool := false
  incomplete : Bool := false
  commitScan : Bool := false
  scanAt : Option Nat := none
  lastRead : Word := 0
  deriving DecidableEq, Repr

/-- The mailbox: object and index of the request in progress, the arguments the Keeper took, the words captured at a boundary, the
boundaries passed since the request, and the EMITs submitted and Berths skipped of an EMIT_WHARF in progress. -/
structure Mailbox where
  req : Option (Nat × Nat) := none
  args : List Word := []
  words : Option (List Word) := none
  pounds : Nat := 0
  emitting : Bool := false
  sent : Nat := 0
  skipped : Nat := 0
  deriving DecidableEq, Repr

/-- Keeper firmware: the Berths whose frames it has still to re-send, each with whether only AUTO_EMIT Berths are meant (R271, R354),
whether it restarts from ROM (R21), and the body of the patch loaded into patch RAM (R356). -/
structure Keeper where
  emits : List (Nat × Bool) := []
  restarting : Bool := false
  patch : List Byte := []
  deriving DecidableEq, Repr

/-! ## The device -/

/-- Everything the spec gives the device. `fields` holds every register field that is not at its reset value (Shape gives the
key); `epoch` counts power-on resets; `freeCtr` is the model's own: how many free values have been drawn. -/
structure Device where
  fields : Store Nat := []
  epoch : Nat := 0
  freeCtr : Nat := 0
  boot : Boot := {}
  clk : Clocks := {}
  flt : FaultUnit := {}
  cores : Store Core := []
  twins : Store Twin := []
  outputs : Store Output := []
  bandMap : Store Word := []
  bandEpoch : Nat := 0
  loads : List Load := []
  ledger : Ledger := {}
  eng : Engines := {}
  dec : Decisions := {}
  whf : Wharves := {}
  tow : Tow := {}
  tpt : Tpt := {}
  cal : Cal := {}
  hsp : Hsp := {}
  nvs : Nvs := {}
  bus : Bus := {}
  mbx : Mailbox := {}
  kpr : Keeper := {}
  deriving DecidableEq, Repr

/-! ## Outcomes and the state -/

/-- Why a step faults. The spec gives no command of this device a machine fault: errors are records, events and rejections in the
state. No meaning answers with one. -/
inductive Fault where
  /-- Never raised; the spec names no such stop. Safe: nothing depends on it. -/
  | none
  deriving DecidableEq, Repr

/-- Why a step is refused. -/
inductive Refusal where
  /-- A command without a meaning yet; raised by Dispatch only. Safe: the machine stops. -/
  | notModelled (mnemonic : String)
  deriving DecidableEq, Repr

/-- The state: the device and the commands that wait, first in, first out. -/
structure State where
  dev : Device
  pending : List Instr
  deriving DecidableEq, Repr

/-- The state with power-on reset in force (R44, R51): every register at its Reset value, every memory undefined, nothing waiting.
(DESIGN CHOICE: log entry 5) -/
def State.reset : State := { dev := {}, pending := [] }

end Sys2Proof.Machine
end

