-- ==== Sys2Proof/Machine/Ops.lean ====
section
/-! DEFINITION. The named operations over the state: reading and writing a register field, counting, setting an event, reporting
a fault, drawing a free value. -/

namespace Sys2Proof.Machine

/-- A step whose whole effect is f on the device. While a reset is in force no unit runs and nothing happens (R44, R46). The queue
of waiting commands is not touched. (DESIGN CHOICE: log entry 5) -/
def State.on (s : State) (f : Device → Device) : State := if s.dev.boot.inReset then s else { s with dev := f s.dev }

/-- A step of reset, power supervision or a pin, which acts in reset too. (DESIGN CHOICE: log entry 5) -/
def State.always (s : State) (f : Device → Device) : State := { s with dev := f s.dev }

/-- The value of copy i of a register field: what the store lists, else its reset value. -/
def Device.get (d : Device) (f : Fld) (i : Nat := 0) : Nat := Store.getD d.fields (f.key i) (f.reset i)

/-- Does a one-bit field hold 1. -/
def Device.is (d : Device) (f : Fld) (i : Nat := 0) : Bool := d.get f i == 1

/-- Give copy i of a field a value, cut to its width; a field at its reset value is not listed. -/
def Device.put (d : Device) (f : Fld) (i : Nat) (v : Nat) : Device :=
  { d with fields := Store.put d.fields (f.reset i) (f.key i) (v % 2 ^ f.width) }

/-- Set a one-bit field from a Bool. -/
def Device.putB (d : Device) (f : Fld) (i : Nat) (b : Bool) : Device := d.put f i (ofBool b)

/-- Add n to a counter field, wrapping at its width (CNT). -/
def Device.bump (d : Device) (f : Fld) (i : Nat := 0) (n : Nat := 1) : Device := d.put f i (d.get f i + n)

/-- The page of copy i of a field. -/
def Fld.page (f : Fld) (i : Nat) : Nat := f.addr i / 0x1000

/-- Which event register of its page a field belongs to, counted in ascending offset (R324). (DEDUCED: log entry 78) -/
def Fld.eventIndex (f : Fld) (i : Nat) : Nat :=
  if f.base = 0x20AC then 1
  else if f.base = 0x20C8 then 2
  else if f.base = 0x2008C then 1
  else if f.base = 0x3C0E0 then i
  else if f.base = 0x40108 then i % 4
  else if f.base = 0x4020C then 4 + i % 4
  else if f.base = 0x330F0 then 1
  else if f.base = 0x330F4 then 2
  else if f.base = 0x330F8 then 3
  else if f.base = 0x330FC then 4
  else 0

/-- Set bit k of IRQ_STAT.EVT of a page (R324). -/
def Device.irqStat (d : Device) (page k : Nat) : Device :=
  d.put F.IRQ_STAT_EVT page (setBit (d.get F.IRQ_STAT_EVT page) k)

/-- Set bit b of an event field and the IRQ_STAT bit of its event register (R324). -/
def Device.eventBit (d : Device) (f : Fld) (i b : Nat) : Device :=
  (d.put f i (setBit (d.get f i) b)).irqStat (f.page i) (f.eventIndex i)

/-- Set a one-bit event field and the IRQ_STAT bit of its event register (R324). -/
def Device.event (d : Device) (f : Fld) (i : Nat := 0) : Device := d.eventBit f i 0

/-- Set a bit of PAGE_STAT of a page and IRQ_STAT bit 31 (R322, R324). -/
def Device.pageEvent (d : Device) (f : Fld) (page : Nat) : Device :=
  (d.put f page 1).put F.IRQ_STAT_PAGE page 1

/-- The next free value of a kind, and the state with the counter advanced. (DESIGN CHOICE: log entry 10) -/
def Device.draw (d : Device) (kind : Nat) : Nat × Device :=
  (Config.free kind d.freeCtr, { d with freeCtr := d.freeCtr + 1 })

/-- Apply f when b holds, else leave the device. (DESIGN CHOICE: log entry 8) -/
def Device.when (d : Device) (b : Bool) (f : Device → Device) : Device := if b then f d else d

/-- A write reaches a configuration-class location: a scan in progress becomes dirty (R336). (DESIGN CHOICE: log entry 51) -/
def Device.markDirty (d : Device) : Device :=
  d.when (d.is F.CFG_STAT_SCANNING) (fun d => { d with bus := { d.bus with dirty := true } })

/-- A report enters the report queue of 256 entries, or is lost and counted (R347). -/
def Device.reportAt (d : Device) (cls src code reporter : Nat) (at? : Option Pound) : Device :=
  if d.flt.queue.length < 256 then
    { d with flt := { d.flt with queue := d.flt.queue ++ [{ cls, src, code, reporter, at? }] } }
  else (d.bump F.FLT_LOST_CNT_LOST).event F.FLT_EVT_LOST

/-- A report whose stamps are those of the moment the fault unit takes it. -/
def Device.report (d : Device) (cls src code reporter : Nat) : Device := d.reportAt cls src code reporter none

/-- Registers take their Reset values: no field of theirs is listed any more (R367). -/
def Device.resetRegs (d : Device) (l : List Reg) : Device :=
  { d with fields := Store.keep d.fields (fun key => !l.any (fun r => r.holds key)) }

/-- A mailbox request completes with a RESULT, and with its data words where it has any (R328, R353). -/
def Device.mbxFinish (d : Device) (result : Nat) (words : Option (List Word)) : Device :=
  let d : Device := { d with mbx := {} }
  let d := match words with
    | some l => (forEach (List.range 4) (fun i (d : Device) => d.put F.MBX_DATA_WORD i (l.getD i 0).toNat) d).put F.MBX_STAT_VALID 0 1
    | none => d
  ((d.put F.MBX_STAT_RESULT 0 result).put F.MBX_STAT_BUSY 0 0).event F.MBX_EVT_DONE

/-- The gateable block that closes a page, if one does (R363). -/
def pageBlock (page : Nat) : Option Nat :=
  if 0x10 ≤ page ∧ page < 0x20 then some (64 + (page - 0x10))
  else if 0x40 ≤ page ∧ page < 0x80 then some (page - 0x40)
  else if page = 0x32 then some 115
  else if page = 0x33 then some 114
  else if page = 0x39 then some 116
  else none

/-- A block is closed from the cycle its gate takes force until it is opened again (R71): CLOSED 0 or CLOSING 3. -/
def Device.blockClosed (d : Device) (b : Nat) : Bool :=
  d.get F.CLK_BLK_STAT_STATE b == 0 || d.get F.CLK_BLK_STAT_STATE b == 3

/-- The gate of a block is OPEN (R71). -/
def Device.blockOpened (d : Device) (b : Nat) : Bool := d.get F.CLK_BLK_STAT_STATE b == 2

/-- The page closes with a block that is closed (R323, R363). -/
def Device.pageClosed (d : Device) (page : Nat) : Bool :=
  match pageBlock page with
  | some b => d.blockClosed b
  | none => false

/-- The write of a register of a page, which is ignored while the page is closed (R323). (DESIGN CHOICE: log entry 51) -/
def Device.ifOpen (d : Device) (page : Nat) (f : Device → Device) : Device := if d.pageClosed page then d else f d

/-- The pages of R361. -/
def pageImplemented (page : Nat) : Bool :=
  page ≤ 0x0B || (0x10 ≤ page && page ≤ 0x21) || (0x30 ≤ page && page ≤ 0x34) || page == 0x38 || page == 0x39
    || page == 0x3C || (0x40 ≤ page && page ≤ 0x87)

end Sys2Proof.Machine
end

