-- ==== Sys2Proof/Machine/CalImage.lean ====
section
/-! DEFINITION. The calibration images: their layout, validity, defaults, and what units take from the in-force image (R291-R294). -/

namespace Sys2Proof.Machine

/-- The bytes of MAGIC, FORMAT and DIE_ID of the layout; every other byte is zero (R292). -/
def layoutByte (i : Nat) : Nat :=
  if i < 4 then 0x314C4143 / 256 ^ i % 256
  else if i = 4 then 1
  else if 0xC ≤ i ∧ i < 0x14 then Config.dieId.toNat / 256 ^ (i - 0xC) % 256
  else 0
/-- Byte i of an image that nothing has written (R44, R292). (DESIGN CHOICE: log entries 11, 15) -/
def ImgBase.byte (b : ImgBase) (i : Nat) : Nat :=
  match b with
  | .zero => 0
  | .layout => layoutByte i
  | .lost e => Config.arbitrary 14 e i % 256
/-- Byte i of an image. -/
def imgByte (m : Image) (i : Nat) : Nat :=
  match Store.get? m.bytes i with
  | some b => b.toNat
  | none => m.base.byte i
def setImgByte (m : Image) (i v : Nat) : Image := 
  { m with bytes := Store.put m.bytes (BitVec.ofNat 8 (m.base.byte i)) i (BitVec.ofNat 8 v) }
/-- The n-byte little-endian number at i. -/
def imgNum (m : Image) : Nat → Nat → Nat
  | 0, _ => 0
  | n + 1, i => imgByte m i + 256 * imgNum m n (i + 1)
def setImgNum (m : Image) : Nat → Nat → Nat → Image
  | 0, _, _ => m
  | n + 1, i, v => setImgNum (setImgByte m i v) n (i + 1) (v / 256)
/-- The signed four-byte number at i. -/
def imgInt (m : Image) (i : Nat) : Int := sgn 32 (imgNum m 4 i)

/-- Byte offset of the valid units of a kind (R292): MON, STAMP, DELAY, BANDMAP, LANE. -/
def validBase (kind : Nat) : Nat :=
  match kind with
  | 0 => 0x20 | 1 => 0x2C | 2 => 0x28 | 3 => 0x24 | _ => 0x40
/-- The unit of a kind is valid in an image. -/
def imgValid (m : Image) (kind unit : Nat) : Bool := bit (imgByte m (validBase kind + unit / 8)) (unit % 8)
def setImgValid (m : Image) (kind unit : Nat) : Image :=
  setImgByte m (validBase kind + unit / 8) (setBit (imgByte m (validBase kind + unit / 8)) (unit % 8))

/-- How many units a kind has (R281). -/
def unitCount (kind : Nat) : Nat :=
  match kind with
  | 0 => 16 | 1 => 66 | 2 => 32 | 3 => 16 | 4 => 256 | _ => 0
/-- Offset of a unit's offset word, for the kinds that have one. -/
def offsetBase (kind unit : Nat) : Nat := (match kind with | 0 => 0x100 | 1 => 0x1C0 | _ => 0x140) + 4 * unit
/-- Offset and number of a unit's one-byte codes: widths, or the trims of a lane. -/
def codeBase (kind unit : Nat) : Nat :=
  match kind with
  | 0 => 0xD400 + 0x800 * unit
  | 1 => 0x15400 + 0x200 * unit
  | 2 => 0x5400 + 0x400 * unit
  | _ => 0x400 + 16 * unit
def codeCount (kind : Nat) : Nat :=
  match kind with
  | 0 => 2048 | 1 => 512 | 2 => 1024 | _ => 16
/-- Offset of word w of entry e of core c's band map. -/
def bandBase (c e w : Nat) : Nat := 0x1400 + 0x400 * c + 0x10 * e + 4 * w

/-- The bytes of an image before its check word. -/
def imgBytes (m : Image) : List Byte := (List.range 0x1FFFC).map (fun i => BitVec.ofNat 8 (imgByte m i))
/-- The check word of an image is good (R292). -/
def imgGood (m : Image) : Bool := imgNum m 4 0x1FFFC == crc32c (imgBytes m)
/-- An image with its check word computed anew (R291). (DEDUCED: log entry 98) -/
def sealImg (m : Image) : Image := setImgNum m 4 0x1FFFC (crc32c (imgBytes m))
/-- A flash copy is valid (R294). (DESIGN CHOICE: log entry 34) -/
def copyValid (m : Image) : Bool :=
  imgNum m 4 0 == 0x314C4143 && imgNum m 2 4 == 1 && imgNum m 8 0xC == Config.dieId.toNat && imgGood m
/-- A flash copy as an image; a byte it does not list is zero. -/
def copyStore (l : List (Nat × Byte)) : Image := { bytes := forEach l (fun e m => Store.put m 0 e.1 e.2) [], base := .zero }
/-- The pending results: none while the calibration RAM is arbitrary (R44, R289). (DESIGN CHOICE: log entry 11; DEDUCED: log entry 98) -/
def Cal.held (c : Cal) : Image :=
  match c.pend.base with
  | .lost _ => {}
  | _ => c.pend
def imgSeq (m : Image) : Nat := imgNum m 4 8
/-- X is newer than Y in serial order (R294). -/
def newer (x y : Nat) : Bool := let d := (x + 2 ^ 32 - y) % 2 ^ 32; decide (1 ≤ d) && decide (d ≤ 2 ^ 31 - 1)

/-- Positions of the first n codes of widths w from a start, in order. -/
def positionsFrom (p : Int) : List Nat → List Int
  | [] => []
  | w :: t => p :: positionsFrom (p + w) t

/-- The delays of the 1,024 taps of output n in 1/64 ps: p_0 plus the stored widths, or tap j at j ps by default (R292, R293).
(DESIGN CHOICE: log entry 15) -/
def Cal.tapDelays (m : Image) (n : Nat) : List Int :=
  if imgValid m 2 n then
    positionsFrom (imgInt m (offsetBase 2 n)) ((List.range 1024).map (fun t => imgByte m (codeBase 2 n + t)))
  else (List.range 1024).map (fun t => (64 * t : Nat))

/-- Where fine code j of a TDC sits, in 1/64 ps: the widths of the codes before it, or codes of equal width over 800 ps (R281, R282,
R293). (DESIGN CHOICE: log entry 15) -/
def Cal.codePos (m : Image) (kind unit j : Nat) : Nat :=
  if imgValid m kind unit then ((List.range j).map (fun k => imgByte m (codeBase kind unit + k))).foldl (· + ·) 0
  else j * (51200 / codeCount kind)

/-- A TDC reading as a time in 1/64 ps: coarse cycles of 800 ps and a fine code, counted together (R281). -/
def Cal.readingTime (m : Image) (kind unit reading : Nat) : Nat :=
  51200 * (reading / codeCount kind) + Cal.codePos m kind unit (reading % codeCount kind)

/-- What is subtracted from every stamp of a unit, in 1/64 ps (R283, R293). -/
def Cal.stampOffset (m : Image) (unit : Nat) : Int :=
  if imgValid m 1 unit then imgInt m (offsetBase 1 unit) else Config.stampOffset unit

/-- A reading of the stamp TDC of a unit, counted from the present pound boundary, as a time in 1/64 ps under an image (R219, R281, R283). -/
def Cal.stampTime (m : Image) (unit reading : Nat) : Int := (Cal.readingTime m 1 unit reading : Nat) - Cal.stampOffset m unit
/-- The same under the image in force. -/
def Device.stampTime (d : Device) (unit reading : Nat) : Int := Cal.stampTime d.cal.inForce unit reading
/-- The same on the output scale of 1 ps. (DESIGN CHOICE: log entry 90) -/
def Device.stampPs (d : Device) (unit reading : Nat) : Int := divRound (d.stampTime unit reading) 64
/-- A reading of the monitor TDC of core c on its output scale of 0.5 ps (R103, R281). -/
def Device.monReading (d : Device) (c reading : Nat) : Nat :=
  (divRound ((Cal.readingTime d.cal.inForce 0 c reading : Nat) : Int) 32).toNat

/-- The tap nearest to a delay in 1/64 ps; the lowest of two equally near (R134). -/
def nearestTap (want : Int) (taps : List Int) : Nat :=
  (taps.zipIdx.foldl (fun (best : Nat × Nat) x =>
    let dist := (x.1 - want).natAbs
    if dist < best.2 then (x.2, dist) else best) (0, 2 ^ 64)).1

/-- A STAMP run holds the stamps of a unit: quad q, 64 TICK_IN, 65 PPS_IN (R286). -/
def Device.stampBusy (d : Device) (unit : Nat) : Bool :=
  d.is F.CAL_STAT_BUSY && d.get F.CAL_STAT_KIND == 1 && d.get F.CAL_STAT_UNIT == unit
/-- A run of a kind is in progress on a unit. -/
def Device.calRuns (d : Device) (kind unit : Nat) : Bool :=
  d.is F.CAL_STAT_BUSY && d.get F.CAL_STAT_KIND == kind && d.get F.CAL_STAT_UNIT == unit

end Sys2Proof.Machine
end

