-- ==== Sys2Proof/Machine/Flags.lean ====
section
/-! DEFINITION. What is computed from the state rather than stored: page interrupt requests, IRQ_N, FAULT_N, the fault sums and
the configuration mode (R324, R334, R346, R350, R351). -/

namespace Sys2Proof.Machine

/-- IRQ_STAT of a page as one word. -/
def Device.irqStatWord (d : Device) (page : Nat) : Nat :=
  d.get F.IRQ_STAT_PAGE page * 2 ^ 31 + d.get F.IRQ_STAT_EVT page

/-- A page requests an interrupt (R324). -/
def Device.pageRequests (d : Device) (page : Nat) : Bool :=
  pageImplemented page && !d.pageClosed page && d.is F.PAGE_CTRL_IRQ_PAGE_EN page
    && (d.irqStatWord page).land (d.get F.IRQ_EN_EN page) != 0

/-- IRQ_N is asserted (R350). -/
def Device.irqN (d : Device) : Bool :=
  d.is F.FLT_CTRL_IRQ_OUT_EN && (List.range 0x88).any d.pageRequests

/-- Bits of FLT_IRQ_SUMi: bit b is page 32i + b (R350). -/
def Device.irqSum (d : Device) (i : Nat) : Nat :=
  (List.range 32).foldl (fun a b => a + ofBool (d.pageRequests (32 * i + b)) * 2 ^ b) 0

/-- FAULT_N is asserted: in reset, on a failed start, or by a valid record of a class in FAULTN_MASK (R351). -/
def Device.faultN (d : Device) : Bool :=
  d.boot.inReset || d.is F.SYS_BOOT_STAT_FAILED
    || d.flt.records.any (fun e => e.2.valid && bit (d.get F.FLT_CTRL_FAULTN_MASK) e.2.cls)

/-- A fault record's class and reporters name a unit of a page (R346). -/
def FaultRec.names (r : FaultRec) (page : Nat) : Bool :=
  match r.cls with
  | 0 => page == 0
  | 1 => page == 0
  | 2 => page == 2
  | 3 => decide (0x10 ≤ page) && decide (page < 0x20) && r.reporters.getLsbD (page - 0x10)
  | 4 => page == 0x20
  | 5 => page == (if r.code = 1 then 0x30 else 0x31)
  | 6 => page == 0x33
  | 7 => page == 0x38
  | 8 | 9 | 10 => decide (0x40 ≤ page) && decide (page < 0x80)
      && (List.range 4).any (fun j => r.reporters.getLsbD (4 * (page - 0x40) + j))
  | 11 => page == (if r.code = 1 then 0x08 else 0x06)
  | _ => false

/-- FAULT_SUM.COUNT of a page: valid records naming a unit of it, saturating (R322). -/
def Device.faultCount (d : Device) (page : Nat) : Nat :=
  min 0xFFFF (d.flt.records.filter (fun e => e.2.valid && e.2.names page)).length

/-- CFG_STAT.MODE: 0 SERVICE, 1 START-UP, 2 RECOVERY, 3 TEST (R334). -/
def Device.mode (d : Device) : Nat :=
  if d.boot.testmode then 3
  else if d.is F.SYS_BOOT_STAT_FAILED || d.is F.CFG_CTRL_RECOVERY then 2
  else if d.is F.SYS_BOOT_STAT_READY then 0
  else 1

end Sys2Proof.Machine
end

