-- ==== Sys2Proof/Machine/Faults.lean ====
section
/-! DEFINITION. The fault unit: taking reports, freeing records, the effect log ring (R345-R352). -/

namespace Sys2Proof.Machine

/-- The order in which reports taken in one cycle are handled: CLASS, SOURCE_ID, CODE, reporter (R347). -/
def Report.before (a b : Report) : Bool :=
  decide (a.cls < b.cls) || (a.cls == b.cls && (decide (a.src < b.src) || (a.src == b.src &&
    (decide (a.code < b.code) || (a.code == b.code && decide (a.reporter < b.reporter))))))

/-- Insert a report into a list held in the order of R347. -/
def Report.insertSorted (r : Report) : List Report → List Report
  | [] => [r]
  | x :: t => if Report.before r x then r :: x :: t else x :: Report.insertSorted r t

/-- The reports of one REG cycle: up to four from the head of the queue, in the order of R347. -/
def Report.sortBatch (l : List Report) : List Report := (l.take 4).foldl (fun acc r => Report.insertSorted r acc) []

/-- A record has the key of a report (R345). -/
def FaultRec.sameKey (x : FaultRec) (r : Report) : Bool := x.valid && x.cls == r.cls && x.src == r.src && x.code == r.code

/-- The lowest-numbered of 256 entries that is not valid, if any (R347). (DEDUCED: log entry 105) -/
def FaultUnit.freeEntry (u : FaultUnit) : Option Nat :=
  (List.range 256).find? (fun k => !(Store.get? u.records k).any (·.valid))

/-- The stamp of a report: the pound R348 fixes, else the P:f at which it is taken; before TOW runs P is 0, PRE_TOW is set and f is
the SIO count. -/
def Device.stampOf (d : Device) (r : Report) (f : BitVec 24) : Stamp :=
  match r.at? with
  | some p => { p, f := 0, preTow := false }
  | none => if d.tow.running then { p := d.tow.pound, f } else { p := 0, f, preTow := true }

/-- One report is handled: it coalesces into the valid record of its key, or makes a new record in the lowest free entry, or is
lost when no entry is free (R347). -/
def Device.takeReport (d : Device) (r : Report) (f : BitVec 24) : Device :=
  let st := d.stampOf r f
  let last := match r.last? with
    | some p => { p }
    | none => st
  match d.flt.records.find? (fun e => e.2.sameKey r) with
  | some (k, x) =>
    let x' := { x with count := min 0xFFFF (x.count + 1), last,
                       reporters := x.reporters ||| (1#256 <<< r.reporter) }
    { d with flt := { d.flt with records := Store.set d.flt.records k x' } }
  | none =>
    match d.flt.freeEntry with
    | some k =>
      let x : FaultRec := { cls := r.cls, src := r.src, code := r.code, count := 1, first := st, last,
                            reporters := 1#256 <<< r.reporter }
      (({ d with flt := { d.flt with records := Store.set d.flt.records k x } } : Device).put F.FLT_NEW_IDX_INDEX 0 k).event
        F.FLT_EVT_NEW_RECORD
    | none => (d.bump F.FLT_LOST_CNT_LOST).event F.FLT_EVT_LOST

/-- The fault unit takes one report: from the cycle in hand, else from the next four of the queue. With none waiting nothing
happens. -/
def Device.faultReport (d : Device) (f : BitVec 24) : Device :=
  match d.flt.batch with
  | r :: t => ({ d with flt := { d.flt with batch := t } } : Device).takeReport r f
  | [] =>
    match Report.sortBatch d.flt.queue with
    | r :: t => ({ d with flt := { d.flt with batch := t, queue := d.flt.queue.drop 4 } } : Device).takeReport r f
    | [] => d

/-- Free one record (R349). (DEDUCED: log entry 105) -/
def Device.freeRecord (d : Device) (k : Nat) : Device :=
  match Store.get? d.flt.records k with
  | some x => { d with flt := { d.flt with records := Store.set d.flt.records k { x with valid := false } } }
  | none => d

/-- A write of FLT_CLEAR: INDEX is kept, GO frees that record (R349). -/
def Device.wrFltClear (d : Device) (v : Nat) : Device :=
  let d := d.put F.FLT_CLEAR_INDEX 0 (bits v 7 0)
  if bit v 31 then d.freeRecord (bits v 7 0) else d

/-- Free every record (R349). -/
def Device.freeAll (d : Device) : Device :=
  { d with flt := { d.flt with records := d.flt.records.map (fun e => (e.1, { e.2 with valid := false })) } }

/-- A write of FLT_CTRL: FAULTN_MASK and IRQ_OUT_EN are kept, CLEAR_ALL frees every record. -/
def Device.wrFltCtrl (d : Device) (v : Nat) : Device :=
  let d := (d.put F.FLT_CTRL_FAULTN_MASK 0 (bits v 31 16)).put F.FLT_CTRL_IRQ_OUT_EN 0 (bits v 0 0)
  if bit v 1 then d.freeAll else d

/-- The report is the HOP_MISS of a twin. -/
def Report.isHopMiss (r : Report) (k : Nat) : Bool := r.cls == 4 && r.src == 0 && r.code == 1 && r.reporter == k

/-- The last HOP_MISS report of twin k in a list takes the pound of the change. -/
def stampReport (k : Nat) (p : Pound) : List Report → List Report
  | [] => []
  | r :: t => if r.isHopMiss k && !t.any (·.isHopMiss k) then { r with last? := some p } :: t else r :: stampReport k p t

/-- The last stamp of the HOP_MISS record of twin k at the change or abandonment of its deferred hop; COUNT is unchanged (R126, R348). A
report of it that the fault unit has not yet taken carries the stamp along. -/
def Device.stampHopMiss (d : Device) (k : Nat) (p : Pound) : Device :=
  if d.flt.queue.any (·.isHopMiss k) then { d with flt := { d.flt with queue := stampReport k p d.flt.queue } }
  else if d.flt.batch.any (·.isHopMiss k) then { d with flt := { d.flt with batch := stampReport k p d.flt.batch } }
  else match d.flt.records.find? (fun e => e.2.valid && e.2.cls == 4 && e.2.src == 0 && e.2.code == 1) with
  | some (i, x) => { d with flt := { d.flt with records := Store.set d.flt.records i { x with last := { p } } } }
  | none => d

/-! ## Effect log (R352) -/

/-- Entries in the log ring: (HEAD - TAIL) mod 4096. -/
def Device.logLevel (d : Device) : Nat := (d.get F.FLT_LOG_HEAD_HEAD + 4096 - d.get F.FLT_LOG_TAIL_TAIL) % 4096

/-- LOG_HIGH is set when the level reaches HIGH from below. -/
def Device.logWeir (d : Device) (before : Nat) : Device :=
  d.when (decide (before < d.get F.FLT_LOG_CFG_HIGH) && decide (d.get F.FLT_LOG_CFG_HIGH ≤ d.logLevel))
    (fun d => d.event F.FLT_EVT_LOG_HIGH)

/-- A record enters the log at HEAD, or is dropped and counted when the ring is full or 64 records were taken in this pound. -/
def Device.logRecord (d : Device) (rec : BitVec 128) : Device :=
  if d.logLevel = 4095 ∨ 64 ≤ d.flt.loggedThisPound then
    (d.bump F.FLT_LOG_LOST_CNT_LOST).event F.FLT_EVT_LOG_LOST
  else
    let before := d.logLevel
    let h := d.get F.FLT_LOG_HEAD_HEAD
    (({ d with flt := { d.flt with log := Store.set d.flt.log h rec,
                                   loggedThisPound := d.flt.loggedThisPound + 1 } } : Device).put
      F.FLT_LOG_HEAD_HEAD 0 (h + 1)).logWeir before

/-- A write of FLT_LOG_TAIL, taken mod 4096; the level is computed from it. -/
def Device.wrLogTail (d : Device) (v : Nat) : Device :=
  (d.put F.FLT_LOG_TAIL_TAIL 0 (bits v 11 0)).logWeir d.logLevel

/-! ## Meanings -/

/-- FAULT_REPORT: the fault unit takes a queued report at fraction f of the pound (R347, R348). -/
def execFaultReport (f : BitVec 24) (s : State) : Host.Outcome State Fault Refusal := .next (s.on (·.faultReport f))

/-- FLT_CLEAR: the write of FLT_CLEAR with GO set and these data (R349). -/
def execFltClear (v : Word) (s : State) : Host.Outcome State Fault Refusal :=
  .next (s.on (·.wrFltClear (setBit v.toNat 31)))

/-- CLEAR_ALL: the write of FLT_CTRL with CLEAR_ALL set and these data (R349). -/
def execClearAll (v : Word) (s : State) : Host.Outcome State Fault Refusal :=
  .next (s.on (fun d => (d.wrFltCtrl (setBit v.toNat 1)).markDirty))

/-- FLT_LOG_TAIL_WRITE: the write of FLT_LOG_TAIL with these data (R352). -/
def execFltLogTailWrite (v : Word) (s : State) : Host.Outcome State Fault Refusal :=
  .next (s.on (·.wrLogTail v.toNat))

end Sys2Proof.Machine
end

