-- ==== Sys2Proof/Machine/Operands.lean ====
section
/-! DEFINITION. The operand forms of the command words (R151-R154), the Berth entry and its encodings (R143, R144), the phase
arithmetic (R148, R163), the Barge (R162) and the effect record (R167). -/

namespace Sys2Proof.Machine

/-! ## Command words (R151, R153) -/

/-- Bits [hi:lo] of a 128-bit command word. -/
def wbits (w : BitVec 128) (hi lo : Nat) : Nat := bits w.toNat hi lo

def cmdOp (w : BitVec 128) : Nat := wbits w 127 124
def cmdImm (w : BitVec 128) : Bool := w.getLsbD 123
def cmdLong (w : BitVec 128) : Bool := w.getLsbD 122
def cmdBerth (w : BitVec 128) : Nat := wbits w 119 103
def cmdTp (w : BitVec 128) : Nat := wbits w 102 79
def cmdFreq (w : BitVec 128) : Freq := w.extractLsb' 0 72
def cmdDelta (w : BitVec 128) : Phase := w.extractLsb' 0 64
def cmdBinding (w : BitVec 128) : Nat := wbits w 71 64
def cmdFlags (w : BitVec 128) : BitVec 16 := w.extractLsb' 48 16
def cmdHopKind (w : BitVec 128) : Nat := wbits w 78 77
def cmdPhaseAbs (w : BitVec 128) : Bool := w.getLsbD 76
def cmdMask (w : BitVec 128) : BitVec 4 := w.extractLsb' 16 4
def cmdNumber (w : BitVec 128) : BitVec 16 := w.extractLsb' 0 16
/-- The Berths a FILL names: COUNT_M1 + 1 (R153). -/
def cmdCount (w : BitVec 128) : Nat := wbits w 78 68 + 1

/-- A PREP_HOP of kind TWIN (R15). -/
def cmdIsTwinHop (w : BitVec 128) : Bool := cmdOp w == 7 && cmdHopKind w == 0

/-- FENCE and FILL have no target pound (R161, R189). -/
def cmdNoTarget (w : BitVec 128) : Bool := cmdOp w == 8 || cmdOp w == 9

/-- Pounds between the target and the first and last pound of the issue window (R12, R15). -/
def windowOpen (w : BitVec 128) : Nat := if cmdIsTwinHop w then 265 else 16
def windowClose (w : BitVec 128) : Nat := if cmdIsTwinHop w then 250 else 2

/-- The pound named by TP from the acceptance pound c, as an exact integer (R152). -/
def resolveTp (c : Pound) (tp : Nat) : Int :=
  let base : Int := (c.toNat : Int) - 2 ^ 20
  base + ((tp : Int) - base) % 2 ^ 24

/-- T of a command accepted at pound c, as an exact integer: c for FENCE and FILL, c + 2 with IMM (R151), c + 2 + D for a
command of an action list (R210), else R152. (DEDUCED: log entry 62) -/
def resolveT (src : Nat) (w : BitVec 128) (c : Pound) : Int :=
  if cmdNoTarget w then (c.toNat : Int)
  else if cmdImm w then c.toNat + 2
  else if src = 2 then c.toNat + 2 + bits (cmdTp w) 19 0
  else resolveTp c (cmdTp w)

/-- Effect record codes (R168, R199, R212). -/
abbrev Code := Nat

/-- The opcode takes a second word: SET_FREQ_PHASE, and PREP_HOP with PHASE_ABS. -/
def cmdTakesTwo (w : BitVec 128) : Bool := cmdOp w == 2 || (cmdOp w == 7 && cmdPhaseAbs w)

/-- The operand of a BIND is out of rule (R154). -/
def badBind (w : BitVec 128) : Bool :=
  let b := cmdBinding w
  b / 64 == 0 || b / 64 == 3 || bits (cmdFlags w).toNat 7 2 != 0 || bit b 4 || (b / 64 == 1 && bits b 5 0 != 0)

/-- The checks at acceptance, in the order of the table of R154; R210 adds its own for source 2. `second` is the word that follows
when LONG is set. -/
def acceptCode (src : Nat) (w : BitVec 128) (second : Option (BitVec 128)) (c : Pound) : Option Code :=
  let op := cmdOp w
  if op == 0xA || op == 0xB || op == 0xC || op == 0xD || op == 0xF || op == 0xE then some 0x03
  else if cmdLong w && !(second.any (fun x => cmdOp x == 0xE)) then some 0x04
  else if cmdTakesTwo w && !cmdLong w then some 0x04
  else if !cmdTakesTwo w && cmdLong w then some 0x04
  else if op == 4 && badBind w then some 0x04
  else if op == 7 && cmdHopKind w == 3 then some 0x04
  else if op == 9 && 2048 < cmdBerth w % 2048 + cmdCount w then some 0x04
  else if src == 2 && (op == 9 || (!cmdImm w && bits (cmdTp w) 23 20 != 0 && op != 8)) then some 0x04
  else if cmdNoTarget w then none
  else if resolveT src w c < c.toNat + (if cmdIsTwinHop w then 250 else 2) then some 0x01
  else none

/-- Eligible at pound p: at once with IMM, for FENCE and FILL; else once the issue window has opened (R175). -/
def Cmd.eligible (c : Cmd) (p : Pound) : Bool :=
  cmdImm c.w1 || cmdNoTarget c.w1 || decide (c.t.toNat ≤ p.toNat + windowOpen c.w1)

/-- LATE at the boundary that opens pound p: the last pound of the issue window has ended (R14). (DEDUCED: log entry 62) -/
def Cmd.isLate (c : Cmd) (p : Pound) : Bool :=
  !cmdNoTarget c.w1 && decide (c.t.toNat < p.toNat + windowClose c.w1)

/-- The engine that owns a Berth (R174). -/
def ownerOf (berth : Nat) : Nat := berth / 2048

/-- The bank of a Berth's entry and lease (R147, R185). -/
def bankOf (berth : Nat) : Nat := (berth / 32 + berth % 32) % 32

/-- A command names a Berth: its own, or for a FILL a Berth of its range whose write is not yet committed (R16, R183). -/
def Cmd.namesBerth (c : Cmd) (b : Nat) : Bool :=
  if cmdOp c.w1 = 9 then decide (cmdBerth c.w1 + c.filled ≤ b) && decide (b < cmdBerth c.w1 + cmdCount c.w1)
  else cmdOp c.w1 != 0 && cmdBerth c.w1 == b

/-! ## The Berth entry (R143, R144) -/

/-- The 256 data bits of an entry. -/
def Entry.pack (e : Entry) : BitVec 256 :=
  (e.a ++ e.phi ++ e.f ++ e.channel ++ e.state ++ e.binding ++ e.flags ++ e.gen : BitVec 256)

/-- The entry that 256 data bits spell. -/
def Entry.unpack (b : BitVec 256) : Entry :=
  { a := b.extractLsb' 192 64, phi := b.extractLsb' 128 64, f := b.extractLsb' 56 72, channel := b.extractLsb' 44 12,
    state := b.extractLsb' 40 4, binding := b.extractLsb' 32 8, flags := b.extractLsb' 16 16, gen := b.extractLsb' 0 16 }

/-- BINDING.KIND: 0 not bound, 1 channel, 2 core. -/
def Entry.kind (e : Entry) : Nat := e.binding.toNat / 64
def Entry.twinBit (e : Entry) : Bool := e.binding.getLsbD 5
def Entry.core (e : Entry) : Nat := e.binding.toNat % 16
def Entry.bound (e : Entry) : Bool := e.state == 1
def Entry.noRefresh (e : Entry) : Bool := e.flags.getLsbD 1
def Entry.autoEmit (e : Entry) : Bool := e.flags.getLsbD 0

/-- The entry of Berth id is valid (R144). -/
def Entry.valid (e : Entry) (id : Nat) : Bool :=
  decide (e.state.toNat ≤ 2) && e.kind != 3 && (e.bound == (e.kind != 0)) && e.channel.toNat == id / 32
    && !e.binding.getLsbD 4 && bits e.flags.toNat 7 2 == 0
    && (e.kind == 2 || e.binding.toNat % 64 == 0) && !(e.twinBit && e.core % 2 == 1)

/-- The entry FILL writes (R161). -/
def Entry.fresh (id : Nat) (p : Pound) : Entry :=
  { a := p, phi := 0, f := 0, channel := BitVec.ofNat 12 (id / 32), state := 0, binding := 0, flags := 0, gen := 0 }

/-- The frame phase S(t) of R148: the anchor phase plus the fraction of the frequency times the pounds since the anchor. -/
def phaseAt (a : Pound) (phi : Phase) (f : Freq) (t : Pound) : Phase := phi + f.truncate 64 * (t - a)

def Entry.phaseAt (e : Entry) (t : Pound) : Phase := Machine.phaseAt e.a e.phi e.f t

/-- GEN after a commit that writes the Berth (R145). -/
def Entry.next (e : Entry) : Entry := { e with gen := e.gen + 1 }

/-! ## The Barge (R162, R163) -/

/-- F48 of a frequency: truncated (R163). -/
def f48 (f : Freq) : BitVec 48 := f.extractLsb' 24 48

/-- PH32 of a phase: rounded half up, wrapping (R163). -/
def ph32 (p : Phase) : BitVec 32 := (p + 0x80000000#64).extractLsb' 32 32

/-- The 112 bits of a Barge (R162). -/
def bargeBits (first emit refresh : Bool) (pchan : BitVec 12) (index : BitVec 5) (lead : BitVec 4) (f : Freq) (p : Phase) :
    BitVec 112 :=
  ((1#4 ++ BitVec.ofBool first ++ BitVec.ofBool emit ++ BitVec.ofBool refresh ++ 0#1 ++ pchan ++ index ++ lead
    ++ f48 f ++ ph32 p ++ 0#3 : BitVec 112))

/-! ## The effect record (R167) -/

/-- The 128 bits of an effect record. -/
def recordBits (code : BitVec 8) (src : BitVec 2) (op : BitVec 4) (refresh : Bool) (berth : BitVec 17) (gen seq : BitVec 16)
    (effPound : BitVec 24) (target : BitVec 32) : BitVec 128 :=
  (code ++ src ++ op ++ 0#1 ++ BitVec.ofBool refresh ++ berth ++ 0#7 ++ gen ++ seq ++ effPound ++ target : BitVec 128)

/-- The effect record of a command with a code, the GEN to show, and the pound of the record. NOP and FENCE show Berth and GEN
zero; FILL and FENCE show the acceptance pound as target. -/
def Cmd.record (c : Cmd) (code : Code) (gen : BitVec 16) (p : Pound) : BitVec 128 :=
  let op := cmdOp c.w1
  let plain := op == 0 || op == 8
  recordBits (BitVec.ofNat 8 code) (BitVec.ofNat 2 c.src.val) (BitVec.ofNat 4 op) c.refresh
    (if plain then 0 else BitVec.ofNat 17 (cmdBerth c.w1)) (if plain then 0 else gen) c.seq (p.truncate 24)
    (if cmdNoTarget c.w1 then c.acc.truncate 32 else c.t.truncate 32)

end Sys2Proof.Machine
end

