-- ==== Sys2Proof/Machine/Cores.lean ====
section
/-! DEFINITION. The synthesis cores: settings, modulator, predictor, tracking, lock and band, free mode, monitor (R80-R108). -/

namespace Sys2Proof.Machine

def Device.core (d : Device) (c : Nat) : Core := Store.getD d.cores c {}
def Device.setCore (d : Device) (c : Nat) (k : Core) : Device := { d with cores := Store.put d.cores {} c k }
/-- Change what core c holds. -/
def Device.onCore (d : Device) (c : Nat) (f : Core → Core) : Device := d.setCore c (f (d.core c))

def Device.locked (d : Device) (c : Nat) : Bool := d.is F.LOOP_STAT_LOCK c
def Device.aligned (d : Device) (c : Nat) : Bool := d.is F.LOOP_STAT_ALIGNED c
/-- STATE of a core: 0 closed, 1 IDLE, 2 start, 3 acquiring, 4 locked, 5 re-acquiring, 6 band search failed. -/
def Device.coreState (d : Device) (c : Nat) : Nat := d.get F.LOOP_STAT_STATE c
def Device.coreClosed (d : Device) (c : Nat) : Bool := d.blockClosed (64 + c)
/-- A fault record of class CORE (R346). -/
def Device.coreReport (d : Device) (c code : Nat) : Device := d.report 3 0 code c

/-! ## Settings (R82, R83, R98) -/

/-- Nearest integer to a / b for naturals, halves up. (DEDUCED: log entry 55) -/
def roundDiv (a b : Nat) : Nat := (2 * a + b) / (2 * b)

/-- MOD of the registers; a field of zero means 2^40 (R82). -/
def Device.modReg (d : Device) (c : Nat) : Nat :=
  let m := d.get F.LOOP_MOD_HI_MOD c * 2 ^ 32 + d.get F.LOOP_MOD_LO_MOD c
  if m = 0 then 2 ^ 40 else m

/-- D_A of the registers. -/
def Device.dAReg (d : Device) (c : Nat) : Nat := d.get F.LOOP_OUTDIV_DIV_A c + 1

/-- The staged settings of a core (R83). -/
def Device.staged (d : Device) (c : Nat) : Settings :=
  { n := d.get F.LOOP_N_INT_N_INT c, num := d.get F.LOOP_NUM_HI_NUM c * 2 ^ 32 + d.get F.LOOP_NUM_LO_NUM c,
    modulus := d.modReg c, dA := d.dAReg c, dB := d.get F.LOOP_OUTDIV_DIV_B c + 1 }

/-- VCO cycles per eighth of a pound times MOD: N_INT × MOD + NUM. -/
def Settings.rate (s : Settings) : Nat := s.n * s.modulus + s.num

/-- The first refusal of R83 that applies to settings alone: 3 N_INT, 4 NUM, 5 f_vco outside 7.2-14.4 GHz. -/
def Settings.refusal (s : Settings) : Option Nat :=
  if s.n < 14 ∨ 28 < s.n then some 3
  else if s.modulus ≤ s.num then some 4
  else if 10 * s.rate < 144 * s.modulus ∨ 288 * s.modulus < 10 * s.rate then some 5
  else none

/-- The settings R98 derives from a frame frequency with a core's D_A, D_B and MOD. -/
def deriveSettings (f : Freq) (dA dB m : Nat) : Settings :=
  let x := f.toNat * dA
  let n := x / 2 ^ 67
  let num := roundDiv (x % 2 ^ 67 * m) (2 ^ 67)
  if num = m then { n := n + 1, num := 0, modulus := m, dA, dB } else { n, num, modulus := m, dA, dB }

/-- The settings core c would take for a frame frequency now (R98): D_A, MOD and, where the spec names no moment for it, D_B as the
registers hold them. (DESIGN CHOICE: log entry 125) -/
def Device.derived (d : Device) (c : Nat) (f : Freq) : Settings :=
  deriveSettings f (d.dAReg c) (d.get F.LOOP_OUTDIV_DIV_B c + 1) (d.modReg c)

/-- f_vco of settings in kHz, times MOD. -/
def Settings.fvcoKhzMod (s : Settings) : Nat := 500000 * s.rate

/-! ## Band maps (R117, R118) -/

/-- Word w of entry e of core c's band map. (DESIGN CHOICE: log entry 11) -/
def Device.bandWord (d : Device) (c e w : Nat) : Nat :=
  match Store.get? d.bandMap (c * 256 + e * 4 + w) with
  | some x => x.toNat
  | none => Config.arbitrary 1 d.bandEpoch (c * 256 + e * 4 + w) % 2 ^ 32

/-- Entry e of core c covers a key (R117). -/
def Device.bandCovers (d : Device) (c e key : Nat) : Bool :=
  bit (d.bandWord c e 0) 31 && decide (bits (d.bandWord c e 1) 20 0 ≤ key) && decide (key ≤ bits (d.bandWord c e 2) 20 0)

/-- The valid entry of lowest index that covers the ratio of new settings, when MAP_EN of the core is set (R118). -/
def Device.bandLookup (d : Device) (c : Nat) (s : Settings) : Option Preset :=
  if bit (d.get F.COUT_BANDMAP_CTRL_MAP_EN) c then
    match (List.range 64).find? (fun e => d.bandCovers c e (s.rate * 2 ^ 16 / s.modulus)) with
    | some e =>
      let w0 := d.bandWord c e 0
      let w3 := d.bandWord c e 3
      some { tank := bits w0 30 30, band := bits w0 29 22, tune := bits w0 21 10, tempCal := sgn 8 (bits w3 31 24),
             tc := sgn 8 (bits w3 23 16) }
    | none => none
  else none

/-- The tuning preset at the present junction temperature, clamped to 0-4,095 (R118). -/
def Device.presetTune (d : Device) (p : Preset) : Nat :=
  if d.is F.COUT_BANDMAP_CTRL_TEMP_COMP then
    (max 0 (min 4095 ((p.tune : Int) + p.tc * (sgn 8 (d.get F.SYS_TEMP_NOW) - p.tempCal) / 10))).toNat
  else p.tune

/-! ## Twins seen from a core (R114-R116) -/

def Device.twin (d : Device) (k : Nat) : Twin := Store.getD d.twins k {}
def Device.setTwin (d : Device) (k : Nat) (t : Twin) : Device := { d with twins := Store.put d.twins {} k t }
def Device.twinEnabled (d : Device) (k : Nat) : Bool := bit (d.get F.COUT_TWIN_CTRL_TWIN_EN) k
/-- The active core of twin k: LOOP(2k) while the twin is disabled (R115). -/
def Device.activeCore (d : Device) (k : Nat) : Nat :=
  2 * k + ofBool (d.twinEnabled k && bit (d.get F.COUT_TWIN_STAT_ACTIVE) k)
/-- The standby core of twin k. -/
def Device.standbyCore (d : Device) (k : Nat) : Nat := 4 * k + 1 - d.activeCore k
def Device.isStandby (d : Device) (c : Nat) : Bool := d.twinEnabled (c / 2) && d.activeCore (c / 2) != c

def Device.deferring (d : Device) (k : Nat) : Bool := bit (d.get F.COUT_TWIN_STAT_DEFERRING) k

/-- The pound of the change due on twin k: a prepared hop's, or a pending swap's. -/
def Device.changePound (d : Device) (k : Nat) : Option Pound :=
  match (d.twin k).hop with
  | some (t, _, _) => some t
  | none => (d.twin k).swapAt

/-- The deferral limit in pounds; values of DEFER_LOG above 14 act as 14. -/
def Device.deferLimit (d : Device) (k : Nat) : Nat := 2 ^ min 14 (d.get F.COUT_TWIN_CFG_DEFER_LOG k)

/-- Twin k has still to change, miss or abandon at the present boundary (R123, R126). -/
def Device.changeDue (d : Device) (k : Nat) : Bool :=
  if d.deferring k then
    (decide (1 ≤ (d.twin k).deferred) && (d.twin k).sample) || decide (d.deferLimit k ≤ (d.twin k).deferred)
  else (d.changePound k).any (fun t => decide (t.toNat ≤ d.tow.pound.toNat))

/-- Set or clear a bit of a register field. -/
def Device.putBit (d : Device) (f : Fld) (i b : Nat) (v : Bool) : Device :=
  d.put f i (setBits (d.get f i) b b (ofBool v))

/-- The core runs tracking steps: it is locked, and is not the standby of a bound twin unless a TWIN hop has loaded it (R116). In free
mode both cores of a twin track, each its own target (R101, R130). (DEDUCED: log entry 59) -/
def Device.tracks (d : Device) (c : Nat) : Bool :=
  d.locked c && !(d.isStandby c && (d.core c).berth.isSome && !(d.core c).hopTarget)

/-- A standby that runs no tracking steps shows TRACKING clear (R116). (DEDUCED: log entry 59) -/
def Device.standbyStops (d : Device) (k : Nat) : Device :=
  d.when (!d.tracks (d.standbyCore k)) (fun d => d.put F.LOOP_STAT_TRACKING (d.standbyCore k) 0)

/-! ## Outputs seen from a core (R131, R135) -/

def Device.output (d : Device) (n : Nat) : Output := Store.getD d.outputs n {}
def Device.onOutput (d : Device) (n : Nat) (f : Output → Output) : Device :=
  { d with outputs := Store.put d.outputs {} n (f (d.output n)) }

/-- The frequency of output A (false) or B (true) of settings as a ratio, in units of 500 MHz (R82). -/
def Settings.tone (s : Settings) (b : Bool) : Nat × Nat := (s.rate, s.modulus * if b then s.dB else s.dA)
/-- Two ratios are equal. -/
def sameRatio (x y : Nat × Nat) : Bool := x.1 * y.2 == y.1 * x.2

/-- The settings of core c have changed from `old`: an output it drives at a new frequency corrects its duty cycle anew (R135). -/
def Device.dccRetune (d : Device) (c : Nat) (old : Settings) : Device :=
  let changed := fun (b : Bool) => !sameRatio (old.tone b) ((d.core c).set.tone b)
  forEach (List.range 32) (fun n d =>
    d.when ((changed false && (d.output n).behind == some (2 * c)) || (changed true && (d.output n).behind == some (2 * c + 1)))
      (fun d => d.put F.COUT_STAT_DCC_LOCK n 0)) d

/-! ## Predictor and modulator (R84, R97-R100) -/

/-- The predicted phase q in 2^-64 VCO cycle, modulo one period of output A (R97). -/
def Core.q (k : Core) : Nat :=
  (k.cA * 2 ^ 64 + roundDiv (k.acc1 * 2 ^ 64) k.set.modulus) % (k.set.dA * 2 ^ 64)

/-- The target phase t in the same units: from the frame phase in bound mode, from u in free mode (R98). -/
def Core.target (k : Core) : Nat :=
  (if k.berth.isSome then k.phi.toNat * k.set.dA else roundDiv (k.u * 2 ^ 64) k.set.modulus) % (k.set.dA * 2 ^ 64)

/-- The signed difference d of R99 for a trim offset tau. -/
def Core.diff (k : Core) (tau : Int) : Int :=
  let period : Int := (k.set.dA * 2 ^ 64 : Nat)
  let x := ((k.target : Int) + tau * 2 ^ 48 - k.q) % period
  if period ≤ 2 * x then x - period else x

/-- The ratio of the feedback divider in one reference cycle: N_INT + c, with c = c1 + (1 - z) c2 + (1 - z)^2 c3 + (1 - z)^3 c4 for the
carries of the accumulators, z the delay of one cycle (R84). (DEDUCED: log entry 113) -/
def Carries.ratio (p : Carries) (n : Nat) (c1 : Int) (c2 c3 c4 : Nat) : Nat :=
  ((n : Int) + c1 + ((c2 : Int) - p.c2) + ((c3 : Int) - 2 * p.c3.1 + p.c3.2)
    + ((c4 : Int) - 3 * p.c4.1 + 3 * p.c4.2.1 - p.c4.2.2)).toNat

/-- The carries after one more cycle. -/
def Carries.push (p : Carries) (dith : Bool) (c2 c3 c4 : Nat) : Carries := { dith, c2, c3 := (c3, p.c3.1), c4 := (c4, p.c4.1, p.c4.2.1) }

/-- The carry of the first accumulator in a cycle with its dither: acc1 and the dither bit of the cycle make what the accumulator holds, so
that a wrap by the dither is carried in the cycle it comes and taken back in the cycle it goes (R85). (DEDUCED: log entry 113) -/
def Carries.first (p : Carries) (a1 m : Nat) (dith : Bool) : Int := ((a1 / m : Nat) : Int) + ofBool dith - ofBool p.dith

/-- The MASH runs reference cycles; `dith` gives the dither bits (R84, R85). acc1 itself is kept without dither, and the dividers count
the VCO cycles that have passed: N_INT and the carries of acc1. (DESIGN CHOICE: log entries 21, 58; DEDUCED: log entry 113) -/
def Core.mash (k : Core) (dith : Nat) : Nat → Core
  | 0 => k
  | i + 1 =>
    let m := k.set.modulus
    let a1 := k.acc1 + k.set.num
    let x1 := (a1 + dith / 2 ^ i % 2) % m
    let wrap := decide (m ≤ a1 % m + dith / 2 ^ i % 2)
    let a2 := k.acc2 + x1
    let a3 := k.acc3 + a2 % m
    let a4 := k.acc4 + a3 % m
    Core.mash { k with acc1 := a1 % m, acc2 := a2 % m, acc3 := a3 % m, acc4 := a4 % m,
                       carries := k.carries.push wrap (a2 / m) (a3 / m) (a4 / m),
                       ratios := k.ratios ++ [k.carries.ratio k.set.n (k.carries.first a1 m wrap) (a2 / m) (a3 / m) (a4 / m)],
                       cA := (k.cA + k.set.n + a1 / m) % k.set.dA, cB := (k.cB + k.set.n + a1 / m) % k.set.dB } dith i

/-- One pound passes for a core: the VCO advances 8 × (N_INT + NUM/MOD) cycles, the frame phase by the fraction of the frame
frequency (R98), the free target by 8 × (N_INT × MOD + NUM) (R98). (DESIGN CHOICE: log entry 58; DEDUCED: log entry 113) -/
def Core.advance (k : Core) (dith : Nat) : Core :=
  let k := { k with phi := k.phi + k.f.truncate 64, u := (k.u + 8 * k.set.rate) % (k.set.dA * k.set.modulus), ratios := [] }
  Core.mash k (if k.dither && !k.intMode then dith else 0) 8

/-- Whole VCO cycles and steps of one tracking step (R99). -/
def trackParts (x : Int) : Int × Int :=
  let w := divRound x (2 ^ 64)
  (w, divRound (x - w * 2 ^ 64) (2 ^ 48))

/-- The cycles divider A swallows and the amount injected into acc1 (R99, R100). -/
def Core.swallow (k : Core) (w : Int) : Nat := ((-w) % (k.set.dA : Int)).toNat
def Core.injection (k : Core) (steps : Int) : Int := if k.intMode then 0 else divRound (steps * k.set.modulus) 65536

/-- The divider and modulator after a swallow and an injection; divider B restarts with A at a swallow when B_FOLLOW is in force: B has
a rising edge at the rising edge from which A counts (R91). (DESIGN CHOICE: log entry 119) -/
def Core.correct (k : Core) (s : Nat) (inj : Int) : Core :=
  let t := (k.acc1 : Int) + inj
  let m : Int := k.set.modulus
  let cA := (((k.cA : Int) - s + t / m) % k.set.dA).toNat
  { k with acc1 := (t % m).toNat, cA, bSync := k.bSync || (k.bFollow && s != 0),
           cB := if k.bFollow && s != 0 then cA % k.set.dB else (((k.cB : Int) + t / m) % k.set.dB).toNat }

/-! ## ALIGNED and the monitor hold (R102, R104) -/

def Device.holdPounds (d : Device) (c : Nat) : Nat := d.get F.LOOP_MON_CFG_HOLD c

/-- The conditions of R102. -/
def Device.alignedCond (d : Device) (c : Nat) : Bool :=
  d.locked c && (d.core c).tracked && !(d.core c).alarm && decide (d.holdPounds c ≤ (d.core c).since)

/-- ALIGNED changes; a standby core that loses it is no longer hop-ready (R122). -/
def Device.putAligned (d : Device) (c : Nat) (v : Bool) : Device :=
  (d.putB F.LOOP_STAT_ALIGNED c v).when (!v && d.isStandby c) (fun d => d.putBit F.COUT_TWIN_STAT_READY 0 (c / 2) false)

/-- ALIGNED follows its conditions; when it is reached after a preset load RETUNE_DONE is set (R119), and the parking of R133
ends. -/
def Device.refreshAligned (d : Device) (c : Nat) : Device :=
  let ok := d.alignedCond c
  let d' := d.putAligned c ok
  if ok then
    let d' := d'.when (d.core c).retuning (fun e => e.eventBit F.COUT_RETUNE_EVT_RETUNE_DONE 0 c)
    d'.onCore c (fun k => { k with retuning := false, lossPark := false, presetPark := false })
  else d'

/-- The monitor enters its hold: samples are discarded and an average in progress restarts (R104). -/
def Device.startHold (d : Device) (c : Nat) : Device :=
  (d.put F.LOOP_STAT_HOLD c 1).onCore c (fun k => { k with holdCount := 0, avgSum := 0, avgCount := 0, raSum := 0, raCount := 0 })

/-- A free target that waits for its first tracking step takes q in its units (R101). -/
def Core.freeTarget (k : Core) : Core :=
  if k.uFromQ then
    { k with u := roundDiv (k.q * k.set.modulus) (2 ^ 64) % (k.set.dA * k.set.modulus), uFromQ := false }
  else k

/-- What the boundary shows of the phase: q before any correction of the boundary, t and d (R97-R99, R113). -/
def Core.seen (k : Core) (tau : Int) : Core := { k with qNow := k.q, lastT := k.target, lastD := k.diff tau }

/-- One tracking step (R99): nothing unless the core tracks. A swallow or an injection of more than 256 steps restarts the hold
and clears ALIGNED; so does the first step after lock start the hold (R104). -/
def Device.track (d : Device) (c : Nat) : Device :=
  let tau := sgn 32 (d.get F.LOOP_TRIM_TAU c)
  if d.tracks c then
    let k := (d.core c).freeTarget.seen tau
    let (w, steps) := trackParts k.lastD
    let s := k.swallow w
    let inj := k.injection steps
    let big := s != 0 || (!k.intMode && decide (256 < steps.natAbs))
    let first := !k.tracked
    let k' := { (k.correct s inj) with tracked := true, since := if big then 0 else k.since,
                                       gateSteady := k.gateSteady && inj == 0 }
    let d := d.setCore c k'
    let d := d.when (steps != 0) (fun d => d.bump F.LOOP_TRACK_CNT_STEPS c)
    let d := d.when (big || first) (fun d => d.startHold c)
    (d.put F.LOOP_STAT_TRACKING c 1).refreshAligned c
  else ((d.onCore c (fun k => k.seen tau)).put F.LOOP_STAT_TRACKING c 0).refreshAligned c

/-! ## The sample of the phase monitor (R103, R104, R106) -/

/-- Units of an error e: 1 / (2^64 × (N_INT × MOD + NUM)) of 1/16 ps, in which it is exact. -/
def Settings.errUnits (s : Settings) : Nat := 2 ^ 64 * s.rate

/-- The error e of one sample: measured time (in 0.5 ps) less the expected time of R103 with T_A = 32,000 D_A × MOD / (N_INT × MOD + NUM)
in 1/16 ps, wrapped to half a period, in the units of `errUnits`. (DEDUCED: log entry 55) -/
def Core.monError (k : Core) (tau : Int) (t0 : Int) (raw : Nat) : Int :=
  let period : Int := (k.set.dA * 2 ^ 64 : Nat)
  let th := ((k.qNow : Int) - tau * 2 ^ 48) % period
  let e := ((raw * 8 : Nat) - t0) * k.set.errUnits - (if th = 0 then 0 else period - th) * (32000 * k.set.modulus : Nat)
  let tA : Int := 32000 * k.set.modulus * period
  let x := e % tA
  if tA ≤ 2 * x then x - tA else x

/-- The mean of n errors in 1/16 ps. (DEDUCED: log entry 55) -/
def Core.meanError (k : Core) (sum : Int) (n : Nat) : Int := divRound sum (n * k.set.errUnits)

def Device.avgPounds (d : Device) (c : Nat) : Nat := 2 ^ min 12 (d.get F.LOOP_MON_CFG_AVG c)

/-- The monitor discards samples: during the HOLD pounds of a hold (R104), and while a MON calibration of the core runs (R286). -/
def Device.holding (d : Device) (c : Nat) : Bool :=
  d.is F.LOOP_STAT_HOLD c && (decide ((d.core c).holdCount < d.holdPounds c) || d.calRuns 0 c)

/-- The TDC reading of the boundary is turned into a time by the code positions in force, kept as the raw value, and taken into the average unless the monitor holds (R103, R104). The samples
of a realignment are taken apart (R106). No sample is taken during a MON calibration of the core (R286). -/
def Device.monitorSample (d : Device) (c : Nat) : Device :=
  match (d.core c).raw with
  | none => d
  | some raw =>
    let d := d.onCore c (fun k => { k with raw := none })
    if d.locked c && d.get F.LOOP_CTRL_MON_MODE c != 0 && !d.calRuns 0 c then
      let time := min 19999 (d.monReading c raw)
      let d := d.put F.LOOP_MON_RAW_RAW c time
      if d.holding c then d
      else
        d.onCore c (fun k =>
          let e := k.monError (sgn 32 (d.get F.LOOP_TRIM_TAU c)) (sgn 16 (d.get F.LOOP_MON_OFFSET_OFFSET c)) time
          let k := if k.realignDue && decide (k.raCount < 8) then { k with raSum := k.raSum + e, raCount := k.raCount + 1 } else k
          if k.avgCount < d.avgPounds c then { k with avgSum := k.avgSum + e, avgCount := k.avgCount + 1 } else k)
    else d

/-! ## Mailbox objects of a core (R113) -/

/-- A core's clock runs: it is open and not in IDLE. -/
def Device.loopRuns (d : Device) (c : Nat) : Bool := !d.coreClosed c && decide (2 ≤ d.coreState c)

/-- The two words of a 64-bit number, low word first. -/
def twoWords (x : BitVec 64) : List Word := [x.extractLsb' 0 32, x.extractLsb' 32 32]

/-- The Settings object of a core. -/
def Device.coreSettingsWords (d : Device) (c : Nat) : List Word :=
  let k := d.core c
  let s := k.set
  let m := s.modulus % 2 ^ 40
  [s.num % 2 ^ 32, s.num / 2 ^ 32 * 2 ^ 24 + s.n * 2 ^ 16 + (s.dA - 1) * 2 ^ 8 + (s.dB - 1), m % 2 ^ 32,
    m / 2 ^ 32 * 2 ^ 24 + d.get F.LOOP_STAT_TANK c * 2 ^ 16 + d.get F.LOOP_STAT_BAND c * 2 ^ 8 + d.get F.LOOP_STAT_BOUND c].map
      (BitVec.ofNat 32)

/-- The Phase object of a core: the target t and the difference d of the boundary, modulo 2^64. -/
def Device.corePhaseWords (d : Device) (c : Nat) : List Word :=
  twoWords (BitVec.ofNat 64 (d.core c).lastT) ++ twoWords (BitVec.ofInt 64 (d.core c).lastD)

/-- A request for an object of core c is captured at the first boundary after it, once the loads of that boundary have taken
effect. -/
def Device.captureCore (d : Device) (c : Nat) : Device :=
  match d.mbx.req with
  | some (obj, i) =>
    if (obj == 1 || obj == 2) && i == c && d.mbx.words.isNone && decide (1 ≤ d.mbx.pounds) && d.loopRuns c then
      let w := if obj = 1 then d.coreSettingsWords c else d.corePhaseWords c
      { d with mbx := { d.mbx with words := some w } }
    else d
  | none => d

/-- The end of a boundary for core c, after the last load of it: the tracking step, the sample of the monitor, the capture of the
mailbox (R103, R107, R113). -/
def Device.endCore (d : Device) (c : Nat) : Device := ((d.track c).monitorSample c).captureCore c

/-! ## Loads (R84, R87, R89, R92, R98, R118, R119) -/

/-- Settings come into force at a boundary: a new MOD rescales the accumulators (R84); a new D_A restarts divider A, with
D_A - 1 cycles counted (R97), and divider B with it when B_FOLLOW is in force (R91), as does a start from IDLE; integer mode holds the
modulator at zero (R86). -/
def Core.take (k : Core) (s : Settings) (int dith follow start : Bool) : Core :=
  let resc := fun a => if s.modulus = k.set.modulus then a else roundDiv (a * s.modulus) k.set.modulus % s.modulus
  let restart := s.dA != k.set.dA
  let k := { k with acc1 := resc k.acc1, acc2 := resc k.acc2, acc3 := resc k.acc3, acc4 := resc k.acc4,
                    cA := if restart then s.dA - 1 else k.cA % s.dA,
                    cB := if (restart && follow) || s.dB != k.set.dB then s.dB - 1 else k.cB % s.dB,
                    bSync := follow && (restart || start || (k.bSync && s.dB = k.set.dB)),
                    intMode := int, dither := dith, bFollow := follow, set := s, gateSteady := false }
  if int then { k with acc1 := 0, acc2 := 0, acc3 := 0, acc4 := 0, carries := {} } else k

/-- The tank R87 selects for settings: low below 9.8 GHz, high above 10.6 GHz, in the overlap TANK_PREF from IDLE and the tank in
force otherwise, also where a load comes into the overlap from outside it. (DESIGN CHOICE: log entry 118) -/
def Device.tankFor (d : Device) (c : Nat) (s : Settings) : Nat :=
  if 10 * s.rate < 196 * s.modulus then 0
  else if 212 * s.modulus < 10 * s.rate then 1
  else if d.coreState c = 1 then d.get F.LOOP_CTRL_TANK_PREF c
  else d.get F.LOOP_STAT_TANK c

/-- Lock is set aside for a cold start or a band search: LOCK, ALIGNED, tracking and the monitor stop; no outcome of R94 (R87). A PHASE_ALARM
that stands ends with the lock. (DEDUCED: log entry 56) -/
def Device.dropLock (d : Device) (c : Nat) : Device :=
  let d := (((d.put F.LOOP_STAT_LOCK c 0).putAligned c false).put F.LOOP_STAT_TRACKING c 0).put F.LOOP_STAT_HOLD c 0
  (d.put F.LOOP_MON_ERR_VALID c 0).onCore c (fun k => { k with
    tracked := false, alarm := false, blank := false, gateSteady := false,
    avgSum := 0, avgCount := 0, raSum := 0, raCount := 0 })

/-- The loop closes and acquires from now on (R92, R93): STATE 3, or 5 after a loss. -/
def Device.acquire (d : Device) (c st : Nat) : Device := (d.put F.LOOP_STAT_STATE c st).onCore c (fun k => { k with acq := 0 })

/-- A band search starts, or with MANUAL the written tank and band are taken, a search in progress ends and the loop acquires (R87). Its
outputs with UNLOCK_ACT 2 or 3 park either way (R133). With MANUAL a start from IDLE shows STATE 3 from the load on, never STATE 2.
(DESIGN CHOICE: log entries 117, 124, 157) -/
def Device.searchOrManual (d : Device) (c : Nat) (s : Settings) : Device :=
  let d := (d.dropLock c).onCore c (fun k => { k with presetPark := true, since := 0 })
  let d := d.put F.LOOP_STAT_TUNE_EDGE c 0
  if d.is F.LOOP_BAND_CTRL_MANUAL c then
    (((d.put F.LOOP_STAT_TANK c (d.get F.LOOP_BAND_CTRL_TANK c)).put F.LOOP_STAT_BAND c (d.get F.LOOP_BAND_CTRL_BAND c)).put
      F.LOOP_STAT_BAND_SEARCH c 0).acquire c 3
  else
    ((d.put F.LOOP_STAT_TANK c (d.tankFor c s)).put F.LOOP_STAT_STATE c 2).put F.LOOP_STAT_BAND_SEARCH c 1

/-- A preset load: tank, band and tuning change at the boundary, with no band search; LOCK stays and the lock detector is suspended
(R118, R119). A core that was searching or had failed acquires from it. (DEDUCED: log entry 115) -/
def Device.presetLoad (d : Device) (c : Nat) (p : Preset) : Device :=
  let cross := d.get F.LOOP_STAT_TANK c != p.tank
  let tune := d.presetTune p
  let d := ((d.put F.LOOP_STAT_TANK c p.tank).put F.LOOP_STAT_BAND c p.band).put F.LOOP_STAT_TUNE_EDGE c 0
  let d := (d.put F.LOOP_STAT_BAND_SEARCH c 0).putAligned c false
  let d := if d.coreState c = 2 ∨ d.coreState c = 6 then d.acquire c 3 else d
  d.onCore c (fun k => { k with tune, since := 0, retuning := true, slow := false, blank := true, sinceLoad := 0, crossTank := cross,
                                presetPark := true })

/-- The core opens, is off or has failed: a frequency load starts it (R87, R92). -/
def Device.coreCold (d : Device) (c : Nat) : Bool := decide (d.coreState c ≤ 1) || d.coreState c == 6

/-- With MANUAL set the core uses the written tank and band: a load keeps them only where they are in force and no search runs (R87).
(DESIGN CHOICE: log entry 158) -/
def Device.manualMoves (d : Device) (c : Nat) : Bool :=
  d.is F.LOOP_BAND_CTRL_MANUAL c && (d.is F.LOOP_STAT_BAND_SEARCH c || d.get F.LOOP_STAT_TANK c != d.get F.LOOP_BAND_CTRL_TANK c
    || d.get F.LOOP_STAT_BAND c != d.get F.LOOP_BAND_CTRL_BAND c)

/-- A trim x is held modulo D_A × 65,536 about zero (R105). (DEDUCED: log entry 55) -/
def Device.setTrim (d : Device) (c : Nat) (x : Int) : Device :=
  let m : Int := (d.core c).set.dA * 65536
  let y := x % m
  d.put F.LOOP_TRIM_TAU c (unsgn 32 (if m ≤ 2 * y then y - m else y))

/-- Add steps to τ (R105). (DEDUCED: log entry 55) -/
def Device.addTrim (d : Device) (c : Nat) (s : Int) : Device := d.setTrim c (sgn 32 (d.get F.LOOP_TRIM_TAU c) + s)
/-- τ as software wrote it, or as a new D_A finds it, is reduced. -/
def Device.reduceTrim (d : Device) (c : Nat) : Device := d.addTrim c 0

/-- A load to new settings stays within the band in force: by the core's own estimate (`inBand`), and certainly when f_vco moves by no
more than 2 MHz while TUNE_EDGE is clear (R87). -/
def Device.staysInBand (d : Device) (c : Nat) (s : Settings) (inBand : Bool) : Bool :=
  let k := (d.core c).set
  inBand || (!d.is F.LOOP_STAT_TUNE_EDGE c &&
    decide (250 * ((s.rate * k.modulus : Nat) - (k.rate * s.modulus : Nat) : Int).natAbs ≤ s.modulus * k.modulus))

/-- The dividers and the modulator take settings, from IDLE with `start`; the trim and the duty corrections follow. -/
def Device.newSettings (d : Device) (c : Nat) (s : Settings) (int start : Bool) : Device :=
  let old := (d.core c).set
  let d := d.onCore c (fun k => k.take s int (d.is F.LOOP_CTRL_DITHER c) (d.is F.LOOP_CTRL_B_FOLLOW c) start)
  ((d.putB F.LOOP_STAT_INT_ACTIVE c int).reduceTrim c).dccRetune c old

/-- New settings come into force at a core at a load boundary. From IDLE it runs its cold start with a band search, also for a load of a
PREP_HOP that has found an entry; while it opens, its start follows the opening (R92). A load of a PREP_HOP brings what the lookup at its
commit found (`commit?`); any other looks its band map up only when f_vco leaves the band in force, or after a failed search (R118). With an
entry it is a preset load, also with MANUAL set; without one it is a plain load within the band in force, or with MANUAL in the written one,
and else runs a band search (R87, R128). The monitor holds after every load of a locked core (R104). When TUNE_EDGE clears again the spec
does not say: here at every load. (DEDUCED: log entry 115; DESIGN CHOICE: log entries 117, 156, 158, 161) -/
def Device.takeSettings (d : Device) (c : Nat) (s : Settings) (int : Bool) (commit? : Option (Option Preset)) (inBand : Bool) :
    Device :=
  let idle := decide (d.coreState c ≤ 1)
  let stays := !d.coreCold c && !d.manualMoves c && d.staysInBand c s inBand
  let found := if idle then none else match commit? with
    | some p => p
    | none => if stays then none else d.bandLookup c s
  let d := d.newSettings c s int idle
  let d := match found with
    | some p => d.presetLoad c p
    | none =>
      if d.coreState c = 0 then d.onCore c (fun k => { k with starts := true })
      else if stays then d.put F.LOOP_STAT_TUNE_EDGE c 0
      else d.searchOrManual c s
  d.when (d.locked c) (fun d => d.startHold c)

/-- The core a load is for at the present boundary: the core it names, or the active (for a record: the standby) core of its twin
(R115, R125). -/
def Device.loadCore (d : Device) (l : Load) : Nat :=
  if l.twin then (if l.kind = .record then d.standbyCore (l.core / 2) else d.activeCore (l.core / 2)) else l.core

/-- The frame state a load brings to core c: phase at the present pound from the trajectory, and the frequency (R98). -/
def Device.loadFrame (d : Device) (c : Nat) (l : Load) : Device :=
  d.onCore c (fun k => { k with phi := phaseAt l.a l.phi l.f d.tow.pound, f := l.f })

/-- The lookup a load made at its commit: none for a load that makes none there. A RETUNE that meets another core active at T is looked
up in that core's map at the load. (DESIGN CHOICE: log entry 116) -/
def Device.commitLookup (d : Device) (c : Nat) (l : Load) : Option (Option Preset) :=
  match l.kind with
  | .retune => some (if c = l.core then l.preset? else d.bandLookup c (d.derived c l.f))
  | .hop | .park => some l.preset?
  | _ => none

/-- A frequency load in bound mode: the settings are derived again; out of range, the core makes no load, sets LOAD_REFUSED and
writes a record (R98). -/
def Device.boundLoad (d : Device) (c : Nat) (l : Load) (inBand : Bool) : Device :=
  let s := d.derived c l.f
  match s.refusal with
  | some _ => (d.event F.LOOP_EVT_LOAD_REFUSED c).coreReport c 6
  | none => (d.loadFrame c l).takeSettings c s false (d.commitLookup c l) inBand

/-- A pending LOOP_APPLY is cancelled with RESULT 10 (R83, R107). -/
def Device.cancelApply (d : Device) (c : Nat) : Device :=
  if (d.core c).applyAt.isSome then
    ((d.put F.LOOP_APPLY_RESULT c 10).put F.LOOP_APPLY_GO c 0).onCore c (fun k => { k with applyAt := none })
  else d

/-- The core records a Berth id in its binding (R158, R159); in bound mode the modulator runs (R86). A free swap that is pending on its
twin stays pending. (DESIGN CHOICE: log entry 123) -/
def Device.recordBinding (d : Device) (c berth : Nat) : Device :=
  (((d.cancelApply c).put F.LOOP_STAT_BOUND c 1).put F.LOOP_STAT_INT_ACTIVE c 0).onCore c
    (fun k => { k with berth := some berth, intMode := false })

/-- The core returns to free mode from the phase it has (R159): its binding clears and u takes q at the next tracking step. -/
def Device.releaseCore (d : Device) (c : Nat) : Device :=
  (d.put F.LOOP_STAT_BOUND c 0).onCore c (fun k => { k with berth := none, hasU := true, uFromQ := true, hopTarget := false })

/-- A twin hop is cancelled: CANCELLED bit k and a record; nothing changes at T (R127). -/
def Device.cancelHop (d : Device) (k : Nat) : Device :=
  if (d.twin k).hop.isSome then
    let d := d.setTwin k { d.twin k with hop := none, deferred := 0, swapMissed := false }
    let d := (d.putBit F.COUT_TWIN_STAT_PREPARED 0 k false).putBit F.COUT_TWIN_STAT_DEFERRING 0 k false
    let d := (d.onCore (d.standbyCore k) (fun x => { x with hopTarget := false })).standbyStops k
    (d.eventBit F.COUT_HOP_EVT_CANCELLED 0 k).report 4 0 2 k
  else d

/-- One load takes effect at core c. On a closed core only the binding changes (R159). A core that no longer records the Berth takes
no load from it. (DEDUCED: log entry 54) -/
def Device.takeLoad (d : Device) (c : Nat) (l : Load) (inBand : Bool) : Device :=
  let ours := (d.core c).berth == some l.berth
  match l.kind with
  | .record => d.recordBinding c l.berth
  | .release => if (d.core c).berth = some l.berth then d.releaseCore c else d
  | .bind =>
    let d := d.recordBinding c l.berth
    if d.coreClosed c then d else d.boundLoad c l inBand
  | .freq | .retune => if d.coreClosed c || !ours then d else d.boundLoad c l inBand
  | .emit => if d.coreClosed c || !ours then d else if d.coreCold c then d.boundLoad c l inBand else d.loadFrame c l
  | .phase => if d.coreClosed c || !ours then d else d.loadFrame c l
  | .addPhase => if d.coreClosed c || !ours then d else d.onCore c (fun k => { k with phi := k.phi + l.phi })
  | .hop =>
    if d.coreClosed c || !ours then d
    else (d.boundLoad c l inBand).when (d.derived c l.f).refusal.isNone (fun d => d.onCore c (fun k => { k with hopTarget := true }))
  | .park =>
    if d.activeCore (c / 2) = c then
      (d.eventBit F.COUT_HOP_EVT_CANCELLED 0 (c / 2)).report 4 0 2 (c / 2)
    else if d.coreClosed c || !ours then d
    else d.boundLoad c l inBand

/-- The first load for core c that is due, with the rest. (DESIGN CHOICE: log entry 52; DEDUCED: log entry 112) -/
def Device.takeDue (d : Device) (c : Nat) : List Load → Option (Load × List Load)
  | [] => none
  | l :: t =>
    if d.loadCore l = c ∧ l.t.toNat ≤ d.tow.pound.toNat then some (l, t)
    else match Device.takeDue d c t with
      | some (x, r) => some (x, l :: r)
      | none => none

/-- A load for core c is due at the present pound. (DEDUCED: log entries 54, 112) -/
def Device.loadDue (d : Device) (c : Nat) : Bool := (d.takeDue c d.loads).isSome
/-- A LOOP_APPLY of core c is due at the present pound. -/
def Device.applyDue (d : Device) (c : Nat) : Bool := (d.core c).applyAt.any (fun p => decide (p.toNat ≤ d.tow.pound.toNat))

/-- CORE_LOAD: the due load takes effect and then, when no other load of the core is due, the tracking step of the boundary (R98,
R107). A twin change of that boundary comes first: loads go to the core active at their pound (R125).
(DESIGN CHOICE: log entries 52, 116) -/
def Device.coreLoad (d : Device) (c : Nat) (inBand : Bool) : Device :=
  if d.changeDue (c / 2) then d
  else match d.takeDue c d.loads with
    | none => d
    | some (l, rest) =>
      let d := ({ d with loads := rest } : Device).takeLoad c l inBand
      if d.loadDue c then d else d.endCore c

/-! ## Free mode (R83, R86, R101) -/

/-- INT_MODE with NUM not zero, in free mode (R83 code 6). -/
def Device.intRefusal (d : Device) (c : Nat) (s : Settings) : Option Nat :=
  if d.is F.LOOP_CTRL_INT_MODE c && s.num != 0 then some 6 else none

/-- The refusal of a free-mode request, in the order of R83's table, given whether its pound is checked. (DEDUCED: log entry 53) -/
def Device.applyRefusal (d : Device) (c : Nat) (atPound : Bool) (p : Pound) : Option Nat :=
  let s := d.staged c
  match s.refusal with
  | some r => some r
  | none =>
    match d.intRefusal c s with
    | some r => some r
    | none =>
      if (d.core c).berth.isSome then some 7
      else if atPound && decide (p.toNat < d.tow.pound.toNat + 2) then some 8
      else none

/-- A write of LOOP_APPLY; GO supersedes a pending request and is checked (R83, R107). (DEDUCED: log entry 53) -/
def Device.wrLoopApply (d : Device) (c v : Nat) : Device :=
  if d.coreClosed c then d
  else
    let d := (d.put F.LOOP_APPLY_PHASE_SET c (bits v 2 2)).put F.LOOP_APPLY_AT_POUND c (bits v 1 1)
    if bit v 0 then
      let p := BitVec.ofNat 64 (d.get F.LOOP_APPLY_POUND_HI_POUND c * 2 ^ 32 + d.get F.LOOP_APPLY_POUND_LO_POUND c)
      let d := d.when (d.core c).applyAt.isSome (fun d => d.put F.LOOP_APPLY_RESULT c 9)
      match d.applyRefusal c (bit v 1) p with
      | some r => ((d.put F.LOOP_APPLY_RESULT c r).put F.LOOP_APPLY_GO c 0).onCore c (fun k => { k with applyAt := none })
      | none =>
        ((d.put F.LOOP_APPLY_RESULT c 2).put F.LOOP_APPLY_GO c 1).onCore c
          (fun k => { k with applyAt := some (if bit v 1 then p else d.tow.pound + 1) })
    else d

/-- The free target after a load: PHASE_SET gives it FREE_PHASE, else it takes q at the first tracking step (R101). -/
def Device.setFreeTarget (d : Device) (c : Nat) : Device :=
  if d.is F.LOOP_APPLY_PHASE_SET c then
    d.onCore c (fun k => { k with
      hasU := true, uFromQ := false,
      u := roundDiv (d.get F.LOOP_FREE_PHASE_PHASE c * k.set.dA * k.set.modulus) (2 ^ 32) % (k.set.dA * k.set.modulus) })
  else d.onCore c (fun k => { k with hasU := true, uFromQ := true })

/-- LOOP_APPLY takes effect at its boundary: checked again, then applied together; the tracking step follows (R83, R107). -/
def Device.loopApplyTake (d : Device) (c : Nat) (inBand : Bool) : Device :=
  if d.applyDue c then
    let d := (d.onCore c (fun k => { k with applyAt := none })).put F.LOOP_APPLY_GO c 0
    let s := d.staged c
    match s.refusal.orElse (fun _ => d.intRefusal c s) with
    | some r => (d.put F.LOOP_APPLY_RESULT c r).endCore c
    | none =>
      let d := ((d.takeSettings c s (d.is F.LOOP_CTRL_INT_MODE c) none inBand).onCore c (fun k => { k with sinceApply := 0 })).setFreeTarget c
      ((d.put F.LOOP_APPLY_RESULT c 1).event F.LOOP_EVT_APPLY_DONE c).endCore c
  else d

/-- A write of LOOP_PHASE_ADJ: GO adds STEPS to the free target at the next boundary, or is refused (R101). (DEDUCED: log entry 57) -/
def Device.wrPhaseAdj (d : Device) (c v : Nat) : Device :=
  if d.coreClosed c then d
  else
    let d := d.put F.LOOP_PHASE_ADJ_STEPS c (bits v 23 0)
    if bit v 31 then
      if (d.core c).berth.isSome || !(d.core c).hasU then d.event F.LOOP_EVT_PA_REFUSED c
      else (d.put F.LOOP_PHASE_ADJ_GO c 1).onCore c (fun k => { k with adj := k.adj ++ [sgn 24 (bits v 23 0)] })
    else d

/-- The phase adjustments of a core are added to u at a boundary (R101). (DEDUCED: log entry 57) -/
def Core.takeAdj (k : Core) : Core :=
  { k with adj := [], u := ((k.adj.foldl (fun (a : Int) st => a + divRound (st * k.set.modulus) 65536) (k.u : Int))
      % (k.set.dA * k.set.modulus : Nat)).toNat }

/-! ## Lock, band, slips, counter (R87, R88, R93-R96) -/

/-- The window of the lock detector in ps (R93). -/
def Device.lockWindow (d : Device) (c : Nat) : Nat := 10 * max 1 (d.get F.LOOP_LD_CFG_WIN c)
/-- Cycles inside the window that declare lock, and cycles outside that lose it. -/
def Device.lockCycles (d : Device) (c : Nat) : Nat := max 64 (d.get F.LOOP_LD_CFG_N c)
def Device.lossCycles (d : Device) (c : Nat) : Nat := max 1 (d.get F.LOOP_LD_CFG_M c)

/-- The detector declares lock: the phase errors of the last N reference cycles since acquisition began, newest first in ps, all lie
inside the window; eight cycles make a pound (R80, R93). (DEDUCED: log entry 114) -/
def Device.lockSeen (d : Device) (c : Nat) (errs : List Nat) : Bool :=
  let n := d.lockCycles c
  decide (n ≤ errs.length) && (errs.take n).all (fun e => decide (e ≤ d.lockWindow c)) && decide (n ≤ 8 * ((d.core c).acq + 1))

/-- The detector declares a loss: the phase errors of the last M reference cycles all lie outside the window (R93). -/
def Device.lossSeen (d : Device) (c : Nat) (errs : List Nat) : Bool :=
  let m := d.lossCycles c
  decide (m ≤ errs.length) && (errs.take m).all (fun e => decide (d.lockWindow c < e))

/-- Lock is declared. Where the output stands against the pound is open: the divider and accumulators take free values (R97 gives q a
meaning only from lock on); with B_FOLLOW in force the two dividers count from one coincident edge (R91). (DESIGN CHOICE: log
entry 21) -/
def Device.gainLock (d : Device) (c : Nat) : Device :=
  let (r, d) := d.draw 1
  let k := d.core c
  let p := r % Nat.lcm k.set.dA k.set.dB
  let d := d.setCore c { k with
    cA := p % k.set.dA, cB := if k.bSync then p % k.set.dB else r / 2 ^ 12 % k.set.dB,
    acc1 := if k.intMode then 0 else r / 2 ^ 18 % k.set.modulus,
    acc2 := if k.intMode then 0 else r / 2 ^ 58 % k.set.modulus,
    acc3 := if k.intMode then 0 else r / 2 ^ 98 % k.set.modulus,
    acc4 := if k.intMode then 0 else r / 2 ^ 138 % k.set.modulus,
    tracked := false, lostBefore := false,
    realignDue := k.realignDue || (k.lostBefore && d.is F.LOOP_CTRL_AUTO_REALIGN c) }
  (((d.put F.LOOP_STAT_LOCK c 1).put F.LOOP_STAT_STATE c 4).put F.LOOP_MON_ERR_VALID c 0).event F.LOOP_EVT_LOCK_GAINED c

/-- LOCK_GAINED: an acquiring core locks. The detector is suspended after a preset load (R119).
(DESIGN CHOICE: log entry 21; DEDUCED: log entry 114) -/
def Device.lockGained (d : Device) (c : Nat) (errs : List Nat) : Device :=
  if (d.coreState c == 3 || d.coreState c == 5) && !d.locked c && !(d.core c).blank && d.lockSeen c errs then d.gainLock c else d

/-- The outcomes of a loss of lock (R94). -/
def Device.loseLock (d : Device) (c : Nat) : Device :=
  let d := (d.dropLock c).acquire c 5
  let d := d.onCore c (fun k => { k with lostBefore := true, lossPark := true })
  ((d.bump F.LOOP_UNLOCK_CNT_UNLOCKS c).event F.LOOP_EVT_LOCK_LOST c).coreReport c 1

/-- LOCK_LOST: the detector declares a loss of lock. While it is suspended after a preset load it declares none (R119).
(DEDUCED: log entry 114) -/
def Device.lockLost (d : Device) (c : Nat) (errs : List Nat) : Device :=
  if d.locked c && !(d.core c).blank && d.lossSeen c errs then d.loseLock c else d

/-- REACQUIRE_TIMEOUT: a core not relocked within 50 µs (3,125 pounds) runs a band search (R94). -/
def Device.reacquireTimeout (d : Device) (c : Nat) : Device :=
  if d.coreState c = 5 ∧ 3125 ≤ (d.core c).acq + 1 then d.searchOrManual c (d.core c).set else d

/-- BAND_SEARCH_DONE: the search ends with a band and the counted f_vco in kHz; more than 0.5 % from the target it fails (R87). -/
def Device.bandSearchDone (d : Device) (c band fKhz : Nat) : Device :=
  if d.is F.LOOP_STAT_BAND_SEARCH c then
    let s := (d.core c).set
    let goal := s.fvcoKhzMod
    let d := ((d.put F.LOOP_STAT_BAND_SEARCH c 0).put F.LOOP_STAT_BAND c band).onCore c (fun k => { k with since := 0 })
    if goal < 200 * ((fKhz * s.modulus : Nat) - (goal : Int)).natAbs then
      ((d.put F.LOOP_STAT_STATE c 6).event F.LOOP_EVT_BAND_FAIL c).coreReport c 2
    else d.acquire c 3
  else d

/-- TUNE_EDGE: the tuning voltage of a locked core comes within 10 % of an end of its range (R88). -/
def Device.tuneEdge (d : Device) (c : Nat) : Device :=
  if d.locked c && !d.is F.LOOP_STAT_TUNE_EDGE c then
    ((d.put F.LOOP_STAT_TUNE_EDGE c 1).event F.LOOP_EVT_TUNE_EDGE_SET c).coreReport c 3
  else d

/-- CYCLE_SLIP: counted whether or not the core is locked; with AUTO_REALIGN the monitor realigns (R95, R106). -/
def Device.cycleSlip (d : Device) (c : Nat) : Device :=
  if d.coreClosed c || d.coreState c == 1 then d
  else
    let d := (d.bump F.LOOP_SLIP_CNT_SLIPS c).event F.LOOP_EVT_CYCLE_SLIP c
    d.when (d.is F.LOOP_CTRL_AUTO_REALIGN c) (fun d => d.onCore c (fun k => { k with realignDue := true }))

/-- A write of LOOP_FCNT_CFG: GO starts a count at the next boundary and clears DONE (R96). -/
def Device.wrFcntCfg (d : Device) (c v : Nat) : Device :=
  if d.coreClosed c then d
  else
    let d := d.put F.LOOP_FCNT_CFG_GATE c (bits v 4 0)
    if bit v 31 then
      ((d.put F.LOOP_FCNT_CFG_DONE c 0).put F.LOOP_FCNT_CFG_GO c 1).onCore c (fun k => { k with gate := .armed })
    else d

/-- The gate in pounds: values of GATE above 16 act as 16. -/
def Device.gatePounds (d : Device) (c : Nat) : Nat := 2 ^ min 16 (d.get F.LOOP_FCNT_CFG_GATE c)

/-- The cycles of VCO / 4 in a gate of g pounds at the settings in force, rounded down and up: 2 g (N_INT + NUM/MOD). -/
def Core.countLow (k : Core) (g : Nat) : Nat := 2 * g * k.set.rate / k.set.modulus
def Core.countHigh (k : Core) (g : Nat) : Nat := (2 * g * k.set.rate + k.set.modulus - 1) / k.set.modulus

/-- The count of a gate of g pounds that counted `count` cycles: within rounding of f_vco when the core was locked at one frequency all
along (R96). (DESIGN CHOICE: log entry 120) -/
def Core.counted (k : Core) (g count : Nat) : Nat :=
  if k.gateSteady then max (k.countLow g) (min (k.countHigh g) count) else count

/-- FCNT_DONE: the gate has been open for its pounds; the count of VCO/4 cycles is kept and DONE is set (R96).
(DESIGN CHOICE: log entry 120) -/
def Device.fcntDone (d : Device) (c count : Nat) : Device :=
  match (d.core c).gate with
  | .open' n =>
    if d.gatePounds c ≤ n then
      (((d.put F.LOOP_FCNT_COUNT c ((d.core c).counted (d.gatePounds c) count)).put F.LOOP_FCNT_CFG_DONE c 1).put F.LOOP_FCNT_CFG_GO c 0).onCore c
        (fun k => { k with gate := .idle })
    else d
  | _ => d

/-! ## Tick phase monitor (R103-R106) -/

/-- The steps of R105 for an average in 1/16 ps: err_ps × f_vco_ghz × 65.536. (DEDUCED: log entry 55) -/
def Core.trimSteps (k : Core) (err : Int) : Int := divRound (err * k.set.rate * 65536) (32000 * k.set.modulus)

def Device.alarmPs (d : Device) (c : Nat) : Nat := max 1 (d.get F.LOOP_MON_CFG_ALARM_PS c)

/-- MONITOR_AVERAGE: an average of 2^AVG pounds is written, may raise PHASE_ALARM, and in trim mode adjusts τ (R104, R105).
(DEDUCED: log entry 56) -/
def Device.monitorAverage (d : Device) (c : Nat) : Device :=
  let k := d.core c
  if k.avgCount = d.avgPounds c then
    let err := k.meanError k.avgSum (d.avgPounds c)
    let big := decide ((16 * d.alarmPs c : Nat) < err.natAbs)
    let d := (d.put F.LOOP_MON_ERR_ERR c (unsgnSat 24 err)).put F.LOOP_MON_ERR_VALID c 1
    let d := d.onCore c (fun k => { k with avgSum := 0, avgCount := 0, alarm := big,
                                           realignDue := k.realignDue || (big && d.is F.LOOP_CTRL_AUTO_REALIGN c) })
    let d := d.when big (fun d => (d.event F.LOOP_EVT_PHASE_ALARM c).coreReport c 4)
    let d := d.when (decide (2 ≤ d.get F.LOOP_CTRL_MON_MODE c))
      (fun d => d.addTrim c (clampAbs (d.get F.LOOP_MON_CFG_TRIM_MAX c) (k.trimSteps err)))
    d.refreshAligned c
  else d

/-- MONITOR_HOLD_END: after HOLD pounds sampling resumes (R104); not during a MON calibration of the core (R286). (DEDUCED: log entry 56) -/
def Device.monitorHoldEnd (d : Device) (c : Nat) : Device :=
  if d.is F.LOOP_STAT_HOLD c && !d.holding c then
    (d.put F.LOOP_STAT_HOLD c 0).refreshAligned c
  else d

/-- REALIGNED: eight pounds averaged after the hold; the full correction is added to τ (R106). -/
def Device.realigned (d : Device) (c : Nat) : Device :=
  let k := d.core c
  if k.realignDue && k.raCount == 8 && d.locked c then
    let d := d.onCore c (fun k => { k with realignDue := false, raSum := 0, raCount := 0 })
    (d.addTrim c (k.trimSteps (k.meanError k.raSum 8))).event F.LOOP_EVT_REALIGNED c
  else d

/-! ## A boundary passes for a core -/

/-- What a boundary does to core c before any load: the pound passes, BW takes effect with a hold (R81, R107), adjustments enter
u, the frequency gate opens or counts, and the pound counters advance; a core with no load and no apply due ends its boundary. `raw`
is the reading of the monitor's TDC, from the pound edge to output A. A gate that is open when a band search starts goes on counting.
(DESIGN CHOICE: log entries 52, 121; DEDUCED: log entry 57) -/
def Device.coreBoundary (d : Device) (c : Nat) (dith raw : Nat) : Device :=
  if d.coreClosed c then d
  else
    let k := (d.core c).advance dith
    let newBw := d.get F.LOOP_CTRL_BW c
    let bwChanged := newBw != k.bw
    let opens := k.gate == .armed && !d.is F.LOOP_STAT_BAND_SEARCH c
    let gate := match k.gate with
      | .idle => Gate.idle
      | .armed => if opens then .open' 0 else .armed
      | .open' n => .open' (n + 1)
    let hadAdj := !k.adj.isEmpty
    let k := { k.takeAdj with bw := newBw, gate, gateSteady := if opens then d.locked c else k.gateSteady, raw := some raw,
                              since := k.since + 1, holdCount := k.holdCount + 1, acq := k.acq + 1,
                              sinceApply := k.sinceApply + 1, sinceLoad := k.sinceLoad + 1 }
    let d := d.setCore c k
    let d := d.when hadAdj (fun d => d.put F.LOOP_PHASE_ADJ_GO c 0)
    let d := d.when (bwChanged && d.locked c) (fun d => d.startHold c)
    if d.loadDue c || d.applyDue c then d else d.endCore c

/-! ## Meanings -/

def execCoreLoad (c : Fin 16) (inBand : Bool) (s : State) : Host.Outcome State Fault Refusal := .next (s.on (·.coreLoad c inBand))
def execLoopApply (c : Fin 16) (v : Word) (s : State) : Host.Outcome State Fault Refusal :=
  .next (s.on (·.wrLoopApply c (setBit v.toNat 0)))
def execLoopApplyTakeEffect (c : Fin 16) (inBand : Bool) (s : State) : Host.Outcome State Fault Refusal :=
  .next (s.on (·.loopApplyTake c inBand))
def execBandSearchDone (c : Fin 16) (band : Byte) (fKhz : Nat) (s : State) : Host.Outcome State Fault Refusal :=
  .next (s.on (·.bandSearchDone c band.toNat fKhz))
def execLockGained (c : Fin 16) (s : State) (errs : List Nat := []) : Host.Outcome State Fault Refusal := .next (s.on (·.lockGained c errs))
def execLockLost (c : Fin 16) (s : State) (errs : List Nat := []) : Host.Outcome State Fault Refusal := .next (s.on (·.lockLost c errs))
def execReacquireTimeout (c : Fin 16) (s : State) : Host.Outcome State Fault Refusal := .next (s.on (·.reacquireTimeout c))
def execCycleSlip (c : Fin 16) (s : State) : Host.Outcome State Fault Refusal := .next (s.on (·.cycleSlip c))
def execTuneEdge (c : Fin 16) (s : State) : Host.Outcome State Fault Refusal := .next (s.on (·.tuneEdge c))
def execFcntStart (c : Fin 16) (v : Word) (s : State) : Host.Outcome State Fault Refusal :=
  .next (s.on (·.wrFcntCfg c (setBit v.toNat 31)))
def execFcntDone (c : Fin 16) (count : Word) (s : State) : Host.Outcome State Fault Refusal := .next (s.on (·.fcntDone c count.toNat))
def execPhaseAdj (c : Fin 16) (v : Word) (s : State) : Host.Outcome State Fault Refusal :=
  .next (s.on (·.wrPhaseAdj c (setBit v.toNat 31)))
def execMonitorAverage (c : Fin 16) (s : State) : Host.Outcome State Fault Refusal := .next (s.on (·.monitorAverage c))
def execMonitorHoldEnd (c : Fin 16) (s : State) : Host.Outcome State Fault Refusal := .next (s.on (·.monitorHoldEnd c))
def execRealigned (c : Fin 16) (s : State) : Host.Outcome State Fault Refusal := .next (s.on (·.realigned c))

end Sys2Proof.Machine
end

