-- ==== Sys2Proof/Machine/Twins.lean ====
section
/-! DEFINITION. Twins, hops and the output stage: readiness, switchover, missed hops, free-mode swap, crossbar, delay lines, duty
correction, ALIGN strobes (R114-R138). -/

namespace Sys2Proof.Machine

/-! ## Sources of outputs (R131, R132) -/

/-- The core divider a source carries: 0-31 itself, 32-39 output A and 40-47 output B of the active core of a twin; parked has
none. -/
def Device.dividerOf (d : Device) (src : Nat) : Option Nat :=
  if src < 32 then some src
  else if src < 40 then some (2 * d.activeCore (src - 32))
  else if src < 48 then some (2 * d.activeCore (src - 40) + 1)
  else none

/-- Two dividers run at one frequency. -/
def Device.sameTone (d : Device) (a b : Option Nat) : Bool :=
  match a, b with
  | some v, some w => sameRatio ((d.core (v / 2)).set.tone (v % 2 == 1)) ((d.core (w / 2)).set.tone (w % 2 == 1))
  | _, _ => false

/-- An output takes the divider its source in force carries now; only between dividers of one frequency is the duty correction kept
(R135). -/
def Device.followSource (d : Device) (n : Nat) : Device :=
  let new := d.dividerOf (d.get F.COUT_STAT_CUR_SRC n)
  let d := d.when (!d.sameTone (d.output n).behind new) (fun d => d.put F.COUT_STAT_DCC_LOCK n 0)
  d.onOutput n (fun o => { o with behind := new })

def Device.outputClosed (d : Device) (n : Nat) : Bool := d.blockClosed (80 + n)

/-- An output is parked: closed, parked by its source, its core not running, or parked by UNLOCK_ACT (R52, R71, R131-R133). -/
def Device.outputParked (d : Device) (n : Nat) : Bool :=
  d.outputClosed n ||
  match (d.output n).behind with
  | none => true
  | some v =>
    let c := v / 2
    let act := d.get F.COUT_DRV_UNLOCK_ACT n
    d.coreClosed c || decide (d.coreState c ≤ 1)
      || (decide (1 ≤ act) && (d.core c).lossPark) || (decide (2 ≤ act) && (d.core c).presetPark)

/-- A write of COUT_SELn: refused for a reserved source and for a twin source of a disabled twin (R131). -/
def Device.wrOutputSel (d : Device) (n v : Nat) : Device :=
  let src := bits v 5 0
  if (48 ≤ src ∧ src ≤ 62) ∨ (32 ≤ src ∧ src < 48 ∧ d.twinEnabled (src % 8) = false) then
    d.putBit F.COUT_SEL_REFUSED_REFUSED 0 n true
  else (d.put F.COUT_SEL_SRC n src).onOutput n (fun o => { o with nextSrc := some src, srcDue := false })

/-- OUTPUT_SOURCE_CHANGE: at the boundary after the write the new source takes effect (R132); duty correction starts anew, also where the
new source has the frequency of the old one (R135). (DESIGN CHOICE: log entry 159) -/
def Device.outputSourceChange (d : Device) (n : Nat) : Device :=
  match (d.output n).nextSrc with
  | some src =>
    if (d.output n).srcDue then
      let d := (d.put F.COUT_STAT_CUR_SRC n src).onOutput n (fun o => { o with nextSrc := none, srcDue := false })
      (d.followSource n).put F.COUT_STAT_DCC_LOCK n 0
    else d
  | none => d

/-! ## Readiness and switchover (R122-R127) -/

/-- Pounds that must pass after the standby's preset load (R122); in free mode SETTLE_SAME after its last LOOP_APPLY (R130). -/
def Device.settlePounds (d : Device) (k : Nat) : Nat :=
  let s := d.core (d.standbyCore k)
  if s.crossTank && s.berth.isSome then d.get F.COUT_TWIN_CFG_SETTLE_CROSS k else d.get F.COUT_TWIN_CFG_SETTLE_SAME k

/-- The standby of twin k is hop-ready (R122); the pounds of a bound standby that has made no preset load count from its opening.
(DEDUCED: log entry 59) -/
def Device.hopReady (d : Device) (k : Nat) : Bool :=
  let s := d.standbyCore k
  let k' := d.core s
  d.aligned s && decide (d.settlePounds k ≤ if k'.berth.isSome then k'.sinceLoad else k'.sinceApply)

/-- READY follows the hop-readiness of the twin's standby (R122). (DEDUCED: log entry 59) -/
def Device.refreshReady (d : Device) (k : Nat) : Device :=
  d.putBit F.COUT_TWIN_STAT_READY 0 k (d.twinEnabled k && d.hopReady k)

/-- The prepared or missed change of twin k ends: PREPARED and DEFERRING clear. -/
def Device.endHop (d : Device) (k : Nat) : Device :=
  let d := d.setTwin k { d.twin k with hop := none, deferred := 0, swapMissed := false }
  (d.putBit F.COUT_TWIN_STAT_PREPARED 0 k false).putBit F.COUT_TWIN_STAT_DEFERRING 0 k false

/-- The free-mode swap of a twin ends with a SWAP_RESULT (R130). (DEDUCED: log entry 60) -/
def Device.endSwap (d : Device) (k r : Nat) : Device :=
  ((d.setTwin k { d.twin k with swapAt := none }).put F.COUT_TWIN_SWAP_GO 0 0).put F.COUT_TWIN_SWAP_SWAP_RESULT 0 r

/-- The change of twin k: its outputs take the standby, ACTIVE toggles, SWITCHED is set, the former active core becomes standby
(R123). -/
def Device.switchTwin (d : Device) (k : Nat) : Device :=
  let d := d.when (d.twin k).swapAt.isSome (fun d => d.endSwap k 3)
  let d := (d.endHop k).putBit F.COUT_TWIN_STAT_ACTIVE 0 k (!bit (d.get F.COUT_TWIN_STAT_ACTIVE) k)
  let d := (d.onCore (2 * k) (fun x => { x with hopTarget := false })).onCore (2 * k + 1) (fun x => { x with hopTarget := false })
  let d := ((d.standbyStops k).eventBit F.COUT_HOP_EVT_SWITCHED 0 k).refreshReady k
  forEach (List.range 32) (fun n d =>
    d.when (d.get F.COUT_STAT_CUR_SRC n == 32 + k || d.get F.COUT_STAT_CUR_SRC n == 40 + k) (fun d => d.followSource n)) d

/-- The change is abandoned: the standby keeps its load (R126 HOLD). -/
def Device.abandonHop (d : Device) (k : Nat) : Device :=
  let d := (d.onCore (d.standbyCore k) (fun x => { x with hopTarget := false })).standbyStops k
  let d := d.when (d.twin k).swapAt.isSome (fun d => d.endSwap k 2)
  d.endHop k

/-- The standby was not hop-ready at the sample for pound t: the HOP_MISS record, MISSED, and MISS_POLICY (R126). -/
def Device.missHop (d : Device) (k : Nat) (t : Pound) : Device :=
  let d := (d.reportAt 4 0 1 k (some t)).eventBit F.COUT_HOP_EVT_MISSED 0 k
  let pol := d.get F.COUT_TWIN_CFG_MISS_POLICY k
  if pol = 0 then
    (d.setTwin k { d.twin k with deferred := 0 }).putBit F.COUT_TWIN_STAT_DEFERRING 0 k true
  else if pol = 1 then d.switchTwin k
  else d.abandonHop k

/-- TWIN_SWITCH: at the hop pound the sampled readiness decides (R123, R126, R130). -/
def Device.twinSwitch (d : Device) (k : Nat) : Device :=
  match d.changePound k with
  | some t =>
    if t.toNat ≤ d.tow.pound.toNat ∧ d.deferring k = false then
      if (d.twin k).sample then d.switchTwin k else d.missHop k t
    else d
  | none => d

/-- DEFER_SWITCH: a deferring twin changes at the first later boundary with the standby hop-ready (R126). -/
def Device.deferSwitch (d : Device) (k : Nat) : Device :=
  if d.deferring k && decide (1 ≤ (d.twin k).deferred) && (d.twin k).sample then (d.switchTwin k).stampHopMiss k d.tow.pound else d

/-- DEFER_TIMEOUT: after 2^DEFER_LOG pounds without a change the hop is abandoned (R126). -/
def Device.deferTimeout (d : Device) (k : Nat) : Device :=
  if d.deferring k && decide (d.deferLimit k ≤ (d.twin k).deferred) then (d.abandonHop k).stampHopMiss k d.tow.pound else d

/-- HOP_READY: READY shows that the standby is hop-ready (R122). -/
def Device.hopReadyStep (d : Device) (k : Nat) : Device := d.refreshReady k

def Device.twinBound (d : Device) (k : Nat) : Bool := (d.core (2 * k)).berth.isSome || (d.core (2 * k + 1)).berth.isSome

/-- Bit k of a write of TWIN_EN (R114). -/
def Device.wrTwinEnBit (d : Device) (k : Nat) (v : Bool) : Device :=
  if v = d.twinEnabled k then d
  else if d.twinBound k then d.eventBit F.COUT_HOP_EVT_TWIN_REFUSED 0 k
  else if v then (d.putBit F.COUT_TWIN_CTRL_TWIN_EN 0 k true).refreshReady k
  else
    let d := (d.putBit F.COUT_TWIN_CTRL_TWIN_EN 0 k false).putBit F.COUT_TWIN_STAT_ACTIVE 0 k false
    let d := d.when (d.twin k).swapAt.isSome (fun d => d.endSwap k 2)
    (d.endHop k).refreshReady k

/-- A write of COUT_TWIN_CTRL (R114). -/
def Device.wrTwinCtrl (d : Device) (v : Nat) : Device := forEach (List.range 8) (fun k d => d.wrTwinEnBit k (bit v k)) d

/-- A write of COUT_TWIN_SWAP: GO requests a change, or is refused; a later request replaces an earlier one (R130). A change that is
already DEFERRING goes on beside the new request. (DEDUCED: log entry 60; DESIGN CHOICE: log entry 122) -/
def Device.wrTwinSwap (d : Device) (v : Nat) : Device :=
  let k := bits v 2 0
  let d := d.put F.COUT_TWIN_SWAP_TWIN 0 k
  if bit v 31 then
    let p := BitVec.ofNat 64 (d.get F.COUT_TWIN_SWAP_POUND_HI_POUND * 2 ^ 32 + d.get F.COUT_TWIN_SWAP_POUND_LO_POUND)
    if d.twinBound k || !d.twinEnabled k || decide (p.toNat < d.tow.pound.toNat + 2) then
      (d.put F.COUT_TWIN_SWAP_SWAP_RESULT 0 2).put F.COUT_TWIN_SWAP_GO 0
        (ofBool ((List.range 8).any (fun j => (d.twin j).swapAt.isSome)))
    else
      let d := forEach (List.range 8) (fun j d => d.when (d.twin j).swapAt.isSome (fun d => d.setTwin j { d.twin j with swapAt := none })) d
      ((d.setTwin k { d.twin k with swapAt := some p }).put F.COUT_TWIN_SWAP_SWAP_RESULT 0 1).put F.COUT_TWIN_SWAP_GO 0 1
  else d

/-- HOP_BLANK_END: HOP_BLANK pounds after a preset load the lock detector judges again (R119). -/
def Device.hopBlankEnd (d : Device) (c : Nat) : Device :=
  if (d.core c).blank && decide (max 1 (d.get F.COUT_RETUNE_CFG_HOP_BLANK) ≤ (d.core c).sinceLoad) then
    d.onCore c (fun k => { k with blank := false })
  else d

/-- RETUNE_SLOW: a core not ALIGNED within RETUNE_LIMIT pounds of a preset load, once for the load (R119). (DEDUCED: log entry 63) -/
def Device.retuneSlow (d : Device) (c : Nat) : Device :=
  if (d.core c).retuning && !(d.core c).slow && !d.aligned c && decide (d.get F.COUT_RETUNE_CFG_RETUNE_LIMIT ≤ (d.core c).sinceLoad) then
    ((d.onCore c (fun k => { k with slow := true })).eventBit F.COUT_RETUNE_EVT_RETUNE_SLOW 0 c).coreReport c 5
  else d

/-! ## Delay line and duty correction (R134, R135) -/

/-- DELAY in force for a walk: values above 4,000 act as 4,000. -/
def Device.delayOf (d : Device) (n : Nat) : Nat := min 4000 (d.get F.COUT_DLY_DELAY n)

/-- The calibrated tap nearest to DELAY; the lowest of two equally near (R134). -/
def Device.tapFor (d : Device) (n : Nat) : Nat := nearestTap (16 * d.delayOf n : Nat) (Cal.tapDelays d.cal.inForce n)

/-- A write of COUT_DLYn: during a walk the walk turns toward the new value; else a walk waits for the next boundary (R134). -/
def Device.wrOutputDelay (d : Device) (n v : Nat) : Device :=
  let d := d.put F.COUT_DLY_DELAY n (bits v 11 0)
  if d.is F.COUT_STAT_WALKING n then d.onOutput n (fun o => { o with walkTo := some (d.tapFor n) })
  else d.onOutput n (fun o => { o with walkAsked := true, walkDue := false })

/-- The aligner of an output walks to the tap its table selects for DELAY (R134, R290, R291). -/
def Device.walkToTable (d : Device) (n : Nat) : Device :=
  (d.onOutput n (fun o => { o with walkTo := some (d.tapFor n), walkAsked := false, walkDue := false })).put F.COUT_STAT_WALKING n 1

/-- DELAY_WALK: the walk starts at the boundary (R134). (DESIGN CHOICE: log entry 64) -/
def Device.delayWalk (d : Device) (n : Nat) : Device :=
  if (d.output n).walkDue then d.walkToTable n else d

/-- DELAY_WALK_DONE: the walk reaches its tap (R134). (DESIGN CHOICE: log entry 64) -/
def Device.delayWalkDone (d : Device) (n : Nat) : Device :=
  match (d.output n).walkTo with
  | some t =>
    if d.is F.COUT_STAT_WALKING n then
      ((d.put F.COUT_STAT_TAP n t).put F.COUT_STAT_WALKING n 0).onOutput n (fun o => { o with walkTo := none })
    else d
  | none => d

/-- A parked output has no duty correction; it converges anew when it resumes (R135). -/
def Device.dccPark (d : Device) (n : Nat) : Device := d.when (d.outputParked n) (fun d => d.put F.COUT_STAT_DCC_LOCK n 0)

/-- A write of COUT_DRVn: clearing DCC_EN ends the duty correction (R135). -/
def Device.dccEnable (d : Device) (n : Nat) : Device :=
  d.when (!d.is F.COUT_DRV_DCC_EN n) (fun d => d.put F.COUT_STAT_DCC_LOCK n 0)

/-- DCC_LOCK: duty correction has converged on a running output (R135). (DESIGN CHOICE: log entry 64) -/
def Device.dccLock (d : Device) (n : Nat) : Device :=
  if d.is F.COUT_DRV_DCC_EN n && !d.outputParked n then d.put F.COUT_STAT_DCC_LOCK n 1 else d

/-! ## ALIGN strobes (R136-R138) -/

/-- The program of an output as written now, with the least period of R136. -/
def Device.strobeProgram (d : Device) (n : Nat) : Strobes :=
  let w := d.get F.COUT_ALIGN_CFG_WIDTH n
  let p := d.get F.COUT_ALIGN_CFG_PERIOD n
  { pound := BitVec.ofNat 64 (d.get F.COUT_ALIGN_POUND_HI_POUND n * 2 ^ 32 + d.get F.COUT_ALIGN_POUND_LO_POUND n),
    period := if p = 0 then 0 else max p (w + 2), count := d.get F.COUT_ALIGN_CFG_COUNT n, width := w,
    edge := d.is F.COUT_ALIGN_CFG_EDGE_SEL n }

/-- Arm output n, or refuse it: a first pound less than two after the present one (R136). While a DISARM waits for a strobe that is high, an
ARM takes the new program, and the DISARM bit stays set until that program ends. (DESIGN CHOICE: log entry 160) -/
def Device.alignArm (d : Device) (n : Nat) : Device :=
  let p := d.strobeProgram n
  if p.pound.toNat < d.tow.pound.toNat + 2 then
    (d.put F.COUT_STAT_ALIGN_RESULT n 2).putBit F.COUT_ALIGN_REFUSED_REFUSED 0 n true
  else
    ((d.onOutput n (fun o => { o with program := some p, strobe := 0 })).put F.COUT_STAT_ALIGN_RESULT n 1).putBit
      F.COUT_ALIGN_ARM_ARM 0 n true

/-- The program of output n has ended (R136). -/
def Device.alignEnd (d : Device) (n : Nat) : Device :=
  (((d.onOutput n (fun o => { o with program := none, strobe := 0 })).put F.COUT_STAT_ALIGN_RESULT n 3).putBit
    F.COUT_ALIGN_ARM_ARM 0 n false).putBit F.COUT_ALIGN_DISARM_DISARM 0 n false

/-- Disarm output n: the program ends after any strobe in progress (R136). (DEDUCED: log entry 65) -/
def Device.alignDisarm (d : Device) (n : Nat) : Device :=
  if (d.output n).high.isSome then
    (d.onOutput n (fun o => { o with program := none, strobe := 0 })).putBit F.COUT_ALIGN_DISARM_DISARM 0 n true
  else if (d.output n).program.isSome then d.alignEnd n
  else d

/-- A write of COUT_ALIGN_ARM and of COUT_ALIGN_DISARM: each 1 acts on its output (R136). -/
def Device.wrAlignArm (d : Device) (v : Nat) : Device := forEach (List.range 32) (fun n d => d.when (bit v n) (fun d => d.alignArm n)) d
def Device.wrAlignDisarm (d : Device) (v : Nat) : Device :=
  forEach (List.range 32) (fun n d => d.when (bit v n) (fun d => d.alignDisarm n)) d

/-- No strobe is left after the first i of a program. (DEDUCED: log entry 65) -/
def Strobes.ended (p : Strobes) (i : Nat) : Bool := (p.period == 0 && decide (1 ≤ i)) || (p.count != 0 && decide (p.count ≤ i))

/-- The twin behind output n has still to change at the present boundary: what depends on its clock waits for it (R137). -/
def Device.sourceDue (d : Device) (n : Nat) : Bool :=
  let src := d.get F.COUT_STAT_CUR_SRC n
  decide (32 ≤ src) && decide (src < 48) && d.changeDue (src % 8)

/-- The divider whose next falling edge at the balls an edge of ALIGNn waits for: with EDGE_SEL, on a running output of at most 4 GHz,
the divider that drives the output after the boundary; none: the edge is pound-aligned (R137). -/
def Device.retimedBy (d : Device) (n : Nat) (edge : Bool) : Option Nat :=
  match (d.output n).behind with
  | some v =>
    let f := (d.core (v / 2)).set.tone (v % 2 == 1)
    if edge && !d.outputParked n && decide (f.1 ≤ 8 * f.2) then some v else none
  | none => none

/-- ALIGN_STROBE: the strobe due rises, or is skipped while the output is closed or parked; it counts toward COUNT either way
(R136-R138). (DEDUCED: log entry 65) -/
def Device.alignStrobe (d : Device) (n : Nat) : Device :=
  let o := d.output n
  match o.program with
  | some p =>
    if d.sourceDue n = false ∧ p.ended o.strobe = false ∧ p.pound.toNat + o.strobe * p.period ≤ d.tow.pound.toNat ∧ o.high = none then
      let d := d.onOutput n (fun o => { o with strobe := o.strobe + 1 })
      if d.outputParked n then
        let d := d.putBit F.COUT_ALIGN_SKIPPED_SKIPPED 0 n true
        if p.ended (o.strobe + 1) then d.alignEnd n else d
      else
        ((d.bump F.COUT_ALIGN_CNT_FIRED n).put F.COUT_STAT_ALIGN_HIGH n 1).onOutput n
          (fun o => { o with high := some (p.width + 1), edge := p.edge, edgeBy := d.retimedBy n p.edge })
    else d
  | none => d

/-- A high strobe falls; the program ends after its last strobe, or when it was disarmed (R136). -/
def Device.strobeFall (d : Device) (n : Nat) : Device :=
  let o := d.output n
  let d := (d.put F.COUT_STAT_ALIGN_HIGH n 0).onOutput n (fun o => { o with high := none, edgeBy := d.retimedBy n o.edge })
  match o.program with
  | some p => if p.ended o.strobe then d.alignEnd n else d
  | none => d.alignEnd n

/-- ALIGN_STROBE_END: the strobe falls after its width (R136, R137). -/
def Device.alignStrobeEnd (d : Device) (n : Nat) : Device :=
  if (d.output n).high = some 0 ∧ d.sourceDue n = false then d.strobeFall n else d

/-! ## A boundary passes for the twins and outputs -/

/-- The samples of hop-readiness taken 4 ns before a boundary (R123). -/
def Device.sampleTwins (d : Device) : Device :=
  forEach (List.range 8) (fun k d => d.setTwin k { d.twin k with sample := d.hopReady k }) d

/-- Deferrals count the boundary, sources and walks that waited for it become due, outputs of twins follow the active core (R114),
high strobes lose a pound, READY is brought up to date. -/
def Device.outputsBoundary (d : Device) : Device :=
  let d := forEach (List.range 8) (fun k d =>
    (d.when (d.deferring k) (fun d => d.setTwin k { d.twin k with deferred := (d.twin k).deferred + 1 })).refreshReady k) d
  forEach (List.range 32) (fun n d =>
    ((d.onOutput n (fun o => { o with srcDue := o.nextSrc.isSome, walkDue := o.walkAsked, high := o.high.map (· - 1) })).followSource
      n).dccPark n) d

/-! ## Meanings -/

def execTwinEnWrite (v : Word) (s : State) : Host.Outcome State Fault Refusal := 
  .next (s.on (fun d => (d.wrTwinCtrl v.toNat).markDirty))
def execHopBlankEnd (c : Fin 16) (s : State) : Host.Outcome State Fault Refusal := .next (s.on (·.hopBlankEnd c))
def execRetuneSlow (c : Fin 16) (s : State) : Host.Outcome State Fault Refusal := .next (s.on (·.retuneSlow c))
def execHopReady (k : Fin 8) (s : State) : Host.Outcome State Fault Refusal := .next (s.on (·.hopReadyStep k))
def execTwinSwitch (k : Fin 8) (s : State) : Host.Outcome State Fault Refusal := .next (s.on (·.twinSwitch k))
def execDeferSwitch (k : Fin 8) (s : State) : Host.Outcome State Fault Refusal := .next (s.on (·.deferSwitch k))
def execDeferTimeout (k : Fin 8) (s : State) : Host.Outcome State Fault Refusal := .next (s.on (·.deferTimeout k))
def execTwinSwap (v : Word) (s : State) : Host.Outcome State Fault Refusal := .next (s.on (·.wrTwinSwap (setBit v.toNat 31)))
def execOutputSourceSelect (n : Fin 32) (v : Word) (s : State) : Host.Outcome State Fault Refusal :=
  .next (s.on (fun d => (d.wrOutputSel n v.toNat).markDirty))
def execOutputSourceChange (n : Fin 32) (s : State) : Host.Outcome State Fault Refusal := .next (s.on (·.outputSourceChange n))
def execDelayWalk (n : Fin 32) (s : State) : Host.Outcome State Fault Refusal := .next (s.on (·.delayWalk n))
def execDelayWalkDone (n : Fin 32) (s : State) : Host.Outcome State Fault Refusal := .next (s.on (·.delayWalkDone n))
def execDccLock (n : Fin 32) (s : State) : Host.Outcome State Fault Refusal := .next (s.on (·.dccLock n))
def execAlignArm (v : Word) (s : State) : Host.Outcome State Fault Refusal := .next (s.on (·.wrAlignArm v.toNat))
def execAlignDisarm (v : Word) (s : State) : Host.Outcome State Fault Refusal := .next (s.on (·.wrAlignDisarm v.toNat))
def execAlignStrobe (n : Fin 32) (s : State) : Host.Outcome State Fault Refusal := .next (s.on (·.alignStrobe n))
def execAlignStrobeEnd (n : Fin 32) (s : State) : Host.Outcome State Fault Refusal := .next (s.on (·.alignStrobeEnd n))

end Sys2Proof.Machine
end

