-- ==== Sys2Proof/Machine/Ledger.lean ====
section
/-! DEFINITION. The Berth memory and its errors, the command counters, the effect records, and indirect access to the ledger (R143-R146,
R166-R171, R193, R194). -/

namespace Sys2Proof.Machine

/-! ## Counters (R193, R194) -/

def Engines.counts (e : Engines) (s : Fin 4) : Counts :=
  match s with | 0 => e.counts0 | 1 => e.counts1 | 2 => e.counts2 | 3 => e.counts3

def Engines.setCounts (e : Engines) (s : Fin 4) (c : Counts) : Engines :=
  match s with
  | 0 => { e with counts0 := c } | 1 => { e with counts1 := c } | 2 => { e with counts2 := c } | 3 => { e with counts3 := c }

/-- Accepted and queued. -/
def Counts.accept (c : Counts) : Counts := { c with accepted := c.accepted + 1, pending := c.pending + 1 }
/-- Accepted and rejected at once. -/
def Counts.acceptReject (c : Counts) (late : Bool) : Counts :=
  { c with accepted := c.accepted + 1, rejected := c.rejected + 1, late := if late then c.late + 1 else c.late }
/-- Accepted and discarded at once: a held first word removed by an HCQ reset. (DESIGN CHOICE: log entry 72) -/
def Counts.acceptDiscard (c : Counts) : Counts := { c with accepted := c.accepted + 1, discarded := c.discarded + 1 }
/-- Committed, or a FENCE released. -/
def Counts.apply (c : Counts) : Counts := { c with pending := c.pending - 1, applied := c.applied + 1 }
/-- Rejected after acceptance. -/
def Counts.reject (c : Counts) (late : Bool) : Counts :=
  { c with pending := c.pending - 1, rejected := c.rejected + 1, late := if late then c.late + 1 else c.late }
/-- Discarded by a reset or a dropped word. -/
def Counts.discard (c : Counts) : Counts := { c with pending := c.pending - 1, discarded := c.discarded + 1 }
/-- The counters at a block reset of the engines, after its discards: PENDING counts the commands in the source's queues (R193). -/
def Counts.engineReset (c : Counts) (queued : Nat) : Counts :=
  { c with applied := 0, rejected := 0, late := 0, pending := BitVec.ofNat 32 queued, accepted := BitVec.ofNat 32 queued + c.discarded }
/-- Change the counters of one source. -/
def Device.count (d : Device) (s : Fin 4) (f : Counts → Counts) : Device :=
  { d with eng := d.eng.setCounts s (f (d.eng.counts s)) }

/-! ## Effect records (R167-R169) -/

/-- A record enters the effect log as LOG_MODE selects: rejections in modes 0, 1 and 3, applied effects but refresh EMITs in modes 1
and 3, none in mode 2 (R169). -/
def Device.effect (d : Device) (c : Cmd) (code : Code) (gen : BitVec 16) : Device :=
  let mode := d.get F.LDG_LOG_CFG_LOG_MODE
  let wanted := mode != 2 && (code != 0 || (mode != 0 && !c.refresh))
  d.when wanted (fun d => d.logRecord (c.record code gen d.tow.pound))

/-- A pending command is rejected: counted, recorded (R194). -/
def Device.rejectCmd (d : Device) (c : Cmd) (code : Code) (gen : BitVec 16) : Device :=
  (d.count c.src (·.reject (code == 1))).effect c code gen

/-- A pending command is discarded without a record. -/
def Device.discardCmd (d : Device) (c : Cmd) : Device := d.count c.src (·.discard)

/-- A pending command is applied: counted, recorded. -/
def Device.applyCmd (d : Device) (c : Cmd) (gen : BitVec 16) : Device := (d.count c.src (·.apply)).effect c 0 gen

/-- A source accepts a command word, with the word that follows when LONG is set: it is rejected at once under R154, or becomes a
pending command. -/
def Device.accept (d : Device) (src : Fin 4) (w : BitVec 128) (second : Option (BitVec 128)) (refresh : Bool) :
    Option Cmd × Device :=
  let p := d.tow.pound
  let c : Cmd := { w1 := w, w2 := (second.getD 0).truncate 64, words := if second.isSome then 2 else 1, src,
                   seq := ((d.eng.counts src).accepted + 1).truncate 16, t := BitVec.ofInt 64 (resolveT src.val w p),
                   acc := p, refresh }
  match acceptCode src.val w second p with
  | some code => (none, (d.count src (·.acceptReject (code == 1))).effect c code 0)
  | none => (some c, d.count src (·.accept))

/-! ## The Berth memory (R146, R170) -/

/-- The stored cell of a Berth; one never written since the last loss of the memory is arbitrary, errors included (R146).
(DESIGN CHOICE: log entry 11) -/
def Device.cell (d : Device) (id : Nat) : Cell :=
  match Store.get? d.ledger.cells id with
  | some c => c
  | none =>
    let x := Config.arbitrary 0 d.ledger.epoch id
    { entry := Entry.unpack (BitVec.ofNat 256 x), corr := BitVec.ofNat 4 (x / 2 ^ 256), uncorr := BitVec.ofNat 4 (x / 2 ^ 260) }

def Device.setCell (d : Device) (id : Nat) (c : Cell) : Device :=
  { d with ledger := { d.ledger with cells := Store.set d.ledger.cells id c } }

/-- A cell after bits of it have changed: a first wrong bit of a codeword is correctable, a second is not (R146). A codeword with three or
more wrong bits, which the part may miscorrect or pass unseen, stays uncorrectable. (DESIGN CHOICE: log entry 162) -/
def Cell.hit (c : Cell) (corr uncorr : BitVec 4) : Cell :=
  { c with corr := c.corr ||| corr, uncorr := c.uncorr ||| uncorr ||| (c.corr &&& corr) }

/-- Codewords that read corrected, and the number of them. -/
def Cell.corrected (c : Cell) : BitVec 4 := c.corr &&& ~~~c.uncorr
def popcount4 (b : BitVec 4) : Nat := ofBool (b.getLsbD 0) + ofBool (b.getLsbD 1) + ofBool (b.getLsbD 2) + ofBool (b.getLsbD 3)
/-- The highest-numbered codeword of a nonzero set. (DEDUCED: log entry 66) -/
def topCodeword (b : BitVec 4) : Nat := if b.getLsbD 3 then 3 else if b.getLsbD 2 then 2 else if b.getLsbD 1 then 1 else 0

/-- A read of a Berth handles the errors it finds: corrected codewords are counted and set CORR; an uncorrectable one is counted,
sets UNCORR, is shown in LDG_ECC_LAST and writes a BERTH_UNCORR record (R170, R171). (DEDUCED: log entry 66) -/
def Device.noteErrors (d : Device) (id : Nat) (c : Cell) : Device :=
  let last := fun (d : Device) (w : Nat) (u : Bool) =>
    ((d.put F.LDG_ECC_LAST_CWORD 0 w).putB F.LDG_ECC_LAST_UNCORR 0 u).put F.LDG_ECC_LAST_BERTH 0 id
  let d := d.when (c.corrected != 0) (fun d =>
    last ((d.bump F.LDG_ECC_CORR_CNT_CORRECTED 0 (popcount4 c.corrected)).event F.LDG_EVT_CORR) (topCodeword c.corrected) false)
  d.when (c.uncorr != 0) (fun d =>
    (last ((d.bump F.LDG_ECC_UNCORR_CNT_UNCORRECTABLE).event F.LDG_EVT_UNCORR) (topCodeword c.uncorr) true).report 5 id 1 (bankOf id))

/-- A read of a Berth while bits of its row change: the cell as read, and the state after the errors are handled. -/
def Device.readBerth (d : Device) (id : Nat) (up : Upset) : Cell × Device :=
  let c := (d.cell id).hit up.corr up.uncorr
  let d := d.when (c != d.cell id) (fun d => d.setCell id c)
  (c, d.noteErrors id c)

/-- The lease of a Berth is held by an engine: by an executed and uncommitted command, or by a stolen command in hand (R23). -/
def Engines.leaseHolder (e : Engines) (id : Nat) : Option Nat :=
  match e.flights.find? (fun f => f.berth == id) with
  | some f => some f.eng
  | none =>
    match e.engine.find? (fun x => x.2.hand.any (fun c => cmdBerth c.w1 == id)) with
    | some x => some x.1
    | none => none

/-- Every core that records a Berth id is released from it, as by RELEASE, at once (R161, R171). -/
def Device.releaseBerth (d : Device) (id : Nat) : Device :=
  forEach (List.range 16) (fun c d => d.when ((d.core c).berth == some id) (fun d => d.releaseCore c)) d

/-- A hop prepared by a Berth is cancelled (R127, R161). -/
def Device.cancelBerthHop (d : Device) (id : Nat) : Device :=
  forEach (List.range 8) (fun k d => d.when ((d.twin k).hop.any (fun h => h.2.2 == id)) (fun d => d.cancelHop k)) d

/-! ## Indirect access to a Berth (R171, R331) -/

/-- Word w of an entry. -/
def Entry.word (e : Entry) (w : Nat) : Word := e.pack.extractLsb' (32 * w) 32

/-- Word w of a Berth as an indirect read captures it: corrected data; of an uncorrectable codeword the raw bits, which are open. -/
def Device.berthWord (d : Device) (id w : Nat) (c : Cell) : Word :=
  if c.uncorr.getLsbD (w / 2) then BitVec.ofNat 32 (Config.arbitrary 2 d.ledger.epoch (id * 8 + w)) else c.entry.word w

/-- The check bits of codeword n of a Berth as stored: fixed by the data when no bit has changed, otherwise open (R146).
(DESIGN CHOICE: log entry 13) -/
def Device.checkByte (d : Device) (id n : Nat) : Nat :=
  let c := d.cell id
  if c.corr.getLsbD n || c.uncorr.getLsbD n then Config.arbitrary 3 d.ledger.epoch (id * 4 + n) % 256
  else (Config.checkBits (c.entry.pack.extractLsb' (64 * n) 64)).toNat

/-- The entry a staged indirect write makes: written words, the stored value elsewhere, CHANNEL from the id, FREE and unbound (R171);
none when a word left unwritten lies in an uncorrectable codeword (R331). -/
def Device.indEntry (d : Device) (id : Nat) (words : Store Word) : Option Entry :=
  let c := d.cell id
  if (List.range 8).any (fun w => (Store.get? words w).isNone && c.uncorr.getLsbD (w / 2)) then none
  else
    let word := fun w => (Store.get? words w).getD (c.entry.word w)
    let b : BitVec 256 := (word 7 ++ word 6 ++ word 5 ++ word 4 ++ word 3 ++ word 2 ++ word 1 ++ word 0 : BitVec 256)
    some { Entry.unpack b with channel := BitVec.ofNat 12 (id / 32), state := 0, binding := 0 }

/-- The entry decodes without uncorrectable error as BOUND. -/
def Cell.boundNow (c : Cell) : Bool := c.uncorr == 0 && c.entry.bound

/-- Refusal of an indirect write (R171). -/
def Device.indRefused (d : Device) : Device := d.event F.LDG_EVT_IND_REFUSED

/-- Word 7 of a Berth sequence is written: the write waits for the lease, or is refused for a bound entry; a sequence that leaves a
word of an uncorrectable codeword unwritten writes nothing and also sets IND_DROP (R171, R331). While an executed command holds the lease
nothing is judged yet: the write comes second and sees what that command commits (R172). -/
def Device.requestBerthWrite (d : Device) (id : Nat) (words : Store Word) : Device :=
  let wait := ({ d with ledger := { d.ledger with waiting := some (id, words) } } : Device).put F.LDG_STAT_IND_BUSY 0 1
  if (d.eng.leaseHolder id).isSome then wait
  else if (d.cell id).boundNow then d.indRefused
  else match d.indEntry id words with
    | none => d.indRefused.pageEvent F.PAGE_STAT_IND_DROP 0x30
    | some _ => wait

/-- BERTH_IND_WRITE_COMMIT: the waiting write takes the free lease for one cycle and writes the entry with fresh check bits. -/
def Device.berthWriteCommit (d : Device) : Device :=
  match d.ledger.waiting with
  | none => d
  | some (id, words) =>
    if (d.eng.leaseHolder id).isSome then d
    else
      let d := ({ d with ledger := { d.ledger with waiting := none } } : Device).put F.LDG_STAT_IND_BUSY 0 0
      if (d.cell id).boundNow then d.indRefused
      else match d.indEntry id words with
        | none => d.indRefused.pageEvent F.PAGE_STAT_IND_DROP 0x30
        | some e =>
          let old := d.cell id
          let d := d.setCell id { entry := e }
          d.when (old.uncorr != 0) (fun d => d.releaseBerth id)

/-- The channel map entry of a channel (R150). -/
def Device.mapEntry (d : Device) (ch : Nat) : Nat := (Store.getD d.ledger.map ch 0).toNat

/-- The wharf that serves a Berth's channel, if its map entry is VALID. -/
def Device.servingWharf (d : Device) (id : Nat) : Option Nat :=
  let m := d.mapEntry (id / 32)
  if bit m 31 then some (bits m 7 0) else none

end Sys2Proof.Machine
end

