-- ==== Sys2Proof/Machine/Slots.lean ====
section
/-! DEFINITION. Lanes and wharves as the engines see them: layout, trained state, slots and credits (R12, R252, R261, R266, R268, R274). -/

namespace Sys2Proof.Machine

def Device.lane (d : Device) (n : Nat) : Lane := Store.getD d.whf.lane n {}
def Device.onLane (d : Device) (n : Nat) (f : Lane → Lane) : Device :=
  { d with whf := { d.whf with lane := Store.put d.whf.lane {} n (f (d.lane n)) } }
def Device.wharf (d : Device) (h : Nat) : Wharf := Store.getD d.whf.wharf h {}
def Device.onWharf (d : Device) (h : Nat) (f : Wharf → Wharf) : Device :=
  { d with whf := { d.whf with wharf := Store.put d.whf.wharf {} h (f (d.wharf h)) } }

/-- The lowest lane, within the quad, of the wharf that holds lane l of the quad under a LAYOUT (R252). -/
def layoutRoot (layout l : Nat) : Nat :=
  if layout = 4 then 0
  else if (layout = 1 ∨ layout = 3) ∧ l = 1 then 0
  else if (layout = 2 ∨ layout = 3) ∧ l = 3 then 2
  else l

/-- The wharf of a lane in the layout in force. -/
def Device.wharfOf (d : Device) (n : Nat) : Nat := n / 4 * 4 + layoutRoot (d.get F.LANE_QUAD_STAT_LAYOUT (n / 4)) (n % 4)

/-- The lanes of wharf h in order; none when h is not the lowest lane of a wharf (R252). -/
def Device.wharfLanes (d : Device) (h : Nat) : List Nat :=
  (List.range 4).filterMap (fun l => if d.wharfOf (h / 4 * 4 + l) = h then some (h / 4 * 4 + l) else none)

/-- WIDTH of a wharf: 0 one lane, 1 two, 2 four. -/
def Device.wharfWidth (d : Device) (h : Nat) : Nat := (d.wharfLanes h).length / 2

/-- STATE of a lane (R261). -/
def Device.laneState (d : Device) (n : Nat) : Nat := d.get F.LANE_STAT_STATE n
def Device.joined (d : Device) (n : Nat) : Bool := d.is F.LANE_STAT_JOINED n

/-- The joined lanes of a wharf in order; the first is the report lane (R253). -/
def Device.joinedLanes (d : Device) (h : Nat) : List Nat := (d.wharfLanes h).filter d.joined
def Device.reportLane (d : Device) (h : Nat) : Option Nat := (d.joinedLanes h).head?

/-- A wharf is trained while a lane of it is in EXCHANGE, ACTIVE or STANDBY (R261). -/
def Device.wharfUp (d : Device) (h : Nat) : Bool :=
  (d.wharfLanes h).any (fun n => d.laneState n == 6 || d.laneState n == 7 || d.laneState n == 10)

/-- Some lane of the wharf is in a state. -/
def Device.wharfIn (d : Device) (h st : Nat) : Bool := (d.wharfLanes h).any (fun n => d.laneState n == st)

/-- Trained for row 8 of R155: a Towpath-mode wharf counts as not trained (R253), and so does a closed quad. -/
def Device.wharfTrained (d : Device) (h : Nat) : Bool := d.wharfUp h && !(d.wharf h).towpath && !d.blockClosed (h / 4)

/-- Slots of a wharf reserved for the next frame: those of the executed and uncommitted commands. -/
def Device.reserved (d : Device) (h : Nat) : List Barge :=
  d.eng.flights.filterMap (fun f => match f.barge? with
    | some b => if b.wharf = h then some b else none
    | none => none)

/-- The wharf takes reservations: ACTIVE, not stopping for DEEP (R267, R274, R275). (DEDUCED: log entry 92) -/
def Device.takesSlots (d : Device) (h : Nat) : Bool :=
  d.wharfIn h 7 && !d.wharfIn h 6 && decide (Store.getD d.whf.deep (h / 4) 0 = 0)

/-- The first free slot, by lane and then slot, of the frame for the next pound, with a credit to go with it (R12, R268).
(DEDUCED: log entry 92) -/
def Device.slotFor (d : Device) (h : Nat) : Option (Nat × Nat) :=
  if d.takesSlots h && decide (0 < d.get F.WHF_CREDIT_HELD h) then
    ((d.joinedLanes h).flatMap (fun n => [(n, 0), (n, 1)])).find?
      (fun x => !(d.reserved h).any (fun b => b.lane == x.1 && b.slot == x.2))
  else none

/-- A reservation takes one credit (R266). -/
def Device.takeCredit (d : Device) (h : Nat) : Device := d.put F.WHF_CREDIT_HELD h (d.get F.WHF_CREDIT_HELD h - 1)

/-- Credits come back, up to the 64 of the pool. -/
def Device.giveCredits (d : Device) (h n : Nat) : Device := d.put F.WHF_CREDIT_HELD h (min 64 (d.get F.WHF_CREDIT_HELD h + n))

/-- A reservation failed: with AUTO_WAKE set a wharf in STANDBY is asked to exit (R274). -/
def Device.slotFailed (d : Device) (h : Nat) : Device :=
  d.when (d.wharfIn h 10 && d.is F.WHF_CFG_AUTO_WAKE h && (d.wharf h).wake.isNone)
    (fun d => d.onWharf h (fun w => { w with wake := some 0 }))

/-- A command for wharf h is rejected as UNDELIVERABLE: the wharf's counter, where there is such a wharf (R271, R279). -/
def Device.countUndeliverable (d : Device) (h : Nat) : Device :=
  d.when (!(d.wharfLanes h).isEmpty && !d.blockClosed (h / 4)) (fun d => d.bump F.WHF_UNDELIV_CNT_UNDELIVERABLE h)

end Sys2Proof.Machine
end

