-- ==== Sys2Proof/Machine/Engines.lean ====
section
/-! DEFINITION. The frame engines: slices, selection, leases, execution of the commands, stealing, FILL, deadlines and resets
(R155-R161, R174, R183-R187, R195-R197). -/

namespace Sys2Proof.Machine

/-! ## Engines and cycles (R17, R174, R183) -/

def Device.engine (d : Device) (e : Nat) : Engine := Store.getD d.eng.engine e {}
def Device.setEngine (d : Device) (e : Nat) (x : Engine) : Device :=
  { d with eng := { d.eng with engine := Store.put d.eng.engine {} e x } }
def Device.onEngine (d : Device) (e : Nat) (f : Engine → Engine) : Device := d.setEngine e (f (d.engine e))

/-- Whole ENG cycles per pound: 80 over the divider from MPL1; 6 on FIO at 400 MHz (R17, R59). At a divider that makes no whole number of
cycles in a pound the model takes the lower number in every pound (R76). (DESIGN CHOICE: log entry 129) -/
def Device.cycles (d : Device) : Nat :=
  if d.get F.CLK_DOM_STAT_CUR_SRC 144 = 1 then 80 / max 1 (d.get F.CLK_DOM_STAT_CUR_DIV 144)
  else 6 / max 1 (d.get F.CLK_DOM_STAT_CUR_DIV 144)

/-- An engine spends cycles on work; they count in its cluster page (R184, R366). -/
def Device.spend (d : Device) (e n : Nat) : Device :=
  (d.onEngine e (fun x => { x with used := x.used + n })).bump F.ENG_CL_CYC_CNT_CYCLES e n

/-! ## Fences passed (R189, R190) -/

def Device.hold (d : Device) (s : Nat) : Option FenceHold := Store.get? d.eng.holds s

/-- A command of source s is still in a slice, in an engine's hand, or executed and uncommitted. -/
def Device.inEngines (d : Device) (s : Fin 4) : Bool :=
  d.eng.engine.any (fun e => e.2.slice.any (fun c => c.src == s) || e.2.hand.any (fun c => c.src == s))
    || d.eng.flights.any (fun f => f.cmd.src == s)

/-- Source s passes fence n (R190). (DEDUCED: log entry 71) -/
def Device.passFence (d : Device) (s n : Nat) : Device :=
  (d.putBit F.ENG_FENCE_FLAGS_VALID 0 s true).put F.ENG_FENCE_STAT_PASSED s n

/-- Source s has passed fence n (R190). -/
def Device.hasPassed (d : Device) (s n : Nat) : Bool :=
  bit (d.get F.ENG_FENCE_FLAGS_VALID) s && decide ((d.get F.ENG_FENCE_STAT_PASSED s + 2 ^ 16 - n % 2 ^ 16) % 2 ^ 16 < 2 ^ 15)

/-- A source that holds at a fence passes it once every command it presented before has its effect (R189). -/
def Device.settleFences (d : Device) : Device :=
  forEach [0, 1, 2, 3] (fun (s : Fin 4) d =>
    match d.hold s.val with
    | some h => d.when (!d.inEngines s) (fun d => d.passFence s.val h.number.toNat)
    | none => d) d

def Device.resetBusy (d : Device) : Bool := d.is F.ENG_STAT_RESET_BUSY

/-! ## Slices (R174, R175) -/

/-- The commands that engine e's slice holds: those that wait in it, and those of it that are executed and not yet committed (R175). -/
def Device.sliceDepth (d : Device) (e : Nat) : Nat :=
  (d.engine e).slice.length + (d.eng.flights.filter (fun f => f.eng == e && !f.fill && ownerOf f.berth == e)).length

/-- A command enters the slice of an engine; the largest depth is kept (R174). -/
def Device.enterSlice (d : Device) (e : Nat) (c : Cmd) : Device :=
  let d := d.onEngine e (fun x => { x with slice := x.slice ++ [{ c with entry := d.eng.entered }] })
  let d : Device := { d with eng := { d.eng with entered := d.eng.entered + 1 } }
  d.put F.ENG_SLICE_STAT_MAX_DEPTH e (max (d.get F.ENG_SLICE_STAT_MAX_DEPTH e) (d.sliceDepth e))

/-- A command goes back to its place in a slice, in the order of entry. (DEDUCED: log entry 67) -/
def reenter (c : Cmd) : List Cmd → List Cmd
  | [] => [c]
  | x :: t => if c.entry < x.entry then c :: x :: t else x :: reenter c t

/-- An attempt without slot or credit leaves the command in the slice it was taken from, the owner's, at its place: R16 and R183
keep the commands of one source for one Berth in order. (DEDUCED: log entry 67) -/
def Device.backToSlice (d : Device) (c : Cmd) : Device :=
  d.onEngine (ownerOf (cmdBerth c.w1)) (fun x => { x with slice := reenter c x.slice })

def Device.sliceFull (d : Device) (e : Nat) : Bool := decide (128 ≤ d.sliceDepth e)

/-! ## Selection (R183) -/

/-- An older command of the list blocks a younger one: same source, and it names the same Berth. -/
def Cmd.blocks (old c : Cmd) : Bool :=
  old.src == c.src && cmdOp c.w1 != 0 && cmdOp old.w1 != 0 && old.namesBerth (cmdBerth c.w1)

/-- Selectable at pound p, given the older commands of the slice. -/
def Device.selectable (d : Device) (p : Pound) (older : List Cmd) (c : Cmd) : Bool :=
  cmdOp c.w1 != 9 && c.eligible p && !c.isLate p && !c.failed && !older.any (fun o => o.blocks c)
    && (cmdOp c.w1 == 0 || (d.eng.leaseHolder (cmdBerth c.w1)).isNone)

/-- The selectable commands of a list with their positions, in order of entry. -/
def Device.selectableFrom (d : Device) (p : Pound) (older : List Cmd) (i : Nat) : List Cmd → List (Nat × Cmd)
  | [] => []
  | c :: t =>
    let rest := d.selectableFrom p (older ++ [c]) (i + 1) t
    if d.selectable p older c then (i, c) :: rest else rest

/-- The selectable commands of engine e's slice. -/
def Device.choices (d : Device) (e : Nat) : List (Nat × Cmd) := d.selectableFrom d.tow.pound [] 0 (d.engine e).slice

/-- The best of some commands: smallest T, then the one that entered first. -/
def bestOf : List (Nat × Cmd) → Option (Nat × Cmd)
  | [] => none
  | x :: t =>
    match bestOf t with
    | none => some x
    | some y => if y.2.t.toNat < x.2.t.toNat then some y else some x

/-- A list without its element at a position. -/
def dropAt {α : Type} (l : List α) (i : Nat) : List α := l.take i ++ l.drop (i + 1)

/-! ## Lease banks (R185, R197) -/

def Device.bankVoid (d : Device) (b : Nat) : Bool := bit (d.get F.ENG_LEASE_VOID_VOID) b

def Device.grant (d : Device) (bank cycle : Nat) : Device := { d with eng := { d.eng with grants := (bank, cycle) :: d.eng.grants } }

/-- An uncorrectable error in the lease table voids the bank and writes a record (R197). -/
def Device.voidBank (d : Device) (b : Nat) : Device :=
  ((d.putBit F.ENG_LEASE_VOID_VOID 0 b true).event F.ENG_EVT_LEASE_UNCORR).report 5 0 2 b

/-- An uncorrectable queue word: event and record, reporter the engine or 64 + source (R197, R346).
(DEDUCED: log entry 14; DESIGN CHOICE: log entry 72) -/
def Device.queueUncorr (d : Device) (reporter : Nat) : Device := (d.event F.ENG_EVT_SLICE_UNCORR).report 5 0 3 reporter

/-- A word that reads uncorrectable is dropped: discarded of its source, or of source 0 when that cannot be read (R197).
(DESIGN CHOICE: log entry 72) -/
def Device.dropWord (d : Device) (c : Cmd) (up : Upset) (reporter : Nat) : Device :=
  ((d.count (if up.noSource then 0 else c.src) (·.discard)).queueUncorr reporter).settleFences

/-- An uncorrectable credit counter of wharf h: a record is written, and what the counter holds is open until a wharf reset (R27).
(DESIGN CHOICE: log entry 131) -/
def Device.creditUncorr (d : Device) (h : Nat) : Device :=
  let (x, d) := d.draw 8
  (d.put F.WHF_CREDIT_HELD h (x % 65)).report 9 0 Config.creditUncorrCode.toNat h

/-! ## One cycle (R183, R185-R187, R198) -/

/-- The selectable commands of an engine; above the Weir they make it a candidate. -/
def Device.stealable (d : Device) (e : Nat) : Nat := (d.choices e).length

/-- A turn is taken back: its command stands in its owner's slice again as it stood before. -/
def Device.untake (d : Device) (x : Turn) : Device :=
  match x.took with
  | some c => d.onEngine (ownerOf (cmdBerth c.w1)) (fun y => { y with slice := reenter c (y.slice.filter (fun o => o.entry != c.entry)) })
  | none => d

/-- The engines as they stood at the start of cycle t of this pound, whatever rows of that cycle have come since: the commands that
turns of cycle t or later have taken are back in their slices with their leases free, and the engines with a turn in cycle t are free to
take it (R183, R186, R198). (DEDUCED: log entry 132) -/
def Device.atCycle (d : Device) (t : Nat) : Device :=
  let l := d.eng.turns.filter (fun x => decide (t ≤ x.cycle))
  let taken := fun (c : Cmd) => l.any (fun x => x.took.any (fun o => o.entry == c.entry))
  let d : Device := { d with eng := { d.eng with
    flights := d.eng.flights.filter (fun f => f.fill || !taken f.cmd),
    engine := d.eng.engine.map (fun x => (x.1, { x.2 with
      hand := if x.2.hand.any taken then none else x.2.hand,
      used := if l.any (fun y => y.eng == x.1 && y.cycle == t) then t else x.2.used })) } }
  forEach l (fun x d => d.untake x) d

/-- The best victim of a list of engines: most selectable commands above STEAL_WEIR, the first in the list on ties. -/
def Device.bestVictim (d : Device) : List Nat → Option Nat
  | [] => none
  | e :: t =>
    match d.bestVictim t with
    | none => if d.get F.ENG_CTRL_STEAL_WEIR < d.stealable e then some e else none
    | some y => if d.stealable y ≤ d.stealable e then some e else some y

/-- Victims in the thief's cluster, and on the ring in order of distance downstream. -/
def clusterPeers (e : Nat) : List Nat := (range (e / 8 * 8) (e / 8 * 8 + 8)).filter (· != e)
def ringEngines (e : Nat) : List Nat :=
  (range 1 8).flatMap (fun k => range ((e / 8 + k) % 8 * 8) ((e / 8 + k) % 8 * 8 + 8))

/-- Some slice is long enough to make a candidate. -/
def Device.anyCandidate (d : Device) : Bool := d.eng.engine.any (fun x => decide (d.get F.ENG_CTRL_STEAL_WEIR < x.2.slice.length))

/-- The steal that engine e requests at its next cycle, on the ring or within the cluster, with its victim, the engines standing as at the
start of that cycle (R186). (DEDUCED: log entry 132) -/
def Device.wishAt (d : Device) (e : Nat) : Option (Bool × Nat) :=
  let used := (d.engine e).used
  if d.resetBusy || !d.is F.ENG_CTRL_STEAL_EN || !d.anyCandidate || !(d.choices e).isEmpty || (d.engine e).hand.isSome then none
  else
    match d.bestVictim (clusterPeers e) with
    | some v => if used + 4 ≤ d.cycles then some (false, v) else none
    | none =>
      if d.is F.ENG_CTRL_RING_EN && decide (used + 8 ≤ d.cycles) then (d.bestVictim (ringEngines e)).map (fun v => (true, v)) else none

/-- The steal that engine e requests at its next cycle (R186). -/
def Device.stealWish (d : Device) (e : Nat) : Option (Bool × Nat) := (d.atCycle (d.engine e).used).wishAt e

/-- Engine e can start a command or a steal at cycle t: it is free from t on, and two cycles of the pound remain. -/
def Device.startsAt (d : Device) (e t : Nat) : Bool :=
  (d.engine e).used == t && decide (t + 2 ≤ d.cycles) && (d.engine e).hand.isNone && !d.resetBusy

/-- What the requests of one cycle have been granted so far: the banks that have granted a take, the commands taken by thieves, and
the steals by kind and victim. -/
structure Cycle where
  banks : List Nat := []
  taken : List Nat := []
  steals : List (Bool × Nat) := []

/-- The bank has granted a take at cycle t of this pound. -/
def Device.bankGave (d : Device) (b t : Nat) : Bool := d.eng.grants.any (fun g => g.1 == b && g.2 == t)

/-- The best command that a thief at cycle t can take from victim v: selectable, not the one its owner starts in that cycle, its lease
free to take in its bank (R186, R198). -/
def Device.loot (d : Device) (t v : Nat) (cy : Cycle) : Option (Nat × Cmd) :=
  let own := if d.startsAt v t then (bestOf (d.choices v)).map (fun x => x.2.entry) else none
  bestOf ((d.choices v).filter (fun x =>
    cmdOp x.2.w1 != 0 && own != some x.2.entry && !cy.taken.contains x.2.entry && !d.bankVoid (bankOf (cmdBerth x.2.w1))
      && !cy.banks.contains (bankOf (cmdBerth x.2.w1))))

/-- The take that engine e makes at its cycle after the engines before it: the slice and the position of the command, and what stands
granted after it (R185-R187). -/
def Device.requestAt (d : Device) (e : Nat) (cy : Cycle) : Option (Nat × Nat × Cmd) × Cycle :=
  match bestOf (d.choices e) with
  | some (i, c) =>
    let b := bankOf (cmdBerth c.w1)
    if cmdOp c.w1 == 0 || d.bankVoid b || cy.banks.contains b then (none, cy)
    else (some (e, i, c), { cy with banks := b :: cy.banks })
  | none =>
    match d.wishAt e with
    | none => (none, cy)
    | some k =>
      if 2 ≤ (cy.steals.filter (· == k)).length then (none, cy)
      else match d.loot (d.engine e).used k.2 cy with
        | none => (none, cy)
        | some (i, c) =>
          (some (k.2, i, c),
            { banks := bankOf (cmdBerth c.w1) :: cy.banks, taken := c.entry :: cy.taken, steals := k :: cy.steals })

/-- The grants of cycle t once the engines of a list that can start then have made their requests, in the order of the list, the engines
standing as at the start of that cycle. -/
def Device.cycleAfter (d : Device) (t : Nat) (l : List Nat) : Cycle :=
  l.foldl (fun cy x => if d.startsAt x t then (d.requestAt x cy).2 else cy) {}

/-- The take granted to engine e at its next cycle, with the slice and the command's position in it: takes for commands, a steal's among
them, go to the lowest-numbered engine, whatever row comes first (R185, R187). (DESIGN CHOICE: log entry 6; DEDUCED: log entry 132) -/
def Device.granted (d : Device) (e : Nat) : Option (Nat × Nat × Cmd) :=
  let t := (d.engine e).used
  let b := d.atCycle t
  match (b.requestAt e (b.cycleAfter t (List.range e))).1 with
  | none => none
  | some (v, _, c) =>
    if d.bankGave (bankOf (cmdBerth c.w1)) t then none
    else ((d.choices v).find? (fun x => x.2.entry == c.entry)).map (fun x => (v, x.1, x.2))

/-- Engine e has made its selection of its next cycle: what it took, if anything, is kept for the requests of the others. -/
def Device.turn (d : Device) (e : Nat) (took : Option Cmd) : Device :=
  { d with eng := { d.eng with turns := { cycle := (d.engine e).used, eng := e, took } :: d.eng.turns } }

/-! ## Judging a command at execution (R125, R155, R156, R158) -/

/-- What execution makes of a command: a rejection with its code; another try in the next pound for want of a slot or credit at a
wharf; or an effect: the entry to write, the Barge's plan (flags FIRST, EMIT, REFRESH and the wharf), and the act on cores. -/
inductive Verdict where
  | reject (code : Code)
  | retry (wharf : Nat)
  | apply (entry? : Option Entry) (barge? : Option (Nat × Bool × Bool × Bool)) (act : Act)
  deriving DecidableEq, Repr

/-- Rows 7 to 9 of R155 for a channel-bound effect that sends a Barge; `act` is what a hop prepared by the Berth has of it (R125). -/
def Device.sendVerdict (d : Device) (id : Nat) (entry? : Option Entry) (first emit refresh : Bool) (act : Act := .none) : Verdict :=
  match d.servingWharf id with
  | none => .reject 0x0E
  | some h =>
    if d.wharfTrained h then
      match d.slotFor h with
      | some _ => .apply entry? (some (h, first, emit, refresh)) act
      | none => .retry h
    else .reject 0x02

/-- The post-command trajectory of a frequency change at T (R156): continuous, or with an absolute phase. -/
def Entry.refreq (e : Entry) (t : Pound) (f : Freq) (phase? : Option Phase) : Entry :=
  { e with a := t, phi := phase?.getD (e.phaseAt t), f }

/-- A frequency load of core c outside R83 (row 6 of R155). -/
def Device.outOfRange (d : Device) (c : Nat) (f : Freq) : Bool := (d.derived c f).refusal.isSome

/-- The core a core-bound entry acts on: the active core of its twin, or its core (R115). -/
def Device.actingCore (d : Device) (e : Entry) : Nat := if e.twinBit then d.activeCore (e.core / 2) else e.core

/-- Row 4 (b) and (c) of R155 for a core-bound entry: the cores record the Berth id (not asked of RELEASE), the core is open. -/
def Device.coreRefusal (d : Device) (id : Nat) (e : Entry) (release : Bool) : Option Code :=
  let unbound := if e.twinBit then (d.core e.core).berth != some id || (d.core (e.core + 1)).berth != some id
    else (d.core e.core).berth != some id
  if unbound && !release then some 0x13
  else if d.coreClosed (d.actingCore e) then some 0x0C
  else none

/-- The hop prepared by a Berth: its twin and its pound. -/
def Device.hopOf (d : Device) (id : Nat) : Option (Nat × Pound) :=
  ((List.range 8).find? (fun k => (d.twin k).hop.any (fun h => h.2.2 == id))).bind (fun k => (d.twin k).hop.map (fun h => (k, h.1)))

/-- The pound of the hop prepared by a Berth. -/
def Device.preparedFor (d : Device) (id : Nat) : Option Pound := (d.hopOf id).map (·.2)

/-- The table of R125 has a row for target pound t on the Berth of a hop prepared for th, other than 'as usual'. (DEDUCED: log entry 61) -/
def hopDecides (t th : Pound) : Bool := decide (t.toNat ≤ th.toNat)

/-- R125 permits the command on the Berth of a hop prepared for th, with its target pound at or before th: ADD_PHASE, BIND, RELEASE, and
EMIT before th. Row 3 of R155 exempts these. (DEDUCED: log entry 61) -/
def hopPermits (c : Cmd) (th : Pound) : Bool :=
  hopDecides c.t th && (cmdOp c.w1 == 3 || cmdOp c.w1 == 4 || cmdOp c.w1 == 5 || (cmdOp c.w1 == 6 && c.t != th))

/-- R125 rejects the command on the Berth of a hop prepared for th with HOP_BUSY. (DEDUCED: log entry 61) -/
def hopRefuses (c : Cmd) (th : Pound) : Bool := hopDecides c.t th && !hopPermits c th

/-- The loads of a command due at its T on a core. -/
def Load.of (c : Cmd) (core : Nat) (kind : LoadKind) (e : Entry) : Load :=
  { core, kind, berth := cmdBerth c.w1, t := c.t, a := e.a, phi := e.phi, f := e.f }

/-- The load of a command due at its T on what a core-bound entry acts on: its core, or the core of its twin that is active at T
(R115, R125). -/
def Load.acting (c : Cmd) (core : Nat) (kind : LoadKind) (e : Entry) : Load := { Load.of c core kind e with twin := e.twinBit }

/-- The release of a core-bound entry's core, or of both cores of its twin, at the command's T (R159). -/
def releaseLoads (c : Cmd) (e : Entry) : List Load :=
  if e.twinBit then [Load.of c e.core .release e, Load.of c (e.core + 1) .release e] else [Load.of c e.core .release e]

/-- Core c is bound to a Berth other than id. (DEDUCED: log entry 68) -/
def Device.boundElsewhere (d : Device) (id c : Nat) : Bool := (d.core c).berth.any (fun b => decide (b ≠ id))

/-- The checks of R158 for a BIND of Berth id to a core, in their order. (DEDUCED: log entry 68) -/
def Device.bindRefusal (d : Device) (id core : Nat) (e : Entry) : Option Code :=
  let k := core / 2
  if d.coreClosed core then some 0x0C
  else if d.boundElsewhere id core ∨ (d.twinEnabled k ∧ (d.boundElsewhere id (2 * k) ∨ d.boundElsewhere id (2 * k + 1))) then some 0x0B
  else if d.outOfRange core e.f then some 0x0D
  else none

/-- BIND (R156, R158); one with a target pound at or before the pound of a hop that its Berth has prepared cancels the hop (R127). -/
def Device.judgeBind (d : Device) (c : Cmd) (id : Nat) (e : Entry) : Verdict :=
  let act := fun l => match d.hopOf id with
    | some (k, th) => if hopDecides c.t th then Act.cancelThen k l else .loads l
    | none => .loads l
  if e.bound then .reject 0x09
  else
    let b := cmdBinding c.w1
    if b / 64 = 1 then
      d.sendVerdict id (some { e with state := 1, binding := 0x40, flags := cmdFlags c.w1 }.next) true false false
        (if (d.preparedFor id).any (hopDecides c.t) then act [] else .none)
    else
      let core := b % 16
      match d.bindRefusal id core e with
      | some r => .reject r
      | none =>
        let k := core / 2
        if d.twinEnabled k then
          let e' := { e with state := 1, binding := BitVec.ofNat 8 (0x80 + 0x20 + 2 * k), flags := cmdFlags c.w1 }.next
          .apply (some e') none (act [Load.acting c (d.standbyCore k) .record e', Load.acting c (d.activeCore k) .bind e'])
        else
          let e' := { e with state := 1, binding := BitVec.ofNat 8 (0x80 + core), flags := cmdFlags c.w1 }.next
          .apply (some e') none (act [Load.of c core .bind e'])

/-- The checks of R120 for a TWIN hop or a PARK, in their order. (DEDUCED: log entry 61) -/
def Device.twinHopRefusal (d : Device) (e : Entry) (f : Freq) : Option Code :=
  let k := e.core / 2
  let s := d.standbyCore k
  if !e.twinBit || !d.twinEnabled k then some 0x0F
  else if d.coreClosed s || !(d.coreState s == 4 || d.coreState s == 5) then some 0x10
  else if d.outOfRange s f then some 0x0D
  else if (d.bandLookup s (d.derived s f)).isNone then some 0x11
  else if (d.twin k).hop.isSome then some 0x12
  else none

/-- PREP_HOP on a core-bound entry (R120, R121, R124, R128). (DEDUCED: log entry 61) -/
def Device.judgeHop (d : Device) (c : Cmd) (e : Entry) : Verdict :=
  let f := cmdFreq c.w1
  let e' := (e.refreq c.t f (if cmdPhaseAbs c.w1 then some c.w2 else none)).next
  let k := e.core / 2
  if cmdHopKind c.w1 = 1 then
    let core := d.actingCore e
    if d.outOfRange core f then .reject 0x0D
    else if (d.bandLookup core (d.derived core f)).isNone then .reject 0x11
    else .apply (some e') none (.loads [Load.acting c core .retune e'])
  else
    match d.twinHopRefusal e f with
    | some r => .reject r
    | none =>
      if cmdHopKind c.w1 = 0 then .apply (some e') none (.hop k c.t (Load.of c (d.standbyCore k) .hop e'))
      else .apply none none (.loads [{ Load.of c (d.standbyCore k) .park e' with a := c.t, f }])

/-- The loads of an ADD_PHASE whose target pound lies at or before the pound of a hop of twin k: the amount is added to the standby at the
commit and, before the hop's pound, to the active core at T (R125). -/
def Device.hopPhaseLoads (d : Device) (c : Cmd) (k : Nat) (th : Pound) (e' : Entry) : List Load :=
  let stand : Load := { Load.of c (d.standbyCore k) .addPhase e' with t := d.tow.pound + 1, phi := cmdDelta c.w1 }
  if c.t.toNat < th.toNat then [stand, { Load.of c (d.activeCore k) .addPhase e' with phi := cmdDelta c.w1, twin := true }] else [stand]

/-- The loads of an ADD_PHASE on a core-bound entry: the target is reloaded at T, unless a hop prepared by the Berth takes it (R125). -/
def Device.addPhaseLoads (d : Device) (c : Cmd) (id : Nat) (e e' : Entry) : List Load :=
  match d.hopOf id with
  | some (k, th) => if hopDecides c.t th then d.hopPhaseLoads c k th e' else [Load.acting c (d.actingCore e) .phase e']
  | none => [Load.acting c (d.actingCore e) .phase e']

/-- What a hop prepared by a Berth that no longer names its twin has of a command at or before its pound (R125, R127): ADD_PHASE reaches the
cores of the twin, RELEASE cancels the hop. (DEDUCED: log entry 61) -/
def Device.hopAct (d : Device) (c : Cmd) (id : Nat) (e' : Entry) : Act :=
  match d.hopOf id with
  | some (k, th) =>
    if hopDecides c.t th then
      if cmdOp c.w1 = 3 then .loads (d.hopPhaseLoads c k th e') else if cmdOp c.w1 = 5 then .cancelThen k [] else .none
    else .none
  | none => .none

/-- A command other than BIND and PREP_HOP on a core-bound entry, after row 4. -/
def Device.judgeCore (d : Device) (c : Cmd) (id : Nat) (e : Entry) : Verdict :=
  let op := cmdOp c.w1
  let act := d.actingCore e
  let early := (d.preparedFor id).any (hopDecides c.t)
  if op = 1 ∨ op = 2 then
    if d.outOfRange act (cmdFreq c.w1) then .reject 0x0D
    else
      let e' := (e.refreq c.t (cmdFreq c.w1) (if op = 2 then some c.w2 else none)).next
      .apply (some e') none (.loads [Load.acting c act .freq e'])
  else if op = 3 then
    let e' := { e with phi := e.phi + cmdDelta c.w1 }.next
    .apply (some e') none (.loads (d.addPhaseLoads c id e e'))
  else if op = 5 then
    let e' := { e with state := 2, binding := 0 }.next
    .apply (some e') none (if early then .cancelThen (e.core / 2) (releaseLoads c e) else .loads (releaseLoads c e))
  else
    if early then .apply none none .none
    else .apply none none (.loads [Load.acting c act .emit e])

/-- The checks of R155 from row 3 on, and the effect of R156, for a valid entry. -/
def Device.judgeEntry (d : Device) (c : Cmd) (id : Nat) (e : Entry) : Verdict :=
  let op := cmdOp c.w1
  let exempt := (d.preparedFor id).any (hopPermits c)
  let busy := (d.preparedFor id).any (hopRefuses c)
  if c.refresh then
    if e.kind == 1 && !e.noRefresh && decide (e.a.toNat ≤ c.t.toNat) then d.sendVerdict id none false true true
    else .apply none none .none
  else if decide (c.t.toNat < e.a.toNat) && !exempt then .reject 0x07
  else if op = 4 then d.judgeBind c id e
  else if (op = 5 ∨ op = 6) ∧ e.bound = false then .reject 0x08
  else if op = 7 ∧ e.kind ≠ 2 then .reject 0x0A
  else if e.kind = 2 then
    match d.coreRefusal id e (op == 5) with
    | some r => .reject r
    | none =>
      if busy then .reject 0x12
      else if op = 7 then d.judgeHop c e
      else d.judgeCore c id e
  else if busy then .reject 0x12
  else
    let e' := if op = 1 then e.refreq c.t (cmdFreq c.w1) none
      else if op = 2 then e.refreq c.t (cmdFreq c.w1) (some c.w2)
      else if op = 3 then { e with phi := e.phi + cmdDelta c.w1 }
      else { e with state := 2, binding := 0 }
    let act := d.hopAct c id e'.next
    if op = 5 then .apply (some e'.next) none act
    else if e.kind = 1 then
      if op = 6 then d.sendVerdict id none false true false else d.sendVerdict id (some e'.next) false false false act
    else .apply (some e'.next) none act

/-- The verdict on a command from its cell as read: rows 1 and 2 of R155, then the rest. -/
def Device.judge (d : Device) (c : Cmd) (id : Nat) (x : Cell) : Verdict :=
  if x.uncorr != 0 then .reject 0x05
  else if !x.entry.valid id then .reject 0x06
  else d.judgeEntry c id x.entry

/-- An EMIT of a corrected entry writes it back, GEN unchanged, with ECC_WB set (R170). -/
def Device.writeBack (d : Device) (c : Cmd) (x : Cell) (entry? : Option Entry) : Option Entry :=
  match entry? with
  | some e => some e
  | none => if cmdOp c.w1 == 6 && x.corr != 0 && d.is F.LDG_CTRL_ECC_WB then some x.entry else none

/-- GEN as a record shows it after a read: zero when codeword 0 is uncorrectable (R167). -/
def Cell.genRead (x : Cell) : BitVec 16 := if x.uncorr.getLsbD 0 then 0 else x.entry.gen

/-- The Barge of an effect: the frame state at T after it (R162). -/
def Device.packBarge (d : Device) (c : Cmd) (id : Nat) (e : Entry) (h : Nat) (first emit refresh : Bool) (lane slot : Nat) : Barge :=
  { wharf := h, lane, slot,
    bits := bargeBits first emit refresh (BitVec.ofNat 12 (bits (d.mapEntry (id / 32)) 19 8)) (BitVec.ofNat 5 (id % 32))
      (c.t - d.tow.pound - 1).toNat e.f (e.phaseAt c.t) }

/-- Engine e executes a command whose lease it holds (R155, R184): a rejection returns the lease at once, an attempt without slot
leaves the command in its slice, an effect waits for the commit boundary. -/
def Device.executeCmd (d : Device) (e : Nat) (c : Cmd) (up : Upset) : Device :=
  let id := cmdBerth c.w1
  let d := match d.servingWharf id with
    | some h => d.when (up.credit && !(d.wharfLanes h).isEmpty) (fun d => d.creditUncorr h)
    | none => d
  let (x, d) := d.readBerth id up
  let c := { c with genSeen := x.genRead }
  match d.judge c id x with
  | .reject code =>
    let d := match d.servingWharf id with
      | some h => d.when (code == 2) (fun d => d.countUndeliverable h)
      | none => d
    ((d.spend e 1).bump F.ENG_CL_EXEC_CNT_EXECUTED e).rejectCmd c code x.genRead
  | .retry h => ((d.spend e 1).slotFailed h).backToSlice { c with failed := true }
  | .apply entry? plan? act =>
    let write? := d.writeBack c x entry?
    let now := entry?.getD x.entry
    let d := (d.spend e 2).bump F.ENG_CL_EXEC_CNT_EXECUTED e
    match plan? with
    | none => { d with eng := { d.eng with flights := d.eng.flights ++ [{ eng := e, cmd := c, berth := id, entry? := write?, act }] } }
    | some (h, first, emit, refresh) =>
      match d.slotFor h with
      | none => d
      | some (lane, slot) =>
        let b := d.packBarge c id now h first emit refresh lane slot
        let d := d.takeCredit h
        { d with eng := { d.eng with
            flights := d.eng.flights ++ [{ eng := e, cmd := c, berth := id, entry? := write?, barge? := some b, act }] } }

/-- Engine e starts its command at position i of the slice: the command of a voided bank is rejected with LEASE_VOID and takes no
lease; a take that its bank does not grant costs a cycle (R184, R185, R197). -/
def Device.startCmd (d : Device) (e i : Nat) (c : Cmd) (up : Upset) : Device :=
  let b := bankOf (cmdBerth c.w1)
  let used := (d.engine e).used
  let d := d.when up.lease (fun d => d.voidBank b)
  let drop := fun (d : Device) => (d.turn e (some c)).onEngine e (fun x => { x with slice := dropAt x.slice i })
  if d.bankVoid b then
    if used + 1 ≤ d.cycles then
      (((drop d).spend e 1).bump F.ENG_CL_EXEC_CNT_EXECUTED e).rejectCmd c 0x22 0
    else d
  else if used + 2 ≤ d.cycles then
    if (d.granted e).isSome then ((drop d).grant b used).executeCmd e c up else (d.turn e none).spend e 1
  else d

/-- A NOP executes in one cycle, reading no Berth and taking no lease (R156). -/
def Device.runNop (d : Device) (e i : Nat) (c : Cmd) : Device :=
  if (d.engine e).used + 1 ≤ d.cycles then
    ((((d.turn e (some c)).onEngine e (fun x => { x with slice := dropAt x.slice i })).spend e 1).bump F.ENG_CL_EXEC_CNT_EXECUTED e).applyCmd c 0
  else d

/-- Engine e's selection of its next cycle finds its best command gone: another engine has taken a lease of the same Berth in that cycle, so
the request was not granted and costs the cycle (R185). (DEDUCED: log entry 132) -/
def Device.missedTurn (d : Device) (e : Nat) (want : BitVec 128 → Bool) : Device :=
  let t := (d.engine e).used
  match bestOf ((d.atCycle t).choices e) with
  | some (_, c) => if want c.w1 && decide (t + 2 ≤ d.cycles) then (d.turn e none).spend e 1 else d
  | none => d

/-- Engine e starts work on the command it holds from a steal, else on its best selectable command, when that is of the kind `want`
names. A queue word that reads uncorrectable is dropped; an uncorrectable lease word voids its bank (R183, R186, R197). -/
def Device.engineStep (d : Device) (e : Nat) (want : BitVec 128 → Bool) (up : Upset) : Device :=
  if d.resetBusy then d
  else
    match (d.engine e).hand with
    | some c =>
      if want c.w1 && up.queue then (d.onEngine e (fun x => { x with hand := none })).dropWord c up e
      else if want c.w1 && decide ((d.engine e).used + 2 ≤ d.cycles) then
        let d := d.when up.lease (fun d => d.voidBank (bankOf (cmdBerth c.w1)))
        ((d.onEngine e (fun x => { x with hand := none })).executeCmd e c up).settleFences
      else d
    | none =>
      match bestOf (d.choices e) with
      | none => d.missedTurn e want
      | some (i, c) =>
        if !want c.w1 then d
        else if up.queue then
          (d.onEngine e (fun x => { x with slice := dropAt x.slice i })).dropWord c up e
        else if cmdOp c.w1 = 0 then (d.runNop e i c).settleFences
        else (d.startCmd e i c up).settleFences

/-! ## Stealing (R186, R187) -/

/-- STEAL: an engine with no selectable command takes a victim's best command with its lease, within its cluster (2 cycles) or on
the ring (6 cycles); a request that is not granted costs one cycle (R184, R186, R187). A slice word that reads uncorrectable is dropped, and
an uncorrectable lease word voids its bank: such a request takes no command (R197). (DESIGN CHOICE: log entry 72) -/
def Device.steal (d : Device) (e : Nat) (ring : Bool) (up : Upset) : Device :=
  let used := (d.engine e).used
  match d.stealWish e with
  | none => d
  | some k =>
    if k.1 != ring then d
    else match d.granted e with
      | none => (d.turn e none).spend e 1
      | some (v, i, c) =>
        if up.queue then
          (((d.turn e none).spend e 1).onEngine v (fun x => { x with slice := dropAt x.slice i })).dropWord c up v
        else if up.lease then ((d.turn e none).spend e 1).voidBank (bankOf (cmdBerth c.w1))
        else
        let d := { d with eng := { d.eng with steals := (k.1, k.2, used) :: d.eng.steals } }
        let d := (d.turn e (some c)).grant (bankOf (cmdBerth c.w1)) used
        let d := d.onEngine v (fun x => { x with slice := dropAt x.slice i })
        let d := (d.onEngine e (fun x => { x with hand := some c })).spend e (if ring then 6 else 2)
        if ring then d.bump F.ENG_STEAL_CNT_RING e else d.bump F.ENG_STEAL_CNT_CLUSTER e

/-! ## FILL (R161) -/

/-- The first FILL of a slice with its position. -/
def fillOf (i : Nat) : List Cmd → Option (Nat × Cmd)
  | [] => none
  | c :: t => if cmdOp c.w1 = 9 then some (i, c) else fillOf (i + 1) t

/-- A FILL of engine e has ended: its record, FILL_DONE, one command more that the engine executed (R161, R366). -/
def Device.endFill (d : Device) (e : Nat) (c : Cmd) : Device :=
  let d := (d.event F.LDG_EVT_FILL_DONE).bump F.ENG_CL_EXEC_CNT_EXECUTED e
  if c.fillVoid then d.rejectCmd c 0x22 0 else d.applyCmd c 0

/-- The FILL that engine e goes on with at its next cycle, with its position: it has a Berth left to pass, no older command of its
source for that Berth waits in the slice (R16), and the engine has no selectable command, requests no steal and holds none
(R161, R186), the engines standing as at the start of that cycle. (DEDUCED: log entry 132) -/
def Device.fillReady (d : Device) (e : Nat) : Option (Nat × Cmd) :=
  let x := d.engine e
  let b := d.atCycle x.used
  if d.resetBusy || !(b.choices e).isEmpty || x.hand.isSome || (b.wishAt e).isSome || !decide (x.used + 1 ≤ d.cycles) then none
  else match fillOf 0 x.slice with
    | none => none
    | some (i, c) =>
      let id := cmdBerth c.w1 + c.filled
      if decide (c.filled < cmdCount c.w1) && !(x.slice.take i).any (fun o => o.src == c.src && o.namesBerth id) then some (i, c)
      else none

/-- The bank in which engine e requests a take for its FILL at cycle t. -/
def Device.fillBank (d : Device) (e t : Nat) : Option Nat :=
  match d.fillReady e with
  | none => none
  | some (_, c) =>
    let id := cmdBerth c.w1 + c.filled
    if (d.engine e).used == t && !d.bankVoid (bankOf id) && (d.eng.leaseHolder id).isNone then some (bankOf id) else none

/-- The place of engine e in the rotation of a bank, which begins after the engine it last granted for a FILL (R185). -/
def Device.rotation (d : Device) (b e : Nat) : Nat := (e + 127 - Store.getD d.eng.fillLast b 63) % 64

/-- The bank grants engine e a take for its FILL: takes for commands come first, then the rotation (R185). (DEDUCED: log entry 132) -/
def Device.fillGranted (d : Device) (e b : Nat) : Bool :=
  let t := (d.engine e).used
  !((d.atCycle t).cycleAfter t (List.range 64)).banks.contains b && !d.bankGave b t
    && (List.range 64).all (fun x => x == e || d.fillBank x t != some b || decide (d.rotation b e < d.rotation b x))

/-- A FILL passes its next Berth: written (a flight) or passed over; when it has no more to write and none pending it ends. -/
def Device.fillOne (d : Device) (e i : Nat) (c : Cmd) : Device :=
  let id := cmdBerth c.w1 + c.filled
  let b := bankOf id
  let cycle := (d.engine e).used
  let go := fun (d : Device) (c' : Cmd) => d.onEngine e (fun x => { x with slice := listSet x.slice i c' })
  if d.bankVoid b then
    let c' := { c with filled := c.filled + 1, fillVoid := true }
    let d := d.spend e 1
    if c'.filled = cmdCount c.w1 ∧ (d.eng.flights.any (fun f => f.fill && f.eng == e)) = false then
      (d.onEngine e (fun x => { x with slice := dropAt x.slice i })).endFill e c'
    else go d c'
  else if (d.eng.leaseHolder id).isSome || !d.fillGranted e b then d.spend e 1
  else
    let d := go ((d.grant b cycle).spend e 1) { c with filled := c.filled + 1 }
    { d with eng := { d.eng with
        fillLast := Store.set d.eng.fillLast b e,
        flights := d.eng.flights ++ [{ eng := e, cmd := c, berth := id, fill := true,
                                       entry? := some (Entry.fresh id (d.tow.pound + 1)) }] } }

/-- FILL: the owning engine writes the next Berth of its FILL in a cycle in which it has no selectable command and requests no steal
(R161). -/
def Device.fillStep (d : Device) (e : Nat) (up : Upset) : Device :=
  match d.fillReady e with
  | none => d
  | some (i, c) =>
    if up.queue then (d.onEngine e (fun x => { x with slice := dropAt x.slice i })).dropWord c up e
    else ((d.when up.lease (fun d => d.voidBank (bankOf (cmdBerth c.w1 + c.filled)))).fillOne e i c).settleFences

/-! ## Commit (R13, R121, R145) -/

/-- A load gets the band-map entry found at the commit, for the preset loads of a PREP_HOP (R118). -/
def Device.withPreset (d : Device) (l : Load) : Load :=
  match l.kind with
  | .retune | .park | .hop => { l with preset? := d.bandLookup l.core (d.derived l.core l.f) }
  | _ => l

def Device.addLoads (d : Device) (l : List Load) : Device := { d with loads := d.loads ++ l.map d.withPreset }

/-- The act of a commit. A TWIN hop is prepared: PREPARED and the hop pound, and the standby's preset load at this boundary (R121). -/
def Device.doAct (d : Device) (berth : Nat) (a : Act) : Device :=
  match a with
  | .none => d
  | .loads l => d.addLoads l
  | .cancelThen k l => (d.cancelHop k).addLoads l
  | .hop k t l =>
    let d := d.setTwin k { d.twin k with hop := some (t, d.tow.pound, berth), deferred := 0 }
    let d := (d.putBit F.COUT_TWIN_STAT_PREPARED 0 k true).put F.COUT_HOP_POUND_T_LO k (bits t.toNat 31 0)
    d.addLoads [{ l with t := d.tow.pound }]

/-- One executed command commits at the boundary that opened the present pound: its Berth write takes force with fresh check bits, its
act is done, its effect is counted and recorded; a Berth of a FILL also releases a core and a hop (R13, R161). -/
def Device.commit (d : Device) (f : Flight) : Device :=
  let d := match f.entry? with
    | some x => d.setCell f.berth { entry := x }
    | none => d
  if f.fill then
    let d := (d.cancelBerthHop f.berth).releaseBerth f.berth
    match fillOf 0 (d.engine f.eng).slice with
    | some (i, c) =>
      if c.filled = cmdCount c.w1 ∧ f.berth + 1 = cmdBerth c.w1 + cmdCount c.w1 then
        (d.onEngine f.eng (fun x => { x with slice := dropAt x.slice i })).endFill f.eng c
      else if c.filled = cmdCount c.w1 ∧ c.fillVoid ∧ (d.eng.flights.any (fun g => g.fill && g.eng == f.eng && decide (f.berth < g.berth))) = false then
        (d.onEngine f.eng (fun x => { x with slice := dropAt x.slice i })).endFill f.eng c
      else d
    | none => d
  else
    let gen := match f.entry? with
      | some x => x.gen
      | none => f.cmd.genSeen
    (d.doAct f.berth f.act).applyCmd f.cmd gen

/-- Every executed command commits, in the order of execution; the leases return (R13, R185). -/
def Device.commitAll (d : Device) : Device :=
  let fl := d.eng.flights
  let d := forEach fl (fun f d => d.commit f) d
  { d with eng := { d.eng with flights := [] } }

/-- A new pound for the engines: cycles, grants and slot failures start anew. -/
def Engines.newPound (e : Engines) : Engines :=
  { e with grants := [], steals := [], turns := [], stalledThisPound := false,
           engine := e.engine.map (fun x => (x.1, { x.2 with used := 0, slice := x.2.slice.map (fun c => { c with failed := false }) })),
           holds := e.holds.map (fun h => (h.1, { h.2 with ticks := h.2.ticks + 1 })),
           snapDue := e.snapAsked }

/-! ## Meanings: the commands an engine executes -/

def execNop (e : Fin 64) (up : Upset) (s : State) : Host.Outcome State Fault Refusal :=
  .next (s.on (·.engineStep e (fun w => cmdOp w == 0) up))
def execSetFreq (e : Fin 64) (up : Upset) (s : State) : Host.Outcome State Fault Refusal :=
  .next (s.on (·.engineStep e (fun w => cmdOp w == 1) up))
def execSetFreqPhase (e : Fin 64) (up : Upset) (s : State) : Host.Outcome State Fault Refusal :=
  .next (s.on (·.engineStep e (fun w => cmdOp w == 2) up))
def execAddPhase (e : Fin 64) (up : Upset) (s : State) : Host.Outcome State Fault Refusal :=
  .next (s.on (·.engineStep e (fun w => cmdOp w == 3) up))
def execBind (e : Fin 64) (up : Upset) (s : State) : Host.Outcome State Fault Refusal :=
  .next (s.on (·.engineStep e (fun w => cmdOp w == 4) up))
def execRelease (e : Fin 64) (up : Upset) (s : State) : Host.Outcome State Fault Refusal :=
  .next (s.on (·.engineStep e (fun w => cmdOp w == 5) up))
def execEmit (e : Fin 64) (up : Upset) (s : State) : Host.Outcome State Fault Refusal :=
  .next (s.on (·.engineStep e (fun w => cmdOp w == 6) up))
def execPrepHopTwin (e : Fin 64) (up : Upset) (s : State) : Host.Outcome State Fault Refusal :=
  .next (s.on (·.engineStep e (fun w => cmdOp w == 7 && cmdHopKind w == 0) up))
def execPrepHopRetune (e : Fin 64) (up : Upset) (s : State) : Host.Outcome State Fault Refusal :=
  .next (s.on (·.engineStep e (fun w => cmdOp w == 7 && cmdHopKind w == 1) up))
def execPrepHopPark (e : Fin 64) (up : Upset) (s : State) : Host.Outcome State Fault Refusal :=
  .next (s.on (·.engineStep e (fun w => cmdOp w == 7 && cmdHopKind w == 2) up))
def execFill (e : Fin 64) (up : Upset) (s : State) : Host.Outcome State Fault Refusal := .next (s.on (·.fillStep e up))
def execSteal (e : Fin 64) (ring : Bool) (s : State) (up : Upset := {}) : Host.Outcome State Fault Refusal :=
  .next (s.on (·.steal e ring up))
def execBerthIndWriteCommit (s : State) : Host.Outcome State Fault Refusal := .next (s.on (·.berthWriteCommit))

end Sys2Proof.Machine
end

