-- ==== Sys2Proof/Machine/Sources.lean ====
section
/-! DEFINITION. The command sources: host command queue, timetable, Keeper command port, refresh walker; fences; the late rule; the
counters' snapshot; the resets of the engines and of the queues (R166, R175-R182, R188-R196). -/

namespace Sys2Proof.Machine

/-- Words, that is queue entries, of a list of commands (R176). -/
def wordsOf (q : List Cmd) : Nat := q.foldl (fun n c => n + c.words) 0

/-! ## Fences (R189-R192) -/

/-- Source s takes the FENCE c and holds; one of the timetable stands at the present entry. (DEDUCED: log entry 71) -/
def Device.holdAt (d : Device) (s : Nat) (c : Cmd) : Device :=
  let h : FenceHold := { cmd := c, number := cmdNumber c.w1, mask := cmdMask c.w1, entry := d.get F.TT_HEAD_HEAD }
  (({ d with eng := { d.eng with holds := Store.set d.eng.holds s h } } : Device).put F.ENG_FENCE_STAT_WAIT_NUM s
    h.number.toNat).settleFences

/-- Every source the fence selects, its own among them, has passed it. -/
def Device.fenceMet (d : Device) (s : Nat) (h : FenceHold) : Bool :=
  (List.range 4).all (fun x => !(x == s || h.mask.getLsbD x) || d.hasPassed x h.number.toNat)

/-- Source s holds at no fence; what WAIT_NUM shows while it holds at none is open. (DESIGN CHOICE: log entry 133) -/
def Device.endHold (d : Device) (s : Nat) : Device :=
  let (x, d) := d.draw 9
  ({ d with eng := { d.eng with holds := Store.erase d.eng.holds s } } : Device).put F.ENG_FENCE_STAT_WAIT_NUM s x

/-- The queue changes; its Weirs trip on the level in words (R182). -/
def Device.setHcq (d : Device) (q : List Cmd) : Device :=
  let before := wordsOf d.eng.hcq
  let after := wordsOf q
  let d : Device := { d with eng := { d.eng with hcq := q } }
  let d := d.when (decide (before < d.get F.ENG_HCQ_CTRL_HIGH) && decide (d.get F.ENG_HCQ_CTRL_HIGH ≤ after)) (fun d =>
    ({ d with eng := { d.eng with hcqHighTripped := true } } : Device).event F.ENG_EVT_HCQ_HIGH)
  d.when (d.eng.hcqHighTripped && decide (after < before) && decide (after ≤ d.get F.ENG_HCQ_CTRL_LOW)) (fun d =>
    ({ d with eng := { d.eng with hcqHighTripped := false } } : Device).event F.ENG_EVT_HCQ_LOW)

/-- Unreleased entries: (TT_END - TT_HEAD) mod 65,536. -/
def Device.ttLevel (d : Device) : Nat := (d.get F.TT_END_END + 65536 - d.get F.TT_HEAD_HEAD) % 65536

/-- The Weirs of the timetable after its level fell from `before`. -/
def Device.ttWeir (d : Device) (before : Nat) : Device :=
  let d := d.when (decide (d.get F.TT_CTRL_LOW < before) && decide (d.ttLevel ≤ d.get F.TT_CTRL_LOW)) (fun d => d.event F.TT_EVT_LOW)
  d.when (decide (0 < before) && decide (d.ttLevel = 0)) (fun d => d.event F.TT_EVT_EMPTY)

/-- The timetable goes past the entry at which its FENCE stood (R192). -/
def Device.ttPastFence (d : Device) (h : FenceHold) : Device :=
  if d.get F.TT_HEAD_HEAD = h.entry then
    ((d.put F.TT_HEAD_HEAD 0 (h.entry + 1)).bump F.TT_RELEASED_CNT_RELEASED).ttWeir d.ttLevel
  else d

/-- The source goes on with the command after its fence h. -/
def Device.unhold (d : Device) (s : Nat) (h : FenceHold) : Device :=
  let d := d.endHold s
  match s with
  | 0 => d.setHcq (d.eng.hcq.drop 1)
  | 1 => d.ttPastFence h
  | 2 => { d with dec := { d.dec with actq := d.dec.actq.drop 1 } }
  | _ => { d with eng := { d.eng with kpq := d.eng.kpq.drop 1 } }

/-- FENCE_RELEASE: released with APPLIED in the cycle in which every selected source has passed (R189). -/
def Device.fenceRelease (d : Device) (s : Nat) : Device :=
  let d := d.settleFences
  match d.hold s with
  | some h => if d.fenceMet s h then (d.unhold s h).applyCmd h.cmd 0 else d
  | none => d

/-- Boundaries after which a held fence times out; none while FENCE_TIMEOUT_LOG is zero (R191). -/
def Device.fenceLimit (d : Device) : Option Nat :=
  let l := d.get F.ENG_CTRL_FENCE_TIMEOUT_LOG
  if l = 0 then none else some (2 ^ max 8 l)

/-- FENCE_TIMEOUT: rejected with its code, event and record; it counts as passed. When its condition is met in the same cycle it is
released with APPLIED (R191, R198). -/
def Device.fenceTimeout (d : Device) (s : Nat) : Device :=
  let d := d.settleFences
  match d.hold s with
  | none => d
  | some h =>
    if d.fenceMet s h then (d.unhold s h).applyCmd h.cmd 0
    else if d.fenceLimit.any (fun n => decide (n ≤ h.ticks)) then
      ((((d.unhold s h).passFence s h.number.toNat).rejectCmd h.cmd 0x20 0).event F.ENG_EVT_FENCE_TIMEOUT).report 5 0 4 s
    else d

/-- A fence removed by a flush or a reset counts as passed (R177, R196). (DEDUCED: log entry 71) -/
def Device.dropHold (d : Device) (s : Nat) : Device :=
  match d.hold s with
  | some h => (d.endHold s).passFence s h.number.toNat
  | none => d

/-- The FENCEs of a list of removed commands of source s count as passed, held or not (R177, R191, R196). (DEDUCED: log entry 71) -/
def Device.passAll (d : Device) (s : Nat) (l : List Cmd) : Device :=
  forEach (l.filter (fun c => cmdOp c.w1 == 8)) (fun c d => d.passFence s (cmdNumber c.w1).toNat) d

/-! ## Host command queue (R176, R177, R182) -/

/-- A push finds no room: counted, nothing accepted; a held first word goes with it (R176). (DEDUCED: log entry 69) -/
def Device.refusePush (d : Device) : Device :=
  (({ d with eng := { d.eng with hcqHeld := none } } : Device).bump F.ENG_HCQ_REFUSED_CNT_REFUSED).event F.ENG_EVT_HCQ_REFUSED

/-- A word is pushed: held when LONG is set and none is held, else accepted alone or with the held word (R154, R176).
(DEDUCED: log entry 69) -/
def Device.pushHost (d : Device) (w : BitVec 128) : Device :=
  match d.eng.hcqHeld with
  | some first =>
    if 512 < wordsOf d.eng.hcq + 2 then d.refusePush
    else
      let d := { d with eng := { d.eng with hcqHeld := none } }
      match d.accept 0 first (some w) false with
      | (some c, d) => d.setHcq (d.eng.hcq ++ [c])
      | (none, d) => d
  | none =>
    if cmdLong w then { d with eng := { d.eng with hcqHeld := some w } }
    else if 512 < wordsOf d.eng.hcq + 1 then d.refusePush
    else
      match d.accept 0 w none false with
      | (some c, d) => d.setHcq (d.eng.hcq ++ [c])
      | (none, d) => d

/-- The word of push window group g. -/
def Device.windowGroup (d : Device) (g : Nat) : BitVec 128 :=
  let w := fun j => BitVec.ofNat 32 (d.get F.ENG_HCQ_WIN_WORD (4 * g + j))
  (w 3 ++ w 2 ++ w 1 ++ w 0 : BitVec 128)

/-- A write of word i of the host push window; word 3 of a group pushes it (R176). -/
def Device.wrHcqWin (d : Device) (i v : Nat) : Device :=
  let d := d.put F.ENG_HCQ_WIN_WORD i v
  if i % 4 = 3 then d.pushHost (d.windowGroup (i / 4)) else d

/-- Up to n commands move from the head of a queue into their slices; it stops at a FENCE, at a command that is not eligible, and at
a full slice (R177). The rest of the queue, whether a full slice stopped it, and the state. -/
def Device.releaseHead (p : Pound) : Nat → List Cmd → Device → List Cmd × Bool × Device
  | 0, q, d => (q, false, d)
  | _ + 1, [], d => ([], false, d)
  | n + 1, c :: t, d =>
    if cmdOp c.w1 = 8 || !c.eligible p || c.isLate p then (c :: t, false, d)
    else if d.sliceFull (ownerOf (cmdBerth c.w1)) then (c :: t, true, d)
    else Device.releaseHead p n t (d.enterSlice (ownerOf (cmdBerth c.w1)) c)

/-- The head of a queue of source s reads uncorrectable: dropped, counted, recorded (R197). -/
def Device.dropHead (d : Device) (s : Nat) (c : Cmd) (up : Upset) : Device := d.dropWord c up (64 + s)

/-- HCQ_RELEASE: one ENG cycle of the host command queue. -/
def Device.hcqRelease (d : Device) (up : Upset) : Device :=
  if d.resetBusy || (d.hold 0).isSome then d
  else
    match d.eng.hcq with
    | [] => d
    | c :: t =>
      if up.queue then (d.setHcq t).dropHead 0 c up
      else
        let (q, full, d) := Device.releaseHead d.tow.pound 8 (c :: t) d
        (d.setHcq q).when full (fun d => d.event F.ENG_EVT_SLICE_FULL)

/-- A held LONG first word as the command it is accepted as when FLUSH removes it (R176). -/
def Device.heldCmd (d : Device) (w : BitVec 128) : Cmd :=
  { w1 := w, src := 0, seq := ((d.eng.counts 0).accepted + 1).truncate 16, t := BitVec.ofInt 64 (resolveT 0 w d.tow.pound),
    acc := d.tow.pound }

/-- FLUSH rejects every queued host command and the held word with FLUSHED (R177). -/
def Device.flushHcq (d : Device) : Device :=
  let q := d.eng.hcq
  let d := ((d.dropHold 0).passAll 0 q).setHcq []
  let d := forEach q (fun c d => d.rejectCmd c 0x21 0) d
  match d.eng.hcqHeld with
  | some w =>
    let c := d.heldCmd w
    (({ d with eng := { d.eng with hcqHeld := none } } : Device).count 0 (·.acceptReject false)).effect c 0x21 0
  | none => d

/-- A write of ENG_HCQ_CTRL: the Weirs are kept, FLUSH flushes. -/
def Device.wrHcqCtrl (d : Device) (v : Nat) : Device :=
  let d := (d.put F.ENG_HCQ_CTRL_HIGH 0 (bits v 24 16)).put F.ENG_HCQ_CTRL_LOW 0 (bits v 8 0)
  if bit v 31 then d.flushHcq else d

/-! ## Timetable (R178-R180, R188) -/

/-- Entry e of the timetable memory. (DESIGN CHOICE: log entry 11) -/
def Device.ttWord (d : Device) (e : Nat) : BitVec 128 :=
  match Store.get? d.eng.tt (e % 65536) with
  | some w => w
  | none => BitVec.ofNat 128 (Config.arbitrary 11 d.eng.ttEpoch (e % 65536))

def Device.ttOpen (d : Device) : Bool := !d.blockClosed 115
/-- A write of TT_END makes the loaded entries live (R180). -/
def Device.wrTtEnd (d : Device) (v : Nat) : Device := (d.put F.TT_END_END 0 (bits v 15 0)).ttWeir d.ttLevel

/-- A write of TT_HEAD, accepted while RUN and RUNNING are clear (R180). -/
def Device.wrTtHead (d : Device) (v : Nat) : Device :=
  if d.is F.TT_CTRL_RUN then d else (d.put F.TT_HEAD_HEAD 0 (bits v 15 0)).ttWeir d.ttLevel

/-- What the timetable does with the entry at its head: release it, after the first pound of its issue window or not, stop, or stop at a
full slice (R179). -/
inductive TtVerdict where
  | stop
  | stall
  | go (late : Bool)
  deriving DecidableEq, Repr

/-- The decision of R179 on the entry at TT_HEAD. (DEDUCED: log entry 134) -/
def Device.ttJudge (d : Device) (w : BitVec 128) : TtVerdict :=
  let p := d.tow.pound
  let op := cmdOp w
  let atOnce := cmdImm w || op == 8 || op == 9
  let open' : Int := resolveT 1 w p - windowOpen w
  if (!atOnce && decide ((p.toNat : Int) < open')) || (cmdLong w && decide (d.ttLevel < 2)) then .stop
  else if op != 8 && d.sliceFull (ownerOf (cmdBerth w)) then .stall
  else .go (!atOnce && decide (open' < p.toNat))

/-- The entry at TT_HEAD is released and accepted at the present pound; ORDER is set for one after the first pound of its issue window
and for one rejected as LATE. A FENCE is accepted and holds the timetable at its entry, which it leaves when it is released or times
out (R179, R192). (DESIGN CHOICE: log entry 72; DEDUCED: log entry 134) -/
def Device.ttTake (d : Device) (w : BitVec 128) (late : Bool) : Device :=
  let h := d.get F.TT_HEAD_HEAD
  let second := if cmdLong w then some (d.ttWord (h + 1)) else none
  let pass := fun (d : Device) =>
    ((d.put F.TT_HEAD_HEAD 0 (h + if cmdLong w then 2 else 1)).bump F.TT_RELEASED_CNT_RELEASED).ttWeir d.ttLevel
  let order := late || acceptCode 1 w second d.tow.pound == some 1
  let d := d.when order (fun d => d.event F.TT_EVT_ORDER)
  match d.accept 1 w second false with
  | (none, d) => pass d
  | (some c, d) => if cmdOp c.w1 = 8 then d.holdAt 1 c else (pass d).enterSlice (ownerOf (cmdBerth c.w1)) c

/-- Release stalls on a full slice: the state bits, the events, and one count per pound (R188). -/
def Device.ttStall (d : Device) : Device :=
  let d := ((d.put F.TT_STAT_STALLED 0 1).event F.TT_EVT_STALL).event F.ENG_EVT_SLICE_FULL
  if d.eng.stalledThisPound then d
  else ({ d with eng := { d.eng with stalledThisPound := true } } : Device).bump F.TT_STALL_CNT_STALLS

/-- Up to n entries are examined in order from TT_HEAD; a two-word command takes two (R179). `fuel` bounds the commands. -/
def Device.ttExamine : (fuel n : Nat) → Device → Device
  | 0, _, d => d
  | fuel + 1, n, d =>
    let w := d.ttWord (d.get F.TT_HEAD_HEAD)
    let words := if cmdLong w then 2 else 1
    if d.ttLevel = 0 || (d.hold 1).isSome || decide (n < words) then d
    else
      match d.ttJudge w with
      | .stop => d
      | .stall => d.ttStall
      | .go late => Device.ttExamine fuel (n - words) (d.ttTake w late)

/-- TT_RELEASE: one ENG cycle of the timetable. A word that reads uncorrectable is dropped (R197). -/
def Device.ttRelease (d : Device) (up : Upset) : Device :=
  if d.resetBusy || !d.is F.TT_CTRL_RUN || !d.ttOpen || (d.hold 1).isSome then d
  else
    let d := d.put F.TT_STAT_STALLED 0 0
    if up.queue && decide (0 < d.ttLevel) then
      (((d.put F.TT_HEAD_HEAD 0 (d.get F.TT_HEAD_HEAD + 1)).ttWeir d.ttLevel).count (if up.noSource then 0 else 1)
        (·.acceptDiscard)).queueUncorr 65
    else Device.ttExamine 32 32 d

/-! ## Keeper command port and refresh walker (R166, R181) -/

/-- A command word, with its second word, is submitted to the Keeper command port; without room the submitter waits (R181). -/
def Device.submitKeeper (d : Device) (w : BitVec 128) (second : Option (BitVec 128)) (refresh : Bool) : Device :=
  match d.accept 3 w second refresh with
  | (some c, d) => { d with eng := { d.eng with kpq := d.eng.kpq ++ [c] } }
  | (none, d) => d

/-- The port has room for n words. -/
def Device.kpqRoom (d : Device) (n : Nat) : Bool := decide (wordsOf d.eng.kpq + n ≤ 32)

/-- An EMIT with IMM of a Berth. -/
def emitWord (id : Nat) : BitVec 128 := BitVec.ofNat 128 (6 * 2 ^ 124 + 2 ^ 123 + id % 2 ^ 17 * 2 ^ 103)

/-- Pounds for one Berth id of a sweep of 131,072 ids in 2^PERIOD_LOG pounds; PERIOD_LOG below 17 acts as 17, above 26 as 26 (R166, R173). -/
def Device.refreshPounds (d : Device) : Nat := 2 ^ (max 17 (min 26 (d.get F.LDG_REFRESH_CFG_PERIOD_LOG)) - 17)

/-- A pound passes for the refresh walker; one that is off takes up the period of the register. (DESIGN CHOICE: log entry 130) -/
def Device.refreshBoundary (d : Device) : Device :=
  if d.is F.LDG_CTRL_REFRESH_EN then { d with eng := { d.eng with refresh := d.eng.refresh + 1 } }
  else { d with eng := { d.eng with refresh := 0, refreshEach := d.refreshPounds } }

/-- REFRESH_SUBMIT: the refresh walker submits an EMIT for the next Berth id, once its pounds of the sweep have passed and the port has
room (R166, R181). The pounds for the id after it are those of PERIOD_LOG now (R173). (DESIGN CHOICE: log entry 130) -/
def Device.refreshSubmit (d : Device) : Device :=
  if d.is F.LDG_CTRL_REFRESH_EN && decide (d.eng.refreshEach ≤ d.eng.refresh) && d.kpqRoom 1 then
    let id := d.get F.LDG_STAT_REFRESH_POS
    let d := { d with eng := { d.eng with refresh := d.eng.refresh - d.eng.refreshEach, refreshEach := d.refreshPounds } }
    ((d.submitKeeper (emitWord id) none true).put F.LDG_STAT_REFRESH_POS 0 (id + 1)).bump F.LDG_REFRESH_CNT_SUBMITTED
  else d

/-- EMIT_WHARF completes when its last Berth has been dealt with (R354). -/
def Device.emitWharfDone (d : Device) : Device :=
  if d.mbx.emitting && d.kpr.emits.all (·.2) then
    d.mbxFinish 1 (some [0, BitVec.ofNat 32 d.mbx.sent, BitVec.ofNat 32 d.mbx.skipped, 0])
  else d

/-- The next Berth of the Keeper's list of frames to re-send: read by an indirect read, and submitted when it is channel-bound, and
has AUTO_EMIT set where the list asks for it; an uncorrectable entry is skipped (R271, R354). (DEDUCED: log entry 94) -/
def Device.keeperEmit (d : Device) : Device :=
  match d.kpr.emits with
  | [] => d
  | (id, auto) :: t =>
    if d.kpqRoom 1 then
      let c := d.cell id
      let d := ({ d with kpr := { d.kpr with emits := t } } : Device).noteErrors id c
      let ok := c.uncorr == 0 && c.entry.kind == 1 && c.entry.bound && (!auto || c.entry.autoEmit)
      let d := if ok then d.submitKeeper (emitWord id) none false else d
      if auto then d
      else
        ({ d with mbx := { d.mbx with sent := d.mbx.sent + ofBool ok, skipped := d.mbx.skipped + ofBool (c.uncorr != 0) } } :
          Device).emitWharfDone
    else d

/-- What the Keeper submits: a command of its own firmware with its second word, or the next frame to re-send. -/
def Device.kpqSubmit (d : Device) (k : KeeperSubmit) : Device :=
  if d.kpr.restarting then d
  else
    match k with
    | .command w second => if d.kpqRoom (if second.isSome then 2 else 1) then d.submitKeeper w second false else d
    | .resend => d.keeperEmit

/-- KPQ_RELEASE: one ENG cycle of the Keeper command port (R181). -/
def Device.kpqRelease (d : Device) (up : Upset) : Device :=
  if d.resetBusy || (d.hold 3).isSome then d
  else
    match d.eng.kpq with
    | [] => d
    | c :: t =>
      if up.queue then ({ d with eng := { d.eng with kpq := t } } : Device).dropHead 3 c up
      else
        let (q, full, d) := Device.releaseHead d.tow.pound 2 (c :: t) d
        ({ d with eng := { d.eng with kpq := q } } : Device).when full (fun d => d.event F.ENG_EVT_SLICE_FULL)

/-! ## FENCE reaches the head of its source (R189) -/

/-- FENCE: source s takes the FENCE at its head and holds; the timetable accepts its own at release. -/
def Device.takeFence (d : Device) (s : Nat) : Device :=
  if d.resetBusy || (d.hold s).isSome then d
  else
    let head := fun (q : List Cmd) => match q with
      | c :: _ => if cmdOp c.w1 = 8 then d.holdAt s c else d
      | [] => d
    if s = 0 then head d.eng.hcq
    else if s = 2 then head d.dec.actq
    else if s = 3 then head d.eng.kpq
    else if d.is F.TT_CTRL_RUN && d.ttOpen && decide (0 < d.ttLevel) then
      let w := d.ttWord (d.get F.TT_HEAD_HEAD)
      if cmdOp w = 8 then
        match d.ttJudge w with
        | .go late => d.ttTake w late
        | _ => d
      else d
    else d

/-! ## The late rule (R14, R188) -/

/-- The commands of a list that are late at pound p are taken out. -/
def splitLate (p : Pound) (l : List Cmd) : List Cmd × List Cmd := (l.filter (·.isLate p), l.filter (fun c => !c.isLate p))

/-- The late commands of engine e leave its slice and its hand. -/
def Device.lateEngine (d : Device) (e : Nat) : Device :=
  let p := d.tow.pound
  let x := d.engine e
  let (late, keep) := splitLate p x.slice
  let (lateHand, hand) := match x.hand with
    | some c => if c.isLate p then ([c], none) else ([], some c)
    | none => ([], none)
  forEach (late ++ lateHand) (fun c d => d.rejectCmd c 1 c.genSeen) (d.setEngine e { x with slice := keep, hand })

/-- LATE_REJECT: every accepted command whose issue window has ended unexecuted is rejected as LATE at the boundary (R14, R188). -/
def Device.lateReject (d : Device) : Device :=
  let p := d.tow.pound
  let d := forEach (List.range 64) (fun e d => d.lateEngine e) d
  let (l0, k0) := splitLate p d.eng.hcq
  let (l3, k3) := splitLate p d.eng.kpq
  let (l2, k2) := splitLate p d.dec.actq
  let (lf, kf) := splitLate p d.dec.deferred
  let d := d.setHcq k0
  let d : Device := { d with eng := { d.eng with kpq := k3 }, dec := { d.dec with actq := k2, deferred := kf } }
  (forEach (l0 ++ l2 ++ lf ++ l3) (fun c d => d.rejectCmd c 1 c.genSeen) d).settleFences

/-! ## Snapshot and resets (R193, R196) -/

/-- A write of ENG_CNT_CTRL: SRC is kept, SNAP asks for a capture and clears DONE. (DEDUCED: log entry 70) -/
def Device.wrCntCtrl (d : Device) (v : Nat) : Device :=
  let d := d.put F.ENG_CNT_CTRL_SRC 0 (bits v 1 0)
  if bit v 31 then (({ d with eng := { d.eng with snapAsked := true } } : Device).put F.ENG_CNT_CTRL_DONE 0 0).put
    F.ENG_CNT_CTRL_SNAP 0 1 else d

/-- The captured counters of one source: as they stand after the rejections of the boundary, whether LATE_REJECT has come yet or not
(R193). -/
def Device.snapOne (d : Device) (s : Fin 4) : Device :=
  let c := d.lateReject.eng.counts s
  (((((d.put F.ENG_CNT_ACCEPTED_ACCEPTED s c.accepted.toNat).put F.ENG_CNT_APPLIED_APPLIED s c.applied.toNat).put
    F.ENG_CNT_REJECTED_REJECTED s c.rejected.toNat).put F.ENG_CNT_PENDING_PENDING s c.pending.toNat).put
    F.ENG_CNT_DISCARDED_DISCARDED s c.discarded.toNat).put F.ENG_CNT_LATE_LATE s c.late.toNat

/-- CNT_SNAP_CAPTURE: at the boundary after SNAP the counters of all sources are captured (R193). -/
def Device.snapCapture (d : Device) : Device :=
  if d.eng.snapDue then
    let d := ((forEach [0, 1, 2, 3] (fun (s : Fin 4) d => d.snapOne s) d).put F.ENG_CNT_CTRL_DONE 0 1).put
      F.ENG_CNT_CTRL_SNAP 0 0
    { d with eng := { d.eng with snapAsked := false, snapDue := false } }
  else d

/-- The commands of source s that its queue holds, a FENCE of the timetable at which it holds among them (R193). -/
def Device.queued (d : Device) (s : Fin 4) : Nat :=
  match s with
  | 0 => d.eng.hcq.length
  | 1 => ofBool (d.hold 1).isSome
  | 2 => d.dec.actq.length + d.dec.deferred.length
  | 3 => d.eng.kpq.length

/-- The commands of the engines, and their uncommitted executions, are discarded; credits of reserved slots return; every lease is
free; the counters take the values of R193; the lease void bits, the steal counters and the cluster counters clear (R196, R366).
(DEDUCED: log entry 70) -/
def Device.resetEngines (d : Device) : Device :=
  let cmds := (List.range 64).flatMap (fun e => (d.engine e).slice ++ (d.engine e).hand.toList)
  let flown := (d.eng.flights.filter (fun f => !f.fill)).map (·.cmd)
  let barges := d.eng.flights.filterMap (·.barge?)
  let d := forEach (cmds ++ flown) (fun c d => d.discardCmd c) d
  let d := forEach barges (fun b d => d.giveCredits b.wharf 1) d
  let d : Device := { d with eng := { d.eng with
    engine := d.eng.engine.map (fun x => (x.1, { x.2 with slice := [], hand := none })),
    flights := [], grants := [], fillLast := [], steals := [], turns := [],
    counts0 := d.eng.counts0.engineReset (d.queued 0), counts1 := d.eng.counts1.engineReset (d.queued 1),
    counts2 := d.eng.counts2.engineReset (d.queued 2), counts3 := d.eng.counts3.engineReset (d.queued 3) } }
  let d := d.put F.ENG_LEASE_VOID_VOID 0 0
  let d := forEach (List.range 64) (fun e d =>
    (((d.put F.ENG_STEAL_CNT_RING e 0).put F.ENG_STEAL_CNT_CLUSTER e 0).put F.ENG_CL_CYC_CNT_CYCLES e 0).put
      F.ENG_CL_EXEC_CNT_EXECUTED e 0) d
  d.settleFences

/-- Discard the host command queue and its held word without records (R176, R196). -/
def Device.resetHcq (d : Device) : Device :=
  let q := d.eng.hcq
  let d := (d.dropHold 0).passAll 0 q
  let d := forEach q (fun c d => d.discardCmd c) (d.setHcq [])
  let d := match d.eng.hcqHeld with
    | some _ => ({ d with eng := { d.eng with hcqHeld := none } } : Device).count 0 (·.acceptDiscard)
    | none => d
  d.event F.ENG_EVT_RESET_DONE

/-- Discard the Keeper command port without records (R196). -/
def Device.resetKpq (d : Device) : Device :=
  let q := d.eng.kpq
  let d := (d.dropHold 3).passAll 3 q
  (forEach q (fun c (d : Device) => d.discardCmd c) { d with eng := { d.eng with kpq := [] } }).event F.ENG_EVT_RESET_DONE

/-- A write of ENG_RESET (R196). -/
def Device.wrEngReset (d : Device) (v : Nat) : Device :=
  let d := if bit v 0 then d.resetEngines.put F.ENG_STAT_RESET_BUSY 0 1 else d
  let d := if bit v 1 then d.resetHcq else d
  if bit v 2 then d.resetKpq else d

/-- ENGINES_RESET_DONE: after 64 ENG cycles; a domain reset of ENG has ended by then (R196). -/
def Device.enginesResetDone (d : Device) : Device :=
  if d.resetBusy && !d.clk.resetting.contains 144 then (d.put F.ENG_STAT_RESET_BUSY 0 0).event F.ENG_EVT_RESET_DONE else d

/-! ## Meanings -/

def execLateReject (s : State) : Host.Outcome State Fault Refusal := .next (s.on (·.lateReject))
/-- HCQ_PUSH: the write of word 3 of a push window group (R176). -/
def execHcqPush (g : Fin 32) (v : Word) (s : State) : Host.Outcome State Fault Refusal :=
  .next (s.on (·.wrHcqWin (4 * g.val + 3) v.toNat))
def execHcqRelease (up : Upset) (s : State) : Host.Outcome State Fault Refusal := .next (s.on (·.hcqRelease up))
/-- FLUSH: the write of ENG_HCQ_CTRL with FLUSH set (R177). -/
def execFlush (v : Word) (s : State) : Host.Outcome State Fault Refusal := 
  .next (s.on (fun d => (d.wrHcqCtrl (setBit v.toNat 31)).markDirty))
def execTtRelease (up : Upset) (s : State) : Host.Outcome State Fault Refusal := .next (s.on (·.ttRelease up))
/-- TT_END_WRITE: a write of TT_END (R180). -/
def execTtEndWrite (v : Word) (s : State) : Host.Outcome State Fault Refusal := .next (s.on (·.ifOpen 0x32 (·.wrTtEnd v.toNat)))
def execKpqSubmit (k : KeeperSubmit) (s : State) : Host.Outcome State Fault Refusal := .next (s.on (·.kpqSubmit k))
def execKpqRelease (up : Upset) (s : State) : Host.Outcome State Fault Refusal := .next (s.on (·.kpqRelease up))
def execRefreshSubmit (s : State) : Host.Outcome State Fault Refusal := .next (s.on (·.refreshSubmit))
def execFence (src : Fin 4) (s : State) : Host.Outcome State Fault Refusal := .next (s.on (·.takeFence src))
def execFenceRelease (src : Fin 4) (s : State) : Host.Outcome State Fault Refusal := .next (s.on (·.fenceRelease src))
def execFenceTimeout (src : Fin 4) (s : State) : Host.Outcome State Fault Refusal := .next (s.on (·.fenceTimeout src))
/-- ENG_CNT_SNAP: the write of ENG_CNT_CTRL with SNAP set (R193). -/
def execEngCntSnap (v : Word) (s : State) : Host.Outcome State Fault Refusal := .next (s.on (·.wrCntCtrl (setBit v.toNat 31)))
def execCntSnapCapture (s : State) : Host.Outcome State Fault Refusal := .next (s.on (·.snapCapture))
/-- ENGINES_RESET: the write of ENG_RESET with ENGINES set (R196). -/
def execEnginesReset (s : State) : Host.Outcome State Fault Refusal := .next (s.on (·.wrEngReset 1))
def execEnginesResetDone (s : State) : Host.Outcome State Fault Refusal := .next (s.on (·.enginesResetDone))
def execHcqReset (s : State) : Host.Outcome State Fault Refusal := .next (s.on (·.wrEngReset 2))
def execKpqReset (s : State) : Host.Outcome State Fault Refusal := .next (s.on (·.wrEngReset 4))

end Sys2Proof.Machine
end

