-- ==== Sys2Proof/Machine/Decisions.lean ====
section
/-! DEFINITION. The decision unit: events, windows, source map and condition table, the lookup, action lists, the action queue and the
deferred store (R201-R217). -/

namespace Sys2Proof.Machine

def Device.onDec (d : Device) (f : Decisions → Decisions) : Device := { d with dec := f d.dec }

/-! ## Tables (R203, R205, R213, R217) -/

/-- What an unlisted word of a decision table reads as: zero once cleared, else undefined content. (DESIGN CHOICE: log entry 11) -/
def Device.decDefault (d : Device) (kind k : Nat) : Nat := if d.dec.cleared then 0 else Config.arbitrary kind d.dec.epoch k

/-- Source map entry of device source s. -/
def Device.srcMapWord (d : Device) (s : Nat) : Nat :=
  match Store.get? d.dec.srcMap s with
  | some w => w.toNat
  | none => d.decDefault 5 s % 2 ^ 32
/-- Condition entry e. -/
def Device.condWord (d : Device) (e : Nat) : Nat :=
  match Store.get? d.dec.cond e with
  | some w => w.toNat
  | none => d.decDefault 6 e % 2 ^ 64
/-- Word i of window w as written. -/
def Device.winWord (d : Device) (w i : Nat) : Nat :=
  match Store.get? d.dec.win (w * 8 + i) with
  | some x => x.toNat
  | none => d.decDefault 7 (w * 8 + i) % 2 ^ 32
/-- Word i of window w in force. -/
def Device.forceWord (d : Device) (w i : Nat) : Nat :=
  match Store.get? d.dec.winForce (w * 8 + i) with
  | some x => x.toNat
  | none => d.decDefault 7 (w * 8 + i) % 2 ^ 32
/-- Receive base of wharf h. -/
def Device.rxBase (d : Device) (h : Nat) : Nat :=
  match Store.get? d.dec.base h with
  | some x => x.toNat % 4096
  | none => d.decDefault 8 h % 4096
/-- State of source s; after a warm reset no source has been seen (R207, R213). (DESIGN CHOICE: log entry 11) -/
def Device.srcState (d : Device) (s : Nat) : SrcState :=
  match Store.get? d.dec.src s with
  | some x => x
  | none =>
    let x := d.decDefault 10 s
    { window := x % 256, seq := x / 2 ^ 8 % 16, seen := bit x 12 && !d.dec.unseen, inside := bit x 13, occ := x / 2 ^ 14 }
/-- Word a of the action store; clearing the tables does not touch it (R213). (DESIGN CHOICE: log entry 11) -/
def Device.actionWord (d : Device) (a : Nat) : BitVec 128 :=
  match Store.get? d.dec.action a with
  | some w => w
  | none => BitVec.ofNat 128 (Config.arbitrary 4 d.dec.epoch a)

/-! ## Events (R201, R202) -/

def DecEvent.bits (e : DecEvent) (hi lo : Nat) : Nat := Machine.bits e.slot.toNat hi lo
def DecEvent.error (e : DecEvent) : Bool := e.slot.getLsbD 107
def DecEvent.window (e : DecEvent) : Nat := e.bits 91 84
def DecEvent.result (e : DecEvent) : Nat := e.bits 83 68
def DecEvent.seqNo (e : DecEvent) : Nat := e.bits 11 8
/-- The device source of an event (R202). -/
def Device.sourceOf (d : Device) (e : DecEvent) : Nat := (d.rxBase e.wharf + e.bits 103 92) % 4096
/-- The stamp pound S_P: the pound nearest to the receive pound with the stamp's low 32 bits (R202). -/
def DecEvent.stampPound (e : DecEvent) : Int :=
  let base : Int := (e.pound.toNat : Int) - 2 ^ 31
  base + ((e.bits 67 36 : Int) - base) % 2 ^ 32
/-- The stamp S_P:STAMP_F in units of 2^-24 pound. -/
def DecEvent.stamp (e : DecEvent) : Int := e.stampPound * 2 ^ 24 + (e.bits 35 12 : Nat)

/-- Reasons of R217 that R207 marks with a record. -/
def reasonRecorded (r : Nat) : Bool := r == 3 || r == 4 || r == 5 || r == 9 || r == 10 || r == 11 || r == 12

def Device.decCount (d : Device) (r : Nat) : Device := d.bump F.DEC_CNT_COUNT r

/-- The first discard since the last read of DEC_LAST_EVT3 is captured and frozen (R209); DEC_LAST_EVT0 to 3 are event registers 1 to 4 of
their page by R324. (DEDUCED: log entry 78) -/
def Device.captureDiscard (d : Device) (e : DecEvent) (reason : Nat) : Device :=
  if d.dec.frozen then d
  else
    let d := d.onDec (fun x => { x with frozen := true })
    let d := (d.put F.DEC_LAST_EVT0_EVENT 0 (e.bits 31 0)).put F.DEC_LAST_EVT1_EVENT 0 (e.bits 63 32)
    let d := (d.put F.DEC_LAST_EVT2_EVENT 0 (e.bits 95 64)).put F.DEC_LAST_EVT3_EVENT 0 (e.bits 111 96)
    let d := (d.put F.DEC_LAST_EVT3_WHARF 0 e.wharf).put F.DEC_LAST_EVT3_REASON 0 reason
    let d := forEach (List.range 4) (fun k d => d.when (k == 3 || e.bits (32 * k + 31) (32 * k) != 0) (fun d => d.irqStat 0x33 (k + 1))) d
    d.event F.DEC_EVT_LAST_CAPTURED

/-- An event is discarded for a reason: counted, captured, recorded where R207 says so. -/
def Device.discardEvent (d : Device) (e : DecEvent) (reason : Nat) : Device :=
  let d := (d.decCount reason).captureDiscard e reason
  let d := d.when (reason == 11) (fun d => d.event F.DEC_EVT_LIST_OVERRUN)
  let d := d.when (reason == 12) (fun d => d.event F.DEC_EVT_EVQ_OVERRUN)
  d.when (reasonRecorded reason) (fun d => (d.event F.DEC_EVT_BAD_EVENT).report 6 (d.sourceOf e) reason e.wharf)

/-- Event a comes before event b in presentation order: receive pound, wharf, lane, slot (R211). The receive pounds are told apart by
the boundaries since, which a jump does not disturb. -/
def DecEvent.before (a b : DecEvent) : Bool :=
  decide (b.ticks < a.ticks) ||
  a.ticks == b.ticks && decide (a.wharf * 1024 + a.lane * 2 + a.place < b.wharf * 1024 + b.lane * 2 + b.place)

/-- A list in presentation order takes x behind all that x does not come before. -/
def insertBefore {α : Type} (before : α → α → Bool) (x : α) (l : List α) : List α :=
  l.takeWhile (fun y => !before x y) ++ x :: l.dropWhile (fun y => !before x y)

/-- A lane of a wharf delivers an event from a slot of its frame: RECEIVED counts it; it enters the queue of 1,024 in presentation order
or overruns it (R207 row 0, R208, R211). -/
def Device.deliverEvent (d : Device) (slot : BitVec 112) (wharf lane place : Nat) : Device :=
  let e : DecEvent := { slot, wharf, pound := d.tow.pound, lane, place }
  let d := d.decCount 0
  if 1024 ≤ d.dec.evq.length then d.discardEvent e 12
  else d.onDec (fun x => { x with evq := insertBefore DecEvent.before e x.evq })

/-! ## Windows (R203, R204) -/

def Device.winStart (d : Device) (w : Nat) : Nat := d.forceWord w 1 * 2 ^ 32 + d.forceWord w 0
/-- ARM in force. -/
def Device.winActive (d : Device) (w : Nat) : Bool := bit (d.forceWord w 2) 0
def Device.winPeriod (d : Device) (w : Nat) : Nat := d.forceWord w 5
def Device.winCount (d : Device) (w : Nat) : Nat := bits (d.forceWord w 6) 31 16
/-- LEN in units of 2^-24 pound; with a period it acts as at most the period. -/
def Device.winLen (d : Device) (w : Nat) : Nat :=
  let l := d.forceWord w 3 * 2 ^ 24 + bits (d.forceWord w 4) 31 8
  if d.winPeriod w = 0 then l else min l (d.winPeriod w * 2 ^ 24)
/-- The start of occurrence k in units of 2^-24 pound. -/
def Device.winBegin (d : Device) (w k : Nat) : Nat :=
  (d.winStart w + k * d.winPeriod w) * 2 ^ 24 + bits (d.forceWord w 2) 31 8

/-- The occurrence current at the boundary that opens pound q (R204). (DEDUCED: log entry 77) -/
def Device.formOcc (d : Device) (w : Nat) (q : Pound) : Nat :=
  let s := d.winStart w
  let per := d.winPeriod w
  if per = 0 ∨ q.toNat < s + per then 0
  else
    let k := (q.toNat - s) / per
    if d.winCount w = 0 then k else min k (d.winCount w - 1)

/-- The current occurrence of a window. (DEDUCED: log entry 77) -/
def Device.winOcc (d : Device) (w : Nat) : Nat :=
  match Store.get? d.dec.occ w with
  | some k => k
  | none => d.formOcc w d.tow.pound

/-- DONE: the last occurrence is current; a window of one occurrence is done from its start. (DEDUCED: log entry 76) -/
def Device.winDone (d : Device) (w : Nat) : Bool :=
  d.winActive w &&
  (if d.winPeriod w = 0 then decide (d.winStart w ≤ d.tow.pound.toNat)
   else d.winCount w != 0 && d.winOcc w + 1 == d.winCount w)

/-- WINDOW_ADVANCE: the window's current occurrence is formed for the pound the boundary opened. -/
def Device.windowAdvance (d : Device) (w : Nat) : Device :=
  if d.winActive w then d.onDec (fun x => { x with occ := Store.set x.occ w (d.formOcc w d.tow.pound) }) else d

/-- At a boundary the windows as written take force, and every window advances (R204, R215). -/
def Device.windowsBoundary (d : Device) : Device := d.onDec (fun x => { x with winForce := x.win, occ := [] })

/-- The stamp lies inside occurrence k. -/
def Device.insideOcc (d : Device) (w k : Nat) (stamp : Int) : Bool :=
  decide ((d.winBegin w k : Int) ≤ stamp) && decide (stamp < d.winBegin w k + d.winLen w)

/-! ## The lookup (R205-R207) -/

/-- Fields of a condition entry. -/
def condMatches (c : Nat) (e : DecEvent) : Bool :=
  bit c 63 && (e.result.land (bits c 61 46) == (bits c 45 30).land (bits c 61 46)) && bit c 8 == e.error

/-- The place, among the n condition entries from base, of the first that matches. -/
def Device.firstMatch (d : Device) (base n : Nat) (e : DecEvent) : Option Nat :=
  (List.range n).find? (fun i => condMatches (d.condWord (base + i)) e)

/-- A source entry is valid (R205). -/
def srcValid (m : Nat) : Bool := bit m 31 && decide (bits m 12 0 + bits m 16 13 + 1 ≤ 8192)

/-- An upset condition entry is read: it comes no later than the first match (R206). -/
def Device.condUpset (d : Device) (m : Nat) (e : DecEvent) (up : Option Nat) : Bool :=
  let n := bits m 16 13 + 1
  match up with
  | some (i + 1) => srcValid m && decide (i < n) && decide (i ≤ (d.firstMatch (bits m 12 0) n e).getD n)
  | _ => false

/-- SEQ is compared with the source's last plus one; the first event of a source is exempt (R207). (DEDUCED: log entry 75) -/
def Device.checkSeq (d : Device) (s : Nat) (e : DecEvent) : Device :=
  let x := d.srcState s
  let gap := x.seen && e.seqNo != (x.seq + 1) % 16
  let d := d.when gap (fun d => (d.decCount 14).event F.DEC_EVT_SEQ_GAP)
  d.onDec (fun t => { t with src := Store.set t.src s { x with seq := e.seqNo, seen := true } })

/-- The event as captured after entry c matched: the entry's TAG stands in its bits [7:0], which are reserved in the slot (R205).
(DEDUCED: log entry 135) -/
def DecEvent.tagged (e : DecEvent) (c : Nat) : DecEvent := { e with slot := e.slot ||| BitVec.ofNat 112 (Machine.bits c 7 0) }

/-- Rows 10 to 12, and the wait for acceptance, in presentation order, of an event that passes them. -/
def Device.decideMatch (d : Device) (e : DecEvent) (m : Nat) : Device :=
  match d.firstMatch (bits m 12 0) (bits m 16 13 + 1) e with
  | none => d.discardEvent e 2
  | some i =>
    let c := d.condWord (bits m 12 0 + i)
    let e := e.tagged c
    if bit c 9 then d.discardEvent e 15
    else if 16384 < bits c 29 16 + bits c 15 10 + 1 then d.discardEvent e 9
    else
      let x : Matched := { ev := e, base := bits c 29 16, len := bits c 15 10 + 1 }
      d.onDec (fun t => { t with waiting := insertBefore (fun a b => a.ev.before b.ev) x t.waiting })

/-- Rows 7 to 9: the occurrence the stamp lies in, or the reason to discard it. -/
def Device.windowReason (d : Device) (w : Nat) (stamp : Int) : Nat ⊕ Nat :=
  let k := d.winOcc w
  if d.insideOcc w k stamp then .inl k
  else if 0 < k && d.insideOcc w (k - 1) stamp then .inl (k - 1)
  else if k = 0 ∨ ((d.winBegin w (k - 1) + d.winLen w : Nat) : Int) ≤ stamp then .inr 6
  else .inr 7

/-- Rows 5 to 12 for an event of a valid source. (DEDUCED: log entry 75) -/
def Device.judgeWindow (d : Device) (e : DecEvent) (s m : Nat) : Device :=
  let age := (e.pound.toNat : Int) - e.stampPound
  let maxAge := d.get F.DEC_CFG_MAX_AGE
  if maxAge ≠ 0 ∧ (maxAge : Int) < age then d.discardEvent e 7
  else if !d.winActive e.window then d.discardEvent e 5
  else
    match d.windowReason e.window e.stamp with
    | .inr r => d.discardEvent e r
    | .inl k =>
      let x := d.srcState s
      if x.inside && x.window == e.window && x.occ == k then d.discardEvent e 8
      else
        (d.onDec (fun t => { t with src := Store.set t.src s { x with window := e.window, occ := k, inside := true } })).decideMatch
          e m

/-- The unit is closed, clearing or not accepting (row 1). -/
def Device.decDisabled (d : Device) : Bool := !d.is F.DEC_CTRL_ACCEPT || d.blockClosed 114 || d.is F.DEC_STAT_CLEAR_BUSY

/-- The lookup of one event; `up` names an uncorrectable word: 0 the source map entry or source state, i + 1 the source's i-th
condition entry (R207). -/
def Device.lookupEvent (d : Device) (e : DecEvent) (up : Option Nat) : Device :=
  let s := d.sourceOf e
  let m := d.srcMapWord s
  if d.decDisabled then d.discardEvent e 13
  else if e.bits 106 104 != 0 || e.bits 7 0 != 0 then d.discardEvent e 3
  else if up == some 0 || d.condUpset m e up then d.discardEvent e 10
  else if !srcValid m then d.discardEvent e 4
  else (d.checkSeq s e).judgeWindow e s m

/-- DECISION_LOOKUP: the event at the head of the event queue is judged (R207, R208). -/
def Device.decisionLookup (d : Device) (up : Option Nat) : Device :=
  match d.dec.evq with
  | [] => d
  | e :: t => (d.onDec (fun x => { x with evq := t })).lookupEvent e up

/-! ## Action lists (R210, R211) -/

/-- One command of a list: its words, or a rejection with ACT_UNCORR; `lost` when its first word itself is unreadable. -/
structure ListItem where
  w1 : BitVec 128
  second : Option (BitVec 128) := none
  unreadable : Bool := false
  lost : Bool := false
  deriving DecidableEq, Repr

/-- The commands of a list of words; an unreadable first word is a command of one word (R210). -/
def listItems : Nat → List (Bool × BitVec 128) → List ListItem
  | 0, _ => []
  | _ + 1, [] => []
  | n + 1, (true, _) :: t => { w1 := 0, unreadable := true, lost := true } :: listItems n t
  | n + 1, (false, w) :: t =>
    if cmdLong w then
      match t with
      | [] => { w1 := w } :: []
      | (true, _) :: t' => { w1 := w, unreadable := true } :: listItems n t'
      | (false, x) :: t' => { w1 := w, second := some x } :: listItems n t'
    else { w1 := w } :: listItems n t

/-- The words of a list as read; bit i of `bad` marks word i unreadable. -/
def Device.listWords (d : Device) (m : Matched) (bad : BitVec 64) : List (Bool × BitVec 128) :=
  (List.range m.len).map (fun i => (bad.getLsbD i, d.actionWord (m.base + i)))

/-- The words of the commands of a list that would enter the action queue (`now`) or the deferred store. (DEDUCED: log entry 79) -/
def Device.listRoom (d : Device) (l : List ListItem) (now : Bool) : Nat :=
  let p := d.tow.pound
  l.foldl (fun n x =>
    if x.unreadable || (acceptCode 2 x.w1 x.second p).isSome then n
    else
      let t := BitVec.ofInt 64 (resolveT 2 x.w1 p)
      let c : Cmd := { w1 := x.w1, src := 2, seq := 0, t, acc := p }
      if c.eligible p == now then n + (if x.second.isSome then 2 else 1) else n) 0

/-- One command of a list is accepted (R210, R211). The record of an unreadable first word carries BERTH zero; what else it shows
of the word is left open and free. -/
def Device.acceptItem (d : Device) (x : ListItem) : Device :=
  if x.unreadable then
    let (n, d') := d.draw 6
    let lost := BitVec.ofNat 128 n &&& ~~~ (0x1FFFF#128 <<< 103)
    let (w, d) := if x.lost then (lost, d') else (x.w1, d)
    let c : Cmd := { w1 := w, src := 2, seq := ((d.eng.counts 2).accepted + 1).truncate 16,
                     t := BitVec.ofInt 64 (resolveT 2 w d.tow.pound), acc := d.tow.pound }
    (d.count 2 (·.acceptReject false)).effect c 0x30 0
  else
    match d.accept 2 x.w1 x.second false with
    | (none, d) => d
    | (some c, d) =>
      if c.eligible d.tow.pound then d.onDec (fun t => { t with actq := t.actq ++ [c] })
      else d.onDec (fun t => { t with deferred := t.deferred ++ [c] })

/-- The words of some deferred commands that leave for an action queue with room for n words, in order of T (R211). `fuel` bounds them. -/
def leaving : (fuel : Nat) → Nat → List (Nat × Cmd) → Nat
  | 0, _, _ => 0
  | fuel + 1, n, l =>
    match bestOf l with
    | none => 0
    | some (i, c) => if c.words ≤ n then c.words + leaving fuel (n - c.words) (l.filter (fun x => x.1 != i)) else 0

/-- The deferred commands whose issue window is open, with their positions. -/
def Device.deferredDue (d : Device) : List (Nat × Cmd) :=
  (d.dec.deferred.zipIdx).filterMap (fun x => if x.1.eligible d.tow.pound then some (x.2, x.1) else none)

/-- The words of the deferred store once the commands that leave it at this boundary have left, the action queue holding n words
(R211: room is reckoned after the departures). (DEDUCED: log entry 79) -/
def Device.deferredAfter (d : Device) (n : Nat) : Nat :=
  wordsOf d.dec.deferred - leaving d.dec.deferred.length (1024 - n) d.deferredDue

/-- LIST_ACCEPT: the first matched list whose boundary has passed is accepted whole, or discarded as LIST_OVERRUN (R211).
(DEDUCED: log entries 14, 79) -/
def Device.listAccept (d : Device) (bad : BitVec 64) : Device :=
  match d.dec.waiting.find? (·.due) with
  | none => d
  | some m =>
    let d := d.onDec (fun x => { x with waiting := x.waiting.eraseP (·.due) })
    let l := listItems 64 (d.listWords m bad)
    let now := wordsOf d.dec.actq + d.listRoom l true
    if 1024 < now ∨ 2048 < d.deferredAfter now + d.listRoom l false then
      d.discardEvent m.ev 11
    else forEach l (fun x d => d.acceptItem x) (d.decCount 1)

/-- DEFERRED_MOVE: the deferred command of smallest T whose issue window has opened moves into the action queue, after the lists of
its boundary, when there is room (R211); one whose word reads uncorrectable is dropped (R197, R214). (DEDUCED: log entry 79) -/
def Device.deferredMove (d : Device) (up : Upset) : Device :=
  if d.dec.waiting.any (·.due) then d
  else
    match bestOf d.deferredDue with
    | none => d
    | some (i, c) =>
      if up.queue then (d.onDec (fun x => { x with deferred := dropAt x.deferred i })).dropHead 2 c up
      else if wordsOf d.dec.actq + c.words ≤ 1024 then
        d.onDec (fun x => { x with deferred := dropAt x.deferred i, actq := x.actq ++ [c] })
      else d

/-- ACTQ_RELEASE: one ENG cycle of the action queue (R211). -/
def Device.actqRelease (d : Device) (up : Upset) : Device :=
  if d.resetBusy || (d.hold 2).isSome then d
  else
    match d.dec.actq with
    | [] => d.put F.DEC_STAT_WAITING 0 0
    | c :: t =>
      if up.queue then (d.onDec (fun x => { x with actq := t })).dropHead 2 c up
      else
        let (q, full, d) := Device.releaseHead d.tow.pound 32 (c :: t) d
        ((d.onDec (fun x => { x with actq := q })).putB F.DEC_STAT_WAITING 0 full).when full (fun d => d.event F.ENG_EVT_SLICE_FULL)

/-- A boundary passes for the decision unit: windows, and the wait of events and lists (R204, R211). -/
def Device.decBoundary (d : Device) : Device :=
  d.windowsBoundary.onDec (fun x => { x with
    evq := x.evq.map (fun e => { e with ticks := e.ticks + 1 }),
    waiting := x.waiting.map (fun m => { m with ev := { m.ev with ticks := m.ev.ticks + 1 }, due := m.due || decide (1 ≤ m.ev.ticks) }) })

/-! ## Clearing, flushing, resetting, closing (R213, R214) -/

/-- Queued events, and matched events whose lists await acceptance, are discarded as DISABLED. -/
def Device.dropEvents (d : Device) : Device :=
  let l := d.dec.waiting.map (·.ev) ++ d.dec.evq
  forEach l (fun e d => d.discardEvent e 13) (d.onDec (fun x => { x with evq := [], waiting := [] }))

/-- The action queue and the deferred store are rejected with a code. -/
def Device.rejectActions (d : Device) (code : Code) : Device :=
  let l := d.dec.actq ++ d.dec.deferred
  let d := (d.dropHold 2).passAll 2 l
  forEach l (fun c d => d.rejectCmd c code 0) (d.onDec (fun x => { x with actq := [], deferred := [] }))

/-- The lists that the last boundary has made due are accepted (R211). (DEDUCED: log entry 79) -/
def Device.acceptDue (d : Device) : Device := forEach (d.dec.waiting.filter (·.due)) (fun _ d => d.listAccept 0) d

/-- A write of DEC_CTRL: ACCEPT is kept, CLEAR starts clearing, FLUSH rejects the queued action commands, after the acceptances of the
boundary (R215). -/
def Device.wrDecCtrl (d : Device) (v : Nat) : Device :=
  let d := d.put F.DEC_CTRL_ACCEPT 0 (bits v 0 0)
  let d := if bit v 31 then d.put F.DEC_STAT_CLEAR_BUSY 0 1 else d
  if bit v 30 then (d.acceptDue.rejectActions 0x32).event F.DEC_EVT_FLUSH_DONE else d

/-- DEC_CLEAR_DONE: after 8,192 ENG cycles the tables read zero (R213). (DEDUCED: log entry 77) -/
def Device.decClearDone (d : Device) : Device :=
  if d.is F.DEC_STAT_CLEAR_BUSY then
    ((d.onDec (fun x => { x with cleared := true, srcMap := [], cond := [], win := [], base := [], src := [] })).put
      F.DEC_STAT_CLEAR_BUSY 0 0).event F.DEC_EVT_CLEAR_DONE
  else d

/-- A write of DEC_RESET: UNIT discards events as DISABLED and action commands without records (R214). -/
def Device.wrDecReset (d : Device) (v : Nat) : Device :=
  if bit v 0 then
    let l := d.dec.actq ++ d.dec.deferred
    let d := (d.dropEvents.dropHold 2).passAll 2 l
    (forEach l (fun c d => d.discardCmd c) (d.onDec (fun x => { x with actq := [], deferred := [] }))).event F.DEC_EVT_RESET_DONE
  else d

/-- The unit closes (R71, R214). -/
def Device.decClose (d : Device) : Device := d.dropEvents.rejectActions 0x31

/-- DEC_LAST_EVT_READ: a read of DEC_LAST_EVT3 returns it and releases the freeze (R209). (DEDUCED: log entry 78) -/
def Device.readLastEvt3 (d : Device) : Nat × Device :=
  if d.blockClosed 114 then (0, d)
  else
    (d.get F.DEC_LAST_EVT3_REASON * 2 ^ 28 + d.get F.DEC_LAST_EVT3_WHARF * 2 ^ 20 + d.get F.DEC_LAST_EVT3_EVENT,
     d.onDec (fun x => { x with frozen := false }))

/-! ## Meanings -/

def execDecisionLookup (up : Option Nat) (s : State) : Host.Outcome State Fault Refusal := .next (s.on (·.decisionLookup up))
def execListAccept (bad : BitVec 64) (s : State) : Host.Outcome State Fault Refusal := .next (s.on (·.listAccept bad))
def execDeferredMove (s : State) (up : Upset := {}) : Host.Outcome State Fault Refusal := .next (s.on (·.deferredMove up))
def execActqRelease (up : Upset) (s : State) : Host.Outcome State Fault Refusal := .next (s.on (·.actqRelease up))
def execWindowAdvance (w : Byte) (s : State) : Host.Outcome State Fault Refusal := .next (s.on (·.windowAdvance w.toNat))
/-- DEC_CLEAR: the write of DEC_CTRL with CLEAR set (R213). -/
def execDecClear (v : Word) (s : State) : Host.Outcome State Fault Refusal := 
  .next (s.on (·.ifOpen 0x33 (·.wrDecCtrl (setBit v.toNat 31))))
def execDecClearDone (s : State) : Host.Outcome State Fault Refusal := .next (s.on (·.decClearDone))
/-- DEC_FLUSH: the write of DEC_CTRL with FLUSH set (R214). -/
def execDecFlush (v : Word) (s : State) : Host.Outcome State Fault Refusal := 
  .next (s.on (·.ifOpen 0x33 (·.wrDecCtrl (setBit v.toNat 30))))
/-- DEC_UNIT_RESET: the write of DEC_RESET with UNIT set (R214). -/
def execDecUnitReset (s : State) : Host.Outcome State Fault Refusal := .next (s.on (·.ifOpen 0x33 (·.wrDecReset 1)))

end Sys2Proof.Machine
end

