-- ==== Sys2Proof/Machine/Towpath.lean ====
section
/-! DEFINITION. The Towpath: roles, alignment, servo and steering, holdover, the TICK line, delay over wharves, PPS (R218-R241). The jump
of the pound counter stands with the pound boundary. -/

namespace Sys2Proof.Machine

def Device.onTow (d : Device) (f : Tow → Tow) : Device := { d with tow := f d.tow }
def Device.towWharf (d : Device) (h : Nat) : TowWharf := Store.getD d.tow.wharf h {}
def Device.onTowWharf (d : Device) (h : Nat) (f : TowWharf → TowWharf) : Device :=
  d.onTow (fun t => { t with wharf := Store.put t.wharf {} h (f (d.towWharf h)) })

/-- MPL0 is in holdover (R66). -/
def Device.mpl0Hold (d : Device) : Bool := d.is F.CLK_REF_STAT_MPL0_HOLDOVER
/-- Role in force (R221). -/
def Device.role (d : Device) : Nat := d.get F.TOW_STAT_ROLE
def Device.towHold (d : Device) : Bool := d.is F.TOW_STAT_HOLDOVER
def Device.towAligned (d : Device) : Bool := d.is F.TOW_STAT_ALIGNED
/-- A fault record of class TOWPATH (R346). -/
def Device.towReport (d : Device) (src code reporter : Nat) : Device := d.report 7 src code reporter

/-- The wharf a FOLLOWER_WHARF follows now. -/
def Device.followWharf (d : Device) : Nat := if d.is F.TOW_STAT_USING_ALT then d.tow.alt else d.tow.pri

/-- The far end of wharf h qualifies as a source: trained, reporting master or follower, ALIGNED, DEPTH at most 14 (R223, R237). -/
def Device.farQualifies (d : Device) (h : Nat) : Bool :=
  d.wharfUp h && d.is F.TOW_WHF_STAT_REPORT_OK h
    && (d.get F.TOW_WHF_STAT_FAR_ROLE h == 1 || d.get F.TOW_WHF_STAT_FAR_ROLE h == 2)
    && d.is F.TOW_WHF_STAT_FAR_ALIGNED h && decide (d.get F.TOW_WHF_STAT_FAR_DEPTH h ≤ 14)

/-- The source of the role in force is valid (R223 step 1). -/
def Device.sourceOk (d : Device) : Bool :=
  let t := d.tow.tick
  match d.role with
  | 1 => decide (64 ≤ t.run) && (!d.tow.tickWord || decide (2 ≤ t.good))
  | 2 => d.tow.ppsAccepted.isSome
  | 3 => d.farQualifies d.followWharf
  | 4 => decide (64 ≤ t.run) && decide (2 ≤ t.good)
  | _ => d.is F.CLK_REF_STAT_MPL0_LOCK

/-- DEPTH of this device: 0 for a master, one more than its master's for a follower, 15 while it holds for R237. -/
def Device.towDepth (d : Device) : Nat :=
  if d.role = 3 then
    if d.tow.cause = .loop then 15 else min 15 (d.get F.TOW_WHF_STAT_FAR_DEPTH d.followWharf + 1)
  else if d.role = 4 then min 15 (d.tow.tick.depth + 1)
  else 0

/-- EPOCH in seconds (R241). -/
def Device.epochSeconds (d : Device) : Nat := d.get F.TOW_EPOCH_HI_SECONDS * 2 ^ 32 + d.get F.TOW_EPOCH_LO_SECONDS

/-- The TIME port is in use by the Keeper's client. (DEDUCED: log entry 88) -/
def Device.portInUse (d : Device) : Bool := d.get F.TPT_CTRL_MODE == 1 && !d.blockClosed 116
def Device.portSlave (d : Device) : Bool := d.get F.TPT_STAT_PORT_STATE == 4

/-- TOD_VALID (R241). (DEDUCED: log entry 88) -/
def Device.todValid (d : Device) : Bool := d.is F.TOW_EPOCH_HI_EPOCH_VALID && (!d.portInUse || d.portSlave)

/-! ## Steering (R225) -/

def Device.steerMax (d : Device) : Nat :=
  let m := d.get F.TOW_SERVO_CFG_STEER_MAX
  if m = 0 then 1 else min 200 m
/-- The limit of |s| now, in 2^-40. (DEDUCED: log entry 83) -/
def Device.steerLimit (d : Device) : Nat :=
  let ppm := if d.tow.phase = .fine ∨ d.tow.slew then min d.steerMax (d.get F.TOW_SERVO_CFG_ALIGN_PPM) else d.steerMax
  ppm * 2 ^ 40 / 10 ^ 6
/-- The largest change of s since the last steering, in 2^-40: SLEW ppb per ms. -/
def Device.slewLimit (d : Device) : Nat :=
  max 1 (d.get F.TOW_SERVO_CFG2_SLEW) * 2 ^ 40 * ((d.tow.ticks - d.tow.steeredAt) * 16) / 10 ^ 15
def Device.steer (d : Device) : Int := sgn 32 (d.get F.TOW_STEER_S)

/-- The bandwidth of the tracking loop in 0.1 mHz: BW, in MASTER_PPS BW / 10,000 (R225). -/
def Device.servoBandwidth (d : Device) : Nat := 10 ^ d.get F.TOW_SERVO_CFG_BW * (if d.role = 2 then 1 else 10000)

/-- The change of s that a measurement asks for: in tracking that of a proportional-integral loop of the bandwidth in force, whose gains
the spec leaves open; in the fine step and while an offset is slewed out a free one (R225, R232). (DESIGN CHOICE: log entry 17) -/
def Device.servoStep (d : Device) (theta : Int) : Int × Device :=
  if d.tow.phase == .fine || d.tow.slew then
    let (r, d) := d.draw 2
    ((r % 2 ^ 42 : Nat) - 2 ^ 41, d)
  else
    let (kp, ki) := Config.servoGains d.servoBandwidth (d.tow.ticks - d.tow.steeredAt)
    (divRound (kp * (theta - d.tow.lastTheta) + ki * theta) (2 ^ 20), d)

/-- The servo turns a measurement θ into a steering value within its limits. It is held while paused (R225).
(DESIGN CHOICE: log entry 17) -/
def Device.servo (d : Device) (theta : Int) : Device :=
  if d.is F.TOW_STAT_SERVO_PAUSED then d
  else
    let (step, d) := d.servoStep theta
    let s := clampAbs d.steerLimit (d.steer + clampAbs d.slewLimit step)
    (d.put F.TOW_STEER_S 0 (unsgn 32 s)).onTow (fun t => { t with
      hist := (s :: t.hist).take (2 ^ d.get F.TOW_SERVO_CFG_HOLD_LOG), steeredAt := t.ticks, lastTheta := theta })

def sumInt (l : List Int) : Int := l.foldl (· + ·) 0

/-! ## Holdover (R234-R237) -/

/-- The cause of a holdover that is entered again while it lasts: a needed jump stands until R223 ends it, then DEPTH 15 (R234, R237).
(DEDUCED: log entry 85) -/
def HoldCause.or (old new : HoldCause) : HoldCause :=
  if old = .jump ∨ new = .jump then .jump else if new = .loop then .loop else old

/-- The Towpath enters holdover: s at its mean, which a paused servo and MASTER_REFBUS leave as it is, the state, the events and the
record (R223, R225, R234). (DEDUCED: log entries 83, 85, 136) -/
def Device.enterHoldover (d : Device) (cause : HoldCause) : Device :=
  if d.towHold then d.onTow (fun t => { t with cause := t.cause.or cause })
  else
    let d := d.onTow (fun t => { t with cause, slew := false })
    let last := d.tow.hist.take (2 ^ d.get F.TOW_SERVO_CFG_HOLD_LOG)
    let d := if last.isEmpty || d.role == 0 || d.is F.TOW_STAT_SERVO_PAUSED then d
      else d.put F.TOW_STEER_S 0 (unsgn 32 (divRound (sumInt last) last.length))
    (((d.put F.TOW_STAT_HOLDOVER 0 1).event F.TOW_EVT_HOLDOVER_ENTERED).event F.TOW_EVT_SRC_LOST).towReport 0 3 0

/-- Holdover ends. -/
def Device.leaveHoldover (d : Device) : Device :=
  if d.towHold then
    ((d.onTow (fun t => { t with cause := .none })).put F.TOW_STAT_HOLDOVER 0 0).event F.TOW_EVT_HOLDOVER_LEFT
  else d

/-- ALT_WHARF can take over (R236). -/
def Device.altQualifies (d : Device) : Bool :=
  let h := d.tow.alt
  d.role == 3 && d.tow.autoAlt && !d.is F.TOW_STAT_USING_ALT && d.farQualifies h && (d.towWharf h).accepted
    && !d.is F.TOW_WHF_STAT_STEP h
    && decide ((sgn 32 (d.get F.TOW_WHF_OFFSET_THETA_PS h)).natAbs ≤ d.get F.TOW_SKEW_CFG_ALT_TOL)

/-- The source of the role fails: a FOLLOWER_WHARF may change to ALT_WHARF, else holdover (R234, R236). -/
def Device.sourceLost (d : Device) : Device :=
  if !d.tow.engaged || d.towHold then d
  else if d.altQualifies then
    (((d.onTow (fun t => { t with slew := true })).put F.TOW_STAT_USING_ALT 0 1).event F.TOW_EVT_ALT_SWITCH).towReport 0 4 0
  else d.enterHoldover .source

/-- The follow wharf's far end reaches DEPTH 15 (R237). -/
def Device.towLoop (d : Device) : Device :=
  if d.tow.engaged then ((d.event F.TOW_EVT_LOOP).towReport 0 5 0).enterHoldover .loop else d

/-! ## Alignment (R222, R223) -/

/-- TICK_IN is read in PLAIN format, for its edges alone (R221, R226). (DEDUCED: log entry 84) -/
def Device.tickPlain (d : Device) : Bool := d.role == 1 && !d.tow.tickWord
/-- The words read so far are given up; the edges are counted on. -/
def Tick.restart (k : Tick) : Tick := { k with pos := none, spoiled := false, good := 0, badWords := 0, markerMissing := false }

/-- An alignment begins from step 1 under the registers; a Towpath that was engaged stays so, and the loss of its source is still one.
(DEDUCED: log entry 80) -/
def Device.startAlign (d : Device) (startUp : Bool) : Device :=
  let r := d.get F.TOW_ROLE_ROLE
  let d := d.when (d.tickPlain != (r == 1 && !d.is F.TOW_ROLE_TICK_FMT)) (fun d => d.onTow (fun t => { t with tick := t.tick.restart }))
  let d := d.onTow (fun t => { t with
    phase := .source, startUp, fallback := false, good := 0, full := none, slew := false,
    loadSrc := d.get F.TOW_ROLE_LOAD_SRC, tickWord := d.is F.TOW_ROLE_TICK_FMT, autoAlt := d.is F.TOW_ROLE_AUTO_ALT,
    pri := d.get F.TOW_FOLLOW_PRI_WHARF, alt := d.get F.TOW_FOLLOW_ALT_WHARF })
  ((d.put F.TOW_STAT_ROLE 0 (if 4 < r then 0 else r)).put F.TOW_STAT_ALIGNING 0 1).put F.TOW_STAT_USING_ALT 0 0

/-- A write of TOW_REALIGN: ALLOW_JUMP is kept, GO starts an alignment. -/
def Device.wrRealign (d : Device) (v : Nat) : Device :=
  let d := d.put F.TOW_REALIGN_ALLOW_JUMP 0 (bits v 0 0)
  if bit v 31 then d.startAlign false else d

/-- The alignment completes its step 4 (R223); every holdover it ends is left. (DEDUCED: log entry 80) -/
def Device.setAligned (d : Device) : Device :=
  let d := (d.onTow (fun t => { t with phase := .idle, engaged := true })).leaveHoldover
  let d := ((d.put F.TOW_STAT_ALIGNED 0 1).put F.TOW_STAT_ALIGNING 0 0).put F.TOW_STAT_REALIGN_NEEDED 0 0
  (d.event F.TOW_EVT_ALIGNED_SET).event F.TOW_EVT_REALIGN_DONE

/-- The role takes its count from LOAD_SRC at the coarse step (R221). -/
def Device.loadsCount (d : Device) : Bool :=
  d.role == 0 || d.role == 2 || (d.role == 1 && !d.tow.tickWord)

/-- The PTP time of the next boundary less EPOCH, in 2^-16 ns: local time less the client's offset from its master (R221, R244). -/
def Device.ptpAtNext (d : Device) : Option Int :=
  match d.tpt.ptp.fwd, d.tpt.ptp.delay with
  | some fwd, some delay =>
    some (((d.tow.pound.toNat : Int) + 1) * 2 ^ 20 - (fwd - delay) - (d.epochSeconds * 10 ^ 9 * 2 ^ 16 : Nat))
  | _, _ => none

/-- The count that LOAD_SRC gives for the next boundary (R221). -/
def Device.loadCount (d : Device) : Pound :=
  let raw : Pound :=
    if d.tow.loadSrc = 2 then d.tow.pound + 1
    else if d.tow.loadSrc = 1 ∧ d.tow.fallback = false then BitVec.ofInt 64 (divRound (d.ptpAtNext.getD 0) (2 ^ 20))
    else BitVec.ofNat 64 (d.get F.TOW_LOAD_HI_POUND * 2 ^ 32 + d.get F.TOW_LOAD_LO_POUND)
  if d.role = 2 ∧ d.tow.loadSrc ≠ 2 then BitVec.ofNat 64 (raw.toNat / 62500000 * 62500000) else raw

/-- The pound that the next boundary opens after the coarse step: the loaded count, or P + 1 + J with J the full offset Θ over
16,000 ps rounded half up when |Θ| is 8,000 ps or more; none when the count does not change (R221, R223). -/
def Device.coarseTarget (d : Device) : Option Pound :=
  let next := d.tow.pound + 1
  let theta := d.tow.full.getD 0
  let n := if d.loadsCount then d.loadCount
    else if 8000 ≤ theta.natAbs then next + BitVec.ofInt 64 (divRound theta 16000)
    else next
  if n = next then none else some n

/-- The coarse step can be taken: the source is valid, a PTP load has its port in SLAVE, and the roles that take no load have formed
the full offset. -/
def Device.coarseReady (d : Device) : Bool :=
  d.tow.phase == .source && d.sourceOk
    && (if d.loadsCount then d.tow.loadSrc != 1 || d.tow.fallback || (d.portSlave && d.ptpAtNext.isSome) else d.tow.full.isSome)

/-- After the coarse step: MASTER_REFBUS is aligned at once, the other roles steer (R223). -/
def Device.afterCoarse (d : Device) : Device :=
  let d := d.onTow (fun t => { t with phase := .fine, engaged := true, good := 0 })
  if d.role = 0 then d.setAligned else d

/-- A TOW_REALIGN that needs a jump without ALLOW_JUMP: REALIGN_NEEDED and holdover (R223). -/
def Device.jumpRefused (d : Device) : Device :=
  ((d.onTow (fun t => { t with phase := .idle, engaged := true })).put F.TOW_STAT_ALIGNING 0 0).put F.TOW_STAT_REALIGN_NEEDED 0 1
    |>.enterHoldover .jump

/-- TOW_LOAD_FALLBACK: the port is not SLAVE in time, so TOW_LOAD is used (R221). -/
def Device.loadFallback (d : Device) : Device :=
  if d.tow.phase == .source && d.loadsCount && d.tow.loadSrc == 1 && !d.portSlave && !d.tow.fallback then
    (d.onTow (fun t => { t with fallback := true })).towReport 0 1 0
  else d

/-- |θ| lies in the alignment window. -/
def Device.inWindow (d : Device) (theta : Int) : Bool := decide (theta.natAbs ≤ d.get F.TOW_SERVO_CFG2_ALIGN_WIN_PS)

/-- A measurement in the fine step steers and counts toward ALIGNED. A holdover for a lost source ends by R234; one for a needed jump
lasts until step 4 (R223). (DEDUCED: log entry 85) -/
def Device.fineMeasure (d : Device) (theta : Int) : Device :=
  if d.towHold && !d.sourceOk then d
  else
    let d := d.when (d.tow.cause != .jump && decide (theta.natAbs ≤ 8000)) (·.leaveHoldover)
    (d.onTow (fun t => { t with good := if d.inWindow theta then t.good + 1 else 0 })).servo theta

/-- A measurement with no alignment in progress: in holdover it may end it (R232, R234), otherwise it is tracked (R225). -/
def Device.trackMeasure (d : Device) (theta : Int) : Device :=
  if d.towHold then
    if d.tow.cause = .jump ∨ d.sourceOk = false then d
    else if 8000 < theta.natAbs then d.put F.TOW_STAT_REALIGN_NEEDED 0 1
    else (d.leaveHoldover.onTow (fun t => { t with slew := !d.inWindow theta })).servo theta
  else (d.onTow (fun t => { t with slew := t.slew && !d.inWindow theta })).servo theta

/-- A measurement θ of the role's source, in ps, and the full offset Θ it gives, which the coarse step needs (R223). While the servo is
paused it is shown and goes no further (R225). (DEDUCED: log entry 136) -/
def Device.towMeasure (d : Device) (theta full : Int) : Device :=
  let d := (d.put F.TOW_OFFSET_THETA_PS 0 (unsgnSat 32 theta)).onTow (fun t => { t with full := some full })
  if d.role == 0 || d.is F.TOW_STAT_SERVO_PAUSED then d
  else match d.tow.phase with
    | .source => d
    | .fine => d.fineMeasure theta
    | .idle => if d.tow.engaged then d.trackMeasure theta else d

/-! ## Delay over wharves (R228-R233) -/

/-- The pound a frame's POUND8 names, within -128 to +127 of the local count (R228). -/
def Device.framePound (d : Device) (p8 : Nat) : Int :=
  let base : Int := (d.tow.pound.toNat : Int) - 128
  base + ((p8 : Int) - base) % 256

/-- The arrival offset of a frame, in ps, from its arrival at ps within the present pound (R228). -/
def Device.arrivalOffset (d : Device) (p8 : Nat) (ps : Int) : Int := ((d.tow.pound.toNat : Int) - d.framePound p8) * 16000 + ps

/-- A frame of the report lane of a trained wharf arrives: its offset is kept for this device's reports (R229).
(DESIGN CHOICE: log entry 90) -/
def Device.noteArrival (d : Device) (h p8 : Nat) (ps : Int) : Device :=
  if d.stampBusy (h / 4) then d.onTowWharf h (fun w => { w with last := none })
  else d.onTowWharf h (fun w => { w with last := some (p8, d.arrivalOffset p8 ps) })

/-- A Towpath report arrives on wharf h in a frame with this POUND8 at ps (R229, R230, R233, R234, R237). -/
def Device.takeReport' (d : Device) (h : Nat) (slot : BitVec 112) (p8 : Nat) (ps : Int) : Device :=
  let x := slot.toNat
  let reaches := bits x 103 100 == 15 && d.get F.TOW_WHF_STAT_FAR_DEPTH h != 15
  let a := d.arrivalOffset p8 ps
  let b := sgn 32 (bits x 91 60)
  let d := ((d.put F.TOW_WHF_STAT_REPORT_OK h 1).put F.TOW_WHF_STAT_FAR_ROLE h (bits x 107 106)).put
    F.TOW_WHF_STAT_FAR_HOLDOVER h (bits x 105 105)
  let d := (d.put F.TOW_WHF_STAT_FAR_ALIGNED h (bits x 104 104)).put F.TOW_WHF_STAT_FAR_DEPTH h (bits x 103 100)
  let d := if bits x 91 60 = 2 ^ 31 || d.stampBusy (h / 4) then d
    else d.onTowWharf h (fun w => { w with sumA := w.sumA + a, sumRtt := w.sumRtt + (a + b) % 4096000, n := w.n + 1 })
  let far : Pound := BitVec.ofNat 64 (bits x 55 0 * 256 + p8)
  let d := d.onTowWharf h (fun w => { w with farOff := (far - BitVec.ofInt 64 (d.framePound p8)).toInt })
  let hi := ((d.framePound p8) / 256) % (2 ^ 56 : Nat)
  let d := d.when (hi != (bits x 55 0 : Nat)) (fun d => (d.event F.TOW_EVT_POUND_MISMATCH).towReport 0 9 h)
  if d.role = 3 ∧ d.followWharf = h then
    if reaches then d.towLoop else d.when (!d.farQualifies h) (fun d => d.sourceLost)
  else d

/-- AVG in force. -/
def Device.towAvg (d : Device) : Nat := min 14 (max 4 (d.get F.TOW_SERVO_CFG_AVG))

/-- The one-way delay from the far end with the compensation in force, in ps (R230). -/
def Device.delayRx (d : Device) (h : Nat) : Int := divRound (d.get F.TOW_WHF_RTT_RTT_REF h : Nat) 2 + (d.towWharf h).asym

/-- The skew check of a measurement: θ_ref is captured from the first accepted one after training, and from the next one after a write
of REF_CAPTURE; while STEP stands θ is that of the held compensation (R233). A measurement that a paused servo leaves unjudged is no accepted
one. (DEDUCED: log entries 86, 136) -/
def Device.skewCheck (d : Device) (h : Nat) (theta : Int) : Device :=
  let w := d.towWharf h
  if w.capture || (w.thetaRef.isNone && !d.is F.TOW_WHF_STAT_STEP h && !d.is F.TOW_STAT_SERVO_PAUSED) then
    (d.onTowWharf h (fun w => { w with thetaRef := some theta, capture := false })).put F.TOW_WHF_STAT_SKEW h 0
  else
    d.when (w.thetaRef.any (fun r => decide (d.get F.TOW_SKEW_CFG_SKEW_LIM < (theta - r).natAbs))) (fun d =>
      ((d.put F.TOW_WHF_STAT_SKEW h 1).event F.TOW_EVT_PARTNER_SKEW).towReport 0 8 h)

/-- The waiting resolution is applied to a standing step with this measurement: the new reference and asymmetry, or REJECT (R232). -/
def Device.applyAction (d : Device) (h : Nat) (rtt : Nat) : Device :=
  let w := d.towWharf h
  let act := if d.is F.TOW_WHF_STAT_STEP h then w.action else 0
  let d := d.onTowWharf h (fun w => { w with
    action := 0, run := if act = 0 then w.run else 0,
    asym := if act = 1 then 0 else if act = 2 then sgn 32 (d.get F.TOW_WHF_NEW_ASYM_ASYM_PS) else w.asym })
  if act = 3 then d.put F.TOW_WHF_STAT_UNTRUSTED h 1
  else if act = 0 then d
  else ((d.put F.TOW_WHF_RTT_RTT_REF h rtt).put F.TOW_WHF_STAT_STEP h 0).put F.TOW_WHF_STAT_UNTRUSTED h 0

/-- A measured round trip is accepted, or is a step and holds the compensation (R231). -/
def Device.judgeRtt (d : Device) (h : Nat) (rtt : Nat) : Device :=
  let w := d.towWharf h
  let lim := max 1 (d.get F.TOW_STEP_CFG_STEP_PS)
  let near := decide (((rtt : Int) - (d.get F.TOW_WHF_RTT_RTT_REF h : Nat)).natAbs ≤ lim)
  if !w.accepted then (d.put F.TOW_WHF_RTT_RTT_REF h rtt).onTowWharf h (fun w => { w with accepted := true })
  else if d.is F.TOW_WHF_STAT_STEP h then
    if near && !d.is F.TOW_WHF_STAT_UNTRUSTED h then
      let n := d.get F.TOW_STEP_CFG_RETURN_N
      let d := d.onTowWharf h (fun w => { w with run := w.run + 1 })
      if n ≠ 0 ∧ n ≤ w.run + 1 then
        (((d.put F.TOW_WHF_STAT_STEP h 0).put F.TOW_WHF_RTT_RTT_REF h rtt).onTowWharf h (fun w => { w with run := 0 })).event
          F.TOW_EVT_STEP_RETURNED
      else d
    else d.onTowWharf h (fun w => { w with run := 0 })
  else if near then d.put F.TOW_WHF_RTT_RTT_REF h rtt
  else
    let d := (((d.put F.TOW_WHF_STAT_STEP h 1).onTowWharf h (fun w => { w with run := 0 })).bump F.TOW_WHF_STEP_CNT_STEPS h).event
      F.TOW_EVT_DELAY_STEP
    let d := d.towReport 0 7 h
    if d.role = 3 ∧ d.followWharf = h then d.sourceLost else d

/-- WHARF_DELAY_MEASUREMENT: 2^AVG pounds have passed; the means are formed, judged, and may reach the servo (R230-R233). While the servo
is paused the compensation is held and the measurement is not judged (R21). (DEDUCED: log entry 136) -/
def Device.delayMeasurement (d : Device) (h : Nat) : Device :=
  let w := d.towWharf h
  let len := 2 ^ d.towAvg
  if !d.wharfUp h || decide (d.tow.ticks < w.since + len) then d
  else
    let d := d.onTowWharf h (fun w => { w with sumA := 0, sumRtt := 0, n := 0, since := d.tow.ticks, stamp := none,
                                               missed := if 2 * w.n < len then w.missed + 1 else 0 })
    let mine := decide (d.role = 3) && d.followWharf == h
    if 2 * w.n < len then
      let d := d.put F.TOW_WHF_STAT_MISSING h (min 0xFFFF (d.get F.TOW_WHF_STAT_MISSING h + 1))
      d.when (mine && decide (4 ≤ w.missed + 1)) (fun d => d.sourceLost)
    else
      let rtt := (divRound w.sumRtt w.n).toNat
      let a := divRound w.sumA w.n
      let d := d.put F.TOW_WHF_LAST_RTT_M h rtt
      let d := if d.is F.TOW_STAT_SERVO_PAUSED then d else (d.applyAction h rtt).judgeRtt h rtt
      let theta := d.delayRx h - a
      let d := (d.put F.TOW_WHF_OFFSET_THETA_PS h (unsgn 32 theta)).skewCheck h theta
      d.when (decide (d.role = 3) && d.followWharf == h && !d.is F.TOW_WHF_STAT_STEP h)
        (fun d => d.towMeasure theta (theta + 16000 * (d.towWharf h).farOff))

/-- A write of TOW_WHF_RESOLVE for the selected wharf: an action while STEP is clear is ignored (R232). -/
def Device.wrResolve (d : Device) (v : Nat) : Device :=
  let h := d.get F.TOW_WHF_SEL_WHARF
  let d := d.when (bit v 31) (fun d => d.onTowWharf h (fun w => { w with capture := true }))
  d.when (bits v 1 0 != 0 && d.is F.TOW_WHF_STAT_STEP h) (fun d => d.onTowWharf h (fun w => { w with action := bits v 1 0 }))

/-- A wharf goes down, or is reset (`fresh`), which also ends a step and its resolution: its reports and its skew reference are lost; the
follow wharf's loss is a loss of source (R230, R233, R234). -/
def Device.towWharfDown (d : Device) (h : Nat) (fresh : Bool) : Device :=
  let d := (d.onTowWharf h (fun w => { w with sumA := 0, sumRtt := 0, n := 0, thetaRef := none, last := none, stamp := none,
                                              accepted := w.accepted && !fresh, action := if fresh then 0 else w.action,
                                              run := if fresh then 0 else w.run })).put F.TOW_WHF_STAT_REPORT_OK h 0
  let d := d.when fresh (fun d => (d.put F.TOW_WHF_STAT_STEP h 0).put F.TOW_WHF_STAT_UNTRUSTED h 0)
  d.when (decide (d.role = 3) && d.followWharf == h) (fun d => d.sourceLost)

/-- The Towpath report this device sends on a Towpath-mode wharf in the frame of pound p (R229). -/
def Device.reportSlot (d : Device) (h : Nat) (p : Pound) : BitVec 112 :=
  let w := d.towWharf h
  let hold := d.towHold || d.mpl0Hold
  let role := if d.role = 3 ∨ d.role = 4 then 2 else 1
  let (m8, arr) := match w.last with
    | some (p8, a) => (p8, unsgn 32 a)
    | none => (0, 2 ^ 31)
  BitVec.ofNat 112 (9 * 2 ^ 108 + role * 2 ^ 106 + ofBool hold * 2 ^ 105 + ofBool d.towAligned * 2 ^ 104 + d.towDepth * 2 ^ 100
    + m8 % 256 * 2 ^ 92 + arr * 2 ^ 60 + p.toNat / 256)

/-! ## TICK line (R226, R227) -/

/-- The 88 bits of the TICK word whose marker pound is m: the number of the next marker pound, status with the holdover of the Towpath or
of MPL0, CRC (R226, R234, R235). -/
def Device.tickWordFor (d : Device) (m : Pound) : Nat :=
  let status := ofBool d.towAligned * 128 + ofBool (d.towHold || d.mpl0Hold) * 64 + ofBool d.todValid * 32 + d.towDepth
  let body := (m + 128).toNat * 256 + status
  body * 65536 + crc16 ((leBytes 9 body).reverse)

/-- TICK_OUT at the boundary that opens pound p: starts at a marker pound, parked while disabled; symbols 0, 1 and 2 for the marker. -/
def Device.tickOutBoundary (d : Device) (p : Pound) : Device :=
  let i := p.toNat % 128
  let on := d.is F.TOW_TICK_CFG_TICK_OUT_EN && (d.tow.tickOn || i == 0)
  let word := if i = 0 then d.tickWordFor p else d.tow.tickSend
  d.onTow (fun t => { t with
    tickOn := on, tickSend := if on then word else 0,
    tickSymbol := if on then some (if i = 0 then 2 else if i ≤ 88 then word / 2 ^ (88 - i) % 2 else 0) else none })

/-- A received high time in ps as a symbol: 0, 1, or 2 for the marker (R226). -/
def tickSymbolOf (high : Nat) : Nat := if high < 6000 then 0 else if high ≤ 10000 then 2 else 1

/-- A received word has a bad CRC (R227). -/
def Device.tickWordBad (d : Device) : Device :=
  (d.onTow (fun t => { t with tick := { t.tick with good := 0, badWords := t.tick.badWords + 1 } })).bump F.TOW_TICK_ERR_CNT_CRC_ERR

/-- A word that disagrees with the local count by θ is not followed (R227); in a role that takes its measurements from words θ is shown, and a
holdover whose source is valid again sets REALIGN_NEEDED for it (R232, R234). (DEDUCED: log entry 84) -/
def Device.tickMismatch (d : Device) (theta : Int) : Device :=
  let d := (d.event F.TOW_EVT_POUND_MISMATCH).towReport 1 9 0
  if decide (d.role = 4) || (decide (d.role = 1) && d.tow.tickWord) then
    (d.put F.TOW_OFFSET_THETA_PS 0 (unsgnSat 32 theta)).when
      (d.towHold && d.tow.cause != .jump && d.sourceOk && !d.is F.TOW_STAT_SERVO_PAUSED && decide (8000 < theta.natAbs))
      (fun d => d.put F.TOW_STAT_REALIGN_NEEDED 0 1)
  else d

/-- A complete received word of 88 bits (R226, R227): judged by its CRC, then, with the Towpath ALIGNED and no alignment in progress,
compared with the local count. (DEDUCED: log entry 84) -/
def Device.tickWordDone (d : Device) (word : Nat) : Device :=
  if crc16 ((leBytes 9 (word / 65536)).reverse) = word % 65536 then
    let m : Pound := BitVec.ofNat 64 (word / 2 ^ 24) - 128
    let (at', ps) := d.tow.tick.marker
    let p := d.tow.pound - BitVec.ofNat 64 (d.tow.ticks - at')
    let a : Int := (p - m).toInt * 16000 + ps
    let theta : Int := (d.get F.TOW_TICK_CFG_TICK_DELAY_PS : Nat) - a
    let d := d.onTow (fun t => { t with tick := { t.tick with good := t.tick.good + 1, badWords := 0, depth := word / 65536 % 16 } })
    if d.towAligned && d.tow.phase == .idle && decide (8000 ≤ theta.natAbs) then d.tickMismatch theta
    else d.when (decide (d.role = 4) || (decide (d.role = 1) && d.tow.tickWord)) (fun d => d.towMeasure theta theta)
  else d.tickWordBad

/-- The place of an edge in its word: the pounds since its marker edge, by the edges' times, so that a missing edge shifts nothing (R226,
R227). (DEDUCED: log entry 84) -/
def Device.tickPlace (d : Device) (ps : Int) : Nat :=
  (divRound (((d.tow.ticks : Int) - d.tow.tick.marker.1) * 16000 + ps - d.tow.tick.marker.2) 16000).toNat

/-- The symbol of place i of a word of which the places up to j have come (R226, R227): a bit whose edge is missing spoils the word, and
a marker that is not there when due is missing. (DEDUCED: log entry 84) -/
def Device.tickSymbolAt (d : Device) (j i sym : Nat) (start : Tick) : Device :=
  let k := d.tow.tick
  if i ≤ j then d.onTow (fun t => { t with tick := { k with spoiled := true } })
  else if i = 128 ∧ sym = 2 then d.onTow (fun t => { t with tick := start })
  else if 128 ≤ i then d.onTow (fun t => { t with tick := { k with pos := none, markerMissing := true } })
  else if i ≤ 88 ∧ sym = 2 then (d.onTow (fun t => { t with tick := start })).tickWordBad
  else
    let bad := k.spoiled || (decide (j < 88) && i != j + 1)
    let w := if i ≤ 88 then k.word * 2 ^ (i - j) + sym else k.word
    let d := d.onTow (fun t => { t with tick := { k with pos := some i, word := w, spoiled := bad } })
    if j < 88 ∧ 88 ≤ i then (if bad then d.tickWordBad else d.tickWordDone w) else d

/-- One symbol of a word (R226). -/
def Device.tickSymbolIn (d : Device) (sym : Nat) (ps : Int) : Device :=
  let start : Tick := { d.tow.tick with pos := some 0, word := 0, spoiled := false, marker := (d.tow.ticks, ps) }
  match d.tow.tick.pos with
  | none => if sym = 2 then d.onTow (fun t => { t with tick := start }) else d
  | some j => d.tickSymbolAt j (d.tickPlace ps) sym start

/-- TICK_IN_EDGE: a rising edge, read by its TDC from the present boundary, with its high time in ps (R219, R226, R227). -/
def Device.tickEdge (d : Device) (reading high : Nat) : Device :=
  if !d.tow.running then d
  else
    let ps := d.stampPs 64 reading
    let d := d.onTow (fun t => { t with tick := { t.tick with missing := 0, edge := true } })
    if d.stampBusy 64 then d
    else if d.tickPlain then
      let x := ((d.get F.TOW_TICK_CFG_TICK_DELAY_PS : Nat) - ps) % 16000
      let theta : Int := if 8000 ≤ x then x - 16000 else x
      d.towMeasure theta theta
    else d.tickSymbolIn (tickSymbolOf high) ps

/-- TICK_IN_LOST: four pounds without an edge, or in WORD format two bad words or a missing marker, lose the TICK source (R227, R234). -/
def Device.tickLost (d : Device) : Device :=
  let k := d.tow.tick
  if decide (4 ≤ k.missing) || (!d.tickPlain && (decide (2 ≤ k.badWords) || k.markerMissing)) then
    let d := d.onTow (fun t => { t with tick := { k with run := 0, good := 0, badWords := 0, markerMissing := false, pos := none } })
    d.when (decide (d.role = 1) || decide (d.role = 4)) (fun d => d.sourceLost)
  else d

/-- A boundary passes for TICK_IN: pounds with an edge are counted in a row, and so is one without. (DEDUCED: log entry 84) -/
def Device.tickInBoundary (d : Device) : Device :=
  let k := d.tow.tick
  let d := d.onTow (fun t => { t with tick := { k with edge := false, missing := if k.edge then k.missing else k.missing + 1,
                                                       run := if k.edge then k.run + 1 else 0 } })
  d.when (!k.edge) (fun d => d.bump F.TOW_TICK_ERR_CNT_MISSING)

/-! ## PPS (R239, R240) -/

/-- A stamp in units of 16 ns / 2^24. -/
def PF.time (x : PF) : Int := (x.p.toNat : Int) * 2 ^ 24 + x.f.toNat
/-- A time in ns in those units times 16. -/
def nsTime (n : Int) : Int := n * 2 ^ 24
def Device.ppsTol (d : Device) : Nat := max 1 (d.get F.TOW_PPS_TOL_TOL_NS)

/-- The offset of an accepted PPS_IN edge in ps: the nearest whole-second boundary less the corrected stamp (R239). -/
def Device.ppsTheta (d : Device) (x : PF) : Int :=
  let b := divRound x.time (62500000 * 2 ^ 24) * 62500000
  divRound ((b * 2 ^ 24 - x.time) * 16000) (2 ^ 24) + (d.get F.TOW_PPS_CFG_PPS_IN_DELAY_PS : Nat)

/-- An accepted edge in MASTER_PPS: a step after ALIGNED, else a measurement; in the realignment that resolves a step it is a measurement
(R239). -/
def Device.ppsAccept (d : Device) (x : PF) : Device :=
  let d := (d.onTow (fun t => { t with ppsAccepted := some x })).bump F.TOW_PPS_CNT_ACCEPTED
  if d.role = 2 then
    let theta := d.ppsTheta x
    if d.towAligned && d.tow.phase == .idle && decide (1000 * d.ppsTol < theta.natAbs) then
      (((d.put F.TOW_OFFSET_THETA_PS 0 (unsgnSat 32 theta)).event F.TOW_EVT_PPS_STEP).towReport 0 6 0).enterHoldover .source
    else d.towMeasure theta theta
  else d

/-- A reading of the stamp TDC of PPS_IN as P:f, to 10 ps (R219, R281). (DEDUCED: log entry 137) -/
def Device.ppsStamp (d : Device) (reading : Nat) : PF :=
  let t := divRound (d.stampTime 65 reading) 640 * 10 * 2 ^ 24 / 16000
  { p := d.tow.pound + BitVec.ofInt 64 (t / 2 ^ 24), f := BitVec.ofInt 24 t }

/-- PPS_IN_EDGE: a rising edge, read by its TDC from the present boundary (R219, R239). (DEDUCED: log entry 85) -/
def Device.ppsEdge (d : Device) (reading : Nat) : Device :=
  if !d.is F.TOW_PPS_CFG_PPS_IN_EN || !d.tow.running || d.stampBusy 65 then d
  else
    let x := d.ppsStamp reading
    let d := d.onTow (fun t => { t with ppsLast := some x })
    match d.tow.ppsAccepted with
    | some y =>
      if (x.time - y.time) * 16 < nsTime (10 ^ 9 - d.ppsTol) then d.bump F.TOW_PPS_CNT_SPURIOUS else d.ppsAccept x
    | none => d.ppsAccept x

/-- PPS_IN_LOST: no edge accepted within 1 s + PPS_TOL of the last (R239). -/
def Device.ppsLost (d : Device) : Device :=
  match d.tow.ppsAccepted with
  | some y =>
    if d.is F.TOW_PPS_CFG_PPS_IN_EN && decide (nsTime (10 ^ 9 + d.ppsTol) < ((d.tow.pound.toNat + 1 : Nat) * 2 ^ 24 - y.time) * 16) then
      (d.onTow (fun t => { t with ppsAccepted := none })).when (decide (d.role = 2)) (fun d => d.sourceLost)
    else d
  | none => d

/-- WIDTH of PPS_OUT in force. -/
def Device.ppsWidth (d : Device) : Nat := min 62499999 (max 1 (d.get F.TOW_PPS_OUT_WIDTH_WIDTH))

/-- PPS_OUT_PULSE: PPS_OUT rises at a pound that matches the offset (R240). -/
def Device.ppsOutPulse (d : Device) : Device :=
  let off := d.get F.TOW_PPS_OUT_OFFSET_OFFSET % 62500000
  if d.is F.TOW_PPS_CFG_PPS_OUT_EN && d.tow.running && decide ((d.tow.pound.toNat + 62500000 - off) % 62500000 = 0) then
    d.onTow (fun t => { t with ppsHigh := some d.ppsWidth })
  else d

/-- PPS_OUT_END: PPS_OUT falls after its width (R240). -/
def Device.ppsOutEnd (d : Device) : Device :=
  if d.tow.ppsHigh = some 0 then d.onTow (fun t => { t with ppsHigh := none }) else d

/-- A write of TOW_PPS_CFG; PPS_OUT is low while disabled. -/
def Device.wrPpsCfg (d : Device) (v : Nat) : Device :=
  let d := ((d.put F.TOW_PPS_CFG_PPS_OUT_EN 0 (bits v 31 31)).put F.TOW_PPS_CFG_PPS_IN_EN 0 (bits v 30 30)).put
    F.TOW_PPS_CFG_PPS_IN_DELAY_PS 0 (bits v 23 0)
  if bit v 31 then d else d.onTow (fun t => { t with ppsHigh := none })

/-! ## Meanings -/

/-- TOW_LOAD_FALLBACK (R221). -/
def execTowLoadFallback (s : State) : Host.Outcome State Fault Refusal := .next (s.on (·.loadFallback))
def execWharfDelayMeasurement (h : Byte) (s : State) : Host.Outcome State Fault Refusal :=
  .next (s.on (·.delayMeasurement h.toNat))
/-- TOW_WHF_RESOLVE: the write of the register (R232, R233). -/
def execTowWhfResolve (v : Word) (s : State) : Host.Outcome State Fault Refusal := .next (s.on (·.wrResolve v.toNat))
def execTickInEdge (reading high : Nat) (s : State) : Host.Outcome State Fault Refusal := .next (s.on (·.tickEdge reading high))
def execTickInLost (s : State) : Host.Outcome State Fault Refusal := .next (s.on (·.tickLost))
def execPpsInEdge (reading : Nat) (s : State) : Host.Outcome State Fault Refusal := .next (s.on (·.ppsEdge reading))
def execPpsInLost (s : State) : Host.Outcome State Fault Refusal := .next (s.on (·.ppsLost))
def execPpsOutPulse (s : State) : Host.Outcome State Fault Refusal := .next (s.on (·.ppsOutPulse))
def execPpsOutEnd (s : State) : Host.Outcome State Fault Refusal := .next (s.on (·.ppsOutEnd))

end Sys2Proof.Machine
end

