-- ==== Sys2Proof/Machine/TimePort.lean ====
section
/-! DEFINITION. The TIME port: filter, receive ring, transmit buffers, timestamp queue, the Keeper-run PTP client (R242-R247). The message
layout of the client is that of IEEE 1588-2019, which the spec names (R243, R244). -/

namespace Sys2Proof.Machine

def Device.onTpt (d : Device) (f : Tpt → Tpt) : Device := { d with tpt := f d.tpt }
def Device.onPtp (d : Device) (f : Ptp → Ptp) : Device := d.onTpt (fun t => { t with ptp := f t.ptp })
def Device.tptOpen (d : Device) : Bool := !d.blockClosed 116
/-- MODE in force: 3 acts as 0. -/
def Device.tptMode (d : Device) : Nat := if d.get F.TPT_CTRL_MODE = 3 then 0 else d.get F.TPT_CTRL_MODE
def Device.portState (d : Device) : Nat := d.get F.TPT_STAT_PORT_STATE
/-- PORT_STATE changes, with its event. -/
def Device.setPortState (d : Device) (st : Nat) : Device :=
  if d.portState = st then d else (d.put F.TPT_STAT_PORT_STATE 0 st).event F.TPT_EVT_STATE_CHANGE

/-! ## Frames (R242) -/

/-- n bytes of a frame from i, most significant first. -/
def beAt (l : List Byte) (i n : Nat) : Nat := leNat ((l.drop i).take n).reverse
/-- The MAC address of the port. -/
def Device.macAddr (d : Device) : Nat := d.get F.TPT_MAC_HI_MAC * 2 ^ 32 + d.get F.TPT_MAC_LO_MAC

/-- Where the payload of a frame starts, behind at most one 802.1Q tag. -/
def payloadAt (l : List Byte) : Nat := if beAt l 12 2 = 0x8100 then 18 else 14

/-- Where the PTP header of a frame starts, when a transport of R242 carries one. (PRESUMED: log entry 87) -/
def Device.ptpHeader (d : Device) (l : List Byte) : Option Nat :=
  let off := payloadAt l
  let ty := beAt l (off - 2) 2
  let dest := beAt l 0 6
  if ty = 0x88F7 then
    if d.is F.TPT_CTRL_L2_EN && (dest == 0x011B19000000 || dest == d.macAddr) then some off else none
  else if ty = 0x0800 then
    let ihl := beAt l off 1 % 16 * 4
    let ip := beAt l (off + 16) 4
    let port := beAt l (off + ihl + 2) 2
    if d.is F.TPT_CTRL_UDP_EN && beAt l (off + 9) 1 == 17 && (ip == 0xE0000181 || ip == d.get F.TPT_IPV4_ADDR)
        && (port == 319 || port == 320) then some (off + ihl + 8) else none
  else none

/-- A frame passes to PTP handling: a PTP header of the port's domain, and a good FCS. -/
def Device.ptpAccepts (d : Device) (l : List Byte) (good : Bool) : Option Nat :=
  match d.ptpHeader l with
  | some h => if good && beAt l (h + 4) 1 == d.get F.TPT_CTRL_DOMAIN then some h else none
  | none => none

def Device.dropFrame (d : Device) : Device := (d.bump F.TPT_RX_DROP_CNT_DROPPED).event F.TPT_EVT_RX_DROP

/-! ## Receive ring (R245) -/

def Device.rxSlot (d : Device) (r : Nat) : RxSlot := Store.getD d.tpt.slots r {}
def Device.setRxSlot (d : Device) (r : Nat) (x : RxSlot) : Device := d.onTpt (fun t => { t with slots := Store.put t.slots {} r x })

/-- A frame enters the lowest free slot after RX_HEAD, or is dropped (R245). -/
def Device.ringTake (d : Device) (l : List Byte) (at' : PF) : Device :=
  let head := d.get F.TPT_STAT_RX_HEAD
  match ((List.range 16).map (fun i => (head + i) % 16)).find? (fun r => !(d.rxSlot r).valid) with
  | some r =>
    if l.length ≤ 256 then (d.setRxSlot r { valid := true, bytes := l, p := at'.p, f := at'.f }).event F.TPT_EVT_RX_AVAIL
    else d.dropFrame
  | none => d.dropFrame

/-- A write of TPT_RX_REL: GO clears the head slot and advances RX_HEAD (R245). -/
def Device.wrRxRel (d : Device) (v : Nat) : Device :=
  if bit v 0 then
    let head := d.get F.TPT_STAT_RX_HEAD
    (d.setRxSlot head { d.rxSlot head with valid := false }).put F.TPT_STAT_RX_HEAD 0 (head + 1)
  else d

/-! ## The Keeper's client (R244) -/

/-- A stamp as local time since pound 0, in 2^-16 ns. -/
def PF.localTime (x : PF) : Int := (x.p.toNat : Int) * 2 ^ 20 + (x.f.toNat / 16 : Nat)
/-- A PTP timestamp of ten bytes, in 2^-16 ns. -/
def ptpTime (l : List Byte) (i : Nat) : Int := ((beAt l i 6 * 10 ^ 9 + beAt l (i + 6) 4) * 2 ^ 16 : Nat)
/-- correctionField of a message with header at h, in 2^-16 ns. -/
def ptpCorrection (l : List Byte) (h : Nat) : Int := sgn 64 (beAt l (h + 8) 8)

/-- One Announce is better than another: priority1, class, accuracy, variance, priority2, identity, steps (BMCA; IEEE 1588).
(PRESUMED: log entry 87) -/
def announceRank (body : List Byte) : Nat :=
  beAt body 13 1 * 2 ^ 136 + beAt body 14 4 * 2 ^ 104 + beAt body 18 1 * 2 ^ 96 + beAt body 19 8 * 2 ^ 16 + beAt body 27 2

/-- An Announce selects or confirms the parent, whose UTC data is published. (PRESUMED: log entry 87) -/
def Device.takeAnnounce (d : Device) (l : List Byte) (h : Nat) : Device :=
  let body := (l.drop (h + 34)).take 30
  let who := (l.drop (h + 20)).take 10
  let better := match d.tpt.ptp.parent with
    | some (b, w) => w == who || decide (announceRank body < announceRank b)
    | none => true
  if better then
    let fresh := match d.tpt.ptp.parent with
      | some (_, w) => w != who
      | none => true
    let d := d.onPtp (fun p => { p with parent := some (body, who), udp := beAt l (payloadAt l - 2) 2 == 0x0800, sync := if fresh then none else p.sync,
                                        fwd := if fresh then none else p.fwd, delay := if fresh then none else p.delay })
    let flags := beAt l (h + 7) 1
    let d := ((d.put F.TPT_UTC_UTC_OFFSET 0 (beAt body 10 2)).putB F.TPT_UTC_LEAP61 0 (bit flags 0)).putB F.TPT_UTC_LEAP59 0 (bit flags 1)
    let d := d.putB F.TPT_UTC_UTC_VALID 0 (bit flags 2)
    if fresh || d.portState < 3 then d.setPortState 3 else d
  else d

/-- Offset and delay are known: they are published, the port is SLAVE, and an EPOCH never set is set to the second (R241, R244). -/
def Device.publishPtp (d : Device) : Device :=
  match d.tpt.ptp.fwd, d.tpt.ptp.delay with
  | some fwd, some delay =>
    let off := fwd - delay
    let d := if d.is F.TOW_EPOCH_HI_EPOCH_VALID then d
      else
        let e := unsgn 48 (divRound (-off) (10 ^ 9 * 2 ^ 16))
        ((d.put F.TOW_EPOCH_LO_SECONDS 0 (e % 2 ^ 32)).put F.TOW_EPOCH_HI_SECONDS 0 (e / 2 ^ 32)).put F.TOW_EPOCH_HI_EPOCH_VALID 0 1
    let tod := off + (d.epochSeconds * 10 ^ 9 * 2 ^ 16 : Nat)
    ((d.put F.TPT_TOD_OFFSET_OFFSET_NS 0 (unsgnSat 32 (divRound tod (2 ^ 16)))).put F.TPT_PATH_DELAY_DELAY_PS 0
      (unsgn 32 (divRound (delay * 1000) (2 ^ 16)))).setPortState 4
  | _, _ => d

/-- A frame of the parent's port. -/
def Device.fromParent (d : Device) (l : List Byte) (h : Nat) : Bool :=
  match d.tpt.ptp.parent with
  | some (_, w) => w == (l.drop (h + 20)).take 10
  | none => false

/-- A Sync: with two steps it waits for its Follow_Up, else it gives the forward time (R243). (PRESUMED: log entry 87) -/
def Device.takeSync (d : Device) (l : List Byte) (h : Nat) (at' : PF) : Device :=
  let t2 := at'.localTime
  if bit (beAt l (h + 6) 1) 1 then d.onPtp (fun p => { p with sync := some (beAt l (h + 30) 2, t2, ptpCorrection l h) })
  else (d.onPtp (fun p => { p with fwd := some (t2 - ptpTime l (h + 34) - ptpCorrection l h) })).publishPtp

/-- The Follow_Up of the Sync that waits. (PRESUMED: log entry 87) -/
def Device.takeFollowUp (d : Device) (l : List Byte) (h : Nat) : Device :=
  match d.tpt.ptp.sync with
  | some (seq, t2, c) =>
    if seq = beAt l (h + 30) 2 then
      (d.onPtp (fun p => { p with sync := none, fwd := some (t2 - ptpTime l (h + 34) - c - ptpCorrection l h) })).publishPtp
    else d
  | none => d

/-! ### Delay_Req (R243, R244) -/

/-- The identity of the port: the MAC address widened to 64 bits, and port number 1. (PRESUMED: log entry 87) -/
def Device.portIdentity (d : Device) : List Byte :=
  let m := beBytes 6 d.macAddr
  m.take 3 ++ [0xFF, 0xFE] ++ m.drop 3 ++ [0, 1]

/-- The Delay_Req message of a sequence number. (PRESUMED: log entry 87) -/
def Device.delayReqMessage (d : Device) (seq : Nat) : List Byte :=
  [0x01, 0x12, 0, 44, BitVec.ofNat 8 (d.get F.TPT_CTRL_DOMAIN), 0, 0, 0] ++ List.replicate 12 0 ++ d.portIdentity ++ beBytes 2 seq
    ++ [0x01, 0x7F] ++ List.replicate 10 0

/-- The one's complement sum of IPv4 over a list of 16-bit words, complemented. -/
def ipChecksum (l : List Nat) : Nat :=
  let s := l.foldl (· + ·) 0
  let s := s % 65536 + s / 65536
  65535 - (s % 65536 + s / 65536)

/-- A PTP event message as a multicast frame of the layer-2 or the UDP/IPv4 transport (R242, R243). (PRESUMED: log entry 87) -/
def Device.eventFrame (d : Device) (udp : Bool) (msg : List Byte) : List Byte :=
  let mac := beBytes 6 d.macAddr
  if udp then
    let src := d.get F.TPT_IPV4_ADDR
    let len := msg.length + 28
    let check := ipChecksum [0x4500, len, 0, 0, 0x0111, src / 65536, src % 65536, 0xE000, 0x0181]
    beBytes 6 0x01005E000181 ++ mac ++ beBytes 2 0x0800 ++ beBytes 2 0x4500 ++ beBytes 2 len ++ beBytes 4 0 ++ beBytes 2 0x0111
      ++ beBytes 2 check ++ beBytes 4 src ++ beBytes 4 0xE0000181 ++ beBytes 2 319 ++ beBytes 2 319 ++ beBytes 2 (msg.length + 8)
      ++ beBytes 2 0 ++ msg
  else beBytes 6 0x011B19000000 ++ mac ++ beBytes 2 0x88F7 ++ msg

/-- The Delay_Resp to the request that waits, addressed to this port: the mean path delay. (PRESUMED: log entry 87) -/
def Device.takeDelayResp (d : Device) (l : List Byte) (h : Nat) : Device :=
  match d.tpt.ptp.req, d.tpt.ptp.fwd with
  | some (seq, t3), some fwd =>
    if seq = beAt l (h + 30) 2 ∧ (l.drop (h + 44)).take 10 = d.portIdentity then
      let back := ptpTime l (h + 34) - t3 - ptpCorrection l h
      (d.onPtp (fun p => { p with req := none, delay := some (divRound (fwd + back) 2), interval := sgn 8 (beAt l (h + 33) 1) })).publishPtp
    else d
  | _, _ => d

/-- A PTP message reaches the client. -/
def Device.clientTake (d : Device) (l : List Byte) (h : Nat) (at' : PF) : Device :=
  if d.kpr.restarting then d
  else
    let d := if d.portState = 1 then d.setPortState 2 else d
    let ty := beAt l h 1 % 16
    if ty = 0xB then d.takeAnnounce l h
    else if !d.fromParent l h then d
    else if ty = 0 then d.takeSync l h at'
    else if ty = 8 then d.takeFollowUp l h
    else if ty = 9 then d.takeDelayResp l h
    else d

/-- The stamp of a TIME message: the pound and the fraction in which the first bit after its SFD passed the balls (R219); without a pound, the
present one. (DESIGN CHOICE: log entry 163) -/
def Device.messageStamp (d : Device) (p : Option Pound) (f : BitVec 24) : PF := { p := p.getD d.tow.pound, f }

/-- TIME_RX_FRAME: a frame (destination address to payload) with its FCS judgement and its stamp (R242-R245). -/
def Device.timeRx (d : Device) (l : List Byte) (good : Bool) (at' : PF) : Device :=
  if !d.tptOpen || d.tptMode == 0 then d
  else match d.ptpAccepts l good with
    | none => d.dropFrame
    | some h => if d.tptMode = 2 then d.ringTake l at' else d.clientTake l h at'

/-- PTP_DELAY_REQ: the client sends a Delay_Req on the transport of its parent, with its stamp (R243, R244). -/
def Device.delayReq (d : Device) (at' : PF) : Device :=
  if d.portInUse && !d.kpr.restarting && decide (3 ≤ d.portState) && decide (d.portState ≤ 4) then
    d.onPtp (fun p => { p with req := some (p.reqSeq, at'.localTime), reqSeq := (p.reqSeq + 1) % 65536,
                               sent := d.eventFrame p.udp (d.delayReqMessage p.reqSeq) })
  else d

/-- PTP_ANNOUNCE_TIMEOUT: the client leaves SLAVE and listens (R244). -/
def Device.announceTimeout (d : Device) : Device :=
  if d.portInUse && !d.kpr.restarting && decide (3 ≤ d.portState) && decide (d.portState ≤ 4) then
    (d.onPtp (fun p => { p with parent := none, sync := none, fwd := none, delay := none, req := none })).setPortState 2
  else d

/-- The client starts again from INITIALIZING (R244, R354). -/
def Device.clientInit (d : Device) : Device :=
  if d.portInUse then (d.onPtp (fun p => { reqSeq := p.reqSeq })).setPortState 1 else d

/-- TIME_LINK_CHANGE (R242). -/
def Device.linkChange (d : Device) (up : Bool) : Device :=
  if !d.tptOpen || d.is F.TPT_STAT_LINK == up then d
  else
    let d := ((d.putB F.TPT_STAT_LINK 0 up).putB F.TPT_STAT_AN_DONE 0 (up && d.is F.TPT_CTRL_AN_EN)).event F.TPT_EVT_LINK_CHANGE
    if up && d.portState == 1 then d.setPortState 2 else d

/-! ## Transmission and timestamps (R246) -/

/-- Byte i of transmit buffer b. -/
def Device.txByte (d : Device) (b i : Nat) : Byte := Store.getD d.tpt.tx (b * 256 + i) 0

/-- A frame as it leaves the port: preamble and start delimiter, the frame padded to 60 bytes, the frame check sequence (R246).
(PRESUMED: log entry 87) -/
def wireFrame (l : List Byte) : List Byte :=
  let body := l ++ List.replicate (60 - l.length) 0
  List.replicate 7 0x55 ++ [0xD5] ++ body ++ leBytes 4 (crc32 body)

/-- The frame that buffer b is sending. -/
def Device.bufferFrame (d : Device) (b : Nat) : Option (List Byte) :=
  (Store.get? d.tpt.sending b).map (fun x => wireFrame ((List.range x.1).map (d.txByte b)))

/-- A write of TPT_TX_CTRL: GO sends a buffer in host-run mode, behind a frame in progress, or is refused while the buffer is sending (R244,
R246). -/
def Device.wrTxCtrl (d : Device) (v : Nat) : Device :=
  let d := ((d.put F.TPT_TX_CTRL_BUF 0 (bits v 30 30)).put F.TPT_TX_CTRL_PTP_OFS 0 (bits v 23 16)).put F.TPT_TX_CTRL_LEN 0 (bits v 8 0)
  let b := bits v 30 30
  if !bit v 31 || !d.tptOpen || d.tptMode != 2 then d
  else if bit (d.get F.TPT_STAT_TX_BUSY) b then d.event F.TPT_EVT_TX_REFUSED
  else
    (d.putBit F.TPT_STAT_TX_BUSY 0 b true).onTpt (fun t => { t with
      sending := Store.set t.sending b (max 14 (min 252 (bits v 8 0)), bits v 23 16), wire := some (t.wire.getD b) })

/-- A stamp enters the lowest entry whose VALID is clear, or is dropped (R246). -/
def Device.enterStamp (d : Device) (b ofs : Nat) (at' : PF) : Device :=
  match (List.range 4).find? (fun n => !d.is F.TPT_TXTS_FRAC_VALID n) with
  | none => (d.bump F.TPT_TXTS_OVF_CNT_DROPPED).event F.TPT_EVT_TS_OVERRUN
  | some n =>
    let byte := fun i => (d.txByte b (ofs + i)).toNat
    let d' := ((d.put F.TPT_TXTS_KEY_DOMAIN n (byte 4)).put F.TPT_TXTS_KEY_MSG_TYPE n (byte 0 % 16)).put F.TPT_TXTS_KEY_SEQ_ID n
      (byte 30 * 256 + byte 31)
    let d' := (d'.put F.TPT_TXTS_PLO_POUND n (bits at'.p.toNat 31 0)).put F.TPT_TXTS_PHI_POUND n (bits at'.p.toNat 63 32)
    ((d'.put F.TPT_TXTS_FRAC_FRAC n at'.f.toNat).put F.TPT_TXTS_FRAC_VALID n 1).event F.TPT_EVT_TS_AVAIL

/-- TIME_TX_DONE: the frame in progress, of buffer b, has been sent with its stamp; the other buffer's follows it (R246). -/
def Device.txDone (d : Device) (b : Nat) (at' : PF) : Device :=
  match if d.tpt.wire = some b then Store.get? d.tpt.sending b else none with
  | none => d
  | some (_, ofs) =>
    let d := (d.putBit F.TPT_STAT_TX_BUSY 0 b false).onTpt (fun t =>
      let l := Store.erase t.sending b
      { t with sending := l, wire := l.head?.map (·.1) })
    if !d.tptOpen then d
    else
      (d.event F.TPT_EVT_TX_DONE).when (d.tptMode == 2 && decide ((d.txByte b ofs).toNat % 16 ≤ 3)) (fun d => d.enterStamp b ofs at')

/-- A timestamp entry is cleared. -/
def Device.clearStamp (d : Device) (n : Nat) : Device :=
  let d := ((d.put F.TPT_TXTS_KEY_DOMAIN n 0).put F.TPT_TXTS_KEY_MSG_TYPE n 0).put F.TPT_TXTS_KEY_SEQ_ID n 0
  (((d.put F.TPT_TXTS_PLO_POUND n 0).put F.TPT_TXTS_PHI_POUND n 0).put F.TPT_TXTS_FRAC_FRAC n 0).put F.TPT_TXTS_FRAC_VALID n 0

/-- A write of TPT_TXTS_REL (R246). -/
def Device.wrTxtsRel (d : Device) (v : Nat) : Device :=
  forEach (List.range 4) (fun n d => d.when (bit v n) (fun d => d.clearStamp n)) d

/-! ## Mode change and close (R247) -/

/-- The port is disabled: DISABLED, every slot and queue entry cleared without a count; only a frame in progress is sent to its end. -/
def Device.portDisable (d : Device) : Device :=
  let d := d.setPortState 0
  let d := (d.put F.TPT_STAT_TX_BUSY 0 (d.tpt.wire.elim 0 (2 ^ ·))).onTpt (fun t => { t with
    sending := t.sending.filter (fun e => t.wire == some e.1) })
  let d := d.onTpt (fun t => { t with slots := [], ptp := { reqSeq := t.ptp.reqSeq } })
  forEach (List.range 4) (fun n d => d.clearStamp n) d

/-- A write of TPT_CTRL: a change of MODE disables the port; in Keeper-run mode the client then starts (R244, R247). -/
def Device.wrTptCtrl (d : Device) (v : Nat) : Device :=
  let change := bits v 31 30 != d.get F.TPT_CTRL_MODE
  let d := ((d.put F.TPT_CTRL_MODE 0 (bits v 31 30)).put F.TPT_CTRL_IF 0 (bits v 29 29)).put F.TPT_CTRL_AN_EN 0 (bits v 28 28)
  let d := ((d.put F.TPT_CTRL_UDP_EN 0 (bits v 25 25)).put F.TPT_CTRL_L2_EN 0 (bits v 24 24)).put F.TPT_CTRL_DOMAIN 0 (bits v 15 8)
  if change then (if d.tptOpen && !d.kpr.restarting then d.portDisable.clientInit else d.portDisable) else d

/-! ## Meanings -/

def execTimeRxFrame (frame : List Byte) (good : Bool) (f : BitVec 24) (s : State) (p : Option Pound := none) :
    Host.Outcome State Fault Refusal :=
  .next (s.on (fun d => d.timeRx frame good (d.messageStamp p f)))
def execPtpDelayReq (f : BitVec 24) (s : State) (p : Option Pound := none) : Host.Outcome State Fault Refusal :=
  .next (s.on (fun d => d.delayReq (d.messageStamp p f)))
def execPtpAnnounceTimeout (s : State) : Host.Outcome State Fault Refusal := .next (s.on (·.announceTimeout))
def execTimeLinkChange (up : Bool) (s : State) : Host.Outcome State Fault Refusal := .next (s.on (·.linkChange up))
/-- RX_RELEASE: the write of TPT_RX_REL with GO set (R245). -/
def execRxRelease (s : State) : Host.Outcome State Fault Refusal := .next (s.on (·.ifOpen 0x39 (·.wrRxRel 1)))
/-- TIME_TX_SEND: the write of TPT_TX_CTRL with GO set (R246). -/
def execTimeTxSend (v : Word) (s : State) : Host.Outcome State Fault Refusal :=
  .next (s.on (·.ifOpen 0x39 (·.wrTxCtrl (setBit v.toNat 31))))
def execTimeTxDone (b : Fin 2) (f : BitVec 24) (s : State) (p : Option Pound := none) : Host.Outcome State Fault Refusal :=
  .next (s.on (fun d => d.txDone b (d.messageStamp p f)))
/-- TXTS_RELEASE: the write of TPT_TXTS_REL (R246). -/
def execTxtsRelease (v : Word) (s : State) : Host.Outcome State Fault Refusal := .next (s.on (·.ifOpen 0x39 (·.wrTxtsRel v.toNat)))
/-- TIME_MODE_CHANGE: the write of TPT_CTRL (R247). -/
def execTimeModeChange (v : Word) (s : State) : Host.Outcome State Fault Refusal := 
  .next (s.on (·.ifOpen 0x39 (fun d => (d.wrTptCtrl v.toNat).markDirty)))

end Sys2Proof.Machine
end

