-- ==== Sys2Proof/Machine/Wharves.lean ====
section
/-! DEFINITION. The Mbogrim lane protocol: frames, received slots, training, credits, bonded wharves, wharf down, power states (R251-R276). -/

namespace Sys2Proof.Machine

def Device.setLane (d : Device) (n st : Nat) : Device := d.put F.LANE_STAT_STATE n st
/-- A lane in EXCHANGE, ACTIVE or STANDBY. -/
def Device.inService (d : Device) (n : Nat) : Bool := d.laneState n == 6 || d.laneState n == 7 || d.laneState n == 10
/-- The index of a lane in its wharf (R252). -/
def Device.laneIdx (d : Device) (n : Nat) : Nat := n - d.wharfOf n
def Device.openQuads (d : Device) : List Nat := (List.range 64).filter (fun q => !d.blockClosed q)
/-- The wharves of a quad in the layout in force. -/
def Device.wharvesOf (d : Device) (q : Nat) : List Nat := (range (4 * q) (4 * q + 4)).filter (fun h => d.wharfOf h == h)
def Device.openWharves (d : Device) : List Nat := d.openQuads.flatMap d.wharvesOf
def Device.openLanes (d : Device) : List Nat := d.openQuads.flatMap (fun q => range (4 * q) (4 * q + 4))

/-- A step placed at the boundary that comes next: it sees that boundary's pound. (DEDUCED: log entry 93) -/
def Device.atNext (d : Device) (f : Device → Device) : Device :=
  let p := d.tow.pound
  (f (d.onTow (fun t => { t with pound := p + 1 }))).onTow (fun t => { t with pound := p })

/-! ## The frame (R255, R259) -/

/-- A frame: header, two slots, CRC. -/
def frameBits (p : Pound) (alive : Nat) (slot0 slot1 : BitVec 112) : BitVec 256 :=
  let body : BitVec 240 := (p.truncate 8 ++ BitVec.ofNat 4 alive ++ 0#4 ++ slot0 ++ slot1 : BitVec 240)
  (body ++ BitVec.ofNat 16 (crc16 ((leBytes 30 body.toNat).reverse)) : BitVec 256)

def frameP8 (f : BitVec 256) : Nat := bits f.toNat 255 248
def frameAlive (f : BitVec 256) : Nat := bits f.toNat 247 244
def frameCredit (f : BitVec 256) : Nat := bits f.toNat 243 240
def frameSlot0 (f : BitVec 256) : BitVec 112 := f.extractLsb' 128 112
def frameSlot1 (f : BitVec 256) : BitVec 112 := f.extractLsb' 16 112
/-- The CRC of a frame is good. -/
def frameGood (f : BitVec 256) : Bool := crc16 ((leBytes 30 (f.toNat / 65536)).reverse) == f.toNat % 65536
def slotType (s : BitVec 112) : Nat := bits s.toNat 111 108

/-- This device's CAPABILITY slot for lane n (R264). -/
def Device.capability (d : Device) (n : Nat) (joined : Bool) : BitVec 112 :=
  let h := d.wharfOf n
  BitVec.ofNat 112 (12 * 2 ^ 108 + 1 * 2 ^ 104 + d.wharfWidth h * 2 ^ 98 + d.laneIdx n * 2 ^ 96 + ofBool joined * 2 ^ 95
    + ofBool (d.wharf h).towpath * 2 ^ 94)

/-- A CREDIT request (R267). -/
def creditRequest (xseq : Nat) : BitVec 112 := BitVec.ofNat 112 (11 * 2 ^ 108 + xseq * 2 ^ 96)

/-- The Barge in a slot of a lane, or an empty slot. -/
def bargeAt (l : List Barge) (n slot : Nat) : BitVec 112 :=
  match l.find? (fun b => b.lane == n && b.slot == slot) with
  | some b => b.bits
  | none => 0

/-- The two slots that lane n sends in the frame of pound p, given the Barges that commit at its boundary (R253, R261). -/
def Device.slotsToSend (d : Device) (n : Nat) (p : Pound) (l : List Barge) : BitVec 112 × BitVec 112 :=
  let h := d.wharfOf n
  let w := d.wharf h
  let rep := d.reportLane h == some n
  match d.laneState n with
  | 4 | 9 => (d.capability n false, 0)
  | 5 => (d.capability n (d.lane n).deskewed, 0)
  | 6 => (if w.requesting && rep then creditRequest (d.get F.WHF_CREDIT_XSEQ h) else bargeAt l n 0, bargeAt l n 1)
  | 7 => if w.towpath then (0, if rep then d.reportSlot h p else 0) else (bargeAt l n 0, bargeAt l n 1)
  | _ => (0, 0)

/-- The lane sends frames in this state: CAPS, DESKEW, EXCHANGE, ACTIVE, MISMATCH, STANDBY. -/
def framing (st : Nat) : Bool := st == 4 || st == 5 || st == 6 || st == 7 || st == 9 || st == 10

/-- The lane sends the training pattern: in ACQUIRE, READY and QUIET, and in WAIT once it has been shed (R260, R261, R269).
(DEDUCED: log entry 139) -/
def training (st : Nat) (shed : Bool) : Bool := st == 2 || st == 3 || st == 8 || (st == 1 && shed)

/-- The histories of the scrambler and of the PRBS31 generator move over what the lane has sent in the pound that ends (R254, R260). -/
def Lane.sent (x : Lane) (st : Nat) : Lane :=
  match x.frame with
  | some f => { x with scr := BitVec.ofNat 58 (scrambleOver x.scr.toNat f) }
  | none => if framing st || training st x.shed then { x with prbs := BitVec.ofNat 31 (prbsOver x.prbs.toNat) } else x

/-- Each lane sends its frame of the pound that opens (R255). -/
def Device.sendFrames (d : Device) (l : List Barge) : Device :=
  let p := d.tow.pound
  forEach d.openLanes (fun n d =>
    let d := d.onLane n (fun x => x.sent (d.laneState n))
    if framing (d.laneState n) then
      let a := ((d.lane n).aliveTx + 1) % 16
      let (s0, s1) := d.slotsToSend n p l
      d.onLane n (fun x => { x with aliveTx := a, frame := some (frameBits p a s0 s1) })
    else d.when (d.lane n).frame.isSome (fun d => d.onLane n (fun x => { x with frame := none }))) d

/-! ## Lane states (R261-R263, R269) -/

/-- What of a lane outlasts an attempt: its frame count, its missed deadlines, its line coding and its drive. -/
def Lane.kept (x : Lane) : Lane := { aliveTx := x.aliveTx, misses := x.misses, scr := x.scr, prbs := x.prbs, eq := x.eq }

/-- An attempt of a lane ends: in WAIT, or OFF when it is not enabled or its quad is not open. -/
def Device.laneRest (d : Device) (n : Nat) : Device :=
  let d := d.setLane n (if d.is F.LANE_CTRL_LANE_EN n && d.blockOpened (n / 4) then 1 else 0)
  let d := ((d.put F.LANE_STAT_JOINED n 0).put F.LANE_STAT_MISMATCH_WHY n 0).put F.LANE_STAT_SIG_DET n 0
  let d := ((d.put F.LANE_STAT_CDR_LOCK n 0).put F.LANE_STAT_BLOCK_ALIGN n 0)
  d.onLane n Lane.kept

/-- Keeper firmware writes the sampler trims of a lane from the in-force image as it enters ACQUIRE; a lane without a valid result takes
mid-range trims (R280, R290, R291). (DESIGN CHOICE: log entry 15) -/
def Device.takeTrims (d : Device) (n : Nat) : Device :=
  let m := d.cal.inForce
  let code := fun k => if imgValid m 4 n then imgByte m (codeBase 4 n + k) else 0x80
  let pma := forEach (List.range 16) (fun k t => Store.set t (n * 32 + 16 + k) (BitVec.ofNat 32 (code k))) d.whf.pma
  { d with whf := { d.whf with pma } }

/-- The receiver of a lane begins again, within its attempt or with a new one. -/
def Device.laneAgain (d : Device) (n st : Nat) (restart : Bool) : Device :=
  ((d.setLane n st).put F.LANE_STAT_MISMATCH_WHY n 0).onLane n (fun x =>
    { x.kept with start := if restart then d.tow.ticks else x.start })

/-- The word of LANE_TX_EQ as it acts: SWING above 8 as 8, PRE above 6 as 6, POST above 19 as 19 (R280). -/
def Device.txEqWord (d : Device) (n : Nat) : Word :=
  BitVec.ofNat 32 (min 8 (d.get F.LANE_TX_EQ_SWING n) * 2 ^ 12 + min 6 (d.get F.LANE_TX_EQ_PRE n) * 2 ^ 8
    + min 19 (d.get F.LANE_TX_EQ_POST n))

/-- A lane enters ACQUIRE: it takes its trims and its transmitter the settings of LANE_TX_EQ. -/
def Device.laneReacquire (d : Device) (n : Nat) (restart : Bool) : Device :=
  ((d.takeTrims n).laneAgain n 2 restart).onLane n (fun x => { x with eq := d.txEqWord n })

/-- A joined lane fails in service; the next boundary sheds it or takes the wharf down (R269). -/
def Device.laneFail (d : Device) (n : Nat) : Device :=
  if d.inService n && d.joined n && !(d.lane n).failed then
    (d.event F.LANE_EVT_FAIL n).onLane n (fun x => { x with failed := true })
  else d

/-- LANE_CTRL.RETRAIN by the lane's state (R261). -/
def Device.laneRetrain (d : Device) (n : Nat) : Device :=
  let st := d.laneState n
  if d.inService n then d.laneFail n else if st = 0 ∨ st = 11 then d else d.laneRest n

/-- A write of LANE_CTRL: LANE_EN set moves a lane of an open quad from OFF to WAIT; LANE_EN cleared fails a lane in service, else turns
it OFF; RETRAIN acts by state (R261). -/
def Device.wrLaneCtrl (d : Device) (n v : Nat) : Device :=
  if d.blockClosed (n / 4) then d
  else
    let d := ((d.put F.LANE_CTRL_TX_INV n (bits v 2 2)).put F.LANE_CTRL_RX_INV_AUTO n (bits v 1 1)).put F.LANE_CTRL_LANE_EN n (bits v 0 0)
    let d := if bit v 0 then (if d.laneState n = 0 && d.blockOpened (n / 4) then d.setLane n 1 else d)
      else if d.inService n then d.laneFail n else if d.laneState n = 0 then d else d.laneRest n
    if bit v 3 then d.laneRetrain n else d

/-- The quads that step 7 opens: those the boot configuration names, or all without one. -/
def Boot.quads (b : Boot) : List Nat := (List.range 64).filter (fun q => !b.imageOk || b.named.contains q)

/-- During step 7 the lanes of a quad start with its group of QUADS_PER_GROUP quads, a group every STAGGER_MS (R265).
(DEDUCED: log entry 140) -/
def Device.groupDue (d : Device) (q : Nat) : Bool :=
  let size := max 1 (min 64 (d.get F.WHF_TRAIN_CFG_QUADS_PER_GROUP))
  d.get F.SYS_BOOT_STAT_STEP != 6 || !d.boot.quads.contains q
    || decide (d.boot.sevenAt + d.boot.quads.idxOf q / size * d.get F.WHF_TRAIN_CFG_STAGGER_MS * 62500 ≤ d.tow.ticks)

/-- TRAINING_START: Keeper firmware starts an attempt of a lane in WAIT; MODE takes force at a training (R253, R265).
(DEDUCED: log entry 91) -/
def Device.trainingStart (d : Device) (n : Nat) : Device :=
  if d.laneState n == 1 && d.groupDue (n / 4) && !d.kpr.restarting && !d.blockClosed (n / 4) && !d.calRuns 4 n then
    let h := d.wharfOf n
    let d := if d.wharfUp h then d else d.onWharf h (fun w => { w with towpath := d.is F.WHF_CFG_MODE h })
    d.laneReacquire n true
  else d

/-- ACQUIRE_DONE: the receiver is ready; inverted PRBS31 needs RX_INV_AUTO (R261, R263). -/
def Device.acquireDone (d : Device) (n : Nat) (inverted : Bool) : Device :=
  if d.laneState n == 2 && (!inverted || d.is F.LANE_CTRL_RX_INV_AUTO n) then
    (((d.setLane n 3).put F.LANE_STAT_SIG_DET n 1).put F.LANE_STAT_CDR_LOCK n 1).putB F.LANE_STAT_RX_INV n inverted
  else d

/-- CAPS_ENTER: two far markers with TSTATE 2 have been seen; the lane is in CAPS from the next boundary (R261). -/
def Device.capsEnter (d : Device) (n : Nat) : Device :=
  if d.laneState n == 3 then d.onLane n (fun x => { x with capsDue := true }) else d

/-- BACKOFF_CAP_LOG in force. -/
def Device.backoffCap (d : Device) : Nat := min 8 (d.get F.WHF_TRAIN_CFG_BACKOFF_CAP_LOG)

/-- TRAINING_DEADLINE: the lane enters QUIET (R262). None passes in the pound in which the attempt began or a loss of signal restarted its
deadline (R263, R276). (DESIGN CHOICE: log entry 9) -/
def Device.trainingDeadline (d : Device) (n : Nat) : Device :=
  let st := d.laneState n
  if 2 ≤ st ∧ st ≤ 5 ∧ (d.lane n).start ≠ d.tow.ticks then
    let k := min (d.lane n).misses d.backoffCap
    let d := d.laneAgain n 8 false
    let d := (d.onLane n (fun x => { x with misses := x.misses + 1 })).put F.LANE_STAT_BACKOFF_K n k
    (((d.event F.LANE_EVT_DEADLINE n).event F.LANE_EVT_QUIET n).bump F.LANE_RETRY_CNT_RETRIES n).report 8 0 1 n
  else d

/-- QUIET_BACKOFF_END (R262). -/
def Device.backoffEnd (d : Device) (n : Nat) : Device := if d.laneState n = 8 then d.laneRest n else d

/-- LOS is set and counted. -/
def Device.countLos (d : Device) (n : Nat) : Device :=
  ((d.put F.LANE_STAT_SIG_DET n 0).bump F.LANE_RETRY_CNT_LOS n).event F.LANE_EVT_LOS n

/-- LOSS_OF_SIGNAL by the lane's state; `back`: the input has risen above the assert threshold again, where the receiver is watched (R263).
(DEDUCED: log entry 91) -/
def Device.lossOfSignal (d : Device) (n : Nat) (back : Bool) : Device :=
  let st := d.laneState n
  if st ≤ 1 ∨ st = 11 then d
  else if back then d.put F.LANE_STAT_SIG_DET n 1
  else if st ≤ 5 then (d.countLos n).laneReacquire n true
  else if d.inService n then (d.countLos n).laneFail n
  else d.countLos n

/-- CDR_LOCK_LOSS: CDR lock, or block alignment alone, is lost with the signal present (R263, R269); `back`: it is found again.
(DEDUCED: log entry 91) -/
def Device.cdrLoss (d : Device) (n : Nat) (alignmentOnly back : Bool) : Device :=
  let st := d.laneState n
  if st ≤ 1 ∨ st = 11 then d
  else if back then d.put (if alignmentOnly then F.LANE_STAT_BLOCK_ALIGN else F.LANE_STAT_CDR_LOCK) n 1
  else
    let d := (if alignmentOnly then d else d.put F.LANE_STAT_CDR_LOCK n 0).put F.LANE_STAT_BLOCK_ALIGN n 0
    let d := d.onLane n (fun x => { x with aliveRx := none })
    if 3 ≤ st ∧ st ≤ 5 then d.laneReacquire n false else if d.inService n then d.laneFail n else d

/-! ## A lane joins (R261, R268, R270) -/

/-- The lane leaves CAPS or DESKEW and joins its wharf: in partner mode the wharf enters EXCHANGE, in Towpath mode the lane is ACTIVE. -/
def Device.laneEnters (d : Device) (n : Nat) : Device :=
  let h := d.wharfOf n
  let up := d.wharfUp h
  let us := (d.tow.ticks - (d.lane n).start) * 2 / 125
  let kind := match (d.lane n).farCap with
    | some c => bits c.toNat 103 100
    | none => 0
  let d := ((d.put F.LANE_STAT_JOINED n 1).put F.LANE_STAT_BACKOFF_K n 0).put F.LANE_TRAIN_TIME_TIME_US n (min 0xFFFF us)
  let d := (d.event F.LANE_EVT_TRAINED n).put F.WHF_STAT_FAR_KIND h kind
  let d := d.onLane n (fun x => { x with misses := 0, bad := 0 })
  let d := if (d.wharf h).towpath then forEach (d.joinedLanes h) (fun m d => d.setLane m 7) d
    else (forEach (d.joinedLanes h) (fun m d => d.setLane m 6) d).onWharf h (fun w => { w with
      asked := false, requesting := false, grant := none, fresh := w.fresh || !up })
  if up then d.event F.WHF_EVT_REJOINED h
  else
    let d := ((d.event F.WHF_EVT_TRAINED h).put F.WHF_STAT_DOWN h 0).onWharf h (fun w => { w with dry := 0, gotValid := true })
    d.onTowWharf h (fun w => { w with since := d.tow.ticks })

/-- LANE_JOIN: JOINED stands in both directions (R270). (DEDUCED: log entry 91) -/
def Device.laneJoin (d : Device) (n : Nat) : Device :=
  if d.laneState n == 5 && (d.lane n).deskewed && (d.lane n).farJoined then d.laneEnters n else d

/-! ## Capabilities (R264) -/

/-- The lane's skew is within DESKEW_MAX_NS of the joined lanes, or else of the lanes in CAPS or DESKEW (test 5).
(DESIGN CHOICE: log entry 90) -/
def Device.skewOk (d : Device) (n : Nat) : Bool :=
  let h := d.wharfOf n
  let others := (d.wharfLanes h).filter (· != n)
  let joined := others.filter d.joined
  let peers := if joined.isEmpty then others.filter (fun m => d.laneState m == 4 || d.laneState m == 5) else joined
  let lim := 1000 * min 24 (d.get F.WHF_LINK_CFG_DESKEW_MAX_NS)
  peers.all (fun m => match (d.lane n).arr, (d.lane m).arr with
    | some a, some b => decide ((a - b).natAbs ≤ lim)
    | _, _ => true)

/-- The first test a received capability fails; 0 when it matches. -/
def Device.mismatchWhy (d : Device) (n : Nat) (cap : BitVec 112) : Nat :=
  let x := cap.toNat
  let h := d.wharfOf n
  let two := if (d.wharf h).towpath then bits x 103 100 == 0 && bit x 94
    else (bits x 103 100 == 1 || bits x 103 100 == 2) && !bit x 94 && bits x 93 87 == 64
  if bits x 107 104 ≠ 1 then 1
  else if !two then 2
  else if bits x 99 98 ≠ d.wharfWidth h then 3
  else if bits x 97 96 ≠ d.laneIdx n then 4
  else if !d.skewOk n then 5
  else 0

/-- A lane fails a test: MISMATCH, with its event and record (R264). -/
def Device.enterMismatch (d : Device) (n : Nat) (cap : BitVec 112) (why : Nat) : Device :=
  let d := (d.setLane n 9).put F.LANE_STAT_MISMATCH_WHY n why
  ((d.onLane n (fun x => { x with capRun := 0, farCap := some cap })).event F.LANE_EVT_MISMATCH n).report 8 0 2 n

/-- A CAPABILITY arrives in CAPS: the second match in a row ends CAPS, a failed test enters MISMATCH (R261, R264). -/
def Device.capsTake (d : Device) (n : Nat) (cap : BitVec 112) : Device :=
  let why := d.mismatchWhy n cap
  if why = 0 then
    let run := (d.lane n).capRun + 1
    let d := d.onLane n (fun x => { x with capRun := run, farCap := some cap })
    if run < 2 then d
    else if d.wharfWidth (d.wharfOf n) = 0 then d.laneEnters n
    else (d.setLane n 5).onLane n (fun x => { x with deskewed := false, farJoined := bit cap.toNat 95 })
  else d.enterMismatch n cap why

/-- A CAPABILITY arrives in DESKEW: it is tested as in CAPS, and tells whether the far end has joined the lane (R261, R264). -/
def Device.deskewTake (d : Device) (n : Nat) (cap : BitVec 112) : Device :=
  let why := d.mismatchWhy n cap
  if why = 0 then d.onLane n (fun x => { x with farJoined := bit cap.toNat 95, farCap := some cap }) else d.enterMismatch n cap why

/-- A CAPABILITY arrives in MISMATCH: when it has changed and matches, the lane returns to CAPS; MISMATCH_WHY names the first test that
a changed one fails. -/
def Device.mismatchTake (d : Device) (n : Nat) (cap : BitVec 112) : Device :=
  if (d.lane n).farCap = some cap then d
  else
    let why := d.mismatchWhy n cap
    let d := d.onLane n (fun x => { x with farCap := some cap })
    if why = 0 then ((d.setLane n 4).put F.LANE_STAT_MISMATCH_WHY n 0).onLane n (fun x => { x with capRun := 0 })
    else d.put F.LANE_STAT_MISMATCH_WHY n why

/-! ## Received slots (R258, R259) -/

def Device.badSlot (d : Device) (h : Nat) : Device := (d.bump F.WHF_CNT_BAD_SLOTS h).event F.WHF_EVT_BAD_SLOT h

/-- A STATUS slot replaces WHF_PSTAT (R259). -/
def Device.takeStatus (d : Device) (h : Nat) (s : BitVec 112) : Device :=
  let x := s.toNat
  let d := (d.put F.WHF_PSTAT_PSTATE h (bits x 107 104)).put F.WHF_PSTAT_QLEVEL h (bits x 103 96)
  ((d.put F.WHF_PSTAT_TEMP h (bits x 95 88)).put F.WHF_PSTAT_ALARMS h (bits x 87 76)).event F.WHF_EVT_PSTAT_NEW h

/-- A CREDIT slot during an exchange: a grant with its XSEQ is taken, anything else is a bad slot (R267). -/
def Device.takeGrant (d : Device) (h : Nat) (s : BitVec 112) : Device :=
  let x := s.toNat
  if (d.wharf h).requesting && bit x 107 && bits x 103 96 == d.get F.WHF_CREDIT_XSEQ h then
    let d := d.onWharf h (fun w => { w with grant := some (bits x 95 88) })
    forEach (d.wharfLanes h) (fun m d => d.onLane m (fun y => { y with lastCredit := 0 })) d
  else d.badSlot h

/-- A slot of a frame in service reaches its receiver; `rep`: the frame came on the report lane (R258). -/
def Device.takeSlot (d : Device) (h n slot : Nat) (rep : Bool) (s : BitVec 112) (p8 : Nat) (ps : Int) : Device :=
  let partner := !(d.wharf h).towpath && !(rep && slot == 1)
  match slotType s with
  | 0 => d
  | 8 => if partner then d.deliverEvent s h n slot else d.badSlot h
  | 9 => if rep && slot == 1 then d.takeReport' h s p8 ps else d.badSlot h
  | 10 => if partner then d.takeStatus h s else d.badSlot h
  | 11 => if rep && slot == 0 then d.takeGrant h s else d.badSlot h
  | 13 => if partner then d.report 10 (bits s.toNat 99 88) (bits s.toNat 107 100) h else d.badSlot h
  | _ => d.badSlot h

/-- The slots of a frame outside service: CAPABILITY in slot 0 goes to training in CAPS, DESKEW and MISMATCH; other slots, and in READY every
slot that is not empty, are bad (R258). (DEDUCED: log entry 91) -/
def Device.trainSlots (d : Device) (n : Nat) (s0 s1 : BitVec 112) : Device :=
  let h := d.wharfOf n
  let st := d.laneState n
  let d := d.when (slotType s1 != 0) (fun d => d.badSlot h)
  if slotType s0 = 12 ∧ st ≠ 3 then
    if st = 4 then d.capsTake n s0
    else if st = 5 then d.deskewTake n s0
    else d.mismatchTake n s0
  else
    (d.when (slotType s0 != 0) (fun d => d.badSlot h)).onLane n (fun x => { x with capRun := 0 })

/-- Credits returned by the CREDIT field of a valid frame: those of a lane in service come back to HELD (R266). While the wharf
requests a grant the field is ignored, and after it counts from zero (R267). -/
def Device.takeCredits (d : Device) (h n : Nat) (f : BitVec 256) : Device :=
  if (d.wharf h).towpath || (d.wharf h).requesting then d
  else
    let k := (frameCredit f + 16 - (d.lane n).lastCredit) % 16
    (d.when (d.inService n) (·.giveCredits h k)).onLane n (fun x => { x with lastCredit := frameCredit f })

/-- A frame of lane n takes its place in the deskew hold of its wharf (R268). -/
def Device.holdFrame (d : Device) (n : Nat) (arr : Int) (frame : Option (BitVec 256)) : Device :=
  let h := d.wharfOf n
  d.onWharf h (fun w => { w with held := w.held ++ [{ lane := n, report := d.reportLane h == some n, arr, frame }] })

/-- A frame that is not valid: counted, its slots discarded; four in a row fail a lane in service (R257, R269). In a bonded wharf it stands for
the frame of its pound: of one released already, which has counted as invalid, or of the next (R268). (DESIGN CHOICE: log entry 90) -/
def Device.badFrame (d : Device) (n : Nat) (cnt : Fld) : Device :=
  let d := (d.bump cnt n).onLane n (fun x => { x with capRun := 0 })
  let bonded := d.inService n && d.wharfWidth (d.wharfOf n) != 0
  match bonded, (d.lane n).owed with
  | true, _ :: rest => d.onLane n (fun x => { x with owed := rest })
  | _, _ =>
    let d := (d.onLane n (fun x => { x with bad := x.bad + 1 })).when bonded (fun d => d.holdFrame n 0 none)
    if 4 ≤ (d.lane n).bad then d.laneFail n else d

/-- A valid frame (R253, R257, R263, R266, R268). One that comes after the release of its pound has counted as invalid and is dropped. -/
def Device.goodFrame (d : Device) (n : Nat) (f : BitVec 256) (ps : Int) : Device :=
  let h := d.wharfOf n
  let p8 := frameP8 f
  let a := d.arrivalOffset p8 ps
  let d := (d.onLane n (fun x => { x with arr := some a })).put F.LANE_STAT_BLOCK_ALIGN n 1
  let d := (d.put F.LANE_STAT_SIG_DET n 1).put F.LANE_STAT_CDR_LOCK n 1
  if d.inService n && (d.lane n).owed.contains p8 then
    d.onLane n (fun x => { x with owed := (x.owed.dropWhile (· != p8)).drop 1 })
  else
  let d := (d.onLane n (fun x => { x with bad := 0, owed := [] })).takeCredits h n f
  if d.inService n then
    let d := d.onWharf h (fun w => { w with gotValid := true })
    let d := if d.reportLane h = some n then d.noteArrival h p8 ps else d
    if d.wharfWidth h = 0 then
      (d.takeSlot h n 0 true (frameSlot0 f) p8 ps).takeSlot h n 1 true (frameSlot1 f) p8 ps
    else d.holdFrame n a (some f)
  else d.trainSlots n (frameSlot0 f) (frameSlot1 f)

/-- A reading of the quad's stamp TDC for a frame of lane n, in ps: a measurement in progress at an apply goes on with the code positions and
the offset it began with (R219, R290). -/
def Device.laneStamp (d : Device) (n reading : Nat) : Int :=
  match (d.towWharf (d.wharfOf n)).stamp with
  | some m => divRound (Cal.stampTime m (n / 4) reading) 64
  | none => d.stampPs (n / 4) reading

/-- LANE_FRAME_RECEIVE: a frame ends on lane n; `sync` says that its four sync headers were good, the reading of the quad's stamp TDC when
its first bit arrived, counted from the present boundary (R219, R257, R258). ALIVE follows every frame with a good CRC.
(DESIGN CHOICE: log entry 90) -/
def Device.frameReceive (d : Device) (n : Nat) (sync : Bool) (f : BitVec 256) (reading : Nat) : Device :=
  if d.blockClosed (n / 4) || !(framing (d.laneState n) || d.laneState n == 3) then d
  else
    let last := (d.lane n).aliveRx
    let d := d.when (frameGood f) (fun d => d.onLane n (fun x => { x with aliveRx := some (frameAlive f) }))
    if !sync then d.badFrame n F.LANE_FRAME_ERR_CNT_SYNC
    else if !frameGood f then d.badFrame n F.LANE_FRAME_ERR_CNT_CRC
    else if last.all (fun a => (a + 1) % 16 == frameAlive f) then d.goodFrame n f (d.laneStamp n reading)
    else d.badFrame n F.LANE_FRAME_ERR_CNT_ALIVE

/-- The frames held on lane n, in the order of their arrival. -/
def Wharf.heldOn (w : Wharf) (n : Nat) : List HeldFrame := w.held.filter (fun x => x.lane == n)

/-- The pound that a bonded wharf releases next: the place of its frames on each lane, and its POUND8, that of the first valid frame held
(R268). -/
def Device.heldPound (d : Device) (h : Nat) : Option (Nat × Nat) :=
  let l := (d.wharfLanes h).map (d.wharf h).heldOn
  match (l.filterMap (fun x => x.findIdx? (fun y => y.frame.isSome))).min? with
  | some k => (l.findSome? (fun x => (x[k]?).bind (·.frame))).map (fun f => (k, frameP8 f))
  | none => none

/-- How many frames of a lane go with the release of pound p8, whose place is k: those up to its frame of that pound, or up to an invalid one
in its place; none when neither has come (R268). -/
def heldUpTo (l : List HeldFrame) (k p8 : Nat) : Option Nat :=
  match l.findIdx? (fun x => x.frame.any (fun f => frameP8 f == p8)) with
  | some j => some (j + 1)
  | none => if (l[k]?).any (fun x => x.frame.isNone) then some (k + 1) else none

/-- A lane whose frame has not come at the release counts as invalid for it, and for the pounds before it that its place shows missing
(R268). (DESIGN CHOICE: log entry 90) -/
def Device.laneMissed (d : Device) (n lead k p8 : Nat) : Device :=
  let miss := k + 1 - lead
  let d := d.onLane n (fun x => { x with
    bad := x.bad + miss, owed := x.owed ++ (List.range miss).map (fun i => (p8 + 256 + 1 + i - miss) % 256) })
  if 4 ≤ (d.lane n).bad then d.laneFail n else d

/-- The slots of a frame taken from the hold are presented (R258, R268). -/
def Device.presentFrame (d : Device) (h : Nat) (x : HeldFrame) : Device :=
  match x.frame with
  | some f =>
    let p8 := frameP8 f
    let ps := x.arr - ((d.tow.pound.toNat : Int) - d.framePound p8) * 16000
    (d.takeSlot h x.lane 0 x.report (frameSlot0 f) p8 ps).takeSlot h x.lane 1 x.report (frameSlot1 f) p8 ps
  | none => d

/-- DESKEW_RELEASE: the frames held for one pound of a bonded wharf are released in lane order, when every joined lane's has arrived or
DESKEW_MAX_NS has passed; a lane without its frame counts as invalid. What a lane shed meanwhile had sent before is released with them (R268,
R276). (DESIGN CHOICE: log entry 90) -/
def Device.deskewRelease (d : Device) (h : Nat) (expired : Bool) : Device :=
  match d.heldPound h with
  | none => d
  | some (k, p8) =>
    let w := d.wharf h
    let upTo := fun n => heldUpTo (w.heldOn n) k p8
    let lead := fun n => min k ((w.heldOn n).takeWhile (fun x => x.frame.isNone)).length
    let absent := (d.joinedLanes h).filter (fun n => (upTo n).isNone)
    if expired || absent.isEmpty then
      let all := d.wharfLanes h
      let now := all.filterMap (fun n => (upTo n).bind (fun j => (w.heldOn n)[j - 1]?))
      let d := d.onWharf h (fun w => { w with held := all.flatMap (fun n => (w.heldOn n).drop ((upTo n).getD (lead n))) })
      let d := forEach now (fun x d => d.presentFrame h x) d
      forEach absent (fun n d => d.laneMissed n (lead n) k p8) d
    else d

/-! ## Credit exchange (R267) -/

/-- CREDIT_EXCHANGE_START: Keeper firmware starts an exchange with a new XSEQ; requests go from the next boundary. -/
def Device.exchangeStart (d : Device) (h xseq : Nat) : Device :=
  let w := d.wharf h
  if d.wharfIn h 6 && !d.kpr.restarting && !w.asked && !w.requesting && !w.towpath then
    (d.put F.WHF_CREDIT_XSEQ h xseq).onWharf h (fun w => { w with asked := true, grant := none })
  else d

/-- The Berths of the channels that wharf h serves (R271). (DEDUCED: log entry 94) -/
def Device.berthsOf (d : Device) (h : Nat) : List Nat :=
  (d.ledger.map.filter (fun e => bit e.2.toNat 31 && bits e.2.toNat 7 0 == h)).flatMap (fun e => range (32 * e.1) (32 * e.1 + 32))

/-- CREDIT_GRANT: at the boundary after the grant HELD takes FREE and the wharf is ACTIVE; after a training the Keeper re-sends the
AUTO_EMIT frames (R267, R271). Each boundary does it for a grant that has come; the row does it for the boundary that comes.
(DEDUCED: log entry 93) -/
def Device.creditGrant (d : Device) (h : Nat) : Device :=
  let w := d.wharf h
  match w.grant with
  | some free =>
    if d.wharfIn h 6 then
      let d := ((d.put F.WHF_CREDIT_HELD h (min 64 free)).put F.WHF_CREDIT_GRANT h free).event F.WHF_EVT_EXCH_DONE h
      let d := forEach (d.joinedLanes h) (fun n d => d.setLane n 7) d
      let d := if w.fresh then { d with kpr := { d.kpr with emits := d.kpr.emits ++ (d.berthsOf h).map (fun b => (b, true)) } } else d
      d.onWharf h (fun w => { w with requesting := false, grant := none, fresh := false })
    else d
  | none => d

/-- EXCH_FAIL: no grant within EXCH_TIMEOUT pounds; the wharf goes down at the next boundary. -/
def Device.exchFail (d : Device) (h : Nat) : Device :=
  let w := d.wharf h
  if w.requesting && w.grant.isNone && decide (max 16 (d.get F.WHF_LINK_CFG_EXCH_TIMEOUT) ≤ w.reqPounds) && !w.downDue then
    ((d.event F.WHF_EVT_EXCH_FAIL h).report 9 0 2 h).onWharf h (fun w => { w with downDue := true })
  else d

/-! ## Shedding and going down (R269, R271, R272) -/

/-- Pending commands whose Barge meets a condition are rejected with a code; their slots are free again. -/
def Device.rejectBarges (d : Device) (code : Code) (p : Barge → Bool) : Device :=
  let hit := fun (f : Flight) => f.barge?.any p
  let l := d.eng.flights.filter hit
  forEach l (fun f d => d.rejectCmd f.cmd code f.cmd.genSeen)
    { d with eng := { d.eng with flights := d.eng.flights.filter (fun f => !hit f) } }

/-- Another joined lane of the wharf stays in service. -/
def Device.hasOther (d : Device) (n : Nat) : Bool :=
  (d.joinedLanes (d.wharfOf n)).any (fun m => m != n && !(d.lane m).failed)

/-- The failed lane n leaves its wharf at boundary S, the present pound, and sends the training pattern from then: Barges in its slots are
LATE, their credits return. Its frames in the deskew hold were valid, and stay there with the slots they carry (R269, R276).
(DEDUCED: log entries 92, 139) -/
def Device.shedLane (d : Device) (n : Nat) : Device :=
  if (d.lane n).failed && d.joined n && d.hasOther n then
    let h := d.wharfOf n
    let k := ((d.reserved h).filter (fun b => b.lane == n)).length
    let d := ((d.rejectBarges 1 (fun b => b.wharf == h && b.lane == n)).giveCredits h k).laneRest n
    let d := d.onLane n (fun x => { x with shed := true })
    ((d.event F.LANE_EVT_SHED n).event F.WHF_EVT_SHED h).reportAt 8 0 3 n (some d.tow.pound)
  else d

/-- The wharf goes down at boundary D, the present pound (R271). (DEDUCED: log entry 50) -/
def Device.goDown (d : Device) (h : Nat) (record : Bool) : Device :=
  let k := ((d.reserved h)).length
  let d := d.rejectBarges 2 (fun b => b.wharf == h)
  let d := (d.bump F.WHF_UNDELIV_CNT_UNDELIVERABLE h k).put F.WHF_CREDIT_HELD h 0
  let d := ((d.put F.WHF_STAT_DOWN h 1).bump F.WHF_CNT_DOWNS h).event F.WHF_EVT_DOWN h
  let d := d.eventBit F.WHF_DOWN_EVT_DOWN (h / 32) (h % 32)
  let d := (forEach (d.wharfLanes h) (fun n d => d.laneRest n) d).onWharf h (fun w => { towpath := w.towpath })
  let d := d.when record (fun d => d.reportAt 9 0 1 h (some d.tow.pound))
  d.towWharfDown h false

/-- A trained wharf goes down at the coming boundary: asked for, its last joined lane failed, or four pounds without a valid frame.
(DEDUCED: log entry 93) -/
def Device.downDue (d : Device) (h : Nat) : Bool :=
  let w := d.wharf h
  d.wharfUp h && (w.downDue || (d.joinedLanes h).all (fun n => (d.lane n).failed)
    || decide (4 ≤ w.dry + (if w.gotValid then 0 else 1)))

/-- A wharf reset (R272): the outcomes of a wharf down without its record; then status, events and counters of the wharf and its lanes
at their Reset values. -/
def Device.wharfReset (d : Device) (h : Nat) : Device :=
  let d := if d.wharfUp h then d.goDown h false
    else forEach (d.wharfLanes h) (fun n d => if d.laneState n = 0 ∨ d.laneState n = 11 then d else d.laneRest n) d
  let d := (d.onWharf h (fun w => { towpath := w.towpath })).towWharfDown h true
  let zero := fun (i : Nat) (l : List Fld) (d : Device) => forEach l (fun f d => d.put f i 0) d
  let d := zero h [F.WHF_STAT_DOWN, F.WHF_STAT_FAR_KIND, F.WHF_EVT_BAD_SLOT, F.WHF_EVT_EXCH_FAIL, F.WHF_EVT_EXCH_DONE,
    F.WHF_EVT_REJOINED, F.WHF_EVT_SHED, F.WHF_EVT_DOWN, F.WHF_EVT_TRAINED, F.WHF_EVT_PSTAT_NEW, F.WHF_CREDIT_XSEQ,
    F.WHF_CREDIT_GRANT, F.WHF_CREDIT_HELD, F.WHF_PSTAT_PSTATE, F.WHF_PSTAT_QLEVEL, F.WHF_PSTAT_TEMP, F.WHF_PSTAT_ALARMS,
    F.WHF_CNT_DOWNS, F.WHF_CNT_BAD_SLOTS, F.WHF_UNDELIV_CNT_UNDELIVERABLE] d
  forEach (d.wharfLanes h) (fun n d => zero n [F.LANE_STAT_RX_INV, F.LANE_STAT_BACKOFF_K, F.LANE_EVT_MISMATCH, F.LANE_EVT_QUIET,
    F.LANE_EVT_DEADLINE, F.LANE_EVT_LOS, F.LANE_EVT_SHED, F.LANE_EVT_TRAINED, F.LANE_EVT_FAIL, F.LANE_FRAME_ERR_CNT_CRC,
    F.LANE_FRAME_ERR_CNT_SYNC, F.LANE_FRAME_ERR_CNT_ALIVE, F.LANE_RETRY_CNT_LOS, F.LANE_RETRY_CNT_RETRIES,
    F.LANE_TRAIN_TIME_TIME_US] (d.onLane n (fun x => { x with misses := 0 }))) d

/-- A write of WHF_CMD: RETRAIN takes a trained wharf down at the next boundary or restarts the attempts of its lanes; RESET resets the
wharf at the next boundary (R271, R272). -/
def Device.wrWhfCmd (d : Device) (h v : Nat) : Device :=
  if d.blockClosed (h / 4) || (d.wharfLanes h).isEmpty then d
  else
    let d := if bit v 0 then
        (if d.wharfUp h then d.onWharf h (fun w => { w with downDue := true, retrain := true })
         else forEach (d.wharfLanes h) (fun n d => d.laneRetrain n) d)
      else d
    if bit v 1 then d.onWharf h (fun w => { w with resetDue := true }) else d

/-! ## Power states (R273-R275) -/

/-- PWR_REQ in force: 3 acts as 0. -/
def Device.pwrReq (d : Device) (h : Nat) : Nat := if d.get F.WHF_CFG_PWR_REQ h = 3 then 0 else d.get F.WHF_CFG_PWR_REQ h

/-- A write of WHF_CFG: a request of ACTIVE starts the exit from STANDBY (R273, R274). -/
def Device.wrWhfCfg (d : Device) (h v : Nat) : Device :=
  if d.blockClosed (h / 4) || (d.wharfLanes h).isEmpty then d
  else
    let d := ((d.put F.WHF_CFG_AUTO_WAKE h (bits v 10 10)).put F.WHF_CFG_PWR_REQ h (bits v 9 8)).put F.WHF_CFG_MODE h (bits v 0 0)
    d.when (d.pwrReq h == 0 && d.wharfIn h 10 && (d.wharf h).wake.isNone) (fun d => d.onWharf h (fun w => { w with wake := some 0 }))

/-- STANDBY_ENTER: at the first boundary with no slot reserved (R274). -/
def Device.standbyEnter (d : Device) (h : Nat) : Device :=
  if d.pwrReq h == 1 && d.wharfIn h 7 && !d.wharfIn h 6 && (d.reserved h).isEmpty && !(d.wharf h).busy then
    (forEach (d.joinedLanes h) (fun n d => d.setLane n 10) d).onWharf h (fun w => { w with wake := none })
  else d

/-- STANDBY_EXIT: ACTIVE at the first boundary at least 200 ns after the request (R274). -/
def Device.standbyExit (d : Device) (h : Nat) : Device :=
  if d.wharfIn h 10 && (d.wharf h).wake.any (fun k => decide (13 ≤ k)) then
    (forEach (d.joinedLanes h) (fun n d => d.setLane n 7) d).onWharf h (fun w => { w with wake := none, busy := true })
  else d

/-- Every wharf of a quad requests DEEP (R275). -/
def Device.deepAsked (d : Device) (q : Nat) : Bool := (d.wharvesOf q).all (fun h => d.pwrReq h == 2)

/-- DEEP_ENTER: reservations have stopped and the last reserved frame has left; training ends and the quad PLL stops (R275). -/
def Device.deepEnter (d : Device) (q : Nat) : Device :=
  if decide (2 ≤ Store.getD d.whf.deep q 0) && (d.wharvesOf q).all (fun h => (d.reserved h).isEmpty) then
    let ups := (d.wharvesOf q).filter d.wharfUp
    let d := forEach (range (4 * q) (4 * q + 4)) (fun n d => if d.laneState n = 0 then d else (d.laneRest n).setLane n 11) d
    let d := forEach ups (fun h d => ((d.put F.WHF_CREDIT_HELD h 0).onWharf h (fun w => { towpath := w.towpath })).towWharfDown h false) d
    let d : Device := { d with whf := { d.whf with deep := Store.erase d.whf.deep q } }
    (d.put F.LANE_QUAD_STAT_DEEP q 1).put F.LANE_QUAD_STAT_PLL_LOCK q 0
  else d

/-- DEEP_EXIT: a wharf of the quad requests ACTIVE or STANDBY; the PLL restarts and every lane trains again (R275). -/
def Device.deepExit (d : Device) (q : Nat) : Device :=
  if d.is F.LANE_QUAD_STAT_DEEP q && !d.deepAsked q then
    let d := (d.put F.LANE_QUAD_STAT_DEEP q 0).put F.LANE_QUAD_STAT_PLL_LOCK q 1
    forEach (range (4 * q) (4 * q + 4)) (fun n d => if d.laneState n = 11 then d.laneRest n else d) d
  else d

/-! ## Gating of a quad (R71, R252, R276) -/

/-- The quad closes: every wharf of it goes down at the boundary that comes (R71, R271), its lanes are OFF. (DEDUCED: log entry 50) -/
def Device.quadClose (d : Device) (q : Nat) : Device :=
  let d := forEach ((d.wharvesOf q).filter d.wharfUp) (fun h d => d.atNext (fun d => d.goDown h true)) d
  let d := forEach (range (4 * q) (4 * q + 4)) (fun n d => (d.laneRest n).setLane n 0) d
  let d : Device := { d with whf := { d.whf with deep := Store.erase d.whf.deep q } }
  (d.put F.LANE_QUAD_STAT_DEEP q 0).put F.LANE_QUAD_STAT_PLL_LOCK q 0

/-- The opening of a quad begins: the written layout takes force (R252). -/
def Device.quadStart (d : Device) (q : Nat) : Device := d.put F.LANE_QUAD_STAT_LAYOUT q (d.get F.LANE_QUAD_CFG_LAYOUT q)

/-- The quad is open: its PLL is locked, its enabled lanes are in WAIT. -/
def Device.quadOpen (d : Device) (q : Nat) : Device :=
  let d := d.put F.LANE_QUAD_STAT_PLL_LOCK q 1
  forEach (range (4 * q) (4 * q + 4)) (fun n d => d.when (d.is F.LANE_CTRL_LANE_EN n) (fun d => d.setLane n 1)) d

/-! ## A boundary passes -/

/-- What falls due at a boundary before the commits: wharf resets, wharves going down, lanes shed (R269, R271, R272, R276).
(DEDUCED: log entry 93) -/
def Device.wharvesDue (d : Device) : Device :=
  let d := forEach d.openWharves (fun h d =>
    if (d.wharf h).resetDue then d.wharfReset h else if d.downDue h then d.goDown h true else d) d
  forEach d.openLanes (fun n d => d.shedLane n) d

/-- What a boundary does to wharves and lanes after the commits, before frames are sent: grants take force, pounds are counted, exchanges
begin, lanes enter CAPS, own deskew is done; `l` lists the Barges of the frame. -/
def Device.wharvesBoundary (d : Device) (l : List Barge) : Device :=
  let d := forEach d.openWharves (fun h d => d.creditGrant h) d
  let d := forEach (d.openWharves.filter d.wharfUp) (fun h d =>
    d.onWharf h (fun w => { w with
      dry := if w.gotValid then 0 else w.dry + 1, gotValid := false,
      asked := false, requesting := w.requesting || w.asked,
      reqPounds := if w.asked then 0 else if w.requesting then w.reqPounds + 1 else 0,
      wake := w.wake.map (· + 1), busy := l.any (fun b => b.wharf == h) })) d
  let d := forEach d.openQuads (fun q d =>
    let k := Store.getD d.whf.deep q 0
    if (k != 0 || d.deepAsked q) && !d.is F.LANE_QUAD_STAT_DEEP q then
      { d with whf := { d.whf with deep := Store.set d.whf.deep q (min 2 (k + 1)) } }
    else d) d
  forEach d.openLanes (fun n d =>
    if d.laneState n == 3 && (d.lane n).capsDue then (d.setLane n 4).onLane n (fun x => { x with capsDue := false, capRun := 0 })
    else if d.laneState n == 5 then d.onLane n (fun x => { x with deskewed := true })
    else d) d

/-! ## Meanings -/

def execLaneFrameReceive (n : Byte) (sync : Bool) (f : BitVec 256) (reading : Nat) (s : State) : Host.Outcome State Fault Refusal :=
  .next (s.on (·.frameReceive n.toNat sync f reading))
def execDeskewRelease (h : Byte) (expired : Bool) (s : State) : Host.Outcome State Fault Refusal :=
  .next (s.on (·.deskewRelease h.toNat expired))
/-- LANE_ENABLE: the write of LANE_CTRL with LANE_EN set (R261). -/
def execLaneEnable (n : Byte) (v : Word) (s : State) : Host.Outcome State Fault Refusal :=
  .next (s.on (·.ifOpen (0x40 + n.toNat / 4) (fun d => (d.wrLaneCtrl n.toNat (setBit v.toNat 0)).markDirty)))
def execAcquireDone (n : Byte) (inverted : Bool) (s : State) : Host.Outcome State Fault Refusal :=
  .next (s.on (·.acquireDone n.toNat inverted))
def execCapsEnter (n : Byte) (s : State) : Host.Outcome State Fault Refusal := .next (s.on (·.capsEnter n.toNat))
def execLaneJoin (n : Byte) (s : State) : Host.Outcome State Fault Refusal := .next (s.on (·.laneJoin n.toNat))
def execQuietBackoffEnd (n : Byte) (s : State) : Host.Outcome State Fault Refusal := .next (s.on (·.backoffEnd n.toNat))
def execLossOfSignal (n : Byte) (s : State) (back : Bool := false) : Host.Outcome State Fault Refusal :=
  .next (s.on (·.lossOfSignal n.toNat back))
def execCdrLockLoss (n : Byte) (alignmentOnly : Bool) (s : State) (back : Bool := false) : Host.Outcome State Fault Refusal :=
  .next (s.on (·.cdrLoss n.toNat alignmentOnly back))
/-- LANE_RETRAIN: the write of LANE_CTRL with RETRAIN set (R261). -/
def execLaneRetrain (n : Byte) (v : Word) (s : State) : Host.Outcome State Fault Refusal :=
  .next (s.on (·.ifOpen (0x40 + n.toNat / 4) (fun d => (d.wrLaneCtrl n.toNat (setBit v.toNat 3)).markDirty)))
def execLaneFailure (n : Byte) (s : State) : Host.Outcome State Fault Refusal := .next (s.on (·.laneFail n.toNat))
/-- LANE_SHED at the boundary that comes, unless its wharf goes down or is reset there (R269, R276). -/
def execLaneShed (n : Byte) (s : State) : Host.Outcome State Fault Refusal :=
  .next (s.on (fun d =>
    let h := d.wharfOf n.toNat
    if d.downDue h || (d.wharf h).resetDue then d else d.atNext (fun d => d.shedLane n.toNat)))
def execCreditExchangeStart (h xseq : Byte) (s : State) : Host.Outcome State Fault Refusal :=
  .next (s.on (·.exchangeStart h.toNat xseq.toNat))
def execCreditGrant (h : Byte) (s : State) : Host.Outcome State Fault Refusal := .next (s.on (·.creditGrant h.toNat))
def execExchFail (h : Byte) (s : State) : Host.Outcome State Fault Refusal := .next (s.on (·.exchFail h.toNat))
/-- WHARF_DOWN at the boundary that comes (R271). -/
def execWharfDown (h : Byte) (s : State) : Host.Outcome State Fault Refusal :=
  .next (s.on (fun d => if d.downDue h.toNat then d.atNext (fun d => d.goDown h.toNat true) else d))
/-- WHARF_RETRAIN: the write of WHF_CMD with RETRAIN set (R271). -/
def execWharfRetrain (h : Byte) (s : State) : Host.Outcome State Fault Refusal := .next (s.on (·.wrWhfCmd h.toNat 1))
/-- WHARF_RESET: the write of WHF_CMD with RESET set (R272). -/
def execWharfReset (h : Byte) (s : State) : Host.Outcome State Fault Refusal := .next (s.on (·.wrWhfCmd h.toNat 2))
/-- POWER_STATE_REQUEST: the write of WHF_CFG (R273). -/
def execPowerStateRequest (h : Byte) (v : Word) (s : State) : Host.Outcome State Fault Refusal :=
  .next (s.on (·.ifOpen (0x40 + h.toNat / 4) (fun d => (d.wrWhfCfg h.toNat v.toNat).markDirty)))
def execStandbyEnter (h : Byte) (s : State) : Host.Outcome State Fault Refusal := .next (s.on (·.standbyEnter h.toNat))
def execStandbyExit (h : Byte) (s : State) : Host.Outcome State Fault Refusal := .next (s.on (·.standbyExit h.toNat))
def execDeepEnter (q : Fin 64) (s : State) : Host.Outcome State Fault Refusal := .next (s.on (·.deepEnter q.val))
def execDeepExit (q : Fin 64) (s : State) : Host.Outcome State Fault Refusal := .next (s.on (·.deepExit q.val))

end Sys2Proof.Machine
end

