-- ==== Sys2Proof/Machine/Serial.lean ====
section
/-! DEFINITION. The serial ports apart from the register accesses of a frame: the host queue and FIFOs of the store port
(R311-R318), and the frames, flags and alive counter of the host port (R299-R309). -/

namespace Sys2Proof.Machine

def Device.onNvs (d : Device) (f : Nvs → Nvs) : Device := { d with nvs := f d.nvs }
def Device.nvsOpen (d : Device) : Bool := !d.blockClosed 117
/-- The NVS port is never driven with BOOTSEL 0b01 (R33). -/
def Device.noFlash (d : Device) : Bool := d.boot.bootsel == 1
def Device.nvsOwned (d : Device) : Bool := d.is F.NVS_STAT_OWNED

/-! ## Host entries (R312, R313) -/

def NvsEntry.words (e : NvsEntry) : Nat := bits e.len.toNat 8 0
def NvsEntry.cont (e : NvsEntry) : Bool := bit e.hdr.toNat 31
def NvsEntry.dirIn (e : NvsEntry) : Bool := bit e.hdr.toNat 29
def NvsEntry.isPoll (e : NvsEntry) : Bool := bit e.hdr.toNat 28
/-- Bytes of address an entry sends: none, 3 or 4. -/
def NvsEntry.addrBytes (e : NvsEntry) : Nat := match bits e.hdr.toNat 21 20 with | 1 => 3 | 2 => 4 | _ => 0
/-- The address bytes of an entry at an offset, most significant first. -/
def NvsEntry.addrAt (e : NvsEntry) (ofs : Nat) : List Byte := (leBytes e.addrBytes (e.addr.toNat + ofs)).reverse
/-- The lanes of the data of an entry. -/
def NvsEntry.dataLanes (e : NvsEntry) : Nat := 2 ^ bits e.hdr.toNat 23 22
/-- The bytes of words as they are sent: byte 0 of a word is its bits [31:24] (R312). -/
def wordBytes (l : List Word) : List Byte := l.flatMap (fun w => (leBytes 4 w.toNat).reverse)
/-- One transaction of an entry at an address offset, with the bytes it receives. -/
def NvsEntry.txn (e : NvsEntry) (ofs : Nat) (out : List Word) (receives : Nat) : FlashTxn :=
  let h := e.hdr.toNat
  { sel := bits h 30 30, lanes := (2 ^ bits h 27 26, 2 ^ bits h 25 24, e.dataLanes), cmd := bits h 7 0, addr := e.addrAt ofs,
    dummy := bits h 19 15, out := wordBytes out, receives }
/-- The transactions of an entry with the words it sends (R313). -/
def NvsEntry.txns (e : NvsEntry) (out : List Word) : List FlashTxn :=
  if e.words = 0 then [e.txn 0 [] 0]
  else if e.cont then [e.txn 0 out (if e.dirIn then 4 * e.words else 0)]
  else (List.range e.words).map (fun w => e.txn (4 * w) ((out.drop w).take 1) (if e.dirIn then 4 else 0))
/-- Words of the write FIFO an entry claims. -/
def NvsEntry.claims (e : NvsEntry) : Nat := if e.dirIn then 0 else e.words

/-- A field of two bits that must not be 0b11. -/
def laneBad (e : NvsEntry) : Bool :=
  let h := e.hdr.toNat
  bits h 27 26 == 3 || bits h 25 24 == 3 || bits h 23 22 == 3 || bits h 21 20 == 3

/-- The bits that one cycle of received data carries: NVS_D[1] on a single lane, else NVS_D[n - 1] first (R312). -/
def nvsCycle (lanes : Nat) (x : BitVec 4) : List Bool :=
  if lanes = 1 then [bit x.toNat 1] else ((List.range lanes).map (fun i => bit x.toNat i)).reverse
/-- The number that n received bits spell, most significant first, from cycle i on; a cycle that did not come carries zeros.
(DEDUCED: log entry 102) -/
def nvsTake (lanes n i : Nat) (rx : List (BitVec 4)) : Nat :=
  ((List.range (n / lanes)).flatMap (fun k => nvsCycle lanes (rx.getD (i + k) 0))).foldl (fun a b => 2 * a + ofBool b) 0
/-- The first n received words: byte 0 of each is its bits [31:24] (R312). -/
def nvsWords (lanes n : Nat) (rx : List (BitVec 4)) : List Word :=
  (List.range n).map (fun w => BitVec.ofNat 32 (nvsTake lanes 32 (w * (32 / lanes)) rx))

/-- A push is refused (R312). -/
def Device.pushRefused (d : Device) (e : NvsEntry) : Bool :=
  decide (16 ≤ d.nvs.queue.length) || laneBad e || decide (256 < e.words) || (e.isPoll && !e.dirIn)
    || (!e.dirIn && decide (d.nvs.wdata.length < (d.nvs.queue.map NvsEntry.claims).foldl (· + ·) 0 + e.words))
    || !d.nvsOpen || d.noFlash

/-- The entry the NVS_Q registers spell. -/
def Device.nvsEntry (d : Device) : NvsEntry :=
  let w := fun (r : Reg) => BitVec.ofNat 32 (r.fields.foldl (fun a f => a + d.get f * 2 ^ f.lo) 0)
  { hdr := w R.NVS_Q_HDR, addr := w R.NVS_Q_ADDR, len := w R.NVS_Q_LEN, poll := w R.NVS_Q_POLL }

/-- A write of NVS_Q_PUSH: GO captures and queues an entry, or is refused (R312). -/
def Device.wrNvsPush (d : Device) (v : Nat) : Device :=
  if bit v 0 then
    let e := d.nvsEntry
    if d.pushRefused e then (d.put F.NVS_Q_PUSH_PUSH_RESULT 0 2).event F.NVS_EVT_REFUSED
    else (d.onNvs (fun n => { n with queue := n.queue ++ [e] })).put F.NVS_Q_PUSH_PUSH_RESULT 0 1
  else d

/-- Received words move into NVS_RDATA while it has room (R313). -/
def Nvs.pump (n : Nvs) : Nvs :=
  let room := 256 - n.rdata.length
  { n with rdata := n.rdata ++ n.incoming.take room, incoming := n.incoming.drop room }

/-- A Keeper sequence uses the flash: a store, or steps 2 and 3 of start-up where they read it (R315, R316). (DEDUCED: log entry 102) -/
def Device.keeperActive (d : Device) : Bool :=
  d.is F.NVS_STAT_KEEPER_ACTIVE ||
    (!d.kpr.restarting && !d.noFlash && d.boot.useFlash && d.get F.SYS_BOOT_STAT_CODE != 0x90 &&
      (d.get F.SYS_BOOT_STAT_STEP == 1 || d.get F.SYS_BOOT_STAT_STEP == 2))

/-- Host entries may run: the port is owned and open, not halted, and no entry runs (R313-R315). -/
def Device.nvsReady (d : Device) : Bool :=
  d.nvsOwned && d.nvsOpen && !d.is F.NVS_STAT_HALTED && d.nvs.running.isNone && !d.keeperActive

/-- NVS_ENTRY: the head host entry leaves the queue and runs its transactions; `rx` is NVS_D at the sampling points of the data it
receives. A poll entry runs its reads one by one (R314). (DEDUCED: log entry 102) -/
def Device.nvsStart (d : Device) (rx : List (BitVec 4)) : Device :=
  match d.nvs.queue with
  | [] => d
  | e :: t =>
    if d.nvsReady then
      let out := if e.dirIn then [] else d.nvs.wdata.take e.words
      let inc := if e.dirIn && !e.isPoll then nvsWords e.dataLanes e.words rx else []
      (d.onNvs (fun n => Nvs.pump { n with
        queue := t, running := some e, wdata := n.wdata.drop out.length, incoming := inc,
        txns := if e.isPoll then [] else e.txns out })).put F.NVS_STAT_BUSY 0 1
    else d

/-- Keeper firmware begins the flash accesses of a store; the sensor is read for TEMP (R295). (DEDUCED: log entry 143) -/
def Device.storeBegin (d : Device) : Device :=
  { d.put F.NVS_STAT_KEEPER_ACTIVE 0 1 with cal := { d.cal with storeTemp := d.get F.SYS_TEMP_NOW } }

/-- Ownership ends when HOST_OWN is clear and no host entry runs; a store that waits then begins (R315). -/
def Device.nvsSettleOwner (d : Device) : Device :=
  if d.nvsOwned && !d.is F.NVS_CTRL_HOST_OWN && d.nvs.running.isNone then
    (d.put F.NVS_STAT_OWNED 0 0).when (d.is F.CAL_STORE_STAT_STORE_BUSY) Device.storeBegin
  else d

/-- The entry that runs ends. -/
def Device.nvsStop (d : Device) : Device :=
  ((d.onNvs (fun n => { n with running := none })).put F.NVS_STAT_BUSY 0 0).nvsSettleOwner

/-- A host entry completes (R313). -/
def Device.nvsComplete (d : Device) : Device := (d.nvsStop.event F.NVS_EVT_ENTRY_DONE).bump F.NVS_ENTRY_CNT_DONE

/-- NVS_ENTRY_DONE: the entry that runs has sent or stored every word. -/
def Device.nvsEntryDone (d : Device) : Device :=
  match d.nvs.running with
  | some e => if e.isPoll || !d.nvs.incoming.isEmpty then d else d.nvsComplete
  | none => d

/-- NVS_POLL: one read of a poll entry; a match completes the entry (R314). (DEDUCED: log entry 102) -/
def Device.nvsPoll (d : Device) (rx : List (BitVec 4)) : Device :=
  match d.nvs.running with
  | some e =>
    if e.isPoll then
      let b := BitVec.ofNat 8 (nvsTake e.dataLanes 8 0 rx)
      let d := (d.onNvs (fun n => { n with txns := n.txns ++ [e.txn 0 [] 1] })).put F.NVS_POLL_LAST_BYTE 0 b.toNat
      let mask : Byte := e.poll.extractLsb' 24 8
      if b &&& mask = e.poll.extractLsb' 16 8 &&& mask then d.nvsComplete else d
    else d
  | none => d

/-- NVS_POLL_TIMEOUT: the entry ends and the queue halts (R314). -/
def Device.nvsPollTimeout (d : Device) : Device :=
  match d.nvs.running with
  | some e =>
    if e.isPoll && bits e.poll.toNat 15 0 != 0 then ((d.nvsStop).put F.NVS_STAT_HALTED 0 1).event F.NVS_EVT_POLL_TIMEOUT else d
  | none => d

/-- Every host entry is removed, the one that runs is stopped, both FIFOs are emptied (R318). (DEDUCED: log entry 102) -/
def Device.nvsEmpty (d : Device) : Device :=
  let any := !d.nvs.queue.isEmpty || d.nvs.running.isSome
  let d := (d.onNvs (fun n => { n with queue := [], wdata := [], rdata := [], incoming := [] })).nvsStop
  d.when any (fun d => d.event F.NVS_EVT_FLUSHED)

/-- A write of NVS_CTRL: FLUSH, RESUME, HOST_OWN and the settings of host entries (R314, R315). -/
def Device.wrNvsCtrl (d : Device) (v : Nat) : Device :=
  let d := ((d.put F.NVS_CTRL_HOST_OWN 0 (bits v 8 8)).put F.NVS_CTRL_SAMPLE_DLY 0 (bits v 5 4)).put F.NVS_CTRL_DIV 0 (bits v 3 0)
  let d := d.when (bit v 31) (fun d => (d.nvsEmpty).put F.NVS_STAT_HALTED 0 0)
  let d := d.when (bit v 30) (fun d => d.put F.NVS_STAT_HALTED 0 0)
  d.nvsSettleOwner

/-- OWN_GRANTED: at the end of a Keeper sequence, never during steps 2 and 3 of start-up (R315). -/
def Device.ownGranted (d : Device) : Device :=
  if d.is F.NVS_CTRL_HOST_OWN && !d.nvsOwned && !d.keeperActive && decide (3 ≤ d.get F.SYS_BOOT_STAT_STEP)
      && !d.kpr.restarting then
    (d.put F.NVS_STAT_OWNED 0 1).event F.NVS_EVT_OWN_GRANTED
  else d

/-- A read of NVS_RDATA takes the oldest word; zero when the FIFO is empty (R313). -/
def Device.readNvsRdata (d : Device) : Nat × Device :=
  match d.nvs.rdata with
  | [] => (0, d)
  | w :: t => (w.toNat, d.onNvs (fun n => Nvs.pump { n with rdata := t }))

/-- A write of NVS_WDATA appends a word; a full FIFO drops it. (DEDUCED: log entry 102) -/
def Device.wrNvsWdata (d : Device) (v : Nat) : Device :=
  let d := d.put F.NVS_WDATA_WORD 0 v
  if d.nvs.wdata.length < 256 then d.onNvs (fun n => { n with wdata := n.wdata ++ [BitVec.ofNat 32 v] }) else d

/-! ## The host port (R302-R309) -/

def Device.onHsp (d : Device) (f : Hsp → Hsp) : Device := { d with hsp := f d.hsp }

/-- Set a flag for the next status word, and its event where it has one (R303). -/
def Device.hspFlag (d : Device) (b : Nat) : Device :=
  let d := d.put F.HSP_STAT_NEXT_STATUS 0 (setBit (d.get F.HSP_STAT_NEXT_STATUS) b)
  match b with
  | 6 => d.event F.HSP_EVT_CRC
  | 5 => d.event F.HSP_EVT_ALIVE
  | 4 => d.event F.HSP_EVT_FORMAT
  | 3 => d.event F.HSP_EVT_STAGE_FULL
  | 2 => d.event F.HSP_EVT_AINC_OVERRUN
  | 1 => d.event F.HSP_EVT_XING_ERR
  | _ => d

/-- The alive counter of a frame is the expected one, or the frame is exempt (R306). -/
def Device.aliveOk (d : Device) (alive : BitVec 4) : Bool := d.hsp.expect.all (fun e => e == alive.toNat)
/-- The expectation resynchronises to the received value plus one (R306). -/
def Device.aliveSync (d : Device) (alive : BitVec 4) : Device :=
  (d.onHsp (fun h => { h with expect := some ((alive.toNat + 1) % 16) })).put F.HSP_STAT_ALIVE_EXP 0 (alive.toNat + 1)

/-- The faults of a bad frame: BAD with each cause flagged and counted once (R307). (DEDUCED: log entry 99) -/
def Device.hspBad (d : Device) (alive crc format full : Bool) : Device :=
  let d := d.hspFlag 7
  let d := d.when alive (fun d => (d.hspFlag 5).bump F.HSP_BAD_CNT_ALIVE)
  let d := d.when crc (fun d => (d.hspFlag 6).bump F.HSP_BAD_CNT_CRC)
  let d := d.when format (fun d => (d.hspFlag 4).bump F.HSP_BAD_CNT_FORMAT)
  d.when full (fun d => (d.hspFlag 3).bump F.HSP_CUT_CNT_STAGE_FULL)

/-- The bits of a number, most significant first. -/
def msbBits (n x : Nat) : List Bool := ((List.range n).map (fun i => bit x i)).reverse
/-- The number that bits spell, most significant first. -/
def msbNat (l : List Bool) : Nat := l.foldl (fun a b => 2 * a + ofBool b) 0
/-- CRC-16 over bits in the order they are sent (R302). -/
def crcBits (l : List Bool) : Nat := l.foldl (fun c b => crcMsb 1 (c.xor (ofBool b * 0x8000))) 0xFFFF

/-- The 32-bit words of a list of bits. -/
def wordsOfBits : Nat → List Bool → List Nat
  | 0, _ => []
  | n + 1, l => msbNat (l.take 32) :: wordsOfBits n (l.drop 32)

/-! ### The phases of a frame (R299-R301, R308, R309) -/

/-- The lanes a field of HSP_CFG sets: 1, 2, 4 or 8. -/
def Device.hspLanes (d : Device) (f : Fld) : Nat := 2 ^ d.get f

/-- The bits that SCLK cycles carry on w lanes: HSP_D[w - 1] first; lanes above w are ignored (R301). -/
def cycleBits (w : Nat) (cycles : List Byte) : List Bool := cycles.flatMap (fun c => msbBits w c.toNat)
/-- The lanes' values, cycle by cycle, of bits sent on w lanes. -/
def laneCycles (w : Nat) : Nat → List Bool → List Nat
  | 0, _ => []
  | n + 1, l => msbNat (l.take w) :: laneCycles w n (l.drop w)

/-- What a frame of the host is, from its first select fall to its release (R300, R304, R309). -/
inductive HspFrame where
  | cut (alive : Option (BitVec 4))
  | resetFormat
  | reserved (op alive : BitVec 4)
  | write (alive : BitVec 4) (addr : BitVec 24) (payload : List Bool)
  | read (code : Nat) (alive : BitVec 4) (addr : BitVec 24)
  | status (alive : BitVec 4)
  deriving DecidableEq, Repr

/-- The frame that HSP_D spells in the format in force; `cycles` is HSP_D[7:0] at each rising SCLK edge of the frame. A frame is cut when
select is released before its command or its address is complete. (DEDUCED: log entry 99) -/
def Device.hspFrame (d : Device) (cycles : List Byte) : HspFrame :=
  let nc := 8 / d.hspLanes F.HSP_CFG_CMD_LANES
  let na := 24 / d.hspLanes F.HSP_CFG_ADDR_LANES
  if cycles.length < nc then .cut none
  else if 40 ≤ cycles.length ∧ (cycles.take 40).all (· == 0xFF) then .resetFormat
  else
    let cmd := msbNat (cycleBits (d.hspLanes F.HSP_CFG_CMD_LANES) (cycles.take nc))
    let op := cmd / 16
    let alive := BitVec.ofNat 4 cmd
    let rest := cycles.drop nc
    let addr := BitVec.ofNat 24 (msbNat (cycleBits (d.hspLanes F.HSP_CFG_ADDR_LANES) (rest.take na)))
    if op = 2 then .status alive
    else if op = 1 ∨ (8 ≤ op ∧ op ≤ 14) then
      if rest.length < na then .cut (some alive)
      else if op = 1 then .write alive addr (cycleBits (d.hspLanes F.HSP_CFG_DATA_LANES) (rest.drop na))
      else .read (op - 8) alive addr
    else .reserved (BitVec.ofNat 4 op) alive

/-- What the device drives on its data lanes in a frame it answers, from the end of the host's phases: nothing in the dummy cycles, then
busy units of 0xA5C3, the status word, the data and the CRC (R299, R305). (DESIGN CHOICE: log entry 110) -/
def Hsp.line (h : Hsp) : List (Option Nat) :=
  let l := (List.range h.busy).flatMap (fun _ => msbBits 16 0xA5C3) ++ h.reply.flatMap (fun w => msbBits 32 w.toNat) ++
    (if h.reply.isEmpty then [] else msbBits 16 h.replyCrc)
  List.replicate h.gap none ++ (laneCycles h.lanes (l.length / h.lanes) l).map some

/-- The device answers a frame in the format in force, with `busy` busy units before the reply. (DESIGN CHOICE: log entry 110) -/
def Device.hspDrive (d : Device) (busy : Nat) : Device :=
  d.onHsp (fun h => { h with
    gap := min 32 (d.get F.HSP_CFG_DUMMY), busy, lanes := d.hspLanes F.HSP_CFG_DATA_LANES, reply := [], replyCrc := 0 })

/-- The reply of a READ or STATUS frame: the status word, whose flags clear as they are sent, the data, the CRC over the command
(and address) as received and the reply (R302, R303). (DESIGN CHOICE: log entry 110) -/
def Device.hspReply (d : Device) (head : List Bool) (alive : BitVec 4) (data : List Nat) : Device :=
  let status := clearBit (d.get F.HSP_STAT_NEXT_STATUS) 0 + d.get F.SYS_BOOT_STAT_READY
  let words := (0x3C5A * 2 ^ 16 + status * 2 ^ 8 + alive.toNat * 16) :: data
  let d := (d.put F.HSP_STAT_LAST_STATUS 0 status).put F.HSP_STAT_NEXT_STATUS 0 0
  d.onHsp (fun h => { h with reply := words.map (BitVec.ofNat 32), replyCrc := crcBits (head ++ words.flatMap (msbBits 32)) })

/-- The HSP answers frames from the end of step 1 (R48). -/
def Device.hspRuns (d : Device) : Bool := decide (1 ≤ d.get F.SYS_BOOT_STAT_STEP)

/-- The accesses that a port has issued and that have not landed: 0 the host port, 1 the Keeper port (R320). -/
def Device.heldOf (d : Device) (k : Nat) : List BusAccess := Store.getD d.bus.held k []
/-- Words of WRITE frames have still to be applied (R304). -/
def Device.hspApplying (d : Device) : Bool := (d.heldOf 0).any (fun x => match x with | .write _ _ _ _ => true | _ => false)

/-- HSP_STATUS: the status word only, after at least one busy unit while writes are still being applied, else at once; an alive fault shows
in this reply. A frame that is abandoned in its busy units gives no reply (R303, R305, R307). -/
def Device.hspStatus (d : Device) (cycles : List Byte) (busy : Nat) (abandoned : Bool) : Device :=
  match d.hspFrame cycles with
  | .status alive =>
    if d.hspRuns then
      let ok := d.aliveOk alive
      let applying := d.hspApplying
      let d := (d.aliveSync alive).hspDrive (if applying then max 1 busy else 0)
      let d := if ok then d.bump F.HSP_FRAME_CNT_GOOD else d.hspBad true false false false
      if abandoned && applying then d else d.hspReply (msbBits 8 (0x20 + alive.toNat)) alive []
    else d
  | _ => d

/-- RESET_FORMAT takes effect: the format and the alive expectation are reset (R309). (DEDUCED: log entry 99) -/
def Device.formatReset (d : Device) : Device :=
  let d := forEach R.HSP_CFG.fields (fun f d => d.put f 0 (f.reset 0)) d
  let d := (d.onHsp (fun h => { h with expect := none })).put F.HSP_STAT_ALIVE_EXP 0 0
  (d.event F.HSP_EVT_RESET_FORMAT).bump F.HSP_FRAME_CNT_GOOD

/-- HSP_RESERVED_OPCODE: ignored and flagged; nothing is driven (R307, R309). -/
def Device.hspReserved (d : Device) (cycles : List Byte) : Device :=
  match d.hspFrame cycles with
  | .reserved _ alive =>
    if d.hspRuns then
      let ok := d.aliveOk alive
      (d.aliveSync alive).hspBad (!ok) false true false
    else d
  | _ => d

/-- A frame is cut: nothing is written; only its count, and the alive expectation when the command phase was complete (R304, R306).
(DEDUCED: log entries 99, 100) -/
def Device.cutFrame (d : Device) (alive : Option (BitVec 4)) : Device :=
  let d := match alive with
    | some a => d.aliveSync a
    | none => d
  (d.bump F.HSP_CUT_CNT_CUT).event F.HSP_EVT_CUT

/-- The data phase and the CRC of a WRITE frame: its words, when the bits after the address number 32 k + 16, and whether its last 16 bits
are a good CRC over the command, the address and all before them (R302, R304). -/
def writeData (alive : BitVec 4) (addr : BitVec 24) (payload : List Bool) : Option Nat × Bool :=
  let n := payload.length
  let head := msbBits 8 (0x10 + alive.toNat) ++ msbBits 24 addr.toNat
  (if n % 32 = 16 then some (n / 32) else none,
   decide (16 ≤ n) && crcBits (head ++ payload.take (n - 16)) == msbNat (payload.drop (n - 16)))

/-- A WRITE frame is cut: select is released where the bits after the address number no 32 k + 16, and no good CRC ends them. One that a
good CRC ends there has a data phase of no whole words and is bad. (DEDUCED: log entry 100) -/
def writeCut (alive : BitVec 4) (addr : BitVec 24) (payload : List Bool) : Bool :=
  (writeData alive addr payload).1.isNone && !(writeData alive addr payload).2

/-- HSP_CUT: select is released before a frame is complete. (DEDUCED: log entry 100) -/
def Device.hspCut (d : Device) (cycles : List Byte) : Device :=
  if d.hspRuns then
    match d.hspFrame cycles with
    | .cut alive => d.cutFrame alive
    | .write alive addr payload => if writeCut alive addr payload then d.cutFrame (some alive) else d
    | _ => d
  else d

/-! ## Meanings -/

def execNvsPush (s : State) : Host.Outcome State Fault Refusal := .next (s.on (·.wrNvsPush 1))
def execNvsEntry (rx : List (BitVec 4)) (s : State) : Host.Outcome State Fault Refusal := .next (s.on (·.nvsStart rx))
def execNvsEntryDone (s : State) : Host.Outcome State Fault Refusal := .next (s.on (·.nvsEntryDone))
def execNvsPoll (rx : List (BitVec 4)) (s : State) : Host.Outcome State Fault Refusal := .next (s.on (·.nvsPoll rx))
def execNvsPollTimeout (s : State) : Host.Outcome State Fault Refusal := .next (s.on (·.nvsPollTimeout))
/-- The fields of NVS_CTRL as they stand. -/
def Device.nvsCtrl (d : Device) : Nat :=
  d.get F.NVS_CTRL_HOST_OWN * 2 ^ 8 + d.get F.NVS_CTRL_SAMPLE_DLY * 2 ^ 4 + d.get F.NVS_CTRL_DIV
/-- NVS_RESUME: the write of NVS_CTRL with RESUME set (R314). -/
def execNvsResume (s : State) : Host.Outcome State Fault Refusal := 
  .next (s.on (fun d => (d.wrNvsCtrl (setBit d.nvsCtrl 30)).markDirty))
/-- NVS_FLUSH: the write of NVS_CTRL with FLUSH set (R318). -/
def execNvsFlush (s : State) : Host.Outcome State Fault Refusal := 
  .next (s.on (fun d => (d.wrNvsCtrl (setBit d.nvsCtrl 31)).markDirty))
/-- HOST_OWN: a write of NVS_CTRL without FLUSH and RESUME (R315). -/
def execHostOwn (v : Word) (s : State) : Host.Outcome State Fault Refusal := 
  .next (s.on (fun d => (d.wrNvsCtrl (bits v.toNat 29 0)).markDirty))
def execOwnGranted (s : State) : Host.Outcome State Fault Refusal := .next (s.on (·.ownGranted))
def execNvsRdataRead (s : State) : Host.Outcome State Fault Refusal :=
  .next (s.on (fun d => let (v, d) := d.readNvsRdata; { d with bus := { d.bus with lastRead := BitVec.ofNat 32 v } }))
def execNvsWdataWrite (v : Word) (s : State) : Host.Outcome State Fault Refusal := .next (s.on (·.wrNvsWdata v.toNat))

end Sys2Proof.Machine
end

