-- ==== Sys2Proof/Machine/Gates.lean ====
section
/-! DEFINITION. The gates of the blocks: closing, shutting down, opening, restarting, and what each block does when it closes and opens
(R70-R72, R108, R138, R214, R247, R276, R291, R318, R363). -/

namespace Sys2Proof.Machine

/-- The enable bit of a gateable block: its field and its bit (R70, R79). -/
def enableBit (b : Nat) : Fld × Nat :=
  if b < 32 then (F.CLK_EN_QUAD_LO_QUAD_EN, b)
  else if b < 64 then (F.CLK_EN_QUAD_HI_QUAD_EN, b - 32)
  else if b < 80 then (F.CLK_EN_LOOP_LOOP_EN, b - 64)
  else if b < 112 then (F.CLK_EN_COUT_COUT_EN, b - 80)
  else match b with
    | 112 => (F.CLK_EN_MISC_AUXA_EN, 0)
    | 113 => (F.CLK_EN_MISC_AUXB_EN, 0)
    | 114 => (F.CLK_EN_MISC_DEC_EN, 0)
    | 115 => (F.CLK_EN_MISC_TT_EN, 0)
    | 116 => (F.CLK_EN_MISC_TIME_EN, 0)
    | _ => (F.CLK_EN_MISC_NVS_EN, 0)

def Device.blockEnabled (d : Device) (b : Nat) : Bool := bit (d.get (enableBit b).1) (enableBit b).2
def Device.setEnable (d : Device) (b : Nat) (v : Bool) : Device := d.putBit (enableBit b).1 0 (enableBit b).2 v

/-- STATE of a block: 0 CLOSED, 1 OPENING, 2 OPEN, 3 CLOSING. -/
def Device.blockState (d : Device) (b : Nat) : Nat := d.get F.CLK_BLK_STAT_STATE b
def Device.setBlockState (d : Device) (b st : Nat) : Device := d.put F.CLK_BLK_STAT_STATE b st

/-- The page that closes with a block (R363). -/
def blockPage (b : Nat) : Option Nat :=
  if b < 64 then some (0x40 + b)
  else if b < 80 then some (0x10 + (b - 64))
  else match b with
    | 114 => some 0x33
    | 115 => some 0x32
    | 116 => some 0x39
    | _ => none

/-- A staged sequence of a page is discarded with IND_DROP (R331). (DEDUCED: log entry 48) -/
def Device.dropStaged (d : Device) (page : Nat) : Device :=
  d.when (Store.get? d.bus.staged page).isSome (fun d =>
    ({ d with bus := { d.bus with staged := Store.erase d.bus.staged page } } : Device).pageEvent F.PAGE_STAT_IND_DROP page)

/-- The captured entry of a page is gone. -/
def Device.dropCapture (d : Device) (page : Nat) : Device :=
  { d with bus := { d.bus with captured := Store.erase d.bus.captured page } }

/-! ## What a closing and an opening block does -/

/-- A core stops: a pending apply and a prepared hop of its twin end, the registers of R108 take their Reset values, only the binding
stays. (DEDUCED: log entries 48, 49) -/
def Device.coreClose (d : Device) (c : Nat) : Device :=
  let regs := R.LOOP_STAT.fields ++ R.LOOP_MON_ERR.fields ++ R.LOOP_MON_RAW.fields ++ R.LOOP_TRIM.fields
  let d := ((d.cancelApply c).cancelHop (c / 2)).putAligned c false
  let d := forEach regs (fun f d => d.put f c (f.reset c)) d
  d.onCore c (fun k => { berth := k.berth })

/-- An output closes: it parks, its duty correction ends and its strobe falls at once (R71, R135, R138). -/
def Device.outputClose (d : Device) (n : Nat) : Device :=
  let d := d.put F.COUT_STAT_DCC_LOCK n 0
  d.when (d.output n).high.isSome (fun d => d.strobeFall n)

/-- What a block does from the cycle it is closed (R71). (DEDUCED: log entry 48) -/
def Device.closeEffects (d : Device) (b : Nat) : Device :=
  if b < 64 then d.quadClose b
  else if b < 80 then d.coreClose (b - 64)
  else if b < 112 then d.outputClose (b - 80)
  else match b with
    | 114 => d.decClose
    | 116 => d.portDisable
    | 117 => d.nvsEmpty
    | _ => d

/-- The opening of a core begins: it has no free target until its first load or RELEASE (R101). -/
def Device.coreStart (d : Device) (c : Nat) : Device := d.onCore c (fun k => { k with hasU := false, uFromQ := false, u := 0 })

/-- What a block does when its opening begins. -/
def Device.openStarts (d : Device) (b : Nat) : Device :=
  if b < 64 then d.quadStart b else if b < 80 then d.coreStart (b - 64) else d

/-! ## Corrections a core takes when it opens (R291) -/

def Device.setBandWord (d : Device) (c e w v : Nat) : Device :=
  { d with bandMap := Store.set d.bandMap (c * 256 + e * 4 + w) (BitVec.ofNat 32 v) }

/-- An entry of a band map agrees with a calibrated one in VALID, TANK, R_LO and R_HI (R297). -/
def Device.bandSame (d : Device) (m : Image) (c e : Nat) : Bool :=
  let i := fun w => imgNum m 4 (bandBase c e w)
  bits (d.bandWord c e 0) 31 30 == bits (i 0) 31 30 && bits (d.bandWord c e 1) 20 0 == bits (i 1) 20 0
    && bits (d.bandWord c e 2) 20 0 == bits (i 2) 20 0

/-- BAND, TUNE and TEMP_CAL of an entry are written from a calibrated one (R290). -/
def Device.bandTake (d : Device) (m : Image) (c e : Nat) : Device :=
  let w0 := imgNum m 4 (bandBase c e 0)
  let w3 := imgNum m 4 (bandBase c e 3)
  (d.setBandWord c e 0 (setBits (d.bandWord c e 0) 29 10 (bits w0 29 10))).setBandWord c e 3
    (setBits (d.bandWord c e 3) 31 24 (bits w3 31 24))

/-- The calibrated entries of a core: those the image holds as valid. -/
def bandEntries (m : Image) (c : Nat) : List Nat :=
  if imgValid m 3 c then (List.range 64).filter (fun e => bit (imgNum m 4 (bandBase c e 0)) 31) else []

/-- The core takes its band map corrections from the in-force image. -/
def Device.bandOpen (d : Device) (c : Nat) : Device :=
  let m := d.cal.inForce
  forEach (bandEntries m c) (fun e d => d.when (d.bandSame m c e) (fun d => d.bandTake m c e)) d

/-- LOOP_MON_OFFSET takes t_0 of the in-force image, rounded to 1/16 ps; a unit without a valid result takes the nominal offset, the
register's Reset value (R290, R291, R293). (DEDUCED: log entry 56) -/
def Device.monOffset (d : Device) (c : Nat) : Device :=
  let f := F.LOOP_MON_OFFSET_OFFSET
  d.put f c (if imgValid d.cal.inForce 0 c then unsgn 16 (divRound (imgInt d.cal.inForce (offsetBase 0 c)) 4) else f.reset c)

/-- A core is open: in IDLE, its binding shown, its corrections taken; a load that took effect while it opened starts it now (R92, R108,
R291). (DEDUCED: log entry 49; DESIGN CHOICE: log entry 156) -/
def Device.coreOpen (d : Device) (c : Nat) : Device :=
  let d := (((d.put F.LOOP_STAT_STATE c 1).putB F.LOOP_STAT_BOUND c (d.core c).berth.isSome).monOffset c).bandOpen c
  if (d.core c).starts then (d.onCore c (fun k => { k with starts := false })).searchOrManual c (d.core c).set else d

/-- An output is open: its aligner selects its tap by the table in force and walks there from the tap it has (R134, R291).
(DEDUCED: log entry 142) -/
def Device.outputOpen (d : Device) (n : Nat) : Device := if d.get F.COUT_STAT_TAP n = d.tapFor n then d else d.walkToTable n

/-! ## AUXA and AUXB (R77, R78) -/

def Device.onClk (d : Device) (f : Clocks → Clocks) : Device := { d with clk := f d.clk }

/-- The divider in force times 2^24, kept between those of 400 MHz and 25 MHz (R77). (DEDUCED: log entry 46) -/
def auxClamp (x : Nat) : Nat := max (25 * 2 ^ 23) (min (200 * 2 ^ 24) x)
def Device.auxDivReg (d : Device) (a : Nat) : Nat :=
  if a = 0 then d.get F.CLK_AUXA_CTRL_DIV_INT * 2 ^ 24 + d.get F.CLK_AUXA_CTRL_DIV_FRAC
  else d.get F.CLK_AUXB_CTRL_DIV_INT * 2 ^ 24 + d.get F.CLK_AUXB_CTRL_DIV_FRAC
/-- The spread in force: SSC_EN, depth 1 to 20, rate 0 to 33 (R78). -/
def Device.auxSscReg (d : Device) (a : Nat) : Nat :=
  let (en, depth, rate) :=
    if a = 0 then (d.get F.CLK_AUXA_SSC_SSC_EN, d.get F.CLK_AUXA_SSC_DEPTH, d.get F.CLK_AUXA_SSC_RATE)
    else (d.get F.CLK_AUXB_SSC_SSC_EN, d.get F.CLK_AUXB_SSC_DEPTH, d.get F.CLK_AUXB_SSC_RATE)
  en * 2 ^ 13 + max 1 (min 20 depth) * 2 ^ 8 + min 33 rate

/-- AUX_DIV_UPDATE and AUX_SSC_UPDATE: the settings written come into force on an open output, and when it opens. (DEDUCED: log entry 46) -/
def Device.auxDivUpdate (d : Device) (a : Nat) : Device :=
  if d.blockClosed (112 + a) then d else d.onClk (fun c => { c with auxDiv := Store.set c.auxDiv a (auxClamp (d.auxDivReg a)) })
def Device.auxSscUpdate (d : Device) (a : Nat) : Device :=
  if d.blockClosed (112 + a) then d else d.onClk (fun c => { c with auxSsc := Store.set c.auxSsc a (d.auxSscReg a) })

/-! ## What a block does when it is open -/

/-- What a block does when it is open (R71). -/
def Device.openEffects (d : Device) (b : Nat) : Device :=
  if b < 64 then d.quadOpen b
  else if b < 80 then d.coreOpen (b - 64)
  else if b < 112 then d.outputOpen (b - 80)
  else if b < 114 then (d.auxDivUpdate (b - 112)).auxSscUpdate (b - 112)
  else if b = 116 then (if d.kpr.restarting then d else d.clientInit)
  else d

/-! ## The gates -/

/-- The gate of a block takes force: CLOSING, the outcomes of the close, a staged sequence of its page discarded (R71, R331). -/
def Device.gateTakes (d : Device) (b : Nat) : Device :=
  let d := ({ d with clk := { d.clk with gateHeld := d.clk.gateHeld.filter (· != b) } } : Device).setBlockState b 3
  let d := (d.put F.CLK_BLK_STAT_RESTART_PENDING b 0).closeEffects b
  match blockPage b with
  | some p => (d.dropStaged p).dropCapture p
  | none => d

/-- The enable bit of a block is clear: an open block closes once its port is idle, a pending restart is cancelled (R71, R72). -/
def Device.gateClose (d : Device) (b : Nat) (busy : Bool) : Device :=
  if d.blockState b = 3 then d.put F.CLK_BLK_STAT_RESTART_PENDING b 0
  else if d.blockState b = 0 then d
  else if busy then
    (if d.clk.gateHeld.contains b then d else { d with clk := { d.clk with gateHeld := d.clk.gateHeld ++ [b] } })
  else d.gateTakes b

/-- The enable bit of a block is set: a closed block opens, a closing one restarts after its shutdown, a held gate request is
withdrawn (R71, R72). -/
def Device.gateOpen (d : Device) (b : Nat) : Device :=
  let d := { d with clk := { d.clk with gateHeld := d.clk.gateHeld.filter (· != b) } }
  if d.blockState b = 3 then d.put F.CLK_BLK_STAT_RESTART_PENDING b 1
  else if d.blockState b = 0 then (d.setBlockState b 1).openStarts b
  else d

/-- The enable bit of a block is written. (DEDUCED: log entry 47) -/
def Device.wrEnable (d : Device) (b : Nat) (v busy : Bool) : Device :=
  let was := d.blockEnabled b
  let d := d.setEnable b v
  if v then (if was then d else d.gateOpen b)
  else if was || d.clk.gateHeld.contains b then d.gateClose b busy else d

/-- The blocks of a word of enable bits, by its offset on page 0x002. -/
def enableBlocks (ofs : Nat) : List (Nat × Nat) :=
  match ofs with
  | 0x40 => (List.range 32).map (fun i => (i, i))
  | 0x44 => (List.range 32).map (fun i => (i, 32 + i))
  | 0x48 => (List.range 16).map (fun i => (i, 64 + i))
  | 0x4C => (List.range 32).map (fun i => (i, 80 + i))
  | 0x50 => (List.range 6).map (fun i => (i, 112 + i))
  | _ => []

/-- A write of an enable register: each bit acts on its block; a held gate request stays held (R70, R71). -/
def Device.wrEnables (d : Device) (ofs v : Nat) : Device :=
  forEach (enableBlocks ofs) (fun x d => d.wrEnable x.2 (bit v x.1) (d.clk.gateHeld.contains x.2)) d

/-- BLOCK_CLOSE: the enable bit of a block is cleared; with its port idle, or held before, the gate takes force. -/
def Device.blockClose (d : Device) (b : Nat) (busy : Bool) : Device := (d.wrEnable b false busy).markDirty

/-- GATE_BUS_ABORT: after 256 REG cycles the gate completes the held access with zero data and takes force (R71). (DEDUCED: log entry 47) -/
def Device.gateBusAbort (d : Device) (b : Nat) : Device :=
  if d.clk.gateHeld.contains b then
    let d := d.gateTakes b
    ({ d with bus := { d.bus with lastRead := 0 } } : Device).event F.CLK_GATE_EVT_BUS_ABORT
  else d

/-- BLOCK_SHUTDOWN_DONE: the shutdown is complete; a pending restart begins (R71, R72). -/
def Device.shutdownDone (d : Device) (b : Nat) : Device :=
  if d.blockState b = 3 then
    if d.is F.CLK_BLK_STAT_RESTART_PENDING b then
      (((d.put F.CLK_BLK_STAT_RESTART_PENDING b 0).setBlockState b 1).openStarts b).event F.CLK_GATE_EVT_RESTART_DONE
    else d.setBlockState b 0
  else d

/-- BLOCK_OPEN_DONE: the reopening action has begun (R71). -/
def Device.blockOpenDone (d : Device) (b : Nat) : Device :=
  if d.blockState b = 1 then (d.setBlockState b 2).openEffects b else d

/-! ## Meanings -/

def execBlockClose (b : Fin 118) (busy : Bool) (s : State) : Host.Outcome State Fault Refusal := .next (s.on (·.blockClose b busy))
def execGateBusAbort (b : Fin 118) (s : State) : Host.Outcome State Fault Refusal := .next (s.on (·.gateBusAbort b))
def execBlockOpenDone (b : Fin 118) (s : State) : Host.Outcome State Fault Refusal := .next (s.on (·.blockOpenDone b))

end Sys2Proof.Machine
end

