-- ==== Sys2Proof/Machine/Clocks.lean ====
section
/-! DEFINITION. Clock sources and their judgement, the domain sequencer, reference changeover and holdover, fallback, the
voltage-frequency sequencer, AUXA and AUXB (R37, R53-R69, R73-R78). -/

namespace Sys2Proof.Machine

def Device.step (d : Device) : Nat := d.get F.SYS_BOOT_STAT_STEP
/-- A fault record of class CLOCK (R346). -/
def Device.clockReport (d : Device) (code reporter : Nat) : Device := d.report 2 0 code reporter

/-! ## Sources and their nominal frequencies (R53, R55) -/

/-- The frequency in Hz that an XI_FREQ code names; the reserved code names none. -/
def xiHz (freq : Nat) : Option Nat :=
  match freq with
  | 0 => some 10000000 | 1 => some 25000000 | 2 => some 50000000 | 3 => some 100000000
  | 4 => some 125000000 | 5 => some 156250000 | 6 => some 250000000 | _ => none
/-- The prescaler of a reference. -/
def xiPrescaler (freq : Nat) : Nat :=
  match freq with
  | 0 => 1 | 1 => 2 | 2 => 5 | 3 => 10 | 4 => 10 | 5 => 16 | 6 => 20 | _ => 1
def Device.xiFreq (d : Device) (i : Nat) : Nat := if i = 0 then d.get F.CLK_REF_CTRL_XI0_FREQ else d.get F.CLK_REF_CTRL_XI1_FREQ
def Device.xiMode (d : Device) (i : Nat) : Nat := if i = 0 then d.get F.CLK_REF_CTRL_XI0_MODE else d.get F.CLK_REF_CTRL_XI1_MODE

/-- A mode that takes a frequency: crystal mode takes 25, 50 and 100 MHz, and an input is off in crystal mode at another (R29, R53).
(DEDUCED: log entry 150) -/
def xiTakes (mode freq : Nat) : Bool := mode != 3 && (mode != 2 || (decide (1 ≤ freq) && decide (freq ≤ 3)))
/-- The frequency in Hz of a reference input; none for one that is off. -/
def Device.xiNominal (d : Device) (i : Nat) : Option Nat := if xiTakes (d.xiMode i) (d.xiFreq i) then xiHz (d.xiFreq i) else none

/-- The nominal frequency of a judged source in Hz; none for an input that is off. -/
def Device.nominalHz (d : Device) (src : Nat) : Option Nat :=
  match src with
  | 0 => d.xiNominal 0
  | 1 => d.xiNominal 1
  | 2 => some 400000000
  | 3 => some 1000000
  | 4 => some 2500000000
  | _ => some 5000000000

/-- READY of a judged source (R55). -/
def Device.ready (d : Device) (src : Nat) : Bool := bit (d.get F.CLK_REF_STAT_READY) src
/-- The second clock of a source and its tolerance in percent (R55). -/
def Device.secondClock (d : Device) (src : Nat) : Nat × Nat :=
  match src with
  | 2 => if d.ready 4 then (4, 0) else (3, 10)
  | 3 => if d.ready 4 then (4, 0) else (2, 2)
  | 5 => (4, 0)
  | _ => (2, 2)

def Device.mpl0Lock (d : Device) : Bool := d.is F.CLK_REF_STAT_MPL0_LOCK
/-- The RefBus runs. -/
def Device.refBus (d : Device) : Bool := d.mpl0Lock || d.mpl0Hold
def Device.activeXi (d : Device) : Nat := d.get F.CLK_REF_STAT_ACTIVE

/-- A source is judged now: the inputs from step 4, FIO from step 2, the multipliers once they run (R48). (DEDUCED: log entry 39) -/
def Device.judged (d : Device) (src : Nat) : Bool :=
  match src with
  | 0 | 1 => decide (3 ≤ d.step)
  | 2 => decide (1 ≤ d.step)
  | 3 => true
  | 4 => d.refBus
  | _ => d.refBus && (d.is F.CLK_REF_STAT_MPL1_LOCK || decide (5 ≤ d.step))

/-- The VCO of MPL1 runs: from its first lock, unless its stop detector is active (R57, R69). -/
def Device.mpl1Runs (d : Device) : Bool :=
  d.refBus && (d.is F.CLK_REF_STAT_MPL1_LOCK || decide (5 ≤ d.step)) && !d.is F.CLK_JUDGE_STAT_STOPPED 5

def Device.judge? (d : Device) (src : Nat) : Judge := Store.getD d.clk.judge src {}
def Device.setJudge (d : Device) (src : Nat) (j : Judge) : Device := d.onClk (fun c => { c with judge := Store.put c.judge {} src j })

/-! ## The domain sequencer (R59-R65) -/

def Device.curSrc (d : Device) (dom : Nat) : Nat := d.get F.CLK_DOM_STAT_CUR_SRC dom
def Device.curDiv (d : Device) (dom : Nat) : Nat := d.get F.CLK_DOM_STAT_CUR_DIV dom
def Device.switchOf (d : Device) (dom : Nat) : Option Switch := Store.get? d.clk.switch dom
/-- A domain that moves between FIO and MPL1 (R59). -/
def switchable (dom : Nat) : Bool := dom == 144 || dom == 145 || dom == 146 || dom == 147 || dom == 149
/-- The divider of a domain on FIO, and on MPL1 in service (R59). -/
def fioDiv (dom : Nat) : Nat := if dom = 147 ∨ dom = 149 then 2 else 1
def Device.mplDiv (d : Device) (dom : Nat) : Nat :=
  match dom with
  | 144 => d.clk.engDiv
  | 147 => 20
  | 149 => 25
  | _ => 10

/-- The least common multiple of 4 to 32; frequencies times this number are whole numbers of Hz. -/
def freqScale : Nat := 144403552893600
/-- The frequency of an MPL1 divider, scaled. -/
def mplFreq (div : Nat) : Nat := 5000000000 * freqScale / div
/-- The last counted frequency of FIO in Hz. -/
def Device.fioHz (d : Device) : Nat := (d.judge? 2).count.getD 400000000
/-- The frequency of a domain as the sequencer takes it, scaled: nominal on MPL1, counted on FIO; after a forced change of source the
nominal of FIO (R63, R64). (DESIGN CHOICE: log entry 40) -/
def Device.domFreq (d : Device) (dom : Nat) (forced : Bool) : Nat :=
  if d.curSrc dom = 1 then mplFreq (max 1 (d.curDiv dom))
  else (if forced then 400000000 else d.fioHz) * freqScale / max 1 (d.curDiv dom)
/-- The frequency a change leads to, scaled. -/
def targetFreq (src div : Nat) : Nat := if src = 1 then mplFreq (max 1 div) else 400000000 * freqScale / max 1 div

/-- A change by more than 25 % (R63). (DESIGN CHOICE: log entry 40) -/
def farApart (a b : Nat) : Bool := decide (5 * min a b < 4 * max a b)
def absDiff (a b : Nat) : Nat := max a b - min a b

/-- The next divider of a ramp: of the MPL1 dividers /4 to /32 within 1/1.25 and 1.25 times the frequency in force, and not past the
target, the one closest to the target (R63). (DESIGN CHOICE: log entry 40) -/
def rampDiv (now goal : Nat) : Option Nat :=
  let ok := fun k =>
    let f := mplFreq k
    decide (4 * f ≤ 5 * now) && decide (4 * now ≤ 5 * f) && (if now ≤ goal then decide (f ≤ goal) else decide (goal ≤ f))
  ((range 4 33).filter ok).foldl (fun best k =>
    match best with
    | none => some k
    | some b => if absDiff (mplFreq k) goal < absDiff (mplFreq b) goal then some k else some b) none

/-- The operating point whose divider is n. -/
def pointOfDiv (n : Nat) : Option Nat := match n with | 10 => some 0 | 5 => some 1 | 4 => some 2 | _ => none
def vidOf (r : Nat) : Nat := match r with | 0 => 0x18 | 1 => 0x28 | _ => 0x38
def divOf (r : Nat) : Nat := match r with | 0 => 10 | 1 => 5 | _ => 4
def pointOfVid (v : Nat) : Nat := if v = 0x18 then 0 else if v = 0x28 then 1 else 2

def Device.putSwitch (d : Device) (dom : Nat) (w : Switch) : Device :=
  (d.onClk (fun c => { c with switch := Store.set c.switch dom w })).put F.CLK_DOM_STAT_BUSY dom 1
/-- The change of a domain is over, whatever its outcome. -/
def Device.dropSwitch (d : Device) (dom : Nat) : Device :=
  (d.onClk (fun c => { c with switch := Store.erase c.switch dom })).putB F.CLK_DOM_STAT_BUSY dom (d.clk.resetting.contains dom)

/-- CLK_OP follows the divider of ENG (R73); the spec gives no value for a divider of no point. (DESIGN CHOICE: log entry 148) -/
def Device.showClkOp (d : Device) : Device :=
  if d.curSrc 144 = 1 then
    match pointOfDiv (d.curDiv 144) with
    | some r => d.put F.PWR_OP_STAT_CLK_OP 0 r
    | none =>
      let (x, d) := d.draw 7
      d.put F.PWR_OP_STAT_CLK_OP 0 x
  else d.put F.PWR_OP_STAT_CLK_OP 0 3

/-- A domain runs from a source under a divider. -/
def Device.putClock (d : Device) (dom src div : Nat) : Device :=
  let d := (d.put F.CLK_DOM_STAT_CUR_SRC dom src).put F.CLK_DOM_STAT_CUR_DIV dom div
  d.when (dom == 144) (·.showClkOp)

/-! ## The voltage-frequency sequencer: what it does once ENG has its divider (R73-R75) -/

/-- VID changes: the code, the point it drives, and PG_IN ignored for 200 µs (R37). -/
def Device.setVid (d : Device) (v : Nat) : Device :=
  ((d.put F.PWR_OP_STAT_VID 0 v).put F.PWR_OP_STAT_VOLT_OP 0 (pointOfVid v)).onClk (fun c => { c with blank := true })

/-- The sequencer is idle. -/
def Device.opIdle (d : Device) : Device :=
  ((d.onClk (fun c => { c with opTarget := none })).put F.PWR_OP_STAT_PHASE 0 0).put F.PWR_OP_STAT_BUSY 0 0

/-- The ramp of the request in progress is done: a lower voltage follows, then OP_DONE (R74). (DEDUCED: log entry 45) -/
def Device.opAfterRamp (d : Device) : Device :=
  match d.clk.opTarget with
  | some r => ((if vidOf r < d.get F.PWR_OP_STAT_VID then d.setVid (vidOf r) else d).opIdle).event F.PWR_EVT_OP_DONE
  | none => d.opIdle

/-- A change of a domain has reached its divider: RESULT, SWITCH_DONE unless it was forced; for ENG the sequencer goes on. -/
def Device.switchEnds (d : Device) (dom : Nat) (w : Switch) : Device :=
  let d := d.dropSwitch dom
  let d := if w.forced then d else (d.put F.CLK_DOM_STAT_RESULT dom 1).event F.CLK_SWITCH_EVT_SWITCH_DONE
  if dom = 144 && d.is F.PWR_OP_STAT_BUSY && d.get F.PWR_OP_STAT_PHASE != 1 then d.opAfterRamp else d

/-- One ramp divider is taken (R63). With none left the domain is at its target, or changes over to FIO next. -/
def Device.rampOnce (d : Device) (dom : Nat) (w : Switch) : Device :=
  let w := { w with since := d.tow.ticks }
  let goal := targetFreq w.src w.div
  let now := d.domFreq dom w.forced
  if w.src = 1 then
    let k := if farApart now goal then (rampDiv now goal).getD w.div else w.div
    let d := (d.putClock dom 1 k).putSwitch dom w
    if k = w.div then d.switchEnds dom w else d
  else
    match rampDiv now goal with
    | some k =>
      let d := d.putClock dom 1 k
      d.putSwitch dom { w with crossing := (rampDiv (mplFreq k) goal).all (· == k), ramped := true }
    | none => d.putSwitch dom { w with crossing := true }

/-- A change of a domain to a source and divider starts. One from MPL1 takes its first ramp divider at once; one to FIO, or of REF,
ends with a change-over, also when that clock is in force already (R61, R63). -/
def Device.startSwitch (d : Device) (dom src div : Nat) (host : Bool := false) : Device :=
  let w : Switch := { src, div, crossing := dom == 154 || src == 0 || d.curSrc dom != src, host, since := d.tow.ticks }
  let d := d.putSwitch dom w
  if dom = 154 then d
  else if d.curSrc dom = 1 ∧ src = 1 then d.rampOnce dom { w with crossing := false }
  else if d.curSrc dom = 1 ∧ farApart (d.domFreq dom false) (targetFreq src div) then d.rampOnce dom { w with crossing := false }
  else d

/-- A request is refused (R62). (DEDUCED: log entry 41) -/
def Device.refuseSwitch (d : Device) (dom r : Nat) : Device :=
  ((d.put F.CLK_DOM_STAT_RESULT dom r).event F.CLK_SWITCH_EVT_SWITCH_REFUSED).when (r == 3) (fun d => d.clockReport 2 dom)

/-- A domain has a switch or a reset in progress. -/
def Device.domBusy (d : Device) (dom : Nat) : Bool := d.is F.CLK_DOM_STAT_BUSY dom

/-- Software requests a change of a domain to SRC: refused, in the order of R62, or started. -/
def Device.hostSwitch (d : Device) (dom src : Nat) : Device :=
  let source := if src = 0 then 2 else 5
  if decide (src ≤ 1) && switchable dom && !d.ready source then d.refuseSwitch dom 3
  else if d.domBusy dom then d.refuseSwitch dom 4
  else if !switchable dom || 2 ≤ src then d.refuseSwitch dom 5
  else (d.onClk (fun c => { c with fell := c.fell.filter (· != dom) })).startSwitch dom src (if src = 1 then d.mplDiv dom else fioDiv dom) true

/-- The domain is on its incoming clock: the source in force, and of a ramp up the first divider (R61, R63). -/
def Device.changeOver (d : Device) (dom : Nat) (w : Switch) : Device :=
  if dom = 154 then (d.put F.CLK_REF_STAT_ACTIVE 0 w.src).switchEnds dom w
  else
    let goal := targetFreq w.src w.div
    let now := d.domFreq dom w.forced
    let k := if w.src = 1 && farApart now goal then (rampDiv now goal).getD w.div else w.div
    let d := d.putClock dom w.src k
    if k = w.div then d.switchEnds dom w else d.putSwitch dom { w with crossing := false, since := d.tow.ticks }

/-- The ramp divider in force has not yet been held for its 63 pounds, timed so once TOW runs (R63). (DESIGN CHOICE: log entry 9) -/
def Device.divHeld (d : Device) (w : Switch) : Bool := d.tow.running && decide (d.tow.ticks < w.since + 63)

/-- SWITCH_DONE: the change of a domain is complete on its incoming clock; the last divider of a ramp to FIO is held first (R63). -/
def Device.switchDone (d : Device) (dom : Nat) : Device :=
  match d.switchOf dom with
  | some w => if !w.crossing || (w.ramped && d.divHeld w) then d else d.changeOver dom w
  | none => d

/-- RAMP_STEP: the hold of a ramp divider expires; a stopped MPL1 takes no divider (R63). (DESIGN CHOICE: log entry 9) -/
def Device.rampStep (d : Device) (dom : Nat) : Device :=
  match d.switchOf dom with
  | some w => if w.crossing || !d.mpl1Runs || d.divHeld w then d else d.rampOnce dom w
  | none => d

/-- A REF domain reset restarts the judgement counters of the inputs, XI0 and XI1, and of no other source (R67).
(DESIGN CHOICE: log entry 154) -/
def Device.refReset (d : Device) : Device :=
  (d.setJudge 0 { d.judge? 0 with hits := [], outs := 0, held := 0 }).setJudge 1 { d.judge? 1 with hits := [], outs := 0, held := 0 }

/-- A domain reset is held. -/
def Device.holdDom (d : Device) (dom : Nat) : Device :=
  (d.onClk (fun c => { c with resetting := dom :: c.resetting.filter (· != dom) })).put F.CLK_DOM_STAT_BUSY dom 1

/-- After a forced change of REF the Keeper, once it runs, resets that domain (R21, R67). (DESIGN CHOICE: log entry 26) -/
def Device.resetRef (d : Device) : Device :=
  if d.is F.CLK_DOM_STAT_UNTRUSTED 154 && !d.domBusy 154 && !d.kpr.restarting then d.refReset.holdDom 154 else d

/-- SWITCH_FORCED: no low phase of the outgoing clock in 32 cycles (R64); after a forced change of REF the Keeper resets that domain.
(DEDUCED: log entry 41) -/
def Device.switchForced (d : Device) (dom : Nat) : Device :=
  match d.switchOf dom with
  | some w =>
    if d.curSrc dom = w.src && dom != 154 then d
    else
      let w := { w with forced := true }
      let d := ((d.put F.CLK_DOM_STAT_RESULT dom 2).put F.CLK_DOM_STAT_UNTRUSTED dom 1).event F.CLK_SWITCH_EVT_SWITCH_FORCED
      let d := (d.clockReport 3 dom).changeOver dom w
      if dom = 154 then d.resetRef else d
  | none => d

/-! ## Operating points (R74, R75) -/

/-- ENG is ramped to the divider of a point; on FIO the divider is recorded (R74). -/
def Device.opRamp (d : Device) (r : Nat) : Device :=
  let d := d.onClk (fun c => { c with engDiv := divOf r })
  match d.switchOf 144 with
  | some w => if w.src = 1 then (d.putSwitch 144 { w with div := divOf r }) else d.opAfterRamp
  | none =>
    if d.curSrc 144 = 1 then
      if d.curDiv 144 = divOf r then d.opAfterRamp else d.startSwitch 144 1 (divOf r)
    else d.opAfterRamp

/-- The sequencer starts a request (R74). -/
def Device.opStart (d : Device) (r : Nat) : Device :=
  let now := d.get F.PWR_OP_STAT_VID
  let d := (d.onClk (fun c => { c with opTarget := some r, vidBefore := now })).put F.PWR_OP_STAT_BUSY 0 1
  if now < vidOf r then (d.setVid (vidOf r)).put F.PWR_OP_STAT_PHASE 0 1
  else (d.put F.PWR_OP_STAT_PHASE 0 (if d.curSrc 144 = 1 ∧ divOf r < d.curDiv 144 then 2 else 3)).opRamp r

/-- A held request starts when the sequencer is idle and ENG has no change in progress (R75). (DEDUCED: log entry 45) -/
def Device.opNext (d : Device) : Device :=
  match d.clk.opHeld with
  | some r =>
    if d.is F.PWR_OP_STAT_BUSY || d.domBusy 144 then d
    else ((d.onClk (fun c => { c with opHeld := none })).put F.PWR_OP_STAT_HELD 0 0).opStart r
  | none => d

/-- A request reaches the sequencer: it is held, replacing a held one, and starts at once when nothing is in progress (R75). -/
def Device.opRequest (d : Device) (r : Nat) : Device :=
  ((d.onClk (fun c => { c with opHeld := some r })).put F.PWR_OP_STAT_HELD 0 1).opNext

/-- A write of PWR_OP_CTRL: OP_REQ 3 leaves the request unchanged; the sequencer acts once step 6 has asked it (R37, R74). -/
def Device.wrOpCtrl (d : Device) (v : Nat) : Device :=
  let r := bits v 1 0
  if r = 3 then d
  else
    let d := d.put F.PWR_OP_CTRL_OP_REQ 0 r
    if d.boot.opAsked then d.opRequest r else d

/-- PG_BLANKING_END: PG_IN is looked at, at the end of the blanking or after it; found high after a raise it lets the ramp begin (R74).
In reset its level is shown and nothing else (R32). (DEDUCED: log entry 44) -/
def Device.pgBlankingEnd (d : Device) (pg : Bool) : Device :=
  let d := (d.onClk (fun c => { c with blank := false })).putB F.SYS_RAIL_STAT_PG_IN 0 pg
  match d.clk.opTarget with
  | some r =>
    if pg && d.get F.PWR_OP_STAT_PHASE == 1 then
      ((d.put F.PWR_OP_STAT_PHASE 0 (if d.curSrc 144 = 1 ∧ d.curDiv 144 < divOf r then 3 else 2)).opRamp r).opNext
    else d
  | none => d

/-- RAISE_FAILED: PG_IN is not high at the timeout of a raise; the previous code is restored (R74). (DEDUCED: log entry 44) -/
def Device.raiseFailed (d : Device) : Device :=
  if d.is F.PWR_OP_STAT_BUSY && d.get F.PWR_OP_STAT_PHASE == 1 then
    let d := ((d.put F.SYS_RAIL_STAT_PG_IN 0 0).setVid d.clk.vidBefore).opIdle
    ((d.event F.PWR_EVT_RAISE_FAILED).report 1 0 3 0).opNext
  else d

/-- The ramp of a PG_LOST shows in PHASE, but for one that meets a raise waiting for PG_IN, which goes on waiting (R37, R74).
(DEDUCED: log entry 44) -/
def Device.lostPhase (d : Device) : Device :=
  if d.get F.PWR_OP_STAT_PHASE = 1 then d else (d.put F.PWR_OP_STAT_BUSY 0 1).put F.PWR_OP_STAT_PHASE 0 5

/-- PG_LOST: PG_IN low for 10 µs outside blanking; a ramp in progress and a held request end, ENG is ramped to /10 (R37, R75). In
reset the level is shown and nothing else (R32). (DEDUCED: log entry 44) -/
def Device.pgLost (d : Device) : Device :=
  if d.clk.blank then d
  else if d.boot.inReset then d.put F.SYS_RAIL_STAT_PG_IN 0 0
  else
    let d := ((d.put F.SYS_RAIL_STAT_PG_IN 0 0).event F.PWR_EVT_PG_LOST).report 1 0 2 0
    let d := if d.get F.PWR_OP_STAT_PHASE = 1 then d else d.opIdle
    let d := (d.onClk (fun c => { c with opHeld := none, engDiv := 10 })).put F.PWR_OP_STAT_HELD 0 0
    match d.switchOf 144 with
    | some w =>
      if w.src = 0 then d
      else if w.crossing then d.putSwitch 144 { w with div := 10 }
      else if d.curDiv 144 = 10 then d.lostPhase.switchEnds 144 { w with div := 10 }
      else d.lostPhase.startSwitch 144 1 10
    | none =>
      if d.curSrc 144 = 1 ∧ d.curDiv 144 ≠ 10 then d.lostPhase.startSwitch 144 1 10 else d

/-- The ramp of ENG is cut short: by a domain reset, or by the change to FIO, on which the divider is recorded (R65, R69, R74). -/
def Device.opCut (d : Device) (toFio : Bool) : Device :=
  if d.is F.PWR_OP_STAT_BUSY && d.get F.PWR_OP_STAT_PHASE != 1 then
    if toFio && d.clk.opTarget.isSome then d.opAfterRamp else d.opIdle
  else d

/-! ## Holdover and reference changeover (R66-R68) -/

/-- MPL0 enters holdover; a loss of its input writes a record (R66). (DEDUCED: log entry 36) -/
def Device.mpl0Holdover (d : Device) (lost : Bool) : Device :=
  if d.mpl0Lock then
    let d := ((d.put F.CLK_REF_STAT_MPL0_LOCK 0 0).put F.CLK_REF_STAT_MPL0_HOLDOVER 0 1).event F.CLK_REF_EVT_HOLDOVER_ENTERED
    d.when lost (fun d => d.clockReport 4 d.activeXi)
  else d

/-- REF changes to an input under R62. (DEDUCED: log entry 36) -/
def Device.refChange (d : Device) (i : Nat) : Device :=
  if !d.ready i then d.refuseSwitch 154 3
  else if d.domBusy 154 then d.refuseSwitch 154 4
  else d.startSwitch 154 i (xiPrescaler (d.xiFreq i))

/-- The input to which MPL0 goes from holdover: with AUTO_FAILOVER set the other one when the active one is not READY; after both were
lost, set or not, the first READY again, of two the one SEL prefers (R68). -/
def Device.holdoverInput (d : Device) : Option Nat :=
  let sel := d.get F.CLK_REF_CTRL_SEL
  let act := d.activeXi
  if d.clk.bothLost then (if d.ready sel then some sel else if d.ready (1 - sel) then some (1 - sel) else none)
  else if d.is F.CLK_REF_CTRL_AUTO_FAILOVER && !d.ready act && d.ready (1 - act) then some (1 - act)
  else none

/-- MPL0 has no input to track: in holdover, or from step 4 on not locked yet. (DEDUCED: log entry 37) -/
def Device.mpl0Waits (d : Device) : Bool := d.mpl0Hold || (decide (4 ≤ d.step) && !d.mpl0Lock)

/-- While MPL0 waits for an input the Keeper changes REF to that of R68, as soon as REF has no change in progress; with AUTO_FAILOVER
set that is a failover. (DEDUCED: log entries 28, 37) -/
def Device.refFailover (d : Device) : Device :=
  if !d.mpl0Waits || d.domBusy 154 || d.kpr.restarting then d
  else match d.holdoverInput with
    | none => d
    | some i =>
      let d := d.onClk (fun c => { c with bothLost := false })
      if i = d.activeXi then d
      else (d.refChange i).when (d.is F.CLK_REF_CTRL_AUTO_FAILOVER) (fun d => (d.event F.CLK_REF_EVT_FAILOVER).clockReport 5 i)

/-- MPL0_RELOCK: MPL0 relocks to its READY input with phase build-out (R66), after the reset that follows a forced change (R67). -/
def Device.mpl0Relock (d : Device) : Device :=
  if d.mpl0Hold && d.ready d.activeXi && !d.domBusy 154 && !d.is F.CLK_DOM_STAT_UNTRUSTED 154 then
    ((d.onClk (fun c => { c with bothLost := false })).put F.CLK_REF_STAT_MPL0_HOLDOVER 0 0).put F.CLK_REF_STAT_MPL0_LOCK 0 1
  else d

/-! ## Fallback (R69) -/

def mplDomains : List Nat := [144, 145, 146, 147, 149]

/-- A domain is on MPL1, or changes to it. -/
def Device.onMpl1 (d : Device) (dom : Nat) : Bool :=
  match d.switchOf dom with
  | some w => w.src == 1
  | none => d.curSrc dom == 1

/-- MPL1 has lost lock or READY: with FALLBACK_EN the domains on it move to FIO, at each loss those that are back on it.
(DEDUCED: log entry 39) -/
def Device.fallback (d : Device) : Device :=
  if d.is F.CLK_REF_CTRL_FALLBACK_EN && (mplDomains.any d.onMpl1 || (!d.clk.fellBack && decide (6 ≤ d.step))) then
    let d := d.onClk (fun c => { c with fellBack := true })
    let d := forEach mplDomains (fun dom d =>
      d.when (d.onMpl1 dom) (fun d =>
        let d := d.onClk (fun c => { c with fell := c.fell.filter (· != dom) ++ [dom] })
        let d := d.when (dom == 144) (fun d => d.opCut true)
        let d := d.when (d.switchOf dom).isSome (fun d => d.dropSwitch dom)
        if d.curSrc dom = 1 then d.startSwitch dom 0 (fioDiv dom) else d)) d
    (d.event F.CLK_SWITCH_EVT_FALLBACK).clockReport 6 0
  else d

/-- The domains that the fallback moved return to MPL1 one by one as they are idle, those that are trusted.
(DESIGN CHOICE: log entry 127) -/
def Device.returnDomains (d : Device) : Device :=
  if d.clk.fellBack || !d.ready 5 || d.kpr.restarting then d
  else
    let idle := d.clk.fell.filter (fun dom => !d.domBusy dom)
    let d := d.onClk (fun c => { c with fell := c.fell.filter (fun dom => !idle.contains dom) })
    forEach idle (fun dom d =>
      d.when (d.curSrc dom == 0 && !d.is F.CLK_DOM_STAT_UNTRUSTED dom) (fun d => d.startSwitch dom 1 (d.mplDiv dom))) d

/-- MPL1 has been READY again for 8 windows: the Keeper returns the domains that the fallback moved. (DESIGN CHOICE: log entry 127) -/
def Device.fallForward (d : Device) : Device :=
  if d.clk.fellBack && d.ready 5 && decide (8 ≤ (d.judge? 5).held) && !d.kpr.restarting then
    (d.onClk (fun c => { c with fellBack := false })).returnDomains
  else d

/-- MPL1 is READY and ends a window inside its band: after 8 it is locked again, and the fallback ends. (DESIGN CHOICE: log entry 127) -/
def Device.mpl1Back (d : Device) : Device :=
  if 8 ≤ (d.judge? 5).held then (d.put F.CLK_REF_STAT_MPL1_LOCK 0 1).fallForward else d

/-- MPL1_UNLOCK: MPL1 loses lock (R69). -/
def Device.mpl1Unlock (d : Device) : Device :=
  if d.is F.CLK_REF_STAT_MPL1_LOCK then
    ((d.put F.CLK_REF_STAT_MPL1_LOCK 0 0).setJudge 5 { d.judge? 5 with held := 0 }).fallback
  else d

/-! ## Judgement (R55-R58) -/

/-- A source loses READY: event, record, and what follows for MPL0 and MPL1 (R57, R58, R66, R69). -/
def Device.loseReady (d : Device) (src : Nat) : Device :=
  let d := d.setJudge src { d.judge? src with hits := [], held := 0 }
  if d.ready src then
    let d := ((d.putBit F.CLK_REF_STAT_READY 0 src false).eventBit F.CLK_REF_EVT_READY_LOST 0 src).clockReport 1 src
    if src ≤ 1 then
      let d := if src = d.activeXi then d.mpl0Holdover true else d
      (d.onClk (fun c => { c with bothLost := c.bothLost || (d.mpl0Hold && !d.ready (1 - src)) })).refFailover
    else if src = 5 then d.fallback
    else d
  else d

/-- w of a source in units of 10 ppm, at most 50,000. -/
def Device.winOf (d : Device) (src : Nat) : Nat := min 50000 (d.get F.CLK_JUDGE_CFG_WIN_10PPM src)

/-- A counted frequency is inside the band (R56). -/
def inBand (hz nom w t : Nat) : Bool :=
  decide (nom * (100000 - w) * 100 ≤ hz * (100 + t) * 100000) && decide (hz * (100 - t) * 100000 ≤ nom * (100000 + w) * 100)

/-- The counted frequencies of eight windows agree within a limit in ppm of their mean (R56). -/
def agree (l : List Nat) (ppm : Nat) : Bool :=
  let s : Nat := l.foldl (· + ·) 0
  l.length == 8 && l.all (fun f => decide ((((8 * f : Nat) : Int) - (s : Nat)).natAbs * 1000000 ≤ ppm * s))

/-- Gate length of a source's windows in ms. -/
def Device.gateMs (d : Device) (src : Nat) : Nat := max 1 (d.get F.CLK_JUDGE_CFG_WIN_MS src)

/-- The counted frequency in whole Hz of a source of nominal frequency `nom` against a second clock of nominal frequency `second`: the
slower clock times a gate of `ms` nominal milliseconds, the faster one is counted (R55). (DEDUCED: log entry 149) -/
def countedHz (nom second ms count : Nat) : Nat :=
  if second < nom then count * second / (ms * second / 1000) else nom * ms / 1000 * second / count

/-- The sources whose window of equal length ends first: XI0, XI1 and RefBus, before FIO and SIO (R58). -/
def judgedFirst : List Nat := [0, 1, 4]

/-- FIO and SIO are evaluated after the READY sources of `judgedFirst` whose windows are as long. (DEDUCED: log entry 151) -/
def Device.windowTurn (d : Device) (src : Nat) : Bool :=
  !(src == 2 || src == 3)
    || judgedFirst.all (fun s => !d.ready s || d.gateMs s != d.gateMs src || d.clk.judgedNow.contains (8 * s + src))

/-- A window has been evaluated: it stands before those of FIO and SIO that follow, or has followed. (DEDUCED: log entry 151) -/
def Device.windowTaken (d : Device) (src : Nat) : Device :=
  let l := d.clk.judgedNow
  let l := if judgedFirst.contains src then l.filter (fun k => k / 8 != src) ++ [8 * src + 2, 8 * src + 3]
    else l.filter (fun k => k % 8 != src)
  d.onClk (fun c => { c with judgedNow := l })

/-- The verdict on a counted frequency of a source that is judged (R56, R57). -/
def Device.judgeCount (d : Device) (src nom t hz : Nat) : Device :=
  let j := d.judge? src
  let ok := inBand hz nom (d.winOf src) t
  let hits := if ok then (hz :: j.hits).take 8 else []
  let outs := if ok then 0 else j.outs + 1
  let d := d.setJudge src { hits, outs, count := some hz, held := if ok && d.ready src then min 8 (j.held + 1) else 0 }
  let d := d.put F.CLK_JUDGE_STAT_DEV_PPM src (unsgnSat 24 (divRound (((hz : Int) - nom) * 1000000) nom))
  if d.ready src then (if 2 ≤ outs then d.loseReady src else if src = 5 then d.mpl1Back else d)
  else if agree hits (max 1 (d.get F.CLK_JUDGE_CFG_AGREE_PPM src)) then
    let d := d.putBit F.CLK_REF_STAT_READY 0 src true
    if src ≤ 1 then d.refFailover else d
  else d

/-- JUDGE_WINDOW: a window of a source ends with a count of the faster clock. With its second clock not READY the judgement is
suspended; a running source clears its stop detector (R55-R58). (DEDUCED: log entry 38) -/
def Device.judgeSource (d : Device) (src count : Nat) : Device :=
  match d.nominalHz src with
  | none => d
  | some nom =>
    if !d.judged src || !d.windowTurn src then d
    else
      let (second, t) := d.secondClock src
      let d := d.windowTaken src
      if !d.ready second then d
      else
        let hz := countedHz nom ((d.nominalHz second).getD 0) (d.gateMs src) count
        (d.when (decide (0 < hz)) (fun d => d.put F.CLK_JUDGE_STAT_STOPPED src 0)).judgeCount src nom t hz

/-- STOP_DETECT: no edge in 64 cycles of the second clock (R57). -/
def Device.stopDetect (d : Device) (src : Nat) : Device :=
  if d.ready src then (d.put F.CLK_JUDGE_STAT_STOPPED src 1).loseReady src else d.put F.CLK_JUDGE_STAT_STOPPED src 1

/-- A write of CLK_REF_CTRL: a new mode or frequency restarts the judgement of its input, a new SEL requests a change of REF with MPL0
in holdover, which is refused like any other while the input is not READY (R53, R62, R66, R67). Before step 4 a write of the Keeper, which
reads the boot configuration, requests none. (DEDUCED: log entries 36, 128) -/
def Device.wrRefCtrl (d : Device) (v : Nat) (asks : Bool := true) : Device :=
  let changed0 := bits v 6 5 != d.xiMode 0 || bits v 4 2 != d.xiFreq 0
  let changed1 := bits v 11 10 != d.xiMode 1 || bits v 9 7 != d.xiFreq 1
  let newSel := bits v 14 14 != d.get F.CLK_REF_CTRL_SEL
  let d := forEach R.CLK_REF_CTRL.fields (fun f d => d.put f 0 (bits v f.hi f.lo)) d
  let d := d.when changed0 (fun d => (d.setJudge 0 {}).loseReady 0)
  let d := d.when changed1 (fun d => (d.setJudge 1 {}).loseReady 1)
  if newSel && (asks || decide (4 ≤ d.step)) then (d.mpl0Holdover false).refChange (bits v 14 14) else d

/-! ## Meanings -/

def execStopDetect (src : Fin 6) (s : State) : Host.Outcome State Fault Refusal := .next (s.on (·.stopDetect src))
/-- REF_SWITCH: the write of CLK_REF_CTRL (R67). -/
def execRefSwitch (v : Word) (s : State) : Host.Outcome State Fault Refusal := .next (s.on (fun d => (d.wrRefCtrl v.toNat).markDirty))
def execMpl0Relock (s : State) : Host.Outcome State Fault Refusal := .next (s.on (·.mpl0Relock))
def execMpl1Unlock (s : State) : Host.Outcome State Fault Refusal := .next (s.on (·.mpl1Unlock))
def execAuxDivUpdate (a : Fin 2) (s : State) : Host.Outcome State Fault Refusal := .next (s.on (·.auxDivUpdate a))
def execAuxSscUpdate (a : Fin 2) (s : State) : Host.Outcome State Fault Refusal := .next (s.on (·.auxSscUpdate a))

end Sys2Proof.Machine
end

