-- ==== Sys2Proof/Machine/Calibration.lean ====
section
/-! DEFINITION. The calibrations: their start, their parts, agreement, the pending image, apply, store (R281-R298). -/

namespace Sys2Proof.Machine

def Device.onCal (d : Device) (f : Cal → Cal) : Device := { d with cal := f d.cal }
def Device.calBusy (d : Device) : Bool := d.is F.CAL_STAT_BUSY
def Device.calKind (d : Device) : Nat := d.get F.CAL_STAT_KIND
def Device.calUnit (d : Device) : Nat := d.get F.CAL_STAT_UNIT
def Device.storeBusy (d : Device) : Bool := d.is F.CAL_STORE_STAT_STORE_BUSY

/-! ## Preconditions (R286) -/

/-- The valid entries of a core's band map. -/
def Device.validBands (d : Device) (c : Nat) : List Nat := (List.range 64).filter (fun e => bit (d.bandWord c e 0) 31)

/-- An output whose SRC is not 63 takes a core as its source. -/
def Device.coreUsed (d : Device) (c : Nat) : Bool :=
  (List.range 32).any (fun n => ((d.dividerOf (d.get F.COUT_SEL_SRC n)).any (fun v => v / 2 == c)))

/-- The unit is free for a calibration of a kind. -/
def Device.calUnitFree (d : Device) (kind unit : Nat) : Bool :=
  match kind with
  | 0 => d.blockOpened (64 + unit)
  | 1 => match d.role with
    | 1 | 4 => unit != 64
    | 2 => unit != 65
    | 3 => unit != d.tow.pri / 4
    | _ => true
  | 2 => d.blockOpened (80 + unit) && d.outputParked unit && d.get F.COUT_STAT_CUR_SRC unit == 63
  | 3 => d.blockOpened (64 + unit) && (d.core unit).berth.isNone && !d.coreUsed unit && !(d.validBands unit).isEmpty
  | _ => d.blockOpened (unit / 4) && (d.laneState unit == 1 || d.laneState unit == 8)

/-- A core that a BANDMAP run drives has not locked within RETUNE_LIMIT pounds of its band search, has failed it or has lost lock, before
its readings are taken. (DEDUCED: log entry 97) -/
def Device.fitUnlocked (d : Device) (c : Nat) : Bool :=
  d.cal.fit.any (fun x => x.2 == .tunes) && !d.locked c && (d.coreState c == 5 || d.coreState c == 6
    || (d.coreState c == 3 && decide (d.get F.COUT_RETUNE_CFG_RETUNE_LIMIT ≤ (d.core c).acq)))

/-- The code of the first precondition that fails, in the order of the columns of R286. HOLD is looked at only before a MON run has set
it. (DEDUCED: log entry 97) -/
def Device.calFail (d : Device) (kind unit : Nat) (start : Bool) : Option Nat :=
  if !d.ready 4 || !d.tow.running || (kind == 4 && !d.is F.LANE_QUAD_STAT_PLL_LOCK (unit / 4)) then some 0x10
  else if (kind == 0 && !d.locked unit) || (kind == 3 && d.fitUnlocked unit) then some 0x11
  else if kind == 0 && ((d.twin (unit / 2)).hop.isSome || (start && d.is F.LOOP_STAT_HOLD unit)) then some 0x12
  else if (kind == 0 || kind == 3) && (d.core unit).applyAt.isSome then some 0x12
  else if !d.calUnitFree kind unit then some 0x13
  else none

/-! ## Start and end of a calibration (R287, R288) -/

/-- A calibration ends with a code: its events, and what its unit does afterwards (R286). -/
def Device.calEnd (d : Device) (code : Nat) : Device :=
  let kind := d.calKind
  let u := d.calUnit
  let d := ((d.put F.CAL_STAT_CODE 0 code).put F.CAL_STAT_BUSY 0 0).put F.CAL_STAT_RUN 0 0
  let d := d.onCal (fun c => { c with first := none, now := {}, fit := none, left := [] })
  let d := if code = 1 then d.event F.CAL_EVT_DONE else d.event F.CAL_EVT_FAILED
  if kind = 0 ∧ d.coreClosed u = false then d.startHold u
  else if kind = 3 ∧ d.coreClosed u = false then (d.coreClose u).coreOpen u
  else d

/-- A calibration that its request or its preconditions end before it begins. -/
def Device.calReject (d : Device) (code : Nat) : Device :=
  ((d.put F.CAL_STAT_CODE 0 code).put F.CAL_STAT_RUN 0 0).event F.CAL_EVT_FAILED

/-! ## The loads of a BANDMAP run (R284) -/

/-- Settings of core c at a ratio in 1 / 2^17. -/
def Device.ratioSettings (d : Device) (c x : Nat) : Settings :=
  { n := x / 2 ^ 17, num := x % 2 ^ 17, modulus := 2 ^ 17, dA := d.dAReg c, dB := d.get F.LOOP_OUTDIV_DIV_B c + 1 }

/-- The run loads a ratio in free mode; the free target takes the phase the core has. The load takes effect with its row.
(DESIGN CHOICE: log entry 141) -/
def Device.fitLoad (d : Device) (c x : Nat) (k : Device → Device) : Device :=
  let start := d.coreState c == 1
  (k (d.newSettings c (d.ratioSettings c x) false start)).onCore c (fun k => { k with hasU := true, uFromQ := true })

/-- The fit of an entry begins: its middle ratio, in its tank, with a band search. -/
def Device.fitEntry (d : Device) (c e : Nat) (rest : List Nat) : Device :=
  let x := bits (d.bandWord c e 1) 20 0 + bits (d.bandWord c e 2) 20 0
  let d := d.onCal (fun l => { l with fit := some ({ entry := e }, .tunes), left := rest })
  d.fitLoad c x (fun d =>
    let d := (d.dropLock c).onCore c (fun k => { k with presetPark := true, since := 0 })
    (((d.put F.LOOP_STAT_TUNE_EDGE c 0).put F.LOOP_STAT_TANK c (bits (d.bandWord c e 0) 30 30)).put F.LOOP_STAT_STATE c 2).put
      F.LOOP_STAT_BAND_SEARCH c 1)

/-- A run fits every valid entry in turn. -/
def Device.fitBegin (d : Device) (c : Nat) : Device :=
  match d.validBands c with
  | e :: rest => d.fitEntry c e rest
  | [] => d

/-- The preset load of the refitted entry at R_LO or R_HI. -/
def Device.fitPreset (d : Device) (c : Nat) (b : BandFit) (p : FitPhase) : Device :=
  let w := fun i => d.bandWord c b.entry i
  let r := bits (w (if p = .lo then 1 else 2)) 20 0
  let d := d.onCal (fun l => { l with fit := some (b, p) })
  (d.fitLoad c (2 * r) (fun d => d.presetLoad c
    { tank := bits (w 0) 30 30, band := b.band, tune := b.tune, tempCal := sgn 8 b.temp, tc := sgn 8 (bits (w 3) 23 16) })).when
      (d.locked c) (fun d => d.startHold c)

/-- Keeper firmware starts the calibration that CAL_CMD names. -/
def Device.calStart (d : Device) : Device :=
  let kind := d.get F.CAL_CMD_KIND
  let u := d.get F.CAL_CMD_UNIT
  let d := d.put F.CAL_CMD_GO 0 0
  if d.calBusy then d.event F.CAL_EVT_REFUSED
  else
    let d := (d.put F.CAL_STAT_KIND 0 kind).put F.CAL_STAT_UNIT 0 u
    if unitCount kind ≤ u then d.calReject 0x18
    else
      match d.calFail kind u true with
      | some code => d.calReject code
      | none =>
        let d := ((d.put F.CAL_STAT_CODE 0 2).put F.CAL_STAT_BUSY 0 1).put F.CAL_STAT_RUN 0 1
        let d := d.onCal (fun c => { c with first := none, now := {} })
        if kind = 0 then d.startHold u
        else if kind = 3 then d.fitBegin u
        else d

/-- CAL_PRECONDITION_FAIL: the condition of a code is lost in a run (R287), the first in the order of the columns.
(DEDUCED: log entry 97) -/
def Device.calPrecondition (d : Device) (code : Nat) : Device :=
  if d.calBusy && d.calFail d.calKind d.calUnit false == some code then d.calEnd code else d

/-- The running calibration ends with ABORTED. -/
def Device.calAbort (d : Device) : Device := if d.calBusy then d.calEnd 0x17 else d

/-! ## Code density (R282-R284) -/

/-- Hits of a run, span in ps, grid periods, by kind. -/
def Device.calHits (d : Device) (kind : Nat) : Nat :=
  2 ^ max 20 (min 28 (if kind = 0 then d.get F.CAL_CFG_TDC_HITS_LOG else d.get F.CAL_CFG_DLY_HITS_LOG))
def calSpan (kind : Nat) : Nat := if kind = 2 then 1200 else 800
def calGrid (kind : Nat) : Nat := if kind = 2 then 3 else 2

/-- The largest number below 2^k whose square times b is at most a, from the bits of r upward. -/
def rootBits (a b : Nat) : Nat → Nat → Nat
  | 0, r => r
  | k + 1, r => rootBits a b k (if (r + 2 ^ k) * (r + 2 ^ k) * b ≤ a then r + 2 ^ k else r)

/-- K times the largest grid deviation. -/
def gridDev (n k : Nat) (grid : List Nat) : Nat := grid.foldl (fun m x => max m (((x * k : Nat) : Int) - (n : Nat)).natAbs) 0
/-- The histogram is uniform: every grid count lies within UNIF_SIGMA standard deviations (R282). (DEDUCED: log entry 95) -/
def uniform (n k sigma dev : Nat) : Bool := decide (dev * dev ≤ sigma * sigma * n * k)
/-- UNIF_Z: the largest deviation in 1/16 of sqrt(N / K). (DEDUCED: log entry 95) -/
def unifZ (n k dev : Nat) : Nat := rootBits (256 * dev * dev) (n * k) 16 0

/-- Rounded positions of the codes of a histogram in 1/64 ps, from zero, with the end of the last code. -/
def densityPos (span n : Nat) : Nat → List Nat → List Int
  | cum, [] => [divRound ((64 * span * cum : Nat) : Int) n]
  | cum, h :: t => divRound ((64 * span * cum : Nat) : Int) n :: densityPos span n (cum + h) t

/-- A code without hits that lies wholly within the span: a later bin has hits. -/
def missingCode : List Nat → Bool
  | [] => false
  | h :: t => (h == 0 && t.any (fun x => x != 0)) || missingCode t

/-- The next run, once its code density has passed: kinds 0 to 2 measure their offset. -/
def Device.calDensity (d : Device) (bins grid : List Nat) : Device :=
  let kind := d.calKind
  let n := d.calHits kind
  let k := calGrid kind
  let codes := codeCount kind
  let sum := fun (l : List Nat) => l.foldl (· + ·) 0
  if kind ≤ 2 ∧ d.get F.CAL_STAT_RUN ≠ 3 ∧ bins.length = codes + 1 ∧ sum bins = n ∧ grid.length = k ∧ sum grid = n then
    let dev := gridDev n k grid
    let d := (d.onCal (fun c => { c with bins })).put F.CAL_RESULT_UNIF_Z 0 (unifZ n k dev)
    match d.calFail kind d.calUnit false with
    | some code => d.calEnd code
    | none =>
      if !uniform n k (max 1 (d.get F.CAL_CFG_UNIF_SIGMA)) dev then d.calEnd 0x14
      else if missingCode bins || (kind != 2 && bins.getD codes 0 != 0) then d.calEnd 0x16
      else (d.onCal (fun c => { c with now := { c.now with pos := densityPos (calSpan kind) n 0 (bins.take codes) } })).put
        F.CAL_STAT_RUN 0 3
  else d

/-! ## Agreement of the two runs (R284, R285) -/

/-- The largest difference of two lists of integers, place by place. -/
def largestDiff (a b : List Int) : Nat := (List.zipWith (fun x y => (x - y).natAbs) a b).foldl max 0

/-- A code position on the output scale of its kind: 0.5 ps for MON, 1 ps for STAMP. -/
def onScale (kind : Nat) (l : List Int) : List Int := l.map (fun p => divRound p (if kind = 0 then 32 else 64))

/-- The taps selected for every DELAY value. -/
def tapChoices (p0 : Int) (pos : List Int) : List Int :=
  let taps := (pos.take 1024).map (· + p0)
  (List.range 4001).map (fun v => (nearestTap (16 * v : Nat) taps : Nat))

/-- The largest disagreement of two complete runs apart from their offsets, as a percentage of its tolerance. -/
def codeDiff (kind : Nat) (a b : CalRun) : Nat :=
  match kind with
  | 0 => 100 * largestDiff (onScale 0 (a.pos.take 2048)) (onScale 0 (b.pos.take 2048))
  | 1 => 100 * largestDiff (onScale 1 (a.pos.take 512)) (onScale 1 (b.pos.take 512))
  | 2 => 100 * largestDiff (tapChoices a.offset a.pos) (tapChoices b.offset b.pos)
  | 3 => (List.zipWith (fun (x y : BandFit) =>
      if x.band = y.band then 100 * ((x.tune : Int) - y.tune).natAbs else 255) a.fits b.fits).foldl max 0
  | _ => 100 * largestDiff (a.trims.map Int.ofNat) (b.trims.map Int.ofNat)

/-- The difference of the offsets in 1/64 ps. -/
def offsetDiff (a b : CalRun) : Nat := (a.offset - b.offset).natAbs
/-- The largest disagreement of two complete runs, as a percentage of its tolerance; that of an offset is 0.2 ps. -/
def disagreement (kind : Nat) (a b : CalRun) : Nat := max (codeDiff kind a b) (1000 * offsetDiff a b / 128)
/-- The runs agree: no difference beyond its tolerance. -/
def agreed (kind : Nat) (a b : CalRun) : Bool := decide (codeDiff kind a b ≤ 100) && decide (10 * offsetDiff a b ≤ 128)

/-! ## Apply (R290, R297) -/

/-- Bytes written from an offset on. -/
def setImgBytes (m : Image) : Nat → List Nat → Image
  | _, [] => m
  | i, b :: t => setImgBytes (setImgByte m i b) (i + 1) t

/-- A result of any kind is pending. -/
def Device.calPending (d : Device) : List (Nat × Nat) :=
  (List.range 5).flatMap (fun k => ((List.range (unitCount k)).filter (imgValid d.cal.held k)).map (fun u => (k, u)))
/-- Nothing is requested any more. -/
def Device.applyOver (d : Device) (result : Nat) : Device :=
  ((d.onCal (fun c => { c with applyAt := none })).put F.CAL_APPLY_GO 0 0).put F.CAL_APPLY_APPLY_RESULT 0 result
/-- An apply request is refused. -/
def Device.applyRefuse (d : Device) : Device := (d.applyOver 3).event F.CAL_EVT_APPLY_REFUSED

/-- The request for the boundary that opens pound p is judged. -/
def Device.applyJudge (d : Device) (p : Pound) : Device :=
  if !d.tow.running || d.storeBusy || decide (p.toNat < d.tow.pound.toNat + 2) then d.applyRefuse
  else ((d.onCal (fun c => { c with applyAt := some p })).put F.CAL_APPLY_GO 0 1).put F.CAL_APPLY_APPLY_RESULT 0 1

/-- One unit's bytes are copied from the pending to the in-force image. -/
def Device.takeBytes (d : Device) (ofs n : Nat) : Device :=
  d.onCal (fun c => { c with inForce := setImgBytes c.inForce ofs ((range ofs (ofs + n)).map (imgByte c.held)) })

/-- A pending band map: entries whose VALID, TANK and ratios still stand come into force, others are dropped. -/
def Device.applyBands (d : Device) (c : Nat) : Device :=
  let m := d.cal.held
  forEach (bandEntries m c) (fun e d =>
    if d.bandSame m c e then
      let d := d.takeBytes (bandBase c e 0) 16
      if d.coreClosed c then d else d.bandTake m c e
    else d.event F.CAL_EVT_STALE) d

/-- The measurements in progress on a quad's wharves go on with the image they began under (R290). -/
def Device.keepStamps (d : Device) (q : Nat) : Device :=
  let m := d.cal.inForce
  forEach ((range (4 * q) (4 * q + 4)).filter (fun h => d.wharfOf h == h && d.wharfUp h)) (fun h d =>
    d.onTowWharf h (fun w => { w with stamp := some (w.stamp.getD m) })) d

/-- A pending result comes into force (R290). A closed unit takes it when it opens. -/
def Device.applyUnit (d : Device) (kind u : Nat) : Device :=
  let d := d.when (kind == 1 && decide (u < 64)) (fun d => d.keepStamps u)
  let d := d.onCal (fun c => { c with inForce := setImgValid c.inForce kind u })
  match kind with
  | 3 => d.applyBands u
  | 4 => d.takeBytes (codeBase 4 u) 16
  | _ =>
    let d := (d.takeBytes (offsetBase kind u) 4).takeBytes (codeBase kind u) (codeCount kind)
    if kind = 0 ∧ d.coreClosed u = false then (d.monOffset u).onCore u (fun k => { k with avgSum := 0, avgCount := 0 })
    else if kind = 2 ∧ d.outputClosed u = false then d.walkToTable u
    else d

/-- CAL_APPLY: the boundary of the request. -/
def Device.calApply (d : Device) : Device :=
  match d.cal.applyAt with
  | some p =>
    if p.toNat ≤ d.tow.pound.toNat then
      let l := d.calPending
      let d := forEach l (fun x d => d.applyUnit x.1 x.2) d
      let d := d.when (!l.isEmpty) (fun d => d.onCal (fun c => { c with inForce := sealImg c.inForce, pend := {} }))
      (d.applyOver 2).event F.CAL_EVT_APPLIED
    else d
  | none => d

/-- An apply whose boundary has passed is carried out before anything else touches the pending results: what becomes pending from that boundary
on is no part of it (R297). (DEDUCED: log entry 96) -/
def Device.applyPassed (d : Device) : Device := d.when (d.cal.applyAt.any (fun p => decide (p.toNat ≤ d.tow.pound.toNat))) Device.calApply

/-- A write of CAL_APPLY. (DEDUCED: log entry 96) -/
def Device.wrCalApply (d : Device) (v : Nat) : Device :=
  let d := d.applyPassed
  if bit v 31 then d.applyJudge (BitVec.ofNat 64 (d.get F.CAL_APPLY_POUND_HI_POUND * 2 ^ 32 + d.get F.CAL_APPLY_POUND_LO_POUND))
  else d

/-! ## The pending image (R289, R292) -/

/-- The widths between consecutive positions. -/
def widthsOf : List Int → List Int
  | a :: b :: t => (b - a) :: widthsOf (b :: t)
  | _ => []

/-- A width as the one byte of the image; what a wider one is stored as is open (kind 12 of the arbitrary values).
(DESIGN CHOICE: log entry 16) -/
def widthByte (epoch i : Nat) (w : Int) : Nat := if 0 ≤ w ∧ w < 256 then w.toNat else Config.arbitrary 12 epoch i % 256

/-- Word w of a refitted entry: BAND, TUNE and TEMP_CAL are new, the rest is the live entry's. -/
def Device.refitWord (d : Device) (c : Nat) (b : BandFit) (w : Nat) : Nat :=
  let live := d.bandWord c b.entry w
  if w = 0 then setBits (setBits live 29 22 b.band) 21 10 b.tune
  else if w = 3 then setBits live 31 24 b.temp
  else live

/-- An accepted result is held pending in place of an earlier one of its unit. -/
def Device.calHold (d : Device) (r : CalRun) : Device :=
  let d := d.applyPassed
  let kind := d.calKind
  let u := d.calUnit
  let m := setImgValid d.cal.held kind u
  let m := match kind with
    | 3 =>
      let m := forEach (List.range 64) (fun e m => setImgNum m 4 (bandBase u e 0) 0) m
      forEach r.fits (fun x m => forEach (List.range 4) (fun w m =>
        setImgNum m 4 (bandBase u x.entry w) (d.refitWord u x w)) m) m
    | 4 => setImgBytes m (codeBase 4 u) r.trims
    | _ => setImgBytes (setImgNum m 4 (offsetBase kind u) (unsgn 32 r.offset)) (codeBase kind u)
        ((widthsOf r.pos).zipIdx.map (fun x => widthByte d.freeCtr x.2 x.1))
  let d := { d with freeCtr := d.freeCtr + 1 }
  (d.onCal (fun c => { c with pend := m })).put F.CAL_TEMP_LAST_RUN 0 (d.get F.SYS_TEMP_NOW)

/-- A complete run: the first is kept and the second begins; the second is accepted when the two agree. -/
def Device.calComplete (d : Device) (r : CalRun) : Device :=
  match d.cal.first with
  | none =>
    ((d.onCal (fun c => { c with first := some r, now := {} })).put F.CAL_STAT_RUN 0 2).when (d.calKind == 3) (fun d => d.fitBegin d.calUnit)
  | some a =>
    let d := d.put F.CAL_RESULT_AGREE_PCT 0 (min 255 (disagreement d.calKind a r))
    if agreed d.calKind a r then (d.calHold r).calEnd 1 else d.calEnd 0x15

/-- A part ends: preconditions, then its statistics, then its range, then what follows. (DEDUCED: log entry 95) -/
def Device.calPartEnd (d : Device) (statistics range : Bool) (k : Device → Device) : Device :=
  match d.calFail d.calKind d.calUnit false with
  | some code => d.calEnd code
  | none =>
    if !statistics then d.calEnd 0x14
    else if !range then d.calEnd 0x16
    else k d

/-- How many readings a list of readings with their counts stands for. -/
def readingCount {α : Type} (l : List (α × Nat)) : Nat := (l.map (·.2)).foldl (· + ·) 0
/-- The sum of the readings. -/
def readingSum (l : List (Int × Nat)) : Int := (l.map (fun x => x.1 * (x.2 : Int))).foldl (· + ·) 0
/-- How many of the readings lie within `r` of the mean of all of them. -/
def readingsNear (r : Nat) (l : List (Int × Nat)) : Nat :=
  let n := readingCount l
  readingCount (l.filter (fun x => decide ((x.1 * (n : Int) - readingSum l).natAbs ≤ r * n)))

/-- A reading of a mean run as a time in 1/64 ps: a TDC's by the code positions just measured, the return sampler's as it is (R281, R283).
(DESIGN CHOICE: log entry 141) -/
def meanTime (kind : Nat) (pos : List Int) (x : Int) : Int :=
  if kind = 2 then x else 51200 * ((x.toNat / codeCount kind : Nat) : Int) + pos.getD (x.toNat % codeCount kind) 0

/-- A mean run of 2^16 readings ends: their mean rounded to 1/64 ps is the offset, and 99.9 % of them must lie within 8 ps of the mean
(R283); the last tap of a delay line must lie at 1,000 ps or beyond (R284). -/
def Device.calMean (d : Device) (readings : List (Int × Nat)) : Device :=
  if d.calKind ≤ 2 ∧ d.get F.CAL_STAT_RUN = 3 ∧ readingCount readings = 65536 then
    let times := readings.map (fun x => (meanTime d.calKind d.cal.now.pos x.1, x.2))
    let offset := divRound (readingSum times) 65536
    let r := { d.cal.now with offset }
    (d.put F.CAL_OFFSET_OFFSET 0 (unsgn 32 offset)).calPartEnd (decide (999 * 65536 ≤ 1000 * readingsNear 512 times))
      (d.calKind != 2 || decide ((64000 : Int) ≤ offset + r.pos.getD 1023 0)) (fun d => d.calComplete r)
  else d

/-- The readings of an entry: TUNE is their mean, rounded; all must lie within 8 codes of the mean. BAND is the band the search found, and
TEMP_CAL the sensor reading. The preset load at R_LO follows (R284). -/
def Device.fitTunes (d : Device) (readings : List (Nat × Nat)) : Device :=
  match d.cal.fit with
  | some (b, .tunes) =>
    if d.calKind = 3 ∧ d.locked d.calUnit ∧ readingCount readings = 4096 then
      let l := readings.map (fun x => ((x.1 : Int), x.2))
      let b := { b with band := d.get F.LOOP_STAT_BAND d.calUnit, tune := (divRound (readingSum l) 4096).toNat,
                        temp := d.get F.SYS_TEMP_NOW }
      d.calPartEnd (readingsNear 8 l == 4096) true (fun d => d.fitPreset d.calUnit b .lo)
    else d
  | _ => d

/-- A preset load of the run has reached ALIGNED within RETUNE_LIMIT pounds, or it has not (R284): the next load, the next entry, or the
end of the run. (DEDUCED: log entry 97) -/
def Device.fitStep (d : Device) : Device :=
  let c := d.calUnit
  let k := d.core c
  let ok := d.is F.LOOP_STAT_ALIGNED c && !k.slow
  let late := k.slow || decide (d.get F.COUT_RETUNE_CFG_RETUNE_LIMIT ≤ k.sinceLoad)
  match d.cal.fit with
  | some (b, p) =>
    if d.calKind = 3 ∧ p ≠ .tunes ∧ (ok || late) then
      d.calPartEnd true ok (fun d =>
        if p = .lo then d.fitPreset c b .hi
        else
          let r := { d.cal.now with fits := d.cal.now.fits ++ [b] }
          match d.cal.left with
          | e :: rest => (d.onCal (fun l => { l with now := r })).fitEntry c e rest
          | [] => (d.onCal (fun l => { l with fit := none })).calComplete r)
    else d
  | none => d

/-! ## Lane trims (R284) -/

/-- The binary search over the bits of a trim from bit k - 1 down: a bit stays set when the density of ones at the code with it lies on
the side from which a larger code leads to one half. (DESIGN CHOICE: log entry 141) -/
def searchTrim : Nat → Nat → List Nat → Nat
  | k + 1, code, n :: t => searchTrim k (if Config.trimRaises = decide (n ≤ 32768) then code + 2 ^ k else code) t
  | _, code, _ => code
/-- The density at the trim found is 0.5 ± 0.02. -/
def halfOnes (n : Nat) : Bool := decide (50 * ((n : Int) - 32768).natAbs ≤ 65536)

/-- The trims of a lane's samplers are found: each density must pass, and no trim lie at an end of its range (R284, R287). -/
def Device.calTrims (d : Device) (ones : List (List Nat)) : Device :=
  if d.calKind = 4 ∧ ones.length = 16 ∧ ones.all (fun l => l.length == 9) then
    let trims := ones.map (fun l => searchTrim 8 0 (l.take 8))
    d.calPartEnd (ones.all (fun l => halfOnes (l.getD 8 0))) (trims.all (fun t => t != 0 && t != 255)) (fun d => d.calComplete { trims })
  else d

/-- CAL_RUN_DONE: one part of a run is measured. A part of another kind than the one running is not measured. (DEDUCED: log entry 95) -/
def Device.calRunDone (d : Device) (p : CalPart) : Device :=
  if d.calBusy then
    match p with
    | .density bins grid => d.calDensity bins grid
    | .mean readings => d.calMean readings
    | .tunes readings => d.fitTunes readings
    | .preset => d.fitStep
    | .trims ones => d.calTrims ones
  else d

/-! ## Discard, and a jump (R289, R297) -/

/-- Every pending result is cleared. -/
def Device.calDiscard (d : Device) : Device := d.onCal (fun c => { c with pend := {} })

/-- After a jump of the pound counter the request is judged again (R297). -/
def Device.applyRejudge (d : Device) : Device :=
  match d.cal.applyAt with
  | some p => if p.toNat < d.tow.pound.toNat + 2 then d.applyRefuse else d
  | none => d

/-! ## Store (R295) -/

/-- Keeper firmware starts or refuses a store. -/
def Device.calStore (d : Device) : Device :=
  let d := d.put F.CAL_CMD_STORE 0 0
  if d.cal.applyAt.isSome || d.storeBusy then d.put F.CAL_STORE_STAT_STORE_CODE 0 2
  else if !d.nvsOpen || d.noFlash then d.put F.CAL_STORE_STAT_STORE_CODE 0 6
  else (d.put F.CAL_STORE_STAT_STORE_BUSY 0 1).when (!d.nvsOwned) Device.storeBegin

/-- A store is over. -/
def Device.storeEnd (d : Device) (code : Nat) : Device :=
  ((d.put F.CAL_STORE_STAT_STORE_CODE 0 code).put F.CAL_STORE_STAT_STORE_BUSY 0 0).put F.NVS_STAT_KEEPER_ACTIVE 0 0
/-- A store fails: code, event, record. -/
def Device.storeFail (d : Device) (code : Nat) : Device := ((d.storeEnd code).event F.CAL_EVT_STORE_FAIL).report 11 0 1 0

/-- The copy a store writes (1 A, 2 B) and its SEQ, from the SEQ of the valid copies. -/
def storeTarget (a b : Option Word) : Nat × Nat :=
  match a, b with
  | none, none => (1, 1)
  | some x, none => (2, (x.toNat + 1) % 2 ^ 32)
  | none, some y => (1, (y.toNat + 1) % 2 ^ 32)
  | some x, some y => if newer y.toNat x.toNat then (1, (y.toNat + 1) % 2 ^ 32) else (2, (x.toNat + 1) % 2 ^ 32)

/-- The in-force image as a store writes it: the new SEQ, the sensor reading, the check word; the rest of the header is in every image that
is in force (R292). -/
def storeImage (m : Image) (seq temp : Nat) : Image := sealImg (setImgByte (setImgNum m 4 8 seq) 0x14 temp)

/-- The SEQ of a flash copy, when the copy is valid (R294). -/
def copySeq (m : Image) : Option Word := if copyValid m then some (BitVec.ofNat 32 (imgSeq m)) else none

/-- CAL_STORE_DONE: a store that holds the port ends: stored when the check word of the target reads back good after the first or the second
try, else failed (R295). -/
def Device.calStoreDone (d : Device) (r : StoreResult) : Device :=
  if d.storeBusy && d.is F.NVS_STAT_KEEPER_ACTIVE then
    match r with
    | .noResponse => d.storeFail 3
    | .written a b back again =>
      let (copy, seq) := storeTarget (copySeq (copyStore a)) (copySeq (copyStore b))
      let m := storeImage d.cal.inForce seq d.cal.storeTemp
      let tries := if imgGood (copyStore back) then 1 else 2
      let d := d.onNvs (fun n => { n with keeper := List.replicate tries (.store copy m) })
      if imgGood (copyStore back) || imgGood (copyStore again) then
        (((d.onCal (fun c => { c with inForce := m })).storeEnd 1).put F.CAL_STORE_STAT_LAST_STORE 0 copy).event F.CAL_EVT_STORED
      else d.storeFail 4
  else d

/-- CAL_SEQ and CAL_TEMP.STORED have an image to show: one was loaded or stored (R298). -/
def Device.imageKnown (d : Device) : Bool := d.get F.CAL_STORE_STAT_LOADED != 0 || d.get F.CAL_STORE_STAT_LAST_STORE != 0

/-! ## CAL_CMD -/

/-- Requests in CAL_CMD that Keeper firmware takes; while it does not run they wait. (DESIGN CHOICE: log entry 26; DEDUCED: log entry 96) -/
def Device.calServe (d : Device) : Device :=
  if d.kpr.restarting || !d.is F.KPR_STAT_RUNNING then d
  else
    let d := d.when (d.is F.CAL_CMD_STORE) Device.calStore
    d.when (d.is F.CAL_CMD_GO) Device.calStart

/-- A write of CAL_CMD: KIND and UNIT are kept; ABORT and DISCARD act first, then STORE, then GO. (DEDUCED: log entry 96) -/
def Device.wrCalCmd (d : Device) (v : Nat) : Device :=
  let d := d.applyPassed
  let d := (d.put F.CAL_CMD_KIND 0 (bits v 10 8)).put F.CAL_CMD_UNIT 0 (bits v 7 0)
  let d := (d.when (bit v 28) Device.calAbort).when (bit v 29) Device.calDiscard
  let d := (d.when (bit v 30) (fun d => d.put F.CAL_CMD_STORE 0 1)).when (bit v 31) (fun d => d.put F.CAL_CMD_GO 0 1)
  d.calServe

/-- What a Keeper restart does to a run and to a store (R297). -/
def Device.calKeeperRestart (d : Device) : Device := d.calAbort.when d.storeBusy (fun d => d.storeFail 5)

/-! ## Meanings -/

/-- CAL_START, CAL_ABORT, CAL_DISCARD, CAL_STORE: the write of CAL_CMD with that bit alone set (R288, R287, R289, R295).
(DESIGN CHOICE: log entry 106) -/
def execCalStart (v : Word) (s : State) : Host.Outcome State Fault Refusal := .next (s.on (·.wrCalCmd (setBit (bits v.toNat 27 0) 31)))
def execCalAbort (v : Word) (s : State) : Host.Outcome State Fault Refusal := .next (s.on (·.wrCalCmd (setBit (bits v.toNat 27 0) 28)))
def execCalDiscard (v : Word) (s : State) : Host.Outcome State Fault Refusal := .next (s.on (·.wrCalCmd (setBit (bits v.toNat 27 0) 29)))
def execCalStore (v : Word) (s : State) : Host.Outcome State Fault Refusal := .next (s.on (·.wrCalCmd (setBit (bits v.toNat 27 0) 30)))
def execCalRunDone (p : CalPart) (s : State) : Host.Outcome State Fault Refusal := .next (s.on (·.calRunDone p))
def execCalPreconditionFail (code : Byte) (s : State) : Host.Outcome State Fault Refusal := .next (s.on (·.calPrecondition code.toNat))
def execCalApplyRequest (v : Word) (s : State) : Host.Outcome State Fault Refusal := .next (s.on (·.wrCalApply (setBit v.toNat 31)))
def execCalApply (s : State) : Host.Outcome State Fault Refusal := .next (s.on (·.calApply))
def execCalStoreDone (r : StoreResult) (s : State) : Host.Outcome State Fault Refusal := .next (s.on (·.calStoreDone r))

end Sys2Proof.Machine
end

