-- ==== Sys2Proof/Machine/Reset.lean ====
section
/-! DEFINITION. Power-on and warm reset, power supervision, the temperature sensor, the pins, domain resets and domain switches, and the
restart of the Keeper (R21, R39, R43-R47, R60-R65, R108, R272, R367). -/

namespace Sys2Proof.Machine

def Device.onBoot (d : Device) (f : Boot → Boot) : Device := { d with boot := f d.boot }

/-! ## Power-on and warm reset (R44, R46) -/

/-- POWER_ON_RESET: everything takes its reset value and every memory holds arbitrary data of a new epoch. The pins keep their
levels. (DESIGN CHOICE: log entry 24) -/
def Device.powerOnReset (d : Device) : Device :=
  let fresh : Device := {
    epoch := d.epoch + 1, freeCtr := d.freeCtr, boot := { pinLow := d.boot.pinLow, testmode := d.boot.testmode },
    bandEpoch := d.bandEpoch + 1, ledger := { epoch := d.ledger.epoch + 1 }, eng := { ttEpoch := d.eng.ttEpoch + 1 },
    dec := { epoch := d.dec.epoch + 1 },
    cal := { inForce := { base := .lost (2 * d.epoch + 2) }, pend := { base := .lost (2 * d.epoch + 3) } } }
  fresh.putB F.SYS_RAIL_STAT_PG_IN 0 (d.is F.SYS_RAIL_STAT_PG_IN)

/-- A field of a register that keeps its value across warm reset: pages 0x001, 0x003 and 0x00B, and KPR_WDOG (R367).
(DEDUCED: log entry 22) -/
def keepsWarm (key : Nat) : Bool :=
  let a := key / 32
  a == 0x9080 || ((a / 0x1000 == 1 || a / 0x1000 == 3 || a / 0x1000 == 0xB) && decide (0x80 ≤ a % 0x1000))

/-- Everything but the AON unit is reset; the Berth table, the calibration RAM and the words of the fault records and of the effect log
stay, no record or log entry being valid, and the patch RAM until step 2 reloads it (R27, R44, R296). The sequencer is back at VID 0x28 on FIO (R37, R60).
(DEDUCED: log entries 22, 23, 35) -/
def Device.warmReset (d : Device) : Device :=
  let fresh : Device := {
    fields := Store.keep d.fields keepsWarm, epoch := d.epoch, freeCtr := d.freeCtr,
    boot := { inReset := true, powerOn := false, pinLow := d.boot.pinLow, rails := d.boot.rails, thermal := d.boot.thermal,
              bootsel := d.boot.bootsel, testmode := d.boot.testmode, warm := true },
    flt := { records := d.freeAll.flt.records, log := d.flt.log }, bandEpoch := d.bandEpoch + 1,
    ledger := { cells := d.ledger.cells, epoch := d.ledger.epoch }, eng := { ttEpoch := d.eng.ttEpoch + 1 },
    dec := { epoch := d.dec.epoch + 1, unseen := true }, cal := { inForce := d.cal.inForce, pend := {} },
    clk := { blank := d.clk.blank || d.get F.PWR_OP_STAT_VID != 0x28 }, kpr := { patch := d.kpr.patch } }
  fresh.resetRegs [R.PWR_OP_STAT]

/-- A warm reset begins, or one in force is held by one more cause; power-on reset goes on undisturbed. -/
def Device.enterWarm (d : Device) : Device :=
  if d.boot.powerOn then d else if d.boot.inReset then d else d.warmReset

/-- The reset ends when nothing holds it: start-up resumes at step 2 (R44, R45), and until step 2 ends SYS_BOOT_STAT.STEP shows 1, the step
that lies behind. (DESIGN CHOICE: log entry 126) -/
def Device.release (d : Device) : Device :=
  if d.boot.inReset && !d.boot.powerOn && !d.boot.pinLow && d.boot.rails.isEmpty && !d.boot.thermal then
    (d.onBoot (fun b => { b with inReset := false, ms := 0 })).put F.SYS_BOOT_STAT_STEP 0 1
  else d

/-- POWER_ON_RESET_END: 1 ms after supplies, PG_IN and RESET_N are good, BOOTSEL is sampled and step 1 completes (R33, R45, R48). A
monitored rail that is then still below its threshold, or a thermal hold, keeps the device in reset without a flag of SYS_RESET_CAUSE.
(DESIGN CHOICE: log entry 152) -/
def Device.powerOnEnd (d : Device) (bootsel : Nat) : Device :=
  if d.boot.powerOn && !d.boot.pinLow && d.is F.SYS_RAIL_STAT_PG_IN then (d.onBoot (fun b => { b with powerOn := false, bootsel })).release else d

/-- WARM_RESET: RESET_N is low and honoured (R45). -/
def Device.pinReset (d : Device) : Device :=
  let d := d.onBoot (fun b => { b with pinLow := true })
  if d.boot.powerOn then d else d.enterWarm.put F.SYS_RESET_CAUSE_WARM 0 1

/-- RESET_N_RELEASE: the rising edge of RESET_N. -/
def Device.pinRelease (d : Device) : Device := (d.onBoot (fun b => { b with pinLow := false })).release

/-- BROWNOUT of a rail (0 VDD_SRAM); the Berth table is lost with VDD_SRAM (R39). During power-on reset it sets neither BROWNOUT nor
SRAM_LOST, but holds the device in reset. (DEDUCED: log entry 23; DESIGN CHOICE: log entry 152) -/
def Device.brownout (d : Device) (rail : Nat) : Device :=
  let d := (d.onBoot (fun b => { b with rails := rail :: b.rails.filter (· != rail) })).putBit F.SYS_RAIL_STAT_RAIL_OK 0 rail false
  if d.boot.powerOn then d
  else
    let d := d.enterWarm.put F.SYS_RESET_CAUSE_BROWNOUT 0 1
    if rail = 0 then
      ({ d with ledger := { d.ledger with cells := [], epoch := d.ledger.epoch + 1 } } : Device).put F.SYS_RESET_CAUSE_SRAM_LOST 0 1
    else d

/-- BROWNOUT_RECOVERED: the rail has been in range for 1 ms. -/
def Device.brownoutOver (d : Device) (rail : Nat) : Device :=
  ((d.onBoot (fun b => { b with rails := b.rails.filter (· != rail) })).putBit F.SYS_RAIL_STAT_RAIL_OK 0 rail true).release

/-- An event of an AON page: the page header is in REG and is reset while a reset is in force. -/
def Device.aonEvent (d : Device) (f : Fld) : Device := if d.boot.inReset then d.put f 0 1 else d.event f

/-- RAIL_DIP: a rail below 90 % for less than 2 µs (R364). -/
def Device.railDip (d : Device) : Device := d.aonEvent F.SYS_MON_EVT_RAIL_DIP

/-! ## Temperature (R43, R364) -/

def Device.celsius (d : Device) : Int := sgn 8 (d.get F.SYS_TEMP_NOW)
/-- SENSOR_UPDATE: NOW, and MAX when it is exceeded. Outside reset one more millisecond has passed on SIO. (DESIGN CHOICE: log entry 18) -/
def Device.sensorUpdate (d : Device) (v : Nat) : Device :=
  let d := (d.when (!d.boot.inReset) (fun d => d.onBoot (fun b => { b with ms := min 255 (b.ms + 1) }))).put F.SYS_TEMP_NOW 0 v
  if sgn 8 (d.get F.SYS_TEMP_MAX) < d.celsius then d.put F.SYS_TEMP_MAX 0 v else d
/-- OVER_TEMP: the sensor reads 105 °C or above. -/
def Device.overTemp (d : Device) : Device :=
  if 105 ≤ d.celsius then
    let d := d.aonEvent F.SYS_MON_EVT_OVER_TEMP
    if d.boot.inReset then d else d.report 1 0 4 0
  else d
/-- THERMAL_RESET: 115 °C or above for 1 ms. -/
def Device.thermalReset (d : Device) : Device :=
  if 115 ≤ d.celsius then
    let d := d.onBoot (fun b => { b with thermal := true })
    if d.boot.powerOn then d else d.enterWarm.put F.SYS_RESET_CAUSE_THERMAL 0 1
  else d
/-- THERMAL_RELEASE: 100 °C or below. -/
def Device.thermalRelease (d : Device) : Device :=
  if d.celsius ≤ 100 then (d.onBoot (fun b => { b with thermal := false })).release else d

/-! ## The Keeper's restart (R21) -/

/-- The Keeper restarts from ROM: its services pause, its own pending work is lost, requests to it end (R21, R297, R318, R353).
(DESIGN CHOICE: log entries 9, 25, 26) -/
def Device.keeperRestart (d : Device) : Device :=
  let d : Device := { d with kpr := { restarting := true, patch := d.kpr.patch } }
  let d := d.resetRegs [R.KPR_STAT]
  let d := if d.mbx.req.any (fun r => decide (0x80 ≤ r.1)) then d.mbxFinish 3 none else d
  let d := d.calKeeperRestart.clientInit
  let d := if d.is F.NVS_CTRL_HOST_OWN && !d.nvsOwned && decide (3 ≤ d.step) then (d.put F.NVS_STAT_OWNED 0 1).event F.NVS_EVT_OWN_GRANTED
    else d
  if d.tow.running then d.put F.TOW_STAT_SERVO_PAUSED 0 1 else d

/-- KEEPER_WATCHDOG_EXPIRY: the Keeper that runs is restarted, with its record. (DESIGN CHOICE: log entry 25) -/
def Device.watchdogExpiry (d : Device) : Device :=
  if d.is F.KPR_STAT_RUNNING || d.kpr.restarting then
    ((d.keeperRestart.event F.KPR_EVT_RESTARTED).put F.SYS_RESET_CAUSE_KEEPER_RESTART 0 1).report 1 0 1 0
  else d

/-! ## Domain resets (R65, R367) -/

/-- The registers of a clock domain. -/
def domRegs (dom : RegDom) : List Reg := (regsPage020 ++ regsPage038 ++ regsPage039).filter (fun r => r.dom == dom)

/-- LOOPnn: accumulators, dividers, u and τ cleared; the core loses lock (R108). -/
def Device.loopReset (d : Device) (c : Nat) : Device :=
  let d := d.cancelHop (c / 2)
  let d := d.onCore c (fun k => { k with acc1 := 0, acc2 := 0, acc3 := 0, acc4 := 0, carries := {}, cA := 0, cB := 0,
                                         u := 0, hasU := false, uFromQ := true, blank := false })
  let d := forEach R.LOOP_TRIM.fields (fun f d => d.put f c (f.reset c)) d
  d.when (d.locked c) (fun d => d.loseLock c)

/-- TOW: its registers take their Reset values, its counter and its state machines start anew; a prepared twin change and armed
strobe programs end. (DEDUCED: log entry 43) -/
def Device.towReset (d : Device) : Device :=
  let t := d.tow
  let d := d.resetRegs (domRegs .tow)
  let d := forEach (List.range 32) (fun n d => if (d.output n).program.isSome then d.alignEnd n else d) d
  { d with twins := [],
           tow := { running := t.running, ticks := t.ticks,
                    wharf := t.wharf.map (fun x => (x.1, ({ asym := x.2.asym } : TowWharf))) } }

/-- TPX: its registers take their Reset values, the slots and the frames being sent are gone; the client starts anew. -/
def Device.tpxReset (d : Device) : Device :=
  let d := d.resetRegs (domRegs .tpx)
  let d : Device := { d with tpt := { d.tpt with slots := [], sending := [], wire := none } }
  if d.kpr.restarting then d else d.clientInit

/-- What the reset of a domain does besides its clocking (R367). -/
def Device.domainEffects (d : Device) (dom : Nat) : Device :=
  if dom < 128 then forEach (d.wharvesOf (dom % 64)) (fun h d => d.wharfReset h) d
  else if dom < 144 then d.loopReset (dom - 128)
  else match dom with
    | 144 => d.resetEngines.put F.ENG_STAT_RESET_BUSY 0 1
    | 146 => d.keeperRestart
    | 149 => d.nvsEmpty
    | 151 => d.towReset
    | 152 => d.tpxReset
    | 154 => d.refReset
    | _ => d

/-- A domain reset is requested: refused for REG, HSP and AON; a switch in progress is abandoned (R64, R65). (DEDUCED: log entry 41) -/
def Device.domReset (d : Device) (dom : Nat) : Device :=
  if dom = 147 ∨ dom = 148 ∨ dom = 150 then d.put F.CLK_DOM_STAT_RESULT dom 7
  else
    let d := if (d.switchOf dom).isSome then (d.dropSwitch dom).put F.CLK_DOM_STAT_RESULT dom 6 else d
    let d := if dom = 144 then d.opCut false else d
    (d.holdDom dom).domainEffects dom

/-- DOM_RESET_DONE: the reset is released after 16 cycles of the domain's clock. (DESIGN CHOICE: log entry 42) -/
def Device.domResetDone (d : Device) (dom : Nat) : Device :=
  if d.clk.resetting.contains dom then
    let d := d.onClk (fun c => { c with resetting := c.resetting.filter (· != dom) })
    ((d.put F.CLK_DOM_STAT_UNTRUSTED dom 0).putB F.CLK_DOM_STAT_BUSY dom (d.switchOf dom).isSome).opNext
  else d

/-- A write of CLK_DOM_CTRL for the domain CLK_DOM_SEL names: SRC is kept, DOM_RESET acts before SWITCH (R62, R65).
(DEDUCED: log entry 41) -/
def Device.wrDomCtrl (d : Device) (v : Nat) : Device :=
  let dom := d.get F.CLK_DOM_SEL_DOM
  if 157 ≤ dom then d
  else
    let d := d.put F.CLK_DOM_CTRL_SRC 0 (bits v 7 6)
    let d := d.when (bit v 9) (fun d => d.domReset dom)
    d.when (bit v 8) (fun d => d.hostSwitch dom (bits v 7 6))

/-! ## Meanings -/

def execPowerOnReset (s : State) : Host.Outcome State Fault Refusal := .next (s.always (·.powerOnReset))
def execPowerOnResetEnd (bootsel : BitVec 2) (s : State) : Host.Outcome State Fault Refusal :=
  .next (s.always (·.powerOnEnd bootsel.toNat))
def execWarmReset (s : State) : Host.Outcome State Fault Refusal := .next (s.always (·.pinReset))
def execResetNRelease (s : State) : Host.Outcome State Fault Refusal := .next (s.always (·.pinRelease))
def execBrownout (rail : Fin 7) (s : State) : Host.Outcome State Fault Refusal := .next (s.always (·.brownout rail))
def execBrownoutRecovered (rail : Fin 7) (s : State) : Host.Outcome State Fault Refusal := .next (s.always (·.brownoutOver rail))
/-- RAIL_DIP: the rail itself shows in RAIL_OK only while it is low. -/
def execRailDip (_rail : Fin 7) (s : State) : Host.Outcome State Fault Refusal := .next (s.always (·.railDip))
def execOverTemp (s : State) : Host.Outcome State Fault Refusal := .next (s.always (·.overTemp))
def execThermalReset (s : State) : Host.Outcome State Fault Refusal := .next (s.always (·.thermalReset))
def execThermalRelease (s : State) : Host.Outcome State Fault Refusal := .next (s.always (·.thermalRelease))
def execSensorUpdate (celsius : Byte) (s : State) : Host.Outcome State Fault Refusal := .next (s.always (·.sensorUpdate celsius.toNat))
/-- TESTMODE_CHANGE: the pin's level, which CFG_STAT.MODE follows (R334). -/
def execTestmodeChange (level : Bool) (s : State) : Host.Outcome State Fault Refusal :=
  .next (s.always (·.onBoot (fun b => { b with testmode := level })))
def execKeeperWatchdogExpiry (s : State) : Host.Outcome State Fault Refusal := .next (s.on (·.watchdogExpiry))
/-- DOMAIN_SWITCH: the write of CLK_DOM_CTRL with SWITCH alone set (R61). (DESIGN CHOICE: log entry 106) -/
def execDomainSwitch (v : Word) (s : State) : Host.Outcome State Fault Refusal :=
  .next (s.on (fun d => (d.wrDomCtrl (setBit (bits v.toNat 7 0) 8)).markDirty))
/-- DOM_RESET: the write of CLK_DOM_CTRL with DOM_RESET alone set (R65). -/
def execDomReset (v : Word) (s : State) : Host.Outcome State Fault Refusal :=
  .next (s.on (fun d => (d.wrDomCtrl (setBit (bits v.toNat 7 0) 9)).markDirty))

end Sys2Proof.Machine
end

