-- ==== Sys2Proof/Machine/Mailbox.lean ====
section
/-! DEFINITION. The mailbox: captures of objects and the commands of the Keeper (R113, R250, R328, R353, R354). -/

namespace Sys2Proof.Machine

def Device.onMbx (d : Device) (f : Mailbox → Mailbox) : Device := { d with mbx := f d.mbx }
/-- Keeper firmware runs. (DESIGN CHOICE: log entry 111) -/
def Device.keeperRuns (d : Device) : Bool := d.is F.KPR_STAT_RUNNING && !d.kpr.restarting
/-- The request in progress is for an object. -/
def Device.mbxFor (d : Device) (obj : Nat) : Bool := d.mbx.req.any (fun r => r.1 == obj)
def Device.mbxIndex (d : Device) : Nat := (d.mbx.req.map (·.2)).getD 0

/-- An object that no table lists, or an index it does not have (R328, R354). (DEDUCED: log entry 104) -/
def mbxUnknown (obj index : Nat) : Bool :=
  if obj = 1 ∨ obj = 2 then decide (16 ≤ index)
  else if obj = 0x10 ∨ obj = 0x11 ∨ obj = 0x12 then index != 0
  else !(decide (0x80 ≤ obj) && decide (obj < 0x85))

/-- The Keeper takes a request to it with its arguments; an unknown command ends with RESULT 2 (R353).
(DESIGN CHOICE: log entry 26; DEDUCED: log entry 104) -/
def Device.mbxServe (d : Device) : Device :=
  match d.mbx.req with
  | some (obj, _) =>
    if d.keeperRuns && decide (0x80 ≤ obj) then
      if 0x85 ≤ obj then d.mbxFinish 2 none
      else d.onMbx (fun m => { m with args := (List.range 4).map (fun i => BitVec.ofNat 32 (d.get F.MBX_ARG_WORD i)) })
    else d
  | none => d

/-- A write of MBX_REQ: GO starts a request, is refused with RESULT 4 while one is in progress, or names an unknown object (R328).
(DEDUCED: log entry 104) -/
def Device.wrMbxReq (d : Device) (v : Nat) : Device :=
  let obj := bits v 15 8
  let index := bits v 7 0
  let d := (d.put F.MBX_REQ_OBJ 0 obj).put F.MBX_REQ_INDEX 0 index
  if bit v 31 then
    if d.is F.MBX_STAT_BUSY then d.put F.MBX_STAT_RESULT 0 4
    else
      let d := d.put F.MBX_STAT_VALID 0 0
      if mbxUnknown obj index && decide (obj < 0x80) then d.mbxFinish 2 none
      else
        ({ (d.put F.MBX_STAT_BUSY 0 1).put F.MBX_STAT_RESULT 0 0 with mbx := { req := some (obj, index) } } : Device).mbxServe
  else d

/-! ## Captures (R113, R250) -/

/-- The TIME object at fraction f of the present pound. -/
def Device.timeWords (d : Device) (f : BitVec 24) : List Word :=
  twoWords d.tow.pound ++ [BitVec.ofNat 32 (f.toNat * 2 ^ 8),
    BitVec.ofNat 32 (ofBool d.todValid * 4 + ofBool d.towHold * 2 + ofBool d.towAligned)]

/-- The PPS object. -/
def Device.ppsWords (d : Device) : List Word :=
  match d.tow.ppsLast with
  | some x => twoWords x.p ++ [BitVec.ofNat 32 (x.f.toNat * 2 ^ 8), 1]
  | none => [0, 0, 0, 0]

/-- The PARENT object: the fields of the parent's Announce body (IEEE 1588). -/
def Device.parentWords (d : Device) : List Word :=
  match d.tpt.ptp.parent with
  | some (b, _) =>
    twoWords (BitVec.ofNat 64 (beAt b 19 8)) ++ [BitVec.ofNat 32 (beAt b 27 2 * 2 ^ 16 + beAt b 14 1),
      BitVec.ofNat 32 (beAt b 13 1 * 2 ^ 24 + beAt b 18 1 * 2 ^ 16 + beAt b 15 1 * 2 ^ 8)]
  | none => [0, 0, 0, 0]

/-- A boundary passes: the boundaries since the request are counted. The core of the object is captured at the end of it (R113). -/
def Device.mbxBoundary (d : Device) : Device :=
  d.when d.mbx.req.isSome (fun d => d.onMbx (fun m => { m with pounds := m.pounds + 1 }))

/-- MBX_CAPTURE_DONE: the object in progress is complete; f is the fraction of the TOW cycle that a TIME request reaches. -/
def Device.mbxCaptureDone (d : Device) (f : BitVec 24) : Device :=
  match d.mbx.req with
  | some (1, _) => if d.mbx.words.isSome then d.mbxFinish 1 d.mbx.words else d
  | some (2, _) => if d.mbx.words.isSome then d.mbxFinish 1 d.mbx.words else d
  | some (0x10, _) => if d.tow.running then d.mbxFinish 1 (some (d.timeWords f)) else d
  | some (0x11, _) => if d.tow.running then d.mbxFinish 1 (some d.ppsWords) else d
  | some (0x12, _) => if d.keeperRuns then d.mbxFinish 1 (some d.parentWords) else d
  | _ => d

/-- MBX_CAPTURE_TIMEOUT: two pounds and 100 ns after the request the core's clock is stopped; the data words keep their values. -/
def Device.mbxCaptureTimeout (d : Device) : Device :=
  match d.mbx.req with
  | some (obj, c) =>
    if (obj == 1 || obj == 2) && d.mbx.words.isNone && !d.loopRuns c && (decide (2 ≤ d.mbx.pounds) || !d.tow.running) then
      d.mbxFinish 3 none
    else d
  | none => d

/-! ## Keeper commands (R354) -/

/-- A Keeper command completes: RESULT 1, DATA0 holding its status. -/
def Device.mbxStatus (d : Device) (status : Word) (a b : Word) : Device := d.mbxFinish 1 (some [status, a, b, 0])

/-- The Keeper performs the request in progress when it is the command named. -/
def Device.keeperCommand (d : Device) (obj : Nat) (f : Device → Device) : Device :=
  if d.mbxFor obj && d.keeperRuns then f d else d

/-- VERSION. -/
def Device.version (d : Device) : Device :=
  d.keeperCommand 0x80 (fun d => d.mbxStatus 0 (BitVec.ofNat 32 (Config.romRev.toNat * 2 ^ 16 + d.get F.KPR_STAT_PATCH_VER))
    (d.boot.seq.getD 0))

/-- The attempts of a wharf's lanes in QUIET and WAIT start now, with k := 0 (R262, R354). -/
def Device.trainWharf (d : Device) (h : Nat) : Device :=
  forEach (d.wharfLanes h) (fun n d =>
    if d.laneState n = 8 ∨ d.laneState n = 1 then
      let d := (d.put F.LANE_STAT_BACKOFF_K n 0).onLane n (fun x => { x with misses := 0 })
      (if d.laneState n = 8 then d.laneRest n else d).trainingStart n
    else d) d

/-- TRAIN_WHARF. -/
def Device.keeperTrain (d : Device) : Device :=
  d.keeperCommand 0x82 (fun d =>
    let h := d.mbxIndex
    if d.wharfOf h ≠ h then d.mbxStatus 2 0 0 else (d.trainWharf h).mbxStatus 0 0 0)

/-- EMIT_WHARF: the Berths of the wharf are listed for the Keeper to submit (KPQ_SUBMIT); it completes when none is left.
(DEDUCED: log entry 94) -/
def Device.keeperEmitWharf (d : Device) : Device :=
  d.keeperCommand 0x83 (fun d =>
    let h := d.mbxIndex
    if d.mbx.emitting then d
    else if d.wharfOf h ≠ h then d.mbxStatus 2 0 0
    else if d.wharfTrained h then
      let d : Device := { d with kpr := { d.kpr with emits := d.kpr.emits ++ (d.berthsOf h).map (fun b => (b, false)) } }
      (d.onMbx (fun m => { m with emitting := true })).emitWharfDone
    else d.mbxStatus 1 0 0)

/-- PTP_RESTART. -/
def Device.ptpRestart (d : Device) : Device :=
  d.keeperCommand 0x84 (fun d => if d.get F.TPT_CTRL_MODE = 1 then d.clientInit.mbxStatus 0 0 0 else d.mbxStatus 1 0 0)

/-! ## Meanings -/

/-- The word of MBX_REQ that requests an object. -/
def mbxWord (obj : Nat) (index : Byte) : Nat := 2 ^ 31 + obj * 2 ^ 8 + index.toNat

def execCoreSettings (index : Byte) (s : State) : Host.Outcome State Fault Refusal := .next (s.on (·.wrMbxReq (mbxWord 1 index)))
def execCorePhase (index : Byte) (s : State) : Host.Outcome State Fault Refusal := .next (s.on (·.wrMbxReq (mbxWord 2 index)))
def execTime (index : Byte) (s : State) : Host.Outcome State Fault Refusal := .next (s.on (·.wrMbxReq (mbxWord 0x10 index)))
def execPps (index : Byte) (s : State) : Host.Outcome State Fault Refusal := .next (s.on (·.wrMbxReq (mbxWord 0x11 index)))
def execParent (index : Byte) (s : State) : Host.Outcome State Fault Refusal := .next (s.on (·.wrMbxReq (mbxWord 0x12 index)))
/-- MBX_UNKNOWN_OBJECT: the write of MBX_REQ with GO for an object or index that no table lists. (DEDUCED: log entry 104) -/
def execMbxUnknownObject (v : Word) (s : State) : Host.Outcome State Fault Refusal :=
  .next (s.on (fun d => if mbxUnknown (bits v.toNat 15 8) (bits v.toNat 7 0)
    then d.wrMbxReq (setBit v.toNat 31) else d))
def execMbxCaptureDone (f : BitVec 24) (s : State) : Host.Outcome State Fault Refusal := .next (s.on (·.mbxCaptureDone f))
def execMbxCaptureTimeout (s : State) : Host.Outcome State Fault Refusal := .next (s.on (·.mbxCaptureTimeout))
def execVersion (s : State) : Host.Outcome State Fault Refusal := .next (s.on (·.version))
def execTrainWharf (s : State) : Host.Outcome State Fault Refusal := .next (s.on (·.keeperTrain))
def execEmitWharf (s : State) : Host.Outcome State Fault Refusal := .next (s.on (·.keeperEmitWharf))
def execPtpRestart (s : State) : Host.Outcome State Fault Refusal := .next (s.on (·.ptpRestart))

end Sys2Proof.Machine
end

