-- ==== Sys2Proof/Machine/Views.lean ====
section
/-! DEFINITION. What a read of a register shows: which register lies at an address, and the fields whose value is computed from the state
rather than stored (the RO fields of the status registers). -/

namespace Sys2Proof.Machine

/-! ## The register at an address (R361, R368) -/

/-- The block registers of a page. -/
def pageRegs (page : Nat) : List Reg :=
  if 0x10 ≤ page ∧ page < 0x20 then regsPage010
  else if 0x40 ≤ page ∧ page < 0x80 then regsPage040
  else if 0x80 ≤ page ∧ page < 0x88 then regsPage080
  else match page with
    | 0x00 => regsPage000
    | 0x01 => regsPage001
    | 0x02 => regsPage002
    | 0x03 => regsPage003
    | 0x04 => regsPage004
    | 0x05 => regsPage005
    | 0x06 => regsPage006
    | 0x07 => regsPage007
    | 0x08 => regsPage008
    | 0x09 => regsPage009
    | 0x0A => regsPage00A
    | 0x0B => regsPage00B
    | 0x20 => regsPage020
    | 0x21 => regsPage021
    | 0x30 => regsPage030
    | 0x31 => regsPage031
    | 0x32 => regsPage032
    | 0x33 => regsPage033
    | 0x38 => regsPage038
    | 0x39 => regsPage039
    | 0x3C => regsPage03C
    | _ => []

/-- The copy of a register that an address reaches: of a bank, the one its selector chooses. -/
def Device.regCopy (d : Device) (r : Reg) (addr : Nat) : Option Nat :=
  match r.shape, r.sel with
  | .bank n, some s => if addr = r.base ∧ d.get s 0 < n then some (d.get s 0) else none
  | _, _ => r.shape.index? r.base addr

/-- The first register of a list that an address reaches, with its copy. -/
def Device.findReg (d : Device) (addr : Nat) : List Reg → Option (Reg × Nat)
  | [] => none
  | r :: t =>
    match d.regCopy r addr with
    | some i => some (r, i)
    | none => d.findReg addr t

/-- The register at an address of an implemented page. -/
def Device.regAt (d : Device) (addr : Nat) : Option (Reg × Nat) :=
  let page := addr / 0x1000
  if pageImplemented page then d.findReg addr (if addr % 0x1000 < 0x40 then regsPageHdr else pageRegs page) else none

/-! ## Clocks of the domains (R48, R59, R92) -/

/-- The clock that a domain of R59 moves to or from, FIO or MPL1, has stopped. -/
def Device.sourceStopped (d : Device) (dom : Nat) : Bool :=
  if d.curSrc dom = 1 then !d.mpl1Runs else d.is F.CLK_JUDGE_STAT_STOPPED 2

/-- The clock of a domain is gated or stopped. (DEDUCED: log entry 91) -/
def Device.domStopped (d : Device) (dom : Nat) : Bool :=
  if dom < 64 then !d.is F.LANE_QUAD_STAT_PLL_LOCK dom
  else if dom < 128 then !(range (4 * (dom - 64)) (4 * (dom - 64) + 4)).any (fun n => d.is F.LANE_STAT_CDR_LOCK n)
  else if dom < 144 then !d.loopRuns (dom - 128)
  else match dom with
    | 149 => d.blockClosed 117 || d.sourceStopped 149
    | 150 => d.is F.CLK_JUDGE_STAT_STOPPED 3
    | 151 => !d.tow.running
    | 152 => !d.tow.running || d.blockClosed 116
    | 153 => !d.is F.TPT_STAT_LINK || d.blockClosed 116
    | 154 => d.is F.CLK_JUDGE_STAT_STOPPED d.activeXi
    | 155 => d.blockClosed 112 || !d.mpl1Runs
    | 156 => d.blockClosed 113 || !d.mpl1Runs
    | 148 => false
    | _ => d.sourceStopped dom

/-- The clock of a register's domain is stopped, so that an access to it times out (R338); the copies of a LOOP register follow
their core. -/
def Device.farStopped (d : Device) (r : Reg) (i : Nat) : Bool :=
  match r.dom with
  | .aon => d.domStopped 150
  | .eng => d.domStopped 144
  | .tow => d.domStopped 151
  | .tpx => d.domStopped 152
  | .loop => d.domStopped (128 + i)
  | _ => false

/-! ## Computed fields -/

/-- PAGE_ID.KIND of a page (R362). -/
def pageKind (page : Nat) : Nat :=
  if 0x10 ≤ page ∧ page < 0x20 then 0x10
  else if 0x40 ≤ page ∧ page < 0x80 then 0x40
  else if 0x80 ≤ page ∧ page < 0x88 then 0x80
  else page

/-- Bits set where a condition on the bit number holds. -/
def bitsWhere (n : Nat) (p : Nat → Bool) : Nat := (List.range n).foldl (fun a b => a + ofBool (p b) * 2 ^ b) 0

/-- The clock domain that an indirect access to a page crosses to: ENG for the ledger, the timetable, the decision tables and the lease
view, TOW and TPX for their pages. (DEDUCED: log entry 145) -/
def indDomain (page : Nat) : Option Nat :=
  match page with
  | 0x30 | 0x32 | 0x33 | 0x34 => some 144
  | 0x38 => some 151
  | 0x39 => some 152
  | _ => none

/-- At least one FILL is in progress. (DEDUCED: log entry 73) -/
def Device.fillBusy (d : Device) : Bool :=
  d.eng.flights.any (·.fill) || d.eng.engine.any (fun e => e.2.slice.any (fun c => decide (0 < c.filled)))

/-- Valid fault records. -/
def Device.validRecords (d : Device) : Nat := (d.flt.records.filter (fun e => e.2.valid)).length

/-- Index of a lane in the layout in force. -/
def Device.laneIndex (d : Device) (n : Nat) : Nat := n - d.wharfOf n

/-- The access that comes next of a port is an indirect one that crosses to the domain of a page (R330). -/
def Device.indirectBusy (d : Device) (page : Nat) : Bool :=
  let at' := page * 0x1000 + 0x20
  (indDomain page).isSome && [0, 1].any (fun k => (d.heldOf k).head?.any (fun x =>
    match x with
    | .write a _ _ _ | .frameRead a _ _ => a == some at'
    | .read a _ => a == at'
    | .resetFormat => false))

/-- CLK_JUDGE_STAT, CLK_DOM_STAT and the header fields that are computed. -/
def Device.viewClock (d : Device) (base lo i : Nat) : Option Nat :=
  match base, lo with
  | 0x2094, 31 => some (ofBool (d.ready i))
  | 0x2094, 29 => some (ofBool (!d.ready (d.secondClock i).1))
  | 0x2094, 24 => some (d.judge? i).hits.length
  | 0x20A4, 9 => some (ofBool (d.clk.resetting.contains (d.get F.CLK_DOM_SEL_DOM)))
  | 0x20A4, 8 => some (ofBool ((d.switchOf (d.get F.CLK_DOM_SEL_DOM)).any (·.host)))
  | 0x20A4, 6 => if 157 ≤ d.get F.CLK_DOM_SEL_DOM then some 0 else none
  | 0x20A8, 18 => some (ofBool (d.domStopped i))
  | 0x20A8, 8 => if i = 154 then some (xiPrescaler (d.xiFreq d.activeXi)) else none
  | 0x0, 12 => some (pageKind i)
  | 0x0, 0 => some i
  | 0x18, 31 => some (ofBool (decide (0 < d.faultCount i)))
  | 0x18, 0 => some (d.faultCount i)
  | 0x24, 31 => some (ofBool (d.indirectBusy i))
  | 0x24, 0 => some (((Store.get? d.bus.staged i).map (fun x => x.2.length)).getD 0)
  | _, _ => none

/-- Fields of pages 0x000 to 0x00B that are computed. (DEDUCED: log entry 155) -/
def Device.viewSystem (d : Device) (base lo i : Nat) : Option Nat :=
  match base, lo with
  | 0x80, 28 => some d.boot.bootsel
  | 0x84, 12 => some Config.stepMajor.toNat
  | 0x84, 8 => some Config.stepMinor.toNat
  | 0x40C0, 31 => some (ofBool d.hspApplying)
  | 0x50C0, 28 => some (ofBool d.keeperActive)
  | 0x50C0, 18 => some d.nvs.rdata.length
  | 0x50C0, 9 => some d.nvs.wdata.length
  | 0x50C0, 0 => some d.nvs.queue.length
  | 0x60C0, 26 => some d.mode
  | 0x8098, 0 =>
    let kind := d.get F.CAL_PEND_SEL_KIND
    let w := d.get F.CAL_PEND_SEL_WORD
    some (bitsWhere 32 (fun b => decide (kind ≤ 4) && decide (32 * w + b < unitCount kind) && imgValid d.cal.held kind (32 * w + b)))
  | 0x7080, 31 => some (ofBool (d.is F.MBX_STAT_BUSY))
  | 0x8080, 31 => some (ofBool (d.is F.CAL_CMD_GO || d.is F.CAL_STAT_BUSY))
  | 0x8080, 30 => some (ofBool (d.is F.CAL_CMD_STORE || d.storeBusy))
  | 0x80C0, 30 => some (ofBool (!d.calPending.isEmpty))
  | 0x80D4, 0 => some (if d.imageKnown then imgSeq d.cal.inForce else 0)
  | 0x80D8, 8 => some (if d.imageKnown then imgByte d.cal.inForce 0x14 else 0)
  | 0x80E0, 0 => some (Config.dieId.toNat % 2 ^ 32)
  | 0x80E4, 0 => some (Config.dieId.toNat / 2 ^ 32)
  | 0x90C0, 16 => some Config.romRev.toNat
  | 0xA0C0, 31 => some (ofBool d.faultN)
  | 0xA0C0, 30 => some (ofBool d.irqN)
  | 0xA0C0, 29 => some (ofBool (decide (256 ≤ d.validRecords)))
  | 0xA0C0, 0 => some d.validRecords
  | 0xA0E0, 0 => some (d.irqSum i)
  | _, _ => none

/-- Fields of the output, ledger, engine and decision pages that are computed. (DEDUCED: log entry 155) -/
def Device.viewEngine (d : Device) (base lo i : Nat) : Option Nat :=
  match base, lo with
  | 0x21400, 25 => some (ofBool (d.outputParked i))
  | 0x21400, 24 => some (ofBool (d.is F.COUT_STAT_DCC_LOCK i && !d.outputParked i))
  | 0x300C0, 31 => some (ofBool d.fillBusy)
  | 0x310CC, 31 => some (ofBool d.eng.hcqHeld.isSome)
  | 0x310CC, 0 => some (wordsOf d.eng.hcq)
  | 0x310D4, 0 => some (wordsOf d.eng.kpq)
  | 0x310E4, 0 => some (d.sliceDepth i)
  | 0x31084, 0 => some (ofBool d.resetBusy)
  | 0x310F0, 4 => some (bitsWhere 4 (fun s => (d.hold s).isSome))
  | 0x320C4, 31 => some (ofBool (d.is F.TT_CTRL_RUN && d.ttOpen))
  | 0x320C4, 30 => some (ofBool (d.is F.TT_STAT_STALLED && d.is F.TT_CTRL_RUN && d.ttOpen))
  | 0x320C4, 29 => some (ofBool (d.hold 1).isSome)
  | 0x320C4, 0 => some d.ttLevel
  | 0x33080, 31 => some (ofBool (d.is F.DEC_STAT_CLEAR_BUSY))
  | 0x330C0, 29 => some (ofBool (d.is F.DEC_STAT_WAITING && !d.dec.actq.isEmpty))
  | 0x330C0, 11 => some d.dec.evq.length
  | 0x330C0, 0 => some (wordsOf d.dec.actq)
  | 0x330C4, 0 => some (wordsOf d.dec.deferred)
  | _, _ => none

/-- Fields of the Towpath, TIME port and wharf pages that are computed. (DEDUCED: log entry 155) -/
def Device.viewLink (d : Device) (base lo i : Nat) : Option Nat :=
  match base, lo with
  | 0x380C0, 28 => some (ofBool d.sourceOk)
  | 0x380F8, 31 => some (ofBool (d.towWharf (d.get F.TOW_WHF_SEL_WHARF)).capture)
  | 0x380F8, 0 => some (d.towWharf (d.get F.TOW_WHF_SEL_WHARF)).action
  | 0x380C0, 25 => some (ofBool d.mpl0Hold)
  | 0x380C0, 20 => some d.towDepth
  | 0x380C0, 19 => some (ofBool d.todValid)
  | 0x380C8, 0 => some (d.tow.pound.toNat % 2 ^ 32)
  | 0x390D8, 31 => some (ofBool (d.get F.TPT_STAT_TX_BUSY != 0))
  | 0x390C0, 16 => some (bitsWhere 4 (fun k => d.is F.TPT_TXTS_FRAC_VALID k))
  | 0x390C0, 8 => some ((List.range 16).filter (fun r => (d.rxSlot r).valid)).length
  | 0x3C0C0, 0 => some (bitsWhere 32 (fun b => d.wharfUp (32 * i + b)))
  | 0x40104, 18 => some (d.laneIndex i)
  | 0x40104, 17 => some (ofBool (d.reportLane (d.wharfOf i) == some i))
  | 0x40204, 1 => some (ofBool (d.wharf i).resetDue)
  | 0x40204, 0 => some (ofBool (d.wharf i).retrain)
  | 0x40208, 31 => some (ofBool (d.wharfUp i))
  | 0x40208, 29 => some (ofBool (d.wharfIn i 6))
  | 0x40208, 28 => some (ofBool (d.wharfIn i 10))
  | 0x40208, 24 => some (bitsWhere 4 (fun j => (d.wharfLanes i).any (fun n => d.laneIndex n == j && d.joined n)))
  | 0x40208, 18 => some (d.wharfWidth i)
  | 0x40208, 16 => some (((d.reportLane i).map d.laneIndex).getD 0)
  | _, _ => none

/-- What a read of copy i of a field shows: its computed value, else what is stored. -/
def Device.shown (d : Device) (f : Fld) (i : Nat) : Nat :=
  (((d.viewClock f.base f.lo i).or (d.viewSystem f.base f.lo i)).or
    ((d.viewEngine f.base f.lo i).or (d.viewLink f.base f.lo i))).getD (d.get f i)

/-- The word that copy i of a register shows. -/
def Device.regShown (d : Device) (r : Reg) (i : Nat) : Nat :=
  r.fields.foldl (fun a f => a + d.shown f i % 2 ^ f.width * 2 ^ f.lo) 0

/-- The stored word of a register (R335). -/
def Device.regStored (d : Device) (r : Reg) (i : Nat) : Nat := r.fields.foldl (fun a f => a + d.get f i * 2 ^ f.lo) 0

end Sys2Proof.Machine
end

