-- ==== Sys2Proof/Machine/Indirect.lean ====
section
/-! DEFINITION. The indirect spaces of the pages: which words they hold, how they are read and captured, how entries are staged and written
(R117, R171, R178, R217, R249, R280, R298, R330, R331, R352, R365). -/

namespace Sys2Proof.Machine

/-! ## Layout -/

/-- A page has an indirect space. -/
def indSpace (page : Nat) : Bool :=
  page == 0x08 || page == 0x0A || page == 0x20 || page == 0x30 || page == 0x32 || page == 0x33 || page == 0x34 || page == 0x38
    || page == 0x39 || (decide (0x40 ≤ page) && decide (page < 0x80))

/-- The entry at an indirect address: its first address, its words, the word a write of which writes the entry, and the bits of the word
addressed that are defined. None where the owning chapter defines nothing. -/
structure IndPlace where
  first : Nat
  words : Nat := 1
  commit : Nat := 0
  mask : Nat := 0xFFFFFFFF
  deriving DecidableEq, Repr

/-- An entry of n words at a multiple of its size. -/
def indEntryAt (a base n commit : Nat) (mask : Nat → Nat) : Option IndPlace :=
  let size := 4 * n
  some { first := base + (a - base) / size * size, words := n, commit, mask := mask ((a - base) % size / 4) }

def indPlace08 (a : Nat) : Option IndPlace := if a < 0x40000 + 4 * 2049 then some { first := a } else none
def indPlace0A (a : Nat) : Option IndPlace :=
  if a < 0x4000 then
    indEntryAt a 0 16 16 (fun w => match w with | 0 => 0xEFFFFFFF | 1 => 0xFFFFF | 4 => 0xFFFFFF00 | 7 => 0xFFFFFF00 | _ => 0xFFFFFFFF)
  else if 0x10000 ≤ a ∧ a < 0x20000 then indEntryAt a 0x10000 4 4 (fun _ => 0xFFFFFFFF)
  else none
def indPlace20 (a : Nat) : Option IndPlace :=
  if a < 0x4000 then
    some { first := a, mask := match a % 16 / 4 with | 0 => 0xFFFFFC00 | 1 => 0x1FFFFF | 2 => 0x1FFFFF | _ => 0xFFFF0000 }
  else none
def indPlace30 (a : Nat) : Option IndPlace :=
  if a < 0x400000 then indEntryAt a 0 8 7 (fun _ => 0xFFFFFFFF)
  else if a < 0x404000 then some { first := a, mask := 0x800FFFFF }
  else if 0x500000 ≤ a ∧ a < 0x580000 then some { first := a }
  else none
def indPlace32 (a : Nat) : Option IndPlace := if a < 0x100000 then indEntryAt a 0 4 3 (fun _ => 0xFFFFFFFF) else none
def indPlace33 (a : Nat) : Option IndPlace :=
  if a < 0x4000 then some { first := a, mask := 0x8001FFFF }
  else if 0x10000 ≤ a ∧ a < 0x12000 then
    indEntryAt a 0x10000 8 7 (fun w => match w with | 2 => 0xFFFFFF01 | 4 => 0xFFFFFF00 | 6 => 0xFFFF0000 | 7 => 0xFFFF0003 | _ => 0xFFFFFFFF)
  else if 0x20000 ≤ a ∧ a < 0x30000 then indEntryAt a 0x20000 2 1 (fun w => if w = 1 then 0xBFFFFFFF else 0xFFFFFFFF)
  else if 0x40000 ≤ a ∧ a < 0x80000 then indEntryAt a 0x40000 4 3 (fun _ => 0xFFFFFFFF)
  else if 0x80000 ≤ a ∧ a < 0x80400 then some { first := a, mask := 0xFFF }
  else if 0x90000 ≤ a ∧ a < 0x94000 then some { first := a }
  else none
def indPlace39 (a : Nat) : Option IndPlace :=
  if a < 0x1100 ∨ (0x2000 ≤ a ∧ a < 0x2200) then some { first := a } else none
def indPlace40 (a : Nat) : Option IndPlace := if a < 0x400 ∧ a % 0x100 < 0x80 then some { first := a } else none

def indPlace (page a : Nat) : Option IndPlace :=
  if 0x40 ≤ page ∧ page < 0x80 then indPlace40 a
  else match page with
    | 0x08 => indPlace08 a
    | 0x0A => indPlace0A a
    | 0x20 => indPlace20 a
    | 0x30 => indPlace30 a
    | 0x32 => indPlace32 a
    | 0x33 => indPlace33 a
    | 0x34 => if a < 0x80000 then some { first := a } else none
    | 0x38 => if a < 0x400 then some { first := a } else none
    | 0x39 => indPlace39 a
    | _ => none

/-- The words of an entry are read coherently: the first captures the entry (R171, R200, R352). -/
def indCaptures (page : Nat) (p : IndPlace) : Bool :=
  decide (1 < p.words) && (page == 0x0A || page == 0x30 || page == 0x32)

/-- A word that only an unlocked port writes: a PMA trim (R280). -/
def indKey (page a : Nat) : Bool := decide (0x40 ≤ page) && decide (page < 0x80) && decide (0x40 ≤ a % 0x100) && decide (a % 0x100 < 0x80) && decide (a < 0x400)

/-- A configuration-class indirect word (R150, R217, R249). -/
def indConfig (page a : Nat) : Bool :=
  match page with
  | 0x30 => decide (0x400000 ≤ a) && decide (a < 0x404000)
  | 0x33 => decide (a < 0x4000) || (decide (0x20000 ≤ a) && decide (a < 0x30000)) || (decide (0x80000 ≤ a) && decide (a < 0x80400))
  | 0x38 => decide (a < 0x400)
  | _ => false

/-! ## Live words -/

/-- Four bytes of an image. -/
def byteWord (byte : Nat → Byte) (i : Nat) : Nat := leNat [byte i, byte (i + 1), byte (i + 2), byte (i + 3)]

/-- Word w of fault record r (R352). (DESIGN CHOICE: log entry 11; DEDUCED: log entry 23) -/
def Device.recordWord (d : Device) (r w : Nat) : Nat :=
  match Store.get? d.flt.records r with
  | none => if w = 0 then Config.arbitrary 9 d.epoch (r * 16) % 2 ^ 31 else Config.arbitrary 9 d.epoch (r * 16 + w) % 2 ^ 32
  | some x =>
    match w with
    | 0 => ofBool x.valid * 2 ^ 31 + ofBool x.first.preTow * 2 ^ 30 + ofBool x.last.preTow * 2 ^ 29 + x.cls * 2 ^ 24 + x.code * 2 ^ 16 + x.count
    | 1 => x.src
    | 2 => x.first.p.toNat % 2 ^ 32
    | 3 => x.first.p.toNat / 2 ^ 32
    | 4 => x.first.f.toNat * 2 ^ 8
    | 5 => x.last.p.toNat % 2 ^ 32
    | 6 => x.last.p.toNat / 2 ^ 32
    | 7 => x.last.f.toNat * 2 ^ 8
    | _ => bits x.reporters.toNat (32 * (w - 8) + 31) (32 * (w - 8))

/-- Word w of effect log entry e. (DESIGN CHOICE: log entry 11; DEDUCED: log entry 23) -/
def Device.logWord (d : Device) (e w : Nat) : Nat :=
  match Store.get? d.flt.log e with
  | some x => bits x.toNat (32 * w + 31) (32 * w)
  | none => Config.arbitrary 13 d.epoch (e * 4 + w) % 2 ^ 32

/-- Word w of the lease view is that of a Berth (R365). -/
def Device.leaseWord (d : Device) (id : Nat) : Nat :=
  ofBool (d.bankVoid (bankOf id)) * 2 ^ 30 + (match d.eng.leaseHolder id with | some e => 2 ^ 31 + e | none => 0)

/-- A word of a receive slot or a transmit buffer. -/
def Device.portWord (d : Device) (a : Nat) : Nat :=
  if 0x2000 ≤ a then byteWord (fun i => d.txByte ((a - 0x2000) / 0x100) i) ((a - 0x2000) % 0x100)
  else
    let s := d.rxSlot (a / 0x110)
    let o := a % 0x110
    match o with
    | 0 => ofBool s.valid * 2 ^ 31 + s.bytes.length
    | 4 => s.p.toNat % 2 ^ 32
    | 8 => s.p.toNat / 2 ^ 32
    | 12 => s.f.toNat * 2 ^ 8
    | _ => byteWord (fun i => s.bytes.getD i 0) (o - 0x10)

/-- Word 7 of a window, its status (R203). (DEDUCED: log entry 76) -/
def Device.winStatus (d : Device) (w : Nat) : Nat :=
  d.winOcc w % 2 ^ 16 * 2 ^ 16 + ofBool (d.winDone w) * 2 + ofBool (d.winActive w)

/-- A word of the decision tables. -/
def Device.decWord (d : Device) (a : Nat) : Nat :=
  if a < 0x10000 then d.srcMapWord (a / 4)
  else if a < 0x20000 then
    let w := (a - 0x10000) / 0x20
    if a % 0x20 / 4 = 7 then d.winStatus w else d.winWord w (a % 0x20 / 4)
  else if a < 0x40000 then bits (d.condWord ((a - 0x20000) / 8)) (a % 8 * 8 + 31) (a % 8 * 8)
  else if a < 0x80000 then bits (d.actionWord ((a - 0x40000) / 16)).toNat (a % 16 * 8 + 31) (a % 16 * 8)
  else if a < 0x90000 then d.rxBase ((a - 0x80000) / 4)
  else
    let s := d.srcState ((a - 0x90000) / 4)
    s.window % 256 * 2 ^ 24 + s.occ % 256 * 2 ^ 16 + s.seq * 2 ^ 12 + ofBool s.seen

/-- A PMA word: equaliser state is what the hardware finds, a free value; trims as stored; words 11 to 15 read zero (R280).
(DESIGN CHOICE: log entry 20) -/
def Device.pmaWord (d : Device) (lane w : Nat) : Nat :=
  if w ≤ 10 then Config.free 5 d.freeCtr % 2 ^ 32 else if w < 16 then 0 else (Store.getD d.whf.pma (lane * 32 + w) 0).toNat

/-- The word that stands at a defined indirect address now. -/
def Device.indLive (d : Device) (page a : Nat) : Nat :=
  if 0x40 ≤ page ∧ page < 0x80 then d.pmaWord ((page - 0x40) * 4 + a / 0x100) (a % 0x100 / 4)
  else match page with
    | 0x08 =>
      if a < 0x20000 then byteWord (fun i => BitVec.ofNat 8 (imgByte d.cal.inForce i)) a
      else if a < 0x40000 then byteWord (fun i => BitVec.ofNat 8 (imgByte d.cal.pend i)) (a - 0x20000)
      else d.cal.bins.getD ((a - 0x40000) / 4) 0
    | 0x0A => if a < 0x10000 then d.recordWord (a / 0x40) (a % 0x40 / 4) else d.logWord ((a - 0x10000) / 16) (a % 16 / 4)
    | 0x20 => d.bandWord (a / 0x400) (a % 0x400 / 16) (a % 16 / 4)
    | 0x30 =>
      if a < 0x400000 then (d.berthWord (a / 0x20) (a % 0x20 / 4) (d.cell (a / 0x20))).toNat
      else if a < 0x500000 then d.mapEntry ((a - 0x400000) / 4)
      else
        let id := (a - 0x500000) / 4
        d.checkByte id 0 + d.checkByte id 1 * 2 ^ 8 + d.checkByte id 2 * 2 ^ 16 + d.checkByte id 3 * 2 ^ 24
    | 0x32 => bits (d.ttWord (a / 16)).toNat (a % 16 * 8 + 31) (a % 16 * 8)
    | 0x33 => d.decWord a
    | 0x34 => d.leaseWord (a / 4)
    | 0x38 => unsgn 32 (d.towWharf (a / 4)).asym
    | 0x39 => d.portWord a
    | _ => 0

/-- The word at an indirect address, undefined bits reading zero. (DEDUCED: log entry 74) -/
def Device.indMasked (d : Device) (page a mask : Nat) : Nat := (d.indLive page a).land mask

/-! ## Crossings (R330, R337, R338, R365) -/

/-- The clock of that domain is stopped, so that the access times out. -/
def Device.indStopped (d : Device) (page : Nat) : Bool := (indDomain page).any d.domStopped

/-- A crossing to a stopped clock times out: XING_ERR of the page and of the next HSP status word (R338). (DESIGN CHOICE: log entry 101) -/
def Device.xingErr (d : Device) (page : Nat) : Device := (d.pageEvent F.PAGE_STAT_XING_ERR page).hspFlag 1

/-! ## Reads (R330) -/

/-- The capture of a page after a read. -/
def Device.setCapture (d : Device) (page a : Nat) (words : List Word) : Device :=
  { d with bus := { d.bus with captured := Store.set d.bus.captured page (a, words) } }

/-- A new capture of the entry at an address; a Berth's errors are handled once for each capture (R171). (DEDUCED: log entry 74) -/
def Device.indCapture (d : Device) (page a : Nat) (p : IndPlace) : Nat × Device :=
  let words := (List.range p.words).map (fun w =>
    BitVec.ofNat 32 (d.indMasked page (p.first + 4 * w) (((indPlace page (p.first + 4 * w)).map (·.mask)).getD 0)))
  let d := if page = 0x30 then d.noteErrors (p.first / 0x20) (d.cell (p.first / 0x20)) else d
  ((words.getD ((a - p.first) / 4) 0).toNat, d.setCapture page a words)

/-- The word a read of a defined address returns. (DEDUCED: log entry 74) -/
def Device.indReadWord (d : Device) (page a : Nat) (p : IndPlace) : Nat × Device :=
  if indCaptures page p then
    let w := (a - p.first) / 4
    match Store.get? d.bus.captured page with
    | some (last, words) =>
      if w ≠ 0 ∧ last + 4 = a then ((words.getD w 0).toNat, d.setCapture page a words)
      else if w = 0 ∨ page = 0x30 then d.indCapture page a p
      else (d.indMasked page a p.mask, d.dropCapture page)
    | none => if w = 0 ∨ page = 0x30 then d.indCapture page a p else (d.indMasked page a p.mask, d.dropCapture page)
  else
    let d' := d.dropCapture page
    (d.indMasked page a p.mask, if 0x40 ≤ page ∧ page < 0x80 then { d' with freeCtr := d'.freeCtr + 1 } else d')

/-- The indirect address of a page. -/
def Device.indAddr (d : Device) (page : Nat) : Nat := d.get F.INDIRECT_ADDR_ADDR page * 4
/-- After an access the address advances when IND_AINC is set. -/
def Device.indAdvance (d : Device) (page : Nat) : Device :=
  if d.is F.PAGE_CTRL_IND_AINC page then d.put F.INDIRECT_ADDR_ADDR page (d.get F.INDIRECT_ADDR_ADDR page + 1) else d

/-- An access outside the entry being staged discards the sequence (R331). -/
def Device.indLeave (d : Device) (page first : Nat) : Device :=
  match Store.get? d.bus.staged page with
  | some (e, _) => if e = first then d else d.dropStaged page
  | none => d

/-- A read of INDIRECT_DATA. (DESIGN CHOICE: log entry 20) -/
def Device.indRead (d : Device) (page : Nat) : Nat × Device :=
  if indSpace page then
    let a := d.indAddr page
    if d.indStopped page then (0, (d.xingErr page).indAdvance page)
    else match indPlace page a with
    | none => (0, (((d.dropStaged page).dropCapture page).pageEvent F.PAGE_STAT_IND_UNIMPL page).indAdvance page)
    | some p =>
      let (v, d) := (d.indLeave page p.first).indReadWord page a p
      (v, d.indAdvance page)
  else (0, d)

/-- A write of INDIRECT_ADDR discards a staged sequence. -/
def Device.wrIndAddr (d : Device) (page v : Nat) : Device :=
  if indSpace page then (d.dropStaged page).put F.INDIRECT_ADDR_ADDR page (bits v 23 2) else d

/-! ## Writes (R330, R331) -/

/-- A four-byte write of transmit buffers; it is dropped while the Keeper runs the client (R244). -/
def Device.writeTx (d : Device) (a v : Nat) : Device :=
  if d.tptMode = 1 then d else
  let at' := (a - 0x2000) / 0x100 * 256 + (a - 0x2000) % 0x100
  let tx := forEach (List.range 4) (fun k m => Store.put m 0 (at' + k) (BitVec.ofNat 8 (v / 2 ^ (8 * k)))) d.tpt.tx
  { d with tpt := { d.tpt with tx } }

/-- A write of a word that is an entry of its own. Read-only words ignore it. -/
def Device.indWriteWord (d : Device) (page a v : Nat) : Device :=
  let w := BitVec.ofNat 32 v
  if 0x40 ≤ page ∧ page < 0x80 then
    if indKey page a then
      { d with whf := { d.whf with pma := Store.set d.whf.pma (((page - 0x40) * 4 + a / 0x100) * 32 + a % 0x100 / 4) w } }
    else d
  else match page with
    | 0x20 => d.setBandWord (a / 0x400) (a % 0x400 / 16) (a % 16 / 4) v
    | 0x30 => if a < 0x500000 then { d with ledger := { d.ledger with map := Store.put d.ledger.map 0 ((a - 0x400000) / 4) w } } else d
    | 0x33 =>
      if a < 0x4000 then d.onDec (fun x => { x with srcMap := Store.set x.srcMap (a / 4) w })
      else if a < 0x90000 then d.onDec (fun x => { x with base := Store.set x.base ((a - 0x80000) / 4) w })
      else d
    | 0x38 => d.onTowWharf (a / 4) (fun x => { x with asym := sgn 32 v })
    | 0x39 => if 0x2000 ≤ a then d.writeTx a v else d
    | _ => d

/-- Words 0 to n - 1 of an entry with the staged ones in place, as one number. -/
def Device.indMerged (d : Device) (page first n : Nat) (words : Store Word) : Nat :=
  (List.range n).foldl (fun acc w =>
    let mask := ((indPlace page (first + 4 * w)).map (·.mask)).getD 0
    let v := match Store.get? words w with
      | some x => x.toNat
      | none => d.indLive page (first + 4 * w)
    acc + (v.land mask) * 2 ^ (32 * w)) 0

/-- The entry of a complete sequence is written (R331). -/
def Device.indWriteEntry (d : Device) (page : Nat) (p : IndPlace) (words : Store Word) : Device :=
  match page with
  | 0x30 => d.requestBerthWrite (p.first / 0x20) words
  | 0x32 =>
    { d with eng := { d.eng with tt := Store.set d.eng.tt (p.first / 16) (BitVec.ofNat 128 (d.indMerged page p.first 4 words)) } }
  | 0x33 =>
    if p.first < 0x20000 then
      let v := d.indMerged page p.first 7 words
      let k := (p.first - 0x10000) / 0x20 * 8
      d.onDec (fun x => { x with
        win := forEach (List.range 7) (fun i m => Store.set m (k + i) (BitVec.ofNat 32 (v / 2 ^ (32 * i)))) x.win })
    else if p.first < 0x40000 then
      let v := d.indMerged page p.first 2 words
      d.onDec (fun x => { x with cond := Store.set x.cond ((p.first - 0x20000) / 8) (BitVec.ofNat 64 v) })
    else
      let v := d.indMerged page p.first 4 words
      d.onDec (fun x => { x with action := Store.set x.action ((p.first - 0x40000) / 16) (BitVec.ofNat 128 v) })
  | _ => d

/-- A word of a multi-word entry is staged; the naming word writes the entry. -/
def Device.indStage (d : Device) (page a v : Nat) (p : IndPlace) : Device :=
  let w := (a - p.first) / 4
  let words := match Store.get? d.bus.staged page with
    | some (_, l) => l
    | none => []
  let words := Store.set words w (BitVec.ofNat 32 (v.land p.mask))
  if w = p.commit then
    ({ d with bus := { d.bus with staged := Store.erase d.bus.staged page } } : Device).indWriteEntry page p words
  else { d with bus := { d.bus with staged := Store.set d.bus.staged page (p.first, words) } }

/-- A write of INDIRECT_DATA by a port that may write KEY words (`key`) or may not (R330, R331, R334). -/
def Device.indWrite (d : Device) (page v : Nat) (key : Bool) : Device :=
  if indSpace page then
    let a := d.indAddr page
    if d.indStopped page then (d.xingErr page).indAdvance page
    else match indPlace page a with
    | none => ((d.dropStaged page).pageEvent F.PAGE_STAT_IND_UNIMPL page).indAdvance page
    | some p =>
      let d := d.indLeave page p.first
      let d := d.when (indConfig page a) (·.markDirty)
      let d :=
        if page = 0x30 ∧ a < 0x400000 ∧ d.ledger.waiting.isSome then d.indRefused
        else if indKey page a ∧ key = false then d.pageEvent F.PAGE_STAT_KEY_FAIL page
        else if p.words = 1 then d.indWriteWord page a (v.land p.mask)
        else if p.words ≤ p.commit then d
        else d.indStage page a v p
      d.indAdvance page
  else d

end Sys2Proof.Machine
end

