-- ==== Sys2Proof/Machine/Bus.lean ====
section
/-! DEFINITION. The register bus: reads and writes of registers with their side effects, bit aliases, guarded pairs, unlocking, crossings
that time out or are waited for, the order of the ports' accesses, the configuration scan, and the WRITE and READ frames of the host port
(R3, R304-R307, R320-R341). -/

namespace Sys2Proof.Machine

/-- The number of a port: 0 the host port, 1 the Keeper port. -/
def portNo (p : Port) : Nat := match p with | .host => 0 | .keeper => 1

/-! ## Configuration scan (R335, R336) -/

def Device.onBus (d : Device) (f : Bus → Bus) : Device := { d with bus := f d.bus }

/-- The stored configuration-class bits of a register. -/
def Device.configWord (d : Device) (r : Reg) (i : Nat) : Nat :=
  r.fields.foldl (fun a f => a + (if f.cfg then d.get f i * 2 ^ f.lo else 0)) 0

/-- How many copies of a register share its one address. -/
def Reg.copiesShown (r : Reg) : Nat := match r.shape with | .bank n => n | _ => 0

/-- The configuration-class registers of a page in ascending offset; of a register that shows one copy at a time, every copy in
ascending number. (DEDUCED: log entry 103) -/
def Device.configRegs (d : Device) (page : Nat) : List Nat :=
  (range 0x10 0x200).flatMap (fun k =>
    let addr := page * 0x1000 + 4 * k
    match (pageRegs page).find? (fun r => r.copiesShown != 0 && r.base == addr) with
    | some r => if r.fields.any (·.cfg) then (List.range r.copiesShown).map (d.configWord r) else []
    | none =>
      match d.findReg addr (pageRegs page) with
      | some (r, i) => if r.fields.any (·.cfg) then [d.configWord r i] else []
      | none => [])

/-- The configuration-class indirect words of a page in ascending indirect address. -/
def Device.configIndirect (d : Device) (page : Nat) : List Nat :=
  match page with
  | 0x30 => (List.range 4096).map (fun c => d.indMasked 0x30 (0x400000 + 4 * c) 0x800FFFFF)
  | 0x33 =>
    (List.range 4096).map (fun s => d.indMasked 0x33 (4 * s) 0x8001FFFF) ++
    (List.range 16384).map (fun w => d.indMasked 0x33 (0x20000 + 4 * w) (if w % 2 = 1 then 0xBFFFFFFF else 0xFFFFFFFF)) ++
    (List.range 256).map (fun h => d.indMasked 0x33 (0x80000 + 4 * h) 0xFFF)
  | 0x38 => (List.range 256).map (fun h => d.indMasked 0x38 (4 * h) 0xFFFFFFFF)
  | _ => []

/-- The result of a scan of the configuration as it stands. (DEDUCED: log entry 103) -/
def Device.configCrc (d : Device) : Nat :=
  crc32c ((List.range 0x88).flatMap (fun page => (d.configRegs page ++ d.configIndirect page).flatMap (leBytes 4)))

/-- A scan may start: 125,000 pounds after the last start once TOW runs (R335). -/
def Device.scanTime (d : Device) : Bool := !d.tow.running || d.bus.scanAt.all (fun t => decide (t + 125000 ≤ d.tow.ticks))

/-- CFG_SCAN: a scan starts; a COMMIT written before it is taken with it. -/
def Device.scanStart (d : Device) : Device :=
  if d.is F.CFG_CTRL_SCAN_EN && !d.is F.CFG_STAT_SCANNING && d.scanTime then
    let at? := if d.tow.running then some d.tow.ticks else none
    (d.onBus (fun b => { b with
      dirty := false, incomplete := false, commitScan := d.is F.CFG_CMD_COMMIT, scanAt := at? })).put F.CFG_STAT_SCANNING 0 1
  else d

/-- A clean scan is committed, or compared with the reference. (DEDUCED: log entry 103) -/
def Device.scanClean (d : Device) (crc : Nat) : Device :=
  if d.bus.commitScan then
    (((d.put F.CFG_CRC_REF_CRC 0 crc).put F.CFG_STAT_REF_VALID 0 1).put F.CFG_CMD_COMMIT 0 0).event F.CFG_EVT_COMMITTED
  else if d.is F.CFG_CTRL_CHECK_EN && d.is F.CFG_STAT_REF_VALID && crc != d.get F.CFG_CRC_REF_CRC then
    ((d.bump F.CFG_MISMATCH_CNT_MISMATCHES).event F.CFG_EVT_MISMATCH).report 11 0 2 0
  else d

/-- A configuration-class location lies across a crossing to a stopped clock; that of a closed block is read as stored (R335, R336).
(DEDUCED: log entry 103) -/
def Device.scanStopped (d : Device) : Bool := [0x30, 0x33, 0x38].any (fun page => !d.pageClosed page && d.indStopped page)

/-- A scan ends: its class, its result, its count. The result of a scan that is not clean is open. (DESIGN CHOICE: log entry 19) -/
def Device.scanEnd (d : Device) : Device :=
  let d := d.put F.CFG_STAT_SCANNING 0 0
  let (crc, d) :=
    if d.bus.incomplete || d.bus.dirty then
      let (x, d) := d.draw 4
      (x % 2 ^ 32, if d.bus.incomplete then d.event F.CFG_EVT_INCOMPLETE else d.event F.CFG_EVT_DIRTY)
    else
      let crc := d.configCrc
      (crc, d.scanClean crc)
  ((d.put F.CFG_CRC_LAST_CRC 0 crc).bump F.CFG_STAT_SCAN_SEQ).event F.CFG_EVT_SCAN_DONE

/-- CFG_SCAN_DONE: the scan in progress completes; a location met an uncorrectable memory error (`uncorr`) or a crossing that timed out
makes it INCOMPLETE. -/
def Device.scanDone (d : Device) (uncorr : Bool) : Device :=
  if d.is F.CFG_STAT_SCANNING then
    (d.onBus (fun b => { b with incomplete := b.incomplete || uncorr || d.scanStopped })).scanEnd
  else d

/-- A write of CFG_CTRL: without SCAN_EN a scan in progress ends INCOMPLETE (R344). -/
def Device.wrCfgCtrl (d : Device) (v : Nat) : Device :=
  let d := ((d.put F.CFG_CTRL_RECOVERY 0 (bits v 2 2)).put F.CFG_CTRL_CHECK_EN 0 (bits v 1 1)).put F.CFG_CTRL_SCAN_EN 0 (bits v 0 0)
  if !bit v 0 && d.is F.CFG_STAT_SCANNING then (d.onBus (fun b => { b with incomplete := true })).scanEnd else d

/-- A write of CFG_CRC_REF sets the reference and REF_VALID. -/
def Device.wrCrcRef (d : Device) (v : Nat) : Device := (d.put F.CFG_CRC_REF_CRC 0 v).put F.CFG_STAT_REF_VALID 0 1

/-! ## Unlocking (R334) -/

/-- The UNLOCKED bit of a port. -/
def unlockedField (p : Port) : Fld := match p with | .host => F.CFG_STAT_UNLOCKED_HSP | .keeper => F.CFG_STAT_UNLOCKED_KPR
def Device.unlocked (d : Device) (p : Port) : Bool := d.is (unlockedField p)

/-- A write of CFG_UNLOCK. -/
def Device.wrUnlock (d : Device) (p : Port) (v : Nat) : Device :=
  if v = 0x3C69D2E1 then
    (if p == .host && d.mode == 0 then d.pageEvent F.PAGE_STAT_KEY_FAIL 0x06 else d.put (unlockedField p) 0 1)
  else d.put (unlockedField p) 0 0

/-! ## A write lands on a register -/

/-- Plain fields take the written value by their access types; a write to an RO or RC field is ignored (R3, R323). -/
def Device.writeFields (d : Device) (r : Reg) (i v : Nat) : Device :=
  forEach r.fields (fun f d =>
    match f.acc with
    | .ro => d
    | .rc => d
    | .wsc => if bits v f.hi f.lo = 0 then d else d.put f i (bits v f.hi f.lo)
    | _ => d.put f i (bits v f.hi f.lo)) d

/-- A write of ENG_SLICE_SEL: every slice's largest depth restarts (R200). -/
def Device.wrSliceSel (d : Device) (v : Nat) : Device :=
  forEach (List.range 64) (fun e d => d.put F.ENG_SLICE_STAT_MAX_DEPTH e (d.sliceDepth e)) (d.put F.ENG_SLICE_SEL_ENGINE 0 v)

/-- A write of LOOP_MON_CFG: the average in progress restarts (R106). -/
def Device.wrMonCfg (d : Device) (c v : Nat) : Device :=
  (d.writeFields R.LOOP_MON_CFG c v).onCore c (fun k => { k with avgSum := 0, avgCount := 0 })

/-- A write of TOW_EPOCH_HI takes the staged word of TOW_EPOCH_LO with it (R249). (DEDUCED: log entry 89) -/
def Device.wrEpochHi (d : Device) (v : Nat) : Device :=
  (d.put F.TOW_EPOCH_LO_SECONDS 0 d.tow.epochLo.toNat).writeFields R.TOW_EPOCH_HI 0 v

/-- A write of TPT_MAC_HI takes the staged word of TPT_MAC_LO with it (R249). (DEDUCED: log entry 89) -/
def Device.wrMacHi (d : Device) (v : Nat) : Device := (d.put F.TPT_MAC_LO_MAC 0 d.tpt.macLo.toNat).writeFields R.TPT_MAC_HI 0 v

/-- Registers of pages 0x000 to 0x00B whose writes have a behaviour of their own. -/
def Device.wrSystem (d : Device) (p : Port) (base v : Nat) : Option Device :=
  match base with
  | 0x2040 => some (d.wrEnables 0x40 v)
  | 0x2044 => some (d.wrEnables 0x44 v)
  | 0x2048 => some (d.wrEnables 0x48 v)
  | 0x204C => some (d.wrEnables 0x4C v)
  | 0x2050 => some (d.wrEnables 0x50 v)
  | 0x2080 => some (d.wrRefCtrl v (p == .host))
  | 0x20A4 => some (d.wrDomCtrl v)
  | 0x3080 => some (d.wrOpCtrl v)
  | 0x5080 => some (d.wrNvsCtrl v)
  | 0x5094 => some (d.wrNvsPush v)
  | 0x5098 => some (d.wrNvsWdata v)
  | 0x6080 => some (d.wrCfgCtrl v)
  | 0x6088 => some (d.wrCrcRef v)
  | 0x608C => some (d.wrUnlock p v)
  | 0x7080 => some (d.wrMbxReq v)
  | 0x8080 => some (d.wrCalCmd v)
  | 0x8088 => some (d.wrCalApply v)
  | 0xA080 => some (d.wrFltCtrl v)
  | 0xA084 => some (d.wrFltClear v)
  | 0xA088 => some (d.wrLogTail v)
  | _ => none

/-- Registers of the unit pages whose writes have a behaviour of their own; i is the copy. -/
def Device.wrUnit (d : Device) (base i v : Nat) : Option Device :=
  match base with
  | 0x1009C => some (d.wrLoopApply i v)
  | 0x100AC => some (d.wrPhaseAdj i v)
  | 0x100B8 => some (d.wrMonCfg i v)
  | 0x100D4 => some (d.wrFcntCfg i v)
  | 0x100E4 => some ((d.writeFields R.LOOP_TRIM i v).reduceTrim i)
  | 0x20040 => some (d.wrAlignArm v)
  | 0x20044 => some (d.wrAlignDisarm v)
  | 0x20080 => some (d.wrTwinCtrl v)
  | 0x200E0 => some (d.wrTwinSwap v)
  | 0x21100 => some (d.wrOutputSel i v)
  | 0x21180 => some ((d.writeFields R.COUT_DRV i v).dccEnable i)
  | 0x21200 => some (d.wrOutputDelay i v)
  | 0x31084 => some (d.wrEngReset v)
  | 0x31088 => some (d.wrHcqCtrl v)
  | 0x310E0 => some (d.wrSliceSel v)
  | 0x31140 => some (d.wrCntCtrl v)
  | 0x31200 => some (d.wrHcqWin i v)
  | 0x32084 => some (d.wrTtEnd v)
  | 0x320C0 => some (d.wrTtHead v)
  | 0x33080 => some (d.wrDecCtrl v)
  | 0x33088 => some (d.wrDecReset v)
  | 0x38088 => some (d.wrRealign v)
  | 0x380A0 => some (d.wrPpsCfg v)
  | 0x380B8 => some (d.onTow (fun t => { t with epochLo := BitVec.ofNat 32 v }))
  | 0x380BC => some (d.wrEpochHi v)
  | 0x380F8 => some (d.wrResolve v)
  | 0x39080 => some (d.wrTptCtrl v)
  | 0x39084 => some (d.onTpt (fun t => { t with macLo := BitVec.ofNat 32 v }))
  | 0x39088 => some (d.wrMacHi v)
  | 0x390D4 => some (d.wrRxRel v)
  | 0x390D8 => some (d.wrTxCtrl v)
  | 0x390DC => some (d.wrTxtsRel v)
  | 0x40100 => some (d.wrLaneCtrl i v)
  | 0x40200 => some (d.wrWhfCfg i v)
  | 0x40204 => some (d.wrWhfCmd i v)
  | _ => none

/-- A register of a wharf at the place of a lane that is no wharf's lowest: reads zero, ignores writes (R279). -/
def Device.noWharf (d : Device) (r : Reg) (i : Nat) : Bool :=
  decide (0x40200 ≤ r.base) && decide (r.base < 0x40280) && d.wharfOf i != i

/-- The page of copy i of a register; the copies of a bank are shown on one page. -/
def Reg.pageOf (r : Reg) (i : Nat) : Nat :=
  match r.shape with
  | .bank _ => r.base / 0x1000
  | sh => sh.addr r.base i / 0x1000

/-- A write takes effect on a register of an open page. (DESIGN CHOICE: log entry 106) -/
def Device.writeReg (d : Device) (p : Port) (r : Reg) (i v : Nat) : Device :=
  if d.noWharf r i then d
  else if d.farStopped r i then d.xingErr (r.pageOf i)
  else
    let d := d.when (r.fields.any (·.cfg)) (·.markDirty)
    match (d.wrSystem p r.base v).or (d.wrUnit r.base i v) with
    | some d => d
    | none => d.writeFields r i v

/-! ## Guarded pairs (R333) -/

def guardedRegs : List Nat := [0x2080, 0x3080, 0x6080, 0x38080, 0x38084]
/-- A GRD register or a guard address. -/
def isGuarded (addr : Nat) : Bool := guardedRegs.contains addr
def isGuard (addr : Nat) : Bool := decide (0x400 ≤ addr) && guardedRegs.contains (addr - 0x400)
/-- The address at which the second write of a pair is due. -/
def pairPartner (addr : Nat) : Nat := if isGuard addr then addr - 0x400 else addr + 0x400

def Device.openPair (d : Device) (p : Port) : Option (Nat × Nat) := Store.get? d.bus.pair (portNo p)
def Device.closePair (d : Device) (p : Port) : Device := d.onBus (fun b => { b with pair := Store.erase b.pair (portNo p) })
/-- A pair fails. -/
def Device.failPair (d : Device) (p : Port) (addr : Nat) : Device := (d.closePair p).pageEvent F.PAGE_STAT_GUARD_FAIL (addr / 0x1000)

/-- The word V reaches a GRD register at an address. -/
def Device.writeGuarded (d : Device) (p : Port) (addr v : Nat) : Device :=
  match d.regAt addr with
  | some (r, i) => d.writeReg p r i v
  | none => d

/-! ## A write of a port (R320-R334) -/

/-- A write with no pair open, to an open page. -/
def Device.writeOpen (d : Device) (p : Port) (addr v : Nat) : Device :=
  let page := addr / 0x1000
  let ofs := addr % 0x1000
  if isGuarded addr then
    if d.unlocked p then (d.put (unlockedField p) 0 0).writeGuarded p addr v
    else d.onBus (fun b => { b with pair := Store.set b.pair (portNo p) (addr, v) })
  else if isGuard addr then d.onBus (fun b => { b with pair := Store.set b.pair (portNo p) (addr, v) })
  else if 0x800 ≤ ofs then
    let target := page * 0x1000 + 0x40 + 4 * ((ofs - 0x800) / 128)
    let b := (ofs - 0x800) % 128 / 4
    match d.regAt target with
    | some (r, i) =>
      match r.fields.find? (fun f => decide (f.lo ≤ b) && decide (b ≤ f.hi)) with
      | some f =>
        if f.acc = .wsc then (if bit v 0 then d.writeReg p r i (2 ^ b) else d)
        else d.writeReg p r i (setBits (d.regStored r i) b b (ofBool (bit v 0)))
      | none => d
    | none => d
  else if ofs = 0x1C then d.wrIndAddr page v
  else if ofs = 0x20 then
    let key := d.unlocked p
    let word := indSpace page && indKey page (d.indAddr page)
    (d.indWrite page v key).when (word && key) (fun d => d.put (unlockedField p) 0 0)
  else
    match d.regAt addr with
    | some (r, i) => d.writeReg p r i v
    | none => d

/-- A page takes writes: implemented and not closed. -/
def Device.pageTakes (d : Device) (page : Nat) : Bool := pageImplemented page && !d.pageClosed page

/-- A write of a port: it decides an open pair of the port, or is a write with no pair open. -/
def Device.busWrite (d : Device) (p : Port) (addr v : Nat) : Device :=
  match d.openPair p with
  | some (a, w) =>
    if addr = pairPartner a ∧ v + w = 0xFFFFFFFF then (d.closePair p).writeGuarded p (min a addr) (if a < addr then w else v)
    else
      let d := d.failPair p a
      if isGuarded addr || isGuard addr then d else if d.pageTakes (addr / 0x1000) then d.writeOpen p addr v else d
  | none => if d.pageTakes (addr / 0x1000) then d.writeOpen p addr v else d

/-! ## A read of a port (R323-R330) -/

/-- A read clears the RC bits that it returned as one. -/
def Device.clearRead (d : Device) (r : Reg) (i v : Nat) : Device :=
  forEach r.fields (fun f d => if f.acc = .rc then d.put f i (d.get f i - (d.get f i).land (bits v f.hi f.lo)) else d) d

/-- The value of a register crosses by double sampling: a multi-bit value of another clock domain (R340). -/
def Reg.sampled (r : Reg) : Bool := r.dom != .reg && r.fields.any (fun f => decide (1 < f.width))
/-- The value last taken across the crossing of a register at an address: that of the last read that took one, at first its Reset value
(R340). (DESIGN CHOICE: log entry 147) -/
def Device.keptWord (d : Device) (r : Reg) (i addr : Nat) : Nat :=
  Store.getD d.bus.taken addr (r.fields.foldl (fun a f => a + f.reset i * 2 ^ f.lo) 0)

/-- A read of a register of an open page, with its side effects. One whose samples disagree returns the value last taken, and UNSTABLE is
set (R340). (DESIGN CHOICE: log entry 147) -/
def Device.readReg (d : Device) (r : Reg) (i addr : Nat) (unstable : Bool) : Nat × Device :=
  if d.noWharf r i then (0, d)
  else if d.farStopped r i then (0, d.xingErr (r.pageOf i))
  else if r.base = 0x50C8 then d.readNvsRdata
  else if r.base = 0x330FC then d.readLastEvt3
  else if r.sampled then
    if unstable then
      let v := d.keptWord r i addr
      (v, (d.clearRead r i v).pageEvent F.PAGE_STAT_UNSTABLE (r.pageOf i))
    else
      let v := d.regShown r i
      (v, (d.clearRead r i v).onBus (fun b => { b with taken := Store.set b.taken addr v }))
  else (d.regShown r i, d.clearRead r i (d.regShown r i))

/-- A read of an address. -/
def Device.readAddr (d : Device) (addr : Nat) (unstable : Bool) : Nat × Device :=
  let page := addr / 0x1000
  let ofs := addr % 0x1000
  if d.pageTakes page then
    if 0x800 ≤ ofs then
      match d.regAt (page * 0x1000 + 0x40 + 4 * ((ofs - 0x800) / 128)) with
      | some (r, i) => (bits (d.regShown r i) ((ofs - 0x800) % 128 / 4) ((ofs - 0x800) % 128 / 4), d)
      | none => (0, d)
    else if ofs = 0x20 then d.indRead page
    else
      match d.regAt addr with
      | some (r, i) => d.readReg r i addr unstable
      | none => (0, d)
  else (0, d)

/-- A read of a port, whose word is kept. -/
def Device.busRead (d : Device) (addr : Nat) (unstable : Bool := false) : Nat × Device :=
  let (v, d) := d.readAddr addr unstable
  (v, d.onBus (fun b => { b with lastRead := BitVec.ofNat 32 v }))

/-! ## The order of the ports' accesses (R304, R305, R320, R339) -/

/-- A crossing that never times out: a register in the AON domain on an AON page, or TOW_POUND_LO (R339). -/
def neverTimesOut (r : Reg) : Bool := (r.dom == .aon && [1, 3, 0xB].contains (r.base / 0x1000)) || r.base == 0x380C8

/-- An access to an address waits for its clock (R339). -/
def Device.addrWaits (d : Device) (addr : Nat) : Bool :=
  d.pageTakes (addr / 0x1000) &&
  match d.regAt addr with
  | some (r, i) => neverTimesOut r && d.farStopped r i
  | none => false

/-- The register a write reaches: at a guard address the one that it completes a pair for, if it does; in the alias window its target. -/
def Device.writeTarget (d : Device) (p : Port) (addr : Nat) : Option Nat :=
  if isGuard addr then (if d.openPair p |>.any (fun x => x.1 + 0x400 == addr) then some (addr - 0x400) else none)
  else if 0x800 ≤ addr % 0x1000 then some (addr / 0x1000 * 0x1000 + 0x40 + 4 * ((addr % 0x1000 - 0x800) / 128))
  else some addr

/-- An access of a port that has not landed waits for its clock (R339). (DESIGN CHOICE: log entry 101) -/
def Device.waits (d : Device) (p : Port) : BusAccess → Bool
  | .write (some a) _ _ _ => (d.writeTarget p a).any d.addrWaits
  | .read a _ => d.addrWaits a
  | .frameRead (some a) _ _ => d.addrWaits a
  | _ => false

/-- A word of the READ frame in progress has been read; the last one completes the reply (R305). -/
def Device.frameWord (d : Device) (v : Nat) (last : Bool) : Device :=
  match d.hsp.reading with
  | none => d
  | some x =>
    if last then (d.onHsp (fun h => { h with reading := none })).hspReply x.head x.alive (x.done ++ [v])
    else d.onHsp (fun h => { h with reading := some { x with done := x.done ++ [v] } })

/-- A write by a Keeper port that is unlocked for it (R334). -/
def Device.writeUnlocked (d : Device) (addr v : Nat) : Device :=
  let f := unlockedField .keeper
  let was := d.get f
  if d.pageTakes (addr / 0x1000) then ((d.put f 0 1).writeOpen .keeper addr v).put f 0 was else d

/-- An access of a port lands. A word of a frame past the end of its page sets AINC_OVERRUN (R329). -/
def Device.land (d : Device) (p : Port) : BusAccess → Device
  | .write (some a) v unlocked _ => if unlocked then d.writeUnlocked a v else d.busWrite p a v
  | .write none _ _ _ => d.hspFlag 2
  | .read a unstable => (d.busRead a unstable).2
  | .frameRead (some a) unstable last =>
    let (v, d) := d.busRead a unstable
    d.frameWord v last
  | .frameRead none _ last => (d.hspFlag 2).frameWord 0 last
  | .resetFormat => d.formatReset

/-- The accesses of a port that have not landed, oldest first. -/
def Device.setHeld (d : Device) (p : Port) (l : List BusAccess) : Device :=
  d.onBus (fun b => { b with held := Store.put b.held [] (portNo p) l })
/-- A port issues accesses behind those that have not landed. -/
def Device.issue (d : Device) (p : Port) (l : List BusAccess) : Device := d.setHeld p (d.heldOf (portNo p) ++ l)

/-- At most n accesses of a port land, in the port's order; one that waits for its clock holds those behind it (R320, R339).
(DESIGN CHOICE: log entry 101) -/
def Device.landN (p : Port) : Nat → Device → Device
  | 0, d => d
  | n + 1, d =>
    match d.heldOf (portNo p) with
    | [] => d
    | x :: t => if d.waits p x then d else landN p n ((d.setHeld p t).land p x)
/-- All of a port's accesses land that need not wait. -/
def Device.landAll (d : Device) (p : Port) : Device := Device.landN p (d.heldOf (portNo p)).length d
/-- The number named of a port's accesses lands, or all that need not wait. -/
def Device.landSome (d : Device) (p : Port) (n : Option Nat) : Device :=
  match n with
  | some n => Device.landN p (min n (d.heldOf (portNo p)).length) d
  | none => d.landAll p

/-- The next frame of the host begins: a READ frame in progress is abandoned, its reads that have not been performed never are, nor is an
access that hangs (R305). -/
def Device.hspSelect (d : Device) : Device :=
  (d.onHsp (fun h => { h with reading := none })).setHeld .host
    ((d.heldOf 0).filter (fun x => match x with | .frameRead _ _ _ => false | _ => true))

/-- A row's access of a port: it lands behind those the port has issued before, unless it waits. The bus serves the two ports alternately:
after an access of the Keeper port one of the host port lands (R320). (DESIGN CHOICE: log entry 101) -/
def Device.access (d : Device) (p : Port) (x : BusAccess) : Device :=
  match p with
  | .host => (d.hspSelect.issue .host [x]).landAll .host
  | .keeper => ((d.issue .keeper [x]).landAll .keeper).landSome .host (some 1)
/-- The write of a row. -/
def Device.accessWrite (d : Device) (p : Port) (addr v : Nat) : Device := d.access p (.write (some addr) v false true)

/-- The oldest access of a port waits for its clock. -/
def Device.portWaits (d : Device) (p : Port) : Bool := (d.heldOf (portNo p)).head?.any (d.waits p)
/-- After a row that started a clock, the accesses that waited for it in `before` land (R339). (DESIGN CHOICE: log entry 101) -/
def Device.landAfter (d before : Device) : Device :=
  forEach [Port.host, Port.keeper] (fun p d => d.when (before.portWaits p && !d.portWaits p) (fun d => d.landAll p)) d

/-- XING_TIMEOUT: an access to a stopped or reset domain times out (R338, R343). (DESIGN CHOICE: log entry 101) -/
def Device.xingTimeout (d : Device) (addr : Nat) (write : Bool) : Device :=
  let page := addr / 0x1000
  match d.regAt addr with
  | some (r, i) =>
    let dom := match r.dom with | .eng => 144 | .tow => 151 | .tpx => 152 | .loop => 128 + i | _ => 147
    let ind? := if addr % 0x1000 = 0x20 then indDomain page else none
    if d.pageTakes page && ind?.any (fun dom => d.domStopped dom || d.clk.resetting.contains dom) then
      (d.xingErr page).when (!write) (fun d => d.onBus (fun b => { b with lastRead := 0 }))
    else if d.pageTakes page && !d.noWharf r i && !neverTimesOut r && (d.farStopped r i || d.clk.resetting.contains dom) then
      (d.xingErr page).when (!write) (fun d => d.onBus (fun b => { b with lastRead := 0 }))
    else d
  | none => d

/-! ## Frames (R304-R307, R329) -/

/-- The addresses that n words of a frame access, none past the end of the page. -/
def frameWalk (addr n : Nat) : List (Option Nat) :=
  (List.range n).map (fun k => if addr % 0x1000 = 0x20 then some addr
    else if addr % 0x1000 + 4 * k < 0x1000 then some (addr + 4 * k) else none)
/-- Those of a WRITE frame: one at a guard address goes on at its register. -/
def writeWalk (addr n : Nat) : List (Option Nat) :=
  if isGuard addr then (List.range n).map (fun k => if k = 0 then some addr else if k = 1 then some (addr - 0x400) else none)
  else frameWalk addr n

/-- The last of n things. -/
def lastMark (n k : Nat) : Bool := k + 1 == n

/-- The words of a WRITE frame, in address order. -/
def writeWords (addr : Nat) (words : List Nat) : List BusAccess :=
  ((writeWalk addr words.length).zip words).zipIdx.map (fun x => .write x.1.1 x.1.2 false (lastMark words.length x.2))
/-- The words of a READ frame, in address order. -/
def readWords (addr n : Nat) (unstable : List Nat) (reply : Bool) : List BusAccess :=
  (frameWalk addr n).zipIdx.map (fun x => .frameRead x.1 (unstable.contains x.2) (reply && lastMark n x.2))

/-- The staging buffers that hold a frame still to be applied (R304). -/
def Device.staging (d : Device) : Nat := ((d.heldOf 0).filter (fun x => match x with | .write _ _ _ last => last | _ => false)).length

/-- HSP_WRITE: a WRITE frame at its select release. A good one is staged and its words land in address order; `landed` accesses of the port
have landed when the row ends. One that is cut is HSP_CUT's. (DESIGN CHOICE: log entry 101) -/
def Device.hspWrite (d : Device) (cycles : List Byte) (stageFree : Bool) (landed : Option Nat) : Device :=
  match d.hspFrame cycles with
  | .write alive addr payload =>
    if d.hspRuns && !writeCut alive addr payload then
      let (words?, crcOk) := writeData alive addr payload
      let k := words?.getD 0
      let format := words?.isNone || decide (256 < k) || addr.toNat % 4 != 0
      let ok := d.aliveOk alive
      let free := stageFree && decide (d.staging < 2)
      if ok && crcOk && !format && free then
        (((d.aliveSync alive).bump F.HSP_FRAME_CNT_GOOD).issue .host (writeWords addr.toNat (wordsOfBits k payload))).landSome .host landed
      else ((d.aliveSync alive).hspBad (!ok) (!crcOk) format (!free)).landSome .host landed
    else d
  | _ => d

/-- HSP_READ: a READ frame of 2^code words, which are read behind the accesses issued before; `landed` accesses of the port have landed when
the row ends, and a frame whose words are not all read goes on with its busy units. A bad one performs no read and its data words are
zero; an abandoned one performs no further read and gives no reply. (DEDUCED: log entry 99; DESIGN CHOICE: log entry 101) -/
def Device.hspRead (d : Device) (cycles : List Byte) (busy : Nat) (abandoned : Bool) (landed : Option Nat) (unstable : List Nat) : Device :=
  match d.hspFrame cycles with
  | .read code alive addr =>
    if d.hspRuns then
      let n := 2 ^ code
      let head := msbBits 8 ((8 + code) * 16 + alive.toNat) ++ msbBits 24 addr.toNat
      let ok := d.aliveOk alive
      let format := addr.toNat % 4 != 0
      let d := (d.aliveSync alive).hspDrive busy
      if ok && !format then
        let d := (d.bump F.HSP_FRAME_CNT_GOOD).onHsp (fun h => { h with reading := some { head, alive } })
        let d := (d.issue .host (readWords addr.toNat n unstable (!abandoned))).landSome .host landed
        d.when abandoned (·.hspSelect)
      else
        let d := d.hspBad (!ok) false format false
        let d := d.when (!abandoned) (fun d => d.hspReply head alive (List.replicate n 0))
        d.landSome .host landed
    else d
  | _ => d

/-- RESET_FORMAT: the frame takes effect once the words of the frames before it have been applied (R309, R318). (DEDUCED: log entry 99) -/
def Device.hspResetFormat (d : Device) (cycles : List Byte) : Device :=
  if d.hspRuns && d.hspFrame cycles == .resetFormat then d.issue .host [.resetFormat] else d

/-- A frame of the host that makes no access: it begins, has its effect, and the accesses issued before land.
(DESIGN CHOICE: log entry 101) -/
def Device.frameRow (d : Device) (f : Device → Device) : Device := (f d.hspSelect).landAll .host

/-! ## Meanings -/

def execRegisterWrite (port : Port) (addr : BitVec 24) (v : Word) (s : State) : Host.Outcome State Fault Refusal :=
  .next (s.on (·.accessWrite port addr.toNat v.toNat))
/-- RC_READ: a read of a register. -/
def execRcRead (port : Port) (addr : BitVec 24) (s : State) (unstable : Bool := false) : Host.Outcome State Fault Refusal :=
  .next (s.on (·.access port (.read addr.toNat unstable)))
/-- ALIAS_WRITE: a write in the alias window of a page. -/
def execAliasWrite (port : Port) (addr : BitVec 24) (v : Word) (s : State) : Host.Outcome State Fault Refusal :=
  .next (s.on (fun d => if 0x800 ≤ addr.toNat % 0x1000 then d.accessWrite port addr.toNat v.toNat else d))
/-- GUARD_PAIR_WRITE: one write of a guarded pair, at the register or at its guard address, or the write that decides an open pair. -/
def execGuardPairWrite (port : Port) (addr : BitVec 24) (v : Word) (s : State) : Host.Outcome State Fault Refusal :=
  .next (s.on (fun d =>
    if isGuarded addr.toNat || isGuard addr.toNat || (d.openPair port).isSome then
      d.accessWrite port addr.toNat v.toNat
    else d))
/-- GUARD_TIMEOUT: no second write within 16 REG cycles. (DESIGN CHOICE: log entry 9) -/
def execGuardTimeout (port : Port) (s : State) : Host.Outcome State Fault Refusal :=
  .next (s.on (fun d => match d.openPair port with
    | some (a, _) => d.failPair port a
    | none => d))
def execCfgUnlock (port : Port) (v : Word) (s : State) : Host.Outcome State Fault Refusal :=
  .next (s.on (·.accessWrite port 0x608C v.toNat))
def execUnlockExpiry (port : Port) (s : State) : Host.Outcome State Fault Refusal := .next (s.on (·.put (unlockedField port) 0 0))
def execIndirectAddrWrite (port : Port) (page : BitVec 12) (v : Word) (s : State) : Host.Outcome State Fault Refusal :=
  .next (s.on (·.accessWrite port (page.toNat * 0x1000 + 0x1C) v.toNat))
def execIndirectDataWrite (port : Port) (page : BitVec 12) (v : Word) (s : State) : Host.Outcome State Fault Refusal :=
  .next (s.on (·.accessWrite port (page.toNat * 0x1000 + 0x20) v.toNat))
def execIndirectDataRead (port : Port) (page : BitVec 12) (s : State) : Host.Outcome State Fault Refusal :=
  .next (s.on (·.access port (.read (page.toNat * 0x1000 + 0x20) false)))
/-- BERTH_INDIRECT_READ and BERTH_INDIRECT_WRITE: an access to INDIRECT_DATA of page 0x030 while its address lies in the Berth space. -/
def execBerthIndirectRead (port : Port) (s : State) : Host.Outcome State Fault Refusal :=
  .next (s.on (fun d => if d.indAddr 0x30 < 0x400000 then d.access port (.read 0x30020 false) else d))
def execBerthIndirectWrite (port : Port) (v : Word) (s : State) : Host.Outcome State Fault Refusal :=
  .next (s.on (fun d => if d.indAddr 0x30 < 0x400000 then d.accessWrite port 0x30020 v.toNat else d))
/-- DEC_LAST_EVT_READ: a read of DEC_LAST_EVT3 (R209). -/
def execDecLastEvtRead (s : State) : Host.Outcome State Fault Refusal := .next (s.on (·.access .host (.read 0x330FC false)))
def execXingTimeout (_port : Port) (addr : BitVec 24) (write : Bool) (s : State) : Host.Outcome State Fault Refusal :=
  .next (s.on (·.xingTimeout addr.toNat write))
def execCfgScan (s : State) : Host.Outcome State Fault Refusal := .next (s.on (·.scanStart))
def execCfgScanDone (s : State) (uncorr : Bool := false) : Host.Outcome State Fault Refusal := .next (s.on (·.scanDone uncorr))
/-- COMMIT_REQUEST: the write of CFG_CMD with COMMIT set (R336). -/
def execCommitRequest (s : State) : Host.Outcome State Fault Refusal := .next (s.on (·.put F.CFG_CMD_COMMIT 0 1))
def execCfgCrcRefWrite (v : Word) (s : State) : Host.Outcome State Fault Refusal := .next (s.on (·.wrCrcRef v.toNat))
def execHspWrite (command address data : List Byte) (stageFree : Bool) (s : State) (landed : Option Nat := none) :
    Host.Outcome State Fault Refusal :=
  .next (s.on (fun d => d.hspSelect.hspWrite (command ++ address ++ data) stageFree landed))
def execHspRead (command address : List Byte) (busy : Nat) (abandoned : Bool) (s : State) (landed : Option Nat := none)
    (unstable : List Nat := []) : Host.Outcome State Fault Refusal :=
  .next (s.on (fun d => d.hspSelect.hspRead (command ++ address) busy abandoned landed unstable))
def execHspStatus (command : List Byte) (s : State) (busy : Nat := 0) (abandoned : Bool := false) : Host.Outcome State Fault Refusal :=
  .next (s.on (·.frameRow (·.hspStatus command busy abandoned)))
def execResetFormat (s : State) (cycles : List Byte := List.replicate 40 0xFF) : Host.Outcome State Fault Refusal :=
  .next (s.on (·.frameRow (·.hspResetFormat cycles)))
def execHspReservedOpcode (command rest : List Byte) (s : State) : Host.Outcome State Fault Refusal :=
  .next (s.on (·.frameRow (·.hspReserved (command ++ rest))))
def execHspCut (cycles : List Byte) (s : State) : Host.Outcome State Fault Refusal := .next (s.on (·.frameRow (·.hspCut cycles)))

end Sys2Proof.Machine
end

