-- ==== Sys2Proof/Machine/Boot.lean ====
section
/-! DEFINITION. Start-up: the nine steps, the flash images the Keeper reads, the boot configuration, the opening of quads, and the Keeper's
resumption (R21, R33, R48-R50, R265, R296, R355, R356). -/

namespace Sys2Proof.Machine

def Device.bootCode (d : Device) : Nat := d.get F.SYS_BOOT_STAT_CODE
/-- A step of start-up completes. -/
def Device.stepDone (d : Device) (n : Nat) : Device := (d.put F.SYS_BOOT_STAT_STEP 0 n).put F.SYS_BOOT_STAT_CODE 0 0
/-- A code is written as a fault record (R50). -/
def Device.bootRecord (d : Device) (code : Nat) : Device := d.report 0 0 code 0
/-- A blocking code: start-up waits at its step. -/
def Device.bootWait (d : Device) (code : Nat) : Device := (d.put F.SYS_BOOT_STAT_CODE 0 code).bootRecord code
/-- A failing blocking code. -/
def Device.bootFail (d : Device) (code : Nat) : Device := (d.bootWait code).put F.SYS_BOOT_STAT_FAILED 0 1
/-- A warning. -/
def Device.bootWarn (d : Device) (f : Fld) (code : Nat) : Device := (d.put f 0 1).bootRecord code
/-- Start-up stands at a step and has not failed. -/
def Device.atStep (d : Device) (n : Nat) : Bool := d.step == n && !d.is F.SYS_BOOT_STAT_FAILED

/-! ## Flash images (R294, R355, R356) -/

/-- The little-endian number of n bytes at i of a list. -/
def leAt (l : List Byte) (i n : Nat) : Nat := leNat ((l.drop i).take n)

/-- A patch image is valid. (DESIGN CHOICE: log entry 34) -/
def patchValid (l : List Byte) : Bool :=
  let len := leAt l 8 4
  leAt l 0 4 == 0x48544150 && leAt l 4 2 == 1 && leAt l 6 1 == Config.romRev.toNat && len % 4 == 0 && decide (len ≤ 65536)
    && decide (len + 20 ≤ l.length) && leAt l (16 + len) 4 == crc32c (l.take (16 + len))

/-- Entry k of a boot configuration image. -/
def bootEntryAt (l : List Byte) (k : Nat) : BootEntry :=
  let w := leAt l (16 + 8 * k) 4
  { phase := bits w 31 30, addr := bits w 23 0, value := leAt l (20 + 8 * k) 4 }

/-- The entries of a boot configuration image with its SEQ, when it is valid. (DESIGN CHOICE: log entry 34) -/
def bootImage (l : List Byte) : Option (List BootEntry × Word) :=
  let n := leAt l 6 2
  let good := leAt l 0 4 == 0x47464342 && leAt l 4 2 == 1 && decide (n ≤ 8189) && decide (20 + 8 * n ≤ l.length)
    && leAt l (16 + 8 * n) 4 == crc32c (l.take (16 + 8 * n))
    && (List.range n).all (fun k => bits (leAt l (16 + 8 * k) 4) 29 24 == 0 && leAt l (16 + 8 * k) 4 % 4 == 0)
  if good then some ((List.range n).map (bootEntryAt l), BitVec.ofNat 32 (leAt l 8 4)) else none

/-- The in-force image from two flash copies, with LOADED: the newer valid one (R294, R296). -/
def newestCopy (a b : Image) : Option (Image × Nat) :=
  if copyValid a && !(copyValid b && newer (imgSeq b) (imgSeq a)) then some (a, 1)
  else if copyValid b then some (b, 2)
  else none

/-! ## The boot configuration (R334, R355) -/

/-- A register write of the Keeper with its port unlocked; it lands behind those before it (R320, R334, R339). -/
def Device.keeperWrite (d : Device) (addr v : Nat) : Device := (d.issue .keeper [.write (some addr) v true true]).landAll .keeper

/-- The quad whose page an address lies in. -/
def quadOfAddr (addr : Nat) : Option Nat :=
  let page := addr / 0x1000
  if 0x40 ≤ page ∧ page < 0x80 then some (page - 0x40) else none

/-- The quads that the word written to an enable register of quads names, in place of those it named before. (DEDUCED: log entry 32) -/
def nameQuads (base v : Nat) (l : List Nat) : List Nat :=
  l.filter (fun q => decide (q < base) || decide (base + 32 ≤ q)) ++ ((List.range 32).filter (fun i => bit v i)).map (base + ·)

/-- One entry: it names quads, waits for its quad, or is written. -/
def Device.bootEntry (d : Device) (e : BootEntry) : Device :=
  if e.addr = 0x2040 then d.onBoot (fun b => { b with named := nameQuads 0 e.value b.named })
  else if e.addr = 0x2044 then d.onBoot (fun b => { b with named := nameQuads 32 e.value b.named })
  else if (quadOfAddr e.addr).any d.blockClosed then d.onBoot (fun b => { b with held := b.held ++ [e] })
  else d.keeperWrite e.addr e.value

/-- The entries of a phase are written in image order. -/
def Device.bootPhase (d : Device) (p : Nat) : Device :=
  forEach (d.boot.entries.filter (fun e => e.phase == p)) (fun e d => d.bootEntry e) d

/-- The entries held for a quad, in image order. (DEDUCED: log entry 32) -/
def Device.heldFor (d : Device) (q : Nat) : List BootEntry :=
  d.boot.entries.filter (fun e => quadOfAddr e.addr == some q && d.boot.held.contains e)
/-- An entry writes LANE_QUAD_CFG. -/
def isQuadCfg (e : BootEntry) : Bool := e.addr % 0x1000 == F.LANE_QUAD_CFG_LAYOUT.base % 0x1000

/-- Held entries are written and no longer held. (DEDUCED: log entry 32) -/
def Device.writeHeld (d : Device) (l : List BootEntry) : Device :=
  forEach l (fun e d => d.keeperWrite e.addr e.value) (d.onBoot (fun b => { b with held := b.held.filter (fun e => !l.contains e) }))

/-! ## Steps 2 and 3 -/

/-- The body of a patch image (R356). -/
def patchBody (l : List Byte) : List Byte := (l.drop 16).take (leAt l 8 4)

/-- What the Keeper runs: ROM firmware, or a patch, whose body is loaded into patch RAM (R356). -/
def Device.keeperBoots (d : Device) (patch : Option (List Byte)) : Device :=
  let d := d.put F.KPR_STAT_RUNNING 0 1
  match patch with
  | some l =>
    { (d.put F.KPR_STAT_PATCHED 0 1).put F.KPR_STAT_PATCH_VER 0 (leAt l 0xC 2) with kpr := { d.kpr with patch := patchBody l } }
  | none => d

/-- Byte i of the 64 KiB of patch RAM: that of the body loaded, else arbitrary (R44). (DESIGN CHOICE: log entry 11) -/
def Device.patchByte (d : Device) (i : Nat) : Byte :=
  match d.kpr.patch[i]? with
  | some b => b
  | none => BitVec.ofNat 8 (Config.arbitrary 15 d.epoch i)

/-- Requests that waited for the Keeper proceed. -/
def Device.keeperServes (d : Device) : Device := d.mbxServe.calServe

/-- The quad-enable methods that Keeper firmware recognises: those JESD216 gives a meaning. (PRESUMED: log entry 146) -/
def quadMethod (m : Nat) : Bool := decide (m ≤ 6)

/-- The flash responds: its busy bit has cleared and its SFDP signature was found; codes of four address bytes above 128 Mbit (R316).
(DESIGN CHOICE: log entry 34) -/
def flashMode (p : FlashProbe) : Option FlashMode :=
  if p.idle && p.sfdp then some { four := decide (128 < p.mbit), quad := quadMethod p.method } else none

/-- A Keeper sequence on the store port. -/
def Device.flashRun (d : Device) (l : List FlashSeq) : Device := d.onNvs (fun n => { n with keeper := l })

/-- The Keeper boots with a patch image from the flash, or reports code 0x21 and runs ROM firmware (R356). -/
def Device.bootPatch (d : Device) (image : Option (List Byte)) : Device :=
  let patch := image.filter patchValid
  let d := d.keeperBoots patch
  if patch.isSome then d else d.bootWarn F.SYS_BOOT_STAT_WARN_PATCH 0x21

/-- PATCH_LOAD: step 2 completes. The flash is probed unless BOOTSEL is 0b01, and the patch image is read with 0b00 only; with 0b10 and 0b11
start-up waits for the host (R33, R316, R356). (DEDUCED: log entry 27; DESIGN CHOICE: log entry 34) -/
def Device.patchLoad (d : Device) (image : Option (List Byte)) (found : FlashProbe) : Device :=
  if d.atStep 1 then
    let probed := (d.onNvs (fun n => { n with flash := flashMode found })).flashRun [.probe found]
    match d.boot.bootsel with
    | 0 =>
      match flashMode found with
      | some _ => (((probed.flashRun [.probe found, .first 0x80000, .image 0x80000 0x20000]).bootPatch image).stepDone 2).keeperServes
      | none => ((probed.bootPatch none).stepDone 2).keeperServes
    | 1 => ((d.onBoot (fun b => { b with useFlash := false })).keeperBoots none |>.stepDone 2).keeperServes
    | _ => (((probed.keeperBoots none).stepDone 2).bootWait 0x90).keeperServes
  else d

/-- Every core's band map as step 3 leaves it: the entries of the image, or no valid entry (R290, R293). (DEDUCED: log entry 98) -/
def Device.loadBands (d : Device) : Device :=
  let m := d.cal.inForce
  { d with bandMap := (List.range 4096).map (fun k =>
      (k, BitVec.ofNat 32 (if imgValid m 3 (k / 256) then imgNum m 4 (bandBase (k / 256) (k % 256 / 4) (k % 4)) else 0))) }

/-- An image is in force, with its check word and LOADED (R291, R296). (DEDUCED: log entry 98) -/
def Device.loadImage (d : Device) (m : Image) (loaded : Nat) : Device :=
  (d.onCal (fun c => { c with inForce := sealImg m })).put F.CAL_STORE_STAT_LOADED 0 loaded

/-- The calibration part of step 3: the RAM after a warm reset when its check word is good, also with BOOTSEL 0b01, else the newer flash
copy, else factory defaults; nothing is pending. (DEDUCED: log entry 98; DESIGN CHOICE: log entry 153) -/
def Device.calLoad (d : Device) (flash : Option FlashImages) : Device :=
  let ram := d.boot.warm && imgGood d.cal.inForce
  let copy := if d.boot.useFlash then flash.bind (fun f => newestCopy (copyStore f.a) (copyStore f.b)) else none
  let d :=
    if ram then d.put F.CAL_STORE_STAT_LOADED 0 3
    else match copy with
      | some (m, n) => d.loadImage m n
      | none =>
        let d := d.loadImage {} 0
        if d.boot.useFlash && flash.isSome then d.bootWarn F.SYS_BOOT_STAT_WARN_CAL 0x31 else d
  (d.onCal (fun c => { c with pend := {} })).loadBands

/-- The boot configuration part of step 3. -/
def Device.bootCfgLoad (d : Device) (flash : Option FlashImages) : Device :=
  match (if d.boot.useFlash then flash.bind (fun f => bootImage f.boot) else none) with
  | some (l, seq) => d.onBoot (fun b => { b with entries := l, seq := some seq, imageOk := true })
  | none => if d.boot.useFlash && flash.isSome then d.bootWarn F.SYS_BOOT_STAT_WARN_BOOTCFG 0x32 else d

/-! ## Steps 4 to 6 -/

/-- Step 4 completes when an input is READY: the selected one, else the other. (DEDUCED: log entry 28) -/
def Device.stepFour (d : Device) : Device :=
  let sel := d.get F.CLK_REF_CTRL_SEL
  if d.ready sel then (d.put F.CLK_REF_STAT_ACTIVE 0 sel).stepDone 4
  else if d.ready (1 - sel) then (d.put F.CLK_REF_STAT_ACTIVE 0 (1 - sel)).stepDone 4
  else d

/-- The Keeper changes the digital domains to MPL1 once that is READY: refused at a busy domain, start-up fails; a change cut short
by a domain reset is asked for again. After a fallback it waits for the 8 windows of R69 and leaves untrusted domains on FIO.
(DEDUCED: log entry 30) -/
def Device.stepSixStart (d : Device) : Device :=
  if d.ready 5 && !d.clk.fellBack then
    if mplDomains.any (fun dom => d.curSrc dom == 1 || d.onMpl1 dom || d.is F.CLK_DOM_STAT_UNTRUSTED dom) then
      forEach (mplDomains.filter (fun dom => d.curSrc dom != 1 && !d.domBusy dom && !d.is F.CLK_DOM_STAT_UNTRUSTED dom))
        (fun dom d => d.startSwitch dom 1 (d.mplDiv dom)) d
    else
      match mplDomains.find? d.domBusy with
      | some dom => (d.refuseSwitch dom 4).bootFail 0x60
      | none =>
        let d := d.onClk (fun c => { c with engDiv := divOf (min 1 (d.get F.PWR_OP_CTRL_OP_REQ)) })
        forEach mplDomains (fun dom d => d.startSwitch dom 1 (d.mplDiv dom)) d
  else d

/-- The digital domains are on MPL1 and none of them changes. -/
def Device.allOnMpl1 (d : Device) : Bool := mplDomains.all (fun dom => d.curSrc dom == 1 && (d.switchOf dom).isNone)

/-- Step 6, with every digital domain on MPL1: the sequencer is asked for its operating point, unless that is OP1, which is in force. -/
def Device.stepSixAsk (d : Device) : Device :=
  if d.boot.opAsked then d
  else
    let d := d.onBoot (fun b => { b with opAsked := true })
    let r := d.get F.PWR_OP_CTRL_OP_REQ
    if r = 1 then d else d.opRequest r

/-- Step 6 completes once the sequencer has moved to its point, or given it up: phase 2 is written, step 7 has its quads.
(DEDUCED: log entry 30) -/
def Device.stepSixEnd (d : Device) : Device :=
  if d.allOnMpl1 then
    let d := d.stepSixAsk
    if d.is F.PWR_OP_STAT_BUSY || d.clk.opHeld.isSome || !d.allOnMpl1 then d
    else
      let d := (d.stepDone 6).bootPhase 2
      d.onBoot (fun b => { b with toOpen := b.quads, sevenAt := d.tow.ticks })
  else d

/-- Step 5 completes with both multipliers locked; phase 1 is written. -/
def Device.stepFive (d : Device) : Device :=
  if d.mpl0Lock && d.is F.CLK_REF_STAT_MPL1_LOCK then (d.stepDone 5).bootPhase 1 else d

/-- Start-up goes on where a condition of its step has come true, while the Keeper runs. -/
def Device.bootAdvance (d : Device) : Device :=
  if d.is F.SYS_BOOT_STAT_FAILED || d.kpr.restarting then d
  else
    let d := d.when (d.step == 3) (·.stepFour)
    let d := d.when (d.step == 4) (·.stepFive)
    let d := d.when (d.step == 5) (·.stepSixStart)
    d.when (d.atStep 5) (·.stepSixEnd)

/-- What follows a change of a source or domain: REF and the domains of a fallback move on, start-up goes on, a held operating point
starts; in reset nothing does. (DEDUCED: log entry 30) -/
def Device.poll (d : Device) : Device := d.when (!d.boot.inReset) (fun d => d.refFailover.returnDomains.bootAdvance.opNext)

/-- What step 3 reads from the flash: the calibration copies unless those in RAM are kept, and the boot configuration image (R48, R296). -/
def Device.stepThreeReads (d : Device) : List FlashSeq :=
  (if d.boot.warm && imgGood d.cal.inForce then [] else [.image 0 0x20000, .image 0x20000 0x20000]) ++ [.image 0x40000 0x10000]

/-- CALIBRATION_LOAD: step 3 completes, phase 0 is written, judgement of the inputs begins.
(DEDUCED: log entry 27; DESIGN CHOICE: log entry 34) -/
def Device.calibrationLoad (d : Device) (flash : Option FlashImages) : Device :=
  if d.atStep 2 && d.bootCode != 0x90 && d.keeperRuns then
    let flash := if d.nvs.flash.isSome then flash else none
    let d := if d.boot.useFlash && flash.isNone then d.bootWarn F.SYS_BOOT_STAT_WARN_NVS 0x30 else d
    let d := d.when (d.boot.useFlash && flash.isSome) (fun d => d.flashRun d.stepThreeReads)
    (((d.calLoad flash).bootCfgLoad flash).bootPhase 0 |>.stepDone 3).poll
  else d

/-- REF_ABSENT: step 4 waits for an input. -/
def Device.refAbsent (d : Device) : Device :=
  if d.atStep 3 && d.bootCode != 0x40 && !d.ready 0 && !d.ready 1 && !d.kpr.restarting then d.bootWait 0x40 else d

/-- MPL0 locks: the RefBus runs, and with it TOW. -/
def Device.mpl0Locks (d : Device) : Device := (d.put F.CLK_REF_STAT_MPL0_LOCK 0 1).onTow (fun t => { t with running := true })

/-- MPL_LOCK: the multipliers lock; step 5 completes while the Keeper runs, and step 6 begins once MPL1 is READY. In service MPL1 locks
again. (DEDUCED: log entry 29) -/
def Device.mplLock (d : Device) : Device :=
  if d.atStep 4 && d.ready d.activeXi && !d.domBusy 154 then (d.mpl0Locks.put F.CLK_REF_STAT_MPL1_LOCK 0 1).poll
  else d.when (d.refBus && decide (5 ≤ d.step)) (fun d => d.put F.CLK_REF_STAT_MPL1_LOCK 0 1)

/-- MPL_LOCK_TIMEOUT: start-up fails with 0x50, or with MPL0 locked with 0x51. (DEDUCED: log entry 29) -/
def Device.mplLockTimeout (d : Device) (mpl1 : Bool) : Device :=
  if d.atStep 4 && !d.kpr.restarting then (if mpl1 then d.mpl0Locks.bootFail 0x51 else d.bootFail 0x50) else d

/-! ## Steps 7 to 9 -/

/-- Step 7 opens a quad: the entries held for it are written; a written layout first, which takes force by closing and opening the
quad again. (DEDUCED: log entry 31) -/
def Device.stepOpen (d : Device) (q : Nat) : Device :=
  let d := (d.onBoot (fun b => { b with toOpen := b.toOpen.filter (· != q) })).wrEnable q true false
  let l := d.heldFor q
  if l.any isQuadCfg then ((d.writeHeld (l.filter isQuadCfg)).wrEnable q false false).wrEnable q true false
  else d.writeHeld l

/-- BLOCK_OPEN: the enable bit of a block is set, by the Keeper at step 7 or by a write. -/
def Device.blockOpen (d : Device) (b : Nat) : Device :=
  (if d.atStep 6 && d.boot.toOpen.contains b && !d.kpr.restarting then d.stepOpen b else d.wrEnable b true false).markDirty

/-- A quad that step 7 has opened, or opened again, takes its other held entries, once the Keeper runs (R21, R355).
(DESIGN CHOICE: log entry 26) -/
def Device.takeHeld (d : Device) (q : Nat) : Device :=
  if d.atStep 6 && decide (q < 64) && d.boot.imageOk && d.boot.named.contains q && !d.boot.toOpen.contains q && !d.kpr.restarting
      && (d.blockState q == 1 || d.blockState q == 2) then d.writeHeld (d.heldFor q) else d

/-- BLOCK_SHUTDOWN_DONE: a quad that step 7 opens again takes its other held entries. -/
def Device.blockShutdownDone (d : Device) (b : Nat) : Device := (d.shutdownDone b).takeHeld b

/-- The enabled lanes of a wharf. -/
def Device.enabledLanes (d : Device) (h : Nat) : List Nat := (d.wharfLanes h).filter (fun n => d.is F.LANE_CTRL_LANE_EN n)
/-- Each enabled lane of a wharf that is not trained has missed its first deadline. (DEDUCED: log entry 31) -/
def Device.missedFirst (d : Device) (h : Nat) : Bool :=
  !d.wharfUp h && (d.enabledLanes h).all (fun n => decide (1 ≤ (d.lane n).misses))

/-- The wharves that are enabled: their quad open or opening, a lane of theirs enabled. -/
def Device.enabledWharf (d : Device) (h : Nat) : Bool :=
  d.blockEnabled (h / 4) && d.wharfOf h == h && !(d.enabledLanes h).isEmpty

/-- A wharf that misses its first training deadline during step 7 gives code 0x70 (R50). (DEDUCED: log entry 31) -/
def Device.quietWarn (d : Device) (h : Nat) : Device :=
  d.when (d.atStep 6 && d.enabledWharf h && d.missedFirst h) (fun d => d.bootWarn F.SYS_BOOT_STAT_WARN_QUIET 0x70)

/-- TRAINING_DEADLINE: the lane enters QUIET; the first time for every lane of its wharf, start-up reports it. -/
def Device.trainingMissed (d : Device) (n : Nat) : Device :=
  let h := d.wharfOf n
  let before := d.missedFirst h
  let d := d.trainingDeadline n
  d.when (!before) (fun d => d.quietWarn h)

/-- Step 7 completes when every enabled wharf is trained or has missed its first deadline (R50, R265). (DEDUCED: log entry 31) -/
def Device.stepSeven (d : Device) : Device :=
  if d.atStep 6 && !d.kpr.restarting && d.boot.toOpen.isEmpty then
    let l := (List.range 256).filter d.enabledWharf
    if l.all (fun h => d.wharfUp h || d.missedFirst h) then
      (d.when (l.any d.missedFirst && !d.is F.SYS_BOOT_STAT_WARN_QUIET) (fun d => d.bootWarn F.SYS_BOOT_STAT_WARN_QUIET 0x70)).stepDone 7
    else d
  else d

/-- Step 8 completes: phase 3 is written, READY is raised with the milliseconds since the reset, at most 255 (R50), and
the Keeper asks for a commit of the configuration (R336). (DESIGN CHOICE: log entry 18; DEDUCED: log entry 33) -/
def Device.stepEight (d : Device) : Device :=
  if d.atStep 7 then
    let d := (d.stepDone 8).bootPhase 3
    (((d.stepDone 9).put F.SYS_BOOT_STAT_READY 0 1).put F.SYS_BOOT_STAT_BOOT_MS 0 d.boot.ms).put F.CFG_CMD_COMMIT 0 1
  else d

/-- REALIGN: the write of TOW_REALIGN with GO, or the start of step 8. -/
def Device.realign (d : Device) (v : Option Nat) : Device :=
  match v with
  | some v => d.wrRealign (setBit (bits v 30 0) 31)
  | none => if d.atStep 7 && d.tow.running && !d.kpr.restarting && d.tow.phase == .idle then d.startAlign true else d

/-- FOLLOWER_NO_MASTER: step 8 waits for a master. -/
def Device.followerNoMaster (d : Device) : Device :=
  if d.atStep 7 && d.bootCode != 0x80 && !d.kpr.restarting && decide (3 ≤ d.role) && d.tow.phase == .source && !d.sourceOk then d.bootWait 0x80 else d

/-- TOW_ALIGNED: eight measurements in a row inside the window; step 8 completes. (DEDUCED: log entry 33) -/
def Device.towAlignedRow (d : Device) : Device :=
  if d.tow.phase == .fine && decide (8 ≤ d.tow.good) && !d.kpr.restarting then d.setAligned.stepEight else d

/-- The coarse step has been taken: a waiting step 8 proceeds, and MASTER_REFBUS and MASTER_PPS complete it (R223).
(DEDUCED: log entry 33) -/
def Device.coarseDone (d : Device) : Device :=
  let d := d.afterCoarse
  let d := d.when (d.bootCode == 0x80) (fun d => d.put F.SYS_BOOT_STAT_CODE 0 0)
  if d.role = 0 ∨ d.role = 2 then d.stepEight else d

/-! ## The Keeper -/

/-- The Keeper boots again: with BOOTSEL 0b00 it reads the patch image where the flash responds, else it runs ROM firmware (R21, R356).
(DESIGN CHOICE: log entry 26) -/
def Device.keeperReboots (d : Device) (image : Option (List Byte)) : Device :=
  if d.boot.bootsel = 0 then
    if d.nvs.flash.isSome then (d.flashRun [.image 0x80000 0x20000]).bootPatch image else d.bootPatch none
  else d.keeperBoots none

/-- KEEPER_RESUME: the Keeper runs again and its services resume; an alignment in progress starts over, a forced change of REF is followed
by its reset, entries held for a quad are written (R21, R67, R68, R69, R244, R355). With BOOTSEL 0b00 it loads a patch image first, and
waits for that while the host owns the store port (R315). (DESIGN CHOICE: log entry 26) -/
def Device.keeperResume (d : Device) (image : Option (List Byte)) : Device :=
  if d.kpr.restarting && !(d.boot.bootsel == 0 && d.nvsOwned) then
    let d : Device := { d with kpr := { d.kpr with restarting := false } }
    let d := (d.keeperReboots image).put F.TOW_STAT_SERVO_PAUSED 0 0
    let d := (forEach (List.range 64) (fun q d => d.takeHeld q) d).resetRef
    let d := d.when (d.tow.phase != .idle) (fun d =>
      d.onTow (fun t => { t with phase := .source, good := 0, full := none }))
    (d.clientInit.keeperServes.fallForward).poll
  else d

/-- CONTINUE: a host-held start goes on from step 3 (R354). (DEDUCED: log entry 27) -/
def Device.continueCmd (d : Device) : Device :=
  d.keeperCommand 0x81 (fun d =>
    if d.step = 2 ∧ d.bootCode = 0x90 then
      ((d.onBoot (fun b => { b with useFlash := (d.mbx.args.getD 0 0).getLsbD 0 })).put F.SYS_BOOT_STAT_CODE 0 0).mbxStatus 0 0 0
    else d.mbxStatus 1 0 0)

/-! ## Meanings -/

def execPatchLoad (image : Option (List Byte)) (s : State) (found : FlashProbe := {}) : Host.Outcome State Fault Refusal :=
  .next (s.on (·.patchLoad image found))
def execCalibrationLoad (flash : Option FlashImages) (s : State) : Host.Outcome State Fault Refusal :=
  .next (s.on (·.calibrationLoad flash))
def execRefAbsent (s : State) : Host.Outcome State Fault Refusal := .next (s.on (·.refAbsent))
/-- MPL_LOCK and MPL_LOCK_TIMEOUT: accesses that wait for TOW land when it runs (R339). -/
def execMplLock (s : State) : Host.Outcome State Fault Refusal := .next (s.on (fun d => d.mplLock.landAfter d))
def execMplLockTimeout (mpl1 : Bool) (s : State) : Host.Outcome State Fault Refusal :=
  .next (s.on (fun d => (d.mplLockTimeout mpl1).landAfter d))
def execFollowerNoMaster (s : State) : Host.Outcome State Fault Refusal := .next (s.on (·.followerNoMaster))
/-- JUDGE_WINDOW: accesses that wait for SIO land when it runs again (R339). (DESIGN CHOICE: log entry 7) -/
def execJudgeWindow (src : Fin 6) (count : Nat) (s : State) : Host.Outcome State Fault Refusal :=
  .next (s.on (fun d => (d.judgeSource src.val count).poll.landAfter d))
def execDomResetDone (dom : Fin 157) (s : State) : Host.Outcome State Fault Refusal := .next (s.on (fun d => (d.domResetDone dom).poll))
/-- OP_REQUEST: the write of PWR_OP_CTRL (R74). -/
def execOpRequest (v : Word) (s : State) : Host.Outcome State Fault Refusal :=
  .next (s.on (fun d => (d.wrOpCtrl v.toNat).poll.markDirty))
/-- PG_BLANKING_END: PG_IN is looked at, in reset too. -/
def execPgBlankingEnd (s : State) (pg : Bool := true) : Host.Outcome State Fault Refusal := .next (s.always (fun d => (d.pgBlankingEnd pg).poll))
def execRaiseFailed (s : State) : Host.Outcome State Fault Refusal := .next (s.on (fun d => d.raiseFailed.poll))
def execPgLost (s : State) : Host.Outcome State Fault Refusal := .next (s.always (fun d => d.pgLost.poll))
def execTrainingDeadline (n : Byte) (s : State) : Host.Outcome State Fault Refusal := .next (s.on (·.trainingMissed n.toNat))
def execSwitchDone (dom : Fin 157) (s : State) : Host.Outcome State Fault Refusal := .next (s.on (fun d => (d.switchDone dom.val).poll))
def execSwitchForced (dom : Fin 157) (s : State) : Host.Outcome State Fault Refusal :=
  .next (s.on (fun d => (d.switchForced dom.val).poll))
def execRampStep (dom : Fin 157) (s : State) : Host.Outcome State Fault Refusal := .next (s.on (fun d => (d.rampStep dom.val).poll))
def execBlockOpen (b : Fin 118) (s : State) : Host.Outcome State Fault Refusal := .next (s.on (·.blockOpen b.val))
def execBlockShutdownDone (b : Fin 118) (s : State) : Host.Outcome State Fault Refusal := .next (s.on (·.blockShutdownDone b.val))
def execTrainingStart (n : Byte) (s : State) : Host.Outcome State Fault Refusal := .next (s.on (·.trainingStart n.toNat))
def execRealign (v : Option Word) (s : State) : Host.Outcome State Fault Refusal := .next (s.on (·.realign (v.map (·.toNat))))
def execTowAligned (s : State) : Host.Outcome State Fault Refusal := .next (s.on (·.towAlignedRow))
def execKeeperResume (image : Option (List Byte)) (s : State) : Host.Outcome State Fault Refusal := .next (s.on (·.keeperResume image))
def execContinue (s : State) : Host.Outcome State Fault Refusal := .next (s.on (·.continueCmd))

end Sys2Proof.Machine
end

