-- ==== Sys2Proof/Machine/Boundary.lean ====
section
/-! DEFINITION. The pound boundary: what every unit does at it, and the boundary of a jump (R11, R13, R218, R223, R224). -/

namespace Sys2Proof.Machine

/-- The Barges reserved for the frame of the pound that opens. -/
def Device.bargesDue (d : Device) : List Barge := d.eng.flights.filterMap (·.barge?)

/-! ## A jump (R224, R238, R297) -/

/-- A FILL of engine e goes back to the first Berth whose write was pending (R161). (DEDUCED: log entry 82) -/
def Device.rewindFill (d : Device) (e : Nat) : Device :=
  match fillOf 0 (d.engine e).slice, (d.eng.flights.find? (fun f => f.fill && f.eng == e)) with
  | some (i, c), some f =>
    d.onEngine e (fun x => { x with slice := x.slice.set i { c with filled := min c.filled (f.berth - cmdBerth c.w1) } })
  | _, _ => d

/-- The commands of engine e that a jump rejects leave it. -/
def Device.jumpEngine (d : Device) (e : Nat) : Device :=
  let x := d.engine e
  let gone := x.slice.filter (fun c => !cmdNoTarget c.w1) ++ x.hand.toList
  forEach gone (fun c d => d.rejectCmd c 1 c.genSeen)
    (d.setEngine e { x with slice := x.slice.filter (fun c => cmdNoTarget c.w1), hand := none })

/-- Every command accepted and not yet committed is rejected as LATE, but for FILL and FENCE, which have no target pound; no Berth
write commits. (DEDUCED: log entry 82) -/
def Device.jumpReject (d : Device) : Device :=
  let flown := (d.eng.flights.filter (fun f => !f.fill)).map (·.cmd)
  let barges := d.bargesDue
  let d := forEach (List.range 64) (fun e d => d.rewindFill e) d
  let d := forEach barges (fun b d => d.giveCredits b.wharf 1) { d with eng := { d.eng with flights := [] } }
  let d := forEach flown (fun c d => d.rejectCmd c 1 c.genSeen) d
  let d := forEach (List.range 64) (fun e d => d.jumpEngine e) d
  let target := fun (q : List Cmd) => q.filter (fun c => !cmdNoTarget c.w1)
  let stay := fun (q : List Cmd) => q.filter (fun c => cmdNoTarget c.w1)
  let gone := target d.eng.hcq ++ target d.dec.actq ++ target d.dec.deferred ++ target d.eng.kpq
  let d := d.setHcq (stay d.eng.hcq)
  let d : Device := { d with eng := { d.eng with kpq := stay d.eng.kpq },
                             dec := { d.dec with actq := stay d.dec.actq, deferred := stay d.dec.deferred } }
  forEach gone (fun c d => d.rejectCmd c 1 c.genSeen) d

/-- A pending LOOP_APPLY of core c is judged again: one for the next boundary takes the one that comes, a pound less than two ahead is
refused with RESULT 8. -/
def Device.rejudgeApply (d : Device) (c : Nat) : Device :=
  match (d.core c).applyAt with
  | some p =>
    if d.get F.LOOP_APPLY_AT_POUND c = 0 then d.onCore c (fun k => { k with applyAt := some d.tow.pound })
    else if p.toNat < d.tow.pound.toNat + 2 then
      ((d.put F.LOOP_APPLY_RESULT c 8).put F.LOOP_APPLY_GO c 0).onCore c (fun k => { k with applyAt := none })
    else d
  | none => d

/-- A pending COUT_TWIN_SWAP is judged again. (DEDUCED: log entry 60) -/
def Device.rejudgeSwap (d : Device) (k : Nat) : Device :=
  match (d.twin k).swapAt with
  | some p =>
    if p.toNat < d.tow.pound.toNat + 2 then
      ((d.setTwin k { d.twin k with swapAt := none }).put F.COUT_TWIN_SWAP_SWAP_RESULT 0 2).put F.COUT_TWIN_SWAP_GO 0 0
    else d
  | none => d

/-- Stamps that measure durations move with the count; the measurements in progress over wharves start anew. (DEDUCED: log entry 82) -/
def Device.shiftStamps (d : Device) (j : Int) : Device :=
  let ns := j * 2 ^ 20
  let d := d.onTow (fun t => { t with
    ppsAccepted := t.ppsAccepted.map (fun x => { x with p := x.p + BitVec.ofInt 64 j }),
    wharf := t.wharf.map (fun x => (x.1, { x.2 with sumA := 0, sumRtt := 0, n := 0, last := none, farOff := x.2.farOff - j })) })
  d.onPtp (fun p => { p with
    sync := p.sync.map (fun x => (x.1, x.2.1 + ns, x.2.2)), fwd := p.fwd.map (· + ns), req := p.req.map (fun x => (x.1, x.2 + ns)) })

/-- The jump from a present pound P to the boundary that opens N, which has just become the present pound: J = N - P - 1.
(DEDUCED: log entry 82) -/
def Device.jumpEffects (d : Device) (p : Pound) : Device :=
  let n := d.tow.pound
  let j : Int := (n.toNat : Int) - p.toNat - 1
  let d := d.jumpReject
  let d := forEach (List.range 32) (fun o d => d.alignDisarm o) d
  let d := forEach (List.range 8) (fun k d => (d.cancelHop k).rejudgeSwap k) d
  let d := (forEach (List.range 16) (fun c d => d.rejudgeApply c) d).applyRejudge
  let d : Device := { d with loads := d.loads.filter (fun l => decide (l.t.toNat ≤ p.toNat) || decide (n.toNat ≤ l.t.toNat)) }
  let d := (d.shiftStamps j).put F.TOW_JUMP_J 0 (unsgnSat 32 j)
  (d.event F.TOW_EVT_JUMPED).reportAt 7 0 2 0 (some n)

/-! ## The boundary -/

/-- The boundary that opens pound n: first the wharves that go down, then the commits (or the jump), then every unit. `raw` and `dith`
are by core the sample of the phase monitor and the dither bits of the boundary. (DESIGN CHOICE: log entry 6; DEDUCED: log entry 107) -/
def Device.boundary (d : Device) (n : Pound) (jump : Bool) (raw dith : List Nat) : Device :=
  let p := d.tow.pound
  let d := d.sampleTwins.onTow (fun t => { t with pound := n, ticks := t.ticks + 1, ppsHigh := t.ppsHigh.map (· - 1) })
  let d := ({ d with flt := { d.flt with loggedThisPound := 0 } } : Device).wharvesDue
  let barges := if jump then [] else d.bargesDue
  let d := if jump then d.jumpEffects p else d.commitAll
  let d := ({ d with eng := d.eng.newPound } : Device).refreshBoundary.settleFences.decBoundary
  let d := forEach (List.range 16) (fun c d => d.coreBoundary c (dith.getD c 0) (raw.getD c 0)) d.mbxBoundary
  let d := (d.outputsBoundary.wharvesBoundary barges).sendFrames barges
  ((d.tickOutBoundary n).tickInBoundary).stepSeven

/-- The pound that the next boundary opens when there is no jump: 0 at the first boundary after MPL0 has locked (R218).
(DEDUCED: log entry 81) -/
def Device.nextPound (d : Device) : Pound := if d.tow.ticks = 0 then 0 else d.tow.pound + 1

/-- An alignment may take its coarse step at the next boundary. (DEDUCED: log entry 81) -/
def Device.coarseNow (d : Device) : Bool := d.coarseReady && !d.kpr.restarting && d.tow.ticks != 0
/-- A coarse step may change the count: at start-up, or with ALLOW_JUMP (R223). -/
def Device.mayJump (d : Device) : Bool := d.tow.startUp || d.is F.TOW_REALIGN_ALLOW_JUMP

/-- A page whose events lie in a far clock domain: cores, hopping, the ledger and the engines with their neighbours, Towpath, the TIME
port, quads (R341). (DESIGN CHOICE: log entry 147) -/
def farPage (page : Nat) : Bool :=
  (decide (0x10 ≤ page) && decide (page ≤ 0x20)) || (decide (0x30 ≤ page) && decide (page < 0x34)) || page == 0x38 || page == 0x39
    || (decide (0x40 ≤ page) && decide (page < 0x80))
/-- An event of a page recurred before its crossing had carried the one before it: the RC bit is set once, every occurrence is counted, and
XING_OVR is set (R341). (DESIGN CHOICE: log entry 147) -/
def Device.mergeEvents (d : Device) (pages : List Nat) : Device :=
  forEach (pages.filter (fun p => farPage p && !d.pageClosed p)) (fun p d => d.pageEvent F.PAGE_STAT_XING_OVR p) d

/-- POUND_BOUNDARY: the next boundary in the count. A coarse step that changes nothing is taken with it, one that needs a jump and may not
is refused with it. -/
def Device.poundBoundary (d : Device) (raw dith merged : List Nat) : Device :=
  if d.tow.running then
    let e := (d.mergeEvents merged).boundary d.nextPound false raw dith
    if d.coarseNow then
      match d.coarseTarget with
      | none => e.coarseDone
      | some _ => if d.mayJump then e else e.jumpRefused
    else e
  else d

/-- POUND_JUMP: the boundary at which the coarse step loads the count or jumps. -/
def Device.poundJump (d : Device) (raw dith merged : List Nat) : Device :=
  if d.tow.running && d.coarseNow && d.mayJump then
    match d.coarseTarget with
    | some n => ((d.mergeEvents merged).boundary n true raw dith).coarseDone
    | none => d
  else d

/-! ## Meanings -/

def execPoundBoundary (raw dith : List Nat) (s : State) (merged : List Nat := []) : Host.Outcome State Fault Refusal :=
  .next (s.on (·.poundBoundary raw dith merged))
def execPoundJump (raw dith : List Nat) (s : State) (merged : List Nat := []) : Host.Outcome State Fault Refusal :=
  .next (s.on (·.poundJump raw dith merged))

end Sys2Proof.Machine
end

