-- ==== Sys2Proof/Machine/Dispatch.lean ====
section
/-! DEFINITION. One arm per command: its meaning. -/

namespace Sys2Proof.Machine

def exec (i : Instr) (s : State) : Host.Outcome State Fault Refusal :=
  match i with
  | .powerOnReset => Sys2Proof.Machine.execPowerOnReset s
  | .powerOnResetEnd bootsel => Sys2Proof.Machine.execPowerOnResetEnd bootsel s
  | .warmReset => Sys2Proof.Machine.execWarmReset s
  | .resetNRelease => Sys2Proof.Machine.execResetNRelease s
  | .brownout rail => Sys2Proof.Machine.execBrownout rail s
  | .brownoutRecovered rail => Sys2Proof.Machine.execBrownoutRecovered rail s
  | .railDip rail => Sys2Proof.Machine.execRailDip rail s
  | .overTemp => Sys2Proof.Machine.execOverTemp s
  | .thermalReset => Sys2Proof.Machine.execThermalReset s
  | .thermalRelease => Sys2Proof.Machine.execThermalRelease s
  | .pgLost => Sys2Proof.Machine.execPgLost s
  | .keeperWatchdogExpiry => Sys2Proof.Machine.execKeeperWatchdogExpiry s
  | .patchLoad image found => Sys2Proof.Machine.execPatchLoad image s found
  | .calibrationLoad flash => Sys2Proof.Machine.execCalibrationLoad flash s
  | .refAbsent => Sys2Proof.Machine.execRefAbsent s
  | .mplLock => Sys2Proof.Machine.execMplLock s
  | .mplLockTimeout mpl1 => Sys2Proof.Machine.execMplLockTimeout mpl1 s
  | .followerNoMaster => Sys2Proof.Machine.execFollowerNoMaster s
  | .judgeWindow src count => Sys2Proof.Machine.execJudgeWindow src count s
  | .stopDetect src => Sys2Proof.Machine.execStopDetect src s
  | .refSwitch v => Sys2Proof.Machine.execRefSwitch v s
  | .mpl0Relock => Sys2Proof.Machine.execMpl0Relock s
  | .mpl1Unlock => Sys2Proof.Machine.execMpl1Unlock s
  | .domainSwitch v => Sys2Proof.Machine.execDomainSwitch v s
  | .switchDone dom => Sys2Proof.Machine.execSwitchDone dom s
  | .switchForced dom => Sys2Proof.Machine.execSwitchForced dom s
  | .rampStep dom => Sys2Proof.Machine.execRampStep dom s
  | .domReset v => Sys2Proof.Machine.execDomReset v s
  | .blockClose b busy => Sys2Proof.Machine.execBlockClose b busy s
  | .gateBusAbort b => Sys2Proof.Machine.execGateBusAbort b s
  | .blockShutdownDone b => Sys2Proof.Machine.execBlockShutdownDone b s
  | .blockOpen b => Sys2Proof.Machine.execBlockOpen b s
  | .blockOpenDone b => Sys2Proof.Machine.execBlockOpenDone b s
  | .opRequest v => Sys2Proof.Machine.execOpRequest v s
  | .pgBlankingEnd pg => Sys2Proof.Machine.execPgBlankingEnd s pg
  | .raiseFailed => Sys2Proof.Machine.execRaiseFailed s
  | .auxDivUpdate aux => Sys2Proof.Machine.execAuxDivUpdate aux s
  | .auxSscUpdate aux => Sys2Proof.Machine.execAuxSscUpdate aux s
  | .poundBoundary raw dith merged => Sys2Proof.Machine.execPoundBoundary raw dith s merged
  | .lateReject => Sys2Proof.Machine.execLateReject s
  | .hcqPush g v => Sys2Proof.Machine.execHcqPush g v s
  | .hcqRelease up => Sys2Proof.Machine.execHcqRelease up s
  | .flush v => Sys2Proof.Machine.execFlush v s
  | .ttRelease up => Sys2Proof.Machine.execTtRelease up s
  | .ttEndWrite v => Sys2Proof.Machine.execTtEndWrite v s
  | .kpqSubmit k => Sys2Proof.Machine.execKpqSubmit k s
  | .kpqRelease up => Sys2Proof.Machine.execKpqRelease up s
  | .refreshSubmit => Sys2Proof.Machine.execRefreshSubmit s
  | .nop e up => Sys2Proof.Machine.execNop e up s
  | .setFreq e up => Sys2Proof.Machine.execSetFreq e up s
  | .setFreqPhase e up => Sys2Proof.Machine.execSetFreqPhase e up s
  | .addPhase e up => Sys2Proof.Machine.execAddPhase e up s
  | .bind e up => Sys2Proof.Machine.execBind e up s
  | .release e up => Sys2Proof.Machine.execRelease e up s
  | .emit e up => Sys2Proof.Machine.execEmit e up s
  | .prepHopTwin e up => Sys2Proof.Machine.execPrepHopTwin e up s
  | .prepHopRetune e up => Sys2Proof.Machine.execPrepHopRetune e up s
  | .prepHopPark e up => Sys2Proof.Machine.execPrepHopPark e up s
  | .fence src => Sys2Proof.Machine.execFence src s
  | .fill e up => Sys2Proof.Machine.execFill e up s
  | .steal e ring up => Sys2Proof.Machine.execSteal e ring s up
  | .fenceRelease src => Sys2Proof.Machine.execFenceRelease src s
  | .fenceTimeout src => Sys2Proof.Machine.execFenceTimeout src s
  | .engCntSnap v => Sys2Proof.Machine.execEngCntSnap v s
  | .cntSnapCapture => Sys2Proof.Machine.execCntSnapCapture s
  | .enginesReset => Sys2Proof.Machine.execEnginesReset s
  | .enginesResetDone => Sys2Proof.Machine.execEnginesResetDone s
  | .hcqReset => Sys2Proof.Machine.execHcqReset s
  | .kpqReset => Sys2Proof.Machine.execKpqReset s
  | .coreLoad c inBand => Sys2Proof.Machine.execCoreLoad c inBand s
  | .loopApply c v => Sys2Proof.Machine.execLoopApply c v s
  | .loopApplyTakeEffect c inBand => Sys2Proof.Machine.execLoopApplyTakeEffect c inBand s
  | .bandSearchDone c band fKhz => Sys2Proof.Machine.execBandSearchDone c band fKhz s
  | .lockGained c errs => Sys2Proof.Machine.execLockGained c s errs
  | .lockLost c errs => Sys2Proof.Machine.execLockLost c s errs
  | .reacquireTimeout c => Sys2Proof.Machine.execReacquireTimeout c s
  | .cycleSlip c => Sys2Proof.Machine.execCycleSlip c s
  | .tuneEdge c => Sys2Proof.Machine.execTuneEdge c s
  | .fcntStart c v => Sys2Proof.Machine.execFcntStart c v s
  | .fcntDone c count => Sys2Proof.Machine.execFcntDone c count s
  | .phaseAdj c v => Sys2Proof.Machine.execPhaseAdj c v s
  | .monitorAverage c => Sys2Proof.Machine.execMonitorAverage c s
  | .monitorHoldEnd c => Sys2Proof.Machine.execMonitorHoldEnd c s
  | .realigned c => Sys2Proof.Machine.execRealigned c s
  | .twinEnWrite v => Sys2Proof.Machine.execTwinEnWrite v s
  | .hopBlankEnd c => Sys2Proof.Machine.execHopBlankEnd c s
  | .retuneSlow c => Sys2Proof.Machine.execRetuneSlow c s
  | .hopReady k => Sys2Proof.Machine.execHopReady k s
  | .twinSwitch k => Sys2Proof.Machine.execTwinSwitch k s
  | .deferSwitch k => Sys2Proof.Machine.execDeferSwitch k s
  | .deferTimeout k => Sys2Proof.Machine.execDeferTimeout k s
  | .twinSwap v => Sys2Proof.Machine.execTwinSwap v s
  | .outputSourceSelect n v => Sys2Proof.Machine.execOutputSourceSelect n v s
  | .outputSourceChange n => Sys2Proof.Machine.execOutputSourceChange n s
  | .delayWalk n => Sys2Proof.Machine.execDelayWalk n s
  | .delayWalkDone n => Sys2Proof.Machine.execDelayWalkDone n s
  | .dccLock n => Sys2Proof.Machine.execDccLock n s
  | .alignArm v => Sys2Proof.Machine.execAlignArm v s
  | .alignDisarm v => Sys2Proof.Machine.execAlignDisarm v s
  | .alignStrobe n => Sys2Proof.Machine.execAlignStrobe n s
  | .alignStrobeEnd n => Sys2Proof.Machine.execAlignStrobeEnd n s
  | .berthIndirectRead port => Sys2Proof.Machine.execBerthIndirectRead port s
  | .berthIndirectWrite port v => Sys2Proof.Machine.execBerthIndirectWrite port v s
  | .berthIndWriteCommit => Sys2Proof.Machine.execBerthIndWriteCommit s
  | .laneFrameReceive n sync f reading => Sys2Proof.Machine.execLaneFrameReceive n sync f reading s
  | .deskewRelease h expired => Sys2Proof.Machine.execDeskewRelease h expired s
  | .decisionLookup up => Sys2Proof.Machine.execDecisionLookup up s
  | .listAccept bad => Sys2Proof.Machine.execListAccept bad s
  | .deferredMove up => Sys2Proof.Machine.execDeferredMove s up
  | .actqRelease up => Sys2Proof.Machine.execActqRelease up s
  | .windowAdvance w => Sys2Proof.Machine.execWindowAdvance w s
  | .decClear v => Sys2Proof.Machine.execDecClear v s
  | .decClearDone => Sys2Proof.Machine.execDecClearDone s
  | .decFlush v => Sys2Proof.Machine.execDecFlush v s
  | .decUnitReset => Sys2Proof.Machine.execDecUnitReset s
  | .decLastEvtRead => Sys2Proof.Machine.execDecLastEvtRead s
  | .realign v => Sys2Proof.Machine.execRealign v s
  | .poundJump raw dith merged => Sys2Proof.Machine.execPoundJump raw dith s merged
  | .towAligned => Sys2Proof.Machine.execTowAligned s
  | .towLoadFallback => Sys2Proof.Machine.execTowLoadFallback s
  | .wharfDelayMeasurement h => Sys2Proof.Machine.execWharfDelayMeasurement h s
  | .towWhfResolve v => Sys2Proof.Machine.execTowWhfResolve v s
  | .tickInEdge reading high => Sys2Proof.Machine.execTickInEdge reading high s
  | .tickInLost => Sys2Proof.Machine.execTickInLost s
  | .ppsInEdge reading => Sys2Proof.Machine.execPpsInEdge reading s
  | .ppsInLost => Sys2Proof.Machine.execPpsInLost s
  | .ppsOutPulse => Sys2Proof.Machine.execPpsOutPulse s
  | .ppsOutEnd => Sys2Proof.Machine.execPpsOutEnd s
  | .timeRxFrame frame good f p => Sys2Proof.Machine.execTimeRxFrame frame good f s p
  | .ptpDelayReq f p => Sys2Proof.Machine.execPtpDelayReq f s p
  | .ptpAnnounceTimeout => Sys2Proof.Machine.execPtpAnnounceTimeout s
  | .timeLinkChange up => Sys2Proof.Machine.execTimeLinkChange up s
  | .rxRelease => Sys2Proof.Machine.execRxRelease s
  | .timeTxSend v => Sys2Proof.Machine.execTimeTxSend v s
  | .timeTxDone b f p => Sys2Proof.Machine.execTimeTxDone b f s p
  | .txtsRelease v => Sys2Proof.Machine.execTxtsRelease v s
  | .timeModeChange v => Sys2Proof.Machine.execTimeModeChange v s
  | .laneEnable n v => Sys2Proof.Machine.execLaneEnable n v s
  | .trainingStart n => Sys2Proof.Machine.execTrainingStart n s
  | .acquireDone n inverted => Sys2Proof.Machine.execAcquireDone n inverted s
  | .capsEnter n => Sys2Proof.Machine.execCapsEnter n s
  | .laneJoin n => Sys2Proof.Machine.execLaneJoin n s
  | .trainingDeadline n => Sys2Proof.Machine.execTrainingDeadline n s
  | .quietBackoffEnd n => Sys2Proof.Machine.execQuietBackoffEnd n s
  | .lossOfSignal n back => Sys2Proof.Machine.execLossOfSignal n s back
  | .cdrLockLoss n alignmentOnly back => Sys2Proof.Machine.execCdrLockLoss n alignmentOnly s back
  | .laneRetrain n v => Sys2Proof.Machine.execLaneRetrain n v s
  | .laneFailure n => Sys2Proof.Machine.execLaneFailure n s
  | .laneShed n => Sys2Proof.Machine.execLaneShed n s
  | .creditExchangeStart h xseq => Sys2Proof.Machine.execCreditExchangeStart h xseq s
  | .creditGrant h => Sys2Proof.Machine.execCreditGrant h s
  | .exchFail h => Sys2Proof.Machine.execExchFail h s
  | .wharfDown h => Sys2Proof.Machine.execWharfDown h s
  | .wharfRetrain h => Sys2Proof.Machine.execWharfRetrain h s
  | .wharfReset h => Sys2Proof.Machine.execWharfReset h s
  | .powerStateRequest h v => Sys2Proof.Machine.execPowerStateRequest h v s
  | .standbyEnter h => Sys2Proof.Machine.execStandbyEnter h s
  | .standbyExit h => Sys2Proof.Machine.execStandbyExit h s
  | .deepEnter q => Sys2Proof.Machine.execDeepEnter q s
  | .deepExit q => Sys2Proof.Machine.execDeepExit q s
  | .calStart v => Sys2Proof.Machine.execCalStart v s
  | .calRunDone p => Sys2Proof.Machine.execCalRunDone p s
  | .calPreconditionFail code => Sys2Proof.Machine.execCalPreconditionFail code s
  | .calAbort v => Sys2Proof.Machine.execCalAbort v s
  | .calDiscard v => Sys2Proof.Machine.execCalDiscard v s
  | .calApplyRequest v => Sys2Proof.Machine.execCalApplyRequest v s
  | .calApply => Sys2Proof.Machine.execCalApply s
  | .calStore v => Sys2Proof.Machine.execCalStore v s
  | .calStoreDone r => Sys2Proof.Machine.execCalStoreDone r s
  | .hspWrite command address data stageFree landed => Sys2Proof.Machine.execHspWrite command address data stageFree s landed
  | .hspRead command address busy abandoned landed unstable => Sys2Proof.Machine.execHspRead command address busy abandoned s landed unstable
  | .hspStatus command busy abandoned => Sys2Proof.Machine.execHspStatus command s busy abandoned
  | .resetFormat cycles => Sys2Proof.Machine.execResetFormat s cycles
  | .hspReservedOpcode command rest => Sys2Proof.Machine.execHspReservedOpcode command rest s
  | .hspCut cycles => Sys2Proof.Machine.execHspCut cycles s
  | .nvsPush => Sys2Proof.Machine.execNvsPush s
  | .nvsEntry rx => Sys2Proof.Machine.execNvsEntry rx s
  | .nvsEntryDone => Sys2Proof.Machine.execNvsEntryDone s
  | .nvsPoll rx => Sys2Proof.Machine.execNvsPoll rx s
  | .nvsPollTimeout => Sys2Proof.Machine.execNvsPollTimeout s
  | .nvsResume => Sys2Proof.Machine.execNvsResume s
  | .nvsFlush => Sys2Proof.Machine.execNvsFlush s
  | .hostOwn v => Sys2Proof.Machine.execHostOwn v s
  | .ownGranted => Sys2Proof.Machine.execOwnGranted s
  | .nvsRdataRead => Sys2Proof.Machine.execNvsRdataRead s
  | .nvsWdataWrite v => Sys2Proof.Machine.execNvsWdataWrite v s
  | .registerWrite port addr v => Sys2Proof.Machine.execRegisterWrite port addr v s
  | .rcRead port addr unstable => Sys2Proof.Machine.execRcRead port addr s unstable
  | .aliasWrite port addr v => Sys2Proof.Machine.execAliasWrite port addr v s
  | .guardPairWrite port addr v => Sys2Proof.Machine.execGuardPairWrite port addr v s
  | .guardTimeout port => Sys2Proof.Machine.execGuardTimeout port s
  | .cfgUnlock port v => Sys2Proof.Machine.execCfgUnlock port v s
  | .unlockExpiry port => Sys2Proof.Machine.execUnlockExpiry port s
  | .indirectAddrWrite port page v => Sys2Proof.Machine.execIndirectAddrWrite port page v s
  | .indirectDataWrite port page v => Sys2Proof.Machine.execIndirectDataWrite port page v s
  | .indirectDataRead port page => Sys2Proof.Machine.execIndirectDataRead port page s
  | .xingTimeout port addr write => Sys2Proof.Machine.execXingTimeout port addr write s
  | .cfgScan => Sys2Proof.Machine.execCfgScan s
  | .cfgScanDone uncorr => Sys2Proof.Machine.execCfgScanDone s uncorr
  | .commitRequest => Sys2Proof.Machine.execCommitRequest s
  | .cfgCrcRefWrite v => Sys2Proof.Machine.execCfgCrcRefWrite v s
  | .coreSettings index => Sys2Proof.Machine.execCoreSettings index s
  | .corePhase index => Sys2Proof.Machine.execCorePhase index s
  | .mbxCaptureDone f => Sys2Proof.Machine.execMbxCaptureDone f s
  | .mbxCaptureTimeout => Sys2Proof.Machine.execMbxCaptureTimeout s
  | .time index => Sys2Proof.Machine.execTime index s
  | .pps index => Sys2Proof.Machine.execPps index s
  | .parent index => Sys2Proof.Machine.execParent index s
  | .mbxUnknownObject v => Sys2Proof.Machine.execMbxUnknownObject v s
  | .version => Sys2Proof.Machine.execVersion s
  | .continueStart => Sys2Proof.Machine.execContinue s
  | .trainWharf => Sys2Proof.Machine.execTrainWharf s
  | .emitWharf => Sys2Proof.Machine.execEmitWharf s
  | .ptpRestart => Sys2Proof.Machine.execPtpRestart s
  | .faultReport f => Sys2Proof.Machine.execFaultReport f s
  | .fltClear v => Sys2Proof.Machine.execFltClear v s
  | .clearAll v => Sys2Proof.Machine.execClearAll v s
  | .fltLogTailWrite v => Sys2Proof.Machine.execFltLogTailWrite v s
  | .keeperResume image => Sys2Proof.Machine.execKeeperResume image s
  | .domResetDone dom => Sys2Proof.Machine.execDomResetDone dom s
  | .testmodeChange level => Sys2Proof.Machine.execTestmodeChange level s
  | .sensorUpdate celsius => Sys2Proof.Machine.execSensorUpdate celsius s

end Sys2Proof.Machine
end

