-- ==== Sys2Proof/Safety.lean ====
section
/-! DEFINITION. What counts as a safe step, what a command leaves alone, and the invariants that the spec gives the whole device, in
the terms claims use. -/

namespace Sys2Proof.Machine

/-- The step answers a next state. -/
def State.Runs (s : State) : Prop := ∃ t, step s = .next t

/-- No reset is in force: the units of the device run (R44, R46). -/
abbrev State.Running (s : State) : Prop := s.dev.boot.inReset = false

/-- The parts of the device besides its register fields. -/
inductive Part where
  | epoch | freeCtr | boot | clk | flt | cores | twins | outputs | bandMap | bandEpoch | loads | ledger | eng | dec | whf | tow | tpt
  | cal | hsp | nvs | bus | mbx | kpr
  deriving DecidableEq, Repr

/-- A part of the device is the same in b as in a. -/
def Device.SamePart (a b : Device) : Part → Prop
  | .epoch => b.epoch = a.epoch
  | .freeCtr => b.freeCtr = a.freeCtr
  | .boot => b.boot = a.boot
  | .clk => b.clk = a.clk
  | .flt => b.flt = a.flt
  | .cores => b.cores = a.cores
  | .twins => b.twins = a.twins
  | .outputs => b.outputs = a.outputs
  | .bandMap => b.bandMap = a.bandMap
  | .bandEpoch => b.bandEpoch = a.bandEpoch
  | .loads => b.loads = a.loads
  | .ledger => b.ledger = a.ledger
  | .eng => b.eng = a.eng
  | .dec => b.dec = a.dec
  | .whf => b.whf = a.whf
  | .tow => b.tow = a.tow
  | .tpt => b.tpt = a.tpt
  | .cal => b.cal = a.cal
  | .hsp => b.hsp = a.hsp
  | .nvs => b.nvs = a.nvs
  | .bus => b.bus = a.bus
  | .mbx => b.mbx = a.mbx
  | .kpr => b.kpr = a.kpr

/-- Every part but those of l is the same in b as in a. -/
def Device.KeepsParts (l : List Part) (a b : Device) : Prop := ∀ p, p ∉ l → a.SamePart b p

/-- Every register field but the listed ones is the same in b as in a. -/
def Device.KeepsRegs (l : List Nat) (a b : Device) : Prop := ∀ k, k ∉ l → Store.get? b.fields k = Store.get? a.fields k

/-- The page on which the register of a key of the register store lies. -/
def pageOfKey (k : Nat) : Nat := k / 32 % 0x1000000 / 0x1000

/-- Every register field that lies on no page of l is the same in b as in a. -/
def Device.KeepsPages (l : List Nat) (a b : Device) : Prop :=
  ∀ k, pageOfKey k ∉ l → Store.get? b.fields k = Store.get? a.fields k

/-- Command i completes in state s: it answers a next state in which `post` holds, and which differs from s at most in the parts
`parts` and in the register fields with the keys `regs`. The waiting commands stay as they are. -/
def Does (i : Instr) (s : State) (parts : List Part) (regs : List Nat) (post : Device → Prop) : Prop :=
  ∃ t, exec i s = .next t ∧ t.pending = s.pending ∧ s.dev.KeepsParts parts t.dev ∧ s.dev.KeepsRegs regs t.dev ∧ post t.dev

/-- Command i completes in state s: as Does, for a command that changes many register fields, all on the pages `pages`. -/
def DoesWide (i : Instr) (s : State) (parts : List Part) (pages : List Nat) (post : Device → Prop) : Prop :=
  ∃ t, exec i s = .next t ∧ t.pending = s.pending ∧ s.dev.KeepsParts parts t.dev ∧ s.dev.KeepsPages pages t.dev ∧ post t.dev

/-- Command i completes in state s: it answers a next state in which `post` holds; the waiting commands stay as they are. -/
def Answers (i : Instr) (s : State) (post : Device → Prop) : Prop :=
  ∃ t, exec i s = .next t ∧ t.pending = s.pending ∧ post t.dev

/-- The keys of an event bit: its field and the IRQ_STAT summary of its page (R324). -/
def evKeys (f : Fld) (i : Nat := 0) : List Nat := [f.key i, F.IRQ_STAT_EVT.key (f.page i)]

/-- MPL0 is out of holdover, and locked or without an input to change to (R66, R68). -/
abbrev Device.RefRests (d : Device) : Prop := d.mpl0Hold = false ∧ (d.mpl0Lock = true ∨ d.holdoverInput = none)

/-- In service, with no operating point held, no change of REF due and no domain to return to MPL1: a command on a clock or a supply sets
nothing else going (R48, R68, R69, R75). -/
abbrev Device.Settled (d : Device) : Prop := d.step = 9 ∧ d.clk.opHeld = none ∧ d.RefRests ∧ d.clk.fell = []

/-- No access of a port waits for its clock, and no READ frame of the host port is in progress (R305, R320, R339). -/
abbrev Device.PortsIdle (d : Device) : Prop := d.bus.held = [] ∧ d.hsp.reading = none

/-- The state after command i; s itself where i does not answer a next state. -/
def State.after (i : Instr) (s : State) : State :=
  match exec i s with
  | .next t => t
  | _ => s

/-- The register fields that a lost report changes (R347). -/
def reportKeys : List Nat := F.FLT_LOST_CNT_LOST.key 0 :: evKeys F.FLT_EVT_LOST

/-- From a to b one report has been made: it is the last of the report queue, or with 256 waiting it is lost and counted (R347). `at?` is
the pound the report carries where a rule fixes it (R348). -/
abbrev Device.Reported (a b : Device) (cls src code reporter : Nat) (at? : Option Pound := none) : Prop :=
  if a.flt.queue.length < 256 then
    b.flt = { a.flt with queue := a.flt.queue ++ [{ cls, src, code, reporter, at? }] } ∧
      b.get F.FLT_LOST_CNT_LOST = a.get F.FLT_LOST_CNT_LOST
  else
    b.flt = a.flt ∧ b.get F.FLT_LOST_CNT_LOST = (a.get F.FLT_LOST_CNT_LOST + 1) % 2 ^ F.FLT_LOST_CNT_LOST.width ∧
      b.get F.FLT_EVT_LOST = 1

/-- From a to b event e has been discarded for reason r: counted, captured where the capture was free, and reported where R207 marks the
reason with a record (R207, R209). -/
abbrev Device.Discarded (a b : Device) (e : DecEvent) (r : Nat) : Prop :=
  b.get F.DEC_CNT_COUNT r = (a.get F.DEC_CNT_COUNT r + 1) % 2 ^ 32 ∧ b.dec.frozen = true ∧
    (if a.dec.frozen then
      b.get F.DEC_LAST_EVT0_EVENT = a.get F.DEC_LAST_EVT0_EVENT ∧ b.get F.DEC_LAST_EVT1_EVENT = a.get F.DEC_LAST_EVT1_EVENT ∧
        b.get F.DEC_LAST_EVT2_EVENT = a.get F.DEC_LAST_EVT2_EVENT ∧ b.get F.DEC_LAST_EVT3_EVENT = a.get F.DEC_LAST_EVT3_EVENT ∧
        b.get F.DEC_LAST_EVT3_WHARF = a.get F.DEC_LAST_EVT3_WHARF ∧ b.get F.DEC_LAST_EVT3_REASON = a.get F.DEC_LAST_EVT3_REASON
    else
      b.get F.DEC_LAST_EVT0_EVENT = e.bits 31 0 ∧ b.get F.DEC_LAST_EVT1_EVENT = e.bits 63 32 ∧
        b.get F.DEC_LAST_EVT2_EVENT = e.bits 95 64 ∧ b.get F.DEC_LAST_EVT3_EVENT = e.bits 111 96 ∧
        b.get F.DEC_LAST_EVT3_WHARF = e.wharf % 2 ^ 8 ∧ b.get F.DEC_LAST_EVT3_REASON = r % 2 ^ 4 ∧ b.get F.DEC_EVT_LAST_CAPTURED = 1) ∧
    (if reasonRecorded r then b.get F.DEC_EVT_BAD_EVENT = 1 ∧ a.Reported b 6 (a.sourceOf e) r e.wharf
    else b.flt = a.flt ∧ b.get F.FLT_LOST_CNT_LOST = a.get F.FLT_LOST_CNT_LOST)

/-- The effect record of command c with a code, the GEN it shows and its pound, each field at the place R167 gives it: CODE, SOURCE, OP,
REFRESH, BERTH and GEN (zero for NOP and FENCE), SEQ, EFF_POUND, TARGET (for FILL and FENCE the pound of acceptance). -/
def effectWord (c : Cmd) (code : Code) (gen : BitVec 16) (p : Pound) : BitVec 128 :=
  let op := cmdOp c.w1
  let plain := op = 0 ∨ op = 8
  BitVec.ofNat 128 (code % 256 * 2 ^ 120 + c.src.val * 2 ^ 118 + op * 2 ^ 114 + (if c.refresh then 2 ^ 112 else 0) +
    (if plain then 0 else cmdBerth c.w1 * 2 ^ 95 + gen.toNat * 2 ^ 72) + c.seq.toNat * 2 ^ 56 + p.toNat % 2 ^ 24 * 2 ^ 32 +
    (if op = 8 ∨ op = 9 then c.acc.toNat else c.t.toNat) % 2 ^ 32)

/-- LOG_MODE lets a record of a command into the effect log (R169). -/
def Device.logTakes (d : Device) (c : Cmd) (code : Code) : Bool :=
  match d.get F.LDG_LOG_CFG_LOG_MODE with
  | 0 => code != 0
  | 2 => false
  | _ => code != 0 || !c.refresh

/-- From a to b one command has yielded its effect record (R167): LOG_MODE leaves it out; or it finds the ring full, or 64 records taken in
this pound, is dropped and counted in FLT_LOG_LOST_CNT with LOG_LOST set; or it stands in the ring where HEAD pointed, HEAD has advanced, and
LOG_HIGH is set when the level has reached HIGH (R169, R352). -/
abbrev Device.Logged (a b : Device) (c : Cmd) (code : Code) (gen : BitVec 16) : Prop :=
  let head := a.get F.FLT_LOG_HEAD_HEAD
  let level := (head + 4096 - a.get F.FLT_LOG_TAIL_TAIL) % 4096
  if a.logTakes c code = false then
    b.flt.log = a.flt.log ∧ b.get F.FLT_LOG_HEAD_HEAD = head ∧ b.get F.FLT_LOG_LOST_CNT_LOST = a.get F.FLT_LOG_LOST_CNT_LOST
  else if level = 4095 ∨ 64 ≤ a.flt.loggedThisPound then
    b.flt.log = a.flt.log ∧ b.get F.FLT_LOG_HEAD_HEAD = head ∧ b.get F.FLT_EVT_LOG_LOST = 1 ∧
      b.get F.FLT_LOG_LOST_CNT_LOST = (a.get F.FLT_LOG_LOST_CNT_LOST + 1) % 2 ^ F.FLT_LOG_LOST_CNT_LOST.width
  else
    b.flt.log = Store.set a.flt.log head (effectWord c code gen a.tow.pound) ∧ b.get F.FLT_LOG_HEAD_HEAD = (head + 1) % 4096 ∧
      b.flt.loggedThisPound = a.flt.loggedThisPound + 1 ∧ b.get F.FLT_LOG_LOST_CNT_LOST = a.get F.FLT_LOG_LOST_CNT_LOST ∧
      (level < a.get F.FLT_LOG_CFG_HIGH → a.get F.FLT_LOG_CFG_HIGH ≤ b.logLevel → b.get F.FLT_EVT_LOG_HIGH = 1)

/-- The register fields that an effect record changes (R352). -/
def logKeys : List Nat :=
  [F.FLT_LOG_HEAD_HEAD.key 0, F.FLT_LOG_LOST_CNT_LOST.key 0] ++ evKeys F.FLT_EVT_LOG_LOST ++ evKeys F.FLT_EVT_LOG_HIGH

/-- The register fields that a discard of an event for reason r changes. -/
def discardKeys (r : Nat) : List Nat :=
  [F.DEC_CNT_COUNT.key r, F.DEC_LAST_EVT0_EVENT.key 0, F.DEC_LAST_EVT1_EVENT.key 0, F.DEC_LAST_EVT2_EVENT.key 0,
    F.DEC_LAST_EVT3_EVENT.key 0, F.DEC_LAST_EVT3_WHARF.key 0, F.DEC_LAST_EVT3_REASON.key 0, F.DEC_EVT_LAST_CAPTURED.key 0,
    F.DEC_EVT_BAD_EVENT.key 0, F.IRQ_STAT_EVT.key 0x33] ++ reportKeys

/-- Command i does not occur in state s: nothing changes. -/
def Idles (i : Instr) (s : State) : Prop := exec i s = .next s

/-! ## Invariants -/

/-- The command counters of a source balance (R25): every accepted command is applied, rejected, pending or discarded, mod 2^32. -/
def Counts.Balanced (c : Counts) : Prop := c.accepted = c.applied + c.rejected + c.pending + c.discarded

/-- R25 for all four sources. -/
def Device.CountsBalance (d : Device) : Prop := ∀ src : Fin 4, (d.eng.counts src).Balanced

/-- The register file and the Berth memory are in canonical form: keys rise strictly, so that equal contents are equal data. -/
def Device.StoresCanonical (d : Device) : Prop := Store.wf d.fields = true ∧ Store.wf d.ledger.cells = true

/-- The Berths whose lease is held: those of executed uncommitted commands and of stolen commands in hand (R23). -/
def Device.leaseHolders (d : Device) : List Nat :=
  d.eng.flights.map (·.berth) ++ d.eng.engine.flatMap (fun e => (e.2.hand.toList).map (fun c => cmdBerth c.w1))

/-- The commands that are accepted and not yet executed: in slices and in engines' hands, and in the queues (R14, R194). -/
def Device.waitingCmds (d : Device) : List Cmd :=
  (List.range 64).flatMap (fun e => (d.engine e).slice ++ (d.engine e).hand.toList) ++ d.eng.hcq ++ d.dec.actq ++ d.dec.deferred ++
    d.eng.kpq

/-- How many commands of a list are of source k, as a counter counts them. -/
def ofSource (k : Fin 4) (l : List Cmd) : Word := BitVec.ofNat 32 (l.filter (fun c => c.src == k)).length

/-- The rows of the commands that an engine executes from its slice or its hand: the engine and the upsets it meets (R156). -/
def engineRow : Instr → Option (Fin 64 × Upset)
  | .nop e up | .setFreq e up | .setFreqPhase e up | .addPhase e up | .bind e up | .release e up | .emit e up
  | .prepHopTwin e up | .prepHopRetune e up | .prepHopPark e up => some (e, up)
  | _ => none

/-- The command words that such a row names. -/
def rowTakes : Instr → BitVec 128 → Bool
  | .nop _ _, w => cmdOp w == 0
  | .setFreq _ _, w => cmdOp w == 1
  | .setFreqPhase _ _, w => cmdOp w == 2
  | .addPhase _ _, w => cmdOp w == 3
  | .bind _ _, w => cmdOp w == 4
  | .release _ _, w => cmdOp w == 5
  | .emit _ _, w => cmdOp w == 6
  | .prepHopTwin _ _, w => cmdOp w == 7 && cmdHopKind w == 0
  | .prepHopRetune _ _, w => cmdOp w == 7 && cmdHopKind w == 1
  | .prepHopPark _ _, w => cmdOp w == 7 && cmdHopKind w == 2
  | _, _ => false

/-- No Berth's lease has two holders (R23). -/
def Device.LeasesUnique (d : Device) : Prop := d.leaseHolders.Nodup

/-! ## Registers by address -/

/-- The register at an address and which copy of it. Where there is none it is FLT_LOG_CFG: a statement asks first that there is one. -/
def Device.regFor (d : Device) (addr : Nat) : Reg × Nat := (d.regAt addr).getD (R.FLT_LOG_CFG, 0)

/-- The bit that an alias address stands for, in the register aliasTarget names (R326). -/
def aliasBit (addr : Nat) : Nat := (addr % 0x1000 - 0x800) % 128 / 4
/-- The register whose bit an alias address stands for. -/
def aliasTarget (addr : Nat) : Nat := addr / 0x1000 * 0x1000 + 0x40 + 4 * ((addr % 0x1000 - 0x800) / 128)
/-- The access type of the bit that an alias address stands for; none where the register defines no such bit. -/
def Device.aliasAcc (d : Device) (addr : Nat) : Option Acc :=
  ((d.regFor (aliasTarget addr)).1.fields.find? (fun f => decide (f.lo ≤ aliasBit addr) && decide (aliasBit addr ≤ f.hi))).map (·.acc)

/-- What field f reads after a write of the word v to its register where no rule gives the write another effect (R3): a read-only field
and an event bit keep what they held, a self-clearing field takes a value other than 0, every other field takes its bits. -/
def fieldAfter (f : Fld) (held v : Nat) : Nat :=
  match f.acc with
  | .ro => held
  | .rc => held
  | .wsc => if bits v f.hi f.lo = 0 then held else bits v f.hi f.lo % 2 ^ f.width
  | _ => bits v f.hi f.lo % 2 ^ f.width

/-- An event bit: a read clears it (R3). -/
def isEvent (f : Fld) : Bool := f.acc == .rc

/-! ## Kinds of commands -/

/-- The commands that act while a reset is in force: resets, supplies, PG_IN, the sensor and the test pin (R32, R39, R43, R44, R45). -/
def actsInReset : Instr → Bool
  | .powerOnReset | .powerOnResetEnd _ | .warmReset | .resetNRelease | .brownout _ | .brownoutRecovered _ | .railDip _ | .overTemp
  | .thermalReset | .thermalRelease | .sensorUpdate _ | .testmodeChange _ | .pgLost | .pgBlankingEnd _ => true
  | _ => false

end Sys2Proof.Machine
end

