-- ==== Sys2Proof/Certificates/Slice0/Obligations.lean ====
section
/-! DEFINITION. The statements for the provers. `Does i s parts regs post`: command i completes in s, post holds of the device after,
and nothing else changed but the listed parts and register fields. -/

open Sys2Proof Sys2Proof.Machine

/-- For every command and every state, a step of the state with that command at the front of its queue is that command executed
  on the state with the rest of the queue; a step of a state whose queue is empty leaves it as it is (the model's choice,
  log entries 1 and 2). Choices of the model on which this rests: log entries 1 and 2. -/
def Obligations.StepRunsTheFrontCommand : Prop :=
  (∀ (c : Instr) (rest : List Instr) (s : State),
      step { s with pending := c :: rest } = exec c { s with pending := rest }) ∧
    (∀ s : State, s.pending = [] → step s = .next s)

/-- Every command answers a next state in every state, and leaves the commands that wait as they are. Choices of the model on
  which this rests: log entries 1 and 8. -/
def Obligations.QueueUntouched : Prop :=
  ∀ (i : Instr) (s : State), ∃ t : State, exec i s = .next t ∧ t.pending = s.pending

/-- In a state with a warm or power-on reset in force a command other than those of resets, supplies, PG_IN,
  the temperature sensor and the test pin changes nothing. Choices of the model on which this rests: log entries 5 and 24. -/
def Obligations.ResetHolds : Prop :=
  ∀ (i : Instr) (s : State), s.dev.boot.inReset = true → actsInReset i = false → exec i s = .next s

/-- After reset nothing waits, power-on reset is in force, every register field reads its Reset value, no memory,
  queue or engine holds anything, and the invariants of the other statements hold. The values 0 of ENG_HCQ_WIN and NVS_WDATA,
  whose Reset column gives none, are the model's choice (log entry 3). Choices of the model on which this rests: log entries 3,
  4, 5, 10, 11, 18 and 138. -/
def Obligations.ResetState : Prop :=
  State.reset.pending = [] ∧ State.reset.dev.boot.inReset = true ∧ State.reset.dev.boot.powerOn = true ∧
    (∀ (f : Fld) (i : Nat), State.reset.dev.get f i = f.reset i) ∧
    State.reset.dev.ledger.cells = [] ∧ State.reset.dev.flt.records = [] ∧ State.reset.dev.flt.queue = [] ∧
    State.reset.dev.eng.hcq = [] ∧ State.reset.dev.eng.flights = [] ∧ State.reset.dev.dec.evq = [] ∧
    State.reset.dev.tow.pound = 0 ∧ State.reset.dev.CountsBalance ∧ State.reset.dev.LeasesUnique ∧
    State.reset.dev.StoresCanonical

/-- R25: for every source accepted = applied + rejected + pending + discarded; every step keeps it,
  from every state in which it holds. Choices of the model on which this rests: log entries 1, 8, 70, 71 and 72. -/
def Obligations.CountsBalanceKept : Prop :=
  ∀ s t : State, s.dev.CountsBalance → step s = .next t → t.dev.CountsBalance

/-- R23: the lease of a Berth is free or held by exactly one engine: no Berth occurs twice among the executed uncommitted
  commands and the stolen commands in hand. Every step keeps it, from every state in which it holds. Choices of the model on
  which this rests: log entries 1, 8 and 132. -/
def Obligations.LeasesUniqueKept : Prop :=
  ∀ s t : State, s.dev.LeasesUnique → step s = .next t → t.dev.LeasesUnique

/-- The register file and the Berth memory keep their canonical form, strictly rising keys, through every step,
  so that equal contents are equal data. Choices of the model on which this rests: log entries 1, 8, 10 and 11. -/
def Obligations.StoresCanonicalKept : Prop :=
  ∀ s t : State, s.dev.StoresCanonical → step s = .next t → t.dev.StoresCanonical

/-- The pound counter starts at 0 at the first boundary after MPL0 locks, increases by one at each boundary,
  and changes in no other way except by a jump at the coarse step of an alignment and by a reset: it becomes 0 with a reset of
  the device or, by the reading of log entry 43, of the TOW domain, which is then in force. Holdover, steering,
  relock and a lost source never change it. Choices of the model on which this rests: log entries 5, 8, 43 and 81. -/
def Obligations.PoundCounter : Prop :=
  (∀ (i : Instr) (s t : State), exec i s = .next t → t.dev.tow.pound ≠ s.dev.tow.pound →
      (∃ raw dith merged, i = .poundBoundary raw dith merged ∧ s.dev.tow.running = true ∧
        t.dev.tow.pound = if s.dev.tow.ticks = 0 then 0 else s.dev.tow.pound + 1) ∨
      (∃ raw dith merged, i = .poundJump raw dith merged ∧ s.dev.coarseNow = true ∧ s.dev.mayJump = true ∧
        s.dev.coarseTarget = some t.dev.tow.pound) ∨
      (t.dev.tow.pound = 0 ∧ (t.dev.boot.inReset = true ∨ 151 ∈ t.dev.clk.resetting))) ∧
    (∀ (raw dith merged : List Nat) (s : State), s.Running → s.dev.tow.running = true → s.dev.atStep 6 = false →
      s.dev.atStep 7 = false →
      Answers (.poundBoundary raw dith merged) s
        (fun d => d.tow.pound = if s.dev.tow.ticks = 0 then 0 else s.dev.tow.pound + 1)) ∧
    (∀ s : State, s.dev.boot.powerOn = false → s.Running →
      Answers .warmReset s (fun d => d.tow.pound = 0 ∧ d.tow.ticks = 0 ∧ d.tow.running = false)) ∧
    (∀ s : State, s.Running → s.dev.atStep 4 = true → s.dev.ready s.dev.activeXi = true → s.dev.boot.entries = [] →
      Answers .mplLock s (fun d => d.tow.running = true ∧ d.tow.pound = s.dev.tow.pound ∧ d.tow.ticks = s.dev.tow.ticks))

/-- A Berth entry is 256 data bits with A, PHI_A, F, CHANNEL, STATE, BINDING,
  FLAGS and GEN at the places of the table; an entry that the device makes names the channel of its Berth id; packing and
  unpacking are inverse, so no bit of an entry is dropped. -/
def Obligations.EntryLayout : Prop :=
  (∀ e : Entry, bits e.pack.toNat 255 192 = e.a.toNat ∧ bits e.pack.toNat 191 128 = e.phi.toNat ∧
      bits e.pack.toNat 127 56 = e.f.toNat ∧ bits e.pack.toNat 55 44 = e.channel.toNat ∧
        bits e.pack.toNat 43 40 = e.state.toNat ∧
      bits e.pack.toNat 39 32 = e.binding.toNat ∧ bits e.pack.toNat 31 16 = e.flags.toNat ∧
        bits e.pack.toNat 15 0 = e.gen.toNat) ∧
    (∀ e : Entry, Entry.unpack e.pack = e) ∧ (∀ b : BitVec 256, (Entry.unpack b).pack = b) ∧
    (∀ (id : Nat) (p : Pound), id < 131072 → bits (Entry.fresh id p).pack.toNat 55 44 = id / 32)

/-- Berth c * 32 + i lies in bank (c + i) mod 32, the frames of one channel in 32 banks,
  and frame i of 32 consecutive channels in 32 banks; F48 is F div 2^24 and PH32 the phase rounded half up to 32 bits; a source
  has passed fence n when its VALID is set and PASSED - n mod 2^16 is below 2^15. -/
def Obligations.BanksBargesAndFences : Prop :=
  (∀ c i : Nat, i < 32 → bankOf (c * 32 + i) = (c + i) % 32 ∧ (c * 32 + i) / 32 = c) ∧
    (∀ c i j : Nat, i < 32 → j < 32 → bankOf (c * 32 + i) = bankOf (c * 32 + j) → i = j) ∧
    (∀ i c b k : Nat, i < 32 → b < 32 → k < 32 → bankOf ((c + b) * 32 + i) = bankOf ((c + k) * 32 + i) → b = k) ∧
    bankOf 9605 = 17 ∧
    (∀ f : Freq, (f48 f).toNat = f.toNat / 2 ^ 24) ∧
    (∀ p : Phase, (ph32 p).toNat = (p.toNat + 2 ^ 31) / 2 ^ 32 % 2 ^ 32) ∧
    (∀ (d : Device) (s n : Nat), d.hasPassed s n = true ↔
      bit (d.get F.ENG_FENCE_FLAGS_VALID) s = true ∧ ((d.get F.ENG_FENCE_STAT_PASSED s : Int) - n) % 2 ^ 16 < 2 ^ 15)

/-- POWER_ON_RESET gives every register field its Reset value and every part of the device its content after reset,
  with every memory arbitrary anew; the levels of RESET_N, TESTMODE and PG_IN stay. POWER_ON_RESET_END with RESET_N and PG_IN
  high samples BOOTSEL and ends the reset with STEP 1, and changes nothing else; with a rail still in brown-out or the thermal
  hold in force the warm reset goes on; with RESET_N or PG_IN low nothing happens. Choices of the model on which this rests:
  log entries 5, 11, 24, 126 and 152. -/
def Obligations.PowerOnAndItsEnd : Prop :=
  (∀ (s : State),
      Answers .powerOnReset s (fun d => d.fields = (({} : Device).putB F.SYS_RAIL_STAT_PG_IN 0 (s.dev.is
        F.SYS_RAIL_STAT_PG_IN)).fields ∧ (∀ (f : Fld) (i : Nat), f.key i ≠ F.SYS_RAIL_STAT_PG_IN.key 0 →
        d.get f i = f.reset i) ∧ d.is F.SYS_RAIL_STAT_PG_IN = s.dev.is F.SYS_RAIL_STAT_PG_IN ∧
        (∀ p, p ∉ [Part.epoch, .freeCtr, .boot, .bandEpoch, .ledger, .eng, .dec, .cal] → State.reset.dev.SamePart d p) ∧
        d.boot = ({ pinLow := s.dev.boot.pinLow, testmode := s.dev.boot.testmode } : Boot) ∧
        d.ledger = ({ epoch := s.dev.ledger.epoch + 1 } : Ledger) ∧ d.eng = ({ ttEpoch := s.dev.eng.ttEpoch + 1 } : Engines) ∧
        d.dec = ({ epoch := s.dev.dec.epoch + 1 } : Decisions) ∧ d.cal =
        ({ inForce := { base := .lost (2 * s.dev.epoch + 2) }, pend := { base := .lost (2 * s.dev.epoch + 3) } } : Cal) ∧
        d.epoch = s.dev.epoch + 1 ∧ d.bandEpoch = s.dev.bandEpoch + 1 ∧ d.freeCtr = s.dev.freeCtr)) ∧
    (∀ (s : State) (b : BitVec 2),
      s.dev.boot.inReset = true →
      s.dev.boot.powerOn = true →
      s.dev.boot.pinLow = false →
      s.dev.is F.SYS_RAIL_STAT_PG_IN = true →
      s.dev.boot.rails = [] →
      s.dev.boot.thermal = false →
      Does (.powerOnResetEnd b) s [.boot] ([F.SYS_BOOT_STAT_STEP.key 0])
        (fun d => d.boot = { s.dev.boot with inReset := false, powerOn := false, bootsel := b.toNat, ms := 0 } ∧
          d.get F.SYS_BOOT_STAT_STEP = 1)) ∧
    (∀ (s : State) (b : BitVec 2),
      s.dev.boot.inReset = true →
      s.dev.boot.powerOn = true →
      s.dev.boot.pinLow = false →
      s.dev.is F.SYS_RAIL_STAT_PG_IN = true →
      (s.dev.boot.rails ≠ [] ∨ s.dev.boot.thermal = true) →
      Does (.powerOnResetEnd b) s [.boot] ([])
        (fun d => d.boot = { s.dev.boot with powerOn := false, bootsel := b.toNat })) ∧
    (∀ (s : State) (b : BitVec 2),
      (s.dev.boot.pinLow = true ∨ s.dev.is F.SYS_RAIL_STAT_PG_IN = false) →
      Idles (.powerOnResetEnd b) s)

/-- From a running device an honoured RESET_N, a brown-out and an overheated junction begin a warm reset with its cause in
  SYS_RESET_CAUSE: the registers of the AON unit keep their values but for those of the sequencer state and the cause,
  every other register field takes its Reset value, the Berth entries stay (a brown-out of VDD_SRAM loses them and sets
  SRAM_LOST), the in-force calibration image and the patch RAM stay,
  the words of fault records and of the effect log stay with no record valid,
  the timetable and the memories of the decision unit are arbitrary anew,
  and every other part of the device is as after reset: no command is held in a queue, a slice or a hand, no load, event,
  deferred command, report or request waits, no core, twin, output, lane,
  wharf or Towpath state is left. In a warm reset the cause is added and nothing else changes; in power-on reset only the cause
  itself is held. The reset ends, with STEP 1, when its last cause is gone. Choices of the model on which this rests: log
  entries 5, 8, 22, 23, 35, 126 and 152. -/
def Obligations.WarmResetPinAndSupply : Prop :=
  (∀ (s : State),
      s.Running →
      s.dev.boot.powerOn = false →
      Answers .warmReset s (fun d => d.get F.SYS_RESET_CAUSE_WARM = 1 ∧
        (∀ k, keepsWarm k = true → R.PWR_OP_STAT.holds k = false → k ∉ [F.SYS_RESET_CAUSE_WARM.key 0] →
        Store.get? d.fields k = Store.get? s.dev.fields k) ∧ d.boot =
        ({ inReset := true, powerOn := false, bootsel := s.dev.boot.bootsel, testmode := s.dev.boot.testmode, warm := true, pinLow := true, rails := s.dev.boot.rails, thermal := s.dev.boot.thermal }
        : Boot) ∧ d.ledger = ({ cells := s.dev.ledger.cells, epoch := s.dev.ledger.epoch } : Ledger) ∧
        d.cal = ({ inForce := s.dev.cal.inForce, pend := {} } : Cal) ∧
        d.eng = ({ ttEpoch := s.dev.eng.ttEpoch + 1 } : Engines) ∧
        d.dec = ({ epoch := s.dev.dec.epoch + 1, unseen := true } : Decisions) ∧
        d.kpr = ({ patch := s.dev.kpr.patch } : Keeper) ∧ (d.flt =
        ({ records := s.dev.flt.records.map (fun (e : Nat × FaultRec) => (e.1, { e.2 with valid := false })), log := s.dev.flt.log }
        : FaultUnit)) ∧ d.clk = ({ blank := s.dev.clk.blank || s.dev.get F.PWR_OP_STAT_VID != 0x28 } : Clocks) ∧
        d.bandEpoch = s.dev.bandEpoch + 1 ∧ d.epoch = s.dev.epoch ∧ d.freeCtr = s.dev.freeCtr ∧
        (∀ p, p ∉ [Part.epoch, .freeCtr, .boot, .clk, .flt, .bandEpoch, .ledger, .eng, .dec, .cal, .kpr] →
        State.reset.dev.SamePart d p) ∧ (∀ k, keepsWarm k = false → Store.get? d.fields k = none))) ∧
    (∀ (s : State),
      s.dev.boot.powerOn = false →
      s.dev.boot.inReset = true →
      Does .warmReset s [.boot] ([F.SYS_RESET_CAUSE_WARM.key 0])
        (fun d => d.boot = { s.dev.boot with pinLow := true } ∧ d.get F.SYS_RESET_CAUSE_WARM = 1)) ∧
    (∀ (s : State),
      s.dev.boot.powerOn = true →
      Does .warmReset s [.boot] ([])
        (fun d => d.boot = { s.dev.boot with pinLow := true })) ∧
    (∀ (s : State),
      s.dev.boot.inReset = true →
      s.dev.boot.powerOn = false →
      s.dev.boot.rails = [] →
      s.dev.boot.thermal = false →
      Does .resetNRelease s [.boot] ([F.SYS_BOOT_STAT_STEP.key 0])
        (fun d => d.boot = { s.dev.boot with inReset := false, pinLow := false, ms := 0 } ∧ d.get F.SYS_BOOT_STAT_STEP = 1)) ∧
    (∀ (s : State),
      (s.dev.boot.powerOn = true ∨ s.dev.boot.rails ≠ [] ∨ s.dev.boot.thermal = true) →
      Does .resetNRelease s [.boot] ([])
        (fun d => d.boot = { s.dev.boot with pinLow := false })) ∧
    (∀ (s : State) (rail : Fin 7),
      s.Running →
      s.dev.boot.powerOn = false →
      Answers (.brownout rail) s (fun d => d.get F.SYS_RESET_CAUSE_BROWNOUT = 1 ∧
        bit (d.get F.SYS_RAIL_STAT_RAIL_OK) rail.val = false ∧ d.get F.SYS_RESET_CAUSE_SRAM_LOST = (if rail =
        0 then 1 else s.dev.get F.SYS_RESET_CAUSE_SRAM_LOST) ∧ (∀ k, keepsWarm k = true → R.PWR_OP_STAT.holds k = false →
        k ∉ [F.SYS_RESET_CAUSE_BROWNOUT.key 0, F.SYS_RESET_CAUSE_SRAM_LOST.key 0, F.SYS_RAIL_STAT_RAIL_OK.key 0] →
        Store.get? d.fields k = Store.get? s.dev.fields k) ∧ d.boot =
        ({ inReset := true, powerOn := false, bootsel := s.dev.boot.bootsel, testmode := s.dev.boot.testmode, warm := true, pinLow := s.dev.boot.pinLow, rails := rail.val :: s.dev.boot.rails.filter (· != rail.val), thermal := s.dev.boot.thermal }
        : Boot) ∧ d.ledger = (if rail = 0 then { epoch := s.dev.ledger.epoch + 1 } else
        { cells := s.dev.ledger.cells, epoch := s.dev.ledger.epoch } : Ledger) ∧
        d.cal = ({ inForce := s.dev.cal.inForce, pend := {} } : Cal) ∧
        d.eng = ({ ttEpoch := s.dev.eng.ttEpoch + 1 } : Engines) ∧
        d.dec = ({ epoch := s.dev.dec.epoch + 1, unseen := true } : Decisions) ∧
        d.kpr = ({ patch := s.dev.kpr.patch } : Keeper) ∧ (d.flt =
        ({ records := s.dev.flt.records.map (fun (e : Nat × FaultRec) => (e.1, { e.2 with valid := false })), log := s.dev.flt.log }
        : FaultUnit)) ∧ d.clk = ({ blank := s.dev.clk.blank || s.dev.get F.PWR_OP_STAT_VID != 0x28 } : Clocks) ∧
        d.bandEpoch = s.dev.bandEpoch + 1 ∧ d.epoch = s.dev.epoch ∧ d.freeCtr = s.dev.freeCtr ∧
        (∀ p, p ∉ [Part.epoch, .freeCtr, .boot, .clk, .flt, .bandEpoch, .ledger, .eng, .dec, .cal, .kpr] →
        State.reset.dev.SamePart d p) ∧ (∀ k, keepsWarm k = false → Store.get? d.fields k = none))) ∧
    (∀ (s : State) (rail : Fin 7),
      s.dev.boot.powerOn = false →
      s.dev.boot.inReset = true →
      Does (.brownout rail) s [.boot, .ledger] ([F.SYS_RESET_CAUSE_BROWNOUT.key 0, F.SYS_RESET_CAUSE_SRAM_LOST.key 0,
        F.SYS_RAIL_STAT_RAIL_OK.key 0])
        (fun d => d.boot = { s.dev.boot with rails := rail.val :: s.dev.boot.rails.filter (· != rail.val) } ∧
          d.get F.SYS_RESET_CAUSE_BROWNOUT = 1 ∧ bit (d.get F.SYS_RAIL_STAT_RAIL_OK) rail.val = false ∧
          d.ledger.cells = (if rail = 0 then [] else s.dev.ledger.cells) ∧
          d.get F.SYS_RESET_CAUSE_SRAM_LOST = (if rail = 0 then 1 else s.dev.get F.SYS_RESET_CAUSE_SRAM_LOST))) ∧
    (∀ (s : State) (rail : Fin 7),
      s.dev.boot.powerOn = true →
      Does (.brownout rail) s [.boot] ([F.SYS_RAIL_STAT_RAIL_OK.key 0])
        (fun d => d.boot = { s.dev.boot with rails := rail.val :: s.dev.boot.rails.filter (· != rail.val) } ∧
          bit (d.get F.SYS_RAIL_STAT_RAIL_OK) rail.val = false)) ∧
    (∀ (s : State) (rail : Fin 7),
      s.dev.boot.inReset = true →
      s.dev.boot.powerOn = false →
      s.dev.boot.pinLow = false →
      s.dev.boot.rails.filter (· != rail.val) = [] →
      s.dev.boot.thermal = false →
      Does (.brownoutRecovered rail) s [.boot] ([F.SYS_BOOT_STAT_STEP.key 0, F.SYS_RAIL_STAT_RAIL_OK.key 0])
        (fun d => d.boot = { s.dev.boot with inReset := false, rails := [], ms := 0 } ∧
          bit (d.get F.SYS_RAIL_STAT_RAIL_OK) rail.val = true ∧ d.get F.SYS_BOOT_STAT_STEP = 1)) ∧
    (∀ (s : State) (rail : Fin 7),
      (s.dev.boot.powerOn = true ∨ s.dev.boot.pinLow = true ∨ s.dev.boot.rails.filter (· != rail.val) ≠ [] ∨ s.dev.boot.thermal
        = true) →
      Does (.brownoutRecovered rail) s [.boot] ([F.SYS_RAIL_STAT_RAIL_OK.key 0])
        (fun d => d.boot = { s.dev.boot with rails := s.dev.boot.rails.filter (· != rail.val) } ∧
          bit (d.get F.SYS_RAIL_STAT_RAIL_OK) rail.val = true)) ∧
    (∀ (s : State),
      s.Running →
      s.dev.boot.powerOn = false →
      115 ≤ s.dev.celsius →
      Answers .thermalReset s (fun d => d.get F.SYS_RESET_CAUSE_THERMAL = 1 ∧
        (∀ k, keepsWarm k = true → R.PWR_OP_STAT.holds k = false → k ∉ [F.SYS_RESET_CAUSE_THERMAL.key 0] →
        Store.get? d.fields k = Store.get? s.dev.fields k) ∧ d.boot =
        ({ inReset := true, powerOn := false, bootsel := s.dev.boot.bootsel, testmode := s.dev.boot.testmode, warm := true, pinLow := s.dev.boot.pinLow, rails := s.dev.boot.rails, thermal := true }
        : Boot) ∧ d.ledger = ({ cells := s.dev.ledger.cells, epoch := s.dev.ledger.epoch } : Ledger) ∧
        d.cal = ({ inForce := s.dev.cal.inForce, pend := {} } : Cal) ∧
        d.eng = ({ ttEpoch := s.dev.eng.ttEpoch + 1 } : Engines) ∧
        d.dec = ({ epoch := s.dev.dec.epoch + 1, unseen := true } : Decisions) ∧
        d.kpr = ({ patch := s.dev.kpr.patch } : Keeper) ∧ (d.flt =
        ({ records := s.dev.flt.records.map (fun (e : Nat × FaultRec) => (e.1, { e.2 with valid := false })), log := s.dev.flt.log }
        : FaultUnit)) ∧ d.clk = ({ blank := s.dev.clk.blank || s.dev.get F.PWR_OP_STAT_VID != 0x28 } : Clocks) ∧
        d.bandEpoch = s.dev.bandEpoch + 1 ∧ d.epoch = s.dev.epoch ∧ d.freeCtr = s.dev.freeCtr ∧
        (∀ p, p ∉ [Part.epoch, .freeCtr, .boot, .clk, .flt, .bandEpoch, .ledger, .eng, .dec, .cal, .kpr] →
        State.reset.dev.SamePart d p) ∧ (∀ k, keepsWarm k = false → Store.get? d.fields k = none))) ∧
    (∀ (s : State),
      s.dev.boot.powerOn = false →
      s.dev.boot.inReset = true →
      115 ≤ s.dev.celsius →
      Does .thermalReset s [.boot] ([F.SYS_RESET_CAUSE_THERMAL.key 0])
        (fun d => d.boot = { s.dev.boot with thermal := true } ∧ d.get F.SYS_RESET_CAUSE_THERMAL = 1)) ∧
    (∀ (s : State),
      s.dev.boot.powerOn = true →
      115 ≤ s.dev.celsius →
      Does .thermalReset s [.boot] ([])
        (fun d => d.boot = { s.dev.boot with thermal := true })) ∧
    (∀ (s : State),
      s.dev.celsius ≤ 100 →
      s.dev.boot.inReset = true →
      s.dev.boot.powerOn = false →
      s.dev.boot.pinLow = false →
      s.dev.boot.rails = [] →
      Does .thermalRelease s [.boot] ([F.SYS_BOOT_STAT_STEP.key 0])
        (fun d => d.boot = { s.dev.boot with inReset := false, thermal := false, ms := 0 } ∧ d.get F.SYS_BOOT_STAT_STEP = 1)) ∧
    (∀ (s : State),
      s.dev.celsius ≤ 100 →
      (s.dev.boot.powerOn = true ∨ s.dev.boot.pinLow = true ∨ s.dev.boot.rails ≠ []) →
      Does .thermalRelease s [.boot] ([])
        (fun d => d.boot = { s.dev.boot with thermal := false }))

/-- A reading of the sensor shows in NOW and raises MAX, and outside reset counts a millisecond towards BOOT_MS. At 105 °C or
  above OVER_TEMP is set and, outside reset, its fault record reported. A short dip of a rail sets RAIL_DIP. The level of the
  TESTMODE pin is taken and gives CFG_STAT.MODE. The Keeper that misses its watchdog restarts: it no longer runs,
  the commands it has not submitted are lost, RESTARTED and KEEPER_RESTART are set,
  its fault record is reported (after that of a flash store the restart cuts), the servo pauses, and Berths, engines,
  decisions, wharves and twins stay as they are. Choices of the model on which this rests: log entries 5, 18, 24, 25 and 26. -/
def Obligations.SensorsPinsAndKeeperWatchdog : Prop :=
  (∀ (s : State) (c : Byte),
      Does (.sensorUpdate c) s [.boot] ([F.SYS_TEMP_NOW.key 0, F.SYS_TEMP_MAX.key 0])
        (fun d => d.get F.SYS_TEMP_NOW = c.toNat ∧ d.celsius = c.toInt ∧
          sgn 8 (d.get F.SYS_TEMP_MAX) = max (sgn 8 (s.dev.get F.SYS_TEMP_MAX)) c.toInt ∧
          d.boot = (if s.dev.boot.inReset then s.dev.boot else { s.dev.boot with ms := min 255 (s.dev.boot.ms + 1) }))) ∧
    (∀ (s : State),
      s.Running →
      105 ≤ s.dev.celsius →
      Does .overTemp s [.flt] (reportKeys ++ (evKeys F.SYS_MON_EVT_OVER_TEMP))
        (fun d => d.get F.SYS_MON_EVT_OVER_TEMP = 1 ∧ s.dev.Reported d 1 0 4 0)) ∧
    (∀ (s : State),
      105 ≤ s.dev.celsius →
      s.dev.boot.inReset = true →
      Does .overTemp s [] ([F.SYS_MON_EVT_OVER_TEMP.key 0])
        (fun d => d.get F.SYS_MON_EVT_OVER_TEMP = 1)) ∧
    (∀ (s : State) (rail : Fin 7),
      s.Running →
      Does (.railDip rail) s [] (evKeys F.SYS_MON_EVT_RAIL_DIP)
        (fun d => d.get F.SYS_MON_EVT_RAIL_DIP = 1)) ∧
    (∀ (s : State) (rail : Fin 7),
      s.dev.boot.inReset = true →
      Does (.railDip rail) s [] ([F.SYS_MON_EVT_RAIL_DIP.key 0])
        (fun d => d.get F.SYS_MON_EVT_RAIL_DIP = 1)) ∧
    (∀ (s : State) (level : Bool),
      Does (.testmodeChange level) s [.boot] ([])
        (fun d => d.boot = { s.dev.boot with testmode := level } ∧ (d.mode = 3 ↔ level = true))) ∧
    (∀ (s : State),
      s.Running →
      (s.dev.is F.KPR_STAT_RUNNING = true ∨ s.dev.kpr.restarting = true) →
      Answers .keeperWatchdogExpiry s (fun d => d.kpr = ({ restarting := true, patch := s.dev.kpr.patch } : Keeper) ∧
        d.get F.KPR_STAT_RUNNING = 0 ∧ d.get F.KPR_EVT_RESTARTED = 1 ∧ d.get F.SYS_RESET_CAUSE_KEEPER_RESTART = 1 ∧
        (s.dev.tow.running = true → d.get F.TOW_STAT_SERVO_PAUSED = 1) ∧ d.ledger = s.dev.ledger ∧ d.eng = s.dev.eng ∧
        d.dec = s.dev.dec ∧ d.whf = s.dev.whf ∧ d.tow = s.dev.tow ∧ d.twins = s.dev.twins ∧
        (d.flt = ((s.dev.when s.dev.storeBusy (fun x => x.report 11 0 1 0)).report 1 0 1 0).flt) ∧
        (d.get F.FLT_LOST_CNT_LOST = ((s.dev.when s.dev.storeBusy (fun x => x.report 11 0 1 0)).report 1 0 1 0).get
        F.FLT_LOST_CNT_LOST)))

/-- A window whose count gives a frequency inside the band adds to the agreement of its source; the eighth that agrees makes it
  READY; a READY source loses READY, with its event, at the second window in a row outside the band; with its second clock not
  READY a window judges nothing. A stopped clock sets STOPPED and takes READY away with its event. Choices of the model on
  which this rests: log entries 7, 38, 39, 101, 149, 150 and 151. -/
def Obligations.SourceJudgement : Prop :=
  (∀ (s : State) (src : Fin 6) (count hz nom : Nat),
      s.Running →
      s.dev.bus.held = [] →
      s.dev.nominalHz src.val = some nom →
      s.dev.judged src.val = true →
      s.dev.windowTurn src.val = true →
      s.dev.ready (s.dev.secondClock src.val).1 = true →
      countedHz nom ((s.dev.nominalHz (s.dev.secondClock src.val).1).getD 0) (s.dev.gateMs src.val) count = hz →
      s.dev.ready src.val = false →
      inBand hz nom (s.dev.winOf src.val) (s.dev.secondClock src.val).2 = true →
      agree ((hz :: (s.dev.judge? src.val).hits).take 8) (max 1 (s.dev.get F.CLK_JUDGE_CFG_AGREE_PPM src.val)) = false →
      s.dev.Settled →
      Does (.judgeWindow src count) s [.clk] ([F.CLK_JUDGE_STAT_DEV_PPM.key src.val, F.CLK_JUDGE_STAT_STOPPED.key src.val])
        (fun d => d.judge? src.val = ({ hits := (hz :: (s.dev.judge? src.val).hits).take 8, count := some hz } : Judge) ∧
          d.get F.CLK_JUDGE_STAT_DEV_PPM src.val = unsgnSat 24 (divRound (((hz : Int) - nom) * 1000000) nom) ∧
          (0 < hz → d.get F.CLK_JUDGE_STAT_STOPPED src.val = 0))) ∧
    (∀ (s : State) (src : Fin 6) (count hz nom : Nat),
      s.Running →
      s.dev.bus.held = [] →
      s.dev.nominalHz src.val = some nom →
      s.dev.judged src.val = true →
      s.dev.windowTurn src.val = true →
      s.dev.ready (s.dev.secondClock src.val).1 = true →
      countedHz nom ((s.dev.nominalHz (s.dev.secondClock src.val).1).getD 0) (s.dev.gateMs src.val) count = hz →
      s.dev.ready src.val = false →
      inBand hz nom (s.dev.winOf src.val) (s.dev.secondClock src.val).2 = true →
      agree ((hz :: (s.dev.judge? src.val).hits).take 8) (max 1 (s.dev.get F.CLK_JUDGE_CFG_AGREE_PPM src.val)) = true →
      Answers (.judgeWindow src count) s (fun d => d.ready src.val = true ∧
        (d.judge? src.val).hits = (hz :: (s.dev.judge? src.val).hits).take 8 ∧
        d.get F.CLK_JUDGE_STAT_DEV_PPM src.val = unsgnSat 24 (divRound (((hz : Int) - nom) * 1000000) nom))) ∧
    (∀ (s : State) (src : Fin 6) (count hz nom : Nat),
      s.Running →
      s.dev.bus.held = [] →
      s.dev.nominalHz src.val = some nom →
      s.dev.judged src.val = true →
      s.dev.windowTurn src.val = true →
      s.dev.ready (s.dev.secondClock src.val).1 = true →
      countedHz nom ((s.dev.nominalHz (s.dev.secondClock src.val).1).getD 0) (s.dev.gateMs src.val) count = hz →
      s.dev.ready src.val = true →
      inBand hz nom (s.dev.winOf src.val) (s.dev.secondClock src.val).2 = false →
      1 ≤ (s.dev.judge? src.val).outs →
      Answers (.judgeWindow src count) s (fun d => d.ready src.val = false ∧
        bit (d.get F.CLK_REF_EVT_READY_LOST) src.val = true)) ∧
    (∀ (s : State) (src : Fin 6) (count nom : Nat),
      s.Running →
      s.dev.bus.held = [] →
      s.dev.nominalHz src.val = some nom →
      s.dev.judged src.val = true →
      s.dev.windowTurn src.val = true →
      s.dev.ready (s.dev.secondClock src.val).1 = false →
      s.dev.Settled →
      Does (.judgeWindow src count) s [.clk] ([])
        (fun d => d.judge? src.val = s.dev.judge? src.val ∧ d.ready src.val = s.dev.ready src.val)) ∧
    (∀ (s : State) (src : Fin 6),
      s.Running →
      s.dev.ready src.val = true →
      DoesWide (.stopDetect src) s [.clk, .flt, .freeCtr] ([2, 3, 10])
        (fun d => d.ready src.val = false ∧ d.get F.CLK_JUDGE_STAT_STOPPED src.val = 1 ∧
          bit (d.get F.CLK_REF_EVT_READY_LOST) src.val = true ∧ (d.judge? src.val).hits = [])) ∧
    (∀ (s : State) (src : Fin 6),
      s.Running →
      s.dev.ready src.val = false →
      Does (.stopDetect src) s [] ([F.CLK_JUDGE_STAT_STOPPED.key src.val])
        (fun d => d.get F.CLK_JUDGE_STAT_STOPPED src.val = 1))

/-- A write of CLK_REF_CTRL takes its fields; a new SEL while MPL0 is locked puts MPL0 in holdover and starts the change of REF
  to the READY input, and is refused with RESULT 3, its event and its record while the input is not READY; MPL0 relocks to a
  READY input; a loss of lock of MPL1 clears MPL1_LOCK and, with FALLBACK_EN set,
  starts the fallback while a domain is on MPL1 or, from step 6 on,
  none fell back before. Choices of the model on which this rests: log entries 28, 36, 37, 39, 101, 106, 127 and 128. -/
def Obligations.ReferenceAndMultipliers : Prop :=
  (∀ (s : State) (v : Word),
      s.Running →
      DoesWide (.refSwitch v) s [.bus, .clk, .flt, .freeCtr] ([2, 3, 10])
        (fun d => d.get F.CLK_REF_CTRL_SEL = bits v.toNat 14 14 ∧ d.get F.CLK_REF_CTRL_XI0_MODE = bits v.toNat 6 5 ∧
          d.get F.CLK_REF_CTRL_XI0_FREQ = bits v.toNat 4 2 ∧ d.get F.CLK_REF_CTRL_XI1_MODE = bits v.toNat 11 10 ∧
          d.get F.CLK_REF_CTRL_XI1_FREQ = bits v.toNat 9 7)) ∧
    (∀ (s : State) (v : Word),
      s.Running →
      bits v.toNat 6 5 = s.dev.xiMode 0 →
      bits v.toNat 4 2 = s.dev.xiFreq 0 →
      bits v.toNat 11 10 = s.dev.xiMode 1 →
      bits v.toNat 9 7 = s.dev.xiFreq 1 →
      bits v.toNat 14 14 ≠ s.dev.get F.CLK_REF_CTRL_SEL →
      s.dev.mpl0Lock = true →
      s.dev.ready (bits v.toNat 14 14) = true →
      s.dev.domBusy 154 = false →
      DoesWide (.refSwitch v) s [.bus, .clk, .flt, .freeCtr] ([2, 3, 10])
        (fun d => d.mpl0Lock = false ∧ d.mpl0Hold = true ∧ d.domBusy 154 = true ∧
          (d.switchOf 154).map (fun (w : Switch) => w.src) = some (bits v.toNat 14 14))) ∧
    (∀ (s : State) (v : Word),
      s.Running →
      bits v.toNat 6 5 = s.dev.xiMode 0 →
      bits v.toNat 4 2 = s.dev.xiFreq 0 →
      bits v.toNat 11 10 = s.dev.xiMode 1 →
      bits v.toNat 9 7 = s.dev.xiFreq 1 →
      bits v.toNat 14 14 ≠ s.dev.get F.CLK_REF_CTRL_SEL →
      s.dev.ready (bits v.toNat 14 14) = false →
      Answers (.refSwitch v) s (fun d => d.get F.CLK_DOM_STAT_RESULT 154 = 3 ∧ d.get F.CLK_SWITCH_EVT_SWITCH_REFUSED = 1 ∧
        d.switchOf 154 = s.dev.switchOf 154 ∧ s.dev.Reported d 2 0 2 154)) ∧
    (∀ (s : State),
      s.Running →
      s.dev.mpl0Hold = true →
      s.dev.ready s.dev.activeXi = true →
      s.dev.domBusy 154 = false →
      s.dev.is F.CLK_DOM_STAT_UNTRUSTED 154 = false →
      Does .mpl0Relock s [.clk] ([F.CLK_REF_STAT_MPL0_HOLDOVER.key 0, F.CLK_REF_STAT_MPL0_LOCK.key 0])
        (fun d => d.mpl0Lock = true ∧ d.mpl0Hold = false ∧ d.clk = { s.dev.clk with bothLost := false })) ∧
    (∀ (s : State),
      s.Running →
      s.dev.is F.CLK_REF_STAT_MPL1_LOCK = true →
      DoesWide .mpl1Unlock s [.clk, .flt, .freeCtr] ([2, 3, 10])
        (fun d => d.get F.CLK_REF_STAT_MPL1_LOCK = 0 ∧ (s.dev.is F.CLK_REF_CTRL_FALLBACK_EN = true →
          (mplDomains.any s.dev.onMpl1 = true ∨ (s.dev.clk.fellBack = false ∧ 6 ≤ s.dev.step)) → d.clk.fellBack = true ∧
          d.get F.CLK_SWITCH_EVT_FALLBACK = 1)))

/-- A request for a switchable domain on FIO whose source is READY and that is not busy starts the change to MPL1 with the
  divider of service; a change to FIO completes with the new source and divider, RESULT 1 and SWITCH_DONE,
  once the last ramp divider has been held for 63 pounds, or is forced with RESULT 2, UNTRUSTED,
  its event and its record; the last divider of a ramp ends the change. Choices of the model on which this rests: log entries
  6, 8, 9, 26, 40, 41, 45 and 106. -/
def Obligations.DomainSwitches : Prop :=
  (∀ (s : State) (v : Word) (dom : Nat),
      s.Running →
      s.dev.get F.CLK_DOM_SEL_DOM = dom →
      switchable dom = true →
      bits v.toNat 7 6 = 1 →
      s.dev.curSrc dom = 0 →
      s.dev.ready 5 = true →
      s.dev.domBusy dom = false →
      Does (.domainSwitch v) s [.clk, .bus] ([F.CLK_DOM_CTRL_SRC.key 0, F.CLK_DOM_STAT_BUSY.key dom])
        (fun d => d.domBusy dom = true ∧ d.switchOf dom = some
          ({ src := 1, div := s.dev.mplDiv dom, host := true, since := s.dev.tow.ticks } : Switch) ∧
          d.get F.CLK_DOM_CTRL_SRC = 1)) ∧
    (∀ (s : State) (dom : Fin 157) (div sn : Nat) (ho ra : Bool),
      s.Running →
      [145, 146, 147, 149].contains dom.val = true →
      s.dev.Settled →
      s.dev.switchOf dom.val = some ⟨0, div, true, false, ho, sn, ra⟩ →
      (ra = false ∨ s.dev.tow.running = false ∨ sn + 63 ≤ s.dev.tow.ticks) →
      s.dev.clk.resetting.contains dom.val = false →
      Does (.switchDone dom) s [.clk] ([F.CLK_DOM_STAT_CUR_SRC.key dom.val, F.CLK_DOM_STAT_CUR_DIV.key dom.val,
        F.CLK_DOM_STAT_RESULT.key dom.val, F.CLK_DOM_STAT_BUSY.key dom.val] ++ evKeys F.CLK_SWITCH_EVT_SWITCH_DONE)
        (fun d => d.curSrc dom.val = 0 ∧ d.curDiv dom.val = div % 64 ∧ d.get F.CLK_DOM_STAT_RESULT dom.val = 1 ∧
          d.get F.CLK_SWITCH_EVT_SWITCH_DONE = 1 ∧ d.domBusy dom.val = false ∧ d.switchOf dom.val = none)) ∧
    (∀ (s : State) (dom : Fin 157) (div sn : Nat) (ho : Bool),
      s.Running →
      [145, 146, 147, 149].contains dom.val = true →
      s.dev.Settled →
      s.dev.switchOf dom.val = some ⟨0, div, true, false, ho, sn, true⟩ →
      s.dev.tow.running = true →
      s.dev.tow.ticks < sn + 63 →
      Idles (.switchDone dom) s) ∧
    (∀ (s : State) (dom : Fin 157) (div sn : Nat) (ho ov ra : Bool),
      s.Running →
      [145, 146, 147, 149].contains dom.val = true →
      s.dev.Settled →
      s.dev.switchOf dom.val = some ⟨0, div, ov, false, ho, sn, ra⟩ →
      s.dev.curSrc dom.val ≠ 0 →
      Does (.switchForced dom) s [.clk, .flt] (reportKeys ++ ([F.CLK_DOM_STAT_CUR_SRC.key dom.val,
        F.CLK_DOM_STAT_CUR_DIV.key dom.val, F.CLK_DOM_STAT_RESULT.key dom.val, F.CLK_DOM_STAT_UNTRUSTED.key dom.val,
        F.CLK_DOM_STAT_BUSY.key dom.val] ++ evKeys F.CLK_SWITCH_EVT_SWITCH_FORCED))
        (fun d => d.curSrc dom.val = 0 ∧ d.get F.CLK_DOM_STAT_RESULT dom.val = 2 ∧ d.get F.CLK_DOM_STAT_UNTRUSTED dom.val = 1 ∧
          d.get F.CLK_SWITCH_EVT_SWITCH_FORCED = 1 ∧ d.switchOf dom.val = none ∧ s.dev.Reported d 2 0 3 dom.val)) ∧
    (∀ (s : State) (dom : Fin 157) (div sn : Nat) (ho ra : Bool),
      s.Running →
      [145, 146, 147, 149].contains dom.val = true →
      s.dev.Settled →
      s.dev.switchOf dom.val = some ⟨1, div, false, false, ho, sn, ra⟩ →
      farApart (s.dev.domFreq dom.val false) (targetFreq 1 div) = false →
      s.dev.mpl1Runs = true →
      (s.dev.tow.running = false ∨ sn + 63 ≤ s.dev.tow.ticks) →
      s.dev.clk.resetting.contains dom.val = false →
      Does (.rampStep dom) s [.clk] ([F.CLK_DOM_STAT_CUR_DIV.key dom.val, F.CLK_DOM_STAT_RESULT.key dom.val,
        F.CLK_DOM_STAT_BUSY.key dom.val] ++ evKeys F.CLK_SWITCH_EVT_SWITCH_DONE)
        (fun d => d.curDiv dom.val = div % 64 ∧ d.get F.CLK_DOM_STAT_RESULT dom.val = 1 ∧ d.switchOf dom.val = none ∧
          d.domBusy dom.val = false))

/-- A domain reset of a domain without further effect, of REF and of a core holds the domain BUSY until it is released,
  restarts the judgement counters of the inputs (REF) or clears the accumulators,
  dividers and free phase of the core; its release clears UNTRUSTED. Choices of the model on which this rests: log entries 41,
  42, 61, 106 and 154. Left out: the resets of the ENG, FAB, lane, TOW and TPX domains. -/
def Obligations.DomainResets : Prop :=
  (∀ (s : State) (v : Word) (dom : Nat),
      s.Running →
      s.dev.get F.CLK_DOM_SEL_DOM = dom →
      [145, 153, 155, 156].contains dom = true →
      s.dev.switchOf dom = none →
      Does (.domReset v) s [.clk, .bus] ([F.CLK_DOM_CTRL_SRC.key 0, F.CLK_DOM_STAT_BUSY.key dom])
        (fun d => dom ∈ d.clk.resetting ∧ d.domBusy dom = true)) ∧
    (∀ (s : State) (v : Word),
      s.Running →
      s.dev.get F.CLK_DOM_SEL_DOM = 154 →
      s.dev.switchOf 154 = none →
      Does (.domReset v) s [.clk, .bus] ([F.CLK_DOM_CTRL_SRC.key 0, F.CLK_DOM_STAT_BUSY.key 154])
        (fun d => 154 ∈ d.clk.resetting ∧ (d.judge? 0).hits = [] ∧ (d.judge? 1).hits = [] ∧
          (d.judge? 0).count = (s.dev.judge? 0).count ∧ (d.judge? 1).count = (s.dev.judge? 1).count)) ∧
    (∀ (s : State) (v : Word) (c : Fin 16),
      s.Running →
      s.dev.get F.CLK_DOM_SEL_DOM = 128 + c.val →
      s.dev.switchOf (128 + c.val) = none →
      Answers (.domReset v) s (fun d => (d.core c.val).acc1 = 0 ∧ (d.core c.val).cA = 0 ∧ (d.core c.val).hasU = false ∧
        d.get F.LOOP_TRIM_TAU c.val = 0 ∧ (d.core c.val).berth = (s.dev.core c.val).berth)) ∧
    (∀ (s : State) (dom : Fin 157),
      s.Running →
      s.dev.clk.resetting.contains dom.val = true →
      s.dev.Settled →
      Does (.domResetDone dom) s [.clk] ([F.CLK_DOM_STAT_UNTRUSTED.key dom.val, F.CLK_DOM_STAT_BUSY.key dom.val])
        (fun d => dom.val ∉ d.clk.resetting ∧ d.get F.CLK_DOM_STAT_UNTRUSTED dom.val = 0 ∧
          d.domBusy dom.val = (s.dev.switchOf dom.val).isSome))

/-- Clearing the enable bit of an open block closes it, or holds the gate while its port is busy; a held gate takes force after
  its access is completed with zero data; a shut down block is CLOSED or restarts; setting the enable bit of a CLOSED block
  starts its opening; an opening core loses its free target; an open core is in IDLE with its binding shown,
  or starts with the load that took effect while it opened, an open output walks to its tap,
  an open AUX output takes its settings. Choices of the model on which this rests: log entries 26, 46, 47, 48, 49, 51,
  142 and 156. Left out: the closing of quads, outputs, the decision unit, the timetable, the TIME port and the store port. -/
def Obligations.Gates : Prop :=
  (∀ (s : State) (b : Fin 118),
      s.Running →
      s.dev.blockEnabled b.val = true →
      s.dev.blockState b.val = 2 →
      s.dev.clk.gateHeld.contains b.val = false →
      Does (.blockClose b true) s [.clk, .bus] ([(enableBit b.val).1.key 0])
        (fun d => d.clk.gateHeld = s.dev.clk.gateHeld ++ [b.val] ∧ d.blockEnabled b.val = false ∧ d.blockState b.val = 2)) ∧
    (∀ (s : State) (b : Fin 118),
      s.Running →
      112 ≤ b.val →
      b.val ≤ 113 →
      s.dev.blockEnabled b.val = true →
      s.dev.blockState b.val = 2 →
      Does (.blockClose b false) s [.clk, .bus] ([(enableBit b.val).1.key 0, F.CLK_BLK_STAT_STATE.key b.val,
        F.CLK_BLK_STAT_RESTART_PENDING.key b.val])
        (fun d => d.blockState b.val = 3 ∧ d.blockEnabled b.val = false)) ∧
    (∀ (s : State) (b : Fin 118) (c : Fin 16),
      s.Running →
      b.val = 64 + c.val →
      s.dev.blockEnabled b.val = true →
      s.dev.blockState b.val = 2 →
      Answers (.blockClose b false) s (fun d => d.blockState b.val = 3 ∧ d.blockEnabled b.val = false ∧
        d.core c.val = ({ berth := (s.dev.core c.val).berth } : Core) ∧ d.get F.LOOP_STAT_STATE c.val = 0 ∧
        d.get F.LOOP_STAT_LOCK c.val = 0)) ∧
    (∀ (s : State) (b : Fin 118),
      s.Running →
      112 ≤ b.val →
      b.val ≤ 113 →
      s.dev.clk.gateHeld.contains b.val = true →
      Does (.gateBusAbort b) s [.clk, .bus] ([F.CLK_BLK_STAT_STATE.key b.val,
        F.CLK_BLK_STAT_RESTART_PENDING.key b.val] ++ evKeys F.CLK_GATE_EVT_BUS_ABORT)
        (fun d => d.blockState b.val = 3 ∧ b.val ∉ d.clk.gateHeld ∧ d.bus.lastRead = 0 ∧ d.get F.CLK_GATE_EVT_BUS_ABORT = 1)) ∧
    (∀ (s : State) (b : Fin 118),
      s.Running →
      s.dev.blockState b.val = 3 →
      s.dev.is F.CLK_BLK_STAT_RESTART_PENDING b.val = false →
      s.dev.atStep 6 = false →
      Does (.blockShutdownDone b) s [] ([F.CLK_BLK_STAT_STATE.key b.val])
        (fun d => d.blockState b.val = 0)) ∧
    (∀ (s : State) (b : Fin 118),
      s.Running →
      80 ≤ b.val →
      s.dev.blockState b.val = 3 →
      s.dev.is F.CLK_BLK_STAT_RESTART_PENDING b.val = true →
      Does (.blockShutdownDone b) s [] ([F.CLK_BLK_STAT_STATE.key b.val,
        F.CLK_BLK_STAT_RESTART_PENDING.key b.val] ++ evKeys F.CLK_GATE_EVT_RESTART_DONE)
        (fun d => d.blockState b.val = 1 ∧ d.is F.CLK_BLK_STAT_RESTART_PENDING b.val = false ∧
          d.get F.CLK_GATE_EVT_RESTART_DONE = 1)) ∧
    (∀ (s : State) (b : Fin 118),
      s.Running →
      80 ≤ b.val →
      s.dev.blockEnabled b.val = false →
      s.dev.blockState b.val = 0 →
      b.val ∉ s.dev.boot.toOpen →
      Does (.blockOpen b) s [.clk, .bus] ([(enableBit b.val).1.key 0, F.CLK_BLK_STAT_STATE.key b.val])
        (fun d => d.blockState b.val = 1 ∧ d.blockEnabled b.val = true)) ∧
    (∀ (s : State) (b : Fin 118) (c : Fin 16),
      s.Running →
      b.val = 64 + c.val →
      s.dev.blockEnabled b.val = false →
      s.dev.blockState b.val = 0 →
      b.val ∉ s.dev.boot.toOpen →
      Does (.blockOpen b) s [.clk, .bus, .cores] ([(enableBit b.val).1.key 0, F.CLK_BLK_STAT_STATE.key b.val])
        (fun d => d.blockState b.val = 1 ∧ d.blockEnabled b.val = true ∧
          d.core c.val = ({ s.dev.core c.val with hasU := false, uFromQ := false, u := 0 } : Core))) ∧
    (∀ (s : State) (b : Fin 118),
      s.Running →
      (b.val = 114 ∨ b.val = 115 ∨ b.val = 117) →
      s.dev.blockState b.val = 1 →
      Does (.blockOpenDone b) s [] ([F.CLK_BLK_STAT_STATE.key b.val])
        (fun d => d.blockState b.val = 2)) ∧
    (∀ (s : State) (b : Fin 118) (a : Fin 2),
      s.Running →
      b.val = 112 + a.val →
      s.dev.blockState b.val = 1 →
      Does (.blockOpenDone b) s [.clk] ([F.CLK_BLK_STAT_STATE.key b.val])
        (fun d => d.blockState b.val = 2 ∧ Store.get? d.clk.auxDiv a.val = some (auxClamp (s.dev.auxDivReg a.val)) ∧
          Store.get? d.clk.auxSsc a.val = some (s.dev.auxSscReg a.val))) ∧
    (∀ (s : State) (b : Fin 118) (n : Fin 32),
      s.Running →
      b.val = 80 + n.val →
      s.dev.blockState b.val = 1 →
      s.dev.get F.COUT_STAT_TAP n.val = s.dev.tapFor n.val →
      Does (.blockOpenDone b) s [] ([F.CLK_BLK_STAT_STATE.key b.val])
        (fun d => d.blockState b.val = 2)) ∧
    (∀ (s : State) (b : Fin 118) (n : Fin 32),
      s.Running →
      b.val = 80 + n.val →
      s.dev.blockState b.val = 1 →
      s.dev.get F.COUT_STAT_TAP n.val ≠ s.dev.tapFor n.val →
      Does (.blockOpenDone b) s [.outputs] ([F.CLK_BLK_STAT_STATE.key b.val, F.COUT_STAT_WALKING.key n.val])
        (fun d => d.blockState b.val = 2 ∧ d.get F.COUT_STAT_WALKING n.val = 1)) ∧
    (∀ (s : State) (b : Fin 118) (c : Fin 16),
      s.Running →
      b.val = 64 + c.val →
      s.dev.blockState b.val = 1 →
      (s.dev.core c.val).starts = false →
      Does (.blockOpenDone b) s [.bandMap] ([F.CLK_BLK_STAT_STATE.key b.val, F.LOOP_STAT_STATE.key c.val,
        F.LOOP_STAT_BOUND.key c.val, F.LOOP_MON_OFFSET_OFFSET.key c.val])
        (fun d => d.blockState b.val = 2 ∧ d.get F.LOOP_STAT_STATE c.val = 1 ∧
          d.is F.LOOP_STAT_BOUND c.val = (s.dev.core c.val).berth.isSome)) ∧
    (∀ (s : State) (b : Fin 118) (c : Fin 16),
      s.Running →
      b.val = 64 + c.val →
      s.dev.blockState b.val = 1 →
      (s.dev.core c.val).starts = true →
      Answers (.blockOpenDone b) s (fun d => d.blockState b.val = 2 ∧
        d.get F.LOOP_STAT_STATE c.val = (if s.dev.is F.LOOP_BAND_CTRL_MANUAL c.val then 3 else 2) ∧
        d.is F.LOOP_STAT_BAND_SEARCH c.val = !s.dev.is F.LOOP_BAND_CTRL_MANUAL c.val ∧ (d.core c.val).starts = false))

/-- A request for an operating point is held while one is in progress; else it raises the voltage first when it needs more,
  and lowers it last, with OP_DONE, when ENG on FIO only records the divider; before step 6 has asked the sequencer it is kept
  only, and OP_REQ 3 changes nothing. At the end of the blanking PG_IN is shown; found high it ends the wait of a raise,
  found low it does not. A raise without PG_IN restores the previous code with its event and record. A loss of PG_IN outside
  blanking writes its record, ends a held request, records the divider of point 0 and, on MPL1 at /5,
  starts the ramp to it with VID unchanged; in reset only PG_IN is shown. AUX settings come into force on an open output.
  Choices of the model on which this rests: log entries 9, 30, 44, 45, 46 and 106. -/
def Obligations.OperatingPoint : Prop :=
  (∀ (s : State) (v : Word),
      s.Running →
      bits v.toNat 1 0 ≠ 3 →
      s.dev.boot.opAsked = true →
      s.dev.is F.PWR_OP_STAT_BUSY = true →
      Answers (.opRequest v) s (fun d => d.get F.PWR_OP_CTRL_OP_REQ = bits v.toNat 1 0 ∧
        d.clk.opHeld = some (bits v.toNat 1 0) ∧ d.get F.PWR_OP_STAT_HELD = 1)) ∧
    (∀ (s : State) (v : Word),
      s.Running →
      bits v.toNat 1 0 ≠ 3 →
      s.dev.boot.opAsked = true →
      s.dev.is F.PWR_OP_STAT_BUSY = true →
      6 ≤ s.dev.step →
      s.dev.RefRests →
      s.dev.clk.fell = [] →
      Does (.opRequest v) s [.clk, .bus] ([F.PWR_OP_CTRL_OP_REQ.key 0, F.PWR_OP_STAT_HELD.key 0])
        (fun d => d.get F.PWR_OP_CTRL_OP_REQ = bits v.toNat 1 0 ∧ d.clk.opHeld = some (bits v.toNat 1 0) ∧
          d.get F.PWR_OP_STAT_HELD = 1)) ∧
    (∀ (s : State) (v : Word),
      s.Running →
      bits v.toNat 1 0 ≠ 3 →
      s.dev.boot.opAsked = true →
      s.dev.is F.PWR_OP_STAT_BUSY = false →
      s.dev.domBusy 144 = false →
      s.dev.get F.PWR_OP_STAT_VID < vidOf (bits v.toNat 1 0) →
      Answers (.opRequest v) s (fun d => d.get F.PWR_OP_STAT_VID = vidOf (bits v.toNat 1 0) ∧ d.get F.PWR_OP_STAT_PHASE = 1 ∧
        d.is F.PWR_OP_STAT_BUSY = true ∧ d.clk.blank = true ∧ d.clk.opTarget = some (bits v.toNat 1 0) ∧
        d.clk.vidBefore = s.dev.get F.PWR_OP_STAT_VID ∧ d.get F.PWR_OP_STAT_HELD = 0)) ∧
    (∀ (s : State) (v : Word),
      s.Running →
      bits v.toNat 1 0 ≠ 3 →
      s.dev.boot.opAsked = true →
      s.dev.is F.PWR_OP_STAT_BUSY = false →
      s.dev.domBusy 144 = false →
      s.dev.get F.PWR_OP_STAT_VID < vidOf (bits v.toNat 1 0) →
      6 ≤ s.dev.step →
      s.dev.RefRests →
      s.dev.clk.fell = [] →
      Does (.opRequest v) s [.clk, .bus] ([F.PWR_OP_CTRL_OP_REQ.key 0, F.PWR_OP_STAT_HELD.key 0, F.PWR_OP_STAT_BUSY.key 0,
        F.PWR_OP_STAT_VID.key 0, F.PWR_OP_STAT_VOLT_OP.key 0, F.PWR_OP_STAT_PHASE.key 0])
        (fun d => d.get F.PWR_OP_STAT_VID = vidOf (bits v.toNat 1 0) ∧ d.get F.PWR_OP_STAT_PHASE = 1 ∧
          d.is F.PWR_OP_STAT_BUSY = true ∧ d.clk.blank = true ∧ d.clk.opTarget = some (bits v.toNat 1 0) ∧
          d.clk.vidBefore = s.dev.get F.PWR_OP_STAT_VID ∧ d.get F.PWR_OP_STAT_HELD = 0)) ∧
    (∀ (s : State) (v : Word),
      s.Running →
      bits v.toNat 1 0 ≠ 3 →
      s.dev.boot.opAsked = true →
      s.dev.is F.PWR_OP_STAT_BUSY = false →
      s.dev.domBusy 144 = false →
      vidOf (bits v.toNat 1 0) < s.dev.get F.PWR_OP_STAT_VID →
      s.dev.switchOf 144 = none →
      s.dev.curSrc 144 = 0 →
      s.dev.Settled →
      Does (.opRequest v) s [.clk, .bus] ([F.PWR_OP_CTRL_OP_REQ.key 0, F.PWR_OP_STAT_HELD.key 0, F.PWR_OP_STAT_BUSY.key 0,
        F.PWR_OP_STAT_VID.key 0, F.PWR_OP_STAT_VOLT_OP.key 0, F.PWR_OP_STAT_PHASE.key 0] ++ evKeys F.PWR_EVT_OP_DONE)
        (fun d => d.get F.PWR_OP_STAT_VID = vidOf (bits v.toNat 1 0) ∧ d.get F.PWR_OP_STAT_PHASE = 0 ∧
          d.is F.PWR_OP_STAT_BUSY = false ∧ d.clk.engDiv = divOf (bits v.toNat 1 0) ∧ d.clk.opTarget = none ∧
          d.get F.PWR_EVT_OP_DONE = 1 ∧ d.get F.PWR_OP_STAT_HELD = 0)) ∧
    (∀ (s : State) (v : Word),
      s.Running →
      bits v.toNat 1 0 ≠ 3 →
      s.dev.boot.opAsked = false →
      s.dev.Settled →
      Does (.opRequest v) s [.clk, .bus] ([F.PWR_OP_CTRL_OP_REQ.key 0])
        (fun d => d.get F.PWR_OP_CTRL_OP_REQ = bits v.toNat 1 0 ∧ d.clk = s.dev.clk)) ∧
    (∀ (s : State) (v : Word),
      s.Running →
      bits v.toNat 1 0 = 3 →
      s.dev.Settled →
      Does (.opRequest v) s [.bus] ([])
        (fun d => d.get F.PWR_OP_CTRL_OP_REQ = s.dev.get F.PWR_OP_CTRL_OP_REQ)) ∧
    (∀ (s : State) (pg : Bool),
      s.Running →
      s.dev.clk.opTarget = none →
      s.dev.Settled →
      Does (.pgBlankingEnd pg) s [.clk] ([F.SYS_RAIL_STAT_PG_IN.key 0])
        (fun d => d.clk = { s.dev.clk with blank := false } ∧ d.is F.SYS_RAIL_STAT_PG_IN = pg)) ∧
    (∀ (s : State) (r : Nat),
      s.Running →
      s.dev.clk.opTarget = some r →
      s.dev.Settled →
      Does (.pgBlankingEnd false) s [.clk] ([F.SYS_RAIL_STAT_PG_IN.key 0])
        (fun d => d.clk = { s.dev.clk with blank := false } ∧ d.is F.SYS_RAIL_STAT_PG_IN = false)) ∧
    (∀ (s : State) (r : Nat),
      s.Running →
      s.dev.clk.opTarget = some r →
      s.dev.get F.PWR_OP_STAT_PHASE = 1 →
      s.dev.get F.PWR_OP_STAT_VID = vidOf r →
      s.dev.switchOf 144 = none →
      s.dev.curSrc 144 = 0 →
      s.dev.Settled →
      Does (.pgBlankingEnd true) s [.clk] ([F.SYS_RAIL_STAT_PG_IN.key 0, F.PWR_OP_STAT_PHASE.key 0,
        F.PWR_OP_STAT_BUSY.key 0] ++ evKeys F.PWR_EVT_OP_DONE)
        (fun d => d.clk.engDiv = divOf r ∧ d.is F.PWR_OP_STAT_BUSY = false ∧ d.get F.PWR_OP_STAT_PHASE = 0 ∧
          d.get F.PWR_EVT_OP_DONE = 1 ∧ d.clk.opTarget = none)) ∧
    (∀ (s : State) (r : Nat),
      s.Running →
      s.dev.clk.opTarget = some r →
      s.dev.get F.PWR_OP_STAT_PHASE = 1 →
      s.dev.switchOf 144 = none →
      s.dev.curSrc 144 = 1 →
      s.dev.curDiv 144 ≠ divOf r →
      s.dev.clk.opHeld = none →
      Answers (.pgBlankingEnd true) s (fun d => d.clk.engDiv = divOf r ∧
        (d.get F.PWR_OP_STAT_PHASE = 2 ∨ d.get F.PWR_OP_STAT_PHASE = 3 ∨ d.get F.PWR_OP_STAT_PHASE = 0) ∧
        (d.clk.blank = false ∨ d.get F.PWR_OP_STAT_PHASE = 0))) ∧
    (∀ (s : State) (pg : Bool),
      s.dev.boot.inReset = true →
      s.dev.clk.opTarget = none →
      Does (.pgBlankingEnd pg) s [.clk] ([F.SYS_RAIL_STAT_PG_IN.key 0])
        (fun d => d.clk = { s.dev.clk with blank := false } ∧ d.is F.SYS_RAIL_STAT_PG_IN = pg)) ∧
    (∀ (s : State),
      s.Running →
      s.dev.is F.PWR_OP_STAT_BUSY = true →
      s.dev.get F.PWR_OP_STAT_PHASE = 1 →
      s.dev.Settled →
      s.dev.clk.vidBefore < 64 →
      Does .raiseFailed s [.clk, .flt] (reportKeys ++ ([F.SYS_RAIL_STAT_PG_IN.key 0, F.PWR_OP_STAT_VID.key 0,
        F.PWR_OP_STAT_VOLT_OP.key 0, F.PWR_OP_STAT_PHASE.key 0, F.PWR_OP_STAT_BUSY.key 0] ++ evKeys F.PWR_EVT_RAISE_FAILED))
        (fun d => d.get F.PWR_OP_STAT_VID = s.dev.clk.vidBefore ∧ d.get F.SYS_RAIL_STAT_PG_IN = 0 ∧
          d.is F.PWR_OP_STAT_BUSY = false ∧ d.get F.PWR_EVT_RAISE_FAILED = 1 ∧ s.dev.Reported d 1 0 3 0)) ∧
    (∀ (s : State),
      s.Running →
      s.dev.clk.blank = false →
      s.dev.get F.PWR_OP_STAT_PHASE ≠ 1 →
      s.dev.switchOf 144 = none →
      s.dev.curSrc 144 = 0 →
      s.dev.Settled →
      Does .pgLost s [.clk, .flt] (reportKeys ++ ([F.SYS_RAIL_STAT_PG_IN.key 0, F.PWR_OP_STAT_PHASE.key 0,
        F.PWR_OP_STAT_BUSY.key 0, F.PWR_OP_STAT_HELD.key 0] ++ evKeys F.PWR_EVT_PG_LOST))
        (fun d => d.get F.SYS_RAIL_STAT_PG_IN = 0 ∧ d.get F.PWR_EVT_PG_LOST = 1 ∧ d.clk.opHeld = none ∧ d.clk.engDiv = 10 ∧
          d.get F.PWR_OP_STAT_HELD = 0 ∧ s.dev.Reported d 1 0 2 0)) ∧
    (∀ (s : State),
      s.Running →
      s.dev.clk.blank = false →
      s.dev.get F.PWR_OP_STAT_PHASE ≠ 1 →
      s.dev.switchOf 144 = none →
      s.dev.curSrc 144 = 1 →
      s.dev.curDiv 144 = 5 →
      s.dev.mpl1Runs = true →
      Answers .pgLost s (fun d => d.get F.SYS_RAIL_STAT_PG_IN = 0 ∧ d.get F.PWR_EVT_PG_LOST = 1 ∧ d.clk.engDiv = 10 ∧
        d.get F.PWR_OP_STAT_PHASE = 5 ∧ d.get F.PWR_OP_STAT_VID = s.dev.get F.PWR_OP_STAT_VID ∧
        (d.switchOf 144).map (fun (w : Switch) => (w.src, w.div)) = some (1, 10))) ∧
    (∀ (s : State),
      s.dev.boot.inReset = true →
      s.dev.clk.blank = false →
      Does .pgLost s [] ([F.SYS_RAIL_STAT_PG_IN.key 0])
        (fun d => d.get F.SYS_RAIL_STAT_PG_IN = 0)) ∧
    (∀ (s : State),
      s.Running →
      s.dev.clk.blank = true →
      s.dev.Settled →
      Idles .pgLost s) ∧
    (∀ (s : State) (a : Fin 2),
      s.Running →
      s.dev.blockClosed (112 + a.val) = false →
      Does (.auxDivUpdate a) s [.clk] ([])
        (fun d => Store.get? d.clk.auxDiv a.val = some (auxClamp (s.dev.auxDivReg a.val)))) ∧
    (∀ (s : State) (a : Fin 2),
      s.Running →
      s.dev.blockClosed (112 + a.val) = false →
      Does (.auxSscUpdate a) s [.clk] ([])
        (fun d => Store.get? d.clk.auxSsc a.val = some (s.dev.auxSscReg a.val)))

/-- Step 2 probes the flash, reads the patch image where it responds, and completes with the Keeper running,
  its patch RAM holding the body of a valid patch and PATCHED and PATCH_VER set,
  or with warning 0x21 without one or without a flash that responds,
  or waits with code 0x90 for a host-held start; step 3 completes with the calibration image in force, from the RAM,
  the newer flash copy or factory defaults, LOADED says which, and what is missing or invalid in the flash gives its warning;
  step 4 waits with 0x40 for an input; step 5 completes with both multipliers locked and TOW running,
  unless a boot configuration or a Keeper that restarts intervenes,
  or start-up fails with 0x50 or 0x51; step 8 waits with 0x80 for a master; CONTINUE lets a held start go on and is refused in
  any other state; a restarted Keeper runs again, with the patch loaded or warning 0x21,
  and waits for that while the host owns the store port. In service the row of the locks sets MPL1_LOCK. Choices of the model
  on which this rests: log entries 8, 26, 27, 28, 29, 30, 34, 98, 101, 146 and 153. -/
def Obligations.StartUp : Prop :=
  (∀ (s : State) (image : Option (List Byte)) (found : FlashProbe),
      s.Running →
      s.dev.atStep 1 = true →
      s.dev.boot.bootsel = 0 →
      (flashMode found = none ∨ image.filter patchValid = none) →
      s.dev.mbx.req = none →
      s.dev.is F.CAL_CMD_GO = false →
      s.dev.is F.CAL_CMD_STORE = false →
      Does (.patchLoad image found) s [.flt, .nvs] (reportKeys ++ ([F.KPR_STAT_RUNNING.key 0, F.SYS_BOOT_STAT_STEP.key 0,
        F.SYS_BOOT_STAT_CODE.key 0, F.SYS_BOOT_STAT_WARN_PATCH.key 0]))
        (fun d => d.step = 2 ∧ d.get F.KPR_STAT_RUNNING = 1 ∧ d.get F.SYS_BOOT_STAT_CODE = 0 ∧
          d.get F.SYS_BOOT_STAT_WARN_PATCH = 1 ∧ (d.nvs =
          { s.dev.nvs with flash := (if found.idle && found.sfdp then some { four := decide (128 < found.mbit), quad := decide (found.method ≤ 6) } else none), keeper := if found.idle && found.sfdp then [.probe found, .first 0x80000, .image 0x80000 0x20000] else [.probe found] })
          ∧ s.dev.Reported d 0 0 0x21 0)) ∧
    (∀ (s : State) (image : Option (List Byte)) (found : FlashProbe),
      s.Running →
      s.dev.atStep 1 = true →
      2 ≤ s.dev.boot.bootsel →
      s.dev.mbx.req = none →
      s.dev.is F.CAL_CMD_GO = false →
      s.dev.is F.CAL_CMD_STORE = false →
      Does (.patchLoad image found) s [.flt, .nvs] (reportKeys ++ ([F.KPR_STAT_RUNNING.key 0, F.SYS_BOOT_STAT_STEP.key 0,
        F.SYS_BOOT_STAT_CODE.key 0]))
        (fun d => d.step = 2 ∧ d.get F.KPR_STAT_RUNNING = 1 ∧ d.bootCode = 0x90 ∧
          d.nvs = { s.dev.nvs with flash := (if found.idle && found.sfdp then some { four := decide (128 < found.mbit), quad := decide (found.method ≤ 6) } else none), keeper := [.probe found] }
          ∧ s.dev.Reported d 0 0 0x90 0)) ∧
    (∀ (s : State) (image : Option (List Byte)) (found : FlashProbe) (l : List Byte),
      s.Running →
      s.dev.atStep 1 = true →
      s.dev.boot.bootsel = 0 →
      (flashMode found).isSome = true →
      image.filter patchValid = some l →
      s.dev.mbx.req = none →
      s.dev.is F.CAL_CMD_GO = false →
      s.dev.is F.CAL_CMD_STORE = false →
      Does (.patchLoad image found) s [.kpr, .nvs] ([F.KPR_STAT_RUNNING.key 0, F.SYS_BOOT_STAT_STEP.key 0,
        F.SYS_BOOT_STAT_CODE.key 0, F.KPR_STAT_PATCHED.key 0, F.KPR_STAT_PATCH_VER.key 0])
        (fun d => d.step = 2 ∧ d.get F.KPR_STAT_RUNNING = 1 ∧ d.get F.SYS_BOOT_STAT_CODE = 0 ∧ d.get F.KPR_STAT_PATCHED = 1 ∧
          d.get F.KPR_STAT_PATCH_VER = leAt l 0xC 2 % 2 ^ 16 ∧ d.kpr =
          { s.dev.kpr with patch := (l.drop 16).take (leAt l 8 4) } ∧
          d.nvs = { s.dev.nvs with flash := (if found.idle && found.sfdp then some { four := decide (128 < found.mbit), quad := decide (found.method ≤ 6) } else none), keeper := [.probe found, .first 0x80000, .image 0x80000 0x20000] }))
          ∧
    (∀ (s : State) (image : Option (List Byte)) (found : FlashProbe),
      s.Running →
      s.dev.atStep 1 = true →
      s.dev.boot.bootsel = 1 →
      s.dev.mbx.req = none →
      s.dev.is F.CAL_CMD_GO = false →
      s.dev.is F.CAL_CMD_STORE = false →
      Does (.patchLoad image found) s [.boot] ([F.KPR_STAT_RUNNING.key 0, F.SYS_BOOT_STAT_STEP.key 0,
        F.SYS_BOOT_STAT_CODE.key 0])
        (fun d => d.step = 2 ∧ d.get F.KPR_STAT_RUNNING = 1 ∧ d.get F.SYS_BOOT_STAT_CODE = 0 ∧
          d.boot = { s.dev.boot with useFlash := false })) ∧
    (∀ (s : State) (image : Option (List Byte)) (found : FlashProbe),
      s.Running →
      s.dev.atStep 1 = false →
      Idles (.patchLoad image found) s) ∧
    (∀ (s : State) (flash : Option FlashImages),
      s.Running →
      s.dev.atStep 2 = true →
      s.dev.bootCode ≠ 0x90 →
      s.dev.keeperRuns = true →
      Answers (.calibrationLoad flash) s (fun d => 3 ≤ d.step ∧ (d.get F.CAL_STORE_STAT_LOADED =
        (if (s.dev.boot.warm && imgGood s.dev.cal.inForce) then 3 else ((if s.dev.boot.useFlash then (if s.dev.nvs.flash.isSome
        then flash else none).bind (fun (x : FlashImages) => newestCopy (copyStore x.a) (copyStore x.b)) else none).map (fun (x
        : Image × Nat) => x.2)).getD 0)) ∧ (d.cal.inForce = (if (s.dev.boot.warm && imgGood s.dev.cal.inForce) then
        s.dev.cal.inForce else ((if s.dev.boot.useFlash then (if s.dev.nvs.flash.isSome then flash else none).bind (fun (x :
        FlashImages) => newestCopy (copyStore x.a) (copyStore x.b)) else none).map (fun (x : Image × Nat) => sealImg x.1)).getD
        (sealImg {}))) ∧ (s.dev.boot.useFlash = true → (if s.dev.nvs.flash.isSome then flash else none) = none →
        d.get F.SYS_BOOT_STAT_WARN_NVS = 1) ∧ (s.dev.boot.useFlash = true →
        (if s.dev.nvs.flash.isSome then flash else none).isSome = true →
        (s.dev.boot.warm && imgGood s.dev.cal.inForce) = false → (if s.dev.boot.useFlash then (if s.dev.nvs.flash.isSome then
        flash else none).bind (fun (x : FlashImages) => newestCopy (copyStore x.a) (copyStore x.b)) else none) = none →
        d.get F.SYS_BOOT_STAT_WARN_CAL = 1) ∧ (s.dev.boot.useFlash = true →
        ∀ x : FlashImages, (if s.dev.nvs.flash.isSome then flash else none) = some x → bootImage x.boot = none →
        d.get F.SYS_BOOT_STAT_WARN_BOOTCFG = 1))) ∧
    (∀ (s : State) (flash : Option FlashImages),
      s.Running →
      (s.dev.atStep 2 = false ∨ s.dev.bootCode = 0x90 ∨ s.dev.keeperRuns = false) →
      Idles (.calibrationLoad flash) s) ∧
    (∀ (s : State) (x : FlashImages),
      s.Running →
      s.dev.atStep 2 = true →
      s.dev.bootCode ≠ 0x90 →
      s.dev.keeperRuns = true →
      s.dev.boot.useFlash = true →
      s.dev.nvs.flash.isSome = true →
      s.dev.boot.entries = [] →
      bootImage x.boot = none →
      Answers (.calibrationLoad (some x)) s (fun d => 3 ≤ d.step ∧
        d.nvs = { s.dev.nvs with keeper := (if (s.dev.boot.warm && imgGood s.dev.cal.inForce) then [] else [.image 0 0x20000, .image 0x20000 0x20000]) ++ [.image 0x40000 0x10000] }
        ∧ d.cal.pend = {})) ∧
    (∀ (s : State),
      s.Running →
      s.dev.atStep 2 = true →
      s.dev.bootCode = 0 →
      s.dev.keeperRuns = true →
      s.dev.boot.useFlash = false →
      s.dev.boot.warm = false →
      s.dev.boot.entries = [] →
      s.dev.ready (s.dev.get F.CLK_REF_CTRL_SEL) = false →
      s.dev.ready (1 - s.dev.get F.CLK_REF_CTRL_SEL) = false →
      s.dev.clk.opHeld = none →
      s.dev.RefRests →
      s.dev.clk.fell = [] →
      Does (.calibrationLoad none) s [.cal, .bandMap] ([F.SYS_BOOT_STAT_STEP.key 0, F.SYS_BOOT_STAT_CODE.key 0,
        F.CAL_STORE_STAT_LOADED.key 0])
        (fun d => d.step = 3 ∧ d.get F.CAL_STORE_STAT_LOADED = 0 ∧
          d.bandWord 5 0 0 = (if imgValid d.cal.inForce 3 5 then imgNum d.cal.inForce 4 (bandBase 5 0 0) % 2 ^ 32 else 0))) ∧
    (∀ (s : State),
      s.Running →
      s.dev.atStep 3 = true →
      s.dev.bootCode ≠ 0x40 →
      s.dev.ready 0 = false →
      s.dev.ready 1 = false →
      s.dev.kpr.restarting = false →
      Does .refAbsent s [.flt] (reportKeys ++ ([F.SYS_BOOT_STAT_CODE.key 0]))
        (fun d => d.bootCode = 0x40 ∧ d.step = 3 ∧ s.dev.Reported d 0 0 0x40 0)) ∧
    (∀ (s : State),
      s.Running →
      s.dev.bus.held = [] →
      s.dev.atStep 4 = true →
      s.dev.ready s.dev.activeXi = true →
      s.dev.boot.entries = [] →
      s.dev.domBusy 154 = false →
      s.dev.ready 5 = false →
      s.dev.curSrc 144 = 0 →
      s.dev.kpr.restarting = false →
      s.dev.clk.opHeld = none →
      s.dev.RefRests →
      s.dev.clk.fell = [] →
      Does .mplLock s [.tow] ([F.SYS_BOOT_STAT_STEP.key 0, F.SYS_BOOT_STAT_CODE.key 0, F.CLK_REF_STAT_MPL0_LOCK.key 0,
        F.CLK_REF_STAT_MPL1_LOCK.key 0])
        (fun d => d.step = 5 ∧ d.mpl0Lock = true ∧ d.get F.CLK_REF_STAT_MPL1_LOCK = 1 ∧
          d.tow = { s.dev.tow with running := true })) ∧
    (∀ (s : State),
      s.Running →
      s.dev.bus.held = [] →
      s.dev.atStep 4 = true →
      s.dev.ready s.dev.activeXi = true →
      s.dev.domBusy 154 = false →
      Answers .mplLock s (fun d => d.tow.running = true ∧ (s.dev.boot.entries = [] → d.mpl0Lock = true ∧
        d.get F.CLK_REF_STAT_MPL1_LOCK = 1 ∧ (s.dev.kpr.restarting = false → 5 ≤ d.step)))) ∧
    (∀ (s : State),
      s.Running →
      s.dev.bus.held = [] →
      s.dev.atStep 4 = false →
      s.dev.refBus = true →
      5 ≤ s.dev.step →
      Does .mplLock s [] ([F.CLK_REF_STAT_MPL1_LOCK.key 0])
        (fun d => d.get F.CLK_REF_STAT_MPL1_LOCK = 1)) ∧
    (∀ (s : State) (m : Bool),
      s.Running →
      s.dev.bus.held = [] →
      s.dev.atStep 4 = true →
      s.dev.kpr.restarting = false →
      Does (.mplLockTimeout m) s [.flt, .tow] (reportKeys ++ ([F.SYS_BOOT_STAT_CODE.key 0, F.SYS_BOOT_STAT_FAILED.key 0,
        F.CLK_REF_STAT_MPL0_LOCK.key 0]))
        (fun d => d.bootCode = (if m then 0x51 else 0x50) ∧ d.get F.SYS_BOOT_STAT_FAILED = 1 ∧
          d.mpl0Lock = (m || s.dev.mpl0Lock) ∧ s.dev.Reported d 0 0 (if m then 0x51 else 0x50) 0)) ∧
    (∀ (s : State),
      s.Running →
      s.dev.atStep 7 = true →
      s.dev.bootCode ≠ 0x80 →
      3 ≤ s.dev.role →
      s.dev.tow.phase = .source →
      s.dev.sourceOk = false →
      s.dev.kpr.restarting = false →
      Does .followerNoMaster s [.flt] (reportKeys ++ ([F.SYS_BOOT_STAT_CODE.key 0]))
        (fun d => d.bootCode = 0x80 ∧ s.dev.Reported d 0 0 0x80 0)) ∧
    (∀ (s : State) (image : Option (List Byte)),
      s.Running →
      s.dev.kpr.restarting = true →
      s.dev.boot.bootsel ≠ 0 →
      s.dev.tow.phase = .idle →
      s.dev.mbx.req = none →
      s.dev.is F.CAL_CMD_GO = false →
      s.dev.is F.CAL_CMD_STORE = false →
      s.dev.portInUse = false →
      s.dev.clk.fellBack = false →
      s.dev.is F.CLK_DOM_STAT_UNTRUSTED 154 = false →
      s.dev.Settled →
      Does (.keeperResume image) s [.kpr] ([F.KPR_STAT_RUNNING.key 0, F.TOW_STAT_SERVO_PAUSED.key 0])
        (fun d => d.kpr = { s.dev.kpr with restarting := false } ∧ d.get F.KPR_STAT_RUNNING = 1 ∧
          d.get F.TOW_STAT_SERVO_PAUSED = 0)) ∧
    (∀ (s : State) (image : Option (List Byte)),
      s.Running →
      s.dev.kpr.restarting = true →
      (s.dev.boot.bootsel ≠ 0 ∨ s.dev.nvsOwned = false) →
      (s.dev.boot.entries = [] ∨ 9 ≤ s.dev.step) →
      Answers (.keeperResume image) s (fun d => d.kpr.restarting = false ∧ d.get F.KPR_STAT_RUNNING = 1 ∧
        d.get F.TOW_STAT_SERVO_PAUSED = 0 ∧ (s.dev.boot.bootsel = 0 →
        (s.dev.nvs.flash = none ∨ image.filter patchValid = none) → d.get F.SYS_BOOT_STAT_WARN_PATCH = 1) ∧
        (s.dev.boot.bootsel = 0 → s.dev.nvs.flash.isSome = true → ∀ l : List Byte, image.filter patchValid = some l →
        d.get F.KPR_STAT_PATCHED = 1 ∧ d.kpr.patch = (l.drop 16).take (leAt l 8 4)))) ∧
    (∀ (s : State) (image : Option (List Byte)),
      s.Running →
      s.dev.kpr.restarting = true →
      s.dev.boot.bootsel = 0 →
      s.dev.nvsOwned = true →
      Idles (.keeperResume image) s) ∧
    (∀ (s : State) (image : Option (List Byte)),
      s.Running →
      s.dev.kpr.restarting = true →
      s.dev.boot.bootsel = 0 →
      s.dev.nvsOwned = false →
      s.dev.nvs.flash = none →
      s.dev.tow.phase = .idle →
      s.dev.mbx.req = none →
      s.dev.is F.CAL_CMD_GO = false →
      s.dev.is F.CAL_CMD_STORE = false →
      s.dev.portInUse = false →
      s.dev.clk.fellBack = false →
      s.dev.is F.CLK_DOM_STAT_UNTRUSTED 154 = false →
      s.dev.Settled →
      Does (.keeperResume image) s [.kpr, .flt] (reportKeys ++ ([F.KPR_STAT_RUNNING.key 0, F.TOW_STAT_SERVO_PAUSED.key 0,
        F.SYS_BOOT_STAT_WARN_PATCH.key 0]))
        (fun d => d.kpr = { s.dev.kpr with restarting := false } ∧ d.get F.KPR_STAT_RUNNING = 1 ∧
          d.get F.TOW_STAT_SERVO_PAUSED = 0 ∧ d.get F.SYS_BOOT_STAT_WARN_PATCH = 1 ∧ s.dev.Reported d 0 0 0x21 0)) ∧
    (∀ (s : State) (image : Option (List Byte)),
      s.Running →
      s.dev.kpr.restarting = false →
      Idles (.keeperResume image) s) ∧
    (∀ (s : State),
      s.Running →
      s.dev.mbxFor 0x81 = true →
      s.dev.keeperRuns = true →
      (s.dev.step ≠ 2 ∨ s.dev.bootCode ≠ 0x90) →
      Does .continueStart s [.mbx] ([F.MBX_DATA_WORD.key 0, F.MBX_DATA_WORD.key 1, F.MBX_DATA_WORD.key 2,
        F.MBX_DATA_WORD.key 3, F.MBX_STAT_VALID.key 0, F.MBX_STAT_RESULT.key 0, F.MBX_STAT_BUSY.key 0] ++ evKeys F.MBX_EVT_DONE)
        (fun d => d.get F.MBX_STAT_RESULT = 1 ∧ d.get F.MBX_STAT_BUSY = 0 ∧ d.get F.MBX_DATA_WORD 0 = 1 ∧
          d.mbx = ({} : Mailbox))) ∧
    (∀ (s : State),
      s.Running →
      s.dev.mbxFor 0x81 = true →
      s.dev.keeperRuns = true →
      s.dev.step = 2 →
      s.dev.bootCode = 0x90 →
      Does .continueStart s [.boot, .mbx] ([F.SYS_BOOT_STAT_CODE.key 0, F.MBX_DATA_WORD.key 0, F.MBX_DATA_WORD.key 1,
        F.MBX_DATA_WORD.key 2, F.MBX_DATA_WORD.key 3, F.MBX_STAT_VALID.key 0, F.MBX_STAT_RESULT.key 0,
        F.MBX_STAT_BUSY.key 0] ++ evKeys F.MBX_EVT_DONE)
        (fun d => d.bootCode = 0 ∧ d.boot.useFlash = (s.dev.mbx.args.getD 0 0).getLsbD 0 ∧ d.get F.MBX_STAT_RESULT = 1 ∧
          d.get F.MBX_STAT_BUSY = 0 ∧ d.get F.MBX_DATA_WORD 0 = 0 ∧ d.mbx = ({} : Mailbox)))

/-- The fault unit takes one report: of the cycle in hand, else of the next up to four of the queue in the order of R347. A
  report whose key no valid record has makes a record in the lowest free entry, with COUNT 1,
  or is lost and counted when none is free; one whose record is valid raises its count,
  stamps it and adds its reporter. With none waiting nothing happens. GO frees one record,
  CLEAR_ALL every one; a write of FLT_LOG_TAIL is taken mod 4096. Choices of the model on which this rests: log entries 8, 51,
  105 and 106. -/
def Obligations.FaultRecords : Prop :=
  (∀ (s : State) (f : BitVec 24) (r : Report) (t : List Report) (k : Nat),
      s.Running →
      (if s.dev.flt.batch = [] then Report.sortBatch s.dev.flt.queue else s.dev.flt.batch) = r :: t →
      s.dev.flt.records.find? (fun e => e.2.sameKey r) = none →
      s.dev.flt.freeEntry = some k →
      Does (.faultReport f) s [.flt] ([F.FLT_NEW_IDX_INDEX.key 0] ++ evKeys F.FLT_EVT_NEW_RECORD)
        (fun d => d.flt.batch = t ∧ d.flt.queue = (if s.dev.flt.batch = [] then s.dev.flt.queue.drop 4 else s.dev.flt.queue) ∧
          (d.flt.records = Store.set s.dev.flt.records k
          ({ cls := r.cls, src := r.src, code := r.code, count := 1, first := s.dev.stampOf r f, last := r.last?.elim (s.dev.stampOf r f) (fun p => { p }), reporters := 1#256 <<< r.reporter }
          : FaultRec)) ∧ d.get F.FLT_NEW_IDX_INDEX = k % 256 ∧ d.get F.FLT_EVT_NEW_RECORD = 1)) ∧
    (∀ (s : State) (f : BitVec 24) (r : Report) (t : List Report) (k : Nat) (x : FaultRec),
      s.Running →
      (if s.dev.flt.batch = [] then Report.sortBatch s.dev.flt.queue else s.dev.flt.batch) = r :: t →
      s.dev.flt.records.find? (fun e => e.2.sameKey r) = some (k, x) →
      Does (.faultReport f) s [.flt] ([])
        (fun d => d.flt.batch = t ∧ d.flt.queue = (if s.dev.flt.batch = [] then s.dev.flt.queue.drop 4 else s.dev.flt.queue) ∧
          (d.flt.records = Store.set s.dev.flt.records k
          { x with count := min 0xFFFF (x.count + 1), last := r.last?.elim (s.dev.stampOf r f) (fun p => { p }), reporters := x.reporters ||| (1#256 <<< r.reporter) })))
          ∧
    (∀ (s : State) (f : BitVec 24) (r : Report) (t : List Report),
      s.Running →
      (if s.dev.flt.batch = [] then Report.sortBatch s.dev.flt.queue else s.dev.flt.batch) = r :: t →
      s.dev.flt.records.find? (fun e => e.2.sameKey r) = none →
      s.dev.flt.freeEntry = none →
      Does (.faultReport f) s [.flt] (reportKeys)
        (fun d => d.flt.batch = t ∧ d.flt.queue = (if s.dev.flt.batch = [] then s.dev.flt.queue.drop 4 else s.dev.flt.queue) ∧
          d.flt.records = s.dev.flt.records ∧ d.get F.FLT_LOST_CNT_LOST = (s.dev.get F.FLT_LOST_CNT_LOST + 1) % 2 ^ 32 ∧
          d.get F.FLT_EVT_LOST = 1)) ∧
    (∀ (s : State) (f : BitVec 24),
      s.Running →
      s.dev.flt.batch = [] →
      s.dev.flt.queue = [] →
      Idles (.faultReport f) s) ∧
    (∀ (s : State) (v : Word) (k : Nat) (x : FaultRec),
      s.Running →
      bits v.toNat 7 0 = k →
      Store.get? s.dev.flt.records k = some x →
      Does (.fltClear v) s [.flt] ([F.FLT_CLEAR_INDEX.key 0])
        (fun d => Store.get? d.flt.records k = some { x with valid := false } ∧ d.get F.FLT_CLEAR_INDEX = k ∧
          d.flt = { s.dev.flt with records := d.flt.records })) ∧
    (∀ (s : State) (v : Word),
      s.Running →
      Store.get? s.dev.flt.records (bits v.toNat 7 0) = none →
      Does (.fltClear v) s [] ([F.FLT_CLEAR_INDEX.key 0])
        (fun d => d.get F.FLT_CLEAR_INDEX = bits v.toNat 7 0)) ∧
    (∀ (s : State) (v : Word),
      s.Running →
      Does (.clearAll v) s [.flt, .bus] ([F.FLT_CTRL_FAULTN_MASK.key 0, F.FLT_CTRL_IRQ_OUT_EN.key 0])
        (fun d => (d.flt.records.all (fun e => !e.2.valid) = true) ∧ d.flt = { s.dev.flt with records := d.flt.records } ∧
          d.get F.FLT_CTRL_FAULTN_MASK = bits v.toNat 31 16 ∧ d.get F.FLT_CTRL_IRQ_OUT_EN = bits v.toNat 0 0)) ∧
    (∀ (s : State) (v : Word),
      s.Running →
      Does (.fltLogTailWrite v) s [] ([F.FLT_LOG_TAIL_TAIL.key 0] ++ evKeys F.FLT_EVT_LOG_HIGH)
        (fun d => d.get F.FLT_LOG_TAIL_TAIL = v.toNat % 4096))

/-- A request for an object sets BUSY and clears VALID and RESULT; one for an object or index that no table lists,
  or for a Keeper command that the running Keeper does not know, ends with RESULT 2; a request while BUSY is refused with
  RESULT 4 and changes nothing else but OBJ and INDEX. A capture writes the four data words at once,
  with RESULT 1 and VALID; a core whose clock is stopped gives RESULT 3 and leaves the data words. Choices of the model on
  which this rests: log entries 26, 88, 104, 106 and 155. -/
def Obligations.MailboxRequests : Prop :=
  (∀ (s : State) (index : Byte),
      s.Running →
      index.toNat < 16 →
      s.dev.is F.MBX_STAT_BUSY = false →
      Does (.coreSettings index) s [.mbx] ([F.MBX_REQ_OBJ.key 0, F.MBX_REQ_INDEX.key 0, F.MBX_STAT_VALID.key 0,
        F.MBX_STAT_BUSY.key 0, F.MBX_STAT_RESULT.key 0])
        (fun d => d.mbx = ({ req := some (1, index.toNat) } : Mailbox) ∧ d.get F.MBX_REQ_OBJ = 1 ∧
          d.get F.MBX_REQ_INDEX = index.toNat ∧ d.get F.MBX_STAT_BUSY = 1 ∧ d.get F.MBX_STAT_VALID = 0 ∧
          d.get F.MBX_STAT_RESULT = 0)) ∧
    (∀ (s : State) (index : Byte),
      s.Running →
      s.dev.is F.MBX_STAT_BUSY = true →
      Does (.coreSettings index) s [] ([F.MBX_REQ_OBJ.key 0, F.MBX_REQ_INDEX.key 0, F.MBX_STAT_RESULT.key 0])
        (fun d => d.get F.MBX_STAT_RESULT = 4)) ∧
    (∀ (s : State) (index : Byte),
      s.Running →
      16 ≤ index.toNat →
      s.dev.is F.MBX_STAT_BUSY = false →
      Does (.coreSettings index) s [.mbx] ([F.MBX_REQ_OBJ.key 0, F.MBX_REQ_INDEX.key 0, F.MBX_STAT_VALID.key 0,
        F.MBX_STAT_BUSY.key 0, F.MBX_STAT_RESULT.key 0] ++ evKeys F.MBX_EVT_DONE)
        (fun d => d.get F.MBX_STAT_RESULT = 2 ∧ d.get F.MBX_STAT_BUSY = 0 ∧ d.get F.MBX_STAT_VALID = 0 ∧
          d.get F.MBX_EVT_DONE = 1 ∧ d.mbx = ({} : Mailbox))) ∧
    (∀ (s : State) (index : Byte),
      s.Running →
      index.toNat < 16 →
      s.dev.is F.MBX_STAT_BUSY = false →
      Does (.corePhase index) s [.mbx] ([F.MBX_REQ_OBJ.key 0, F.MBX_REQ_INDEX.key 0, F.MBX_STAT_VALID.key 0,
        F.MBX_STAT_BUSY.key 0, F.MBX_STAT_RESULT.key 0])
        (fun d => d.mbx = ({ req := some (2, index.toNat) } : Mailbox) ∧ d.get F.MBX_REQ_OBJ = 2 ∧
          d.get F.MBX_REQ_INDEX = index.toNat ∧ d.get F.MBX_STAT_BUSY = 1 ∧ d.get F.MBX_STAT_VALID = 0 ∧
          d.get F.MBX_STAT_RESULT = 0)) ∧
    (∀ (s : State) (index : Byte),
      s.Running →
      s.dev.is F.MBX_STAT_BUSY = true →
      Does (.corePhase index) s [] ([F.MBX_REQ_OBJ.key 0, F.MBX_REQ_INDEX.key 0, F.MBX_STAT_RESULT.key 0])
        (fun d => d.get F.MBX_STAT_RESULT = 4)) ∧
    (∀ (s : State) (index : Byte),
      s.Running →
      16 ≤ index.toNat →
      s.dev.is F.MBX_STAT_BUSY = false →
      Does (.corePhase index) s [.mbx] ([F.MBX_REQ_OBJ.key 0, F.MBX_REQ_INDEX.key 0, F.MBX_STAT_VALID.key 0,
        F.MBX_STAT_BUSY.key 0, F.MBX_STAT_RESULT.key 0] ++ evKeys F.MBX_EVT_DONE)
        (fun d => d.get F.MBX_STAT_RESULT = 2 ∧ d.get F.MBX_STAT_BUSY = 0 ∧ d.get F.MBX_STAT_VALID = 0 ∧
          d.get F.MBX_EVT_DONE = 1 ∧ d.mbx = ({} : Mailbox))) ∧
    (∀ (s : State) (index : Byte),
      s.Running →
      index.toNat = 0 →
      s.dev.is F.MBX_STAT_BUSY = false →
      Does (.time index) s [.mbx] ([F.MBX_REQ_OBJ.key 0, F.MBX_REQ_INDEX.key 0, F.MBX_STAT_VALID.key 0, F.MBX_STAT_BUSY.key 0,
        F.MBX_STAT_RESULT.key 0])
        (fun d => d.mbx = ({ req := some (16, index.toNat) } : Mailbox) ∧ d.get F.MBX_REQ_OBJ = 16 ∧
          d.get F.MBX_REQ_INDEX = index.toNat ∧ d.get F.MBX_STAT_BUSY = 1 ∧ d.get F.MBX_STAT_VALID = 0 ∧
          d.get F.MBX_STAT_RESULT = 0)) ∧
    (∀ (s : State) (index : Byte),
      s.Running →
      s.dev.is F.MBX_STAT_BUSY = true →
      Does (.time index) s [] ([F.MBX_REQ_OBJ.key 0, F.MBX_REQ_INDEX.key 0, F.MBX_STAT_RESULT.key 0])
        (fun d => d.get F.MBX_STAT_RESULT = 4)) ∧
    (∀ (s : State) (index : Byte),
      s.Running →
      index.toNat ≠ 0 →
      s.dev.is F.MBX_STAT_BUSY = false →
      Does (.time index) s [.mbx] ([F.MBX_REQ_OBJ.key 0, F.MBX_REQ_INDEX.key 0, F.MBX_STAT_VALID.key 0, F.MBX_STAT_BUSY.key 0,
        F.MBX_STAT_RESULT.key 0] ++ evKeys F.MBX_EVT_DONE)
        (fun d => d.get F.MBX_STAT_RESULT = 2 ∧ d.get F.MBX_STAT_BUSY = 0 ∧ d.get F.MBX_STAT_VALID = 0 ∧
          d.get F.MBX_EVT_DONE = 1 ∧ d.mbx = ({} : Mailbox))) ∧
    (∀ (s : State) (index : Byte),
      s.Running →
      index.toNat = 0 →
      s.dev.is F.MBX_STAT_BUSY = false →
      Does (.pps index) s [.mbx] ([F.MBX_REQ_OBJ.key 0, F.MBX_REQ_INDEX.key 0, F.MBX_STAT_VALID.key 0, F.MBX_STAT_BUSY.key 0,
        F.MBX_STAT_RESULT.key 0])
        (fun d => d.mbx = ({ req := some (17, index.toNat) } : Mailbox) ∧ d.get F.MBX_REQ_OBJ = 17 ∧
          d.get F.MBX_REQ_INDEX = index.toNat ∧ d.get F.MBX_STAT_BUSY = 1 ∧ d.get F.MBX_STAT_VALID = 0 ∧
          d.get F.MBX_STAT_RESULT = 0)) ∧
    (∀ (s : State) (index : Byte),
      s.Running →
      s.dev.is F.MBX_STAT_BUSY = true →
      Does (.pps index) s [] ([F.MBX_REQ_OBJ.key 0, F.MBX_REQ_INDEX.key 0, F.MBX_STAT_RESULT.key 0])
        (fun d => d.get F.MBX_STAT_RESULT = 4)) ∧
    (∀ (s : State) (index : Byte),
      s.Running →
      index.toNat ≠ 0 →
      s.dev.is F.MBX_STAT_BUSY = false →
      Does (.pps index) s [.mbx] ([F.MBX_REQ_OBJ.key 0, F.MBX_REQ_INDEX.key 0, F.MBX_STAT_VALID.key 0, F.MBX_STAT_BUSY.key 0,
        F.MBX_STAT_RESULT.key 0] ++ evKeys F.MBX_EVT_DONE)
        (fun d => d.get F.MBX_STAT_RESULT = 2 ∧ d.get F.MBX_STAT_BUSY = 0 ∧ d.get F.MBX_STAT_VALID = 0 ∧
          d.get F.MBX_EVT_DONE = 1 ∧ d.mbx = ({} : Mailbox))) ∧
    (∀ (s : State) (index : Byte),
      s.Running →
      index.toNat = 0 →
      s.dev.is F.MBX_STAT_BUSY = false →
      Does (.parent index) s [.mbx] ([F.MBX_REQ_OBJ.key 0, F.MBX_REQ_INDEX.key 0, F.MBX_STAT_VALID.key 0,
        F.MBX_STAT_BUSY.key 0, F.MBX_STAT_RESULT.key 0])
        (fun d => d.mbx = ({ req := some (18, index.toNat) } : Mailbox) ∧ d.get F.MBX_REQ_OBJ = 18 ∧
          d.get F.MBX_REQ_INDEX = index.toNat ∧ d.get F.MBX_STAT_BUSY = 1 ∧ d.get F.MBX_STAT_VALID = 0 ∧
          d.get F.MBX_STAT_RESULT = 0)) ∧
    (∀ (s : State) (index : Byte),
      s.Running →
      s.dev.is F.MBX_STAT_BUSY = true →
      Does (.parent index) s [] ([F.MBX_REQ_OBJ.key 0, F.MBX_REQ_INDEX.key 0, F.MBX_STAT_RESULT.key 0])
        (fun d => d.get F.MBX_STAT_RESULT = 4)) ∧
    (∀ (s : State) (index : Byte),
      s.Running →
      index.toNat ≠ 0 →
      s.dev.is F.MBX_STAT_BUSY = false →
      Does (.parent index) s [.mbx] ([F.MBX_REQ_OBJ.key 0, F.MBX_REQ_INDEX.key 0, F.MBX_STAT_VALID.key 0,
        F.MBX_STAT_BUSY.key 0, F.MBX_STAT_RESULT.key 0] ++ evKeys F.MBX_EVT_DONE)
        (fun d => d.get F.MBX_STAT_RESULT = 2 ∧ d.get F.MBX_STAT_BUSY = 0 ∧ d.get F.MBX_STAT_VALID = 0 ∧
          d.get F.MBX_EVT_DONE = 1 ∧ d.mbx = ({} : Mailbox))) ∧
    (∀ (s : State) (v : Word),
      s.Running →
      mbxUnknown (bits v.toNat 15 8) (bits v.toNat 7 0) = true →
      bits v.toNat 15 8 < 0x80 →
      s.dev.is F.MBX_STAT_BUSY = false →
      Does (.mbxUnknownObject v) s [.mbx] ([F.MBX_REQ_OBJ.key 0, F.MBX_REQ_INDEX.key 0, F.MBX_STAT_VALID.key 0,
        F.MBX_STAT_BUSY.key 0, F.MBX_STAT_RESULT.key 0] ++ evKeys F.MBX_EVT_DONE)
        (fun d => d.get F.MBX_STAT_RESULT = 2 ∧ d.get F.MBX_STAT_BUSY = 0 ∧ d.get F.MBX_STAT_VALID = 0 ∧
          d.get F.MBX_EVT_DONE = 1 ∧ d.mbx = ({} : Mailbox))) ∧
    (∀ (s : State) (v : Word),
      s.Running →
      mbxUnknown (bits v.toNat 15 8) (bits v.toNat 7 0) = true →
      0x80 ≤ bits v.toNat 15 8 →
      s.dev.is F.MBX_STAT_BUSY = false →
      s.dev.keeperRuns = true →
      Does (.mbxUnknownObject v) s [.mbx] ([F.MBX_REQ_OBJ.key 0, F.MBX_REQ_INDEX.key 0, F.MBX_STAT_VALID.key 0,
        F.MBX_STAT_BUSY.key 0, F.MBX_STAT_RESULT.key 0] ++ evKeys F.MBX_EVT_DONE)
        (fun d => d.get F.MBX_STAT_RESULT = 2 ∧ d.get F.MBX_STAT_BUSY = 0 ∧ d.get F.MBX_STAT_VALID = 0 ∧
          d.get F.MBX_EVT_DONE = 1 ∧ d.mbx = ({} : Mailbox))) ∧
    (∀ (s : State) (v : Word),
      s.Running →
      mbxUnknown (bits v.toNat 15 8) (bits v.toNat 7 0) = true →
      0x80 ≤ bits v.toNat 15 8 →
      s.dev.is F.MBX_STAT_BUSY = false →
      s.dev.keeperRuns = false →
      Does (.mbxUnknownObject v) s [.mbx] ([F.MBX_REQ_OBJ.key 0, F.MBX_REQ_INDEX.key 0, F.MBX_STAT_VALID.key 0,
        F.MBX_STAT_BUSY.key 0, F.MBX_STAT_RESULT.key 0])
        (fun d => d.get F.MBX_STAT_RESULT = 0 ∧ d.get F.MBX_STAT_BUSY = 1 ∧ d.get F.MBX_STAT_VALID = 0 ∧
          d.mbx = ({ req := some (bits v.toNat 15 8, bits v.toNat 7 0) } : Mailbox))) ∧
    (∀ (s : State) (v : Word),
      s.Running →
      mbxUnknown (bits v.toNat 15 8) (bits v.toNat 7 0) = true →
      s.dev.is F.MBX_STAT_BUSY = true →
      Does (.mbxUnknownObject v) s [] ([F.MBX_REQ_OBJ.key 0, F.MBX_REQ_INDEX.key 0, F.MBX_STAT_RESULT.key 0])
        (fun d => d.get F.MBX_STAT_RESULT = 4)) ∧
    (∀ (s : State) (f : BitVec 24),
      s.Running →
      s.dev.mbx.req = some (16, 0) →
      s.dev.tow.running = true →
      Does (.mbxCaptureDone f) s [.mbx] ([F.MBX_DATA_WORD.key 0, F.MBX_DATA_WORD.key 1, F.MBX_DATA_WORD.key 2,
        F.MBX_DATA_WORD.key 3, F.MBX_STAT_VALID.key 0, F.MBX_STAT_RESULT.key 0, F.MBX_STAT_BUSY.key 0] ++ evKeys F.MBX_EVT_DONE)
        (fun d => d.get F.MBX_DATA_WORD 0 = s.dev.tow.pound.toNat % 2 ^ 32 ∧
          d.get F.MBX_DATA_WORD 1 = s.dev.tow.pound.toNat / 2 ^ 32 ∧ d.get F.MBX_DATA_WORD 2 = f.toNat * 256 ∧
          d.get F.MBX_DATA_WORD 3 = ofBool s.dev.todValid * 4 + ofBool s.dev.towHold * 2 + ofBool s.dev.towAligned ∧
          d.get F.MBX_STAT_VALID = 1 ∧ d.get F.MBX_STAT_RESULT = 1 ∧ d.get F.MBX_STAT_BUSY = 0 ∧ d.get F.MBX_EVT_DONE = 1 ∧
          d.mbx.req = none)) ∧
    (∀ (s : State) (f : BitVec 24) (o c : Nat) (w0 w1 w2 w3 : Word),
      s.Running →
      s.dev.mbx.req = some (o, c) →
      (o = 1 ∨ o = 2) →
      s.dev.mbx.words = some [w0, w1, w2, w3] →
      Does (.mbxCaptureDone f) s [.mbx] ([F.MBX_DATA_WORD.key 0, F.MBX_DATA_WORD.key 1, F.MBX_DATA_WORD.key 2,
        F.MBX_DATA_WORD.key 3, F.MBX_STAT_VALID.key 0, F.MBX_STAT_RESULT.key 0, F.MBX_STAT_BUSY.key 0] ++ evKeys F.MBX_EVT_DONE)
        (fun d => d.get F.MBX_DATA_WORD 0 = w0.toNat ∧ d.get F.MBX_DATA_WORD 1 = w1.toNat ∧
          d.get F.MBX_DATA_WORD 2 = w2.toNat ∧ d.get F.MBX_DATA_WORD 3 = w3.toNat ∧ d.get F.MBX_STAT_VALID = 1 ∧
          d.get F.MBX_STAT_RESULT = 1 ∧ d.get F.MBX_STAT_BUSY = 0)) ∧
    (∀ (s : State) (f : BitVec 24),
      s.Running →
      s.dev.mbx.req = some (0x11, 0) →
      s.dev.tow.running = true →
      Does (.mbxCaptureDone f) s [.mbx] ([F.MBX_DATA_WORD.key 0, F.MBX_DATA_WORD.key 1, F.MBX_DATA_WORD.key 2,
        F.MBX_DATA_WORD.key 3, F.MBX_STAT_VALID.key 0, F.MBX_STAT_RESULT.key 0, F.MBX_STAT_BUSY.key 0] ++ evKeys F.MBX_EVT_DONE)
        (fun d => d.get F.MBX_DATA_WORD 0 = (s.dev.ppsWords.getD 0 0).toNat ∧
          d.get F.MBX_DATA_WORD 1 = (s.dev.ppsWords.getD 1 0).toNat ∧
          d.get F.MBX_DATA_WORD 2 = (s.dev.ppsWords.getD 2 0).toNat ∧
          d.get F.MBX_DATA_WORD 3 = (s.dev.ppsWords.getD 3 0).toNat ∧ d.get F.MBX_STAT_VALID = 1 ∧
          d.get F.MBX_STAT_RESULT = 1 ∧ d.get F.MBX_STAT_BUSY = 0 ∧ d.get F.MBX_EVT_DONE = 1 ∧ d.mbx = ({} : Mailbox))) ∧
    (∀ (s : State) (f : BitVec 24),
      s.Running →
      s.dev.mbx.req = some (0x12, 0) →
      s.dev.keeperRuns = true →
      Does (.mbxCaptureDone f) s [.mbx] ([F.MBX_DATA_WORD.key 0, F.MBX_DATA_WORD.key 1, F.MBX_DATA_WORD.key 2,
        F.MBX_DATA_WORD.key 3, F.MBX_STAT_VALID.key 0, F.MBX_STAT_RESULT.key 0, F.MBX_STAT_BUSY.key 0] ++ evKeys F.MBX_EVT_DONE)
        (fun d => d.get F.MBX_DATA_WORD 0 = (s.dev.parentWords.getD 0 0).toNat ∧
          d.get F.MBX_DATA_WORD 1 = (s.dev.parentWords.getD 1 0).toNat ∧
          d.get F.MBX_DATA_WORD 2 = (s.dev.parentWords.getD 2 0).toNat ∧
          d.get F.MBX_DATA_WORD 3 = (s.dev.parentWords.getD 3 0).toNat ∧ d.get F.MBX_STAT_VALID = 1 ∧
          d.get F.MBX_STAT_RESULT = 1 ∧ d.get F.MBX_STAT_BUSY = 0 ∧ d.get F.MBX_EVT_DONE = 1 ∧ d.mbx = ({} : Mailbox))) ∧
    (∀ (s : State) (o c : Nat),
      s.Running →
      s.dev.mbx.req = some (o, c) →
      (o = 1 ∨ o = 2) →
      s.dev.mbx.words = none →
      s.dev.loopRuns c = false →
      (2 ≤ s.dev.mbx.pounds ∨ s.dev.tow.running = false) →
      Does .mbxCaptureTimeout s [.mbx] ([F.MBX_STAT_RESULT.key 0, F.MBX_STAT_BUSY.key 0] ++ evKeys F.MBX_EVT_DONE)
        (fun d => d.get F.MBX_STAT_RESULT = 3 ∧ d.get F.MBX_STAT_BUSY = 0 ∧ d.get F.MBX_EVT_DONE = 1 ∧ d.mbx = ({} : Mailbox)))

/-- A Keeper command ends with RESULT 1 and its status in DATA0: VERSION answers its words; a wharf command for a lane that
  leads no wharf has status 2, and EMIT_WHARF of a wharf that is not trained status 1; TRAIN_WHARF of a wharf completes with
  status 0, its lanes in QUIET and WAIT starting their attempts with k 0; EMIT_WHARF of a trained wharf lists its Berths for
  the Keeper to submit, and completes at once when it has none; PTP_RESTART returns the client to INITIALIZING,
  with status 1 outside client mode. Choices of the model on which this rests: log entries 26, 88, 91, 94 and 104. -/
def Obligations.KeeperCommands : Prop :=
  (∀ (s : State),
      s.Running →
      s.dev.keeperRuns = true →
      s.dev.mbxFor 0x80 = true →
      Does .version s [.mbx] ([F.MBX_DATA_WORD.key 0, F.MBX_DATA_WORD.key 1, F.MBX_DATA_WORD.key 2, F.MBX_DATA_WORD.key 3,
        F.MBX_STAT_VALID.key 0, F.MBX_STAT_RESULT.key 0, F.MBX_STAT_BUSY.key 0] ++ evKeys F.MBX_EVT_DONE)
        (fun d => d.get F.MBX_DATA_WORD 0 = 0 ∧ d.get F.MBX_DATA_WORD 1 =
          (Config.romRev.toNat * 2 ^ 16 + s.dev.get F.KPR_STAT_PATCH_VER) % 2 ^ 32 ∧
          d.get F.MBX_DATA_WORD 2 = (s.dev.boot.seq.getD 0).toNat ∧ d.get F.MBX_STAT_RESULT = 1 ∧ d.get F.MBX_STAT_VALID = 1 ∧
          d.get F.MBX_STAT_BUSY = 0)) ∧
    (∀ (s : State),
      s.Running →
      s.dev.keeperRuns = true →
      s.dev.mbxFor 0x82 = true →
      s.dev.mbx.emitting = false →
      s.dev.wharfOf s.dev.mbxIndex ≠ s.dev.mbxIndex →
      Does .trainWharf s [.mbx] ([F.MBX_DATA_WORD.key 0, F.MBX_DATA_WORD.key 1, F.MBX_DATA_WORD.key 2, F.MBX_DATA_WORD.key 3,
        F.MBX_STAT_VALID.key 0, F.MBX_STAT_RESULT.key 0, F.MBX_STAT_BUSY.key 0] ++ evKeys F.MBX_EVT_DONE)
        (fun d => d.get F.MBX_DATA_WORD 0 = 2 ∧ d.get F.MBX_STAT_RESULT = 1)) ∧
    (∀ (s : State),
      s.Running →
      s.dev.keeperRuns = true →
      s.dev.mbxFor 0x83 = true →
      s.dev.mbx.emitting = false →
      s.dev.wharfOf s.dev.mbxIndex ≠ s.dev.mbxIndex →
      Does .emitWharf s [.mbx] ([F.MBX_DATA_WORD.key 0, F.MBX_DATA_WORD.key 1, F.MBX_DATA_WORD.key 2, F.MBX_DATA_WORD.key 3,
        F.MBX_STAT_VALID.key 0, F.MBX_STAT_RESULT.key 0, F.MBX_STAT_BUSY.key 0] ++ evKeys F.MBX_EVT_DONE)
        (fun d => d.get F.MBX_DATA_WORD 0 = 2 ∧ d.get F.MBX_STAT_RESULT = 1)) ∧
    (∀ (s : State),
      s.Running →
      s.dev.keeperRuns = true →
      s.dev.mbxFor 0x82 = true →
      s.dev.wharfOf s.dev.mbxIndex = s.dev.mbxIndex →
      (s.dev.wharfLanes s.dev.mbxIndex).all (fun n => decide (s.dev.laneState n ≠ 8 ∧ s.dev.laneState n ≠ 1)) = true →
      Does .trainWharf s [.mbx] ([F.MBX_DATA_WORD.key 0, F.MBX_DATA_WORD.key 1, F.MBX_DATA_WORD.key 2, F.MBX_DATA_WORD.key 3,
        F.MBX_STAT_VALID.key 0, F.MBX_STAT_RESULT.key 0, F.MBX_STAT_BUSY.key 0] ++ evKeys F.MBX_EVT_DONE)
        (fun d => d.get F.MBX_DATA_WORD 0 = 0 ∧ d.get F.MBX_STAT_RESULT = 1 ∧ d.get F.MBX_STAT_BUSY = 0)) ∧
    (∀ (s : State),
      s.Running →
      s.dev.keeperRuns = true →
      s.dev.mbxFor 0x82 = true →
      s.dev.wharfOf s.dev.mbxIndex = s.dev.mbxIndex →
      Answers .trainWharf s (fun d => d.get F.MBX_DATA_WORD 0 = 0 ∧ d.get F.MBX_STAT_RESULT = 1 ∧ d.get F.MBX_STAT_BUSY = 0 ∧
        d.get F.MBX_STAT_VALID = 1 ∧ ((s.dev.wharfLanes s.dev.mbxIndex).all (fun n => !(s.dev.laneState n == 8 ||
        s.dev.laneState n == 1) || (d.get F.LANE_STAT_BACKOFF_K n == 0 && d.laneState n != 8)) = true))) ∧
    (∀ (s : State),
      s.Running →
      s.dev.keeperRuns = true →
      s.dev.mbxFor 0x83 = true →
      s.dev.mbx.emitting = false →
      s.dev.wharfOf s.dev.mbxIndex = s.dev.mbxIndex →
      s.dev.wharfTrained s.dev.mbxIndex = false →
      Does .emitWharf s [.mbx] ([F.MBX_DATA_WORD.key 0, F.MBX_DATA_WORD.key 1, F.MBX_DATA_WORD.key 2, F.MBX_DATA_WORD.key 3,
        F.MBX_STAT_VALID.key 0, F.MBX_STAT_RESULT.key 0, F.MBX_STAT_BUSY.key 0] ++ evKeys F.MBX_EVT_DONE)
        (fun d => d.get F.MBX_DATA_WORD 0 = 1 ∧ d.get F.MBX_STAT_RESULT = 1)) ∧
    (∀ (s : State) (b : Nat) (l : List Nat),
      s.Running →
      s.dev.keeperRuns = true →
      s.dev.mbxFor 0x83 = true →
      s.dev.mbx.emitting = false →
      s.dev.wharfOf s.dev.mbxIndex = s.dev.mbxIndex →
      s.dev.wharfTrained s.dev.mbxIndex = true →
      s.dev.berthsOf s.dev.mbxIndex = b :: l →
      Does .emitWharf s [.kpr, .mbx] ([])
        (fun d => (d.kpr = { s.dev.kpr with emits := s.dev.kpr.emits ++ (b :: l).map (fun x => (x, false)) }) ∧
          d.mbx = { s.dev.mbx with emitting := true })) ∧
    (∀ (s : State),
      s.Running →
      s.dev.keeperRuns = true →
      s.dev.mbxFor 0x83 = true →
      s.dev.mbx.emitting = false →
      s.dev.wharfOf s.dev.mbxIndex = s.dev.mbxIndex →
      s.dev.wharfTrained s.dev.mbxIndex = true →
      s.dev.berthsOf s.dev.mbxIndex = [] →
      s.dev.kpr.emits = [] →
      Does .emitWharf s [.mbx, .kpr] ([F.MBX_DATA_WORD.key 0, F.MBX_DATA_WORD.key 1, F.MBX_DATA_WORD.key 2,
        F.MBX_DATA_WORD.key 3, F.MBX_STAT_VALID.key 0, F.MBX_STAT_RESULT.key 0, F.MBX_STAT_BUSY.key 0] ++ evKeys F.MBX_EVT_DONE)
        (fun d => d.get F.MBX_DATA_WORD 0 = 0 ∧ d.get F.MBX_STAT_RESULT = 1 ∧ d.get F.MBX_STAT_BUSY = 0)) ∧
    (∀ (s : State),
      s.Running →
      s.dev.keeperRuns = true →
      s.dev.mbxFor 0x84 = true →
      s.dev.get F.TPT_CTRL_MODE ≠ 1 →
      Does .ptpRestart s [.mbx] ([F.MBX_DATA_WORD.key 0, F.MBX_DATA_WORD.key 1, F.MBX_DATA_WORD.key 2, F.MBX_DATA_WORD.key 3,
        F.MBX_STAT_VALID.key 0, F.MBX_STAT_RESULT.key 0, F.MBX_STAT_BUSY.key 0] ++ evKeys F.MBX_EVT_DONE)
        (fun d => d.get F.MBX_DATA_WORD 0 = 1 ∧ d.get F.MBX_STAT_RESULT = 1)) ∧
    (∀ (s : State),
      s.Running →
      s.dev.keeperRuns = true →
      s.dev.mbxFor 0x84 = true →
      s.dev.get F.TPT_CTRL_MODE = 1 →
      s.dev.portInUse = true →
      Answers .ptpRestart s (fun d => d.get F.MBX_DATA_WORD 0 = 0 ∧ d.get F.MBX_STAT_RESULT = 1 ∧
        d.get F.TPT_STAT_PORT_STATE = 1 ∧ d.tpt.ptp.parent = none))

/-- A word pushed alone, or with the word held before it, is accepted for the present pound with room, counted,
  and enters the queue, or is counted and rejected at once under R154; with LONG and none held it is held; without room it is
  refused and counted, nothing accepted, a held word gone. A release moves up to 8 commands from the head into slices,
  at least one when the head is no FENCE, eligible, not late and its slice not full; it leaves the queue as it is at a FENCE or
  a command not eligible or late, sets SLICE_FULL at a full slice, and drops and counts a head that reads uncorrectable,
  with its record. A FLUSH rejects every queued command and the held word; a reset of the queue discards them; both end a held
  FENCE. Choices of the model on which this rests: log entries 6, 69, 71 and 72. -/
def Obligations.HostQueue : Prop :=
  (∀ (s : State) (g : Fin 32) (v : Word) (w : BitVec 128),
      s.Running →
      s.dev.eng.hcqHeld = none →
      w = ((s.dev.put F.ENG_HCQ_WIN_WORD (4 * g.val + 3) v.toNat).windowGroup g.val) →
      cmdLong w = false →
      wordsOf s.dev.eng.hcq ≤ 511 →
      acceptCode 0 w none s.dev.tow.pound = none →
      Does (.hcqPush g v) s [.eng] ([F.ENG_HCQ_WIN_WORD.key (4 * g.val + 3)] ++ evKeys F.ENG_EVT_HCQ_HIGH ++
        evKeys F.ENG_EVT_HCQ_LOW)
        (fun d => d.eng.hcq = s.dev.eng.hcq ++
          [({ w1 := w, w2 := 0, words := 1, src := 0, seq := (s.dev.eng.counts0.accepted + 1).truncate 16, t := BitVec.ofInt 64 (resolveT 0 w s.dev.tow.pound), acc := s.dev.tow.pound }
          : Cmd)] ∧ d.eng.counts0 = s.dev.eng.counts0.accept ∧ d.eng =
          { s.dev.eng with hcq := d.eng.hcq, counts0 := d.eng.counts0, hcqHighTripped := d.eng.hcqHighTripped })) ∧
    (∀ (s : State) (g : Fin 32) (v : Word) (w : BitVec 128) (code : Code),
      s.Running →
      s.dev.eng.hcqHeld = none →
      w = ((s.dev.put F.ENG_HCQ_WIN_WORD (4 * g.val + 3) v.toNat).windowGroup g.val) →
      cmdLong w = false →
      wordsOf s.dev.eng.hcq ≤ 511 →
      acceptCode 0 w none s.dev.tow.pound = some code →
      Does (.hcqPush g v) s [.eng, .flt] ([F.ENG_HCQ_WIN_WORD.key (4 * g.val + 3)] ++ [F.FLT_LOG_HEAD_HEAD.key 0,
        F.FLT_LOG_LOST_CNT_LOST.key 0] ++ evKeys F.FLT_EVT_LOG_LOST ++ evKeys F.FLT_EVT_LOG_HIGH)
        (fun d => d.eng = { s.dev.eng with counts0 := s.dev.eng.counts0.acceptReject (code == 1) })) ∧
    (∀ (s : State) (g : Fin 32) (v : Word) (w : BitVec 128),
      s.Running →
      s.dev.eng.hcqHeld = none →
      w = ((s.dev.put F.ENG_HCQ_WIN_WORD (4 * g.val + 3) v.toNat).windowGroup g.val) →
      cmdLong w = true →
      Does (.hcqPush g v) s [.eng] ([F.ENG_HCQ_WIN_WORD.key (4 * g.val + 3)])
        (fun d => d.eng = { s.dev.eng with hcqHeld := some w })) ∧
    (∀ (s : State) (g : Fin 32) (v : Word) (w : BitVec 128) (f : BitVec 128),
      s.Running →
      s.dev.eng.hcqHeld = some f →
      w = ((s.dev.put F.ENG_HCQ_WIN_WORD (4 * g.val + 3) v.toNat).windowGroup g.val) →
      wordsOf s.dev.eng.hcq ≤ 510 →
      acceptCode 0 f (some w) s.dev.tow.pound = none →
      Does (.hcqPush g v) s [.eng] ([F.ENG_HCQ_WIN_WORD.key (4 * g.val + 3)] ++ evKeys F.ENG_EVT_HCQ_HIGH ++
        evKeys F.ENG_EVT_HCQ_LOW)
        (fun d => d.eng.hcq = s.dev.eng.hcq ++
          [({ w1 := f, w2 := w.truncate 64, words := 2, src := 0, seq := (s.dev.eng.counts0.accepted + 1).truncate 16, t := BitVec.ofInt 64 (resolveT 0 f s.dev.tow.pound), acc := s.dev.tow.pound }
          : Cmd)] ∧ d.eng.counts0 = s.dev.eng.counts0.accept ∧ d.eng =
          { s.dev.eng with hcqHeld := none, hcq := d.eng.hcq, counts0 := d.eng.counts0, hcqHighTripped := d.eng.hcqHighTripped }))
          ∧
    (∀ (s : State) (g : Fin 32) (v : Word) (w : BitVec 128) (f : BitVec 128) (code : Code),
      s.Running →
      s.dev.eng.hcqHeld = some f →
      w = ((s.dev.put F.ENG_HCQ_WIN_WORD (4 * g.val + 3) v.toNat).windowGroup g.val) →
      wordsOf s.dev.eng.hcq ≤ 510 →
      acceptCode 0 f (some w) s.dev.tow.pound = some code →
      Does (.hcqPush g v) s [.eng, .flt] ([F.ENG_HCQ_WIN_WORD.key (4 * g.val + 3)] ++ [F.FLT_LOG_HEAD_HEAD.key 0,
        F.FLT_LOG_LOST_CNT_LOST.key 0] ++ evKeys F.FLT_EVT_LOG_LOST ++ evKeys F.FLT_EVT_LOG_HIGH)
        (fun d => d.eng = { s.dev.eng with hcqHeld := none, counts0 := s.dev.eng.counts0.acceptReject (code == 1) })) ∧
    (∀ (s : State) (g : Fin 32) (v : Word) (w : BitVec 128),
      s.Running →
      s.dev.eng.hcqHeld = none →
      w = ((s.dev.put F.ENG_HCQ_WIN_WORD (4 * g.val + 3) v.toNat).windowGroup g.val) →
      cmdLong w = false →
      512 ≤ wordsOf s.dev.eng.hcq →
      Does (.hcqPush g v) s [.eng] ([F.ENG_HCQ_WIN_WORD.key (4 * g.val + 3),
        F.ENG_HCQ_REFUSED_CNT_REFUSED.key 0] ++ evKeys F.ENG_EVT_HCQ_REFUSED)
        (fun d => d.eng = { s.dev.eng with hcqHeld := none } ∧ d.get F.ENG_HCQ_REFUSED_CNT_REFUSED =
          (s.dev.get F.ENG_HCQ_REFUSED_CNT_REFUSED + 1) % 2 ^ 32 ∧ d.get F.ENG_EVT_HCQ_REFUSED = 1)) ∧
    (∀ (s : State) (g : Fin 32) (v : Word) (f : BitVec 128),
      s.Running →
      s.dev.eng.hcqHeld = some f →
      511 ≤ wordsOf s.dev.eng.hcq →
      Does (.hcqPush g v) s [.eng] ([F.ENG_HCQ_WIN_WORD.key (4 * g.val + 3),
        F.ENG_HCQ_REFUSED_CNT_REFUSED.key 0] ++ evKeys F.ENG_EVT_HCQ_REFUSED)
        (fun d => d.eng = { s.dev.eng with hcqHeld := none } ∧ d.get F.ENG_HCQ_REFUSED_CNT_REFUSED =
          (s.dev.get F.ENG_HCQ_REFUSED_CNT_REFUSED + 1) % 2 ^ 32 ∧ d.get F.ENG_EVT_HCQ_REFUSED = 1)) ∧
    (∀ (s : State) (up : Upset) (c : Cmd) (t : List Cmd),
      s.Running →
      up.queue = false →
      s.dev.resetBusy = false →
      s.dev.hold 0 = none →
      s.dev.eng.hcq = c :: t →
      cmdOp c.w1 ≠ 8 →
      c.eligible s.dev.tow.pound = true →
      c.isLate s.dev.tow.pound = false →
      s.dev.sliceFull (ownerOf (cmdBerth c.w1)) = false →
      Answers (.hcqRelease up) s (fun d => d.eng.hcq = s.dev.eng.hcq.drop (s.dev.eng.hcq.length - d.eng.hcq.length) ∧
        1 ≤ (s.dev.eng.hcq.length - d.eng.hcq.length) ∧ (s.dev.eng.hcq.length - d.eng.hcq.length) ≤ 8 ∧
        d.eng.entered = s.dev.eng.entered + (s.dev.eng.hcq.length - d.eng.hcq.length) ∧ d.eng.flights = s.dev.eng.flights ∧
        d.eng.counts0 = s.dev.eng.counts0 ∧ d.eng.counts1 = s.dev.eng.counts1 ∧ d.eng.counts2 = s.dev.eng.counts2 ∧
        d.eng.counts3 = s.dev.eng.counts3)) ∧
    (∀ (s : State) (up : Upset) (c : Cmd),
      s.Running →
      up.queue = false →
      s.dev.resetBusy = false →
      s.dev.hold 0 = none →
      s.dev.eng.hcq = [c] →
      cmdOp c.w1 ≠ 8 →
      c.eligible s.dev.tow.pound = true →
      c.isLate s.dev.tow.pound = false →
      s.dev.sliceFull (ownerOf (cmdBerth c.w1)) = false →
      Does (.hcqRelease up) s [.eng] ([F.ENG_SLICE_STAT_MAX_DEPTH.key (ownerOf (cmdBerth c.w1))] ++
        evKeys F.ENG_EVT_HCQ_HIGH ++ evKeys F.ENG_EVT_HCQ_LOW)
        (fun d => d.eng.hcq = [] ∧ (d.engine (ownerOf (cmdBerth c.w1))).slice =
          (s.dev.engine (ownerOf (cmdBerth c.w1))).slice ++ [({ c with entry := s.dev.eng.entered } : Cmd)])) ∧
    (∀ (s : State) (up : Upset) (c : Cmd) (t : List Cmd),
      s.Running →
      up.queue = false →
      s.dev.resetBusy = false →
      s.dev.hold 0 = none →
      s.dev.eng.hcq = c :: t →
      (cmdOp c.w1 = 8 ∨ c.eligible s.dev.tow.pound = false ∨ c.isLate s.dev.tow.pound = true) →
      Idles (.hcqRelease up) s) ∧
    (∀ (s : State) (up : Upset) (c : Cmd) (t : List Cmd),
      s.Running →
      up.queue = false →
      s.dev.resetBusy = false →
      s.dev.hold 0 = none →
      s.dev.eng.hcq = c :: t →
      cmdOp c.w1 ≠ 8 →
      c.eligible s.dev.tow.pound = true →
      c.isLate s.dev.tow.pound = false →
      s.dev.sliceFull (ownerOf (cmdBerth c.w1)) = true →
      Does (.hcqRelease up) s [] (evKeys F.ENG_EVT_SLICE_FULL)
        (fun d => d.eng.hcq = s.dev.eng.hcq ∧ d.get F.ENG_EVT_SLICE_FULL = 1)) ∧
    (∀ (s : State) (up : Upset) (c : Cmd) (t : List Cmd),
      s.Running →
      up.queue = true →
      s.dev.resetBusy = false →
      s.dev.hold 0 = none →
      s.dev.eng.hcq = c :: t →
      Does (.hcqRelease up) s [.eng, .flt] (reportKeys ++ (evKeys F.ENG_EVT_SLICE_UNCORR ++ [F.ENG_FENCE_FLAGS_VALID.key 0,
        F.ENG_FENCE_STAT_PASSED.key 0, F.ENG_FENCE_STAT_PASSED.key 1, F.ENG_FENCE_STAT_PASSED.key 2,
        F.ENG_FENCE_STAT_PASSED.key 3] ++ evKeys F.ENG_EVT_HCQ_HIGH ++ evKeys F.ENG_EVT_HCQ_LOW))
        (fun d => d.eng.hcq = t ∧ d.eng.counts (if up.noSource then 0 else c.src) =
          (s.dev.eng.counts (if up.noSource then 0 else c.src)).discard ∧ d.get F.ENG_EVT_SLICE_UNCORR = 1 ∧
          s.dev.Reported d 5 0 3 64)) ∧
    (∀ (s : State) (v : Word),
      s.Running →
      s.dev.eng.hcq.all (fun (c : Cmd) => c.src == 0) = true →
      Does (.flush v) s [.eng, .flt, .bus, .freeCtr] ([F.ENG_HCQ_CTRL_HIGH.key 0,
        F.ENG_HCQ_CTRL_LOW.key 0] ++ evKeys F.ENG_EVT_HCQ_HIGH ++ evKeys F.ENG_EVT_HCQ_LOW ++ [F.FLT_LOG_HEAD_HEAD.key 0,
        F.FLT_LOG_LOST_CNT_LOST.key 0] ++ evKeys F.FLT_EVT_LOG_LOST ++ evKeys F.FLT_EVT_LOG_HIGH ++
        [F.ENG_FENCE_STAT_WAIT_NUM.key 0] ++ [F.ENG_FENCE_FLAGS_VALID.key 0, F.ENG_FENCE_STAT_PASSED.key 0,
        F.ENG_FENCE_STAT_PASSED.key 1, F.ENG_FENCE_STAT_PASSED.key 2, F.ENG_FENCE_STAT_PASSED.key 3])
        (fun d => d.eng.hcq = [] ∧ d.hold 0 = none ∧ d.eng.counts0.rejected =
          s.dev.eng.counts0.rejected + (BitVec.ofNat 32 s.dev.eng.hcq.length + (if s.dev.eng.hcqHeld.isSome then 1 else 0)) ∧
          d.eng.counts0.pending = s.dev.eng.counts0.pending - BitVec.ofNat 32 s.dev.eng.hcq.length ∧ d.eng.hcqHeld = none ∧
          d.get F.ENG_HCQ_CTRL_HIGH = bits v.toNat 24 16 ∧ d.get F.ENG_HCQ_CTRL_LOW = bits v.toNat 8 0 ∧
          (∀ h, s.dev.hold 0 = some h → bit (d.get F.ENG_FENCE_FLAGS_VALID) 0 = true))) ∧
    (∀ (s : State),
      s.Running →
      s.dev.eng.hcq.all (fun (c : Cmd) => c.src == 0) = true →
      Does .hcqReset s [.eng, .freeCtr] (evKeys F.ENG_EVT_RESET_DONE ++ evKeys F.ENG_EVT_HCQ_HIGH ++
        evKeys F.ENG_EVT_HCQ_LOW ++ [F.ENG_FENCE_STAT_WAIT_NUM.key 0] ++ [F.ENG_FENCE_FLAGS_VALID.key 0,
        F.ENG_FENCE_STAT_PASSED.key 0, F.ENG_FENCE_STAT_PASSED.key 1, F.ENG_FENCE_STAT_PASSED.key 2,
        F.ENG_FENCE_STAT_PASSED.key 3])
        (fun d => d.eng.hcq = [] ∧ d.hold 0 = none ∧ d.eng.counts0.discarded =
          s.dev.eng.counts0.discarded + (BitVec.ofNat 32 s.dev.eng.hcq.length + (if s.dev.eng.hcqHeld.isSome then 1 else 0)) ∧
          d.eng.counts0.pending = s.dev.eng.counts0.pending - BitVec.ofNat 32 s.dev.eng.hcq.length ∧ d.eng.hcqHeld = none ∧
          d.get F.ENG_EVT_RESET_DONE = 1 ∧ d.flt = s.dev.flt))

/-- A write of TT_END makes loaded entries live. A running timetable releases the entry at TT_HEAD,
  accepted with source 1 into the slice of its owner, with ORDER set when the first pound of its window has passed; it leaves
  it before its window and counts a stall at a full slice; it holds at a FENCE; it drops and counts an entry that reads
  uncorrectable. The Keeper port accepts a command with room or rejects it at once under R154,
  and without room it waits; the next frame to re-send becomes an EMIT; the port moves up to 2 commands as the host queue does.
  The walker submits an EMIT for its position and moves on once the pounds of this visit have passed,
  and takes those of the next from PERIOD_LOG. A reset of the port discards what is queued. Choices of the model on which this
  rests: log entries 11, 14, 51, 71, 72, 94, 130 and 134. -/
def Obligations.TimetableAndKeeperPort : Prop :=
  (∀ (s : State) (v : Word),
      s.Running →
      s.dev.pageClosed 0x32 = false →
      Does (.ttEndWrite v) s [] ([F.TT_END_END.key 0] ++ evKeys F.TT_EVT_LOW ++ evKeys F.TT_EVT_EMPTY)
        (fun d => d.get F.TT_END_END = v.toNat % 65536)) ∧
    (∀ (s : State) (v : Word),
      s.Running →
      s.dev.pageClosed 0x32 = true →
      Idles (.ttEndWrite v) s) ∧
    (∀ (s : State) (up : Upset) (w : BitVec 128) (late : Bool),
      s.Running →
      up.queue = false →
      s.dev.resetBusy = false →
      s.dev.is F.TT_CTRL_RUN = true →
      s.dev.ttOpen = true →
      s.dev.hold 1 = none →
      0 < s.dev.ttLevel →
      s.dev.ttWord (s.dev.get F.TT_HEAD_HEAD) = w →
      cmdOp w ≠ 8 →
      s.dev.ttJudge w = .go late →
      Answers (.ttRelease up) s (fun d => d.ttLevel < s.dev.ttLevel ∧ s.dev.ttLevel ≤ d.ttLevel + 32 ∧
        d.get F.TT_END_END = s.dev.get F.TT_END_END ∧ (late = true → d.get F.TT_EVT_ORDER = 1) ∧ d.eng.hcq = s.dev.eng.hcq ∧
        d.eng.counts0 = s.dev.eng.counts0)) ∧
    (∀ (s : State) (up : Upset) (w : BitVec 128) (late : Bool),
      s.Running →
      up.queue = false →
      s.dev.resetBusy = false →
      s.dev.is F.TT_CTRL_RUN = true →
      s.dev.ttOpen = true →
      s.dev.hold 1 = none →
      s.dev.ttLevel = 1 →
      s.dev.ttWord (s.dev.get F.TT_HEAD_HEAD) = w →
      s.dev.ttJudge w = .go late →
      cmdOp w ≠ 8 →
      cmdLong w = false →
      acceptCode 1 w none s.dev.tow.pound = none →
      Does (.ttRelease up) s [.eng] ([F.TT_HEAD_HEAD.key 0, F.TT_STAT_STALLED.key 0, F.TT_RELEASED_CNT_RELEASED.key 0,
        F.ENG_SLICE_STAT_MAX_DEPTH.key (ownerOf (cmdBerth w))] ++ evKeys F.TT_EVT_LOW ++ evKeys F.TT_EVT_EMPTY ++
        evKeys F.TT_EVT_ORDER)
        (fun d => d.ttLevel = 0 ∧ d.get F.TT_HEAD_HEAD = (s.dev.get F.TT_HEAD_HEAD + 1) % 65536 ∧
          d.get F.TT_RELEASED_CNT_RELEASED = (s.dev.get F.TT_RELEASED_CNT_RELEASED + 1) % 2 ^ 32 ∧
          d.get F.TT_STAT_STALLED = 0 ∧ d.eng.counts1 = s.dev.eng.counts1.accept ∧
          (d.engine (ownerOf (cmdBerth w))).slice = (s.dev.engine (ownerOf (cmdBerth w))).slice ++
          [({ w1 := w, w2 := 0, words := 1, src := 1, seq := (s.dev.eng.counts1.accepted + 1).truncate 16, t := BitVec.ofInt 64 (resolveT 1 w s.dev.tow.pound), acc := s.dev.tow.pound, entry := s.dev.eng.entered }
          : Cmd)])) ∧
    (∀ (s : State) (up : Upset),
      s.Running →
      up.queue = false →
      s.dev.resetBusy = false →
      s.dev.is F.TT_CTRL_RUN = true →
      s.dev.ttOpen = true →
      s.dev.hold 1 = none →
      s.dev.ttLevel = 0 →
      Does (.ttRelease up) s [] ([F.TT_STAT_STALLED.key 0])
        (fun d => d.get F.TT_STAT_STALLED = 0)) ∧
    (∀ (s : State) (up : Upset) (w : BitVec 128),
      s.Running →
      up.queue = false →
      s.dev.resetBusy = false →
      s.dev.is F.TT_CTRL_RUN = true →
      s.dev.ttOpen = true →
      s.dev.hold 1 = none →
      0 < s.dev.ttLevel →
      s.dev.ttWord (s.dev.get F.TT_HEAD_HEAD) = w →
      s.dev.ttJudge w = .stop →
      Does (.ttRelease up) s [] ([F.TT_STAT_STALLED.key 0])
        (fun d => d.get F.TT_STAT_STALLED = 0)) ∧
    (∀ (s : State) (up : Upset) (w : BitVec 128),
      s.Running →
      up.queue = false →
      s.dev.resetBusy = false →
      s.dev.is F.TT_CTRL_RUN = true →
      s.dev.ttOpen = true →
      s.dev.hold 1 = none →
      0 < s.dev.ttLevel →
      s.dev.ttWord (s.dev.get F.TT_HEAD_HEAD) = w →
      s.dev.ttJudge w = .stall →
      Does (.ttRelease up) s [.eng] ([F.TT_STAT_STALLED.key 0, F.TT_STALL_CNT_STALLS.key 0] ++ evKeys F.TT_EVT_STALL ++
        evKeys F.ENG_EVT_SLICE_FULL)
        (fun d => d.get F.TT_STAT_STALLED = 1 ∧ d.get F.TT_EVT_STALL = 1 ∧ d.get F.ENG_EVT_SLICE_FULL = 1 ∧
          (d.get F.TT_STALL_CNT_STALLS = if s.dev.eng.stalledThisPound then s.dev.get F.TT_STALL_CNT_STALLS else (s.dev.get
          F.TT_STALL_CNT_STALLS + 1) % 2 ^ 32) ∧ d.eng = { s.dev.eng with stalledThisPound := true })) ∧
    (∀ (s : State) (up : Upset) (w : BitVec 128) (late : Bool),
      s.Running →
      up.queue = false →
      s.dev.resetBusy = false →
      s.dev.is F.TT_CTRL_RUN = true →
      s.dev.ttOpen = true →
      s.dev.hold 1 = none →
      0 < s.dev.ttLevel →
      s.dev.ttWord (s.dev.get F.TT_HEAD_HEAD) = w →
      cmdOp w = 8 →
      s.dev.ttJudge w = .go late →
      acceptCode 1 w none s.dev.tow.pound = none →
      cmdLong w = false →
      Does (.ttRelease up) s [.eng] ([F.TT_STAT_STALLED.key 0, F.ENG_FENCE_STAT_WAIT_NUM.key 1] ++
        [F.ENG_FENCE_FLAGS_VALID.key 0, F.ENG_FENCE_STAT_PASSED.key 0, F.ENG_FENCE_STAT_PASSED.key 1,
        F.ENG_FENCE_STAT_PASSED.key 2, F.ENG_FENCE_STAT_PASSED.key 3])
        (fun d => (d.hold 1).map (fun (h : FenceHold) => (h.number, h.mask)) = some (cmdNumber w, cmdMask w) ∧
          d.get F.TT_HEAD_HEAD = s.dev.get F.TT_HEAD_HEAD ∧ d.get F.ENG_FENCE_STAT_WAIT_NUM 1 = (cmdNumber w).toNat ∧
          d.eng.counts1 = s.dev.eng.counts1.accept)) ∧
    (∀ (s : State) (up : Upset),
      s.Running →
      up.queue = true →
      s.dev.resetBusy = false →
      s.dev.is F.TT_CTRL_RUN = true →
      s.dev.ttOpen = true →
      s.dev.hold 1 = none →
      0 < s.dev.ttLevel →
      Does (.ttRelease up) s [.eng, .flt] (reportKeys ++ ([F.TT_HEAD_HEAD.key 0,
        F.TT_STAT_STALLED.key 0] ++ evKeys F.TT_EVT_LOW ++ evKeys F.TT_EVT_EMPTY ++ evKeys F.ENG_EVT_SLICE_UNCORR))
        (fun d => d.eng.counts (if up.noSource then 0 else (1 : Fin 4)) =
          (s.dev.eng.counts (if up.noSource then 0 else (1 : Fin 4))).acceptDiscard ∧
          d.get F.TT_HEAD_HEAD = (s.dev.get F.TT_HEAD_HEAD + 1) % 65536 ∧ d.get F.ENG_EVT_SLICE_UNCORR = 1 ∧
          s.dev.Reported d 5 0 3 65)) ∧
    (∀ (s : State) (w : BitVec 128) (second : Option (BitVec 128)),
      s.Running →
      s.dev.kpr.restarting = false →
      s.dev.kpqRoom (if second.isSome then 2 else 1) = true →
      acceptCode 3 w second s.dev.tow.pound = none →
      Does (.kpqSubmit (.command w second)) s [.eng] ([])
        (fun d => (d.eng = { s.dev.eng with kpq := s.dev.eng.kpq ++ [({ w1 := w, w2 := (second.getD 0).truncate 64, words := if second.isSome then 2 else 1, src := 3, seq := (s.dev.eng.counts3.accepted + 1).truncate 16, t := BitVec.ofInt 64 (resolveT 3 w s.dev.tow.pound), acc := s.dev.tow.pound } : Cmd)], counts3 := s.dev.eng.counts3.accept })))
          ∧
    (∀ (s : State) (w : BitVec 128) (second : Option (BitVec 128)) (code : Code),
      s.Running →
      s.dev.kpr.restarting = false →
      s.dev.kpqRoom (if second.isSome then 2 else 1) = true →
      acceptCode 3 w second s.dev.tow.pound = some code →
      Does (.kpqSubmit (.command w second)) s [.eng, .flt] ([F.FLT_LOG_HEAD_HEAD.key 0,
        F.FLT_LOG_LOST_CNT_LOST.key 0] ++ evKeys F.FLT_EVT_LOG_LOST ++ evKeys F.FLT_EVT_LOG_HIGH)
        (fun d => d.eng = { s.dev.eng with counts3 := s.dev.eng.counts3.acceptReject (code == 1) })) ∧
    (∀ (s : State) (w : BitVec 128) (second : Option (BitVec 128)),
      s.Running →
      s.dev.kpr.restarting = false →
      s.dev.kpqRoom (if second.isSome then 2 else 1) = false →
      Idles (.kpqSubmit (.command w second)) s) ∧
    (∀ (s : State) (id : Nat) (t : List (Nat × Bool)) (x : Entry),
      s.Running →
      s.dev.kpr.restarting = false →
      s.dev.kpr.emits = (id, true) :: t →
      s.dev.kpqRoom 1 = true →
      s.dev.cell id = { entry := x } →
      x.kind = 1 →
      x.bound = true →
      x.autoEmit = true →
      acceptCode 3 (emitWord id) none s.dev.tow.pound = none →
      Does (.kpqSubmit .resend) s [.eng, .kpr] ([])
        (fun d => d.kpr = { s.dev.kpr with emits := t } ∧ d.eng =
          { s.dev.eng with kpq := s.dev.eng.kpq ++ [({ w1 := (emitWord id), w2 := 0, words := 1, src := 3, seq := (s.dev.eng.counts3.accepted + 1).truncate 16, t := BitVec.ofInt 64 (resolveT 3 (emitWord id) s.dev.tow.pound), acc := s.dev.tow.pound } : Cmd)], counts3 := s.dev.eng.counts3.accept }))
          ∧
    (∀ (s : State) (id : Nat) (t : List (Nat × Bool)) (x : Entry),
      s.Running →
      s.dev.kpr.restarting = false →
      s.dev.kpr.emits = (id, true) :: t →
      s.dev.kpqRoom 1 = true →
      s.dev.cell id = { entry := x } →
      (x.kind ≠ 1 ∨ x.bound = false ∨ x.autoEmit = false) →
      Does (.kpqSubmit .resend) s [.kpr] ([])
        (fun d => d.kpr = { s.dev.kpr with emits := t })) ∧
    (∀ (s : State) (up : Upset) (c : Cmd) (t : List Cmd),
      s.Running →
      up.queue = false →
      s.dev.resetBusy = false →
      s.dev.hold 3 = none →
      s.dev.eng.kpq = c :: t →
      cmdOp c.w1 ≠ 8 →
      c.eligible s.dev.tow.pound = true →
      c.isLate s.dev.tow.pound = false →
      s.dev.sliceFull (ownerOf (cmdBerth c.w1)) = false →
      Answers (.kpqRelease up) s (fun d => d.eng.kpq = s.dev.eng.kpq.drop (s.dev.eng.kpq.length - d.eng.kpq.length) ∧
        1 ≤ (s.dev.eng.kpq.length - d.eng.kpq.length) ∧ (s.dev.eng.kpq.length - d.eng.kpq.length) ≤ 2 ∧
        d.eng.entered = s.dev.eng.entered + (s.dev.eng.kpq.length - d.eng.kpq.length) ∧ d.eng.flights = s.dev.eng.flights ∧
        d.eng.counts0 = s.dev.eng.counts0 ∧ d.eng.counts1 = s.dev.eng.counts1 ∧ d.eng.counts2 = s.dev.eng.counts2 ∧
        d.eng.counts3 = s.dev.eng.counts3)) ∧
    (∀ (s : State) (up : Upset) (c : Cmd),
      s.Running →
      up.queue = false →
      s.dev.resetBusy = false →
      s.dev.hold 3 = none →
      s.dev.eng.kpq = [c] →
      cmdOp c.w1 ≠ 8 →
      c.eligible s.dev.tow.pound = true →
      c.isLate s.dev.tow.pound = false →
      s.dev.sliceFull (ownerOf (cmdBerth c.w1)) = false →
      Does (.kpqRelease up) s [.eng] ([F.ENG_SLICE_STAT_MAX_DEPTH.key (ownerOf (cmdBerth c.w1))])
        (fun d => d.eng.kpq = [] ∧ (d.engine (ownerOf (cmdBerth c.w1))).slice =
          (s.dev.engine (ownerOf (cmdBerth c.w1))).slice ++ [({ c with entry := s.dev.eng.entered } : Cmd)])) ∧
    (∀ (s : State) (up : Upset) (c : Cmd) (t : List Cmd),
      s.Running →
      up.queue = false →
      s.dev.resetBusy = false →
      s.dev.hold 3 = none →
      s.dev.eng.kpq = c :: t →
      (cmdOp c.w1 = 8 ∨ c.eligible s.dev.tow.pound = false ∨ c.isLate s.dev.tow.pound = true) →
      Idles (.kpqRelease up) s) ∧
    (∀ (s : State) (up : Upset) (c : Cmd) (t : List Cmd),
      s.Running →
      up.queue = false →
      s.dev.resetBusy = false →
      s.dev.hold 3 = none →
      s.dev.eng.kpq = c :: t →
      cmdOp c.w1 ≠ 8 →
      c.eligible s.dev.tow.pound = true →
      c.isLate s.dev.tow.pound = false →
      s.dev.sliceFull (ownerOf (cmdBerth c.w1)) = true →
      Does (.kpqRelease up) s [] (evKeys F.ENG_EVT_SLICE_FULL)
        (fun d => d.eng.kpq = s.dev.eng.kpq ∧ d.get F.ENG_EVT_SLICE_FULL = 1)) ∧
    (∀ (s : State) (up : Upset) (c : Cmd) (t : List Cmd),
      s.Running →
      up.queue = true →
      s.dev.resetBusy = false →
      s.dev.hold 3 = none →
      s.dev.eng.kpq = c :: t →
      Does (.kpqRelease up) s [.eng, .flt] (reportKeys ++ (evKeys F.ENG_EVT_SLICE_UNCORR ++ [F.ENG_FENCE_FLAGS_VALID.key 0,
        F.ENG_FENCE_STAT_PASSED.key 0, F.ENG_FENCE_STAT_PASSED.key 1, F.ENG_FENCE_STAT_PASSED.key 2,
        F.ENG_FENCE_STAT_PASSED.key 3]))
        (fun d => d.eng.kpq = t ∧ d.eng.counts (if up.noSource then 0 else c.src) =
          (s.dev.eng.counts (if up.noSource then 0 else c.src)).discard ∧ d.get F.ENG_EVT_SLICE_UNCORR = 1 ∧
          s.dev.Reported d 5 0 3 67)) ∧
    (∀ (s : State),
      s.Running →
      s.dev.is F.LDG_CTRL_REFRESH_EN = true →
      s.dev.eng.refreshEach ≤ s.dev.eng.refresh →
      s.dev.kpqRoom 1 = true →
      acceptCode 3 (emitWord (s.dev.get F.LDG_STAT_REFRESH_POS)) none s.dev.tow.pound = none →
      Does .refreshSubmit s [.eng] ([F.LDG_STAT_REFRESH_POS.key 0, F.LDG_REFRESH_CNT_SUBMITTED.key 0])
        (fun d => d.eng = { s.dev.eng with kpq := s.dev.eng.kpq ++ [({ w1 := (emitWord (s.dev.get F.LDG_STAT_REFRESH_POS)), w2 := 0, words := 1, src := 3, seq := (s.dev.eng.counts3.accepted + 1).truncate 16, t := BitVec.ofInt 64 (resolveT 3 (emitWord (s.dev.get F.LDG_STAT_REFRESH_POS)) s.dev.tow.pound), acc := s.dev.tow.pound, refresh := true } : Cmd)], counts3 := s.dev.eng.counts3.accept, refresh := s.dev.eng.refresh - s.dev.eng.refreshEach, refreshEach := 2 ^ (max 17 (min 26 (s.dev.get F.LDG_REFRESH_CFG_PERIOD_LOG)) - 17) }
          ∧ d.get F.LDG_STAT_REFRESH_POS = (s.dev.get F.LDG_STAT_REFRESH_POS + 1) % 2 ^ 17 ∧
          d.get F.LDG_REFRESH_CNT_SUBMITTED = (s.dev.get F.LDG_REFRESH_CNT_SUBMITTED + 1) % 2 ^ 32)) ∧
    (∀ (s : State),
      s.Running →
      (s.dev.is F.LDG_CTRL_REFRESH_EN = false ∨ s.dev.eng.refresh < s.dev.eng.refreshEach ∨ s.dev.kpqRoom 1 = false) →
      Idles .refreshSubmit s) ∧
    (∀ (s : State),
      s.Running →
      s.dev.eng.kpq.all (fun (c : Cmd) => c.src == 3) = true →
      Does .kpqReset s [.eng, .freeCtr] (evKeys F.ENG_EVT_RESET_DONE ++ [F.ENG_FENCE_STAT_WAIT_NUM.key 3] ++
        [F.ENG_FENCE_FLAGS_VALID.key 0, F.ENG_FENCE_STAT_PASSED.key 0, F.ENG_FENCE_STAT_PASSED.key 1,
        F.ENG_FENCE_STAT_PASSED.key 2, F.ENG_FENCE_STAT_PASSED.key 3])
        (fun d => d.eng.kpq = [] ∧ d.hold 3 = none ∧ d.eng.counts3.discarded =
          s.dev.eng.counts3.discarded + (BitVec.ofNat 32 s.dev.eng.kpq.length) ∧
          d.eng.counts3.pending = s.dev.eng.counts3.pending - BitVec.ofNat 32 s.dev.eng.kpq.length ∧
          d.get F.ENG_EVT_RESET_DONE = 1 ∧ d.flt = s.dev.flt))

/-- A source with a FENCE at the head of its queue, or at TT_HEAD, holds and shows its number,
  the FENCE staying where it stands. It is released with APPLIED, and the source goes on with the command after it,
  once every selected source has passed it, and holds on before. A fence that has not been met when its limit has passed is
  rejected, with its event and record, and counts as passed; one that is met is released even then. At LATE_REJECT every
  accepted command whose issue window has ended leaves its slice,
  hand or queue and is rejected as LATE; every other stays. Choices of the model on which this rests: log entries 8,
  71 and 134. -/
def Obligations.FencesAndLateRule : Prop :=
  (∀ (s : State) (c : Cmd) (t : List Cmd),
      s.Running →
      s.dev.resetBusy = false →
      s.dev.hold 0 = none →
      s.dev.eng.hcq = c :: t →
      cmdOp c.w1 = 8 →
      Does (.fence 0) s [.eng] ([F.ENG_FENCE_STAT_WAIT_NUM.key 0] ++ [F.ENG_FENCE_FLAGS_VALID.key 0,
        F.ENG_FENCE_STAT_PASSED.key 0, F.ENG_FENCE_STAT_PASSED.key 1, F.ENG_FENCE_STAT_PASSED.key 2,
        F.ENG_FENCE_STAT_PASSED.key 3])
        (fun d => (d.hold 0).map (fun (h : FenceHold) => (h.cmd, h.number, h.mask, h.ticks)) = some (c, cmdNumber c.w1,
          cmdMask c.w1, 0) ∧ d.get F.ENG_FENCE_STAT_WAIT_NUM 0 = (cmdNumber c.w1).toNat ∧
          d.eng = { s.dev.eng with holds := d.eng.holds })) ∧
    (∀ (s : State) (c : Cmd) (t : List Cmd),
      s.Running →
      s.dev.resetBusy = false →
      s.dev.hold 2 = none →
      s.dev.dec.actq = c :: t →
      cmdOp c.w1 = 8 →
      Does (.fence 2) s [.eng] ([F.ENG_FENCE_STAT_WAIT_NUM.key 2] ++ [F.ENG_FENCE_FLAGS_VALID.key 0,
        F.ENG_FENCE_STAT_PASSED.key 0, F.ENG_FENCE_STAT_PASSED.key 1, F.ENG_FENCE_STAT_PASSED.key 2,
        F.ENG_FENCE_STAT_PASSED.key 3])
        (fun d => (d.hold 2).map (fun (h : FenceHold) => (h.cmd, h.number, h.mask, h.ticks)) = some (c, cmdNumber c.w1,
          cmdMask c.w1, 0) ∧ d.get F.ENG_FENCE_STAT_WAIT_NUM 2 = (cmdNumber c.w1).toNat ∧
          d.eng = { s.dev.eng with holds := d.eng.holds })) ∧
    (∀ (s : State) (c : Cmd) (t : List Cmd),
      s.Running →
      s.dev.resetBusy = false →
      s.dev.hold 3 = none →
      s.dev.eng.kpq = c :: t →
      cmdOp c.w1 = 8 →
      Does (.fence 3) s [.eng] ([F.ENG_FENCE_STAT_WAIT_NUM.key 3] ++ [F.ENG_FENCE_FLAGS_VALID.key 0,
        F.ENG_FENCE_STAT_PASSED.key 0, F.ENG_FENCE_STAT_PASSED.key 1, F.ENG_FENCE_STAT_PASSED.key 2,
        F.ENG_FENCE_STAT_PASSED.key 3])
        (fun d => (d.hold 3).map (fun (h : FenceHold) => (h.cmd, h.number, h.mask, h.ticks)) = some (c, cmdNumber c.w1,
          cmdMask c.w1, 0) ∧ d.get F.ENG_FENCE_STAT_WAIT_NUM 3 = (cmdNumber c.w1).toNat ∧
          d.eng = { s.dev.eng with holds := d.eng.holds })) ∧
    (∀ (s : State) (w : BitVec 128) (late : Bool),
      s.Running →
      s.dev.resetBusy = false →
      s.dev.hold 1 = none →
      s.dev.is F.TT_CTRL_RUN = true →
      s.dev.ttOpen = true →
      0 < s.dev.ttLevel →
      s.dev.ttWord (s.dev.get F.TT_HEAD_HEAD) = w →
      cmdOp w = 8 →
      s.dev.ttJudge w = .go late →
      acceptCode 1 w none s.dev.tow.pound = none →
      cmdLong w = false →
      Does (.fence 1) s [.eng] ([F.ENG_FENCE_STAT_WAIT_NUM.key 1] ++ [F.ENG_FENCE_FLAGS_VALID.key 0,
        F.ENG_FENCE_STAT_PASSED.key 0, F.ENG_FENCE_STAT_PASSED.key 1, F.ENG_FENCE_STAT_PASSED.key 2,
        F.ENG_FENCE_STAT_PASSED.key 3])
        (fun d => (d.hold 1).map (fun (h : FenceHold) => (h.number, h.mask, h.ticks)) = some (cmdNumber w, cmdMask w, 0) ∧
          d.get F.ENG_FENCE_STAT_WAIT_NUM 1 = (cmdNumber w).toNat ∧ d.get F.TT_HEAD_HEAD = s.dev.get F.TT_HEAD_HEAD ∧
          d.eng.counts1 = s.dev.eng.counts1.accept)) ∧
    (∀ (s : State) (src : Fin 4) (h : FenceHold),
      s.Running →
      s.dev.hold src.val = some h →
      s.dev.settleFences.fenceMet src.val h = true →
      Does (.fenceRelease src) s [.eng, .dec, .flt, .freeCtr] ([F.ENG_FENCE_STAT_WAIT_NUM.key src.val, F.TT_HEAD_HEAD.key 0,
        F.TT_RELEASED_CNT_RELEASED.key 0] ++ [F.ENG_FENCE_FLAGS_VALID.key 0, F.ENG_FENCE_STAT_PASSED.key 0,
        F.ENG_FENCE_STAT_PASSED.key 1, F.ENG_FENCE_STAT_PASSED.key 2,
        F.ENG_FENCE_STAT_PASSED.key 3] ++ [F.FLT_LOG_HEAD_HEAD.key 0,
        F.FLT_LOG_LOST_CNT_LOST.key 0] ++ evKeys F.FLT_EVT_LOG_LOST ++ evKeys F.FLT_EVT_LOG_HIGH ++
        evKeys F.ENG_EVT_HCQ_HIGH ++ evKeys F.ENG_EVT_HCQ_LOW ++ evKeys F.TT_EVT_LOW ++ evKeys F.TT_EVT_EMPTY)
        (fun d => d.hold src.val = none ∧ d.eng.counts h.cmd.src = (s.dev.eng.counts h.cmd.src).apply ∧
          d.eng.hcq = (if src = 0 then s.dev.eng.hcq.drop 1 else s.dev.eng.hcq) ∧
          d.eng.kpq = (if src = 3 then s.dev.eng.kpq.drop 1 else s.dev.eng.kpq) ∧
          d.dec.actq = (if src = 2 then s.dev.dec.actq.drop 1 else s.dev.dec.actq) ∧
          (src = 1 → s.dev.get F.TT_HEAD_HEAD = h.entry → d.get F.TT_HEAD_HEAD = (h.entry + 1) % 65536) ∧
          d.eng.engine = s.dev.eng.engine ∧ d.eng.flights = s.dev.eng.flights)) ∧
    (∀ (s : State) (src : Fin 4) (h : FenceHold),
      s.Running →
      s.dev.hold src.val = some h →
      s.dev.settleFences.fenceMet src.val h = false →
      Does (.fenceRelease src) s [] ([F.ENG_FENCE_FLAGS_VALID.key 0, F.ENG_FENCE_STAT_PASSED.key 0,
        F.ENG_FENCE_STAT_PASSED.key 1, F.ENG_FENCE_STAT_PASSED.key 2, F.ENG_FENCE_STAT_PASSED.key 3])
        (fun d => d.hold src.val = some h ∧ d.eng = s.dev.eng)) ∧
    (∀ (s : State) (src : Fin 4) (h : FenceHold) (l : Nat),
      s.Running →
      s.dev.hold src.val = some h →
      s.dev.settleFences.fenceMet src.val h = false →
      s.dev.fenceLimit = some l →
      l ≤ h.ticks →
      Does (.fenceTimeout src) s [.eng, .dec, .flt, .freeCtr] (reportKeys ++ [F.ENG_FENCE_STAT_WAIT_NUM.key src.val,
        F.TT_HEAD_HEAD.key 0, F.TT_RELEASED_CNT_RELEASED.key 0] ++ [F.ENG_FENCE_FLAGS_VALID.key 0,
        F.ENG_FENCE_STAT_PASSED.key 0, F.ENG_FENCE_STAT_PASSED.key 1, F.ENG_FENCE_STAT_PASSED.key 2,
        F.ENG_FENCE_STAT_PASSED.key 3] ++ [F.FLT_LOG_HEAD_HEAD.key 0,
        F.FLT_LOG_LOST_CNT_LOST.key 0] ++ evKeys F.FLT_EVT_LOG_LOST ++ evKeys F.FLT_EVT_LOG_HIGH ++
        evKeys F.ENG_EVT_HCQ_HIGH ++ evKeys F.ENG_EVT_HCQ_LOW ++ evKeys F.TT_EVT_LOW ++ evKeys F.TT_EVT_EMPTY ++
        evKeys F.ENG_EVT_FENCE_TIMEOUT)
        (fun d => d.hold src.val = none ∧ d.eng.counts h.cmd.src = (s.dev.eng.counts h.cmd.src).reject false ∧
          d.get F.ENG_EVT_FENCE_TIMEOUT = 1 ∧ d.hasPassed src.val h.number.toNat = true ∧
          d.flt.queue = (s.dev.report 5 0 4 src.val).flt.queue ∧ d.get F.FLT_LOST_CNT_LOST =
          (s.dev.report 5 0 4 src.val).get F.FLT_LOST_CNT_LOST ∧ d.eng.hcq = (if src =
          0 then s.dev.eng.hcq.drop 1 else s.dev.eng.hcq) ∧ d.eng.kpq = (if src =
          3 then s.dev.eng.kpq.drop 1 else s.dev.eng.kpq) ∧ d.dec.actq = (if src =
          2 then s.dev.dec.actq.drop 1 else s.dev.dec.actq) ∧ (src = 1 → s.dev.get F.TT_HEAD_HEAD = h.entry →
          d.get F.TT_HEAD_HEAD = (h.entry + 1) % 65536) ∧ d.eng.flights = s.dev.eng.flights)) ∧
    (∀ (s : State) (src : Fin 4) (h : FenceHold),
      s.Running →
      s.dev.hold src.val = some h →
      s.dev.settleFences.fenceMet src.val h = true →
      Does (.fenceTimeout src) s [.eng, .dec, .flt, .freeCtr] ([F.ENG_FENCE_STAT_WAIT_NUM.key src.val, F.TT_HEAD_HEAD.key 0,
        F.TT_RELEASED_CNT_RELEASED.key 0] ++ [F.ENG_FENCE_FLAGS_VALID.key 0, F.ENG_FENCE_STAT_PASSED.key 0,
        F.ENG_FENCE_STAT_PASSED.key 1, F.ENG_FENCE_STAT_PASSED.key 2,
        F.ENG_FENCE_STAT_PASSED.key 3] ++ [F.FLT_LOG_HEAD_HEAD.key 0,
        F.FLT_LOG_LOST_CNT_LOST.key 0] ++ evKeys F.FLT_EVT_LOG_LOST ++ evKeys F.FLT_EVT_LOG_HIGH ++
        evKeys F.ENG_EVT_HCQ_HIGH ++ evKeys F.ENG_EVT_HCQ_LOW ++ evKeys F.TT_EVT_LOW ++ evKeys F.TT_EVT_EMPTY)
        (fun d => d.hold src.val = none ∧ d.eng.counts h.cmd.src = (s.dev.eng.counts h.cmd.src).apply ∧
          d.eng.hcq = (if src = 0 then s.dev.eng.hcq.drop 1 else s.dev.eng.hcq) ∧
          d.eng.kpq = (if src = 3 then s.dev.eng.kpq.drop 1 else s.dev.eng.kpq) ∧
          d.dec.actq = (if src = 2 then s.dev.dec.actq.drop 1 else s.dev.dec.actq) ∧
          (src = 1 → s.dev.get F.TT_HEAD_HEAD = h.entry → d.get F.TT_HEAD_HEAD = (h.entry + 1) % 65536))) ∧
    (∀ (s : State) (src : Fin 4) (h : FenceHold),
      s.Running →
      s.dev.hold src.val = some h →
      s.dev.settleFences.fenceMet src.val h = false →
      s.dev.fenceLimit.all (fun n => decide (h.ticks < n)) = true →
      Does (.fenceTimeout src) s [] ([F.ENG_FENCE_FLAGS_VALID.key 0, F.ENG_FENCE_STAT_PASSED.key 0,
        F.ENG_FENCE_STAT_PASSED.key 1, F.ENG_FENCE_STAT_PASSED.key 2, F.ENG_FENCE_STAT_PASSED.key 3])
        (fun d => d.hold src.val = some h ∧ d.eng = s.dev.eng)) ∧
    (∀ (s : State) (e : Fin 64) (k : Fin 4),
      s.Running →
      Does .lateReject s [.eng, .dec, .flt] (evKeys F.ENG_EVT_HCQ_HIGH ++ evKeys F.ENG_EVT_HCQ_LOW ++
        [F.FLT_LOG_HEAD_HEAD.key 0, F.FLT_LOG_LOST_CNT_LOST.key 0] ++ evKeys F.FLT_EVT_LOG_LOST ++ evKeys F.FLT_EVT_LOG_HIGH ++
        [F.ENG_FENCE_FLAGS_VALID.key 0, F.ENG_FENCE_STAT_PASSED.key 0, F.ENG_FENCE_STAT_PASSED.key 1,
        F.ENG_FENCE_STAT_PASSED.key 2, F.ENG_FENCE_STAT_PASSED.key 3])
        (fun d => (d.engine e.val).slice = (s.dev.engine e.val).slice.filter (fun (c : Cmd) => !c.isLate s.dev.tow.pound) ∧
          (d.engine e.val).hand = (s.dev.engine e.val).hand.filter (fun (c : Cmd) => !c.isLate s.dev.tow.pound) ∧
          (d.eng.hcq = s.dev.eng.hcq.filter (fun (c : Cmd) => !c.isLate s.dev.tow.pound)) ∧
          (d.eng.kpq = s.dev.eng.kpq.filter (fun (c : Cmd) => !c.isLate s.dev.tow.pound)) ∧
          (d.dec = { s.dev.dec with actq := s.dev.dec.actq.filter (fun (c : Cmd) => !c.isLate s.dev.tow.pound), deferred := s.dev.dec.deferred.filter (fun (c : Cmd) => !c.isLate s.dev.tow.pound) })
          ∧ (d.eng.counts k).late = (s.dev.eng.counts k).late + ofSource k (s.dev.waitingCmds.filter (·.isLate
          s.dev.tow.pound)) ∧ (d.eng.counts k).rejected = (s.dev.eng.counts k).rejected + ofSource k (s.dev.waitingCmds.filter
          (·.isLate s.dev.tow.pound)) ∧ (d.eng.counts k).pending =
          (s.dev.eng.counts k).pending - ofSource k (s.dev.waitingCmds.filter (·.isLate s.dev.tow.pound)) ∧
          (d.eng.counts k).applied = (s.dev.eng.counts k).applied ∧ d.eng.flights = s.dev.eng.flights ∧
          d.eng.holds = s.dev.eng.holds))

/-- SNAP asks for a capture and clears DONE; at the boundary after it the counters of every source are captured as they stand
  after the rejections of that boundary (R15), and DONE is set. A reset of the engines empties every slice,
  hand and execution in flight, counts as discarded every command among them but Berth writes of a FILL,
  and sets for every source applied, rejected and late to zero, pending to the commands in its queue,
  and accepted to what is pending and discarded; every lease is free, the lease void bits,
  the steal counters and the cluster counters are zero, and RESET_BUSY shows it; queues,
  Berths and records stay. Its end clears RESET_BUSY and sets RESET_DONE. Choices of the model on which this rests: log entries
  70 and 71. -/
def Obligations.CountersAndEngineReset : Prop :=
  (∀ (s : State) (v : Word),
      s.Running →
      Does (.engCntSnap v) s [.eng] ([F.ENG_CNT_CTRL_SRC.key 0, F.ENG_CNT_CTRL_DONE.key 0, F.ENG_CNT_CTRL_SNAP.key 0])
        (fun d => d.eng = { s.dev.eng with snapAsked := true } ∧ d.get F.ENG_CNT_CTRL_SNAP = 1 ∧
          d.get F.ENG_CNT_CTRL_DONE = 0 ∧ d.get F.ENG_CNT_CTRL_SRC = bits v.toNat 1 0)) ∧
    (∀ (s : State) (src : Fin 4),
      s.Running →
      s.dev.eng.snapDue = true →
      Does .cntSnapCapture s [.eng] ([F.ENG_CNT_CTRL_DONE.key 0, F.ENG_CNT_CTRL_SNAP.key 0] ++
        (List.range 4).flatMap (fun k => [F.ENG_CNT_ACCEPTED_ACCEPTED.key k, F.ENG_CNT_APPLIED_APPLIED.key k,
        F.ENG_CNT_REJECTED_REJECTED.key k, F.ENG_CNT_PENDING_PENDING.key k, F.ENG_CNT_DISCARDED_DISCARDED.key k,
        F.ENG_CNT_LATE_LATE.key k]))
        (fun d => d.get F.ENG_CNT_ACCEPTED_ACCEPTED src.val = ((s.dev.eng.counts src).accepted).toNat ∧
          d.get F.ENG_CNT_APPLIED_APPLIED src.val = ((s.dev.eng.counts src).applied).toNat ∧
          d.get F.ENG_CNT_REJECTED_REJECTED src.val = ((s.dev.eng.counts src).rejected + ofSource src (s.dev.waitingCmds.filter
          (·.isLate s.dev.tow.pound))).toNat ∧ d.get F.ENG_CNT_PENDING_PENDING src.val =
          ((s.dev.eng.counts src).pending - ofSource src (s.dev.waitingCmds.filter (·.isLate s.dev.tow.pound))).toNat ∧
          d.get F.ENG_CNT_DISCARDED_DISCARDED src.val = ((s.dev.eng.counts src).discarded).toNat ∧
          d.get F.ENG_CNT_LATE_LATE src.val = ((s.dev.eng.counts src).late + ofSource src (s.dev.waitingCmds.filter (·.isLate
          s.dev.tow.pound))).toNat ∧ d.get F.ENG_CNT_CTRL_DONE = 1 ∧ d.get F.ENG_CNT_CTRL_SNAP = 0 ∧
          d.eng = { s.dev.eng with snapAsked := false, snapDue := false })) ∧
    (∀ (s : State) (e : Fin 64) (k : Fin 4),
      s.Running →
      DoesWide .enginesReset s [.eng] ([0x31, 0x34] ++ (List.range 8).map (0x80 + ·) ++ (List.range 64).map (0x40 + ·))
        (fun d => d.engine e.val = { s.dev.engine e.val with slice := [], hand := none } ∧ d.eng.flights = [] ∧
          (∀ b, d.eng.leaseHolder b = none) ∧ (d.eng.counts k).discarded =
          (s.dev.eng.counts k).discarded + ofSource k ((List.range 64).flatMap (fun e => (s.dev.engine e).slice ++
          (s.dev.engine e).hand.toList) ++ (s.dev.eng.flights.filter (fun (f : Flight) => !f.fill)).map (fun (f : Flight) =>
          f.cmd)) ∧ (d.eng.counts k).pending = BitVec.ofNat 32 (s.dev.queued k) ∧
          (d.eng.counts k).accepted = (d.eng.counts k).pending + (d.eng.counts k).discarded ∧ (d.eng.counts k).applied = 0 ∧
          (d.eng.counts k).rejected = 0 ∧ (d.eng.counts k).late = 0 ∧ d.get F.ENG_STAT_RESET_BUSY = 1 ∧
          d.get F.ENG_LEASE_VOID_VOID = 0 ∧ d.get F.ENG_STEAL_CNT_RING e.val = 0 ∧ d.get F.ENG_STEAL_CNT_CLUSTER e.val = 0 ∧
          d.get F.ENG_CL_CYC_CNT_CYCLES e.val = 0 ∧ d.get F.ENG_CL_EXEC_CNT_EXECUTED e.val = 0 ∧ d.eng.hcq = s.dev.eng.hcq ∧
          d.eng.kpq = s.dev.eng.kpq)) ∧
    (∀ (s : State),
      s.Running →
      s.dev.resetBusy = true →
      s.dev.clk.resetting.contains 144 = false →
      Does .enginesResetDone s [] ([F.ENG_STAT_RESET_BUSY.key 0] ++ evKeys F.ENG_EVT_RESET_DONE)
        (fun d => d.resetBusy = false ∧ d.get F.ENG_EVT_RESET_DONE = 1)) ∧
    (∀ (s : State),
      s.Running →
      s.dev.clk.resetting.contains 144 = true →
      Idles .enginesResetDone s)

/-- The rows NOP, SET_FREQ, SET_FREQ_PHASE, ADD_PHASE, BIND, RELEASE,
  EMIT and PREP_HOP of its three kinds act when the command that the engine holds from a steal,
  or else its best selectable command, is the one they name. A NOP is applied at once for one cycle. For the others the verdict
  of R155 on the entry read decides: a rejection is counted and recorded at once for one cycle; for want of a slot the command
  goes back to its slice for the pound; an effect without a Barge takes two cycles and waits for the commit with the entry and
  the act of the verdict. Without a granted lease a cycle passes and nothing else; a command of a voided bank is rejected; a
  word that reads uncorrectable, in the slice or in hand, is dropped,
  counted and reported; without cycles left nothing happens. Then the effects,
  with no hop prepared by the Berth and no error in the words read: SET_FREQ,
  SET_FREQ_PHASE and ADD_PHASE on a valid Berth give the entry of the trajectory rules,
  on a core also the load of the acting core, on a channel also a Barge in a slot of its trained wharf; a target pound before
  the anchor is rejected with ANCHOR_ORDER. On a Berth with a hop prepared, at or before the pound of the hop,
  SET_FREQ and SET_FREQ_PHASE are rejected with HOP_BUSY and ADD_PHASE, also before the anchor,
  gives the loads of the standby and, before that pound, of the active core. Every rejection and every NOP yields its effect
  record in the log as LOG_MODE selects. An engine whose command another engine has taken in the same cycle loses that cycle.
  Choices of the model on which this rests: log entries 6, 11, 61, 67, 71, 72, 92, 125, 129 and 132. -/
def Obligations.EngineExecutes : Prop :=
  (∀ (s : State) (e : Fin 64) (i : Nat) (c : Cmd) (up : Upset),
      s.Running →
      up.queue = false →
      cmdOp c.w1 = 0 →
      (s.dev.engine e.val).used + 1 ≤ s.dev.cycles →
      s.dev.resetBusy = false →
      (s.dev.engine e.val).hand = none →
      bestOf (s.dev.choices e.val) = some (i, c) →
      Does (.nop e up) s [.eng, .flt] ([F.ENG_CL_CYC_CNT_CYCLES.key e.val,
        F.ENG_CL_EXEC_CNT_EXECUTED.key e.val] ++ [F.ENG_FENCE_FLAGS_VALID.key 0, F.ENG_FENCE_STAT_PASSED.key 0,
        F.ENG_FENCE_STAT_PASSED.key 1, F.ENG_FENCE_STAT_PASSED.key 2, F.ENG_FENCE_STAT_PASSED.key 3] ++ logKeys)
        (fun d => (d.engine e.val).slice = dropAt (s.dev.engine e.val).slice i ∧
          (d.engine e.val).used = (s.dev.engine e.val).used + 1 ∧ d.eng.counts c.src = (s.dev.eng.counts c.src).apply ∧
          d.eng.flights = s.dev.eng.flights ∧ d.get F.ENG_CL_EXEC_CNT_EXECUTED e.val =
          (s.dev.get F.ENG_CL_EXEC_CNT_EXECUTED e.val + 1) % 2 ^ 32 ∧ s.dev.Logged d c 0 0)) ∧
    (∀ (s : State) (r : Instr) (e : Fin 64) (up : Upset) (i : Nat) (c : Cmd) (x : Cell) (code : Code),
      s.Running →
      engineRow r = some (e, up) →
      rowTakes r c.w1 = true →
      s.dev.resetBusy = false →
      (s.dev.engine e.val).hand = none →
      bestOf (s.dev.choices e.val) = some (i, c) →
      up.queue = false →
      up.lease = false →
      up.credit = false →
      cmdOp c.w1 ≠ 0 →
      s.dev.bankVoid (bankOf (cmdBerth c.w1)) = false →
      (s.dev.granted e.val).isSome = true →
      (s.dev.engine e.val).used + 2 ≤ s.dev.cycles →
      (s.dev.cell (cmdBerth c.w1)).hit up.corr up.uncorr = x →
      s.dev.judge ({ c with genSeen := x.genRead } : Cmd) (cmdBerth c.w1) x = .reject code →
      Answers r s (fun d => (d.engine e.val).slice = dropAt (s.dev.engine e.val).slice i ∧
        (d.engine e.val).used = (s.dev.engine e.val).used + 1 ∧ d.eng.flights = s.dev.eng.flights ∧
        d.eng.counts c.src = (s.dev.eng.counts c.src).reject (code == 1) ∧
        d.get F.ENG_CL_EXEC_CNT_EXECUTED e.val = (s.dev.get F.ENG_CL_EXEC_CNT_EXECUTED e.val + 1) % 2 ^ 32 ∧
        s.dev.Logged d c code x.genRead)) ∧
    (∀ (s : State) (r : Instr) (e : Fin 64) (up : Upset) (i : Nat) (c : Cmd) (x : Cell) (h : Nat),
      s.Running →
      engineRow r = some (e, up) →
      rowTakes r c.w1 = true →
      s.dev.resetBusy = false →
      (s.dev.engine e.val).hand = none →
      bestOf (s.dev.choices e.val) = some (i, c) →
      up.queue = false →
      up.lease = false →
      up.credit = false →
      cmdOp c.w1 ≠ 0 →
      s.dev.bankVoid (bankOf (cmdBerth c.w1)) = false →
      (s.dev.granted e.val).isSome = true →
      (s.dev.engine e.val).used + 2 ≤ s.dev.cycles →
      (s.dev.cell (cmdBerth c.w1)).hit up.corr up.uncorr = x →
      s.dev.judge ({ c with genSeen := x.genRead } : Cmd) (cmdBerth c.w1) x = .retry h →
      Answers r s (fun d => ((d.engine (ownerOf (cmdBerth c.w1))).slice.any (fun (y : Cmd) => y.failed && y.w1 == c.w1) =
        true) ∧ d.eng.flights = s.dev.eng.flights ∧ d.eng.counts c.src = s.dev.eng.counts c.src)) ∧
    (∀ (s : State) (r : Instr) (e : Fin 64) (up : Upset) (i : Nat) (c : Cmd) (x : Cell) (en : Option Entry) (act : Act),
      s.Running →
      engineRow r = some (e, up) →
      rowTakes r c.w1 = true →
      s.dev.resetBusy = false →
      (s.dev.engine e.val).hand = none →
      bestOf (s.dev.choices e.val) = some (i, c) →
      up.queue = false →
      up.lease = false →
      up.credit = false →
      cmdOp c.w1 ≠ 0 →
      s.dev.bankVoid (bankOf (cmdBerth c.w1)) = false →
      (s.dev.granted e.val).isSome = true →
      (s.dev.engine e.val).used + 2 ≤ s.dev.cycles →
      (s.dev.cell (cmdBerth c.w1)).hit up.corr up.uncorr = x →
      s.dev.judge ({ c with genSeen := x.genRead } : Cmd) (cmdBerth c.w1) x = .apply en none act →
      Answers r s (fun d => (d.engine e.val).slice = dropAt (s.dev.engine e.val).slice i ∧
        (d.engine e.val).used = (s.dev.engine e.val).used + 2 ∧ d.eng.flights = s.dev.eng.flights ++
        [({ eng := e.val, cmd := ({ c with genSeen := x.genRead } : Cmd), berth := cmdBerth c.w1, entry? := s.dev.writeBack ({ c with genSeen := x.genRead } : Cmd) x en, act := act }
        : Flight)] ∧ d.eng.counts c.src = s.dev.eng.counts c.src ∧
        d.get F.ENG_CL_EXEC_CNT_EXECUTED e.val = (s.dev.get F.ENG_CL_EXEC_CNT_EXECUTED e.val + 1) % 2 ^ 32)) ∧
    (∀ (s : State) (r : Instr) (e : Fin 64) (up : Upset) (c : Cmd) (x : Cell) (en : Option Entry) (act : Act),
      s.Running →
      engineRow r = some (e, up) →
      rowTakes r c.w1 = true →
      s.dev.resetBusy = false →
      (s.dev.engine e.val).hand = some c →
      up.queue = false →
      up.credit = false →
      (s.dev.engine e.val).used + 2 ≤ s.dev.cycles →
      (s.dev.cell (cmdBerth c.w1)).hit up.corr up.uncorr = x →
      s.dev.judge ({ c with genSeen := x.genRead } : Cmd) (cmdBerth c.w1) x = .apply en none act →
      Answers r s (fun d => (d.engine e.val).hand = none ∧ (d.engine e.val).slice = (s.dev.engine e.val).slice ∧
        (d.engine e.val).used = (s.dev.engine e.val).used + 2 ∧ d.eng.flights = s.dev.eng.flights ++
        [({ eng := e.val, cmd := ({ c with genSeen := x.genRead } : Cmd), berth := cmdBerth c.w1, entry? := s.dev.writeBack ({ c with genSeen := x.genRead } : Cmd) x en, act := act }
        : Flight)])) ∧
    (∀ (s : State) (r : Instr) (e : Fin 64) (up : Upset) (c : Cmd),
      s.Running →
      engineRow r = some (e, up) →
      rowTakes r c.w1 = true →
      s.dev.resetBusy = false →
      (s.dev.engine e.val).hand = some c →
      up.queue = true →
      Does r s [.eng, .flt] (reportKeys ++ (evKeys F.ENG_EVT_SLICE_UNCORR ++ [F.ENG_FENCE_FLAGS_VALID.key 0,
        F.ENG_FENCE_STAT_PASSED.key 0, F.ENG_FENCE_STAT_PASSED.key 1, F.ENG_FENCE_STAT_PASSED.key 2,
        F.ENG_FENCE_STAT_PASSED.key 3]))
        (fun d => (d.engine e.val).hand = none ∧ d.eng.flights = s.dev.eng.flights ∧
          d.eng.counts (if up.noSource then 0 else c.src) = (s.dev.eng.counts (if up.noSource then 0 else c.src)).discard ∧
          d.get F.ENG_EVT_SLICE_UNCORR = 1 ∧ s.dev.Reported d 5 0 3 e.val)) ∧
    (∀ (s : State) (r : Instr) (e : Fin 64) (up : Upset) (i : Nat) (c : Cmd),
      s.Running →
      engineRow r = some (e, up) →
      rowTakes r c.w1 = true →
      s.dev.resetBusy = false →
      (s.dev.engine e.val).hand = none →
      bestOf (s.dev.choices e.val) = none →
      bestOf ((s.dev.atCycle (s.dev.engine e.val).used).choices e.val) = some (i, c) →
      (s.dev.engine e.val).used + 2 ≤ s.dev.cycles →
      Does r s [.eng] ([F.ENG_CL_CYC_CNT_CYCLES.key e.val])
        (fun d => (d.engine e.val).slice = (s.dev.engine e.val).slice ∧ (d.engine e.val).used = (s.dev.engine e.val).used + 1 ∧
          d.eng.flights = s.dev.eng.flights)) ∧
    (∀ (s : State) (r : Instr) (e : Fin 64) (up : Upset) (i : Nat) (c : Cmd),
      s.Running →
      engineRow r = some (e, up) →
      rowTakes r c.w1 = true →
      s.dev.resetBusy = false →
      (s.dev.engine e.val).hand = none →
      bestOf (s.dev.choices e.val) = some (i, c) →
      up.queue = false →
      up.lease = false →
      cmdOp c.w1 ≠ 0 →
      s.dev.bankVoid (bankOf (cmdBerth c.w1)) = false →
      (s.dev.granted e.val).isSome = false →
      (s.dev.engine e.val).used + 2 ≤ s.dev.cycles →
      Does r s [.eng] ([F.ENG_CL_CYC_CNT_CYCLES.key e.val] ++ [F.ENG_FENCE_FLAGS_VALID.key 0, F.ENG_FENCE_STAT_PASSED.key 0,
        F.ENG_FENCE_STAT_PASSED.key 1, F.ENG_FENCE_STAT_PASSED.key 2, F.ENG_FENCE_STAT_PASSED.key 3])
        (fun d => (d.engine e.val).slice = (s.dev.engine e.val).slice ∧ (d.engine e.val).used = (s.dev.engine e.val).used + 1 ∧
          d.eng.flights = s.dev.eng.flights)) ∧
    (∀ (s : State) (r : Instr) (e : Fin 64) (up : Upset) (i : Nat) (c : Cmd),
      s.Running →
      engineRow r = some (e, up) →
      rowTakes r c.w1 = true →
      s.dev.resetBusy = false →
      (s.dev.engine e.val).hand = none →
      bestOf (s.dev.choices e.val) = some (i, c) →
      up.queue = false →
      cmdOp c.w1 ≠ 0 →
      (up.lease = true ∨ s.dev.bankVoid (bankOf (cmdBerth c.w1)) = true) →
      (s.dev.engine e.val).used + 1 ≤ s.dev.cycles →
      Does r s [.eng, .flt] ([F.ENG_CL_CYC_CNT_CYCLES.key e.val, F.ENG_CL_EXEC_CNT_EXECUTED.key e.val] ++
        [F.ENG_FENCE_FLAGS_VALID.key 0, F.ENG_FENCE_STAT_PASSED.key 0, F.ENG_FENCE_STAT_PASSED.key 1,
        F.ENG_FENCE_STAT_PASSED.key 2, F.ENG_FENCE_STAT_PASSED.key 3] ++ [F.ENG_LEASE_VOID_VOID.key 0] ++
        evKeys F.ENG_EVT_LEASE_UNCORR ++ reportKeys ++ logKeys)
        (fun d => (d.engine e.val).slice = dropAt (s.dev.engine e.val).slice i ∧
          (d.engine e.val).used = (s.dev.engine e.val).used + 1 ∧ d.eng.flights = s.dev.eng.flights ∧
          d.eng.counts c.src = (s.dev.eng.counts c.src).reject false ∧ s.dev.Logged d c 0x22 0 ∧
          d.bankVoid (bankOf (cmdBerth c.w1)) = true ∧ (up.lease = true → d.get F.ENG_EVT_LEASE_UNCORR = 1) ∧
          (d.flt.queue = (s.dev.when up.lease (fun x => x.report 5 0 2 (bankOf (cmdBerth c.w1)))).flt.queue))) ∧
    (∀ (s : State) (r : Instr) (e : Fin 64) (up : Upset) (i : Nat) (c : Cmd),
      s.Running →
      engineRow r = some (e, up) →
      rowTakes r c.w1 = true →
      s.dev.resetBusy = false →
      (s.dev.engine e.val).hand = none →
      bestOf (s.dev.choices e.val) = some (i, c) →
      up.queue = true →
      Does r s [.eng, .flt] (reportKeys ++ (evKeys F.ENG_EVT_SLICE_UNCORR ++ [F.ENG_FENCE_FLAGS_VALID.key 0,
        F.ENG_FENCE_STAT_PASSED.key 0, F.ENG_FENCE_STAT_PASSED.key 1, F.ENG_FENCE_STAT_PASSED.key 2,
        F.ENG_FENCE_STAT_PASSED.key 3]))
        (fun d => (d.engine e.val).slice = dropAt (s.dev.engine e.val).slice i ∧ d.eng.flights = s.dev.eng.flights ∧
          d.eng.counts (if up.noSource then 0 else c.src) = (s.dev.eng.counts (if up.noSource then 0 else c.src)).discard ∧
          d.get F.ENG_EVT_SLICE_UNCORR = 1 ∧ s.dev.Reported d 5 0 3 e.val)) ∧
    (∀ (s : State) (r : Instr) (e : Fin 64) (up : Upset) (i : Nat) (c : Cmd),
      s.Running →
      engineRow r = some (e, up) →
      rowTakes r c.w1 = true →
      s.dev.resetBusy = false →
      (s.dev.engine e.val).hand = none →
      bestOf (s.dev.choices e.val) = some (i, c) →
      up.queue = false →
      up.lease = false →
      cmdOp c.w1 ≠ 0 →
      s.dev.bankVoid (bankOf (cmdBerth c.w1)) = false →
      s.dev.cycles < (s.dev.engine e.val).used + 2 →
      Does r s [] ([F.ENG_FENCE_FLAGS_VALID.key 0, F.ENG_FENCE_STAT_PASSED.key 0, F.ENG_FENCE_STAT_PASSED.key 1,
        F.ENG_FENCE_STAT_PASSED.key 2, F.ENG_FENCE_STAT_PASSED.key 3])
        (fun d => (d.engine e.val).slice = (s.dev.engine e.val).slice ∧ d.eng = s.dev.eng)) ∧
    (∀ (s : State) (e : Fin 64) (i : Nat) (c : Cmd) (x : Entry),
      s.Running →
      cmdOp c.w1 = 1 →
      s.dev.resetBusy = false →
      (s.dev.engine e.val).hand = none →
      bestOf (s.dev.choices e.val) = some (i, c) →
      s.dev.bankVoid (bankOf (cmdBerth c.w1)) = false →
      (s.dev.granted e.val).isSome = true →
      (s.dev.engine e.val).used + 2 ≤ s.dev.cycles →
      s.dev.cell (cmdBerth c.w1) = { entry := x } →
      x.valid (cmdBerth c.w1) = true →
      c.refresh = false →
      x.a.toNat ≤ c.t.toNat →
      s.dev.preparedFor (cmdBerth c.w1) = none →
      x.kind ≠ 1 →
      x.kind ≠ 2 →
      Does (.setFreq e {}) s [.eng] ([F.ENG_CL_CYC_CNT_CYCLES.key e.val,
        F.ENG_CL_EXEC_CNT_EXECUTED.key e.val] ++ [F.ENG_FENCE_FLAGS_VALID.key 0, F.ENG_FENCE_STAT_PASSED.key 0,
        F.ENG_FENCE_STAT_PASSED.key 1, F.ENG_FENCE_STAT_PASSED.key 2, F.ENG_FENCE_STAT_PASSED.key 3])
        (fun d => (d.engine e.val).slice = dropAt (s.dev.engine e.val).slice i ∧
          (d.engine e.val).used = (s.dev.engine e.val).used + 2 ∧
          d.eng.flights = s.dev.eng.flights ++
          [({ eng := e.val, cmd := { c with genSeen := x.gen }, berth := cmdBerth c.w1, entry? := some (x.refreq c.t (cmdFreq c.w1) none).next, barge? := none, act := .none }
          : Flight)] ∧ d.eng.counts c.src = s.dev.eng.counts c.src)) ∧
    (∀ (s : State) (e : Fin 64) (i : Nat) (c : Cmd) (x : Entry),
      s.Running →
      cmdOp c.w1 = 1 →
      s.dev.resetBusy = false →
      (s.dev.engine e.val).hand = none →
      bestOf (s.dev.choices e.val) = some (i, c) →
      s.dev.bankVoid (bankOf (cmdBerth c.w1)) = false →
      (s.dev.granted e.val).isSome = true →
      (s.dev.engine e.val).used + 2 ≤ s.dev.cycles →
      s.dev.cell (cmdBerth c.w1) = { entry := x } →
      x.valid (cmdBerth c.w1) = true →
      c.refresh = false →
      x.a.toNat ≤ c.t.toNat →
      s.dev.preparedFor (cmdBerth c.w1) = none →
      x.kind = 2 →
      s.dev.coreRefusal (cmdBerth c.w1) x false = none →
      s.dev.outOfRange (s.dev.actingCore x) (cmdFreq c.w1) = false →
      Does (.setFreq e {}) s [.eng] ([F.ENG_CL_CYC_CNT_CYCLES.key e.val,
        F.ENG_CL_EXEC_CNT_EXECUTED.key e.val] ++ [F.ENG_FENCE_FLAGS_VALID.key 0, F.ENG_FENCE_STAT_PASSED.key 0,
        F.ENG_FENCE_STAT_PASSED.key 1, F.ENG_FENCE_STAT_PASSED.key 2, F.ENG_FENCE_STAT_PASSED.key 3])
        (fun d => (d.engine e.val).slice = dropAt (s.dev.engine e.val).slice i ∧
          (d.engine e.val).used = (s.dev.engine e.val).used + 2 ∧
          d.eng.flights = s.dev.eng.flights ++
          [({ eng := e.val, cmd := { c with genSeen := x.gen }, berth := cmdBerth c.w1, entry? := some (x.refreq c.t (cmdFreq c.w1) none).next, barge? := none, act := .loads [Load.acting c (s.dev.actingCore x) .freq (x.refreq c.t (cmdFreq c.w1) none).next] }
          : Flight)])) ∧
    (∀ (s : State) (e : Fin 64) (i : Nat) (c : Cmd) (x : Entry) (h lane slot : Nat),
      s.Running →
      cmdOp c.w1 = 1 →
      s.dev.resetBusy = false →
      (s.dev.engine e.val).hand = none →
      bestOf (s.dev.choices e.val) = some (i, c) →
      s.dev.bankVoid (bankOf (cmdBerth c.w1)) = false →
      (s.dev.granted e.val).isSome = true →
      (s.dev.engine e.val).used + 2 ≤ s.dev.cycles →
      s.dev.cell (cmdBerth c.w1) = { entry := x } →
      x.valid (cmdBerth c.w1) = true →
      c.refresh = false →
      x.a.toNat ≤ c.t.toNat →
      s.dev.preparedFor (cmdBerth c.w1) = none →
      x.kind = 1 →
      s.dev.servingWharf (cmdBerth c.w1) = some h →
      s.dev.wharfTrained h = true →
      s.dev.slotFor h = some (lane, slot) →
      Does (.setFreq e {}) s [.eng] ([F.ENG_CL_CYC_CNT_CYCLES.key e.val,
        F.ENG_CL_EXEC_CNT_EXECUTED.key e.val] ++ [F.ENG_FENCE_FLAGS_VALID.key 0, F.ENG_FENCE_STAT_PASSED.key 0,
        F.ENG_FENCE_STAT_PASSED.key 1, F.ENG_FENCE_STAT_PASSED.key 2,
        F.ENG_FENCE_STAT_PASSED.key 3] ++ [F.WHF_CREDIT_HELD.key h])
        (fun d => (d.engine e.val).slice = dropAt (s.dev.engine e.val).slice i ∧
          (d.engine e.val).used = (s.dev.engine e.val).used + 2 ∧
          d.eng.flights = s.dev.eng.flights ++
          [({ eng := e.val, cmd := { c with genSeen := x.gen }, berth := cmdBerth c.w1, entry? := some (x.refreq c.t (cmdFreq c.w1) none).next, barge? := some (s.dev.packBarge c (cmdBerth c.w1) (x.refreq c.t (cmdFreq c.w1) none).next h false false false lane slot), act := .none }
          : Flight)] ∧ d.get F.WHF_CREDIT_HELD h = (s.dev.get F.WHF_CREDIT_HELD h - 1) % 2 ^ 7)) ∧
    (∀ (s : State) (e : Fin 64) (i : Nat) (c : Cmd) (x : Entry),
      s.Running →
      cmdOp c.w1 = 2 →
      s.dev.resetBusy = false →
      (s.dev.engine e.val).hand = none →
      bestOf (s.dev.choices e.val) = some (i, c) →
      s.dev.bankVoid (bankOf (cmdBerth c.w1)) = false →
      (s.dev.granted e.val).isSome = true →
      (s.dev.engine e.val).used + 2 ≤ s.dev.cycles →
      s.dev.cell (cmdBerth c.w1) = { entry := x } →
      x.valid (cmdBerth c.w1) = true →
      c.refresh = false →
      x.a.toNat ≤ c.t.toNat →
      s.dev.preparedFor (cmdBerth c.w1) = none →
      x.kind ≠ 1 →
      x.kind ≠ 2 →
      Does (.setFreqPhase e {}) s [.eng] ([F.ENG_CL_CYC_CNT_CYCLES.key e.val,
        F.ENG_CL_EXEC_CNT_EXECUTED.key e.val] ++ [F.ENG_FENCE_FLAGS_VALID.key 0, F.ENG_FENCE_STAT_PASSED.key 0,
        F.ENG_FENCE_STAT_PASSED.key 1, F.ENG_FENCE_STAT_PASSED.key 2, F.ENG_FENCE_STAT_PASSED.key 3])
        (fun d => (d.engine e.val).slice = dropAt (s.dev.engine e.val).slice i ∧
          (d.engine e.val).used = (s.dev.engine e.val).used + 2 ∧
          d.eng.flights = s.dev.eng.flights ++
          [({ eng := e.val, cmd := { c with genSeen := x.gen }, berth := cmdBerth c.w1, entry? := some (x.refreq c.t (cmdFreq c.w1) (some c.w2)).next, barge? := none, act := .none }
          : Flight)] ∧ d.eng.counts c.src = s.dev.eng.counts c.src)) ∧
    (∀ (s : State) (e : Fin 64) (i : Nat) (c : Cmd) (x : Entry),
      s.Running →
      cmdOp c.w1 = 2 →
      s.dev.resetBusy = false →
      (s.dev.engine e.val).hand = none →
      bestOf (s.dev.choices e.val) = some (i, c) →
      s.dev.bankVoid (bankOf (cmdBerth c.w1)) = false →
      (s.dev.granted e.val).isSome = true →
      (s.dev.engine e.val).used + 2 ≤ s.dev.cycles →
      s.dev.cell (cmdBerth c.w1) = { entry := x } →
      x.valid (cmdBerth c.w1) = true →
      c.refresh = false →
      x.a.toNat ≤ c.t.toNat →
      s.dev.preparedFor (cmdBerth c.w1) = none →
      x.kind = 2 →
      s.dev.coreRefusal (cmdBerth c.w1) x false = none →
      s.dev.outOfRange (s.dev.actingCore x) (cmdFreq c.w1) = false →
      Does (.setFreqPhase e {}) s [.eng] ([F.ENG_CL_CYC_CNT_CYCLES.key e.val,
        F.ENG_CL_EXEC_CNT_EXECUTED.key e.val] ++ [F.ENG_FENCE_FLAGS_VALID.key 0, F.ENG_FENCE_STAT_PASSED.key 0,
        F.ENG_FENCE_STAT_PASSED.key 1, F.ENG_FENCE_STAT_PASSED.key 2, F.ENG_FENCE_STAT_PASSED.key 3])
        (fun d => (d.engine e.val).slice = dropAt (s.dev.engine e.val).slice i ∧
          (d.engine e.val).used = (s.dev.engine e.val).used + 2 ∧
          d.eng.flights = s.dev.eng.flights ++
          [({ eng := e.val, cmd := { c with genSeen := x.gen }, berth := cmdBerth c.w1, entry? := some (x.refreq c.t (cmdFreq c.w1) (some c.w2)).next, barge? := none, act := .loads [Load.acting c (s.dev.actingCore x) .freq (x.refreq c.t (cmdFreq c.w1) (some c.w2)).next] }
          : Flight)])) ∧
    (∀ (s : State) (e : Fin 64) (i : Nat) (c : Cmd) (x : Entry) (h lane slot : Nat),
      s.Running →
      cmdOp c.w1 = 2 →
      s.dev.resetBusy = false →
      (s.dev.engine e.val).hand = none →
      bestOf (s.dev.choices e.val) = some (i, c) →
      s.dev.bankVoid (bankOf (cmdBerth c.w1)) = false →
      (s.dev.granted e.val).isSome = true →
      (s.dev.engine e.val).used + 2 ≤ s.dev.cycles →
      s.dev.cell (cmdBerth c.w1) = { entry := x } →
      x.valid (cmdBerth c.w1) = true →
      c.refresh = false →
      x.a.toNat ≤ c.t.toNat →
      s.dev.preparedFor (cmdBerth c.w1) = none →
      x.kind = 1 →
      s.dev.servingWharf (cmdBerth c.w1) = some h →
      s.dev.wharfTrained h = true →
      s.dev.slotFor h = some (lane, slot) →
      Does (.setFreqPhase e {}) s [.eng] ([F.ENG_CL_CYC_CNT_CYCLES.key e.val,
        F.ENG_CL_EXEC_CNT_EXECUTED.key e.val] ++ [F.ENG_FENCE_FLAGS_VALID.key 0, F.ENG_FENCE_STAT_PASSED.key 0,
        F.ENG_FENCE_STAT_PASSED.key 1, F.ENG_FENCE_STAT_PASSED.key 2,
        F.ENG_FENCE_STAT_PASSED.key 3] ++ [F.WHF_CREDIT_HELD.key h])
        (fun d => (d.engine e.val).slice = dropAt (s.dev.engine e.val).slice i ∧
          (d.engine e.val).used = (s.dev.engine e.val).used + 2 ∧
          d.eng.flights = s.dev.eng.flights ++
          [({ eng := e.val, cmd := { c with genSeen := x.gen }, berth := cmdBerth c.w1, entry? := some (x.refreq c.t (cmdFreq c.w1) (some c.w2)).next, barge? := some (s.dev.packBarge c (cmdBerth c.w1) (x.refreq c.t (cmdFreq c.w1) (some c.w2)).next h false false false lane slot), act := .none }
          : Flight)] ∧ d.get F.WHF_CREDIT_HELD h = (s.dev.get F.WHF_CREDIT_HELD h - 1) % 2 ^ 7)) ∧
    (∀ (s : State) (e : Fin 64) (i : Nat) (c : Cmd) (x : Entry),
      s.Running →
      cmdOp c.w1 = 3 →
      s.dev.resetBusy = false →
      (s.dev.engine e.val).hand = none →
      bestOf (s.dev.choices e.val) = some (i, c) →
      s.dev.bankVoid (bankOf (cmdBerth c.w1)) = false →
      (s.dev.granted e.val).isSome = true →
      (s.dev.engine e.val).used + 2 ≤ s.dev.cycles →
      s.dev.cell (cmdBerth c.w1) = { entry := x } →
      x.valid (cmdBerth c.w1) = true →
      c.refresh = false →
      x.a.toNat ≤ c.t.toNat →
      s.dev.preparedFor (cmdBerth c.w1) = none →
      x.kind ≠ 1 →
      x.kind ≠ 2 →
      Does (.addPhase e {}) s [.eng] ([F.ENG_CL_CYC_CNT_CYCLES.key e.val,
        F.ENG_CL_EXEC_CNT_EXECUTED.key e.val] ++ [F.ENG_FENCE_FLAGS_VALID.key 0, F.ENG_FENCE_STAT_PASSED.key 0,
        F.ENG_FENCE_STAT_PASSED.key 1, F.ENG_FENCE_STAT_PASSED.key 2, F.ENG_FENCE_STAT_PASSED.key 3])
        (fun d => (d.engine e.val).slice = dropAt (s.dev.engine e.val).slice i ∧
          (d.engine e.val).used = (s.dev.engine e.val).used + 2 ∧
          d.eng.flights = s.dev.eng.flights ++
          [({ eng := e.val, cmd := { c with genSeen := x.gen }, berth := cmdBerth c.w1, entry? := some ({ x with phi := x.phi + cmdDelta c.w1 } : Entry).next, barge? := none, act := .none }
          : Flight)] ∧ d.eng.counts c.src = s.dev.eng.counts c.src)) ∧
    (∀ (s : State) (e : Fin 64) (i : Nat) (c : Cmd) (x : Entry),
      s.Running →
      cmdOp c.w1 = 3 →
      s.dev.resetBusy = false →
      (s.dev.engine e.val).hand = none →
      bestOf (s.dev.choices e.val) = some (i, c) →
      s.dev.bankVoid (bankOf (cmdBerth c.w1)) = false →
      (s.dev.granted e.val).isSome = true →
      (s.dev.engine e.val).used + 2 ≤ s.dev.cycles →
      s.dev.cell (cmdBerth c.w1) = { entry := x } →
      x.valid (cmdBerth c.w1) = true →
      c.refresh = false →
      x.a.toNat ≤ c.t.toNat →
      s.dev.preparedFor (cmdBerth c.w1) = none →
      x.kind = 2 →
      s.dev.coreRefusal (cmdBerth c.w1) x false = none →
      Does (.addPhase e {}) s [.eng] ([F.ENG_CL_CYC_CNT_CYCLES.key e.val,
        F.ENG_CL_EXEC_CNT_EXECUTED.key e.val] ++ [F.ENG_FENCE_FLAGS_VALID.key 0, F.ENG_FENCE_STAT_PASSED.key 0,
        F.ENG_FENCE_STAT_PASSED.key 1, F.ENG_FENCE_STAT_PASSED.key 2, F.ENG_FENCE_STAT_PASSED.key 3])
        (fun d => (d.engine e.val).slice = dropAt (s.dev.engine e.val).slice i ∧
          (d.engine e.val).used = (s.dev.engine e.val).used + 2 ∧
          d.eng.flights = s.dev.eng.flights ++
          [({ eng := e.val, cmd := { c with genSeen := x.gen }, berth := cmdBerth c.w1, entry? := some ({ x with phi := x.phi + cmdDelta c.w1 } : Entry).next, barge? := none, act := .loads [Load.acting c (s.dev.actingCore x) .phase ({ x with phi := x.phi + cmdDelta c.w1 } : Entry).next] }
          : Flight)])) ∧
    (∀ (s : State) (e : Fin 64) (i : Nat) (c : Cmd) (x : Entry) (h lane slot : Nat),
      s.Running →
      cmdOp c.w1 = 3 →
      s.dev.resetBusy = false →
      (s.dev.engine e.val).hand = none →
      bestOf (s.dev.choices e.val) = some (i, c) →
      s.dev.bankVoid (bankOf (cmdBerth c.w1)) = false →
      (s.dev.granted e.val).isSome = true →
      (s.dev.engine e.val).used + 2 ≤ s.dev.cycles →
      s.dev.cell (cmdBerth c.w1) = { entry := x } →
      x.valid (cmdBerth c.w1) = true →
      c.refresh = false →
      x.a.toNat ≤ c.t.toNat →
      s.dev.preparedFor (cmdBerth c.w1) = none →
      x.kind = 1 →
      s.dev.servingWharf (cmdBerth c.w1) = some h →
      s.dev.wharfTrained h = true →
      s.dev.slotFor h = some (lane, slot) →
      Does (.addPhase e {}) s [.eng] ([F.ENG_CL_CYC_CNT_CYCLES.key e.val,
        F.ENG_CL_EXEC_CNT_EXECUTED.key e.val] ++ [F.ENG_FENCE_FLAGS_VALID.key 0, F.ENG_FENCE_STAT_PASSED.key 0,
        F.ENG_FENCE_STAT_PASSED.key 1, F.ENG_FENCE_STAT_PASSED.key 2,
        F.ENG_FENCE_STAT_PASSED.key 3] ++ [F.WHF_CREDIT_HELD.key h])
        (fun d => (d.engine e.val).slice = dropAt (s.dev.engine e.val).slice i ∧
          (d.engine e.val).used = (s.dev.engine e.val).used + 2 ∧
          d.eng.flights = s.dev.eng.flights ++
          [({ eng := e.val, cmd := { c with genSeen := x.gen }, berth := cmdBerth c.w1, entry? := some ({ x with phi := x.phi + cmdDelta c.w1 } : Entry).next, barge? := some (s.dev.packBarge c (cmdBerth c.w1) ({ x with phi := x.phi + cmdDelta c.w1 } : Entry).next h false false false lane slot), act := .none }
          : Flight)] ∧ d.get F.WHF_CREDIT_HELD h = (s.dev.get F.WHF_CREDIT_HELD h - 1) % 2 ^ 7)) ∧
    (∀ (s : State) (r : Instr) (e : Fin 64) (up : Upset) (i : Nat) (c : Cmd) (x : Entry),
      s.Running →
      engineRow r = some (e, up) →
      rowTakes r c.w1 = true →
      up = {} →
      s.dev.resetBusy = false →
      (s.dev.engine e.val).hand = none →
      bestOf (s.dev.choices e.val) = some (i, c) →
      s.dev.bankVoid (bankOf (cmdBerth c.w1)) = false →
      (s.dev.granted e.val).isSome = true →
      (s.dev.engine e.val).used + 2 ≤ s.dev.cycles →
      cmdOp c.w1 ≠ 0 →
      s.dev.cell (cmdBerth c.w1) = { entry := x } →
      x.valid (cmdBerth c.w1) = true →
      c.refresh = false →
      c.t.toNat < x.a.toNat →
      s.dev.preparedFor (cmdBerth c.w1) = none →
      Does r s [.eng, .flt] ([F.ENG_CL_CYC_CNT_CYCLES.key e.val, F.ENG_CL_EXEC_CNT_EXECUTED.key e.val] ++
        [F.ENG_FENCE_FLAGS_VALID.key 0, F.ENG_FENCE_STAT_PASSED.key 0, F.ENG_FENCE_STAT_PASSED.key 1,
        F.ENG_FENCE_STAT_PASSED.key 2, F.ENG_FENCE_STAT_PASSED.key 3] ++ logKeys)
        (fun d => (d.engine e.val).slice = dropAt (s.dev.engine e.val).slice i ∧ d.eng.flights = s.dev.eng.flights ∧
          d.eng.counts c.src = (s.dev.eng.counts c.src).reject false ∧ (d.engine e.val).used = (s.dev.engine e.val).used + 1 ∧
          s.dev.Logged d c 7 x.gen)) ∧
    (∀ (s : State) (e : Fin 64) (i : Nat) (c : Cmd) (x : Entry) (k : Nat) (th : Pound),
      s.Running →
      cmdOp c.w1 = 1 →
      s.dev.resetBusy = false →
      (s.dev.engine e.val).hand = none →
      bestOf (s.dev.choices e.val) = some (i, c) →
      s.dev.bankVoid (bankOf (cmdBerth c.w1)) = false →
      (s.dev.granted e.val).isSome = true →
      (s.dev.engine e.val).used + 2 ≤ s.dev.cycles →
      s.dev.cell (cmdBerth c.w1) = { entry := x } →
      x.valid (cmdBerth c.w1) = true →
      c.refresh = false →
      x.kind = 2 →
      s.dev.coreRefusal (cmdBerth c.w1) x false = none →
      s.dev.hopOf (cmdBerth c.w1) = some (k, th) →
      c.t.toNat ≤ th.toNat →
      x.a.toNat ≤ c.t.toNat →
      Does (.setFreq e {}) s [.eng, .flt] ([F.ENG_CL_CYC_CNT_CYCLES.key e.val,
        F.ENG_CL_EXEC_CNT_EXECUTED.key e.val] ++ [F.ENG_FENCE_FLAGS_VALID.key 0, F.ENG_FENCE_STAT_PASSED.key 0,
        F.ENG_FENCE_STAT_PASSED.key 1, F.ENG_FENCE_STAT_PASSED.key 2, F.ENG_FENCE_STAT_PASSED.key 3] ++ logKeys)
        (fun d => (d.engine e.val).slice = dropAt (s.dev.engine e.val).slice i ∧ d.eng.flights = s.dev.eng.flights ∧
          d.eng.counts c.src = (s.dev.eng.counts c.src).reject false ∧ s.dev.Logged d c 0x12 x.gen)) ∧
    (∀ (s : State) (e : Fin 64) (i : Nat) (c : Cmd) (x : Entry) (k : Nat) (th : Pound),
      s.Running →
      cmdOp c.w1 = 2 →
      s.dev.resetBusy = false →
      (s.dev.engine e.val).hand = none →
      bestOf (s.dev.choices e.val) = some (i, c) →
      s.dev.bankVoid (bankOf (cmdBerth c.w1)) = false →
      (s.dev.granted e.val).isSome = true →
      (s.dev.engine e.val).used + 2 ≤ s.dev.cycles →
      s.dev.cell (cmdBerth c.w1) = { entry := x } →
      x.valid (cmdBerth c.w1) = true →
      c.refresh = false →
      x.kind = 2 →
      s.dev.coreRefusal (cmdBerth c.w1) x false = none →
      s.dev.hopOf (cmdBerth c.w1) = some (k, th) →
      c.t.toNat ≤ th.toNat →
      x.a.toNat ≤ c.t.toNat →
      Does (.setFreqPhase e {}) s [.eng, .flt] ([F.ENG_CL_CYC_CNT_CYCLES.key e.val,
        F.ENG_CL_EXEC_CNT_EXECUTED.key e.val] ++ [F.ENG_FENCE_FLAGS_VALID.key 0, F.ENG_FENCE_STAT_PASSED.key 0,
        F.ENG_FENCE_STAT_PASSED.key 1, F.ENG_FENCE_STAT_PASSED.key 2, F.ENG_FENCE_STAT_PASSED.key 3] ++ logKeys)
        (fun d => (d.engine e.val).slice = dropAt (s.dev.engine e.val).slice i ∧ d.eng.flights = s.dev.eng.flights ∧
          d.eng.counts c.src = (s.dev.eng.counts c.src).reject false ∧ s.dev.Logged d c 0x12 x.gen)) ∧
    (∀ (s : State) (e : Fin 64) (i : Nat) (c : Cmd) (x : Entry) (k : Nat) (th : Pound),
      s.Running →
      cmdOp c.w1 = 3 →
      s.dev.resetBusy = false →
      (s.dev.engine e.val).hand = none →
      bestOf (s.dev.choices e.val) = some (i, c) →
      s.dev.bankVoid (bankOf (cmdBerth c.w1)) = false →
      (s.dev.granted e.val).isSome = true →
      (s.dev.engine e.val).used + 2 ≤ s.dev.cycles →
      s.dev.cell (cmdBerth c.w1) = { entry := x } →
      x.valid (cmdBerth c.w1) = true →
      c.refresh = false →
      x.kind = 2 →
      s.dev.coreRefusal (cmdBerth c.w1) x false = none →
      s.dev.hopOf (cmdBerth c.w1) = some (k, th) →
      c.t.toNat ≤ th.toNat →
      Does (.addPhase e {}) s [.eng] ([F.ENG_CL_CYC_CNT_CYCLES.key e.val,
        F.ENG_CL_EXEC_CNT_EXECUTED.key e.val] ++ [F.ENG_FENCE_FLAGS_VALID.key 0, F.ENG_FENCE_STAT_PASSED.key 0,
        F.ENG_FENCE_STAT_PASSED.key 1, F.ENG_FENCE_STAT_PASSED.key 2, F.ENG_FENCE_STAT_PASSED.key 3])
        (fun d => (d.engine e.val).slice = dropAt (s.dev.engine e.val).slice i ∧
          (d.engine e.val).used = (s.dev.engine e.val).used + 2 ∧
          d.eng.flights = s.dev.eng.flights ++
          [({ eng := e.val, cmd := { c with genSeen := x.gen }, berth := cmdBerth c.w1, entry? := some (({ x with phi := x.phi + cmdDelta c.w1 } : Entry).next), barge? := none, act := .loads (if c.t.toNat < th.toNat then [({ Load.of c (s.dev.standbyCore k) .addPhase ({ x with phi := x.phi + cmdDelta c.w1 } : Entry).next with t := s.dev.tow.pound + 1, phi := cmdDelta c.w1 } : Load), ({ Load.of c (s.dev.activeCore k) .addPhase ({ x with phi := x.phi + cmdDelta c.w1 } : Entry).next with phi := cmdDelta c.w1, twin := true } : Load)] else [({ Load.of c (s.dev.standbyCore k) .addPhase ({ x with phi := x.phi + cmdDelta c.w1 } : Entry).next with t := s.dev.tow.pound + 1, phi := cmdDelta c.w1 } : Load)]) }
          : Flight)]))

/-- With a granted lease, cycles left, a valid entry read without error,
  a target pound at or after the anchor and no hop prepared by the Berth: BIND of an unbound Berth to a core that the checks of
  R158 admit waits for the commit with the entry bound to it and the load of the core,
  or of both cores of an enabled twin; BIND to a channel binds the entry and packs the first Barge; RELEASE of a core-bound
  Berth frees the entry and releases its core or both cores of its twin at T, of a channel-bound one frees the entry,
  and of an unbound one is rejected with NOT_BOUND; EMIT on a core loads its target; EMIT of a channel-bound Berth on a trained
  wharf with a free slot takes a credit and packs the Barge; an EMIT of the refresh walker does so too,
  and on a Berth that takes no refresh does nothing. Choices of the model on which this rests: log entries 11, 68, 92, 123,
  129 and 132. -/
def Obligations.EngineBinds : Prop :=
  (∀ (s : State) (e : Fin 64) (i : Nat) (c : Cmd) (x : Entry),
      s.Running →
      cmdOp c.w1 = 4 →
      s.dev.resetBusy = false →
      (s.dev.engine e.val).hand = none →
      bestOf (s.dev.choices e.val) = some (i, c) →
      s.dev.bankVoid (bankOf (cmdBerth c.w1)) = false →
      (s.dev.granted e.val).isSome = true →
      (s.dev.engine e.val).used + 2 ≤ s.dev.cycles →
      s.dev.cell (cmdBerth c.w1) = { entry := x } →
      x.valid (cmdBerth c.w1) = true →
      c.refresh = false →
      x.a.toNat ≤ c.t.toNat →
      s.dev.preparedFor (cmdBerth c.w1) = none →
      x.bound = false →
      cmdBinding c.w1 / 64 ≠ 1 →
      s.dev.bindRefusal (cmdBerth c.w1) (cmdBinding c.w1 % 16) x = none →
      s.dev.twinEnabled (cmdBinding c.w1 % 16 / 2) = false →
      Does (.bind e {}) s [.eng] ([F.ENG_CL_CYC_CNT_CYCLES.key e.val,
        F.ENG_CL_EXEC_CNT_EXECUTED.key e.val] ++ [F.ENG_FENCE_FLAGS_VALID.key 0, F.ENG_FENCE_STAT_PASSED.key 0,
        F.ENG_FENCE_STAT_PASSED.key 1, F.ENG_FENCE_STAT_PASSED.key 2, F.ENG_FENCE_STAT_PASSED.key 3])
        (fun d => (d.engine e.val).slice = dropAt (s.dev.engine e.val).slice i ∧
          (d.engine e.val).used = (s.dev.engine e.val).used + 2 ∧
          d.eng.flights = s.dev.eng.flights ++
          [({ eng := e.val, cmd := { c with genSeen := x.gen }, berth := cmdBerth c.w1, entry? := some (({ x with state := 1, binding := BitVec.ofNat 8 (0x80 + cmdBinding c.w1 % 16), flags := cmdFlags c.w1 } : Entry).next), barge? := none, act := .loads [Load.of c (cmdBinding c.w1 % 16) .bind (({ x with state := 1, binding := BitVec.ofNat 8 (0x80 + cmdBinding c.w1 % 16), flags := cmdFlags c.w1 } : Entry).next)] }
          : Flight)])) ∧
    (∀ (s : State) (e : Fin 64) (i : Nat) (c : Cmd) (x : Entry),
      s.Running →
      cmdOp c.w1 = 4 →
      s.dev.resetBusy = false →
      (s.dev.engine e.val).hand = none →
      bestOf (s.dev.choices e.val) = some (i, c) →
      s.dev.bankVoid (bankOf (cmdBerth c.w1)) = false →
      (s.dev.granted e.val).isSome = true →
      (s.dev.engine e.val).used + 2 ≤ s.dev.cycles →
      s.dev.cell (cmdBerth c.w1) = { entry := x } →
      x.valid (cmdBerth c.w1) = true →
      c.refresh = false →
      x.a.toNat ≤ c.t.toNat →
      s.dev.preparedFor (cmdBerth c.w1) = none →
      x.bound = false →
      cmdBinding c.w1 / 64 ≠ 1 →
      s.dev.bindRefusal (cmdBerth c.w1) (cmdBinding c.w1 % 16) x = none →
      s.dev.twinEnabled (cmdBinding c.w1 % 16 / 2) = true →
      Does (.bind e {}) s [.eng] ([F.ENG_CL_CYC_CNT_CYCLES.key e.val,
        F.ENG_CL_EXEC_CNT_EXECUTED.key e.val] ++ [F.ENG_FENCE_FLAGS_VALID.key 0, F.ENG_FENCE_STAT_PASSED.key 0,
        F.ENG_FENCE_STAT_PASSED.key 1, F.ENG_FENCE_STAT_PASSED.key 2, F.ENG_FENCE_STAT_PASSED.key 3])
        (fun d => (d.engine e.val).slice = dropAt (s.dev.engine e.val).slice i ∧
          (d.engine e.val).used = (s.dev.engine e.val).used + 2 ∧
          d.eng.flights = s.dev.eng.flights ++
          [({ eng := e.val, cmd := { c with genSeen := x.gen }, berth := cmdBerth c.w1, entry? := some (({ x with state := 1, binding := BitVec.ofNat 8 (0x80 + 0x20 + 2 * (cmdBinding c.w1 % 16 / 2)), flags := cmdFlags c.w1 } : Entry).next), barge? := none, act := .loads [Load.acting c (s.dev.standbyCore (cmdBinding c.w1 % 16 / 2)) .record (({ x with state := 1, binding := BitVec.ofNat 8 (0x80 + 0x20 + 2 * (cmdBinding c.w1 % 16 / 2)), flags := cmdFlags c.w1 } : Entry).next), Load.acting c (s.dev.activeCore (cmdBinding c.w1 % 16 / 2)) .bind (({ x with state := 1, binding := BitVec.ofNat 8 (0x80 + 0x20 + 2 * (cmdBinding c.w1 % 16 / 2)), flags := cmdFlags c.w1 } : Entry).next)] }
          : Flight)])) ∧
    (∀ (s : State) (e : Fin 64) (i : Nat) (c : Cmd) (x : Entry) (h lane slot : Nat),
      s.Running →
      cmdOp c.w1 = 4 →
      s.dev.resetBusy = false →
      (s.dev.engine e.val).hand = none →
      bestOf (s.dev.choices e.val) = some (i, c) →
      s.dev.bankVoid (bankOf (cmdBerth c.w1)) = false →
      (s.dev.granted e.val).isSome = true →
      (s.dev.engine e.val).used + 2 ≤ s.dev.cycles →
      s.dev.cell (cmdBerth c.w1) = { entry := x } →
      x.valid (cmdBerth c.w1) = true →
      c.refresh = false →
      x.a.toNat ≤ c.t.toNat →
      s.dev.preparedFor (cmdBerth c.w1) = none →
      x.bound = false →
      cmdBinding c.w1 / 64 = 1 →
      s.dev.servingWharf (cmdBerth c.w1) = some h →
      s.dev.wharfTrained h = true →
      s.dev.slotFor h = some (lane, slot) →
      Does (.bind e {}) s [.eng] ([F.ENG_CL_CYC_CNT_CYCLES.key e.val,
        F.ENG_CL_EXEC_CNT_EXECUTED.key e.val] ++ [F.ENG_FENCE_FLAGS_VALID.key 0, F.ENG_FENCE_STAT_PASSED.key 0,
        F.ENG_FENCE_STAT_PASSED.key 1, F.ENG_FENCE_STAT_PASSED.key 2,
        F.ENG_FENCE_STAT_PASSED.key 3] ++ [F.WHF_CREDIT_HELD.key h])
        (fun d => (d.engine e.val).slice = dropAt (s.dev.engine e.val).slice i ∧
          (d.engine e.val).used = (s.dev.engine e.val).used + 2 ∧
          d.eng.flights = s.dev.eng.flights ++
          [({ eng := e.val, cmd := { c with genSeen := x.gen }, berth := cmdBerth c.w1, entry? := some (({ x with state := 1, binding := 0x40, flags := cmdFlags c.w1 } : Entry).next), barge? := some (s.dev.packBarge c (cmdBerth c.w1) (({ x with state := 1, binding := 0x40, flags := cmdFlags c.w1 } : Entry).next) h true false false lane slot), act := .none }
          : Flight)] ∧ d.get F.WHF_CREDIT_HELD h = (s.dev.get F.WHF_CREDIT_HELD h - 1) % 2 ^ 7)) ∧
    (∀ (s : State) (e : Fin 64) (i : Nat) (c : Cmd) (x : Entry),
      s.Running →
      cmdOp c.w1 = 5 →
      s.dev.resetBusy = false →
      (s.dev.engine e.val).hand = none →
      bestOf (s.dev.choices e.val) = some (i, c) →
      s.dev.bankVoid (bankOf (cmdBerth c.w1)) = false →
      (s.dev.granted e.val).isSome = true →
      (s.dev.engine e.val).used + 2 ≤ s.dev.cycles →
      s.dev.cell (cmdBerth c.w1) = { entry := x } →
      x.valid (cmdBerth c.w1) = true →
      c.refresh = false →
      x.a.toNat ≤ c.t.toNat →
      s.dev.preparedFor (cmdBerth c.w1) = none →
      x.bound = true →
      x.kind = 2 →
      s.dev.coreRefusal (cmdBerth c.w1) x true = none →
      Does (.release e {}) s [.eng] ([F.ENG_CL_CYC_CNT_CYCLES.key e.val,
        F.ENG_CL_EXEC_CNT_EXECUTED.key e.val] ++ [F.ENG_FENCE_FLAGS_VALID.key 0, F.ENG_FENCE_STAT_PASSED.key 0,
        F.ENG_FENCE_STAT_PASSED.key 1, F.ENG_FENCE_STAT_PASSED.key 2, F.ENG_FENCE_STAT_PASSED.key 3])
        (fun d => (d.engine e.val).slice = dropAt (s.dev.engine e.val).slice i ∧
          (d.engine e.val).used = (s.dev.engine e.val).used + 2 ∧
          d.eng.flights = s.dev.eng.flights ++
          [({ eng := e.val, cmd := { c with genSeen := x.gen }, berth := cmdBerth c.w1, entry? := some ({ x with state := 2, binding := 0 } : Entry).next, barge? := none, act := .loads (releaseLoads c x) }
          : Flight)])) ∧
    (∀ (s : State) (e : Fin 64) (i : Nat) (c : Cmd) (x : Entry),
      s.Running →
      cmdOp c.w1 = 5 →
      s.dev.resetBusy = false →
      (s.dev.engine e.val).hand = none →
      bestOf (s.dev.choices e.val) = some (i, c) →
      s.dev.bankVoid (bankOf (cmdBerth c.w1)) = false →
      (s.dev.granted e.val).isSome = true →
      (s.dev.engine e.val).used + 2 ≤ s.dev.cycles →
      s.dev.cell (cmdBerth c.w1) = { entry := x } →
      x.valid (cmdBerth c.w1) = true →
      c.refresh = false →
      x.a.toNat ≤ c.t.toNat →
      s.dev.preparedFor (cmdBerth c.w1) = none →
      x.bound = true →
      x.kind ≠ 2 →
      Does (.release e {}) s [.eng] ([F.ENG_CL_CYC_CNT_CYCLES.key e.val,
        F.ENG_CL_EXEC_CNT_EXECUTED.key e.val] ++ [F.ENG_FENCE_FLAGS_VALID.key 0, F.ENG_FENCE_STAT_PASSED.key 0,
        F.ENG_FENCE_STAT_PASSED.key 1, F.ENG_FENCE_STAT_PASSED.key 2, F.ENG_FENCE_STAT_PASSED.key 3])
        (fun d => (d.engine e.val).slice = dropAt (s.dev.engine e.val).slice i ∧
          (d.engine e.val).used = (s.dev.engine e.val).used + 2 ∧
          d.eng.flights = s.dev.eng.flights ++
          [({ eng := e.val, cmd := { c with genSeen := x.gen }, berth := cmdBerth c.w1, entry? := some ({ x with state := 2, binding := 0 } : Entry).next, barge? := none, act := .none }
          : Flight)])) ∧
    (∀ (s : State) (e : Fin 64) (i : Nat) (c : Cmd) (x : Entry),
      s.Running →
      cmdOp c.w1 = 5 →
      s.dev.resetBusy = false →
      (s.dev.engine e.val).hand = none →
      bestOf (s.dev.choices e.val) = some (i, c) →
      s.dev.bankVoid (bankOf (cmdBerth c.w1)) = false →
      (s.dev.granted e.val).isSome = true →
      (s.dev.engine e.val).used + 2 ≤ s.dev.cycles →
      s.dev.cell (cmdBerth c.w1) = { entry := x } →
      x.valid (cmdBerth c.w1) = true →
      c.refresh = false →
      x.a.toNat ≤ c.t.toNat →
      s.dev.preparedFor (cmdBerth c.w1) = none →
      x.bound = false →
      Does (.release e {}) s [.eng, .flt] ([F.ENG_CL_CYC_CNT_CYCLES.key e.val,
        F.ENG_CL_EXEC_CNT_EXECUTED.key e.val] ++ [F.ENG_FENCE_FLAGS_VALID.key 0, F.ENG_FENCE_STAT_PASSED.key 0,
        F.ENG_FENCE_STAT_PASSED.key 1, F.ENG_FENCE_STAT_PASSED.key 2, F.ENG_FENCE_STAT_PASSED.key 3] ++ logKeys)
        (fun d => (d.engine e.val).slice = dropAt (s.dev.engine e.val).slice i ∧ d.eng.flights = s.dev.eng.flights ∧
          d.eng.counts c.src = (s.dev.eng.counts c.src).reject false ∧ s.dev.Logged d c 8 x.gen)) ∧
    (∀ (s : State) (e : Fin 64) (i : Nat) (c : Cmd) (x : Entry),
      s.Running →
      cmdOp c.w1 = 6 →
      s.dev.resetBusy = false →
      (s.dev.engine e.val).hand = none →
      bestOf (s.dev.choices e.val) = some (i, c) →
      s.dev.bankVoid (bankOf (cmdBerth c.w1)) = false →
      (s.dev.granted e.val).isSome = true →
      (s.dev.engine e.val).used + 2 ≤ s.dev.cycles →
      s.dev.cell (cmdBerth c.w1) = { entry := x } →
      x.valid (cmdBerth c.w1) = true →
      c.refresh = false →
      x.a.toNat ≤ c.t.toNat →
      s.dev.preparedFor (cmdBerth c.w1) = none →
      x.bound = true →
      x.kind = 2 →
      s.dev.coreRefusal (cmdBerth c.w1) x false = none →
      Does (.emit e {}) s [.eng] ([F.ENG_CL_CYC_CNT_CYCLES.key e.val,
        F.ENG_CL_EXEC_CNT_EXECUTED.key e.val] ++ [F.ENG_FENCE_FLAGS_VALID.key 0, F.ENG_FENCE_STAT_PASSED.key 0,
        F.ENG_FENCE_STAT_PASSED.key 1, F.ENG_FENCE_STAT_PASSED.key 2, F.ENG_FENCE_STAT_PASSED.key 3])
        (fun d => (d.engine e.val).slice = dropAt (s.dev.engine e.val).slice i ∧
          (d.engine e.val).used = (s.dev.engine e.val).used + 2 ∧
          d.eng.flights = s.dev.eng.flights ++
          [({ eng := e.val, cmd := { c with genSeen := x.gen }, berth := cmdBerth c.w1, entry? := none, barge? := none, act := .loads [Load.acting c (s.dev.actingCore x) .emit x] }
          : Flight)])) ∧
    (∀ (s : State) (e : Fin 64) (i : Nat) (c : Cmd) (x : Entry) (h lane slot : Nat),
      s.Running →
      cmdOp c.w1 = 6 →
      s.dev.resetBusy = false →
      (s.dev.engine e.val).hand = none →
      bestOf (s.dev.choices e.val) = some (i, c) →
      s.dev.bankVoid (bankOf (cmdBerth c.w1)) = false →
      (s.dev.granted e.val).isSome = true →
      (s.dev.engine e.val).used + 2 ≤ s.dev.cycles →
      s.dev.cell (cmdBerth c.w1) = { entry := x } →
      x.valid (cmdBerth c.w1) = true →
      c.refresh = false →
      x.a.toNat ≤ c.t.toNat →
      s.dev.preparedFor (cmdBerth c.w1) = none →
      x.bound = true →
      x.kind = 1 →
      s.dev.servingWharf (cmdBerth c.w1) = some h →
      s.dev.wharfTrained h = true →
      s.dev.slotFor h = some (lane, slot) →
      Does (.emit e {}) s [.eng] ([F.ENG_CL_CYC_CNT_CYCLES.key e.val,
        F.ENG_CL_EXEC_CNT_EXECUTED.key e.val] ++ [F.ENG_FENCE_FLAGS_VALID.key 0, F.ENG_FENCE_STAT_PASSED.key 0,
        F.ENG_FENCE_STAT_PASSED.key 1, F.ENG_FENCE_STAT_PASSED.key 2,
        F.ENG_FENCE_STAT_PASSED.key 3] ++ [F.WHF_CREDIT_HELD.key h])
        (fun d => (d.engine e.val).slice = dropAt (s.dev.engine e.val).slice i ∧
          (d.engine e.val).used = (s.dev.engine e.val).used + 2 ∧
          d.eng.flights = s.dev.eng.flights ++
          [({ eng := e.val, cmd := { c with genSeen := x.gen }, berth := cmdBerth c.w1, entry? := none, barge? := some (s.dev.packBarge c (cmdBerth c.w1) x h false true false lane slot), act := .none }
          : Flight)] ∧ d.get F.WHF_CREDIT_HELD h = (s.dev.get F.WHF_CREDIT_HELD h - 1) % 2 ^ 7)) ∧
    (∀ (s : State) (e : Fin 64) (i : Nat) (c : Cmd) (x : Entry) (h lane slot : Nat),
      s.Running →
      cmdOp c.w1 = 6 →
      s.dev.resetBusy = false →
      (s.dev.engine e.val).hand = none →
      bestOf (s.dev.choices e.val) = some (i, c) →
      s.dev.bankVoid (bankOf (cmdBerth c.w1)) = false →
      (s.dev.granted e.val).isSome = true →
      (s.dev.engine e.val).used + 2 ≤ s.dev.cycles →
      s.dev.cell (cmdBerth c.w1) = { entry := x } →
      x.valid (cmdBerth c.w1) = true →
      c.refresh = true →
      x.kind = 1 →
      x.noRefresh = false →
      x.a.toNat ≤ c.t.toNat →
      s.dev.servingWharf (cmdBerth c.w1) = some h →
      s.dev.wharfTrained h = true →
      s.dev.slotFor h = some (lane, slot) →
      Does (.emit e {}) s [.eng] ([F.ENG_CL_CYC_CNT_CYCLES.key e.val,
        F.ENG_CL_EXEC_CNT_EXECUTED.key e.val] ++ [F.ENG_FENCE_FLAGS_VALID.key 0, F.ENG_FENCE_STAT_PASSED.key 0,
        F.ENG_FENCE_STAT_PASSED.key 1, F.ENG_FENCE_STAT_PASSED.key 2,
        F.ENG_FENCE_STAT_PASSED.key 3] ++ [F.WHF_CREDIT_HELD.key h])
        (fun d => (d.engine e.val).slice = dropAt (s.dev.engine e.val).slice i ∧
          (d.engine e.val).used = (s.dev.engine e.val).used + 2 ∧
          d.eng.flights = s.dev.eng.flights ++
          [({ eng := e.val, cmd := { c with genSeen := x.gen }, berth := cmdBerth c.w1, entry? := none, barge? := some (s.dev.packBarge c (cmdBerth c.w1) x h false true true lane slot), act := .none }
          : Flight)] ∧ d.get F.WHF_CREDIT_HELD h = (s.dev.get F.WHF_CREDIT_HELD h - 1) % 2 ^ 7)) ∧
    (∀ (s : State) (e : Fin 64) (i : Nat) (c : Cmd) (x : Entry),
      s.Running →
      cmdOp c.w1 = 6 →
      s.dev.resetBusy = false →
      (s.dev.engine e.val).hand = none →
      bestOf (s.dev.choices e.val) = some (i, c) →
      s.dev.bankVoid (bankOf (cmdBerth c.w1)) = false →
      (s.dev.granted e.val).isSome = true →
      (s.dev.engine e.val).used + 2 ≤ s.dev.cycles →
      s.dev.cell (cmdBerth c.w1) = { entry := x } →
      x.valid (cmdBerth c.w1) = true →
      c.refresh = true →
      (x.kind ≠ 1 ∨ x.noRefresh = true ∨ c.t.toNat < x.a.toNat) →
      Does (.emit e {}) s [.eng] ([F.ENG_CL_CYC_CNT_CYCLES.key e.val,
        F.ENG_CL_EXEC_CNT_EXECUTED.key e.val] ++ [F.ENG_FENCE_FLAGS_VALID.key 0, F.ENG_FENCE_STAT_PASSED.key 0,
        F.ENG_FENCE_STAT_PASSED.key 1, F.ENG_FENCE_STAT_PASSED.key 2, F.ENG_FENCE_STAT_PASSED.key 3])
        (fun d => (d.engine e.val).slice = dropAt (s.dev.engine e.val).slice i ∧
          (d.engine e.val).used = (s.dev.engine e.val).used + 2 ∧
          d.eng.flights = s.dev.eng.flights ++
          [({ eng := e.val, cmd := { c with genSeen := x.gen }, berth := cmdBerth c.w1, entry? := none, barge? := none, act := .none }
          : Flight)]))

/-- With a granted lease, cycles left, a valid core-bound entry read without error, open acting core that records the Berth,
  a target pound at or after the anchor and no hop prepared by the Berth: a PREP_HOP of kind TWIN whose checks pass waits for
  the commit with the retuned entry and the preparation of the hop; of kind RETUNE with the load of the acting core; of kind
  PARK it changes no Berth and parks the standby with the frequency,
  phase and pound of the command; one whose checks of R120 fail is rejected with the code of the first that fails. Choices of
  the model on which this rests: log entries 11, 61, 62, 116, 129 and 132. -/
def Obligations.EngineHops : Prop :=
  (∀ (s : State) (e : Fin 64) (i : Nat) (c : Cmd) (x : Entry),
      s.Running →
      cmdOp c.w1 = 7 →
      cmdHopKind c.w1 = 1 →
      s.dev.resetBusy = false →
      (s.dev.engine e.val).hand = none →
      bestOf (s.dev.choices e.val) = some (i, c) →
      s.dev.bankVoid (bankOf (cmdBerth c.w1)) = false →
      (s.dev.granted e.val).isSome = true →
      (s.dev.engine e.val).used + 2 ≤ s.dev.cycles →
      s.dev.cell (cmdBerth c.w1) = { entry := x } →
      x.valid (cmdBerth c.w1) = true →
      c.refresh = false →
      x.a.toNat ≤ c.t.toNat →
      s.dev.preparedFor (cmdBerth c.w1) = none →
      x.kind = 2 →
      s.dev.coreRefusal (cmdBerth c.w1) x false = none →
      s.dev.outOfRange (s.dev.actingCore x) (cmdFreq c.w1) = false →
      (s.dev.bandLookup (s.dev.actingCore x) (s.dev.derived (s.dev.actingCore x) (cmdFreq c.w1))).isSome = true →
      Does (.prepHopRetune e {}) s [.eng] ([F.ENG_CL_CYC_CNT_CYCLES.key e.val,
        F.ENG_CL_EXEC_CNT_EXECUTED.key e.val] ++ [F.ENG_FENCE_FLAGS_VALID.key 0, F.ENG_FENCE_STAT_PASSED.key 0,
        F.ENG_FENCE_STAT_PASSED.key 1, F.ENG_FENCE_STAT_PASSED.key 2, F.ENG_FENCE_STAT_PASSED.key 3])
        (fun d => (d.engine e.val).slice = dropAt (s.dev.engine e.val).slice i ∧
          (d.engine e.val).used = (s.dev.engine e.val).used + 2 ∧
          d.eng.flights = s.dev.eng.flights ++
          [({ eng := e.val, cmd := { c with genSeen := x.gen }, berth := cmdBerth c.w1, entry? := some ((x.refreq c.t (cmdFreq c.w1) (if cmdPhaseAbs c.w1 then some c.w2 else none)).next), barge? := none, act := .loads [Load.acting c (s.dev.actingCore x) .retune ((x.refreq c.t (cmdFreq c.w1) (if cmdPhaseAbs c.w1 then some c.w2 else none)).next)] }
          : Flight)])) ∧
    (∀ (s : State) (e : Fin 64) (i : Nat) (c : Cmd) (x : Entry),
      s.Running →
      cmdOp c.w1 = 7 →
      cmdHopKind c.w1 = 1 →
      s.dev.resetBusy = false →
      (s.dev.engine e.val).hand = none →
      bestOf (s.dev.choices e.val) = some (i, c) →
      s.dev.bankVoid (bankOf (cmdBerth c.w1)) = false →
      (s.dev.granted e.val).isSome = true →
      (s.dev.engine e.val).used + 2 ≤ s.dev.cycles →
      s.dev.cell (cmdBerth c.w1) = { entry := x } →
      x.valid (cmdBerth c.w1) = true →
      c.refresh = false →
      x.a.toNat ≤ c.t.toNat →
      s.dev.preparedFor (cmdBerth c.w1) = none →
      x.kind = 2 →
      s.dev.coreRefusal (cmdBerth c.w1) x false = none →
      (s.dev.outOfRange (s.dev.actingCore x) (cmdFreq c.w1) = true ∨ (s.dev.bandLookup (s.dev.actingCore x) (s.dev.derived
        (s.dev.actingCore x) (cmdFreq c.w1))).isSome = false) →
      Does (.prepHopRetune e {}) s [.eng, .flt] ([F.ENG_CL_CYC_CNT_CYCLES.key e.val,
        F.ENG_CL_EXEC_CNT_EXECUTED.key e.val] ++ [F.ENG_FENCE_FLAGS_VALID.key 0, F.ENG_FENCE_STAT_PASSED.key 0,
        F.ENG_FENCE_STAT_PASSED.key 1, F.ENG_FENCE_STAT_PASSED.key 2, F.ENG_FENCE_STAT_PASSED.key 3] ++ logKeys)
        (fun d => (d.engine e.val).slice = dropAt (s.dev.engine e.val).slice i ∧ d.eng.flights = s.dev.eng.flights ∧
          d.eng.counts c.src = (s.dev.eng.counts c.src).reject false ∧ (d.engine e.val).used = (s.dev.engine e.val).used + 1 ∧
          s.dev.Logged d c (if s.dev.outOfRange (s.dev.actingCore x) (cmdFreq c.w1) then 0x0D else 0x11) x.gen)) ∧
    (∀ (s : State) (e : Fin 64) (i : Nat) (c : Cmd) (x : Entry),
      s.Running →
      cmdOp c.w1 = 7 →
      cmdHopKind c.w1 = 0 →
      s.dev.resetBusy = false →
      (s.dev.engine e.val).hand = none →
      bestOf (s.dev.choices e.val) = some (i, c) →
      s.dev.bankVoid (bankOf (cmdBerth c.w1)) = false →
      (s.dev.granted e.val).isSome = true →
      (s.dev.engine e.val).used + 2 ≤ s.dev.cycles →
      s.dev.cell (cmdBerth c.w1) = { entry := x } →
      x.valid (cmdBerth c.w1) = true →
      c.refresh = false →
      x.a.toNat ≤ c.t.toNat →
      s.dev.preparedFor (cmdBerth c.w1) = none →
      x.kind = 2 →
      s.dev.coreRefusal (cmdBerth c.w1) x false = none →
      s.dev.twinHopRefusal x (cmdFreq c.w1) = none →
      Does (.prepHopTwin e {}) s [.eng] ([F.ENG_CL_CYC_CNT_CYCLES.key e.val,
        F.ENG_CL_EXEC_CNT_EXECUTED.key e.val] ++ [F.ENG_FENCE_FLAGS_VALID.key 0, F.ENG_FENCE_STAT_PASSED.key 0,
        F.ENG_FENCE_STAT_PASSED.key 1, F.ENG_FENCE_STAT_PASSED.key 2, F.ENG_FENCE_STAT_PASSED.key 3])
        (fun d => (d.engine e.val).slice = dropAt (s.dev.engine e.val).slice i ∧
          (d.engine e.val).used = (s.dev.engine e.val).used + 2 ∧
          d.eng.flights = s.dev.eng.flights ++
          [({ eng := e.val, cmd := { c with genSeen := x.gen }, berth := cmdBerth c.w1, entry? := some ((x.refreq c.t (cmdFreq c.w1) (if cmdPhaseAbs c.w1 then some c.w2 else none)).next), barge? := none, act := .hop (x.core / 2) c.t (Load.of c (s.dev.standbyCore (x.core / 2)) .hop ((x.refreq c.t (cmdFreq c.w1) (if cmdPhaseAbs c.w1 then some c.w2 else none)).next)) }
          : Flight)] ∧ d.twins = s.dev.twins)) ∧
    (∀ (s : State) (e : Fin 64) (i : Nat) (c : Cmd) (x : Entry) (code : Code),
      s.Running →
      cmdOp c.w1 = 7 →
      cmdHopKind c.w1 = 0 →
      s.dev.resetBusy = false →
      (s.dev.engine e.val).hand = none →
      bestOf (s.dev.choices e.val) = some (i, c) →
      s.dev.bankVoid (bankOf (cmdBerth c.w1)) = false →
      (s.dev.granted e.val).isSome = true →
      (s.dev.engine e.val).used + 2 ≤ s.dev.cycles →
      s.dev.cell (cmdBerth c.w1) = { entry := x } →
      x.valid (cmdBerth c.w1) = true →
      c.refresh = false →
      x.a.toNat ≤ c.t.toNat →
      s.dev.preparedFor (cmdBerth c.w1) = none →
      x.kind = 2 →
      s.dev.coreRefusal (cmdBerth c.w1) x false = none →
      s.dev.twinHopRefusal x (cmdFreq c.w1) = some code →
      Does (.prepHopTwin e {}) s [.eng, .flt] ([F.ENG_CL_CYC_CNT_CYCLES.key e.val,
        F.ENG_CL_EXEC_CNT_EXECUTED.key e.val] ++ [F.ENG_FENCE_FLAGS_VALID.key 0, F.ENG_FENCE_STAT_PASSED.key 0,
        F.ENG_FENCE_STAT_PASSED.key 1, F.ENG_FENCE_STAT_PASSED.key 2, F.ENG_FENCE_STAT_PASSED.key 3] ++ logKeys)
        (fun d => (d.engine e.val).slice = dropAt (s.dev.engine e.val).slice i ∧ d.eng.flights = s.dev.eng.flights ∧
          d.eng.counts c.src = (s.dev.eng.counts c.src).reject false ∧ (d.engine e.val).used = (s.dev.engine e.val).used + 1 ∧
          s.dev.Logged d c code x.gen)) ∧
    (∀ (s : State) (e : Fin 64) (i : Nat) (c : Cmd) (x : Entry),
      s.Running →
      cmdOp c.w1 = 7 →
      cmdHopKind c.w1 = 2 →
      s.dev.resetBusy = false →
      (s.dev.engine e.val).hand = none →
      bestOf (s.dev.choices e.val) = some (i, c) →
      s.dev.bankVoid (bankOf (cmdBerth c.w1)) = false →
      (s.dev.granted e.val).isSome = true →
      (s.dev.engine e.val).used + 2 ≤ s.dev.cycles →
      s.dev.cell (cmdBerth c.w1) = { entry := x } →
      x.valid (cmdBerth c.w1) = true →
      c.refresh = false →
      x.a.toNat ≤ c.t.toNat →
      s.dev.preparedFor (cmdBerth c.w1) = none →
      x.kind = 2 →
      s.dev.coreRefusal (cmdBerth c.w1) x false = none →
      s.dev.twinHopRefusal x (cmdFreq c.w1) = none →
      Does (.prepHopPark e {}) s [.eng] ([F.ENG_CL_CYC_CNT_CYCLES.key e.val,
        F.ENG_CL_EXEC_CNT_EXECUTED.key e.val] ++ [F.ENG_FENCE_FLAGS_VALID.key 0, F.ENG_FENCE_STAT_PASSED.key 0,
        F.ENG_FENCE_STAT_PASSED.key 1, F.ENG_FENCE_STAT_PASSED.key 2, F.ENG_FENCE_STAT_PASSED.key 3])
        (fun d => (d.engine e.val).slice = dropAt (s.dev.engine e.val).slice i ∧
          (d.engine e.val).used = (s.dev.engine e.val).used + 2 ∧
          d.eng.flights = s.dev.eng.flights ++
          [({ eng := e.val, cmd := { c with genSeen := x.gen }, berth := cmdBerth c.w1, entry? := none, barge? := none, act := .loads [{ Load.of c (s.dev.standbyCore (x.core / 2)) .park ((x.refreq c.t (cmdFreq c.w1) (if cmdPhaseAbs c.w1 then some c.w2 else none)).next) with a := c.t, f := cmdFreq c.w1 }] }
          : Flight)])) ∧
    (∀ (s : State) (e : Fin 64) (i : Nat) (c : Cmd) (x : Entry) (code : Code),
      s.Running →
      cmdOp c.w1 = 7 →
      cmdHopKind c.w1 = 2 →
      s.dev.resetBusy = false →
      (s.dev.engine e.val).hand = none →
      bestOf (s.dev.choices e.val) = some (i, c) →
      s.dev.bankVoid (bankOf (cmdBerth c.w1)) = false →
      (s.dev.granted e.val).isSome = true →
      (s.dev.engine e.val).used + 2 ≤ s.dev.cycles →
      s.dev.cell (cmdBerth c.w1) = { entry := x } →
      x.valid (cmdBerth c.w1) = true →
      c.refresh = false →
      x.a.toNat ≤ c.t.toNat →
      s.dev.preparedFor (cmdBerth c.w1) = none →
      x.kind = 2 →
      s.dev.coreRefusal (cmdBerth c.w1) x false = none →
      s.dev.twinHopRefusal x (cmdFreq c.w1) = some code →
      Does (.prepHopPark e {}) s [.eng, .flt] ([F.ENG_CL_CYC_CNT_CYCLES.key e.val,
        F.ENG_CL_EXEC_CNT_EXECUTED.key e.val] ++ [F.ENG_FENCE_FLAGS_VALID.key 0, F.ENG_FENCE_STAT_PASSED.key 0,
        F.ENG_FENCE_STAT_PASSED.key 1, F.ENG_FENCE_STAT_PASSED.key 2, F.ENG_FENCE_STAT_PASSED.key 3] ++ logKeys)
        (fun d => (d.engine e.val).slice = dropAt (s.dev.engine e.val).slice i ∧ d.eng.flights = s.dev.eng.flights ∧
          d.eng.counts c.src = (s.dev.eng.counts c.src).reject false ∧ (d.engine e.val).used = (s.dev.engine e.val).used + 1 ∧
          s.dev.Logged d c code x.gen))

/-- A FILL row acts when the engine can go on with its FILL: its next Berth is written as FREE, as a flight to commit,
  when the bank grants the take; while its lease is held, or without the grant,
  a cycle passes; a Berth of a voided bank is passed over and the FILL marked,
  and one that ends so is rejected with LEASE_VOID, recorded with that code,
  and sets FILL_DONE; an uncorrectable word is dropped. A STEAL row acts when the engine requests that kind of steal: granted,
  it takes the command of the victim into its hand for two cycles in its cluster and six on the ring; not granted,
  one cycle passes; a slice word of the victim that reads uncorrectable is dropped, an uncorrectable lease word voids its bank,
  and the cycle is spent. The staged indirect write takes place when no lease of the Berth is held; it is refused on a bound
  Berth, with IND_REFUSED set, and dropped when the entry cannot be read,
  with IND_REFUSED and IND_DROP set; with none waiting nothing happens. Choices of the model on which this rests: log entries
  6, 11, 72, 129, 132 and 162. -/
def Obligations.FillStealAndIndirect : Prop :=
  (∀ (s : State) (e : Fin 64) (up : Upset) (i : Nat) (c : Cmd),
      s.Running →
      s.dev.fillReady e.val = some (i, c) →
      up.queue = false →
      up.lease = false →
      s.dev.bankVoid (bankOf (cmdBerth c.w1 + c.filled)) = false →
      s.dev.eng.leaseHolder (cmdBerth c.w1 + c.filled) = none →
      s.dev.fillGranted e.val (bankOf (cmdBerth c.w1 + c.filled)) = true →
      Does (.fill e up) s [.eng] ([F.ENG_CL_CYC_CNT_CYCLES.key e.val] ++ [F.ENG_FENCE_FLAGS_VALID.key 0,
        F.ENG_FENCE_STAT_PASSED.key 0, F.ENG_FENCE_STAT_PASSED.key 1, F.ENG_FENCE_STAT_PASSED.key 2,
        F.ENG_FENCE_STAT_PASSED.key 3])
        (fun d => (d.engine e.val).slice = listSet (s.dev.engine e.val).slice i { c with filled := c.filled + 1 } ∧
          (d.engine e.val).used = (s.dev.engine e.val).used + 1 ∧
          d.eng.grants = (bankOf (cmdBerth c.w1 + c.filled), (s.dev.engine e.val).used) :: s.dev.eng.grants ∧
          d.eng.fillLast = Store.set s.dev.eng.fillLast (bankOf (cmdBerth c.w1 + c.filled)) e.val ∧
          d.eng.flights = s.dev.eng.flights ++
          [({ eng := e.val, cmd := c, berth := cmdBerth c.w1 + c.filled, fill := true, entry? := some (Entry.fresh (cmdBerth c.w1 + c.filled) (s.dev.tow.pound + 1)) }
          : Flight)])) ∧
    (∀ (s : State) (e : Fin 64) (up : Upset) (i : Nat) (c : Cmd),
      s.Running →
      s.dev.fillReady e.val = some (i, c) →
      up.queue = false →
      up.lease = false →
      s.dev.bankVoid (bankOf (cmdBerth c.w1 + c.filled)) = false →
      ((s.dev.eng.leaseHolder (cmdBerth c.w1 + c.filled)).isSome =
        true ∨ s.dev.fillGranted e.val (bankOf (cmdBerth c.w1 + c.filled)) = false) →
      Does (.fill e up) s [.eng] ([F.ENG_CL_CYC_CNT_CYCLES.key e.val] ++ [F.ENG_FENCE_FLAGS_VALID.key 0,
        F.ENG_FENCE_STAT_PASSED.key 0, F.ENG_FENCE_STAT_PASSED.key 1, F.ENG_FENCE_STAT_PASSED.key 2,
        F.ENG_FENCE_STAT_PASSED.key 3])
        (fun d => (d.engine e.val).slice = (s.dev.engine e.val).slice ∧ (d.engine e.val).used = (s.dev.engine e.val).used + 1 ∧
          d.eng.flights = s.dev.eng.flights ∧ d.eng.grants = s.dev.eng.grants)) ∧
    (∀ (s : State) (e : Fin 64) (up : Upset) (i : Nat) (c : Cmd),
      s.Running →
      s.dev.fillReady e.val = some (i, c) →
      up.queue = false →
      (up.lease = true ∨ s.dev.bankVoid (bankOf (cmdBerth c.w1 + c.filled)) = true) →
      ¬(c.filled + 1 = cmdCount c.w1 ∧ s.dev.eng.flights.any (fun f => f.fill && f.eng == e.val) = false) →
      Does (.fill e up) s [.eng, .flt] ([F.ENG_CL_CYC_CNT_CYCLES.key e.val] ++ [F.ENG_FENCE_FLAGS_VALID.key 0,
        F.ENG_FENCE_STAT_PASSED.key 0, F.ENG_FENCE_STAT_PASSED.key 1, F.ENG_FENCE_STAT_PASSED.key 2,
        F.ENG_FENCE_STAT_PASSED.key 3] ++ [F.ENG_LEASE_VOID_VOID.key 0] ++ evKeys F.ENG_EVT_LEASE_UNCORR ++ reportKeys)
        (fun d => (d.engine e.val).slice = listSet (s.dev.engine e.val).slice i
          { c with filled := c.filled + 1, fillVoid := true } ∧ (d.engine e.val).used = (s.dev.engine e.val).used + 1 ∧
          d.eng.flights = s.dev.eng.flights ∧ d.bankVoid (bankOf (cmdBerth c.w1 + c.filled)) = true ∧
          (up.lease = true → d.get F.ENG_EVT_LEASE_UNCORR = 1) ∧ (d.flt.queue =
          (s.dev.when up.lease (fun x => x.report 5 0 2 (bankOf (cmdBerth c.w1 + c.filled)))).flt.queue))) ∧
    (∀ (s : State) (e : Fin 64) (up : Upset) (i : Nat) (c : Cmd),
      s.Running →
      s.dev.fillReady e.val = some (i, c) →
      up.queue = false →
      (up.lease = true ∨ s.dev.bankVoid (bankOf (cmdBerth c.w1 + c.filled)) = true) →
      c.filled + 1 = cmdCount c.w1 →
      s.dev.eng.flights.any (fun f => f.fill && f.eng == e.val) = false →
      Does (.fill e up) s [.eng, .flt] ([F.ENG_CL_CYC_CNT_CYCLES.key e.val] ++ [F.ENG_FENCE_FLAGS_VALID.key 0,
        F.ENG_FENCE_STAT_PASSED.key 0, F.ENG_FENCE_STAT_PASSED.key 1, F.ENG_FENCE_STAT_PASSED.key 2,
        F.ENG_FENCE_STAT_PASSED.key 3] ++ [F.ENG_LEASE_VOID_VOID.key 0] ++ evKeys F.ENG_EVT_LEASE_UNCORR ++ reportKeys ++
        [F.ENG_CL_EXEC_CNT_EXECUTED.key e.val] ++ evKeys F.LDG_EVT_FILL_DONE ++ logKeys)
        (fun d => (d.engine e.val).slice = dropAt (s.dev.engine e.val).slice i ∧
          (d.engine e.val).used = (s.dev.engine e.val).used + 1 ∧ d.eng.flights = s.dev.eng.flights ∧
          d.bankVoid (bankOf (cmdBerth c.w1 + c.filled)) = true ∧ (up.lease = true → d.get F.ENG_EVT_LEASE_UNCORR = 1) ∧
          d.get F.LDG_EVT_FILL_DONE = 1 ∧ d.eng.counts c.src = (s.dev.eng.counts c.src).reject false ∧
          d.get F.ENG_CL_EXEC_CNT_EXECUTED e.val = (s.dev.get F.ENG_CL_EXEC_CNT_EXECUTED e.val + 1) % 2 ^ 32 ∧
          s.dev.Logged d c 0x22 0)) ∧
    (∀ (s : State) (e : Fin 64) (up : Upset) (i : Nat) (c : Cmd),
      s.Running →
      s.dev.fillReady e.val = some (i, c) →
      up.queue = true →
      Does (.fill e up) s [.eng, .flt] (reportKeys ++ (evKeys F.ENG_EVT_SLICE_UNCORR ++ [F.ENG_FENCE_FLAGS_VALID.key 0,
        F.ENG_FENCE_STAT_PASSED.key 0, F.ENG_FENCE_STAT_PASSED.key 1, F.ENG_FENCE_STAT_PASSED.key 2,
        F.ENG_FENCE_STAT_PASSED.key 3]))
        (fun d => (d.engine e.val).slice = dropAt (s.dev.engine e.val).slice i ∧ d.eng.flights = s.dev.eng.flights ∧
          d.eng.counts (if up.noSource then 0 else c.src) = (s.dev.eng.counts (if up.noSource then 0 else c.src)).discard ∧
          d.get F.ENG_EVT_SLICE_UNCORR = 1 ∧ s.dev.Reported d 5 0 3 e.val)) ∧
    (∀ (s : State) (e : Fin 64) (h v i : Nat) (c : Cmd) (up : Upset),
      s.Running →
      up.queue = false →
      up.lease = false →
      s.dev.stealWish e.val = some (false, h) →
      s.dev.granted e.val = some (v, i, c) →
      v ≠ e.val →
      Does (.steal e false up) s [.eng] ([F.ENG_CL_CYC_CNT_CYCLES.key e.val, F.ENG_STEAL_CNT_CLUSTER.key e.val])
        (fun d => (d.engine e.val).hand = some c ∧ (d.engine v).slice = dropAt (s.dev.engine v).slice i ∧
          (d.engine e.val).used = (s.dev.engine e.val).used + 2 ∧
          d.eng.grants = (bankOf (cmdBerth c.w1), (s.dev.engine e.val).used) :: s.dev.eng.grants ∧
          d.eng.steals = (false, h, (s.dev.engine e.val).used) :: s.dev.eng.steals ∧ d.eng.flights = s.dev.eng.flights ∧
          d.get F.ENG_STEAL_CNT_CLUSTER e.val = (s.dev.get F.ENG_STEAL_CNT_CLUSTER e.val + 1) % 2 ^ 16)) ∧
    (∀ (s : State) (e : Fin 64) (ring : Bool) (h v i : Nat) (c : Cmd) (up : Upset),
      s.Running →
      s.dev.stealWish e.val = some (ring, h) →
      s.dev.granted e.val = some (v, i, c) →
      v ≠ e.val →
      up.queue = true →
      Does (.steal e ring up) s [.eng, .flt] (reportKeys ++ ([F.ENG_CL_CYC_CNT_CYCLES.key e.val] ++
        evKeys F.ENG_EVT_SLICE_UNCORR ++ [F.ENG_FENCE_FLAGS_VALID.key 0, F.ENG_FENCE_STAT_PASSED.key 0,
        F.ENG_FENCE_STAT_PASSED.key 1, F.ENG_FENCE_STAT_PASSED.key 2, F.ENG_FENCE_STAT_PASSED.key 3]))
        (fun d => (d.engine e.val).used = (s.dev.engine e.val).used + 1 ∧ (d.engine e.val).hand = (s.dev.engine e.val).hand ∧
          (d.engine v).slice = dropAt (s.dev.engine v).slice i ∧ d.eng.flights = s.dev.eng.flights ∧
          d.eng.counts (if up.noSource then 0 else c.src) = (s.dev.eng.counts (if up.noSource then 0 else c.src)).discard ∧
          d.get F.ENG_EVT_SLICE_UNCORR = 1 ∧ s.dev.Reported d 5 0 3 v)) ∧
    (∀ (s : State) (e : Fin 64) (ring : Bool) (h v i : Nat) (c : Cmd) (up : Upset),
      s.Running →
      s.dev.stealWish e.val = some (ring, h) →
      s.dev.granted e.val = some (v, i, c) →
      v ≠ e.val →
      up.queue = false →
      up.lease = true →
      Does (.steal e ring up) s [.eng, .flt] (reportKeys ++ ([F.ENG_CL_CYC_CNT_CYCLES.key e.val,
        F.ENG_LEASE_VOID_VOID.key 0] ++ evKeys F.ENG_EVT_LEASE_UNCORR))
        (fun d => (d.engine e.val).used = (s.dev.engine e.val).used + 1 ∧ (d.engine e.val).hand = (s.dev.engine e.val).hand ∧
          (d.engine v).slice = (s.dev.engine v).slice ∧ d.eng.flights = s.dev.eng.flights ∧
          d.bankVoid (bankOf (cmdBerth c.w1)) = true ∧ d.get F.ENG_EVT_LEASE_UNCORR = 1 ∧
          s.dev.Reported d 5 0 2 (bankOf (cmdBerth c.w1)))) ∧
    (∀ (s : State) (e : Fin 64) (h v i : Nat) (c : Cmd) (up : Upset),
      s.Running →
      up.queue = false →
      up.lease = false →
      s.dev.stealWish e.val = some (true, h) →
      s.dev.granted e.val = some (v, i, c) →
      v ≠ e.val →
      Does (.steal e true up) s [.eng] ([F.ENG_CL_CYC_CNT_CYCLES.key e.val, F.ENG_STEAL_CNT_RING.key e.val])
        (fun d => (d.engine e.val).hand = some c ∧ (d.engine v).slice = dropAt (s.dev.engine v).slice i ∧
          (d.engine e.val).used = (s.dev.engine e.val).used + 6 ∧
          d.eng.grants = (bankOf (cmdBerth c.w1), (s.dev.engine e.val).used) :: s.dev.eng.grants ∧
          d.eng.steals = (true, h, (s.dev.engine e.val).used) :: s.dev.eng.steals ∧ d.eng.flights = s.dev.eng.flights ∧
          d.get F.ENG_STEAL_CNT_RING e.val = (s.dev.get F.ENG_STEAL_CNT_RING e.val + 1) % 2 ^ 16)) ∧
    (∀ (s : State) (e : Fin 64) (ring : Bool) (h : Nat) (up : Upset),
      s.Running →
      s.dev.stealWish e.val = some (ring, h) →
      s.dev.granted e.val = none →
      Does (.steal e ring up) s [.eng] ([F.ENG_CL_CYC_CNT_CYCLES.key e.val])
        (fun d => (d.engine e.val).used = (s.dev.engine e.val).used + 1 ∧ (d.engine e.val).slice = (s.dev.engine e.val).slice ∧
          d.eng.flights = s.dev.eng.flights ∧ d.eng.steals = s.dev.eng.steals)) ∧
    (∀ (s : State) (id : Nat) (ws : Store Word) (x : Entry),
      s.Running →
      s.dev.ledger.waiting = some (id, ws) →
      s.dev.eng.leaseHolder id = none →
      (s.dev.cell id).boundNow = false →
      s.dev.indEntry id ws = some x →
      (s.dev.cell id).uncorr = 0 →
      Does .berthIndWriteCommit s [.ledger] ([F.LDG_STAT_IND_BUSY.key 0])
        (fun d => Store.get? d.ledger.cells id = some ({ entry := x } : Cell) ∧ d.ledger.waiting = none ∧
          d.get F.LDG_STAT_IND_BUSY = 0 ∧ d.ledger.map = s.dev.ledger.map)) ∧
    (∀ (s : State) (id : Nat) (ws : Store Word) (x : Entry),
      s.Running →
      s.dev.ledger.waiting = some (id, ws) →
      s.dev.eng.leaseHolder id = none →
      (s.dev.cell id).boundNow = false →
      s.dev.indEntry id ws = some x →
      (s.dev.cell id).uncorr ≠ 0 →
      Does .berthIndWriteCommit s [.ledger, .cores] ([F.LDG_STAT_IND_BUSY.key 0] ++
        (List.range 16).map (fun n => F.LOOP_STAT_BOUND.key n))
        (fun d => Store.get? d.ledger.cells id = some ({ entry := x } : Cell) ∧ d.ledger.waiting = none ∧
          d.get F.LDG_STAT_IND_BUSY = 0 ∧ d.ledger.map = s.dev.ledger.map ∧ (∀ n, n < 16 → (d.core n).berth ≠ some id))) ∧
    (∀ (s : State) (id : Nat) (ws : Store Word),
      s.Running →
      s.dev.ledger.waiting = some (id, ws) →
      s.dev.eng.leaseHolder id = none →
      (s.dev.cell id).boundNow = true →
      Does .berthIndWriteCommit s [.ledger] ([F.LDG_STAT_IND_BUSY.key 0] ++ evKeys F.LDG_EVT_IND_REFUSED)
        (fun d => d.ledger.cells = s.dev.ledger.cells ∧ d.get F.LDG_EVT_IND_REFUSED = 1 ∧ d.ledger.waiting = none ∧
          d.get F.LDG_STAT_IND_BUSY = 0 ∧ d.ledger.map = s.dev.ledger.map)) ∧
    (∀ (s : State) (id : Nat) (ws : Store Word),
      s.Running →
      s.dev.ledger.waiting = some (id, ws) →
      s.dev.eng.leaseHolder id = none →
      (s.dev.cell id).boundNow = false →
      s.dev.indEntry id ws = none →
      Does .berthIndWriteCommit s [.ledger] ([F.LDG_STAT_IND_BUSY.key 0] ++ evKeys F.LDG_EVT_IND_REFUSED ++
        [F.PAGE_STAT_IND_DROP.key 0x30, F.IRQ_STAT_PAGE.key 0x30])
        (fun d => d.ledger.cells = s.dev.ledger.cells ∧ d.get F.LDG_EVT_IND_REFUSED = 1 ∧ d.get F.PAGE_STAT_IND_DROP 0x30 = 1 ∧
          d.get F.IRQ_STAT_PAGE 0x30 = 1 ∧ d.ledger.waiting = none ∧ d.get F.LDG_STAT_IND_BUSY = 0 ∧
          d.ledger.map = s.dev.ledger.map)) ∧
    (∀ (s : State) (id : Nat) (ws : Store Word),
      s.Running →
      s.dev.ledger.waiting = some (id, ws) →
      (s.dev.eng.leaseHolder id).isSome = true →
      Idles .berthIndWriteCommit s) ∧
    (∀ (s : State),
      s.Running →
      s.dev.ledger.waiting = none →
      Idles .berthIndWriteCommit s)

/-- The first due load of a core takes effect, unless its twin has still to change at the boundary. A reload of the target
  gives the core the trajectory of the Berth at the present pound; a frequency load,
  or an EMIT on a core that is off or failed, derives the settings, the ratio to the nearest 1 / MOD: refused,
  it changes no settings and is reported; from IDLE it starts the core,
  and a core that is opening starts when it is open; in band, with MANUAL in the written tank and band, it keeps tank, band,
  state and lock; with a band-map entry, the first that is valid and covers the ratio, it is a preset load with its tank,
  its band and its tuning preset; else it runs a band search, or with MANUAL takes the written tank and band. A BIND records
  the Berth and loads; a record of a standby only records it. A release returns the core to free mode; a load from a Berth the
  core no longer records, and a load of a closed core, change nothing of it. A RETUNE or a hop uses the entry found at its
  commit. Choices of the model on which this rests: log entries 52, 54, 112, 115, 116, 117, 118, 124, 125, 156, 157,
  158 and 161. Left out: a refused setting of a BIND, and its cancel of a pending LOOP_APPLY. -/
def Obligations.CoreLoads : Prop :=
  (∀ (s : State) (c : Fin 16) (inBand : Bool) (l : Load) (rest : List Load),
      s.Running →
      s.dev.changeDue (c.val / 2) = false →
      s.dev.takeDue c.val s.dev.loads = some (l, rest) →
      l.kind = .phase →
      s.dev.coreClosed c.val = false →
      (s.dev.core c.val).berth = some l.berth →
      DoesWide (.coreLoad c inBand) s [.cores, .loads, .mbx] ([0x10 + c.val, 0x20])
        (fun d => (d.core c.val).phi = phaseAt l.a l.phi l.f s.dev.tow.pound ∧ (d.core c.val).f = l.f ∧
          (d.core c.val).set = (s.dev.core c.val).set ∧ d.loads = rest ∧ (∀ n, n ≠ c.val → d.core n = s.dev.core n))) ∧
    (∀ (s : State) (c : Fin 16) (inBand : Bool) (l : Load) (rest : List Load),
      s.Running →
      s.dev.changeDue (c.val / 2) = false →
      s.dev.takeDue c.val s.dev.loads = some (l, rest) →
      l.kind = .emit →
      s.dev.coreClosed c.val = false →
      (s.dev.core c.val).berth = some l.berth →
      s.dev.coreCold c.val = false →
      DoesWide (.coreLoad c inBand) s [.cores, .loads, .mbx] ([0x10 + c.val, 0x20])
        (fun d => (d.core c.val).phi = phaseAt l.a l.phi l.f s.dev.tow.pound ∧ (d.core c.val).f = l.f ∧
          (d.core c.val).set = (s.dev.core c.val).set ∧ d.loads = rest ∧ (∀ n, n ≠ c.val → d.core n = s.dev.core n))) ∧
    (∀ (s : State) (c : Fin 16) (inBand : Bool) (l : Load) (rest : List Load),
      s.Running →
      s.dev.changeDue (c.val / 2) = false →
      s.dev.takeDue c.val s.dev.loads = some (l, rest) →
      l.kind = .addPhase →
      s.dev.coreClosed c.val = false →
      (s.dev.core c.val).berth = some l.berth →
      DoesWide (.coreLoad c inBand) s [.cores, .loads, .mbx] ([0x10 + c.val, 0x20])
        (fun d => (d.core c.val).phi = (s.dev.core c.val).phi + l.phi ∧ (d.core c.val).f = (s.dev.core c.val).f ∧
          (d.core c.val).set = (s.dev.core c.val).set ∧ d.loads = rest ∧ (∀ n, n ≠ c.val → d.core n = s.dev.core n))) ∧
    (∀ (s : State) (c : Fin 16) (inBand : Bool) (l : Load) (rest : List Load),
      s.Running →
      s.dev.changeDue (c.val / 2) = false →
      s.dev.takeDue c.val s.dev.loads = some (l, rest) →
      (l.kind = .freq ∨ (l.kind = .emit ∧ s.dev.coreCold c.val = true)) →
      s.dev.coreClosed c.val = false →
      (s.dev.core c.val).berth = some l.berth →
      (s.dev.derived c.val l.f).refusal = none →
      s.dev.coreState c.val = 1 →
      s.dev.is F.LOOP_BAND_CTRL_MANUAL c.val = false →
      DoesWide (.coreLoad c inBand) s [.cores, .loads, .mbx] ([0x10 + c.val, 0x20, 0x21])
        (fun d => (d.core c.val).phi = phaseAt l.a l.phi l.f s.dev.tow.pound ∧ (d.core c.val).f = l.f ∧
          (d.core c.val).set = s.dev.derived c.val l.f ∧ d.loads = rest ∧ (∀ n, n ≠ c.val → d.core n = s.dev.core n) ∧
          d.coreState c.val = 2 ∧ d.get F.LOOP_STAT_BAND_SEARCH c.val = 1 ∧
          d.get F.LOOP_STAT_TANK c.val = s.dev.tankFor c.val (s.dev.derived c.val l.f) % 2 ∧ d.locked c.val = false ∧
          d.get F.LOOP_STAT_TUNE_EDGE c.val = 0)) ∧
    (∀ (s : State) (c : Fin 16) (inBand : Bool) (l : Load) (rest : List Load),
      s.Running →
      s.dev.changeDue (c.val / 2) = false →
      s.dev.takeDue c.val s.dev.loads = some (l, rest) →
      (l.kind = .freq ∨ (l.kind = .emit ∧ s.dev.coreCold c.val = true)) →
      s.dev.coreClosed c.val = false →
      (s.dev.core c.val).berth = some l.berth →
      (s.dev.derived c.val l.f).refusal = none →
      s.dev.coreState c.val = 1 →
      s.dev.is F.LOOP_BAND_CTRL_MANUAL c.val = true →
      DoesWide (.coreLoad c inBand) s [.cores, .loads, .mbx] ([0x10 + c.val, 0x20, 0x21])
        (fun d => (d.core c.val).phi = phaseAt l.a l.phi l.f s.dev.tow.pound ∧ (d.core c.val).f = l.f ∧
          (d.core c.val).set = s.dev.derived c.val l.f ∧ d.loads = rest ∧ (∀ n, n ≠ c.val → d.core n = s.dev.core n) ∧
          d.coreState c.val = 3 ∧ d.get F.LOOP_STAT_BAND_SEARCH c.val = 0 ∧
          d.get F.LOOP_STAT_TANK c.val = s.dev.get F.LOOP_BAND_CTRL_TANK c.val % 2 ∧
          d.get F.LOOP_STAT_BAND c.val = s.dev.get F.LOOP_BAND_CTRL_BAND c.val % 256 ∧ d.locked c.val = false)) ∧
    (∀ (s : State) (c : Fin 16) (inBand : Bool) (l : Load) (rest : List Load),
      s.Running →
      s.dev.changeDue (c.val / 2) = false →
      s.dev.takeDue c.val s.dev.loads = some (l, rest) →
      (l.kind = .freq ∨ (l.kind = .emit ∧ s.dev.coreCold c.val = true)) →
      s.dev.coreClosed c.val = false →
      (s.dev.core c.val).berth = some l.berth →
      (s.dev.derived c.val l.f).refusal = none →
      s.dev.coreState c.val = 0 →
      DoesWide (.coreLoad c inBand) s [.cores, .loads, .mbx] ([0x10 + c.val, 0x20, 0x21])
        (fun d => (d.core c.val).phi = phaseAt l.a l.phi l.f s.dev.tow.pound ∧ (d.core c.val).f = l.f ∧
          (d.core c.val).set = s.dev.derived c.val l.f ∧ d.loads = rest ∧ (∀ n, n ≠ c.val → d.core n = s.dev.core n) ∧
          (d.core c.val).starts = true ∧ d.coreState c.val = 0)) ∧
    (∀ (s : State) (c : Fin 16) (inBand : Bool) (l : Load) (rest : List Load),
      s.Running →
      s.dev.changeDue (c.val / 2) = false →
      s.dev.takeDue c.val s.dev.loads = some (l, rest) →
      (l.kind = .freq ∨ (l.kind = .emit ∧ s.dev.coreCold c.val = true)) →
      s.dev.coreClosed c.val = false →
      (s.dev.core c.val).berth = some l.berth →
      (s.dev.derived c.val l.f).refusal = none →
      2 ≤ s.dev.coreState c.val →
      ¬(s.dev.coreCold c.val = false ∧ s.dev.manualMoves c.val = false ∧
        s.dev.staysInBand c.val (s.dev.derived c.val l.f) inBand = true) →
      s.dev.bandLookup c.val (s.dev.derived c.val l.f) = none →
      s.dev.is F.LOOP_BAND_CTRL_MANUAL c.val = true →
      DoesWide (.coreLoad c inBand) s [.cores, .loads, .mbx] ([0x10 + c.val, 0x20, 0x21])
        (fun d => (d.core c.val).phi = phaseAt l.a l.phi l.f s.dev.tow.pound ∧ (d.core c.val).f = l.f ∧
          (d.core c.val).set = s.dev.derived c.val l.f ∧ d.loads = rest ∧ (∀ n, n ≠ c.val → d.core n = s.dev.core n) ∧
          d.coreState c.val = 3 ∧ d.get F.LOOP_STAT_BAND_SEARCH c.val = 0 ∧
          d.get F.LOOP_STAT_TANK c.val = s.dev.get F.LOOP_BAND_CTRL_TANK c.val % 2 ∧
          d.get F.LOOP_STAT_BAND c.val = s.dev.get F.LOOP_BAND_CTRL_BAND c.val % 256 ∧ d.locked c.val = false)) ∧
    (∀ (s : State) (c : Fin 16) (inBand : Bool) (l : Load) (rest : List Load),
      s.Running →
      s.dev.changeDue (c.val / 2) = false →
      s.dev.takeDue c.val s.dev.loads = some (l, rest) →
      (l.kind = .freq ∨ (l.kind = .emit ∧ s.dev.coreCold c.val = true)) →
      s.dev.coreClosed c.val = false →
      (s.dev.core c.val).berth = some l.berth →
      (s.dev.derived c.val l.f).refusal = none →
      s.dev.coreCold c.val = false →
      s.dev.manualMoves c.val = false →
      s.dev.staysInBand c.val (s.dev.derived c.val l.f) inBand = true →
      DoesWide (.coreLoad c inBand) s [.cores, .loads, .mbx] ([0x10 + c.val, 0x20, 0x21])
        (fun d => (d.core c.val).phi = phaseAt l.a l.phi l.f s.dev.tow.pound ∧ (d.core c.val).f = l.f ∧
          (d.core c.val).set = s.dev.derived c.val l.f ∧ d.loads = rest ∧ (∀ n, n ≠ c.val → d.core n = s.dev.core n) ∧
          d.get F.LOOP_STAT_TANK c.val = s.dev.get F.LOOP_STAT_TANK c.val ∧
          d.get F.LOOP_STAT_BAND c.val = s.dev.get F.LOOP_STAT_BAND c.val ∧ d.coreState c.val = s.dev.coreState c.val ∧
          d.locked c.val = s.dev.locked c.val ∧ d.get F.LOOP_STAT_TUNE_EDGE c.val = 0)) ∧
    (∀ (s : State) (c : Fin 16) (inBand : Bool) (l : Load) (rest : List Load) (p : Preset),
      s.Running →
      s.dev.changeDue (c.val / 2) = false →
      s.dev.takeDue c.val s.dev.loads = some (l, rest) →
      (l.kind = .freq ∨ (l.kind = .emit ∧ s.dev.coreCold c.val = true)) →
      s.dev.coreClosed c.val = false →
      (s.dev.core c.val).berth = some l.berth →
      (s.dev.derived c.val l.f).refusal = none →
      2 ≤ s.dev.coreState c.val →
      ¬(s.dev.coreCold c.val = false ∧ s.dev.manualMoves c.val = false ∧
        s.dev.staysInBand c.val (s.dev.derived c.val l.f) inBand = true) →
      s.dev.bandLookup c.val (s.dev.derived c.val l.f) = some p →
      DoesWide (.coreLoad c inBand) s [.cores, .loads, .mbx] ([0x10 + c.val, 0x20, 0x21])
        (fun d => (d.core c.val).phi = phaseAt l.a l.phi l.f s.dev.tow.pound ∧ (d.core c.val).f = l.f ∧
          (d.core c.val).set = s.dev.derived c.val l.f ∧ d.loads = rest ∧ (∀ n, n ≠ c.val → d.core n = s.dev.core n) ∧
          d.get F.LOOP_STAT_TANK c.val = p.tank % 2 ∧ d.get F.LOOP_STAT_BAND c.val = p.band % 256 ∧
          (d.core c.val).tune = s.dev.presetTune p ∧ d.locked c.val = s.dev.locked c.val ∧
          d.get F.LOOP_STAT_BAND_SEARCH c.val = 0 ∧ d.get F.LOOP_STAT_TUNE_EDGE c.val = 0 ∧ (d.core c.val).blank = true ∧
          (d.coreState c.val = (if s.dev.coreState c.val = 2 ∨ s.dev.coreState c.val = 6 then 3 else s.dev.coreState c.val)))) ∧
    (∀ (s : State) (c : Fin 16) (inBand : Bool) (l : Load) (rest : List Load),
      s.Running →
      s.dev.changeDue (c.val / 2) = false →
      s.dev.takeDue c.val s.dev.loads = some (l, rest) →
      (l.kind = .freq ∨ (l.kind = .emit ∧ s.dev.coreCold c.val = true)) →
      s.dev.coreClosed c.val = false →
      (s.dev.core c.val).berth = some l.berth →
      (s.dev.derived c.val l.f).refusal = none →
      2 ≤ s.dev.coreState c.val →
      ¬(s.dev.coreCold c.val = false ∧ s.dev.manualMoves c.val = false ∧
        s.dev.staysInBand c.val (s.dev.derived c.val l.f) inBand = true) →
      s.dev.bandLookup c.val (s.dev.derived c.val l.f) = none →
      s.dev.is F.LOOP_BAND_CTRL_MANUAL c.val = false →
      DoesWide (.coreLoad c inBand) s [.cores, .loads, .mbx] ([0x10 + c.val, 0x20, 0x21])
        (fun d => (d.core c.val).phi = phaseAt l.a l.phi l.f s.dev.tow.pound ∧ (d.core c.val).f = l.f ∧
          (d.core c.val).set = s.dev.derived c.val l.f ∧ d.loads = rest ∧ (∀ n, n ≠ c.val → d.core n = s.dev.core n) ∧
          d.coreState c.val = 2 ∧ d.get F.LOOP_STAT_BAND_SEARCH c.val = 1 ∧
          d.get F.LOOP_STAT_TANK c.val = s.dev.tankFor c.val (s.dev.derived c.val l.f) % 2 ∧ d.locked c.val = false ∧
          d.get F.LOOP_STAT_TUNE_EDGE c.val = 0)) ∧
    (∀ (s : State) (c : Fin 16) (inBand : Bool) (l : Load) (rest : List Load),
      s.Running →
      s.dev.changeDue (c.val / 2) = false →
      s.dev.takeDue c.val s.dev.loads = some (l, rest) →
      (l.kind = .freq ∨ (l.kind = .emit ∧ s.dev.coreCold c.val = true)) →
      s.dev.coreClosed c.val = false →
      (s.dev.core c.val).berth = some l.berth →
      (s.dev.derived c.val l.f).refusal = none →
      DoesWide (.coreLoad c inBand) s [.cores, .loads, .mbx] ([0x10 + c.val, 0x20, 0x21])
        (fun d => (d.core c.val).set.modulus = (if s.dev.get F.LOOP_MOD_HI_MOD c.val * 2 ^ 32 + s.dev.get F.LOOP_MOD_LO_MOD
          c.val = 0 then 2 ^ 40 else s.dev.get F.LOOP_MOD_HI_MOD c.val * 2 ^ 32 + s.dev.get F.LOOP_MOD_LO_MOD c.val) ∧
          (d.core c.val).set.dA = (s.dev.get F.LOOP_OUTDIV_DIV_A c.val + 1) ∧
          (d.core c.val).set.dB = s.dev.get F.LOOP_OUTDIV_DIV_B c.val + 1 ∧
          (d.core c.val).set.num < (d.core c.val).set.modulus ∧ (d.core c.val).set.n * (d.core c.val).set.modulus + (d.core
          c.val).set.num = (2 * (l.f.toNat * (s.dev.get F.LOOP_OUTDIV_DIV_A c.val + 1) * (if s.dev.get F.LOOP_MOD_HI_MOD c.val
          * 2 ^ 32 + s.dev.get F.LOOP_MOD_LO_MOD c.val = 0 then 2 ^ 40 else s.dev.get F.LOOP_MOD_HI_MOD c.val * 2 ^ 32 +
          s.dev.get F.LOOP_MOD_LO_MOD c.val)) + 2 ^ 67) / 2 ^ 68)) ∧
    (∀ (s : State) (c : Fin 16) (inBand : Bool) (l : Load) (rest : List Load) (e : Fin 64) (key : Nat),
      s.Running →
      s.dev.changeDue (c.val / 2) = false →
      s.dev.takeDue c.val s.dev.loads = some (l, rest) →
      (l.kind = .freq ∨ (l.kind = .emit ∧ s.dev.coreCold c.val = true)) →
      s.dev.coreClosed c.val = false →
      (s.dev.core c.val).berth = some l.berth →
      (s.dev.derived c.val l.f).refusal = none →
      2 ≤ s.dev.coreState c.val →
      ¬(s.dev.coreCold c.val = false ∧ s.dev.manualMoves c.val = false ∧
        s.dev.staysInBand c.val (s.dev.derived c.val l.f) inBand = true) →
      bit (s.dev.get F.COUT_BANDMAP_CTRL_MAP_EN) c.val = true →
      key = ((s.dev.derived c.val l.f).n * (s.dev.derived c.val l.f).modulus + (s.dev.derived c.val l.f).num) * 2 ^ 16 /
        (s.dev.derived c.val l.f).modulus →
      (bit (s.dev.bandWord c.val e.val 0) 31 = true ∧ bits (s.dev.bandWord c.val e.val 1) 20 0 ≤ key ∧
        key ≤ bits (s.dev.bandWord c.val e.val 2) 20 0) →
      (List.range e.val).all (fun (i : Nat) => !s.dev.bandCovers c.val i key) = true →
      DoesWide (.coreLoad c inBand) s [.cores, .loads, .mbx] ([0x10 + c.val, 0x20, 0x21])
        (fun d => d.get F.LOOP_STAT_TANK c.val = bits (s.dev.bandWord c.val e.val 0) 30 30 ∧
          d.get F.LOOP_STAT_BAND c.val = bits (s.dev.bandWord c.val e.val 0) 29 22 ∧
          (d.core c.val).tune = (if s.dev.is F.COUT_BANDMAP_CTRL_TEMP_COMP then (max 0 (min 4095 ((bits (s.dev.bandWord c.val
          e.val 0) 21 10 : Nat) + sgn 8 (bits (s.dev.bandWord c.val e.val 3) 23 16) * (sgn 8 (s.dev.get F.SYS_TEMP_NOW) - sgn 8
          (bits (s.dev.bandWord c.val e.val 3) 31 24)) / 10 : Int))).toNat else bits (s.dev.bandWord c.val e.val 0) 21 10) ∧
          d.get F.LOOP_STAT_BAND_SEARCH c.val = 0)) ∧
    (∀ (s : State) (c : Fin 16) (inBand : Bool) (l : Load) (rest : List Load),
      s.Running →
      s.dev.changeDue (c.val / 2) = false →
      s.dev.takeDue c.val s.dev.loads = some (l, rest) →
      (l.kind = .freq ∨ l.kind = .retune ∨ (l.kind = .emit ∧ s.dev.coreCold c.val = true)) →
      s.dev.coreClosed c.val = false →
      (s.dev.core c.val).berth = some l.berth →
      (s.dev.derived c.val l.f).refusal.isSome = true →
      DoesWide (.coreLoad c inBand) s [.cores, .loads, .mbx, .flt] ([0x10 + c.val, 0x20, 0xA])
        (fun d => (d.core c.val).set = (s.dev.core c.val).set ∧ (d.core c.val).f = (s.dev.core c.val).f ∧
          (d.core c.val).phi = (s.dev.core c.val).phi ∧ d.get F.LOOP_EVT_LOAD_REFUSED c.val = 1 ∧ d.loads = rest ∧
          (∀ n, n ≠ c.val → d.core n = s.dev.core n) ∧ s.dev.Reported d 3 0 6 c.val)) ∧
    (∀ (s : State) (c : Fin 16) (inBand : Bool) (l : Load) (rest : List Load) (p : Preset),
      s.Running →
      s.dev.changeDue (c.val / 2) = false →
      s.dev.takeDue c.val s.dev.loads = some (l, rest) →
      l.kind = .retune →
      s.dev.coreClosed c.val = false →
      (s.dev.core c.val).berth = some l.berth →
      (s.dev.derived c.val l.f).refusal = none →
      2 ≤ s.dev.coreState c.val →
      s.dev.commitLookup c.val l = some (some p) →
      DoesWide (.coreLoad c inBand) s [.cores, .loads, .mbx] ([0x10 + c.val, 0x20, 0x21])
        (fun d => (d.core c.val).phi = phaseAt l.a l.phi l.f s.dev.tow.pound ∧ (d.core c.val).f = l.f ∧
          (d.core c.val).set = s.dev.derived c.val l.f ∧ d.get F.LOOP_STAT_TANK c.val = p.tank % 2 ∧
          d.get F.LOOP_STAT_BAND c.val = p.band % 256 ∧ (d.core c.val).tune = s.dev.presetTune p ∧
          d.locked c.val = s.dev.locked c.val ∧ (d.core c.val).blank = true ∧ d.loads = rest ∧
          (∀ n, n ≠ c.val → d.core n = s.dev.core n))) ∧
    (∀ (s : State) (c : Fin 16) (inBand : Bool) (l : Load) (rest : List Load) (p : Preset),
      s.Running →
      s.dev.changeDue (c.val / 2) = false →
      s.dev.takeDue c.val s.dev.loads = some (l, rest) →
      l.kind = .hop →
      s.dev.coreClosed c.val = false →
      (s.dev.core c.val).berth = some l.berth →
      (s.dev.derived c.val l.f).refusal = none →
      2 ≤ s.dev.coreState c.val →
      s.dev.commitLookup c.val l = some (some p) →
      DoesWide (.coreLoad c inBand) s [.cores, .loads, .mbx] ([0x10 + c.val, 0x20, 0x21])
        (fun d => (d.core c.val).phi = phaseAt l.a l.phi l.f s.dev.tow.pound ∧ (d.core c.val).f = l.f ∧
          (d.core c.val).set = s.dev.derived c.val l.f ∧ d.get F.LOOP_STAT_TANK c.val = p.tank % 2 ∧
          d.get F.LOOP_STAT_BAND c.val = p.band % 256 ∧ (d.core c.val).tune = s.dev.presetTune p ∧
          d.locked c.val = s.dev.locked c.val ∧ (d.core c.val).blank = true ∧ d.loads = rest ∧
          (∀ n, n ≠ c.val → d.core n = s.dev.core n) ∧ (d.core c.val).hopTarget = true)) ∧
    (∀ (s : State) (c : Fin 16) (inBand : Bool) (l : Load) (rest : List Load) (p : Preset),
      s.Running →
      s.dev.changeDue (c.val / 2) = false →
      s.dev.takeDue c.val s.dev.loads = some (l, rest) →
      l.kind = .park →
      s.dev.activeCore (c.val / 2) ≠ c.val →
      s.dev.coreClosed c.val = false →
      (s.dev.core c.val).berth = some l.berth →
      (s.dev.derived c.val l.f).refusal = none →
      2 ≤ s.dev.coreState c.val →
      l.preset? = some p →
      DoesWide (.coreLoad c inBand) s [.cores, .loads, .mbx] ([0x10 + c.val, 0x20, 0x21])
        (fun d => (d.core c.val).phi = phaseAt l.a l.phi l.f s.dev.tow.pound ∧ (d.core c.val).f = l.f ∧
          (d.core c.val).set = s.dev.derived c.val l.f ∧ d.get F.LOOP_STAT_TANK c.val = p.tank % 2 ∧
          d.get F.LOOP_STAT_BAND c.val = p.band % 256 ∧ d.loads = rest ∧ (∀ n, n ≠ c.val → d.core n = s.dev.core n))) ∧
    (∀ (s : State) (c : Fin 16) (inBand : Bool) (l : Load) (rest : List Load),
      s.Running →
      s.dev.changeDue (c.val / 2) = false →
      s.dev.takeDue c.val s.dev.loads = some (l, rest) →
      l.kind = .park →
      s.dev.activeCore (c.val / 2) = c.val →
      DoesWide (.coreLoad c inBand) s [.cores, .loads, .mbx, .flt] ([0x10 + c.val, 0x20, 0xA])
        (fun d => d.get F.COUT_HOP_EVT_CANCELLED = setBits (s.dev.get F.COUT_HOP_EVT_CANCELLED) (c.val / 2) (c.val / 2) 1 % 2 ^
          8 ∧ (d.core c.val).set = (s.dev.core c.val).set ∧ (d.core c.val).f = (s.dev.core c.val).f ∧ d.loads = rest ∧
          (∀ n, n ≠ c.val → d.core n = s.dev.core n) ∧ s.dev.Reported d 4 0 2 (c.val / 2))) ∧
    (∀ (s : State) (c : Fin 16) (inBand : Bool) (l : Load) (rest : List Load),
      s.Running →
      s.dev.changeDue (c.val / 2) = false →
      s.dev.takeDue c.val s.dev.loads = some (l, rest) →
      l.kind = .record →
      DoesWide (.coreLoad c inBand) s [.cores, .loads, .mbx] ([0x10 + c.val, 0x20])
        (fun d => (d.core c.val).berth = some l.berth ∧ d.get F.LOOP_STAT_BOUND c.val = 1 ∧ (d.core c.val).intMode = false ∧
          (d.core c.val).set = (s.dev.core c.val).set ∧ d.loads = rest ∧ (∀ n, n ≠ c.val → d.core n = s.dev.core n))) ∧
    (∀ (s : State) (c : Fin 16) (inBand : Bool) (l : Load) (rest : List Load),
      s.Running →
      s.dev.changeDue (c.val / 2) = false →
      s.dev.takeDue c.val s.dev.loads = some (l, rest) →
      l.kind = .bind →
      s.dev.coreClosed c.val = true →
      DoesWide (.coreLoad c inBand) s [.cores, .loads, .mbx] ([0x10 + c.val, 0x20])
        (fun d => (d.core c.val).berth = some l.berth ∧ d.get F.LOOP_STAT_BOUND c.val = 1 ∧ (d.core c.val).intMode = false ∧
          (d.core c.val).set = (s.dev.core c.val).set ∧ d.loads = rest ∧ (∀ n, n ≠ c.val → d.core n = s.dev.core n))) ∧
    (∀ (s : State) (c : Fin 16) (inBand : Bool) (l : Load) (rest : List Load),
      s.Running →
      s.dev.changeDue (c.val / 2) = false →
      s.dev.takeDue c.val s.dev.loads = some (l, rest) →
      l.kind = .bind →
      s.dev.coreClosed c.val = false →
      (s.dev.derived c.val l.f).refusal = none →
      DoesWide (.coreLoad c inBand) s [.cores, .loads, .mbx] ([0x10 + c.val, 0x20, 0x21])
        (fun d => (d.core c.val).berth = some l.berth ∧ d.get F.LOOP_STAT_BOUND c.val = 1 ∧ (d.core c.val).intMode = false ∧
          (d.core c.val).phi = phaseAt l.a l.phi l.f s.dev.tow.pound ∧ (d.core c.val).f = l.f ∧
          (d.core c.val).set = s.dev.derived c.val l.f ∧ d.loads = rest ∧ (∀ n, n ≠ c.val → d.core n = s.dev.core n))) ∧
    (∀ (s : State) (c : Fin 16) (inBand : Bool) (l : Load) (rest : List Load),
      s.Running →
      s.dev.changeDue (c.val / 2) = false →
      s.dev.takeDue c.val s.dev.loads = some (l, rest) →
      l.kind = .release →
      (s.dev.core c.val).berth = some l.berth →
      DoesWide (.coreLoad c inBand) s [.cores, .loads, .mbx] ([0x10 + c.val, 0x20])
        (fun d => (d.core c.val).berth = none ∧ d.get F.LOOP_STAT_BOUND c.val = 0 ∧ (d.core c.val).hasU = true ∧
          (d.core c.val).set = (s.dev.core c.val).set ∧ d.loads = rest ∧ (∀ n, n ≠ c.val → d.core n = s.dev.core n))) ∧
    (∀ (s : State) (c : Fin 16) (inBand : Bool) (l : Load) (rest : List Load),
      s.Running →
      s.dev.changeDue (c.val / 2) = false →
      s.dev.takeDue c.val s.dev.loads = some (l, rest) →
      l.kind ∈ [LoadKind.freq, .retune, .emit, .phase, .addPhase, .hop] →
      (s.dev.coreClosed c.val = true ∨ (s.dev.core c.val).berth ≠ some l.berth) →
      DoesWide (.coreLoad c inBand) s [.cores, .loads, .mbx] ([0x10 + c.val, 0x20])
        (fun d => (d.core c.val).phi = (s.dev.core c.val).phi ∧ (d.core c.val).f = (s.dev.core c.val).f ∧
          (d.core c.val).set = (s.dev.core c.val).set ∧ (d.core c.val).berth = (s.dev.core c.val).berth ∧ d.loads = rest ∧
          (∀ n, n ≠ c.val → d.core n = s.dev.core n))) ∧
    (∀ (s : State) (c : Fin 16) (inBand : Bool),
      s.Running →
      (s.dev.changeDue (c.val / 2) = true ∨ s.dev.takeDue c.val s.dev.loads = none) →
      Idles (.coreLoad c inBand) s)

/-- LOOP_APPLY of an open core with good staged settings is pending with RESULT 2 for its pound or the next boundary,
  and with bad ones refused with the code of the first check that fails; at its boundary the staged settings are checked again,
  and come into force with RESULT 1 and APPLY_DONE, from IDLE with the start of the core, in band keeping tank, band,
  state and lock, with a band-map entry as a preset load, else with a band search,
  and with PHASE_SET the free target starts from FREE_PHASE; a phase adjustment of a free core that has a target is kept for
  the next boundary, any other is refused. Choices of the model on which this rests: log entries 53, 57, 106, 115, 117, 118,
  124, 156, 157 and 158. -/
def Obligations.FreeMode : Prop :=
  (∀ (s : State) (c : Fin 16) (v : Word) (p : Pound),
      s.Running →
      s.dev.coreClosed c.val = false →
      p = BitVec.ofNat 64 (s.dev.get F.LOOP_APPLY_POUND_HI_POUND c.val * 2 ^ 32 + s.dev.get F.LOOP_APPLY_POUND_LO_POUND c.val) →
      s.dev.applyRefusal c.val (bit v.toNat 1) p = none →
      Does (.loopApply c v) s [.cores] ([F.LOOP_APPLY_PHASE_SET.key c.val, F.LOOP_APPLY_AT_POUND.key c.val,
        F.LOOP_APPLY_RESULT.key c.val, F.LOOP_APPLY_GO.key c.val])
        (fun d => d.get F.LOOP_APPLY_RESULT c.val = 2 ∧ d.get F.LOOP_APPLY_GO c.val = 1 ∧
          d.core c.val = { s.dev.core c.val with applyAt := some (if bit v.toNat 1 then p else s.dev.tow.pound + 1) } ∧
          d.get F.LOOP_APPLY_PHASE_SET c.val = bits v.toNat 2 2 ∧ d.get F.LOOP_APPLY_AT_POUND c.val = bits v.toNat 1 1 ∧
          (∀ n, n ≠ c.val → d.core n = s.dev.core n))) ∧
    (∀ (s : State) (c : Fin 16) (v : Word) (p : Pound) (r : Nat),
      s.Running →
      s.dev.coreClosed c.val = false →
      p = BitVec.ofNat 64 (s.dev.get F.LOOP_APPLY_POUND_HI_POUND c.val * 2 ^ 32 + s.dev.get F.LOOP_APPLY_POUND_LO_POUND c.val) →
      s.dev.applyRefusal c.val (bit v.toNat 1) p = some r →
      Does (.loopApply c v) s [.cores] ([F.LOOP_APPLY_PHASE_SET.key c.val, F.LOOP_APPLY_AT_POUND.key c.val,
        F.LOOP_APPLY_RESULT.key c.val, F.LOOP_APPLY_GO.key c.val])
        (fun d => d.get F.LOOP_APPLY_RESULT c.val = r % 16 ∧ d.get F.LOOP_APPLY_GO c.val = 0 ∧
          d.core c.val = { s.dev.core c.val with applyAt := none } ∧ d.get F.LOOP_APPLY_PHASE_SET c.val = bits v.toNat 2 2 ∧
          d.get F.LOOP_APPLY_AT_POUND c.val = bits v.toNat 1 1 ∧ (∀ n, n ≠ c.val → d.core n = s.dev.core n))) ∧
    (∀ (s : State) (c : Fin 16) (inBand : Bool),
      s.Running →
      s.dev.applyDue c.val = true →
      (s.dev.staged c.val).refusal = none →
      s.dev.intRefusal c.val (s.dev.staged c.val) = none →
      s.dev.coreState c.val = 1 →
      s.dev.is F.LOOP_BAND_CTRL_MANUAL c.val = false →
      DoesWide (.loopApplyTakeEffect c inBand) s [.cores, .mbx] ([0x10 + c.val, 0x20, 0x21])
        (fun d => (d.core c.val).set = s.dev.staged c.val ∧ (d.core c.val).intMode = s.dev.is F.LOOP_CTRL_INT_MODE c.val ∧
          (d.core c.val).hasU = true ∧ d.get F.LOOP_APPLY_RESULT c.val = 1 ∧ d.get F.LOOP_EVT_APPLY_DONE c.val = 1 ∧
          (d.core c.val).applyAt = none ∧ d.get F.LOOP_APPLY_GO c.val = 0 ∧ (∀ n, n ≠ c.val → d.core n = s.dev.core n) ∧
          (s.dev.is F.LOOP_APPLY_PHASE_SET c.val = true → (d.core c.val).u =
          roundDiv (s.dev.get F.LOOP_FREE_PHASE_PHASE c.val * (s.dev.staged c.val).dA * (s.dev.staged c.val).modulus) (2 ^ 32)
          % ((s.dev.staged c.val).dA * (s.dev.staged c.val).modulus)) ∧ d.coreState c.val = 2 ∧
          d.get F.LOOP_STAT_BAND_SEARCH c.val = 1 ∧ d.get F.LOOP_STAT_TANK c.val =
          s.dev.tankFor c.val (s.dev.staged c.val) % 2 ∧ d.locked c.val = false ∧ d.get F.LOOP_STAT_TUNE_EDGE c.val = 0)) ∧
    (∀ (s : State) (c : Fin 16) (inBand : Bool),
      s.Running →
      s.dev.applyDue c.val = true →
      (s.dev.staged c.val).refusal = none →
      s.dev.intRefusal c.val (s.dev.staged c.val) = none →
      s.dev.coreState c.val = 1 →
      s.dev.is F.LOOP_BAND_CTRL_MANUAL c.val = true →
      DoesWide (.loopApplyTakeEffect c inBand) s [.cores, .mbx] ([0x10 + c.val, 0x20, 0x21])
        (fun d => (d.core c.val).set = s.dev.staged c.val ∧ (d.core c.val).intMode = s.dev.is F.LOOP_CTRL_INT_MODE c.val ∧
          (d.core c.val).hasU = true ∧ d.get F.LOOP_APPLY_RESULT c.val = 1 ∧ d.get F.LOOP_EVT_APPLY_DONE c.val = 1 ∧
          (d.core c.val).applyAt = none ∧ d.get F.LOOP_APPLY_GO c.val = 0 ∧ (∀ n, n ≠ c.val → d.core n = s.dev.core n) ∧
          (s.dev.is F.LOOP_APPLY_PHASE_SET c.val = true → (d.core c.val).u =
          roundDiv (s.dev.get F.LOOP_FREE_PHASE_PHASE c.val * (s.dev.staged c.val).dA * (s.dev.staged c.val).modulus) (2 ^ 32)
          % ((s.dev.staged c.val).dA * (s.dev.staged c.val).modulus)) ∧ d.coreState c.val = 3 ∧
          d.get F.LOOP_STAT_BAND_SEARCH c.val = 0 ∧ d.get F.LOOP_STAT_TANK c.val = s.dev.get F.LOOP_BAND_CTRL_TANK c.val % 2 ∧
          d.get F.LOOP_STAT_BAND c.val = s.dev.get F.LOOP_BAND_CTRL_BAND c.val % 256 ∧ d.locked c.val = false)) ∧
    (∀ (s : State) (c : Fin 16) (inBand : Bool),
      s.Running →
      s.dev.applyDue c.val = true →
      (s.dev.staged c.val).refusal = none →
      s.dev.intRefusal c.val (s.dev.staged c.val) = none →
      s.dev.coreState c.val = 0 →
      DoesWide (.loopApplyTakeEffect c inBand) s [.cores, .mbx] ([0x10 + c.val, 0x20, 0x21])
        (fun d => (d.core c.val).set = s.dev.staged c.val ∧ (d.core c.val).intMode = s.dev.is F.LOOP_CTRL_INT_MODE c.val ∧
          (d.core c.val).hasU = true ∧ d.get F.LOOP_APPLY_RESULT c.val = 1 ∧ d.get F.LOOP_EVT_APPLY_DONE c.val = 1 ∧
          (d.core c.val).applyAt = none ∧ d.get F.LOOP_APPLY_GO c.val = 0 ∧ (∀ n, n ≠ c.val → d.core n = s.dev.core n) ∧
          (s.dev.is F.LOOP_APPLY_PHASE_SET c.val = true → (d.core c.val).u =
          roundDiv (s.dev.get F.LOOP_FREE_PHASE_PHASE c.val * (s.dev.staged c.val).dA * (s.dev.staged c.val).modulus) (2 ^ 32)
          % ((s.dev.staged c.val).dA * (s.dev.staged c.val).modulus)) ∧ (d.core c.val).starts = true ∧ d.coreState c.val = 0)) ∧
    (∀ (s : State) (c : Fin 16) (inBand : Bool),
      s.Running →
      s.dev.applyDue c.val = true →
      (s.dev.staged c.val).refusal = none →
      s.dev.intRefusal c.val (s.dev.staged c.val) = none →
      2 ≤ s.dev.coreState c.val →
      ¬(s.dev.coreCold c.val = false ∧ s.dev.manualMoves c.val = false ∧
        s.dev.staysInBand c.val (s.dev.staged c.val) inBand = true) →
      s.dev.bandLookup c.val (s.dev.staged c.val) = none →
      s.dev.is F.LOOP_BAND_CTRL_MANUAL c.val = true →
      DoesWide (.loopApplyTakeEffect c inBand) s [.cores, .mbx] ([0x10 + c.val, 0x20, 0x21])
        (fun d => (d.core c.val).set = s.dev.staged c.val ∧ (d.core c.val).intMode = s.dev.is F.LOOP_CTRL_INT_MODE c.val ∧
          (d.core c.val).hasU = true ∧ d.get F.LOOP_APPLY_RESULT c.val = 1 ∧ d.get F.LOOP_EVT_APPLY_DONE c.val = 1 ∧
          (d.core c.val).applyAt = none ∧ d.get F.LOOP_APPLY_GO c.val = 0 ∧ (∀ n, n ≠ c.val → d.core n = s.dev.core n) ∧
          (s.dev.is F.LOOP_APPLY_PHASE_SET c.val = true → (d.core c.val).u =
          roundDiv (s.dev.get F.LOOP_FREE_PHASE_PHASE c.val * (s.dev.staged c.val).dA * (s.dev.staged c.val).modulus) (2 ^ 32)
          % ((s.dev.staged c.val).dA * (s.dev.staged c.val).modulus)) ∧ d.coreState c.val = 3 ∧
          d.get F.LOOP_STAT_BAND_SEARCH c.val = 0 ∧ d.get F.LOOP_STAT_TANK c.val = s.dev.get F.LOOP_BAND_CTRL_TANK c.val % 2 ∧
          d.get F.LOOP_STAT_BAND c.val = s.dev.get F.LOOP_BAND_CTRL_BAND c.val % 256 ∧ d.locked c.val = false)) ∧
    (∀ (s : State) (c : Fin 16) (inBand : Bool),
      s.Running →
      s.dev.applyDue c.val = true →
      (s.dev.staged c.val).refusal = none →
      s.dev.intRefusal c.val (s.dev.staged c.val) = none →
      s.dev.coreCold c.val = false →
      s.dev.manualMoves c.val = false →
      s.dev.staysInBand c.val (s.dev.staged c.val) inBand = true →
      DoesWide (.loopApplyTakeEffect c inBand) s [.cores, .mbx] ([0x10 + c.val, 0x20, 0x21])
        (fun d => (d.core c.val).set = s.dev.staged c.val ∧ (d.core c.val).intMode = s.dev.is F.LOOP_CTRL_INT_MODE c.val ∧
          (d.core c.val).hasU = true ∧ d.get F.LOOP_APPLY_RESULT c.val = 1 ∧ d.get F.LOOP_EVT_APPLY_DONE c.val = 1 ∧
          (d.core c.val).applyAt = none ∧ d.get F.LOOP_APPLY_GO c.val = 0 ∧ (∀ n, n ≠ c.val → d.core n = s.dev.core n) ∧
          (s.dev.is F.LOOP_APPLY_PHASE_SET c.val = true → (d.core c.val).u =
          roundDiv (s.dev.get F.LOOP_FREE_PHASE_PHASE c.val * (s.dev.staged c.val).dA * (s.dev.staged c.val).modulus) (2 ^ 32)
          % ((s.dev.staged c.val).dA * (s.dev.staged c.val).modulus)) ∧
          d.get F.LOOP_STAT_TANK c.val = s.dev.get F.LOOP_STAT_TANK c.val ∧
          d.get F.LOOP_STAT_BAND c.val = s.dev.get F.LOOP_STAT_BAND c.val ∧ d.coreState c.val = s.dev.coreState c.val ∧
          d.locked c.val = s.dev.locked c.val ∧ d.get F.LOOP_STAT_TUNE_EDGE c.val = 0)) ∧
    (∀ (s : State) (c : Fin 16) (inBand : Bool) (p : Preset),
      s.Running →
      s.dev.applyDue c.val = true →
      (s.dev.staged c.val).refusal = none →
      s.dev.intRefusal c.val (s.dev.staged c.val) = none →
      2 ≤ s.dev.coreState c.val →
      ¬(s.dev.coreCold c.val = false ∧ s.dev.manualMoves c.val = false ∧
        s.dev.staysInBand c.val (s.dev.staged c.val) inBand = true) →
      s.dev.bandLookup c.val (s.dev.staged c.val) = some p →
      DoesWide (.loopApplyTakeEffect c inBand) s [.cores, .mbx] ([0x10 + c.val, 0x20, 0x21])
        (fun d => (d.core c.val).set = s.dev.staged c.val ∧ (d.core c.val).intMode = s.dev.is F.LOOP_CTRL_INT_MODE c.val ∧
          (d.core c.val).hasU = true ∧ d.get F.LOOP_APPLY_RESULT c.val = 1 ∧ d.get F.LOOP_EVT_APPLY_DONE c.val = 1 ∧
          (d.core c.val).applyAt = none ∧ d.get F.LOOP_APPLY_GO c.val = 0 ∧ (∀ n, n ≠ c.val → d.core n = s.dev.core n) ∧
          (s.dev.is F.LOOP_APPLY_PHASE_SET c.val = true → (d.core c.val).u =
          roundDiv (s.dev.get F.LOOP_FREE_PHASE_PHASE c.val * (s.dev.staged c.val).dA * (s.dev.staged c.val).modulus) (2 ^ 32)
          % ((s.dev.staged c.val).dA * (s.dev.staged c.val).modulus)) ∧ d.get F.LOOP_STAT_TANK c.val = p.tank % 2 ∧
          d.get F.LOOP_STAT_BAND c.val = p.band % 256 ∧ (d.core c.val).tune = s.dev.presetTune p ∧
          d.locked c.val = s.dev.locked c.val ∧ d.get F.LOOP_STAT_BAND_SEARCH c.val = 0 ∧
          d.get F.LOOP_STAT_TUNE_EDGE c.val = 0 ∧ (d.core c.val).blank = true ∧
          (d.coreState c.val = (if s.dev.coreState c.val = 2 ∨ s.dev.coreState c.val = 6 then 3 else s.dev.coreState c.val)))) ∧
    (∀ (s : State) (c : Fin 16) (inBand : Bool),
      s.Running →
      s.dev.applyDue c.val = true →
      (s.dev.staged c.val).refusal = none →
      s.dev.intRefusal c.val (s.dev.staged c.val) = none →
      2 ≤ s.dev.coreState c.val →
      ¬(s.dev.coreCold c.val = false ∧ s.dev.manualMoves c.val = false ∧
        s.dev.staysInBand c.val (s.dev.staged c.val) inBand = true) →
      s.dev.bandLookup c.val (s.dev.staged c.val) = none →
      s.dev.is F.LOOP_BAND_CTRL_MANUAL c.val = false →
      DoesWide (.loopApplyTakeEffect c inBand) s [.cores, .mbx] ([0x10 + c.val, 0x20, 0x21])
        (fun d => (d.core c.val).set = s.dev.staged c.val ∧ (d.core c.val).intMode = s.dev.is F.LOOP_CTRL_INT_MODE c.val ∧
          (d.core c.val).hasU = true ∧ d.get F.LOOP_APPLY_RESULT c.val = 1 ∧ d.get F.LOOP_EVT_APPLY_DONE c.val = 1 ∧
          (d.core c.val).applyAt = none ∧ d.get F.LOOP_APPLY_GO c.val = 0 ∧ (∀ n, n ≠ c.val → d.core n = s.dev.core n) ∧
          (s.dev.is F.LOOP_APPLY_PHASE_SET c.val = true → (d.core c.val).u =
          roundDiv (s.dev.get F.LOOP_FREE_PHASE_PHASE c.val * (s.dev.staged c.val).dA * (s.dev.staged c.val).modulus) (2 ^ 32)
          % ((s.dev.staged c.val).dA * (s.dev.staged c.val).modulus)) ∧ d.coreState c.val = 2 ∧
          d.get F.LOOP_STAT_BAND_SEARCH c.val = 1 ∧ d.get F.LOOP_STAT_TANK c.val =
          s.dev.tankFor c.val (s.dev.staged c.val) % 2 ∧ d.locked c.val = false ∧ d.get F.LOOP_STAT_TUNE_EDGE c.val = 0)) ∧
    (∀ (s : State) (c : Fin 16) (inBand : Bool) (r : Nat),
      s.Running →
      s.dev.applyDue c.val = true →
      ((s.dev.staged c.val).refusal.orElse (fun _ => s.dev.intRefusal c.val (s.dev.staged c.val))) = some r →
      DoesWide (.loopApplyTakeEffect c inBand) s [.cores, .mbx] ([0x10 + c.val, 0x20])
        (fun d => d.get F.LOOP_APPLY_RESULT c.val = r % 16 ∧ (d.core c.val).set = (s.dev.core c.val).set ∧
          (d.core c.val).applyAt = none ∧ d.get F.LOOP_APPLY_GO c.val = 0 ∧ (∀ n, n ≠ c.val → d.core n = s.dev.core n))) ∧
    (∀ (s : State) (c : Fin 16) (v : Word),
      s.Running →
      s.dev.coreClosed c.val = false →
      (s.dev.core c.val).berth = none →
      (s.dev.core c.val).hasU = true →
      Does (.phaseAdj c v) s [.cores] ([F.LOOP_PHASE_ADJ_STEPS.key c.val, F.LOOP_PHASE_ADJ_GO.key c.val])
        (fun d => d.core c.val = { s.dev.core c.val with adj := (s.dev.core c.val).adj ++ [sgn 24 (bits v.toNat 23 0)] } ∧
          d.get F.LOOP_PHASE_ADJ_GO c.val = 1 ∧ d.get F.LOOP_PHASE_ADJ_STEPS c.val = bits v.toNat 23 0 ∧
          (∀ n, n ≠ c.val → d.core n = s.dev.core n))) ∧
    (∀ (s : State) (c : Fin 16) (v : Word),
      s.Running →
      s.dev.coreClosed c.val = false →
      ((s.dev.core c.val).berth.isSome = true ∨ (s.dev.core c.val).hasU = false) →
      Does (.phaseAdj c v) s [] ([F.LOOP_PHASE_ADJ_STEPS.key c.val] ++ evKeys F.LOOP_EVT_PA_REFUSED c.val)
        (fun d => d.get F.LOOP_EVT_PA_REFUSED c.val = 1 ∧ d.get F.LOOP_PHASE_ADJ_STEPS c.val = bits v.toNat 23 0))

/-- A band search that ends within 0.5 % of the target goes on to acquire,
  else it fails with its event and record; the lock detector declares lock of an acquiring core after the reference cycles
  inside its window, and a loss of a locked one after those outside, unless a preset load suspends it,
  and changes LOCK and STATE with their events; a core not relocked within 50 µs searches again,
  or with MANUAL takes the written band; a tuning edge of a locked core and a cycle slip are shown and counted; GO arms the
  frequency counter, which shows its count, within rounding of the settings for a core steady in lock,
  when its gate has been open long enough. Choices of the model on which this rests: log entries 8, 21, 56, 106, 114, 115, 117,
  120, 121 and 124. -/
def Obligations.LockAndBand : Prop :=
  (∀ (s : State) (c : Fin 16) (band : Byte) (f : Nat),
      s.Running →
      s.dev.is F.LOOP_STAT_BAND_SEARCH c.val = true →
      ¬((s.dev.core c.val).set.fvcoKhzMod < 200 * ((f * (s.dev.core c.val).set.modulus : Nat) - ((s.dev.core
        c.val).set.fvcoKhzMod : Int)).natAbs) →
      Does (.bandSearchDone c band f) s [.cores] ([F.LOOP_STAT_BAND.key c.val, F.LOOP_STAT_BAND_SEARCH.key c.val,
        F.LOOP_STAT_STATE.key c.val])
        (fun d => d.get F.LOOP_STAT_BAND c.val = band.toNat ∧ d.get F.LOOP_STAT_BAND_SEARCH c.val = 0 ∧
          (d.core c.val).set = (s.dev.core c.val).set ∧ (∀ n, n ≠ c.val → d.core n = s.dev.core n) ∧ d.coreState c.val = 3)) ∧
    (∀ (s : State) (c : Fin 16) (band : Byte) (f : Nat),
      s.Running →
      s.dev.is F.LOOP_STAT_BAND_SEARCH c.val = true →
      (s.dev.core c.val).set.fvcoKhzMod < 200 * ((f * (s.dev.core c.val).set.modulus : Nat) - ((s.dev.core
        c.val).set.fvcoKhzMod : Int)).natAbs →
      Does (.bandSearchDone c band f) s [.cores, .flt] (reportKeys ++ ([F.LOOP_STAT_BAND.key c.val,
        F.LOOP_STAT_BAND_SEARCH.key c.val, F.LOOP_STAT_STATE.key c.val] ++ evKeys F.LOOP_EVT_BAND_FAIL c.val))
        (fun d => d.get F.LOOP_STAT_BAND c.val = band.toNat ∧ d.get F.LOOP_STAT_BAND_SEARCH c.val = 0 ∧
          (d.core c.val).set = (s.dev.core c.val).set ∧ (∀ n, n ≠ c.val → d.core n = s.dev.core n) ∧ d.coreState c.val = 6 ∧
          d.get F.LOOP_EVT_BAND_FAIL c.val = 1 ∧ s.dev.Reported d 3 0 2 c.val)) ∧
    (∀ (s : State) (c : Fin 16) (errs : List Nat),
      s.Running →
      (s.dev.coreState c.val = 3 ∨ s.dev.coreState c.val = 5) →
      s.dev.locked c.val = false →
      (s.dev.core c.val).blank = false →
      s.dev.lockSeen c.val errs = true →
      Does (.lockGained c errs) s [.cores, .freeCtr] ([F.LOOP_STAT_LOCK.key c.val, F.LOOP_STAT_STATE.key c.val,
        F.LOOP_MON_ERR_VALID.key c.val] ++ evKeys F.LOOP_EVT_LOCK_GAINED c.val)
        (fun d => d.locked c.val = true ∧ d.coreState c.val = 4 ∧ d.get F.LOOP_MON_ERR_VALID c.val = 0 ∧
          d.get F.LOOP_EVT_LOCK_GAINED c.val = 1 ∧ (d.core c.val).tracked = false ∧
          (d.core c.val).set = (s.dev.core c.val).set ∧ (∀ n, n ≠ c.val → d.core n = s.dev.core n))) ∧
    (∀ (s : State) (c : Fin 16) (errs : List Nat),
      s.Running →
      s.dev.locked c.val = true →
      (s.dev.core c.val).blank = false →
      s.dev.lossSeen c.val errs = true →
      Does (.lockLost c errs) s [.cores, .flt] (reportKeys ++ ([F.LOOP_STAT_LOCK.key c.val, F.LOOP_STAT_ALIGNED.key c.val,
        F.LOOP_STAT_TRACKING.key c.val, F.LOOP_STAT_HOLD.key c.val, F.LOOP_MON_ERR_VALID.key c.val,
        F.LOOP_STAT_STATE.key c.val, F.COUT_TWIN_STAT_READY.key 0] ++ [F.LOOP_UNLOCK_CNT_UNLOCKS.key c.val] ++
        evKeys F.LOOP_EVT_LOCK_LOST c.val))
        (fun d => d.locked c.val = false ∧ d.aligned c.val = false ∧ d.coreState c.val = 5 ∧
          d.get F.LOOP_STAT_TRACKING c.val = 0 ∧ d.get F.LOOP_MON_ERR_VALID c.val = 0 ∧
          d.get F.LOOP_UNLOCK_CNT_UNLOCKS c.val = (s.dev.get F.LOOP_UNLOCK_CNT_UNLOCKS c.val + 1) % 2 ^ 32 ∧
          d.get F.LOOP_EVT_LOCK_LOST c.val = 1 ∧ (d.core c.val).set = (s.dev.core c.val).set ∧
          (∀ n, n ≠ c.val → d.core n = s.dev.core n) ∧ s.dev.Reported d 3 0 1 c.val)) ∧
    (∀ (s : State) (c : Fin 16),
      s.Running →
      s.dev.coreState c.val = 5 →
      3125 ≤ (s.dev.core c.val).acq + 1 →
      s.dev.is F.LOOP_BAND_CTRL_MANUAL c.val = false →
      Does (.reacquireTimeout c) s [.cores] ([F.LOOP_STAT_LOCK.key c.val, F.LOOP_STAT_ALIGNED.key c.val,
        F.LOOP_STAT_TRACKING.key c.val, F.LOOP_STAT_HOLD.key c.val, F.LOOP_MON_ERR_VALID.key c.val,
        F.LOOP_STAT_STATE.key c.val, F.COUT_TWIN_STAT_READY.key 0] ++ [F.LOOP_STAT_TUNE_EDGE.key c.val,
        F.LOOP_STAT_TANK.key c.val, F.LOOP_STAT_BAND.key c.val, F.LOOP_STAT_BAND_SEARCH.key c.val])
        (fun d => d.coreState c.val = 2 ∧ d.get F.LOOP_STAT_BAND_SEARCH c.val = 1 ∧
          d.get F.LOOP_STAT_TANK c.val = s.dev.tankFor c.val (s.dev.core c.val).set % 2 ∧
          (d.core c.val).set = (s.dev.core c.val).set ∧ (∀ n, n ≠ c.val → d.core n = s.dev.core n))) ∧
    (∀ (s : State) (c : Fin 16),
      s.Running →
      s.dev.coreState c.val = 5 →
      3125 ≤ (s.dev.core c.val).acq + 1 →
      s.dev.is F.LOOP_BAND_CTRL_MANUAL c.val = true →
      Does (.reacquireTimeout c) s [.cores] ([F.LOOP_STAT_LOCK.key c.val, F.LOOP_STAT_ALIGNED.key c.val,
        F.LOOP_STAT_TRACKING.key c.val, F.LOOP_STAT_HOLD.key c.val, F.LOOP_MON_ERR_VALID.key c.val,
        F.LOOP_STAT_STATE.key c.val, F.COUT_TWIN_STAT_READY.key 0] ++ [F.LOOP_STAT_TUNE_EDGE.key c.val,
        F.LOOP_STAT_TANK.key c.val, F.LOOP_STAT_BAND.key c.val, F.LOOP_STAT_BAND_SEARCH.key c.val])
        (fun d => d.coreState c.val = 3 ∧ d.get F.LOOP_STAT_BAND c.val = s.dev.get F.LOOP_BAND_CTRL_BAND c.val % 256 ∧
          d.get F.LOOP_STAT_TANK c.val = s.dev.get F.LOOP_BAND_CTRL_TANK c.val % 2 ∧ d.get F.LOOP_STAT_BAND_SEARCH c.val = 0 ∧
          (d.core c.val).set = (s.dev.core c.val).set ∧ (∀ n, n ≠ c.val → d.core n = s.dev.core n))) ∧
    (∀ (s : State) (c : Fin 16),
      s.Running →
      s.dev.locked c.val = true →
      s.dev.is F.LOOP_STAT_TUNE_EDGE c.val = false →
      Does (.tuneEdge c) s [.flt] (reportKeys ++ ([F.LOOP_STAT_TUNE_EDGE.key c.val] ++ evKeys F.LOOP_EVT_TUNE_EDGE_SET c.val))
        (fun d => d.get F.LOOP_STAT_TUNE_EDGE c.val = 1 ∧ d.get F.LOOP_EVT_TUNE_EDGE_SET c.val = 1 ∧
          s.dev.Reported d 3 0 3 c.val)) ∧
    (∀ (s : State) (c : Fin 16),
      s.Running →
      s.dev.coreClosed c.val = false →
      2 ≤ s.dev.coreState c.val →
      Does (.cycleSlip c) s [.cores] ([F.LOOP_SLIP_CNT_SLIPS.key c.val] ++ evKeys F.LOOP_EVT_CYCLE_SLIP c.val)
        (fun d => d.get F.LOOP_SLIP_CNT_SLIPS c.val = (s.dev.get F.LOOP_SLIP_CNT_SLIPS c.val + 1) % 2 ^ 32 ∧
          d.get F.LOOP_EVT_CYCLE_SLIP c.val = 1 ∧ d.core c.val =
          { s.dev.core c.val with realignDue := (s.dev.core c.val).realignDue || s.dev.is F.LOOP_CTRL_AUTO_REALIGN c.val } ∧
          (∀ n, n ≠ c.val → d.core n = s.dev.core n))) ∧
    (∀ (s : State) (c : Fin 16) (v : Word),
      s.Running →
      s.dev.coreClosed c.val = false →
      Does (.fcntStart c v) s [.cores] ([F.LOOP_FCNT_CFG_GATE.key c.val, F.LOOP_FCNT_CFG_DONE.key c.val,
        F.LOOP_FCNT_CFG_GO.key c.val])
        (fun d => d.core c.val = { s.dev.core c.val with gate := Gate.armed } ∧ d.get F.LOOP_FCNT_CFG_GO c.val = 1 ∧
          d.get F.LOOP_FCNT_CFG_DONE c.val = 0 ∧ d.get F.LOOP_FCNT_CFG_GATE c.val = bits v.toNat 4 0 ∧
          (∀ n, n ≠ c.val → d.core n = s.dev.core n))) ∧
    (∀ (s : State) (c : Fin 16) (count : Word) (n : Nat),
      s.Running →
      (s.dev.core c.val).gate = .open' n →
      s.dev.gatePounds c.val ≤ n →
      Does (.fcntDone c count) s [.cores] ([F.LOOP_FCNT_COUNT.key c.val, F.LOOP_FCNT_CFG_DONE.key c.val,
        F.LOOP_FCNT_CFG_GO.key c.val])
        (fun d => d.get F.LOOP_FCNT_COUNT c.val = (s.dev.core c.val).counted (s.dev.gatePounds c.val) count.toNat % 2 ^ 32 ∧
          d.get F.LOOP_FCNT_CFG_DONE c.val = 1 ∧ d.get F.LOOP_FCNT_CFG_GO c.val = 0 ∧
          d.core c.val = { s.dev.core c.val with gate := Gate.idle } ∧ (∀ n, n ≠ c.val → d.core n = s.dev.core n)))

/-- A full average is written with VALID; within the alarm limit the alarm ends,
  beyond it the event and record arise; in trim mode the clamped correction is added to the trim offset; the hold ends after
  its pounds, but not during a calibration run of the monitor; a realignment of a locked core adds its correction to the trim
  offset, which is held modulo the period of output A. Choices of the model on which this rests: log entries 7, 8, 55,
  56 and 59. -/
def Obligations.PhaseMonitor : Prop :=
  (∀ (s : State) (c : Fin 16) (err : Int),
      s.Running →
      (s.dev.core c.val).avgCount = s.dev.avgPounds c.val →
      err = (s.dev.core c.val).meanError (s.dev.core c.val).avgSum (s.dev.avgPounds c.val) →
      err.natAbs ≤ 16 * s.dev.alarmPs c.val →
      DoesWide (.monitorAverage c) s [.cores] ([0x10 + c.val, 0x20])
        (fun d => d.get F.LOOP_MON_ERR_ERR c.val = unsgnSat 24 err % 2 ^ 24 ∧ d.get F.LOOP_MON_ERR_VALID c.val = 1 ∧
          (d.core c.val).avgCount = 0 ∧ (d.core c.val).set = (s.dev.core c.val).set ∧
          d.get F.LOOP_TRIM_TAU c.val = (if 2 ≤ s.dev.get F.LOOP_CTRL_MON_MODE c.val then (s.dev.addTrim c.val (clampAbs
          (s.dev.get F.LOOP_MON_CFG_TRIM_MAX c.val) ((s.dev.core c.val).trimSteps err))).get F.LOOP_TRIM_TAU c.val else
          s.dev.get F.LOOP_TRIM_TAU c.val) ∧ (∀ n, n ≠ c.val → d.core n = s.dev.core n) ∧ (d.core c.val).alarm = false)) ∧
    (∀ (s : State) (c : Fin 16) (err : Int),
      s.Running →
      (s.dev.core c.val).avgCount = s.dev.avgPounds c.val →
      err = (s.dev.core c.val).meanError (s.dev.core c.val).avgSum (s.dev.avgPounds c.val) →
      16 * s.dev.alarmPs c.val < err.natAbs →
      DoesWide (.monitorAverage c) s [.cores, .flt] ([0x10 + c.val, 0x20, 0xA])
        (fun d => d.get F.LOOP_MON_ERR_ERR c.val = unsgnSat 24 err % 2 ^ 24 ∧ d.get F.LOOP_MON_ERR_VALID c.val = 1 ∧
          (d.core c.val).avgCount = 0 ∧ (d.core c.val).set = (s.dev.core c.val).set ∧
          d.get F.LOOP_TRIM_TAU c.val = (if 2 ≤ s.dev.get F.LOOP_CTRL_MON_MODE c.val then (s.dev.addTrim c.val (clampAbs
          (s.dev.get F.LOOP_MON_CFG_TRIM_MAX c.val) ((s.dev.core c.val).trimSteps err))).get F.LOOP_TRIM_TAU c.val else
          s.dev.get F.LOOP_TRIM_TAU c.val) ∧ (∀ n, n ≠ c.val → d.core n = s.dev.core n) ∧ (d.core c.val).alarm = true ∧
          d.get F.LOOP_EVT_PHASE_ALARM c.val = 1 ∧ s.dev.Reported d 3 0 4 c.val)) ∧
    (∀ (s : State) (c : Fin 16),
      s.Running →
      s.dev.is F.LOOP_STAT_HOLD c.val = true →
      s.dev.holding c.val = false →
      Does (.monitorHoldEnd c) s [.cores] ([F.LOOP_STAT_HOLD.key c.val, F.LOOP_STAT_ALIGNED.key c.val,
        F.COUT_TWIN_STAT_READY.key 0] ++ evKeys F.COUT_RETUNE_EVT_RETUNE_DONE)
        (fun d => d.get F.LOOP_STAT_HOLD c.val = 0 ∧ (d.core c.val).set = (s.dev.core c.val).set ∧
          (∀ n, n ≠ c.val → d.core n = s.dev.core n))) ∧
    (∀ (s : State) (c : Fin 16),
      s.Running →
      (s.dev.core c.val).realignDue = true →
      (s.dev.core c.val).raCount = 8 →
      s.dev.locked c.val = true →
      Does (.realigned c) s [.cores] ([F.LOOP_TRIM_TAU.key c.val] ++ evKeys F.LOOP_EVT_REALIGNED c.val)
        (fun d => d.get F.LOOP_TRIM_TAU c.val = (s.dev.addTrim c.val ((s.dev.core c.val).trimSteps ((s.dev.core
          c.val).meanError (s.dev.core c.val).raSum 8))).get F.LOOP_TRIM_TAU c.val ∧ (1 ≤ (s.dev.core c.val).set.dA ∧
          (s.dev.core c.val).set.dA ≤ 256 → (sgn 32 (d.get F.LOOP_TRIM_TAU c.val) - (sgn 32 (s.dev.get F.LOOP_TRIM_TAU c.val) +
          ((s.dev.core c.val).trimSteps ((s.dev.core c.val).meanError (s.dev.core c.val).raSum 8)))) % ((s.dev.core
          c.val).set.dA * 65536 : Nat) = 0) ∧ (d.core c.val).realignDue = false ∧ (d.core c.val).raCount = 0 ∧
          (d.core c.val).set = (s.dev.core c.val).set ∧ (∀ n, n ≠ c.val → d.core n = s.dev.core n) ∧
          d.get F.LOOP_EVT_REALIGNED c.val = 1))

/-- A write of TWIN_EN changes the bits of unbound twins and refuses a change of a bound one; a twin it disables has core 2k
  active again and no change prepared; READY follows the standby; at the pound of a hop or a swap a twin whose standby was
  ready switches, ACTIVE toggling and SWITCHED set; one whose standby was not reports the miss and defers,
  switches or abandons by its MISS_POLICY; a deferring twin switches when the standby is ready,
  and abandons the change at its limit, and either gives the HOP_MISS report its last stamp. Choices of the model on which this
  rests: log entries 8, 51, 59, 60, 106 and 123. -/
def Obligations.TwinChanges : Prop :=
  (∀ (s : State) (v : Word) (k : Fin 8),
      s.Running →
      s.dev.twinBound k.val = false →
      bit v.toNat k.val ≠ s.dev.twinEnabled k.val →
      Does (.twinEnWrite v) s [.bus, .twins] ([F.COUT_TWIN_CTRL_TWIN_EN.key 0, F.COUT_TWIN_STAT_READY.key 0,
        F.COUT_TWIN_STAT_ACTIVE.key 0, F.COUT_TWIN_STAT_PREPARED.key 0, F.COUT_TWIN_STAT_DEFERRING.key 0,
        F.COUT_TWIN_SWAP_GO.key 0, F.COUT_TWIN_SWAP_SWAP_RESULT.key 0] ++ evKeys F.COUT_HOP_EVT_TWIN_REFUSED)
        (fun d => bit (d.get F.COUT_TWIN_CTRL_TWIN_EN) k.val = bit v.toNat k.val ∧
          (bit v.toNat k.val = false → (d.twin k.val).hop = none ∧ (d.twin k.val).swapAt = none ∧
          bit (d.get F.COUT_TWIN_STAT_ACTIVE) k.val = false ∧ bit (d.get F.COUT_TWIN_STAT_PREPARED) k.val = false ∧
          bit (d.get F.COUT_TWIN_STAT_DEFERRING) k.val = false) ∧
          (bit v.toNat k.val = true → d.twin k.val = s.dev.twin k.val))) ∧
    (∀ (s : State) (v : Word) (k : Fin 8),
      s.Running →
      s.dev.twinBound k.val = true →
      bit v.toNat k.val ≠ s.dev.twinEnabled k.val →
      Does (.twinEnWrite v) s [.bus, .twins] ([F.COUT_TWIN_CTRL_TWIN_EN.key 0, F.COUT_TWIN_STAT_READY.key 0,
        F.COUT_TWIN_STAT_ACTIVE.key 0, F.COUT_TWIN_STAT_PREPARED.key 0, F.COUT_TWIN_STAT_DEFERRING.key 0,
        F.COUT_TWIN_SWAP_GO.key 0, F.COUT_TWIN_SWAP_SWAP_RESULT.key 0] ++ evKeys F.COUT_HOP_EVT_TWIN_REFUSED)
        (fun d => bit (d.get F.COUT_TWIN_CTRL_TWIN_EN) k.val = s.dev.twinEnabled k.val ∧
          bit (d.get F.COUT_HOP_EVT_TWIN_REFUSED) k.val = true ∧ d.twin k.val = s.dev.twin k.val)) ∧
    (∀ (s : State) (v : Word) (k : Fin 8),
      s.Running →
      bit v.toNat k.val = s.dev.twinEnabled k.val →
      Does (.twinEnWrite v) s [.bus, .twins] ([F.COUT_TWIN_CTRL_TWIN_EN.key 0, F.COUT_TWIN_STAT_READY.key 0,
        F.COUT_TWIN_STAT_ACTIVE.key 0, F.COUT_TWIN_STAT_PREPARED.key 0, F.COUT_TWIN_STAT_DEFERRING.key 0,
        F.COUT_TWIN_SWAP_GO.key 0, F.COUT_TWIN_SWAP_SWAP_RESULT.key 0] ++ evKeys F.COUT_HOP_EVT_TWIN_REFUSED)
        (fun d => bit (d.get F.COUT_TWIN_CTRL_TWIN_EN) k.val = s.dev.twinEnabled k.val ∧ d.twin k.val = s.dev.twin k.val)) ∧
    (∀ (s : State) (k : Fin 8),
      s.Running →
      Does (.hopReady k) s [] ([F.COUT_TWIN_STAT_READY.key 0])
        (fun d => bit (d.get F.COUT_TWIN_STAT_READY) k.val = (s.dev.twinEnabled k.val && s.dev.hopReady k.val))) ∧
    (∀ (s : State) (k : Fin 8) (t : Pound),
      s.Running →
      s.dev.changePound k.val = some t →
      t.toNat ≤ s.dev.tow.pound.toNat →
      s.dev.deferring k.val = false →
      (s.dev.twin k.val).sample = true →
      DoesWide (.twinSwitch k) s [.twins, .cores, .outputs] ([0x20, 0x21,
        0x10 + (if s.dev.twinEnabled k.val then s.dev.activeCore k.val else 2 * k.val + 1)])
        (fun d => bit (d.get F.COUT_TWIN_STAT_ACTIVE) k.val = !bit (s.dev.get F.COUT_TWIN_STAT_ACTIVE) k.val ∧
          bit (d.get F.COUT_TWIN_STAT_PREPARED) k.val = false ∧ bit (d.get F.COUT_TWIN_STAT_DEFERRING) k.val = false ∧
          bit (d.get F.COUT_HOP_EVT_SWITCHED) k.val = true ∧ (d.twin k.val).hop = none ∧ (d.twin k.val).swapAt = none ∧
          ((s.dev.twin k.val).swapAt.isSome = true → d.get F.COUT_TWIN_SWAP_SWAP_RESULT = 3 ∧ d.get F.COUT_TWIN_SWAP_GO = 0) ∧
          (∀ n, n ≠ k.val → d.twin n = s.dev.twin n) ∧ d.coreState (d.standbyCore k.val) =
          s.dev.coreState (d.standbyCore k.val) ∧ d.locked (d.standbyCore k.val) = s.dev.locked (d.standbyCore k.val) ∧
          d.get F.LOOP_STAT_ALIGNED (d.standbyCore k.val) = s.dev.get F.LOOP_STAT_ALIGNED (d.standbyCore k.val) ∧
          d.get F.LOOP_STAT_TRACKING (d.standbyCore k.val) = (if d.tracks (d.standbyCore k.val) then s.dev.get
          F.LOOP_STAT_TRACKING (d.standbyCore k.val) else 0))) ∧
    (∀ (s : State) (k : Fin 8) (t : Pound),
      s.Running →
      s.dev.changePound k.val = some t →
      t.toNat ≤ s.dev.tow.pound.toNat →
      s.dev.deferring k.val = false →
      (s.dev.twin k.val).sample = false →
      s.dev.get F.COUT_TWIN_CFG_MISS_POLICY k.val = 0 →
      Does (.twinSwitch k) s [.twins, .flt] (reportKeys ++ ([F.COUT_TWIN_STAT_DEFERRING.key 0] ++ evKeys F.COUT_HOP_EVT_MISSED))
        (fun d => bit (d.get F.COUT_HOP_EVT_MISSED) k.val = true ∧ s.dev.Reported d 4 0 1 k.val (some t) ∧
          bit (d.get F.COUT_TWIN_STAT_DEFERRING) k.val = true ∧ d.twin k.val = { s.dev.twin k.val with deferred := 0 } ∧
          (∀ n, n ≠ k.val → d.twin n = s.dev.twin n))) ∧
    (∀ (s : State) (k : Fin 8) (t : Pound),
      s.Running →
      s.dev.changePound k.val = some t →
      t.toNat ≤ s.dev.tow.pound.toNat →
      s.dev.deferring k.val = false →
      (s.dev.twin k.val).sample = false →
      s.dev.get F.COUT_TWIN_CFG_MISS_POLICY k.val = 1 →
      DoesWide (.twinSwitch k) s [.twins, .cores, .outputs, .flt] ([0x20, 0x21, 0xA,
        0x10 + (if s.dev.twinEnabled k.val then s.dev.activeCore k.val else 2 * k.val + 1)])
        (fun d => bit (d.get F.COUT_HOP_EVT_MISSED) k.val = true ∧ s.dev.Reported d 4 0 1 k.val (some t) ∧
          bit (d.get F.COUT_TWIN_STAT_ACTIVE) k.val = !bit (s.dev.get F.COUT_TWIN_STAT_ACTIVE) k.val ∧
          bit (d.get F.COUT_TWIN_STAT_PREPARED) k.val = false ∧ bit (d.get F.COUT_TWIN_STAT_DEFERRING) k.val = false ∧
          bit (d.get F.COUT_HOP_EVT_SWITCHED) k.val = true ∧ (d.twin k.val).hop = none ∧ (d.twin k.val).swapAt = none ∧
          ((s.dev.twin k.val).swapAt.isSome = true → d.get F.COUT_TWIN_SWAP_SWAP_RESULT = 3 ∧ d.get F.COUT_TWIN_SWAP_GO = 0) ∧
          (∀ n, n ≠ k.val → d.twin n = s.dev.twin n) ∧ d.coreState (d.standbyCore k.val) =
          s.dev.coreState (d.standbyCore k.val) ∧ d.locked (d.standbyCore k.val) = s.dev.locked (d.standbyCore k.val) ∧
          d.get F.LOOP_STAT_ALIGNED (d.standbyCore k.val) = s.dev.get F.LOOP_STAT_ALIGNED (d.standbyCore k.val) ∧
          d.get F.LOOP_STAT_TRACKING (d.standbyCore k.val) = (if d.tracks (d.standbyCore k.val) then s.dev.get
          F.LOOP_STAT_TRACKING (d.standbyCore k.val) else 0))) ∧
    (∀ (s : State) (k : Fin 8) (t : Pound),
      s.Running →
      s.dev.changePound k.val = some t →
      t.toNat ≤ s.dev.tow.pound.toNat →
      s.dev.deferring k.val = false →
      (s.dev.twin k.val).sample = false →
      2 ≤ s.dev.get F.COUT_TWIN_CFG_MISS_POLICY k.val →
      DoesWide (.twinSwitch k) s [.twins, .cores, .flt] ([0x20, 0xA, 0x10 + s.dev.standbyCore k.val])
        (fun d => bit (d.get F.COUT_HOP_EVT_MISSED) k.val = true ∧ s.dev.Reported d 4 0 1 k.val (some t) ∧
          bit (d.get F.COUT_TWIN_STAT_ACTIVE) k.val = bit (s.dev.get F.COUT_TWIN_STAT_ACTIVE) k.val ∧
          bit (d.get F.COUT_TWIN_STAT_PREPARED) k.val = false ∧ bit (d.get F.COUT_TWIN_STAT_DEFERRING) k.val = false ∧
          (d.twin k.val).hop = none ∧ (d.twin k.val).swapAt = none ∧
          ((s.dev.twin k.val).swapAt.isSome = true → d.get F.COUT_TWIN_SWAP_SWAP_RESULT = 2 ∧ d.get F.COUT_TWIN_SWAP_GO = 0) ∧
          (∀ n, n ≠ k.val → d.twin n = s.dev.twin n) ∧ d.coreState (d.standbyCore k.val) =
          s.dev.coreState (d.standbyCore k.val) ∧ d.locked (d.standbyCore k.val) = s.dev.locked (d.standbyCore k.val) ∧
          d.get F.LOOP_STAT_ALIGNED (d.standbyCore k.val) = s.dev.get F.LOOP_STAT_ALIGNED (d.standbyCore k.val) ∧
          d.get F.LOOP_STAT_TRACKING (d.standbyCore k.val) = (if d.tracks (d.standbyCore k.val) then s.dev.get
          F.LOOP_STAT_TRACKING (d.standbyCore k.val) else 0))) ∧
    (∀ (s : State) (k : Fin 8),
      s.Running →
      s.dev.deferring k.val = true →
      1 ≤ (s.dev.twin k.val).deferred →
      (s.dev.twin k.val).sample = true →
      DoesWide (.deferSwitch k) s [.twins, .cores, .outputs, .flt] ([0x20, 0x21,
        0x10 + (if s.dev.twinEnabled k.val then s.dev.activeCore k.val else 2 * k.val + 1)])
        (fun d => bit (d.get F.COUT_TWIN_STAT_ACTIVE) k.val = !bit (s.dev.get F.COUT_TWIN_STAT_ACTIVE) k.val ∧
          bit (d.get F.COUT_TWIN_STAT_PREPARED) k.val = false ∧ bit (d.get F.COUT_TWIN_STAT_DEFERRING) k.val = false ∧
          bit (d.get F.COUT_HOP_EVT_SWITCHED) k.val = true ∧ (d.twin k.val).hop = none ∧ (d.twin k.val).swapAt = none ∧
          ((s.dev.twin k.val).swapAt.isSome = true → d.get F.COUT_TWIN_SWAP_SWAP_RESULT = 3 ∧ d.get F.COUT_TWIN_SWAP_GO = 0) ∧
          (∀ n, n ≠ k.val → d.twin n = s.dev.twin n) ∧ d.coreState (d.standbyCore k.val) =
          s.dev.coreState (d.standbyCore k.val) ∧ d.locked (d.standbyCore k.val) = s.dev.locked (d.standbyCore k.val) ∧
          d.get F.LOOP_STAT_ALIGNED (d.standbyCore k.val) = s.dev.get F.LOOP_STAT_ALIGNED (d.standbyCore k.val) ∧
          d.get F.LOOP_STAT_TRACKING (d.standbyCore k.val) = (if d.tracks (d.standbyCore k.val) then s.dev.get
          F.LOOP_STAT_TRACKING (d.standbyCore k.val) else 0) ∧ d.flt = (s.dev.stampHopMiss k.val s.dev.tow.pound).flt)) ∧
    (∀ (s : State) (k : Fin 8),
      s.Running →
      s.dev.deferring k.val = true →
      s.dev.deferLimit k.val ≤ (s.dev.twin k.val).deferred →
      DoesWide (.deferTimeout k) s [.twins, .cores, .flt] ([0x20, 0x10 + s.dev.standbyCore k.val])
        (fun d => bit (d.get F.COUT_TWIN_STAT_ACTIVE) k.val = bit (s.dev.get F.COUT_TWIN_STAT_ACTIVE) k.val ∧
          bit (d.get F.COUT_TWIN_STAT_PREPARED) k.val = false ∧ bit (d.get F.COUT_TWIN_STAT_DEFERRING) k.val = false ∧
          (d.twin k.val).hop = none ∧ (d.twin k.val).swapAt = none ∧
          ((s.dev.twin k.val).swapAt.isSome = true → d.get F.COUT_TWIN_SWAP_SWAP_RESULT = 2 ∧ d.get F.COUT_TWIN_SWAP_GO = 0) ∧
          (∀ n, n ≠ k.val → d.twin n = s.dev.twin n) ∧ d.coreState (d.standbyCore k.val) =
          s.dev.coreState (d.standbyCore k.val) ∧ d.locked (d.standbyCore k.val) = s.dev.locked (d.standbyCore k.val) ∧
          d.get F.LOOP_STAT_ALIGNED (d.standbyCore k.val) = s.dev.get F.LOOP_STAT_ALIGNED (d.standbyCore k.val) ∧
          d.get F.LOOP_STAT_TRACKING (d.standbyCore k.val) = (if d.tracks (d.standbyCore k.val) then s.dev.get
          F.LOOP_STAT_TRACKING (d.standbyCore k.val) else 0) ∧ d.flt = (s.dev.stampHopMiss k.val s.dev.tow.pound).flt))

/-- A swap of an enabled unbound twin at a pound two or more ahead is pending with SWAP_RESULT 1 in place of any other; one of
  a bound or disabled twin, or at a nearer pound, is refused with 2; the lock detector judges again HOP_BLANK pounds after a
  preset load; a core not aligned within RETUNE_LIMIT is reported once. Choices of the model on which this rests: log entries
  8, 60, 63, 106 and 122. -/
def Obligations.SwapAndRetune : Prop :=
  (∀ (s : State) (v : Word) (k j : Fin 8) (p : Pound),
      s.Running →
      bits v.toNat 2 0 = k.val →
      s.dev.twinBound k.val = false →
      s.dev.twinEnabled k.val = true →
      p = BitVec.ofNat 64 (s.dev.get F.COUT_TWIN_SWAP_POUND_HI_POUND * 2 ^ 32 + s.dev.get F.COUT_TWIN_SWAP_POUND_LO_POUND) →
      s.dev.tow.pound.toNat + 2 ≤ p.toNat →
      Does (.twinSwap v) s [.twins] ([F.COUT_TWIN_SWAP_TWIN.key 0, F.COUT_TWIN_SWAP_SWAP_RESULT.key 0,
        F.COUT_TWIN_SWAP_GO.key 0])
        (fun d => d.twin k.val = { s.dev.twin k.val with swapAt := some p } ∧
          (j ≠ k → d.twin j.val = { s.dev.twin j.val with swapAt := none }) ∧ d.get F.COUT_TWIN_SWAP_SWAP_RESULT = 1 ∧
          d.get F.COUT_TWIN_SWAP_GO = 1 ∧ d.get F.COUT_TWIN_SWAP_TWIN = k.val)) ∧
    (∀ (s : State) (v : Word) (k : Fin 8) (p : Pound),
      s.Running →
      bits v.toNat 2 0 = k.val →
      p = BitVec.ofNat 64 (s.dev.get F.COUT_TWIN_SWAP_POUND_HI_POUND * 2 ^ 32 + s.dev.get F.COUT_TWIN_SWAP_POUND_LO_POUND) →
      (s.dev.twinBound k.val = true ∨ s.dev.twinEnabled k.val = false ∨ p.toNat < s.dev.tow.pound.toNat + 2) →
      Does (.twinSwap v) s [] ([F.COUT_TWIN_SWAP_TWIN.key 0, F.COUT_TWIN_SWAP_SWAP_RESULT.key 0, F.COUT_TWIN_SWAP_GO.key 0])
        (fun d => d.get F.COUT_TWIN_SWAP_SWAP_RESULT = 2 ∧ d.get F.COUT_TWIN_SWAP_TWIN = k.val ∧
          (d.get F.COUT_TWIN_SWAP_GO = ofBool ((List.range 8).any (fun j => (s.dev.twin j).swapAt.isSome))))) ∧
    (∀ (s : State) (c : Fin 16),
      s.Running →
      (s.dev.core c.val).blank = true →
      max 1 (s.dev.get F.COUT_RETUNE_CFG_HOP_BLANK) ≤ (s.dev.core c.val).sinceLoad →
      Does (.hopBlankEnd c) s [.cores] ([])
        (fun d => d.core c.val = { s.dev.core c.val with blank := false } ∧ (∀ n, n ≠ c.val → d.core n = s.dev.core n))) ∧
    (∀ (s : State) (c : Fin 16),
      s.Running →
      (s.dev.core c.val).retuning = true →
      (s.dev.core c.val).slow = false →
      s.dev.aligned c.val = false →
      s.dev.get F.COUT_RETUNE_CFG_RETUNE_LIMIT ≤ (s.dev.core c.val).sinceLoad →
      Does (.retuneSlow c) s [.cores, .flt] (reportKeys ++ (evKeys F.COUT_RETUNE_EVT_RETUNE_SLOW))
        (fun d => d.core c.val = { s.dev.core c.val with slow := true } ∧ (∀ n, n ≠ c.val → d.core n = s.dev.core n) ∧
          bit (d.get F.COUT_RETUNE_EVT_RETUNE_SLOW) c.val = true ∧ s.dev.Reported d 3 0 5 c.val))

/-- A written source waits for the boundary, a reserved one and a twin source of a disabled twin are refused; at the boundary
  it is in force and duty correction starts anew; a delay walk starts at its boundary and ends at its tap; duty correction
  locks on a running output. Choices of the model on which this rests: log entries 8, 15, 51, 64, 106 and 159. -/
def Obligations.OutputStage : Prop :=
  (∀ (s : State) (n : Fin 32) (v : Word),
      s.Running →
      (¬((48 ≤ bits v.toNat 5 0 ∧ bits v.toNat 5 0 ≤ 62) ∨ (32 ≤ bits v.toNat 5 0 ∧ bits v.toNat 5 0 < 48 ∧
        s.dev.twinEnabled (bits v.toNat 5 0 % 8) = false))) →
      Does (.outputSourceSelect n v) s [.outputs, .bus] ([F.COUT_SEL_SRC.key n.val])
        (fun d => d.get F.COUT_SEL_SRC n.val = bits v.toNat 5 0 ∧
          d.output n.val = { s.dev.output n.val with nextSrc := some (bits v.toNat 5 0), srcDue := false } ∧
          (∀ m, m ≠ n.val → d.output m = s.dev.output m))) ∧
    (∀ (s : State) (n : Fin 32) (v : Word),
      s.Running →
      ((48 ≤ bits v.toNat 5 0 ∧ bits v.toNat 5 0 ≤ 62) ∨ (32 ≤ bits v.toNat 5 0 ∧ bits v.toNat 5 0 < 48 ∧
        s.dev.twinEnabled (bits v.toNat 5 0 % 8) = false)) →
      Does (.outputSourceSelect n v) s [.bus] ([F.COUT_SEL_REFUSED_REFUSED.key 0])
        (fun d => bit (d.get F.COUT_SEL_REFUSED_REFUSED) n.val = true)) ∧
    (∀ (s : State) (n : Fin 32) (src : Nat),
      s.Running →
      (s.dev.output n.val).nextSrc = some src →
      (s.dev.output n.val).srcDue = true →
      Does (.outputSourceChange n) s [.outputs] ([F.COUT_STAT_CUR_SRC.key n.val, F.COUT_STAT_DCC_LOCK.key n.val])
        (fun d => d.get F.COUT_STAT_CUR_SRC n.val = src % 64 ∧ d.output n.val =
          { s.dev.output n.val with nextSrc := none, srcDue := false, behind := s.dev.dividerOf (src % 64) } ∧
          (∀ m, m ≠ n.val → d.output m = s.dev.output m) ∧ d.get F.COUT_STAT_DCC_LOCK n.val = 0)) ∧
    (∀ (s : State) (n : Fin 32),
      s.Running →
      (s.dev.output n.val).walkDue = true →
      Does (.delayWalk n) s [.outputs] ([F.COUT_STAT_WALKING.key n.val])
        (fun d => d.get F.COUT_STAT_WALKING n.val = 1 ∧ d.output n.val =
          { s.dev.output n.val with walkTo := some (s.dev.tapFor n.val), walkDue := false, walkAsked := false } ∧
          (∀ m, m ≠ n.val → d.output m = s.dev.output m))) ∧
    (∀ (s : State) (n : Fin 32) (tap : Nat),
      s.Running →
      (s.dev.output n.val).walkTo = some tap →
      s.dev.is F.COUT_STAT_WALKING n.val = true →
      Does (.delayWalkDone n) s [.outputs] ([F.COUT_STAT_TAP.key n.val, F.COUT_STAT_WALKING.key n.val])
        (fun d => d.get F.COUT_STAT_TAP n.val = tap % 2 ^ 10 ∧ d.get F.COUT_STAT_WALKING n.val = 0 ∧
          d.output n.val = { s.dev.output n.val with walkTo := none } ∧ (∀ m, m ≠ n.val → d.output m = s.dev.output m))) ∧
    (∀ (s : State) (n : Fin 32),
      s.Running →
      s.dev.is F.COUT_DRV_DCC_EN n.val = true →
      s.dev.outputParked n.val = false →
      Does (.dccLock n) s [] ([F.COUT_STAT_DCC_LOCK.key n.val])
        (fun d => d.get F.COUT_STAT_DCC_LOCK n.val = 1))

/-- Each output whose bit is written: arming it with a first pound two or more ahead takes its program,
  one too near is refused with ALIGN_RESULT 2; disarming an output with no strobe high ends its program,
  with one high the program ends with the strobe. Unless the twin behind the output has still to change at the boundary,
  a strobe due on a running output rises and is counted, one on a parked output is skipped; a strobe falls after its width; the
  program ends after its last strobe or when it was disarmed. Choices of the model on which this rests: log entries 6, 8, 65,
  106 and 160. -/
def Obligations.AlignStrobes : Prop :=
  (∀ (s : State) (v : Word) (n : Fin 32),
      s.Running →
      bit v.toNat n.val = true →
      s.dev.tow.pound.toNat + 2 ≤ (s.dev.strobeProgram n.val).pound.toNat →
      Does (.alignArm v) s [.outputs] ((List.range 32).map (fun m => F.COUT_STAT_ALIGN_RESULT.key m) ++
        [F.COUT_ALIGN_REFUSED_REFUSED.key 0, F.COUT_ALIGN_ARM_ARM.key 0])
        (fun d => d.output n.val = { s.dev.output n.val with program := some (s.dev.strobeProgram n.val), strobe := 0 } ∧
          d.get F.COUT_STAT_ALIGN_RESULT n.val = 1 ∧ bit (d.get F.COUT_ALIGN_ARM_ARM) n.val = true)) ∧
    (∀ (s : State) (v : Word) (n : Fin 32),
      s.Running →
      bit v.toNat n.val = true →
      (s.dev.strobeProgram n.val).pound.toNat < s.dev.tow.pound.toNat + 2 →
      Does (.alignArm v) s [.outputs] ((List.range 32).map (fun m => F.COUT_STAT_ALIGN_RESULT.key m) ++
        [F.COUT_ALIGN_REFUSED_REFUSED.key 0, F.COUT_ALIGN_ARM_ARM.key 0])
        (fun d => d.output n.val = s.dev.output n.val ∧ d.get F.COUT_STAT_ALIGN_RESULT n.val = 2 ∧
          bit (d.get F.COUT_ALIGN_REFUSED_REFUSED) n.val = true)) ∧
    (∀ (s : State) (v : Word) (n : Fin 32),
      s.Running →
      bit v.toNat n.val = false →
      Does (.alignArm v) s [.outputs] ((List.range 32).map (fun m => F.COUT_STAT_ALIGN_RESULT.key m) ++
        [F.COUT_ALIGN_REFUSED_REFUSED.key 0, F.COUT_ALIGN_ARM_ARM.key 0])
        (fun d => d.output n.val = s.dev.output n.val ∧ d.get F.COUT_STAT_ALIGN_RESULT n.val =
          s.dev.get F.COUT_STAT_ALIGN_RESULT n.val ∧ bit (d.get F.COUT_ALIGN_ARM_ARM) n.val =
          bit (s.dev.get F.COUT_ALIGN_ARM_ARM) n.val)) ∧
    (∀ (s : State) (v : Word) (n : Fin 32),
      s.Running →
      bit v.toNat n.val = true →
      (s.dev.output n.val).high = none →
      (s.dev.output n.val).program.isSome = true →
      Does (.alignDisarm v) s [.outputs] ((List.range 32).map (fun m => F.COUT_STAT_ALIGN_RESULT.key m) ++
        [F.COUT_ALIGN_DISARM_DISARM.key 0, F.COUT_ALIGN_ARM_ARM.key 0])
        (fun d => d.output n.val = { s.dev.output n.val with program := none, strobe := 0 } ∧
          d.get F.COUT_STAT_ALIGN_RESULT n.val = 3 ∧ bit (d.get F.COUT_ALIGN_ARM_ARM) n.val = false)) ∧
    (∀ (s : State) (v : Word) (n : Fin 32),
      s.Running →
      bit v.toNat n.val = true →
      (s.dev.output n.val).high.isSome = true →
      Does (.alignDisarm v) s [.outputs] ((List.range 32).map (fun m => F.COUT_STAT_ALIGN_RESULT.key m) ++
        [F.COUT_ALIGN_DISARM_DISARM.key 0, F.COUT_ALIGN_ARM_ARM.key 0])
        (fun d => d.output n.val = { s.dev.output n.val with program := none, strobe := 0 } ∧
          bit (d.get F.COUT_ALIGN_DISARM_DISARM) n.val = true)) ∧
    (∀ (s : State) (v : Word) (n : Fin 32),
      s.Running →
      (bit v.toNat n.val = false ∨ ((s.dev.output n.val).high = none ∧ (s.dev.output n.val).program = none)) →
      Does (.alignDisarm v) s [.outputs] ((List.range 32).map (fun m => F.COUT_STAT_ALIGN_RESULT.key m) ++
        [F.COUT_ALIGN_DISARM_DISARM.key 0, F.COUT_ALIGN_ARM_ARM.key 0])
        (fun d => d.output n.val = s.dev.output n.val ∧ d.get F.COUT_STAT_ALIGN_RESULT n.val =
          s.dev.get F.COUT_STAT_ALIGN_RESULT n.val ∧ bit (d.get F.COUT_ALIGN_ARM_ARM) n.val =
          bit (s.dev.get F.COUT_ALIGN_ARM_ARM) n.val)) ∧
    (∀ (s : State) (n : Fin 32) (p : Strobes),
      s.Running →
      s.dev.sourceDue n.val = false →
      (s.dev.output n.val).program = some p →
      p.ended (s.dev.output n.val).strobe = false →
      p.pound.toNat + (s.dev.output n.val).strobe * p.period ≤ s.dev.tow.pound.toNat →
      (s.dev.output n.val).high = none →
      s.dev.outputParked n.val = false →
      Does (.alignStrobe n) s [.outputs] ([F.COUT_ALIGN_CNT_FIRED.key n.val, F.COUT_STAT_ALIGN_HIGH.key n.val])
        (fun d => d.output n.val =
          { s.dev.output n.val with high := some (p.width + 1), strobe := (s.dev.output n.val).strobe + 1, edge := p.edge, edgeBy := s.dev.retimedBy n.val p.edge }
          ∧ (∀ m, m ≠ n.val → d.output m = s.dev.output m) ∧ d.get F.COUT_STAT_ALIGN_HIGH n.val = 1 ∧
          d.get F.COUT_ALIGN_CNT_FIRED n.val = (s.dev.get F.COUT_ALIGN_CNT_FIRED n.val + 1) % 2 ^ 32)) ∧
    (∀ (s : State) (n : Fin 32) (p : Strobes),
      s.Running →
      s.dev.sourceDue n.val = false →
      (s.dev.output n.val).program = some p →
      p.ended (s.dev.output n.val).strobe = false →
      p.pound.toNat + (s.dev.output n.val).strobe * p.period ≤ s.dev.tow.pound.toNat →
      (s.dev.output n.val).high = none →
      s.dev.outputParked n.val = true →
      p.ended ((s.dev.output n.val).strobe + 1) = false →
      Does (.alignStrobe n) s [.outputs] ([F.COUT_ALIGN_SKIPPED_SKIPPED.key 0])
        (fun d => d.output n.val = { s.dev.output n.val with strobe := (s.dev.output n.val).strobe + 1 } ∧
          (∀ m, m ≠ n.val → d.output m = s.dev.output m) ∧ bit (d.get F.COUT_ALIGN_SKIPPED_SKIPPED) n.val = true)) ∧
    (∀ (s : State) (n : Fin 32) (p : Strobes),
      s.Running →
      s.dev.sourceDue n.val = false →
      (s.dev.output n.val).program = some p →
      p.ended (s.dev.output n.val).strobe = false →
      p.pound.toNat + (s.dev.output n.val).strobe * p.period ≤ s.dev.tow.pound.toNat →
      (s.dev.output n.val).high = none →
      s.dev.outputParked n.val = true →
      p.ended ((s.dev.output n.val).strobe + 1) = true →
      Does (.alignStrobe n) s [.outputs] ([F.COUT_ALIGN_SKIPPED_SKIPPED.key 0, F.COUT_STAT_ALIGN_RESULT.key n.val,
        F.COUT_ALIGN_ARM_ARM.key 0, F.COUT_ALIGN_DISARM_DISARM.key 0])
        (fun d => (d.output n.val).program = none ∧ (d.output n.val).strobe = 0 ∧ d.get F.COUT_STAT_ALIGN_RESULT n.val = 3 ∧
          bit (d.get F.COUT_ALIGN_ARM_ARM) n.val = false ∧ bit (d.get F.COUT_ALIGN_DISARM_DISARM) n.val = false ∧
          (∀ m, m ≠ n.val → d.output m = s.dev.output m) ∧ bit (d.get F.COUT_ALIGN_SKIPPED_SKIPPED) n.val = true ∧
          (d.output n.val).high = none)) ∧
    (∀ (s : State) (n : Fin 32) (p : Strobes),
      s.Running →
      (s.dev.output n.val).high = some 0 →
      s.dev.sourceDue n.val = false →
      (s.dev.output n.val).program = some p →
      p.ended (s.dev.output n.val).strobe = false →
      Does (.alignStrobeEnd n) s [.outputs] ([F.COUT_STAT_ALIGN_HIGH.key n.val])
        (fun d => d.get F.COUT_STAT_ALIGN_HIGH n.val = 0 ∧ (d.output n.val).high = none ∧
          (d.output n.val).edgeBy = s.dev.retimedBy n.val (s.dev.output n.val).edge ∧
          (∀ m, m ≠ n.val → d.output m = s.dev.output m) ∧ (d.output n.val).program = some p)) ∧
    (∀ (s : State) (n : Fin 32),
      s.Running →
      (s.dev.output n.val).high = some 0 →
      s.dev.sourceDue n.val = false →
      (s.dev.output n.val).program.all (fun p => p.ended (s.dev.output n.val).strobe) = true →
      Does (.alignStrobeEnd n) s [.outputs] ([F.COUT_STAT_ALIGN_HIGH.key n.val, F.COUT_STAT_ALIGN_RESULT.key n.val,
        F.COUT_ALIGN_ARM_ARM.key 0, F.COUT_ALIGN_DISARM_DISARM.key 0])
        (fun d => d.get F.COUT_STAT_ALIGN_HIGH n.val = 0 ∧ (d.output n.val).high = none ∧
          (d.output n.val).edgeBy = s.dev.retimedBy n.val (s.dev.output n.val).edge ∧
          (∀ m, m ≠ n.val → d.output m = s.dev.output m) ∧ (d.output n.val).program = none ∧ (d.output n.val).strobe = 0 ∧
          d.get F.COUT_STAT_ALIGN_RESULT n.val = 3 ∧ bit (d.get F.COUT_ALIGN_ARM_ARM) n.val = false ∧
          bit (d.get F.COUT_ALIGN_DISARM_DISARM) n.val = false))

/-- The event at the head of the event queue is judged row by row of R207: a disabled unit discards it as 13,
  reserved bits as 3, an uncorrectable word that is read as 10, an invalid source entry as 4; then its SEQ is compared and
  kept, with a gap counted; one too old is discarded as 7, one of an inactive window as 5,
  one outside the occurrence as early or late, a duplicate as 8; then the source is inside the occurrence,
  and one that matches no condition is discarded as 2, one whose condition drops it as 15,
  one whose list passes the action store as 9; any other waits for the acceptance of its list, tagged,
  in presentation order. A discard is counted, captured when the capture is free,
  and reported where R207 says so; a read of DEC_LAST_EVT3 frees the capture. WINDOW_ADVANCE forms the current occurrence of an
  active window. Choices of the model on which this rests: log entries 6, 7, 11, 75, 77, 78, 101 and 135. -/
def Obligations.DecisionLookup : Prop :=
  (∀ (s : State) (up : Option Nat) (e : DecEvent) (t : List DecEvent),
      s.Running →
      s.dev.dec.evq = e :: t →
      s.dev.decDisabled = true →
      Does (.decisionLookup up) s [.dec] (discardKeys 13)
        (fun d => d.dec = { s.dev.dec with evq := t, frozen := true } ∧ s.dev.Discarded d e 13)) ∧
    (∀ (s : State) (up : Option Nat) (e : DecEvent) (t : List DecEvent),
      s.Running →
      s.dev.dec.evq = e :: t →
      s.dev.decDisabled = false →
      (e.bits 106 104 ≠ 0 ∨ e.bits 7 0 ≠ 0) →
      Does (.decisionLookup up) s [.dec, .flt] (discardKeys 3)
        (fun d => d.dec = { s.dev.dec with evq := t, frozen := true } ∧ s.dev.Discarded d e 3)) ∧
    (∀ (s : State) (up : Option Nat) (e : DecEvent) (t : List DecEvent),
      s.Running →
      s.dev.dec.evq = e :: t →
      s.dev.decDisabled = false →
      e.bits 106 104 = 0 →
      e.bits 7 0 = 0 →
      (up = some 0 ∨ s.dev.condUpset (s.dev.srcMapWord (s.dev.sourceOf e)) e up = true) →
      Does (.decisionLookup up) s [.dec, .flt] (discardKeys 10)
        (fun d => d.dec = { s.dev.dec with evq := t, frozen := true } ∧ s.dev.Discarded d e 10)) ∧
    (∀ (s : State) (up : Option Nat) (e : DecEvent) (t : List DecEvent),
      s.Running →
      s.dev.dec.evq = e :: t →
      s.dev.decDisabled = false →
      e.bits 106 104 = 0 →
      e.bits 7 0 = 0 →
      (¬(up = some 0 ∨ s.dev.condUpset (s.dev.srcMapWord (s.dev.sourceOf e)) e up = true)) →
      srcValid (s.dev.srcMapWord (s.dev.sourceOf e)) = false →
      Does (.decisionLookup up) s [.dec, .flt] (discardKeys 4)
        (fun d => d.dec = { s.dev.dec with evq := t, frozen := true } ∧ s.dev.Discarded d e 4)) ∧
    (∀ (s : State) (up : Option Nat) (e : DecEvent) (t : List DecEvent),
      s.Running →
      s.dev.dec.evq = e :: t →
      s.dev.decDisabled = false →
      e.bits 106 104 = 0 →
      e.bits 7 0 = 0 →
      (¬(up = some 0 ∨ s.dev.condUpset (s.dev.srcMapWord (s.dev.sourceOf e)) e up = true)) →
      srcValid (s.dev.srcMapWord (s.dev.sourceOf e)) = true →
      (s.dev.get F.DEC_CFG_MAX_AGE ≠ 0 ∧ (s.dev.get F.DEC_CFG_MAX_AGE : Int) < (e.pound.toNat : Int) - e.stampPound) →
      Does (.decisionLookup up) s [.dec, .flt] ([F.DEC_CNT_COUNT.key 14] ++ (evKeys F.DEC_EVT_SEQ_GAP) ++ (discardKeys 7))
        (fun d => d.dec.evq = t ∧ d.dec.waiting = s.dev.dec.waiting ∧ d.dec.actq = s.dev.dec.actq ∧
          d.dec.deferred = s.dev.dec.deferred ∧ (∀ k, k ≠ s.dev.sourceOf e → d.srcState k = s.dev.srcState k) ∧
          d.srcState (s.dev.sourceOf e) = { s.dev.srcState (s.dev.sourceOf e) with seq := e.seqNo, seen := true } ∧
          d.get F.DEC_CNT_COUNT 14 = (if (s.dev.srcState (s.dev.sourceOf e)).seen && e.seqNo != ((s.dev.srcState
          (s.dev.sourceOf e)).seq + 1) % 16 then (s.dev.get F.DEC_CNT_COUNT 14 + 1) % 2 ^ 32 else s.dev.get F.DEC_CNT_COUNT 14)
          ∧ ((s.dev.srcState (s.dev.sourceOf e)).seen = true ∧ e.seqNo ≠ ((s.dev.srcState (s.dev.sourceOf e)).seq + 1) % 16 →
          d.get F.DEC_EVT_SEQ_GAP = 1) ∧ s.dev.Discarded d e 7)) ∧
    (∀ (s : State) (up : Option Nat) (e : DecEvent) (t : List DecEvent),
      s.Running →
      s.dev.dec.evq = e :: t →
      s.dev.decDisabled = false →
      e.bits 106 104 = 0 →
      e.bits 7 0 = 0 →
      (¬(up = some 0 ∨ s.dev.condUpset (s.dev.srcMapWord (s.dev.sourceOf e)) e up = true)) →
      srcValid (s.dev.srcMapWord (s.dev.sourceOf e)) = true →
      ¬(s.dev.get F.DEC_CFG_MAX_AGE ≠ 0 ∧ (s.dev.get F.DEC_CFG_MAX_AGE : Int) < (e.pound.toNat : Int) - e.stampPound) →
      s.dev.winActive e.window = false →
      Does (.decisionLookup up) s [.dec, .flt] ([F.DEC_CNT_COUNT.key 14] ++ (evKeys F.DEC_EVT_SEQ_GAP) ++ (discardKeys 5))
        (fun d => d.dec.evq = t ∧ d.dec.waiting = s.dev.dec.waiting ∧ d.dec.actq = s.dev.dec.actq ∧
          d.dec.deferred = s.dev.dec.deferred ∧ (∀ k, k ≠ s.dev.sourceOf e → d.srcState k = s.dev.srcState k) ∧
          d.srcState (s.dev.sourceOf e) = { s.dev.srcState (s.dev.sourceOf e) with seq := e.seqNo, seen := true } ∧
          d.get F.DEC_CNT_COUNT 14 = (if (s.dev.srcState (s.dev.sourceOf e)).seen && e.seqNo != ((s.dev.srcState
          (s.dev.sourceOf e)).seq + 1) % 16 then (s.dev.get F.DEC_CNT_COUNT 14 + 1) % 2 ^ 32 else s.dev.get F.DEC_CNT_COUNT 14)
          ∧ ((s.dev.srcState (s.dev.sourceOf e)).seen = true ∧ e.seqNo ≠ ((s.dev.srcState (s.dev.sourceOf e)).seq + 1) % 16 →
          d.get F.DEC_EVT_SEQ_GAP = 1) ∧ s.dev.Discarded d e 5)) ∧
    (∀ (s : State) (up : Option Nat) (e : DecEvent) (t : List DecEvent) (r : Nat),
      s.Running →
      s.dev.dec.evq = e :: t →
      s.dev.decDisabled = false →
      e.bits 106 104 = 0 →
      e.bits 7 0 = 0 →
      (¬(up = some 0 ∨ s.dev.condUpset (s.dev.srcMapWord (s.dev.sourceOf e)) e up = true)) →
      srcValid (s.dev.srcMapWord (s.dev.sourceOf e)) = true →
      ¬(s.dev.get F.DEC_CFG_MAX_AGE ≠ 0 ∧ (s.dev.get F.DEC_CFG_MAX_AGE : Int) < (e.pound.toNat : Int) - e.stampPound) →
      s.dev.winActive e.window = true →
      s.dev.windowReason e.window e.stamp = .inr r →
      Does (.decisionLookup up) s [.dec, .flt] ([F.DEC_CNT_COUNT.key 14] ++ (evKeys F.DEC_EVT_SEQ_GAP) ++ (discardKeys r))
        (fun d => d.dec.evq = t ∧ d.dec.waiting = s.dev.dec.waiting ∧ d.dec.actq = s.dev.dec.actq ∧
          d.dec.deferred = s.dev.dec.deferred ∧ (∀ k, k ≠ s.dev.sourceOf e → d.srcState k = s.dev.srcState k) ∧
          d.srcState (s.dev.sourceOf e) = { s.dev.srcState (s.dev.sourceOf e) with seq := e.seqNo, seen := true } ∧
          d.get F.DEC_CNT_COUNT 14 = (if (s.dev.srcState (s.dev.sourceOf e)).seen && e.seqNo != ((s.dev.srcState
          (s.dev.sourceOf e)).seq + 1) % 16 then (s.dev.get F.DEC_CNT_COUNT 14 + 1) % 2 ^ 32 else s.dev.get F.DEC_CNT_COUNT 14)
          ∧ ((s.dev.srcState (s.dev.sourceOf e)).seen = true ∧ e.seqNo ≠ ((s.dev.srcState (s.dev.sourceOf e)).seq + 1) % 16 →
          d.get F.DEC_EVT_SEQ_GAP = 1) ∧ s.dev.Discarded d e r)) ∧
    (∀ (s : State) (up : Option Nat) (e : DecEvent) (t : List DecEvent) (occ : Nat),
      s.Running →
      s.dev.dec.evq = e :: t →
      s.dev.decDisabled = false →
      e.bits 106 104 = 0 →
      e.bits 7 0 = 0 →
      (¬(up = some 0 ∨ s.dev.condUpset (s.dev.srcMapWord (s.dev.sourceOf e)) e up = true)) →
      srcValid (s.dev.srcMapWord (s.dev.sourceOf e)) = true →
      ¬(s.dev.get F.DEC_CFG_MAX_AGE ≠ 0 ∧ (s.dev.get F.DEC_CFG_MAX_AGE : Int) < (e.pound.toNat : Int) - e.stampPound) →
      s.dev.winActive e.window = true →
      s.dev.windowReason e.window e.stamp = .inl occ →
      ((s.dev.srcState (s.dev.sourceOf e)).inside = true ∧ (s.dev.srcState (s.dev.sourceOf e)).window = e.window ∧
        (s.dev.srcState (s.dev.sourceOf e)).occ = occ) →
      Does (.decisionLookup up) s [.dec, .flt] ([F.DEC_CNT_COUNT.key 14] ++ (evKeys F.DEC_EVT_SEQ_GAP) ++ (discardKeys 8))
        (fun d => d.dec.evq = t ∧ d.dec.waiting = s.dev.dec.waiting ∧ d.dec.actq = s.dev.dec.actq ∧
          d.dec.deferred = s.dev.dec.deferred ∧ (∀ k, k ≠ s.dev.sourceOf e → d.srcState k = s.dev.srcState k) ∧
          d.srcState (s.dev.sourceOf e) = { s.dev.srcState (s.dev.sourceOf e) with seq := e.seqNo, seen := true } ∧
          d.get F.DEC_CNT_COUNT 14 = (if (s.dev.srcState (s.dev.sourceOf e)).seen && e.seqNo != ((s.dev.srcState
          (s.dev.sourceOf e)).seq + 1) % 16 then (s.dev.get F.DEC_CNT_COUNT 14 + 1) % 2 ^ 32 else s.dev.get F.DEC_CNT_COUNT 14)
          ∧ ((s.dev.srcState (s.dev.sourceOf e)).seen = true ∧ e.seqNo ≠ ((s.dev.srcState (s.dev.sourceOf e)).seq + 1) % 16 →
          d.get F.DEC_EVT_SEQ_GAP = 1) ∧ s.dev.Discarded d e 8)) ∧
    (∀ (s : State) (up : Option Nat) (e : DecEvent) (t : List DecEvent) (occ : Nat),
      s.Running →
      s.dev.dec.evq = e :: t →
      s.dev.decDisabled = false →
      e.bits 106 104 = 0 →
      e.bits 7 0 = 0 →
      (¬(up = some 0 ∨ s.dev.condUpset (s.dev.srcMapWord (s.dev.sourceOf e)) e up = true)) →
      srcValid (s.dev.srcMapWord (s.dev.sourceOf e)) = true →
      ¬(s.dev.get F.DEC_CFG_MAX_AGE ≠ 0 ∧ (s.dev.get F.DEC_CFG_MAX_AGE : Int) < (e.pound.toNat : Int) - e.stampPound) →
      s.dev.winActive e.window = true →
      s.dev.windowReason e.window e.stamp = .inl occ →
      ¬((s.dev.srcState (s.dev.sourceOf e)).inside = true ∧ (s.dev.srcState (s.dev.sourceOf e)).window = e.window ∧
        (s.dev.srcState (s.dev.sourceOf e)).occ = occ) →
      s.dev.firstMatch (bits (s.dev.srcMapWord (s.dev.sourceOf e)) 12 0) (bits (s.dev.srcMapWord (s.dev.sourceOf e)) 16 13 + 1)
        e = none →
      Does (.decisionLookup up) s [.dec, .flt] ([F.DEC_CNT_COUNT.key 14] ++ (evKeys F.DEC_EVT_SEQ_GAP) ++ (discardKeys 2))
        (fun d => d.dec.evq = t ∧ d.dec.waiting = s.dev.dec.waiting ∧ d.dec.actq = s.dev.dec.actq ∧
          d.dec.deferred = s.dev.dec.deferred ∧ (∀ k, k ≠ s.dev.sourceOf e → d.srcState k = s.dev.srcState k) ∧
          d.srcState (s.dev.sourceOf e) =
          { s.dev.srcState (s.dev.sourceOf e) with seq := e.seqNo, seen := true, window := e.window, occ := occ, inside := true }
          ∧ d.get F.DEC_CNT_COUNT 14 = (if (s.dev.srcState (s.dev.sourceOf e)).seen && e.seqNo != ((s.dev.srcState
          (s.dev.sourceOf e)).seq + 1) % 16 then (s.dev.get F.DEC_CNT_COUNT 14 + 1) % 2 ^ 32 else s.dev.get F.DEC_CNT_COUNT 14)
          ∧ ((s.dev.srcState (s.dev.sourceOf e)).seen = true ∧ e.seqNo ≠ ((s.dev.srcState (s.dev.sourceOf e)).seq + 1) % 16 →
          d.get F.DEC_EVT_SEQ_GAP = 1) ∧ s.dev.Discarded d e 2)) ∧
    (∀ (s : State) (up : Option Nat) (e : DecEvent) (t : List DecEvent) (occ : Nat) (i w : Nat),
      s.Running →
      s.dev.dec.evq = e :: t →
      s.dev.decDisabled = false →
      e.bits 106 104 = 0 →
      e.bits 7 0 = 0 →
      (¬(up = some 0 ∨ s.dev.condUpset (s.dev.srcMapWord (s.dev.sourceOf e)) e up = true)) →
      srcValid (s.dev.srcMapWord (s.dev.sourceOf e)) = true →
      ¬(s.dev.get F.DEC_CFG_MAX_AGE ≠ 0 ∧ (s.dev.get F.DEC_CFG_MAX_AGE : Int) < (e.pound.toNat : Int) - e.stampPound) →
      s.dev.winActive e.window = true →
      s.dev.windowReason e.window e.stamp = .inl occ →
      ¬((s.dev.srcState (s.dev.sourceOf e)).inside = true ∧ (s.dev.srcState (s.dev.sourceOf e)).window = e.window ∧
        (s.dev.srcState (s.dev.sourceOf e)).occ = occ) →
      s.dev.firstMatch (bits (s.dev.srcMapWord (s.dev.sourceOf e)) 12 0) (bits (s.dev.srcMapWord (s.dev.sourceOf e)) 16 13 + 1)
        e = some i →
      w = s.dev.condWord (bits (s.dev.srcMapWord (s.dev.sourceOf e)) 12 0 + i) →
      bit w 9 = true →
      Does (.decisionLookup up) s [.dec, .flt] ([F.DEC_CNT_COUNT.key 14] ++ (evKeys F.DEC_EVT_SEQ_GAP) ++ (discardKeys 15))
        (fun d => d.dec.evq = t ∧ d.dec.waiting = s.dev.dec.waiting ∧ d.dec.actq = s.dev.dec.actq ∧
          d.dec.deferred = s.dev.dec.deferred ∧ (∀ k, k ≠ s.dev.sourceOf e → d.srcState k = s.dev.srcState k) ∧
          d.srcState (s.dev.sourceOf e) =
          { s.dev.srcState (s.dev.sourceOf e) with seq := e.seqNo, seen := true, window := e.window, occ := occ, inside := true }
          ∧ d.get F.DEC_CNT_COUNT 14 = (if (s.dev.srcState (s.dev.sourceOf e)).seen && e.seqNo != ((s.dev.srcState
          (s.dev.sourceOf e)).seq + 1) % 16 then (s.dev.get F.DEC_CNT_COUNT 14 + 1) % 2 ^ 32 else s.dev.get F.DEC_CNT_COUNT 14)
          ∧ ((s.dev.srcState (s.dev.sourceOf e)).seen = true ∧ e.seqNo ≠ ((s.dev.srcState (s.dev.sourceOf e)).seq + 1) % 16 →
          d.get F.DEC_EVT_SEQ_GAP = 1) ∧ s.dev.Discarded d (e.tagged w) 15)) ∧
    (∀ (s : State) (up : Option Nat) (e : DecEvent) (t : List DecEvent) (occ : Nat) (i w : Nat),
      s.Running →
      s.dev.dec.evq = e :: t →
      s.dev.decDisabled = false →
      e.bits 106 104 = 0 →
      e.bits 7 0 = 0 →
      (¬(up = some 0 ∨ s.dev.condUpset (s.dev.srcMapWord (s.dev.sourceOf e)) e up = true)) →
      srcValid (s.dev.srcMapWord (s.dev.sourceOf e)) = true →
      ¬(s.dev.get F.DEC_CFG_MAX_AGE ≠ 0 ∧ (s.dev.get F.DEC_CFG_MAX_AGE : Int) < (e.pound.toNat : Int) - e.stampPound) →
      s.dev.winActive e.window = true →
      s.dev.windowReason e.window e.stamp = .inl occ →
      ¬((s.dev.srcState (s.dev.sourceOf e)).inside = true ∧ (s.dev.srcState (s.dev.sourceOf e)).window = e.window ∧
        (s.dev.srcState (s.dev.sourceOf e)).occ = occ) →
      s.dev.firstMatch (bits (s.dev.srcMapWord (s.dev.sourceOf e)) 12 0) (bits (s.dev.srcMapWord (s.dev.sourceOf e)) 16 13 + 1)
        e = some i →
      w = s.dev.condWord (bits (s.dev.srcMapWord (s.dev.sourceOf e)) 12 0 + i) →
      bit w 9 = false →
      16384 ≤ bits w 29 16 + bits w 15 10 →
      Does (.decisionLookup up) s [.dec, .flt] ([F.DEC_CNT_COUNT.key 14] ++ (evKeys F.DEC_EVT_SEQ_GAP) ++ (discardKeys 9))
        (fun d => d.dec.evq = t ∧ d.dec.waiting = s.dev.dec.waiting ∧ d.dec.actq = s.dev.dec.actq ∧
          d.dec.deferred = s.dev.dec.deferred ∧ (∀ k, k ≠ s.dev.sourceOf e → d.srcState k = s.dev.srcState k) ∧
          d.srcState (s.dev.sourceOf e) =
          { s.dev.srcState (s.dev.sourceOf e) with seq := e.seqNo, seen := true, window := e.window, occ := occ, inside := true }
          ∧ d.get F.DEC_CNT_COUNT 14 = (if (s.dev.srcState (s.dev.sourceOf e)).seen && e.seqNo != ((s.dev.srcState
          (s.dev.sourceOf e)).seq + 1) % 16 then (s.dev.get F.DEC_CNT_COUNT 14 + 1) % 2 ^ 32 else s.dev.get F.DEC_CNT_COUNT 14)
          ∧ ((s.dev.srcState (s.dev.sourceOf e)).seen = true ∧ e.seqNo ≠ ((s.dev.srcState (s.dev.sourceOf e)).seq + 1) % 16 →
          d.get F.DEC_EVT_SEQ_GAP = 1) ∧ s.dev.Discarded d (e.tagged w) 9)) ∧
    (∀ (s : State) (up : Option Nat) (e : DecEvent) (t : List DecEvent) (occ : Nat) (i w : Nat),
      s.Running →
      s.dev.dec.evq = e :: t →
      s.dev.decDisabled = false →
      e.bits 106 104 = 0 →
      e.bits 7 0 = 0 →
      (¬(up = some 0 ∨ s.dev.condUpset (s.dev.srcMapWord (s.dev.sourceOf e)) e up = true)) →
      srcValid (s.dev.srcMapWord (s.dev.sourceOf e)) = true →
      ¬(s.dev.get F.DEC_CFG_MAX_AGE ≠ 0 ∧ (s.dev.get F.DEC_CFG_MAX_AGE : Int) < (e.pound.toNat : Int) - e.stampPound) →
      s.dev.winActive e.window = true →
      s.dev.windowReason e.window e.stamp = .inl occ →
      ¬((s.dev.srcState (s.dev.sourceOf e)).inside = true ∧ (s.dev.srcState (s.dev.sourceOf e)).window = e.window ∧
        (s.dev.srcState (s.dev.sourceOf e)).occ = occ) →
      s.dev.firstMatch (bits (s.dev.srcMapWord (s.dev.sourceOf e)) 12 0) (bits (s.dev.srcMapWord (s.dev.sourceOf e)) 16 13 + 1)
        e = some i →
      w = s.dev.condWord (bits (s.dev.srcMapWord (s.dev.sourceOf e)) 12 0 + i) →
      bit w 9 = false →
      bits w 29 16 + bits w 15 10 < 16384 →
      Does (.decisionLookup up) s [.dec] ([F.DEC_CNT_COUNT.key 14] ++ (evKeys F.DEC_EVT_SEQ_GAP))
        (fun d => d.dec.evq = t ∧ d.dec.actq = s.dev.dec.actq ∧ d.dec.deferred = s.dev.dec.deferred ∧
          (∀ k, k ≠ s.dev.sourceOf e → d.srcState k = s.dev.srcState k) ∧
          d.srcState (s.dev.sourceOf e) =
          { s.dev.srcState (s.dev.sourceOf e) with seq := e.seqNo, seen := true, window := e.window, occ := occ, inside := true }
          ∧ d.get F.DEC_CNT_COUNT 14 = (if (s.dev.srcState (s.dev.sourceOf e)).seen && e.seqNo != ((s.dev.srcState
          (s.dev.sourceOf e)).seq + 1) % 16 then (s.dev.get F.DEC_CNT_COUNT 14 + 1) % 2 ^ 32 else s.dev.get F.DEC_CNT_COUNT 14)
          ∧ ((s.dev.srcState (s.dev.sourceOf e)).seen = true ∧ e.seqNo ≠ ((s.dev.srcState (s.dev.sourceOf e)).seq + 1) % 16 →
          d.get F.DEC_EVT_SEQ_GAP = 1) ∧ (d.dec.waiting = insertBefore (fun (a b : Matched) => a.ev.before b.ev)
          ({ ev := e.tagged w, base := bits w 29 16, len := bits w 15 10 + 1 } : Matched) s.dev.dec.waiting))) ∧
    (∀ (s : State) (up : Option Nat),
      s.Running →
      s.dev.dec.evq = [] →
      Idles (.decisionLookup up) s) ∧
    (∀ (s : State),
      s.Running →
      s.dev.PortsIdle →
      s.dev.blockClosed 114 = false →
      s.dev.domStopped 144 = false →
      Does .decLastEvtRead s [.dec, .bus] ([])
        (fun d => d.dec = { s.dev.dec with frozen := false } ∧ d.bus.lastRead =
          BitVec.ofNat 32 (s.dev.get F.DEC_LAST_EVT3_REASON * 2 ^ 28 + s.dev.get F.DEC_LAST_EVT3_WHARF * 2 ^ 20 + s.dev.get
          F.DEC_LAST_EVT3_EVENT))) ∧
    (∀ (s : State),
      s.Running →
      s.dev.PortsIdle →
      s.dev.blockClosed 114 = false →
      s.dev.domStopped 144 = true →
      Does .decLastEvtRead s [.bus] ([F.PAGE_STAT_XING_ERR.key 0x33, F.IRQ_STAT_PAGE.key 0x33,
        F.HSP_STAT_NEXT_STATUS.key 0] ++ evKeys F.HSP_EVT_XING_ERR)
        (fun d => d.bus.lastRead = 0 ∧ d.get F.PAGE_STAT_XING_ERR 0x33 = 1 ∧ bit (d.get F.HSP_STAT_NEXT_STATUS) 1 = true)) ∧
    (∀ (s : State),
      s.Running →
      s.dev.PortsIdle →
      s.dev.blockClosed 114 = true →
      Does .decLastEvtRead s [.bus] ([])
        (fun d => d.bus.lastRead = 0)) ∧
    (∀ (s : State) (up : Option Nat) (e : DecEvent) (t : List DecEvent) (occ base n i : Nat),
      s.Running →
      s.dev.dec.evq = e :: t →
      occ = s.dev.winOcc e.window →
      Answers (.decisionLookup up) s (fun d => (s.dev.windowReason e.window e.stamp =
        (if (((((s.dev.forceWord e.window 1 * 2 ^ 32 + s.dev.forceWord e.window 0) + occ * (s.dev.forceWord e.window 5)) * 2 ^
        24 + bits (s.dev.forceWord e.window 2) 31 8 : Nat)) : Int) ≤ e.stamp ∧
        e.stamp < (((((s.dev.forceWord e.window 1 * 2 ^ 32 + s.dev.forceWord e.window 0) + occ * (s.dev.forceWord e.window 5))
        * 2 ^ 24 + bits (s.dev.forceWord e.window 2) 31 8 : Nat)) : Int) + (((if (s.dev.forceWord e.window 5) =
        0 then s.dev.forceWord e.window 3 * 2 ^ 24 + bits (s.dev.forceWord e.window 4) 31 8 else min (s.dev.forceWord e.window
        3 * 2 ^ 24 + bits (s.dev.forceWord e.window 4) 31 8) ((s.dev.forceWord e.window 5) * 2 ^ 24) : Nat)) : Int) then
        Sum.inl occ else if 0 < occ ∧ (((((s.dev.forceWord e.window 1 * 2 ^ 32 + s.dev.forceWord e.window 0) + (occ - 1) *
        (s.dev.forceWord e.window 5)) * 2 ^ 24 + bits (s.dev.forceWord e.window 2) 31 8 : Nat)) : Int) ≤ e.stamp ∧
        e.stamp < (((((s.dev.forceWord e.window 1 * 2 ^ 32 + s.dev.forceWord e.window 0) + (occ - 1) * (s.dev.forceWord
        e.window 5)) * 2 ^ 24 + bits (s.dev.forceWord e.window 2) 31 8 : Nat)) : Int) + (((if (s.dev.forceWord e.window 5) =
        0 then s.dev.forceWord e.window 3 * 2 ^ 24 + bits (s.dev.forceWord e.window 4) 31 8 else min (s.dev.forceWord e.window
        3 * 2 ^ 24 + bits (s.dev.forceWord e.window 4) 31 8) ((s.dev.forceWord e.window 5) * 2 ^ 24) : Nat)) : Int) then
        Sum.inl (occ - 1) else if occ = 0 ∨ (((((s.dev.forceWord e.window 1 * 2 ^ 32 + s.dev.forceWord e.window 0) + (occ - 1)
        * (s.dev.forceWord e.window 5)) * 2 ^ 24 + bits (s.dev.forceWord e.window 2) 31 8 : Nat)) : Int) + (((if
        (s.dev.forceWord e.window 5) = 0 then s.dev.forceWord e.window 3 * 2 ^ 24 + bits (s.dev.forceWord e.window 4) 31 8 else
        min (s.dev.forceWord e.window 3 * 2 ^ 24 + bits (s.dev.forceWord e.window 4) 31 8) ((s.dev.forceWord e.window 5) * 2 ^
        24) : Nat)) : Int) ≤ e.stamp then Sum.inr 6 else Sum.inr 7)) ∧ (s.dev.firstMatch base n e = some i → i < n ∧
        (bit (s.dev.condWord (base + i)) 63 = true ∧ e.result.land (bits (s.dev.condWord (base + i)) 61 46) =
        (bits (s.dev.condWord (base + i)) 45 30).land (bits (s.dev.condWord (base + i)) 61 46) ∧
        bit (s.dev.condWord (base + i)) 8 = e.error) ∧ (List.range i).all (fun (i : Nat) => !condMatches (s.dev.condWord (base
        + i)) e) = true) ∧ (s.dev.firstMatch base n e = none → i < n → ¬(bit (s.dev.condWord (base + i)) 63 = true ∧
        e.result.land (bits (s.dev.condWord (base + i)) 61 46) = (bits (s.dev.condWord (base + i)) 45 30).land (bits
        (s.dev.condWord (base + i)) 61 46) ∧ bit (s.dev.condWord (base + i)) 8 = e.error)))) ∧
    (∀ (s : State) (w : Byte),
      s.Running →
      s.dev.winActive w.toNat = true →
      Does (.windowAdvance w) s [.dec] ([])
        (fun d => (d.dec = { s.dev.dec with occ := Store.set s.dev.dec.occ w.toNat (if (s.dev.forceWord w.toNat 5) = 0 ∨ s.dev.tow.pound.toNat < (s.dev.forceWord w.toNat 1 * 2 ^ 32 + s.dev.forceWord w.toNat 0) + (s.dev.forceWord w.toNat 5) then 0 else if (bits (s.dev.forceWord w.toNat 6) 31 16) = 0 then (s.dev.tow.pound.toNat - (s.dev.forceWord w.toNat 1 * 2 ^ 32 + s.dev.forceWord w.toNat 0)) / (s.dev.forceWord w.toNat 5) else min ((s.dev.tow.pound.toNat - (s.dev.forceWord w.toNat 1 * 2 ^ 32 + s.dev.forceWord w.toNat 0)) / (s.dev.forceWord w.toNat 5)) ((bits (s.dev.forceWord w.toNat 6) 31 16) - 1)) })))
          ∧
    (∀ (s : State) (w : Byte),
      s.Running →
      s.dev.winActive w.toNat = false →
      Idles (.windowAdvance w) s)

/-- The first due list is accepted whole, counted, its commands entering the action queue or the deferred store as their
  windows stand, and one without room is discarded as LIST_OVERRUN; a list of one good command becomes that command with source
  2, one of one unreadable word is rejected at once. After the due lists the deferred command of smallest T whose window has
  opened moves into the queue when there is room. The head of the queue moves into the slice of its owner, waits,
  or drops when its word reads uncorrectable; an empty queue shows no WAITING. Choices of the model on which this rests: log
  entries 6, 10, 11, 14, 62, 71, 72 and 79. -/
def Obligations.ActionLists : Prop :=
  (∀ (s : State) (bad : BitVec 64) (m : Matched) (l : List ListItem),
      s.Running →
      s.dev.dec.waiting.find? (fun (x : Matched) => x.due) = some m →
      l = listItems 64 (s.dev.listWords m bad) →
      ¬(wordsOf s.dev.dec.actq + s.dev.listRoom l true ≤ 1024 ∧ wordsOf s.dev.dec.deferred + s.dev.listRoom l false ≤ 2048) →
      Does (.listAccept bad) s [.dec, .flt] ((discardKeys 11) ++ (evKeys F.DEC_EVT_LIST_OVERRUN))
        (fun d => (d.dec = { s.dev.dec with waiting := s.dev.dec.waiting.eraseP (fun (x : Matched) => x.due), frozen := true })
          ∧ d.eng = s.dev.eng ∧ d.get F.DEC_EVT_LIST_OVERRUN = 1 ∧ s.dev.Discarded d m.ev 11)) ∧
    (∀ (s : State) (bad : BitVec 64) (m : Matched) (l : List ListItem),
      s.Running →
      s.dev.dec.waiting.find? (fun (x : Matched) => x.due) = some m →
      l = listItems 64 (s.dev.listWords m bad) →
      wordsOf s.dev.dec.actq + s.dev.listRoom l true ≤ 1024 ∧ wordsOf s.dev.dec.deferred + s.dev.listRoom l false ≤ 2048 →
      Does (.listAccept bad) s [.dec, .eng, .flt, .freeCtr] ([F.DEC_CNT_COUNT.key 1] ++ [F.FLT_LOG_HEAD_HEAD.key 0,
        F.FLT_LOG_LOST_CNT_LOST.key 0] ++ evKeys F.FLT_EVT_LOG_LOST ++ evKeys F.FLT_EVT_LOG_HIGH)
        (fun d => (d.dec.waiting = s.dev.dec.waiting.eraseP (fun (x : Matched) => x.due)) ∧
          d.get F.DEC_CNT_COUNT 1 = (s.dev.get F.DEC_CNT_COUNT 1 + 1) % 2 ^ 32 ∧
          wordsOf d.dec.actq = wordsOf s.dev.dec.actq + s.dev.listRoom l true ∧
          wordsOf d.dec.deferred = wordsOf s.dev.dec.deferred + s.dev.listRoom l false ∧
          (d.eng.counts 2).accepted = (s.dev.eng.counts 2).accepted + BitVec.ofNat 32 l.length ∧ d.dec.evq = s.dev.dec.evq)) ∧
    (∀ (s : State) (bad : BitVec 64) (m : Matched) (l : List ListItem) (x : ListItem),
      s.Running →
      s.dev.dec.waiting.find? (fun (x : Matched) => x.due) = some m →
      l = listItems 64 (s.dev.listWords m bad) →
      wordsOf s.dev.dec.actq + s.dev.listRoom l true ≤ 1024 ∧ wordsOf s.dev.dec.deferred + s.dev.listRoom l false ≤ 2048 →
      l = [x] →
      x.unreadable = false →
      acceptCode 2 x.w1 x.second s.dev.tow.pound = none →
      Does (.listAccept bad) s [.dec, .eng] ([F.DEC_CNT_COUNT.key 1])
        (fun d => (d.dec.waiting = s.dev.dec.waiting.eraseP (fun (x : Matched) => x.due)) ∧
          d.get F.DEC_CNT_COUNT 1 = (s.dev.get F.DEC_CNT_COUNT 1 + 1) % 2 ^ 32 ∧
          (d.dec.actq = (if ({ w1 := x.w1, w2 := (x.second.getD 0).truncate 64, words := if x.second.isSome then 2 else 1, src := 2, seq := ((s.dev.eng.counts 2).accepted + 1).truncate 16, t := BitVec.ofInt 64 (resolveT 2 x.w1 s.dev.tow.pound), acc := s.dev.tow.pound }
          : Cmd).eligible s.dev.tow.pound then s.dev.dec.actq ++
          [({ w1 := x.w1, w2 := (x.second.getD 0).truncate 64, words := if x.second.isSome then 2 else 1, src := 2, seq := ((s.dev.eng.counts 2).accepted + 1).truncate 16, t := BitVec.ofInt 64 (resolveT 2 x.w1 s.dev.tow.pound), acc := s.dev.tow.pound }
          : Cmd)] else s.dev.dec.actq)) ∧ (d.dec.deferred = (if
          ({ w1 := x.w1, w2 := (x.second.getD 0).truncate 64, words := if x.second.isSome then 2 else 1, src := 2, seq := ((s.dev.eng.counts 2).accepted + 1).truncate 16, t := BitVec.ofInt 64 (resolveT 2 x.w1 s.dev.tow.pound), acc := s.dev.tow.pound }
          : Cmd).eligible s.dev.tow.pound then s.dev.dec.deferred else s.dev.dec.deferred ++
          [({ w1 := x.w1, w2 := (x.second.getD 0).truncate 64, words := if x.second.isSome then 2 else 1, src := 2, seq := ((s.dev.eng.counts 2).accepted + 1).truncate 16, t := BitVec.ofInt 64 (resolveT 2 x.w1 s.dev.tow.pound), acc := s.dev.tow.pound }
          : Cmd)])) ∧ d.eng.counts 2 = (s.dev.eng.counts 2).accept)) ∧
    (∀ (s : State) (bad : BitVec 64) (m : Matched) (l : List ListItem) (x : ListItem),
      s.Running →
      s.dev.dec.waiting.find? (fun (x : Matched) => x.due) = some m →
      l = listItems 64 (s.dev.listWords m bad) →
      wordsOf s.dev.dec.actq + s.dev.listRoom l true ≤ 1024 ∧ wordsOf s.dev.dec.deferred + s.dev.listRoom l false ≤ 2048 →
      l = [x] →
      x.unreadable = true →
      Does (.listAccept bad) s [.dec, .eng, .flt, .freeCtr] ([F.DEC_CNT_COUNT.key 1] ++ [F.FLT_LOG_HEAD_HEAD.key 0,
        F.FLT_LOG_LOST_CNT_LOST.key 0] ++ evKeys F.FLT_EVT_LOG_LOST ++ evKeys F.FLT_EVT_LOG_HIGH)
        (fun d => (d.dec.waiting = s.dev.dec.waiting.eraseP (fun (x : Matched) => x.due)) ∧
          d.get F.DEC_CNT_COUNT 1 = (s.dev.get F.DEC_CNT_COUNT 1 + 1) % 2 ^ 32 ∧ d.dec.actq = s.dev.dec.actq ∧
          d.dec.deferred = s.dev.dec.deferred ∧ d.eng.counts 2 = (s.dev.eng.counts 2).acceptReject false)) ∧
    (∀ (s : State) (bad : BitVec 64),
      s.Running →
      s.dev.dec.waiting.find? (fun (x : Matched) => x.due) = none →
      Idles (.listAccept bad) s) ∧
    (∀ (s : State) (up : Upset) (i : Nat) (c : Cmd),
      s.Running →
      s.dev.dec.waiting.any (fun (x : Matched) => x.due) = false →
      bestOf ((s.dev.dec.deferred.zipIdx).filterMap (fun (x : Cmd × Nat) => if x.1.eligible s.dev.tow.pound then some (x.2,
        x.1) else none)) = some (i, c) →
      up.queue = false →
      wordsOf s.dev.dec.actq + c.words ≤ 1024 →
      Does (.deferredMove up) s [.dec] ([])
        (fun d => d.dec = { s.dev.dec with deferred := dropAt s.dev.dec.deferred i, actq := s.dev.dec.actq ++ [c] })) ∧
    (∀ (s : State) (up : Upset) (i : Nat) (c : Cmd),
      s.Running →
      s.dev.dec.waiting.any (fun (x : Matched) => x.due) = false →
      bestOf ((s.dev.dec.deferred.zipIdx).filterMap (fun (x : Cmd × Nat) => if x.1.eligible s.dev.tow.pound then some (x.2,
        x.1) else none)) = some (i, c) →
      up.queue = false →
      1024 < wordsOf s.dev.dec.actq + c.words →
      Idles (.deferredMove up) s) ∧
    (∀ (s : State) (up : Upset) (i : Nat) (c : Cmd),
      s.Running →
      s.dev.dec.waiting.any (fun (x : Matched) => x.due) = false →
      bestOf ((s.dev.dec.deferred.zipIdx).filterMap (fun (x : Cmd × Nat) => if x.1.eligible s.dev.tow.pound then some (x.2,
        x.1) else none)) = some (i, c) →
      up.queue = true →
      Does (.deferredMove up) s [.dec, .eng, .flt] (reportKeys ++ ((evKeys F.ENG_EVT_SLICE_UNCORR) ++
        [F.ENG_FENCE_FLAGS_VALID.key 0, F.ENG_FENCE_STAT_PASSED.key 0, F.ENG_FENCE_STAT_PASSED.key 1,
        F.ENG_FENCE_STAT_PASSED.key 2, F.ENG_FENCE_STAT_PASSED.key 3]))
        (fun d => d.dec = { s.dev.dec with deferred := dropAt s.dev.dec.deferred i } ∧
          d.eng.counts (if up.noSource then 0 else c.src) = (s.dev.eng.counts (if up.noSource then 0 else c.src)).discard ∧
          d.get F.ENG_EVT_SLICE_UNCORR = 1 ∧ s.dev.Reported d 5 0 3 66)) ∧
    (∀ (s : State) (up : Upset) (c : Cmd) (t : List Cmd),
      s.Running →
      up.queue = false →
      s.dev.resetBusy = false →
      s.dev.hold 2 = none →
      s.dev.dec.actq = c :: t →
      cmdOp c.w1 ≠ 8 →
      c.eligible s.dev.tow.pound = true →
      c.isLate s.dev.tow.pound = false →
      s.dev.sliceFull (ownerOf (cmdBerth c.w1)) = false →
      Answers (.actqRelease up) s (fun d => d.dec.actq = s.dev.dec.actq.drop (s.dev.dec.actq.length - d.dec.actq.length) ∧
        1 ≤ (s.dev.dec.actq.length - d.dec.actq.length) ∧ (s.dev.dec.actq.length - d.dec.actq.length) ≤ 32 ∧
        d.eng.entered = s.dev.eng.entered + (s.dev.dec.actq.length - d.dec.actq.length) ∧ d.eng.flights = s.dev.eng.flights ∧
        d.dec = { s.dev.dec with actq := d.dec.actq } ∧ d.eng.counts 0 = s.dev.eng.counts 0 ∧
        d.eng.counts 1 = s.dev.eng.counts 1 ∧ d.eng.counts 2 = s.dev.eng.counts 2 ∧ d.eng.counts 3 = s.dev.eng.counts 3)) ∧
    (∀ (s : State) (up : Upset) (c : Cmd),
      s.Running →
      up.queue = false →
      s.dev.resetBusy = false →
      s.dev.hold 2 = none →
      s.dev.dec.actq = [c] →
      cmdOp c.w1 ≠ 8 →
      c.eligible s.dev.tow.pound = true →
      c.isLate s.dev.tow.pound = false →
      s.dev.sliceFull (ownerOf (cmdBerth c.w1)) = false →
      Does (.actqRelease up) s [.eng, .dec] ([F.ENG_SLICE_STAT_MAX_DEPTH.key (ownerOf (cmdBerth c.w1)),
        F.DEC_STAT_WAITING.key 0])
        (fun d => d.dec = { s.dev.dec with actq := [] } ∧ (d.engine (ownerOf (cmdBerth c.w1))).slice =
          (s.dev.engine (ownerOf (cmdBerth c.w1))).slice ++ [({ c with entry := s.dev.eng.entered } : Cmd)] ∧
          d.get F.DEC_STAT_WAITING = 0)) ∧
    (∀ (s : State) (up : Upset) (c : Cmd) (t : List Cmd),
      s.Running →
      up.queue = false →
      s.dev.resetBusy = false →
      s.dev.hold 2 = none →
      s.dev.dec.actq = c :: t →
      (cmdOp c.w1 = 8 ∨ c.eligible s.dev.tow.pound = false ∨ c.isLate s.dev.tow.pound = true) →
      Does (.actqRelease up) s [] ([F.DEC_STAT_WAITING.key 0])
        (fun d => d.get F.DEC_STAT_WAITING = 0)) ∧
    (∀ (s : State) (up : Upset) (c : Cmd) (t : List Cmd),
      s.Running →
      up.queue = false →
      s.dev.resetBusy = false →
      s.dev.hold 2 = none →
      s.dev.dec.actq = c :: t →
      cmdOp c.w1 ≠ 8 →
      c.eligible s.dev.tow.pound = true →
      c.isLate s.dev.tow.pound = false →
      s.dev.sliceFull (ownerOf (cmdBerth c.w1)) = true →
      Does (.actqRelease up) s [] ([F.DEC_STAT_WAITING.key 0] ++ (evKeys F.ENG_EVT_SLICE_FULL))
        (fun d => d.get F.DEC_STAT_WAITING = 1 ∧ d.get F.ENG_EVT_SLICE_FULL = 1)) ∧
    (∀ (s : State) (up : Upset),
      s.Running →
      s.dev.resetBusy = false →
      s.dev.hold 2 = none →
      s.dev.dec.actq = [] →
      Does (.actqRelease up) s [] ([F.DEC_STAT_WAITING.key 0])
        (fun d => d.get F.DEC_STAT_WAITING = 0)) ∧
    (∀ (s : State) (up : Upset) (c : Cmd) (t : List Cmd),
      s.Running →
      up.queue = true →
      s.dev.resetBusy = false →
      s.dev.hold 2 = none →
      s.dev.dec.actq = c :: t →
      Does (.actqRelease up) s [.dec, .eng, .flt] (reportKeys ++ ((evKeys F.ENG_EVT_SLICE_UNCORR) ++
        [F.ENG_FENCE_FLAGS_VALID.key 0, F.ENG_FENCE_STAT_PASSED.key 0, F.ENG_FENCE_STAT_PASSED.key 1,
        F.ENG_FENCE_STAT_PASSED.key 2, F.ENG_FENCE_STAT_PASSED.key 3]))
        (fun d => d.dec = { s.dev.dec with actq := t } ∧ d.eng.counts (if up.noSource then 0 else c.src) =
          (s.dev.eng.counts (if up.noSource then 0 else c.src)).discard ∧ d.get F.ENG_EVT_SLICE_UNCORR = 1 ∧
          s.dev.Reported d 5 0 3 66))

/-- With the unit open, CLEAR sets CLEAR_BUSY, and its end makes every table read zero; FLUSH rejects the queued and deferred
  action commands of source 2, those of the lists accepted at the boundary among them; UNIT discards every event as DISABLED
  and the commands without records; a held FENCE and those removed count as passed; each end sets its event. Choices of the
  model on which this rests: log entries 51, 71, 77 and 79. -/
def Obligations.DecisionReset : Prop :=
  (∀ (s : State) (v : Word),
      s.Running →
      s.dev.pageClosed 0x33 = false →
      bit v.toNat 30 = false →
      Does (.decClear v) s [] ([F.DEC_STAT_CLEAR_BUSY.key 0, F.DEC_CTRL_ACCEPT.key 0])
        (fun d => d.get F.DEC_STAT_CLEAR_BUSY = 1 ∧ d.get F.DEC_CTRL_ACCEPT = bits v.toNat 0 0)) ∧
    (∀ (s : State) (k i : Nat),
      s.Running →
      s.dev.is F.DEC_STAT_CLEAR_BUSY = true →
      Does .decClearDone s [.dec] ([F.DEC_STAT_CLEAR_BUSY.key 0] ++ (evKeys F.DEC_EVT_CLEAR_DONE))
        (fun d => d.get F.DEC_STAT_CLEAR_BUSY = 0 ∧ d.get F.DEC_EVT_CLEAR_DONE = 1 ∧ d.srcMapWord k = 0 ∧ d.condWord k = 0 ∧
          d.winWord k i = 0 ∧ d.rxBase k = 0 ∧ d.srcState k = ({ window := 0, occ := 0, seq := 0 } : SrcState) ∧
          d.dec = { s.dev.dec with cleared := true, srcMap := [], cond := [], win := [], base := [], src := [] })) ∧
    (∀ (s : State) (v : Word),
      s.Running →
      s.dev.pageClosed 0x33 = false →
      Answers (.decFlush v) s (fun d => d.dec.actq = [] ∧ d.dec.deferred = [] ∧
        (d.dec.waiting.all (fun (x : Matched) => !x.due) = true) ∧ d.get F.DEC_EVT_FLUSH_DONE = 1)) ∧
    (∀ (s : State) (v : Word),
      s.Running →
      s.dev.pageClosed 0x33 = false →
      s.dev.dec.waiting.all (fun (x : Matched) => !x.due) = true →
      (s.dev.dec.actq ++ s.dev.dec.deferred).all (fun (c : Cmd) => c.src == 2) = true →
      Does (.decFlush v) s [.dec, .eng, .flt, .freeCtr] ([F.DEC_STAT_CLEAR_BUSY.key 0,
        F.DEC_CTRL_ACCEPT.key 0] ++ (evKeys F.DEC_EVT_FLUSH_DONE) ++ [F.FLT_LOG_HEAD_HEAD.key 0,
        F.FLT_LOG_LOST_CNT_LOST.key 0] ++ evKeys F.FLT_EVT_LOG_LOST ++ evKeys F.FLT_EVT_LOG_HIGH ++
        [F.ENG_FENCE_STAT_WAIT_NUM.key 2] ++ [F.ENG_FENCE_FLAGS_VALID.key 0, F.ENG_FENCE_STAT_PASSED.key 0,
        F.ENG_FENCE_STAT_PASSED.key 1, F.ENG_FENCE_STAT_PASSED.key 2, F.ENG_FENCE_STAT_PASSED.key 3])
        (fun d => d.dec = { s.dev.dec with actq := [], deferred := [] } ∧ d.hold 2 = none ∧
          (∀ h, s.dev.hold 2 = some h → bit (d.get F.ENG_FENCE_FLAGS_VALID) 2 = true) ∧ d.get F.DEC_EVT_FLUSH_DONE = 1 ∧
          d.get F.DEC_CTRL_ACCEPT = bits v.toNat 0 0 ∧ d.get F.DEC_STAT_CLEAR_BUSY =
          (if bit v.toNat 31 then 1 else s.dev.get F.DEC_STAT_CLEAR_BUSY) ∧
          (d.eng.counts 2).rejected = (s.dev.eng.counts 2).rejected + BitVec.ofNat 32 (s.dev.dec.actq ++
          s.dev.dec.deferred).length ∧ (d.eng.counts 2).pending =
          (s.dev.eng.counts 2).pending - BitVec.ofNat 32 (s.dev.dec.actq ++ s.dev.dec.deferred).length)) ∧
    (∀ (s : State),
      s.Running →
      s.dev.pageClosed 0x33 = false →
      (s.dev.dec.actq ++ s.dev.dec.deferred).all (fun (c : Cmd) => c.src == 2) = true →
      Does .decUnitReset s [.dec, .eng, .freeCtr] ((evKeys F.DEC_EVT_RESET_DONE) ++ (discardKeys 13) ++
        [F.ENG_FENCE_STAT_WAIT_NUM.key 2] ++ [F.ENG_FENCE_FLAGS_VALID.key 0, F.ENG_FENCE_STAT_PASSED.key 0,
        F.ENG_FENCE_STAT_PASSED.key 1, F.ENG_FENCE_STAT_PASSED.key 2, F.ENG_FENCE_STAT_PASSED.key 3])
        (fun d => d.dec.actq = [] ∧ d.dec.deferred = [] ∧ d.dec.evq = [] ∧ d.dec.waiting = [] ∧ d.hold 2 = none ∧
          (∀ h, s.dev.hold 2 = some h → bit (d.get F.ENG_FENCE_FLAGS_VALID) 2 = true) ∧ d.get F.DEC_EVT_RESET_DONE = 1 ∧
          d.flt = s.dev.flt ∧ d.get F.DEC_CNT_COUNT 13 = (if s.dev.dec.waiting = [] ∧
          s.dev.dec.evq = [] then s.dev.get F.DEC_CNT_COUNT 13 else (s.dev.get F.DEC_CNT_COUNT 13 + s.dev.dec.waiting.length +
          s.dev.dec.evq.length) % 2 ^ 32) ∧ (d.eng.counts 2).discarded =
          (s.dev.eng.counts 2).discarded + BitVec.ofNat 32 (s.dev.dec.actq ++ s.dev.dec.deferred).length ∧
          (d.eng.counts 2).pending = (s.dev.eng.counts 2).pending - BitVec.ofNat 32 (s.dev.dec.actq ++
          s.dev.dec.deferred).length)) ∧
    (∀ (s : State) (v : Word),
      s.Running →
      s.dev.pageClosed 0x33 = true →
      Idles (.decClear v) s) ∧
    (∀ (s : State) (v : Word),
      s.Running →
      s.dev.pageClosed 0x33 = true →
      Idles (.decFlush v) s) ∧
    (∀ (s : State),
      s.Running →
      s.dev.pageClosed 0x33 = true →
      Idles .decUnitReset s)

/-- A push captures the entry the registers spell or is refused with PUSH_RESULT 2; the head entry starts while the port is
  owned and free, taking its words from the write FIFO and from NVS_D, on NVS_D[1] or on all lanes,
  most significant bits first; its end sets ENTRY_DONE and counts; a poll that matches completes its entry,
  one that does not goes on, and one without a match in time halts the queue; RESUME and FLUSH clear the halt,
  FLUSH also empties the queue and the FIFOs; ownership is granted when the Keeper is done and given back when HOST_OWN is
  clear and no entry runs, a waiting store then beginning; the FIFOs take and give words in order. Choices of the model on
  which this rests: log entries 7, 8, 51, 102 and 106. -/
def Obligations.StorePortQueue : Prop :=
  (∀ (s : State),
      s.Running →
      s.dev.pushRefused s.dev.nvsEntry = false →
      Does .nvsPush s [.nvs] ([F.NVS_Q_PUSH_PUSH_RESULT.key 0])
        (fun d => d.nvs = { s.dev.nvs with queue := s.dev.nvs.queue ++ [s.dev.nvsEntry] } ∧
          d.get F.NVS_Q_PUSH_PUSH_RESULT = 1)) ∧
    (∀ (s : State),
      s.Running →
      s.dev.pushRefused s.dev.nvsEntry = true →
      Does .nvsPush s [] ([F.NVS_Q_PUSH_PUSH_RESULT.key 0] ++ evKeys F.NVS_EVT_REFUSED)
        (fun d => d.get F.NVS_Q_PUSH_PUSH_RESULT = 2 ∧ d.get F.NVS_EVT_REFUSED = 1)) ∧
    (∀ (s : State) (rx : List (BitVec 4)) (e : NvsEntry) (tl : List NvsEntry),
      s.Running →
      s.dev.nvs.queue = e :: tl →
      s.dev.nvsReady = true →
      e.isPoll = false →
      e.dirIn = false →
      Does (.nvsEntry rx) s [.nvs] ([F.NVS_STAT_BUSY.key 0])
        (fun d => d.nvs.queue = tl ∧ d.nvs.running = some e ∧ d.nvs.txns = e.txns (s.dev.nvs.wdata.take e.words) ∧
          d.get F.NVS_STAT_BUSY = 1 ∧ d.nvs.wdata = s.dev.nvs.wdata.drop (s.dev.nvs.wdata.take e.words).length ∧
          d.nvs.rdata = s.dev.nvs.rdata ∧ d.nvs.incoming = [])) ∧
    (∀ (s : State) (rx : List (BitVec 4)) (e : NvsEntry) (tl : List NvsEntry),
      s.Running →
      s.dev.nvs.queue = e :: tl →
      s.dev.nvsReady = true →
      e.isPoll = false →
      e.dirIn = true →
      Does (.nvsEntry rx) s [.nvs] ([F.NVS_STAT_BUSY.key 0])
        (fun d => d.nvs.queue = tl ∧ d.nvs.running = some e ∧ d.nvs.txns = e.txns [] ∧ d.get F.NVS_STAT_BUSY = 1 ∧
          d.nvs.wdata = s.dev.nvs.wdata ∧ d.nvs.rdata = s.dev.nvs.rdata ++
          (nvsWords e.dataLanes e.words rx).take (256 - s.dev.nvs.rdata.length) ∧
          d.nvs.incoming = (nvsWords e.dataLanes e.words rx).drop (256 - s.dev.nvs.rdata.length))) ∧
    (∀ (s : State) (rx : List (BitVec 4)) (e : NvsEntry) (tl : List NvsEntry),
      s.Running →
      s.dev.nvs.queue = e :: tl →
      s.dev.nvsReady = true →
      e.isPoll = true →
      e.dirIn = true →
      Does (.nvsEntry rx) s [.nvs] ([F.NVS_STAT_BUSY.key 0])
        (fun d => d.nvs.queue = tl ∧ d.nvs.running = some e ∧ d.nvs.txns = [] ∧ d.get F.NVS_STAT_BUSY = 1 ∧
          d.nvs.wdata = s.dev.nvs.wdata ∧ d.nvs.incoming = [])) ∧
    (∀ (s : State) (rx : List (BitVec 4)),
      s.Running →
      (s.dev.nvs.queue = [] ∨ s.dev.nvsReady = false) →
      Idles (.nvsEntry rx) s) ∧
    (∀ (s : State) (rx : List (BitVec 4)) (e : NvsEntry) (tl : List NvsEntry),
      s.Running →
      s.dev.nvs.queue = e :: tl →
      s.dev.nvsReady = true →
      e.isPoll = false →
      e.dirIn = true →
      e.words = 1 →
      e.dataLanes = 1 →
      s.dev.nvs.rdata = [] →
      Answers (.nvsEntry rx) s (fun d => (d.nvs.rdata.map (fun (w : Word) => w.toNat) =
        [((List.range 32).map (fun k => ofBool ((rx.getD k 0).getLsbD 1) * 2 ^ (31 - k))).sum]))) ∧
    (∀ (s : State) (rx : List (BitVec 4)) (e : NvsEntry) (tl : List NvsEntry),
      s.Running →
      s.dev.nvs.queue = e :: tl →
      s.dev.nvsReady = true →
      e.isPoll = false →
      e.dirIn = true →
      e.words = 1 →
      e.dataLanes = 4 →
      s.dev.nvs.rdata = [] →
      Answers (.nvsEntry rx) s (fun d => (d.nvs.rdata.map (fun (w : Word) => w.toNat) =
        [((List.range 8).map (fun k => (rx.getD k 0).toNat * 16 ^ (7 - k))).sum]))) ∧
    (∀ (s : State) (e : NvsEntry),
      s.Running →
      s.dev.nvs.running = some e →
      e.isPoll = false →
      s.dev.nvs.incoming = [] →
      Does .nvsEntryDone s [.nvs, .cal] ([F.NVS_STAT_BUSY.key 0, F.NVS_ENTRY_CNT_DONE.key 0, F.NVS_STAT_OWNED.key 0,
        F.NVS_STAT_KEEPER_ACTIVE.key 0] ++ evKeys F.NVS_EVT_ENTRY_DONE)
        (fun d => d.nvs = { s.dev.nvs with running := none } ∧ d.nvs.running = none ∧ d.get F.NVS_STAT_BUSY = 0 ∧
          d.get F.NVS_EVT_ENTRY_DONE = 1 ∧ d.get F.NVS_ENTRY_CNT_DONE = (s.dev.get F.NVS_ENTRY_CNT_DONE + 1) % 2 ^ 32 ∧
          d.get F.NVS_STAT_OWNED = (if s.dev.nvsOwned && !s.dev.is F.NVS_CTRL_HOST_OWN then 0 else s.dev.get F.NVS_STAT_OWNED)
          ∧ d.get F.NVS_STAT_KEEPER_ACTIVE = (if s.dev.nvsOwned && !s.dev.is F.NVS_CTRL_HOST_OWN && s.dev.is
          F.CAL_STORE_STAT_STORE_BUSY then 1 else s.dev.get F.NVS_STAT_KEEPER_ACTIVE) ∧
          d.cal = (if s.dev.nvsOwned && !s.dev.is F.NVS_CTRL_HOST_OWN && s.dev.is F.CAL_STORE_STAT_STORE_BUSY then
          { s.dev.cal with storeTemp := s.dev.get F.SYS_TEMP_NOW } else s.dev.cal))) ∧
    (∀ (s : State),
      s.Running →
      s.dev.nvs.running.all (fun e => e.isPoll || !s.dev.nvs.incoming.isEmpty) = true →
      Idles .nvsEntryDone s) ∧
    (∀ (s : State) (rx : List (BitVec 4)) (b : Byte) (e : NvsEntry),
      s.Running →
      s.dev.nvs.running = some e →
      e.isPoll = true →
      b.toNat = nvsTake e.dataLanes 8 0 rx →
      b &&& (e.poll.extractLsb' 24 8) ≠ (e.poll.extractLsb' 16 8) &&& (e.poll.extractLsb' 24 8) →
      Does (.nvsPoll rx) s [.nvs] ([F.NVS_POLL_LAST_BYTE.key 0])
        (fun d => d.nvs = { s.dev.nvs with txns := s.dev.nvs.txns ++ [e.txn 0 [] 1] } ∧ d.get F.NVS_POLL_LAST_BYTE = b.toNat)) ∧
    (∀ (s : State) (rx : List (BitVec 4)) (b : Byte) (e : NvsEntry),
      s.Running →
      s.dev.nvs.running = some e →
      e.isPoll = true →
      b.toNat = nvsTake e.dataLanes 8 0 rx →
      b &&& (e.poll.extractLsb' 24 8) = (e.poll.extractLsb' 16 8) &&& (e.poll.extractLsb' 24 8) →
      Does (.nvsPoll rx) s [.nvs, .cal] ([F.NVS_POLL_LAST_BYTE.key 0] ++ [F.NVS_STAT_BUSY.key 0, F.NVS_ENTRY_CNT_DONE.key 0,
        F.NVS_STAT_OWNED.key 0, F.NVS_STAT_KEEPER_ACTIVE.key 0] ++ evKeys F.NVS_EVT_ENTRY_DONE)
        (fun d => d.nvs = { s.dev.nvs with txns := s.dev.nvs.txns ++ [e.txn 0 [] 1], running := none } ∧
          d.get F.NVS_POLL_LAST_BYTE = b.toNat ∧ d.nvs.running = none ∧ d.get F.NVS_STAT_BUSY = 0 ∧
          d.get F.NVS_EVT_ENTRY_DONE = 1 ∧ d.get F.NVS_ENTRY_CNT_DONE = (s.dev.get F.NVS_ENTRY_CNT_DONE + 1) % 2 ^ 32 ∧
          d.get F.NVS_STAT_OWNED = (if s.dev.nvsOwned && !s.dev.is F.NVS_CTRL_HOST_OWN then 0 else s.dev.get F.NVS_STAT_OWNED)
          ∧ d.get F.NVS_STAT_KEEPER_ACTIVE = (if s.dev.nvsOwned && !s.dev.is F.NVS_CTRL_HOST_OWN && s.dev.is
          F.CAL_STORE_STAT_STORE_BUSY then 1 else s.dev.get F.NVS_STAT_KEEPER_ACTIVE) ∧
          d.cal = (if s.dev.nvsOwned && !s.dev.is F.NVS_CTRL_HOST_OWN && s.dev.is F.CAL_STORE_STAT_STORE_BUSY then
          { s.dev.cal with storeTemp := s.dev.get F.SYS_TEMP_NOW } else s.dev.cal))) ∧
    (∀ (s : State) (e : NvsEntry),
      s.Running →
      s.dev.nvs.running = some e →
      e.isPoll = true →
      bits e.poll.toNat 15 0 ≠ 0 →
      Does .nvsPollTimeout s [.nvs, .cal] ([F.NVS_STAT_BUSY.key 0, F.NVS_STAT_HALTED.key 0, F.NVS_STAT_OWNED.key 0,
        F.NVS_STAT_KEEPER_ACTIVE.key 0] ++ evKeys F.NVS_EVT_POLL_TIMEOUT)
        (fun d => d.nvs = { s.dev.nvs with running := none } ∧ d.get F.NVS_STAT_HALTED = 1 ∧ d.get F.NVS_STAT_BUSY = 0 ∧
          d.get F.NVS_EVT_POLL_TIMEOUT = 1 ∧ d.get F.NVS_STAT_OWNED =
          (if s.dev.nvsOwned && !s.dev.is F.NVS_CTRL_HOST_OWN then 0 else s.dev.get F.NVS_STAT_OWNED) ∧
          d.get F.NVS_STAT_KEEPER_ACTIVE = (if s.dev.nvsOwned && !s.dev.is F.NVS_CTRL_HOST_OWN && s.dev.is
          F.CAL_STORE_STAT_STORE_BUSY then 1 else s.dev.get F.NVS_STAT_KEEPER_ACTIVE) ∧
          d.cal = (if s.dev.nvsOwned && !s.dev.is F.NVS_CTRL_HOST_OWN && s.dev.is F.CAL_STORE_STAT_STORE_BUSY then
          { s.dev.cal with storeTemp := s.dev.get F.SYS_TEMP_NOW } else s.dev.cal))) ∧
    (∀ (s : State),
      s.Running →
      s.dev.nvsCtrl < 2 ^ 30 →
      Does .nvsResume s [.bus, .cal] ([F.NVS_CTRL_HOST_OWN.key 0, F.NVS_CTRL_SAMPLE_DLY.key 0, F.NVS_CTRL_DIV.key 0,
        F.NVS_STAT_HALTED.key 0, F.NVS_STAT_OWNED.key 0, F.NVS_STAT_KEEPER_ACTIVE.key 0])
        (fun d => d.get F.NVS_CTRL_HOST_OWN = bits s.dev.nvsCtrl 8 8 ∧ d.get F.NVS_CTRL_SAMPLE_DLY = bits s.dev.nvsCtrl 5 4 ∧
          d.get F.NVS_CTRL_DIV = bits s.dev.nvsCtrl 3 0 ∧ d.get F.NVS_STAT_HALTED = 0 ∧ d.nvs = s.dev.nvs ∧
          d.get F.NVS_STAT_OWNED = (if s.dev.nvsOwned && !bit s.dev.nvsCtrl 8 && s.dev.nvs.running.isNone then 0 else s.dev.get
          F.NVS_STAT_OWNED) ∧ d.get F.NVS_STAT_KEEPER_ACTIVE = (if s.dev.nvsOwned && !bit s.dev.nvsCtrl 8 &&
          s.dev.nvs.running.isNone && s.dev.is F.CAL_STORE_STAT_STORE_BUSY then 1 else s.dev.get F.NVS_STAT_KEEPER_ACTIVE) ∧
          d.cal = (if s.dev.nvsOwned && !bit s.dev.nvsCtrl 8 && s.dev.nvs.running.isNone && s.dev.is
          F.CAL_STORE_STAT_STORE_BUSY then { s.dev.cal with storeTemp := s.dev.get F.SYS_TEMP_NOW } else s.dev.cal))) ∧
    (∀ (s : State),
      s.Running →
      s.dev.nvsCtrl < 2 ^ 30 →
      Does .nvsFlush s [.nvs, .bus, .cal] ([F.NVS_CTRL_HOST_OWN.key 0, F.NVS_CTRL_SAMPLE_DLY.key 0, F.NVS_CTRL_DIV.key 0,
        F.NVS_STAT_HALTED.key 0, F.NVS_STAT_OWNED.key 0, F.NVS_STAT_KEEPER_ACTIVE.key 0] ++ [F.NVS_STAT_BUSY.key 0] ++
        evKeys F.NVS_EVT_FLUSHED)
        (fun d => d.get F.NVS_CTRL_HOST_OWN = bits s.dev.nvsCtrl 8 8 ∧ d.get F.NVS_CTRL_SAMPLE_DLY = bits s.dev.nvsCtrl 5 4 ∧
          d.get F.NVS_CTRL_DIV = bits s.dev.nvsCtrl 3 0 ∧ d.get F.NVS_STAT_HALTED = 0 ∧
          d.nvs = { s.dev.nvs with queue := [], wdata := [], rdata := [], incoming := [], running := none } ∧
          d.get F.NVS_STAT_BUSY = 0 ∧ (s.dev.nvs.queue ≠ [] ∨ s.dev.nvs.running.isSome = true → d.get F.NVS_EVT_FLUSHED = 1) ∧
          d.get F.NVS_STAT_OWNED = (if s.dev.nvsOwned && !bit s.dev.nvsCtrl 8 then 0 else s.dev.get F.NVS_STAT_OWNED) ∧
          d.get F.NVS_STAT_KEEPER_ACTIVE = (if s.dev.nvsOwned && !bit s.dev.nvsCtrl 8 && s.dev.is F.CAL_STORE_STAT_STORE_BUSY
          then 1 else s.dev.get F.NVS_STAT_KEEPER_ACTIVE) ∧ d.cal =
          (if s.dev.nvsOwned && !bit s.dev.nvsCtrl 8 && s.dev.is F.CAL_STORE_STAT_STORE_BUSY then
          { s.dev.cal with storeTemp := s.dev.get F.SYS_TEMP_NOW } else s.dev.cal))) ∧
    (∀ (s : State) (v : Word),
      s.Running →
      Does (.hostOwn v) s [.bus, .cal] ([F.NVS_CTRL_HOST_OWN.key 0, F.NVS_CTRL_SAMPLE_DLY.key 0, F.NVS_CTRL_DIV.key 0,
        F.NVS_STAT_OWNED.key 0, F.NVS_STAT_KEEPER_ACTIVE.key 0])
        (fun d => d.get F.NVS_CTRL_HOST_OWN = bits v.toNat 8 8 ∧ d.get F.NVS_CTRL_DIV = bits v.toNat 3 0 ∧
          d.get F.NVS_CTRL_SAMPLE_DLY = bits v.toNat 5 4 ∧ d.nvs = s.dev.nvs ∧
          d.get F.NVS_STAT_OWNED = (if s.dev.nvsOwned && !bit v.toNat 8 && s.dev.nvs.running.isNone then 0 else s.dev.get
          F.NVS_STAT_OWNED) ∧ d.get F.NVS_STAT_KEEPER_ACTIVE = (if s.dev.nvsOwned && !bit v.toNat 8 && s.dev.nvs.running.isNone
          && s.dev.is F.CAL_STORE_STAT_STORE_BUSY then 1 else s.dev.get F.NVS_STAT_KEEPER_ACTIVE) ∧
          d.cal = (if s.dev.nvsOwned && !bit v.toNat 8 && s.dev.nvs.running.isNone && s.dev.is F.CAL_STORE_STAT_STORE_BUSY then
          { s.dev.cal with storeTemp := s.dev.get F.SYS_TEMP_NOW } else s.dev.cal))) ∧
    (∀ (s : State),
      s.Running →
      s.dev.is F.NVS_CTRL_HOST_OWN = true →
      s.dev.nvsOwned = false →
      s.dev.keeperActive = false →
      3 ≤ s.dev.get F.SYS_BOOT_STAT_STEP →
      s.dev.kpr.restarting = false →
      Does .ownGranted s [] ([F.NVS_STAT_OWNED.key 0] ++ evKeys F.NVS_EVT_OWN_GRANTED)
        (fun d => d.nvsOwned = true ∧ d.get F.NVS_EVT_OWN_GRANTED = 1)) ∧
    (∀ (s : State) (w : Word) (tl : List Word),
      s.Running →
      s.dev.nvs.rdata = w :: tl →
      Does .nvsRdataRead s [.nvs, .bus] ([])
        (fun d => d.bus.lastRead = w ∧ d.nvs =
          { s.dev.nvs with rdata := tl ++ s.dev.nvs.incoming.take (256 - tl.length), incoming := s.dev.nvs.incoming.drop (256 - tl.length) }))
          ∧
    (∀ (s : State),
      s.Running →
      s.dev.nvs.rdata = [] →
      Does .nvsRdataRead s [.bus] ([])
        (fun d => d.bus.lastRead = 0)) ∧
    (∀ (s : State) (v : Word),
      s.Running →
      Does (.nvsWdataWrite v) s [.nvs] ([F.NVS_WDATA_WORD.key 0])
        (fun d => (d.nvs = { s.dev.nvs with wdata := if s.dev.nvs.wdata.length < 256 then s.dev.nvs.wdata ++ [v] else s.dev.nvs.wdata })
          ∧ d.get F.NVS_WDATA_WORD = v.toNat))

/-- The frame is what HSP_D spells in the format in force. A good WRITE frame resynchronises the alive counter and is counted;
  its words, at any address and of any number, are staged in address order, APPLYING shows it,
  and landing they do what REGISTER_WRITE of them one by one does; a word past the end of the page sets AINC_OVERRUN. A bad one
  writes nothing and each of its causes is flagged and counted. A good READ frame of 2^n words replies the status word and what
  RC_READ of its addresses one by one returns, with the CRC over the command,
  the address and the reply; one that is not yet read stands with its reads waiting,
  and an abandoned one gives no reply; a bad one replies the status word with its flags and zeros. STATUS replies the status
  word, with BAD and ALIVE set when the alive counter is wrong, after at least one busy unit while words are still to be
  applied; the flags clear as they are sent; a cut frame writes nothing and is counted; a reserved opcode is flagged;
  RESET_FORMAT clears the format and the alive expectation. Choices of the model on which this rests: log entries 7, 99, 100,
  101, 110 and 155. -/
def Obligations.HostPortFrames : Prop :=
  (∀ (s : State) (command address data : List Byte) (stageFree : Bool) (alive : BitVec 4) (addr : BitVec 24) (payload : List
    Bool) (k : Nat),
      s.Running →
      s.dev.PortsIdle →
      s.dev.hspRuns = true →
      s.dev.hspFrame (command ++ address ++ data) = .write alive addr payload →
      writeCut alive addr payload = false →
      stageFree = true →
      (writeData alive addr payload).2 = true →
      (writeData alive addr payload).1 = some k →
      k ≤ 256 →
      addr.toNat % 4 = 0 →
      s.dev.aliveOk alive = true →
      isGuard addr.toNat = false →
      addr.toNat % 0x1000 + 4 * k ≤ 0x1000 →
      addr.toNat % 0x1000 ≠ 0x20 →
      1 ≤ k →
      Does (.hspWrite command address data stageFree (some 0)) s [.hsp, .bus] ([F.HSP_STAT_ALIVE_EXP.key 0,
        F.HSP_FRAME_CNT_GOOD.key 0])
        (fun d => (d.heldOf 0 = (List.range k).map (fun j => BusAccess.write (some (addr.toNat + 4 * j)) ((wordsOfBits k
          payload).getD j 0) false (j + 1 == k))) ∧ d.hspApplying = true ∧ d.hsp.expect = some ((alive.toNat + 1) % 16) ∧
          d.get F.HSP_STAT_ALIVE_EXP = (alive.toNat + 1) % 16 ∧ d.get F.HSP_FRAME_CNT_GOOD =
          (s.dev.get F.HSP_FRAME_CNT_GOOD + 1) % 2 ^ 32)) ∧
    (∀ (s : State) (command address data : List Byte) (stageFree : Bool) (alive : BitVec 4) (addr : BitVec 24) (payload : List
      Bool) (k : Nat),
      s.Running →
      s.dev.PortsIdle →
      s.dev.hspRuns = true →
      s.dev.hspFrame (command ++ address ++ data) = .write alive addr payload →
      writeCut alive addr payload = false →
      stageFree = true →
      (writeData alive addr payload).2 = true →
      (writeData alive addr payload).1 = some k →
      k ≤ 256 →
      addr.toNat % 4 = 0 →
      s.dev.aliveOk alive = true →
      isGuard addr.toNat = false →
      addr.toNat % 0x1000 + 4 * k ≤ 0x1000 →
      [1, 3, 0xB, 0x38].contains (addr.toNat / 0x1000) = false →
      stageFree = true →
      Answers (.hspWrite command address data stageFree) s (fun d => (d =
        ((List.range k).foldl (fun (t : State) j => t.after (.registerWrite .host (BitVec.ofNat 24 (if addr.toNat % 0x1000 =
        0x20 then addr.toNat else addr.toNat + 4 * j)) (BitVec.ofNat 32 ((wordsOfBits k payload).getD j 0))))
        { s with dev := (s.dev.aliveSync alive).bump F.HSP_FRAME_CNT_GOOD }).dev))) ∧
    (∀ (s : State) (command address data : List Byte) (stageFree : Bool) (alive : BitVec 4) (addr : BitVec 24) (payload : List
      Bool) (k : Nat),
      s.Running →
      s.dev.PortsIdle →
      s.dev.hspRuns = true →
      s.dev.hspFrame (command ++ address ++ data) = .write alive addr payload →
      writeCut alive addr payload = false →
      stageFree = true →
      (writeData alive addr payload).2 = true →
      (writeData alive addr payload).1 = some k →
      k ≤ 256 →
      addr.toNat % 4 = 0 →
      s.dev.aliveOk alive = true →
      isGuard addr.toNat = false →
      [1, 3, 0xB, 0x38].contains (addr.toNat / 0x1000) = false →
      addr.toNat % 0x1000 ≠ 0x20 →
      0x1000 < addr.toNat % 0x1000 + 4 * k →
      s.dev.openPair .host = none →
      s.dev.pageTakes (addr.toNat / 0x1000) = false →
      Does (.hspWrite command address data stageFree) s [.hsp, .bus] ([F.HSP_STAT_ALIVE_EXP.key 0,
        F.HSP_FRAME_CNT_GOOD.key 0] ++ [F.HSP_STAT_NEXT_STATUS.key 0] ++ evKeys F.HSP_EVT_AINC_OVERRUN)
        (fun d => bit (d.get F.HSP_STAT_NEXT_STATUS) 2 = true ∧ d.get F.HSP_EVT_AINC_OVERRUN = 1 ∧
          d.hsp.expect = some ((alive.toNat + 1) % 16) ∧ d.get F.HSP_STAT_ALIVE_EXP = (alive.toNat + 1) % 16 ∧
          d.get F.HSP_FRAME_CNT_GOOD = (s.dev.get F.HSP_FRAME_CNT_GOOD + 1) % 2 ^ 32)) ∧
    (∀ (s : State) (command address data : List Byte) (stageFree : Bool) (alive : BitVec 4) (addr : BitVec 24) (payload : List
      Bool) (k w : Nat),
      s.Running →
      s.dev.PortsIdle →
      s.dev.hspRuns = true →
      s.dev.hspFrame (command ++ address ++ data) = .write alive addr payload →
      writeCut alive addr payload = false →
      stageFree = true →
      (writeData alive addr payload).2 = true →
      (writeData alive addr payload).1 = some k →
      k ≤ 256 →
      addr.toNat % 4 = 0 →
      s.dev.aliveOk alive = true →
      addr = 0xA08C →
      k = 1 →
      wordsOfBits 1 payload = [w] →
      s.dev.openPair .host = none →
      Does (.hspWrite command address data stageFree) s [.hsp, .bus] ([F.FLT_LOG_CFG_HIGH.key 0] ++
        [F.HSP_STAT_ALIVE_EXP.key 0, F.HSP_FRAME_CNT_GOOD.key 0])
        (fun d => d.get F.FLT_LOG_CFG_HIGH = bits w 11 0 ∧ d.hsp.expect = some ((alive.toNat + 1) % 16) ∧
          d.get F.HSP_STAT_ALIVE_EXP = (alive.toNat + 1) % 16 ∧ d.get F.HSP_FRAME_CNT_GOOD =
          (s.dev.get F.HSP_FRAME_CNT_GOOD + 1) % 2 ^ 32)) ∧
    (∀ (s : State) (command address data : List Byte) (stageFree : Bool) (alive : BitVec 4) (addr : BitVec 24) (payload : List
      Bool),
      s.Running →
      s.dev.PortsIdle →
      s.dev.hspRuns = true →
      s.dev.hspFrame (command ++ address ++ data) = .write alive addr payload →
      writeCut alive addr payload = false →
      (s.dev.aliveOk alive && (writeData alive addr payload).2 && !((writeData alive addr payload).1.isNone || decide (256 <
        (writeData alive addr payload).1.getD 0) || addr.toNat % 4 != 0) && stageFree) = false →
      Does (.hspWrite command address data stageFree) s [.hsp] ([F.HSP_STAT_ALIVE_EXP.key 0, F.HSP_STAT_NEXT_STATUS.key 0,
        F.HSP_BAD_CNT_ALIVE.key 0, F.HSP_BAD_CNT_CRC.key 0, F.HSP_BAD_CNT_FORMAT.key 0,
        F.HSP_CUT_CNT_STAGE_FULL.key 0] ++ evKeys F.HSP_EVT_ALIVE ++ evKeys F.HSP_EVT_CRC ++ evKeys F.HSP_EVT_FORMAT ++
        evKeys F.HSP_EVT_STAGE_FULL)
        (fun d => d.hsp.expect = some ((alive.toNat + 1) % 16) ∧ d.hsp = { s.dev.hsp with expect := d.hsp.expect } ∧
          bit (d.get F.HSP_STAT_NEXT_STATUS) 7 = true ∧ ((writeData alive addr payload).2 = false →
          bit (d.get F.HSP_STAT_NEXT_STATUS) 6 = true) ∧ (s.dev.aliveOk alive = false →
          bit (d.get F.HSP_STAT_NEXT_STATUS) 5 = true) ∧ (((writeData alive addr payload).1.isNone || decide (256 < (writeData
          alive addr payload).1.getD 0) || addr.toNat % 4 != 0) = true → bit (d.get F.HSP_STAT_NEXT_STATUS) 4 = true) ∧
          (stageFree = false → bit (d.get F.HSP_STAT_NEXT_STATUS) 3 = true) ∧
          d.get F.HSP_BAD_CNT_CRC = (if !(writeData alive addr payload).2 then (s.dev.get F.HSP_BAD_CNT_CRC + 1) % 2 ^ 16 else
          s.dev.get F.HSP_BAD_CNT_CRC) ∧ d.get F.HSP_BAD_CNT_ALIVE =
          (if !s.dev.aliveOk alive then (s.dev.get F.HSP_BAD_CNT_ALIVE + 1) % 2 ^ 8 else s.dev.get F.HSP_BAD_CNT_ALIVE) ∧
          d.get F.HSP_BAD_CNT_FORMAT = (if ((writeData alive addr payload).1.isNone || decide (256 < (writeData alive addr
          payload).1.getD 0) || addr.toNat % 4 != 0) then (s.dev.get F.HSP_BAD_CNT_FORMAT + 1) % 2 ^ 8 else s.dev.get
          F.HSP_BAD_CNT_FORMAT) ∧ d.get F.HSP_CUT_CNT_STAGE_FULL =
          (if !stageFree then (s.dev.get F.HSP_CUT_CNT_STAGE_FULL + 1) % 2 ^ 16 else s.dev.get F.HSP_CUT_CNT_STAGE_FULL))) ∧
    (∀ (s : State) (command address : List Byte) (busy : Nat) (code : Nat) (alive : BitVec 4) (addr : BitVec 24),
      s.Running →
      s.dev.PortsIdle →
      s.dev.hspRuns = true →
      s.dev.hspFrame (command ++ address) = .read code alive addr →
      code = 0 →
      addr = 0xA08C →
      s.dev.aliveOk alive = true →
      Does (.hspRead command address busy false) s [.hsp, .bus] ([F.HSP_STAT_ALIVE_EXP.key 0, F.HSP_FRAME_CNT_GOOD.key 0,
        F.HSP_STAT_NEXT_STATUS.key 0, F.HSP_STAT_LAST_STATUS.key 0])
        (fun d => d.hsp.expect = some ((alive.toNat + 1) % 16) ∧ d.hsp.reply =
          [BitVec.ofNat 32 (0x3C5A * 2 ^ 16 + (clearBit (s.dev.get F.HSP_STAT_NEXT_STATUS) 0 + s.dev.get F.SYS_BOOT_STAT_READY)
          * 2 ^ 8 + alive.toNat * 16), BitVec.ofNat 32 (s.dev.get F.FLT_LOG_CFG_HIGH % 2 ^ 12)] ∧
          (d.hsp.replyCrc = crcBits (msbBits 8 ((8 + code) * 16 + alive.toNat) ++ msbBits 24 addr.toNat ++
          d.hsp.reply.flatMap (fun (w : Word) => msbBits 32 w.toNat))) ∧
          d.get F.HSP_FRAME_CNT_GOOD = (s.dev.get F.HSP_FRAME_CNT_GOOD + 1) % 2 ^ 32 ∧ d.get F.HSP_STAT_NEXT_STATUS = 0 ∧
          d.bus.lastRead = BitVec.ofNat 32 (s.dev.get F.FLT_LOG_CFG_HIGH % 2 ^ 12) ∧
          d.get F.FLT_LOG_CFG_HIGH = s.dev.get F.FLT_LOG_CFG_HIGH ∧ d.hsp.gap = min 32 (s.dev.get F.HSP_CFG_DUMMY) ∧
          d.hsp.busy = busy ∧ d.hsp.lanes = s.dev.hspLanes F.HSP_CFG_DATA_LANES)) ∧
    (∀ (s : State) (command address : List Byte) (busy : Nat) (code : Nat) (alive : BitVec 4) (addr : BitVec 24) (unstable :
      List Nat),
      s.Running →
      s.dev.PortsIdle →
      s.dev.hspRuns = true →
      s.dev.hspFrame (command ++ address) = .read code alive addr →
      s.dev.aliveOk alive = true →
      addr.toNat % 4 = 0 →
      addr.toNat % 0x1000 + 4 * 2 ^ code ≤ 0x1000 →
      [1, 3, 0xB, 0x38].contains (addr.toNat / 0x1000) = false →
      Answers (.hspRead command address busy false none unstable) s (fun d => d.hsp.expect = some ((alive.toNat + 1) % 16) ∧
        (d.hsp.reply = BitVec.ofNat 32 (0x3C5A * 2 ^ 16 + (clearBit (((List.range (2 ^ code)).foldl (fun (t : State) j =>
        t.after (.rcRead .host (BitVec.ofNat 24 (if addr.toNat % 0x1000 =
        0x20 then addr.toNat else addr.toNat + 4 * j)) (unstable.contains j)))
        { s with dev := ((s.dev.aliveSync alive).hspDrive busy).bump F.HSP_FRAME_CNT_GOOD }).dev.get F.HSP_STAT_NEXT_STATUS) 0
        + ((List.range (2 ^ code)).foldl (fun (t : State) j => t.after (.rcRead .host (BitVec.ofNat 24 (if addr.toNat % 0x1000
        = 0x20 then addr.toNat else addr.toNat + 4 * j)) (unstable.contains j)))
        { s with dev := ((s.dev.aliveSync alive).hspDrive busy).bump F.HSP_FRAME_CNT_GOOD }).dev.get F.SYS_BOOT_STAT_READY) * 2
        ^ 8 + alive.toNat * 16) :: (List.range (2 ^ code)).map (fun n => ((List.range (n + 1)).foldl (fun (t : State) j =>
        t.after (.rcRead .host (BitVec.ofNat 24 (if addr.toNat % 0x1000 =
        0x20 then addr.toNat else addr.toNat + 4 * j)) (unstable.contains j)))
        { s with dev := ((s.dev.aliveSync alive).hspDrive busy).bump F.HSP_FRAME_CNT_GOOD }).dev.bus.lastRead)) ∧
        (d.hsp.replyCrc = crcBits (msbBits 8 ((8 + code) * 16 + alive.toNat) ++ msbBits 24 addr.toNat ++
        d.hsp.reply.flatMap (fun (w : Word) => msbBits 32 w.toNat))) ∧ d.hsp.reading = none ∧
        d.get F.HSP_STAT_NEXT_STATUS = 0 ∧ (d.bus = ((List.range (2 ^ code)).foldl (fun (t : State) j => t.after (.rcRead .host
        (BitVec.ofNat 24 (if addr.toNat % 0x1000 = 0x20 then addr.toNat else addr.toNat + 4 * j)) (unstable.contains j)))
        { s with dev := ((s.dev.aliveSync alive).hspDrive busy).bump F.HSP_FRAME_CNT_GOOD }).dev.bus) ∧
        d.hsp.gap = min 32 (s.dev.get F.HSP_CFG_DUMMY) ∧ d.hsp.busy = busy ∧
        d.hsp.lanes = s.dev.hspLanes F.HSP_CFG_DATA_LANES)) ∧
    (∀ (s : State) (command address : List Byte) (busy : Nat) (code : Nat) (alive : BitVec 4) (addr : BitVec 24),
      s.Running →
      s.dev.PortsIdle →
      s.dev.hspRuns = true →
      s.dev.hspFrame (command ++ address) = .read code alive addr →
      s.dev.aliveOk alive = true →
      addr.toNat % 4 = 0 →
      addr.toNat % 0x1000 + 4 * 2 ^ code ≤ 0x1000 →
      addr.toNat % 0x1000 ≠ 0x20 →
      Does (.hspRead command address busy false (some 0)) s [.hsp, .bus] ([F.HSP_STAT_ALIVE_EXP.key 0,
        F.HSP_FRAME_CNT_GOOD.key 0])
        (fun d => d.hsp.expect = some ((alive.toNat + 1) % 16) ∧ d.hsp.reply = [] ∧ d.hsp.reading.isSome = true ∧
          (d.heldOf 0 = (List.range (2 ^ code)).map (fun j => BusAccess.frameRead (some (addr.toNat + 4 * j)) false (j + 1 == 2
          ^ code))) ∧ d.get F.HSP_FRAME_CNT_GOOD = (s.dev.get F.HSP_FRAME_CNT_GOOD + 1) % 2 ^ 32 ∧
          d.hsp.gap = min 32 (s.dev.get F.HSP_CFG_DUMMY) ∧ d.hsp.busy = busy ∧
          d.hsp.lanes = s.dev.hspLanes F.HSP_CFG_DATA_LANES)) ∧
    (∀ (s : State) (command address : List Byte) (busy : Nat) (code : Nat) (alive : BitVec 4) (addr : BitVec 24),
      s.Running →
      s.dev.PortsIdle →
      s.dev.hspRuns = true →
      s.dev.hspFrame (command ++ address) = .read code alive addr →
      s.dev.aliveOk alive = true →
      addr.toNat % 4 = 0 →
      addr.toNat % 0x1000 + 4 * 2 ^ code ≤ 0x1000 →
      Does (.hspRead command address busy true (some 0)) s [.hsp] ([F.HSP_STAT_ALIVE_EXP.key 0, F.HSP_FRAME_CNT_GOOD.key 0])
        (fun d => d.hsp.expect = some ((alive.toNat + 1) % 16) ∧ d.hsp.reply = [] ∧ d.hsp.reading = none ∧ d.bus = s.dev.bus ∧
          d.get F.HSP_FRAME_CNT_GOOD = (s.dev.get F.HSP_FRAME_CNT_GOOD + 1) % 2 ^ 32 ∧
          d.hsp.gap = min 32 (s.dev.get F.HSP_CFG_DUMMY) ∧ d.hsp.busy = busy ∧
          d.hsp.lanes = s.dev.hspLanes F.HSP_CFG_DATA_LANES)) ∧
    (∀ (s : State) (command address : List Byte) (busy : Nat) (code : Nat) (alive : BitVec 4) (addr : BitVec 24),
      s.Running →
      s.dev.PortsIdle →
      s.dev.hspRuns = true →
      s.dev.hspFrame (command ++ address) = .read code alive addr →
      (s.dev.aliveOk alive && addr.toNat % 4 == 0) = false →
      Does (.hspRead command address busy false) s [.hsp] ([F.HSP_STAT_ALIVE_EXP.key 0, F.HSP_STAT_NEXT_STATUS.key 0,
        F.HSP_BAD_CNT_ALIVE.key 0, F.HSP_BAD_CNT_CRC.key 0, F.HSP_BAD_CNT_FORMAT.key 0,
        F.HSP_CUT_CNT_STAGE_FULL.key 0] ++ evKeys F.HSP_EVT_ALIVE ++ evKeys F.HSP_EVT_CRC ++ evKeys F.HSP_EVT_FORMAT ++
        evKeys F.HSP_EVT_STAGE_FULL ++ [F.HSP_STAT_LAST_STATUS.key 0])
        (fun d => d.hsp.expect = some ((alive.toNat + 1) % 16) ∧ d.hsp.reply =
          ((0x3C5A * 2 ^ 16 + (clearBit ((s.dev.hspBad (!s.dev.aliveOk alive) false (addr.toNat % 4 != 0) false).get
          F.HSP_STAT_NEXT_STATUS) 0 + s.dev.get F.SYS_BOOT_STAT_READY) * 2 ^ 8 + alive.toNat * 16) :: List.replicate (2 ^ code)
          0).map (BitVec.ofNat 32) ∧ bit ((s.dev.hspBad (!s.dev.aliveOk alive) false (addr.toNat % 4 != 0) false).get
          F.HSP_STAT_NEXT_STATUS) 7 = true ∧ d.get F.HSP_STAT_NEXT_STATUS = 0 ∧ d.bus = s.dev.bus ∧
          d.get F.HSP_BAD_CNT_ALIVE = (if !s.dev.aliveOk alive then (s.dev.get F.HSP_BAD_CNT_ALIVE + 1) % 2 ^ 8 else s.dev.get
          F.HSP_BAD_CNT_ALIVE) ∧ d.get F.HSP_BAD_CNT_FORMAT = (if addr.toNat % 4 != 0 then (s.dev.get F.HSP_BAD_CNT_FORMAT + 1)
          % 2 ^ 8 else s.dev.get F.HSP_BAD_CNT_FORMAT) ∧ d.hsp.gap = min 32 (s.dev.get F.HSP_CFG_DUMMY) ∧ d.hsp.busy = busy ∧
          d.hsp.lanes = s.dev.hspLanes F.HSP_CFG_DATA_LANES)) ∧
    (∀ (s : State) (command : List Byte) (busy : Nat) (abandoned : Bool) (alive : BitVec 4),
      s.Running →
      s.dev.PortsIdle →
      s.dev.hspRuns = true →
      s.dev.hspFrame command = .status alive →
      s.dev.aliveOk alive = true →
      Does (.hspStatus command busy abandoned) s [.hsp] ([F.HSP_STAT_ALIVE_EXP.key 0, F.HSP_FRAME_CNT_GOOD.key 0,
        F.HSP_STAT_NEXT_STATUS.key 0, F.HSP_STAT_LAST_STATUS.key 0])
        (fun d => d.hsp.expect = some ((alive.toNat + 1) % 16) ∧ d.hsp.reply =
          [BitVec.ofNat 32 (0x3C5A * 2 ^ 16 + (clearBit (s.dev.get F.HSP_STAT_NEXT_STATUS) 0 + s.dev.get F.SYS_BOOT_STAT_READY)
          * 2 ^ 8 + alive.toNat * 16)] ∧ (d.hsp.replyCrc = crcBits (msbBits 8 (0x20 + alive.toNat) ++
          d.hsp.reply.flatMap (fun (w : Word) => msbBits 32 w.toNat))) ∧
          d.get F.HSP_FRAME_CNT_GOOD = (s.dev.get F.HSP_FRAME_CNT_GOOD + 1) % 2 ^ 32 ∧ d.get F.HSP_STAT_NEXT_STATUS = 0 ∧
          d.hsp.gap = min 32 (s.dev.get F.HSP_CFG_DUMMY) ∧ d.hsp.busy = 0 ∧
          d.hsp.lanes = s.dev.hspLanes F.HSP_CFG_DATA_LANES)) ∧
    (∀ (s : State) (command : List Byte) (busy : Nat) (abandoned : Bool) (alive : BitVec 4),
      s.Running →
      s.dev.PortsIdle →
      s.dev.hspRuns = true →
      s.dev.hspFrame command = .status alive →
      s.dev.aliveOk alive = false →
      Does (.hspStatus command busy abandoned) s [.hsp] ([F.HSP_STAT_ALIVE_EXP.key 0, F.HSP_BAD_CNT_ALIVE.key 0,
        F.HSP_STAT_NEXT_STATUS.key 0, F.HSP_STAT_LAST_STATUS.key 0] ++ evKeys F.HSP_EVT_ALIVE)
        (fun d => d.hsp.expect = some ((alive.toNat + 1) % 16) ∧ d.hsp.reply =
          [BitVec.ofNat 32 (0x3C5A * 2 ^ 16 + (clearBit ((s.dev.hspBad true false false false).get F.HSP_STAT_NEXT_STATUS) 0 +
          s.dev.get F.SYS_BOOT_STAT_READY) * 2 ^ 8 + alive.toNat * 16)] ∧
          bit ((s.dev.hspBad true false false false).get F.HSP_STAT_NEXT_STATUS) 7 = true ∧
          bit ((s.dev.hspBad true false false false).get F.HSP_STAT_NEXT_STATUS) 5 = true ∧
          d.get F.HSP_BAD_CNT_ALIVE = (s.dev.get F.HSP_BAD_CNT_ALIVE + 1) % 2 ^ 8 ∧ d.get F.HSP_EVT_ALIVE = 1 ∧
          d.get F.HSP_STAT_NEXT_STATUS = 0 ∧ d.hsp.gap = min 32 (s.dev.get F.HSP_CFG_DUMMY) ∧ d.hsp.busy = 0 ∧
          d.hsp.lanes = s.dev.hspLanes F.HSP_CFG_DATA_LANES)) ∧
    (∀ (s : State) (command : List Byte) (busy : Nat) (abandoned : Bool) (alive : BitVec 4) (a v : Nat) (u m : Bool) (l : List
      BusAccess),
      s.Running →
      s.dev.hspRuns = true →
      s.dev.hspFrame command = .status alive →
      s.dev.aliveOk alive = true →
      s.dev.heldOf 0 = BusAccess.write (some a) v u m :: l →
      l.all (fun x => match x with | .frameRead _ _ _ => false | _ => true) = true →
      s.dev.waits .host (.write (some a) v u m) = true →
      Answers (.hspStatus command busy abandoned) s (fun d => d.hsp.expect = some ((alive.toNat + 1) % 16) ∧
        d.hsp.busy = max 1 busy ∧ d.hsp.reply = (if abandoned then [] else [BitVec.ofNat 32 (0x3C5A * 2 ^ 16 + (clearBit
        (s.dev.get F.HSP_STAT_NEXT_STATUS) 0 + s.dev.get F.SYS_BOOT_STAT_READY) * 2 ^ 8 + alive.toNat * 16)]) ∧
        d.get F.HSP_FRAME_CNT_GOOD = (s.dev.get F.HSP_FRAME_CNT_GOOD + 1) % 2 ^ 32 ∧ d.bus = s.dev.bus)) ∧
    (∀ (s : State) (cycles : List Byte) (alive : BitVec 4),
      s.Running →
      s.dev.PortsIdle →
      s.dev.hspRuns = true →
      s.dev.hspFrame cycles = .cut (some alive) →
      Does (.hspCut cycles) s [.hsp] ([F.HSP_STAT_ALIVE_EXP.key 0, F.HSP_CUT_CNT_CUT.key 0] ++ evKeys F.HSP_EVT_CUT)
        (fun d => d.hsp.expect = some ((alive.toNat + 1) % 16) ∧ d.hsp = { s.dev.hsp with expect := d.hsp.expect } ∧
          d.get F.HSP_CUT_CNT_CUT = (s.dev.get F.HSP_CUT_CNT_CUT + 1) % 2 ^ 16 ∧ d.get F.HSP_EVT_CUT = 1)) ∧
    (∀ (s : State) (cycles : List Byte) (alive : BitVec 4) (addr : BitVec 24) (payload : List Bool),
      s.Running →
      s.dev.PortsIdle →
      s.dev.hspRuns = true →
      s.dev.hspFrame cycles = .write alive addr payload →
      writeCut alive addr payload = true →
      Does (.hspCut cycles) s [.hsp] ([F.HSP_STAT_ALIVE_EXP.key 0, F.HSP_CUT_CNT_CUT.key 0] ++ evKeys F.HSP_EVT_CUT)
        (fun d => d.hsp.expect = some ((alive.toNat + 1) % 16) ∧ d.hsp = { s.dev.hsp with expect := d.hsp.expect } ∧
          d.get F.HSP_CUT_CNT_CUT = (s.dev.get F.HSP_CUT_CNT_CUT + 1) % 2 ^ 16 ∧ d.get F.HSP_EVT_CUT = 1)) ∧
    (∀ (s : State) (cycles : List Byte),
      s.Running →
      s.dev.PortsIdle →
      s.dev.hspRuns = true →
      s.dev.hspFrame cycles = .cut none →
      Does (.hspCut cycles) s [] ([F.HSP_CUT_CNT_CUT.key 0] ++ evKeys F.HSP_EVT_CUT)
        (fun d => d.hsp = s.dev.hsp ∧ d.get F.HSP_CUT_CNT_CUT = (s.dev.get F.HSP_CUT_CNT_CUT + 1) % 2 ^ 16 ∧
          d.get F.HSP_EVT_CUT = 1)) ∧
    (∀ (s : State) (command rest : List Byte) (op alive : BitVec 4),
      s.Running →
      s.dev.PortsIdle →
      s.dev.hspRuns = true →
      s.dev.hspFrame (command ++ rest) = .reserved op alive →
      Does (.hspReservedOpcode command rest) s [.hsp] ([F.HSP_STAT_ALIVE_EXP.key 0, F.HSP_STAT_NEXT_STATUS.key 0,
        F.HSP_BAD_CNT_ALIVE.key 0, F.HSP_BAD_CNT_CRC.key 0, F.HSP_BAD_CNT_FORMAT.key 0,
        F.HSP_CUT_CNT_STAGE_FULL.key 0] ++ evKeys F.HSP_EVT_ALIVE ++ evKeys F.HSP_EVT_CRC ++ evKeys F.HSP_EVT_FORMAT ++
        evKeys F.HSP_EVT_STAGE_FULL)
        (fun d => d.hsp.expect = some ((alive.toNat + 1) % 16) ∧ d.hsp = { s.dev.hsp with expect := d.hsp.expect } ∧
          d.get F.HSP_BAD_CNT_FORMAT = (s.dev.get F.HSP_BAD_CNT_FORMAT + 1) % 2 ^ 8 ∧ d.get F.HSP_EVT_FORMAT = 1 ∧
          bit (d.get F.HSP_STAT_NEXT_STATUS) 7 = true ∧ bit (d.get F.HSP_STAT_NEXT_STATUS) 4 = true ∧
          (s.dev.aliveOk alive = false → bit (d.get F.HSP_STAT_NEXT_STATUS) 5 = true) ∧
          d.get F.HSP_BAD_CNT_ALIVE = (if !s.dev.aliveOk alive then (s.dev.get F.HSP_BAD_CNT_ALIVE + 1) % 2 ^ 8 else s.dev.get
          F.HSP_BAD_CNT_ALIVE))) ∧
    (∀ (s : State) (cycles : List Byte),
      s.Running →
      s.dev.PortsIdle →
      s.dev.hspRuns = true →
      s.dev.hspFrame cycles = .resetFormat →
      Does (.resetFormat cycles) s [.hsp] ([F.HSP_STAT_ALIVE_EXP.key 0, F.HSP_FRAME_CNT_GOOD.key 0, F.HSP_CFG_RCLK_EN.key 0,
        F.HSP_CFG_DUMMY.key 0, F.HSP_CFG_DATA_LANES.key 0, F.HSP_CFG_ADDR_LANES.key 0,
        F.HSP_CFG_CMD_LANES.key 0] ++ evKeys F.HSP_EVT_RESET_FORMAT)
        (fun d => d.hsp = { s.dev.hsp with expect := none } ∧ d.get F.HSP_STAT_ALIVE_EXP = 0 ∧ d.get F.HSP_CFG_DUMMY = 8 ∧
          d.get F.HSP_CFG_CMD_LANES = 0 ∧ d.get F.HSP_CFG_ADDR_LANES = 0 ∧ d.get F.HSP_CFG_DATA_LANES = 0 ∧
          d.get F.HSP_CFG_RCLK_EN = 0 ∧ d.get F.HSP_EVT_RESET_FORMAT = 1 ∧
          d.get F.HSP_FRAME_CNT_GOOD = (s.dev.get F.HSP_FRAME_CNT_GOOD + 1) % 2 ^ 32))

/-- An access of a port whose clock is stopped, on the pages that never time out, waits with those behind it,
  and lands when the clock runs. Otherwise a write of an open page reaches the fields of a register that has no behaviour of
  its own, as their access types say; a write of a closed page or of an undefined address changes nothing,
  and one across a stopped crossing sets XING_ERR; a read returns the word the register shows and clears its event bits,
  zero from a closed page; the value of a register that is sampled across a crossing is kept,
  and a read whose samples disagree returns the kept one with UNSTABLE set. An alias write of 1 or 0 writes the register with
  its one target bit changed, or a self-clearing bit alone. INDIRECT_ADDR takes its address; INDIRECT_DATA reads the word at
  the address, writes a word of the channel map, stages the words of a timetable entry or of a Berth,
  and the last word of a free Berth asks for its write; the address advances. Choices of the model on which this rests: log
  entries 8, 11, 74, 91, 101, 106, 145, 147 and 155. -/
def Obligations.RegisterAccess : Prop :=
  (∀ (s : State) (port : Port) (addr : BitVec 24) (v : Word),
      s.Running →
      s.dev.PortsIdle →
      s.dev.openPair port = none →
      s.dev.pageTakes (addr.toNat / 0x1000) = true →
      s.dev.addrWaits addr.toNat = false →
      isGuarded addr.toNat = false →
      isGuard addr.toNat = false →
      addr.toNat % 0x1000 < 0x800 →
      addr.toNat % 0x1000 ≠ 0x1C →
      addr.toNat % 0x1000 ≠ 0x20 →
      (s.dev.regAt addr.toNat).isSome = true →
      s.dev.noWharf (s.dev.regFor addr.toNat).1 (s.dev.regFor addr.toNat).2 = false →
      s.dev.farStopped (s.dev.regFor addr.toNat).1 (s.dev.regFor addr.toNat).2 = false →
      s.dev.wrSystem port (s.dev.regFor addr.toNat).1.base v.toNat = none →
      s.dev.wrUnit (s.dev.regFor addr.toNat).1.base (s.dev.regFor addr.toNat).2 v.toNat = none →
      ((s.dev.regFor addr.toNat).1.fields.map (fun (g : Fld) => g.key (s.dev.regFor addr.toNat).2)).Nodup →
      Does (.registerWrite port addr v) s [.bus] ((s.dev.regFor addr.toNat).1.fields.map (fun (g : Fld) => g.key (s.dev.regFor
        addr.toNat).2))
        (fun d => ((s.dev.regFor addr.toNat).1.fields.all (fun f => d.get f (s.dev.regFor addr.toNat).2 == fieldAfter f
          (s.dev.get f (s.dev.regFor addr.toNat).2) v.toNat) = true))) ∧
    (∀ (s : State) (port : Port) (addr : BitVec 24) (v : Word),
      s.Running →
      s.dev.PortsIdle →
      s.dev.openPair port = none →
      addr = 0xA08C →
      Does (.registerWrite port addr v) s [.bus] ([F.FLT_LOG_CFG_HIGH.key 0])
        (fun d => d.get F.FLT_LOG_CFG_HIGH = bits v.toNat 11 0)) ∧
    (∀ (s : State) (port : Port) (addr : BitVec 24) (v : Word),
      s.Running →
      s.dev.PortsIdle →
      s.dev.openPair port = none →
      addr = 0xA0C0 →
      Does (.registerWrite port addr v) s [] ([])
        (fun d => d.fields = s.dev.fields)) ∧
    (∀ (s : State) (port : Port) (addr : BitVec 24) (v : Word),
      s.Running →
      s.dev.PortsIdle →
      s.dev.openPair port = none →
      s.dev.pageTakes (addr.toNat / 0x1000) = true →
      s.dev.addrWaits addr.toNat = false →
      isGuarded addr.toNat = false →
      isGuard addr.toNat = false →
      addr.toNat % 0x1000 < 0x800 →
      addr.toNat % 0x1000 ≠ 0x1C →
      addr.toNat % 0x1000 ≠ 0x20 →
      (s.dev.regAt addr.toNat).isSome = true →
      s.dev.noWharf (s.dev.regFor addr.toNat).1 (s.dev.regFor addr.toNat).2 = false →
      s.dev.farStopped (s.dev.regFor addr.toNat).1 (s.dev.regFor addr.toNat).2 = true →
      Does (.registerWrite port addr v) s [] ([F.PAGE_STAT_XING_ERR.key ((s.dev.regFor addr.toNat).1.pageOf (s.dev.regFor
        addr.toNat).2), F.IRQ_STAT_PAGE.key ((s.dev.regFor addr.toNat).1.pageOf (s.dev.regFor addr.toNat).2),
        F.HSP_STAT_NEXT_STATUS.key 0] ++ evKeys F.HSP_EVT_XING_ERR)
        (fun d => d.get F.PAGE_STAT_XING_ERR ((s.dev.regFor addr.toNat).1.pageOf (s.dev.regFor addr.toNat).2) = 1 ∧
          bit (d.get F.HSP_STAT_NEXT_STATUS) 1 = true ∧ d.get F.HSP_EVT_XING_ERR = 1)) ∧
    (∀ (s : State) (port : Port) (addr : BitVec 24) (v : Word),
      s.Running →
      s.dev.PortsIdle →
      s.dev.openPair port = none →
      s.dev.pageTakes (addr.toNat / 0x1000) = false →
      Idles (.registerWrite port addr v) s) ∧
    (∀ (s : State) (port : Port) (addr : BitVec 24) (v : Word),
      s.Running →
      s.dev.PortsIdle →
      s.dev.openPair port = none →
      isGuarded addr.toNat = false →
      isGuard addr.toNat = false →
      addr.toNat % 0x1000 < 0x800 →
      addr.toNat % 0x1000 ≠ 0x1C →
      addr.toNat % 0x1000 ≠ 0x20 →
      s.dev.regAt addr.toNat = none →
      Idles (.registerWrite port addr v) s) ∧
    (∀ (s : State) (port : Port) (addr : BitVec 24) (v : Word),
      s.Running →
      s.dev.PortsIdle →
      s.dev.waits port (.write (some addr.toNat) v.toNat false true) = true →
      Does (.registerWrite port addr v) s [.bus] ([])
        (fun d => d.heldOf (portNo port) = [BusAccess.write (some addr.toNat) v.toNat false true])) ∧
    (∀ (s : State) (port : Port) (addr : BitVec 24) (unstable : Bool),
      s.Running →
      s.dev.PortsIdle →
      s.dev.waits port (.read addr.toNat unstable) = true →
      Does (.rcRead port addr unstable) s [.bus] ([])
        (fun d => d.heldOf (portNo port) = [BusAccess.read addr.toNat unstable])) ∧
    (∀ (s : State) (port : Port) (addr : BitVec 24) (v : Word) (x : BusAccess) (l : List BusAccess),
      s.Running →
      s.dev.hsp.reading = none →
      s.dev.heldOf (portNo port) = x :: l →
      s.dev.waits port x = true →
      (port = .host → ((x :: l).all (fun y => match y with | .frameRead _ _ _ => false | _ => true)) = true) →
      (port = .keeper → s.dev.heldOf 0 = []) →
      Does (.registerWrite port addr v) s [.bus] ([])
        (fun d => d.heldOf (portNo port) = x :: l ++ [BusAccess.write (some addr.toNat) v.toNat false true])) ∧
    (∀ (s : State) (port : Port) (addr : BitVec 24),
      s.Running →
      s.dev.PortsIdle →
      s.dev.pageTakes (addr.toNat / 0x1000) = true →
      s.dev.addrWaits addr.toNat = false →
      addr.toNat % 0x1000 < 0x800 →
      addr.toNat % 0x1000 ≠ 0x1C →
      addr.toNat % 0x1000 ≠ 0x20 →
      (s.dev.regAt addr.toNat).isSome = true →
      s.dev.noWharf (s.dev.regFor addr.toNat).1 (s.dev.regFor addr.toNat).2 = false →
      s.dev.farStopped (s.dev.regFor addr.toNat).1 (s.dev.regFor addr.toNat).2 = false →
      (s.dev.regFor addr.toNat).1.base ≠ 0x330FC →
      (s.dev.regFor addr.toNat).1.sampled = true →
      Answers (.rcRead port addr true) s (fun d => d.bus.lastRead =
        BitVec.ofNat 32 (s.dev.keptWord (s.dev.regFor addr.toNat).1 (s.dev.regFor addr.toNat).2 addr.toNat) ∧
        d.get F.PAGE_STAT_UNSTABLE ((s.dev.regFor addr.toNat).1.pageOf (s.dev.regFor addr.toNat).2) = 1)) ∧
    (∀ (s : State) (port : Port) (addr : BitVec 24),
      s.Running →
      s.dev.PortsIdle →
      s.dev.pageTakes (addr.toNat / 0x1000) = true →
      s.dev.addrWaits addr.toNat = false →
      addr.toNat % 0x1000 < 0x800 →
      addr.toNat % 0x1000 ≠ 0x1C →
      addr.toNat % 0x1000 ≠ 0x20 →
      (s.dev.regAt addr.toNat).isSome = true →
      s.dev.noWharf (s.dev.regFor addr.toNat).1 (s.dev.regFor addr.toNat).2 = false →
      s.dev.farStopped (s.dev.regFor addr.toNat).1 (s.dev.regFor addr.toNat).2 = false →
      (s.dev.regFor addr.toNat).1.base ≠ 0x50C8 →
      (s.dev.regFor addr.toNat).1.base ≠ 0x330FC →
      Does (.rcRead port addr) s [.bus] ((((s.dev.regFor addr.toNat).1.fields.filter isEvent).map (fun (g : Fld) => g.key
        (s.dev.regFor addr.toNat).2)))
        (fun d => d.bus.lastRead = BitVec.ofNat 32 (s.dev.regShown (s.dev.regFor addr.toNat).1 (s.dev.regFor addr.toNat).2) ∧
          (((s.dev.regFor addr.toNat).1.fields.filter isEvent).all (fun f => d.get f (s.dev.regFor addr.toNat).2 == 0) =
          true) ∧ (d.bus = { s.dev.bus with lastRead := d.bus.lastRead, taken := if (s.dev.regFor addr.toNat).1.sampled then Store.set s.dev.bus.taken addr.toNat (s.dev.regShown (s.dev.regFor addr.toNat).1 (s.dev.regFor addr.toNat).2) else s.dev.bus.taken })))
          ∧
    (∀ (s : State) (port : Port) (addr : BitVec 24),
      s.Running →
      s.dev.PortsIdle →
      addr = 0xA0C4 →
      Does (.rcRead port addr) s [.bus] ([F.FLT_EVT_NEW_RECORD.key 0, F.FLT_EVT_LOST.key 0, F.FLT_EVT_LOG_HIGH.key 0,
        F.FLT_EVT_LOG_LOST.key 0])
        (fun d => d.get F.FLT_EVT_NEW_RECORD = 0 ∧ d.get F.FLT_EVT_LOST = 0 ∧ d.get F.FLT_EVT_LOG_HIGH = 0 ∧
          d.get F.FLT_EVT_LOG_LOST = 0 ∧ d.bus.lastRead = BitVec.ofNat 32 (s.dev.get F.FLT_EVT_LOG_LOST % 2 * 8 + s.dev.get
          F.FLT_EVT_LOG_HIGH % 2 * 4 + s.dev.get F.FLT_EVT_LOST % 2 * 2 + s.dev.get F.FLT_EVT_NEW_RECORD % 2))) ∧
    (∀ (s : State) (port : Port) (addr : BitVec 24),
      s.Running →
      s.dev.PortsIdle →
      s.dev.pageTakes (addr.toNat / 0x1000) = false →
      Does (.rcRead port addr) s [.bus] ([])
        (fun d => d.bus = { s.dev.bus with lastRead := 0 })) ∧
    (∀ (s : State) (port : Port) (addr : BitVec 24),
      s.Running →
      s.dev.PortsIdle →
      s.dev.pageTakes (addr.toNat / 0x1000) = true →
      s.dev.addrWaits addr.toNat = false →
      addr.toNat % 0x1000 < 0x800 →
      addr.toNat % 0x1000 ≠ 0x1C →
      addr.toNat % 0x1000 ≠ 0x20 →
      (s.dev.regAt addr.toNat).isSome = true →
      s.dev.noWharf (s.dev.regFor addr.toNat).1 (s.dev.regFor addr.toNat).2 = false →
      s.dev.farStopped (s.dev.regFor addr.toNat).1 (s.dev.regFor addr.toNat).2 = true →
      Does (.rcRead port addr) s [.bus] ([F.PAGE_STAT_XING_ERR.key ((s.dev.regFor addr.toNat).1.pageOf (s.dev.regFor
        addr.toNat).2), F.IRQ_STAT_PAGE.key ((s.dev.regFor addr.toNat).1.pageOf (s.dev.regFor addr.toNat).2),
        F.HSP_STAT_NEXT_STATUS.key 0] ++ evKeys F.HSP_EVT_XING_ERR)
        (fun d => d.get F.PAGE_STAT_XING_ERR ((s.dev.regFor addr.toNat).1.pageOf (s.dev.regFor addr.toNat).2) = 1 ∧
          bit (d.get F.HSP_STAT_NEXT_STATUS) 1 = true ∧ d.get F.HSP_EVT_XING_ERR = 1 ∧ d.bus.lastRead = 0)) ∧
    (∀ (s : State) (port : Port) (addr : BitVec 24) (v : Word),
      s.Running →
      s.dev.PortsIdle →
      s.dev.openPair port = none →
      s.dev.addrWaits (aliasTarget addr.toNat) = false →
      s.dev.pageTakes (addr.toNat / 0x1000) = true →
      0x800 ≤ addr.toNat % 0x1000 →
      isGuarded addr.toNat = false →
      isGuard addr.toNat = false →
      (s.dev.regAt (aliasTarget addr.toNat)).isSome = true →
      s.dev.aliasAcc addr.toNat = some .wsc →
      bit v.toNat 0 = true →
      Answers (.aliasWrite port addr v) s (fun d => d = s.dev.writeReg port (s.dev.regFor (aliasTarget addr.toNat)).1
        (s.dev.regFor (aliasTarget addr.toNat)).2 (2 ^ aliasBit addr.toNat))) ∧
    (∀ (s : State) (port : Port) (addr : BitVec 24) (v : Word),
      s.Running →
      s.dev.PortsIdle →
      s.dev.openPair port = none →
      s.dev.addrWaits (aliasTarget addr.toNat) = false →
      s.dev.pageTakes (addr.toNat / 0x1000) = true →
      0x800 ≤ addr.toNat % 0x1000 →
      isGuarded addr.toNat = false →
      isGuard addr.toNat = false →
      (s.dev.regAt (aliasTarget addr.toNat)).isSome = true →
      s.dev.aliasAcc addr.toNat = some .wsc →
      bit v.toNat 0 = false →
      Idles (.aliasWrite port addr v) s) ∧
    (∀ (s : State) (port : Port) (addr : BitVec 24) (v : Word) (a : Acc),
      s.Running →
      s.dev.PortsIdle →
      s.dev.openPair port = none →
      s.dev.addrWaits (aliasTarget addr.toNat) = false →
      s.dev.pageTakes (addr.toNat / 0x1000) = true →
      0x800 ≤ addr.toNat % 0x1000 →
      isGuarded addr.toNat = false →
      isGuard addr.toNat = false →
      (s.dev.regAt (aliasTarget addr.toNat)).isSome = true →
      s.dev.aliasAcc addr.toNat = some a →
      a ≠ .wsc →
      Answers (.aliasWrite port addr v) s (fun d => d = s.dev.writeReg port (s.dev.regFor (aliasTarget addr.toNat)).1
        (s.dev.regFor (aliasTarget addr.toNat)).2 (setBits (s.dev.regStored (s.dev.regFor (aliasTarget addr.toNat)).1
        (s.dev.regFor (aliasTarget addr.toNat)).2) (aliasBit addr.toNat) (aliasBit addr.toNat) (bits v.toNat 0 0)))) ∧
    (∀ (s : State) (port : Port) (addr : BitVec 24) (v : Word) (n : Fin 32),
      s.Running →
      s.dev.PortsIdle →
      s.dev.openPair port = none →
      addr.toNat = 0x20800 + 4 * n.val →
      bit v.toNat 0 = true →
      s.dev.tow.pound.toNat + 2 ≤ (s.dev.strobeProgram n.val).pound.toNat →
      Does (.aliasWrite port addr v) s [.outputs, .bus] ([F.COUT_STAT_ALIGN_RESULT.key n.val, F.COUT_ALIGN_ARM_ARM.key 0])
        (fun d => (d.output n.val).program = some (s.dev.strobeProgram n.val) ∧ d.get F.COUT_STAT_ALIGN_RESULT n.val = 1 ∧
          bit (d.get F.COUT_ALIGN_ARM_ARM) n.val = true)) ∧
    (∀ (s : State) (port : Port) (addr : BitVec 24) (v : Word),
      s.Running →
      addr.toNat % 0x1000 < 0x800 →
      Idles (.aliasWrite port addr v) s) ∧
    (∀ (s : State) (port : Port) (page : BitVec 12) (v : Word),
      s.Running →
      s.dev.PortsIdle →
      s.dev.openPair port = none →
      s.dev.pageTakes page.toNat = true →
      indSpace page.toNat = true →
      Does (.indirectAddrWrite port page v) s [.bus] ([F.INDIRECT_ADDR_ADDR.key page.toNat,
        F.PAGE_STAT_IND_DROP.key page.toNat, F.IRQ_STAT_PAGE.key page.toNat])
        (fun d => d.get F.INDIRECT_ADDR_ADDR page.toNat = bits v.toNat 23 2 ∧
          d.bus = { s.dev.bus with staged := d.bus.staged })) ∧
    (∀ (s : State) (port : Port) (page : BitVec 12) (v : Word) (ch : Nat),
      s.Running →
      s.dev.PortsIdle →
      s.dev.openPair port = none →
      page = 0x30 →
      s.dev.pageTakes 0x30 = true →
      s.dev.indStopped 0x30 = false →
      s.dev.indAddr 0x30 = 0x400000 + 4 * ch →
      ch < 4096 →
      Store.get? s.dev.bus.staged 0x30 = none →
      s.dev.is F.PAGE_CTRL_IND_AINC 0x30 = true →
      Does (.indirectDataWrite port page v) s [.ledger, .bus] ([F.INDIRECT_ADDR_ADDR.key 0x30])
        (fun d => d.mapEntry ch = v.toNat.land 0x800FFFFF ∧ d.indAddr 0x30 = 0x400000 + 4 * (ch + 1) ∧
          d.ledger.cells = s.dev.ledger.cells)) ∧
    (∀ (s : State) (port : Port) (page : BitVec 12) (v : Word) (k j : Nat),
      s.Running →
      s.dev.PortsIdle →
      s.dev.openPair port = none →
      page = 0x32 →
      s.dev.pageClosed 0x32 = false →
      s.dev.indStopped 0x32 = false →
      s.dev.indAddr 0x32 = 16 * k + 4 * j →
      k < 65536 →
      j < 3 →
      Store.get? s.dev.bus.staged 0x32 = none →
      s.dev.is F.PAGE_CTRL_IND_AINC 0x32 = true →
      Does (.indirectDataWrite port page v) s [.bus] ([F.INDIRECT_ADDR_ADDR.key 0x32])
        (fun d => Store.get? d.bus.staged 0x32 = some (16 * k, [(j, v)]) ∧ d.eng.tt = s.dev.eng.tt ∧
          d.indAddr 0x32 = 16 * k + 4 * j + 4)) ∧
    (∀ (s : State) (port : Port) (page : BitVec 12) (v : Word),
      s.Running →
      s.dev.PortsIdle →
      s.dev.openPair port = none →
      s.dev.pageTakes page.toNat = true →
      indSpace page.toNat = true →
      s.dev.indStopped page.toNat = false →
      indPlace page.toNat (s.dev.indAddr page.toNat) = none →
      Does (.indirectDataWrite port page v) s [.bus] ([F.INDIRECT_ADDR_ADDR.key page.toNat,
        F.PAGE_STAT_IND_DROP.key page.toNat, F.PAGE_STAT_IND_UNIMPL.key page.toNat, F.IRQ_STAT_PAGE.key page.toNat])
        (fun d => d.get F.PAGE_STAT_IND_UNIMPL page.toNat = 1 ∧ d.bus = { s.dev.bus with staged := d.bus.staged })) ∧
    (∀ (s : State) (port : Port) (page : BitVec 12) (ch : Nat),
      s.Running →
      s.dev.PortsIdle →
      page = 0x30 →
      s.dev.pageTakes 0x30 = true →
      s.dev.indStopped 0x30 = false →
      s.dev.indAddr 0x30 = 0x400000 + 4 * ch →
      ch < 4096 →
      Store.get? s.dev.bus.staged 0x30 = none →
      s.dev.is F.PAGE_CTRL_IND_AINC 0x30 = true →
      Does (.indirectDataRead port page) s [.bus] ([F.INDIRECT_ADDR_ADDR.key 0x30])
        (fun d => d.bus.lastRead = BitVec.ofNat 32 ((s.dev.mapEntry ch).land 0x800FFFFF) ∧
          d.indAddr 0x30 = 0x400000 + 4 * (ch + 1) ∧ d.ledger = s.dev.ledger)) ∧
    (∀ (s : State) (port : Port) (page : BitVec 12) (p : IndPlace),
      s.Running →
      s.dev.PortsIdle →
      s.dev.pageTakes page.toNat = true →
      indSpace page.toNat = true →
      s.dev.indStopped page.toNat = false →
      indPlace page.toNat (s.dev.indAddr page.toNat) = some p →
      p.words = 1 →
      (page.toNat < 0x40 ∨ 0x80 ≤ page.toNat) →
      Does (.indirectDataRead port page) s [.bus] ([F.INDIRECT_ADDR_ADDR.key page.toNat, F.PAGE_STAT_IND_DROP.key page.toNat,
        F.IRQ_STAT_PAGE.key page.toNat])
        (fun d => d.bus.lastRead = BitVec.ofNat 32 (s.dev.indMasked page.toNat (s.dev.indAddr page.toNat) p.mask))) ∧
    (∀ (s : State) (port : Port) (page : BitVec 12),
      s.Running →
      s.dev.PortsIdle →
      s.dev.pageTakes page.toNat = true →
      indSpace page.toNat = true →
      s.dev.indStopped page.toNat = false →
      indPlace page.toNat (s.dev.indAddr page.toNat) = none →
      Does (.indirectDataRead port page) s [.bus] ([F.INDIRECT_ADDR_ADDR.key page.toNat, F.PAGE_STAT_IND_DROP.key page.toNat,
        F.PAGE_STAT_IND_UNIMPL.key page.toNat, F.IRQ_STAT_PAGE.key page.toNat])
        (fun d => d.bus.lastRead = 0 ∧ d.get F.PAGE_STAT_IND_UNIMPL page.toNat = 1)) ∧
    (∀ (s : State) (port : Port) (id : Nat) (x : Entry),
      s.Running →
      s.dev.PortsIdle →
      s.dev.pageTakes 0x30 = true →
      s.dev.indStopped 0x30 = false →
      s.dev.indAddr 0x30 = 32 * id →
      id < 131072 →
      s.dev.cell id = { entry := x } →
      Store.get? s.dev.bus.staged 0x30 = none →
      s.dev.is F.PAGE_CTRL_IND_AINC 0x30 = true →
      Does (.berthIndirectRead port) s [.bus] ([F.INDIRECT_ADDR_ADDR.key 0x30])
        (fun d => d.bus.lastRead = x.word 0 ∧ d.indAddr 0x30 = 32 * id + 4 ∧ d.ledger = s.dev.ledger)) ∧
    (∀ (s : State) (port : Port) (v : Word) (id : Nat) (j : Nat),
      s.Running →
      s.dev.PortsIdle →
      s.dev.openPair port = none →
      s.dev.pageTakes 0x30 = true →
      s.dev.indStopped 0x30 = false →
      s.dev.indAddr 0x30 = 32 * id + 4 * j →
      j < 7 →
      id < 131072 →
      s.dev.ledger.waiting = none →
      Store.get? s.dev.bus.staged 0x30 = none →
      s.dev.is F.PAGE_CTRL_IND_AINC 0x30 = true →
      Does (.berthIndirectWrite port v) s [.bus] ([F.INDIRECT_ADDR_ADDR.key 0x30])
        (fun d => Store.get? d.bus.staged 0x30 = some (32 * id, [(j, v)]) ∧ d.indAddr 0x30 = 32 * id + 4 * j + 4 ∧
          d.ledger = s.dev.ledger)) ∧
    (∀ (s : State) (port : Port) (v : Word) (id : Nat),
      s.Running →
      s.dev.PortsIdle →
      s.dev.openPair port = none →
      s.dev.pageTakes 0x30 = true →
      s.dev.indStopped 0x30 = false →
      s.dev.indAddr 0x30 = 32 * id + 28 →
      id < 131072 →
      s.dev.ledger.waiting = none →
      Store.get? s.dev.bus.staged 0x30 = none →
      s.dev.is F.PAGE_CTRL_IND_AINC 0x30 = true →
      (s.dev.cell id).boundNow = false →
      (s.dev.cell id).uncorr = 0 →
      Does (.berthIndirectWrite port v) s [.bus, .ledger] ([F.INDIRECT_ADDR_ADDR.key 0x30, F.LDG_STAT_IND_BUSY.key 0])
        (fun d => d.ledger = { s.dev.ledger with waiting := some (id, [(7, v)]) } ∧ d.get F.LDG_STAT_IND_BUSY = 1 ∧
          Store.get? d.bus.staged 0x30 = none)) ∧
    (∀ (s : State) (port : Port) (v : Word) (id : Nat),
      s.Running →
      s.dev.PortsIdle →
      s.dev.openPair port = none →
      s.dev.pageTakes 0x30 = true →
      s.dev.indStopped 0x30 = false →
      s.dev.indAddr 0x30 = 32 * id + 28 →
      id < 131072 →
      s.dev.ledger.waiting = none →
      (s.dev.cell id).boundNow = true →
      Does (.berthIndirectWrite port v) s [.bus] ([F.INDIRECT_ADDR_ADDR.key 0x30, F.PAGE_STAT_IND_DROP.key 0x30,
        F.IRQ_STAT_PAGE.key 0x30] ++ evKeys F.LDG_EVT_IND_REFUSED)
        (fun d => d.ledger = s.dev.ledger ∧ d.get F.LDG_EVT_IND_REFUSED = 1)) ∧
    (∀ (s : State) (port : Port) (v : Word),
      s.Running →
      s.dev.PortsIdle →
      s.dev.openPair port = none →
      s.dev.pageTakes 0x30 = true →
      s.dev.indStopped 0x30 = false →
      s.dev.indAddr 0x30 < 0x400000 →
      s.dev.ledger.waiting.isSome = true →
      Does (.berthIndirectWrite port v) s [.bus] ([F.INDIRECT_ADDR_ADDR.key 0x30, F.PAGE_STAT_IND_DROP.key 0x30,
        F.IRQ_STAT_PAGE.key 0x30] ++ evKeys F.LDG_EVT_IND_REFUSED)
        (fun d => d.ledger = s.dev.ledger ∧ d.get F.LDG_EVT_IND_REFUSED = 1))

/-- The first write of a guarded pair on an open page is held; its complement at the partner address writes the register;
  another guarded write there, or 16 REG cycles, fails the pair with GUARD_FAIL; the key unlocks a port,
  except the host port in SERVICE, and any other value locks it; an unlock expires; an access across a crossing whose clock is
  stopped sets XING_ERR. A scan starts clean with SCAN_EN set and its period passed; one that met an unreadable location ends
  INCOMPLETE, one that a write made dirty DIRTY, compared with nothing; a clean one with a COMMIT pending is copied into the
  reference, and else compared with a valid reference when CHECK_EN is set; COMMIT and a written reference take effect as the
  rules say. Choices of the model on which this rests: log entries 9, 19, 91, 101, 103 and 145. -/
def Obligations.GuardsCrossingsAndScan : Prop :=
  (∀ (s : State) (port : Port) (addr : BitVec 24) (v : Word),
      s.Running →
      s.dev.PortsIdle →
      s.dev.openPair port = none →
      (s.dev.writeTarget port addr.toNat).any s.dev.addrWaits = false →
      s.dev.pageTakes (addr.toNat / 0x1000) = true →
      (isGuarded addr.toNat = true ∨ isGuard addr.toNat = true) →
      (isGuarded addr.toNat = true → s.dev.unlocked port = false) →
      Does (.guardPairWrite port addr v) s [.bus] ([])
        (fun d => Store.get? d.bus.pair (portNo port) = some (addr.toNat, v.toNat) ∧ d.fields = s.dev.fields)) ∧
    (∀ (s : State) (port : Port) (addr : BitVec 24) (v : Word),
      s.Running →
      s.dev.PortsIdle →
      s.dev.openPair port = none →
      (s.dev.writeTarget port addr.toNat).any s.dev.addrWaits = false →
      s.dev.pageTakes (addr.toNat / 0x1000) = true →
      isGuarded addr.toNat = true →
      s.dev.unlocked port = true →
      Answers (.guardPairWrite port addr v) s (fun d => d = (s.dev.put (unlockedField port) 0 0).writeGuarded port addr.toNat
        v.toNat)) ∧
    (∀ (s : State) (port : Port) (addr : BitVec 24) (v : Word) (a w : Nat),
      s.Running →
      s.dev.PortsIdle →
      s.dev.openPair port = some (a, w) →
      (s.dev.writeTarget port addr.toNat).any s.dev.addrWaits = false →
      addr.toNat = pairPartner a →
      v.toNat + w = 0xFFFFFFFF →
      Answers (.guardPairWrite port addr v) s (fun d => d = (s.dev.closePair port).writeGuarded port (min a addr.toNat) (if a <
        addr.toNat then w else v.toNat))) ∧
    (∀ (s : State) (port : Port) (addr : BitVec 24) (v : Word) (w : Nat),
      s.Running →
      s.dev.PortsIdle →
      s.dev.openPair port = some (0x6080, w) →
      addr = 0x6480 →
      v.toNat + w = 0xFFFFFFFF →
      s.dev.is F.CFG_STAT_SCANNING = false →
      Does (.guardPairWrite port addr v) s [.bus] ([F.CFG_CTRL_RECOVERY.key 0, F.CFG_CTRL_CHECK_EN.key 0,
        F.CFG_CTRL_SCAN_EN.key 0])
        (fun d => Store.get? d.bus.pair (portNo port) = none ∧ d.get F.CFG_CTRL_RECOVERY = bits w 2 2 ∧
          d.get F.CFG_CTRL_CHECK_EN = bits w 1 1 ∧ d.get F.CFG_CTRL_SCAN_EN = bits w 0 0)) ∧
    (∀ (s : State) (port : Port) (addr : BitVec 24) (v : Word) (a w : Nat),
      s.Running →
      s.dev.PortsIdle →
      s.dev.openPair port = some (a, w) →
      (s.dev.writeTarget port addr.toNat).any s.dev.addrWaits = false →
      (addr.toNat ≠ pairPartner a ∨ v.toNat + w ≠ 0xFFFFFFFF) →
      (isGuarded addr.toNat = true ∨ isGuard addr.toNat = true) →
      Does (.guardPairWrite port addr v) s [.bus] ([F.PAGE_STAT_GUARD_FAIL.key (a / 0x1000), F.IRQ_STAT_PAGE.key (a / 0x1000)])
        (fun d => d.bus = { s.dev.bus with pair := Store.erase s.dev.bus.pair (portNo port) } ∧
          d.get F.PAGE_STAT_GUARD_FAIL (a / 0x1000) = 1)) ∧
    (∀ (s : State) (port : Port) (a w : Nat),
      s.Running →
      s.dev.openPair port = some (a, w) →
      Does (.guardTimeout port) s [.bus] ([F.PAGE_STAT_GUARD_FAIL.key (a / 0x1000), F.IRQ_STAT_PAGE.key (a / 0x1000)])
        (fun d => d.bus = { s.dev.bus with pair := Store.erase s.dev.bus.pair (portNo port) } ∧
          d.get F.PAGE_STAT_GUARD_FAIL (a / 0x1000) = 1)) ∧
    (∀ (s : State) (port : Port) (v : Word),
      s.Running →
      s.dev.PortsIdle →
      s.dev.openPair port = none →
      v = 0x3C69D2E1 →
      (port = .keeper ∨ s.dev.mode ≠ 0) →
      Does (.cfgUnlock port v) s [.bus] ([(unlockedField port).key 0])
        (fun d => d.unlocked port = true)) ∧
    (∀ (s : State) (v : Word),
      s.Running →
      s.dev.PortsIdle →
      s.dev.openPair .host = none →
      v = 0x3C69D2E1 →
      s.dev.mode = 0 →
      Does (.cfgUnlock .host v) s [.bus] ([F.PAGE_STAT_KEY_FAIL.key 6, F.IRQ_STAT_PAGE.key 6])
        (fun d => d.unlocked .host = s.dev.unlocked .host ∧ d.get F.PAGE_STAT_KEY_FAIL 6 = 1)) ∧
    (∀ (s : State) (port : Port) (v : Word),
      s.Running →
      s.dev.PortsIdle →
      s.dev.openPair port = none →
      v ≠ 0x3C69D2E1 →
      Does (.cfgUnlock port v) s [.bus] ([(unlockedField port).key 0])
        (fun d => d.unlocked port = false)) ∧
    (∀ (s : State) (port : Port),
      s.Running →
      Does (.unlockExpiry port) s [] ([(unlockedField port).key 0])
        (fun d => d.unlocked port = false)) ∧
    (∀ (s : State) (port : Port) (addr : BitVec 24) (write : Bool),
      s.Running →
      (s.dev.regAt addr.toNat).isSome = true →
      addr.toNat % 0x1000 ≠ 0x20 →
      s.dev.pageTakes (addr.toNat / 0x1000) = true →
      s.dev.noWharf (s.dev.regFor addr.toNat).1 (s.dev.regFor addr.toNat).2 = false →
      (s.dev.regFor addr.toNat).1.dom ≠ .aon →
      (s.dev.regFor addr.toNat).1.base ≠ 0x380C8 →
      s.dev.farStopped (s.dev.regFor addr.toNat).1 (s.dev.regFor addr.toNat).2 = true →
      Does (.xingTimeout port addr write) s [.bus] ([F.PAGE_STAT_XING_ERR.key (addr.toNat / 0x1000),
        F.IRQ_STAT_PAGE.key (addr.toNat / 0x1000), F.HSP_STAT_NEXT_STATUS.key 0] ++ evKeys F.HSP_EVT_XING_ERR)
        (fun d => d.get F.PAGE_STAT_XING_ERR (addr.toNat / 0x1000) = 1 ∧ bit (d.get F.HSP_STAT_NEXT_STATUS) 1 = true ∧
          d.get F.HSP_EVT_XING_ERR = 1 ∧ d.bus = (if write then s.dev.bus else { s.dev.bus with lastRead := 0 }))) ∧
    (∀ (s : State) (port : Port) (addr : BitVec 24) (write : Bool) (page : Nat),
      s.Running →
      addr.toNat / 0x1000 = page →
      addr.toNat % 0x1000 = 0x20 →
      (s.dev.regAt addr.toNat).isSome = true →
      s.dev.pageTakes page = true →
      s.dev.indStopped page = true →
      Does (.xingTimeout port addr write) s [.bus] ([F.PAGE_STAT_XING_ERR.key (page), F.IRQ_STAT_PAGE.key (page),
        F.HSP_STAT_NEXT_STATUS.key 0] ++ evKeys F.HSP_EVT_XING_ERR)
        (fun d => d.get F.PAGE_STAT_XING_ERR (page) = 1 ∧ bit (d.get F.HSP_STAT_NEXT_STATUS) 1 = true ∧
          d.get F.HSP_EVT_XING_ERR = 1 ∧ d.bus = (if write then s.dev.bus else { s.dev.bus with lastRead := 0 }))) ∧
    (∀ (s : State) (port : Port) (addr : BitVec 24) (c : Fin 16),
      s.Running →
      addr.toNat = 0x100C0 + 0x1000 * c.val →
      s.dev.pageClosed (0x10 + c.val) = false →
      s.dev.coreState c.val = 1 →
      Does (.xingTimeout port addr false) s [.bus] ([F.PAGE_STAT_XING_ERR.key (0x10 + c.val),
        F.IRQ_STAT_PAGE.key (0x10 + c.val), F.HSP_STAT_NEXT_STATUS.key 0] ++ evKeys F.HSP_EVT_XING_ERR)
        (fun d => d.get F.PAGE_STAT_XING_ERR (0x10 + c.val) = 1 ∧ bit (d.get F.HSP_STAT_NEXT_STATUS) 1 = true ∧
          d.get F.HSP_EVT_XING_ERR = 1 ∧ d.bus.lastRead = 0)) ∧
    (∀ (s : State),
      s.Running →
      s.dev.is F.CFG_CTRL_SCAN_EN = true →
      s.dev.is F.CFG_STAT_SCANNING = false →
      s.dev.scanTime = true →
      Does .cfgScan s [.bus] ([F.CFG_STAT_SCANNING.key 0])
        (fun d => d.get F.CFG_STAT_SCANNING = 1 ∧ (d.bus =
          { s.dev.bus with dirty := false, incomplete := false, commitScan := s.dev.is F.CFG_CMD_COMMIT, scanAt := if s.dev.tow.running then some s.dev.tow.ticks else none })))
          ∧
    (∀ (s : State) (uncorr : Bool),
      s.Running →
      s.dev.is F.CFG_STAT_SCANNING = true →
      (s.dev.bus.incomplete || uncorr || s.dev.scanStopped) = true →
      Does (.cfgScanDone uncorr) s [.freeCtr, .bus] ([F.CFG_STAT_SCANNING.key 0, F.CFG_CRC_LAST_CRC.key 0,
        F.CFG_STAT_SCAN_SEQ.key 0] ++ evKeys F.CFG_EVT_INCOMPLETE ++ evKeys F.CFG_EVT_SCAN_DONE)
        (fun d => d.get F.CFG_STAT_SCANNING = 0 ∧ d.get F.CFG_EVT_SCAN_DONE = 1 ∧
          d.get F.CFG_STAT_SCAN_SEQ = (s.dev.get F.CFG_STAT_SCAN_SEQ + 1) % 2 ^ 16 ∧ d.get F.CFG_EVT_INCOMPLETE = 1 ∧
          d.bus = { s.dev.bus with incomplete := true })) ∧
    (∀ (s : State) (uncorr : Bool),
      s.Running →
      s.dev.is F.CFG_STAT_SCANNING = true →
      (s.dev.bus.incomplete || uncorr || s.dev.scanStopped) = false →
      s.dev.bus.dirty = true →
      Does (.cfgScanDone uncorr) s [.freeCtr] ([F.CFG_STAT_SCANNING.key 0, F.CFG_CRC_LAST_CRC.key 0,
        F.CFG_STAT_SCAN_SEQ.key 0] ++ evKeys F.CFG_EVT_DIRTY ++ evKeys F.CFG_EVT_SCAN_DONE)
        (fun d => d.get F.CFG_STAT_SCANNING = 0 ∧ d.get F.CFG_EVT_SCAN_DONE = 1 ∧
          d.get F.CFG_STAT_SCAN_SEQ = (s.dev.get F.CFG_STAT_SCAN_SEQ + 1) % 2 ^ 16 ∧ d.get F.CFG_EVT_DIRTY = 1)) ∧
    (∀ (s : State) (uncorr : Bool),
      s.Running →
      s.dev.is F.CFG_STAT_SCANNING = true →
      (s.dev.bus.incomplete || uncorr || s.dev.scanStopped) = false →
      s.dev.bus.dirty = false →
      s.dev.bus.commitScan = true →
      Does (.cfgScanDone uncorr) s [] ([F.CFG_STAT_SCANNING.key 0, F.CFG_CRC_LAST_CRC.key 0, F.CFG_STAT_SCAN_SEQ.key 0,
        F.CFG_CRC_REF_CRC.key 0, F.CFG_STAT_REF_VALID.key 0, F.CFG_CMD_COMMIT.key 0] ++ evKeys F.CFG_EVT_COMMITTED ++
        evKeys F.CFG_EVT_SCAN_DONE)
        (fun d => d.get F.CFG_STAT_SCANNING = 0 ∧ d.get F.CFG_EVT_SCAN_DONE = 1 ∧
          d.get F.CFG_STAT_SCAN_SEQ = (s.dev.get F.CFG_STAT_SCAN_SEQ + 1) % 2 ^ 16 ∧
          d.get F.CFG_CRC_LAST_CRC = (s.dev.put F.CFG_STAT_SCANNING 0 0).configCrc % 2 ^ 32 ∧
          d.get F.CFG_CRC_REF_CRC = (s.dev.put F.CFG_STAT_SCANNING 0 0).configCrc % 2 ^ 32 ∧ d.get F.CFG_STAT_REF_VALID = 1 ∧
          d.get F.CFG_CMD_COMMIT = 0 ∧ d.get F.CFG_EVT_COMMITTED = 1)) ∧
    (∀ (s : State) (uncorr : Bool),
      s.Running →
      s.dev.is F.CFG_STAT_SCANNING = true →
      (s.dev.bus.incomplete || uncorr || s.dev.scanStopped) = false →
      s.dev.bus.dirty = false →
      s.dev.bus.commitScan = false →
      Does (.cfgScanDone uncorr) s [.flt] (reportKeys ++ ([F.CFG_STAT_SCANNING.key 0, F.CFG_CRC_LAST_CRC.key 0,
        F.CFG_STAT_SCAN_SEQ.key 0, F.CFG_MISMATCH_CNT_MISMATCHES.key 0] ++ evKeys F.CFG_EVT_MISMATCH ++
        evKeys F.CFG_EVT_SCAN_DONE))
        (fun d => d.get F.CFG_STAT_SCANNING = 0 ∧ d.get F.CFG_EVT_SCAN_DONE = 1 ∧
          d.get F.CFG_STAT_SCAN_SEQ = (s.dev.get F.CFG_STAT_SCAN_SEQ + 1) % 2 ^ 16 ∧
          d.get F.CFG_CRC_LAST_CRC = (s.dev.put F.CFG_STAT_SCANNING 0 0).configCrc % 2 ^ 32 ∧
          d.get F.CFG_CRC_REF_CRC = s.dev.get F.CFG_CRC_REF_CRC ∧
          (if s.dev.is F.CFG_CTRL_CHECK_EN && s.dev.is F.CFG_STAT_REF_VALID && (s.dev.put F.CFG_STAT_SCANNING 0 0).configCrc !=
          s.dev.get F.CFG_CRC_REF_CRC then d.get F.CFG_EVT_MISMATCH = 1 ∧
          d.get F.CFG_MISMATCH_CNT_MISMATCHES = (s.dev.get F.CFG_MISMATCH_CNT_MISMATCHES + 1) % 2 ^ 32 ∧
          s.dev.Reported d 11 0 2 0 else d.flt = s.dev.flt ∧ d.get F.CFG_MISMATCH_CNT_MISMATCHES =
          s.dev.get F.CFG_MISMATCH_CNT_MISMATCHES))) ∧
    (∀ (s : State),
      s.Running →
      Does .commitRequest s [] ([F.CFG_CMD_COMMIT.key 0])
        (fun d => d.get F.CFG_CMD_COMMIT = 1)) ∧
    (∀ (s : State) (v : Word),
      s.Running →
      Does (.cfgCrcRefWrite v) s [] ([F.CFG_CRC_REF_CRC.key 0, F.CFG_STAT_REF_VALID.key 0])
        (fun d => d.get F.CFG_CRC_REF_CRC = v.toNat ∧ d.get F.CFG_STAT_REF_VALID = 1))

/-- LANE_EN set turns a lane of an open quad from OFF to WAIT, and LANE_EN cleared with RETRAIN turns a lane that is not in
  service OFF; RETRAIN ends the attempt of a lane outside service and fails one in service. An attempt starts in ACQUIRE with
  the trims and drive of the lane, goes on to READY when the receiver is ready with a polarity that is allowed,
  and is marked for CAPS; a missed deadline puts it in QUIET, is counted and reported,
  and during step 7 warns once every enabled lane of its wharf has missed one,
  and the end of its backoff turns it to WAIT; lost signal or lock begins a training receiver again and fails a lane in
  service. Choices of the model on which this rests: log entries 8, 9, 15, 31, 91, 106, 138 and 140. -/
def Obligations.LaneTraining : Prop :=
  (∀ (s : State) (n : Byte) (v : Word),
      s.Running →
      s.dev.blockClosed (n.toNat / 4) = false →
      bit v.toNat 3 = false →
      Does (.laneEnable n v) s [.bus] ([F.LANE_STAT_STATE.key n.toNat, F.LANE_CTRL_TX_INV.key n.toNat,
        F.LANE_CTRL_RX_INV_AUTO.key n.toNat, F.LANE_CTRL_LANE_EN.key n.toNat])
        (fun d => d.laneState n.toNat = (if s.dev.laneState n.toNat = 0 ∧
          s.dev.blockOpened (n.toNat / 4) = true then 1 else s.dev.laneState n.toNat) ∧ d.whf = s.dev.whf ∧
          d.get F.LANE_CTRL_TX_INV n.toNat = bits v.toNat 2 2 ∧ d.get F.LANE_CTRL_RX_INV_AUTO n.toNat = bits v.toNat 1 1 ∧
          d.get F.LANE_CTRL_LANE_EN n.toNat = 1)) ∧
    (∀ (s : State) (n : Byte) (v : Word),
      s.Running →
      s.dev.blockClosed (n.toNat / 4) = false →
      bit v.toNat 3 = true →
      s.dev.laneState n.toNat ≠ 0 →
      s.dev.inService n.toNat = false →
      s.dev.laneState n.toNat ≠ 11 →
      Does (.laneEnable n v) s [.whf, .bus] ([F.LANE_STAT_STATE.key n.toNat, F.LANE_STAT_JOINED.key n.toNat,
        F.LANE_STAT_MISMATCH_WHY.key n.toNat, F.LANE_STAT_SIG_DET.key n.toNat, F.LANE_STAT_CDR_LOCK.key n.toNat,
        F.LANE_STAT_BLOCK_ALIGN.key n.toNat, F.LANE_CTRL_TX_INV.key n.toNat, F.LANE_CTRL_RX_INV_AUTO.key n.toNat,
        F.LANE_CTRL_LANE_EN.key n.toNat])
        (fun d => d.laneState n.toNat = (if s.dev.blockOpened (n.toNat / 4) then 1 else 0) ∧
          d.get F.LANE_STAT_JOINED n.toNat = 0 ∧ d.get F.LANE_STAT_MISMATCH_WHY n.toNat = 0 ∧
          d.get F.LANE_STAT_SIG_DET n.toNat = 0 ∧ d.get F.LANE_STAT_CDR_LOCK n.toNat = 0 ∧
          d.get F.LANE_STAT_BLOCK_ALIGN n.toNat = 0 ∧ d.whf = (s.dev.onLane n.toNat Lane.kept).whf ∧
          d.get F.LANE_CTRL_TX_INV n.toNat = bits v.toNat 2 2 ∧ d.get F.LANE_CTRL_RX_INV_AUTO n.toNat = bits v.toNat 1 1 ∧
          d.get F.LANE_CTRL_LANE_EN n.toNat = 1)) ∧
    (∀ (s : State) (n : Byte) (v : Word),
      s.Running →
      s.dev.blockClosed (n.toNat / 4) = false →
      bit v.toNat 0 = true →
      s.dev.laneState n.toNat ≠ 0 →
      s.dev.inService n.toNat = false →
      s.dev.laneState n.toNat ≠ 11 →
      Does (.laneRetrain n v) s [.whf, .bus] ([F.LANE_STAT_STATE.key n.toNat, F.LANE_STAT_JOINED.key n.toNat,
        F.LANE_STAT_MISMATCH_WHY.key n.toNat, F.LANE_STAT_SIG_DET.key n.toNat, F.LANE_STAT_CDR_LOCK.key n.toNat,
        F.LANE_STAT_BLOCK_ALIGN.key n.toNat, F.LANE_CTRL_TX_INV.key n.toNat, F.LANE_CTRL_RX_INV_AUTO.key n.toNat,
        F.LANE_CTRL_LANE_EN.key n.toNat])
        (fun d => d.laneState n.toNat = (if s.dev.blockOpened (n.toNat / 4) then 1 else 0) ∧
          d.get F.LANE_STAT_JOINED n.toNat = 0 ∧ d.get F.LANE_STAT_MISMATCH_WHY n.toNat = 0 ∧
          d.get F.LANE_STAT_SIG_DET n.toNat = 0 ∧ d.get F.LANE_STAT_CDR_LOCK n.toNat = 0 ∧
          d.get F.LANE_STAT_BLOCK_ALIGN n.toNat = 0 ∧ d.whf = (s.dev.onLane n.toNat Lane.kept).whf ∧
          d.get F.LANE_CTRL_TX_INV n.toNat = bits v.toNat 2 2 ∧ d.get F.LANE_CTRL_RX_INV_AUTO n.toNat = bits v.toNat 1 1 ∧
          d.get F.LANE_CTRL_LANE_EN n.toNat = 1)) ∧
    (∀ (s : State) (n : Byte) (v : Word),
      s.Running →
      s.dev.blockClosed (n.toNat / 4) = false →
      bit v.toNat 0 = false →
      s.dev.laneState n.toNat ≠ 0 →
      s.dev.inService n.toNat = false →
      Does (.laneRetrain n v) s [.whf, .bus] ([F.LANE_STAT_STATE.key n.toNat, F.LANE_STAT_JOINED.key n.toNat,
        F.LANE_STAT_MISMATCH_WHY.key n.toNat, F.LANE_STAT_SIG_DET.key n.toNat, F.LANE_STAT_CDR_LOCK.key n.toNat,
        F.LANE_STAT_BLOCK_ALIGN.key n.toNat, F.LANE_CTRL_TX_INV.key n.toNat, F.LANE_CTRL_RX_INV_AUTO.key n.toNat,
        F.LANE_CTRL_LANE_EN.key n.toNat])
        (fun d => d.laneState n.toNat = 0 ∧ d.get F.LANE_STAT_JOINED n.toNat = 0 ∧ d.get F.LANE_STAT_MISMATCH_WHY n.toNat = 0 ∧
          d.get F.LANE_STAT_SIG_DET n.toNat = 0 ∧ d.get F.LANE_STAT_CDR_LOCK n.toNat = 0 ∧
          d.get F.LANE_STAT_BLOCK_ALIGN n.toNat = 0 ∧ d.whf = (s.dev.onLane n.toNat Lane.kept).whf ∧
          d.get F.LANE_CTRL_TX_INV n.toNat = bits v.toNat 2 2 ∧ d.get F.LANE_CTRL_RX_INV_AUTO n.toNat = bits v.toNat 1 1 ∧
          d.get F.LANE_CTRL_LANE_EN n.toNat = 0)) ∧
    (∀ (s : State) (n : Byte) (v : Word),
      s.Running →
      s.dev.blockClosed (n.toNat / 4) = false →
      (s.dev.inService n.toNat && s.dev.joined n.toNat && !(s.dev.lane n.toNat).failed) = true →
      Does (.laneRetrain n v) s [.whf, .bus] ([F.LANE_CTRL_TX_INV.key n.toNat, F.LANE_CTRL_RX_INV_AUTO.key n.toNat,
        F.LANE_CTRL_LANE_EN.key n.toNat] ++ evKeys F.LANE_EVT_FAIL n.toNat)
        (fun d => d.laneState n.toNat = s.dev.laneState n.toNat ∧
          (d.whf = (s.dev.onLane n.toNat (fun (x : Lane) => { x with failed := true })).whf) ∧
          d.get F.LANE_EVT_FAIL n.toNat = 1 ∧ d.get F.LANE_CTRL_TX_INV n.toNat = bits v.toNat 2 2 ∧
          d.get F.LANE_CTRL_RX_INV_AUTO n.toNat = bits v.toNat 1 1 ∧ d.get F.LANE_CTRL_LANE_EN n.toNat = bits v.toNat 0 0)) ∧
    (∀ (s : State) (n : Byte),
      s.Running →
      s.dev.blockClosed (n.toNat / 4) = false →
      s.dev.laneState n.toNat = 1 →
      s.dev.groupDue (n.toNat / 4) = true →
      s.dev.kpr.restarting = false →
      s.dev.calRuns 4 n.toNat = false →
      Does (.trainingStart n) s [.whf] ([F.LANE_STAT_STATE.key n.toNat, F.LANE_STAT_MISMATCH_WHY.key n.toNat])
        (fun d => d.laneState n.toNat = 2 ∧ d.get F.LANE_STAT_MISMATCH_WHY n.toNat = 0 ∧
          (d.wharf (s.dev.wharfOf n.toNat)).towpath = (if s.dev.wharfUp (s.dev.wharfOf n.toNat) then (s.dev.wharf
          (s.dev.wharfOf n.toNat)).towpath else s.dev.is F.WHF_CFG_MODE (s.dev.wharfOf n.toNat)) ∧
          (d.whf = (((if s.dev.wharfUp (s.dev.wharfOf n.toNat) then s.dev else s.dev.onWharf (s.dev.wharfOf n.toNat) (fun w =>
          { w with towpath := s.dev.is F.WHF_CFG_MODE (s.dev.wharfOf n.toNat) })).takeTrims n.toNat).onLane n.toNat (fun (x :
          Lane) => { x.kept with start := s.dev.tow.ticks, eq := s.dev.txEqWord n.toNat })).whf))) ∧
    (∀ (s : State) (n : Byte),
      s.Running →
      (s.dev.groupDue (n.toNat / 4) = false ∨ s.dev.kpr.restarting = true ∨ s.dev.calRuns 4 n.toNat =
        true ∨ s.dev.laneState n.toNat ≠ 1) →
      Idles (.trainingStart n) s) ∧
    (∀ (s : State) (n : Byte) (inverted : Bool),
      s.Running →
      s.dev.laneState n.toNat = 2 →
      (inverted = false ∨ s.dev.is F.LANE_CTRL_RX_INV_AUTO n.toNat = true) →
      Does (.acquireDone n inverted) s [] ([F.LANE_STAT_STATE.key n.toNat, F.LANE_STAT_SIG_DET.key n.toNat,
        F.LANE_STAT_CDR_LOCK.key n.toNat, F.LANE_STAT_RX_INV.key n.toNat])
        (fun d => d.laneState n.toNat = 3 ∧ d.get F.LANE_STAT_SIG_DET n.toNat = 1 ∧ d.get F.LANE_STAT_CDR_LOCK n.toNat = 1 ∧
          d.is F.LANE_STAT_RX_INV n.toNat = inverted)) ∧
    (∀ (s : State) (n : Byte),
      s.Running →
      s.dev.is F.LANE_CTRL_RX_INV_AUTO n.toNat = false →
      Idles (.acquireDone n true) s) ∧
    (∀ (s : State) (n : Byte),
      s.Running →
      s.dev.laneState n.toNat = 3 →
      Does (.capsEnter n) s [.whf] ([])
        (fun d => (d.whf = (s.dev.onLane n.toNat (fun (x : Lane) => { x with capsDue := true })).whf))) ∧
    (∀ (s : State) (n : Byte),
      s.Running →
      2 ≤ s.dev.laneState n.toNat ∧ s.dev.laneState n.toNat ≤ 5 →
      (s.dev.lane n.toNat).start ≠ s.dev.tow.ticks →
      (s.dev.atStep 6 && s.dev.enabledWharf (s.dev.wharfOf n.toNat) && !s.dev.missedFirst (s.dev.wharfOf n.toNat)) = false →
      Does (.trainingDeadline n) s [.whf, .flt] (reportKeys ++ ([F.LANE_STAT_STATE.key n.toNat,
        F.LANE_STAT_MISMATCH_WHY.key n.toNat, F.LANE_STAT_BACKOFF_K.key n.toNat,
        F.LANE_RETRY_CNT_RETRIES.key n.toNat] ++ evKeys F.LANE_EVT_DEADLINE n.toNat ++ evKeys F.LANE_EVT_QUIET n.toNat))
        (fun d => d.laneState n.toNat = 8 ∧ d.get F.LANE_STAT_MISMATCH_WHY n.toNat = 0 ∧
          (d.whf = (s.dev.onLane n.toNat (fun (x : Lane) => { x.kept with start := x.start, misses := x.misses + 1 })).whf) ∧
          d.get F.LANE_STAT_BACKOFF_K n.toNat = min (s.dev.lane n.toNat).misses s.dev.backoffCap ∧
          d.get F.LANE_EVT_DEADLINE n.toNat = 1 ∧ d.get F.LANE_EVT_QUIET n.toNat = 1 ∧
          d.get F.LANE_RETRY_CNT_RETRIES n.toNat = (s.dev.get F.LANE_RETRY_CNT_RETRIES n.toNat + 1) % 2 ^ 16 ∧
          s.dev.Reported d 8 0 1 n.toNat)) ∧
    (∀ (s : State) (n : Byte),
      s.Running →
      (s.dev.laneState n.toNat < 2 ∨ 5 < s.dev.laneState n.toNat ∨ (s.dev.lane n.toNat).start = s.dev.tow.ticks) →
      Idles (.trainingDeadline n) s) ∧
    (∀ (s : State) (n : Byte),
      s.Running →
      2 ≤ s.dev.laneState n.toNat ∧ s.dev.laneState n.toNat ≤ 5 →
      (s.dev.lane n.toNat).start ≠ s.dev.tow.ticks →
      (s.dev.atStep 6 && s.dev.enabledWharf (s.dev.wharfOf n.toNat) && !s.dev.missedFirst (s.dev.wharfOf n.toNat)) = true →
      DoesWide (.trainingDeadline n) s [.whf, .flt] ([0, 0x0A, 0x40 + n.toNat / 4])
        (fun d => d.laneState n.toNat = 8 ∧ (d.whf = (s.dev.onLane n.toNat (fun (x : Lane) =>
          { x.kept with start := x.start, misses := x.misses + 1 })).whf) ∧
          d.get F.LANE_STAT_BACKOFF_K n.toNat = min (s.dev.lane n.toNat).misses s.dev.backoffCap ∧
          d.get F.LANE_EVT_DEADLINE n.toNat = 1 ∧ d.get F.LANE_EVT_QUIET n.toNat = 1 ∧
          d.get F.LANE_RETRY_CNT_RETRIES n.toNat = (s.dev.get F.LANE_RETRY_CNT_RETRIES n.toNat + 1) % 2 ^ 16 ∧
          (d.missedFirst (s.dev.wharfOf n.toNat) = true → d.get F.SYS_BOOT_STAT_WARN_QUIET = 1))) ∧
    (∀ (s : State) (n : Byte),
      s.Running →
      s.dev.laneState n.toNat = 8 →
      Does (.quietBackoffEnd n) s [.whf] ([F.LANE_STAT_STATE.key n.toNat, F.LANE_STAT_JOINED.key n.toNat,
        F.LANE_STAT_MISMATCH_WHY.key n.toNat, F.LANE_STAT_SIG_DET.key n.toNat, F.LANE_STAT_CDR_LOCK.key n.toNat,
        F.LANE_STAT_BLOCK_ALIGN.key n.toNat])
        (fun d => d.laneState n.toNat = (if s.dev.is F.LANE_CTRL_LANE_EN n.toNat && s.dev.blockOpened (n.toNat / 4) then 1 else
          0) ∧ d.get F.LANE_STAT_JOINED n.toNat = 0 ∧ d.get F.LANE_STAT_MISMATCH_WHY n.toNat = 0 ∧
          d.get F.LANE_STAT_SIG_DET n.toNat = 0 ∧ d.get F.LANE_STAT_CDR_LOCK n.toNat = 0 ∧
          d.get F.LANE_STAT_BLOCK_ALIGN n.toNat = 0 ∧ d.whf = (s.dev.onLane n.toNat Lane.kept).whf)) ∧
    (∀ (s : State) (n : Byte),
      s.Running →
      2 ≤ s.dev.laneState n.toNat ∧ s.dev.laneState n.toNat ≤ 5 →
      Does (.lossOfSignal n false) s [.whf] ([F.LANE_STAT_STATE.key n.toNat,
        F.LANE_STAT_MISMATCH_WHY.key n.toNat] ++ [F.LANE_STAT_SIG_DET.key n.toNat,
        F.LANE_RETRY_CNT_LOS.key n.toNat] ++ evKeys F.LANE_EVT_LOS n.toNat)
        (fun d => d.laneState n.toNat = 2 ∧ d.get F.LANE_STAT_MISMATCH_WHY n.toNat = 0 ∧
          (d.whf = ((s.dev.takeTrims n.toNat).onLane n.toNat (fun (x : Lane) =>
          { x.kept with start := s.dev.tow.ticks, eq := s.dev.txEqWord n.toNat })).whf) ∧
          d.get F.LANE_STAT_SIG_DET n.toNat = 0 ∧ d.get F.LANE_RETRY_CNT_LOS n.toNat =
          (s.dev.get F.LANE_RETRY_CNT_LOS n.toNat + 1) % 2 ^ 16 ∧ d.get F.LANE_EVT_LOS n.toNat = 1)) ∧
    (∀ (s : State) (n : Byte),
      s.Running →
      (s.dev.inService n.toNat && s.dev.joined n.toNat && !(s.dev.lane n.toNat).failed) = true →
      Does (.lossOfSignal n false) s [.whf] ([F.LANE_STAT_SIG_DET.key n.toNat,
        F.LANE_RETRY_CNT_LOS.key n.toNat] ++ evKeys F.LANE_EVT_LOS n.toNat ++ evKeys F.LANE_EVT_FAIL n.toNat)
        (fun d => d.laneState n.toNat = s.dev.laneState n.toNat ∧
          (d.whf = (s.dev.onLane n.toNat (fun (x : Lane) => { x with failed := true })).whf) ∧
          d.get F.LANE_EVT_FAIL n.toNat = 1 ∧ d.get F.LANE_STAT_SIG_DET n.toNat = 0 ∧
          d.get F.LANE_RETRY_CNT_LOS n.toNat = (s.dev.get F.LANE_RETRY_CNT_LOS n.toNat + 1) % 2 ^ 16 ∧
          d.get F.LANE_EVT_LOS n.toNat = 1)) ∧
    (∀ (s : State) (n : Byte),
      s.Running →
      6 ≤ s.dev.laneState n.toNat →
      s.dev.laneState n.toNat ≠ 11 →
      (s.dev.inService n.toNat && s.dev.joined n.toNat && !(s.dev.lane n.toNat).failed) = false →
      Does (.lossOfSignal n false) s [] ([F.LANE_STAT_SIG_DET.key n.toNat,
        F.LANE_RETRY_CNT_LOS.key n.toNat] ++ evKeys F.LANE_EVT_LOS n.toNat)
        (fun d => d.laneState n.toNat = s.dev.laneState n.toNat ∧ d.get F.LANE_STAT_SIG_DET n.toNat = 0 ∧
          d.get F.LANE_RETRY_CNT_LOS n.toNat = (s.dev.get F.LANE_RETRY_CNT_LOS n.toNat + 1) % 2 ^ 16 ∧
          d.get F.LANE_EVT_LOS n.toNat = 1)) ∧
    (∀ (s : State) (n : Byte),
      s.Running →
      2 ≤ s.dev.laneState n.toNat →
      s.dev.laneState n.toNat ≠ 11 →
      Does (.lossOfSignal n true) s [] ([F.LANE_STAT_SIG_DET.key n.toNat])
        (fun d => d.get F.LANE_STAT_SIG_DET n.toNat = 1)) ∧
    (∀ (s : State) (n : Byte) (back : Bool),
      s.Running →
      (s.dev.laneState n.toNat ≤ 1 ∨ s.dev.laneState n.toNat = 11) →
      Idles (.lossOfSignal n back) s) ∧
    (∀ (s : State) (n : Byte) (alignmentOnly : Bool),
      s.Running →
      3 ≤ s.dev.laneState n.toNat ∧ s.dev.laneState n.toNat ≤ 5 →
      Does (.cdrLockLoss n alignmentOnly false) s [.whf] ([F.LANE_STAT_STATE.key n.toNat,
        F.LANE_STAT_MISMATCH_WHY.key n.toNat] ++ [F.LANE_STAT_CDR_LOCK.key n.toNat, F.LANE_STAT_BLOCK_ALIGN.key n.toNat])
        (fun d => d.laneState n.toNat = 2 ∧ d.get F.LANE_STAT_MISMATCH_WHY n.toNat = 0 ∧
          (d.whf = ((s.dev.takeTrims n.toNat).onLane n.toNat (fun (x : Lane) =>
          { x.kept with start := x.start, eq := s.dev.txEqWord n.toNat })).whf) ∧
          d.get F.LANE_STAT_CDR_LOCK n.toNat = (if alignmentOnly then s.dev.get F.LANE_STAT_CDR_LOCK n.toNat else 0) ∧
          d.get F.LANE_STAT_BLOCK_ALIGN n.toNat = 0)) ∧
    (∀ (s : State) (n : Byte) (alignmentOnly : Bool),
      s.Running →
      (s.dev.inService n.toNat && s.dev.joined n.toNat && !(s.dev.lane n.toNat).failed) = true →
      Does (.cdrLockLoss n alignmentOnly false) s [.whf] ([F.LANE_STAT_CDR_LOCK.key n.toNat,
        F.LANE_STAT_BLOCK_ALIGN.key n.toNat] ++ evKeys F.LANE_EVT_FAIL n.toNat)
        (fun d => d.laneState n.toNat = s.dev.laneState n.toNat ∧
          (d.whf = (s.dev.onLane n.toNat (fun (x : Lane) => { x with aliveRx := none, failed := true })).whf) ∧
          d.get F.LANE_EVT_FAIL n.toNat = 1 ∧ d.get F.LANE_STAT_CDR_LOCK n.toNat =
          (if alignmentOnly then s.dev.get F.LANE_STAT_CDR_LOCK n.toNat else 0) ∧ d.get F.LANE_STAT_BLOCK_ALIGN n.toNat = 0)) ∧
    (∀ (s : State) (n : Byte) (alignmentOnly : Bool),
      s.Running →
      (s.dev.laneState n.toNat = 2 ∨ (6 ≤ s.dev.laneState n.toNat ∧ s.dev.laneState n.toNat ≠ 11 ∧
        (s.dev.inService n.toNat && s.dev.joined n.toNat && !(s.dev.lane n.toNat).failed) = false)) →
      Does (.cdrLockLoss n alignmentOnly false) s [.whf] ([F.LANE_STAT_CDR_LOCK.key n.toNat,
        F.LANE_STAT_BLOCK_ALIGN.key n.toNat])
        (fun d => d.laneState n.toNat = s.dev.laneState n.toNat ∧
          (d.whf = (s.dev.onLane n.toNat (fun (x : Lane) => { x with aliveRx := none })).whf) ∧
          d.get F.LANE_STAT_CDR_LOCK n.toNat = (if alignmentOnly then s.dev.get F.LANE_STAT_CDR_LOCK n.toNat else 0) ∧
          d.get F.LANE_STAT_BLOCK_ALIGN n.toNat = 0)) ∧
    (∀ (s : State) (n : Byte) (alignmentOnly : Bool),
      s.Running →
      2 ≤ s.dev.laneState n.toNat →
      s.dev.laneState n.toNat ≠ 11 →
      Does (.cdrLockLoss n alignmentOnly true) s [] ([F.LANE_STAT_CDR_LOCK.key n.toNat, F.LANE_STAT_BLOCK_ALIGN.key n.toNat])
        (fun d => d.get F.LANE_STAT_CDR_LOCK n.toNat = (if alignmentOnly then s.dev.get F.LANE_STAT_CDR_LOCK n.toNat else 1) ∧
          d.get F.LANE_STAT_BLOCK_ALIGN n.toNat = (if alignmentOnly then 1 else s.dev.get F.LANE_STAT_BLOCK_ALIGN n.toNat))) ∧
    (∀ (s : State) (n : Byte) (alignmentOnly back : Bool),
      s.Running →
      (s.dev.laneState n.toNat ≤ 1 ∨ s.dev.laneState n.toNat = 11) →
      Idles (.cdrLockLoss n alignmentOnly back) s)

/-- A lane in DESKEW whose deskew is done and whose partner has joined it enters service,
  its training time recorded: in Towpath mode the joined lanes are ACTIVE,
  in partner mode they are in EXCHANGE; a wharf that was not trained is trained and no longer down. A joined lane that fails in
  service is marked. At the boundary a failed lane, while another joined lane stays in service and the wharf is not due to go
  down or to be reset, leaves its wharf: each command with a Barge in its slots is rejected as LATE,
  the credits of those Barges return, and the lane sends the training pattern. Choices of the model on which this rests: log
  entries 8, 90, 91, 92, 93 and 139. -/
def Obligations.LaneService : Prop :=
  (∀ (s : State) (n : Byte),
      s.Running →
      s.dev.laneState n.toNat = 5 →
      (s.dev.lane n.toNat).deskewed = true →
      (s.dev.lane n.toNat).farJoined = true →
      (s.dev.wharf (s.dev.wharfOf n.toNat)).towpath = true →
      DoesWide (.laneJoin n) s [.whf, .tow] ([0x40 + n.toNat / 4])
        (fun d => d.get F.LANE_STAT_JOINED n.toNat = 1 ∧ d.get F.LANE_STAT_BACKOFF_K n.toNat = 0 ∧
          d.get F.LANE_TRAIN_TIME_TIME_US n.toNat = min 0xFFFF ((s.dev.tow.ticks - (s.dev.lane n.toNat).start) * 2 / 125) ∧
          d.get F.LANE_EVT_TRAINED n.toNat = 1 ∧ ((d.joinedLanes (s.dev.wharfOf n.toNat)).all (fun m => d.laneState m == (if
          (s.dev.wharf (s.dev.wharfOf n.toNat)).towpath then 7 else 6)) = true) ∧
          (d.joinedLanes (s.dev.wharfOf n.toNat) = (s.dev.wharfLanes (s.dev.wharfOf n.toNat)).filter (fun m => s.dev.joined m
          || m == n.toNat)) ∧ (if s.dev.wharfUp (s.dev.wharfOf n.toNat) then d.get F.WHF_EVT_REJOINED (s.dev.wharfOf n.toNat) =
          1 ∧ d.tow = s.dev.tow else d.get F.WHF_EVT_TRAINED (s.dev.wharfOf n.toNat) = 1 ∧
          d.get F.WHF_STAT_DOWN (s.dev.wharfOf n.toNat) = 0 ∧ d.tow =
          (s.dev.onTowWharf (s.dev.wharfOf n.toNat) (fun w => { w with since := s.dev.tow.ticks })).tow) ∧
          (d.whf = (((s.dev.onLane n.toNat (fun (x : Lane) => { x with misses := 0, bad := 0 }))).onWharf (s.dev.wharfOf
          n.toNat) (fun (w : Wharf) =>
          { w with  dry := if s.dev.wharfUp (s.dev.wharfOf n.toNat) then w.dry else 0, gotValid := w.gotValid || !s.dev.wharfUp (s.dev.wharfOf n.toNat) })).whf)))
          ∧
    (∀ (s : State) (n : Byte),
      s.Running →
      s.dev.laneState n.toNat = 5 →
      (s.dev.lane n.toNat).deskewed = true →
      (s.dev.lane n.toNat).farJoined = true →
      (s.dev.wharf (s.dev.wharfOf n.toNat)).towpath = false →
      DoesWide (.laneJoin n) s [.whf, .tow] ([0x40 + n.toNat / 4])
        (fun d => d.get F.LANE_STAT_JOINED n.toNat = 1 ∧ d.get F.LANE_STAT_BACKOFF_K n.toNat = 0 ∧
          d.get F.LANE_TRAIN_TIME_TIME_US n.toNat = min 0xFFFF ((s.dev.tow.ticks - (s.dev.lane n.toNat).start) * 2 / 125) ∧
          d.get F.LANE_EVT_TRAINED n.toNat = 1 ∧ ((d.joinedLanes (s.dev.wharfOf n.toNat)).all (fun m => d.laneState m == (if
          (s.dev.wharf (s.dev.wharfOf n.toNat)).towpath then 7 else 6)) = true) ∧
          (d.joinedLanes (s.dev.wharfOf n.toNat) = (s.dev.wharfLanes (s.dev.wharfOf n.toNat)).filter (fun m => s.dev.joined m
          || m == n.toNat)) ∧ (if s.dev.wharfUp (s.dev.wharfOf n.toNat) then d.get F.WHF_EVT_REJOINED (s.dev.wharfOf n.toNat) =
          1 ∧ d.tow = s.dev.tow else d.get F.WHF_EVT_TRAINED (s.dev.wharfOf n.toNat) = 1 ∧
          d.get F.WHF_STAT_DOWN (s.dev.wharfOf n.toNat) = 0 ∧ d.tow =
          (s.dev.onTowWharf (s.dev.wharfOf n.toNat) (fun w => { w with since := s.dev.tow.ticks })).tow) ∧
          (d.whf = (((s.dev.onLane n.toNat (fun (x : Lane) => { x with misses := 0, bad := 0 }))).onWharf (s.dev.wharfOf
          n.toNat) (fun (w : Wharf) =>
          { w with asked := false, requesting := false, grant := none, fresh := w.fresh || !s.dev.wharfUp (s.dev.wharfOf n.toNat), dry := if s.dev.wharfUp (s.dev.wharfOf n.toNat) then w.dry else 0, gotValid := w.gotValid || !s.dev.wharfUp (s.dev.wharfOf n.toNat) })).whf)))
          ∧
    (∀ (s : State) (n : Byte),
      s.Running →
      (s.dev.laneState n.toNat ≠ 5 ∨ (s.dev.lane n.toNat).deskewed = false ∨ (s.dev.lane n.toNat).farJoined = false) →
      Idles (.laneJoin n) s) ∧
    (∀ (s : State) (n : Byte),
      s.Running →
      (s.dev.inService n.toNat && s.dev.joined n.toNat && !(s.dev.lane n.toNat).failed) = true →
      Does (.laneFailure n) s [.whf] (evKeys F.LANE_EVT_FAIL n.toNat)
        (fun d => d.laneState n.toNat = s.dev.laneState n.toNat ∧
          (d.whf = (s.dev.onLane n.toNat (fun (x : Lane) => { x with failed := true })).whf) ∧
          d.get F.LANE_EVT_FAIL n.toNat = 1)) ∧
    (∀ (s : State) (n : Byte),
      s.Running →
      (s.dev.inService n.toNat && s.dev.joined n.toNat && !(s.dev.lane n.toNat).failed) = false →
      Idles (.laneFailure n) s) ∧
    (∀ (s : State) (n : Byte) (k : Fin 4),
      s.Running →
      ((s.dev.lane n.toNat).failed && s.dev.joined n.toNat && s.dev.hasOther n.toNat) = true →
      s.dev.downDue (s.dev.wharfOf n.toNat) = false →
      (s.dev.wharf (s.dev.wharfOf n.toNat)).resetDue = false →
      Does (.laneShed n) s [.whf, .flt, .eng, .freeCtr] ([F.LANE_STAT_STATE.key n.toNat, F.LANE_STAT_JOINED.key n.toNat,
        F.LANE_STAT_MISMATCH_WHY.key n.toNat, F.LANE_STAT_SIG_DET.key n.toNat, F.LANE_STAT_CDR_LOCK.key n.toNat,
        F.LANE_STAT_BLOCK_ALIGN.key n.toNat] ++ [F.WHF_CREDIT_HELD.key (s.dev.wharfOf n.toNat)] ++
        evKeys F.LANE_EVT_SHED n.toNat ++ evKeys F.WHF_EVT_SHED (s.dev.wharfOf n.toNat) ++ logKeys ++ reportKeys)
        (fun d => d.laneState n.toNat = (if s.dev.is F.LANE_CTRL_LANE_EN n.toNat && s.dev.blockOpened (n.toNat / 4) then 1 else
          0) ∧ d.get F.LANE_STAT_JOINED n.toNat = 0 ∧ d.get F.LANE_STAT_MISMATCH_WHY n.toNat = 0 ∧
          d.get F.LANE_STAT_SIG_DET n.toNat = 0 ∧ d.get F.LANE_STAT_CDR_LOCK n.toNat = 0 ∧
          d.get F.LANE_STAT_BLOCK_ALIGN n.toNat = 0 ∧ d.get F.LANE_EVT_SHED n.toNat = 1 ∧
          d.get F.WHF_EVT_SHED (s.dev.wharfOf n.toNat) = 1 ∧ (d.get F.WHF_CREDIT_HELD (s.dev.wharfOf n.toNat) =
          min 64 (s.dev.get F.WHF_CREDIT_HELD (s.dev.wharfOf n.toNat) + ((s.dev.reserved (s.dev.wharfOf n.toNat)).filter (fun
          (b : Barge) => b.lane == n.toNat)).length)) ∧ (d.whf = (s.dev.onLane n.toNat (fun (x : Lane) =>
          { x.kept with shed := true })).whf) ∧ (d.eng =
          { s.dev.eng with flights := s.dev.eng.flights.filter (fun (f : Flight) => !f.barge?.any (fun (b : Barge) => b.wharf == s.dev.wharfOf n.toNat && b.lane == n.toNat)), counts0 := d.eng.counts0, counts1 := d.eng.counts1, counts2 := d.eng.counts2, counts3 := d.eng.counts3 })
          ∧ d.flt.queue = (s.dev.reportAt 8 0 3 n.toNat (some (s.dev.tow.pound + 1))).flt.queue ∧
          d.get F.FLT_LOST_CNT_LOST = (s.dev.reportAt 8 0 3 n.toNat (some (s.dev.tow.pound + 1))).get F.FLT_LOST_CNT_LOST ∧
          (d.eng.counts k).rejected = (s.dev.eng.counts k).rejected + ofSource k ((s.dev.eng.flights.filter (fun (f : Flight)
          => f.barge?.any (fun (b : Barge) => b.wharf == s.dev.wharfOf n.toNat && b.lane == n.toNat))).map (fun (f : Flight) =>
          f.cmd)) ∧ (d.eng.counts k).pending = (s.dev.eng.counts k).pending - ofSource k ((s.dev.eng.flights.filter (fun (f :
          Flight) => f.barge?.any (fun (b : Barge) => b.wharf == s.dev.wharfOf n.toNat && b.lane == n.toNat))).map (fun (f :
          Flight) => f.cmd)) ∧ (d.eng.counts k).late = (s.dev.eng.counts k).late + ofSource k ((s.dev.eng.flights.filter (fun
          (f : Flight) => f.barge?.any (fun (b : Barge) => b.wharf == s.dev.wharfOf n.toNat && b.lane == n.toNat))).map (fun (f
          : Flight) => f.cmd)) ∧ (d.eng.counts k).applied = (s.dev.eng.counts k).applied ∧
          (d.eng.counts k).accepted = (s.dev.eng.counts k).accepted)) ∧
    (∀ (s : State) (n : Byte),
      s.Running →
      (((s.dev.lane n.toNat).failed && s.dev.joined n.toNat && s.dev.hasOther n.toNat) =
        false ∨ s.dev.downDue (s.dev.wharfOf n.toNat) = true ∨ (s.dev.wharf (s.dev.wharfOf n.toNat)).resetDue = true) →
      Idles (.laneShed n) s)

/-- A frame with a bad sync header, a bad CRC or a wrong ALIVE is counted and its slots are discarded; the fourth bad one in a
  row fails a joined lane in service; on a bonded wharf it stands in the deskew hold for the frame of its pound,
  or for a frame whose pound has been released without it, which has counted already. A valid frame shows signal,
  lock and alignment; in service it returns its credits; one that comes after the release of its pound is dropped,
  one of a bonded wharf is held, and an EVENT slot of a single lane enters the event queue of the decision unit where there is
  room. In READY each slot that is not empty is a bad slot. In CAPS a matching CAPABILITY is counted and its second in a row
  leads a bonded lane to DESKEW; one that fails a test leads to MISMATCH,
  is reported and shown. The frames held for a pound are released when every joined lane has one there,
  or an invalid one in its place, or the deskew time has passed, and wait before; a lane without one counts as invalid for each
  pound it misses, and owes those frames; a STATUS slot released replaces WHF_PSTAT. Choices of the model on which this rests:
  log entries 7, 8, 90, 91, 92 and 138. -/
def Obligations.ReceivedFrames : Prop :=
  (∀ (s : State) (n : Byte) (f : BitVec 256) (reading : Nat),
      s.Running →
      s.dev.blockClosed (n.toNat / 4) = false →
      (framing (s.dev.laneState n.toNat) = true ∨ s.dev.laneState n.toNat = 3) →
      ((s.dev.inService n.toNat && s.dev.wharfWidth (s.dev.wharfOf n.toNat) != 0) = false ∨ (s.dev.lane n.toNat).owed = []) →
      Does (.laneFrameReceive n false f reading) s [.whf] ([F.LANE_FRAME_ERR_CNT_SYNC.key n.toNat] ++
        evKeys F.LANE_EVT_FAIL n.toNat)
        (fun d => d.get F.LANE_FRAME_ERR_CNT_SYNC n.toNat = (s.dev.get F.LANE_FRAME_ERR_CNT_SYNC n.toNat + 1) % 2 ^ 8 ∧
          d.laneState n.toNat = s.dev.laneState n.toNat ∧ (d.whf =
          (if (s.dev.inService n.toNat && s.dev.wharfWidth (s.dev.wharfOf n.toNat) != 0) then ((s.dev.onLane n.toNat (fun (x :
          Lane) => { x with aliveRx := if frameGood f then some (frameAlive f) else x.aliveRx, bad := x.bad + 1, capRun := 0, failed := x.failed || (decide (3 ≤ (s.dev.lane n.toNat).bad) && (s.dev.inService n.toNat && s.dev.joined n.toNat && !(s.dev.lane n.toNat).failed)) }))).onWharf
          (s.dev.wharfOf n.toNat) (fun (w : Wharf) =>
          { w with held := w.held ++ [({ lane := n.toNat, report := s.dev.reportLane (s.dev.wharfOf n.toNat) == some n.toNat, arr := 0, frame := none } : HeldFrame)] })
          else ((s.dev.onLane n.toNat (fun (x : Lane) =>
          { x with aliveRx := if frameGood f then some (frameAlive f) else x.aliveRx, bad := x.bad + 1, capRun := 0, failed := x.failed || (decide (3 ≤ (s.dev.lane n.toNat).bad) && (s.dev.inService n.toNat && s.dev.joined n.toNat && !(s.dev.lane n.toNat).failed)) })))).whf)
          ∧ ((decide (3 ≤ (s.dev.lane n.toNat).bad) && (s.dev.inService n.toNat && s.dev.joined n.toNat && !(s.dev.lane
          n.toNat).failed)) = true → d.get F.LANE_EVT_FAIL n.toNat = 1))) ∧
    (∀ (s : State) (n : Byte) (f : BitVec 256) (reading : Nat),
      s.Running →
      s.dev.blockClosed (n.toNat / 4) = false →
      (framing (s.dev.laneState n.toNat) = true ∨ s.dev.laneState n.toNat = 3) →
      ((s.dev.inService n.toNat && s.dev.wharfWidth (s.dev.wharfOf n.toNat) != 0) = false ∨ (s.dev.lane n.toNat).owed = []) →
      frameGood f = false →
      Does (.laneFrameReceive n true f reading) s [.whf] ([F.LANE_FRAME_ERR_CNT_CRC.key n.toNat] ++
        evKeys F.LANE_EVT_FAIL n.toNat)
        (fun d => d.get F.LANE_FRAME_ERR_CNT_CRC n.toNat = (s.dev.get F.LANE_FRAME_ERR_CNT_CRC n.toNat + 1) % 2 ^ 16 ∧
          d.laneState n.toNat = s.dev.laneState n.toNat ∧ (d.whf =
          (if (s.dev.inService n.toNat && s.dev.wharfWidth (s.dev.wharfOf n.toNat) != 0) then ((s.dev.onLane n.toNat (fun (x :
          Lane) => { x with aliveRx := x.aliveRx, bad := x.bad + 1, capRun := 0, failed := x.failed || (decide (3 ≤ (s.dev.lane n.toNat).bad) && (s.dev.inService n.toNat && s.dev.joined n.toNat && !(s.dev.lane n.toNat).failed)) }))).onWharf
          (s.dev.wharfOf n.toNat) (fun (w : Wharf) =>
          { w with held := w.held ++ [({ lane := n.toNat, report := s.dev.reportLane (s.dev.wharfOf n.toNat) == some n.toNat, arr := 0, frame := none } : HeldFrame)] })
          else ((s.dev.onLane n.toNat (fun (x : Lane) =>
          { x with aliveRx := x.aliveRx, bad := x.bad + 1, capRun := 0, failed := x.failed || (decide (3 ≤ (s.dev.lane n.toNat).bad) && (s.dev.inService n.toNat && s.dev.joined n.toNat && !(s.dev.lane n.toNat).failed)) })))).whf)
          ∧ ((decide (3 ≤ (s.dev.lane n.toNat).bad) && (s.dev.inService n.toNat && s.dev.joined n.toNat && !(s.dev.lane
          n.toNat).failed)) = true → d.get F.LANE_EVT_FAIL n.toNat = 1))) ∧
    (∀ (s : State) (n : Byte) (f : BitVec 256) (reading a : Nat),
      s.Running →
      s.dev.blockClosed (n.toNat / 4) = false →
      (framing (s.dev.laneState n.toNat) = true ∨ s.dev.laneState n.toNat = 3) →
      ((s.dev.inService n.toNat && s.dev.wharfWidth (s.dev.wharfOf n.toNat) != 0) = false ∨ (s.dev.lane n.toNat).owed = []) →
      frameGood f = true →
      (s.dev.lane n.toNat).aliveRx = some a →
      (a + 1) % 16 ≠ frameAlive f →
      Does (.laneFrameReceive n true f reading) s [.whf] ([F.LANE_FRAME_ERR_CNT_ALIVE.key n.toNat] ++
        evKeys F.LANE_EVT_FAIL n.toNat)
        (fun d => d.get F.LANE_FRAME_ERR_CNT_ALIVE n.toNat = (s.dev.get F.LANE_FRAME_ERR_CNT_ALIVE n.toNat + 1) % 2 ^ 8 ∧
          d.laneState n.toNat = s.dev.laneState n.toNat ∧ (d.whf =
          (if (s.dev.inService n.toNat && s.dev.wharfWidth (s.dev.wharfOf n.toNat) != 0) then ((s.dev.onLane n.toNat (fun (x :
          Lane) => { x with aliveRx := some (frameAlive f), bad := x.bad + 1, capRun := 0, failed := x.failed || (decide (3 ≤ (s.dev.lane n.toNat).bad) && (s.dev.inService n.toNat && s.dev.joined n.toNat && !(s.dev.lane n.toNat).failed)) }))).onWharf
          (s.dev.wharfOf n.toNat) (fun (w : Wharf) =>
          { w with held := w.held ++ [({ lane := n.toNat, report := s.dev.reportLane (s.dev.wharfOf n.toNat) == some n.toNat, arr := 0, frame := none } : HeldFrame)] })
          else ((s.dev.onLane n.toNat (fun (x : Lane) =>
          { x with aliveRx := some (frameAlive f), bad := x.bad + 1, capRun := 0, failed := x.failed || (decide (3 ≤ (s.dev.lane n.toNat).bad) && (s.dev.inService n.toNat && s.dev.joined n.toNat && !(s.dev.lane n.toNat).failed)) })))).whf)
          ∧ ((decide (3 ≤ (s.dev.lane n.toNat).bad) && (s.dev.inService n.toNat && s.dev.joined n.toNat && !(s.dev.lane
          n.toNat).failed)) = true → d.get F.LANE_EVT_FAIL n.toNat = 1))) ∧
    (∀ (s : State) (n : Byte) (f : BitVec 256) (reading : Nat) (p8 : Nat) (rest : List Nat),
      s.Running →
      s.dev.blockClosed (n.toNat / 4) = false →
      frameGood f = false →
      (s.dev.inService n.toNat && s.dev.wharfWidth (s.dev.wharfOf n.toNat) != 0) = true →
      (s.dev.lane n.toNat).owed = p8 :: rest →
      Does (.laneFrameReceive n true f reading) s [.whf] ([F.LANE_FRAME_ERR_CNT_CRC.key n.toNat])
        (fun d => d.get F.LANE_FRAME_ERR_CNT_CRC n.toNat = (s.dev.get F.LANE_FRAME_ERR_CNT_CRC n.toNat + 1) % 2 ^ 16 ∧
          d.laneState n.toNat = s.dev.laneState n.toNat ∧ (d.whf =
          (s.dev.onLane n.toNat (fun (x : Lane) => { x with capRun := 0, owed := rest })).whf))) ∧
    (∀ (s : State) (n : Byte) (f : BitVec 256) (reading : Nat),
      s.Running →
      s.dev.blockClosed (n.toNat / 4) = false →
      frameGood f = true →
      (s.dev.lane n.toNat).aliveRx.all (fun a => (a + 1) % 16 == frameAlive f) = true →
      s.dev.inService n.toNat = true →
      (s.dev.lane n.toNat).owed.contains (frameP8 f) = true →
      Does (.laneFrameReceive n true f reading) s [.whf] ([F.LANE_STAT_BLOCK_ALIGN.key n.toNat,
        F.LANE_STAT_SIG_DET.key n.toNat, F.LANE_STAT_CDR_LOCK.key n.toNat])
        (fun d => (d.whf = (s.dev.onLane n.toNat (fun (x : Lane) =>
          { x with aliveRx := some (frameAlive f), arr := some (s.dev.arrivalOffset (frameP8 f) (s.dev.laneStamp n.toNat reading)), owed := (x.owed.dropWhile (fun (p : Nat) => p != frameP8 f)).drop 1 })).whf)
          ∧ d.get F.LANE_STAT_BLOCK_ALIGN n.toNat = 1 ∧ d.get F.LANE_STAT_SIG_DET n.toNat = 1 ∧
          d.get F.LANE_STAT_CDR_LOCK n.toNat = 1)) ∧
    (∀ (s : State) (n : Byte) (f : BitVec 256) (reading : Nat),
      s.Running →
      s.dev.blockClosed (n.toNat / 4) = false →
      frameGood f = true →
      (s.dev.lane n.toNat).aliveRx.all (fun a => (a + 1) % 16 == frameAlive f) = true →
      s.dev.inService n.toNat = true →
      (s.dev.lane n.toNat).owed.contains (frameP8 f) = false →
      s.dev.wharfWidth (s.dev.wharfOf n.toNat) ≠ 0 →
      Does (.laneFrameReceive n true f reading) s [.whf, .tow] ([F.LANE_STAT_BLOCK_ALIGN.key n.toNat,
        F.LANE_STAT_SIG_DET.key n.toNat, F.LANE_STAT_CDR_LOCK.key n.toNat] ++ [F.WHF_CREDIT_HELD.key (s.dev.wharfOf n.toNat)])
        (fun d => (d.whf = (((s.dev.onLane n.toNat (fun (x : Lane) =>
          { x with aliveRx := some (frameAlive f), arr := some (s.dev.arrivalOffset (frameP8 f) (s.dev.laneStamp n.toNat reading)), bad := 0, owed := [], lastCredit := if ((s.dev.wharf (s.dev.wharfOf n.toNat)).towpath || (s.dev.wharf (s.dev.wharfOf n.toNat)).requesting) then x.lastCredit else frameCredit f }))).onWharf
          (s.dev.wharfOf n.toNat) (fun (w : Wharf) =>
          { w with gotValid := true, held := w.held ++ [({ lane := n.toNat, report := s.dev.reportLane (s.dev.wharfOf n.toNat) == some n.toNat, arr := s.dev.arrivalOffset (frameP8 f) (s.dev.laneStamp n.toNat reading), frame := some f } : HeldFrame)] })).whf)
          ∧ d.get F.WHF_CREDIT_HELD (s.dev.wharfOf n.toNat) = (if ((s.dev.wharf (s.dev.wharfOf n.toNat)).towpath ||
          (s.dev.wharf (s.dev.wharfOf n.toNat)).requesting) then s.dev.get F.WHF_CREDIT_HELD (s.dev.wharfOf n.toNat) else min
          64 (s.dev.get F.WHF_CREDIT_HELD (s.dev.wharfOf n.toNat) + ((frameCredit f + 16 - (s.dev.lane n.toNat).lastCredit) %
          16))) ∧ d.get F.LANE_STAT_BLOCK_ALIGN n.toNat = 1 ∧ d.get F.LANE_STAT_SIG_DET n.toNat = 1 ∧
          d.get F.LANE_STAT_CDR_LOCK n.toNat = 1 ∧ d.tow = (if s.dev.reportLane (s.dev.wharfOf n.toNat) =
          some n.toNat then s.dev.noteArrival (s.dev.wharfOf n.toNat) (frameP8 f) (s.dev.laneStamp n.toNat reading) else
          s.dev).tow)) ∧
    (∀ (s : State) (n : Byte) (f : BitVec 256) (reading : Nat),
      s.Running →
      s.dev.blockClosed (n.toNat / 4) = false →
      frameGood f = true →
      (s.dev.lane n.toNat).aliveRx.all (fun a => (a + 1) % 16 == frameAlive f) = true →
      s.dev.inService n.toNat = true →
      (s.dev.lane n.toNat).owed.contains (frameP8 f) = false →
      s.dev.wharfWidth (s.dev.wharfOf n.toNat) = 0 →
      slotType (frameSlot0 f) = 0 →
      slotType (frameSlot1 f) = 0 →
      Does (.laneFrameReceive n true f reading) s [.whf, .tow] ([F.LANE_STAT_BLOCK_ALIGN.key n.toNat,
        F.LANE_STAT_SIG_DET.key n.toNat, F.LANE_STAT_CDR_LOCK.key n.toNat] ++ [F.WHF_CREDIT_HELD.key (s.dev.wharfOf n.toNat)])
        (fun d => (d.whf = (((s.dev.onLane n.toNat (fun (x : Lane) =>
          { x with aliveRx := some (frameAlive f), arr := some (s.dev.arrivalOffset (frameP8 f) (s.dev.laneStamp n.toNat reading)), bad := 0, owed := [], lastCredit := if ((s.dev.wharf (s.dev.wharfOf n.toNat)).towpath || (s.dev.wharf (s.dev.wharfOf n.toNat)).requesting) then x.lastCredit else frameCredit f }))).onWharf
          (s.dev.wharfOf n.toNat) (fun (w : Wharf) => { w with gotValid := true })).whf) ∧
          d.get F.WHF_CREDIT_HELD (s.dev.wharfOf n.toNat) = (if ((s.dev.wharf (s.dev.wharfOf n.toNat)).towpath || (s.dev.wharf
          (s.dev.wharfOf n.toNat)).requesting) then s.dev.get F.WHF_CREDIT_HELD (s.dev.wharfOf n.toNat) else min 64 (s.dev.get
          F.WHF_CREDIT_HELD (s.dev.wharfOf n.toNat) + ((frameCredit f + 16 - (s.dev.lane n.toNat).lastCredit) % 16))) ∧
          d.get F.LANE_STAT_BLOCK_ALIGN n.toNat = 1 ∧ d.get F.LANE_STAT_SIG_DET n.toNat = 1 ∧
          d.get F.LANE_STAT_CDR_LOCK n.toNat = 1 ∧ d.tow = (if s.dev.reportLane (s.dev.wharfOf n.toNat) =
          some n.toNat then s.dev.noteArrival (s.dev.wharfOf n.toNat) (frameP8 f) (s.dev.laneStamp n.toNat reading) else
          s.dev).tow)) ∧
    (∀ (s : State) (n : Byte) (f : BitVec 256) (reading : Nat),
      s.Running →
      s.dev.blockClosed (n.toNat / 4) = false →
      frameGood f = true →
      (s.dev.lane n.toNat).aliveRx.all (fun a => (a + 1) % 16 == frameAlive f) = true →
      s.dev.inService n.toNat = true →
      (s.dev.lane n.toNat).owed.contains (frameP8 f) = false →
      s.dev.wharfWidth (s.dev.wharfOf n.toNat) = 0 →
      (s.dev.wharf (s.dev.wharfOf n.toNat)).towpath = false →
      slotType (frameSlot0 f) = 8 →
      slotType (frameSlot1 f) = 0 →
      s.dev.dec.evq.length < 1024 →
      Does (.laneFrameReceive n true f reading) s [.whf, .dec, .tow] ([F.LANE_STAT_BLOCK_ALIGN.key n.toNat,
        F.LANE_STAT_SIG_DET.key n.toNat, F.LANE_STAT_CDR_LOCK.key n.toNat] ++
        [F.WHF_CREDIT_HELD.key (s.dev.wharfOf n.toNat)] ++ [F.DEC_CNT_COUNT.key 0])
        (fun d => (d.whf = (((s.dev.onLane n.toNat (fun (x : Lane) =>
          { x with aliveRx := some (frameAlive f), arr := some (s.dev.arrivalOffset (frameP8 f) (s.dev.laneStamp n.toNat reading)), bad := 0, owed := [], lastCredit := if ((s.dev.wharf (s.dev.wharfOf n.toNat)).towpath || (s.dev.wharf (s.dev.wharfOf n.toNat)).requesting) then x.lastCredit else frameCredit f }))).onWharf
          (s.dev.wharfOf n.toNat) (fun (w : Wharf) => { w with gotValid := true })).whf) ∧
          d.get F.WHF_CREDIT_HELD (s.dev.wharfOf n.toNat) = (if ((s.dev.wharf (s.dev.wharfOf n.toNat)).towpath || (s.dev.wharf
          (s.dev.wharfOf n.toNat)).requesting) then s.dev.get F.WHF_CREDIT_HELD (s.dev.wharfOf n.toNat) else min 64 (s.dev.get
          F.WHF_CREDIT_HELD (s.dev.wharfOf n.toNat) + ((frameCredit f + 16 - (s.dev.lane n.toNat).lastCredit) % 16))) ∧
          d.get F.LANE_STAT_BLOCK_ALIGN n.toNat = 1 ∧ d.get F.LANE_STAT_SIG_DET n.toNat = 1 ∧
          d.get F.LANE_STAT_CDR_LOCK n.toNat = 1 ∧ d.tow = (if s.dev.reportLane (s.dev.wharfOf n.toNat) =
          some n.toNat then s.dev.noteArrival (s.dev.wharfOf n.toNat) (frameP8 f) (s.dev.laneStamp n.toNat reading) else
          s.dev).tow ∧ d.dec = { s.dev.dec with evq := insertBefore DecEvent.before ({ slot := frameSlot0 f, wharf := s.dev.wharfOf n.toNat, pound := s.dev.tow.pound, lane := n.toNat, place := 0 } : DecEvent) s.dev.dec.evq }
          ∧ d.get F.DEC_CNT_COUNT 0 = (s.dev.get F.DEC_CNT_COUNT 0 + 1) % 2 ^ 32)) ∧
    (∀ (s : State) (n : Byte) (f : BitVec 256) (reading : Nat),
      s.Running →
      s.dev.blockClosed (n.toNat / 4) = false →
      frameGood f = true →
      (s.dev.lane n.toNat).aliveRx.all (fun a => (a + 1) % 16 == frameAlive f) = true →
      s.dev.laneState n.toNat = 4 →
      slotType (frameSlot0 f) = 12 →
      slotType (frameSlot1 f) = 0 →
      ((s.dev.onLane n.toNat (fun x =>
        { x with arr := some (s.dev.arrivalOffset (frameP8 f) (s.dev.laneStamp n.toNat reading)) })).mismatchWhy n.toNat
        (frameSlot0 f)) = 0 →
      (s.dev.lane n.toNat).capRun = 0 →
      Does (.laneFrameReceive n true f reading) s [.whf] ([F.LANE_STAT_BLOCK_ALIGN.key n.toNat,
        F.LANE_STAT_SIG_DET.key n.toNat, F.LANE_STAT_CDR_LOCK.key n.toNat])
        (fun d => (d.whf = (s.dev.onLane n.toNat (fun (x : Lane) =>
          { x with aliveRx := some (frameAlive f), arr := some (s.dev.arrivalOffset (frameP8 f) (s.dev.laneStamp n.toNat reading)), bad := 0, owed := [], lastCredit := if ((s.dev.wharf (s.dev.wharfOf n.toNat)).towpath || (s.dev.wharf (s.dev.wharfOf n.toNat)).requesting) then x.lastCredit else frameCredit f, farCap := some (frameSlot0 f), capRun := 1 })).whf)
          ∧ d.laneState n.toNat = 4 ∧ d.get F.LANE_STAT_BLOCK_ALIGN n.toNat = 1 ∧ d.get F.LANE_STAT_SIG_DET n.toNat = 1 ∧
          d.get F.LANE_STAT_CDR_LOCK n.toNat = 1)) ∧
    (∀ (s : State) (n : Byte) (f : BitVec 256) (reading : Nat),
      s.Running →
      s.dev.blockClosed (n.toNat / 4) = false →
      frameGood f = true →
      (s.dev.lane n.toNat).aliveRx.all (fun a => (a + 1) % 16 == frameAlive f) = true →
      s.dev.laneState n.toNat = 4 →
      slotType (frameSlot0 f) = 12 →
      slotType (frameSlot1 f) = 0 →
      ((s.dev.onLane n.toNat (fun x =>
        { x with arr := some (s.dev.arrivalOffset (frameP8 f) (s.dev.laneStamp n.toNat reading)) })).mismatchWhy n.toNat
        (frameSlot0 f)) = 0 →
      1 ≤ (s.dev.lane n.toNat).capRun →
      s.dev.wharfWidth (s.dev.wharfOf n.toNat) ≠ 0 →
      Does (.laneFrameReceive n true f reading) s [.whf] ([F.LANE_STAT_BLOCK_ALIGN.key n.toNat,
        F.LANE_STAT_SIG_DET.key n.toNat, F.LANE_STAT_CDR_LOCK.key n.toNat, F.LANE_STAT_STATE.key n.toNat])
        (fun d => (d.whf = (s.dev.onLane n.toNat (fun (x : Lane) =>
          { x with aliveRx := some (frameAlive f), arr := some (s.dev.arrivalOffset (frameP8 f) (s.dev.laneStamp n.toNat reading)), bad := 0, owed := [], lastCredit := if ((s.dev.wharf (s.dev.wharfOf n.toNat)).towpath || (s.dev.wharf (s.dev.wharfOf n.toNat)).requesting) then x.lastCredit else frameCredit f, farCap := some (frameSlot0 f), capRun := x.capRun + 1, deskewed := false, farJoined := bit (frameSlot0 f).toNat 95 })).whf)
          ∧ d.laneState n.toNat = 5 ∧ d.get F.LANE_STAT_BLOCK_ALIGN n.toNat = 1 ∧ d.get F.LANE_STAT_SIG_DET n.toNat = 1 ∧
          d.get F.LANE_STAT_CDR_LOCK n.toNat = 1)) ∧
    (∀ (s : State) (n : Byte) (f : BitVec 256) (reading : Nat),
      s.Running →
      s.dev.blockClosed (n.toNat / 4) = false →
      frameGood f = true →
      (s.dev.lane n.toNat).aliveRx.all (fun a => (a + 1) % 16 == frameAlive f) = true →
      s.dev.laneState n.toNat = 4 →
      slotType (frameSlot0 f) = 12 →
      slotType (frameSlot1 f) = 0 →
      ((s.dev.onLane n.toNat (fun x =>
        { x with arr := some (s.dev.arrivalOffset (frameP8 f) (s.dev.laneStamp n.toNat reading)) })).mismatchWhy n.toNat
        (frameSlot0 f)) ≠ 0 →
      Does (.laneFrameReceive n true f reading) s [.whf, .flt] (reportKeys ++ ([F.LANE_STAT_BLOCK_ALIGN.key n.toNat,
        F.LANE_STAT_SIG_DET.key n.toNat, F.LANE_STAT_CDR_LOCK.key n.toNat, F.LANE_STAT_STATE.key n.toNat,
        F.LANE_STAT_MISMATCH_WHY.key n.toNat] ++ evKeys F.LANE_EVT_MISMATCH n.toNat))
        (fun d => (d.whf = (s.dev.onLane n.toNat (fun (x : Lane) =>
          { x with aliveRx := some (frameAlive f), arr := some (s.dev.arrivalOffset (frameP8 f) (s.dev.laneStamp n.toNat reading)), bad := 0, owed := [], lastCredit := if ((s.dev.wharf (s.dev.wharfOf n.toNat)).towpath || (s.dev.wharf (s.dev.wharfOf n.toNat)).requesting) then x.lastCredit else frameCredit f, farCap := some (frameSlot0 f), capRun := 0 })).whf)
          ∧ d.laneState n.toNat = 9 ∧ (d.get F.LANE_STAT_MISMATCH_WHY n.toNat =
          ((s.dev.onLane n.toNat (fun x =>
          { x with arr := some (s.dev.arrivalOffset (frameP8 f) (s.dev.laneStamp n.toNat reading)) })).mismatchWhy n.toNat
          (frameSlot0 f))) ∧ d.get F.LANE_STAT_BLOCK_ALIGN n.toNat = 1 ∧ d.get F.LANE_STAT_SIG_DET n.toNat = 1 ∧
          d.get F.LANE_STAT_CDR_LOCK n.toNat = 1 ∧ d.get F.LANE_EVT_MISMATCH n.toNat = 1 ∧ s.dev.Reported d 8 0 2 n.toNat)) ∧
    (∀ (s : State) (n : Byte) (f : BitVec 256) (reading : Nat),
      s.Running →
      s.dev.blockClosed (n.toNat / 4) = false →
      frameGood f = true →
      (s.dev.lane n.toNat).aliveRx.all (fun a => (a + 1) % 16 == frameAlive f) = true →
      s.dev.laneState n.toNat = 3 →
      Does (.laneFrameReceive n true f reading) s [.whf] ([F.LANE_STAT_BLOCK_ALIGN.key n.toNat,
        F.LANE_STAT_SIG_DET.key n.toNat, F.LANE_STAT_CDR_LOCK.key n.toNat] ++
        [F.WHF_CNT_BAD_SLOTS.key (s.dev.wharfOf n.toNat)] ++ evKeys F.WHF_EVT_BAD_SLOT (s.dev.wharfOf n.toNat))
        (fun d => (d.whf = (s.dev.onLane n.toNat (fun (x : Lane) =>
          { x with aliveRx := some (frameAlive f), arr := some (s.dev.arrivalOffset (frameP8 f) (s.dev.laneStamp n.toNat reading)), bad := 0, owed := [], capRun := 0, lastCredit := if ((s.dev.wharf (s.dev.wharfOf n.toNat)).towpath || (s.dev.wharf (s.dev.wharfOf n.toNat)).requesting) then x.lastCredit else frameCredit f })).whf)
          ∧ d.laneState n.toNat = 3 ∧ d.get F.WHF_CNT_BAD_SLOTS (s.dev.wharfOf n.toNat) =
          (s.dev.get F.WHF_CNT_BAD_SLOTS (s.dev.wharfOf n.toNat) + ((if slotType (frameSlot0 f) ≠ 0 then 1 else 0) + (if
          slotType (frameSlot1 f) ≠ 0 then 1 else 0))) % 2 ^ 16 ∧
          (0 < ((if slotType (frameSlot0 f) ≠ 0 then 1 else 0) + (if slotType (frameSlot1 f) ≠ 0 then 1 else 0)) →
          d.get F.WHF_EVT_BAD_SLOT (s.dev.wharfOf n.toNat) = 1) ∧ d.get F.LANE_STAT_BLOCK_ALIGN n.toNat = 1 ∧
          d.get F.LANE_STAT_SIG_DET n.toNat = 1 ∧ d.get F.LANE_STAT_CDR_LOCK n.toNat = 1)) ∧
    (∀ (s : State) (h : Byte) (expired : Bool) (k p8 : Nat),
      s.Running →
      s.dev.heldPound h.toNat = some (k, p8) →
      (expired || (s.dev.joinedLanes h.toNat).all (fun n => (heldUpTo ((s.dev.wharf h.toNat).heldOn n) k p8).isSome)) = true →
      Answers (.deskewRelease h expired) s (fun d => (d.wharf h.toNat).held =
        (s.dev.wharfLanes h.toNat).flatMap (fun n => ((s.dev.wharf h.toNat).heldOn n).drop ((heldUpTo ((s.dev.wharf
        h.toNat).heldOn n) k p8).getD (min k (((s.dev.wharf h.toNat).heldOn n).takeWhile (fun (x : HeldFrame) =>
        x.frame.isNone)).length))) ∧ ((s.dev.joinedLanes h.toNat).all (fun n => if (heldUpTo ((s.dev.wharf h.toNat).heldOn n) k
        p8).isSome then (d.lane n).bad == (s.dev.lane n).bad && (d.lane n).owed == (s.dev.lane n).owed else (d.lane n).bad ==
        (s.dev.lane n).bad + (k + 1 - (min k (((s.dev.wharf h.toNat).heldOn n).takeWhile (fun (x : HeldFrame) =>
        x.frame.isNone)).length)) && (d.lane n).owed == (s.dev.lane n).owed ++
        (List.range (k + 1 - (min k (((s.dev.wharf h.toNat).heldOn n).takeWhile (fun (x : HeldFrame) =>
        x.frame.isNone)).length))).map (fun (i : Nat) => (p8 + 256 + 1 + i - (k + 1 - (min k (((s.dev.wharf h.toNat).heldOn
        n).takeWhile (fun (x : HeldFrame) => x.frame.isNone)).length))) % 256)) = true))) ∧
    (∀ (s : State) (h : Byte) (expired : Bool) (k p8 : Nat),
      s.Running →
      s.dev.heldPound h.toNat = some (k, p8) →
      (expired || (s.dev.joinedLanes h.toNat).all (fun n => (heldUpTo ((s.dev.wharf h.toNat).heldOn n) k p8).isSome)) = false →
      Idles (.deskewRelease h expired) s) ∧
    (∀ (s : State) (h : Byte) (expired : Bool),
      s.Running →
      s.dev.heldPound h.toNat = none →
      Idles (.deskewRelease h expired) s) ∧
    (∀ (s : State) (h : Byte) (expired : Bool) (x : HeldFrame) (f : BitVec 256),
      s.Running →
      (s.dev.wharf h.toNat).held = [x] →
      s.dev.joinedLanes h.toNat = [x.lane] →
      (s.dev.wharf h.toNat).towpath = false →
      x.frame = some f →
      slotType (frameSlot0 f) = 10 →
      slotType (frameSlot1 f) = 0 →
      Does (.deskewRelease h expired) s [.whf] ([F.WHF_PSTAT_PSTATE.key h.toNat, F.WHF_PSTAT_QLEVEL.key h.toNat,
        F.WHF_PSTAT_TEMP.key h.toNat, F.WHF_PSTAT_ALARMS.key h.toNat] ++ evKeys F.WHF_EVT_PSTAT_NEW h.toNat)
        (fun d => (d.whf = (s.dev.onWharf h.toNat (fun w => { w with held := [] })).whf) ∧
          d.get F.WHF_PSTAT_PSTATE h.toNat = bits (frameSlot0 f).toNat 107 104 ∧
          d.get F.WHF_PSTAT_QLEVEL h.toNat = bits (frameSlot0 f).toNat 103 96 ∧
          d.get F.WHF_PSTAT_TEMP h.toNat = bits (frameSlot0 f).toNat 95 88 ∧
          d.get F.WHF_PSTAT_ALARMS h.toNat = bits (frameSlot0 f).toNat 87 76 ∧ d.get F.WHF_EVT_PSTAT_NEW h.toNat = 1))

/-- In EXCHANGE, in partner mode, with no restart of the Keeper, an exchange is asked for with a new XSEQ where none is asked
  for or requesting. When a grant has come HELD takes FREE, 64 at most, GRANT shows it, the joined lanes are ACTIVE,
  and after a training the Berths of the channels of the wharf are queued to be sent again. Requests without a grant for
  EXCH_TIMEOUT pounds, 16 at least, are an event and a record, and the wharf is due to go down. Choices of the model on which
  this rests: log entries 8, 92, 93 and 94. -/
def Obligations.CreditExchange : Prop :=
  (∀ (s : State) (h xseq : Byte),
      s.Running →
      s.dev.wharfIn h.toNat 6 = true →
      s.dev.kpr.restarting = false →
      (s.dev.wharf h.toNat).asked = false →
      (s.dev.wharf h.toNat).requesting = false →
      (s.dev.wharf h.toNat).towpath = false →
      Does (.creditExchangeStart h xseq) s [.whf] ([F.WHF_CREDIT_XSEQ.key h.toNat])
        (fun d => d.get F.WHF_CREDIT_XSEQ h.toNat = xseq.toNat ∧ (d.whf =
          (s.dev.onWharf h.toNat (fun w => { w with asked := true, grant := none })).whf))) ∧
    (∀ (s : State) (h xseq : Byte),
      s.Running →
      (s.dev.wharfIn h.toNat 6 = false ∨ s.dev.kpr.restarting = true ∨ (s.dev.wharf h.toNat).asked =
        true ∨ (s.dev.wharf h.toNat).requesting = true ∨ (s.dev.wharf h.toNat).towpath = true) →
      Idles (.creditExchangeStart h xseq) s) ∧
    (∀ (s : State) (h : Byte) (free : Nat),
      s.Running →
      (s.dev.wharf h.toNat).grant = some free →
      s.dev.wharfIn h.toNat 6 = true →
      Does (.creditGrant h) s [.whf, .kpr] ([F.WHF_CREDIT_HELD.key h.toNat,
        F.WHF_CREDIT_GRANT.key h.toNat] ++ evKeys F.WHF_EVT_EXCH_DONE h.toNat ++
        (s.dev.joinedLanes h.toNat).map F.LANE_STAT_STATE.key)
        (fun d => d.get F.WHF_CREDIT_HELD h.toNat = min 64 free ∧ d.get F.WHF_CREDIT_GRANT h.toNat = free % 2 ^ 8 ∧
          d.get F.WHF_EVT_EXCH_DONE h.toNat = 1 ∧ ((s.dev.joinedLanes h.toNat).all (fun m => d.laneState m == 7) = true) ∧
          (d.whf = (s.dev.onWharf h.toNat (fun w => { w with requesting := false, grant := none, fresh := false })).whf) ∧
          (d.kpr = (if (s.dev.wharf h.toNat).fresh then
          { s.dev.kpr with emits := s.dev.kpr.emits ++ (s.dev.berthsOf h.toNat).map (fun (b : Nat) => (b, true)) } else
          s.dev.kpr)))) ∧
    (∀ (s : State) (h : Byte),
      s.Running →
      ((s.dev.wharf h.toNat).grant = none ∨ s.dev.wharfIn h.toNat 6 = false) →
      Idles (.creditGrant h) s) ∧
    (∀ (s : State) (h : Byte),
      s.Running →
      ((s.dev.wharf h.toNat).requesting && (s.dev.wharf h.toNat).grant.isNone && decide (max 16 (s.dev.get
        F.WHF_LINK_CFG_EXCH_TIMEOUT) ≤ (s.dev.wharf h.toNat).reqPounds) && !(s.dev.wharf h.toNat).downDue) = true →
      Does (.exchFail h) s [.whf, .flt] (reportKeys ++ (evKeys F.WHF_EVT_EXCH_FAIL h.toNat))
        (fun d => d.get F.WHF_EVT_EXCH_FAIL h.toNat = 1 ∧ (d.whf =
          (s.dev.onWharf h.toNat (fun w => { w with downDue := true })).whf) ∧ s.dev.Reported d 9 0 2 h.toNat)) ∧
    (∀ (s : State) (h : Byte),
      s.Running →
      ((s.dev.wharf h.toNat).requesting && (s.dev.wharf h.toNat).grant.isNone && decide (max 16 (s.dev.get
        F.WHF_LINK_CFG_EXCH_TIMEOUT) ≤ (s.dev.wharf h.toNat).reqPounds) && !(s.dev.wharf h.toNat).downDue) = false →
      Idles (.exchFail h) s)

/-- A wharf due to go down leaves service at the coming boundary: its lanes end their attempts,
  the commands with Barges in its slots are rejected and counted undeliverable, its credits are gone, DOWN is set,
  counted and reported with the pound of the boundary, and reports on it are no longer in order; one that is not due does not.
  RETRAIN marks a trained wharf to go down, or ends the attempts of its lanes; RESET marks the wharf for its reset. Choices of
  the model on which this rests: log entries 6, 8, 50, 93 and 106. -/
def Obligations.WharfDownAndReset : Prop :=
  (∀ (s : State) (h : Byte) (k : Fin 4),
      s.Running →
      s.dev.downDue h.toNat = true →
      (s.dev.role ≠ 3 ∨ s.dev.followWharf ≠ h.toNat) →
      DoesWide (.wharfDown h) s [.whf, .flt, .tow, .eng, .freeCtr] ([0x40 + h.toNat / 4, 0x0A, 0x38, 0x3C])
        (fun d => ((s.dev.wharfLanes h.toNat).all (fun m => d.laneState m == (if s.dev.is F.LANE_CTRL_LANE_EN m &&
          s.dev.blockOpened (m / 4) then 1 else 0) && d.get F.LANE_STAT_JOINED m == 0 && d.get F.LANE_STAT_SIG_DET m == 0 &&
          d.get F.LANE_STAT_CDR_LOCK m == 0 && d.get F.LANE_STAT_BLOCK_ALIGN m == 0 && d.lane m == (s.dev.lane m).kept) =
          true) ∧ d.wharf h.toNat = ({ towpath := (s.dev.wharf h.toNat).towpath } : Wharf) ∧
          d.get F.WHF_STAT_DOWN h.toNat = 1 ∧ d.get F.WHF_CREDIT_HELD h.toNat = 0 ∧
          d.get F.WHF_CNT_DOWNS h.toNat = (s.dev.get F.WHF_CNT_DOWNS h.toNat + 1) % 2 ^ 16 ∧
          d.get F.WHF_UNDELIV_CNT_UNDELIVERABLE h.toNat = (s.dev.get F.WHF_UNDELIV_CNT_UNDELIVERABLE h.toNat + (s.dev.reserved
          h.toNat).length) % 2 ^ 32 ∧ d.get F.WHF_EVT_DOWN h.toNat = 1 ∧
          bit (d.get F.WHF_DOWN_EVT_DOWN (h.toNat / 32)) (h.toNat % 32) = true ∧ d.get F.TOW_WHF_STAT_REPORT_OK h.toNat = 0 ∧
          d.flt.queue = (s.dev.reportAt 9 0 1 h.toNat (some (s.dev.tow.pound + 1))).flt.queue ∧
          d.get F.FLT_LOST_CNT_LOST = (s.dev.reportAt 9 0 1 h.toNat (some (s.dev.tow.pound + 1))).get F.FLT_LOST_CNT_LOST ∧
          (d.eng = { s.dev.eng with flights := s.dev.eng.flights.filter (fun (f : Flight) => !f.barge?.any (fun (b : Barge) => b.wharf == h.toNat)), counts0 := d.eng.counts0, counts1 := d.eng.counts1, counts2 := d.eng.counts2, counts3 := d.eng.counts3 })
          ∧ (d.eng.counts k).rejected = (s.dev.eng.counts k).rejected + ofSource k ((s.dev.eng.flights.filter (fun (f : Flight)
          => f.barge?.any (fun (b : Barge) => b.wharf == h.toNat))).map (fun (f : Flight) => f.cmd)) ∧
          (d.eng.counts k).pending = (s.dev.eng.counts k).pending - ofSource k ((s.dev.eng.flights.filter (fun (f : Flight) =>
          f.barge?.any (fun (b : Barge) => b.wharf == h.toNat))).map (fun (f : Flight) => f.cmd)) ∧
          (d.eng.counts k).late = (s.dev.eng.counts k).late ∧ (d.eng.counts k).applied = (s.dev.eng.counts k).applied ∧
          (d.eng.counts k).accepted = (s.dev.eng.counts k).accepted ∧ d.tow = { s.dev.tow with wharf := d.tow.wharf })) ∧
    (∀ (s : State) (h : Byte) (k : Fin 4),
      s.Running →
      s.dev.downDue h.toNat = true →
      s.dev.role = 3 →
      s.dev.followWharf = h.toNat →
      Answers (.wharfDown h) s (fun d => ((s.dev.wharfLanes h.toNat).all (fun m => d.laneState m == (if s.dev.is
        F.LANE_CTRL_LANE_EN m && s.dev.blockOpened (m / 4) then 1 else 0) && d.get F.LANE_STAT_JOINED m == 0 && d.get
        F.LANE_STAT_SIG_DET m == 0 && d.get F.LANE_STAT_CDR_LOCK m == 0 && d.get F.LANE_STAT_BLOCK_ALIGN m == 0 && d.lane m ==
        (s.dev.lane m).kept) = true) ∧ d.wharf h.toNat = ({ towpath := (s.dev.wharf h.toNat).towpath } : Wharf) ∧
        d.get F.WHF_STAT_DOWN h.toNat = 1 ∧ d.get F.WHF_CREDIT_HELD h.toNat = 0 ∧
        d.get F.WHF_CNT_DOWNS h.toNat = (s.dev.get F.WHF_CNT_DOWNS h.toNat + 1) % 2 ^ 16 ∧
        d.get F.WHF_UNDELIV_CNT_UNDELIVERABLE h.toNat = (s.dev.get F.WHF_UNDELIV_CNT_UNDELIVERABLE h.toNat + (s.dev.reserved
        h.toNat).length) % 2 ^ 32 ∧ d.get F.WHF_EVT_DOWN h.toNat = 1 ∧
        bit (d.get F.WHF_DOWN_EVT_DOWN (h.toNat / 32)) (h.toNat % 32) = true ∧ d.get F.TOW_WHF_STAT_REPORT_OK h.toNat = 0 ∧
        (d.eng = { s.dev.eng with flights := s.dev.eng.flights.filter (fun (f : Flight) => !f.barge?.any (fun (b : Barge) => b.wharf == h.toNat)), counts0 := d.eng.counts0, counts1 := d.eng.counts1, counts2 := d.eng.counts2, counts3 := d.eng.counts3 })
        ∧ (d.eng.counts k).rejected = (s.dev.eng.counts k).rejected + ofSource k ((s.dev.eng.flights.filter (fun (f : Flight)
        => f.barge?.any (fun (b : Barge) => b.wharf == h.toNat))).map (fun (f : Flight) => f.cmd)) ∧
        (d.eng.counts k).pending = (s.dev.eng.counts k).pending - ofSource k ((s.dev.eng.flights.filter (fun (f : Flight) =>
        f.barge?.any (fun (b : Barge) => b.wharf == h.toNat))).map (fun (f : Flight) => f.cmd)) ∧
        (d.eng.counts k).late = (s.dev.eng.counts k).late ∧ (d.eng.counts k).applied = (s.dev.eng.counts k).applied ∧
        (d.eng.counts k).accepted = (s.dev.eng.counts k).accepted)) ∧
    (∀ (s : State) (h : Byte),
      s.Running →
      s.dev.downDue h.toNat = false →
      Idles (.wharfDown h) s) ∧
    (∀ (s : State) (h : Byte),
      s.Running →
      s.dev.blockClosed (h.toNat / 4) = false →
      (s.dev.wharfLanes h.toNat).isEmpty = false →
      s.dev.wharfUp h.toNat = true →
      Does (.wharfRetrain h) s [.whf] ([])
        (fun d => (d.whf = (s.dev.onWharf h.toNat (fun w => { w with downDue := true, retrain := true })).whf))) ∧
    (∀ (s : State) (h : Byte),
      s.Running →
      s.dev.blockClosed (h.toNat / 4) = false →
      (s.dev.wharfLanes h.toNat).isEmpty = false →
      s.dev.wharfUp h.toNat = false →
      Does (.wharfRetrain h) s [.whf] ((s.dev.wharfLanes h.toNat).flatMap (fun m => [F.LANE_STAT_STATE.key m,
        F.LANE_STAT_JOINED.key m, F.LANE_STAT_MISMATCH_WHY.key m, F.LANE_STAT_SIG_DET.key m, F.LANE_STAT_CDR_LOCK.key m,
        F.LANE_STAT_BLOCK_ALIGN.key m]))
        (fun d => ((s.dev.wharfLanes h.toNat).all (fun m => if s.dev.laneState m == 0 || s.dev.laneState m == 11 then
          d.laneState m == s.dev.laneState m && d.lane m == s.dev.lane m else d.laneState m == (if s.dev.is F.LANE_CTRL_LANE_EN
          m && s.dev.blockOpened (m / 4) then 1 else 0) && d.get F.LANE_STAT_JOINED m == 0 && d.get F.LANE_STAT_SIG_DET m == 0
          && d.get F.LANE_STAT_CDR_LOCK m == 0 && d.get F.LANE_STAT_BLOCK_ALIGN m == 0 && d.lane m == (s.dev.lane m).kept) =
          true) ∧ d.wharf h.toNat = s.dev.wharf h.toNat)) ∧
    (∀ (s : State) (h : Byte),
      s.Running →
      s.dev.blockClosed (h.toNat / 4) = false →
      (s.dev.wharfLanes h.toNat).isEmpty = false →
      Does (.wharfReset h) s [.whf] ([])
        (fun d => (d.whf = (s.dev.onWharf h.toNat (fun w => { w with resetDue := true })).whf))) ∧
    (∀ (s : State) (h : Byte),
      s.Running →
      (s.dev.blockClosed (h.toNat / 4) = true ∨ (s.dev.wharfLanes h.toNat).isEmpty = true) →
      Idles (.wharfReset h) s)

/-- WHF_CFG takes the request; a request of ACTIVE, 0 or 3, to a wharf in STANDBY that is not waking starts its exit. A wharf
  that requests STANDBY, is ACTIVE with no slot reserved and sent none in the last pound enters STANDBY,
  and leaves it 13 boundaries after its exit started. A quad all of whose wharves have asked for DEEP, with no slot reserved,
  turns its lanes that are not OFF to DEEP and stops its PLL; one in DEEP that no longer has all of them ask for it starts its
  PLL and its enabled lanes wait to train. Choices of the model on which this rests: log entries 8, 51, 93 and 106. -/
def Obligations.PowerStates : Prop :=
  (∀ (s : State) (h : Byte) (v : Word),
      s.Running →
      s.dev.blockClosed (h.toNat / 4) = false →
      (s.dev.wharfLanes h.toNat).isEmpty = false →
      ((bits v.toNat 9 8 == 0 || bits v.toNat 9 8 == 3) && s.dev.wharfIn h.toNat 10 && (s.dev.wharf h.toNat).wake.isNone) =
        false →
      Does (.powerStateRequest h v) s [.bus] ([F.WHF_CFG_PWR_REQ.key h.toNat, F.WHF_CFG_AUTO_WAKE.key h.toNat,
        F.WHF_CFG_MODE.key h.toNat])
        (fun d => d.get F.WHF_CFG_PWR_REQ h.toNat = bits v.toNat 9 8 ∧ d.get F.WHF_CFG_AUTO_WAKE h.toNat = bits v.toNat 10 10 ∧
          d.get F.WHF_CFG_MODE h.toNat = bits v.toNat 0 0 ∧ d.whf = s.dev.whf)) ∧
    (∀ (s : State) (h : Byte) (v : Word),
      s.Running →
      s.dev.blockClosed (h.toNat / 4) = false →
      (s.dev.wharfLanes h.toNat).isEmpty = false →
      ((bits v.toNat 9 8 == 0 || bits v.toNat 9 8 == 3) && s.dev.wharfIn h.toNat 10 && (s.dev.wharf h.toNat).wake.isNone) =
        true →
      Does (.powerStateRequest h v) s [.bus, .whf] ([F.WHF_CFG_PWR_REQ.key h.toNat, F.WHF_CFG_AUTO_WAKE.key h.toNat,
        F.WHF_CFG_MODE.key h.toNat])
        (fun d => d.get F.WHF_CFG_PWR_REQ h.toNat = bits v.toNat 9 8 ∧ d.get F.WHF_CFG_AUTO_WAKE h.toNat = bits v.toNat 10 10 ∧
          d.get F.WHF_CFG_MODE h.toNat = bits v.toNat 0 0 ∧ (d.whf =
          (s.dev.onWharf h.toNat (fun w => { w with wake := some 0 })).whf))) ∧
    (∀ (s : State) (h : Byte),
      s.Running →
      (s.dev.pwrReq h.toNat == 1 && s.dev.wharfIn h.toNat 7 && !s.dev.wharfIn h.toNat 6 && (s.dev.reserved h.toNat).isEmpty &&
        !(s.dev.wharf h.toNat).busy) = true →
      Does (.standbyEnter h) s [.whf] ((s.dev.joinedLanes h.toNat).map F.LANE_STAT_STATE.key)
        (fun d => ((s.dev.joinedLanes h.toNat).all (fun m => d.laneState m == 10) = true) ∧
          (d.whf = (s.dev.onWharf h.toNat (fun w => { w with wake := none })).whf))) ∧
    (∀ (s : State) (h : Byte),
      s.Running →
      (s.dev.pwrReq h.toNat == 1 && s.dev.wharfIn h.toNat 7 && !s.dev.wharfIn h.toNat 6 && (s.dev.reserved h.toNat).isEmpty &&
        !(s.dev.wharf h.toNat).busy) = false →
      Idles (.standbyEnter h) s) ∧
    (∀ (s : State) (h : Byte),
      s.Running →
      (s.dev.wharfIn h.toNat 10 && (s.dev.wharf h.toNat).wake.any (fun k => decide (13 ≤ k))) = true →
      Does (.standbyExit h) s [.whf] ((s.dev.joinedLanes h.toNat).map F.LANE_STAT_STATE.key)
        (fun d => ((s.dev.joinedLanes h.toNat).all (fun m => d.laneState m == 7) = true) ∧
          (d.whf = (s.dev.onWharf h.toNat (fun w => { w with wake := none, busy := true })).whf))) ∧
    (∀ (s : State) (h : Byte),
      s.Running →
      (s.dev.wharfIn h.toNat 10 && (s.dev.wharf h.toNat).wake.any (fun k => decide (13 ≤ k))) = false →
      Idles (.standbyExit h) s) ∧
    (∀ (s : State) (q : Fin 64) (l : Fin 4),
      s.Running →
      (decide (2 ≤ Store.getD s.dev.whf.deep q.val 0) && (s.dev.wharvesOf q.val).all (fun h => (s.dev.reserved h).isEmpty)) =
        true →
      (s.dev.role ≠ 3 ∨ (s.dev.wharvesOf q.val).contains s.dev.followWharf = false) →
      DoesWide (.deepEnter q) s [.whf, .tow] ([0x40 + q.val, 0x38])
        (fun d => d.get F.LANE_QUAD_STAT_DEEP q.val = 1 ∧ d.get F.LANE_QUAD_STAT_PLL_LOCK q.val = 0 ∧
          d.laneState (4 * q.val + l.val) = (if s.dev.laneState (4 * q.val + l.val) = 0 then 0 else 11) ∧
          (((s.dev.wharvesOf q.val).filter s.dev.wharfUp).all (fun h => d.get F.WHF_CREDIT_HELD h == 0 && d.wharf h ==
          ({ towpath := (s.dev.wharf h).towpath } : Wharf) && d.get F.TOW_WHF_STAT_REPORT_OK h == 0) = true) ∧
          Store.get? d.whf.deep q.val = none ∧ d.tow = { s.dev.tow with wharf := d.tow.wharf })) ∧
    (∀ (s : State) (q : Fin 64) (l : Fin 4),
      s.Running →
      (decide (2 ≤ Store.getD s.dev.whf.deep q.val 0) && (s.dev.wharvesOf q.val).all (fun h => (s.dev.reserved h).isEmpty)) =
        true →
      s.dev.role = 3 →
      (s.dev.wharvesOf q.val).contains s.dev.followWharf = true →
      Answers (.deepEnter q) s (fun d => d.get F.LANE_QUAD_STAT_DEEP q.val = 1 ∧ d.get F.LANE_QUAD_STAT_PLL_LOCK q.val = 0 ∧
        d.laneState (4 * q.val + l.val) = (if s.dev.laneState (4 * q.val + l.val) = 0 then 0 else 11))) ∧
    (∀ (s : State) (q : Fin 64),
      s.Running →
      (decide (2 ≤ Store.getD s.dev.whf.deep q.val 0) && (s.dev.wharvesOf q.val).all (fun h => (s.dev.reserved h).isEmpty)) =
        false →
      Idles (.deepEnter q) s) ∧
    (∀ (s : State) (q : Fin 64) (l : Fin 4),
      s.Running →
      (s.dev.is F.LANE_QUAD_STAT_DEEP q.val && !s.dev.deepAsked q.val) = true →
      DoesWide (.deepExit q) s [.whf] ([0x40 + q.val])
        (fun d => d.get F.LANE_QUAD_STAT_DEEP q.val = 0 ∧ d.get F.LANE_QUAD_STAT_PLL_LOCK q.val = 1 ∧
          d.laneState (4 * q.val + l.val) = (if s.dev.laneState (4 * q.val + l.val) =
          11 then (if s.dev.is F.LANE_CTRL_LANE_EN (4 * q.val + l.val) && s.dev.blockOpened q.val then 1 else 0) else
          s.dev.laneState (4 * q.val + l.val)) ∧ d.lane (4 * q.val + l.val) = (if s.dev.laneState (4 * q.val + l.val) =
          11 then (s.dev.lane (4 * q.val + l.val)).kept else s.dev.lane (4 * q.val + l.val)))) ∧
    (∀ (s : State) (q : Fin 64),
      s.Running →
      (s.dev.is F.LANE_QUAD_STAT_DEEP q.val && !s.dev.deepAsked q.val) = false →
      Idles (.deepExit q) s)

/-- A write of TOW_REALIGN with GO starts an alignment under the written role and settings,
  the role 0 for a reserved one; the start of step 8 starts one while the Towpath runs and none is in progress. A load that
  waits for a port that is not SLAVE falls back to TOW_LOAD once,
  with a record. Eight measurements in a row inside the window end the fine step: ALIGNED is set,
  the alignment and a holdover end, each with its event, and a waiting step 8 completes with READY. Choices of the model on
  which this rests: log entries 8, 17, 33, 80, 81, 84 and 106. -/
def Obligations.Alignment : Prop :=
  (∀ (s : State) (v : Word),
      s.Running →
      Does (.realign (some v)) s [.tow] ([F.TOW_STAT_ROLE.key 0, F.TOW_STAT_ALIGNING.key 0, F.TOW_STAT_USING_ALT.key 0,
        F.TOW_REALIGN_ALLOW_JUMP.key 0])
        (fun d => d.get F.TOW_STAT_ROLE = (if 4 < s.dev.get F.TOW_ROLE_ROLE then 0 else s.dev.get F.TOW_ROLE_ROLE) ∧
          d.get F.TOW_STAT_ALIGNING = 1 ∧ d.get F.TOW_STAT_USING_ALT = 0 ∧
          (d.tow = { s.dev.tow with phase := .source, startUp := false, fallback := false, good := 0, full := none, slew := false, loadSrc := s.dev.get F.TOW_ROLE_LOAD_SRC, tickWord := s.dev.is F.TOW_ROLE_TICK_FMT, autoAlt := s.dev.is F.TOW_ROLE_AUTO_ALT, pri := s.dev.get F.TOW_FOLLOW_PRI_WHARF, alt := s.dev.get F.TOW_FOLLOW_ALT_WHARF, tick := if s.dev.tickPlain != (s.dev.get F.TOW_ROLE_ROLE == 1 && !s.dev.is F.TOW_ROLE_TICK_FMT) then s.dev.tow.tick.restart else s.dev.tow.tick })
          ∧ d.get F.TOW_REALIGN_ALLOW_JUMP = bits v.toNat 0 0)) ∧
    (∀ (s : State),
      s.Running →
      (s.dev.atStep 7 && s.dev.tow.running && !s.dev.kpr.restarting && s.dev.tow.phase == .idle) = true →
      Does (.realign none) s [.tow] ([F.TOW_STAT_ROLE.key 0, F.TOW_STAT_ALIGNING.key 0, F.TOW_STAT_USING_ALT.key 0])
        (fun d => d.get F.TOW_STAT_ROLE = (if 4 < s.dev.get F.TOW_ROLE_ROLE then 0 else s.dev.get F.TOW_ROLE_ROLE) ∧
          d.get F.TOW_STAT_ALIGNING = 1 ∧ d.get F.TOW_STAT_USING_ALT = 0 ∧
          (d.tow = { s.dev.tow with phase := .source, startUp := true, fallback := false, good := 0, full := none, slew := false, loadSrc := s.dev.get F.TOW_ROLE_LOAD_SRC, tickWord := s.dev.is F.TOW_ROLE_TICK_FMT, autoAlt := s.dev.is F.TOW_ROLE_AUTO_ALT, pri := s.dev.get F.TOW_FOLLOW_PRI_WHARF, alt := s.dev.get F.TOW_FOLLOW_ALT_WHARF, tick := if s.dev.tickPlain != (s.dev.get F.TOW_ROLE_ROLE == 1 && !s.dev.is F.TOW_ROLE_TICK_FMT) then s.dev.tow.tick.restart else s.dev.tow.tick })))
          ∧
    (∀ (s : State),
      s.Running →
      (s.dev.atStep 7 && s.dev.tow.running && !s.dev.kpr.restarting && s.dev.tow.phase == .idle) = false →
      Idles (.realign none) s) ∧
    (∀ (s : State),
      s.Running →
      s.dev.tow.phase = .fine →
      8 ≤ s.dev.tow.good →
      s.dev.kpr.restarting = false →
      s.dev.atStep 7 = false →
      Does .towAligned s [.tow] ([F.TOW_STAT_ALIGNED.key 0, F.TOW_STAT_ALIGNING.key 0, F.TOW_STAT_REALIGN_NEEDED.key 0,
        F.TOW_STAT_HOLDOVER.key 0] ++ evKeys F.TOW_EVT_ALIGNED_SET 0 ++ evKeys F.TOW_EVT_REALIGN_DONE 0 ++
        evKeys F.TOW_EVT_HOLDOVER_LEFT 0)
        (fun d => (d.tow = { s.dev.tow with phase := .idle, engaged := true, cause := if s.dev.towHold then .none else s.dev.tow.cause })
          ∧ d.get F.TOW_STAT_ALIGNED = 1 ∧ d.get F.TOW_STAT_ALIGNING = 0 ∧ d.get F.TOW_STAT_REALIGN_NEEDED = 0 ∧
          d.get F.TOW_EVT_ALIGNED_SET = 1 ∧ d.get F.TOW_EVT_REALIGN_DONE = 1 ∧ d.towHold = false ∧
          (s.dev.towHold = true → d.get F.TOW_EVT_HOLDOVER_LEFT = 1) ∧
          (s.dev.towHold = false → d.get F.TOW_EVT_HOLDOVER_LEFT = s.dev.get F.TOW_EVT_HOLDOVER_LEFT))) ∧
    (∀ (s : State),
      s.Running →
      s.dev.tow.phase = .fine →
      8 ≤ s.dev.tow.good →
      s.dev.kpr.restarting = false →
      s.dev.atStep 7 = true →
      Answers .towAligned s (fun d => d.get F.SYS_BOOT_STAT_STEP = 9 ∧ d.get F.SYS_BOOT_STAT_READY = 1 ∧
        d.get F.CFG_CMD_COMMIT = 1)) ∧
    (∀ (s : State),
      s.Running →
      (s.dev.tow.phase ≠ .fine ∨ s.dev.tow.good < 8 ∨ s.dev.kpr.restarting = true) →
      Idles .towAligned s) ∧
    (∀ (s : State),
      s.Running →
      (s.dev.tow.phase == .source && s.dev.loadsCount && s.dev.tow.loadSrc == 1 && !s.dev.portSlave && !s.dev.tow.fallback) =
        true →
      Does .towLoadFallback s [.tow, .flt] (reportKeys ++ ([]))
        (fun d => d.tow = { s.dev.tow with fallback := true } ∧ s.dev.Reported d 7 0 1 0)) ∧
    (∀ (s : State),
      s.Running →
      (s.dev.tow.phase == .source && s.dev.loadsCount && s.dev.tow.loadSrc == 1 && !s.dev.portSlave && !s.dev.tow.fallback) =
        false →
      Idles .towLoadFallback s)

/-- A trained wharf is measured every 2^AVG pounds. Too few reports count as missing,
  and the fourth period in a row without enough on the wharf followed is a loss of its source. Else the mean round trip becomes
  LAST: the first is accepted as the reference; so is one within the limit of it; one beyond is a step: STEP is set,
  counted and reported and the reference stays; while STEP stands one within the limit, unless the wharf is untrusted,
  counts toward the return, which ends the step, and any other starts that count again; a resolution that waits is applied,
  the reference and the asymmetry taken or the wharf untrusted. A paused servo holds the compensation. The offset is shown and
  compared with the skew reference, or becomes it. On the wharf that the role follows it is the measurement of the role unless
  a step stands, which leads to holdover as it begins: it is shown, tracked where the Towpath is engaged,
  and ends a holdover whose source is valid again, but one beyond 8,000 ps asks for a realignment instead. A written resolution
  waits for a standing step and is ignored without one. Choices of the model on which this rests: log entries 8, 17, 83, 85,
  86 and 136. -/
def Obligations.WharfDelay : Prop :=
  (∀ (s : State) (h : Byte),
      s.Running →
      (s.dev.wharfUp h.toNat = false ∨ s.dev.tow.ticks < (s.dev.towWharf h.toNat).since + 2 ^ s.dev.towAvg) →
      Idles (.wharfDelayMeasurement h) s) ∧
    (∀ (s : State) (h : Byte),
      s.Running →
      s.dev.wharfUp h.toNat = true →
      (s.dev.towWharf h.toNat).since + 2 ^ s.dev.towAvg ≤ s.dev.tow.ticks →
      2 * (s.dev.towWharf h.toNat).n < 2 ^ s.dev.towAvg →
      ((decide (s.dev.role = 3) && s.dev.followWharf == h.toNat) && decide (3 ≤ (s.dev.towWharf h.toNat).missed) &&
        s.dev.tow.engaged && !s.dev.towHold) = false →
      Does (.wharfDelayMeasurement h) s [.tow] ([F.TOW_WHF_STAT_MISSING.key h.toNat])
        (fun d => d.get F.TOW_WHF_STAT_MISSING h.toNat = min 0xFFFF (s.dev.get F.TOW_WHF_STAT_MISSING h.toNat + 1) ∧
          (d.tow = (s.dev.onTowWharf h.toNat (fun (w : TowWharf) =>
          { w with sumA := 0, sumRtt := 0, n := 0, stamp := none, since := s.dev.tow.ticks, missed := w.missed + 1 })).tow))) ∧
    (∀ (s : State) (h : Byte),
      s.Running →
      s.dev.wharfUp h.toNat = true →
      (s.dev.towWharf h.toNat).since + 2 ^ s.dev.towAvg ≤ s.dev.tow.ticks →
      2 * (s.dev.towWharf h.toNat).n < 2 ^ s.dev.towAvg →
      (decide (s.dev.role = 3) && s.dev.followWharf == h.toNat) = true →
      3 ≤ (s.dev.towWharf h.toNat).missed →
      s.dev.tow.engaged = true →
      s.dev.towHold = false →
      s.dev.altQualifies = false →
      Does (.wharfDelayMeasurement h) s [.tow, .flt] (reportKeys ++ ([F.TOW_WHF_STAT_MISSING.key h.toNat] ++
        [F.TOW_STAT_HOLDOVER.key 0, F.TOW_STEER_S.key 0] ++ evKeys F.TOW_EVT_HOLDOVER_ENTERED 0 ++ evKeys F.TOW_EVT_SRC_LOST 0))
        (fun d => d.get F.TOW_WHF_STAT_MISSING h.toNat = min 0xFFFF (s.dev.get F.TOW_WHF_STAT_MISSING h.toNat + 1) ∧
          (d.tow = { (s.dev.onTowWharf h.toNat (fun (w : TowWharf) => { w with sumA := 0, sumRtt := 0, n := 0, stamp := none, since := s.dev.tow.ticks, missed := w.missed + 1 })).tow with cause := .source, slew := false })
          ∧ s.dev.Reported d 7 0 3 0 ∧ d.get F.TOW_STAT_HOLDOVER = 1 ∧ d.get F.TOW_EVT_HOLDOVER_ENTERED = 1 ∧
          d.get F.TOW_EVT_SRC_LOST = 1 ∧ d.get F.TOW_STEER_S = (if (s.dev.tow.hist.take (2 ^ s.dev.get
          F.TOW_SERVO_CFG_HOLD_LOG)).isEmpty || s.dev.role == 0 || s.dev.is F.TOW_STAT_SERVO_PAUSED then s.dev.get
          F.TOW_STEER_S else unsgn 32 (divRound (sumInt (s.dev.tow.hist.take (2 ^ s.dev.get F.TOW_SERVO_CFG_HOLD_LOG)))
          (s.dev.tow.hist.take (2 ^ s.dev.get F.TOW_SERVO_CFG_HOLD_LOG)).length)))) ∧
    (∀ (s : State) (h : Byte) (rtt : Nat) (a theta : Int),
      s.Running →
      s.dev.wharfUp h.toNat = true →
      (s.dev.towWharf h.toNat).since + 2 ^ s.dev.towAvg ≤ s.dev.tow.ticks →
      2 ^ s.dev.towAvg ≤ 2 * (s.dev.towWharf h.toNat).n →
      rtt = (divRound (s.dev.towWharf h.toNat).sumRtt (s.dev.towWharf h.toNat).n).toNat →
      a = divRound (s.dev.towWharf h.toNat).sumA (s.dev.towWharf h.toNat).n →
      s.dev.is F.TOW_STAT_SERVO_PAUSED = true →
      theta = divRound (((s.dev.get F.TOW_WHF_RTT_RTT_REF h.toNat : Nat) : Int)) 2 + (s.dev.towWharf h.toNat).asym - a →
      (decide (s.dev.role = 3) && s.dev.followWharf == h.toNat) = false →
      Does (.wharfDelayMeasurement h) s [.tow, .flt] ([F.TOW_WHF_LAST_RTT_M.key h.toNat, F.TOW_WHF_OFFSET_THETA_PS.key h.toNat,
        F.TOW_WHF_STAT_SKEW.key h.toNat] ++ evKeys F.TOW_EVT_PARTNER_SKEW 0 ++ reportKeys)
        (fun d => d.get F.TOW_WHF_LAST_RTT_M h.toNat = rtt % 2 ^ 32 ∧
          d.get F.TOW_WHF_RTT_RTT_REF h.toNat = s.dev.get F.TOW_WHF_RTT_RTT_REF h.toNat ∧
          d.get F.TOW_WHF_OFFSET_THETA_PS h.toNat = unsgn 32 theta ∧
          (d.towWharf h.toNat =
          { s.dev.towWharf h.toNat with sumA := 0, sumRtt := 0, n := 0, stamp := none, since := s.dev.tow.ticks, missed := 0, thetaRef := if ((s.dev.towWharf h.toNat).capture || ((s.dev.towWharf h.toNat).thetaRef.isNone && !s.dev.is F.TOW_WHF_STAT_STEP h.toNat && !s.dev.is F.TOW_STAT_SERVO_PAUSED)) then some theta else (s.dev.towWharf h.toNat).thetaRef, capture := false })
          ∧ (d.get F.TOW_WHF_STAT_SKEW h.toNat = (if ((s.dev.towWharf h.toNat).capture || ((s.dev.towWharf
          h.toNat).thetaRef.isNone && !s.dev.is F.TOW_WHF_STAT_STEP h.toNat && !s.dev.is F.TOW_STAT_SERVO_PAUSED)) then 0 else
          if (!((s.dev.towWharf h.toNat).capture || ((s.dev.towWharf h.toNat).thetaRef.isNone && !s.dev.is F.TOW_WHF_STAT_STEP
          h.toNat && !s.dev.is F.TOW_STAT_SERVO_PAUSED)) && (s.dev.towWharf h.toNat).thetaRef.any (fun (r : Int) => decide
          (s.dev.get F.TOW_SKEW_CFG_SKEW_LIM < (theta - r).natAbs))) then 1 else s.dev.get F.TOW_WHF_STAT_SKEW h.toNat)) ∧
          ((!((s.dev.towWharf h.toNat).capture || ((s.dev.towWharf h.toNat).thetaRef.isNone && !s.dev.is F.TOW_WHF_STAT_STEP
          h.toNat && !s.dev.is F.TOW_STAT_SERVO_PAUSED)) && (s.dev.towWharf h.toNat).thetaRef.any (fun (r : Int) => decide
          (s.dev.get F.TOW_SKEW_CFG_SKEW_LIM < (theta - r).natAbs))) = true → d.get F.TOW_EVT_PARTNER_SKEW = 1) ∧
          d.tow = { s.dev.tow with wharf := d.tow.wharf } ∧ (d.flt.queue =
          (if (!((s.dev.towWharf h.toNat).capture || ((s.dev.towWharf h.toNat).thetaRef.isNone && !s.dev.is F.TOW_WHF_STAT_STEP
          h.toNat && !s.dev.is F.TOW_STAT_SERVO_PAUSED)) && (s.dev.towWharf h.toNat).thetaRef.any (fun (r : Int) => decide
          (s.dev.get F.TOW_SKEW_CFG_SKEW_LIM < (theta - r).natAbs))) then s.dev.towReport 0 8 h.toNat else s.dev).flt.queue) ∧
          (d.get F.FLT_LOST_CNT_LOST = (if (!((s.dev.towWharf h.toNat).capture || ((s.dev.towWharf h.toNat).thetaRef.isNone &&
          !s.dev.is F.TOW_WHF_STAT_STEP h.toNat && !s.dev.is F.TOW_STAT_SERVO_PAUSED)) && (s.dev.towWharf h.toNat).thetaRef.any
          (fun (r : Int) => decide (s.dev.get F.TOW_SKEW_CFG_SKEW_LIM < (theta - r).natAbs))) then s.dev.towReport 0 8 h.toNat
          else s.dev).get F.FLT_LOST_CNT_LOST))) ∧
    (∀ (s : State) (h : Byte) (rtt : Nat) (a theta : Int),
      s.Running →
      s.dev.wharfUp h.toNat = true →
      (s.dev.towWharf h.toNat).since + 2 ^ s.dev.towAvg ≤ s.dev.tow.ticks →
      2 ^ s.dev.towAvg ≤ 2 * (s.dev.towWharf h.toNat).n →
      rtt = (divRound (s.dev.towWharf h.toNat).sumRtt (s.dev.towWharf h.toNat).n).toNat →
      a = divRound (s.dev.towWharf h.toNat).sumA (s.dev.towWharf h.toNat).n →
      s.dev.is F.TOW_STAT_SERVO_PAUSED = true →
      theta = divRound (((s.dev.get F.TOW_WHF_RTT_RTT_REF h.toNat : Nat) : Int)) 2 + (s.dev.towWharf h.toNat).asym - a →
      (decide (s.dev.role = 3) && s.dev.followWharf == h.toNat) = true →
      s.dev.is F.TOW_WHF_STAT_STEP h.toNat = false →
      Does (.wharfDelayMeasurement h) s [.tow, .flt] ([F.TOW_WHF_LAST_RTT_M.key h.toNat, F.TOW_WHF_OFFSET_THETA_PS.key h.toNat,
        F.TOW_WHF_STAT_SKEW.key h.toNat] ++ evKeys F.TOW_EVT_PARTNER_SKEW 0 ++ reportKeys ++ [F.TOW_OFFSET_THETA_PS.key 0])
        (fun d => d.get F.TOW_WHF_LAST_RTT_M h.toNat = rtt % 2 ^ 32 ∧
          d.get F.TOW_WHF_RTT_RTT_REF h.toNat = s.dev.get F.TOW_WHF_RTT_RTT_REF h.toNat ∧
          d.get F.TOW_WHF_OFFSET_THETA_PS h.toNat = unsgn 32 theta ∧
          (d.towWharf h.toNat =
          { s.dev.towWharf h.toNat with sumA := 0, sumRtt := 0, n := 0, stamp := none, since := s.dev.tow.ticks, missed := 0, thetaRef := if ((s.dev.towWharf h.toNat).capture || ((s.dev.towWharf h.toNat).thetaRef.isNone && !s.dev.is F.TOW_WHF_STAT_STEP h.toNat && !s.dev.is F.TOW_STAT_SERVO_PAUSED)) then some theta else (s.dev.towWharf h.toNat).thetaRef, capture := false })
          ∧ (d.get F.TOW_WHF_STAT_SKEW h.toNat = (if ((s.dev.towWharf h.toNat).capture || ((s.dev.towWharf
          h.toNat).thetaRef.isNone && !s.dev.is F.TOW_WHF_STAT_STEP h.toNat && !s.dev.is F.TOW_STAT_SERVO_PAUSED)) then 0 else
          if (!((s.dev.towWharf h.toNat).capture || ((s.dev.towWharf h.toNat).thetaRef.isNone && !s.dev.is F.TOW_WHF_STAT_STEP
          h.toNat && !s.dev.is F.TOW_STAT_SERVO_PAUSED)) && (s.dev.towWharf h.toNat).thetaRef.any (fun (r : Int) => decide
          (s.dev.get F.TOW_SKEW_CFG_SKEW_LIM < (theta - r).natAbs))) then 1 else s.dev.get F.TOW_WHF_STAT_SKEW h.toNat)) ∧
          ((!((s.dev.towWharf h.toNat).capture || ((s.dev.towWharf h.toNat).thetaRef.isNone && !s.dev.is F.TOW_WHF_STAT_STEP
          h.toNat && !s.dev.is F.TOW_STAT_SERVO_PAUSED)) && (s.dev.towWharf h.toNat).thetaRef.any (fun (r : Int) => decide
          (s.dev.get F.TOW_SKEW_CFG_SKEW_LIM < (theta - r).natAbs))) = true → d.get F.TOW_EVT_PARTNER_SKEW = 1) ∧
          d.get F.TOW_OFFSET_THETA_PS = unsgnSat 32 theta ∧ d.tow =
          { s.dev.tow with wharf := d.tow.wharf, full := some (theta + 16000 * (s.dev.towWharf h.toNat).farOff) } ∧
          (d.flt.queue = (if (!((s.dev.towWharf h.toNat).capture || ((s.dev.towWharf h.toNat).thetaRef.isNone && !s.dev.is
          F.TOW_WHF_STAT_STEP h.toNat && !s.dev.is F.TOW_STAT_SERVO_PAUSED)) && (s.dev.towWharf h.toNat).thetaRef.any (fun (r :
          Int) => decide (s.dev.get F.TOW_SKEW_CFG_SKEW_LIM < (theta - r).natAbs))) then s.dev.towReport 0 8 h.toNat else
          s.dev).flt.queue) ∧ (d.get F.FLT_LOST_CNT_LOST = (if (!((s.dev.towWharf h.toNat).capture || ((s.dev.towWharf
          h.toNat).thetaRef.isNone && !s.dev.is F.TOW_WHF_STAT_STEP h.toNat && !s.dev.is F.TOW_STAT_SERVO_PAUSED)) &&
          (s.dev.towWharf h.toNat).thetaRef.any (fun (r : Int) => decide (s.dev.get F.TOW_SKEW_CFG_SKEW_LIM < (theta -
          r).natAbs))) then s.dev.towReport 0 8 h.toNat else s.dev).get F.FLT_LOST_CNT_LOST))) ∧
    (∀ (s : State) (h : Byte) (rtt : Nat) (a theta : Int),
      s.Running →
      s.dev.wharfUp h.toNat = true →
      (s.dev.towWharf h.toNat).since + 2 ^ s.dev.towAvg ≤ s.dev.tow.ticks →
      2 ^ s.dev.towAvg ≤ 2 * (s.dev.towWharf h.toNat).n →
      rtt = (divRound (s.dev.towWharf h.toNat).sumRtt (s.dev.towWharf h.toNat).n).toNat →
      a = divRound (s.dev.towWharf h.toNat).sumA (s.dev.towWharf h.toNat).n →
      s.dev.is F.TOW_STAT_SERVO_PAUSED = false →
      (s.dev.towWharf h.toNat).accepted = false →
      (if s.dev.is F.TOW_WHF_STAT_STEP h.toNat then (s.dev.towWharf h.toNat).action else 0) = 0 →
      theta = divRound ((((rtt % 2 ^ 32) : Nat) : Int)) 2 + (s.dev.towWharf h.toNat).asym - a →
      (decide (s.dev.role = 3) && s.dev.followWharf == h.toNat) = false →
      Does (.wharfDelayMeasurement h) s [.tow, .flt] ([F.TOW_WHF_LAST_RTT_M.key h.toNat, F.TOW_WHF_OFFSET_THETA_PS.key h.toNat,
        F.TOW_WHF_STAT_SKEW.key h.toNat, F.TOW_WHF_RTT_RTT_REF.key h.toNat] ++ evKeys F.TOW_EVT_PARTNER_SKEW 0 ++ reportKeys)
        (fun d => d.get F.TOW_WHF_LAST_RTT_M h.toNat = rtt % 2 ^ 32 ∧ d.get F.TOW_WHF_RTT_RTT_REF h.toNat = (rtt % 2 ^ 32) ∧
          d.get F.TOW_WHF_OFFSET_THETA_PS h.toNat = unsgn 32 theta ∧
          (d.towWharf h.toNat =
          { s.dev.towWharf h.toNat with sumA := 0, sumRtt := 0, n := 0, stamp := none, since := s.dev.tow.ticks, missed := 0, thetaRef := if ((s.dev.towWharf h.toNat).capture || ((s.dev.towWharf h.toNat).thetaRef.isNone && !s.dev.is F.TOW_WHF_STAT_STEP h.toNat)) then some theta else (s.dev.towWharf h.toNat).thetaRef, capture := false, accepted := true, action := 0, run := (s.dev.towWharf h.toNat).run })
          ∧ (d.get F.TOW_WHF_STAT_SKEW h.toNat = (if ((s.dev.towWharf h.toNat).capture || ((s.dev.towWharf
          h.toNat).thetaRef.isNone && !s.dev.is F.TOW_WHF_STAT_STEP h.toNat)) then 0 else if (!((s.dev.towWharf
          h.toNat).capture || ((s.dev.towWharf h.toNat).thetaRef.isNone && !s.dev.is F.TOW_WHF_STAT_STEP h.toNat)) &&
          (s.dev.towWharf h.toNat).thetaRef.any (fun (r : Int) => decide (s.dev.get F.TOW_SKEW_CFG_SKEW_LIM < (theta -
          r).natAbs))) then 1 else s.dev.get F.TOW_WHF_STAT_SKEW h.toNat)) ∧
          ((!((s.dev.towWharf h.toNat).capture || ((s.dev.towWharf h.toNat).thetaRef.isNone && !s.dev.is F.TOW_WHF_STAT_STEP
          h.toNat)) && (s.dev.towWharf h.toNat).thetaRef.any (fun (r : Int) => decide (s.dev.get F.TOW_SKEW_CFG_SKEW_LIM <
          (theta - r).natAbs))) = true → d.get F.TOW_EVT_PARTNER_SKEW = 1) ∧ d.tow = { s.dev.tow with wharf := d.tow.wharf } ∧
          (d.flt.queue = (if (!((s.dev.towWharf h.toNat).capture || ((s.dev.towWharf h.toNat).thetaRef.isNone && !s.dev.is
          F.TOW_WHF_STAT_STEP h.toNat)) && (s.dev.towWharf h.toNat).thetaRef.any (fun (r : Int) => decide (s.dev.get
          F.TOW_SKEW_CFG_SKEW_LIM < (theta - r).natAbs))) then s.dev.towReport 0 8 h.toNat else s.dev).flt.queue) ∧
          (d.get F.FLT_LOST_CNT_LOST = (if (!((s.dev.towWharf h.toNat).capture || ((s.dev.towWharf h.toNat).thetaRef.isNone &&
          !s.dev.is F.TOW_WHF_STAT_STEP h.toNat)) && (s.dev.towWharf h.toNat).thetaRef.any (fun (r : Int) => decide (s.dev.get
          F.TOW_SKEW_CFG_SKEW_LIM < (theta - r).natAbs))) then s.dev.towReport 0 8 h.toNat else s.dev).get
          F.FLT_LOST_CNT_LOST))) ∧
    (∀ (s : State) (h : Byte) (rtt : Nat) (a theta : Int),
      s.Running →
      s.dev.wharfUp h.toNat = true →
      (s.dev.towWharf h.toNat).since + 2 ^ s.dev.towAvg ≤ s.dev.tow.ticks →
      2 ^ s.dev.towAvg ≤ 2 * (s.dev.towWharf h.toNat).n →
      rtt = (divRound (s.dev.towWharf h.toNat).sumRtt (s.dev.towWharf h.toNat).n).toNat →
      a = divRound (s.dev.towWharf h.toNat).sumA (s.dev.towWharf h.toNat).n →
      s.dev.is F.TOW_STAT_SERVO_PAUSED = false →
      (s.dev.towWharf h.toNat).accepted = false →
      (if s.dev.is F.TOW_WHF_STAT_STEP h.toNat then (s.dev.towWharf h.toNat).action else 0) = 0 →
      theta = divRound ((((rtt % 2 ^ 32) : Nat) : Int)) 2 + (s.dev.towWharf h.toNat).asym - a →
      s.dev.is F.TOW_WHF_STAT_STEP h.toNat = false →
      (decide (s.dev.role = 3) && s.dev.followWharf == h.toNat) = true →
      (s.dev.tow.phase = .source ∨ (s.dev.tow.phase = .idle ∧ s.dev.tow.engaged = false)) →
      Does (.wharfDelayMeasurement h) s [.tow, .flt] ([F.TOW_WHF_LAST_RTT_M.key h.toNat, F.TOW_WHF_OFFSET_THETA_PS.key h.toNat,
        F.TOW_WHF_STAT_SKEW.key h.toNat, F.TOW_WHF_RTT_RTT_REF.key h.toNat] ++ evKeys F.TOW_EVT_PARTNER_SKEW 0 ++ reportKeys ++
        [F.TOW_OFFSET_THETA_PS.key 0])
        (fun d => d.get F.TOW_WHF_LAST_RTT_M h.toNat = rtt % 2 ^ 32 ∧ d.get F.TOW_WHF_RTT_RTT_REF h.toNat = (rtt % 2 ^ 32) ∧
          d.get F.TOW_WHF_OFFSET_THETA_PS h.toNat = unsgn 32 theta ∧
          (d.towWharf h.toNat =
          { s.dev.towWharf h.toNat with sumA := 0, sumRtt := 0, n := 0, stamp := none, since := s.dev.tow.ticks, missed := 0, thetaRef := if ((s.dev.towWharf h.toNat).capture || ((s.dev.towWharf h.toNat).thetaRef.isNone && !s.dev.is F.TOW_WHF_STAT_STEP h.toNat)) then some theta else (s.dev.towWharf h.toNat).thetaRef, capture := false, accepted := true, action := 0, run := (s.dev.towWharf h.toNat).run })
          ∧ (d.get F.TOW_WHF_STAT_SKEW h.toNat = (if ((s.dev.towWharf h.toNat).capture || ((s.dev.towWharf
          h.toNat).thetaRef.isNone && !s.dev.is F.TOW_WHF_STAT_STEP h.toNat)) then 0 else if (!((s.dev.towWharf
          h.toNat).capture || ((s.dev.towWharf h.toNat).thetaRef.isNone && !s.dev.is F.TOW_WHF_STAT_STEP h.toNat)) &&
          (s.dev.towWharf h.toNat).thetaRef.any (fun (r : Int) => decide (s.dev.get F.TOW_SKEW_CFG_SKEW_LIM < (theta -
          r).natAbs))) then 1 else s.dev.get F.TOW_WHF_STAT_SKEW h.toNat)) ∧
          ((!((s.dev.towWharf h.toNat).capture || ((s.dev.towWharf h.toNat).thetaRef.isNone && !s.dev.is F.TOW_WHF_STAT_STEP
          h.toNat)) && (s.dev.towWharf h.toNat).thetaRef.any (fun (r : Int) => decide (s.dev.get F.TOW_SKEW_CFG_SKEW_LIM <
          (theta - r).natAbs))) = true → d.get F.TOW_EVT_PARTNER_SKEW = 1) ∧ d.get F.TOW_OFFSET_THETA_PS = unsgnSat 32 theta ∧
          d.tow = { s.dev.tow with wharf := d.tow.wharf, full := some (theta + 16000 * (s.dev.towWharf h.toNat).farOff) } ∧
          (d.flt.queue = (if (!((s.dev.towWharf h.toNat).capture || ((s.dev.towWharf h.toNat).thetaRef.isNone && !s.dev.is
          F.TOW_WHF_STAT_STEP h.toNat)) && (s.dev.towWharf h.toNat).thetaRef.any (fun (r : Int) => decide (s.dev.get
          F.TOW_SKEW_CFG_SKEW_LIM < (theta - r).natAbs))) then s.dev.towReport 0 8 h.toNat else s.dev).flt.queue) ∧
          (d.get F.FLT_LOST_CNT_LOST = (if (!((s.dev.towWharf h.toNat).capture || ((s.dev.towWharf h.toNat).thetaRef.isNone &&
          !s.dev.is F.TOW_WHF_STAT_STEP h.toNat)) && (s.dev.towWharf h.toNat).thetaRef.any (fun (r : Int) => decide (s.dev.get
          F.TOW_SKEW_CFG_SKEW_LIM < (theta - r).natAbs))) then s.dev.towReport 0 8 h.toNat else s.dev).get
          F.FLT_LOST_CNT_LOST))) ∧
    (∀ (s : State) (h : Byte) (rtt : Nat) (a theta : Int),
      s.Running →
      s.dev.wharfUp h.toNat = true →
      (s.dev.towWharf h.toNat).since + 2 ^ s.dev.towAvg ≤ s.dev.tow.ticks →
      2 ^ s.dev.towAvg ≤ 2 * (s.dev.towWharf h.toNat).n →
      rtt = (divRound (s.dev.towWharf h.toNat).sumRtt (s.dev.towWharf h.toNat).n).toNat →
      a = divRound (s.dev.towWharf h.toNat).sumA (s.dev.towWharf h.toNat).n →
      s.dev.is F.TOW_STAT_SERVO_PAUSED = false →
      (s.dev.towWharf h.toNat).accepted = false →
      (if s.dev.is F.TOW_WHF_STAT_STEP h.toNat then (s.dev.towWharf h.toNat).action else 0) = 0 →
      theta = divRound ((((rtt % 2 ^ 32) : Nat) : Int)) 2 + (s.dev.towWharf h.toNat).asym - a →
      s.dev.is F.TOW_WHF_STAT_STEP h.toNat = false →
      (decide (s.dev.role = 3) && s.dev.followWharf == h.toNat) = true →
      s.dev.tow.phase = .idle →
      s.dev.tow.engaged = true →
      s.dev.towHold = false →
      s.dev.tow.slew = false →
      s.dev.is F.TOW_STAT_SERVO_PAUSED = false →
      Does (.wharfDelayMeasurement h) s [.tow, .flt] ([F.TOW_WHF_LAST_RTT_M.key h.toNat, F.TOW_WHF_OFFSET_THETA_PS.key h.toNat,
        F.TOW_WHF_STAT_SKEW.key h.toNat, F.TOW_WHF_RTT_RTT_REF.key h.toNat] ++ evKeys F.TOW_EVT_PARTNER_SKEW 0 ++ reportKeys ++
        [F.TOW_OFFSET_THETA_PS.key 0, F.TOW_STEER_S.key 0])
        (fun d => d.get F.TOW_WHF_LAST_RTT_M h.toNat = rtt % 2 ^ 32 ∧ d.get F.TOW_WHF_RTT_RTT_REF h.toNat = (rtt % 2 ^ 32) ∧
          d.get F.TOW_WHF_OFFSET_THETA_PS h.toNat = unsgn 32 theta ∧
          (d.towWharf h.toNat =
          { s.dev.towWharf h.toNat with sumA := 0, sumRtt := 0, n := 0, stamp := none, since := s.dev.tow.ticks, missed := 0, thetaRef := if ((s.dev.towWharf h.toNat).capture || ((s.dev.towWharf h.toNat).thetaRef.isNone && !s.dev.is F.TOW_WHF_STAT_STEP h.toNat)) then some theta else (s.dev.towWharf h.toNat).thetaRef, capture := false, accepted := true, action := 0, run := (s.dev.towWharf h.toNat).run })
          ∧ (d.get F.TOW_WHF_STAT_SKEW h.toNat = (if ((s.dev.towWharf h.toNat).capture || ((s.dev.towWharf
          h.toNat).thetaRef.isNone && !s.dev.is F.TOW_WHF_STAT_STEP h.toNat)) then 0 else if (!((s.dev.towWharf
          h.toNat).capture || ((s.dev.towWharf h.toNat).thetaRef.isNone && !s.dev.is F.TOW_WHF_STAT_STEP h.toNat)) &&
          (s.dev.towWharf h.toNat).thetaRef.any (fun (r : Int) => decide (s.dev.get F.TOW_SKEW_CFG_SKEW_LIM < (theta -
          r).natAbs))) then 1 else s.dev.get F.TOW_WHF_STAT_SKEW h.toNat)) ∧
          ((!((s.dev.towWharf h.toNat).capture || ((s.dev.towWharf h.toNat).thetaRef.isNone && !s.dev.is F.TOW_WHF_STAT_STEP
          h.toNat)) && (s.dev.towWharf h.toNat).thetaRef.any (fun (r : Int) => decide (s.dev.get F.TOW_SKEW_CFG_SKEW_LIM <
          (theta - r).natAbs))) = true → d.get F.TOW_EVT_PARTNER_SKEW = 1) ∧ d.get F.TOW_OFFSET_THETA_PS = unsgnSat 32 theta ∧
          d.get F.TOW_STEER_S = unsgn 32 (clampAbs s.dev.steerLimit (s.dev.steer + clampAbs s.dev.slewLimit (divRound
          ((Config.servoGains s.dev.servoBandwidth (s.dev.tow.ticks - s.dev.tow.steeredAt)).1 * (theta - s.dev.tow.lastTheta) +
          (Config.servoGains s.dev.servoBandwidth (s.dev.tow.ticks - s.dev.tow.steeredAt)).2 * theta) (2 ^ 20)))) ∧
          d.tow = { s.dev.tow with wharf := d.tow.wharf, full := some (theta + 16000 * (s.dev.towWharf h.toNat).farOff), hist := ((clampAbs s.dev.steerLimit (s.dev.steer + clampAbs s.dev.slewLimit (divRound ((Config.servoGains s.dev.servoBandwidth (s.dev.tow.ticks - s.dev.tow.steeredAt)).1 * (theta - s.dev.tow.lastTheta) + (Config.servoGains s.dev.servoBandwidth (s.dev.tow.ticks - s.dev.tow.steeredAt)).2 * theta) (2 ^ 20)))) :: s.dev.tow.hist).take (2 ^ s.dev.get F.TOW_SERVO_CFG_HOLD_LOG), steeredAt := s.dev.tow.ticks, lastTheta := theta }
          ∧ (d.flt.queue = (if (!((s.dev.towWharf h.toNat).capture || ((s.dev.towWharf h.toNat).thetaRef.isNone && !s.dev.is
          F.TOW_WHF_STAT_STEP h.toNat)) && (s.dev.towWharf h.toNat).thetaRef.any (fun (r : Int) => decide (s.dev.get
          F.TOW_SKEW_CFG_SKEW_LIM < (theta - r).natAbs))) then s.dev.towReport 0 8 h.toNat else s.dev).flt.queue) ∧
          (d.get F.FLT_LOST_CNT_LOST = (if (!((s.dev.towWharf h.toNat).capture || ((s.dev.towWharf h.toNat).thetaRef.isNone &&
          !s.dev.is F.TOW_WHF_STAT_STEP h.toNat)) && (s.dev.towWharf h.toNat).thetaRef.any (fun (r : Int) => decide (s.dev.get
          F.TOW_SKEW_CFG_SKEW_LIM < (theta - r).natAbs))) then s.dev.towReport 0 8 h.toNat else s.dev).get
          F.FLT_LOST_CNT_LOST))) ∧
    (∀ (s : State) (h : Byte) (rtt : Nat) (a theta : Int),
      s.Running →
      s.dev.wharfUp h.toNat = true →
      (s.dev.towWharf h.toNat).since + 2 ^ s.dev.towAvg ≤ s.dev.tow.ticks →
      2 ^ s.dev.towAvg ≤ 2 * (s.dev.towWharf h.toNat).n →
      rtt = (divRound (s.dev.towWharf h.toNat).sumRtt (s.dev.towWharf h.toNat).n).toNat →
      a = divRound (s.dev.towWharf h.toNat).sumA (s.dev.towWharf h.toNat).n →
      s.dev.is F.TOW_STAT_SERVO_PAUSED = false →
      (s.dev.towWharf h.toNat).accepted = true →
      s.dev.is F.TOW_WHF_STAT_STEP h.toNat = false →
      decide (((rtt : Int) - (s.dev.get F.TOW_WHF_RTT_RTT_REF h.toNat : Nat)).natAbs ≤ max 1 (s.dev.get
        F.TOW_STEP_CFG_STEP_PS)) = true →
      theta = divRound ((((rtt % 2 ^ 32) : Nat) : Int)) 2 + (s.dev.towWharf h.toNat).asym - a →
      (decide (s.dev.role = 3) && s.dev.followWharf == h.toNat) = false →
      Does (.wharfDelayMeasurement h) s [.tow, .flt] ([F.TOW_WHF_LAST_RTT_M.key h.toNat, F.TOW_WHF_OFFSET_THETA_PS.key h.toNat,
        F.TOW_WHF_STAT_SKEW.key h.toNat, F.TOW_WHF_RTT_RTT_REF.key h.toNat] ++ evKeys F.TOW_EVT_PARTNER_SKEW 0 ++ reportKeys)
        (fun d => d.get F.TOW_WHF_LAST_RTT_M h.toNat = rtt % 2 ^ 32 ∧ d.get F.TOW_WHF_RTT_RTT_REF h.toNat = (rtt % 2 ^ 32) ∧
          d.get F.TOW_WHF_OFFSET_THETA_PS h.toNat = unsgn 32 theta ∧
          (d.towWharf h.toNat =
          { s.dev.towWharf h.toNat with sumA := 0, sumRtt := 0, n := 0, stamp := none, since := s.dev.tow.ticks, missed := 0, thetaRef := if ((s.dev.towWharf h.toNat).capture || ((s.dev.towWharf h.toNat).thetaRef.isNone && !s.dev.is F.TOW_WHF_STAT_STEP h.toNat)) then some theta else (s.dev.towWharf h.toNat).thetaRef, capture := false, action := 0 })
          ∧ (d.get F.TOW_WHF_STAT_SKEW h.toNat = (if ((s.dev.towWharf h.toNat).capture || ((s.dev.towWharf
          h.toNat).thetaRef.isNone && !s.dev.is F.TOW_WHF_STAT_STEP h.toNat)) then 0 else if (!((s.dev.towWharf
          h.toNat).capture || ((s.dev.towWharf h.toNat).thetaRef.isNone && !s.dev.is F.TOW_WHF_STAT_STEP h.toNat)) &&
          (s.dev.towWharf h.toNat).thetaRef.any (fun (r : Int) => decide (s.dev.get F.TOW_SKEW_CFG_SKEW_LIM < (theta -
          r).natAbs))) then 1 else s.dev.get F.TOW_WHF_STAT_SKEW h.toNat)) ∧
          ((!((s.dev.towWharf h.toNat).capture || ((s.dev.towWharf h.toNat).thetaRef.isNone && !s.dev.is F.TOW_WHF_STAT_STEP
          h.toNat)) && (s.dev.towWharf h.toNat).thetaRef.any (fun (r : Int) => decide (s.dev.get F.TOW_SKEW_CFG_SKEW_LIM <
          (theta - r).natAbs))) = true → d.get F.TOW_EVT_PARTNER_SKEW = 1) ∧ d.tow = { s.dev.tow with wharf := d.tow.wharf } ∧
          (d.flt.queue = (if (!((s.dev.towWharf h.toNat).capture || ((s.dev.towWharf h.toNat).thetaRef.isNone && !s.dev.is
          F.TOW_WHF_STAT_STEP h.toNat)) && (s.dev.towWharf h.toNat).thetaRef.any (fun (r : Int) => decide (s.dev.get
          F.TOW_SKEW_CFG_SKEW_LIM < (theta - r).natAbs))) then s.dev.towReport 0 8 h.toNat else s.dev).flt.queue) ∧
          (d.get F.FLT_LOST_CNT_LOST = (if (!((s.dev.towWharf h.toNat).capture || ((s.dev.towWharf h.toNat).thetaRef.isNone &&
          !s.dev.is F.TOW_WHF_STAT_STEP h.toNat)) && (s.dev.towWharf h.toNat).thetaRef.any (fun (r : Int) => decide (s.dev.get
          F.TOW_SKEW_CFG_SKEW_LIM < (theta - r).natAbs))) then s.dev.towReport 0 8 h.toNat else s.dev).get
          F.FLT_LOST_CNT_LOST))) ∧
    (∀ (s : State) (h : Byte) (rtt : Nat) (a theta : Int),
      s.Running →
      s.dev.wharfUp h.toNat = true →
      (s.dev.towWharf h.toNat).since + 2 ^ s.dev.towAvg ≤ s.dev.tow.ticks →
      2 ^ s.dev.towAvg ≤ 2 * (s.dev.towWharf h.toNat).n →
      rtt = (divRound (s.dev.towWharf h.toNat).sumRtt (s.dev.towWharf h.toNat).n).toNat →
      a = divRound (s.dev.towWharf h.toNat).sumA (s.dev.towWharf h.toNat).n →
      s.dev.is F.TOW_STAT_SERVO_PAUSED = false →
      (s.dev.towWharf h.toNat).accepted = true →
      s.dev.is F.TOW_WHF_STAT_STEP h.toNat = false →
      decide (((rtt : Int) - (s.dev.get F.TOW_WHF_RTT_RTT_REF h.toNat : Nat)).natAbs ≤ max 1 (s.dev.get
        F.TOW_STEP_CFG_STEP_PS)) = true →
      theta = divRound ((((rtt % 2 ^ 32) : Nat) : Int)) 2 + (s.dev.towWharf h.toNat).asym - a →
      (decide (s.dev.role = 3) && s.dev.followWharf == h.toNat) = true →
      (s.dev.tow.phase = .source ∨ (s.dev.tow.phase = .idle ∧ s.dev.tow.engaged = false)) →
      Does (.wharfDelayMeasurement h) s [.tow, .flt] ([F.TOW_WHF_LAST_RTT_M.key h.toNat, F.TOW_WHF_OFFSET_THETA_PS.key h.toNat,
        F.TOW_WHF_STAT_SKEW.key h.toNat, F.TOW_WHF_RTT_RTT_REF.key h.toNat] ++ evKeys F.TOW_EVT_PARTNER_SKEW 0 ++ reportKeys ++
        [F.TOW_OFFSET_THETA_PS.key 0])
        (fun d => d.get F.TOW_WHF_LAST_RTT_M h.toNat = rtt % 2 ^ 32 ∧ d.get F.TOW_WHF_RTT_RTT_REF h.toNat = (rtt % 2 ^ 32) ∧
          d.get F.TOW_WHF_OFFSET_THETA_PS h.toNat = unsgn 32 theta ∧
          (d.towWharf h.toNat =
          { s.dev.towWharf h.toNat with sumA := 0, sumRtt := 0, n := 0, stamp := none, since := s.dev.tow.ticks, missed := 0, thetaRef := if ((s.dev.towWharf h.toNat).capture || ((s.dev.towWharf h.toNat).thetaRef.isNone && !s.dev.is F.TOW_WHF_STAT_STEP h.toNat)) then some theta else (s.dev.towWharf h.toNat).thetaRef, capture := false, action := 0 })
          ∧ (d.get F.TOW_WHF_STAT_SKEW h.toNat = (if ((s.dev.towWharf h.toNat).capture || ((s.dev.towWharf
          h.toNat).thetaRef.isNone && !s.dev.is F.TOW_WHF_STAT_STEP h.toNat)) then 0 else if (!((s.dev.towWharf
          h.toNat).capture || ((s.dev.towWharf h.toNat).thetaRef.isNone && !s.dev.is F.TOW_WHF_STAT_STEP h.toNat)) &&
          (s.dev.towWharf h.toNat).thetaRef.any (fun (r : Int) => decide (s.dev.get F.TOW_SKEW_CFG_SKEW_LIM < (theta -
          r).natAbs))) then 1 else s.dev.get F.TOW_WHF_STAT_SKEW h.toNat)) ∧
          ((!((s.dev.towWharf h.toNat).capture || ((s.dev.towWharf h.toNat).thetaRef.isNone && !s.dev.is F.TOW_WHF_STAT_STEP
          h.toNat)) && (s.dev.towWharf h.toNat).thetaRef.any (fun (r : Int) => decide (s.dev.get F.TOW_SKEW_CFG_SKEW_LIM <
          (theta - r).natAbs))) = true → d.get F.TOW_EVT_PARTNER_SKEW = 1) ∧ d.get F.TOW_OFFSET_THETA_PS = unsgnSat 32 theta ∧
          d.tow = { s.dev.tow with wharf := d.tow.wharf, full := some (theta + 16000 * (s.dev.towWharf h.toNat).farOff) } ∧
          (d.flt.queue = (if (!((s.dev.towWharf h.toNat).capture || ((s.dev.towWharf h.toNat).thetaRef.isNone && !s.dev.is
          F.TOW_WHF_STAT_STEP h.toNat)) && (s.dev.towWharf h.toNat).thetaRef.any (fun (r : Int) => decide (s.dev.get
          F.TOW_SKEW_CFG_SKEW_LIM < (theta - r).natAbs))) then s.dev.towReport 0 8 h.toNat else s.dev).flt.queue) ∧
          (d.get F.FLT_LOST_CNT_LOST = (if (!((s.dev.towWharf h.toNat).capture || ((s.dev.towWharf h.toNat).thetaRef.isNone &&
          !s.dev.is F.TOW_WHF_STAT_STEP h.toNat)) && (s.dev.towWharf h.toNat).thetaRef.any (fun (r : Int) => decide (s.dev.get
          F.TOW_SKEW_CFG_SKEW_LIM < (theta - r).natAbs))) then s.dev.towReport 0 8 h.toNat else s.dev).get
          F.FLT_LOST_CNT_LOST))) ∧
    (∀ (s : State) (h : Byte) (rtt : Nat) (a theta : Int),
      s.Running →
      s.dev.wharfUp h.toNat = true →
      (s.dev.towWharf h.toNat).since + 2 ^ s.dev.towAvg ≤ s.dev.tow.ticks →
      2 ^ s.dev.towAvg ≤ 2 * (s.dev.towWharf h.toNat).n →
      rtt = (divRound (s.dev.towWharf h.toNat).sumRtt (s.dev.towWharf h.toNat).n).toNat →
      a = divRound (s.dev.towWharf h.toNat).sumA (s.dev.towWharf h.toNat).n →
      s.dev.is F.TOW_STAT_SERVO_PAUSED = false →
      (s.dev.towWharf h.toNat).accepted = true →
      s.dev.is F.TOW_WHF_STAT_STEP h.toNat = false →
      decide (((rtt : Int) - (s.dev.get F.TOW_WHF_RTT_RTT_REF h.toNat : Nat)).natAbs ≤ max 1 (s.dev.get
        F.TOW_STEP_CFG_STEP_PS)) = true →
      theta = divRound ((((rtt % 2 ^ 32) : Nat) : Int)) 2 + (s.dev.towWharf h.toNat).asym - a →
      (decide (s.dev.role = 3) && s.dev.followWharf == h.toNat) = true →
      s.dev.tow.phase = .idle →
      s.dev.tow.engaged = true →
      s.dev.towHold = false →
      s.dev.tow.slew = false →
      s.dev.is F.TOW_STAT_SERVO_PAUSED = false →
      Does (.wharfDelayMeasurement h) s [.tow, .flt] ([F.TOW_WHF_LAST_RTT_M.key h.toNat, F.TOW_WHF_OFFSET_THETA_PS.key h.toNat,
        F.TOW_WHF_STAT_SKEW.key h.toNat, F.TOW_WHF_RTT_RTT_REF.key h.toNat] ++ evKeys F.TOW_EVT_PARTNER_SKEW 0 ++ reportKeys ++
        [F.TOW_OFFSET_THETA_PS.key 0, F.TOW_STEER_S.key 0])
        (fun d => d.get F.TOW_WHF_LAST_RTT_M h.toNat = rtt % 2 ^ 32 ∧ d.get F.TOW_WHF_RTT_RTT_REF h.toNat = (rtt % 2 ^ 32) ∧
          d.get F.TOW_WHF_OFFSET_THETA_PS h.toNat = unsgn 32 theta ∧
          (d.towWharf h.toNat =
          { s.dev.towWharf h.toNat with sumA := 0, sumRtt := 0, n := 0, stamp := none, since := s.dev.tow.ticks, missed := 0, thetaRef := if ((s.dev.towWharf h.toNat).capture || ((s.dev.towWharf h.toNat).thetaRef.isNone && !s.dev.is F.TOW_WHF_STAT_STEP h.toNat)) then some theta else (s.dev.towWharf h.toNat).thetaRef, capture := false, action := 0 })
          ∧ (d.get F.TOW_WHF_STAT_SKEW h.toNat = (if ((s.dev.towWharf h.toNat).capture || ((s.dev.towWharf
          h.toNat).thetaRef.isNone && !s.dev.is F.TOW_WHF_STAT_STEP h.toNat)) then 0 else if (!((s.dev.towWharf
          h.toNat).capture || ((s.dev.towWharf h.toNat).thetaRef.isNone && !s.dev.is F.TOW_WHF_STAT_STEP h.toNat)) &&
          (s.dev.towWharf h.toNat).thetaRef.any (fun (r : Int) => decide (s.dev.get F.TOW_SKEW_CFG_SKEW_LIM < (theta -
          r).natAbs))) then 1 else s.dev.get F.TOW_WHF_STAT_SKEW h.toNat)) ∧
          ((!((s.dev.towWharf h.toNat).capture || ((s.dev.towWharf h.toNat).thetaRef.isNone && !s.dev.is F.TOW_WHF_STAT_STEP
          h.toNat)) && (s.dev.towWharf h.toNat).thetaRef.any (fun (r : Int) => decide (s.dev.get F.TOW_SKEW_CFG_SKEW_LIM <
          (theta - r).natAbs))) = true → d.get F.TOW_EVT_PARTNER_SKEW = 1) ∧ d.get F.TOW_OFFSET_THETA_PS = unsgnSat 32 theta ∧
          d.get F.TOW_STEER_S = unsgn 32 (clampAbs s.dev.steerLimit (s.dev.steer + clampAbs s.dev.slewLimit (divRound
          ((Config.servoGains s.dev.servoBandwidth (s.dev.tow.ticks - s.dev.tow.steeredAt)).1 * (theta - s.dev.tow.lastTheta) +
          (Config.servoGains s.dev.servoBandwidth (s.dev.tow.ticks - s.dev.tow.steeredAt)).2 * theta) (2 ^ 20)))) ∧
          d.tow = { s.dev.tow with wharf := d.tow.wharf, full := some (theta + 16000 * (s.dev.towWharf h.toNat).farOff), hist := ((clampAbs s.dev.steerLimit (s.dev.steer + clampAbs s.dev.slewLimit (divRound ((Config.servoGains s.dev.servoBandwidth (s.dev.tow.ticks - s.dev.tow.steeredAt)).1 * (theta - s.dev.tow.lastTheta) + (Config.servoGains s.dev.servoBandwidth (s.dev.tow.ticks - s.dev.tow.steeredAt)).2 * theta) (2 ^ 20)))) :: s.dev.tow.hist).take (2 ^ s.dev.get F.TOW_SERVO_CFG_HOLD_LOG), steeredAt := s.dev.tow.ticks, lastTheta := theta }
          ∧ (d.flt.queue = (if (!((s.dev.towWharf h.toNat).capture || ((s.dev.towWharf h.toNat).thetaRef.isNone && !s.dev.is
          F.TOW_WHF_STAT_STEP h.toNat)) && (s.dev.towWharf h.toNat).thetaRef.any (fun (r : Int) => decide (s.dev.get
          F.TOW_SKEW_CFG_SKEW_LIM < (theta - r).natAbs))) then s.dev.towReport 0 8 h.toNat else s.dev).flt.queue) ∧
          (d.get F.FLT_LOST_CNT_LOST = (if (!((s.dev.towWharf h.toNat).capture || ((s.dev.towWharf h.toNat).thetaRef.isNone &&
          !s.dev.is F.TOW_WHF_STAT_STEP h.toNat)) && (s.dev.towWharf h.toNat).thetaRef.any (fun (r : Int) => decide (s.dev.get
          F.TOW_SKEW_CFG_SKEW_LIM < (theta - r).natAbs))) then s.dev.towReport 0 8 h.toNat else s.dev).get
          F.FLT_LOST_CNT_LOST))) ∧
    (∀ (s : State) (h : Byte) (rtt : Nat) (a theta : Int),
      s.Running →
      s.dev.wharfUp h.toNat = true →
      (s.dev.towWharf h.toNat).since + 2 ^ s.dev.towAvg ≤ s.dev.tow.ticks →
      2 ^ s.dev.towAvg ≤ 2 * (s.dev.towWharf h.toNat).n →
      rtt = (divRound (s.dev.towWharf h.toNat).sumRtt (s.dev.towWharf h.toNat).n).toNat →
      a = divRound (s.dev.towWharf h.toNat).sumA (s.dev.towWharf h.toNat).n →
      s.dev.is F.TOW_STAT_SERVO_PAUSED = false →
      (s.dev.towWharf h.toNat).accepted = true →
      s.dev.is F.TOW_WHF_STAT_STEP h.toNat = false →
      decide (((rtt : Int) - (s.dev.get F.TOW_WHF_RTT_RTT_REF h.toNat : Nat)).natAbs ≤ max 1 (s.dev.get
        F.TOW_STEP_CFG_STEP_PS)) = true →
      theta = divRound ((((rtt % 2 ^ 32) : Nat) : Int)) 2 + (s.dev.towWharf h.toNat).asym - a →
      (decide (s.dev.role = 3) && s.dev.followWharf == h.toNat) = true →
      s.dev.tow.phase = .idle →
      s.dev.tow.engaged = true →
      s.dev.towHold = true →
      s.dev.tow.cause ≠ .jump →
      Answers (.wharfDelayMeasurement h) s (fun d => d.get F.TOW_WHF_LAST_RTT_M h.toNat = rtt % 2 ^ 32 ∧
        d.get F.TOW_WHF_RTT_RTT_REF h.toNat = (rtt % 2 ^ 32) ∧ d.get F.TOW_WHF_OFFSET_THETA_PS h.toNat = unsgn 32 theta ∧
        (d.towWharf h.toNat =
        { s.dev.towWharf h.toNat with sumA := 0, sumRtt := 0, n := 0, stamp := none, since := s.dev.tow.ticks, missed := 0, thetaRef := if ((s.dev.towWharf h.toNat).capture || ((s.dev.towWharf h.toNat).thetaRef.isNone && !s.dev.is F.TOW_WHF_STAT_STEP h.toNat)) then some theta else (s.dev.towWharf h.toNat).thetaRef, capture := false, action := 0 })
        ∧ (d.get F.TOW_WHF_STAT_SKEW h.toNat = (if ((s.dev.towWharf h.toNat).capture || ((s.dev.towWharf
        h.toNat).thetaRef.isNone && !s.dev.is F.TOW_WHF_STAT_STEP h.toNat)) then 0 else if (!((s.dev.towWharf h.toNat).capture
        || ((s.dev.towWharf h.toNat).thetaRef.isNone && !s.dev.is F.TOW_WHF_STAT_STEP h.toNat)) && (s.dev.towWharf
        h.toNat).thetaRef.any (fun (r : Int) => decide (s.dev.get F.TOW_SKEW_CFG_SKEW_LIM < (theta - r).natAbs))) then 1 else
        s.dev.get F.TOW_WHF_STAT_SKEW h.toNat)) ∧ ((!((s.dev.towWharf h.toNat).capture || ((s.dev.towWharf
        h.toNat).thetaRef.isNone && !s.dev.is F.TOW_WHF_STAT_STEP h.toNat)) && (s.dev.towWharf h.toNat).thetaRef.any (fun (r :
        Int) => decide (s.dev.get F.TOW_SKEW_CFG_SKEW_LIM < (theta - r).natAbs))) = true → d.get F.TOW_EVT_PARTNER_SKEW = 1) ∧
        d.get F.TOW_OFFSET_THETA_PS = unsgnSat 32 theta ∧ (d.sourceOk = true →
        (if 8000 < theta.natAbs then d.get F.TOW_STAT_REALIGN_NEEDED = 1 ∧ d.get F.TOW_STAT_HOLDOVER = 1 ∧
        d.tow.cause = s.dev.tow.cause ∧ d.get F.TOW_STEER_S = s.dev.get F.TOW_STEER_S else d.get F.TOW_STAT_HOLDOVER = 0 ∧
        d.get F.TOW_EVT_HOLDOVER_LEFT = 1 ∧ d.tow.cause = HoldCause.none ∧ d.tow.slew = !s.dev.inWindow theta)) ∧
        (d.sourceOk = false → d.get F.TOW_STAT_HOLDOVER = 1 ∧ d.tow.cause = s.dev.tow.cause ∧
        d.get F.TOW_STEER_S = s.dev.get F.TOW_STEER_S))) ∧
    (∀ (s : State) (h : Byte) (rtt : Nat) (a theta : Int),
      s.Running →
      s.dev.wharfUp h.toNat = true →
      (s.dev.towWharf h.toNat).since + 2 ^ s.dev.towAvg ≤ s.dev.tow.ticks →
      2 ^ s.dev.towAvg ≤ 2 * (s.dev.towWharf h.toNat).n →
      rtt = (divRound (s.dev.towWharf h.toNat).sumRtt (s.dev.towWharf h.toNat).n).toNat →
      a = divRound (s.dev.towWharf h.toNat).sumA (s.dev.towWharf h.toNat).n →
      s.dev.is F.TOW_STAT_SERVO_PAUSED = false →
      (s.dev.towWharf h.toNat).accepted = true →
      s.dev.is F.TOW_WHF_STAT_STEP h.toNat = false →
      decide (((rtt : Int) - (s.dev.get F.TOW_WHF_RTT_RTT_REF h.toNat : Nat)).natAbs ≤ max 1 (s.dev.get
        F.TOW_STEP_CFG_STEP_PS)) = false →
      theta = divRound (((s.dev.get F.TOW_WHF_RTT_RTT_REF h.toNat : Nat) : Int)) 2 + (s.dev.towWharf h.toNat).asym - a →
      (decide (s.dev.role = 3) && s.dev.followWharf == h.toNat) = false →
      Does (.wharfDelayMeasurement h) s [.tow, .flt] ([F.TOW_WHF_LAST_RTT_M.key h.toNat, F.TOW_WHF_OFFSET_THETA_PS.key h.toNat,
        F.TOW_WHF_STAT_SKEW.key h.toNat, F.TOW_WHF_STAT_STEP.key h.toNat,
        F.TOW_WHF_STEP_CNT_STEPS.key h.toNat] ++ evKeys F.TOW_EVT_PARTNER_SKEW 0 ++ reportKeys ++ evKeys F.TOW_EVT_DELAY_STEP)
        (fun d => d.get F.TOW_WHF_LAST_RTT_M h.toNat = rtt % 2 ^ 32 ∧
          d.get F.TOW_WHF_RTT_RTT_REF h.toNat = s.dev.get F.TOW_WHF_RTT_RTT_REF h.toNat ∧
          d.get F.TOW_WHF_OFFSET_THETA_PS h.toNat = unsgn 32 theta ∧
          (d.towWharf h.toNat =
          { s.dev.towWharf h.toNat with sumA := 0, sumRtt := 0, n := 0, stamp := none, since := s.dev.tow.ticks, missed := 0, thetaRef := if ((s.dev.towWharf h.toNat).capture || ((s.dev.towWharf h.toNat).thetaRef.isNone && !true)) then some theta else (s.dev.towWharf h.toNat).thetaRef, capture := false, action := 0, run := 0 })
          ∧ (d.get F.TOW_WHF_STAT_SKEW h.toNat = (if ((s.dev.towWharf h.toNat).capture || ((s.dev.towWharf
          h.toNat).thetaRef.isNone && !true)) then 0 else if (!((s.dev.towWharf h.toNat).capture || ((s.dev.towWharf
          h.toNat).thetaRef.isNone && !true)) && (s.dev.towWharf h.toNat).thetaRef.any (fun (r : Int) => decide (s.dev.get
          F.TOW_SKEW_CFG_SKEW_LIM < (theta - r).natAbs))) then 1 else s.dev.get F.TOW_WHF_STAT_SKEW h.toNat)) ∧
          ((!((s.dev.towWharf h.toNat).capture || ((s.dev.towWharf h.toNat).thetaRef.isNone && !true)) && (s.dev.towWharf
          h.toNat).thetaRef.any (fun (r : Int) => decide (s.dev.get F.TOW_SKEW_CFG_SKEW_LIM < (theta - r).natAbs))) = true →
          d.get F.TOW_EVT_PARTNER_SKEW = 1) ∧ d.get F.TOW_WHF_STAT_STEP h.toNat = 1 ∧
          d.get F.TOW_WHF_STEP_CNT_STEPS h.toNat = (s.dev.get F.TOW_WHF_STEP_CNT_STEPS h.toNat + 1) % 2 ^ 32 ∧
          d.get F.TOW_EVT_DELAY_STEP = 1 ∧ d.tow = { s.dev.tow with wharf := d.tow.wharf } ∧
          (d.flt.queue = (if (!((s.dev.towWharf h.toNat).capture || ((s.dev.towWharf h.toNat).thetaRef.isNone && !true)) &&
          (s.dev.towWharf h.toNat).thetaRef.any (fun (r : Int) => decide (s.dev.get F.TOW_SKEW_CFG_SKEW_LIM < (theta -
          r).natAbs))) then (s.dev.towReport 0 7 h.toNat).towReport 0 8 h.toNat else (s.dev.towReport 0 7 h.toNat)).flt.queue)
          ∧ (d.get F.FLT_LOST_CNT_LOST = (if (!((s.dev.towWharf h.toNat).capture || ((s.dev.towWharf h.toNat).thetaRef.isNone
          && !true)) && (s.dev.towWharf h.toNat).thetaRef.any (fun (r : Int) => decide (s.dev.get F.TOW_SKEW_CFG_SKEW_LIM <
          (theta - r).natAbs))) then (s.dev.towReport 0 7 h.toNat).towReport 0 8 h.toNat else (s.dev.towReport 0 7
          h.toNat)).get F.FLT_LOST_CNT_LOST))) ∧
    (∀ (s : State) (h : Byte) (rtt : Nat) (a theta : Int),
      s.Running →
      s.dev.wharfUp h.toNat = true →
      (s.dev.towWharf h.toNat).since + 2 ^ s.dev.towAvg ≤ s.dev.tow.ticks →
      2 ^ s.dev.towAvg ≤ 2 * (s.dev.towWharf h.toNat).n →
      rtt = (divRound (s.dev.towWharf h.toNat).sumRtt (s.dev.towWharf h.toNat).n).toNat →
      a = divRound (s.dev.towWharf h.toNat).sumA (s.dev.towWharf h.toNat).n →
      s.dev.is F.TOW_STAT_SERVO_PAUSED = false →
      (s.dev.towWharf h.toNat).accepted = true →
      s.dev.is F.TOW_WHF_STAT_STEP h.toNat = false →
      decide (((rtt : Int) - (s.dev.get F.TOW_WHF_RTT_RTT_REF h.toNat : Nat)).natAbs ≤ max 1 (s.dev.get
        F.TOW_STEP_CFG_STEP_PS)) = false →
      theta = divRound (((s.dev.get F.TOW_WHF_RTT_RTT_REF h.toNat : Nat) : Int)) 2 + (s.dev.towWharf h.toNat).asym - a →
      (decide (s.dev.role = 3) && s.dev.followWharf == h.toNat) = true →
      s.dev.tow.engaged = true →
      s.dev.towHold = false →
      s.dev.altQualifies = false →
      Does (.wharfDelayMeasurement h) s [.tow, .flt] ([F.TOW_WHF_LAST_RTT_M.key h.toNat, F.TOW_WHF_OFFSET_THETA_PS.key h.toNat,
        F.TOW_WHF_STAT_SKEW.key h.toNat, F.TOW_WHF_STAT_STEP.key h.toNat,
        F.TOW_WHF_STEP_CNT_STEPS.key h.toNat] ++ evKeys F.TOW_EVT_PARTNER_SKEW 0 ++ reportKeys ++
        evKeys F.TOW_EVT_DELAY_STEP ++ [F.TOW_STAT_HOLDOVER.key 0,
        F.TOW_STEER_S.key 0] ++ evKeys F.TOW_EVT_HOLDOVER_ENTERED 0 ++ evKeys F.TOW_EVT_SRC_LOST 0)
        (fun d => d.get F.TOW_WHF_LAST_RTT_M h.toNat = rtt % 2 ^ 32 ∧
          d.get F.TOW_WHF_RTT_RTT_REF h.toNat = s.dev.get F.TOW_WHF_RTT_RTT_REF h.toNat ∧
          d.get F.TOW_WHF_OFFSET_THETA_PS h.toNat = unsgn 32 theta ∧
          (d.towWharf h.toNat =
          { s.dev.towWharf h.toNat with sumA := 0, sumRtt := 0, n := 0, stamp := none, since := s.dev.tow.ticks, missed := 0, thetaRef := if ((s.dev.towWharf h.toNat).capture || ((s.dev.towWharf h.toNat).thetaRef.isNone && !true)) then some theta else (s.dev.towWharf h.toNat).thetaRef, capture := false, action := 0, run := 0 })
          ∧ (d.get F.TOW_WHF_STAT_SKEW h.toNat = (if ((s.dev.towWharf h.toNat).capture || ((s.dev.towWharf
          h.toNat).thetaRef.isNone && !true)) then 0 else if (!((s.dev.towWharf h.toNat).capture || ((s.dev.towWharf
          h.toNat).thetaRef.isNone && !true)) && (s.dev.towWharf h.toNat).thetaRef.any (fun (r : Int) => decide (s.dev.get
          F.TOW_SKEW_CFG_SKEW_LIM < (theta - r).natAbs))) then 1 else s.dev.get F.TOW_WHF_STAT_SKEW h.toNat)) ∧
          ((!((s.dev.towWharf h.toNat).capture || ((s.dev.towWharf h.toNat).thetaRef.isNone && !true)) && (s.dev.towWharf
          h.toNat).thetaRef.any (fun (r : Int) => decide (s.dev.get F.TOW_SKEW_CFG_SKEW_LIM < (theta - r).natAbs))) = true →
          d.get F.TOW_EVT_PARTNER_SKEW = 1) ∧ d.get F.TOW_WHF_STAT_STEP h.toNat = 1 ∧
          d.get F.TOW_WHF_STEP_CNT_STEPS h.toNat = (s.dev.get F.TOW_WHF_STEP_CNT_STEPS h.toNat + 1) % 2 ^ 32 ∧
          d.get F.TOW_EVT_DELAY_STEP = 1 ∧ d.tow = { s.dev.tow with wharf := d.tow.wharf, cause := .source, slew := false } ∧
          d.get F.TOW_STAT_HOLDOVER = 1 ∧ d.get F.TOW_EVT_HOLDOVER_ENTERED = 1 ∧ d.get F.TOW_EVT_SRC_LOST = 1 ∧
          d.get F.TOW_STEER_S = (if (s.dev.tow.hist.take (2 ^ s.dev.get F.TOW_SERVO_CFG_HOLD_LOG)).isEmpty || s.dev.role == 0
          || s.dev.is F.TOW_STAT_SERVO_PAUSED then s.dev.get F.TOW_STEER_S else unsgn 32 (divRound (sumInt (s.dev.tow.hist.take
          (2 ^ s.dev.get F.TOW_SERVO_CFG_HOLD_LOG))) (s.dev.tow.hist.take (2 ^ s.dev.get F.TOW_SERVO_CFG_HOLD_LOG)).length)))) ∧
    (∀ (s : State) (h : Byte) (rtt : Nat) (a theta : Int),
      s.Running →
      s.dev.wharfUp h.toNat = true →
      (s.dev.towWharf h.toNat).since + 2 ^ s.dev.towAvg ≤ s.dev.tow.ticks →
      2 ^ s.dev.towAvg ≤ 2 * (s.dev.towWharf h.toNat).n →
      rtt = (divRound (s.dev.towWharf h.toNat).sumRtt (s.dev.towWharf h.toNat).n).toNat →
      a = divRound (s.dev.towWharf h.toNat).sumA (s.dev.towWharf h.toNat).n →
      s.dev.is F.TOW_STAT_SERVO_PAUSED = false →
      (s.dev.towWharf h.toNat).accepted = true →
      s.dev.is F.TOW_WHF_STAT_STEP h.toNat = false →
      decide (((rtt : Int) - (s.dev.get F.TOW_WHF_RTT_RTT_REF h.toNat : Nat)).natAbs ≤ max 1 (s.dev.get
        F.TOW_STEP_CFG_STEP_PS)) = false →
      theta = divRound (((s.dev.get F.TOW_WHF_RTT_RTT_REF h.toNat : Nat) : Int)) 2 + (s.dev.towWharf h.toNat).asym - a →
      (decide (s.dev.role = 3) && s.dev.followWharf == h.toNat) = true →
      (s.dev.tow.engaged = false ∨ s.dev.towHold = true) →
      Does (.wharfDelayMeasurement h) s [.tow, .flt] ([F.TOW_WHF_LAST_RTT_M.key h.toNat, F.TOW_WHF_OFFSET_THETA_PS.key h.toNat,
        F.TOW_WHF_STAT_SKEW.key h.toNat, F.TOW_WHF_STAT_STEP.key h.toNat,
        F.TOW_WHF_STEP_CNT_STEPS.key h.toNat] ++ evKeys F.TOW_EVT_PARTNER_SKEW 0 ++ reportKeys ++ evKeys F.TOW_EVT_DELAY_STEP)
        (fun d => d.get F.TOW_WHF_LAST_RTT_M h.toNat = rtt % 2 ^ 32 ∧
          d.get F.TOW_WHF_RTT_RTT_REF h.toNat = s.dev.get F.TOW_WHF_RTT_RTT_REF h.toNat ∧
          d.get F.TOW_WHF_OFFSET_THETA_PS h.toNat = unsgn 32 theta ∧
          (d.towWharf h.toNat =
          { s.dev.towWharf h.toNat with sumA := 0, sumRtt := 0, n := 0, stamp := none, since := s.dev.tow.ticks, missed := 0, thetaRef := if ((s.dev.towWharf h.toNat).capture || ((s.dev.towWharf h.toNat).thetaRef.isNone && !true)) then some theta else (s.dev.towWharf h.toNat).thetaRef, capture := false, action := 0, run := 0 })
          ∧ (d.get F.TOW_WHF_STAT_SKEW h.toNat = (if ((s.dev.towWharf h.toNat).capture || ((s.dev.towWharf
          h.toNat).thetaRef.isNone && !true)) then 0 else if (!((s.dev.towWharf h.toNat).capture || ((s.dev.towWharf
          h.toNat).thetaRef.isNone && !true)) && (s.dev.towWharf h.toNat).thetaRef.any (fun (r : Int) => decide (s.dev.get
          F.TOW_SKEW_CFG_SKEW_LIM < (theta - r).natAbs))) then 1 else s.dev.get F.TOW_WHF_STAT_SKEW h.toNat)) ∧
          ((!((s.dev.towWharf h.toNat).capture || ((s.dev.towWharf h.toNat).thetaRef.isNone && !true)) && (s.dev.towWharf
          h.toNat).thetaRef.any (fun (r : Int) => decide (s.dev.get F.TOW_SKEW_CFG_SKEW_LIM < (theta - r).natAbs))) = true →
          d.get F.TOW_EVT_PARTNER_SKEW = 1) ∧ d.get F.TOW_WHF_STAT_STEP h.toNat = 1 ∧
          d.get F.TOW_WHF_STEP_CNT_STEPS h.toNat = (s.dev.get F.TOW_WHF_STEP_CNT_STEPS h.toNat + 1) % 2 ^ 32 ∧
          d.get F.TOW_EVT_DELAY_STEP = 1 ∧ d.tow = { s.dev.tow with wharf := d.tow.wharf } ∧
          (d.flt.queue = (if (!((s.dev.towWharf h.toNat).capture || ((s.dev.towWharf h.toNat).thetaRef.isNone && !true)) &&
          (s.dev.towWharf h.toNat).thetaRef.any (fun (r : Int) => decide (s.dev.get F.TOW_SKEW_CFG_SKEW_LIM < (theta -
          r).natAbs))) then (s.dev.towReport 0 7 h.toNat).towReport 0 8 h.toNat else (s.dev.towReport 0 7 h.toNat)).flt.queue)
          ∧ (d.get F.FLT_LOST_CNT_LOST = (if (!((s.dev.towWharf h.toNat).capture || ((s.dev.towWharf h.toNat).thetaRef.isNone
          && !true)) && (s.dev.towWharf h.toNat).thetaRef.any (fun (r : Int) => decide (s.dev.get F.TOW_SKEW_CFG_SKEW_LIM <
          (theta - r).natAbs))) then (s.dev.towReport 0 7 h.toNat).towReport 0 8 h.toNat else (s.dev.towReport 0 7
          h.toNat)).get F.FLT_LOST_CNT_LOST))) ∧
    (∀ (s : State) (h : Byte) (rtt : Nat) (a theta : Int),
      s.Running →
      s.dev.wharfUp h.toNat = true →
      (s.dev.towWharf h.toNat).since + 2 ^ s.dev.towAvg ≤ s.dev.tow.ticks →
      2 ^ s.dev.towAvg ≤ 2 * (s.dev.towWharf h.toNat).n →
      rtt = (divRound (s.dev.towWharf h.toNat).sumRtt (s.dev.towWharf h.toNat).n).toNat →
      a = divRound (s.dev.towWharf h.toNat).sumA (s.dev.towWharf h.toNat).n →
      s.dev.is F.TOW_STAT_SERVO_PAUSED = false →
      (s.dev.towWharf h.toNat).accepted = true →
      s.dev.is F.TOW_WHF_STAT_STEP h.toNat = true →
      (s.dev.towWharf h.toNat).action = 0 →
      (decide (((rtt : Int) - (s.dev.get F.TOW_WHF_RTT_RTT_REF h.toNat : Nat)).natAbs ≤ max 1 (s.dev.get
        F.TOW_STEP_CFG_STEP_PS)) && !s.dev.is F.TOW_WHF_STAT_UNTRUSTED h.toNat) = false →
      theta = divRound (((s.dev.get F.TOW_WHF_RTT_RTT_REF h.toNat : Nat) : Int)) 2 + (s.dev.towWharf h.toNat).asym - a →
      (decide (s.dev.role = 3) && s.dev.followWharf == h.toNat) = false →
      Does (.wharfDelayMeasurement h) s [.tow, .flt] ([F.TOW_WHF_LAST_RTT_M.key h.toNat, F.TOW_WHF_OFFSET_THETA_PS.key h.toNat,
        F.TOW_WHF_STAT_SKEW.key h.toNat] ++ evKeys F.TOW_EVT_PARTNER_SKEW 0 ++ reportKeys)
        (fun d => d.get F.TOW_WHF_LAST_RTT_M h.toNat = rtt % 2 ^ 32 ∧
          d.get F.TOW_WHF_RTT_RTT_REF h.toNat = s.dev.get F.TOW_WHF_RTT_RTT_REF h.toNat ∧
          d.get F.TOW_WHF_OFFSET_THETA_PS h.toNat = unsgn 32 theta ∧
          (d.towWharf h.toNat =
          { s.dev.towWharf h.toNat with sumA := 0, sumRtt := 0, n := 0, stamp := none, since := s.dev.tow.ticks, missed := 0, thetaRef := if ((s.dev.towWharf h.toNat).capture || ((s.dev.towWharf h.toNat).thetaRef.isNone && !s.dev.is F.TOW_WHF_STAT_STEP h.toNat)) then some theta else (s.dev.towWharf h.toNat).thetaRef, capture := false, run := 0 })
          ∧ (d.get F.TOW_WHF_STAT_SKEW h.toNat = (if ((s.dev.towWharf h.toNat).capture || ((s.dev.towWharf
          h.toNat).thetaRef.isNone && !s.dev.is F.TOW_WHF_STAT_STEP h.toNat)) then 0 else if (!((s.dev.towWharf
          h.toNat).capture || ((s.dev.towWharf h.toNat).thetaRef.isNone && !s.dev.is F.TOW_WHF_STAT_STEP h.toNat)) &&
          (s.dev.towWharf h.toNat).thetaRef.any (fun (r : Int) => decide (s.dev.get F.TOW_SKEW_CFG_SKEW_LIM < (theta -
          r).natAbs))) then 1 else s.dev.get F.TOW_WHF_STAT_SKEW h.toNat)) ∧
          ((!((s.dev.towWharf h.toNat).capture || ((s.dev.towWharf h.toNat).thetaRef.isNone && !s.dev.is F.TOW_WHF_STAT_STEP
          h.toNat)) && (s.dev.towWharf h.toNat).thetaRef.any (fun (r : Int) => decide (s.dev.get F.TOW_SKEW_CFG_SKEW_LIM <
          (theta - r).natAbs))) = true → d.get F.TOW_EVT_PARTNER_SKEW = 1) ∧ d.tow = { s.dev.tow with wharf := d.tow.wharf } ∧
          (d.flt.queue = (if (!((s.dev.towWharf h.toNat).capture || ((s.dev.towWharf h.toNat).thetaRef.isNone && !s.dev.is
          F.TOW_WHF_STAT_STEP h.toNat)) && (s.dev.towWharf h.toNat).thetaRef.any (fun (r : Int) => decide (s.dev.get
          F.TOW_SKEW_CFG_SKEW_LIM < (theta - r).natAbs))) then s.dev.towReport 0 8 h.toNat else s.dev).flt.queue) ∧
          (d.get F.FLT_LOST_CNT_LOST = (if (!((s.dev.towWharf h.toNat).capture || ((s.dev.towWharf h.toNat).thetaRef.isNone &&
          !s.dev.is F.TOW_WHF_STAT_STEP h.toNat)) && (s.dev.towWharf h.toNat).thetaRef.any (fun (r : Int) => decide (s.dev.get
          F.TOW_SKEW_CFG_SKEW_LIM < (theta - r).natAbs))) then s.dev.towReport 0 8 h.toNat else s.dev).get
          F.FLT_LOST_CNT_LOST))) ∧
    (∀ (s : State) (h : Byte) (rtt : Nat) (a theta : Int),
      s.Running →
      s.dev.wharfUp h.toNat = true →
      (s.dev.towWharf h.toNat).since + 2 ^ s.dev.towAvg ≤ s.dev.tow.ticks →
      2 ^ s.dev.towAvg ≤ 2 * (s.dev.towWharf h.toNat).n →
      rtt = (divRound (s.dev.towWharf h.toNat).sumRtt (s.dev.towWharf h.toNat).n).toNat →
      a = divRound (s.dev.towWharf h.toNat).sumA (s.dev.towWharf h.toNat).n →
      s.dev.is F.TOW_STAT_SERVO_PAUSED = false →
      (s.dev.towWharf h.toNat).accepted = true →
      s.dev.is F.TOW_WHF_STAT_STEP h.toNat = true →
      (s.dev.towWharf h.toNat).action = 0 →
      (decide (((rtt : Int) - (s.dev.get F.TOW_WHF_RTT_RTT_REF h.toNat : Nat)).natAbs ≤ max 1 (s.dev.get
        F.TOW_STEP_CFG_STEP_PS)) && !s.dev.is F.TOW_WHF_STAT_UNTRUSTED h.toNat) = false →
      theta = divRound (((s.dev.get F.TOW_WHF_RTT_RTT_REF h.toNat : Nat) : Int)) 2 + (s.dev.towWharf h.toNat).asym - a →
      (decide (s.dev.role = 3) && s.dev.followWharf == h.toNat) = true →
      Does (.wharfDelayMeasurement h) s [.tow, .flt] ([F.TOW_WHF_LAST_RTT_M.key h.toNat, F.TOW_WHF_OFFSET_THETA_PS.key h.toNat,
        F.TOW_WHF_STAT_SKEW.key h.toNat] ++ evKeys F.TOW_EVT_PARTNER_SKEW 0 ++ reportKeys)
        (fun d => d.get F.TOW_WHF_LAST_RTT_M h.toNat = rtt % 2 ^ 32 ∧
          d.get F.TOW_WHF_RTT_RTT_REF h.toNat = s.dev.get F.TOW_WHF_RTT_RTT_REF h.toNat ∧
          d.get F.TOW_WHF_OFFSET_THETA_PS h.toNat = unsgn 32 theta ∧
          (d.towWharf h.toNat =
          { s.dev.towWharf h.toNat with sumA := 0, sumRtt := 0, n := 0, stamp := none, since := s.dev.tow.ticks, missed := 0, thetaRef := if ((s.dev.towWharf h.toNat).capture || ((s.dev.towWharf h.toNat).thetaRef.isNone && !s.dev.is F.TOW_WHF_STAT_STEP h.toNat)) then some theta else (s.dev.towWharf h.toNat).thetaRef, capture := false, run := 0 })
          ∧ (d.get F.TOW_WHF_STAT_SKEW h.toNat = (if ((s.dev.towWharf h.toNat).capture || ((s.dev.towWharf
          h.toNat).thetaRef.isNone && !s.dev.is F.TOW_WHF_STAT_STEP h.toNat)) then 0 else if (!((s.dev.towWharf
          h.toNat).capture || ((s.dev.towWharf h.toNat).thetaRef.isNone && !s.dev.is F.TOW_WHF_STAT_STEP h.toNat)) &&
          (s.dev.towWharf h.toNat).thetaRef.any (fun (r : Int) => decide (s.dev.get F.TOW_SKEW_CFG_SKEW_LIM < (theta -
          r).natAbs))) then 1 else s.dev.get F.TOW_WHF_STAT_SKEW h.toNat)) ∧
          ((!((s.dev.towWharf h.toNat).capture || ((s.dev.towWharf h.toNat).thetaRef.isNone && !s.dev.is F.TOW_WHF_STAT_STEP
          h.toNat)) && (s.dev.towWharf h.toNat).thetaRef.any (fun (r : Int) => decide (s.dev.get F.TOW_SKEW_CFG_SKEW_LIM <
          (theta - r).natAbs))) = true → d.get F.TOW_EVT_PARTNER_SKEW = 1) ∧ d.tow = { s.dev.tow with wharf := d.tow.wharf } ∧
          (d.flt.queue = (if (!((s.dev.towWharf h.toNat).capture || ((s.dev.towWharf h.toNat).thetaRef.isNone && !s.dev.is
          F.TOW_WHF_STAT_STEP h.toNat)) && (s.dev.towWharf h.toNat).thetaRef.any (fun (r : Int) => decide (s.dev.get
          F.TOW_SKEW_CFG_SKEW_LIM < (theta - r).natAbs))) then s.dev.towReport 0 8 h.toNat else s.dev).flt.queue) ∧
          (d.get F.FLT_LOST_CNT_LOST = (if (!((s.dev.towWharf h.toNat).capture || ((s.dev.towWharf h.toNat).thetaRef.isNone &&
          !s.dev.is F.TOW_WHF_STAT_STEP h.toNat)) && (s.dev.towWharf h.toNat).thetaRef.any (fun (r : Int) => decide (s.dev.get
          F.TOW_SKEW_CFG_SKEW_LIM < (theta - r).natAbs))) then s.dev.towReport 0 8 h.toNat else s.dev).get
          F.FLT_LOST_CNT_LOST))) ∧
    (∀ (s : State) (h : Byte) (rtt : Nat) (a theta : Int),
      s.Running →
      s.dev.wharfUp h.toNat = true →
      (s.dev.towWharf h.toNat).since + 2 ^ s.dev.towAvg ≤ s.dev.tow.ticks →
      2 ^ s.dev.towAvg ≤ 2 * (s.dev.towWharf h.toNat).n →
      rtt = (divRound (s.dev.towWharf h.toNat).sumRtt (s.dev.towWharf h.toNat).n).toNat →
      a = divRound (s.dev.towWharf h.toNat).sumA (s.dev.towWharf h.toNat).n →
      s.dev.is F.TOW_STAT_SERVO_PAUSED = false →
      (s.dev.towWharf h.toNat).accepted = true →
      s.dev.is F.TOW_WHF_STAT_STEP h.toNat = true →
      (s.dev.towWharf h.toNat).action = 0 →
      (decide (((rtt : Int) - (s.dev.get F.TOW_WHF_RTT_RTT_REF h.toNat : Nat)).natAbs ≤ max 1 (s.dev.get
        F.TOW_STEP_CFG_STEP_PS)) && !s.dev.is F.TOW_WHF_STAT_UNTRUSTED h.toNat) = true →
      (s.dev.get F.TOW_STEP_CFG_RETURN_N = 0 ∨ (s.dev.towWharf h.toNat).run + 1 < s.dev.get F.TOW_STEP_CFG_RETURN_N) →
      theta = divRound (((s.dev.get F.TOW_WHF_RTT_RTT_REF h.toNat : Nat) : Int)) 2 + (s.dev.towWharf h.toNat).asym - a →
      (decide (s.dev.role = 3) && s.dev.followWharf == h.toNat) = false →
      Does (.wharfDelayMeasurement h) s [.tow, .flt] ([F.TOW_WHF_LAST_RTT_M.key h.toNat, F.TOW_WHF_OFFSET_THETA_PS.key h.toNat,
        F.TOW_WHF_STAT_SKEW.key h.toNat] ++ evKeys F.TOW_EVT_PARTNER_SKEW 0 ++ reportKeys)
        (fun d => d.get F.TOW_WHF_LAST_RTT_M h.toNat = rtt % 2 ^ 32 ∧
          d.get F.TOW_WHF_RTT_RTT_REF h.toNat = s.dev.get F.TOW_WHF_RTT_RTT_REF h.toNat ∧
          d.get F.TOW_WHF_OFFSET_THETA_PS h.toNat = unsgn 32 theta ∧
          (d.towWharf h.toNat =
          { s.dev.towWharf h.toNat with sumA := 0, sumRtt := 0, n := 0, stamp := none, since := s.dev.tow.ticks, missed := 0, thetaRef := if ((s.dev.towWharf h.toNat).capture || ((s.dev.towWharf h.toNat).thetaRef.isNone && !s.dev.is F.TOW_WHF_STAT_STEP h.toNat)) then some theta else (s.dev.towWharf h.toNat).thetaRef, capture := false, run := (s.dev.towWharf h.toNat).run + 1 })
          ∧ (d.get F.TOW_WHF_STAT_SKEW h.toNat = (if ((s.dev.towWharf h.toNat).capture || ((s.dev.towWharf
          h.toNat).thetaRef.isNone && !s.dev.is F.TOW_WHF_STAT_STEP h.toNat)) then 0 else if (!((s.dev.towWharf
          h.toNat).capture || ((s.dev.towWharf h.toNat).thetaRef.isNone && !s.dev.is F.TOW_WHF_STAT_STEP h.toNat)) &&
          (s.dev.towWharf h.toNat).thetaRef.any (fun (r : Int) => decide (s.dev.get F.TOW_SKEW_CFG_SKEW_LIM < (theta -
          r).natAbs))) then 1 else s.dev.get F.TOW_WHF_STAT_SKEW h.toNat)) ∧
          ((!((s.dev.towWharf h.toNat).capture || ((s.dev.towWharf h.toNat).thetaRef.isNone && !s.dev.is F.TOW_WHF_STAT_STEP
          h.toNat)) && (s.dev.towWharf h.toNat).thetaRef.any (fun (r : Int) => decide (s.dev.get F.TOW_SKEW_CFG_SKEW_LIM <
          (theta - r).natAbs))) = true → d.get F.TOW_EVT_PARTNER_SKEW = 1) ∧ d.tow = { s.dev.tow with wharf := d.tow.wharf } ∧
          (d.flt.queue = (if (!((s.dev.towWharf h.toNat).capture || ((s.dev.towWharf h.toNat).thetaRef.isNone && !s.dev.is
          F.TOW_WHF_STAT_STEP h.toNat)) && (s.dev.towWharf h.toNat).thetaRef.any (fun (r : Int) => decide (s.dev.get
          F.TOW_SKEW_CFG_SKEW_LIM < (theta - r).natAbs))) then s.dev.towReport 0 8 h.toNat else s.dev).flt.queue) ∧
          (d.get F.FLT_LOST_CNT_LOST = (if (!((s.dev.towWharf h.toNat).capture || ((s.dev.towWharf h.toNat).thetaRef.isNone &&
          !s.dev.is F.TOW_WHF_STAT_STEP h.toNat)) && (s.dev.towWharf h.toNat).thetaRef.any (fun (r : Int) => decide (s.dev.get
          F.TOW_SKEW_CFG_SKEW_LIM < (theta - r).natAbs))) then s.dev.towReport 0 8 h.toNat else s.dev).get
          F.FLT_LOST_CNT_LOST))) ∧
    (∀ (s : State) (h : Byte) (rtt : Nat) (a theta : Int),
      s.Running →
      s.dev.wharfUp h.toNat = true →
      (s.dev.towWharf h.toNat).since + 2 ^ s.dev.towAvg ≤ s.dev.tow.ticks →
      2 ^ s.dev.towAvg ≤ 2 * (s.dev.towWharf h.toNat).n →
      rtt = (divRound (s.dev.towWharf h.toNat).sumRtt (s.dev.towWharf h.toNat).n).toNat →
      a = divRound (s.dev.towWharf h.toNat).sumA (s.dev.towWharf h.toNat).n →
      s.dev.is F.TOW_STAT_SERVO_PAUSED = false →
      (s.dev.towWharf h.toNat).accepted = true →
      s.dev.is F.TOW_WHF_STAT_STEP h.toNat = true →
      (s.dev.towWharf h.toNat).action = 0 →
      (decide (((rtt : Int) - (s.dev.get F.TOW_WHF_RTT_RTT_REF h.toNat : Nat)).natAbs ≤ max 1 (s.dev.get
        F.TOW_STEP_CFG_STEP_PS)) && !s.dev.is F.TOW_WHF_STAT_UNTRUSTED h.toNat) = true →
      (s.dev.get F.TOW_STEP_CFG_RETURN_N = 0 ∨ (s.dev.towWharf h.toNat).run + 1 < s.dev.get F.TOW_STEP_CFG_RETURN_N) →
      theta = divRound (((s.dev.get F.TOW_WHF_RTT_RTT_REF h.toNat : Nat) : Int)) 2 + (s.dev.towWharf h.toNat).asym - a →
      (decide (s.dev.role = 3) && s.dev.followWharf == h.toNat) = true →
      Does (.wharfDelayMeasurement h) s [.tow, .flt] ([F.TOW_WHF_LAST_RTT_M.key h.toNat, F.TOW_WHF_OFFSET_THETA_PS.key h.toNat,
        F.TOW_WHF_STAT_SKEW.key h.toNat] ++ evKeys F.TOW_EVT_PARTNER_SKEW 0 ++ reportKeys)
        (fun d => d.get F.TOW_WHF_LAST_RTT_M h.toNat = rtt % 2 ^ 32 ∧
          d.get F.TOW_WHF_RTT_RTT_REF h.toNat = s.dev.get F.TOW_WHF_RTT_RTT_REF h.toNat ∧
          d.get F.TOW_WHF_OFFSET_THETA_PS h.toNat = unsgn 32 theta ∧
          (d.towWharf h.toNat =
          { s.dev.towWharf h.toNat with sumA := 0, sumRtt := 0, n := 0, stamp := none, since := s.dev.tow.ticks, missed := 0, thetaRef := if ((s.dev.towWharf h.toNat).capture || ((s.dev.towWharf h.toNat).thetaRef.isNone && !s.dev.is F.TOW_WHF_STAT_STEP h.toNat)) then some theta else (s.dev.towWharf h.toNat).thetaRef, capture := false, run := (s.dev.towWharf h.toNat).run + 1 })
          ∧ (d.get F.TOW_WHF_STAT_SKEW h.toNat = (if ((s.dev.towWharf h.toNat).capture || ((s.dev.towWharf
          h.toNat).thetaRef.isNone && !s.dev.is F.TOW_WHF_STAT_STEP h.toNat)) then 0 else if (!((s.dev.towWharf
          h.toNat).capture || ((s.dev.towWharf h.toNat).thetaRef.isNone && !s.dev.is F.TOW_WHF_STAT_STEP h.toNat)) &&
          (s.dev.towWharf h.toNat).thetaRef.any (fun (r : Int) => decide (s.dev.get F.TOW_SKEW_CFG_SKEW_LIM < (theta -
          r).natAbs))) then 1 else s.dev.get F.TOW_WHF_STAT_SKEW h.toNat)) ∧
          ((!((s.dev.towWharf h.toNat).capture || ((s.dev.towWharf h.toNat).thetaRef.isNone && !s.dev.is F.TOW_WHF_STAT_STEP
          h.toNat)) && (s.dev.towWharf h.toNat).thetaRef.any (fun (r : Int) => decide (s.dev.get F.TOW_SKEW_CFG_SKEW_LIM <
          (theta - r).natAbs))) = true → d.get F.TOW_EVT_PARTNER_SKEW = 1) ∧ d.tow = { s.dev.tow with wharf := d.tow.wharf } ∧
          (d.flt.queue = (if (!((s.dev.towWharf h.toNat).capture || ((s.dev.towWharf h.toNat).thetaRef.isNone && !s.dev.is
          F.TOW_WHF_STAT_STEP h.toNat)) && (s.dev.towWharf h.toNat).thetaRef.any (fun (r : Int) => decide (s.dev.get
          F.TOW_SKEW_CFG_SKEW_LIM < (theta - r).natAbs))) then s.dev.towReport 0 8 h.toNat else s.dev).flt.queue) ∧
          (d.get F.FLT_LOST_CNT_LOST = (if (!((s.dev.towWharf h.toNat).capture || ((s.dev.towWharf h.toNat).thetaRef.isNone &&
          !s.dev.is F.TOW_WHF_STAT_STEP h.toNat)) && (s.dev.towWharf h.toNat).thetaRef.any (fun (r : Int) => decide (s.dev.get
          F.TOW_SKEW_CFG_SKEW_LIM < (theta - r).natAbs))) then s.dev.towReport 0 8 h.toNat else s.dev).get
          F.FLT_LOST_CNT_LOST))) ∧
    (∀ (s : State) (h : Byte) (rtt : Nat) (a theta : Int),
      s.Running →
      s.dev.wharfUp h.toNat = true →
      (s.dev.towWharf h.toNat).since + 2 ^ s.dev.towAvg ≤ s.dev.tow.ticks →
      2 ^ s.dev.towAvg ≤ 2 * (s.dev.towWharf h.toNat).n →
      rtt = (divRound (s.dev.towWharf h.toNat).sumRtt (s.dev.towWharf h.toNat).n).toNat →
      a = divRound (s.dev.towWharf h.toNat).sumA (s.dev.towWharf h.toNat).n →
      s.dev.is F.TOW_STAT_SERVO_PAUSED = false →
      (s.dev.towWharf h.toNat).accepted = true →
      s.dev.is F.TOW_WHF_STAT_STEP h.toNat = true →
      (s.dev.towWharf h.toNat).action = 0 →
      (decide (((rtt : Int) - (s.dev.get F.TOW_WHF_RTT_RTT_REF h.toNat : Nat)).natAbs ≤ max 1 (s.dev.get
        F.TOW_STEP_CFG_STEP_PS)) && !s.dev.is F.TOW_WHF_STAT_UNTRUSTED h.toNat) = true →
      s.dev.get F.TOW_STEP_CFG_RETURN_N ≠ 0 →
      s.dev.get F.TOW_STEP_CFG_RETURN_N ≤ (s.dev.towWharf h.toNat).run + 1 →
      theta = divRound ((((rtt % 2 ^ 32) : Nat) : Int)) 2 + (s.dev.towWharf h.toNat).asym - a →
      (decide (s.dev.role = 3) && s.dev.followWharf == h.toNat) = false →
      Does (.wharfDelayMeasurement h) s [.tow, .flt] ([F.TOW_WHF_LAST_RTT_M.key h.toNat, F.TOW_WHF_OFFSET_THETA_PS.key h.toNat,
        F.TOW_WHF_STAT_SKEW.key h.toNat, F.TOW_WHF_RTT_RTT_REF.key h.toNat,
        F.TOW_WHF_STAT_STEP.key h.toNat] ++ evKeys F.TOW_EVT_PARTNER_SKEW 0 ++ reportKeys ++ evKeys F.TOW_EVT_STEP_RETURNED)
        (fun d => d.get F.TOW_WHF_LAST_RTT_M h.toNat = rtt % 2 ^ 32 ∧ d.get F.TOW_WHF_RTT_RTT_REF h.toNat = (rtt % 2 ^ 32) ∧
          d.get F.TOW_WHF_OFFSET_THETA_PS h.toNat = unsgn 32 theta ∧
          (d.towWharf h.toNat =
          { s.dev.towWharf h.toNat with sumA := 0, sumRtt := 0, n := 0, stamp := none, since := s.dev.tow.ticks, missed := 0, thetaRef := if ((s.dev.towWharf h.toNat).capture || ((s.dev.towWharf h.toNat).thetaRef.isNone && !false)) then some theta else (s.dev.towWharf h.toNat).thetaRef, capture := false, run := 0 })
          ∧ (d.get F.TOW_WHF_STAT_SKEW h.toNat = (if ((s.dev.towWharf h.toNat).capture || ((s.dev.towWharf
          h.toNat).thetaRef.isNone && !false)) then 0 else if (!((s.dev.towWharf h.toNat).capture || ((s.dev.towWharf
          h.toNat).thetaRef.isNone && !false)) && (s.dev.towWharf h.toNat).thetaRef.any (fun (r : Int) => decide (s.dev.get
          F.TOW_SKEW_CFG_SKEW_LIM < (theta - r).natAbs))) then 1 else s.dev.get F.TOW_WHF_STAT_SKEW h.toNat)) ∧
          ((!((s.dev.towWharf h.toNat).capture || ((s.dev.towWharf h.toNat).thetaRef.isNone && !false)) && (s.dev.towWharf
          h.toNat).thetaRef.any (fun (r : Int) => decide (s.dev.get F.TOW_SKEW_CFG_SKEW_LIM < (theta - r).natAbs))) = true →
          d.get F.TOW_EVT_PARTNER_SKEW = 1) ∧ d.get F.TOW_WHF_STAT_STEP h.toNat = 0 ∧ d.get F.TOW_EVT_STEP_RETURNED = 1 ∧
          d.tow = { s.dev.tow with wharf := d.tow.wharf } ∧ (d.flt.queue =
          (if (!((s.dev.towWharf h.toNat).capture || ((s.dev.towWharf h.toNat).thetaRef.isNone && !false)) && (s.dev.towWharf
          h.toNat).thetaRef.any (fun (r : Int) => decide (s.dev.get F.TOW_SKEW_CFG_SKEW_LIM < (theta - r).natAbs))) then
          s.dev.towReport 0 8 h.toNat else s.dev).flt.queue) ∧ (d.get F.FLT_LOST_CNT_LOST =
          (if (!((s.dev.towWharf h.toNat).capture || ((s.dev.towWharf h.toNat).thetaRef.isNone && !false)) && (s.dev.towWharf
          h.toNat).thetaRef.any (fun (r : Int) => decide (s.dev.get F.TOW_SKEW_CFG_SKEW_LIM < (theta - r).natAbs))) then
          s.dev.towReport 0 8 h.toNat else s.dev).get F.FLT_LOST_CNT_LOST))) ∧
    (∀ (s : State) (h : Byte) (rtt : Nat) (a theta : Int),
      s.Running →
      s.dev.wharfUp h.toNat = true →
      (s.dev.towWharf h.toNat).since + 2 ^ s.dev.towAvg ≤ s.dev.tow.ticks →
      2 ^ s.dev.towAvg ≤ 2 * (s.dev.towWharf h.toNat).n →
      rtt = (divRound (s.dev.towWharf h.toNat).sumRtt (s.dev.towWharf h.toNat).n).toNat →
      a = divRound (s.dev.towWharf h.toNat).sumA (s.dev.towWharf h.toNat).n →
      s.dev.is F.TOW_STAT_SERVO_PAUSED = false →
      (s.dev.towWharf h.toNat).accepted = true →
      s.dev.is F.TOW_WHF_STAT_STEP h.toNat = true →
      (s.dev.towWharf h.toNat).action = 0 →
      (decide (((rtt : Int) - (s.dev.get F.TOW_WHF_RTT_RTT_REF h.toNat : Nat)).natAbs ≤ max 1 (s.dev.get
        F.TOW_STEP_CFG_STEP_PS)) && !s.dev.is F.TOW_WHF_STAT_UNTRUSTED h.toNat) = true →
      s.dev.get F.TOW_STEP_CFG_RETURN_N ≠ 0 →
      s.dev.get F.TOW_STEP_CFG_RETURN_N ≤ (s.dev.towWharf h.toNat).run + 1 →
      theta = divRound ((((rtt % 2 ^ 32) : Nat) : Int)) 2 + (s.dev.towWharf h.toNat).asym - a →
      (decide (s.dev.role = 3) && s.dev.followWharf == h.toNat) = true →
      (s.dev.tow.phase = .source ∨ (s.dev.tow.phase = .idle ∧ s.dev.tow.engaged = false)) →
      Does (.wharfDelayMeasurement h) s [.tow, .flt] ([F.TOW_WHF_LAST_RTT_M.key h.toNat, F.TOW_WHF_OFFSET_THETA_PS.key h.toNat,
        F.TOW_WHF_STAT_SKEW.key h.toNat, F.TOW_WHF_RTT_RTT_REF.key h.toNat,
        F.TOW_WHF_STAT_STEP.key h.toNat] ++ evKeys F.TOW_EVT_PARTNER_SKEW 0 ++ reportKeys ++ evKeys F.TOW_EVT_STEP_RETURNED ++
        [F.TOW_OFFSET_THETA_PS.key 0])
        (fun d => d.get F.TOW_WHF_LAST_RTT_M h.toNat = rtt % 2 ^ 32 ∧ d.get F.TOW_WHF_RTT_RTT_REF h.toNat = (rtt % 2 ^ 32) ∧
          d.get F.TOW_WHF_OFFSET_THETA_PS h.toNat = unsgn 32 theta ∧
          (d.towWharf h.toNat =
          { s.dev.towWharf h.toNat with sumA := 0, sumRtt := 0, n := 0, stamp := none, since := s.dev.tow.ticks, missed := 0, thetaRef := if ((s.dev.towWharf h.toNat).capture || ((s.dev.towWharf h.toNat).thetaRef.isNone && !false)) then some theta else (s.dev.towWharf h.toNat).thetaRef, capture := false, run := 0 })
          ∧ (d.get F.TOW_WHF_STAT_SKEW h.toNat = (if ((s.dev.towWharf h.toNat).capture || ((s.dev.towWharf
          h.toNat).thetaRef.isNone && !false)) then 0 else if (!((s.dev.towWharf h.toNat).capture || ((s.dev.towWharf
          h.toNat).thetaRef.isNone && !false)) && (s.dev.towWharf h.toNat).thetaRef.any (fun (r : Int) => decide (s.dev.get
          F.TOW_SKEW_CFG_SKEW_LIM < (theta - r).natAbs))) then 1 else s.dev.get F.TOW_WHF_STAT_SKEW h.toNat)) ∧
          ((!((s.dev.towWharf h.toNat).capture || ((s.dev.towWharf h.toNat).thetaRef.isNone && !false)) && (s.dev.towWharf
          h.toNat).thetaRef.any (fun (r : Int) => decide (s.dev.get F.TOW_SKEW_CFG_SKEW_LIM < (theta - r).natAbs))) = true →
          d.get F.TOW_EVT_PARTNER_SKEW = 1) ∧ d.get F.TOW_WHF_STAT_STEP h.toNat = 0 ∧ d.get F.TOW_EVT_STEP_RETURNED = 1 ∧
          d.get F.TOW_OFFSET_THETA_PS = unsgnSat 32 theta ∧ d.tow =
          { s.dev.tow with wharf := d.tow.wharf, full := some (theta + 16000 * (s.dev.towWharf h.toNat).farOff) } ∧
          (d.flt.queue = (if (!((s.dev.towWharf h.toNat).capture || ((s.dev.towWharf h.toNat).thetaRef.isNone && !false)) &&
          (s.dev.towWharf h.toNat).thetaRef.any (fun (r : Int) => decide (s.dev.get F.TOW_SKEW_CFG_SKEW_LIM < (theta -
          r).natAbs))) then s.dev.towReport 0 8 h.toNat else s.dev).flt.queue) ∧
          (d.get F.FLT_LOST_CNT_LOST = (if (!((s.dev.towWharf h.toNat).capture || ((s.dev.towWharf h.toNat).thetaRef.isNone &&
          !false)) && (s.dev.towWharf h.toNat).thetaRef.any (fun (r : Int) => decide (s.dev.get F.TOW_SKEW_CFG_SKEW_LIM <
          (theta - r).natAbs))) then s.dev.towReport 0 8 h.toNat else s.dev).get F.FLT_LOST_CNT_LOST))) ∧
    (∀ (s : State) (h : Byte) (rtt : Nat) (a theta : Int),
      s.Running →
      s.dev.wharfUp h.toNat = true →
      (s.dev.towWharf h.toNat).since + 2 ^ s.dev.towAvg ≤ s.dev.tow.ticks →
      2 ^ s.dev.towAvg ≤ 2 * (s.dev.towWharf h.toNat).n →
      rtt = (divRound (s.dev.towWharf h.toNat).sumRtt (s.dev.towWharf h.toNat).n).toNat →
      a = divRound (s.dev.towWharf h.toNat).sumA (s.dev.towWharf h.toNat).n →
      s.dev.is F.TOW_STAT_SERVO_PAUSED = false →
      (s.dev.towWharf h.toNat).accepted = true →
      s.dev.is F.TOW_WHF_STAT_STEP h.toNat = true →
      (s.dev.towWharf h.toNat).action = 0 →
      (decide (((rtt : Int) - (s.dev.get F.TOW_WHF_RTT_RTT_REF h.toNat : Nat)).natAbs ≤ max 1 (s.dev.get
        F.TOW_STEP_CFG_STEP_PS)) && !s.dev.is F.TOW_WHF_STAT_UNTRUSTED h.toNat) = true →
      s.dev.get F.TOW_STEP_CFG_RETURN_N ≠ 0 →
      s.dev.get F.TOW_STEP_CFG_RETURN_N ≤ (s.dev.towWharf h.toNat).run + 1 →
      theta = divRound ((((rtt % 2 ^ 32) : Nat) : Int)) 2 + (s.dev.towWharf h.toNat).asym - a →
      (decide (s.dev.role = 3) && s.dev.followWharf == h.toNat) = true →
      s.dev.tow.phase = .idle →
      s.dev.tow.engaged = true →
      s.dev.towHold = false →
      s.dev.tow.slew = false →
      s.dev.is F.TOW_STAT_SERVO_PAUSED = false →
      Does (.wharfDelayMeasurement h) s [.tow, .flt] ([F.TOW_WHF_LAST_RTT_M.key h.toNat, F.TOW_WHF_OFFSET_THETA_PS.key h.toNat,
        F.TOW_WHF_STAT_SKEW.key h.toNat, F.TOW_WHF_RTT_RTT_REF.key h.toNat,
        F.TOW_WHF_STAT_STEP.key h.toNat] ++ evKeys F.TOW_EVT_PARTNER_SKEW 0 ++ reportKeys ++ evKeys F.TOW_EVT_STEP_RETURNED ++
        [F.TOW_OFFSET_THETA_PS.key 0, F.TOW_STEER_S.key 0])
        (fun d => d.get F.TOW_WHF_LAST_RTT_M h.toNat = rtt % 2 ^ 32 ∧ d.get F.TOW_WHF_RTT_RTT_REF h.toNat = (rtt % 2 ^ 32) ∧
          d.get F.TOW_WHF_OFFSET_THETA_PS h.toNat = unsgn 32 theta ∧
          (d.towWharf h.toNat =
          { s.dev.towWharf h.toNat with sumA := 0, sumRtt := 0, n := 0, stamp := none, since := s.dev.tow.ticks, missed := 0, thetaRef := if ((s.dev.towWharf h.toNat).capture || ((s.dev.towWharf h.toNat).thetaRef.isNone && !false)) then some theta else (s.dev.towWharf h.toNat).thetaRef, capture := false, run := 0 })
          ∧ (d.get F.TOW_WHF_STAT_SKEW h.toNat = (if ((s.dev.towWharf h.toNat).capture || ((s.dev.towWharf
          h.toNat).thetaRef.isNone && !false)) then 0 else if (!((s.dev.towWharf h.toNat).capture || ((s.dev.towWharf
          h.toNat).thetaRef.isNone && !false)) && (s.dev.towWharf h.toNat).thetaRef.any (fun (r : Int) => decide (s.dev.get
          F.TOW_SKEW_CFG_SKEW_LIM < (theta - r).natAbs))) then 1 else s.dev.get F.TOW_WHF_STAT_SKEW h.toNat)) ∧
          ((!((s.dev.towWharf h.toNat).capture || ((s.dev.towWharf h.toNat).thetaRef.isNone && !false)) && (s.dev.towWharf
          h.toNat).thetaRef.any (fun (r : Int) => decide (s.dev.get F.TOW_SKEW_CFG_SKEW_LIM < (theta - r).natAbs))) = true →
          d.get F.TOW_EVT_PARTNER_SKEW = 1) ∧ d.get F.TOW_WHF_STAT_STEP h.toNat = 0 ∧ d.get F.TOW_EVT_STEP_RETURNED = 1 ∧
          d.get F.TOW_OFFSET_THETA_PS = unsgnSat 32 theta ∧ d.get F.TOW_STEER_S =
          unsgn 32 (clampAbs s.dev.steerLimit (s.dev.steer + clampAbs s.dev.slewLimit (divRound ((Config.servoGains
          s.dev.servoBandwidth (s.dev.tow.ticks - s.dev.tow.steeredAt)).1 * (theta - s.dev.tow.lastTheta) + (Config.servoGains
          s.dev.servoBandwidth (s.dev.tow.ticks - s.dev.tow.steeredAt)).2 * theta) (2 ^ 20)))) ∧
          d.tow = { s.dev.tow with wharf := d.tow.wharf, full := some (theta + 16000 * (s.dev.towWharf h.toNat).farOff), hist := ((clampAbs s.dev.steerLimit (s.dev.steer + clampAbs s.dev.slewLimit (divRound ((Config.servoGains s.dev.servoBandwidth (s.dev.tow.ticks - s.dev.tow.steeredAt)).1 * (theta - s.dev.tow.lastTheta) + (Config.servoGains s.dev.servoBandwidth (s.dev.tow.ticks - s.dev.tow.steeredAt)).2 * theta) (2 ^ 20)))) :: s.dev.tow.hist).take (2 ^ s.dev.get F.TOW_SERVO_CFG_HOLD_LOG), steeredAt := s.dev.tow.ticks, lastTheta := theta }
          ∧ (d.flt.queue = (if (!((s.dev.towWharf h.toNat).capture || ((s.dev.towWharf h.toNat).thetaRef.isNone && !false)) &&
          (s.dev.towWharf h.toNat).thetaRef.any (fun (r : Int) => decide (s.dev.get F.TOW_SKEW_CFG_SKEW_LIM < (theta -
          r).natAbs))) then s.dev.towReport 0 8 h.toNat else s.dev).flt.queue) ∧
          (d.get F.FLT_LOST_CNT_LOST = (if (!((s.dev.towWharf h.toNat).capture || ((s.dev.towWharf h.toNat).thetaRef.isNone &&
          !false)) && (s.dev.towWharf h.toNat).thetaRef.any (fun (r : Int) => decide (s.dev.get F.TOW_SKEW_CFG_SKEW_LIM <
          (theta - r).natAbs))) then s.dev.towReport 0 8 h.toNat else s.dev).get F.FLT_LOST_CNT_LOST))) ∧
    (∀ (s : State) (h : Byte) (rtt : Nat) (a theta : Int),
      s.Running →
      s.dev.wharfUp h.toNat = true →
      (s.dev.towWharf h.toNat).since + 2 ^ s.dev.towAvg ≤ s.dev.tow.ticks →
      2 ^ s.dev.towAvg ≤ 2 * (s.dev.towWharf h.toNat).n →
      rtt = (divRound (s.dev.towWharf h.toNat).sumRtt (s.dev.towWharf h.toNat).n).toNat →
      a = divRound (s.dev.towWharf h.toNat).sumA (s.dev.towWharf h.toNat).n →
      s.dev.is F.TOW_STAT_SERVO_PAUSED = false →
      (s.dev.towWharf h.toNat).accepted = true →
      s.dev.is F.TOW_WHF_STAT_STEP h.toNat = true →
      ((s.dev.towWharf h.toNat).action = 1 ∨ (s.dev.towWharf h.toNat).action = 2) →
      rtt < 2 ^ 32 →
      theta = divRound (((rtt : Nat) : Int)) 2 + (if (s.dev.towWharf h.toNat).action =
        1 then 0 else sgn 32 (s.dev.get F.TOW_WHF_NEW_ASYM_ASYM_PS)) - a →
      (decide (s.dev.role = 3) && s.dev.followWharf == h.toNat) = false →
      Does (.wharfDelayMeasurement h) s [.tow, .flt] ([F.TOW_WHF_LAST_RTT_M.key h.toNat, F.TOW_WHF_OFFSET_THETA_PS.key h.toNat,
        F.TOW_WHF_STAT_SKEW.key h.toNat, F.TOW_WHF_RTT_RTT_REF.key h.toNat, F.TOW_WHF_STAT_STEP.key h.toNat,
        F.TOW_WHF_STAT_UNTRUSTED.key h.toNat] ++ evKeys F.TOW_EVT_PARTNER_SKEW 0 ++ reportKeys)
        (fun d => d.get F.TOW_WHF_LAST_RTT_M h.toNat = rtt % 2 ^ 32 ∧ d.get F.TOW_WHF_RTT_RTT_REF h.toNat = rtt ∧
          d.get F.TOW_WHF_OFFSET_THETA_PS h.toNat = unsgn 32 theta ∧
          (d.towWharf h.toNat =
          { s.dev.towWharf h.toNat with sumA := 0, sumRtt := 0, n := 0, stamp := none, since := s.dev.tow.ticks, missed := 0, thetaRef := if ((s.dev.towWharf h.toNat).capture || ((s.dev.towWharf h.toNat).thetaRef.isNone && !false)) then some theta else (s.dev.towWharf h.toNat).thetaRef, capture := false, action := 0, run := 0, asym := if (s.dev.towWharf h.toNat).action = 1 then 0 else sgn 32 (s.dev.get F.TOW_WHF_NEW_ASYM_ASYM_PS) })
          ∧ (d.get F.TOW_WHF_STAT_SKEW h.toNat = (if ((s.dev.towWharf h.toNat).capture || ((s.dev.towWharf
          h.toNat).thetaRef.isNone && !false)) then 0 else if (!((s.dev.towWharf h.toNat).capture || ((s.dev.towWharf
          h.toNat).thetaRef.isNone && !false)) && (s.dev.towWharf h.toNat).thetaRef.any (fun (r : Int) => decide (s.dev.get
          F.TOW_SKEW_CFG_SKEW_LIM < (theta - r).natAbs))) then 1 else s.dev.get F.TOW_WHF_STAT_SKEW h.toNat)) ∧
          ((!((s.dev.towWharf h.toNat).capture || ((s.dev.towWharf h.toNat).thetaRef.isNone && !false)) && (s.dev.towWharf
          h.toNat).thetaRef.any (fun (r : Int) => decide (s.dev.get F.TOW_SKEW_CFG_SKEW_LIM < (theta - r).natAbs))) = true →
          d.get F.TOW_EVT_PARTNER_SKEW = 1) ∧ d.get F.TOW_WHF_STAT_STEP h.toNat = 0 ∧
          d.get F.TOW_WHF_STAT_UNTRUSTED h.toNat = 0 ∧ d.tow = { s.dev.tow with wharf := d.tow.wharf } ∧
          (d.flt.queue = (if (!((s.dev.towWharf h.toNat).capture || ((s.dev.towWharf h.toNat).thetaRef.isNone && !false)) &&
          (s.dev.towWharf h.toNat).thetaRef.any (fun (r : Int) => decide (s.dev.get F.TOW_SKEW_CFG_SKEW_LIM < (theta -
          r).natAbs))) then s.dev.towReport 0 8 h.toNat else s.dev).flt.queue) ∧
          (d.get F.FLT_LOST_CNT_LOST = (if (!((s.dev.towWharf h.toNat).capture || ((s.dev.towWharf h.toNat).thetaRef.isNone &&
          !false)) && (s.dev.towWharf h.toNat).thetaRef.any (fun (r : Int) => decide (s.dev.get F.TOW_SKEW_CFG_SKEW_LIM <
          (theta - r).natAbs))) then s.dev.towReport 0 8 h.toNat else s.dev).get F.FLT_LOST_CNT_LOST))) ∧
    (∀ (s : State) (h : Byte) (rtt : Nat) (a theta : Int),
      s.Running →
      s.dev.wharfUp h.toNat = true →
      (s.dev.towWharf h.toNat).since + 2 ^ s.dev.towAvg ≤ s.dev.tow.ticks →
      2 ^ s.dev.towAvg ≤ 2 * (s.dev.towWharf h.toNat).n →
      rtt = (divRound (s.dev.towWharf h.toNat).sumRtt (s.dev.towWharf h.toNat).n).toNat →
      a = divRound (s.dev.towWharf h.toNat).sumA (s.dev.towWharf h.toNat).n →
      s.dev.is F.TOW_STAT_SERVO_PAUSED = false →
      (s.dev.towWharf h.toNat).accepted = true →
      s.dev.is F.TOW_WHF_STAT_STEP h.toNat = true →
      ((s.dev.towWharf h.toNat).action = 1 ∨ (s.dev.towWharf h.toNat).action = 2) →
      rtt < 2 ^ 32 →
      theta = divRound (((rtt : Nat) : Int)) 2 + (if (s.dev.towWharf h.toNat).action =
        1 then 0 else sgn 32 (s.dev.get F.TOW_WHF_NEW_ASYM_ASYM_PS)) - a →
      (decide (s.dev.role = 3) && s.dev.followWharf == h.toNat) = true →
      (s.dev.tow.phase = .source ∨ (s.dev.tow.phase = .idle ∧ s.dev.tow.engaged = false)) →
      Does (.wharfDelayMeasurement h) s [.tow, .flt] ([F.TOW_WHF_LAST_RTT_M.key h.toNat, F.TOW_WHF_OFFSET_THETA_PS.key h.toNat,
        F.TOW_WHF_STAT_SKEW.key h.toNat, F.TOW_WHF_RTT_RTT_REF.key h.toNat, F.TOW_WHF_STAT_STEP.key h.toNat,
        F.TOW_WHF_STAT_UNTRUSTED.key h.toNat] ++ evKeys F.TOW_EVT_PARTNER_SKEW 0 ++ reportKeys ++ [F.TOW_OFFSET_THETA_PS.key 0])
        (fun d => d.get F.TOW_WHF_LAST_RTT_M h.toNat = rtt % 2 ^ 32 ∧ d.get F.TOW_WHF_RTT_RTT_REF h.toNat = rtt ∧
          d.get F.TOW_WHF_OFFSET_THETA_PS h.toNat = unsgn 32 theta ∧
          (d.towWharf h.toNat =
          { s.dev.towWharf h.toNat with sumA := 0, sumRtt := 0, n := 0, stamp := none, since := s.dev.tow.ticks, missed := 0, thetaRef := if ((s.dev.towWharf h.toNat).capture || ((s.dev.towWharf h.toNat).thetaRef.isNone && !false)) then some theta else (s.dev.towWharf h.toNat).thetaRef, capture := false, action := 0, run := 0, asym := if (s.dev.towWharf h.toNat).action = 1 then 0 else sgn 32 (s.dev.get F.TOW_WHF_NEW_ASYM_ASYM_PS) })
          ∧ (d.get F.TOW_WHF_STAT_SKEW h.toNat = (if ((s.dev.towWharf h.toNat).capture || ((s.dev.towWharf
          h.toNat).thetaRef.isNone && !false)) then 0 else if (!((s.dev.towWharf h.toNat).capture || ((s.dev.towWharf
          h.toNat).thetaRef.isNone && !false)) && (s.dev.towWharf h.toNat).thetaRef.any (fun (r : Int) => decide (s.dev.get
          F.TOW_SKEW_CFG_SKEW_LIM < (theta - r).natAbs))) then 1 else s.dev.get F.TOW_WHF_STAT_SKEW h.toNat)) ∧
          ((!((s.dev.towWharf h.toNat).capture || ((s.dev.towWharf h.toNat).thetaRef.isNone && !false)) && (s.dev.towWharf
          h.toNat).thetaRef.any (fun (r : Int) => decide (s.dev.get F.TOW_SKEW_CFG_SKEW_LIM < (theta - r).natAbs))) = true →
          d.get F.TOW_EVT_PARTNER_SKEW = 1) ∧ d.get F.TOW_WHF_STAT_STEP h.toNat = 0 ∧
          d.get F.TOW_WHF_STAT_UNTRUSTED h.toNat = 0 ∧ d.get F.TOW_OFFSET_THETA_PS = unsgnSat 32 theta ∧
          d.tow = { s.dev.tow with wharf := d.tow.wharf, full := some (theta + 16000 * (s.dev.towWharf h.toNat).farOff) } ∧
          (d.flt.queue = (if (!((s.dev.towWharf h.toNat).capture || ((s.dev.towWharf h.toNat).thetaRef.isNone && !false)) &&
          (s.dev.towWharf h.toNat).thetaRef.any (fun (r : Int) => decide (s.dev.get F.TOW_SKEW_CFG_SKEW_LIM < (theta -
          r).natAbs))) then s.dev.towReport 0 8 h.toNat else s.dev).flt.queue) ∧
          (d.get F.FLT_LOST_CNT_LOST = (if (!((s.dev.towWharf h.toNat).capture || ((s.dev.towWharf h.toNat).thetaRef.isNone &&
          !false)) && (s.dev.towWharf h.toNat).thetaRef.any (fun (r : Int) => decide (s.dev.get F.TOW_SKEW_CFG_SKEW_LIM <
          (theta - r).natAbs))) then s.dev.towReport 0 8 h.toNat else s.dev).get F.FLT_LOST_CNT_LOST))) ∧
    (∀ (s : State) (h : Byte) (rtt : Nat) (a theta : Int),
      s.Running →
      s.dev.wharfUp h.toNat = true →
      (s.dev.towWharf h.toNat).since + 2 ^ s.dev.towAvg ≤ s.dev.tow.ticks →
      2 ^ s.dev.towAvg ≤ 2 * (s.dev.towWharf h.toNat).n →
      rtt = (divRound (s.dev.towWharf h.toNat).sumRtt (s.dev.towWharf h.toNat).n).toNat →
      a = divRound (s.dev.towWharf h.toNat).sumA (s.dev.towWharf h.toNat).n →
      s.dev.is F.TOW_STAT_SERVO_PAUSED = false →
      (s.dev.towWharf h.toNat).accepted = true →
      s.dev.is F.TOW_WHF_STAT_STEP h.toNat = true →
      ((s.dev.towWharf h.toNat).action = 1 ∨ (s.dev.towWharf h.toNat).action = 2) →
      rtt < 2 ^ 32 →
      theta = divRound (((rtt : Nat) : Int)) 2 + (if (s.dev.towWharf h.toNat).action =
        1 then 0 else sgn 32 (s.dev.get F.TOW_WHF_NEW_ASYM_ASYM_PS)) - a →
      (decide (s.dev.role = 3) && s.dev.followWharf == h.toNat) = true →
      s.dev.tow.phase = .idle →
      s.dev.tow.engaged = true →
      s.dev.towHold = false →
      s.dev.tow.slew = false →
      s.dev.is F.TOW_STAT_SERVO_PAUSED = false →
      Does (.wharfDelayMeasurement h) s [.tow, .flt] ([F.TOW_WHF_LAST_RTT_M.key h.toNat, F.TOW_WHF_OFFSET_THETA_PS.key h.toNat,
        F.TOW_WHF_STAT_SKEW.key h.toNat, F.TOW_WHF_RTT_RTT_REF.key h.toNat, F.TOW_WHF_STAT_STEP.key h.toNat,
        F.TOW_WHF_STAT_UNTRUSTED.key h.toNat] ++ evKeys F.TOW_EVT_PARTNER_SKEW 0 ++ reportKeys ++ [F.TOW_OFFSET_THETA_PS.key 0,
        F.TOW_STEER_S.key 0])
        (fun d => d.get F.TOW_WHF_LAST_RTT_M h.toNat = rtt % 2 ^ 32 ∧ d.get F.TOW_WHF_RTT_RTT_REF h.toNat = rtt ∧
          d.get F.TOW_WHF_OFFSET_THETA_PS h.toNat = unsgn 32 theta ∧
          (d.towWharf h.toNat =
          { s.dev.towWharf h.toNat with sumA := 0, sumRtt := 0, n := 0, stamp := none, since := s.dev.tow.ticks, missed := 0, thetaRef := if ((s.dev.towWharf h.toNat).capture || ((s.dev.towWharf h.toNat).thetaRef.isNone && !false)) then some theta else (s.dev.towWharf h.toNat).thetaRef, capture := false, action := 0, run := 0, asym := if (s.dev.towWharf h.toNat).action = 1 then 0 else sgn 32 (s.dev.get F.TOW_WHF_NEW_ASYM_ASYM_PS) })
          ∧ (d.get F.TOW_WHF_STAT_SKEW h.toNat = (if ((s.dev.towWharf h.toNat).capture || ((s.dev.towWharf
          h.toNat).thetaRef.isNone && !false)) then 0 else if (!((s.dev.towWharf h.toNat).capture || ((s.dev.towWharf
          h.toNat).thetaRef.isNone && !false)) && (s.dev.towWharf h.toNat).thetaRef.any (fun (r : Int) => decide (s.dev.get
          F.TOW_SKEW_CFG_SKEW_LIM < (theta - r).natAbs))) then 1 else s.dev.get F.TOW_WHF_STAT_SKEW h.toNat)) ∧
          ((!((s.dev.towWharf h.toNat).capture || ((s.dev.towWharf h.toNat).thetaRef.isNone && !false)) && (s.dev.towWharf
          h.toNat).thetaRef.any (fun (r : Int) => decide (s.dev.get F.TOW_SKEW_CFG_SKEW_LIM < (theta - r).natAbs))) = true →
          d.get F.TOW_EVT_PARTNER_SKEW = 1) ∧ d.get F.TOW_WHF_STAT_STEP h.toNat = 0 ∧
          d.get F.TOW_WHF_STAT_UNTRUSTED h.toNat = 0 ∧ d.get F.TOW_OFFSET_THETA_PS = unsgnSat 32 theta ∧
          d.get F.TOW_STEER_S = unsgn 32 (clampAbs s.dev.steerLimit (s.dev.steer + clampAbs s.dev.slewLimit (divRound
          ((Config.servoGains s.dev.servoBandwidth (s.dev.tow.ticks - s.dev.tow.steeredAt)).1 * (theta - s.dev.tow.lastTheta) +
          (Config.servoGains s.dev.servoBandwidth (s.dev.tow.ticks - s.dev.tow.steeredAt)).2 * theta) (2 ^ 20)))) ∧
          d.tow = { s.dev.tow with wharf := d.tow.wharf, full := some (theta + 16000 * (s.dev.towWharf h.toNat).farOff), hist := ((clampAbs s.dev.steerLimit (s.dev.steer + clampAbs s.dev.slewLimit (divRound ((Config.servoGains s.dev.servoBandwidth (s.dev.tow.ticks - s.dev.tow.steeredAt)).1 * (theta - s.dev.tow.lastTheta) + (Config.servoGains s.dev.servoBandwidth (s.dev.tow.ticks - s.dev.tow.steeredAt)).2 * theta) (2 ^ 20)))) :: s.dev.tow.hist).take (2 ^ s.dev.get F.TOW_SERVO_CFG_HOLD_LOG), steeredAt := s.dev.tow.ticks, lastTheta := theta }
          ∧ (d.flt.queue = (if (!((s.dev.towWharf h.toNat).capture || ((s.dev.towWharf h.toNat).thetaRef.isNone && !false)) &&
          (s.dev.towWharf h.toNat).thetaRef.any (fun (r : Int) => decide (s.dev.get F.TOW_SKEW_CFG_SKEW_LIM < (theta -
          r).natAbs))) then s.dev.towReport 0 8 h.toNat else s.dev).flt.queue) ∧
          (d.get F.FLT_LOST_CNT_LOST = (if (!((s.dev.towWharf h.toNat).capture || ((s.dev.towWharf h.toNat).thetaRef.isNone &&
          !false)) && (s.dev.towWharf h.toNat).thetaRef.any (fun (r : Int) => decide (s.dev.get F.TOW_SKEW_CFG_SKEW_LIM <
          (theta - r).natAbs))) then s.dev.towReport 0 8 h.toNat else s.dev).get F.FLT_LOST_CNT_LOST))) ∧
    (∀ (s : State) (h : Byte) (rtt : Nat) (a theta : Int),
      s.Running →
      s.dev.wharfUp h.toNat = true →
      (s.dev.towWharf h.toNat).since + 2 ^ s.dev.towAvg ≤ s.dev.tow.ticks →
      2 ^ s.dev.towAvg ≤ 2 * (s.dev.towWharf h.toNat).n →
      rtt = (divRound (s.dev.towWharf h.toNat).sumRtt (s.dev.towWharf h.toNat).n).toNat →
      a = divRound (s.dev.towWharf h.toNat).sumA (s.dev.towWharf h.toNat).n →
      s.dev.is F.TOW_STAT_SERVO_PAUSED = false →
      (s.dev.towWharf h.toNat).accepted = true →
      s.dev.is F.TOW_WHF_STAT_STEP h.toNat = true →
      ((s.dev.towWharf h.toNat).action = 1 ∨ (s.dev.towWharf h.toNat).action = 2) →
      rtt < 2 ^ 32 →
      theta = divRound (((rtt : Nat) : Int)) 2 + (if (s.dev.towWharf h.toNat).action =
        1 then 0 else sgn 32 (s.dev.get F.TOW_WHF_NEW_ASYM_ASYM_PS)) - a →
      (decide (s.dev.role = 3) && s.dev.followWharf == h.toNat) = true →
      s.dev.tow.phase = .idle →
      s.dev.tow.engaged = true →
      s.dev.towHold = true →
      s.dev.tow.cause ≠ .jump →
      Answers (.wharfDelayMeasurement h) s (fun d => d.get F.TOW_WHF_LAST_RTT_M h.toNat = rtt % 2 ^ 32 ∧
        d.get F.TOW_WHF_RTT_RTT_REF h.toNat = rtt ∧ d.get F.TOW_WHF_OFFSET_THETA_PS h.toNat = unsgn 32 theta ∧
        (d.towWharf h.toNat =
        { s.dev.towWharf h.toNat with sumA := 0, sumRtt := 0, n := 0, stamp := none, since := s.dev.tow.ticks, missed := 0, thetaRef := if ((s.dev.towWharf h.toNat).capture || ((s.dev.towWharf h.toNat).thetaRef.isNone && !false)) then some theta else (s.dev.towWharf h.toNat).thetaRef, capture := false, action := 0, run := 0, asym := if (s.dev.towWharf h.toNat).action = 1 then 0 else sgn 32 (s.dev.get F.TOW_WHF_NEW_ASYM_ASYM_PS) })
        ∧ (d.get F.TOW_WHF_STAT_SKEW h.toNat = (if ((s.dev.towWharf h.toNat).capture || ((s.dev.towWharf
        h.toNat).thetaRef.isNone && !false)) then 0 else if (!((s.dev.towWharf h.toNat).capture || ((s.dev.towWharf
        h.toNat).thetaRef.isNone && !false)) && (s.dev.towWharf h.toNat).thetaRef.any (fun (r : Int) => decide (s.dev.get
        F.TOW_SKEW_CFG_SKEW_LIM < (theta - r).natAbs))) then 1 else s.dev.get F.TOW_WHF_STAT_SKEW h.toNat)) ∧
        ((!((s.dev.towWharf h.toNat).capture || ((s.dev.towWharf h.toNat).thetaRef.isNone && !false)) && (s.dev.towWharf
        h.toNat).thetaRef.any (fun (r : Int) => decide (s.dev.get F.TOW_SKEW_CFG_SKEW_LIM < (theta - r).natAbs))) = true →
        d.get F.TOW_EVT_PARTNER_SKEW = 1) ∧ d.get F.TOW_WHF_STAT_STEP h.toNat = 0 ∧
        d.get F.TOW_WHF_STAT_UNTRUSTED h.toNat = 0 ∧ d.get F.TOW_OFFSET_THETA_PS = unsgnSat 32 theta ∧
        (d.sourceOk = true → (if 8000 < theta.natAbs then d.get F.TOW_STAT_REALIGN_NEEDED = 1 ∧ d.get F.TOW_STAT_HOLDOVER = 1 ∧
        d.tow.cause = s.dev.tow.cause ∧ d.get F.TOW_STEER_S = s.dev.get F.TOW_STEER_S else d.get F.TOW_STAT_HOLDOVER = 0 ∧
        d.get F.TOW_EVT_HOLDOVER_LEFT = 1 ∧ d.tow.cause = HoldCause.none ∧ d.tow.slew = !s.dev.inWindow theta)) ∧
        (d.sourceOk = false → d.get F.TOW_STAT_HOLDOVER = 1 ∧ d.tow.cause = s.dev.tow.cause ∧
        d.get F.TOW_STEER_S = s.dev.get F.TOW_STEER_S))) ∧
    (∀ (s : State) (h : Byte) (rtt : Nat) (a theta : Int),
      s.Running →
      s.dev.wharfUp h.toNat = true →
      (s.dev.towWharf h.toNat).since + 2 ^ s.dev.towAvg ≤ s.dev.tow.ticks →
      2 ^ s.dev.towAvg ≤ 2 * (s.dev.towWharf h.toNat).n →
      rtt = (divRound (s.dev.towWharf h.toNat).sumRtt (s.dev.towWharf h.toNat).n).toNat →
      a = divRound (s.dev.towWharf h.toNat).sumA (s.dev.towWharf h.toNat).n →
      s.dev.is F.TOW_STAT_SERVO_PAUSED = false →
      (s.dev.towWharf h.toNat).accepted = true →
      s.dev.is F.TOW_WHF_STAT_STEP h.toNat = true →
      (s.dev.towWharf h.toNat).action = 3 →
      theta = divRound (((s.dev.get F.TOW_WHF_RTT_RTT_REF h.toNat : Nat) : Int)) 2 + (s.dev.towWharf h.toNat).asym - a →
      (decide (s.dev.role = 3) && s.dev.followWharf == h.toNat) = false →
      Does (.wharfDelayMeasurement h) s [.tow, .flt] ([F.TOW_WHF_LAST_RTT_M.key h.toNat, F.TOW_WHF_OFFSET_THETA_PS.key h.toNat,
        F.TOW_WHF_STAT_SKEW.key h.toNat, F.TOW_WHF_STAT_UNTRUSTED.key h.toNat] ++ evKeys F.TOW_EVT_PARTNER_SKEW 0 ++ reportKeys)
        (fun d => d.get F.TOW_WHF_LAST_RTT_M h.toNat = rtt % 2 ^ 32 ∧
          d.get F.TOW_WHF_RTT_RTT_REF h.toNat = s.dev.get F.TOW_WHF_RTT_RTT_REF h.toNat ∧
          d.get F.TOW_WHF_OFFSET_THETA_PS h.toNat = unsgn 32 theta ∧
          (d.towWharf h.toNat =
          { s.dev.towWharf h.toNat with sumA := 0, sumRtt := 0, n := 0, stamp := none, since := s.dev.tow.ticks, missed := 0, thetaRef := if ((s.dev.towWharf h.toNat).capture || ((s.dev.towWharf h.toNat).thetaRef.isNone && !s.dev.is F.TOW_WHF_STAT_STEP h.toNat)) then some theta else (s.dev.towWharf h.toNat).thetaRef, capture := false, action := 0, run := 0 })
          ∧ (d.get F.TOW_WHF_STAT_SKEW h.toNat = (if ((s.dev.towWharf h.toNat).capture || ((s.dev.towWharf
          h.toNat).thetaRef.isNone && !s.dev.is F.TOW_WHF_STAT_STEP h.toNat)) then 0 else if (!((s.dev.towWharf
          h.toNat).capture || ((s.dev.towWharf h.toNat).thetaRef.isNone && !s.dev.is F.TOW_WHF_STAT_STEP h.toNat)) &&
          (s.dev.towWharf h.toNat).thetaRef.any (fun (r : Int) => decide (s.dev.get F.TOW_SKEW_CFG_SKEW_LIM < (theta -
          r).natAbs))) then 1 else s.dev.get F.TOW_WHF_STAT_SKEW h.toNat)) ∧
          ((!((s.dev.towWharf h.toNat).capture || ((s.dev.towWharf h.toNat).thetaRef.isNone && !s.dev.is F.TOW_WHF_STAT_STEP
          h.toNat)) && (s.dev.towWharf h.toNat).thetaRef.any (fun (r : Int) => decide (s.dev.get F.TOW_SKEW_CFG_SKEW_LIM <
          (theta - r).natAbs))) = true → d.get F.TOW_EVT_PARTNER_SKEW = 1) ∧ d.get F.TOW_WHF_STAT_UNTRUSTED h.toNat = 1 ∧
          d.tow = { s.dev.tow with wharf := d.tow.wharf } ∧ (d.flt.queue =
          (if (!((s.dev.towWharf h.toNat).capture || ((s.dev.towWharf h.toNat).thetaRef.isNone && !s.dev.is F.TOW_WHF_STAT_STEP
          h.toNat)) && (s.dev.towWharf h.toNat).thetaRef.any (fun (r : Int) => decide (s.dev.get F.TOW_SKEW_CFG_SKEW_LIM <
          (theta - r).natAbs))) then s.dev.towReport 0 8 h.toNat else s.dev).flt.queue) ∧
          (d.get F.FLT_LOST_CNT_LOST = (if (!((s.dev.towWharf h.toNat).capture || ((s.dev.towWharf h.toNat).thetaRef.isNone &&
          !s.dev.is F.TOW_WHF_STAT_STEP h.toNat)) && (s.dev.towWharf h.toNat).thetaRef.any (fun (r : Int) => decide (s.dev.get
          F.TOW_SKEW_CFG_SKEW_LIM < (theta - r).natAbs))) then s.dev.towReport 0 8 h.toNat else s.dev).get
          F.FLT_LOST_CNT_LOST))) ∧
    (∀ (s : State) (h : Byte) (rtt : Nat) (a theta : Int),
      s.Running →
      s.dev.wharfUp h.toNat = true →
      (s.dev.towWharf h.toNat).since + 2 ^ s.dev.towAvg ≤ s.dev.tow.ticks →
      2 ^ s.dev.towAvg ≤ 2 * (s.dev.towWharf h.toNat).n →
      rtt = (divRound (s.dev.towWharf h.toNat).sumRtt (s.dev.towWharf h.toNat).n).toNat →
      a = divRound (s.dev.towWharf h.toNat).sumA (s.dev.towWharf h.toNat).n →
      s.dev.is F.TOW_STAT_SERVO_PAUSED = false →
      (s.dev.towWharf h.toNat).accepted = true →
      s.dev.is F.TOW_WHF_STAT_STEP h.toNat = true →
      (s.dev.towWharf h.toNat).action = 3 →
      theta = divRound (((s.dev.get F.TOW_WHF_RTT_RTT_REF h.toNat : Nat) : Int)) 2 + (s.dev.towWharf h.toNat).asym - a →
      (decide (s.dev.role = 3) && s.dev.followWharf == h.toNat) = true →
      Does (.wharfDelayMeasurement h) s [.tow, .flt] ([F.TOW_WHF_LAST_RTT_M.key h.toNat, F.TOW_WHF_OFFSET_THETA_PS.key h.toNat,
        F.TOW_WHF_STAT_SKEW.key h.toNat, F.TOW_WHF_STAT_UNTRUSTED.key h.toNat] ++ evKeys F.TOW_EVT_PARTNER_SKEW 0 ++ reportKeys)
        (fun d => d.get F.TOW_WHF_LAST_RTT_M h.toNat = rtt % 2 ^ 32 ∧
          d.get F.TOW_WHF_RTT_RTT_REF h.toNat = s.dev.get F.TOW_WHF_RTT_RTT_REF h.toNat ∧
          d.get F.TOW_WHF_OFFSET_THETA_PS h.toNat = unsgn 32 theta ∧
          (d.towWharf h.toNat =
          { s.dev.towWharf h.toNat with sumA := 0, sumRtt := 0, n := 0, stamp := none, since := s.dev.tow.ticks, missed := 0, thetaRef := if ((s.dev.towWharf h.toNat).capture || ((s.dev.towWharf h.toNat).thetaRef.isNone && !s.dev.is F.TOW_WHF_STAT_STEP h.toNat)) then some theta else (s.dev.towWharf h.toNat).thetaRef, capture := false, action := 0, run := 0 })
          ∧ (d.get F.TOW_WHF_STAT_SKEW h.toNat = (if ((s.dev.towWharf h.toNat).capture || ((s.dev.towWharf
          h.toNat).thetaRef.isNone && !s.dev.is F.TOW_WHF_STAT_STEP h.toNat)) then 0 else if (!((s.dev.towWharf
          h.toNat).capture || ((s.dev.towWharf h.toNat).thetaRef.isNone && !s.dev.is F.TOW_WHF_STAT_STEP h.toNat)) &&
          (s.dev.towWharf h.toNat).thetaRef.any (fun (r : Int) => decide (s.dev.get F.TOW_SKEW_CFG_SKEW_LIM < (theta -
          r).natAbs))) then 1 else s.dev.get F.TOW_WHF_STAT_SKEW h.toNat)) ∧
          ((!((s.dev.towWharf h.toNat).capture || ((s.dev.towWharf h.toNat).thetaRef.isNone && !s.dev.is F.TOW_WHF_STAT_STEP
          h.toNat)) && (s.dev.towWharf h.toNat).thetaRef.any (fun (r : Int) => decide (s.dev.get F.TOW_SKEW_CFG_SKEW_LIM <
          (theta - r).natAbs))) = true → d.get F.TOW_EVT_PARTNER_SKEW = 1) ∧ d.get F.TOW_WHF_STAT_UNTRUSTED h.toNat = 1 ∧
          d.tow = { s.dev.tow with wharf := d.tow.wharf } ∧ (d.flt.queue =
          (if (!((s.dev.towWharf h.toNat).capture || ((s.dev.towWharf h.toNat).thetaRef.isNone && !s.dev.is F.TOW_WHF_STAT_STEP
          h.toNat)) && (s.dev.towWharf h.toNat).thetaRef.any (fun (r : Int) => decide (s.dev.get F.TOW_SKEW_CFG_SKEW_LIM <
          (theta - r).natAbs))) then s.dev.towReport 0 8 h.toNat else s.dev).flt.queue) ∧
          (d.get F.FLT_LOST_CNT_LOST = (if (!((s.dev.towWharf h.toNat).capture || ((s.dev.towWharf h.toNat).thetaRef.isNone &&
          !s.dev.is F.TOW_WHF_STAT_STEP h.toNat)) && (s.dev.towWharf h.toNat).thetaRef.any (fun (r : Int) => decide (s.dev.get
          F.TOW_SKEW_CFG_SKEW_LIM < (theta - r).natAbs))) then s.dev.towReport 0 8 h.toNat else s.dev).get
          F.FLT_LOST_CNT_LOST))) ∧
    (∀ (s : State) (v : Word) (h : Nat),
      s.Running →
      s.dev.get F.TOW_WHF_SEL_WHARF = h →
      Does (.towWhfResolve v) s [.tow] ([])
        (fun d => (d.tow = (s.dev.onTowWharf h (fun (w : TowWharf) =>
          { w with capture := w.capture || bit v.toNat 31, action := if bits v.toNat 1 0 ≠ 0 ∧ s.dev.is F.TOW_WHF_STAT_STEP h = true then bits v.toNat 1 0 else w.action })).tow)))

/-- An edge of TICK_IN ends the run of pounds without one; its high time is read,
  a marker starting a word and each symbol in its place adding its bit; in MASTER_TICK with plain ticks its offset is shown,
  and tracked once the Towpath is engaged, the steering moving by the loop of the bandwidth in force within its limits. The
  last bit of a word ends it: with a bad CRC it is counted as an error; with a good one it is counted in a row and gives the
  depth of its sender, and its offset is shown in the roles that take their measurements from words; one that disagrees with
  the count of an aligned Towpath is a POUND_MISMATCH, reported. A TICK source with four pounds without an edge,
  two bad words or a missing marker is lost: the role that uses it enters holdover,
  the steering at its mean. An edge of PPS_IN is stamped and accepted,
  or counted as spurious when it comes too soon; in MASTER_PPS, aligned, an edge beyond the tolerance is a step, reported,
  and leads to holdover; a PPS source is lost when no edge comes in time. PPS_OUT rises at its pound,
  its width is counted down at each boundary, and it falls when none is left. Choices of the model on which this rests: log
  entries 7, 8, 15, 17, 83, 84, 85, 136 and 137. -/
def Obligations.TickAndPps : Prop :=
  (∀ (s : State) (reading high : Nat),
      s.Running →
      s.dev.tow.running = true →
      Answers (.tickInEdge reading high) s (fun d => d.tow.tick.edge = true ∧ d.tow.tick.missing = 0 ∧
        d.tow.pound = s.dev.tow.pound ∧ d.tow.running = true ∧ d.flt.records = s.dev.flt.records)) ∧
    (∀ (s : State) (reading high : Nat),
      s.Running →
      s.dev.tow.running = false →
      Idles (.tickInEdge reading high) s) ∧
    (∀ (s : State) (reading high : Nat),
      s.Running →
      s.dev.tow.running = true →
      s.dev.stampBusy 64 = true →
      Does (.tickInEdge reading high) s [.tow] ([])
        (fun d => d.tow = { s.dev.tow with tick := { s.dev.tow.tick with missing := 0, edge := true } })) ∧
    (∀ (s : State) (reading high : Nat),
      s.Running →
      s.dev.tow.running = true →
      s.dev.stampBusy 64 = false →
      s.dev.tickPlain = false →
      s.dev.tow.tick.pos = none →
      6000 ≤ high →
      high ≤ 10000 →
      Does (.tickInEdge reading high) s [.tow] ([])
        (fun d => d.tow = { s.dev.tow with tick := { s.dev.tow.tick with missing := 0, edge := true, pos := some 0, word := 0, spoiled := false, marker := (s.dev.tow.ticks, (s.dev.stampPs 64 reading)) } }))
          ∧
    (∀ (s : State) (reading high : Nat),
      s.Running →
      s.dev.tow.running = true →
      s.dev.stampBusy 64 = false →
      s.dev.tickPlain = false →
      s.dev.tow.tick.pos = none →
      (high < 6000 ∨ 10000 < high) →
      Does (.tickInEdge reading high) s [.tow] ([])
        (fun d => d.tow = { s.dev.tow with tick := { s.dev.tow.tick with missing := 0, edge := true } })) ∧
    (∀ (s : State) (reading high : Nat) (j : Nat),
      s.Running →
      s.dev.tow.running = true →
      s.dev.stampBusy 64 = false →
      s.dev.tickPlain = false →
      s.dev.tow.tick.pos = some j →
      j < 87 →
      (divRound (((s.dev.tow.ticks : Int) - s.dev.tow.tick.marker.1) * 16000 + (s.dev.stampPs 64 reading) -
        s.dev.tow.tick.marker.2) 16000).toNat = j + 1 →
      (high < 6000 ∨ 10000 < high) →
      Does (.tickInEdge reading high) s [.tow] ([])
        (fun d => d.tow = { s.dev.tow with tick := { s.dev.tow.tick with missing := 0, edge := true, pos := some (j + 1), word := s.dev.tow.tick.word * 2 + (if high < 6000 then 0 else 1) } }))
          ∧
    (∀ (s : State) (reading high : Nat) (w : Nat),
      s.Running →
      s.dev.tow.running = true →
      s.dev.stampBusy 64 = false →
      s.dev.tickPlain = false →
      s.dev.tow.tick.pos = some 87 →
      s.dev.tow.tick.spoiled = false →
      (divRound (((s.dev.tow.ticks : Int) - s.dev.tow.tick.marker.1) * 16000 + (s.dev.stampPs 64 reading) -
        s.dev.tow.tick.marker.2) 16000).toNat = 88 →
      (high < 6000 ∨ 10000 < high) →
      w = s.dev.tow.tick.word * 2 + (if high < 6000 then 0 else 1) →
      crc16 ((leBytes 9 (w / 65536)).reverse) ≠ w % 65536 →
      Does (.tickInEdge reading high) s [.tow] ([F.TOW_TICK_ERR_CNT_CRC_ERR.key 0])
        (fun d => d.tow = { s.dev.tow with tick := { s.dev.tow.tick with missing := 0, edge := true, pos := some 88, word := w, good := 0, badWords := s.dev.tow.tick.badWords + 1 } }
          ∧ d.get F.TOW_TICK_ERR_CNT_CRC_ERR = (s.dev.get F.TOW_TICK_ERR_CNT_CRC_ERR + 1) % 2 ^ 16)) ∧
    (∀ (s : State) (reading high : Nat) (w : Nat) (theta : Int),
      s.Running →
      s.dev.tow.running = true →
      s.dev.stampBusy 64 = false →
      s.dev.tickPlain = false →
      s.dev.tow.tick.pos = some 87 →
      s.dev.tow.tick.spoiled = false →
      (divRound (((s.dev.tow.ticks : Int) - s.dev.tow.tick.marker.1) * 16000 + (s.dev.stampPs 64 reading) -
        s.dev.tow.tick.marker.2) 16000).toNat = 88 →
      (high < 6000 ∨ 10000 < high) →
      w = s.dev.tow.tick.word * 2 + (if high < 6000 then 0 else 1) →
      crc16 ((leBytes 9 (w / 65536)).reverse) = w % 65536 →
      theta = (s.dev.get F.TOW_TICK_CFG_TICK_DELAY_PS : Nat) - (((s.dev.tow.pound - BitVec.ofNat 64 (s.dev.tow.ticks -
        s.dev.tow.tick.marker.1)) - (BitVec.ofNat 64 (w / 2 ^ 24) - 128)).toInt * 16000 + s.dev.tow.tick.marker.2) →
      (s.dev.towAligned && s.dev.tow.phase == .idle && decide (8000 ≤ theta.natAbs)) = false →
      (s.dev.role ≠ 4 ∧ (s.dev.role ≠ 1 ∨ s.dev.tow.tickWord = false)) →
      Does (.tickInEdge reading high) s [.tow] ([])
        (fun d => d.tow = { s.dev.tow with tick := { s.dev.tow.tick with missing := 0, edge := true, pos := some 88, word := w, good := s.dev.tow.tick.good + 1, badWords := 0, depth := w / 65536 % 16 } }))
          ∧
    (∀ (s : State) (reading high : Nat) (w : Nat) (theta : Int),
      s.Running →
      s.dev.tow.running = true →
      s.dev.stampBusy 64 = false →
      s.dev.tickPlain = false →
      s.dev.tow.tick.pos = some 87 →
      s.dev.tow.tick.spoiled = false →
      (divRound (((s.dev.tow.ticks : Int) - s.dev.tow.tick.marker.1) * 16000 + (s.dev.stampPs 64 reading) -
        s.dev.tow.tick.marker.2) 16000).toNat = 88 →
      (high < 6000 ∨ 10000 < high) →
      w = s.dev.tow.tick.word * 2 + (if high < 6000 then 0 else 1) →
      crc16 ((leBytes 9 (w / 65536)).reverse) = w % 65536 →
      theta = (s.dev.get F.TOW_TICK_CFG_TICK_DELAY_PS : Nat) - (((s.dev.tow.pound - BitVec.ofNat 64 (s.dev.tow.ticks -
        s.dev.tow.tick.marker.1)) - (BitVec.ofNat 64 (w / 2 ^ 24) - 128)).toInt * 16000 + s.dev.tow.tick.marker.2) →
      (s.dev.towAligned && s.dev.tow.phase == .idle && decide (8000 ≤ theta.natAbs)) = false →
      (s.dev.role = 4 ∨ (s.dev.role = 1 ∧ s.dev.tow.tickWord = true)) →
      (s.dev.tow.phase = .source ∨ (s.dev.tow.phase = .idle ∧ s.dev.tow.engaged = false)) →
      Does (.tickInEdge reading high) s [.tow] ([F.TOW_OFFSET_THETA_PS.key 0])
        (fun d => d.tow = { s.dev.tow with tick := { s.dev.tow.tick with missing := 0, edge := true, pos := some 88, word := w, good := s.dev.tow.tick.good + 1, badWords := 0, depth := w / 65536 % 16 }, full := some theta }
          ∧ d.get F.TOW_OFFSET_THETA_PS = unsgnSat 32 theta)) ∧
    (∀ (s : State) (reading high : Nat) (w : Nat) (theta : Int),
      s.Running →
      s.dev.tow.running = true →
      s.dev.stampBusy 64 = false →
      s.dev.tickPlain = false →
      s.dev.tow.tick.pos = some 87 →
      s.dev.tow.tick.spoiled = false →
      (divRound (((s.dev.tow.ticks : Int) - s.dev.tow.tick.marker.1) * 16000 + (s.dev.stampPs 64 reading) -
        s.dev.tow.tick.marker.2) 16000).toNat = 88 →
      (high < 6000 ∨ 10000 < high) →
      w = s.dev.tow.tick.word * 2 + (if high < 6000 then 0 else 1) →
      crc16 ((leBytes 9 (w / 65536)).reverse) = w % 65536 →
      theta = (s.dev.get F.TOW_TICK_CFG_TICK_DELAY_PS : Nat) - (((s.dev.tow.pound - BitVec.ofNat 64 (s.dev.tow.ticks -
        s.dev.tow.tick.marker.1)) - (BitVec.ofNat 64 (w / 2 ^ 24) - 128)).toInt * 16000 + s.dev.tow.tick.marker.2) →
      (s.dev.towAligned && s.dev.tow.phase == .idle && decide (8000 ≤ theta.natAbs)) = true →
      Does (.tickInEdge reading high) s [.tow, .flt] (reportKeys ++ ([F.TOW_OFFSET_THETA_PS.key 0,
        F.TOW_STAT_REALIGN_NEEDED.key 0] ++ evKeys F.TOW_EVT_POUND_MISMATCH 0))
        (fun d => d.tow = { s.dev.tow with tick := { s.dev.tow.tick with missing := 0, edge := true, pos := some 88, word := w, good := s.dev.tow.tick.good + 1, badWords := 0, depth := w / 65536 % 16 } }
          ∧ d.get F.TOW_EVT_POUND_MISMATCH = 1 ∧ s.dev.Reported d 7 1 9 0 ∧
          (d.get F.TOW_OFFSET_THETA_PS = (if s.dev.role = 4 ∨ (s.dev.role = 1 ∧
          s.dev.tow.tickWord = true) then unsgnSat 32 theta else s.dev.get F.TOW_OFFSET_THETA_PS)) ∧
          (s.dev.towHold = false → d.get F.TOW_STAT_REALIGN_NEEDED = s.dev.get F.TOW_STAT_REALIGN_NEEDED))) ∧
    (∀ (s : State) (reading high : Nat) (theta : Int),
      s.Running →
      s.dev.tow.running = true →
      s.dev.stampBusy 64 = false →
      s.dev.tickPlain = true →
      theta = (if 8000 ≤ (((s.dev.get F.TOW_TICK_CFG_TICK_DELAY_PS : Nat) - (s.dev.stampPs 64 reading)) % 16000) then
        (((s.dev.get F.TOW_TICK_CFG_TICK_DELAY_PS : Nat) - (s.dev.stampPs 64 reading)) % 16000) - 16000 else (((s.dev.get
        F.TOW_TICK_CFG_TICK_DELAY_PS : Nat) - (s.dev.stampPs 64 reading)) % 16000)) →
      (s.dev.tow.phase = .source ∨ (s.dev.tow.phase = .idle ∧ s.dev.tow.engaged = false)) →
      Does (.tickInEdge reading high) s [.tow] ([F.TOW_OFFSET_THETA_PS.key 0])
        (fun d => d.get F.TOW_OFFSET_THETA_PS = unsgnSat 32 theta ∧
          d.tow = { s.dev.tow with full := some theta, tick := { s.dev.tow.tick with missing := 0, edge := true } })) ∧
    (∀ (s : State) (reading high : Nat) (theta : Int),
      s.Running →
      s.dev.tow.running = true →
      s.dev.stampBusy 64 = false →
      s.dev.tickPlain = true →
      theta = (if 8000 ≤ (((s.dev.get F.TOW_TICK_CFG_TICK_DELAY_PS : Nat) - (s.dev.stampPs 64 reading)) % 16000) then
        (((s.dev.get F.TOW_TICK_CFG_TICK_DELAY_PS : Nat) - (s.dev.stampPs 64 reading)) % 16000) - 16000 else (((s.dev.get
        F.TOW_TICK_CFG_TICK_DELAY_PS : Nat) - (s.dev.stampPs 64 reading)) % 16000)) →
      s.dev.tow.phase = .idle →
      s.dev.tow.engaged = true →
      s.dev.towHold = false →
      s.dev.tow.slew = false →
      s.dev.is F.TOW_STAT_SERVO_PAUSED = false →
      Does (.tickInEdge reading high) s [.tow] ([F.TOW_OFFSET_THETA_PS.key 0, F.TOW_STEER_S.key 0])
        (fun d => d.get F.TOW_OFFSET_THETA_PS = unsgnSat 32 theta ∧
          d.get F.TOW_STEER_S = unsgn 32 (clampAbs s.dev.steerLimit (s.dev.steer + clampAbs s.dev.slewLimit (divRound
          ((Config.servoGains s.dev.servoBandwidth (s.dev.tow.ticks - s.dev.tow.steeredAt)).1 * (theta - s.dev.tow.lastTheta) +
          (Config.servoGains s.dev.servoBandwidth (s.dev.tow.ticks - s.dev.tow.steeredAt)).2 * theta) (2 ^ 20)))) ∧
          d.tow = { s.dev.tow with full := some theta, tick := { s.dev.tow.tick with missing := 0, edge := true }, hist := ((clampAbs s.dev.steerLimit (s.dev.steer + clampAbs s.dev.slewLimit (divRound ((Config.servoGains s.dev.servoBandwidth (s.dev.tow.ticks - s.dev.tow.steeredAt)).1 * (theta - s.dev.tow.lastTheta) + (Config.servoGains s.dev.servoBandwidth (s.dev.tow.ticks - s.dev.tow.steeredAt)).2 * theta) (2 ^ 20)))) :: s.dev.tow.hist).take (2 ^ s.dev.get F.TOW_SERVO_CFG_HOLD_LOG), steeredAt := s.dev.tow.ticks, lastTheta := theta }))
          ∧
    (∀ (s : State),
      s.Running →
      (decide (4 ≤ s.dev.tow.tick.missing) || (!s.dev.tickPlain && (decide (2 ≤ s.dev.tow.tick.badWords) ||
        s.dev.tow.tick.markerMissing))) = true →
      ((s.dev.role ≠ 1 ∧ s.dev.role ≠ 4) ∨ s.dev.tow.engaged = false ∨ s.dev.towHold = true) →
      Does .tickInLost s [.tow] ([])
        (fun d => d.tow = { s.dev.tow with tick := { s.dev.tow.tick with run := 0, good := 0, badWords := 0, markerMissing := false, pos := none } }))
          ∧
    (∀ (s : State),
      s.Running →
      (decide (4 ≤ s.dev.tow.tick.missing) || (!s.dev.tickPlain && (decide (2 ≤ s.dev.tow.tick.badWords) ||
        s.dev.tow.tick.markerMissing))) = true →
      (s.dev.role = 1 ∨ s.dev.role = 4) →
      s.dev.tow.engaged = true →
      s.dev.towHold = false →
      Does .tickInLost s [.tow, .flt] (reportKeys ++ ([F.TOW_STAT_HOLDOVER.key 0,
        F.TOW_STEER_S.key 0] ++ evKeys F.TOW_EVT_HOLDOVER_ENTERED 0 ++ evKeys F.TOW_EVT_SRC_LOST 0))
        (fun d => d.tow = { s.dev.tow with cause := .source, slew := false, tick := { s.dev.tow.tick with run := 0, good := 0, badWords := 0, markerMissing := false, pos := none } }
          ∧ s.dev.Reported d 7 0 3 0 ∧ d.get F.TOW_STAT_HOLDOVER = 1 ∧ d.get F.TOW_EVT_HOLDOVER_ENTERED = 1 ∧
          d.get F.TOW_EVT_SRC_LOST = 1 ∧ d.get F.TOW_STEER_S = (if (s.dev.tow.hist.take (2 ^ s.dev.get
          F.TOW_SERVO_CFG_HOLD_LOG)).isEmpty || s.dev.role == 0 || s.dev.is F.TOW_STAT_SERVO_PAUSED then s.dev.get
          F.TOW_STEER_S else unsgn 32 (divRound (sumInt (s.dev.tow.hist.take (2 ^ s.dev.get F.TOW_SERVO_CFG_HOLD_LOG)))
          (s.dev.tow.hist.take (2 ^ s.dev.get F.TOW_SERVO_CFG_HOLD_LOG)).length)))) ∧
    (∀ (s : State),
      s.Running →
      (decide (4 ≤ s.dev.tow.tick.missing) || (!s.dev.tickPlain && (decide (2 ≤ s.dev.tow.tick.badWords) ||
        s.dev.tow.tick.markerMissing))) = false →
      Idles .tickInLost s) ∧
    (∀ (s : State) (reading : Nat),
      s.Running →
      s.dev.is F.TOW_PPS_CFG_PPS_IN_EN = true →
      s.dev.tow.running = true →
      s.dev.stampBusy 65 = false →
      s.dev.tow.ppsAccepted.any (fun (y : PF) => decide (((s.dev.ppsStamp reading).time - y.time) * 16 < nsTime (10 ^ 9 -
        s.dev.ppsTol))) = false →
      Answers (.ppsInEdge reading) s (fun d => d.tow.ppsLast = some (s.dev.ppsStamp reading) ∧
        d.tow.ppsAccepted = some (s.dev.ppsStamp reading) ∧ d.get F.TOW_PPS_CNT_ACCEPTED =
        (s.dev.get F.TOW_PPS_CNT_ACCEPTED + 1) % 2 ^ 16 ∧ d.tow.pound = s.dev.tow.pound)) ∧
    (∀ (s : State) (reading : Nat),
      s.Running →
      s.dev.is F.TOW_PPS_CFG_PPS_IN_EN = true →
      s.dev.tow.running = true →
      s.dev.stampBusy 65 = false →
      s.dev.tow.ppsAccepted.any (fun (y : PF) => decide (((s.dev.ppsStamp reading).time - y.time) * 16 < nsTime (10 ^ 9 -
        s.dev.ppsTol))) = false →
      s.dev.role ≠ 2 →
      Does (.ppsInEdge reading) s [.tow] ([F.TOW_PPS_CNT_ACCEPTED.key 0])
        (fun d => d.tow = { s.dev.tow with ppsLast := some (s.dev.ppsStamp reading), ppsAccepted := some (s.dev.ppsStamp reading) }
          ∧ d.get F.TOW_PPS_CNT_ACCEPTED = (s.dev.get F.TOW_PPS_CNT_ACCEPTED + 1) % 2 ^ 16)) ∧
    (∀ (s : State) (reading : Nat),
      s.Running →
      s.dev.is F.TOW_PPS_CFG_PPS_IN_EN = true →
      s.dev.tow.running = true →
      s.dev.stampBusy 65 = false →
      s.dev.tow.ppsAccepted.any (fun (y : PF) => decide (((s.dev.ppsStamp reading).time - y.time) * 16 < nsTime (10 ^ 9 -
        s.dev.ppsTol))) = false →
      s.dev.role = 2 →
      (s.dev.towAligned && s.dev.tow.phase == .idle && decide (1000 * s.dev.ppsTol < (s.dev.ppsTheta (s.dev.ppsStamp
        reading)).natAbs)) = true →
      s.dev.towHold = false →
      Does (.ppsInEdge reading) s [.tow, .flt] ([F.TOW_PPS_CNT_ACCEPTED.key 0,
        F.TOW_OFFSET_THETA_PS.key 0] ++ [F.TOW_STAT_HOLDOVER.key 0,
        F.TOW_STEER_S.key 0] ++ evKeys F.TOW_EVT_HOLDOVER_ENTERED 0 ++ evKeys F.TOW_EVT_SRC_LOST 0 ++
        evKeys F.TOW_EVT_PPS_STEP 0 ++ reportKeys)
        (fun d => d.tow = { s.dev.tow with ppsLast := some (s.dev.ppsStamp reading), ppsAccepted := some (s.dev.ppsStamp reading), cause := .source, slew := false }
          ∧ d.get F.TOW_PPS_CNT_ACCEPTED = (s.dev.get F.TOW_PPS_CNT_ACCEPTED + 1) % 2 ^ 16 ∧ d.get F.TOW_EVT_PPS_STEP = 1 ∧
          d.flt.queue = ((s.dev.towReport 0 6 0).towReport 0 3 0).flt.queue ∧
          d.get F.FLT_LOST_CNT_LOST = ((s.dev.towReport 0 6 0).towReport 0 3 0).get F.FLT_LOST_CNT_LOST ∧
          d.get F.TOW_STAT_HOLDOVER = 1 ∧ d.get F.TOW_EVT_HOLDOVER_ENTERED = 1 ∧ d.get F.TOW_EVT_SRC_LOST = 1 ∧
          d.get F.TOW_STEER_S = (if (s.dev.tow.hist.take (2 ^ s.dev.get F.TOW_SERVO_CFG_HOLD_LOG)).isEmpty || s.dev.role == 0
          || s.dev.is F.TOW_STAT_SERVO_PAUSED then s.dev.get F.TOW_STEER_S else unsgn 32 (divRound (sumInt (s.dev.tow.hist.take
          (2 ^ s.dev.get F.TOW_SERVO_CFG_HOLD_LOG))) (s.dev.tow.hist.take (2 ^ s.dev.get F.TOW_SERVO_CFG_HOLD_LOG)).length)) ∧
          d.get F.TOW_OFFSET_THETA_PS = unsgnSat 32 (s.dev.ppsTheta (s.dev.ppsStamp reading)))) ∧
    (∀ (s : State) (reading : Nat),
      s.Running →
      s.dev.is F.TOW_PPS_CFG_PPS_IN_EN = true →
      s.dev.tow.running = true →
      s.dev.stampBusy 65 = false →
      s.dev.tow.ppsAccepted.any (fun (y : PF) => decide (((s.dev.ppsStamp reading).time - y.time) * 16 < nsTime (10 ^ 9 -
        s.dev.ppsTol))) = false →
      s.dev.role = 2 →
      (s.dev.towAligned && s.dev.tow.phase == .idle && decide (1000 * s.dev.ppsTol < (s.dev.ppsTheta (s.dev.ppsStamp
        reading)).natAbs)) = false →
      (s.dev.tow.phase = .source ∨ (s.dev.tow.phase = .idle ∧ s.dev.tow.engaged = false)) →
      Does (.ppsInEdge reading) s [.tow] ([F.TOW_PPS_CNT_ACCEPTED.key 0, F.TOW_OFFSET_THETA_PS.key 0])
        (fun d => d.tow = { s.dev.tow with ppsLast := some (s.dev.ppsStamp reading), ppsAccepted := some (s.dev.ppsStamp reading), full := some (s.dev.ppsTheta (s.dev.ppsStamp reading)) }
          ∧ d.get F.TOW_PPS_CNT_ACCEPTED = (s.dev.get F.TOW_PPS_CNT_ACCEPTED + 1) % 2 ^ 16 ∧
          d.get F.TOW_OFFSET_THETA_PS = unsgnSat 32 (s.dev.ppsTheta (s.dev.ppsStamp reading)))) ∧
    (∀ (s : State) (reading : Nat),
      s.Running →
      s.dev.is F.TOW_PPS_CFG_PPS_IN_EN = true →
      s.dev.tow.running = true →
      s.dev.stampBusy 65 = false →
      s.dev.tow.ppsAccepted.any (fun (y : PF) => decide (((s.dev.ppsStamp reading).time - y.time) * 16 < nsTime (10 ^ 9 -
        s.dev.ppsTol))) = true →
      Does (.ppsInEdge reading) s [.tow] ([F.TOW_PPS_CNT_SPURIOUS.key 0])
        (fun d => d.tow = { s.dev.tow with ppsLast := some (s.dev.ppsStamp reading) } ∧
          d.get F.TOW_PPS_CNT_SPURIOUS = (s.dev.get F.TOW_PPS_CNT_SPURIOUS + 1) % 2 ^ 16)) ∧
    (∀ (s : State) (reading : Nat),
      s.Running →
      (s.dev.is F.TOW_PPS_CFG_PPS_IN_EN = false ∨ s.dev.tow.running = false ∨ s.dev.stampBusy 65 = true) →
      Idles (.ppsInEdge reading) s) ∧
    (∀ (s : State) (y : PF),
      s.Running →
      s.dev.is F.TOW_PPS_CFG_PPS_IN_EN = true →
      s.dev.tow.ppsAccepted = some y →
      nsTime (10 ^ 9 + s.dev.ppsTol) < ((s.dev.tow.pound.toNat + 1 : Nat) * 2 ^ 24 - y.time) * 16 →
      (s.dev.role ≠ 2 ∨ s.dev.tow.engaged = false ∨ s.dev.towHold = true) →
      Does .ppsInLost s [.tow] ([])
        (fun d => d.tow = { s.dev.tow with ppsAccepted := none })) ∧
    (∀ (s : State) (y : PF),
      s.Running →
      s.dev.is F.TOW_PPS_CFG_PPS_IN_EN = true →
      s.dev.tow.ppsAccepted = some y →
      nsTime (10 ^ 9 + s.dev.ppsTol) < ((s.dev.tow.pound.toNat + 1 : Nat) * 2 ^ 24 - y.time) * 16 →
      s.dev.role = 2 →
      s.dev.tow.engaged = true →
      s.dev.towHold = false →
      Does .ppsInLost s [.tow, .flt] (reportKeys ++ ([F.TOW_STAT_HOLDOVER.key 0,
        F.TOW_STEER_S.key 0] ++ evKeys F.TOW_EVT_HOLDOVER_ENTERED 0 ++ evKeys F.TOW_EVT_SRC_LOST 0))
        (fun d => d.tow = { s.dev.tow with ppsAccepted := none, cause := .source, slew := false } ∧ s.dev.Reported d 7 0 3 0 ∧
          d.get F.TOW_STAT_HOLDOVER = 1 ∧ d.get F.TOW_EVT_HOLDOVER_ENTERED = 1 ∧ d.get F.TOW_EVT_SRC_LOST = 1 ∧
          d.get F.TOW_STEER_S = (if (s.dev.tow.hist.take (2 ^ s.dev.get F.TOW_SERVO_CFG_HOLD_LOG)).isEmpty || s.dev.role == 0
          || s.dev.is F.TOW_STAT_SERVO_PAUSED then s.dev.get F.TOW_STEER_S else unsgn 32 (divRound (sumInt (s.dev.tow.hist.take
          (2 ^ s.dev.get F.TOW_SERVO_CFG_HOLD_LOG))) (s.dev.tow.hist.take (2 ^ s.dev.get F.TOW_SERVO_CFG_HOLD_LOG)).length)))) ∧
    (∀ (s : State),
      s.Running →
      (s.dev.tow.ppsAccepted = none ∨ s.dev.is F.TOW_PPS_CFG_PPS_IN_EN = false) →
      Idles .ppsInLost s) ∧
    (∀ (s : State),
      s.Running →
      (s.dev.is F.TOW_PPS_CFG_PPS_OUT_EN && s.dev.tow.running && decide (((s.dev.tow.pound.toNat + 62500000 - s.dev.get
        F.TOW_PPS_OUT_OFFSET_OFFSET % 62500000) % 62500000) = 0)) = true →
      Does .ppsOutPulse s [.tow] ([])
        (fun d => d.tow = { s.dev.tow with ppsHigh := some (min 62499999 (max 1 (s.dev.get F.TOW_PPS_OUT_WIDTH_WIDTH))) })) ∧
    (∀ (s : State),
      s.Running →
      (s.dev.is F.TOW_PPS_CFG_PPS_OUT_EN && s.dev.tow.running && decide (((s.dev.tow.pound.toNat + 62500000 - s.dev.get
        F.TOW_PPS_OUT_OFFSET_OFFSET % 62500000) % 62500000) = 0)) = false →
      Idles .ppsOutPulse s) ∧
    (∀ (s : State) (raw dith merged : List Nat),
      s.Running →
      s.dev.tow.running = true →
      Answers (.poundBoundary raw dith merged) s (fun d => (d.tow.ppsHigh = s.dev.tow.ppsHigh.map (fun (k : Nat) => k - 1)))) ∧
    (∀ (s : State),
      s.Running →
      s.dev.tow.ppsHigh = some 0 →
      Does .ppsOutEnd s [.tow] ([])
        (fun d => d.tow = { s.dev.tow with ppsHigh := none })) ∧
    (∀ (s : State),
      s.Running →
      s.dev.tow.ppsHigh ≠ some 0 →
      Idles .ppsOutEnd s)

/-- In host-run mode a PTP frame of at most 256 bytes enters the lowest free slot from the head on with its stamp; one that
  does not pass, is longer or finds no slot free is dropped and counted; in Keeper-run mode none enters a slot,
  and a first Announce gives the client its parent and its port UNCALIBRATED. A release frees the head slot. A frame handed
  over in host-run mode is sent, behind a frame in progress, or refused while its buffer is busy; the end of the frame in
  progress lets the other go, and that of an event message is stamped, with the pound and the fraction of its first bit,
  in the lowest free entry, or its stamp is dropped and counted; a release clears the stamps it names. The client sends and
  stamps a Delay_Req while it follows a parent, and leaves it for LISTENING when announcements stop. A change of link is shown,
  and a link that comes starts the client; a change of MODE disables the port, lets only the frame in progress go on,
  clears slots and stamps and starts the client in Keeper-run mode. Choices of the model on which this rests: log entries 7, 8,
  26, 51, 87, 88, 106 and 163. -/
def Obligations.TimePort : Prop :=
  (∀ (s : State) (frame : List Byte) (good : Bool) (f : BitVec 24) (p : Option Pound) (r : Nat),
      s.Running →
      s.dev.tptOpen = true →
      s.dev.tptMode = 2 →
      (s.dev.ptpAccepts frame good).isSome = true →
      ((List.range 16).map (fun i => (s.dev.get F.TPT_STAT_RX_HEAD + i) % 16)).find? (fun r => !(s.dev.rxSlot r).valid) =
        some r →
      frame.length ≤ 256 →
      Does (.timeRxFrame frame good f p) s [.tpt] (evKeys F.TPT_EVT_RX_AVAIL 0)
        (fun d => d.tpt = (s.dev.setRxSlot r ({ valid := true, bytes := frame, p := p.getD s.dev.tow.pound, f := f } :
          RxSlot)).tpt ∧ d.get F.TPT_EVT_RX_AVAIL = 1)) ∧
    (∀ (s : State) (frame : List Byte) (good : Bool) (f : BitVec 24) (p : Option Pound),
      s.Running →
      s.dev.tptOpen = true →
      s.dev.tptMode ≠ 0 →
      ((s.dev.ptpAccepts frame good).isSome = false ∨ (s.dev.tptMode = 2 ∧
        (256 < frame.length ∨ (((List.range 16).map (fun i => (s.dev.get F.TPT_STAT_RX_HEAD + i) % 16)).find? (fun r =>
        !(s.dev.rxSlot r).valid)).isSome = false))) →
      Does (.timeRxFrame frame good f p) s [] ([F.TPT_RX_DROP_CNT_DROPPED.key 0] ++ evKeys F.TPT_EVT_RX_DROP 0)
        (fun d => d.get F.TPT_RX_DROP_CNT_DROPPED = (s.dev.get F.TPT_RX_DROP_CNT_DROPPED + 1) % 2 ^ 32 ∧
          d.get F.TPT_EVT_RX_DROP = 1)) ∧
    (∀ (s : State) (frame : List Byte) (good : Bool) (f : BitVec 24) (p : Option Pound),
      s.Running →
      s.dev.tptOpen = true →
      s.dev.tptMode = 1 →
      (s.dev.ptpAccepts frame good).isSome = true →
      Answers (.timeRxFrame frame good f p) s (fun d => d.tpt = { s.dev.tpt with ptp := d.tpt.ptp })) ∧
    (∀ (s : State) (frame : List Byte) (good : Bool) (f : BitVec 24) (p : Option Pound) (k : Nat),
      s.Running →
      s.dev.tptOpen = true →
      s.dev.tptMode = 1 →
      s.dev.kpr.restarting = false →
      s.dev.ptpAccepts frame good = some k →
      beAt frame k 1 % 16 = 11 →
      s.dev.tpt.ptp.parent = none →
      Does (.timeRxFrame frame good f p) s [.tpt] ([F.TPT_STAT_PORT_STATE.key 0, F.TPT_UTC_UTC_OFFSET.key 0,
        F.TPT_UTC_LEAP61.key 0, F.TPT_UTC_LEAP59.key 0, F.TPT_UTC_UTC_VALID.key 0] ++ evKeys F.TPT_EVT_STATE_CHANGE 0)
        (fun d => d.portState = 3 ∧ (s.dev.portState ≠ 3 → d.get F.TPT_EVT_STATE_CHANGE = 1) ∧
          d.tpt = { s.dev.tpt with ptp := { s.dev.tpt.ptp with parent := some ((frame.drop (k + 34)).take 30, (frame.drop (k + 20)).take 10), udp := beAt frame (payloadAt frame - 2) 2 == 0x0800, sync := none, fwd := none, delay := none } }
          ∧ d.get F.TPT_UTC_UTC_OFFSET = beAt frame (k + 44) 2 ∧ d.get F.TPT_UTC_LEAP61 = bits (beAt frame (k + 7) 1) 0 0 ∧
          d.get F.TPT_UTC_LEAP59 = bits (beAt frame (k + 7) 1) 1 1 ∧
          d.get F.TPT_UTC_UTC_VALID = bits (beAt frame (k + 7) 1) 2 2)) ∧
    (∀ (s : State) (frame : List Byte) (good : Bool) (f : BitVec 24) (p : Option Pound),
      s.Running →
      (s.dev.tptOpen = false ∨ s.dev.tptMode = 0) →
      Idles (.timeRxFrame frame good f p) s) ∧
    (∀ (s : State),
      s.Running →
      s.dev.blockClosed 116 = false →
      Does .rxRelease s [.tpt] ([F.TPT_STAT_RX_HEAD.key 0])
        (fun d => d.tpt = (s.dev.setRxSlot (s.dev.get F.TPT_STAT_RX_HEAD)
          { s.dev.rxSlot (s.dev.get F.TPT_STAT_RX_HEAD) with valid := false }).tpt ∧
          d.get F.TPT_STAT_RX_HEAD = (s.dev.get F.TPT_STAT_RX_HEAD + 1) % 16)) ∧
    (∀ (s : State) (v : Word),
      s.Running →
      s.dev.tptOpen = true →
      s.dev.tptMode = 2 →
      bit (s.dev.get F.TPT_STAT_TX_BUSY) (bits v.toNat 30 30) = false →
      Does (.timeTxSend v) s [.tpt] ([F.TPT_TX_CTRL_BUF.key 0, F.TPT_TX_CTRL_PTP_OFS.key 0, F.TPT_TX_CTRL_LEN.key 0,
        F.TPT_STAT_TX_BUSY.key 0])
        (fun d => d.get F.TPT_TX_CTRL_BUF = bits v.toNat 30 30 ∧ d.get F.TPT_TX_CTRL_PTP_OFS = bits v.toNat 23 16 ∧
          d.get F.TPT_TX_CTRL_LEN = bits v.toNat 8 0 ∧ bit (d.get F.TPT_STAT_TX_BUSY) (bits v.toNat 30 30) = true ∧
          d.tpt = { s.dev.tpt with sending := Store.set s.dev.tpt.sending (bits v.toNat 30 30) (max 14 (min 252 (bits v.toNat 8 0)), bits v.toNat 23 16), wire := some (s.dev.tpt.wire.getD (bits v.toNat 30 30)) }))
          ∧
    (∀ (s : State) (v : Word),
      s.Running →
      s.dev.tptOpen = true →
      s.dev.tptMode = 2 →
      bit (s.dev.get F.TPT_STAT_TX_BUSY) (bits v.toNat 30 30) = true →
      Does (.timeTxSend v) s [] ([F.TPT_TX_CTRL_BUF.key 0, F.TPT_TX_CTRL_PTP_OFS.key 0,
        F.TPT_TX_CTRL_LEN.key 0] ++ evKeys F.TPT_EVT_TX_REFUSED 0)
        (fun d => d.get F.TPT_TX_CTRL_BUF = bits v.toNat 30 30 ∧ d.get F.TPT_TX_CTRL_PTP_OFS = bits v.toNat 23 16 ∧
          d.get F.TPT_TX_CTRL_LEN = bits v.toNat 8 0 ∧ d.get F.TPT_EVT_TX_REFUSED = 1)) ∧
    (∀ (s : State) (v : Word),
      s.Running →
      s.dev.tptOpen = true →
      s.dev.tptMode ≠ 2 →
      Does (.timeTxSend v) s [] ([F.TPT_TX_CTRL_BUF.key 0, F.TPT_TX_CTRL_PTP_OFS.key 0, F.TPT_TX_CTRL_LEN.key 0])
        (fun d => d.get F.TPT_TX_CTRL_BUF = bits v.toNat 30 30 ∧ d.get F.TPT_TX_CTRL_PTP_OFS = bits v.toNat 23 16 ∧
          d.get F.TPT_TX_CTRL_LEN = bits v.toNat 8 0)) ∧
    (∀ (s : State) (b : Fin 2) (f : BitVec 24) (len ofs : Nat) (p : Option Pound),
      s.Running →
      s.dev.tptOpen = true →
      s.dev.tpt.wire = some b.val ∧ Store.get? s.dev.tpt.sending b.val = some (len, ofs) →
      (4 ≤ (s.dev.txByte b.val ofs).toNat % 16 ∨ s.dev.tptMode ≠ 2) →
      Does (.timeTxDone b f p) s [.tpt] ([F.TPT_STAT_TX_BUSY.key 0] ++ evKeys F.TPT_EVT_TX_DONE 0)
        (fun d => bit (d.get F.TPT_STAT_TX_BUSY) b.val = false ∧ (d.tpt =
          { s.dev.tpt with sending := Store.erase s.dev.tpt.sending b.val, wire := (Store.erase s.dev.tpt.sending b.val).head?.map (fun (e : Nat × Nat × Nat) => e.1) })
          ∧ d.get F.TPT_EVT_TX_DONE = 1)) ∧
    (∀ (s : State) (b : Fin 2) (f : BitVec 24) (len ofs : Nat) (p : Option Pound) (n : Nat),
      s.Running →
      s.dev.tptOpen = true →
      s.dev.tpt.wire = some b.val ∧ Store.get? s.dev.tpt.sending b.val = some (len, ofs) →
      s.dev.tptMode = 2 →
      (s.dev.txByte b.val ofs).toNat % 16 ≤ 3 →
      (List.range 4).find? (fun n => !s.dev.is F.TPT_TXTS_FRAC_VALID n) = some n →
      Does (.timeTxDone b f p) s [.tpt] ([F.TPT_STAT_TX_BUSY.key 0, F.TPT_TXTS_KEY_DOMAIN.key n, F.TPT_TXTS_KEY_MSG_TYPE.key n,
        F.TPT_TXTS_KEY_SEQ_ID.key n, F.TPT_TXTS_PLO_POUND.key n, F.TPT_TXTS_PHI_POUND.key n, F.TPT_TXTS_FRAC_FRAC.key n,
        F.TPT_TXTS_FRAC_VALID.key n] ++ evKeys F.TPT_EVT_TX_DONE 0 ++ evKeys F.TPT_EVT_TS_AVAIL 0)
        (fun d => bit (d.get F.TPT_STAT_TX_BUSY) b.val = false ∧ (d.tpt =
          { s.dev.tpt with sending := Store.erase s.dev.tpt.sending b.val, wire := (Store.erase s.dev.tpt.sending b.val).head?.map (fun (e : Nat × Nat × Nat) => e.1) })
          ∧ d.get F.TPT_EVT_TX_DONE = 1 ∧ d.get F.TPT_EVT_TS_AVAIL = 1 ∧ d.get F.TPT_TXTS_FRAC_FRAC n = f.toNat ∧
          d.get F.TPT_TXTS_FRAC_VALID n = 1 ∧ d.get F.TPT_TXTS_PLO_POUND n = bits (p.getD s.dev.tow.pound).toNat 31 0 ∧
          d.get F.TPT_TXTS_PHI_POUND n = bits (p.getD s.dev.tow.pound).toNat 63 32 ∧
          d.get F.TPT_TXTS_KEY_MSG_TYPE n = (s.dev.txByte b.val ofs).toNat % 16 ∧
          d.get F.TPT_TXTS_KEY_DOMAIN n = (s.dev.txByte b.val (ofs + 4)).toNat ∧
          d.get F.TPT_TXTS_KEY_SEQ_ID n = (s.dev.txByte b.val (ofs + 30)).toNat * 256 + (s.dev.txByte b.val (ofs + 31)).toNat))
          ∧
    (∀ (s : State) (b : Fin 2) (f : BitVec 24) (len ofs : Nat) (p : Option Pound),
      s.Running →
      s.dev.tptOpen = true →
      s.dev.tpt.wire = some b.val ∧ Store.get? s.dev.tpt.sending b.val = some (len, ofs) →
      s.dev.tptMode = 2 →
      (s.dev.txByte b.val ofs).toNat % 16 ≤ 3 →
      ((List.range 4).find? (fun n => !s.dev.is F.TPT_TXTS_FRAC_VALID n)).isSome = false →
      Does (.timeTxDone b f p) s [.tpt] ([F.TPT_STAT_TX_BUSY.key 0] ++ evKeys F.TPT_EVT_TX_DONE 0 ++
        [F.TPT_TXTS_OVF_CNT_DROPPED.key 0] ++ evKeys F.TPT_EVT_TS_OVERRUN 0)
        (fun d => bit (d.get F.TPT_STAT_TX_BUSY) b.val = false ∧ (d.tpt =
          { s.dev.tpt with sending := Store.erase s.dev.tpt.sending b.val, wire := (Store.erase s.dev.tpt.sending b.val).head?.map (fun (e : Nat × Nat × Nat) => e.1) })
          ∧ d.get F.TPT_EVT_TX_DONE = 1 ∧ d.get F.TPT_TXTS_OVF_CNT_DROPPED =
          (s.dev.get F.TPT_TXTS_OVF_CNT_DROPPED + 1) % 2 ^ 32 ∧ d.get F.TPT_EVT_TS_OVERRUN = 1)) ∧
    (∀ (s : State) (b : Fin 2) (f : BitVec 24) (len ofs : Nat) (p : Option Pound),
      s.Running →
      s.dev.tptOpen = false →
      s.dev.tpt.wire = some b.val ∧ Store.get? s.dev.tpt.sending b.val = some (len, ofs) →
      Does (.timeTxDone b f p) s [.tpt] ([F.TPT_STAT_TX_BUSY.key 0])
        (fun d => bit (d.get F.TPT_STAT_TX_BUSY) b.val = false ∧ (d.tpt =
          { s.dev.tpt with sending := Store.erase s.dev.tpt.sending b.val, wire := (Store.erase s.dev.tpt.sending b.val).head?.map (fun (e : Nat × Nat × Nat) => e.1) })))
          ∧
    (∀ (s : State) (b : Fin 2) (f : BitVec 24) (p : Option Pound),
      s.Running →
      (s.dev.tpt.wire ≠ some b.val ∨ Store.get? s.dev.tpt.sending b.val = none) →
      Idles (.timeTxDone b f p) s) ∧
    (∀ (s : State) (v : Word) (n : Fin 4),
      s.Running →
      s.dev.blockClosed 116 = false →
      Does (.txtsRelease v) s [] ((List.range 4).flatMap (fun n => [F.TPT_TXTS_KEY_DOMAIN.key n, F.TPT_TXTS_KEY_MSG_TYPE.key n,
        F.TPT_TXTS_KEY_SEQ_ID.key n, F.TPT_TXTS_PLO_POUND.key n, F.TPT_TXTS_PHI_POUND.key n, F.TPT_TXTS_FRAC_FRAC.key n,
        F.TPT_TXTS_FRAC_VALID.key n]))
        (fun d => (if bit v.toNat n.val then d.get F.TPT_TXTS_KEY_DOMAIN n.val = 0 ∧ d.get F.TPT_TXTS_KEY_MSG_TYPE n.val = 0 ∧
          d.get F.TPT_TXTS_KEY_SEQ_ID n.val = 0 ∧ d.get F.TPT_TXTS_PLO_POUND n.val = 0 ∧ d.get F.TPT_TXTS_PHI_POUND n.val = 0 ∧
          d.get F.TPT_TXTS_FRAC_FRAC n.val = 0 ∧ d.get F.TPT_TXTS_FRAC_VALID n.val = 0 else d.get F.TPT_TXTS_KEY_DOMAIN n.val =
          s.dev.get F.TPT_TXTS_KEY_DOMAIN n.val ∧ d.get F.TPT_TXTS_KEY_MSG_TYPE n.val =
          s.dev.get F.TPT_TXTS_KEY_MSG_TYPE n.val ∧ d.get F.TPT_TXTS_KEY_SEQ_ID n.val = s.dev.get F.TPT_TXTS_KEY_SEQ_ID n.val ∧
          d.get F.TPT_TXTS_PLO_POUND n.val = s.dev.get F.TPT_TXTS_PLO_POUND n.val ∧
          d.get F.TPT_TXTS_PHI_POUND n.val = s.dev.get F.TPT_TXTS_PHI_POUND n.val ∧
          d.get F.TPT_TXTS_FRAC_FRAC n.val = s.dev.get F.TPT_TXTS_FRAC_FRAC n.val ∧
          d.get F.TPT_TXTS_FRAC_VALID n.val = s.dev.get F.TPT_TXTS_FRAC_VALID n.val))) ∧
    (∀ (s : State) (f : BitVec 24) (p : Option Pound),
      s.Running →
      (s.dev.portInUse && !s.dev.kpr.restarting && decide (3 ≤ s.dev.portState) && decide (s.dev.portState ≤ 4)) = true →
      Does (.ptpDelayReq f p) s [.tpt] ([])
        (fun d => d.tpt = { s.dev.tpt with ptp := { s.dev.tpt.ptp with req := some (s.dev.tpt.ptp.reqSeq, (s.dev.messageStamp p f).localTime), reqSeq := (s.dev.tpt.ptp.reqSeq + 1) % 65536, sent := s.dev.eventFrame s.dev.tpt.ptp.udp (s.dev.delayReqMessage s.dev.tpt.ptp.reqSeq) } }))
          ∧
    (∀ (s : State) (f : BitVec 24) (p : Option Pound),
      s.Running →
      (s.dev.portInUse && !s.dev.kpr.restarting && decide (3 ≤ s.dev.portState) && decide (s.dev.portState ≤ 4)) = false →
      Idles (.ptpDelayReq f p) s) ∧
    (∀ (s : State),
      s.Running →
      (s.dev.portInUse && !s.dev.kpr.restarting && decide (3 ≤ s.dev.portState) && decide (s.dev.portState ≤ 4)) = true →
      Does .ptpAnnounceTimeout s [.tpt] ([F.TPT_STAT_PORT_STATE.key 0] ++ evKeys F.TPT_EVT_STATE_CHANGE 0)
        (fun d => d.portState = 2 ∧ d.get F.TPT_EVT_STATE_CHANGE = 1 ∧
          d.tpt = { s.dev.tpt with ptp := { s.dev.tpt.ptp with parent := none, sync := none, fwd := none, delay := none, req := none } }))
          ∧
    (∀ (s : State),
      s.Running →
      (s.dev.portInUse && !s.dev.kpr.restarting && decide (3 ≤ s.dev.portState) && decide (s.dev.portState ≤ 4)) = false →
      Idles .ptpAnnounceTimeout s) ∧
    (∀ (s : State) (up : Bool),
      s.Running →
      s.dev.tptOpen = true →
      s.dev.is F.TPT_STAT_LINK ≠ up →
      Does (.timeLinkChange up) s [] ([F.TPT_STAT_LINK.key 0, F.TPT_STAT_AN_DONE.key 0,
        F.TPT_STAT_PORT_STATE.key 0] ++ evKeys F.TPT_EVT_LINK_CHANGE 0 ++ evKeys F.TPT_EVT_STATE_CHANGE 0)
        (fun d => d.is F.TPT_STAT_LINK = up ∧ d.is F.TPT_STAT_AN_DONE = (up && s.dev.is F.TPT_CTRL_AN_EN) ∧
          d.get F.TPT_EVT_LINK_CHANGE = 1 ∧ d.portState = (if up && s.dev.portState == 1 then 2 else s.dev.portState) ∧
          (d.portState ≠ s.dev.portState → d.get F.TPT_EVT_STATE_CHANGE = 1))) ∧
    (∀ (s : State) (up : Bool),
      s.Running →
      (s.dev.tptOpen = false ∨ s.dev.is F.TPT_STAT_LINK = up) →
      Idles (.timeLinkChange up) s) ∧
    (∀ (s : State) (v : Word),
      s.Running →
      s.dev.blockClosed 116 = false →
      bits v.toNat 31 30 = s.dev.get F.TPT_CTRL_MODE →
      Does (.timeModeChange v) s [.bus] ([F.TPT_CTRL_MODE.key 0, F.TPT_CTRL_IF.key 0, F.TPT_CTRL_AN_EN.key 0,
        F.TPT_CTRL_UDP_EN.key 0, F.TPT_CTRL_L2_EN.key 0, F.TPT_CTRL_DOMAIN.key 0])
        (fun d => d.get F.TPT_CTRL_MODE = bits v.toNat 31 30 ∧ d.get F.TPT_CTRL_IF = bits v.toNat 29 29 ∧
          d.get F.TPT_CTRL_AN_EN = bits v.toNat 28 28 ∧ d.get F.TPT_CTRL_UDP_EN = bits v.toNat 25 25 ∧
          d.get F.TPT_CTRL_L2_EN = bits v.toNat 24 24 ∧ d.get F.TPT_CTRL_DOMAIN = bits v.toNat 15 8)) ∧
    (∀ (s : State) (v : Word) (n : Fin 4),
      s.Running →
      s.dev.blockClosed 116 = false →
      bits v.toNat 31 30 ≠ s.dev.get F.TPT_CTRL_MODE →
      DoesWide (.timeModeChange v) s [.bus, .tpt] ([0x39])
        (fun d => d.get F.TPT_CTRL_MODE = bits v.toNat 31 30 ∧ d.get F.TPT_CTRL_IF = bits v.toNat 29 29 ∧
          d.get F.TPT_CTRL_AN_EN = bits v.toNat 28 28 ∧ d.get F.TPT_CTRL_UDP_EN = bits v.toNat 25 25 ∧
          d.get F.TPT_CTRL_L2_EN = bits v.toNat 24 24 ∧ d.get F.TPT_CTRL_DOMAIN = bits v.toNat 15 8 ∧
          d.portState = (if bits v.toNat 31 30 = 1 ∧ s.dev.kpr.restarting = false then 1 else 0) ∧
          (d.tpt = { s.dev.tpt with slots := [], ptp := { reqSeq := s.dev.tpt.ptp.reqSeq }, sending := s.dev.tpt.sending.filter (fun (e : Nat × Nat × Nat) => s.dev.tpt.wire == some e.1) })
          ∧ d.get F.TPT_STAT_TX_BUSY = (s.dev.tpt.wire.elim 0 (2 ^ ·)) % 4 ∧ d.get F.TPT_TXTS_KEY_DOMAIN n.val = 0 ∧
          d.get F.TPT_TXTS_KEY_MSG_TYPE n.val = 0 ∧ d.get F.TPT_TXTS_KEY_SEQ_ID n.val = 0 ∧
          d.get F.TPT_TXTS_PLO_POUND n.val = 0 ∧ d.get F.TPT_TXTS_PHI_POUND n.val = 0 ∧ d.get F.TPT_TXTS_FRAC_FRAC n.val = 0 ∧
          d.get F.TPT_TXTS_FRAC_VALID n.val = 0)) ∧
    (∀ (s : State) (v : Word),
      s.Running →
      s.dev.blockClosed 116 = true →
      Idles (.timeModeChange v) s)

/-- A write of CAL_CMD keeps KIND and UNIT. With the Keeper running GO starts the calibration when none runs: of a unit that
  exists and whose preconditions hold it begins with BUSY, CODE 2, RUN 1, its kind and unit shown,
  a MON run holding the monitor of its core and a BANDMAP run starting the band search of its first entry; of a unit that does
  not exist it ends with 0x18, and one whose precondition fails with the code of the first that fails; while one runs GO is
  refused. Until the Keeper runs GO waits. ABORT and a precondition lost during a run end it,
  with 0x17 or the code of the precondition; a run of MON holds the monitor again,
  and one of BANDMAP leaves its core in IDLE. Choices of the model on which this rests: log entries 8, 11, 26, 96, 97,
  106 and 155. -/
def Obligations.CalibrationStart : Prop :=
  (∀ (s : State) (v : Word),
      s.Running →
      (!s.dev.kpr.restarting && s.dev.is F.KPR_STAT_RUNNING) = true →
      s.dev.cal.applyAt.all (fun (p : Pound) => decide (s.dev.tow.pound.toNat < p.toNat)) = true →
      s.dev.is F.CAL_CMD_STORE = false →
      s.dev.calBusy = false →
      bits v.toNat 7 0 < unitCount (bits v.toNat 10 8) →
      s.dev.calFail (bits v.toNat 10 8) (bits v.toNat 7 0) true = none →
      bits v.toNat 10 8 ≠ 0 ∧ bits v.toNat 10 8 ≠ 3 →
      Does (.calStart v) s [.cal] ([F.CAL_CMD_KIND.key 0, F.CAL_CMD_UNIT.key 0, F.CAL_STAT_KIND.key 0, F.CAL_STAT_UNIT.key 0,
        F.CAL_STAT_CODE.key 0, F.CAL_STAT_RUN.key 0, F.CAL_STAT_BUSY.key 0, F.CAL_CMD_GO.key 0])
        (fun d => d.get F.CAL_CMD_KIND = bits v.toNat 10 8 ∧ d.get F.CAL_CMD_UNIT = bits v.toNat 7 0 ∧
          d.get F.CAL_STAT_KIND = bits v.toNat 10 8 ∧ d.get F.CAL_STAT_UNIT = bits v.toNat 7 0 ∧ d.get F.CAL_STAT_CODE = 2 ∧
          d.get F.CAL_STAT_BUSY = 1 ∧ d.get F.CAL_STAT_RUN = 1 ∧ d.get F.CAL_CMD_GO = 0 ∧
          d.cal = { s.dev.cal with first := none, now := {} })) ∧
    (∀ (s : State) (v : Word),
      s.Running →
      (!s.dev.kpr.restarting && s.dev.is F.KPR_STAT_RUNNING) = true →
      s.dev.cal.applyAt.all (fun (p : Pound) => decide (s.dev.tow.pound.toNat < p.toNat)) = true →
      s.dev.is F.CAL_CMD_STORE = false →
      s.dev.calBusy = false →
      bits v.toNat 7 0 < unitCount (bits v.toNat 10 8) →
      s.dev.calFail (bits v.toNat 10 8) (bits v.toNat 7 0) true = none →
      bits v.toNat 10 8 = 0 →
      Does (.calStart v) s [.cal, .cores] ([F.CAL_CMD_KIND.key 0, F.CAL_CMD_UNIT.key 0, F.CAL_STAT_KIND.key 0,
        F.CAL_STAT_UNIT.key 0, F.CAL_STAT_CODE.key 0, F.CAL_STAT_RUN.key 0, F.CAL_STAT_BUSY.key 0,
        F.CAL_CMD_GO.key 0] ++ [F.LOOP_STAT_HOLD.key (bits v.toNat 7 0)])
        (fun d => d.get F.CAL_CMD_KIND = bits v.toNat 10 8 ∧ d.get F.CAL_CMD_UNIT = bits v.toNat 7 0 ∧
          d.get F.CAL_STAT_KIND = bits v.toNat 10 8 ∧ d.get F.CAL_STAT_UNIT = bits v.toNat 7 0 ∧ d.get F.CAL_STAT_CODE = 2 ∧
          d.get F.CAL_STAT_BUSY = 1 ∧ d.get F.CAL_STAT_RUN = 1 ∧ d.get F.CAL_CMD_GO = 0 ∧
          d.cal = { s.dev.cal with first := none, now := {} } ∧ d.get F.LOOP_STAT_HOLD (bits v.toNat 7 0) = 1 ∧
          d.cores = (s.dev.startHold (bits v.toNat 7 0)).cores)) ∧
    (∀ (s : State) (v : Word) (e : Nat) (rest : List Nat),
      s.Running →
      (!s.dev.kpr.restarting && s.dev.is F.KPR_STAT_RUNNING) = true →
      s.dev.cal.applyAt.all (fun (p : Pound) => decide (s.dev.tow.pound.toNat < p.toNat)) = true →
      s.dev.is F.CAL_CMD_STORE = false →
      s.dev.calBusy = false →
      bits v.toNat 7 0 < unitCount (bits v.toNat 10 8) →
      s.dev.calFail (bits v.toNat 10 8) (bits v.toNat 7 0) true = none →
      bits v.toNat 10 8 = 3 →
      s.dev.validBands (bits v.toNat 7 0) = e :: rest →
      Answers (.calStart v) s (fun d => d.get F.CAL_CMD_KIND = bits v.toNat 10 8 ∧ d.get F.CAL_CMD_UNIT = bits v.toNat 7 0 ∧
        d.get F.CAL_STAT_KIND = bits v.toNat 10 8 ∧ d.get F.CAL_STAT_UNIT = bits v.toNat 7 0 ∧ d.get F.CAL_STAT_CODE = 2 ∧
        d.get F.CAL_STAT_BUSY = 1 ∧ d.get F.CAL_STAT_RUN = 1 ∧ d.get F.CAL_CMD_GO = 0 ∧
        d.cal = { s.dev.cal with first := none, now := {}, fit := some ({ entry := e }, .tunes), left := rest } ∧
        d.get F.LOOP_STAT_STATE (bits v.toNat 7 0) = 2 ∧ d.get F.LOOP_STAT_BAND_SEARCH (bits v.toNat 7 0) = 1 ∧
        (d.core (bits v.toNat 7 0)).set.n = (bits (s.dev.bandWord (bits v.toNat 7 0) e 1) 20 0 + bits (s.dev.bandWord (bits
        v.toNat 7 0) e 2) 20 0) / 2 ^ 17)) ∧
    (∀ (s : State) (v : Word),
      s.Running →
      (!s.dev.kpr.restarting && s.dev.is F.KPR_STAT_RUNNING) = true →
      s.dev.cal.applyAt.all (fun (p : Pound) => decide (s.dev.tow.pound.toNat < p.toNat)) = true →
      s.dev.is F.CAL_CMD_STORE = false →
      s.dev.calBusy = false →
      unitCount (bits v.toNat 10 8) ≤ bits v.toNat 7 0 →
      Does (.calStart v) s [] ([F.CAL_CMD_KIND.key 0, F.CAL_CMD_UNIT.key 0, F.CAL_STAT_KIND.key 0, F.CAL_STAT_UNIT.key 0,
        F.CAL_STAT_CODE.key 0, F.CAL_STAT_RUN.key 0, F.CAL_STAT_BUSY.key 0, F.CAL_CMD_GO.key 0] ++ evKeys F.CAL_EVT_FAILED 0)
        (fun d => d.get F.CAL_CMD_KIND = bits v.toNat 10 8 ∧ d.get F.CAL_CMD_UNIT = bits v.toNat 7 0 ∧
          d.get F.CAL_STAT_KIND = bits v.toNat 10 8 ∧ d.get F.CAL_STAT_UNIT = bits v.toNat 7 0 ∧ d.get F.CAL_STAT_CODE = 0x18 ∧
          d.get F.CAL_EVT_FAILED = 1 ∧ d.get F.CAL_STAT_BUSY = s.dev.get F.CAL_STAT_BUSY ∧ d.get F.CAL_CMD_GO = 0)) ∧
    (∀ (s : State) (v : Word) (c : Nat),
      s.Running →
      (!s.dev.kpr.restarting && s.dev.is F.KPR_STAT_RUNNING) = true →
      s.dev.cal.applyAt.all (fun (p : Pound) => decide (s.dev.tow.pound.toNat < p.toNat)) = true →
      s.dev.is F.CAL_CMD_STORE = false →
      s.dev.calBusy = false →
      bits v.toNat 7 0 < unitCount (bits v.toNat 10 8) →
      s.dev.calFail (bits v.toNat 10 8) (bits v.toNat 7 0) true = some c →
      Does (.calStart v) s [] ([F.CAL_CMD_KIND.key 0, F.CAL_CMD_UNIT.key 0, F.CAL_STAT_KIND.key 0, F.CAL_STAT_UNIT.key 0,
        F.CAL_STAT_CODE.key 0, F.CAL_STAT_RUN.key 0, F.CAL_STAT_BUSY.key 0, F.CAL_CMD_GO.key 0] ++ evKeys F.CAL_EVT_FAILED 0)
        (fun d => d.get F.CAL_CMD_KIND = bits v.toNat 10 8 ∧ d.get F.CAL_CMD_UNIT = bits v.toNat 7 0 ∧
          d.get F.CAL_STAT_KIND = bits v.toNat 10 8 ∧ d.get F.CAL_STAT_UNIT = bits v.toNat 7 0 ∧ d.get F.CAL_STAT_CODE = c ∧
          d.get F.CAL_EVT_FAILED = 1 ∧ d.get F.CAL_STAT_BUSY = s.dev.get F.CAL_STAT_BUSY ∧ d.get F.CAL_CMD_GO = 0)) ∧
    (∀ (s : State) (v : Word),
      s.Running →
      (!s.dev.kpr.restarting && s.dev.is F.KPR_STAT_RUNNING) = true →
      s.dev.cal.applyAt.all (fun (p : Pound) => decide (s.dev.tow.pound.toNat < p.toNat)) = true →
      s.dev.is F.CAL_CMD_STORE = false →
      s.dev.calBusy = true →
      Does (.calStart v) s [] ([F.CAL_CMD_KIND.key 0, F.CAL_CMD_UNIT.key 0, F.CAL_CMD_GO.key 0] ++ evKeys F.CAL_EVT_REFUSED 0)
        (fun d => d.get F.CAL_CMD_KIND = bits v.toNat 10 8 ∧ d.get F.CAL_CMD_UNIT = bits v.toNat 7 0 ∧
          d.get F.CAL_EVT_REFUSED = 1 ∧ d.get F.CAL_CMD_GO = 0)) ∧
    (∀ (s : State) (v : Word),
      s.Running →
      (!s.dev.kpr.restarting && s.dev.is F.KPR_STAT_RUNNING) = false →
      s.dev.cal.applyAt.all (fun (p : Pound) => decide (s.dev.tow.pound.toNat < p.toNat)) = true →
      Does (.calStart v) s [] ([F.CAL_CMD_KIND.key 0, F.CAL_CMD_UNIT.key 0, F.CAL_CMD_GO.key 0])
        (fun d => d.get F.CAL_CMD_KIND = bits v.toNat 10 8 ∧ d.get F.CAL_CMD_UNIT = bits v.toNat 7 0 ∧
          d.get F.CAL_CMD_GO = 1)) ∧
    (∀ (s : State) (v : Word),
      s.Running →
      ((!s.dev.kpr.restarting && s.dev.is F.KPR_STAT_RUNNING) && (s.dev.is F.CAL_CMD_STORE || s.dev.is F.CAL_CMD_GO)) = false →
      s.dev.cal.applyAt.all (fun (p : Pound) => decide (s.dev.tow.pound.toNat < p.toNat)) = true →
      s.dev.calBusy = true →
      s.dev.calKind ≠ 0 ∧ s.dev.calKind ≠ 3 →
      Does (.calAbort v) s [.cal] ([F.CAL_CMD_KIND.key 0, F.CAL_CMD_UNIT.key 0, F.CAL_STAT_CODE.key 0, F.CAL_STAT_BUSY.key 0,
        F.CAL_STAT_RUN.key 0] ++ evKeys F.CAL_EVT_FAILED 0)
        (fun d => d.get F.CAL_CMD_KIND = bits v.toNat 10 8 ∧ d.get F.CAL_CMD_UNIT = bits v.toNat 7 0 ∧
          d.get F.CAL_STAT_BUSY = 0 ∧ d.get F.CAL_STAT_RUN = 0 ∧ d.get F.CAL_STAT_CODE = 0x17 ∧ d.get F.CAL_EVT_FAILED = 1 ∧
          d.cal = { s.dev.cal with first := none, now := {}, fit := none, left := [] })) ∧
    (∀ (s : State) (v : Word),
      s.Running →
      ((!s.dev.kpr.restarting && s.dev.is F.KPR_STAT_RUNNING) && (s.dev.is F.CAL_CMD_STORE || s.dev.is F.CAL_CMD_GO)) = false →
      s.dev.cal.applyAt.all (fun (p : Pound) => decide (s.dev.tow.pound.toNat < p.toNat)) = true →
      s.dev.calBusy = true →
      (s.dev.calKind = 0 ∨ s.dev.calKind = 3) →
      Answers (.calAbort v) s (fun d => d.get F.CAL_CMD_KIND = bits v.toNat 10 8 ∧ d.get F.CAL_CMD_UNIT = bits v.toNat 7 0 ∧
        d.get F.CAL_STAT_BUSY = 0 ∧ d.get F.CAL_STAT_RUN = 0 ∧ d.get F.CAL_STAT_CODE = 0x17 ∧ d.get F.CAL_EVT_FAILED = 1 ∧
        d.cal = { s.dev.cal with first := none, now := {}, fit := none, left := [] } ∧ (s.dev.calKind = 0 ∧
        s.dev.coreClosed s.dev.calUnit = false → d.get F.LOOP_STAT_HOLD s.dev.calUnit = 1) ∧ (s.dev.calKind = 3 ∧
        s.dev.coreClosed s.dev.calUnit = false → d.get F.LOOP_STAT_STATE s.dev.calUnit = 1 ∧
        d.get F.LOOP_STAT_LOCK s.dev.calUnit = 0))) ∧
    (∀ (s : State) (v : Word),
      s.Running →
      ((!s.dev.kpr.restarting && s.dev.is F.KPR_STAT_RUNNING) && (s.dev.is F.CAL_CMD_STORE || s.dev.is F.CAL_CMD_GO)) = false →
      s.dev.cal.applyAt.all (fun (p : Pound) => decide (s.dev.tow.pound.toNat < p.toNat)) = true →
      s.dev.calBusy = false →
      Does (.calAbort v) s [] ([F.CAL_CMD_KIND.key 0, F.CAL_CMD_UNIT.key 0])
        (fun d => d.get F.CAL_CMD_KIND = bits v.toNat 10 8 ∧ d.get F.CAL_CMD_UNIT = bits v.toNat 7 0)) ∧
    (∀ (s : State) (code : Byte),
      s.Running →
      s.dev.calBusy = true →
      s.dev.calFail s.dev.calKind s.dev.calUnit false = some code.toNat →
      s.dev.calKind ≠ 0 ∧ s.dev.calKind ≠ 3 →
      Does (.calPreconditionFail code) s [.cal] ([F.CAL_STAT_CODE.key 0, F.CAL_STAT_BUSY.key 0,
        F.CAL_STAT_RUN.key 0] ++ evKeys F.CAL_EVT_FAILED 0)
        (fun d => d.get F.CAL_STAT_BUSY = 0 ∧ d.get F.CAL_STAT_RUN = 0 ∧ d.get F.CAL_STAT_CODE = code.toNat ∧
          d.get F.CAL_EVT_FAILED = 1 ∧ d.cal = { s.dev.cal with first := none, now := {}, fit := none, left := [] })) ∧
    (∀ (s : State) (code : Byte),
      s.Running →
      s.dev.calBusy = true →
      s.dev.calFail s.dev.calKind s.dev.calUnit false = some code.toNat →
      (s.dev.calKind = 0 ∨ s.dev.calKind = 3) →
      Answers (.calPreconditionFail code) s (fun d => d.get F.CAL_STAT_BUSY = 0 ∧ d.get F.CAL_STAT_RUN = 0 ∧
        d.get F.CAL_STAT_CODE = code.toNat ∧ d.get F.CAL_EVT_FAILED = 1 ∧
        d.cal = { s.dev.cal with first := none, now := {}, fit := none, left := [] } ∧ (s.dev.calKind = 0 ∧
        s.dev.coreClosed s.dev.calUnit = false → d.get F.LOOP_STAT_HOLD s.dev.calUnit = 1) ∧ (s.dev.calKind = 3 ∧
        s.dev.coreClosed s.dev.calUnit = false → d.get F.LOOP_STAT_STATE s.dev.calUnit = 1 ∧
        d.get F.LOOP_STAT_LOCK s.dev.calUnit = 0))) ∧
    (∀ (s : State) (code : Byte),
      s.Running →
      (s.dev.calBusy = false ∨ s.dev.calFail s.dev.calKind s.dev.calUnit false ≠ some code.toNat) →
      Idles (.calPreconditionFail code) s)

/-- A histogram of the hits asked for that is uniform, misses no code and, for a TDC,
  leaves none beyond the span gives the code positions, and the mean run follows; 2^16 readings give the offset, their mean,
  and the trims of a lane are found by search. Each part ends the calibration instead with the code of the first precondition
  that fails, else with 0x14 where its statistics fail, else with 0x16 where a code is missing or a result lies out of range. A
  complete first run is kept and the second begins; the second is compared with it: where the two agree the result is pending,
  DONE is set and the sensor reading kept, else the calibration ends with 0x15. The 4,096 readings of a band-map entry that all
  lie within 8 codes of their mean give its TUNE, and the preset loads at R_LO and R_HI follow in turn, each within its limit,
  else the calibration ends; after the last entry of the second run the fits are compared, and those that agree,
  band by band and within a TUNE code, are pending with their BAND, TUNE and temperature,
  the rest of each entry as it stands and every other entry of the core not valid. Choices of the model on which this rests:
  log entries 8, 15, 16, 55, 95, 97, 98 and 141. -/
def Obligations.CalibrationRuns : Prop :=
  (∀ (s : State) (bins grid : List Nat),
      s.Running →
      s.dev.calBusy = true →
      s.dev.calKind ≤ 2 →
      s.dev.get F.CAL_STAT_RUN ≠ 3 →
      bins.length = codeCount s.dev.calKind + 1 →
      bins.foldl (· + ·) 0 = (s.dev.calHits s.dev.calKind) →
      grid.length = calGrid s.dev.calKind →
      grid.foldl (· + ·) 0 = (s.dev.calHits s.dev.calKind) →
      s.dev.calFail s.dev.calKind s.dev.calUnit false = none →
      uniform (s.dev.calHits s.dev.calKind) (calGrid s.dev.calKind) (max 1 (s.dev.get F.CAL_CFG_UNIF_SIGMA)) (gridDev
        (s.dev.calHits s.dev.calKind) (calGrid s.dev.calKind) grid) = true →
      (missingCode bins || (s.dev.calKind != 2 && bins.getD (codeCount s.dev.calKind) 0 != 0)) = false →
      Does (.calRunDone (.density bins grid)) s [.cal] ([F.CAL_RESULT_UNIF_Z.key 0, F.CAL_STAT_RUN.key 0])
        (fun d => d.get F.CAL_RESULT_UNIF_Z = unifZ (s.dev.calHits s.dev.calKind) (calGrid s.dev.calKind) (gridDev
          (s.dev.calHits s.dev.calKind) (calGrid s.dev.calKind) grid) % 2 ^ 16 ∧ d.get F.CAL_STAT_RUN = 3 ∧
          d.cal = { s.dev.cal with bins := bins, now := { s.dev.cal.now with pos := densityPos (calSpan s.dev.calKind) (s.dev.calHits s.dev.calKind) 0 (bins.take (codeCount s.dev.calKind)) } }))
          ∧
    (∀ (s : State) (bins grid : List Nat) (c : Nat),
      s.Running →
      s.dev.calBusy = true →
      s.dev.calKind ≤ 2 →
      s.dev.get F.CAL_STAT_RUN ≠ 3 →
      bins.length = codeCount s.dev.calKind + 1 →
      bins.foldl (· + ·) 0 = (s.dev.calHits s.dev.calKind) →
      grid.length = calGrid s.dev.calKind →
      grid.foldl (· + ·) 0 = (s.dev.calHits s.dev.calKind) →
      ((s.dev.calFail s.dev.calKind s.dev.calUnit false).isSome =
        true ∨ uniform (s.dev.calHits s.dev.calKind) (calGrid s.dev.calKind) (max 1 (s.dev.get F.CAL_CFG_UNIF_SIGMA)) (gridDev
        (s.dev.calHits s.dev.calKind) (calGrid s.dev.calKind) grid) =
        false ∨ (missingCode bins || (s.dev.calKind != 2 && bins.getD (codeCount s.dev.calKind) 0 != 0)) = true) →
      c = (match s.dev.calFail s.dev.calKind s.dev.calUnit false with | some x => x | none => (if (!uniform (s.dev.calHits
        s.dev.calKind) (calGrid s.dev.calKind) (max 1 (s.dev.get F.CAL_CFG_UNIF_SIGMA)) (gridDev (s.dev.calHits s.dev.calKind)
        (calGrid s.dev.calKind) grid)) then 0x14 else 0x16)) →
      s.dev.calKind ≠ 0 ∧ s.dev.calKind ≠ 3 →
      Does (.calRunDone (.density bins grid)) s [.cal] ([F.CAL_RESULT_UNIF_Z.key 0, F.CAL_STAT_CODE.key 0,
        F.CAL_STAT_BUSY.key 0, F.CAL_STAT_RUN.key 0] ++ evKeys F.CAL_EVT_FAILED 0)
        (fun d => d.get F.CAL_RESULT_UNIF_Z = unifZ (s.dev.calHits s.dev.calKind) (calGrid s.dev.calKind) (gridDev
          (s.dev.calHits s.dev.calKind) (calGrid s.dev.calKind) grid) % 2 ^ 16 ∧
          d.cal = { s.dev.cal with bins := bins, first := none, now := {}, fit := none, left := [] } ∧
          d.get F.CAL_STAT_BUSY = 0 ∧ d.get F.CAL_STAT_RUN = 0 ∧ d.get F.CAL_STAT_CODE = c % 2 ^ 8 ∧
          d.get F.CAL_EVT_FAILED = 1)) ∧
    (∀ (s : State) (bins grid : List Nat) (c : Nat),
      s.Running →
      s.dev.calBusy = true →
      s.dev.calKind ≤ 2 →
      s.dev.get F.CAL_STAT_RUN ≠ 3 →
      bins.length = codeCount s.dev.calKind + 1 →
      bins.foldl (· + ·) 0 = (s.dev.calHits s.dev.calKind) →
      grid.length = calGrid s.dev.calKind →
      grid.foldl (· + ·) 0 = (s.dev.calHits s.dev.calKind) →
      ((s.dev.calFail s.dev.calKind s.dev.calUnit false).isSome =
        true ∨ uniform (s.dev.calHits s.dev.calKind) (calGrid s.dev.calKind) (max 1 (s.dev.get F.CAL_CFG_UNIF_SIGMA)) (gridDev
        (s.dev.calHits s.dev.calKind) (calGrid s.dev.calKind) grid) =
        false ∨ (missingCode bins || (s.dev.calKind != 2 && bins.getD (codeCount s.dev.calKind) 0 != 0)) = true) →
      c = (match s.dev.calFail s.dev.calKind s.dev.calUnit false with | some x => x | none => (if (!uniform (s.dev.calHits
        s.dev.calKind) (calGrid s.dev.calKind) (max 1 (s.dev.get F.CAL_CFG_UNIF_SIGMA)) (gridDev (s.dev.calHits s.dev.calKind)
        (calGrid s.dev.calKind) grid)) then 0x14 else 0x16)) →
      (s.dev.calKind = 0 ∨ s.dev.calKind = 3) →
      Answers (.calRunDone (.density bins grid)) s (fun d => d.get F.CAL_RESULT_UNIF_Z =
        unifZ (s.dev.calHits s.dev.calKind) (calGrid s.dev.calKind) (gridDev (s.dev.calHits s.dev.calKind) (calGrid
        s.dev.calKind) grid) % 2 ^ 16 ∧ d.cal =
        { s.dev.cal with bins := bins, first := none, now := {}, fit := none, left := [] } ∧ (s.dev.calKind = 0 ∧
        s.dev.coreClosed s.dev.calUnit = false → d.get F.LOOP_STAT_HOLD s.dev.calUnit = 1) ∧ (s.dev.calKind = 3 ∧
        s.dev.coreClosed s.dev.calUnit = false → d.get F.LOOP_STAT_STATE s.dev.calUnit = 1 ∧
        d.get F.LOOP_STAT_LOCK s.dev.calUnit = 0) ∧ d.get F.CAL_STAT_BUSY = 0 ∧ d.get F.CAL_STAT_RUN = 0 ∧
        d.get F.CAL_STAT_CODE = c % 2 ^ 8 ∧ d.get F.CAL_EVT_FAILED = 1)) ∧
    (∀ (s : State) (readings : List (Int × Nat)) (offset : Int),
      s.Running →
      s.dev.calBusy = true →
      s.dev.calKind ≤ 2 →
      s.dev.get F.CAL_STAT_RUN = 3 →
      readingCount readings = 65536 →
      offset = divRound (readingSum (readings.map (fun (x : Int × Nat) => (meanTime s.dev.calKind s.dev.cal.now.pos x.1,
        x.2)))) 65536 →
      s.dev.calFail s.dev.calKind s.dev.calUnit false = none →
      decide (999 * 65536 ≤ 1000 * readingsNear 512 (readings.map (fun (x : Int × Nat) => (meanTime s.dev.calKind
        s.dev.cal.now.pos x.1, x.2)))) = true →
      (s.dev.calKind != 2 || decide ((64000 : Int) ≤ offset + s.dev.cal.now.pos.getD 1023 0)) = true →
      s.dev.cal.first = none →
      Does (.calRunDone (.mean readings)) s [.cal] ([F.CAL_OFFSET_OFFSET.key 0, F.CAL_STAT_RUN.key 0])
        (fun d => d.get F.CAL_OFFSET_OFFSET = unsgn 32 offset ∧ d.get F.CAL_STAT_RUN = 2 ∧
          d.cal = { s.dev.cal with first := some { s.dev.cal.now with offset := offset }, now := {} })) ∧
    (∀ (s : State) (readings : List (Int × Nat)) (offset : Int) (a : CalRun),
      s.Running →
      s.dev.calBusy = true →
      s.dev.calKind ≤ 2 →
      s.dev.get F.CAL_STAT_RUN = 3 →
      readingCount readings = 65536 →
      offset = divRound (readingSum (readings.map (fun (x : Int × Nat) => (meanTime s.dev.calKind s.dev.cal.now.pos x.1,
        x.2)))) 65536 →
      s.dev.calFail s.dev.calKind s.dev.calUnit false = none →
      decide (999 * 65536 ≤ 1000 * readingsNear 512 (readings.map (fun (x : Int × Nat) => (meanTime s.dev.calKind
        s.dev.cal.now.pos x.1, x.2)))) = true →
      (s.dev.calKind != 2 || decide ((64000 : Int) ≤ offset + s.dev.cal.now.pos.getD 1023 0)) = true →
      s.dev.cal.applyAt.all (fun (p : Pound) => decide (s.dev.tow.pound.toNat < p.toNat)) = true →
      s.dev.cal.first = some a →
      agreed s.dev.calKind a { s.dev.cal.now with offset := offset } = true →
      s.dev.calKind ≠ 0 ∧ s.dev.calKind ≠ 3 →
      Does (.calRunDone (.mean readings)) s [.cal, .freeCtr] ([F.CAL_OFFSET_OFFSET.key 0, F.CAL_RESULT_AGREE_PCT.key 0,
        F.CAL_TEMP_LAST_RUN.key 0, F.CAL_STAT_CODE.key 0, F.CAL_STAT_BUSY.key 0,
        F.CAL_STAT_RUN.key 0] ++ evKeys F.CAL_EVT_DONE 0)
        (fun d => d.get F.CAL_OFFSET_OFFSET = unsgn 32 offset ∧ d.get F.CAL_RESULT_AGREE_PCT =
          min 255 (disagreement s.dev.calKind a { s.dev.cal.now with offset := offset }) ∧
          d.get F.CAL_TEMP_LAST_RUN = s.dev.get F.SYS_TEMP_NOW % 2 ^ 8 ∧
          (d.cal = { s.dev.cal with pend := setImgBytes (setImgNum (setImgValid s.dev.cal.held s.dev.calKind s.dev.calUnit) 4 (offsetBase s.dev.calKind s.dev.calUnit) (unsgn 32 offset)) (codeBase s.dev.calKind s.dev.calUnit) ((widthsOf s.dev.cal.now.pos).zipIdx.map (fun (x : Int × Nat) => widthByte s.dev.freeCtr x.2 x.1)), first := none, now := {}, fit := none, left := [] })
          ∧ d.get F.CAL_STAT_BUSY = 0 ∧ d.get F.CAL_STAT_RUN = 0 ∧ d.get F.CAL_STAT_CODE = 1 ∧ d.get F.CAL_EVT_DONE = 1)) ∧
    (∀ (s : State) (readings : List (Int × Nat)) (offset : Int) (a : CalRun),
      s.Running →
      s.dev.calBusy = true →
      s.dev.calKind ≤ 2 →
      s.dev.get F.CAL_STAT_RUN = 3 →
      readingCount readings = 65536 →
      offset = divRound (readingSum (readings.map (fun (x : Int × Nat) => (meanTime s.dev.calKind s.dev.cal.now.pos x.1,
        x.2)))) 65536 →
      s.dev.calFail s.dev.calKind s.dev.calUnit false = none →
      decide (999 * 65536 ≤ 1000 * readingsNear 512 (readings.map (fun (x : Int × Nat) => (meanTime s.dev.calKind
        s.dev.cal.now.pos x.1, x.2)))) = true →
      (s.dev.calKind != 2 || decide ((64000 : Int) ≤ offset + s.dev.cal.now.pos.getD 1023 0)) = true →
      s.dev.cal.applyAt.all (fun (p : Pound) => decide (s.dev.tow.pound.toNat < p.toNat)) = true →
      s.dev.cal.first = some a →
      agreed s.dev.calKind a { s.dev.cal.now with offset := offset } = true →
      (s.dev.calKind = 0 ∨ s.dev.calKind = 3) →
      Answers (.calRunDone (.mean readings)) s (fun d => d.get F.CAL_OFFSET_OFFSET = unsgn 32 offset ∧
        d.get F.CAL_RESULT_AGREE_PCT = min 255 (disagreement s.dev.calKind a { s.dev.cal.now with offset := offset }) ∧
        d.get F.CAL_TEMP_LAST_RUN = s.dev.get F.SYS_TEMP_NOW % 2 ^ 8 ∧
        (d.cal = { s.dev.cal with pend := setImgBytes (setImgNum (setImgValid s.dev.cal.held s.dev.calKind s.dev.calUnit) 4 (offsetBase s.dev.calKind s.dev.calUnit) (unsgn 32 offset)) (codeBase s.dev.calKind s.dev.calUnit) ((widthsOf s.dev.cal.now.pos).zipIdx.map (fun (x : Int × Nat) => widthByte s.dev.freeCtr x.2 x.1)), first := none, now := {}, fit := none, left := [] })
        ∧ (s.dev.calKind = 0 ∧ s.dev.coreClosed s.dev.calUnit = false → d.get F.LOOP_STAT_HOLD s.dev.calUnit = 1) ∧
        (s.dev.calKind = 3 ∧ s.dev.coreClosed s.dev.calUnit = false → d.get F.LOOP_STAT_STATE s.dev.calUnit = 1 ∧
        d.get F.LOOP_STAT_LOCK s.dev.calUnit = 0) ∧ d.get F.CAL_STAT_BUSY = 0 ∧ d.get F.CAL_STAT_RUN = 0 ∧
        d.get F.CAL_STAT_CODE = 1 ∧ d.get F.CAL_EVT_DONE = 1)) ∧
    (∀ (s : State) (readings : List (Int × Nat)) (offset : Int) (a : CalRun),
      s.Running →
      s.dev.calBusy = true →
      s.dev.calKind ≤ 2 →
      s.dev.get F.CAL_STAT_RUN = 3 →
      readingCount readings = 65536 →
      offset = divRound (readingSum (readings.map (fun (x : Int × Nat) => (meanTime s.dev.calKind s.dev.cal.now.pos x.1,
        x.2)))) 65536 →
      s.dev.calFail s.dev.calKind s.dev.calUnit false = none →
      decide (999 * 65536 ≤ 1000 * readingsNear 512 (readings.map (fun (x : Int × Nat) => (meanTime s.dev.calKind
        s.dev.cal.now.pos x.1, x.2)))) = true →
      (s.dev.calKind != 2 || decide ((64000 : Int) ≤ offset + s.dev.cal.now.pos.getD 1023 0)) = true →
      s.dev.cal.first = some a →
      agreed s.dev.calKind a { s.dev.cal.now with offset := offset } = false →
      Answers (.calRunDone (.mean readings)) s (fun d => d.get F.CAL_OFFSET_OFFSET = unsgn 32 offset ∧
        d.get F.CAL_RESULT_AGREE_PCT = min 255 (disagreement s.dev.calKind a { s.dev.cal.now with offset := offset }) ∧
        d.cal = { s.dev.cal with first := none, now := {}, fit := none, left := [] } ∧ (s.dev.calKind = 0 ∧
        s.dev.coreClosed s.dev.calUnit = false → d.get F.LOOP_STAT_HOLD s.dev.calUnit = 1) ∧ (s.dev.calKind = 3 ∧
        s.dev.coreClosed s.dev.calUnit = false → d.get F.LOOP_STAT_STATE s.dev.calUnit = 1 ∧
        d.get F.LOOP_STAT_LOCK s.dev.calUnit = 0) ∧ d.get F.CAL_STAT_BUSY = 0 ∧ d.get F.CAL_STAT_RUN = 0 ∧
        d.get F.CAL_STAT_CODE = 0x15 ∧ d.get F.CAL_EVT_FAILED = 1)) ∧
    (∀ (s : State) (readings : List (Int × Nat)) (offset : Int) (c : Nat),
      s.Running →
      s.dev.calBusy = true →
      s.dev.calKind ≤ 2 →
      s.dev.get F.CAL_STAT_RUN = 3 →
      readingCount readings = 65536 →
      offset = divRound (readingSum (readings.map (fun (x : Int × Nat) => (meanTime s.dev.calKind s.dev.cal.now.pos x.1,
        x.2)))) 65536 →
      ((s.dev.calFail s.dev.calKind s.dev.calUnit false).isSome =
        true ∨ decide (999 * 65536 ≤ 1000 * readingsNear 512 (readings.map (fun (x : Int × Nat) => (meanTime s.dev.calKind
        s.dev.cal.now.pos x.1, x.2)))) = false ∨ (s.dev.calKind != 2 || decide ((64000 : Int) ≤ offset + s.dev.cal.now.pos.getD
        1023 0)) = false) →
      c = (match s.dev.calFail s.dev.calKind s.dev.calUnit false with | some x => x | none => (if (!decide (999 * 65536 ≤ 1000
        * readingsNear 512 (readings.map (fun (x : Int × Nat) => (meanTime s.dev.calKind s.dev.cal.now.pos x.1,
        x.2))))) then 0x14 else 0x16)) →
      Answers (.calRunDone (.mean readings)) s (fun d => d.get F.CAL_OFFSET_OFFSET = unsgn 32 offset ∧
        d.cal = { s.dev.cal with first := none, now := {}, fit := none, left := [] } ∧ (s.dev.calKind = 0 ∧
        s.dev.coreClosed s.dev.calUnit = false → d.get F.LOOP_STAT_HOLD s.dev.calUnit = 1) ∧ (s.dev.calKind = 3 ∧
        s.dev.coreClosed s.dev.calUnit = false → d.get F.LOOP_STAT_STATE s.dev.calUnit = 1 ∧
        d.get F.LOOP_STAT_LOCK s.dev.calUnit = 0) ∧ d.get F.CAL_STAT_BUSY = 0 ∧ d.get F.CAL_STAT_RUN = 0 ∧
        d.get F.CAL_STAT_CODE = c % 2 ^ 8 ∧ d.get F.CAL_EVT_FAILED = 1)) ∧
    (∀ (s : State) (ones : List (List Nat)),
      s.Running →
      s.dev.calBusy = true →
      s.dev.calKind = 4 →
      ones.length = 16 →
      ones.all (fun (l : List Nat) => l.length == 9) = true →
      s.dev.calFail s.dev.calKind s.dev.calUnit false = none →
      ones.all (fun (l : List Nat) => halfOnes (l.getD 8 0)) = true →
      (ones.map (fun (l : List Nat) => searchTrim 8 0 (l.take 8))).all (fun (t : Nat) => t != 0 && t != 255) = true →
      s.dev.cal.first = none →
      Does (.calRunDone (.trims ones)) s [.cal] ([F.CAL_STAT_RUN.key 0])
        (fun d => d.get F.CAL_STAT_RUN = 2 ∧ (d.cal =
          { s.dev.cal with first := some ({ trims := (ones.map (fun (l : List Nat) => searchTrim 8 0 (l.take 8))) } : CalRun), now := {} })))
          ∧
    (∀ (s : State) (ones : List (List Nat)) (a : CalRun),
      s.Running →
      s.dev.calBusy = true →
      s.dev.calKind = 4 →
      ones.length = 16 →
      ones.all (fun (l : List Nat) => l.length == 9) = true →
      s.dev.calFail s.dev.calKind s.dev.calUnit false = none →
      ones.all (fun (l : List Nat) => halfOnes (l.getD 8 0)) = true →
      (ones.map (fun (l : List Nat) => searchTrim 8 0 (l.take 8))).all (fun (t : Nat) => t != 0 && t != 255) = true →
      s.dev.cal.applyAt.all (fun (p : Pound) => decide (s.dev.tow.pound.toNat < p.toNat)) = true →
      s.dev.cal.first = some a →
      agreed 4 a ({ trims := (ones.map (fun (l : List Nat) => searchTrim 8 0 (l.take 8))) } : CalRun) = true →
      Does (.calRunDone (.trims ones)) s [.cal, .freeCtr] ([F.CAL_RESULT_AGREE_PCT.key 0, F.CAL_TEMP_LAST_RUN.key 0,
        F.CAL_STAT_CODE.key 0, F.CAL_STAT_BUSY.key 0, F.CAL_STAT_RUN.key 0] ++ evKeys F.CAL_EVT_DONE 0)
        (fun d => (d.get F.CAL_RESULT_AGREE_PCT = min 255 (disagreement 4 a
          ({ trims := (ones.map (fun (l : List Nat) => searchTrim 8 0 (l.take 8))) } : CalRun))) ∧
          d.get F.CAL_TEMP_LAST_RUN = s.dev.get F.SYS_TEMP_NOW % 2 ^ 8 ∧
          (d.cal = { s.dev.cal with pend := setImgBytes (setImgValid s.dev.cal.held 4 s.dev.calUnit) (codeBase 4 s.dev.calUnit) (ones.map (fun (l : List Nat) => searchTrim 8 0 (l.take 8))), first := none, now := {}, fit := none, left := [] })
          ∧ d.get F.CAL_STAT_BUSY = 0 ∧ d.get F.CAL_STAT_RUN = 0 ∧ d.get F.CAL_STAT_CODE = 1 ∧ d.get F.CAL_EVT_DONE = 1)) ∧
    (∀ (s : State) (ones : List (List Nat)) (a : CalRun),
      s.Running →
      s.dev.calBusy = true →
      s.dev.calKind = 4 →
      ones.length = 16 →
      ones.all (fun (l : List Nat) => l.length == 9) = true →
      s.dev.calFail s.dev.calKind s.dev.calUnit false = none →
      ones.all (fun (l : List Nat) => halfOnes (l.getD 8 0)) = true →
      (ones.map (fun (l : List Nat) => searchTrim 8 0 (l.take 8))).all (fun (t : Nat) => t != 0 && t != 255) = true →
      s.dev.cal.first = some a →
      agreed 4 a ({ trims := (ones.map (fun (l : List Nat) => searchTrim 8 0 (l.take 8))) } : CalRun) = false →
      Does (.calRunDone (.trims ones)) s [.cal] ([F.CAL_RESULT_AGREE_PCT.key 0, F.CAL_STAT_CODE.key 0, F.CAL_STAT_BUSY.key 0,
        F.CAL_STAT_RUN.key 0] ++ evKeys F.CAL_EVT_FAILED 0)
        (fun d => (d.get F.CAL_RESULT_AGREE_PCT = min 255 (disagreement 4 a
          ({ trims := (ones.map (fun (l : List Nat) => searchTrim 8 0 (l.take 8))) } : CalRun))) ∧
          d.cal = { s.dev.cal with first := none, now := {}, fit := none, left := [] } ∧ d.get F.CAL_STAT_BUSY = 0 ∧
          d.get F.CAL_STAT_RUN = 0 ∧ d.get F.CAL_STAT_CODE = 0x15 ∧ d.get F.CAL_EVT_FAILED = 1)) ∧
    (∀ (s : State) (ones : List (List Nat)) (c : Nat),
      s.Running →
      s.dev.calBusy = true →
      s.dev.calKind = 4 →
      ones.length = 16 →
      ones.all (fun (l : List Nat) => l.length == 9) = true →
      ((s.dev.calFail s.dev.calKind s.dev.calUnit false).isSome =
        true ∨ ones.all (fun (l : List Nat) => halfOnes (l.getD 8 0)) =
        false ∨ (ones.map (fun (l : List Nat) => searchTrim 8 0 (l.take 8))).all (fun (t : Nat) => t != 0 && t != 255) =
        false) →
      c = (match s.dev.calFail s.dev.calKind s.dev.calUnit false with | some x => x | none => (if (!ones.all (fun (l : List
        Nat) => halfOnes (l.getD 8 0))) then 0x14 else 0x16)) →
      Does (.calRunDone (.trims ones)) s [.cal] ([F.CAL_STAT_CODE.key 0, F.CAL_STAT_BUSY.key 0,
        F.CAL_STAT_RUN.key 0] ++ evKeys F.CAL_EVT_FAILED 0)
        (fun d => d.cal = { s.dev.cal with first := none, now := {}, fit := none, left := [] } ∧ d.get F.CAL_STAT_BUSY = 0 ∧
          d.get F.CAL_STAT_RUN = 0 ∧ d.get F.CAL_STAT_CODE = c % 2 ^ 8 ∧ d.get F.CAL_EVT_FAILED = 1)) ∧
    (∀ (s : State) (readings : List (Nat × Nat)) (b : BandFit),
      s.Running →
      s.dev.calBusy = true →
      s.dev.calKind = 3 →
      s.dev.locked s.dev.calUnit = true →
      readingCount readings = 4096 →
      s.dev.cal.fit = some (b, .tunes) →
      s.dev.calFail s.dev.calKind s.dev.calUnit false = none →
      readingsNear 8 (readings.map (fun (x : Nat × Nat) => ((x.1 : Int), x.2))) = 4096 →
      Answers (.calRunDone (.tunes readings)) s (fun d => (d.cal =
        { s.dev.cal with fit := some ({ b with band := s.dev.get F.LOOP_STAT_BAND s.dev.calUnit, tune := (divRound (readingSum (readings.map (fun (x : Nat × Nat) => ((x.1 : Int), x.2)))) 4096).toNat, temp := s.dev.get F.SYS_TEMP_NOW }, .lo) })))
        ∧
    (∀ (s : State) (readings : List (Nat × Nat)) (b : BandFit) (c : Nat),
      s.Running →
      s.dev.calBusy = true →
      s.dev.calKind = 3 →
      s.dev.locked s.dev.calUnit = true →
      readingCount readings = 4096 →
      s.dev.cal.fit = some (b, .tunes) →
      ((s.dev.calFail s.dev.calKind s.dev.calUnit false).isSome =
        true ∨ readingsNear 8 (readings.map (fun (x : Nat × Nat) => ((x.1 : Int), x.2))) ≠ 4096) →
      c = (match s.dev.calFail s.dev.calKind s.dev.calUnit false with | some x => x | none => 0x14) →
      Answers (.calRunDone (.tunes readings)) s (fun d => d.cal =
        { s.dev.cal with first := none, now := {}, fit := none, left := [] } ∧ d.get F.CAL_STAT_BUSY = 0 ∧
        d.get F.CAL_STAT_RUN = 0 ∧ d.get F.CAL_STAT_CODE = c % 2 ^ 8 ∧ d.get F.CAL_EVT_FAILED = 1)) ∧
    (∀ (s : State) (b : BandFit) (p : FitPhase),
      s.Running →
      s.dev.calBusy = true →
      s.dev.calKind = 3 →
      s.dev.cal.fit = some (b, p) →
      p ≠ .tunes →
      (s.dev.is F.LOOP_STAT_ALIGNED s.dev.calUnit && !(s.dev.core s.dev.calUnit).slow) = true →
      s.dev.calFail s.dev.calKind s.dev.calUnit false = none →
      p = .lo →
      Answers (.calRunDone .preset) s (fun d => d.cal = { s.dev.cal with fit := some (b, .hi) })) ∧
    (∀ (s : State) (b : BandFit) (p : FitPhase) (e : Nat) (rest : List Nat),
      s.Running →
      s.dev.calBusy = true →
      s.dev.calKind = 3 →
      s.dev.cal.fit = some (b, p) →
      p ≠ .tunes →
      (s.dev.is F.LOOP_STAT_ALIGNED s.dev.calUnit && !(s.dev.core s.dev.calUnit).slow) = true →
      s.dev.calFail s.dev.calKind s.dev.calUnit false = none →
      p = .hi →
      s.dev.cal.left = e :: rest →
      Answers (.calRunDone .preset) s (fun d => d.cal =
        { s.dev.cal with now := { s.dev.cal.now with fits := s.dev.cal.now.fits ++ [b] }, fit := some ({ entry := e }, .tunes), left := rest }
        ∧ d.get F.LOOP_STAT_BAND_SEARCH s.dev.calUnit = 1)) ∧
    (∀ (s : State) (b : BandFit) (p : FitPhase),
      s.Running →
      s.dev.calBusy = true →
      s.dev.calKind = 3 →
      s.dev.cal.fit = some (b, p) →
      p ≠ .tunes →
      (s.dev.is F.LOOP_STAT_ALIGNED s.dev.calUnit && !(s.dev.core s.dev.calUnit).slow) = true →
      s.dev.calFail s.dev.calKind s.dev.calUnit false = none →
      p = .hi →
      s.dev.cal.left = [] →
      s.dev.cal.first = none →
      Answers (.calRunDone .preset) s (fun d => d.get F.CAL_STAT_RUN = 2 ∧
        d.cal.first = (some { s.dev.cal.now with fits := s.dev.cal.now.fits ++ [b] } : Option CalRun) ∧
        d.cal.now = ({} : CalRun))) ∧
    (∀ (s : State) (b : BandFit) (p : FitPhase) (a : CalRun),
      s.Running →
      s.dev.calBusy = true →
      s.dev.calKind = 3 →
      s.dev.cal.fit = some (b, p) →
      p ≠ .tunes →
      (s.dev.is F.LOOP_STAT_ALIGNED s.dev.calUnit && !(s.dev.core s.dev.calUnit).slow) = true →
      s.dev.calFail s.dev.calKind s.dev.calUnit false = none →
      p = .hi →
      s.dev.cal.left = [] →
      s.dev.cal.first = some a →
      s.dev.cal.applyAt.all (fun (p : Pound) => decide (s.dev.tow.pound.toNat < p.toNat)) = true →
      agreed 3 a ({ s.dev.cal.now with fits := s.dev.cal.now.fits ++ [b] } : CalRun) = true →
      Answers (.calRunDone .preset) s (fun d => d.get F.CAL_RESULT_AGREE_PCT =
        min 255 (disagreement 3 a ({ s.dev.cal.now with fits := s.dev.cal.now.fits ++ [b] } : CalRun)) ∧
        d.get F.CAL_TEMP_LAST_RUN = s.dev.get F.SYS_TEMP_NOW % 2 ^ 8 ∧
        (d.cal = { s.dev.cal with pend := forEach (s.dev.cal.now.fits ++ [b]) (fun (x : BandFit) (m : Image) => forEach (List.range 4) (fun (w : Nat) (m : Image) => setImgNum m 4 (bandBase s.dev.calUnit x.entry w) (if w = 0 then setBits (setBits (s.dev.bandWord s.dev.calUnit x.entry 0) 29 22 x.band) 21 10 x.tune else if w = 3 then setBits (s.dev.bandWord s.dev.calUnit x.entry 3) 31 24 x.temp else s.dev.bandWord s.dev.calUnit x.entry w)) m) (forEach (List.range 64) (fun (e : Nat) (m : Image) => setImgNum m 4 (bandBase s.dev.calUnit e 0) 0) (setImgValid s.dev.cal.held 3 s.dev.calUnit)), first := none, now := {}, fit := none, left := [] })
        ∧ (s.dev.calKind = 0 ∧ s.dev.coreClosed s.dev.calUnit = false → d.get F.LOOP_STAT_HOLD s.dev.calUnit = 1) ∧
        (s.dev.calKind = 3 ∧ s.dev.coreClosed s.dev.calUnit = false → d.get F.LOOP_STAT_STATE s.dev.calUnit = 1 ∧
        d.get F.LOOP_STAT_LOCK s.dev.calUnit = 0) ∧ d.get F.CAL_STAT_BUSY = 0 ∧ d.get F.CAL_STAT_RUN = 0 ∧
        d.get F.CAL_STAT_CODE = 1 ∧ d.get F.CAL_EVT_DONE = 1)) ∧
    (∀ (s : State) (b : BandFit) (p : FitPhase) (a : CalRun),
      s.Running →
      s.dev.calBusy = true →
      s.dev.calKind = 3 →
      s.dev.cal.fit = some (b, p) →
      p ≠ .tunes →
      (s.dev.is F.LOOP_STAT_ALIGNED s.dev.calUnit && !(s.dev.core s.dev.calUnit).slow) = true →
      s.dev.calFail s.dev.calKind s.dev.calUnit false = none →
      p = .hi →
      s.dev.cal.left = [] →
      s.dev.cal.first = some a →
      agreed 3 a ({ s.dev.cal.now with fits := s.dev.cal.now.fits ++ [b] } : CalRun) = false →
      Answers (.calRunDone .preset) s (fun d => d.get F.CAL_RESULT_AGREE_PCT =
        min 255 (disagreement 3 a ({ s.dev.cal.now with fits := s.dev.cal.now.fits ++ [b] } : CalRun)) ∧
        d.cal = { s.dev.cal with first := none, now := {}, fit := none, left := [] } ∧ (s.dev.calKind = 0 ∧
        s.dev.coreClosed s.dev.calUnit = false → d.get F.LOOP_STAT_HOLD s.dev.calUnit = 1) ∧ (s.dev.calKind = 3 ∧
        s.dev.coreClosed s.dev.calUnit = false → d.get F.LOOP_STAT_STATE s.dev.calUnit = 1 ∧
        d.get F.LOOP_STAT_LOCK s.dev.calUnit = 0) ∧ d.get F.CAL_STAT_BUSY = 0 ∧ d.get F.CAL_STAT_RUN = 0 ∧
        d.get F.CAL_STAT_CODE = 0x15 ∧ d.get F.CAL_EVT_FAILED = 1)) ∧
    (∀ (s : State) (b : BandFit) (p : FitPhase) (c : Nat),
      s.Running →
      s.dev.calBusy = true →
      s.dev.calKind = 3 →
      s.dev.cal.fit = some (b, p) →
      p ≠ .tunes →
      (s.dev.is F.LOOP_STAT_ALIGNED s.dev.calUnit && !(s.dev.core s.dev.calUnit).slow) = false →
      ((s.dev.core s.dev.calUnit).slow || decide (s.dev.get F.COUT_RETUNE_CFG_RETUNE_LIMIT ≤ (s.dev.core
        s.dev.calUnit).sinceLoad)) = true →
      c = (match s.dev.calFail s.dev.calKind s.dev.calUnit false with | some x => x | none => 0x16) →
      Answers (.calRunDone .preset) s (fun d => d.cal = { s.dev.cal with first := none, now := {}, fit := none, left := [] } ∧
        d.get F.CAL_STAT_BUSY = 0 ∧ d.get F.CAL_STAT_RUN = 0 ∧ d.get F.CAL_STAT_CODE = c % 2 ^ 8 ∧
        d.get F.CAL_EVT_FAILED = 1)) ∧
    (∀ (s : State) (b : BandFit) (p : FitPhase),
      s.Running →
      s.dev.calBusy = true →
      s.dev.calKind = 3 →
      s.dev.cal.fit = some (b, p) →
      p ≠ .tunes →
      (s.dev.is F.LOOP_STAT_ALIGNED s.dev.calUnit && !(s.dev.core s.dev.calUnit).slow) = false →
      ((s.dev.core s.dev.calUnit).slow || decide (s.dev.get F.COUT_RETUNE_CFG_RETUNE_LIMIT ≤ (s.dev.core
        s.dev.calUnit).sinceLoad)) = false →
      Idles (.calRunDone .preset) s) ∧
    (∀ (s : State) (p : CalPart),
      s.Running →
      s.dev.calBusy = false →
      Idles (.calRunDone p) s)

/-- DISCARD clears every pending result. An apply requested for a pound two or more ahead,
  with the pounds running and no store busy, is pending with APPLY_RESULT 1; any other is refused with 3. At its boundary every
  pending unit is valid in force, none stays pending, the image has a new check word,
  and APPLIED is set: a monitor takes its offset and begins its average again,
  the measurements in progress on the wharves of a quad go on with the image they began under,
  the delay line of an open output walks to the tap that its new table selects, a band-map entry of an open core whose VALID,
  TANK and ratios still stand takes BAND, TUNE and TEMP_CAL while another is stale,
  and a lane keeps its trims for its next attempt. A store asked of a running Keeper is refused with 2 while an apply is
  pending or a store busy, with 6 where the port is closed or absent, and else begins,
  at once unless the host owns the port; its end sets its code, the copy it wrote and the event,
  the image in force with its new number and temperature; where neither try reads back good, or the flash does not respond,
  the store fails with its code, event and record. Choices of the model on which this rests: log entries 6, 8, 11, 15, 34, 51,
  96, 98, 102, 106, 142 and 143. -/
def Obligations.CalibrationApply : Prop :=
  (∀ (s : State) (v : Word),
      s.Running →
      ((!s.dev.kpr.restarting && s.dev.is F.KPR_STAT_RUNNING) && (s.dev.is F.CAL_CMD_STORE || s.dev.is F.CAL_CMD_GO)) = false →
      s.dev.cal.applyAt.all (fun (p : Pound) => decide (s.dev.tow.pound.toNat < p.toNat)) = true →
      Does (.calDiscard v) s [.cal] ([F.CAL_CMD_KIND.key 0, F.CAL_CMD_UNIT.key 0])
        (fun d => d.get F.CAL_CMD_KIND = bits v.toNat 10 8 ∧ d.get F.CAL_CMD_UNIT = bits v.toNat 7 0 ∧
          d.cal = { s.dev.cal with pend := {} })) ∧
    (∀ (s : State) (v : Word) (p : Pound),
      s.Running →
      s.dev.cal.applyAt.all (fun (p : Pound) => decide (s.dev.tow.pound.toNat < p.toNat)) = true →
      p = BitVec.ofNat 64 (s.dev.get F.CAL_APPLY_POUND_HI_POUND * 2 ^ 32 + s.dev.get F.CAL_APPLY_POUND_LO_POUND) →
      s.dev.tow.running = true →
      s.dev.storeBusy = false →
      s.dev.tow.pound.toNat + 2 ≤ p.toNat →
      Does (.calApplyRequest v) s [.cal] ([F.CAL_APPLY_GO.key 0, F.CAL_APPLY_APPLY_RESULT.key 0])
        (fun d => d.cal = { s.dev.cal with applyAt := some p } ∧ d.get F.CAL_APPLY_GO = 1 ∧
          d.get F.CAL_APPLY_APPLY_RESULT = 1)) ∧
    (∀ (s : State) (v : Word) (p : Pound),
      s.Running →
      s.dev.cal.applyAt.all (fun (p : Pound) => decide (s.dev.tow.pound.toNat < p.toNat)) = true →
      p = BitVec.ofNat 64 (s.dev.get F.CAL_APPLY_POUND_HI_POUND * 2 ^ 32 + s.dev.get F.CAL_APPLY_POUND_LO_POUND) →
      (p.toNat < s.dev.tow.pound.toNat + 2 ∨ s.dev.tow.running = false ∨ s.dev.storeBusy = true) →
      Does (.calApplyRequest v) s [.cal] ([F.CAL_APPLY_GO.key 0, F.CAL_APPLY_APPLY_RESULT.key 0] ++
        evKeys F.CAL_EVT_APPLY_REFUSED 0)
        (fun d => d.cal = { s.dev.cal with applyAt := none } ∧ d.get F.CAL_APPLY_GO = 0 ∧ d.get F.CAL_APPLY_APPLY_RESULT = 3 ∧
          d.get F.CAL_EVT_APPLY_REFUSED = 1)) ∧
    (∀ (s : State) (p : Pound),
      s.Running →
      s.dev.cal.applyAt = some p →
      p.toNat ≤ s.dev.tow.pound.toNat →
      Answers .calApply s (fun d => d.get F.CAL_APPLY_GO = 0 ∧ d.get F.CAL_APPLY_APPLY_RESULT = 2 ∧
        d.get F.CAL_EVT_APPLIED = 1 ∧ d.cal.pend = (if s.dev.calPending = [] then s.dev.cal.pend else {}) ∧
        d.cal.applyAt = none ∧ (∀ x ∈ s.dev.calPending, imgValid d.cal.inForce x.1 x.2 = true))) ∧
    (∀ (s : State) (p : Pound),
      s.Running →
      s.dev.cal.applyAt = some p →
      p.toNat ≤ s.dev.tow.pound.toNat →
      s.dev.calPending = [] →
      Does .calApply s [.cal] ([F.CAL_APPLY_GO.key 0, F.CAL_APPLY_APPLY_RESULT.key 0] ++ evKeys F.CAL_EVT_APPLIED 0)
        (fun d => d.get F.CAL_APPLY_GO = 0 ∧ d.get F.CAL_APPLY_APPLY_RESULT = 2 ∧ d.get F.CAL_EVT_APPLIED = 1 ∧
          d.cal = { s.dev.cal with applyAt := none })) ∧
    (∀ (s : State) (p : Pound) (u : Byte),
      s.Running →
      s.dev.cal.applyAt = some p →
      p.toNat ≤ s.dev.tow.pound.toNat →
      s.dev.calPending = [(4, u.toNat)] →
      Does .calApply s [.cal] ([F.CAL_APPLY_GO.key 0, F.CAL_APPLY_APPLY_RESULT.key 0] ++ evKeys F.CAL_EVT_APPLIED 0)
        (fun d => d.get F.CAL_APPLY_GO = 0 ∧ d.get F.CAL_APPLY_APPLY_RESULT = 2 ∧ d.get F.CAL_EVT_APPLIED = 1 ∧
          d.cal = { s.dev.cal with pend := {}, applyAt := none, inForce := sealImg (setImgBytes (setImgValid s.dev.cal.inForce 4 u.toNat) (codeBase 4 u.toNat) ((range (codeBase 4 u.toNat) (codeBase 4 u.toNat + 16)).map (imgByte s.dev.cal.pend))) }))
          ∧
    (∀ (s : State) (p : Pound) (c : Fin 16),
      s.Running →
      s.dev.cal.applyAt = some p →
      p.toNat ≤ s.dev.tow.pound.toNat →
      s.dev.calPending = [(0, c.val)] →
      s.dev.coreClosed c.val = false →
      Does .calApply s [.cal, .cores] ([F.CAL_APPLY_GO.key 0, F.CAL_APPLY_APPLY_RESULT.key 0] ++ evKeys F.CAL_EVT_APPLIED 0 ++
        [F.LOOP_MON_OFFSET_OFFSET.key c.val])
        (fun d => d.get F.CAL_APPLY_GO = 0 ∧ d.get F.CAL_APPLY_APPLY_RESULT = 2 ∧ d.get F.CAL_EVT_APPLIED = 1 ∧
          d.cal = { s.dev.cal with pend := {}, applyAt := none, inForce := sealImg (setImgBytes (setImgBytes (setImgValid s.dev.cal.inForce 0 c.val) (offsetBase 0 c.val) ((range (offsetBase 0 c.val) (offsetBase 0 c.val + 4)).map (imgByte s.dev.cal.held))) (codeBase 0 c.val) ((range (codeBase 0 c.val) (codeBase 0 c.val + codeCount 0)).map (imgByte s.dev.cal.held))) }
          ∧ d.get F.LOOP_MON_OFFSET_OFFSET c.val = unsgn 16 (divRound (imgInt s.dev.cal.held (offsetBase 0 c.val)) 4) ∧
          (d.cores = (s.dev.onCore c.val (fun k => { k with avgSum := 0, avgCount := 0 })).cores))) ∧
    (∀ (s : State) (p : Pound) (q : Fin 64),
      s.Running →
      s.dev.cal.applyAt = some p →
      p.toNat ≤ s.dev.tow.pound.toNat →
      s.dev.calPending = [(1, q.val)] →
      Does .calApply s [.cal, .tow] ([F.CAL_APPLY_GO.key 0, F.CAL_APPLY_APPLY_RESULT.key 0] ++ evKeys F.CAL_EVT_APPLIED 0)
        (fun d => d.get F.CAL_APPLY_GO = 0 ∧ d.get F.CAL_APPLY_APPLY_RESULT = 2 ∧ d.get F.CAL_EVT_APPLIED = 1 ∧
          d.cal = { s.dev.cal with pend := {}, applyAt := none, inForce := sealImg (setImgBytes (setImgBytes (setImgValid s.dev.cal.inForce 1 q.val) (offsetBase 1 q.val) ((range (offsetBase 1 q.val) (offsetBase 1 q.val + 4)).map (imgByte s.dev.cal.held))) (codeBase 1 q.val) ((range (codeBase 1 q.val) (codeBase 1 q.val + codeCount 1)).map (imgByte s.dev.cal.held))) }
          ∧ ((range (4 * q.val) (4 * q.val + 4)).all (fun (h : Nat) => !(s.dev.wharfOf h == h && s.dev.wharfUp h) ||
          (d.towWharf h).stamp == some ((s.dev.towWharf h).stamp.getD s.dev.cal.inForce)) = true) ∧
          d.tow = { s.dev.tow with wharf := d.tow.wharf })) ∧
    (∀ (s : State) (p : Pound) (o : Fin 32),
      s.Running →
      s.dev.cal.applyAt = some p →
      p.toNat ≤ s.dev.tow.pound.toNat →
      s.dev.calPending = [(2, o.val)] →
      s.dev.outputClosed o.val = false →
      Does .calApply s [.cal, .outputs] ([F.CAL_APPLY_GO.key 0, F.CAL_APPLY_APPLY_RESULT.key 0] ++
        evKeys F.CAL_EVT_APPLIED 0 ++ [F.COUT_STAT_WALKING.key o.val])
        (fun d => d.get F.CAL_APPLY_GO = 0 ∧ d.get F.CAL_APPLY_APPLY_RESULT = 2 ∧ d.get F.CAL_EVT_APPLIED = 1 ∧
          d.cal = { s.dev.cal with pend := {}, applyAt := none, inForce := sealImg (setImgBytes (setImgBytes (setImgValid s.dev.cal.inForce 2 o.val) (offsetBase 2 o.val) ((range (offsetBase 2 o.val) (offsetBase 2 o.val + 4)).map (imgByte s.dev.cal.held))) (codeBase 2 o.val) ((range (codeBase 2 o.val) (codeBase 2 o.val + codeCount 2)).map (imgByte s.dev.cal.held))) }
          ∧ d.get F.COUT_STAT_WALKING o.val = 1 ∧ (d.outputs = (s.dev.onOutput o.val (fun x =>
          { x with walkTo := some (nearestTap (16 * s.dev.delayOf o.val : Nat) (Cal.tapDelays s.dev.cal.held o.val)), walkAsked := false, walkDue := false })).outputs)))
          ∧
    (∀ (s : State) (p : Pound) (c : Fin 16) (e : Fin 64),
      s.Running →
      s.dev.cal.applyAt = some p →
      p.toNat ≤ s.dev.tow.pound.toNat →
      s.dev.calPending = [(3, c.val)] →
      s.dev.coreClosed c.val = false →
      Does .calApply s [.cal, .bandMap] ([F.CAL_APPLY_GO.key 0, F.CAL_APPLY_APPLY_RESULT.key 0] ++
        evKeys F.CAL_EVT_APPLIED 0 ++ evKeys F.CAL_EVT_STALE)
        (fun d => d.get F.CAL_APPLY_GO = 0 ∧ d.get F.CAL_APPLY_APPLY_RESULT = 2 ∧ d.get F.CAL_EVT_APPLIED = 1 ∧
          (if bit (imgNum s.dev.cal.held 4 (bandBase c.val e.val 0)) 31 && s.dev.bandSame s.dev.cal.held c.val e.val then
          d.bandWord c.val e.val 0 = setBits (s.dev.bandWord c.val e.val 0) 29 10 (bits (imgNum s.dev.cal.held 4 (bandBase
          c.val e.val 0)) 29 10) ∧ d.bandWord c.val e.val 3 = setBits (s.dev.bandWord c.val e.val 3) 31 24 (bits (imgNum
          s.dev.cal.held 4 (bandBase c.val e.val 3)) 31 24) else d.bandWord c.val e.val 0 = s.dev.bandWord c.val e.val 0 ∧
          d.bandWord c.val e.val 3 = s.dev.bandWord c.val e.val 3) ∧
          (bit (imgNum s.dev.cal.held 4 (bandBase c.val e.val 0)) 31 = true ∧
          s.dev.bandSame s.dev.cal.held c.val e.val = false → d.get F.CAL_EVT_STALE = 1) ∧
          d.bandWord c.val e.val 1 = s.dev.bandWord c.val e.val 1 ∧ d.bandWord c.val e.val 2 = s.dev.bandWord c.val e.val 2 ∧
          d.cal.pend = {} ∧ imgValid d.cal.inForce 3 c.val = true)) ∧
    (∀ (s : State),
      s.Running →
      s.dev.cal.applyAt.all (fun p => decide (s.dev.tow.pound.toNat < p.toNat)) = true →
      Idles .calApply s) ∧
    (∀ (s : State) (v : Word),
      s.Running →
      (!s.dev.kpr.restarting && s.dev.is F.KPR_STAT_RUNNING) = true →
      s.dev.cal.applyAt.all (fun (p : Pound) => decide (s.dev.tow.pound.toNat < p.toNat)) = true →
      s.dev.is F.CAL_CMD_GO = false →
      (s.dev.cal.applyAt.isSome || s.dev.storeBusy) = false →
      (s.dev.nvsOpen && !s.dev.noFlash) = true →
      s.dev.nvsOwned = false →
      Does (.calStore v) s [.cal] ([F.CAL_CMD_KIND.key 0, F.CAL_CMD_UNIT.key 0, F.CAL_CMD_STORE.key 0,
        F.CAL_STORE_STAT_STORE_BUSY.key 0, F.CAL_STORE_STAT_STORE_CODE.key 0, F.NVS_STAT_KEEPER_ACTIVE.key 0])
        (fun d => d.get F.CAL_CMD_KIND = bits v.toNat 10 8 ∧ d.get F.CAL_CMD_UNIT = bits v.toNat 7 0 ∧
          d.get F.CAL_STORE_STAT_STORE_BUSY = 1 ∧ d.get F.NVS_STAT_KEEPER_ACTIVE = 1 ∧ d.get F.CAL_CMD_STORE = 0 ∧
          d.get F.CAL_STORE_STAT_STORE_CODE = s.dev.get F.CAL_STORE_STAT_STORE_CODE ∧
          d.cal = { s.dev.cal with storeTemp := s.dev.get F.SYS_TEMP_NOW })) ∧
    (∀ (s : State) (v : Word),
      s.Running →
      (!s.dev.kpr.restarting && s.dev.is F.KPR_STAT_RUNNING) = true →
      s.dev.cal.applyAt.all (fun (p : Pound) => decide (s.dev.tow.pound.toNat < p.toNat)) = true →
      s.dev.is F.CAL_CMD_GO = false →
      (s.dev.cal.applyAt.isSome || s.dev.storeBusy) = false →
      (s.dev.nvsOpen && !s.dev.noFlash) = true →
      s.dev.nvsOwned = true →
      Does (.calStore v) s [] ([F.CAL_CMD_KIND.key 0, F.CAL_CMD_UNIT.key 0, F.CAL_CMD_STORE.key 0,
        F.CAL_STORE_STAT_STORE_BUSY.key 0])
        (fun d => d.get F.CAL_CMD_KIND = bits v.toNat 10 8 ∧ d.get F.CAL_CMD_UNIT = bits v.toNat 7 0 ∧
          d.get F.CAL_STORE_STAT_STORE_BUSY = 1 ∧ d.get F.NVS_STAT_KEEPER_ACTIVE = s.dev.get F.NVS_STAT_KEEPER_ACTIVE ∧
          d.get F.CAL_CMD_STORE = 0)) ∧
    (∀ (s : State) (v : Word),
      s.Running →
      (!s.dev.kpr.restarting && s.dev.is F.KPR_STAT_RUNNING) = true →
      s.dev.cal.applyAt.all (fun (p : Pound) => decide (s.dev.tow.pound.toNat < p.toNat)) = true →
      s.dev.is F.CAL_CMD_GO = false →
      (s.dev.cal.applyAt.isSome || s.dev.storeBusy) = true →
      Does (.calStore v) s [] ([F.CAL_CMD_KIND.key 0, F.CAL_CMD_UNIT.key 0, F.CAL_CMD_STORE.key 0,
        F.CAL_STORE_STAT_STORE_CODE.key 0])
        (fun d => d.get F.CAL_CMD_KIND = bits v.toNat 10 8 ∧ d.get F.CAL_CMD_UNIT = bits v.toNat 7 0 ∧
          d.get F.CAL_STORE_STAT_STORE_CODE = 2 ∧ d.get F.CAL_CMD_STORE = 0)) ∧
    (∀ (s : State) (v : Word),
      s.Running →
      (!s.dev.kpr.restarting && s.dev.is F.KPR_STAT_RUNNING) = true →
      s.dev.cal.applyAt.all (fun (p : Pound) => decide (s.dev.tow.pound.toNat < p.toNat)) = true →
      s.dev.is F.CAL_CMD_GO = false →
      (s.dev.cal.applyAt.isSome || s.dev.storeBusy) = false →
      (s.dev.nvsOpen && !s.dev.noFlash) = false →
      Does (.calStore v) s [] ([F.CAL_CMD_KIND.key 0, F.CAL_CMD_UNIT.key 0, F.CAL_CMD_STORE.key 0,
        F.CAL_STORE_STAT_STORE_CODE.key 0])
        (fun d => d.get F.CAL_CMD_KIND = bits v.toNat 10 8 ∧ d.get F.CAL_CMD_UNIT = bits v.toNat 7 0 ∧
          d.get F.CAL_STORE_STAT_STORE_CODE = 6 ∧ d.get F.CAL_CMD_STORE = 0)) ∧
    (∀ (s : State) (v : Word),
      s.Running →
      (!s.dev.kpr.restarting && s.dev.is F.KPR_STAT_RUNNING) = false →
      s.dev.cal.applyAt.all (fun (p : Pound) => decide (s.dev.tow.pound.toNat < p.toNat)) = true →
      Does (.calStore v) s [] ([F.CAL_CMD_KIND.key 0, F.CAL_CMD_UNIT.key 0, F.CAL_CMD_STORE.key 0])
        (fun d => d.get F.CAL_CMD_KIND = bits v.toNat 10 8 ∧ d.get F.CAL_CMD_UNIT = bits v.toNat 7 0 ∧
          d.get F.CAL_CMD_STORE = 1)) ∧
    (∀ (s : State) (a b back again : List (Nat × Byte)),
      s.Running →
      s.dev.storeBusy = true →
      s.dev.is F.NVS_STAT_KEEPER_ACTIVE = true →
      Does (.calStoreDone (.written a b back again)) s [.cal, .flt, .nvs] (reportKeys ++ ([F.CAL_STORE_STAT_STORE_CODE.key 0,
        F.CAL_STORE_STAT_STORE_BUSY.key 0, F.NVS_STAT_KEEPER_ACTIVE.key 0,
        F.CAL_STORE_STAT_LAST_STORE.key 0] ++ evKeys F.CAL_EVT_STORED 0 ++ evKeys F.CAL_EVT_STORE_FAIL 0 ++ reportKeys))
        (fun d => d.get F.CAL_STORE_STAT_STORE_BUSY = 0 ∧ d.get F.NVS_STAT_KEEPER_ACTIVE = 0 ∧
          (if (imgGood (copyStore back) || imgGood (copyStore again)) = true then d.get F.CAL_STORE_STAT_STORE_CODE = 1 ∧
          d.get F.CAL_STORE_STAT_LAST_STORE = (storeTarget (copySeq (copyStore a)) (copySeq (copyStore b))).1 ∧
          d.get F.CAL_EVT_STORED = 1 ∧ d.cal =
          { s.dev.cal with inForce := storeImage s.dev.cal.inForce (storeTarget (copySeq (copyStore a)) (copySeq (copyStore b))).2 s.dev.cal.storeTemp }
          ∧ d.flt = s.dev.flt else d.get F.CAL_STORE_STAT_STORE_CODE = 4 ∧ d.get F.CAL_EVT_STORE_FAIL = 1 ∧ d.cal = s.dev.cal ∧
          s.dev.Reported d 11 0 1 0) ∧ d.nvs =
          { s.dev.nvs with keeper := List.replicate (if imgGood (copyStore back) then 1 else 2) (FlashSeq.store (storeTarget (copySeq (copyStore a)) (copySeq (copyStore b))).1 (storeImage s.dev.cal.inForce (storeTarget (copySeq (copyStore a)) (copySeq (copyStore b))).2 s.dev.cal.storeTemp)) }))
          ∧
    (∀ (s : State),
      s.Running →
      s.dev.storeBusy = true →
      s.dev.is F.NVS_STAT_KEEPER_ACTIVE = true →
      Does (.calStoreDone .noResponse) s [.flt] (reportKeys ++ ([F.CAL_STORE_STAT_STORE_CODE.key 0,
        F.CAL_STORE_STAT_STORE_BUSY.key 0, F.NVS_STAT_KEEPER_ACTIVE.key 0] ++ evKeys F.CAL_EVT_STORE_FAIL 0))
        (fun d => d.get F.CAL_STORE_STAT_STORE_BUSY = 0 ∧ d.get F.NVS_STAT_KEEPER_ACTIVE = 0 ∧
          d.get F.CAL_STORE_STAT_STORE_CODE = 3 ∧ d.get F.CAL_EVT_STORE_FAIL = 1 ∧ s.dev.Reported d 11 0 1 0)) ∧
    (∀ (s : State) (r : StoreResult),
      s.Running →
      (s.dev.storeBusy = false ∨ s.dev.is F.NVS_STAT_KEEPER_ACTIVE = false) →
      Idles (.calStoreDone r) s)

/-- While the Towpath runs a boundary opens the next pound, 0 at the first, and the boundaries passed are counted,
  unless it completes the start-up with phase 3 writes of the boot configuration to make; a boundary of a Towpath that does not
  run changes nothing. It commits every executed command: its entry stands in its Berth and every other Berth keeps its cell,
  no command is in flight after it, each is counted as applied and yields its effect record, with CODE 0,
  its GEN and the new pound, its loads fall due and its Barge stands in its slot of the frame that its lane sends. A coarse
  step that may change the count opens the pound it aims at instead,
  with JUMPED and its distance shown: no Berth write commits, every command accepted and not committed is rejected and counted
  late but for FILL and FENCE, strobe programs are disarmed, prepared hops are cancelled, and a pending LOOP_APPLY,
  swap or CAL_APPLY that now comes too late is refused. Either answers a next state whatever the start-up does. Choices of the
  model on which this rests: log entries 7, 11, 39, 52, 53, 57, 58, 59, 60, 81, 82, 93, 96, 107, 112, 113, 116, 125 and 147. -/
def Obligations.PoundBoundary : Prop :=
  (∀ (s : State) (raw dith merged : List Nat),
      s.Running →
      s.dev.tow.running = true →
      (s.dev.coarseNow && (s.dev.atStep 6 || s.dev.atStep 7) && s.dev.boot.entries.any (fun e => e.phase == 3)) = false →
      Answers (.poundBoundary raw dith merged) s (fun d => d.tow.pound = s.dev.nextPound ∧ d.tow.ticks = s.dev.tow.ticks + 1)) ∧
    (∀ (s : State) (raw dith merged : List Nat),
      s.Running →
      s.dev.tow.running = true →
      Answers (.poundBoundary raw dith merged) s (fun d => d.boot.powerOn = s.dev.boot.powerOn)) ∧
    (∀ (s : State) (raw dith merged : List Nat),
      s.Running →
      s.dev.tow.running = false →
      Idles (.poundBoundary raw dith merged) s) ∧
    (∀ (s : State) (raw dith merged : List Nat) (b : Nat),
      s.Running →
      s.dev.tow.running = true →
      s.dev.coarseNow = false →
      Answers (.poundBoundary raw dith merged) s (fun d => d.eng.flights = [] ∧
        (s.dev.eng.flights.all (fun (f : Flight) => f.berth != b) = true → d.cell b = s.dev.cell b))) ∧
    (∀ (s : State) (raw dith merged : List Nat),
      s.Running →
      s.dev.tow.running = true →
      s.dev.coarseNow = false →
      s.dev.eng.flights.all (fun (f : Flight) => f.barge?.all (fun (b : Barge) => !(s.dev.wharf b.wharf).resetDue &&
        !s.dev.downDue b.wharf && !(s.dev.lane b.lane).failed)) = true →
      (s.dev.eng.flights.map (fun (f : Flight) => f.berth)).Nodup →
      Answers (.poundBoundary raw dith merged) s (fun d => (s.dev.eng.flights.all (fun (f : Flight) => f.entry?.all (fun (x :
        Entry) => d.cell f.berth == ({ entry := x } : Cell))) = true))) ∧
    (∀ (s : State) (raw dith merged : List Nat) (k : Fin 4),
      s.Running →
      s.dev.tow.running = true →
      s.dev.coarseNow = false →
      s.dev.eng.flights.all (fun (f : Flight) => f.barge?.all (fun (b : Barge) => !(s.dev.wharf b.wharf).resetDue &&
        !s.dev.downDue b.wharf && !(s.dev.lane b.lane).failed)) = true →
      s.dev.eng.flights.all (fun (f : Flight) => !f.fill) = true →
      s.dev.eng.holds = [] →
      Answers (.poundBoundary raw dith merged) s (fun d => (d.eng.counts k).applied =
        (s.dev.eng.counts k).applied + ofSource k (s.dev.eng.flights.map (fun (f : Flight) => f.cmd)) ∧
        (d.eng.counts k).pending = (s.dev.eng.counts k).pending - ofSource k (s.dev.eng.flights.map (fun (f : Flight) =>
        f.cmd)))) ∧
    (∀ (s : State) (raw dith merged : List Nat) (f : Flight) (x : Entry),
      s.Running →
      s.dev.tow.running = true →
      s.dev.coarseNow = false →
      s.dev.eng.flights = [f] →
      f.barge?.all (fun (b : Barge) => !(s.dev.wharf b.wharf).resetDue && !s.dev.downDue b.wharf && !(s.dev.lane
        b.lane).failed) = true →
      f.fill = false →
      f.entry? = some x →
      s.dev.eng.holds = [] →
      Answers (.poundBoundary raw dith merged) s (fun d => Device.Logged
        ({ s.dev with flt := { s.dev.flt with loggedThisPound := 0 }, tow := { s.dev.tow with pound := s.dev.nextPound } }) d
        f.cmd 0 x.gen)) ∧
    (∀ (s : State) (raw dith merged : List Nat) (f : Flight) (x : Entry) (l : List Load),
      s.Running →
      s.dev.tow.running = true →
      s.dev.coarseNow = false →
      s.dev.eng.flights = [f] →
      f.barge?.all (fun (b : Barge) => !(s.dev.wharf b.wharf).resetDue && !s.dev.downDue b.wharf && !(s.dev.lane
        b.lane).failed) = true →
      f.fill = false →
      f.entry? = some x →
      f.act = .loads l →
      Answers (.poundBoundary raw dith merged) s (fun d => d.loads = s.dev.loads ++ l.map s.dev.withPreset)) ∧
    (∀ (s : State) (raw dith merged : List Nat) (f : Flight) (x : Entry) (k : Nat) (t : Pound) (l : Load),
      s.Running →
      s.dev.tow.running = true →
      s.dev.coarseNow = false →
      s.dev.eng.flights = [f] →
      f.barge?.all (fun (b : Barge) => !(s.dev.wharf b.wharf).resetDue && !s.dev.downDue b.wharf && !(s.dev.lane
        b.lane).failed) = true →
      f.fill = false →
      f.entry? = some x →
      f.act = .hop k t l →
      k < 8 →
      Answers (.poundBoundary raw dith merged) s (fun d => d.loads = s.dev.loads ++
        [s.dev.withPreset { l with t := s.dev.nextPound }] ∧ d.get F.COUT_HOP_POUND_T_LO k = bits t.toNat 31 0)) ∧
    (∀ (s : State) (raw dith merged : List Nat) (f : Flight) (x : Entry) (b : Barge),
      s.Running →
      s.dev.tow.running = true →
      s.dev.coarseNow = false →
      s.dev.eng.flights = [f] →
      f.barge?.all (fun (b : Barge) => !(s.dev.wharf b.wharf).resetDue && !s.dev.downDue b.wharf && !(s.dev.lane
        b.lane).failed) = true →
      f.fill = false →
      f.entry? = some x →
      f.barge? = some b →
      b.slot ≤ 1 →
      s.dev.openLanes.contains b.lane = true →
      s.dev.laneState b.lane = 7 →
      (s.dev.wharf (s.dev.wharfOf b.lane)).towpath = false →
      (s.dev.wharf (s.dev.wharfOf b.lane)).resetDue = false →
      s.dev.downDue (s.dev.wharfOf b.lane) = false →
      Answers (.poundBoundary raw dith merged) s (fun d => ((d.lane b.lane).frame.any (fun (z : BitVec 256) => frameP8 z ==
        s.dev.nextPound.toNat % 256 && (if b.slot = 0 then frameSlot0 z else frameSlot1 z) == b.bits) = true))) ∧
    (∀ (s : State) (raw dith merged : List Nat) (n : Pound),
      s.Running →
      s.dev.tow.running = true →
      s.dev.coarseNow = true →
      s.dev.mayJump = true →
      s.dev.coarseTarget = some n →
      ((s.dev.atStep 6 || s.dev.atStep 7) && s.dev.boot.entries.any (fun e => e.phase == 3)) = false →
      Answers (.poundJump raw dith merged) s (fun d => d.tow.pound = n ∧ d.tow.ticks = s.dev.tow.ticks + 1 ∧
        d.get F.TOW_EVT_JUMPED = 1 ∧ d.get F.TOW_JUMP_J = unsgnSat 32 ((n.toNat : Int) - s.dev.tow.pound.toNat - 1))) ∧
    (∀ (s : State) (raw dith merged : List Nat) (n : Pound) (k : Fin 4),
      s.Running →
      s.dev.tow.running = true →
      s.dev.coarseNow = true →
      s.dev.mayJump = true →
      s.dev.coarseTarget = some n →
      ((s.dev.atStep 6 || s.dev.atStep 7) && s.dev.boot.entries.any (fun e => e.phase == 3)) = false →
      s.dev.eng.flights.all (fun (f : Flight) => f.barge?.isNone) = true →
      Answers (.poundJump raw dith merged) s (fun d => (d.eng.counts k).late =
        (s.dev.eng.counts k).late + ofSource k (((s.dev.eng.flights.filter (fun (f : Flight) => !f.fill)).map (fun (f : Flight)
        => f.cmd)) ++ (List.range 64).flatMap (fun (e : Nat) => (s.dev.engine e).slice.filter (fun (c : Cmd) => !cmdNoTarget
        c.w1) ++ (s.dev.engine e).hand.toList) ++ s.dev.eng.hcq.filter (fun (c : Cmd) => !cmdNoTarget c.w1) ++
        s.dev.dec.actq.filter (fun (c : Cmd) => !cmdNoTarget c.w1) ++
        s.dev.dec.deferred.filter (fun (c : Cmd) => !cmdNoTarget c.w1) ++
        s.dev.eng.kpq.filter (fun (c : Cmd) => !cmdNoTarget c.w1)))) ∧
    (∀ (s : State) (raw dith merged : List Nat) (n : Pound) (b : Nat) (e : Fin 64),
      s.Running →
      s.dev.tow.running = true →
      s.dev.coarseNow = true →
      s.dev.mayJump = true →
      s.dev.coarseTarget = some n →
      ((s.dev.atStep 6 || s.dev.atStep 7) && s.dev.boot.entries.any (fun e => e.phase == 3)) = false →
      Answers (.poundJump raw dith merged) s (fun d => d.eng.flights = [] ∧ d.cell b = s.dev.cell b ∧
        (d.eng.hcq.all (fun (c : Cmd) => cmdNoTarget c.w1) = true) ∧
        (d.eng.kpq.all (fun (c : Cmd) => cmdNoTarget c.w1) = true) ∧
        (d.dec.actq.all (fun (c : Cmd) => cmdNoTarget c.w1) = true) ∧
        (d.dec.deferred.all (fun (c : Cmd) => cmdNoTarget c.w1) = true) ∧
        ((d.engine e.val).slice.all (fun (c : Cmd) => cmdNoTarget c.w1) = true) ∧ (d.engine e.val).hand = none)) ∧
    (∀ (s : State) (raw dith merged : List Nat) (n : Pound) (o : Fin 32) (k : Fin 8),
      s.Running →
      s.dev.tow.running = true →
      s.dev.coarseNow = true →
      s.dev.mayJump = true →
      s.dev.coarseTarget = some n →
      ((s.dev.atStep 6 || s.dev.atStep 7) && s.dev.boot.entries.any (fun e => e.phase == 3)) = false →
      Answers (.poundJump raw dith merged) s (fun d => (d.output o.val).program = none ∧ (d.twin k.val).hop = none ∧
        ((s.dev.twin k.val).hop.isSome = true → bit (d.get F.COUT_HOP_EVT_CANCELLED) k.val = true))) ∧
    (∀ (s : State) (raw dith merged : List Nat) (n p : Pound) (c : Fin 16),
      s.Running →
      s.dev.tow.running = true →
      s.dev.coarseNow = true →
      s.dev.mayJump = true →
      s.dev.coarseTarget = some n →
      ((s.dev.atStep 6 || s.dev.atStep 7) && s.dev.boot.entries.any (fun e => e.phase == 3)) = false →
      (s.dev.core c.val).applyAt = some p →
      s.dev.get F.LOOP_APPLY_AT_POUND c.val ≠ 0 →
      p.toNat < n.toNat + 2 →
      Answers (.poundJump raw dith merged) s (fun d => d.get F.LOOP_APPLY_RESULT c.val = 8 ∧ d.get F.LOOP_APPLY_GO c.val = 0 ∧
        (d.core c.val).applyAt = none)) ∧
    (∀ (s : State) (raw dith merged : List Nat) (n p : Pound) (k : Fin 8),
      s.Running →
      s.dev.tow.running = true →
      s.dev.coarseNow = true →
      s.dev.mayJump = true →
      s.dev.coarseTarget = some n →
      ((s.dev.atStep 6 || s.dev.atStep 7) && s.dev.boot.entries.any (fun e => e.phase == 3)) = false →
      (s.dev.twin k.val).swapAt = some p →
      p.toNat < n.toNat + 2 →
      Answers (.poundJump raw dith merged) s (fun d => d.get F.COUT_TWIN_SWAP_SWAP_RESULT = 2 ∧ d.get F.COUT_TWIN_SWAP_GO = 0 ∧
        (d.twin k.val).swapAt = none)) ∧
    (∀ (s : State) (raw dith merged : List Nat) (n p : Pound),
      s.Running →
      s.dev.tow.running = true →
      s.dev.coarseNow = true →
      s.dev.mayJump = true →
      s.dev.coarseTarget = some n →
      ((s.dev.atStep 6 || s.dev.atStep 7) && s.dev.boot.entries.any (fun e => e.phase == 3)) = false →
      s.dev.cal.applyAt = some p →
      p.toNat < n.toNat + 2 →
      Answers (.poundJump raw dith merged) s (fun d => d.get F.CAL_APPLY_APPLY_RESULT = 3 ∧ d.get F.CAL_APPLY_GO = 0 ∧
        d.get F.CAL_EVT_APPLY_REFUSED = 1 ∧ d.cal.applyAt = none)) ∧
    (∀ (s : State) (raw dith merged : List Nat) (n : Pound),
      s.Running →
      s.dev.tow.running = true →
      s.dev.coarseNow = true →
      s.dev.mayJump = true →
      s.dev.coarseTarget = some n →
      Answers (.poundJump raw dith merged) s (fun d => d.boot.powerOn = s.dev.boot.powerOn)) ∧
    (∀ (s : State) (raw dith merged : List Nat),
      s.Running →
      (s.dev.tow.running = false ∨ s.dev.coarseNow = false ∨ s.dev.mayJump = false ∨ s.dev.coarseTarget = none) →
      Idles (.poundJump raw dith merged) s)
end

