-- ==== Sys2Proof/Laws/State.lean ====
section
/-! SUPPORT. What each named update of the device changes and what it leaves, part by part. -/

namespace Sys2Proof.Machine

variable (d : Device)

/-! ### put -/

@[simp] theorem Device.put_fields (f : Fld) (i v : Nat) :
    (d.put f i v).fields = Store.put d.fields (f.reset i) (f.key i) (v % 2 ^ f.width) := rfl
@[simp] theorem Device.put_epoch (f : Fld) (i v : Nat) : (d.put f i v).epoch = d.epoch := rfl
@[simp] theorem Device.put_freeCtr (f : Fld) (i v : Nat) : (d.put f i v).freeCtr = d.freeCtr := rfl
@[simp] theorem Device.put_boot (f : Fld) (i v : Nat) : (d.put f i v).boot = d.boot := rfl
@[simp] theorem Device.put_clk (f : Fld) (i v : Nat) : (d.put f i v).clk = d.clk := rfl
@[simp] theorem Device.put_flt (f : Fld) (i v : Nat) : (d.put f i v).flt = d.flt := rfl
@[simp] theorem Device.put_cores (f : Fld) (i v : Nat) : (d.put f i v).cores = d.cores := rfl
@[simp] theorem Device.put_twins (f : Fld) (i v : Nat) : (d.put f i v).twins = d.twins := rfl
@[simp] theorem Device.put_outputs (f : Fld) (i v : Nat) : (d.put f i v).outputs = d.outputs := rfl
@[simp] theorem Device.put_bandMap (f : Fld) (i v : Nat) : (d.put f i v).bandMap = d.bandMap := rfl
@[simp] theorem Device.put_bandEpoch (f : Fld) (i v : Nat) : (d.put f i v).bandEpoch = d.bandEpoch := rfl
@[simp] theorem Device.put_loads (f : Fld) (i v : Nat) : (d.put f i v).loads = d.loads := rfl
@[simp] theorem Device.put_ledger (f : Fld) (i v : Nat) : (d.put f i v).ledger = d.ledger := rfl
@[simp] theorem Device.put_eng (f : Fld) (i v : Nat) : (d.put f i v).eng = d.eng := rfl
@[simp] theorem Device.put_dec (f : Fld) (i v : Nat) : (d.put f i v).dec = d.dec := rfl
@[simp] theorem Device.put_whf (f : Fld) (i v : Nat) : (d.put f i v).whf = d.whf := rfl
@[simp] theorem Device.put_tow (f : Fld) (i v : Nat) : (d.put f i v).tow = d.tow := rfl
@[simp] theorem Device.put_tpt (f : Fld) (i v : Nat) : (d.put f i v).tpt = d.tpt := rfl
@[simp] theorem Device.put_cal (f : Fld) (i v : Nat) : (d.put f i v).cal = d.cal := rfl
@[simp] theorem Device.put_hsp (f : Fld) (i v : Nat) : (d.put f i v).hsp = d.hsp := rfl
@[simp] theorem Device.put_nvs (f : Fld) (i v : Nat) : (d.put f i v).nvs = d.nvs := rfl
@[simp] theorem Device.put_bus (f : Fld) (i v : Nat) : (d.put f i v).bus = d.bus := rfl
@[simp] theorem Device.put_mbx (f : Fld) (i v : Nat) : (d.put f i v).mbx = d.mbx := rfl
@[simp] theorem Device.put_kpr (f : Fld) (i v : Nat) : (d.put f i v).kpr = d.kpr := rfl

/-! ### setCore -/

@[simp] theorem Device.setCore_fields (c : Nat) (k : Core) : (d.setCore c k).fields = d.fields := rfl
@[simp] theorem Device.setCore_epoch (c : Nat) (k : Core) : (d.setCore c k).epoch = d.epoch := rfl
@[simp] theorem Device.setCore_freeCtr (c : Nat) (k : Core) : (d.setCore c k).freeCtr = d.freeCtr := rfl
@[simp] theorem Device.setCore_boot (c : Nat) (k : Core) : (d.setCore c k).boot = d.boot := rfl
@[simp] theorem Device.setCore_clk (c : Nat) (k : Core) : (d.setCore c k).clk = d.clk := rfl
@[simp] theorem Device.setCore_flt (c : Nat) (k : Core) : (d.setCore c k).flt = d.flt := rfl
@[simp] theorem Device.setCore_cores (c : Nat) (k : Core) :
    (d.setCore c k).cores = Store.put d.cores {} c k := rfl
@[simp] theorem Device.setCore_twins (c : Nat) (k : Core) : (d.setCore c k).twins = d.twins := rfl
@[simp] theorem Device.setCore_outputs (c : Nat) (k : Core) : (d.setCore c k).outputs = d.outputs := rfl
@[simp] theorem Device.setCore_bandMap (c : Nat) (k : Core) : (d.setCore c k).bandMap = d.bandMap := rfl
@[simp] theorem Device.setCore_bandEpoch (c : Nat) (k : Core) : (d.setCore c k).bandEpoch = d.bandEpoch := rfl
@[simp] theorem Device.setCore_loads (c : Nat) (k : Core) : (d.setCore c k).loads = d.loads := rfl
@[simp] theorem Device.setCore_ledger (c : Nat) (k : Core) : (d.setCore c k).ledger = d.ledger := rfl
@[simp] theorem Device.setCore_eng (c : Nat) (k : Core) : (d.setCore c k).eng = d.eng := rfl
@[simp] theorem Device.setCore_dec (c : Nat) (k : Core) : (d.setCore c k).dec = d.dec := rfl
@[simp] theorem Device.setCore_whf (c : Nat) (k : Core) : (d.setCore c k).whf = d.whf := rfl
@[simp] theorem Device.setCore_tow (c : Nat) (k : Core) : (d.setCore c k).tow = d.tow := rfl
@[simp] theorem Device.setCore_tpt (c : Nat) (k : Core) : (d.setCore c k).tpt = d.tpt := rfl
@[simp] theorem Device.setCore_cal (c : Nat) (k : Core) : (d.setCore c k).cal = d.cal := rfl
@[simp] theorem Device.setCore_hsp (c : Nat) (k : Core) : (d.setCore c k).hsp = d.hsp := rfl
@[simp] theorem Device.setCore_nvs (c : Nat) (k : Core) : (d.setCore c k).nvs = d.nvs := rfl
@[simp] theorem Device.setCore_bus (c : Nat) (k : Core) : (d.setCore c k).bus = d.bus := rfl
@[simp] theorem Device.setCore_mbx (c : Nat) (k : Core) : (d.setCore c k).mbx = d.mbx := rfl
@[simp] theorem Device.setCore_kpr (c : Nat) (k : Core) : (d.setCore c k).kpr = d.kpr := rfl

/-! ### onCore -/

@[simp] theorem Device.onCore_fields (c : Nat) (f : Core → Core) : (d.onCore c f).fields = d.fields := rfl
@[simp] theorem Device.onCore_epoch (c : Nat) (f : Core → Core) : (d.onCore c f).epoch = d.epoch := rfl
@[simp] theorem Device.onCore_freeCtr (c : Nat) (f : Core → Core) : (d.onCore c f).freeCtr = d.freeCtr := rfl
@[simp] theorem Device.onCore_boot (c : Nat) (f : Core → Core) : (d.onCore c f).boot = d.boot := rfl
@[simp] theorem Device.onCore_clk (c : Nat) (f : Core → Core) : (d.onCore c f).clk = d.clk := rfl
@[simp] theorem Device.onCore_flt (c : Nat) (f : Core → Core) : (d.onCore c f).flt = d.flt := rfl
@[simp] theorem Device.onCore_cores (c : Nat) (f : Core → Core) :
    (d.onCore c f).cores = Store.put d.cores {} c (f (d.core c)) := rfl
@[simp] theorem Device.onCore_twins (c : Nat) (f : Core → Core) : (d.onCore c f).twins = d.twins := rfl
@[simp] theorem Device.onCore_outputs (c : Nat) (f : Core → Core) : (d.onCore c f).outputs = d.outputs := rfl
@[simp] theorem Device.onCore_bandMap (c : Nat) (f : Core → Core) : (d.onCore c f).bandMap = d.bandMap := rfl
@[simp] theorem Device.onCore_bandEpoch (c : Nat) (f : Core → Core) : (d.onCore c f).bandEpoch = d.bandEpoch := rfl
@[simp] theorem Device.onCore_loads (c : Nat) (f : Core → Core) : (d.onCore c f).loads = d.loads := rfl
@[simp] theorem Device.onCore_ledger (c : Nat) (f : Core → Core) : (d.onCore c f).ledger = d.ledger := rfl
@[simp] theorem Device.onCore_eng (c : Nat) (f : Core → Core) : (d.onCore c f).eng = d.eng := rfl
@[simp] theorem Device.onCore_dec (c : Nat) (f : Core → Core) : (d.onCore c f).dec = d.dec := rfl
@[simp] theorem Device.onCore_whf (c : Nat) (f : Core → Core) : (d.onCore c f).whf = d.whf := rfl
@[simp] theorem Device.onCore_tow (c : Nat) (f : Core → Core) : (d.onCore c f).tow = d.tow := rfl
@[simp] theorem Device.onCore_tpt (c : Nat) (f : Core → Core) : (d.onCore c f).tpt = d.tpt := rfl
@[simp] theorem Device.onCore_cal (c : Nat) (f : Core → Core) : (d.onCore c f).cal = d.cal := rfl
@[simp] theorem Device.onCore_hsp (c : Nat) (f : Core → Core) : (d.onCore c f).hsp = d.hsp := rfl
@[simp] theorem Device.onCore_nvs (c : Nat) (f : Core → Core) : (d.onCore c f).nvs = d.nvs := rfl
@[simp] theorem Device.onCore_bus (c : Nat) (f : Core → Core) : (d.onCore c f).bus = d.bus := rfl
@[simp] theorem Device.onCore_mbx (c : Nat) (f : Core → Core) : (d.onCore c f).mbx = d.mbx := rfl
@[simp] theorem Device.onCore_kpr (c : Nat) (f : Core → Core) : (d.onCore c f).kpr = d.kpr := rfl

/-! ### setTwin -/

@[simp] theorem Device.setTwin_fields (k : Nat) (t : Twin) : (d.setTwin k t).fields = d.fields := rfl
@[simp] theorem Device.setTwin_epoch (k : Nat) (t : Twin) : (d.setTwin k t).epoch = d.epoch := rfl
@[simp] theorem Device.setTwin_freeCtr (k : Nat) (t : Twin) : (d.setTwin k t).freeCtr = d.freeCtr := rfl
@[simp] theorem Device.setTwin_boot (k : Nat) (t : Twin) : (d.setTwin k t).boot = d.boot := rfl
@[simp] theorem Device.setTwin_clk (k : Nat) (t : Twin) : (d.setTwin k t).clk = d.clk := rfl
@[simp] theorem Device.setTwin_flt (k : Nat) (t : Twin) : (d.setTwin k t).flt = d.flt := rfl
@[simp] theorem Device.setTwin_cores (k : Nat) (t : Twin) : (d.setTwin k t).cores = d.cores := rfl
@[simp] theorem Device.setTwin_twins (k : Nat) (t : Twin) :
    (d.setTwin k t).twins = Store.put d.twins {} k t := rfl
@[simp] theorem Device.setTwin_outputs (k : Nat) (t : Twin) : (d.setTwin k t).outputs = d.outputs := rfl
@[simp] theorem Device.setTwin_bandMap (k : Nat) (t : Twin) : (d.setTwin k t).bandMap = d.bandMap := rfl
@[simp] theorem Device.setTwin_bandEpoch (k : Nat) (t : Twin) : (d.setTwin k t).bandEpoch = d.bandEpoch := rfl
@[simp] theorem Device.setTwin_loads (k : Nat) (t : Twin) : (d.setTwin k t).loads = d.loads := rfl
@[simp] theorem Device.setTwin_ledger (k : Nat) (t : Twin) : (d.setTwin k t).ledger = d.ledger := rfl
@[simp] theorem Device.setTwin_eng (k : Nat) (t : Twin) : (d.setTwin k t).eng = d.eng := rfl
@[simp] theorem Device.setTwin_dec (k : Nat) (t : Twin) : (d.setTwin k t).dec = d.dec := rfl
@[simp] theorem Device.setTwin_whf (k : Nat) (t : Twin) : (d.setTwin k t).whf = d.whf := rfl
@[simp] theorem Device.setTwin_tow (k : Nat) (t : Twin) : (d.setTwin k t).tow = d.tow := rfl
@[simp] theorem Device.setTwin_tpt (k : Nat) (t : Twin) : (d.setTwin k t).tpt = d.tpt := rfl
@[simp] theorem Device.setTwin_cal (k : Nat) (t : Twin) : (d.setTwin k t).cal = d.cal := rfl
@[simp] theorem Device.setTwin_hsp (k : Nat) (t : Twin) : (d.setTwin k t).hsp = d.hsp := rfl
@[simp] theorem Device.setTwin_nvs (k : Nat) (t : Twin) : (d.setTwin k t).nvs = d.nvs := rfl
@[simp] theorem Device.setTwin_bus (k : Nat) (t : Twin) : (d.setTwin k t).bus = d.bus := rfl
@[simp] theorem Device.setTwin_mbx (k : Nat) (t : Twin) : (d.setTwin k t).mbx = d.mbx := rfl
@[simp] theorem Device.setTwin_kpr (k : Nat) (t : Twin) : (d.setTwin k t).kpr = d.kpr := rfl

/-! ### onOutput -/

@[simp] theorem Device.onOutput_fields (n : Nat) (f : Output → Output) : (d.onOutput n f).fields = d.fields := rfl
@[simp] theorem Device.onOutput_epoch (n : Nat) (f : Output → Output) : (d.onOutput n f).epoch = d.epoch := rfl
@[simp] theorem Device.onOutput_freeCtr (n : Nat) (f : Output → Output) : (d.onOutput n f).freeCtr = d.freeCtr := rfl
@[simp] theorem Device.onOutput_boot (n : Nat) (f : Output → Output) : (d.onOutput n f).boot = d.boot := rfl
@[simp] theorem Device.onOutput_clk (n : Nat) (f : Output → Output) : (d.onOutput n f).clk = d.clk := rfl
@[simp] theorem Device.onOutput_flt (n : Nat) (f : Output → Output) : (d.onOutput n f).flt = d.flt := rfl
@[simp] theorem Device.onOutput_cores (n : Nat) (f : Output → Output) : (d.onOutput n f).cores = d.cores := rfl
@[simp] theorem Device.onOutput_twins (n : Nat) (f : Output → Output) : (d.onOutput n f).twins = d.twins := rfl
@[simp] theorem Device.onOutput_bandMap (n : Nat) (f : Output → Output) : (d.onOutput n f).bandMap = d.bandMap := rfl
@[simp] theorem Device.onOutput_bandEpoch (n : Nat) (f : Output → Output) : (d.onOutput n f).bandEpoch = d.bandEpoch := rfl
@[simp] theorem Device.onOutput_loads (n : Nat) (f : Output → Output) : (d.onOutput n f).loads = d.loads := rfl
@[simp] theorem Device.onOutput_ledger (n : Nat) (f : Output → Output) : (d.onOutput n f).ledger = d.ledger := rfl
@[simp] theorem Device.onOutput_eng (n : Nat) (f : Output → Output) : (d.onOutput n f).eng = d.eng := rfl
@[simp] theorem Device.onOutput_dec (n : Nat) (f : Output → Output) : (d.onOutput n f).dec = d.dec := rfl
@[simp] theorem Device.onOutput_whf (n : Nat) (f : Output → Output) : (d.onOutput n f).whf = d.whf := rfl
@[simp] theorem Device.onOutput_tow (n : Nat) (f : Output → Output) : (d.onOutput n f).tow = d.tow := rfl
@[simp] theorem Device.onOutput_tpt (n : Nat) (f : Output → Output) : (d.onOutput n f).tpt = d.tpt := rfl
@[simp] theorem Device.onOutput_cal (n : Nat) (f : Output → Output) : (d.onOutput n f).cal = d.cal := rfl
@[simp] theorem Device.onOutput_hsp (n : Nat) (f : Output → Output) : (d.onOutput n f).hsp = d.hsp := rfl
@[simp] theorem Device.onOutput_nvs (n : Nat) (f : Output → Output) : (d.onOutput n f).nvs = d.nvs := rfl
@[simp] theorem Device.onOutput_bus (n : Nat) (f : Output → Output) : (d.onOutput n f).bus = d.bus := rfl
@[simp] theorem Device.onOutput_mbx (n : Nat) (f : Output → Output) : (d.onOutput n f).mbx = d.mbx := rfl
@[simp] theorem Device.onOutput_kpr (n : Nat) (f : Output → Output) : (d.onOutput n f).kpr = d.kpr := rfl

/-! ### setEngine -/

@[simp] theorem Device.setEngine_fields (e : Nat) (x : Engine) : (d.setEngine e x).fields = d.fields := rfl
@[simp] theorem Device.setEngine_epoch (e : Nat) (x : Engine) : (d.setEngine e x).epoch = d.epoch := rfl
@[simp] theorem Device.setEngine_freeCtr (e : Nat) (x : Engine) : (d.setEngine e x).freeCtr = d.freeCtr := rfl
@[simp] theorem Device.setEngine_boot (e : Nat) (x : Engine) : (d.setEngine e x).boot = d.boot := rfl
@[simp] theorem Device.setEngine_clk (e : Nat) (x : Engine) : (d.setEngine e x).clk = d.clk := rfl
@[simp] theorem Device.setEngine_flt (e : Nat) (x : Engine) : (d.setEngine e x).flt = d.flt := rfl
@[simp] theorem Device.setEngine_cores (e : Nat) (x : Engine) : (d.setEngine e x).cores = d.cores := rfl
@[simp] theorem Device.setEngine_twins (e : Nat) (x : Engine) : (d.setEngine e x).twins = d.twins := rfl
@[simp] theorem Device.setEngine_outputs (e : Nat) (x : Engine) : (d.setEngine e x).outputs = d.outputs := rfl
@[simp] theorem Device.setEngine_bandMap (e : Nat) (x : Engine) : (d.setEngine e x).bandMap = d.bandMap := rfl
@[simp] theorem Device.setEngine_bandEpoch (e : Nat) (x : Engine) : (d.setEngine e x).bandEpoch = d.bandEpoch := rfl
@[simp] theorem Device.setEngine_loads (e : Nat) (x : Engine) : (d.setEngine e x).loads = d.loads := rfl
@[simp] theorem Device.setEngine_ledger (e : Nat) (x : Engine) : (d.setEngine e x).ledger = d.ledger := rfl
@[simp] theorem Device.setEngine_eng (e : Nat) (x : Engine) :
    (d.setEngine e x).eng = { d.eng with engine := Store.put d.eng.engine {} e x } := rfl
@[simp] theorem Device.setEngine_dec (e : Nat) (x : Engine) : (d.setEngine e x).dec = d.dec := rfl
@[simp] theorem Device.setEngine_whf (e : Nat) (x : Engine) : (d.setEngine e x).whf = d.whf := rfl
@[simp] theorem Device.setEngine_tow (e : Nat) (x : Engine) : (d.setEngine e x).tow = d.tow := rfl
@[simp] theorem Device.setEngine_tpt (e : Nat) (x : Engine) : (d.setEngine e x).tpt = d.tpt := rfl
@[simp] theorem Device.setEngine_cal (e : Nat) (x : Engine) : (d.setEngine e x).cal = d.cal := rfl
@[simp] theorem Device.setEngine_hsp (e : Nat) (x : Engine) : (d.setEngine e x).hsp = d.hsp := rfl
@[simp] theorem Device.setEngine_nvs (e : Nat) (x : Engine) : (d.setEngine e x).nvs = d.nvs := rfl
@[simp] theorem Device.setEngine_bus (e : Nat) (x : Engine) : (d.setEngine e x).bus = d.bus := rfl
@[simp] theorem Device.setEngine_mbx (e : Nat) (x : Engine) : (d.setEngine e x).mbx = d.mbx := rfl
@[simp] theorem Device.setEngine_kpr (e : Nat) (x : Engine) : (d.setEngine e x).kpr = d.kpr := rfl

/-! ### onEngine -/

@[simp] theorem Device.onEngine_fields (e : Nat) (f : Engine → Engine) : (d.onEngine e f).fields = d.fields := rfl
@[simp] theorem Device.onEngine_epoch (e : Nat) (f : Engine → Engine) : (d.onEngine e f).epoch = d.epoch := rfl
@[simp] theorem Device.onEngine_freeCtr (e : Nat) (f : Engine → Engine) : (d.onEngine e f).freeCtr = d.freeCtr := rfl
@[simp] theorem Device.onEngine_boot (e : Nat) (f : Engine → Engine) : (d.onEngine e f).boot = d.boot := rfl
@[simp] theorem Device.onEngine_clk (e : Nat) (f : Engine → Engine) : (d.onEngine e f).clk = d.clk := rfl
@[simp] theorem Device.onEngine_flt (e : Nat) (f : Engine → Engine) : (d.onEngine e f).flt = d.flt := rfl
@[simp] theorem Device.onEngine_cores (e : Nat) (f : Engine → Engine) : (d.onEngine e f).cores = d.cores := rfl
@[simp] theorem Device.onEngine_twins (e : Nat) (f : Engine → Engine) : (d.onEngine e f).twins = d.twins := rfl
@[simp] theorem Device.onEngine_outputs (e : Nat) (f : Engine → Engine) : (d.onEngine e f).outputs = d.outputs := rfl
@[simp] theorem Device.onEngine_bandMap (e : Nat) (f : Engine → Engine) : (d.onEngine e f).bandMap = d.bandMap := rfl
@[simp] theorem Device.onEngine_bandEpoch (e : Nat) (f : Engine → Engine) : (d.onEngine e f).bandEpoch = d.bandEpoch := rfl
@[simp] theorem Device.onEngine_loads (e : Nat) (f : Engine → Engine) : (d.onEngine e f).loads = d.loads := rfl
@[simp] theorem Device.onEngine_ledger (e : Nat) (f : Engine → Engine) : (d.onEngine e f).ledger = d.ledger := rfl
@[simp] theorem Device.onEngine_eng (e : Nat) (f : Engine → Engine) :
    (d.onEngine e f).eng = { d.eng with engine := Store.put d.eng.engine {} e (f (d.engine e)) } := rfl
@[simp] theorem Device.onEngine_dec (e : Nat) (f : Engine → Engine) : (d.onEngine e f).dec = d.dec := rfl
@[simp] theorem Device.onEngine_whf (e : Nat) (f : Engine → Engine) : (d.onEngine e f).whf = d.whf := rfl
@[simp] theorem Device.onEngine_tow (e : Nat) (f : Engine → Engine) : (d.onEngine e f).tow = d.tow := rfl
@[simp] theorem Device.onEngine_tpt (e : Nat) (f : Engine → Engine) : (d.onEngine e f).tpt = d.tpt := rfl
@[simp] theorem Device.onEngine_cal (e : Nat) (f : Engine → Engine) : (d.onEngine e f).cal = d.cal := rfl
@[simp] theorem Device.onEngine_hsp (e : Nat) (f : Engine → Engine) : (d.onEngine e f).hsp = d.hsp := rfl
@[simp] theorem Device.onEngine_nvs (e : Nat) (f : Engine → Engine) : (d.onEngine e f).nvs = d.nvs := rfl
@[simp] theorem Device.onEngine_bus (e : Nat) (f : Engine → Engine) : (d.onEngine e f).bus = d.bus := rfl
@[simp] theorem Device.onEngine_mbx (e : Nat) (f : Engine → Engine) : (d.onEngine e f).mbx = d.mbx := rfl
@[simp] theorem Device.onEngine_kpr (e : Nat) (f : Engine → Engine) : (d.onEngine e f).kpr = d.kpr := rfl

/-! ### onClk -/

@[simp] theorem Device.onClk_fields (f : Clocks → Clocks) : (d.onClk f).fields = d.fields := rfl
@[simp] theorem Device.onClk_epoch (f : Clocks → Clocks) : (d.onClk f).epoch = d.epoch := rfl
@[simp] theorem Device.onClk_freeCtr (f : Clocks → Clocks) : (d.onClk f).freeCtr = d.freeCtr := rfl
@[simp] theorem Device.onClk_boot (f : Clocks → Clocks) : (d.onClk f).boot = d.boot := rfl
@[simp] theorem Device.onClk_clk (f : Clocks → Clocks) :
    (d.onClk f).clk = f d.clk := rfl
@[simp] theorem Device.onClk_flt (f : Clocks → Clocks) : (d.onClk f).flt = d.flt := rfl
@[simp] theorem Device.onClk_cores (f : Clocks → Clocks) : (d.onClk f).cores = d.cores := rfl
@[simp] theorem Device.onClk_twins (f : Clocks → Clocks) : (d.onClk f).twins = d.twins := rfl
@[simp] theorem Device.onClk_outputs (f : Clocks → Clocks) : (d.onClk f).outputs = d.outputs := rfl
@[simp] theorem Device.onClk_bandMap (f : Clocks → Clocks) : (d.onClk f).bandMap = d.bandMap := rfl
@[simp] theorem Device.onClk_bandEpoch (f : Clocks → Clocks) : (d.onClk f).bandEpoch = d.bandEpoch := rfl
@[simp] theorem Device.onClk_loads (f : Clocks → Clocks) : (d.onClk f).loads = d.loads := rfl
@[simp] theorem Device.onClk_ledger (f : Clocks → Clocks) : (d.onClk f).ledger = d.ledger := rfl
@[simp] theorem Device.onClk_eng (f : Clocks → Clocks) : (d.onClk f).eng = d.eng := rfl
@[simp] theorem Device.onClk_dec (f : Clocks → Clocks) : (d.onClk f).dec = d.dec := rfl
@[simp] theorem Device.onClk_whf (f : Clocks → Clocks) : (d.onClk f).whf = d.whf := rfl
@[simp] theorem Device.onClk_tow (f : Clocks → Clocks) : (d.onClk f).tow = d.tow := rfl
@[simp] theorem Device.onClk_tpt (f : Clocks → Clocks) : (d.onClk f).tpt = d.tpt := rfl
@[simp] theorem Device.onClk_cal (f : Clocks → Clocks) : (d.onClk f).cal = d.cal := rfl
@[simp] theorem Device.onClk_hsp (f : Clocks → Clocks) : (d.onClk f).hsp = d.hsp := rfl
@[simp] theorem Device.onClk_nvs (f : Clocks → Clocks) : (d.onClk f).nvs = d.nvs := rfl
@[simp] theorem Device.onClk_bus (f : Clocks → Clocks) : (d.onClk f).bus = d.bus := rfl
@[simp] theorem Device.onClk_mbx (f : Clocks → Clocks) : (d.onClk f).mbx = d.mbx := rfl
@[simp] theorem Device.onClk_kpr (f : Clocks → Clocks) : (d.onClk f).kpr = d.kpr := rfl

/-! ### onCal -/

@[simp] theorem Device.onCal_fields (f : Cal → Cal) : (d.onCal f).fields = d.fields := rfl
@[simp] theorem Device.onCal_epoch (f : Cal → Cal) : (d.onCal f).epoch = d.epoch := rfl
@[simp] theorem Device.onCal_freeCtr (f : Cal → Cal) : (d.onCal f).freeCtr = d.freeCtr := rfl
@[simp] theorem Device.onCal_boot (f : Cal → Cal) : (d.onCal f).boot = d.boot := rfl
@[simp] theorem Device.onCal_clk (f : Cal → Cal) : (d.onCal f).clk = d.clk := rfl
@[simp] theorem Device.onCal_flt (f : Cal → Cal) : (d.onCal f).flt = d.flt := rfl
@[simp] theorem Device.onCal_cores (f : Cal → Cal) : (d.onCal f).cores = d.cores := rfl
@[simp] theorem Device.onCal_twins (f : Cal → Cal) : (d.onCal f).twins = d.twins := rfl
@[simp] theorem Device.onCal_outputs (f : Cal → Cal) : (d.onCal f).outputs = d.outputs := rfl
@[simp] theorem Device.onCal_bandMap (f : Cal → Cal) : (d.onCal f).bandMap = d.bandMap := rfl
@[simp] theorem Device.onCal_bandEpoch (f : Cal → Cal) : (d.onCal f).bandEpoch = d.bandEpoch := rfl
@[simp] theorem Device.onCal_loads (f : Cal → Cal) : (d.onCal f).loads = d.loads := rfl
@[simp] theorem Device.onCal_ledger (f : Cal → Cal) : (d.onCal f).ledger = d.ledger := rfl
@[simp] theorem Device.onCal_eng (f : Cal → Cal) : (d.onCal f).eng = d.eng := rfl
@[simp] theorem Device.onCal_dec (f : Cal → Cal) : (d.onCal f).dec = d.dec := rfl
@[simp] theorem Device.onCal_whf (f : Cal → Cal) : (d.onCal f).whf = d.whf := rfl
@[simp] theorem Device.onCal_tow (f : Cal → Cal) : (d.onCal f).tow = d.tow := rfl
@[simp] theorem Device.onCal_tpt (f : Cal → Cal) : (d.onCal f).tpt = d.tpt := rfl
@[simp] theorem Device.onCal_cal (f : Cal → Cal) :
    (d.onCal f).cal = f d.cal := rfl
@[simp] theorem Device.onCal_hsp (f : Cal → Cal) : (d.onCal f).hsp = d.hsp := rfl
@[simp] theorem Device.onCal_nvs (f : Cal → Cal) : (d.onCal f).nvs = d.nvs := rfl
@[simp] theorem Device.onCal_bus (f : Cal → Cal) : (d.onCal f).bus = d.bus := rfl
@[simp] theorem Device.onCal_mbx (f : Cal → Cal) : (d.onCal f).mbx = d.mbx := rfl
@[simp] theorem Device.onCal_kpr (f : Cal → Cal) : (d.onCal f).kpr = d.kpr := rfl

/-! ### onBoot -/

@[simp] theorem Device.onBoot_fields (f : Boot → Boot) : (d.onBoot f).fields = d.fields := rfl
@[simp] theorem Device.onBoot_epoch (f : Boot → Boot) : (d.onBoot f).epoch = d.epoch := rfl
@[simp] theorem Device.onBoot_freeCtr (f : Boot → Boot) : (d.onBoot f).freeCtr = d.freeCtr := rfl
@[simp] theorem Device.onBoot_boot (f : Boot → Boot) :
    (d.onBoot f).boot = f d.boot := rfl
@[simp] theorem Device.onBoot_clk (f : Boot → Boot) : (d.onBoot f).clk = d.clk := rfl
@[simp] theorem Device.onBoot_flt (f : Boot → Boot) : (d.onBoot f).flt = d.flt := rfl
@[simp] theorem Device.onBoot_cores (f : Boot → Boot) : (d.onBoot f).cores = d.cores := rfl
@[simp] theorem Device.onBoot_twins (f : Boot → Boot) : (d.onBoot f).twins = d.twins := rfl
@[simp] theorem Device.onBoot_outputs (f : Boot → Boot) : (d.onBoot f).outputs = d.outputs := rfl
@[simp] theorem Device.onBoot_bandMap (f : Boot → Boot) : (d.onBoot f).bandMap = d.bandMap := rfl
@[simp] theorem Device.onBoot_bandEpoch (f : Boot → Boot) : (d.onBoot f).bandEpoch = d.bandEpoch := rfl
@[simp] theorem Device.onBoot_loads (f : Boot → Boot) : (d.onBoot f).loads = d.loads := rfl
@[simp] theorem Device.onBoot_ledger (f : Boot → Boot) : (d.onBoot f).ledger = d.ledger := rfl
@[simp] theorem Device.onBoot_eng (f : Boot → Boot) : (d.onBoot f).eng = d.eng := rfl
@[simp] theorem Device.onBoot_dec (f : Boot → Boot) : (d.onBoot f).dec = d.dec := rfl
@[simp] theorem Device.onBoot_whf (f : Boot → Boot) : (d.onBoot f).whf = d.whf := rfl
@[simp] theorem Device.onBoot_tow (f : Boot → Boot) : (d.onBoot f).tow = d.tow := rfl
@[simp] theorem Device.onBoot_tpt (f : Boot → Boot) : (d.onBoot f).tpt = d.tpt := rfl
@[simp] theorem Device.onBoot_cal (f : Boot → Boot) : (d.onBoot f).cal = d.cal := rfl
@[simp] theorem Device.onBoot_hsp (f : Boot → Boot) : (d.onBoot f).hsp = d.hsp := rfl
@[simp] theorem Device.onBoot_nvs (f : Boot → Boot) : (d.onBoot f).nvs = d.nvs := rfl
@[simp] theorem Device.onBoot_bus (f : Boot → Boot) : (d.onBoot f).bus = d.bus := rfl
@[simp] theorem Device.onBoot_mbx (f : Boot → Boot) : (d.onBoot f).mbx = d.mbx := rfl
@[simp] theorem Device.onBoot_kpr (f : Boot → Boot) : (d.onBoot f).kpr = d.kpr := rfl

/-! ### onBus -/

@[simp] theorem Device.onBus_fields (f : Bus → Bus) : (d.onBus f).fields = d.fields := rfl
@[simp] theorem Device.onBus_epoch (f : Bus → Bus) : (d.onBus f).epoch = d.epoch := rfl
@[simp] theorem Device.onBus_freeCtr (f : Bus → Bus) : (d.onBus f).freeCtr = d.freeCtr := rfl
@[simp] theorem Device.onBus_boot (f : Bus → Bus) : (d.onBus f).boot = d.boot := rfl
@[simp] theorem Device.onBus_clk (f : Bus → Bus) : (d.onBus f).clk = d.clk := rfl
@[simp] theorem Device.onBus_flt (f : Bus → Bus) : (d.onBus f).flt = d.flt := rfl
@[simp] theorem Device.onBus_cores (f : Bus → Bus) : (d.onBus f).cores = d.cores := rfl
@[simp] theorem Device.onBus_twins (f : Bus → Bus) : (d.onBus f).twins = d.twins := rfl
@[simp] theorem Device.onBus_outputs (f : Bus → Bus) : (d.onBus f).outputs = d.outputs := rfl
@[simp] theorem Device.onBus_bandMap (f : Bus → Bus) : (d.onBus f).bandMap = d.bandMap := rfl
@[simp] theorem Device.onBus_bandEpoch (f : Bus → Bus) : (d.onBus f).bandEpoch = d.bandEpoch := rfl
@[simp] theorem Device.onBus_loads (f : Bus → Bus) : (d.onBus f).loads = d.loads := rfl
@[simp] theorem Device.onBus_ledger (f : Bus → Bus) : (d.onBus f).ledger = d.ledger := rfl
@[simp] theorem Device.onBus_eng (f : Bus → Bus) : (d.onBus f).eng = d.eng := rfl
@[simp] theorem Device.onBus_dec (f : Bus → Bus) : (d.onBus f).dec = d.dec := rfl
@[simp] theorem Device.onBus_whf (f : Bus → Bus) : (d.onBus f).whf = d.whf := rfl
@[simp] theorem Device.onBus_tow (f : Bus → Bus) : (d.onBus f).tow = d.tow := rfl
@[simp] theorem Device.onBus_tpt (f : Bus → Bus) : (d.onBus f).tpt = d.tpt := rfl
@[simp] theorem Device.onBus_cal (f : Bus → Bus) : (d.onBus f).cal = d.cal := rfl
@[simp] theorem Device.onBus_hsp (f : Bus → Bus) : (d.onBus f).hsp = d.hsp := rfl
@[simp] theorem Device.onBus_nvs (f : Bus → Bus) : (d.onBus f).nvs = d.nvs := rfl
@[simp] theorem Device.onBus_bus (f : Bus → Bus) :
    (d.onBus f).bus = f d.bus := rfl
@[simp] theorem Device.onBus_mbx (f : Bus → Bus) : (d.onBus f).mbx = d.mbx := rfl
@[simp] theorem Device.onBus_kpr (f : Bus → Bus) : (d.onBus f).kpr = d.kpr := rfl

/-! ### onHsp -/

@[simp] theorem Device.onHsp_fields (f : Hsp → Hsp) : (d.onHsp f).fields = d.fields := rfl
@[simp] theorem Device.onHsp_epoch (f : Hsp → Hsp) : (d.onHsp f).epoch = d.epoch := rfl
@[simp] theorem Device.onHsp_freeCtr (f : Hsp → Hsp) : (d.onHsp f).freeCtr = d.freeCtr := rfl
@[simp] theorem Device.onHsp_boot (f : Hsp → Hsp) : (d.onHsp f).boot = d.boot := rfl
@[simp] theorem Device.onHsp_clk (f : Hsp → Hsp) : (d.onHsp f).clk = d.clk := rfl
@[simp] theorem Device.onHsp_flt (f : Hsp → Hsp) : (d.onHsp f).flt = d.flt := rfl
@[simp] theorem Device.onHsp_cores (f : Hsp → Hsp) : (d.onHsp f).cores = d.cores := rfl
@[simp] theorem Device.onHsp_twins (f : Hsp → Hsp) : (d.onHsp f).twins = d.twins := rfl
@[simp] theorem Device.onHsp_outputs (f : Hsp → Hsp) : (d.onHsp f).outputs = d.outputs := rfl
@[simp] theorem Device.onHsp_bandMap (f : Hsp → Hsp) : (d.onHsp f).bandMap = d.bandMap := rfl
@[simp] theorem Device.onHsp_bandEpoch (f : Hsp → Hsp) : (d.onHsp f).bandEpoch = d.bandEpoch := rfl
@[simp] theorem Device.onHsp_loads (f : Hsp → Hsp) : (d.onHsp f).loads = d.loads := rfl
@[simp] theorem Device.onHsp_ledger (f : Hsp → Hsp) : (d.onHsp f).ledger = d.ledger := rfl
@[simp] theorem Device.onHsp_eng (f : Hsp → Hsp) : (d.onHsp f).eng = d.eng := rfl
@[simp] theorem Device.onHsp_dec (f : Hsp → Hsp) : (d.onHsp f).dec = d.dec := rfl
@[simp] theorem Device.onHsp_whf (f : Hsp → Hsp) : (d.onHsp f).whf = d.whf := rfl
@[simp] theorem Device.onHsp_tow (f : Hsp → Hsp) : (d.onHsp f).tow = d.tow := rfl
@[simp] theorem Device.onHsp_tpt (f : Hsp → Hsp) : (d.onHsp f).tpt = d.tpt := rfl
@[simp] theorem Device.onHsp_cal (f : Hsp → Hsp) : (d.onHsp f).cal = d.cal := rfl
@[simp] theorem Device.onHsp_hsp (f : Hsp → Hsp) :
    (d.onHsp f).hsp = f d.hsp := rfl
@[simp] theorem Device.onHsp_nvs (f : Hsp → Hsp) : (d.onHsp f).nvs = d.nvs := rfl
@[simp] theorem Device.onHsp_bus (f : Hsp → Hsp) : (d.onHsp f).bus = d.bus := rfl
@[simp] theorem Device.onHsp_mbx (f : Hsp → Hsp) : (d.onHsp f).mbx = d.mbx := rfl
@[simp] theorem Device.onHsp_kpr (f : Hsp → Hsp) : (d.onHsp f).kpr = d.kpr := rfl

/-! ### onNvs -/

@[simp] theorem Device.onNvs_fields (f : Nvs → Nvs) : (d.onNvs f).fields = d.fields := rfl
@[simp] theorem Device.onNvs_epoch (f : Nvs → Nvs) : (d.onNvs f).epoch = d.epoch := rfl
@[simp] theorem Device.onNvs_freeCtr (f : Nvs → Nvs) : (d.onNvs f).freeCtr = d.freeCtr := rfl
@[simp] theorem Device.onNvs_boot (f : Nvs → Nvs) : (d.onNvs f).boot = d.boot := rfl
@[simp] theorem Device.onNvs_clk (f : Nvs → Nvs) : (d.onNvs f).clk = d.clk := rfl
@[simp] theorem Device.onNvs_flt (f : Nvs → Nvs) : (d.onNvs f).flt = d.flt := rfl
@[simp] theorem Device.onNvs_cores (f : Nvs → Nvs) : (d.onNvs f).cores = d.cores := rfl
@[simp] theorem Device.onNvs_twins (f : Nvs → Nvs) : (d.onNvs f).twins = d.twins := rfl
@[simp] theorem Device.onNvs_outputs (f : Nvs → Nvs) : (d.onNvs f).outputs = d.outputs := rfl
@[simp] theorem Device.onNvs_bandMap (f : Nvs → Nvs) : (d.onNvs f).bandMap = d.bandMap := rfl
@[simp] theorem Device.onNvs_bandEpoch (f : Nvs → Nvs) : (d.onNvs f).bandEpoch = d.bandEpoch := rfl
@[simp] theorem Device.onNvs_loads (f : Nvs → Nvs) : (d.onNvs f).loads = d.loads := rfl
@[simp] theorem Device.onNvs_ledger (f : Nvs → Nvs) : (d.onNvs f).ledger = d.ledger := rfl
@[simp] theorem Device.onNvs_eng (f : Nvs → Nvs) : (d.onNvs f).eng = d.eng := rfl
@[simp] theorem Device.onNvs_dec (f : Nvs → Nvs) : (d.onNvs f).dec = d.dec := rfl
@[simp] theorem Device.onNvs_whf (f : Nvs → Nvs) : (d.onNvs f).whf = d.whf := rfl
@[simp] theorem Device.onNvs_tow (f : Nvs → Nvs) : (d.onNvs f).tow = d.tow := rfl
@[simp] theorem Device.onNvs_tpt (f : Nvs → Nvs) : (d.onNvs f).tpt = d.tpt := rfl
@[simp] theorem Device.onNvs_cal (f : Nvs → Nvs) : (d.onNvs f).cal = d.cal := rfl
@[simp] theorem Device.onNvs_hsp (f : Nvs → Nvs) : (d.onNvs f).hsp = d.hsp := rfl
@[simp] theorem Device.onNvs_nvs (f : Nvs → Nvs) :
    (d.onNvs f).nvs = f d.nvs := rfl
@[simp] theorem Device.onNvs_bus (f : Nvs → Nvs) : (d.onNvs f).bus = d.bus := rfl
@[simp] theorem Device.onNvs_mbx (f : Nvs → Nvs) : (d.onNvs f).mbx = d.mbx := rfl
@[simp] theorem Device.onNvs_kpr (f : Nvs → Nvs) : (d.onNvs f).kpr = d.kpr := rfl

/-! ### onMbx -/

@[simp] theorem Device.onMbx_fields (f : Mailbox → Mailbox) : (d.onMbx f).fields = d.fields := rfl
@[simp] theorem Device.onMbx_epoch (f : Mailbox → Mailbox) : (d.onMbx f).epoch = d.epoch := rfl
@[simp] theorem Device.onMbx_freeCtr (f : Mailbox → Mailbox) : (d.onMbx f).freeCtr = d.freeCtr := rfl
@[simp] theorem Device.onMbx_boot (f : Mailbox → Mailbox) : (d.onMbx f).boot = d.boot := rfl
@[simp] theorem Device.onMbx_clk (f : Mailbox → Mailbox) : (d.onMbx f).clk = d.clk := rfl
@[simp] theorem Device.onMbx_flt (f : Mailbox → Mailbox) : (d.onMbx f).flt = d.flt := rfl
@[simp] theorem Device.onMbx_cores (f : Mailbox → Mailbox) : (d.onMbx f).cores = d.cores := rfl
@[simp] theorem Device.onMbx_twins (f : Mailbox → Mailbox) : (d.onMbx f).twins = d.twins := rfl
@[simp] theorem Device.onMbx_outputs (f : Mailbox → Mailbox) : (d.onMbx f).outputs = d.outputs := rfl
@[simp] theorem Device.onMbx_bandMap (f : Mailbox → Mailbox) : (d.onMbx f).bandMap = d.bandMap := rfl
@[simp] theorem Device.onMbx_bandEpoch (f : Mailbox → Mailbox) : (d.onMbx f).bandEpoch = d.bandEpoch := rfl
@[simp] theorem Device.onMbx_loads (f : Mailbox → Mailbox) : (d.onMbx f).loads = d.loads := rfl
@[simp] theorem Device.onMbx_ledger (f : Mailbox → Mailbox) : (d.onMbx f).ledger = d.ledger := rfl
@[simp] theorem Device.onMbx_eng (f : Mailbox → Mailbox) : (d.onMbx f).eng = d.eng := rfl
@[simp] theorem Device.onMbx_dec (f : Mailbox → Mailbox) : (d.onMbx f).dec = d.dec := rfl
@[simp] theorem Device.onMbx_whf (f : Mailbox → Mailbox) : (d.onMbx f).whf = d.whf := rfl
@[simp] theorem Device.onMbx_tow (f : Mailbox → Mailbox) : (d.onMbx f).tow = d.tow := rfl
@[simp] theorem Device.onMbx_tpt (f : Mailbox → Mailbox) : (d.onMbx f).tpt = d.tpt := rfl
@[simp] theorem Device.onMbx_cal (f : Mailbox → Mailbox) : (d.onMbx f).cal = d.cal := rfl
@[simp] theorem Device.onMbx_hsp (f : Mailbox → Mailbox) : (d.onMbx f).hsp = d.hsp := rfl
@[simp] theorem Device.onMbx_nvs (f : Mailbox → Mailbox) : (d.onMbx f).nvs = d.nvs := rfl
@[simp] theorem Device.onMbx_bus (f : Mailbox → Mailbox) : (d.onMbx f).bus = d.bus := rfl
@[simp] theorem Device.onMbx_mbx (f : Mailbox → Mailbox) :
    (d.onMbx f).mbx = f d.mbx := rfl
@[simp] theorem Device.onMbx_kpr (f : Mailbox → Mailbox) : (d.onMbx f).kpr = d.kpr := rfl

/-! ### onTpt -/

@[simp] theorem Device.onTpt_fields (f : Tpt → Tpt) : (d.onTpt f).fields = d.fields := rfl
@[simp] theorem Device.onTpt_epoch (f : Tpt → Tpt) : (d.onTpt f).epoch = d.epoch := rfl
@[simp] theorem Device.onTpt_freeCtr (f : Tpt → Tpt) : (d.onTpt f).freeCtr = d.freeCtr := rfl
@[simp] theorem Device.onTpt_boot (f : Tpt → Tpt) : (d.onTpt f).boot = d.boot := rfl
@[simp] theorem Device.onTpt_clk (f : Tpt → Tpt) : (d.onTpt f).clk = d.clk := rfl
@[simp] theorem Device.onTpt_flt (f : Tpt → Tpt) : (d.onTpt f).flt = d.flt := rfl
@[simp] theorem Device.onTpt_cores (f : Tpt → Tpt) : (d.onTpt f).cores = d.cores := rfl
@[simp] theorem Device.onTpt_twins (f : Tpt → Tpt) : (d.onTpt f).twins = d.twins := rfl
@[simp] theorem Device.onTpt_outputs (f : Tpt → Tpt) : (d.onTpt f).outputs = d.outputs := rfl
@[simp] theorem Device.onTpt_bandMap (f : Tpt → Tpt) : (d.onTpt f).bandMap = d.bandMap := rfl
@[simp] theorem Device.onTpt_bandEpoch (f : Tpt → Tpt) : (d.onTpt f).bandEpoch = d.bandEpoch := rfl
@[simp] theorem Device.onTpt_loads (f : Tpt → Tpt) : (d.onTpt f).loads = d.loads := rfl
@[simp] theorem Device.onTpt_ledger (f : Tpt → Tpt) : (d.onTpt f).ledger = d.ledger := rfl
@[simp] theorem Device.onTpt_eng (f : Tpt → Tpt) : (d.onTpt f).eng = d.eng := rfl
@[simp] theorem Device.onTpt_dec (f : Tpt → Tpt) : (d.onTpt f).dec = d.dec := rfl
@[simp] theorem Device.onTpt_whf (f : Tpt → Tpt) : (d.onTpt f).whf = d.whf := rfl
@[simp] theorem Device.onTpt_tow (f : Tpt → Tpt) : (d.onTpt f).tow = d.tow := rfl
@[simp] theorem Device.onTpt_tpt (f : Tpt → Tpt) :
    (d.onTpt f).tpt = f d.tpt := rfl
@[simp] theorem Device.onTpt_cal (f : Tpt → Tpt) : (d.onTpt f).cal = d.cal := rfl
@[simp] theorem Device.onTpt_hsp (f : Tpt → Tpt) : (d.onTpt f).hsp = d.hsp := rfl
@[simp] theorem Device.onTpt_nvs (f : Tpt → Tpt) : (d.onTpt f).nvs = d.nvs := rfl
@[simp] theorem Device.onTpt_bus (f : Tpt → Tpt) : (d.onTpt f).bus = d.bus := rfl
@[simp] theorem Device.onTpt_mbx (f : Tpt → Tpt) : (d.onTpt f).mbx = d.mbx := rfl
@[simp] theorem Device.onTpt_kpr (f : Tpt → Tpt) : (d.onTpt f).kpr = d.kpr := rfl

/-! ### onTow -/

@[simp] theorem Device.onTow_fields (f : Tow → Tow) : (d.onTow f).fields = d.fields := rfl
@[simp] theorem Device.onTow_epoch (f : Tow → Tow) : (d.onTow f).epoch = d.epoch := rfl
@[simp] theorem Device.onTow_freeCtr (f : Tow → Tow) : (d.onTow f).freeCtr = d.freeCtr := rfl
@[simp] theorem Device.onTow_boot (f : Tow → Tow) : (d.onTow f).boot = d.boot := rfl
@[simp] theorem Device.onTow_clk (f : Tow → Tow) : (d.onTow f).clk = d.clk := rfl
@[simp] theorem Device.onTow_flt (f : Tow → Tow) : (d.onTow f).flt = d.flt := rfl
@[simp] theorem Device.onTow_cores (f : Tow → Tow) : (d.onTow f).cores = d.cores := rfl
@[simp] theorem Device.onTow_twins (f : Tow → Tow) : (d.onTow f).twins = d.twins := rfl
@[simp] theorem Device.onTow_outputs (f : Tow → Tow) : (d.onTow f).outputs = d.outputs := rfl
@[simp] theorem Device.onTow_bandMap (f : Tow → Tow) : (d.onTow f).bandMap = d.bandMap := rfl
@[simp] theorem Device.onTow_bandEpoch (f : Tow → Tow) : (d.onTow f).bandEpoch = d.bandEpoch := rfl
@[simp] theorem Device.onTow_loads (f : Tow → Tow) : (d.onTow f).loads = d.loads := rfl
@[simp] theorem Device.onTow_ledger (f : Tow → Tow) : (d.onTow f).ledger = d.ledger := rfl
@[simp] theorem Device.onTow_eng (f : Tow → Tow) : (d.onTow f).eng = d.eng := rfl
@[simp] theorem Device.onTow_dec (f : Tow → Tow) : (d.onTow f).dec = d.dec := rfl
@[simp] theorem Device.onTow_whf (f : Tow → Tow) : (d.onTow f).whf = d.whf := rfl
@[simp] theorem Device.onTow_tow (f : Tow → Tow) :
    (d.onTow f).tow = f d.tow := rfl
@[simp] theorem Device.onTow_tpt (f : Tow → Tow) : (d.onTow f).tpt = d.tpt := rfl
@[simp] theorem Device.onTow_cal (f : Tow → Tow) : (d.onTow f).cal = d.cal := rfl
@[simp] theorem Device.onTow_hsp (f : Tow → Tow) : (d.onTow f).hsp = d.hsp := rfl
@[simp] theorem Device.onTow_nvs (f : Tow → Tow) : (d.onTow f).nvs = d.nvs := rfl
@[simp] theorem Device.onTow_bus (f : Tow → Tow) : (d.onTow f).bus = d.bus := rfl
@[simp] theorem Device.onTow_mbx (f : Tow → Tow) : (d.onTow f).mbx = d.mbx := rfl
@[simp] theorem Device.onTow_kpr (f : Tow → Tow) : (d.onTow f).kpr = d.kpr := rfl

/-! ### onDec -/

@[simp] theorem Device.onDec_fields (f : Decisions → Decisions) : (d.onDec f).fields = d.fields := rfl
@[simp] theorem Device.onDec_epoch (f : Decisions → Decisions) : (d.onDec f).epoch = d.epoch := rfl
@[simp] theorem Device.onDec_freeCtr (f : Decisions → Decisions) : (d.onDec f).freeCtr = d.freeCtr := rfl
@[simp] theorem Device.onDec_boot (f : Decisions → Decisions) : (d.onDec f).boot = d.boot := rfl
@[simp] theorem Device.onDec_clk (f : Decisions → Decisions) : (d.onDec f).clk = d.clk := rfl
@[simp] theorem Device.onDec_flt (f : Decisions → Decisions) : (d.onDec f).flt = d.flt := rfl
@[simp] theorem Device.onDec_cores (f : Decisions → Decisions) : (d.onDec f).cores = d.cores := rfl
@[simp] theorem Device.onDec_twins (f : Decisions → Decisions) : (d.onDec f).twins = d.twins := rfl
@[simp] theorem Device.onDec_outputs (f : Decisions → Decisions) : (d.onDec f).outputs = d.outputs := rfl
@[simp] theorem Device.onDec_bandMap (f : Decisions → Decisions) : (d.onDec f).bandMap = d.bandMap := rfl
@[simp] theorem Device.onDec_bandEpoch (f : Decisions → Decisions) : (d.onDec f).bandEpoch = d.bandEpoch := rfl
@[simp] theorem Device.onDec_loads (f : Decisions → Decisions) : (d.onDec f).loads = d.loads := rfl
@[simp] theorem Device.onDec_ledger (f : Decisions → Decisions) : (d.onDec f).ledger = d.ledger := rfl
@[simp] theorem Device.onDec_eng (f : Decisions → Decisions) : (d.onDec f).eng = d.eng := rfl
@[simp] theorem Device.onDec_dec (f : Decisions → Decisions) :
    (d.onDec f).dec = f d.dec := rfl
@[simp] theorem Device.onDec_whf (f : Decisions → Decisions) : (d.onDec f).whf = d.whf := rfl
@[simp] theorem Device.onDec_tow (f : Decisions → Decisions) : (d.onDec f).tow = d.tow := rfl
@[simp] theorem Device.onDec_tpt (f : Decisions → Decisions) : (d.onDec f).tpt = d.tpt := rfl
@[simp] theorem Device.onDec_cal (f : Decisions → Decisions) : (d.onDec f).cal = d.cal := rfl
@[simp] theorem Device.onDec_hsp (f : Decisions → Decisions) : (d.onDec f).hsp = d.hsp := rfl
@[simp] theorem Device.onDec_nvs (f : Decisions → Decisions) : (d.onDec f).nvs = d.nvs := rfl
@[simp] theorem Device.onDec_bus (f : Decisions → Decisions) : (d.onDec f).bus = d.bus := rfl
@[simp] theorem Device.onDec_mbx (f : Decisions → Decisions) : (d.onDec f).mbx = d.mbx := rfl
@[simp] theorem Device.onDec_kpr (f : Decisions → Decisions) : (d.onDec f).kpr = d.kpr := rfl

/-! ### onLane -/

@[simp] theorem Device.onLane_fields (n : Nat) (f : Lane → Lane) : (d.onLane n f).fields = d.fields := rfl
@[simp] theorem Device.onLane_epoch (n : Nat) (f : Lane → Lane) : (d.onLane n f).epoch = d.epoch := rfl
@[simp] theorem Device.onLane_freeCtr (n : Nat) (f : Lane → Lane) : (d.onLane n f).freeCtr = d.freeCtr := rfl
@[simp] theorem Device.onLane_boot (n : Nat) (f : Lane → Lane) : (d.onLane n f).boot = d.boot := rfl
@[simp] theorem Device.onLane_clk (n : Nat) (f : Lane → Lane) : (d.onLane n f).clk = d.clk := rfl
@[simp] theorem Device.onLane_flt (n : Nat) (f : Lane → Lane) : (d.onLane n f).flt = d.flt := rfl
@[simp] theorem Device.onLane_cores (n : Nat) (f : Lane → Lane) : (d.onLane n f).cores = d.cores := rfl
@[simp] theorem Device.onLane_twins (n : Nat) (f : Lane → Lane) : (d.onLane n f).twins = d.twins := rfl
@[simp] theorem Device.onLane_outputs (n : Nat) (f : Lane → Lane) : (d.onLane n f).outputs = d.outputs := rfl
@[simp] theorem Device.onLane_bandMap (n : Nat) (f : Lane → Lane) : (d.onLane n f).bandMap = d.bandMap := rfl
@[simp] theorem Device.onLane_bandEpoch (n : Nat) (f : Lane → Lane) : (d.onLane n f).bandEpoch = d.bandEpoch := rfl
@[simp] theorem Device.onLane_loads (n : Nat) (f : Lane → Lane) : (d.onLane n f).loads = d.loads := rfl
@[simp] theorem Device.onLane_ledger (n : Nat) (f : Lane → Lane) : (d.onLane n f).ledger = d.ledger := rfl
@[simp] theorem Device.onLane_eng (n : Nat) (f : Lane → Lane) : (d.onLane n f).eng = d.eng := rfl
@[simp] theorem Device.onLane_dec (n : Nat) (f : Lane → Lane) : (d.onLane n f).dec = d.dec := rfl
@[simp] theorem Device.onLane_whf (n : Nat) (f : Lane → Lane) :
    (d.onLane n f).whf = { d.whf with lane := Store.put d.whf.lane {} n (f (d.lane n)) } := rfl
@[simp] theorem Device.onLane_tow (n : Nat) (f : Lane → Lane) : (d.onLane n f).tow = d.tow := rfl
@[simp] theorem Device.onLane_tpt (n : Nat) (f : Lane → Lane) : (d.onLane n f).tpt = d.tpt := rfl
@[simp] theorem Device.onLane_cal (n : Nat) (f : Lane → Lane) : (d.onLane n f).cal = d.cal := rfl
@[simp] theorem Device.onLane_hsp (n : Nat) (f : Lane → Lane) : (d.onLane n f).hsp = d.hsp := rfl
@[simp] theorem Device.onLane_nvs (n : Nat) (f : Lane → Lane) : (d.onLane n f).nvs = d.nvs := rfl
@[simp] theorem Device.onLane_bus (n : Nat) (f : Lane → Lane) : (d.onLane n f).bus = d.bus := rfl
@[simp] theorem Device.onLane_mbx (n : Nat) (f : Lane → Lane) : (d.onLane n f).mbx = d.mbx := rfl
@[simp] theorem Device.onLane_kpr (n : Nat) (f : Lane → Lane) : (d.onLane n f).kpr = d.kpr := rfl

/-! ### onWharf -/

@[simp] theorem Device.onWharf_fields (h : Nat) (f : Wharf → Wharf) : (d.onWharf h f).fields = d.fields := rfl
@[simp] theorem Device.onWharf_epoch (h : Nat) (f : Wharf → Wharf) : (d.onWharf h f).epoch = d.epoch := rfl
@[simp] theorem Device.onWharf_freeCtr (h : Nat) (f : Wharf → Wharf) : (d.onWharf h f).freeCtr = d.freeCtr := rfl
@[simp] theorem Device.onWharf_boot (h : Nat) (f : Wharf → Wharf) : (d.onWharf h f).boot = d.boot := rfl
@[simp] theorem Device.onWharf_clk (h : Nat) (f : Wharf → Wharf) : (d.onWharf h f).clk = d.clk := rfl
@[simp] theorem Device.onWharf_flt (h : Nat) (f : Wharf → Wharf) : (d.onWharf h f).flt = d.flt := rfl
@[simp] theorem Device.onWharf_cores (h : Nat) (f : Wharf → Wharf) : (d.onWharf h f).cores = d.cores := rfl
@[simp] theorem Device.onWharf_twins (h : Nat) (f : Wharf → Wharf) : (d.onWharf h f).twins = d.twins := rfl
@[simp] theorem Device.onWharf_outputs (h : Nat) (f : Wharf → Wharf) : (d.onWharf h f).outputs = d.outputs := rfl
@[simp] theorem Device.onWharf_bandMap (h : Nat) (f : Wharf → Wharf) : (d.onWharf h f).bandMap = d.bandMap := rfl
@[simp] theorem Device.onWharf_bandEpoch (h : Nat) (f : Wharf → Wharf) : (d.onWharf h f).bandEpoch = d.bandEpoch := rfl
@[simp] theorem Device.onWharf_loads (h : Nat) (f : Wharf → Wharf) : (d.onWharf h f).loads = d.loads := rfl
@[simp] theorem Device.onWharf_ledger (h : Nat) (f : Wharf → Wharf) : (d.onWharf h f).ledger = d.ledger := rfl
@[simp] theorem Device.onWharf_eng (h : Nat) (f : Wharf → Wharf) : (d.onWharf h f).eng = d.eng := rfl
@[simp] theorem Device.onWharf_dec (h : Nat) (f : Wharf → Wharf) : (d.onWharf h f).dec = d.dec := rfl
@[simp] theorem Device.onWharf_whf (h : Nat) (f : Wharf → Wharf) :
    (d.onWharf h f).whf = { d.whf with wharf := Store.put d.whf.wharf {} h (f (d.wharf h)) } := rfl
@[simp] theorem Device.onWharf_tow (h : Nat) (f : Wharf → Wharf) : (d.onWharf h f).tow = d.tow := rfl
@[simp] theorem Device.onWharf_tpt (h : Nat) (f : Wharf → Wharf) : (d.onWharf h f).tpt = d.tpt := rfl
@[simp] theorem Device.onWharf_cal (h : Nat) (f : Wharf → Wharf) : (d.onWharf h f).cal = d.cal := rfl
@[simp] theorem Device.onWharf_hsp (h : Nat) (f : Wharf → Wharf) : (d.onWharf h f).hsp = d.hsp := rfl
@[simp] theorem Device.onWharf_nvs (h : Nat) (f : Wharf → Wharf) : (d.onWharf h f).nvs = d.nvs := rfl
@[simp] theorem Device.onWharf_bus (h : Nat) (f : Wharf → Wharf) : (d.onWharf h f).bus = d.bus := rfl
@[simp] theorem Device.onWharf_mbx (h : Nat) (f : Wharf → Wharf) : (d.onWharf h f).mbx = d.mbx := rfl
@[simp] theorem Device.onWharf_kpr (h : Nat) (f : Wharf → Wharf) : (d.onWharf h f).kpr = d.kpr := rfl

/-! ### onTowWharf -/

@[simp] theorem Device.onTowWharf_fields (h : Nat) (f : TowWharf → TowWharf) : (d.onTowWharf h f).fields = d.fields := rfl
@[simp] theorem Device.onTowWharf_epoch (h : Nat) (f : TowWharf → TowWharf) : (d.onTowWharf h f).epoch = d.epoch := rfl
@[simp] theorem Device.onTowWharf_freeCtr (h : Nat) (f : TowWharf → TowWharf) : (d.onTowWharf h f).freeCtr = d.freeCtr := rfl
@[simp] theorem Device.onTowWharf_boot (h : Nat) (f : TowWharf → TowWharf) : (d.onTowWharf h f).boot = d.boot := rfl
@[simp] theorem Device.onTowWharf_clk (h : Nat) (f : TowWharf → TowWharf) : (d.onTowWharf h f).clk = d.clk := rfl
@[simp] theorem Device.onTowWharf_flt (h : Nat) (f : TowWharf → TowWharf) : (d.onTowWharf h f).flt = d.flt := rfl
@[simp] theorem Device.onTowWharf_cores (h : Nat) (f : TowWharf → TowWharf) : (d.onTowWharf h f).cores = d.cores := rfl
@[simp] theorem Device.onTowWharf_twins (h : Nat) (f : TowWharf → TowWharf) : (d.onTowWharf h f).twins = d.twins := rfl
@[simp] theorem Device.onTowWharf_outputs (h : Nat) (f : TowWharf → TowWharf) : (d.onTowWharf h f).outputs = d.outputs := rfl
@[simp] theorem Device.onTowWharf_bandMap (h : Nat) (f : TowWharf → TowWharf) : (d.onTowWharf h f).bandMap = d.bandMap := rfl
@[simp] theorem Device.onTowWharf_bandEpoch (h : Nat) (f : TowWharf → TowWharf) : (d.onTowWharf h f).bandEpoch = d.bandEpoch := rfl
@[simp] theorem Device.onTowWharf_loads (h : Nat) (f : TowWharf → TowWharf) : (d.onTowWharf h f).loads = d.loads := rfl
@[simp] theorem Device.onTowWharf_ledger (h : Nat) (f : TowWharf → TowWharf) : (d.onTowWharf h f).ledger = d.ledger := rfl
@[simp] theorem Device.onTowWharf_eng (h : Nat) (f : TowWharf → TowWharf) : (d.onTowWharf h f).eng = d.eng := rfl
@[simp] theorem Device.onTowWharf_dec (h : Nat) (f : TowWharf → TowWharf) : (d.onTowWharf h f).dec = d.dec := rfl
@[simp] theorem Device.onTowWharf_whf (h : Nat) (f : TowWharf → TowWharf) : (d.onTowWharf h f).whf = d.whf := rfl
@[simp] theorem Device.onTowWharf_tow (h : Nat) (f : TowWharf → TowWharf) :
    (d.onTowWharf h f).tow = { d.tow with wharf := Store.put d.tow.wharf {} h (f (d.towWharf h)) } := rfl
@[simp] theorem Device.onTowWharf_tpt (h : Nat) (f : TowWharf → TowWharf) : (d.onTowWharf h f).tpt = d.tpt := rfl
@[simp] theorem Device.onTowWharf_cal (h : Nat) (f : TowWharf → TowWharf) : (d.onTowWharf h f).cal = d.cal := rfl
@[simp] theorem Device.onTowWharf_hsp (h : Nat) (f : TowWharf → TowWharf) : (d.onTowWharf h f).hsp = d.hsp := rfl
@[simp] theorem Device.onTowWharf_nvs (h : Nat) (f : TowWharf → TowWharf) : (d.onTowWharf h f).nvs = d.nvs := rfl
@[simp] theorem Device.onTowWharf_bus (h : Nat) (f : TowWharf → TowWharf) : (d.onTowWharf h f).bus = d.bus := rfl
@[simp] theorem Device.onTowWharf_mbx (h : Nat) (f : TowWharf → TowWharf) : (d.onTowWharf h f).mbx = d.mbx := rfl
@[simp] theorem Device.onTowWharf_kpr (h : Nat) (f : TowWharf → TowWharf) : (d.onTowWharf h f).kpr = d.kpr := rfl

/-! ### setCell -/

@[simp] theorem Device.setCell_fields (id : Nat) (c : Cell) : (d.setCell id c).fields = d.fields := rfl
@[simp] theorem Device.setCell_epoch (id : Nat) (c : Cell) : (d.setCell id c).epoch = d.epoch := rfl
@[simp] theorem Device.setCell_freeCtr (id : Nat) (c : Cell) : (d.setCell id c).freeCtr = d.freeCtr := rfl
@[simp] theorem Device.setCell_boot (id : Nat) (c : Cell) : (d.setCell id c).boot = d.boot := rfl
@[simp] theorem Device.setCell_clk (id : Nat) (c : Cell) : (d.setCell id c).clk = d.clk := rfl
@[simp] theorem Device.setCell_flt (id : Nat) (c : Cell) : (d.setCell id c).flt = d.flt := rfl
@[simp] theorem Device.setCell_cores (id : Nat) (c : Cell) : (d.setCell id c).cores = d.cores := rfl
@[simp] theorem Device.setCell_twins (id : Nat) (c : Cell) : (d.setCell id c).twins = d.twins := rfl
@[simp] theorem Device.setCell_outputs (id : Nat) (c : Cell) : (d.setCell id c).outputs = d.outputs := rfl
@[simp] theorem Device.setCell_bandMap (id : Nat) (c : Cell) : (d.setCell id c).bandMap = d.bandMap := rfl
@[simp] theorem Device.setCell_bandEpoch (id : Nat) (c : Cell) : (d.setCell id c).bandEpoch = d.bandEpoch := rfl
@[simp] theorem Device.setCell_loads (id : Nat) (c : Cell) : (d.setCell id c).loads = d.loads := rfl
@[simp] theorem Device.setCell_eng (id : Nat) (c : Cell) : (d.setCell id c).eng = d.eng := rfl
@[simp] theorem Device.setCell_dec (id : Nat) (c : Cell) : (d.setCell id c).dec = d.dec := rfl
@[simp] theorem Device.setCell_whf (id : Nat) (c : Cell) : (d.setCell id c).whf = d.whf := rfl
@[simp] theorem Device.setCell_tow (id : Nat) (c : Cell) : (d.setCell id c).tow = d.tow := rfl
@[simp] theorem Device.setCell_tpt (id : Nat) (c : Cell) : (d.setCell id c).tpt = d.tpt := rfl
@[simp] theorem Device.setCell_cal (id : Nat) (c : Cell) : (d.setCell id c).cal = d.cal := rfl
@[simp] theorem Device.setCell_hsp (id : Nat) (c : Cell) : (d.setCell id c).hsp = d.hsp := rfl
@[simp] theorem Device.setCell_nvs (id : Nat) (c : Cell) : (d.setCell id c).nvs = d.nvs := rfl
@[simp] theorem Device.setCell_bus (id : Nat) (c : Cell) : (d.setCell id c).bus = d.bus := rfl
@[simp] theorem Device.setCell_mbx (id : Nat) (c : Cell) : (d.setCell id c).mbx = d.mbx := rfl
@[simp] theorem Device.setCell_kpr (id : Nat) (c : Cell) : (d.setCell id c).kpr = d.kpr := rfl

end Sys2Proof.Machine
end

