-- ==== Sys2Proof/Laws/Store.lean ====
section
/-! SUPPORT. Laws of the sparse tables: a read after a write, and the canonical form kept by every operation. -/

namespace Sys2Proof.Machine

variable {α : Type}

@[simp] theorem Store.get?_nil (k : Nat) : Store.get? ([] : Store α) k = none := rfl

/-- Removing a key leaves the others. -/
theorem Store.get?_erase (m : Store α) (k j : Nat) : Store.get? (Store.erase m k) j = if j = k then none else Store.get? m j := by
  induction m with
  | nil => show none = _; split <;> rfl
  | cons e t ih =>
    obtain ⟨i, v⟩ := e
    show Store.get? (if i = k then Store.erase t k else (i, v) :: Store.erase t k) j =
      if j = k then none else if i = j then some v else Store.get? t j
    by_cases hi : i = k
    · rw [if_pos hi, ih]
      by_cases hj : j = k
      · rw [if_pos hj, if_pos hj]
      · rw [if_neg hj, if_neg hj, if_neg (fun h => hj (h.symm.trans hi))]
    · rw [if_neg hi]
      show (if i = j then some v else Store.get? (Store.erase t k) j) = _
      rw [ih]
      by_cases hij : i = j
      · rw [if_pos hij, if_pos hij, if_neg (fun h => hi (hij.trans h))]
      · rw [if_neg hij, if_neg hij]

/-- Inserting a key that is not listed reads back, and leaves the others. -/
theorem Store.get?_insert (m : Store α) (k : Nat) (v : α) (j : Nat) (h : Store.get? m k = none) :
    Store.get? (Store.insert m k v) j = if j = k then some v else Store.get? m j := by
  induction m with
  | nil =>
    show (if k = j then some v else none) = if j = k then some v else none
    by_cases hj : j = k
    · rw [if_pos hj, if_pos hj.symm]
    · rw [if_neg hj, if_neg (fun h => hj h.symm)]
  | cons e t ih =>
    obtain ⟨i, w⟩ := e
    have h' : (if i = k then some w else Store.get? t k) = none := h
    have hi : i ≠ k := by intro x; rw [if_pos x] at h'; cases h'
    rw [if_neg hi] at h'
    show Store.get? (if k < i then (k, v) :: (i, w) :: t else (i, w) :: Store.insert t k v) j =
      if j = k then some v else if i = j then some w else Store.get? t j
    by_cases hlt : k < i
    · rw [if_pos hlt]
      show (if k = j then some v else if i = j then some w else Store.get? t j) = _
      by_cases hj : j = k
      · rw [if_pos hj, if_pos hj.symm]
      · rw [if_neg hj, if_neg (fun h => hj h.symm)]
    · rw [if_neg hlt]
      show (if i = j then some w else Store.get? (Store.insert t k v) j) = _
      rw [ih h']
      by_cases hij : i = j
      · rw [if_pos hij, if_neg (fun h => hi (hij.trans h)), if_pos hij]
      · rw [if_neg hij, if_neg hij]

/-- A set reads back under its key and leaves the other keys. -/
theorem Store.get?_set (m : Store α) (k : Nat) (v : α) (j : Nat) :
    Store.get? (Store.set m k v) j = if j = k then some v else Store.get? m j := by
  rw [Store.set, Store.get?_insert _ _ _ _ (by rw [Store.get?_erase]; simp), Store.get?_erase]
  split <;> rfl

@[simp] theorem Store.get?_set_self (m : Store α) (k : Nat) (v : α) : Store.get? (Store.set m k v) k = some v := by
  simp [Store.get?_set]

@[simp] theorem Store.getD_set_self (m : Store α) (k : Nat) (v d : α) : Store.getD (Store.set m k v) k d = v := by
  simp [Store.getD]

/-- A put reads back under its key and leaves the other keys. -/
theorem Store.getD_put [DecidableEq α] (m : Store α) (d : α) (k : Nat) (v : α) (j : Nat) :
    Store.getD (Store.put m d k v) j d = if j = k then v else Store.getD m j d := by
  unfold Store.put Store.getD
  by_cases h : v = d
  · rw [if_pos h, Store.get?_erase]; split <;> simp_all
  · rw [if_neg h, Store.get?_set]; split <;> simp_all

/-- A put leaves the other keys, whatever default they are read with. -/
theorem Store.get?_put_ne [DecidableEq α] (m : Store α) (d : α) (k : Nat) (v : α) (j : Nat) (h : j ≠ k) :
    Store.get? (Store.put m d k v) j = Store.get? m j := by
  unfold Store.put; split
  · rw [Store.get?_erase, if_neg h]
  · rw [Store.get?_set, if_neg h]

/-- The keys of a table in canonical form rise strictly. -/
theorem Store.wf_iff (m : Store α) : Store.wf m = true ↔ (m.map (·.1)).Pairwise (· < ·) := by
  induction m with
  | nil => simp [Store.wf]
  | cons e t ih =>
    cases t with
    | nil => simp [Store.wf]
    | cons e' t' =>
      obtain ⟨j, v⟩ := e; obtain ⟨k, w⟩ := e'
      simp only [Store.wf, Bool.and_eq_true, decide_eq_true_eq, ih, List.map_cons, List.pairwise_cons, List.mem_cons]
      constructor
      · rintro ⟨h, h1, h2⟩
        refine ⟨?_, h1, h2⟩
        rintro x (rfl | hx)
        · exact h
        · exact Nat.lt_trans h (h1 x hx)
      · rintro ⟨h, h1, h2⟩
        exact ⟨h k (Or.inl rfl), h1, h2⟩

/-- The keys left by erase are keys of the table. -/
theorem Store.erase_keys (m : Store α) (k : Nat) : ((Store.erase m k).map (·.1)).Sublist (m.map (·.1)) := by
  induction m with
  | nil => exact List.Sublist.refl _
  | cons e t ih =>
    obtain ⟨j, v⟩ := e
    simp only [Store.erase]; split
    · exact ih.trans (List.sublist_cons_self _ _)
    · exact ih.cons_cons j

@[simp] theorem Store.wf_erase (m : Store α) (k : Nat) (h : Store.wf m = true) : Store.wf (Store.erase m k) = true := by
  rw [Store.wf_iff] at *; exact h.sublist (Store.erase_keys m k)

@[simp] theorem Store.wf_keep (m : Store α) (p : Nat → Bool) (h : Store.wf m = true) : Store.wf (Store.keep m p) = true := by
  rw [Store.wf_iff] at *; exact h.sublist (List.filter_sublist.map _)

/-- A key of an insert is the new key or an old one. -/
theorem Store.mem_insert (m : Store α) (k : Nat) (v : α) (x : Nat) (h : x ∈ (Store.insert m k v).map (·.1)) :
    x = k ∨ x ∈ m.map (·.1) := by
  induction m with
  | nil => simpa [Store.insert] using h
  | cons e t ih =>
    obtain ⟨j, w⟩ := e
    simp only [Store.insert] at h
    split at h
    · simpa using h
    · rw [List.map_cons, List.mem_cons] at h
      rcases h with rfl | h
      · right; simp
      · rcases ih h with h | h
        · exact Or.inl h
        · right; simp only [List.map_cons, List.mem_cons]; exact Or.inr h

/-- A key that stays after erase is another one. -/
theorem Store.erase_ne (m : Store α) (k x : Nat) (h : x ∈ (Store.erase m k).map (·.1)) : x ≠ k := by
  induction m with
  | nil => simp [Store.erase] at h
  | cons e t ih =>
    obtain ⟨j, w⟩ := e
    simp only [Store.erase] at h
    split at h
    · exact ih h
    · rw [List.map_cons, List.mem_cons] at h
      rcases h with rfl | h
      · assumption
      · exact ih h

theorem Store.wf_insert (m : Store α) (k : Nat) (v : α) (h : Store.wf m = true) (hk : k ∉ m.map (·.1)) :
    Store.wf (Store.insert m k v) = true := by
  rw [Store.wf_iff] at *
  induction m with
  | nil => simp [Store.insert]
  | cons e t ih =>
    obtain ⟨j, w⟩ := e
    simp only [List.map_cons, List.pairwise_cons, List.mem_cons, not_or] at h hk
    simp only [Store.insert]
    split
    · rename_i hlt
      simp only [List.map_cons, List.pairwise_cons, List.mem_cons]
      refine ⟨?_, h⟩
      rintro x (rfl | hx)
      · exact hlt
      · exact Nat.lt_trans hlt (h.1 x hx)
    · rename_i hge
      simp only [List.map_cons, List.pairwise_cons]
      refine ⟨?_, ih h.2 hk.2⟩
      intro x hx
      rcases Store.mem_insert t k v x hx with rfl | hx
      · omega
      · exact h.1 x hx

@[simp] theorem Store.wf_set (m : Store α) (k : Nat) (v : α) (h : Store.wf m = true) : Store.wf (Store.set m k v) = true :=
  Store.wf_insert _ _ _ (Store.wf_erase m k h) (fun hk => Store.erase_ne m k k hk rfl)

@[simp] theorem Store.wf_put [DecidableEq α] (m : Store α) (d : α) (k : Nat) (v : α) (h : Store.wf m = true) :
    Store.wf (Store.put m d k v) = true := by
  unfold Store.put; split
  · exact Store.wf_erase m k h
  · exact Store.wf_set m k v h

end Sys2Proof.Machine
end

