-- ==== Sys2Proof/Laws/Ops.lean ====
section
/-! SUPPORT. For each shared operation what it can do: the parts and register fields it may change, the values it leaves, and the
canonical form it keeps. -/

namespace Sys2Proof.Machine

variable {a b c d : Device}

/-! ## What is kept, along a chain of operations -/

theorem Device.KeepsParts.refl (l : List Part) (d : Device) : d.KeepsParts l d := fun p _ => by cases p <;> rfl

theorem Device.SamePart.trans {p : Part} (h : a.SamePart b p) (k : b.SamePart c p) : a.SamePart c p := by
  cases p <;> exact Eq.trans k h

theorem Device.KeepsParts.trans {l m : List Part} (h : a.KeepsParts l b) (k : b.KeepsParts m c) : a.KeepsParts (l ++ m) c :=
  fun p hp => (h p (fun x => hp (List.mem_append_left _ x))).trans (k p (fun x => hp (List.mem_append_right _ x)))

theorem Device.KeepsParts.mono {l m : List Part} (h : a.KeepsParts l b) (hm : ∀ p, p ∈ l → p ∈ m) : a.KeepsParts m b :=
  fun p hp => h p (fun x => hp (hm p x))

theorem Device.KeepsRegs.refl (l : List Nat) (d : Device) : d.KeepsRegs l d := fun _ _ => rfl

theorem Device.KeepsRegs.trans {l m : List Nat} (h : a.KeepsRegs l b) (k : b.KeepsRegs m c) : a.KeepsRegs (l ++ m) c :=
  fun x hx => (k x (fun y => hx (List.mem_append_right _ y))).trans (h x (fun y => hx (List.mem_append_left _ y)))

theorem Device.KeepsRegs.mono {l m : List Nat} (h : a.KeepsRegs l b) (hm : ∀ k, k ∈ l → k ∈ m) : a.KeepsRegs m b :=
  fun k hk => h k (fun x => hk (hm k x))

/-- Device parts that differ in no register field. -/
theorem Device.keepsRegs_of_fields (h : b.fields = a.fields) : a.KeepsRegs [] b := fun _ _ => by rw [h]

/-- A field read whose key is kept reads the same. -/
theorem Device.KeepsRegs.get {l : List Nat} (h : a.KeepsRegs l b) (f : Fld) (i : Nat) (hk : f.key i ∉ l) : b.get f i = a.get f i := by
  unfold Device.get Store.getD; rw [h _ hk]

/-! ## Register fields -/

@[simp] theorem Device.get_put (d : Device) (f : Fld) (i v : Nat) : (d.put f i v).get f i = v % 2 ^ f.width := by
  unfold Device.get Device.put; rw [Store.getD_put]; exact if_pos rfl

theorem Device.get_put_ne (d : Device) (f g : Fld) (i j v : Nat) (h : g.key j ≠ f.key i) : (d.put f i v).get g j = d.get g j := by
  unfold Device.get Device.put Store.getD; rw [Store.get?_put_ne _ _ _ _ _ h]

theorem Device.put_keepsParts (d : Device) (f : Fld) (i v : Nat) : d.KeepsParts [] (d.put f i v) := fun p _ => by cases p <;> rfl

theorem Device.put_keepsRegs (d : Device) (f : Fld) (i v : Nat) : d.KeepsRegs [f.key i] (d.put f i v) :=
  fun _ hk => Store.get?_put_ne _ _ _ _ _ (fun x => hk (x ▸ List.mem_singleton.mpr rfl))

@[simp] theorem Device.get_bump (d : Device) (f : Fld) (i n : Nat) : (d.bump f i n).get f i = (d.get f i + n) % 2 ^ f.width :=
  d.get_put f i _

theorem Device.bump_keepsParts (d : Device) (f : Fld) (i n : Nat) : d.KeepsParts [] (d.bump f i n) := d.put_keepsParts f i _
theorem Device.bump_keepsRegs (d : Device) (f : Fld) (i n : Nat) : d.KeepsRegs [f.key i] (d.bump f i n) := d.put_keepsRegs f i _

/-! ## Events and reports -/

theorem Device.eventBit_keepsParts (d : Device) (f : Fld) (i b : Nat) : d.KeepsParts [] (d.eventBit f i b) :=
  fun p _ => by cases p <;> rfl

theorem Device.eventBit_keepsRegs (d : Device) (f : Fld) (i b : Nat) : d.KeepsRegs (evKeys f i) (d.eventBit f i b) :=
  (d.put_keepsRegs f i _).trans (Device.put_keepsRegs _ F.IRQ_STAT_EVT _ _)

theorem Device.event_keepsParts (d : Device) (f : Fld) (i : Nat) : d.KeepsParts [] (d.event f i) := d.eventBit_keepsParts f i 0
theorem Device.event_keepsRegs (d : Device) (f : Fld) (i : Nat) : d.KeepsRegs (evKeys f i) (d.event f i) := d.eventBit_keepsRegs f i 0

/-- With room in the report queue a report enters it and does nothing else. -/
theorem Device.reportAt_room (d : Device) (cls src code reporter : Nat) (p : Option Pound) (h : d.flt.queue.length < 256) :
    d.reportAt cls src code reporter p =
      { d with flt := { d.flt with queue := d.flt.queue ++ [{ cls, src, code, reporter, at? := p }] } } := if_pos h

/-- Without room a report is lost and counted. -/
theorem Device.reportAt_full (d : Device) (cls src code reporter : Nat) (p : Option Pound) (h : 256 ≤ d.flt.queue.length) :
    d.reportAt cls src code reporter p = (d.bump F.FLT_LOST_CNT_LOST).event F.FLT_EVT_LOST := if_neg (Nat.not_lt.mpr h)

theorem Device.reportAt_keepsParts (d : Device) (cls src code reporter : Nat) (p : Option Pound) :
    d.KeepsParts [.flt] (d.reportAt cls src code reporter p) := by
  unfold Device.reportAt; split
  · intro q hq; cases q <;> first | rfl | exact absurd (List.mem_singleton.mpr rfl) hq
  · exact ((d.bump_keepsParts _ _ _).trans (Device.event_keepsParts _ _ _)).mono (fun _ h => nomatch h)

theorem Device.reportAt_keepsRegs (d : Device) (cls src code reporter : Nat) (p : Option Pound) :
    d.KeepsRegs (F.FLT_LOST_CNT_LOST.key 0 :: evKeys F.FLT_EVT_LOST) (d.reportAt cls src code reporter p) := by
  unfold Device.reportAt; split
  · exact fun _ _ => rfl
  · exact (d.bump_keepsRegs _ _ _).trans (Device.event_keepsRegs _ _ _)

/-- A free value is drawn: only the counter of free values advances. -/
theorem Device.draw_keepsParts (d : Device) (kind : Nat) : d.KeepsParts [.freeCtr] (d.draw kind).2 := by
  intro q hq; cases q <;> first | rfl | exact absurd (List.mem_singleton.mpr rfl) hq

@[simp] theorem Device.when_true (d : Device) (f : Device → Device) : d.when true f = f d := rfl
@[simp] theorem Device.when_false (d : Device) (f : Device → Device) : d.when false f = d := rfl

/-! ## The step of one command -/

@[simp] theorem State.on_pending (s : State) (f : Device → Device) : (s.on f).pending = s.pending := by
  unfold State.on; split <;> rfl

@[simp] theorem State.always_pending (s : State) (f : Device → Device) : (s.always f).pending = s.pending := rfl
@[simp] theorem State.always_dev (s : State) (f : Device → Device) : (s.always f).dev = f s.dev := rfl

theorem State.on_running (s : State) (f : Device → Device) (h : s.Running) : (s.on f).dev = f s.dev := by
  unfold State.on; rw [h]; rfl

theorem State.on_reset (s : State) (f : Device → Device) (h : s.dev.boot.inReset = true) : s.on f = s := by
  unfold State.on; rw [h]; rfl

/-- A command whose whole effect is f completes in a running state with what f keeps and gives. -/
theorem does_of_on {i : Instr} {s : State} {f : Device → Device} {parts : List Part} {regs : List Nat} {post : Device → Prop}
    (e : exec i s = .next (s.on f)) (r : s.Running) (hp : s.dev.KeepsParts parts (f s.dev)) (hr : s.dev.KeepsRegs regs (f s.dev))
    (h : post (f s.dev)) : Does i s parts regs post :=
  ⟨s.on f, e, s.on_pending f, by rw [s.on_running f r]; exact hp, by rw [s.on_running f r]; exact hr, by rw [s.on_running f r]; exact h⟩

/-! ## The canonical form of registers and Berth memory -/

theorem Device.put_canonical (f : Fld) (i v : Nat) (h : d.StoresCanonical) : (d.put f i v).StoresCanonical :=
  ⟨Store.wf_put _ _ _ _ h.1, h.2⟩

theorem Device.resetRegs_canonical (l : List Reg) (h : d.StoresCanonical) : (d.resetRegs l).StoresCanonical :=
  ⟨Store.wf_keep d.fields (fun key => !l.any (fun r => r.holds key)) h.1, h.2⟩

theorem Device.setCell_canonical (id : Nat) (x : Cell) (h : d.StoresCanonical) : (d.setCell id x).StoresCanonical :=
  ⟨h.1, Store.wf_set _ _ _ h.2⟩

/-- Where no engine has had its turn in this pound the engines stand as at the start of any cycle of it. -/
theorem Device.atCycle_fresh (d : Device) (t : Nat) (h : d.eng.turns = []) : d.atCycle t = d := by
  have f : d.eng.flights.filter (fun f => f.fill || !false) = d.eng.flights := by simp
  have e : d.eng.engine.map (fun x => (x.1, { x.2 with hand := if x.2.hand.any (fun _ => false) then none else x.2.hand, used := x.2.used }))
      = d.eng.engine := by
    refine (List.map_congr_left (fun x _ => ?_)).trans (List.map_id _)
    obtain ⟨k, ⟨slice, hand, used⟩⟩ := x
    cases hand <;> rfl
  unfold Device.atCycle
  simp only [h, List.filter_nil, List.any_nil, forEach, List.foldl_nil, Bool.false_eq_true, if_false, f, e]
  rw [show ([] : List Turn) = d.eng.turns from h.symm]

end Sys2Proof.Machine
end

