-- ==== Sys2Proof/Laws/Bus.lean ====
section
/-! SUPPORT. The order of the ports' accesses: what the hold of a port reads after it is set, that setting it changes the bus alone, and
what a row's access is where nothing waits. -/

namespace Sys2Proof.Machine

@[simp] theorem Device.heldOf_setHeld (d : Device) (p : Port) (l : List BusAccess) : (d.setHeld p l).heldOf (portNo p) = l := by
  unfold Device.setHeld Device.heldOf Device.onBus
  exact (Store.getD_put _ _ _ _ _).trans (if_pos rfl)

theorem Device.setHeld_keepsParts (d : Device) (p : Port) (l : List BusAccess) : d.KeepsParts [.bus] (d.setHeld p l) := by
  intro q hq; cases q <;> first | rfl | exact absurd (List.mem_singleton.mpr rfl) hq

theorem Device.setHeld_keepsRegs (d : Device) (p : Port) (l : List BusAccess) : d.KeepsRegs [] (d.setHeld p l) :=
  Device.keepsRegs_of_fields rfl

theorem Device.issue_keepsParts (d : Device) (p : Port) (l : List BusAccess) : d.KeepsParts [.bus] (d.issue p l) := d.setHeld_keepsParts p _
theorem Device.issue_keepsRegs (d : Device) (p : Port) (l : List BusAccess) : d.KeepsRegs [] (d.issue p l) := d.setHeld_keepsRegs p _

/-- The register that an address reaches depends on the register fields alone. -/
theorem Device.regAt_of_fields {a b : Device} (h : b.fields = a.fields) (addr : Nat) : b.regAt addr = a.regAt addr := by
  have copy : ∀ r, b.regCopy r addr = a.regCopy r addr := fun r => by unfold Device.regCopy Device.get; rw [h]
  have find : ∀ l : List Reg, b.findReg addr l = a.findReg addr l := fun l => by
    induction l with
    | nil => rfl
    | cons r t ih => unfold Device.findReg; rw [copy, ih]
  unfold Device.regAt; simp only [find]

theorem Device.addrWaits_setHeld (d : Device) (q : Port) (l : List BusAccess) (addr : Nat) :
    (d.setHeld q l).addrWaits addr = d.addrWaits addr := by
  unfold Device.addrWaits; rw [Device.regAt_of_fields (show (d.setHeld q l).fields = d.fields from rfl)]; rfl

/-- An access waits or not by its clock and its target alone, not by what the ports hold. -/
theorem Device.waits_setHeld (d : Device) (p q : Port) (l : List BusAccess) (x : BusAccess) : (d.setHeld q l).waits p x = d.waits p x := by
  have e := d.addrWaits_setHeld q l
  cases x with
  | write a v u last => cases a with
    | none => rfl
    | some a => show ((d.setHeld q l).writeTarget p a).any _ = _; rw [funext e]; rfl
  | read a u => exact e a
  | frameRead a u last => cases a with
    | none => rfl
    | some a => exact e a
  | resetFormat => rfl

/-- An access issued by a port that holds nothing lands at once unless it waits, and what it leaves held is nothing. -/
theorem Device.landAll_issue (d : Device) (p : Port) (x : BusAccess) (h : d.bus.held = []) (w : d.waits p x = false) :
    (d.issue p [x]).landAll p = d.land p x := by
  have e : d.heldOf (portNo p) = [] := by unfold Device.heldOf; rw [h]; rfl
  have u : (d.setHeld p [x]).setHeld p [] = d := by
    obtain ⟨⟩ := d; rename_i b _ _; obtain ⟨⟩ := b; cases h
    cases p <;> rfl
  unfold Device.issue Device.landAll
  rw [e, List.nil_append, Device.heldOf_setHeld]
  show Device.landN p 1 _ = _
  unfold Device.landN
  rw [Device.heldOf_setHeld]
  simp only [Device.waits_setHeld, w, u]
  rfl

/-- A host frame or access that begins where nothing waits finds nothing to give up. -/
theorem Device.hspSelect_idle (d : Device) (h : d.PortsIdle) : d.hspSelect = d := by
  obtain ⟨hb, hr⟩ := h
  obtain ⟨⟩ := d; rename_i hs _ b _ _; obtain ⟨⟩ := b; obtain ⟨⟩ := hs; cases hb; cases hr; rfl

/-- A host access whose clock runs lands at its row where nothing waits. -/
theorem Device.access_host (d : Device) (x : BusAccess) (h : d.PortsIdle) (w : d.waits .host x = false) :
    d.access .host x = d.land .host x := by
  show (d.hspSelect.issue .host [x]).landAll .host = _
  rw [d.hspSelect_idle h, d.landAll_issue .host x h.1 w]

/-- A row that starts a clock lands nothing where no access was held. -/
theorem Device.landAfter_idle (d before : Device) (h : before.bus.held = []) : d.landAfter before = d := by
  have e : ∀ p, before.portWaits p = false := fun p => by unfold Device.portWaits Device.heldOf; rw [h]; rfl
  unfold Device.landAfter forEach
  simp only [List.foldl, e, Bool.false_and, Device.when_false]

end Sys2Proof.Machine
end

