-- ==== Sys2Proof/Machine/Pins.lean ====
section
/-! DEFINITION. What the outside observes at the pins, computed from the state: lanes, clock outputs and strobes, time, the serial ports,
supply control and interrupts, with their states in reset and without supply, and what Keeper firmware sends to the flash (R29-R32, R51,
R134, R226, R240, R254, R260, R295, R299, R311, R312, R316).
`supplied` tells whether VDD_AON and VDDIO are in range; outside power-on reset they are (R44, R51). -/

namespace Sys2Proof.Machine

/-- A single-ended output. -/
inductive Level where
  | highZ
  | low
  | high
  deriving DecidableEq, Repr

/-- Every output is in its Unpowered state (R51). (DEDUCED: log entry 144) -/
def Device.unpowered (d : Device) (supplied : Bool) : Bool := d.boot.powerOn && !supplied

/-! ## Lanes (R31, R51, R254, R256, R260, R261, R263, R269) -/

/-- What LANE_TX carries in a pound: nothing, electrical idle, or 264 line bits, first bit first. -/
inductive LaneOut where
  | undriven
  | idle
  | line (bits : List Bool)
  deriving DecidableEq, Repr

/-- The payload of the training marker of lane n: MARK, POUND8, TSTATE, LANE_IDX, WIDTH (R260). -/
def Device.marker (d : Device) (n tstate : Nat) : BitVec 64 :=
  BitVec.ofNat 24 0x5AC396 ++ d.tow.pound.extractLsb' 0 8 ++ BitVec.ofNat 4 tstate ++ BitVec.ofNat 2 (d.laneIdx n)
    ++ BitVec.ofNat 2 (d.wharfWidth (d.wharfOf n)) ++ BitVec.ofNat 24 0

/-- The line bits of lane n in the present pound, before TX_INV: its frame; or the training pattern, with TSTATE 1 until READY and with
TSTATE 2 from there until the boundary at which the first frame leaves. -/
def Device.laneLine (d : Device) (n : Nat) : List Bool :=
  let x := d.lane n
  let st := d.laneState n
  match x.frame with
  | some f => if framing st then frameLine x.scr.toNat f else trainingLine x.prbs.toNat (d.marker n 1)
  | none => trainingLine x.prbs.toNat (d.marker n (if framing st || st == 3 then 2 else 1))

/-- LANE_TX of lane n: idle in reset and in the states that send nothing; TX_INV inverts what is sent (R263). -/
def Device.laneTx (d : Device) (supplied : Bool) (n : Nat) : LaneOut :=
  if d.unpowered supplied then .undriven
  else if d.boot.inReset || !(framing (d.laneState n) || training (d.laneState n) (d.lane n).shed) then .idle
  else .line ((d.laneLine n).map (· ^^ d.is F.LANE_CTRL_TX_INV n))

/-- The drive of LANE_TX: the word of LANE_TX_EQ that the lane has taken (R265). -/
def Device.laneDrive (d : Device) (n : Nat) : Word := (d.lane n).eq

/-! ## Clocks, strobes and time (R29, R30, R51, R77, R137, R226, R240, R246) -/

/-- A clock output: undriven, parked at common mode, or running on a divider, with _P and _N swapped or not. -/
inductive ClockOut where
  | undriven
  | parked
  | running (divider : Nat) (swapped : Bool)
  deriving DecidableEq, Repr

/-- COUTn: it runs on output A (2c) or B (2c + 1) of LOOPc; INVERT swaps its balls (R142). -/
def Device.cout (d : Device) (supplied : Bool) (n : Nat) : ClockOut :=
  if d.unpowered supplied then .undriven
  else if d.boot.inReset || d.outputParked n then .parked
  else match (d.output n).behind with
    | some v => .running v (d.is F.COUT_DRV_INVERT n)
    | none => .parked

/-- AUXA (0) or AUXB (1): parked while closed, and until MPL1 runs. -/
def Device.aux (d : Device) (supplied : Bool) (k : Nat) : ClockOut :=
  if d.unpowered supplied then .undriven
  else if d.boot.inReset || d.blockClosed (112 + k) || d.domStopped (155 + k) then .parked else .running k false

/-- The frequency of an AUX output in Hz, as a ratio: 5 GHz over the divider in force, in its first opening that of the register (R77). -/
def Device.auxHz (d : Device) (k : Nat) : Nat × Nat := (5000000000 * 2 ^ 24, auxClamp (Store.getD d.clk.auxDiv k (d.auxDivReg k)))
/-- The lowest frequency of its sweep, and the sweep rate in Hz, while spread spectrum is on (R78). -/
def Device.auxSweep (d : Device) (k : Nat) : Option ((Nat × Nat) × Nat) :=
  let x := Store.getD d.clk.auxSsc k (d.auxSscReg k)
  if bit x 13 then some (((d.auxHz k).1 * (1000 - bits x 12 8), (d.auxHz k).2 * 1000), 1000 * (30 + bits x 7 0)) else none

/-- ALIGNn_P; the line is undriven without supply, and low in reset and while the output is closed (R138). INVERT swaps it with ALIGNn_N
(R142). -/
def Device.alignOut (d : Device) (supplied : Bool) (n : Nat) : Level :=
  if d.unpowered supplied then .highZ
  else if d.boot.inReset || d.outputClosed n then .low
  else if (d.output n).high.isSome != d.is F.COUT_DRV_INVERT n then .high else .low
/-- The divider whose falling edge at the balls the last edge of ALIGNn waited for; none: it stood at the pound boundary (R137). -/
def Device.alignRetimed (d : Device) (n : Nat) : Option Nat := (d.output n).edgeBy

/-- PPS_OUT. -/
def Device.ppsOut (d : Device) (supplied : Bool) : Level :=
  if d.unpowered supplied then .highZ else if !d.boot.inReset && d.tow.ppsHigh.isSome then .high else .low

/-- TICK_OUT. -/
inductive TickOut where
  | undriven
  | parked
  | pulse (highNs : Nat)
  deriving DecidableEq, Repr

/-- The high time of TICK_OUT in this pound: 4 ns for 0, 12 ns for 1, 8 ns for the marker (R226, R227). -/
def Device.tickOut (d : Device) (supplied : Bool) : TickOut :=
  if d.unpowered supplied then .undriven
  else if d.boot.inReset then .parked
  else match d.tow.tickSymbol with
    | some 0 => .pulse 4
    | some 1 => .pulse 12
    | some _ => .pulse 8
    | none => .parked

/-- TIME_TX: electrical idle, or the link with the frame in progress, preamble to frame check sequence. -/
inductive TimeOut where
  | undriven
  | idle
  | link (frame : Option (List Byte))
  deriving DecidableEq, Repr

/-- TIME_TX: idle in reset and while the TIME block is closed, once a frame in progress has ended as sent (R71, R247). -/
def Device.timeTx (d : Device) (supplied : Bool) : TimeOut :=
  let frame := d.tpt.wire.bind d.bufferFrame
  if d.unpowered supplied then .undriven
  else if d.boot.inReset || (!d.tptOpen && frame.isNone) then .idle else .link frame

/-- XO0 or XO1 drives a crystal: in reset one that is fitted, and in crystal mode (R29). -/
def Device.xoDrives (d : Device) (i : Nat) (fitted : Bool) : Bool := fitted && (d.boot.inReset || d.xiMode i == 2)

/-! ## Serial ports (R32, R51, R299-R310, R312-R317) -/

/-- HSP_D in a frame that the device answers, SCLK cycle by cycle after the host's phases; none: high impedance (R51, R299). -/
def Device.hspD (d : Device) (supplied : Bool) : List (Option Nat) :=
  if d.unpowered supplied || d.boot.inReset then [] else d.hsp.line
/-- HSP_RCLK, given HSP_SCLK and whether the device drives a phase: it follows HSP_SCLK there in return-clock mode (R310). -/
def Device.hspRclk (d : Device) (supplied sclk driving : Bool) : Level :=
  if d.unpowered supplied then .highZ
  else if !d.boot.inReset && d.is F.HSP_CFG_RCLK_EN && driving && sclk then .high else .low

/-- What NVS_D carries in a transaction, SCLK cycle by cycle, as values on the lanes driven; none: the device drives nothing. A byte goes
most significant bit first (R312). -/
def FlashTxn.line (t : FlashTxn) : List (Option Nat) :=
  let phase := fun (w : Nat) (l : List Bool) => (laneCycles w (l.length / w) l).map some
  phase t.lanes.1 (msbBits 8 t.cmd) ++ phase t.lanes.2.1 (t.addr.flatMap (fun b => msbBits 8 b.toNat)) ++
    List.replicate t.dummy none ++ phase t.lanes.2.2 (t.out.flatMap (fun b => msbBits 8 b.toNat)) ++
    List.replicate (8 * t.receives / t.lanes.2.2) none

/-- NVS_SELk_N between accesses and in a transaction: high impedance, where the pull-up holds it high, without supply, in reset, while the
block is closed, and with BOOTSEL 0b01, where the port is never driven (R32, R33, R51, R71, R312). -/
def Device.nvsSel (d : Device) (supplied : Bool) (k : Nat) (txn : Option FlashTxn) : Level :=
  if d.unpowered supplied || d.boot.inReset || !d.nvsOpen || d.noFlash then .highZ
  else if txn.any (fun t => t.sel == k) then .low else .high
/-- NVS_SCLK, given its phase in a transaction: low between transactions, in reset, and in a block that is closed (R32, R51, R71); not
driven with BOOTSEL 0b01 outside reset (R33). -/
def Device.nvsSclk (d : Device) (supplied high : Bool) : Level :=
  if d.unpowered supplied then .highZ
  else if d.boot.inReset then .low
  else if d.noFlash then .highZ
  else if d.nvsOpen && high then .high else .low
/-- NVS_D in a transaction; high impedance in reset, without supply, and while the port is closed (R32, R51, R71). -/
def Device.nvsD (d : Device) (supplied : Bool) (txn : FlashTxn) : List (Option Nat) :=
  if d.unpowered supplied || d.boot.inReset || !d.nvsOpen || d.noFlash then [] else txn.line
/-- NVS_SCLK runs at 200 MHz / (2 × (DIV + 1)) for host entries, and at the rate Keeper firmware sets in its sequences (R315, R316). -/
def Device.nvsHz (d : Device) (txn : FlashTxn) : Nat :=
  match txn.mhz with
  | some m => m * 1000000
  | none => 200000000 / (2 * (d.get F.NVS_CTRL_DIV + 1))
/-- Read data is sampled so many ns after the rising edge of NVS_SCLK (R315). -/
def Device.nvsSampleNs (d : Device) : Nat := 5 * d.get F.NVS_CTRL_SAMPLE_DLY

/-! ## What Keeper firmware sends to the flash (R295, R311, R316) -/

/-- The flash commands that Keeper firmware uses (R316). -/
inductive FlashCmd where
  | readStatus | resetEnable | reset | readSfdp | writeEnable | read | fastRead | quadRead | pageProgram | sectorErase
  deriving DecidableEq, Repr

/-- The code of a command; those with an address have a second one for four address bytes (R316). -/
def FlashCmd.code (four : Bool) : FlashCmd → Nat
  | .readStatus => 0x05
  | .resetEnable => 0x66
  | .reset => 0x99
  | .readSfdp => 0x5A
  | .writeEnable => 0x06
  | .read => if four then 0x13 else 0x03
  | .fastRead => if four then 0x0C else 0x0B
  | .quadRead => if four then 0x6C else 0x6B
  | .pageProgram => if four then 0x12 else 0x02
  | .sectorErase => if four then 0x21 else 0x20

/-- The bytes of address of a command. -/
def FlashCmd.addrBytes (four : Bool) : FlashCmd → Nat
  | .readStatus | .resetEnable | .reset | .writeEnable => 0
  | .readSfdp => 3
  | _ => if four then 4 else 3

/-- Dummy cycles of a command: eight for the fast reads and SFDP, as JESD216 has them. (PRESUMED: log entry 146) -/
def FlashCmd.dummy : FlashCmd → Nat
  | .readSfdp | .fastRead | .quadRead => 8
  | _ => 0

/-- The rate of a command: 100 MHz for image reads, programs and erases, 25 MHz for SFDP and first reads; so too what comes before them.
(PRESUMED: log entry 146) -/
def FlashCmd.mhz : FlashCmd → Nat
  | .fastRead | .quadRead | .pageProgram | .sectorErase => 100
  | _ => 25

/-- One transaction of the Keeper, on NVS_SEL0_N; four lanes carry the data of a quad read. -/
def FlashCmd.txn (c : FlashCmd) (four : Bool) (addr : Nat) (out : List Byte) (receives : Nat) : FlashTxn :=
  { sel := 0, lanes := (1, 1, if c = .quadRead then 4 else 1), cmd := c.code four, addr := (leBytes (c.addrBytes four) addr).reverse,
    dummy := c.dummy, out, receives, mhz := some c.mhz }

/-- Quad mode is enabled by the method of the basic parameter table, as JESD216 has its codes: none is needed, or a status register is
written after a write enable. (PRESUMED: log entry 146) -/
def quadEnable (method : Nat) : List FlashTxn :=
  let write := fun (code : Nat) (out : List Byte) => [FlashCmd.writeEnable.txn false 0 [] 0,
    { sel := 0, lanes := (1, 1, 1), cmd := code, addr := [], dummy := 0, out, receives := 0, mhz := some 25 }]
  match method with
  | 1 | 4 | 5 => write 0x01 [0, 2]
  | 2 => write 0x01 [0x40]
  | 3 => write 0x3E [0x80]
  | 6 => write 0x31 [2]
  | _ => []

/-- Step 2 of start-up: the status is read until the busy bit clears, or for 5 s; then the flash is reset, the header and the basic parameter
table of SFDP are read, and quad mode is enabled by a method that is recognised (R316). (PRESUMED: log entry 146) -/
def probeTxns (p : FlashProbe) : List FlashTxn :=
  List.replicate p.polls (FlashCmd.readStatus.txn false 0 [] 1) ++
    (if p.idle then
      [FlashCmd.resetEnable.txn false 0 [] 0, FlashCmd.reset.txn false 0 [] 0, FlashCmd.readSfdp.txn false 0 [] 16] ++
        (if p.sfdp then FlashCmd.readSfdp.txn false 0x30 [] 64 :: (if quadMethod p.method then quadEnable p.method else []) else [])
    else [])

/-- A read of an image: on four lanes, or on one where quad is unavailable. -/
def imageRead (m : FlashMode) (base bytes : Nat) : FlashTxn :=
  (if m.quad then FlashCmd.quadRead else FlashCmd.fastRead).txn m.four base [] bytes

/-- The flash addresses of the images, with their sizes: copies A and B, the boot configuration, the patch (R311). -/
def flashMap : List (Nat × Nat) := [(0, 0x20000), (0x20000, 0x20000), (0x40000, 0x10000), (0x80000, 0x20000)]

/-- A program or erase: write enable, the command, the status until the busy bit clears (`polls` reads). -/
def FlashCmd.modify (c : FlashCmd) (four : Bool) (polls addr : Nat) (out : List Byte) : List FlashTxn :=
  [FlashCmd.writeEnable.txn four 0 [] 0, c.txn four addr out 0] ++ List.replicate polls (FlashCmd.readStatus.txn four 0 [] 1)

/-- The bytes of a page of an image. -/
def pageBytes (m : Image) (page : Nat) : List Byte := (List.range 256).map (fun k => BitVec.ofNat 8 (imgByte m (256 * page + k)))

/-- One try of a store of an image in copy 1 (A) or 2 (B): 32 sectors are erased, 512 pages programmed in ascending order, and the copy is
read back (R295). `polls` is how often the status is read after each step. (PRESUMED: log entry 146) -/
def storeTxns (mode : FlashMode) (polls copy : Nat) (m : Image) : List FlashTxn :=
  let base := if copy = 1 then 0 else 0x20000
  (List.range 32).flatMap (fun k => FlashCmd.sectorErase.modify mode.four polls (base + 0x1000 * k) []) ++
  (List.range 512).flatMap (fun p => FlashCmd.pageProgram.modify mode.four polls (base + 256 * p) (pageBytes m p)) ++
  [imageRead mode base 0x20000]

/-- The transactions of one part of a Keeper sequence: the first read of an image takes its header (R316). (PRESUMED: log entry 146) -/
def FlashSeq.txns (mode : FlashMode) (polls : Nat) : FlashSeq → List FlashTxn
  | .probe p => probeTxns p
  | .first base => [FlashCmd.read.txn mode.four base [] 16]
  | .image base bytes => [imageRead mode base bytes]
  | .store copy m => storeTxns mode polls copy m
/-- The transactions of the last Keeper sequence. -/
def Device.keeperTxns (d : Device) (polls : Nat) : List FlashTxn :=
  d.nvs.keeper.flatMap (·.txns (d.nvs.flash.getD { four := false, quad := false }) polls)

/-! ## Supply control and interrupts (R36, R51, R350, R351) -/

/-- The code on VID[5:0]; none: high impedance. -/
def Device.vidPins (d : Device) (supplied : Bool) : Option Nat :=
  if d.unpowered supplied then none else some (if d.boot.inReset then 0x28 else d.get F.PWR_OP_STAT_VID)
/-- IRQ_N: driven low or released. -/
def Device.irqPin (d : Device) (supplied : Bool) : Level :=
  if !d.unpowered supplied && !d.boot.inReset && d.irqN then .low else .highZ
/-- FAULT_N: driven low or released. -/
def Device.faultPin (d : Device) (supplied : Bool) : Level := if !d.unpowered supplied && d.faultN then .low else .highZ
/-- TDO outside a shift of the TAP (R32). -/
def tdo : Level := .highZ

end Sys2Proof.Machine
end

