-- ==== Sys2Proof/Laws/Pins.lean ====
section
/-! SUPPORT. The line coding gives back what was sent. -/

namespace Sys2Proof.Machine

/-- A far end whose history is the line's reads back the bits sent (R254). -/
theorem descramble_scramble (h : Nat) (x : List Bool) : descramble h (scramble h x) = x := by
  induction x generalizing h with
  | nil => rfl
  | cons b t ih => simp [scramble, descramble, ih]

/-- The scrambler changes no count of bits. -/
theorem length_scramble (h : Nat) (x : List Bool) : (scramble h x).length = x.length := by
  induction x generalizing h with
  | nil => rfl
  | cons b t ih => simp [scramble, ih]

end Sys2Proof.Machine
end

