-- ==== Sys2Proof/Laws/Record.lean ====
section
/-! SUPPORT. The effect record that the device makes is the word of R167, field by field. -/

namespace Sys2Proof.Machine

theorem toNat_append_add {m n : Nat} (x : BitVec m) (y : BitVec n) : (x ++ y).toNat = x.toNat * 2 ^ n + y.toNat := by
  rw [BitVec.toNat_append, ← Nat.shiftLeft_add_eq_or_of_lt y.isLt, Nat.shiftLeft_eq]

/-- Each field of a record stands at its place (R167). -/
theorem recordBits_toNat (code : BitVec 8) (src : BitVec 2) (op : BitVec 4) (refresh : Bool) (berth : BitVec 17) (gen seq : BitVec 16)
    (e : BitVec 24) (t : BitVec 32) :
    (recordBits code src op refresh berth gen seq e t).toNat = code.toNat * 2 ^ 120 + src.toNat * 2 ^ 118 + op.toNat * 2 ^ 114 +
      refresh.toNat * 2 ^ 112 + berth.toNat * 2 ^ 95 + gen.toNat * 2 ^ 72 + seq.toNat * 2 ^ 56 + e.toNat * 2 ^ 32 + t.toNat := by
  unfold recordBits
  simp only [toNat_append_add, BitVec.toNat_ofBool, BitVec.toNat_ofNat]
  ring

theorem cmdOp_lt (w : BitVec 128) : cmdOp w < 16 := Nat.mod_lt _ (by decide)
theorem cmdBerth_lt (w : BitVec 128) : cmdBerth w < 131072 := Nat.mod_lt _ (by decide)

/-- The record of a command is the word of R167 with its code, its GEN and its pound. -/
theorem Cmd.record_eq (c : Cmd) (code : Code) (gen : BitVec 16) (p : Pound) : c.record code gen p = effectWord c code gen p := by
  have h1 : c.src.val % 2 ^ 2 = c.src.val := Nat.mod_eq_of_lt c.src.isLt
  have h2 : cmdOp c.w1 % 2 ^ 4 = cmdOp c.w1 := Nat.mod_eq_of_lt (cmdOp_lt c.w1)
  have number : ∀ (x : BitVec 128) (n : Nat), x.toNat = n → x = BitVec.ofNat 128 n := fun x n e => by
    rw [← e, BitVec.ofNat_toNat, BitVec.setWidth_eq]
  refine number _ _ ((recordBits_toNat _ _ _ _ _ _ _ _ _).trans ?_)
  have g1 : (if cmdOp c.w1 == 0 || cmdOp c.w1 == 8 then (0 : BitVec 17) else BitVec.ofNat 17 (cmdBerth c.w1)).toNat * 2 ^ 95 +
      (if cmdOp c.w1 == 0 || cmdOp c.w1 == 8 then (0 : BitVec 16) else gen).toNat * 2 ^ 72 =
      if cmdOp c.w1 = 0 ∨ cmdOp c.w1 = 8 then 0 else cmdBerth c.w1 * 2 ^ 95 + gen.toNat * 2 ^ 72 := by
    by_cases plain : cmdOp c.w1 = 0 ∨ cmdOp c.w1 = 8 <;> simp [plain, cmdBerth_lt]
  have g2 : (if cmdNoTarget c.w1 then c.acc.truncate 32 else c.t.truncate 32).toNat =
      (if cmdOp c.w1 = 8 ∨ cmdOp c.w1 = 9 then c.acc.toNat else c.t.toNat) % 2 ^ 32 := by
    unfold cmdNoTarget
    by_cases none : cmdOp c.w1 = 8 ∨ cmdOp c.w1 = 9 <;> simp [none]
  have g3 : c.refresh.toNat * 2 ^ 112 = if c.refresh then 2 ^ 112 else 0 := by cases c.refresh <;> simp
  have g4 : (BitVec.ofNat 8 code).toNat = code % 256 := rfl
  have g5 : (BitVec.ofNat 2 c.src.val).toNat = c.src.val := h1
  have g6 : (BitVec.ofNat 4 (cmdOp c.w1)).toNat = cmdOp c.w1 := h2
  have g7 : (p.truncate 24).toNat = p.toNat % 2 ^ 24 := by simp
  rw [Nat.add_assoc (_ + _) (_ * 2 ^ 95) (_ * 2 ^ 72), g1, g2, g3, g4, g5, g6, g7]

end Sys2Proof.Machine
end

