-- ==== Sys2Proof/Tests/Base.lean ====
section
/-! SUPPORT. States the tests start from. -/

namespace Sys2Proof.Tests

open Sys2Proof.Machine

/-- A running device with every register at its reset value. -/
def base : State := { dev := { boot := { inReset := false, powerOn := false } }, pending := [] }

/-- A state whose device is changed. -/
def with' (s : State) (f : Device → Device) : State := { s with dev := f s.dev }

/-- A running device, changed. -/
def on (f : Device → Device) : State := with' base f

/-- A command word with IMM set: opcode, Berth and the low bits. -/
def word (op berth low : Nat) : BitVec 128 := BitVec.ofNat 128 (op * 2 ^ 124 + 2 ^ 123 + berth % 2 ^ 17 * 2 ^ 103 + low)

/-- A pending host command for pound t. -/
def cmd (w : BitVec 128) (t : Nat) (second : Nat := 0) : Cmd :=
  { w1 := w, w2 := BitVec.ofNat 64 second, src := 0, seq := 1, t := BitVec.ofNat 64 t, acc := 0 }

/-- Densities that alternate give trims inside the range, whichever way a trim moves the density. -/
theorem trims_alternate : (List.replicate 16 [0, 65536, 0, 65536, 0, 65536, 0, 65536, 32768]).map (fun (l : List Nat) => searchTrim 8 0 (l.take 8)) =
    List.replicate 16 (if Config.trimRaises then 170 else 85) := by
  have h : searchTrim 8 0 [0, 65536, 0, 65536, 0, 65536, 0, 65536] = if Config.trimRaises then 170 else 85 := by
    simp only [searchTrim]; cases Config.trimRaises <;> decide
  rw [List.map_replicate, ← h]; rfl

/-- The register of a CRC stays below 2^32. -/
theorem crcRefl_lt (poly k c : Nat) (hp : poly < 2 ^ 32) (hc : c < 2 ^ 32) : crcRefl poly k c < 2 ^ 32 := by
  induction k generalizing c with
  | zero => exact hc
  | succ k ih =>
    simp only [crcRefl]
    split
    · exact ih _ (Nat.xor_lt_two_pow (by omega) hp)
    · exact ih _ (by omega)

theorem crc32cStep_lt (l : List Byte) (c : Nat) (hc : c < 2 ^ 32) : crc32cStep c l < 2 ^ 32 := by
  induction l generalizing c with
  | nil => exact hc
  | cons b t ih => exact ih _ (crcRefl_lt _ _ _ (by decide) (Nat.xor_lt_two_pow hc (by have := b.isLt; omega)))

theorem crc32c_lt (l : List Byte) : crc32c l < 2 ^ 32 := Nat.xor_lt_two_pow (crc32cStep_lt l _ (by decide)) (by decide)

theorem leNat_leBytes (x : Nat) (h : x < 2 ^ 32) : leNat (leBytes 4 x) = x := by
  simp only [leBytes, leNat, BitVec.toNat_ofNat]
  omega

/-- A patch image without a body, of version 3. -/
def patchHead : List Byte := [0x50, 0x41, 0x54, 0x48, 1, 0, Config.romRev, 0, 0, 0, 0, 0, 3, 0, 0, 0]
def patchSample : List Byte := patchHead ++ leBytes 4 (crc32c patchHead)
theorem patchSample_valid : patchValid patchSample = true := by
  have h : leAt patchSample 16 4 = crc32c patchHead := leNat_leBytes _ (crc32c_lt _)
  have t : patchSample.take 16 = patchHead := rfl
  have r : leAt patchSample 6 1 = Config.romRev.toNat := rfl
  have n : leAt patchSample 8 4 = 0 := rfl
  simp only [patchValid, n, Nat.add_zero, h, t, r, beq_self_eq_true, Bool.and_true]
  rfl

end Sys2Proof.Tests
end

