-- ==== Sys2Proof/WellFormed.lean ====
section
/-! DEFINITION. Which commands can come from the world: bounds on the operands that stand for physical quantities and for byte
sequences of a bounded length. The meanings are total without them. -/

namespace Sys2Proof

/-- A flash copy lists bytes inside 128 KiB (R311). -/
def copyInRange (m : List (Nat × Byte)) : Bool := m.all (fun e => decide (e.1 < 0x20000))

/-- A fraction of a pound that a stamp of n equal steps to the pound can show, rounded down to 24 bits (R219).
(DESIGN CHOICE: log entry 163) -/
def stampGrid (n : Nat) (f : BitVec 24) : Bool := decide (f.toNat = (f.toNat * n + (2 ^ 24 - 1)) / 2 ^ 24 * 2 ^ 24 / n)

/-- The operands of a command are values the device can meet. (DESIGN CHOICE: log entry 7) -/
def Instr.wellFormed : Instr → Bool
  | .poundBoundary raw dith _ | .poundJump raw dith _ =>
    decide (raw.length ≤ 16) && decide (dith.length ≤ 16) && raw.all (fun x => decide (x < 32768)) && dith.all (fun x => decide (x < 256))
  | .laneFrameReceive _ _ _ reading => decide (reading < 10240)
  | .tickInEdge reading high => decide (reading < 10240) && decide (high ≤ 16000)
  | .ppsInEdge reading => decide (reading < 10240)
  | .timeRxFrame frame _ f _ => decide (frame.length ≤ 1522) && stampGrid 160 f
  | .ptpDelayReq f _ | .timeTxDone _ f _ => stampGrid 160 f
  | .mbxCaptureDone f => stampGrid 10 f
  | .judgeWindow _ count => decide (count < 2 ^ 36)
  | .bandSearchDone _ _ fKhz => decide (fKhz < 2 ^ 26)
  | .decisionLookup (some e) => decide (e < 8192)
  | .hspRead _ _ busy _ _ _ | .hspStatus _ busy _ => decide (busy < 2 ^ 24)
  | .nvsEntry rx => decide (rx.length ≤ 8192)
  | .nvsPoll rx => decide (rx.length ≤ 8)
  | .patchLoad (some image) found => decide (image.length ≤ 0x20000) && decide (16 ≤ found.mbit) && decide (found.mbit ≤ 256)
  | .patchLoad none found => decide (16 ≤ found.mbit) && decide (found.mbit ≤ 256)
  | .keeperResume (some image) => decide (image.length ≤ 0x20000)
  | .calibrationLoad (some flash) => copyInRange flash.a && copyInRange flash.b && decide (flash.boot.length ≤ 0x10000)
  | .calRunDone (.density bins grid) => decide (bins.length ≤ 2049) && decide (grid.length ≤ 3)
  | .calRunDone (.mean readings) => decide (readings.length ≤ 65536) && readings.all (fun x => decide (x.1.natAbs < 2 ^ 20))
  | .calRunDone (.tunes readings) => decide (readings.length ≤ 4096) && readings.all (fun x => decide (x.1 < 4096))
  | .calRunDone (.trims ones) =>
    decide (ones.length ≤ 16) && ones.all (fun l => decide (l.length ≤ 9) && l.all (fun x => decide (x ≤ 65536)))
  | .calStoreDone (.written a b back again) => copyInRange a && copyInRange b && copyInRange back && copyInRange again
  | _ => true

end Sys2Proof
end

