-- ==== Sys2Proof/Tests/Slice0.lean ====
section
/-! SUPPORT. The tests: worked examples of the spec, the refusals of WellFormed, and for every clause of every statement a state and
operands that meet its hypotheses. -/

namespace Sys2Proof.Tests

open Sys2Proof.Machine

/-! ## Worked examples of the spec -/

/-- Berth 9,605 of R147 and R174. -/
theorem test_bank_and_owner : bankOf 9605 = 17 ∧ ownerOf 9605 = 4 ∧ ownerOf 16547 = 8 := by decide

/-- 06_berth_ledger.md, worked example, step 2. -/
theorem test_phase_step2 : phaseAt 5000000 0x6000000000000000 0x4CCCCCCCCCCCCCCCCD 5000010 = 0x6000000000000002 := by decide

/-- 06_berth_ledger.md, worked example, step 3. -/
theorem test_phase_step3 : phaseAt 5000000 0x6000000000000000 0x4CCCCCCCCCCCCCCCCD 5000013 = 0xC666666666666669 := by decide

/-- 06_berth_ledger.md, worked example, the Barge of step 3. -/
theorem test_barge_bits :
    bargeBits false false false 12 5 5 0x4E6666666666666666 0xC666666666666669 = 0x1000C2AA73333333333633333330#112 := by decide

set_option maxRecDepth 20000 in
/-- 10_wharves_lanes.md, example after R255: header and slots of the frame of pound 5,000,008. -/
theorem test_frame_bits :
    (frameBits 5000008 7 0x1000C2AA73333333333633333330 0).extractLsb' 128 128 =
      0x48701000C2AA73333333333633333330#128 := by decide

set_option maxRecDepth 20000 in
/-- A frame that this model builds passes its own CRC test, and one with a bit changed does not (R256). -/
theorem test_frame_crc : frameGood (frameBits 5000008 7 9 0) = true ∧
  frameGood (frameBits 5000008 7 9 0 ^^^ 0x10000) = false := by
  decide

/-- 15_page_map.md, example after R367: addresses of lane 201, wharf 200 and engine 19. -/
theorem test_addresses : F.LANE_CTRL_LANE_EN.addr 201 = 0x72120 ∧ F.WHF_CFG_MODE.addr 200 = 0x72200 ∧
    F.ENG_CL_EXEC_CNT_EXECUTED.addr 19 = 0x820AC := by decide

/-- 08_decisions.md, example of R204: the stamps of window 5. -/
theorem test_window_example :
    (let d : Device := { dec := { cleared := true, winForce := [(40, 1000000), (42, 0x80000001), (43, 50), (45, 100)] } }
     (d.insideOcc 5 0 (1000000 * 2 ^ 24 + 0x800000), d.insideOcc 5 0 (1000050 * 2 ^ 24 + 0x7FFFFF),
      d.insideOcc 5 0 (1000050 * 2 ^ 24 + 0x800000), d.formOcc 5 1000101, d.formOcc 5 1000201))
    = (true, true, false, 1, 2) := by decide

/-- 13_register_rules.md, example of R333: the guarded write of CLK_REF_CTRL is held until its complement comes. -/
theorem test_guard_pair :
    (match exec (.guardPairWrite .host 0x2080 0x1D18C) base with
      | .next t => (match exec (.guardPairWrite .host 0x2480 0xFFFE2E73) t with
        | .next u => (t.dev.get F.CLK_REF_CTRL_SEL, u.dev.get F.CLK_REF_CTRL_SEL)
        | _ => (9, 9))
      | _ => (9, 9)) = (0, 1) := by decide

/-! ## The step and the queue -/

/-- Two commands run in the order in which they wait. -/
theorem test_queue_order :
    (match step { base with pending := [.commitRequest, .cfgScan] } with
      | .next t => (t.pending, t.dev.get F.CFG_CMD_COMMIT, t.dev.get F.CFG_STAT_SCANNING)
      | _ => ([], 9, 9)) = ([.cfgScan], 1, 0) := by decide

/-- The table gives no word to any row. -/
theorem test_decode_none : decodeTableWord 8 0 = none ∧ State.reset.withFetchWord 8 0 = State.reset := ⟨rfl, rfl⟩

/-- The state after reset reads the Reset values of 02_pins_power_startup.md and 03_clocks_domains.md. -/
theorem test_reset_values : State.reset.dev.get F.SYS_RESET_CAUSE_POWER_ON = 1 ∧
  State.reset.dev.get F.PWR_OP_CTRL_OP_REQ = 1 := by decide

/-! ## WellFormed: one ill-formed term for each check -/

theorem smoke_poundBoundary_raw : (Instr.poundBoundary (List.replicate 17 0) []).wellFormed = false := by decide
theorem smoke_poundBoundary_dith : (Instr.poundBoundary [] (List.replicate 17 0)).wellFormed = false := by decide
theorem smoke_poundBoundary_sample : (Instr.poundBoundary [32768] []).wellFormed = false := by decide
theorem smoke_poundBoundary_bits : (Instr.poundBoundary [] [256]).wellFormed = false := by decide
theorem smoke_poundJump : (Instr.poundJump [32768] []).wellFormed = false := by decide
theorem smoke_laneFrameReceive : (Instr.laneFrameReceive 0 true 0 10240).wellFormed = false := by decide
theorem smoke_tickInEdge_reading : (Instr.tickInEdge 10240 0).wellFormed = false := by decide
theorem smoke_tickInEdge_high : (Instr.tickInEdge 0 16001).wellFormed = false := by decide
theorem smoke_ppsInEdge : (Instr.ppsInEdge 10240).wellFormed = false := by decide
theorem smoke_timeRxFrame (l : List Byte) (h : l.length = 1523) : (Instr.timeRxFrame l true 0).wellFormed = false := by
  simp [Instr.wellFormed, h]
theorem smoke_judgeWindow : (Instr.judgeWindow 0 (2 ^ 36)).wellFormed = false := by decide
theorem smoke_bandSearchDone (c : Fin 16) (b : Byte) : (Instr.bandSearchDone c b (2 ^ 26)).wellFormed = false := rfl
theorem smoke_decisionLookup : (Instr.decisionLookup (some 8192)).wellFormed = false := by decide
theorem smoke_hspRead : (Instr.hspRead [] [] (2 ^ 24) false).wellFormed = false := by decide
theorem smoke_hspStatus : (Instr.hspStatus [] (2 ^ 24)).wellFormed = false := by decide
theorem smoke_nvsEntry (l : List (BitVec 4)) (h : l.length = 8193) : (Instr.nvsEntry l).wellFormed = false := by
  simp [Instr.wellFormed, h]
theorem smoke_nvsPoll : (Instr.nvsPoll (List.replicate 9 0)).wellFormed = false := by decide
theorem smoke_timeRxFrame_stamp : (Instr.timeRxFrame [] true 1).wellFormed = false := by decide
theorem smoke_ptpDelayReq : (Instr.ptpDelayReq 1).wellFormed = false := by decide
theorem smoke_timeTxDone : (Instr.timeTxDone 0 1).wellFormed = false := by decide
theorem smoke_mbxCaptureDone : (Instr.mbxCaptureDone 1).wellFormed = false := by decide
theorem smoke_patchLoad_small : (Instr.patchLoad none { mbit := 8 }).wellFormed = false := by decide
theorem smoke_patchLoad_large : (Instr.patchLoad (some []) { mbit := 512 }).wellFormed = false := by decide
/-- A fraction of R219 in steps of 100 ps: the first one after the boundary. -/
theorem test_stamp_grid : stampGrid 160 104857 = true ∧ stampGrid 160 104858 = false := by decide
theorem smoke_patchLoad (l : List Byte) (h : l.length = 0x20001) : (Instr.patchLoad (some l)).wellFormed = false := by
  simp [Instr.wellFormed, h]
theorem smoke_keeperResume (l : List Byte) (h : l.length = 0x20001) : (Instr.keeperResume (some l)).wellFormed = false := by
  simp [Instr.wellFormed, h]
theorem smoke_calibrationLoad_a : (Instr.calibrationLoad (some ⟨[(0x20000, 1)], [], []⟩)).wellFormed = false := by decide
theorem smoke_calibrationLoad_b : (Instr.calibrationLoad (some ⟨[], [(0x20000, 1)], []⟩)).wellFormed = false := by decide
theorem smoke_calibrationLoad_boot (l : List Byte) (h : l.length = 0x10001) : (Instr.calibrationLoad (some ⟨[], [],
  l⟩)).wellFormed = false := by
  simp [Instr.wellFormed, h]
theorem smoke_calRunDone_bins (l : List Nat) (h : l.length = 2050) : (Instr.calRunDone (.density l [])).wellFormed = false := by
  simp [Instr.wellFormed, h]
theorem smoke_calRunDone_grid : (Instr.calRunDone (.density [] [0, 0, 0, 0])).wellFormed = false := by decide
theorem smoke_calRunDone_mean : (Instr.calRunDone (.mean [(2 ^ 20, 1)])).wellFormed = false := by decide
theorem smoke_calRunDone_readings (l : List (Int × Nat)) (h : l.length = 65537) : (Instr.calRunDone (.mean l)).wellFormed =
  false := by
  simp [Instr.wellFormed, h]
theorem smoke_calRunDone_tune : (Instr.calRunDone (.tunes [(4096, 1)])).wellFormed = false := by decide
theorem smoke_calRunDone_tunes (l : List (Nat × Nat)) (h : l.length = 4097) : (Instr.calRunDone (.tunes l)).wellFormed =
  false := by
  simp [Instr.wellFormed, h]
theorem smoke_calRunDone_samplers : (Instr.calRunDone (.trims (List.replicate 17 []))).wellFormed = false := by decide
theorem smoke_calRunDone_steps : (Instr.calRunDone (.trims [List.replicate 10 0])).wellFormed = false := by decide
theorem smoke_calRunDone_ones : (Instr.calRunDone (.trims [[65537]])).wellFormed = false := by decide
theorem smoke_calStoreDone_a : (Instr.calStoreDone (.written [(0x20000, 1)] [] [] [])).wellFormed = false := by decide
theorem smoke_calStoreDone_b : (Instr.calStoreDone (.written [] [(0x20000, 1)] [] [])).wellFormed = false := by decide
theorem smoke_calStoreDone_back : (Instr.calStoreDone (.written [] [] [(0x20000, 1)] [])).wellFormed = false := by decide
theorem smoke_calStoreDone_again : (Instr.calStoreDone (.written [] [] [] [(0x20000, 1)])).wellFormed = false := by decide

/-! ## States that meet the hypotheses of the whole-machine statements -/

theorem witness_ResetHolds : ∃ (i : Instr) (s : State), s.dev.boot.inReset = true ∧ actsInReset i = false :=
  ⟨.cfgScan, State.reset, by decide⟩
theorem witness_CountsBalanceKept : ∃ s t : State, s.dev.CountsBalance ∧ step s = .next t :=
  ⟨State.reset, State.reset, fun x => by match x with | 0 | 1 | 2 | 3 => rfl, rfl⟩
theorem witness_LeasesUniqueKept : ∃ s t : State, s.dev.LeasesUnique ∧ step s = .next t :=
  ⟨State.reset, State.reset, List.nodup_nil, rfl⟩
theorem witness_StoresCanonicalKept : ∃ s t : State, s.dev.StoresCanonical ∧ step s = .next t :=
  ⟨State.reset, State.reset, ⟨rfl, rfl⟩, rfl⟩
theorem witness_PoundCounter_boundary : ∃ s : State, s.Running ∧ s.dev.tow.running = true ∧ s.dev.atStep 6 = false ∧
    s.dev.atStep 7 = false := ⟨on (fun d => { d with tow := { running := true } }), by decide⟩
theorem witness_PoundCounter_warm : ∃ s : State, s.dev.boot.powerOn = false ∧ s.Running := ⟨base, by decide⟩
theorem witness_PoundCounter_lock : ∃ s : State, s.Running ∧ s.dev.atStep 4 = true ∧ s.dev.ready s.dev.activeXi = true ∧
    s.dev.boot.entries = [] := ⟨on (fun d => (d.put F.SYS_BOOT_STAT_STEP 0 4).put F.CLK_REF_STAT_READY 0 3), by decide⟩
theorem witness_PoundCounter_change : ∃ s t : State, exec .warmReset s = .next t ∧ t.dev.tow.pound ≠ s.dev.tow.pound :=
  ⟨on (fun d => { d with tow := { running := true, pound := 5 } }), _, rfl, by decide⟩

/-! ## States that meet the hypotheses of each clause -/


/-- R260: the marker of lane 0 of a one-lane wharf in READY at pound 0. -/
theorem test_marker : base.dev.marker 0 2 = 0x5AC396_00_20000000#64 := by decide

/-- R51: in reset with its supplies present VID carries 0x28, FAULT_N is low, COUT is parked,
  a lane is idle; without them nothing is
driven. -/
theorem test_reset_pins : State.reset.dev.vidPins true = some 0x28 ∧ State.reset.dev.faultPin true = .low ∧
    State.reset.dev.laneTx true 7 = .idle ∧ State.reset.dev.vidPins false = none ∧
      State.reset.dev.laneTx false 7 = .undriven := by decide

theorem witness_PowerOnAndItsEnd_powerOnResetEnd : ∃ (s : State), s.dev.boot.inReset = true ∧ s.dev.boot.powerOn = true ∧
  s.dev.boot.pinLow = false ∧ s.dev.is F.SYS_RAIL_STAT_PG_IN = true ∧ s.dev.boot.rails = [] ∧ s.dev.boot.thermal = false :=
  ⟨(State.reset), by decide⟩
theorem witness_PowerOnAndItsEnd_powerOnResetEnd_held : ∃ (s : State), s.dev.boot.inReset = true ∧ s.dev.boot.powerOn = true ∧
  s.dev.boot.pinLow = false ∧ s.dev.is F.SYS_RAIL_STAT_PG_IN = true ∧ (s.dev.boot.rails ≠ [] ∨ s.dev.boot.thermal = true) :=
  ⟨(with' State.reset (fun d => { d with boot := { rails := [3] } })), by decide⟩
theorem witness_PowerOnAndItsEnd_powerOnResetEnd_low : ∃ (s : State),
  (s.dev.boot.pinLow = true ∨ s.dev.is F.SYS_RAIL_STAT_PG_IN = false) :=
  ⟨(with' State.reset (fun d => { d with boot := { pinLow := true } })), by decide⟩
theorem witness_WarmResetPinAndSupply_warmReset : ∃ (s : State), s.Running ∧ s.dev.boot.powerOn = false :=
  ⟨(on (fun d => d.put F.LOOP_NUM_LO_NUM 3 77)), by decide⟩
theorem witness_WarmResetPinAndSupply_warmReset_again : ∃ (s : State), s.dev.boot.powerOn = false ∧ s.dev.boot.inReset = true :=
  ⟨(with' base (fun d => { d with boot := { inReset := true, powerOn := false, thermal := true } })), by decide⟩
theorem witness_WarmResetPinAndSupply_warmReset_powerOn : ∃ (s : State), s.dev.boot.powerOn = true :=
  ⟨(State.reset), by decide⟩
theorem witness_WarmResetPinAndSupply_resetNRelease : ∃ (s : State), s.dev.boot.inReset = true ∧ s.dev.boot.powerOn = false ∧
  s.dev.boot.rails = [] ∧ s.dev.boot.thermal = false :=
  ⟨(with' base (fun d => { d with boot := { inReset := true, powerOn := false, pinLow := true } })), by decide⟩
theorem witness_WarmResetPinAndSupply_resetNRelease_held : ∃ (s : State),
  (s.dev.boot.powerOn = true ∨ s.dev.boot.rails ≠ [] ∨ s.dev.boot.thermal = true) :=
  ⟨(with' base (fun d => { d with boot := { inReset := true, powerOn := false, pinLow := true, rails := [2] } })), by decide⟩
theorem witness_WarmResetPinAndSupply_brownout : ∃ (s : State), s.Running ∧ s.dev.boot.powerOn = false :=
  ⟨(on (fun d => d.setCell 5 { entry := Entry.fresh 5 0 })), by decide⟩
theorem witness_WarmResetPinAndSupply_brownout_again : ∃ (s : State), s.dev.boot.powerOn = false ∧ s.dev.boot.inReset = true :=
  ⟨(with' base (fun d => { d with boot := { inReset := true, powerOn := false, pinLow := true } })), by decide⟩
theorem witness_WarmResetPinAndSupply_brownout_powerOn : ∃ (s : State), s.dev.boot.powerOn = true :=
  ⟨(State.reset), by decide⟩
theorem witness_WarmResetPinAndSupply_brownoutRecovered : ∃ (s : State) (rail : Fin 7), s.dev.boot.inReset = true ∧
  s.dev.boot.powerOn = false ∧ s.dev.boot.pinLow = false ∧ s.dev.boot.rails.filter (· != rail.val) = [] ∧
  s.dev.boot.thermal = false :=
  ⟨(with' base (fun d => { d with boot := { inReset := true, powerOn := false, rails := [3] } })), (3), by decide⟩
theorem witness_WarmResetPinAndSupply_brownoutRecovered_held : ∃ (s : State) (rail : Fin 7),
  (s.dev.boot.powerOn = true ∨ s.dev.boot.pinLow = true ∨ s.dev.boot.rails.filter (· != rail.val) ≠ [] ∨ s.dev.boot.thermal =
  true) :=
  ⟨(with' base (fun d => { d with boot := { inReset := true, powerOn := false, rails := [3, 5] } })), (3), by decide⟩
theorem witness_WarmResetPinAndSupply_thermalReset : ∃ (s : State), s.Running ∧ s.dev.boot.powerOn = false ∧
  115 ≤ s.dev.celsius :=
  ⟨(on (fun d => d.put F.SYS_TEMP_NOW 0 118)), by decide⟩
theorem witness_WarmResetPinAndSupply_thermalReset_again : ∃ (s : State), s.dev.boot.powerOn = false ∧
  s.dev.boot.inReset = true ∧ 115 ≤ s.dev.celsius :=
  ⟨(with' base (fun d => { d.put F.SYS_TEMP_NOW 0 118 with boot := { inReset := true, powerOn := false, pinLow := true } })),
    by decide⟩
theorem witness_WarmResetPinAndSupply_thermalReset_powerOn : ∃ (s : State), s.dev.boot.powerOn = true ∧ 115 ≤ s.dev.celsius :=
  ⟨(with' State.reset (fun d => d.put F.SYS_TEMP_NOW 0 118)), by decide⟩
theorem witness_WarmResetPinAndSupply_thermalRelease : ∃ (s : State), s.dev.celsius ≤ 100 ∧ s.dev.boot.inReset = true ∧
  s.dev.boot.powerOn = false ∧ s.dev.boot.pinLow = false ∧ s.dev.boot.rails = [] :=
  ⟨(with' base (fun d => { d.put F.SYS_TEMP_NOW 0 0x9C with boot := { inReset := true, powerOn := false, thermal := true } })),
    by decide⟩
theorem witness_WarmResetPinAndSupply_thermalRelease_held : ∃ (s : State), s.dev.celsius ≤ 100 ∧
  (s.dev.boot.powerOn = true ∨ s.dev.boot.pinLow = true ∨ s.dev.boot.rails ≠ []) :=
  ⟨(with' base (fun d =>
    { d.put F.SYS_TEMP_NOW 0 0x9C with boot := { inReset := true, powerOn := false, thermal := true, pinLow := true } })),
    by decide⟩
theorem witness_SensorsPinsAndKeeperWatchdog_overTemp : ∃ (s : State), s.Running ∧ 105 ≤ s.dev.celsius :=
  ⟨(on (fun d => d.put F.SYS_TEMP_NOW 0 106)), by decide⟩
theorem witness_SensorsPinsAndKeeperWatchdog_overTemp_reset : ∃ (s : State), 105 ≤ s.dev.celsius ∧ s.dev.boot.inReset = true :=
  ⟨(with' base (fun d => { d.put F.SYS_TEMP_NOW 0 106 with boot := { inReset := true, powerOn := false, pinLow := true } })),
    by decide⟩
theorem witness_SensorsPinsAndKeeperWatchdog_railDip : ∃ (s : State), s.Running :=
  ⟨(base), by decide⟩
theorem witness_SensorsPinsAndKeeperWatchdog_railDip_reset : ∃ (s : State), s.dev.boot.inReset = true :=
  ⟨(State.reset), by decide⟩
theorem witness_SensorsPinsAndKeeperWatchdog_keeperWatchdogExpiry : ∃ (s : State), s.Running ∧
  (s.dev.is F.KPR_STAT_RUNNING = true ∨ s.dev.kpr.restarting = true) :=
  ⟨(on (fun d => d.put F.KPR_STAT_RUNNING 0 1)), by decide⟩
theorem witness_SourceJudgement_judgeWindow_counts : ∃ (s : State) (src : Fin 6) (count : Nat) (hz : Nat) (nom : Nat),
  s.Running ∧ s.dev.bus.held = [] ∧ s.dev.nominalHz src.val = some nom ∧ s.dev.judged src.val = true ∧
  s.dev.windowTurn src.val = true ∧ s.dev.ready (s.dev.secondClock src.val).1 = true ∧
  countedHz nom ((s.dev.nominalHz (s.dev.secondClock src.val).1).getD 0) (s.dev.gateMs src.val) count = hz ∧
  s.dev.ready src.val = false ∧ inBand hz nom (s.dev.winOf src.val) (s.dev.secondClock src.val).2 = true ∧
  agree ((hz :: (s.dev.judge? src.val).hits).take 8) (max 1 (s.dev.get F.CLK_JUDGE_CFG_AGREE_PPM src.val)) = false ∧
  s.dev.Settled :=
  ⟨(on (fun d => ((d.put F.SYS_BOOT_STAT_STEP 0 9).put F.CLK_REF_STAT_READY 0 8))), (2), (400000), (400000000), (400000000),
    by decide⟩
theorem witness_SourceJudgement_judgeWindow_ready : ∃ (s : State) (src : Fin 6) (count : Nat) (hz : Nat) (nom : Nat),
  s.Running ∧ s.dev.bus.held = [] ∧ s.dev.nominalHz src.val = some nom ∧ s.dev.judged src.val = true ∧
  s.dev.windowTurn src.val = true ∧ s.dev.ready (s.dev.secondClock src.val).1 = true ∧
  countedHz nom ((s.dev.nominalHz (s.dev.secondClock src.val).1).getD 0) (s.dev.gateMs src.val) count = hz ∧
  s.dev.ready src.val = false ∧ inBand hz nom (s.dev.winOf src.val) (s.dev.secondClock src.val).2 = true ∧
  agree ((hz :: (s.dev.judge? src.val).hits).take 8) (max 1 (s.dev.get F.CLK_JUDGE_CFG_AGREE_PPM src.val)) = true :=
  ⟨(on (fun d => ((d.put F.SYS_BOOT_STAT_STEP 0 9).put F.CLK_REF_STAT_READY 0 8).setJudge 2
    { hits := List.replicate 7 400000000 })), (2), (400000), (400000000), (400000000), by decide⟩
theorem witness_SourceJudgement_judgeWindow_lost : ∃ (s : State) (src : Fin 6) (count : Nat) (hz : Nat) (nom : Nat),
  s.Running ∧ s.dev.bus.held = [] ∧ s.dev.nominalHz src.val = some nom ∧ s.dev.judged src.val = true ∧
  s.dev.windowTurn src.val = true ∧ s.dev.ready (s.dev.secondClock src.val).1 = true ∧
  countedHz nom ((s.dev.nominalHz (s.dev.secondClock src.val).1).getD 0) (s.dev.gateMs src.val) count = hz ∧
  s.dev.ready src.val = true ∧ inBand hz nom (s.dev.winOf src.val) (s.dev.secondClock src.val).2 = false ∧
  1 ≤ (s.dev.judge? src.val).outs :=
  ⟨(on (fun d => ((d.put F.SYS_BOOT_STAT_STEP 0 9).put F.CLK_REF_STAT_READY 0 12).setJudge 2 { outs := 1 })), (2), (200000),
    (200000000), (400000000), by decide⟩
theorem witness_SourceJudgement_judgeWindow_suspended : ∃ (s : State) (src : Fin 6) (nom : Nat), s.Running ∧
  s.dev.bus.held = [] ∧ s.dev.nominalHz src.val = some nom ∧ s.dev.judged src.val = true ∧ s.dev.windowTurn src.val = true ∧
  s.dev.ready (s.dev.secondClock src.val).1 = false ∧ s.dev.Settled :=
  ⟨(on (fun d => ((d.put F.SYS_BOOT_STAT_STEP 0 9).put F.CLK_REF_STAT_READY 0 0))), (2), (400000000), by decide⟩
theorem witness_SourceJudgement_stopDetect : ∃ (s : State) (src : Fin 6), s.Running ∧ s.dev.ready src.val = true :=
  ⟨(on (fun d => (d.put F.CLK_REF_STAT_READY 0 4))), (2), by decide⟩
theorem witness_SourceJudgement_stopDetect_not_ready : ∃ (s : State) (src : Fin 6), s.Running ∧ s.dev.ready src.val = false :=
  ⟨(base), (5), by decide⟩
theorem witness_ReferenceAndMultipliers_refSwitch_fields : ∃ (s : State), s.Running :=
  ⟨(base), by decide⟩
theorem witness_ReferenceAndMultipliers_refSwitch_change : ∃ (s : State) (v : Word), s.Running ∧
  bits v.toNat 6 5 = s.dev.xiMode 0 ∧ bits v.toNat 4 2 = s.dev.xiFreq 0 ∧ bits v.toNat 11 10 = s.dev.xiMode 1 ∧
  bits v.toNat 9 7 = s.dev.xiFreq 1 ∧ bits v.toNat 14 14 ≠ s.dev.get F.CLK_REF_CTRL_SEL ∧ s.dev.mpl0Lock = true ∧
  s.dev.ready (bits v.toNat 14 14) = true ∧ s.dev.domBusy 154 = false :=
  ⟨(on (fun d => (((((((d.put F.CLK_REF_CTRL_XI0_MODE 0 0).put F.CLK_REF_CTRL_XI0_FREQ 0 3).put F.CLK_REF_CTRL_XI1_MODE 0
    3).put F.CLK_REF_CTRL_XI1_FREQ 0 3).put F.CLK_REF_STAT_MPL0_LOCK 0 1).put F.CLK_REF_STAT_READY 0 3).put
    F.SYS_BOOT_STAT_STEP 0 9))), (0x4D8C), by decide⟩
theorem witness_ReferenceAndMultipliers_refSwitch_refused : ∃ (s : State) (v : Word), s.Running ∧
  bits v.toNat 6 5 = s.dev.xiMode 0 ∧ bits v.toNat 4 2 = s.dev.xiFreq 0 ∧ bits v.toNat 11 10 = s.dev.xiMode 1 ∧
  bits v.toNat 9 7 = s.dev.xiFreq 1 ∧ bits v.toNat 14 14 ≠ s.dev.get F.CLK_REF_CTRL_SEL ∧
  s.dev.ready (bits v.toNat 14 14) = false :=
  ⟨(on (fun d => (((((d.put F.CLK_REF_CTRL_XI0_MODE 0 0).put F.CLK_REF_CTRL_XI0_FREQ 0 3).put F.CLK_REF_CTRL_XI1_MODE 0 3).put
    F.CLK_REF_CTRL_XI1_FREQ 0 3).put F.SYS_BOOT_STAT_STEP 0 9))), (0x4D8C), by decide⟩
set_option maxRecDepth 20000 in
theorem witness_ReferenceAndMultipliers_mpl0Relock : ∃ (s : State), s.Running ∧ s.dev.mpl0Hold = true ∧
  s.dev.ready s.dev.activeXi = true ∧ s.dev.domBusy 154 = false ∧ s.dev.is F.CLK_DOM_STAT_UNTRUSTED 154 = false :=
  ⟨(on (fun d => ((d.put F.CLK_REF_STAT_MPL0_HOLDOVER 0 1).put F.CLK_REF_STAT_READY 0 3))), by decide⟩
set_option maxRecDepth 20000 in
theorem witness_ReferenceAndMultipliers_mpl1Unlock : ∃ (s : State), s.Running ∧ s.dev.is F.CLK_REF_STAT_MPL1_LOCK = true :=
  ⟨(on (fun d => (((d.put F.CLK_REF_STAT_MPL1_LOCK 0 1).put F.CLK_REF_CTRL_FALLBACK_EN 0 1).put F.SYS_BOOT_STAT_STEP 0 9))),
    by decide⟩
theorem witness_DomainSwitches_domainSwitch : ∃ (s : State) (v : Word) (dom : Nat), s.Running ∧
  s.dev.get F.CLK_DOM_SEL_DOM = dom ∧ switchable dom = true ∧ bits v.toNat 7 6 = 1 ∧ s.dev.curSrc dom = 0 ∧
  s.dev.ready 5 = true ∧ s.dev.domBusy dom = false :=
  ⟨(on (fun d => ((d.put F.CLK_DOM_SEL_DOM 0 145).put F.CLK_REF_STAT_READY 0 32))), (0x40), (145), by decide⟩
theorem witness_DomainSwitches_switchDone : ∃ (s : State) (dom : Fin 157) (div : Nat) (sn : Nat) (ho : Bool) (ra : Bool),
  s.Running ∧ [145, 146, 147, 149].contains dom.val = true ∧ s.dev.Settled ∧
  s.dev.switchOf dom.val = some ⟨0, div, true, false, ho, sn, ra⟩ ∧
  (ra = false ∨ s.dev.tow.running = false ∨ sn + 63 ≤ s.dev.tow.ticks) ∧ s.dev.clk.resetting.contains dom.val = false :=
  ⟨(on (fun d => ((d.put F.CLK_DOM_STAT_CUR_SRC 145 1).put F.SYS_BOOT_STAT_STEP 0 9).putSwitch 145 ⟨0, 1, true, false, false,
    0, false⟩)), (145), (1), (0), (false), (false), by decide⟩
theorem witness_DomainSwitches_switchDone_held : ∃ (s : State) (dom : Fin 157) (div : Nat) (sn : Nat) (ho : Bool), s.Running ∧
  [145, 146, 147, 149].contains dom.val = true ∧ s.dev.Settled ∧ s.dev.switchOf dom.val = some ⟨0, div, true, false, ho, sn,
  true⟩ ∧ s.dev.tow.running = true ∧ s.dev.tow.ticks < sn + 63 :=
  ⟨(on (fun d => (((d.put F.CLK_DOM_STAT_CUR_SRC 145 1).put F.SYS_BOOT_STAT_STEP 0 9).putSwitch 145 ⟨0, 1, true, false, false,
    0, true⟩).onTow (fun t => { t with running := true }))), (145), (1), (0), (false), by decide⟩
theorem witness_DomainSwitches_switchForced : ∃ (s : State) (dom : Fin 157) (div : Nat) (sn : Nat) (ho : Bool) (ov : Bool) (ra
  : Bool), s.Running ∧ [145, 146, 147, 149].contains dom.val = true ∧ s.dev.Settled ∧
  s.dev.switchOf dom.val = some ⟨0, div, ov, false, ho, sn, ra⟩ ∧ s.dev.curSrc dom.val ≠ 0 :=
  ⟨(on (fun d => ((d.put F.CLK_DOM_STAT_CUR_SRC 145 1).put F.SYS_BOOT_STAT_STEP 0 9).putSwitch 145 ⟨0, 1, true, false, false,
    0, false⟩)), (145), (1), (0), (false), (true), (false), by decide⟩
theorem witness_DomainSwitches_rampStep : ∃ (s : State) (dom : Fin 157) (div : Nat) (sn : Nat) (ho : Bool) (ra : Bool),
  s.Running ∧ [145, 146, 147, 149].contains dom.val = true ∧ s.dev.Settled ∧
  s.dev.switchOf dom.val = some ⟨1, div, false, false, ho, sn, ra⟩ ∧
  farApart (s.dev.domFreq dom.val false) (targetFreq 1 div) = false ∧ s.dev.mpl1Runs = true ∧
  (s.dev.tow.running = false ∨ sn + 63 ≤ s.dev.tow.ticks) ∧ s.dev.clk.resetting.contains dom.val = false :=
  ⟨(on (fun d => (((((d.put F.CLK_DOM_STAT_CUR_SRC 145 1).put F.CLK_DOM_STAT_CUR_DIV 145 11).put F.SYS_BOOT_STAT_STEP 0 9).put
    F.CLK_REF_STAT_MPL0_LOCK 0 1).put F.CLK_REF_STAT_MPL1_LOCK 0 1).putSwitch 145 ⟨1, 10, false, false, false, 0, false⟩)),
    (145), (10), (0), (false), (false), by decide⟩
theorem witness_DomainResets_domReset_plain : ∃ (s : State) (dom : Nat), s.Running ∧ s.dev.get F.CLK_DOM_SEL_DOM = dom ∧
  [145, 153, 155, 156].contains dom = true ∧ s.dev.switchOf dom = none :=
  ⟨(on (fun d => (d.put F.CLK_DOM_SEL_DOM 0 145))), (145), by decide⟩
theorem witness_DomainResets_domReset_ref : ∃ (s : State), s.Running ∧ s.dev.get F.CLK_DOM_SEL_DOM = 154 ∧
  s.dev.switchOf 154 = none :=
  ⟨(on (fun d => (d.put F.CLK_DOM_SEL_DOM 0 154).setJudge 0 { hits := [5] })), by decide⟩
theorem witness_DomainResets_domReset_core : ∃ (s : State) (c : Fin 16), s.Running ∧
  s.dev.get F.CLK_DOM_SEL_DOM = 128 + c.val ∧ s.dev.switchOf (128 + c.val) = none :=
  ⟨(on (fun d => (d.put F.CLK_DOM_SEL_DOM 0 130).onCore 2 (fun k => { k with acc1 := 5, cA := 2, hasU := true }))), (2),
    by decide⟩
theorem witness_DomainResets_domResetDone : ∃ (s : State) (dom : Fin 157), s.Running ∧
  s.dev.clk.resetting.contains dom.val = true ∧ s.dev.Settled :=
  ⟨(on (fun d => (d.put F.SYS_BOOT_STAT_STEP 0 9).holdDom 145)), (145), by decide⟩
set_option maxRecDepth 20000 in
theorem witness_Gates_blockClose_held : ∃ (s : State) (b : Fin 118), s.Running ∧ s.dev.blockEnabled b.val = true ∧
  s.dev.blockState b.val = 2 ∧ s.dev.clk.gateHeld.contains b.val = false :=
  ⟨(on (fun d => ((d.put F.CLK_EN_LOOP_LOOP_EN 0 64).put F.CLK_BLK_STAT_STATE 70 2))), (70), by decide⟩
set_option maxRecDepth 20000 in
theorem witness_Gates_blockClose_aux : ∃ (s : State) (b : Fin 118), s.Running ∧ 112 ≤ b.val ∧ b.val ≤ 113 ∧
  s.dev.blockEnabled b.val = true ∧ s.dev.blockState b.val = 2 :=
  ⟨(on (fun d => ((d.put F.CLK_EN_MISC_AUXA_EN 0 1).put F.CLK_BLK_STAT_STATE 112 2))), (112), by decide⟩
set_option maxRecDepth 20000 in
theorem witness_Gates_blockClose_core : ∃ (s : State) (b : Fin 118) (c : Fin 16), s.Running ∧ b.val = 64 + c.val ∧
  s.dev.blockEnabled b.val = true ∧ s.dev.blockState b.val = 2 :=
  ⟨(on (fun d => ((((d.put F.CLK_EN_LOOP_LOOP_EN 0 64).put F.CLK_BLK_STAT_STATE 70 2).put F.LOOP_STAT_STATE 6 4).put
    F.LOOP_STAT_LOCK 6 1))), (70), (6), by decide⟩
theorem witness_Gates_gateBusAbort : ∃ (s : State) (b : Fin 118), s.Running ∧ 112 ≤ b.val ∧ b.val ≤ 113 ∧
  s.dev.clk.gateHeld.contains b.val = true :=
  ⟨(on (fun d => { (d.put F.CLK_BLK_STAT_STATE 112 2) with clk := { d.clk with gateHeld := [112] } })), (112), by decide⟩
set_option maxRecDepth 20000 in
theorem witness_Gates_blockShutdownDone_closed : ∃ (s : State) (b : Fin 118), s.Running ∧ s.dev.blockState b.val = 3 ∧
  s.dev.is F.CLK_BLK_STAT_RESTART_PENDING b.val = false ∧ s.dev.atStep 6 = false :=
  ⟨(on (fun d => (d.put F.CLK_BLK_STAT_STATE 3 3))), (3), by decide⟩
set_option maxRecDepth 20000 in
theorem witness_Gates_blockShutdownDone_restart : ∃ (s : State) (b : Fin 118), s.Running ∧ 80 ≤ b.val ∧
  s.dev.blockState b.val = 3 ∧ s.dev.is F.CLK_BLK_STAT_RESTART_PENDING b.val = true :=
  ⟨(on (fun d => ((d.put F.CLK_BLK_STAT_STATE 90 3).put F.CLK_BLK_STAT_RESTART_PENDING 90 1))), (90), by decide⟩
set_option maxRecDepth 20000 in
theorem witness_Gates_blockOpen : ∃ (s : State) (b : Fin 118), s.Running ∧ 80 ≤ b.val ∧ s.dev.blockEnabled b.val = false ∧
  s.dev.blockState b.val = 0 ∧ b.val ∉ s.dev.boot.toOpen :=
  ⟨(base), (90), by decide⟩
set_option maxRecDepth 20000 in
theorem witness_Gates_blockOpen_core : ∃ (s : State) (b : Fin 118) (c : Fin 16), s.Running ∧ b.val = 64 + c.val ∧
  s.dev.blockEnabled b.val = false ∧ s.dev.blockState b.val = 0 ∧ b.val ∉ s.dev.boot.toOpen :=
  ⟨(on (fun d => d.onCore 6 (fun k => { k with hasU := true, u := 5 }))), (70), (6), by decide⟩
set_option maxRecDepth 20000 in
theorem witness_Gates_blockOpenDone_plain : ∃ (s : State) (b : Fin 118), s.Running ∧
  (b.val = 114 ∨ b.val = 115 ∨ b.val = 117) ∧ s.dev.blockState b.val = 1 :=
  ⟨(on (fun d => (d.put F.CLK_BLK_STAT_STATE 115 1))), (115), by decide⟩
set_option maxRecDepth 20000 in
theorem witness_Gates_blockOpenDone_aux : ∃ (s : State) (b : Fin 118) (a : Fin 2), s.Running ∧ b.val = 112 + a.val ∧
  s.dev.blockState b.val = 1 :=
  ⟨(on (fun d => (d.put F.CLK_BLK_STAT_STATE 113 1))), (113), (1), by decide⟩
set_option maxRecDepth 20000 in
theorem witness_Gates_blockOpenDone_output : ∃ (s : State) (b : Fin 118) (n : Fin 32), s.Running ∧ b.val = 80 + n.val ∧
  s.dev.blockState b.val = 1 ∧ s.dev.get F.COUT_STAT_TAP n.val = s.dev.tapFor n.val :=
  ⟨(on (fun d => { (d.put F.CLK_BLK_STAT_STATE 90 1) with cal := { inForce := { base := .zero } } })), (90), (10), by decide⟩
set_option maxRecDepth 20000 in
theorem witness_Gates_blockOpenDone_walks : ∃ (s : State) (b : Fin 118) (n : Fin 32), s.Running ∧ b.val = 80 + n.val ∧
  s.dev.blockState b.val = 1 ∧ s.dev.get F.COUT_STAT_TAP n.val ≠ s.dev.tapFor n.val :=
  ⟨(on (fun d => { ((d.put F.CLK_BLK_STAT_STATE 90 1).put F.COUT_STAT_TAP 10 7) with cal := { inForce := { base := .zero } } })),
    (90), (10), by decide⟩
set_option maxRecDepth 20000 in
theorem witness_Gates_blockOpenDone_core : ∃ (s : State) (b : Fin 118) (c : Fin 16), s.Running ∧ b.val = 64 + c.val ∧
  s.dev.blockState b.val = 1 ∧ (s.dev.core c.val).starts = false :=
  ⟨(on (fun d => (d.put F.CLK_BLK_STAT_STATE 70 1))), (70), (6), by decide⟩
set_option maxRecDepth 20000 in
theorem witness_Gates_blockOpenDone_loaded : ∃ (s : State) (b : Fin 118) (c : Fin 16), s.Running ∧ b.val = 64 + c.val ∧
  s.dev.blockState b.val = 1 ∧ (s.dev.core c.val).starts = true :=
  ⟨(on (fun d => (d.put F.CLK_BLK_STAT_STATE 70 1).onCore 6 (fun k => { k with starts := true }))), (70), (6), by decide⟩
theorem witness_OperatingPoint_opRequest_heldAny : ∃ (s : State) (v : Word), s.Running ∧ bits v.toNat 1 0 ≠ 3 ∧
  s.dev.boot.opAsked = true ∧ s.dev.is F.PWR_OP_STAT_BUSY = true :=
  ⟨(on (fun d => { ((d.put F.PWR_OP_STAT_BUSY 0 1).put F.SYS_BOOT_STAT_STEP 0 9) with boot := { d.boot with opAsked := true } })),
    (2), by decide⟩
theorem witness_OperatingPoint_opRequest_held : ∃ (s : State) (v : Word), s.Running ∧ bits v.toNat 1 0 ≠ 3 ∧
  s.dev.boot.opAsked = true ∧ s.dev.is F.PWR_OP_STAT_BUSY = true ∧ 6 ≤ s.dev.step ∧ s.dev.RefRests ∧ s.dev.clk.fell = [] :=
  ⟨(on (fun d => { ((d.put F.PWR_OP_STAT_BUSY 0 1).put F.SYS_BOOT_STAT_STEP 0 9) with boot := { d.boot with opAsked := true } })),
    (2), by decide⟩
theorem witness_OperatingPoint_opRequest_raiseAny : ∃ (s : State) (v : Word), s.Running ∧ bits v.toNat 1 0 ≠ 3 ∧
  s.dev.boot.opAsked = true ∧ s.dev.is F.PWR_OP_STAT_BUSY = false ∧ s.dev.domBusy 144 = false ∧
  s.dev.get F.PWR_OP_STAT_VID < vidOf (bits v.toNat 1 0) :=
  ⟨(on (fun d => { ((d.put F.PWR_OP_STAT_VID 0 40).put F.SYS_BOOT_STAT_STEP 0 9) with boot := { d.boot with opAsked := true } })),
    (2), by decide⟩
theorem witness_OperatingPoint_opRequest_raise : ∃ (s : State) (v : Word), s.Running ∧ bits v.toNat 1 0 ≠ 3 ∧
  s.dev.boot.opAsked = true ∧ s.dev.is F.PWR_OP_STAT_BUSY = false ∧ s.dev.domBusy 144 = false ∧
  s.dev.get F.PWR_OP_STAT_VID < vidOf (bits v.toNat 1 0) ∧ 6 ≤ s.dev.step ∧ s.dev.RefRests ∧ s.dev.clk.fell = [] :=
  ⟨(on (fun d => { ((d.put F.PWR_OP_STAT_VID 0 40).put F.SYS_BOOT_STAT_STEP 0 9) with boot := { d.boot with opAsked := true } })),
    (2), by decide⟩
theorem witness_OperatingPoint_opRequest_lower : ∃ (s : State) (v : Word), s.Running ∧ bits v.toNat 1 0 ≠ 3 ∧
  s.dev.boot.opAsked = true ∧ s.dev.is F.PWR_OP_STAT_BUSY = false ∧ s.dev.domBusy 144 = false ∧
  vidOf (bits v.toNat 1 0) < s.dev.get F.PWR_OP_STAT_VID ∧ s.dev.switchOf 144 = none ∧ s.dev.curSrc 144 = 0 ∧ s.dev.Settled :=
  ⟨(on (fun d => { ((d.put F.PWR_OP_STAT_VID 0 40).put F.SYS_BOOT_STAT_STEP 0 9) with boot := { d.boot with opAsked := true } })),
    (0), by decide⟩
theorem witness_OperatingPoint_opRequest_early : ∃ (s : State) (v : Word), s.Running ∧ bits v.toNat 1 0 ≠ 3 ∧
  s.dev.boot.opAsked = false ∧ s.dev.Settled :=
  ⟨(on (fun d => (d.put F.SYS_BOOT_STAT_STEP 0 9))), (2), by decide⟩
theorem witness_OperatingPoint_opRequest_reserved : ∃ (s : State) (v : Word), s.Running ∧ bits v.toNat 1 0 = 3 ∧
  s.dev.Settled :=
  ⟨(on (fun d => { (d.put F.SYS_BOOT_STAT_STEP 0 9) with boot := { d.boot with opAsked := true } })), (3), by decide⟩
theorem witness_OperatingPoint_pgBlankingEnd_idle : ∃ (s : State), s.Running ∧ s.dev.clk.opTarget = none ∧ s.dev.Settled :=
  ⟨(on (fun d => { (d.put F.SYS_BOOT_STAT_STEP 0 9) with clk := { d.clk with blank := true } })), by decide⟩
theorem witness_OperatingPoint_pgBlankingEnd_low : ∃ (s : State) (r : Nat), s.Running ∧ s.dev.clk.opTarget = some r ∧
  s.dev.Settled :=
  ⟨(on (fun d => { ((d.put F.SYS_BOOT_STAT_STEP 0 9).put F.PWR_OP_STAT_PHASE 0 1) with clk := { d.clk with blank := true, opTarget := some 2 } })),
    (2), by decide⟩
theorem witness_OperatingPoint_pgBlankingEnd_fio : ∃ (s : State) (r : Nat), s.Running ∧ s.dev.clk.opTarget = some r ∧
  s.dev.get F.PWR_OP_STAT_PHASE = 1 ∧ s.dev.get F.PWR_OP_STAT_VID = vidOf r ∧ s.dev.switchOf 144 = none ∧
  s.dev.curSrc 144 = 0 ∧ s.dev.Settled :=
  ⟨(on (fun d => { ((((d.put F.SYS_BOOT_STAT_STEP 0 9).put F.PWR_OP_STAT_VID 0 56).put F.PWR_OP_STAT_PHASE 0 1).put F.PWR_OP_STAT_BUSY 0 1) with clk := { d.clk with opTarget := some 2, blank := true } })),
    (2), by decide⟩
theorem witness_OperatingPoint_pgBlankingEnd_ramp : ∃ (s : State) (r : Nat), s.Running ∧ s.dev.clk.opTarget = some r ∧
  s.dev.get F.PWR_OP_STAT_PHASE = 1 ∧ s.dev.switchOf 144 = none ∧ s.dev.curSrc 144 = 1 ∧ s.dev.curDiv 144 ≠ divOf r ∧
  s.dev.clk.opHeld = none :=
  ⟨(on (fun d => { ((((((d.put F.SYS_BOOT_STAT_STEP 0 9).put F.PWR_OP_STAT_VID 0 56).put F.PWR_OP_STAT_PHASE 0 1).put F.PWR_OP_STAT_BUSY 0 1).put F.CLK_DOM_STAT_CUR_SRC 144 1).put F.CLK_DOM_STAT_CUR_DIV 144 10) with clk := { d.clk with opTarget := some 2, blank := true } })),
    (2), by decide⟩
theorem witness_OperatingPoint_pgBlankingEnd_reset : ∃ (s : State), s.dev.boot.inReset = true ∧ s.dev.clk.opTarget = none :=
  ⟨(State.reset), by decide⟩
theorem witness_OperatingPoint_raiseFailed : ∃ (s : State), s.Running ∧ s.dev.is F.PWR_OP_STAT_BUSY = true ∧
  s.dev.get F.PWR_OP_STAT_PHASE = 1 ∧ s.dev.Settled ∧ s.dev.clk.vidBefore < 64 :=
  ⟨(on (fun d => { ((((d.put F.SYS_BOOT_STAT_STEP 0 9).put F.PWR_OP_STAT_VID 0 56).put F.PWR_OP_STAT_PHASE 0 1).put F.PWR_OP_STAT_BUSY 0 1) with clk := { d.clk with opTarget := some 2, blank := true } })),
    by decide⟩
theorem witness_OperatingPoint_pgLost_fio : ∃ (s : State), s.Running ∧ s.dev.clk.blank = false ∧
  s.dev.get F.PWR_OP_STAT_PHASE ≠ 1 ∧ s.dev.switchOf 144 = none ∧ s.dev.curSrc 144 = 0 ∧ s.dev.Settled :=
  ⟨(on (fun d => (d.put F.SYS_BOOT_STAT_STEP 0 9))), by decide⟩
theorem witness_OperatingPoint_pgLost_ramp : ∃ (s : State), s.Running ∧ s.dev.clk.blank = false ∧
  s.dev.get F.PWR_OP_STAT_PHASE ≠ 1 ∧ s.dev.switchOf 144 = none ∧ s.dev.curSrc 144 = 1 ∧ s.dev.curDiv 144 = 5 ∧
  s.dev.mpl1Runs = true :=
  ⟨(on (fun d => (((((d.put F.SYS_BOOT_STAT_STEP 0 9).put F.CLK_DOM_STAT_CUR_SRC 144 1).put F.CLK_DOM_STAT_CUR_DIV 144 5).put
    F.CLK_REF_STAT_MPL0_LOCK 0 1).put F.CLK_REF_STAT_MPL1_LOCK 0 1))), by decide⟩
theorem witness_OperatingPoint_pgLost_reset : ∃ (s : State), s.dev.boot.inReset = true ∧ s.dev.clk.blank = false :=
  ⟨(State.reset), by decide⟩
theorem witness_OperatingPoint_pgLost_blank : ∃ (s : State), s.Running ∧ s.dev.clk.blank = true ∧ s.dev.Settled :=
  ⟨(on (fun d => { (d.put F.SYS_BOOT_STAT_STEP 0 9) with clk := { d.clk with blank := true } })), by decide⟩
theorem witness_OperatingPoint_auxDivUpdate : ∃ (s : State) (a : Fin 2), s.Running ∧ s.dev.blockClosed (112 + a.val) = false :=
  ⟨(on (fun d => (d.put F.CLK_BLK_STAT_STATE 112 2))), (0), by decide⟩
theorem witness_OperatingPoint_auxSscUpdate : ∃ (s : State) (a : Fin 2), s.Running ∧ s.dev.blockClosed (112 + a.val) = false :=
  ⟨(on (fun d => (d.put F.CLK_BLK_STAT_STATE 113 2))), (1), by decide⟩
theorem witness_StartUp_patchLoad_rom : ∃ (s : State) (image : Option (List Byte)) (found : FlashProbe), s.Running ∧
  s.dev.atStep 1 = true ∧ s.dev.boot.bootsel = 0 ∧ (flashMode found = none ∨ image.filter patchValid = none) ∧
  s.dev.mbx.req = none ∧ s.dev.is F.CAL_CMD_GO = false ∧ s.dev.is F.CAL_CMD_STORE = false :=
  ⟨(on (fun d => (d.put F.SYS_BOOT_STAT_STEP 0 1))), (none), ({}), by decide⟩
theorem witness_StartUp_patchLoad_held : ∃ (s : State), s.Running ∧ s.dev.atStep 1 = true ∧ 2 ≤ s.dev.boot.bootsel ∧
  s.dev.mbx.req = none ∧ s.dev.is F.CAL_CMD_GO = false ∧ s.dev.is F.CAL_CMD_STORE = false :=
  ⟨(on (fun d => { (d.put F.SYS_BOOT_STAT_STEP 0 1) with boot := { d.boot with bootsel := 2 } })), by decide⟩
theorem witness_StartUp_patchLoad_patch : ∃ (s : State) (image : Option (List Byte)) (found : FlashProbe) (l : List Byte),
  s.Running ∧ s.dev.atStep 1 = true ∧ s.dev.boot.bootsel = 0 ∧ (flashMode found).isSome = true ∧
  image.filter patchValid = some l ∧ s.dev.mbx.req = none ∧ s.dev.is F.CAL_CMD_GO = false ∧ s.dev.is F.CAL_CMD_STORE = false :=
  ⟨(on (fun d => (d.put F.SYS_BOOT_STAT_STEP 0 1))), (some patchSample), ({}), (patchSample),
    by simp only [Option.filter, patchSample_valid, if_true]; decide⟩
theorem witness_StartUp_patchLoad_noFlash : ∃ (s : State), s.Running ∧ s.dev.atStep 1 = true ∧ s.dev.boot.bootsel = 1 ∧
  s.dev.mbx.req = none ∧ s.dev.is F.CAL_CMD_GO = false ∧ s.dev.is F.CAL_CMD_STORE = false :=
  ⟨(on (fun d => { (d.put F.SYS_BOOT_STAT_STEP 0 1) with boot := { d.boot with bootsel := 1 } })), by decide⟩
theorem witness_StartUp_patchLoad_not : ∃ (s : State), s.Running ∧ s.dev.atStep 1 = false :=
  ⟨(on (fun d => (d.put F.SYS_BOOT_STAT_STEP 0 2))), by decide⟩
theorem witness_StartUp_calibrationLoad_any : ∃ (s : State), s.Running ∧ s.dev.atStep 2 = true ∧ s.dev.bootCode ≠ 0x90 ∧
  s.dev.keeperRuns = true :=
  ⟨(on (fun d => ((d.put F.SYS_BOOT_STAT_STEP 0 2).put F.KPR_STAT_RUNNING 0 1))), by decide⟩
theorem witness_StartUp_calibrationLoad_not : ∃ (s : State), s.Running ∧
  (s.dev.atStep 2 = false ∨ s.dev.bootCode = 0x90 ∨ s.dev.keeperRuns = false) :=
  ⟨(on (fun d => (((d.put F.SYS_BOOT_STAT_STEP 0 2).put F.SYS_BOOT_STAT_CODE 0 144).put F.KPR_STAT_RUNNING 0 1))), by decide⟩
theorem witness_StartUp_calibrationLoad_reads : ∃ (s : State) (x : FlashImages), s.Running ∧ s.dev.atStep 2 = true ∧
  s.dev.bootCode ≠ 0x90 ∧ s.dev.keeperRuns = true ∧ s.dev.boot.useFlash = true ∧ s.dev.nvs.flash.isSome = true ∧
  s.dev.boot.entries = [] ∧ bootImage x.boot = none :=
  ⟨(on (fun d => { ((d.put F.SYS_BOOT_STAT_STEP 0 2).put F.KPR_STAT_RUNNING 0 1) with nvs := { flash := some { four := false, quad := true } } })),
    (⟨[], [], []⟩), by decide⟩
theorem witness_StartUp_calibrationLoad : ∃ (s : State), s.Running ∧ s.dev.atStep 2 = true ∧ s.dev.bootCode = 0 ∧
  s.dev.keeperRuns = true ∧ s.dev.boot.useFlash = false ∧ s.dev.boot.warm = false ∧ s.dev.boot.entries = [] ∧
  s.dev.ready (s.dev.get F.CLK_REF_CTRL_SEL) = false ∧ s.dev.ready (1 - s.dev.get F.CLK_REF_CTRL_SEL) = false ∧
  s.dev.clk.opHeld = none ∧ s.dev.RefRests ∧ s.dev.clk.fell = [] :=
  ⟨(on (fun d => { ((d.put F.SYS_BOOT_STAT_STEP 0 2).put F.KPR_STAT_RUNNING 0 1) with boot := { d.boot with useFlash := false } })),
    by decide⟩
theorem witness_StartUp_refAbsent : ∃ (s : State), s.Running ∧ s.dev.atStep 3 = true ∧ s.dev.bootCode ≠ 0x40 ∧
  s.dev.ready 0 = false ∧ s.dev.ready 1 = false ∧ s.dev.kpr.restarting = false :=
  ⟨(on (fun d => (d.put F.SYS_BOOT_STAT_STEP 0 3))), by decide⟩
theorem witness_StartUp_mplLock : ∃ (s : State), s.Running ∧ s.dev.bus.held = [] ∧ s.dev.atStep 4 = true ∧
  s.dev.ready s.dev.activeXi = true ∧ s.dev.boot.entries = [] ∧ s.dev.domBusy 154 = false ∧ s.dev.ready 5 = false ∧
  s.dev.curSrc 144 = 0 ∧ s.dev.kpr.restarting = false ∧ s.dev.clk.opHeld = none ∧ s.dev.RefRests ∧ s.dev.clk.fell = [] :=
  ⟨(on (fun d => ((d.put F.SYS_BOOT_STAT_STEP 0 4).put F.CLK_REF_STAT_READY 0 1))), by decide⟩
theorem witness_StartUp_mplLock_any : ∃ (s : State), s.Running ∧ s.dev.bus.held = [] ∧ s.dev.atStep 4 = true ∧
  s.dev.ready s.dev.activeXi = true ∧ s.dev.domBusy 154 = false :=
  ⟨(on (fun d => ((d.put F.SYS_BOOT_STAT_STEP 0 4).put F.CLK_REF_STAT_READY 0 1))), by decide⟩
theorem witness_StartUp_mplLock_service : ∃ (s : State), s.Running ∧ s.dev.bus.held = [] ∧ s.dev.atStep 4 = false ∧
  s.dev.refBus = true ∧ 5 ≤ s.dev.step :=
  ⟨(on (fun d => ((d.put F.SYS_BOOT_STAT_STEP 0 9).put F.CLK_REF_STAT_MPL0_LOCK 0 1))), by decide⟩
theorem witness_StartUp_mplLockTimeout : ∃ (s : State), s.Running ∧ s.dev.bus.held = [] ∧ s.dev.atStep 4 = true ∧
  s.dev.kpr.restarting = false :=
  ⟨(on (fun d => (d.put F.SYS_BOOT_STAT_STEP 0 4))), by decide⟩
theorem witness_StartUp_followerNoMaster : ∃ (s : State), s.Running ∧ s.dev.atStep 7 = true ∧ s.dev.bootCode ≠ 0x80 ∧
  3 ≤ s.dev.role ∧ s.dev.tow.phase = .source ∧ s.dev.sourceOk = false ∧ s.dev.kpr.restarting = false :=
  ⟨(on (fun d => ((d.put F.SYS_BOOT_STAT_STEP 0 7).put F.TOW_STAT_ROLE 0 3).onTow (fun t => { t with phase := .source }))),
    by decide⟩
theorem witness_StartUp_keeperResume : ∃ (s : State), s.Running ∧ s.dev.kpr.restarting = true ∧ s.dev.boot.bootsel ≠ 0 ∧
  s.dev.tow.phase = .idle ∧ s.dev.mbx.req = none ∧ s.dev.is F.CAL_CMD_GO = false ∧ s.dev.is F.CAL_CMD_STORE = false ∧
  s.dev.portInUse = false ∧ s.dev.clk.fellBack = false ∧ s.dev.is F.CLK_DOM_STAT_UNTRUSTED 154 = false ∧ s.dev.Settled :=
  ⟨(on (fun d => { (d.put F.SYS_BOOT_STAT_STEP 0 9) with boot := { d.boot with bootsel := 1 }, kpr := { restarting := true } })),
    by decide⟩
theorem witness_StartUp_keeperResume_any : ∃ (s : State), s.Running ∧ s.dev.kpr.restarting = true ∧
  (s.dev.boot.bootsel ≠ 0 ∨ s.dev.nvsOwned = false) ∧ (s.dev.boot.entries = [] ∨ 9 ≤ s.dev.step) :=
  ⟨(on (fun d => { (d.put F.SYS_BOOT_STAT_STEP 0 9) with kpr := { restarting := true } })), by decide⟩
theorem witness_StartUp_keeperResume_waits : ∃ (s : State), s.Running ∧ s.dev.kpr.restarting = true ∧ s.dev.boot.bootsel = 0 ∧
  s.dev.nvsOwned = true :=
  ⟨(on (fun d => { (d.put F.NVS_STAT_OWNED 0 1) with kpr := { restarting := true } })), by decide⟩
theorem witness_StartUp_keeperResume_rom : ∃ (s : State), s.Running ∧ s.dev.kpr.restarting = true ∧ s.dev.boot.bootsel = 0 ∧
  s.dev.nvsOwned = false ∧ s.dev.nvs.flash = none ∧ s.dev.tow.phase = .idle ∧ s.dev.mbx.req = none ∧
  s.dev.is F.CAL_CMD_GO = false ∧ s.dev.is F.CAL_CMD_STORE = false ∧ s.dev.portInUse = false ∧ s.dev.clk.fellBack = false ∧
  s.dev.is F.CLK_DOM_STAT_UNTRUSTED 154 = false ∧ s.dev.Settled :=
  ⟨(on (fun d => { (d.put F.SYS_BOOT_STAT_STEP 0 9) with kpr := { restarting := true } })), by decide⟩
theorem witness_StartUp_keeperResume_not : ∃ (s : State), s.Running ∧ s.dev.kpr.restarting = false :=
  ⟨(on (fun d => d)), by decide⟩
theorem witness_StartUp_continueStart_refused : ∃ (s : State), s.Running ∧ s.dev.mbxFor 0x81 = true ∧ s.dev.keeperRuns = true ∧
  (s.dev.step ≠ 2 ∨ s.dev.bootCode ≠ 0x90) :=
  ⟨(on (fun d => { (((d.put F.SYS_BOOT_STAT_STEP 0 3).put F.KPR_STAT_RUNNING 0 1).put F.MBX_STAT_BUSY 0 1) with mbx := { req := some (0x81, 0), args := [1, 0, 0, 0] } })),
    by decide⟩
theorem witness_StartUp_continueStart : ∃ (s : State), s.Running ∧ s.dev.mbxFor 0x81 = true ∧ s.dev.keeperRuns = true ∧
  s.dev.step = 2 ∧ s.dev.bootCode = 0x90 :=
  ⟨(on (fun d => { ((((d.put F.SYS_BOOT_STAT_STEP 0 2).put F.SYS_BOOT_STAT_CODE 0 144).put F.KPR_STAT_RUNNING 0 1).put F.MBX_STAT_BUSY 0 1) with mbx := { req := some (0x81, 0), args := [1, 0, 0, 0] } })),
    by decide⟩
theorem witness_FaultRecords_faultReport_new : ∃ (s : State) (r : Report) (t : List Report) (k : Nat), s.Running ∧
  (if s.dev.flt.batch = [] then Report.sortBatch s.dev.flt.queue else s.dev.flt.batch) = r :: t ∧
  (s.dev.flt.records.find? (fun e => e.2.sameKey r) = none) ∧ s.dev.flt.freeEntry = some k :=
  ⟨(on (fun d => { d with flt := { queue := [{ cls := 2, src := 1, code := 3, reporter := 7 }] } })),
    ({ cls := 2, src := 1, code := 3, reporter := 7 }), ([]), (0), by decide⟩
theorem witness_FaultRecords_faultReport_again : ∃ (s : State) (r : Report) (t : List Report) (k : Nat) (x : FaultRec),
  s.Running ∧ (if s.dev.flt.batch = [] then Report.sortBatch s.dev.flt.queue else s.dev.flt.batch) = r :: t ∧
  (s.dev.flt.records.find? (fun e => e.2.sameKey r) = some (k, x)) :=
  ⟨(on (fun d => { d with flt := { batch := [{ cls := 2, src := 1, code := 3, reporter := 7 }], records := [(9, { cls := 2, src := 1, code := 3, count := 4, first := {}, last := {}, reporters := 1 })] } })),
    ({ cls := 2, src := 1, code := 3, reporter := 7 }), ([]), (9),
    ({ cls := 2, src := 1, code := 3, count := 4, first := {}, last := {}, reporters := 1 }), by decide⟩
set_option maxRecDepth 20000 in
theorem witness_FaultRecords_faultReport_full : ∃ (s : State) (r : Report) (t : List Report), s.Running ∧
  (if s.dev.flt.batch = [] then Report.sortBatch s.dev.flt.queue else s.dev.flt.batch) = r :: t ∧
  (s.dev.flt.records.find? (fun e => e.2.sameKey r) = none) ∧ s.dev.flt.freeEntry = none :=
  ⟨(on (fun d => { d with flt := { batch := [{ cls := 2, src := 1, code := 3, reporter := 7 }], records := (List.range 256).map (fun k => (k, { cls := 1, src := 1, code := 3, count := 4, first := {}, last := {}, reporters := 1 })) } })),
    ({ cls := 2, src := 1, code := 3, reporter := 7 }), ([]), by decide⟩
theorem witness_FaultRecords_faultReport_none : ∃ (s : State), s.Running ∧ s.dev.flt.batch = [] ∧ s.dev.flt.queue = [] :=
  ⟨(base), by decide⟩
theorem witness_FaultRecords_fltClear : ∃ (s : State) (v : Word) (k : Nat) (x : FaultRec), s.Running ∧ bits v.toNat 7 0 = k ∧
  Store.get? s.dev.flt.records k = some x :=
  ⟨(on (fun d => { d with flt := { records := [(9, { cls := 2, src := 1, code := 3, count := 4, first := {}, last := {}, reporters := 1 })] } })),
    (9), (9), ({ cls := 2, src := 1, code := 3, count := 4, first := {}, last := {}, reporters := 1 }), by decide⟩
theorem witness_FaultRecords_fltClear_none : ∃ (s : State) (v : Word), s.Running ∧
  Store.get? s.dev.flt.records (bits v.toNat 7 0) = none :=
  ⟨(base), (9), by decide⟩
theorem witness_FaultRecords_clearAll : ∃ (s : State), s.Running :=
  ⟨(base), by decide⟩
theorem witness_FaultRecords_fltLogTailWrite : ∃ (s : State), s.Running :=
  ⟨(base), by decide⟩
theorem witness_MailboxRequests_coreSettings : ∃ (s : State) (index : Byte), s.Running ∧ index.toNat < 16 ∧
  s.dev.is F.MBX_STAT_BUSY = false :=
  ⟨(base), (0), by decide⟩
theorem witness_MailboxRequests_coreSettings_busy : ∃ (s : State), s.Running ∧ s.dev.is F.MBX_STAT_BUSY = true :=
  ⟨(on (fun d => (d.put F.MBX_STAT_BUSY 0 1))), by decide⟩
theorem witness_MailboxRequests_coreSettings_index : ∃ (s : State) (index : Byte), s.Running ∧ 16 ≤ index.toNat ∧
  s.dev.is F.MBX_STAT_BUSY = false :=
  ⟨(base), (99), by decide⟩
theorem witness_MailboxRequests_corePhase : ∃ (s : State) (index : Byte), s.Running ∧ index.toNat < 16 ∧
  s.dev.is F.MBX_STAT_BUSY = false :=
  ⟨(base), (0), by decide⟩
theorem witness_MailboxRequests_corePhase_busy : ∃ (s : State), s.Running ∧ s.dev.is F.MBX_STAT_BUSY = true :=
  ⟨(on (fun d => (d.put F.MBX_STAT_BUSY 0 1))), by decide⟩
theorem witness_MailboxRequests_corePhase_index : ∃ (s : State) (index : Byte), s.Running ∧ 16 ≤ index.toNat ∧
  s.dev.is F.MBX_STAT_BUSY = false :=
  ⟨(base), (99), by decide⟩
theorem witness_MailboxRequests_time : ∃ (s : State) (index : Byte), s.Running ∧ index.toNat = 0 ∧
  s.dev.is F.MBX_STAT_BUSY = false :=
  ⟨(base), (0), by decide⟩
theorem witness_MailboxRequests_time_busy : ∃ (s : State), s.Running ∧ s.dev.is F.MBX_STAT_BUSY = true :=
  ⟨(on (fun d => (d.put F.MBX_STAT_BUSY 0 1))), by decide⟩
theorem witness_MailboxRequests_time_index : ∃ (s : State) (index : Byte), s.Running ∧ index.toNat ≠ 0 ∧
  s.dev.is F.MBX_STAT_BUSY = false :=
  ⟨(base), (99), by decide⟩
theorem witness_MailboxRequests_pps : ∃ (s : State) (index : Byte), s.Running ∧ index.toNat = 0 ∧
  s.dev.is F.MBX_STAT_BUSY = false :=
  ⟨(base), (0), by decide⟩
theorem witness_MailboxRequests_pps_busy : ∃ (s : State), s.Running ∧ s.dev.is F.MBX_STAT_BUSY = true :=
  ⟨(on (fun d => (d.put F.MBX_STAT_BUSY 0 1))), by decide⟩
theorem witness_MailboxRequests_pps_index : ∃ (s : State) (index : Byte), s.Running ∧ index.toNat ≠ 0 ∧
  s.dev.is F.MBX_STAT_BUSY = false :=
  ⟨(base), (99), by decide⟩
theorem witness_MailboxRequests_parent : ∃ (s : State) (index : Byte), s.Running ∧ index.toNat = 0 ∧
  s.dev.is F.MBX_STAT_BUSY = false :=
  ⟨(base), (0), by decide⟩
theorem witness_MailboxRequests_parent_busy : ∃ (s : State), s.Running ∧ s.dev.is F.MBX_STAT_BUSY = true :=
  ⟨(on (fun d => (d.put F.MBX_STAT_BUSY 0 1))), by decide⟩
theorem witness_MailboxRequests_parent_index : ∃ (s : State) (index : Byte), s.Running ∧ index.toNat ≠ 0 ∧
  s.dev.is F.MBX_STAT_BUSY = false :=
  ⟨(base), (99), by decide⟩
theorem witness_MailboxRequests_mbxUnknownObject : ∃ (s : State) (v : Word), s.Running ∧
  mbxUnknown (bits v.toNat 15 8) (bits v.toNat 7 0) = true ∧ bits v.toNat 15 8 < 0x80 ∧ s.dev.is F.MBX_STAT_BUSY = false :=
  ⟨(base), (0x2001), by decide⟩
theorem witness_MailboxRequests_mbxUnknownObject_keeper : ∃ (s : State) (v : Word), s.Running ∧
  mbxUnknown (bits v.toNat 15 8) (bits v.toNat 7 0) = true ∧ 0x80 ≤ bits v.toNat 15 8 ∧ s.dev.is F.MBX_STAT_BUSY = false ∧
  s.dev.keeperRuns = true :=
  ⟨(on (fun d => (d.put F.KPR_STAT_RUNNING 0 1))), (0xFF01), by decide⟩
theorem witness_MailboxRequests_mbxUnknownObject_waits : ∃ (s : State) (v : Word), s.Running ∧
  mbxUnknown (bits v.toNat 15 8) (bits v.toNat 7 0) = true ∧ 0x80 ≤ bits v.toNat 15 8 ∧ s.dev.is F.MBX_STAT_BUSY = false ∧
  s.dev.keeperRuns = false :=
  ⟨(base), (0xFF01), by decide⟩
theorem witness_MailboxRequests_mbxUnknownObject_busy : ∃ (s : State) (v : Word), s.Running ∧
  mbxUnknown (bits v.toNat 15 8) (bits v.toNat 7 0) = true ∧ s.dev.is F.MBX_STAT_BUSY = true :=
  ⟨(on (fun d => (d.put F.MBX_STAT_BUSY 0 1))), (0x2001), by decide⟩
theorem witness_MailboxRequests_mbxCaptureDone_time : ∃ (s : State), s.Running ∧ s.dev.mbx.req = some (16, 0) ∧
  s.dev.tow.running = true :=
  ⟨(on (fun d => { (d.put F.MBX_STAT_BUSY 0 1) with mbx := { req := some (16, 0) }, tow := { running := true, pound := 0x500000003 } })),
    by decide⟩
theorem witness_MailboxRequests_mbxCaptureDone_settings : ∃ (s : State) (o : Nat) (c : Nat) (w0 : Word) (w1 : Word) (w2 : Word)
  (w3 : Word), s.Running ∧ s.dev.mbx.req = some (o, c) ∧ (o = 1 ∨ o = 2) ∧ s.dev.mbx.words = some [w0, w1, w2, w3] :=
  ⟨(on (fun d => { (d.put F.MBX_STAT_BUSY 0 1) with mbx := { req := some (1, 3), words := some [1, 2, 3, 0xFFFFFFFF] } })),
    (1), (3), (1), (2), (3), (0xFFFFFFFF), by decide⟩
theorem witness_MailboxRequests_mbxCaptureDone_pps : ∃ (s : State), s.Running ∧ s.dev.mbx.req = some (0x11, 0) ∧
  s.dev.tow.running = true :=
  ⟨(on (fun d => { (d.put F.MBX_STAT_BUSY 0 1) with mbx := { req := some (0x11, 0) }, tow := { running := true, pound := 0x500000003 } })),
    by decide⟩
theorem witness_MailboxRequests_mbxCaptureDone_parent : ∃ (s : State), s.Running ∧ s.dev.mbx.req = some (0x12, 0) ∧
  s.dev.keeperRuns = true :=
  ⟨(on (fun d => { ((d.put F.MBX_STAT_BUSY 0 1).put F.KPR_STAT_RUNNING 0 1) with mbx := { req := some (0x12, 0) } })),
    by decide⟩
theorem witness_MailboxRequests_mbxCaptureTimeout : ∃ (s : State) (o : Nat) (c : Nat), s.Running ∧
  s.dev.mbx.req = some (o, c) ∧ (o = 1 ∨ o = 2) ∧ s.dev.mbx.words = none ∧ s.dev.loopRuns c = false ∧
  (2 ≤ s.dev.mbx.pounds ∨ s.dev.tow.running = false) :=
  ⟨(on (fun d => { (d.put F.MBX_STAT_BUSY 0 1) with mbx := { req := some (2, 3), pounds := 2 } })), (2), (3), by decide⟩
theorem witness_KeeperCommands_version : ∃ (s : State), s.Running ∧ s.dev.keeperRuns = true ∧ s.dev.mbxFor 0x80 = true :=
  ⟨(on (fun d => { ((d.put F.MBX_STAT_BUSY 0 1).put F.KPR_STAT_RUNNING 0 1) with mbx := { req := some (0x80, 0) } })),
    by decide⟩
theorem witness_KeeperCommands_trainWharf_none : ∃ (s : State), s.Running ∧ s.dev.keeperRuns = true ∧
  s.dev.mbxFor 0x82 = true ∧ s.dev.mbx.emitting = false ∧ s.dev.wharfOf s.dev.mbxIndex ≠ s.dev.mbxIndex :=
  ⟨(on (fun d => { (((d.put F.MBX_STAT_BUSY 0 1).put F.KPR_STAT_RUNNING 0 1).put F.LANE_QUAD_STAT_LAYOUT 0 4) with mbx := { req := some (0x82, 1) } })),
    by decide⟩
theorem witness_KeeperCommands_emitWharf_none : ∃ (s : State), s.Running ∧ s.dev.keeperRuns = true ∧ s.dev.mbxFor 0x83 = true ∧
  s.dev.mbx.emitting = false ∧ s.dev.wharfOf s.dev.mbxIndex ≠ s.dev.mbxIndex :=
  ⟨(on (fun d => { (((d.put F.MBX_STAT_BUSY 0 1).put F.KPR_STAT_RUNNING 0 1).put F.LANE_QUAD_STAT_LAYOUT 0 4) with mbx := { req := some (0x83, 1) } })),
    by decide⟩
theorem witness_KeeperCommands_trainWharf_idle : ∃ (s : State), s.Running ∧ s.dev.keeperRuns = true ∧
  s.dev.mbxFor 0x82 = true ∧ s.dev.wharfOf s.dev.mbxIndex = s.dev.mbxIndex ∧
  ((s.dev.wharfLanes s.dev.mbxIndex).all (fun n => decide (s.dev.laneState n ≠ 8 ∧ s.dev.laneState n ≠ 1)) = true) :=
  ⟨(on (fun d => { (((d.put F.MBX_STAT_BUSY 0 1).put F.KPR_STAT_RUNNING 0 1).put F.LANE_STAT_STATE 0 7) with mbx := { req := some (0x82, 0) } })),
    by decide⟩
theorem witness_KeeperCommands_trainWharf_waiting : ∃ (s : State), s.Running ∧ s.dev.keeperRuns = true ∧
  s.dev.mbxFor 0x82 = true ∧ s.dev.wharfOf s.dev.mbxIndex = s.dev.mbxIndex :=
  ⟨(on (fun d => { ((((d.put F.MBX_STAT_BUSY 0 1).put F.KPR_STAT_RUNNING 0 1).put F.LANE_STAT_STATE 5 8).put F.LANE_STAT_BACKOFF_K 5 3) with mbx := { req := some (0x82, 5) } })),
    by decide⟩
theorem witness_KeeperCommands_emitWharf_untrained : ∃ (s : State), s.Running ∧ s.dev.keeperRuns = true ∧
  s.dev.mbxFor 0x83 = true ∧ s.dev.mbx.emitting = false ∧ s.dev.wharfOf s.dev.mbxIndex = s.dev.mbxIndex ∧
  s.dev.wharfTrained s.dev.mbxIndex = false :=
  ⟨(on (fun d => { ((d.put F.MBX_STAT_BUSY 0 1).put F.KPR_STAT_RUNNING 0 1) with mbx := { req := some (0x83, 0) } })),
    by decide⟩
theorem witness_KeeperCommands_emitWharf_lists : ∃ (s : State) (b : Nat) (l : List Nat), s.Running ∧ s.dev.keeperRuns = true ∧
  s.dev.mbxFor 0x83 = true ∧ s.dev.mbx.emitting = false ∧ s.dev.wharfOf s.dev.mbxIndex = s.dev.mbxIndex ∧
  s.dev.wharfTrained s.dev.mbxIndex = true ∧ s.dev.berthsOf s.dev.mbxIndex = b :: l :=
  ⟨(on (fun d => { ((((d.put F.MBX_STAT_BUSY 0 1).put F.KPR_STAT_RUNNING 0 1).put F.LANE_STAT_STATE 0 7).put F.CLK_BLK_STAT_STATE 0 2) with mbx := { req := some (0x83, 0) }, ledger := { d.ledger with map := [(0, 0x80000000)] } })),
    (0), ((range 1 32)), by decide⟩
theorem witness_KeeperCommands_emitWharf_empty : ∃ (s : State), s.Running ∧ s.dev.keeperRuns = true ∧
  s.dev.mbxFor 0x83 = true ∧ s.dev.mbx.emitting = false ∧ s.dev.wharfOf s.dev.mbxIndex = s.dev.mbxIndex ∧
  s.dev.wharfTrained s.dev.mbxIndex = true ∧ s.dev.berthsOf s.dev.mbxIndex = [] ∧ s.dev.kpr.emits = [] :=
  ⟨(on (fun d => { ((((d.put F.MBX_STAT_BUSY 0 1).put F.KPR_STAT_RUNNING 0 1).put F.LANE_STAT_STATE 0 7).put F.CLK_BLK_STAT_STATE 0 2) with mbx := { req := some (0x83, 0) } })),
    by decide⟩
theorem witness_KeeperCommands_ptpRestart_mode : ∃ (s : State), s.Running ∧ s.dev.keeperRuns = true ∧
  s.dev.mbxFor 0x84 = true ∧ s.dev.get F.TPT_CTRL_MODE ≠ 1 :=
  ⟨(on (fun d => { ((d.put F.MBX_STAT_BUSY 0 1).put F.KPR_STAT_RUNNING 0 1) with mbx := { req := some (0x84, 0) } })),
    by decide⟩
theorem witness_KeeperCommands_ptpRestart_client : ∃ (s : State), s.Running ∧ s.dev.keeperRuns = true ∧
  s.dev.mbxFor 0x84 = true ∧ s.dev.get F.TPT_CTRL_MODE = 1 ∧ s.dev.portInUse = true :=
  ⟨(on (fun d => { ((((d.put F.MBX_STAT_BUSY 0 1).put F.KPR_STAT_RUNNING 0 1).put F.TPT_CTRL_MODE 0 1).put F.CLK_BLK_STAT_STATE 116 2) with mbx := { req := some (0x84, 0) } })),
    by decide⟩
theorem witness_HostQueue_hcqPush_accept : ∃ (s : State) (g : Fin 32) (v : Word) (w : BitVec 128), s.Running ∧
  s.dev.eng.hcqHeld = none ∧ w = ((s.dev.put F.ENG_HCQ_WIN_WORD (4 * g.val + 3) v.toNat).windowGroup g.val) ∧
  cmdLong w = false ∧ wordsOf s.dev.eng.hcq ≤ 511 ∧ acceptCode 0 w none s.dev.tow.pound = none :=
  ⟨(base), (0), (0x08000000), (word 0 0 0), by decide⟩
theorem witness_HostQueue_hcqPush_rejected : ∃ (s : State) (g : Fin 32) (v : Word) (w : BitVec 128) (code : Code), s.Running ∧
  s.dev.eng.hcqHeld = none ∧ w = ((s.dev.put F.ENG_HCQ_WIN_WORD (4 * g.val + 3) v.toNat).windowGroup g.val) ∧
  cmdLong w = false ∧ wordsOf s.dev.eng.hcq ≤ 511 ∧ acceptCode 0 w none s.dev.tow.pound = some code :=
  ⟨(base), (0), (0xA8000000), (word 10 0 0), (3), by decide⟩
theorem witness_HostQueue_hcqPush_long : ∃ (s : State) (g : Fin 32) (v : Word) (w : BitVec 128), s.Running ∧
  s.dev.eng.hcqHeld = none ∧ w = ((s.dev.put F.ENG_HCQ_WIN_WORD (4 * g.val + 3) v.toNat).windowGroup g.val) ∧
  cmdLong w = true :=
  ⟨(base), (1), (0x2C000000), (BitVec.ofNat 128 (0x2C000000 * 2 ^ 96)), by decide⟩
theorem witness_HostQueue_hcqPush_second : ∃ (s : State) (g : Fin 32) (v : Word) (w : BitVec 128) (f : BitVec 128), s.Running ∧
  s.dev.eng.hcqHeld = some f ∧ w = ((s.dev.put F.ENG_HCQ_WIN_WORD (4 * g.val + 3) v.toNat).windowGroup g.val) ∧
  wordsOf s.dev.eng.hcq ≤ 510 ∧ acceptCode 0 f (some w) s.dev.tow.pound = none :=
  ⟨(on (fun d => { d with eng := { hcqHeld := some (word 2 5 (2 ^ 122)) } })), (0), (0xE8000000), (word 14 0 0),
    (word 2 5 (2 ^ 122)), by decide⟩
theorem witness_HostQueue_hcqPush_secondRejected : ∃ (s : State) (g : Fin 32) (v : Word) (w : BitVec 128) (f : BitVec 128)
  (code : Code), s.Running ∧ s.dev.eng.hcqHeld = some f ∧ w = ((s.dev.put F.ENG_HCQ_WIN_WORD (4 * g.val + 3)
  v.toNat).windowGroup g.val) ∧ wordsOf s.dev.eng.hcq ≤ 510 ∧ acceptCode 0 f (some w) s.dev.tow.pound = some code :=
  ⟨(on (fun d => { d with eng := { hcqHeld := some (word 2 5 (2 ^ 122)) } })), (0), (0x08000000), (word 0 0 0),
    (word 2 5 (2 ^ 122)), (4), by decide⟩
theorem witness_HostQueue_hcqPush_refused : ∃ (s : State) (g : Fin 32) (v : Word) (w : BitVec 128), s.Running ∧
  s.dev.eng.hcqHeld = none ∧ w = ((s.dev.put F.ENG_HCQ_WIN_WORD (4 * g.val + 3) v.toNat).windowGroup g.val) ∧
  cmdLong w = false ∧ 512 ≤ wordsOf s.dev.eng.hcq :=
  ⟨(on (fun d => { d with eng := { hcq := [{ cmd (word 0 0 0) 5 with words := 512 }] } })), (0), (0), (0), by decide⟩
theorem witness_HostQueue_hcqPush_secondRefused : ∃ (s : State) (f : BitVec 128), s.Running ∧ s.dev.eng.hcqHeld = some f ∧
  511 ≤ wordsOf s.dev.eng.hcq :=
  ⟨(on (fun d => { d with eng := { hcqHeld := some (word 2 5 (2 ^ 122)), hcq := [{ cmd (word 0 0 0) 5 with words := 511 }] } })),
    (word 2 5 (2 ^ 122)), by decide⟩
theorem witness_HostQueue_hcqRelease_moves : ∃ (s : State) (up : Upset) (c : Cmd) (t : List Cmd), s.Running ∧
  up.queue = false ∧ s.dev.resetBusy = false ∧ s.dev.hold 0 = none ∧ s.dev.eng.hcq = c :: t ∧ cmdOp c.w1 ≠ 8 ∧
  c.eligible s.dev.tow.pound = true ∧ c.isLate s.dev.tow.pound = false ∧ s.dev.sliceFull (ownerOf (cmdBerth c.w1)) = false :=
  ⟨(on (fun d => { d with eng := { hcq := [cmd (word 6 3000 0) 5] } })), ({}), (cmd (word 6 3000 0) 5), ([]), by decide⟩
theorem witness_HostQueue_hcqRelease_one : ∃ (s : State) (up : Upset) (c : Cmd), s.Running ∧ up.queue = false ∧
  s.dev.resetBusy = false ∧ s.dev.hold 0 = none ∧ s.dev.eng.hcq = [c] ∧ cmdOp c.w1 ≠ 8 ∧ c.eligible s.dev.tow.pound = true ∧
  c.isLate s.dev.tow.pound = false ∧ s.dev.sliceFull (ownerOf (cmdBerth c.w1)) = false :=
  ⟨(on (fun d => { d with eng := { hcq := [cmd (word 6 3000 0) 5] } })), ({}), (cmd (word 6 3000 0) 5), by decide⟩
theorem witness_HostQueue_hcqRelease_waits : ∃ (s : State) (up : Upset) (c : Cmd) (t : List Cmd), s.Running ∧
  up.queue = false ∧ s.dev.resetBusy = false ∧ s.dev.hold 0 = none ∧ s.dev.eng.hcq = c :: t ∧
  (cmdOp c.w1 = 8 ∨ c.eligible s.dev.tow.pound = false ∨ c.isLate s.dev.tow.pound = true) :=
  ⟨(on (fun d => { d with eng := { hcq := [cmd (word 8 0 0x30007) 5] } })), ({}), (cmd (word 8 0 0x30007) 5), ([]), by decide⟩
set_option maxRecDepth 20000 in
theorem witness_HostQueue_hcqRelease_full : ∃ (s : State) (up : Upset) (c : Cmd) (t : List Cmd), s.Running ∧ up.queue = false ∧
  s.dev.resetBusy = false ∧ s.dev.hold 0 = none ∧ s.dev.eng.hcq = c :: t ∧ cmdOp c.w1 ≠ 8 ∧ c.eligible s.dev.tow.pound = true ∧
  c.isLate s.dev.tow.pound = false ∧ s.dev.sliceFull (ownerOf (cmdBerth c.w1)) = true :=
  ⟨(on (fun d => { d.setEngine 1 { slice := List.replicate 128 (cmd (word 1 2053 0) 5) } with eng := { hcq := [cmd (word 6 3000 0) 5], engine := [(1, { slice := List.replicate 128 (cmd (word 1 2053 0) 5) })] } })),
    ({}), (cmd (word 6 3000 0) 5), ([]), by decide⟩
theorem witness_HostQueue_hcqRelease_upset : ∃ (s : State) (up : Upset) (c : Cmd) (t : List Cmd), s.Running ∧ up.queue = true ∧
  s.dev.resetBusy = false ∧ s.dev.hold 0 = none ∧ s.dev.eng.hcq = c :: t :=
  ⟨(on (fun d => { d with eng := { hcq := [cmd (word 6 3000 0) 5] } })), ({ queue := true }), (cmd (word 6 3000 0) 5), ([]),
    by decide⟩
theorem witness_HostQueue_flush : ∃ (s : State), s.Running ∧ (s.dev.eng.hcq.all (fun (c : Cmd) => c.src == 0) = true) :=
  ⟨(on (fun d => { d with eng := { hcq := [cmd (word 0 3000 0) 5], hcqHeld := some (word 2 5 (2 ^ 122)) } })), by decide⟩
theorem witness_HostQueue_hcqReset : ∃ (s : State), s.Running ∧ (s.dev.eng.hcq.all (fun (c : Cmd) => c.src == 0) = true) :=
  ⟨(on (fun d => { d with eng := { hcq := [cmd (word 0 3000 0) 5] } })), by decide⟩
theorem witness_TimetableAndKeeperPort_ttEndWrite : ∃ (s : State), s.Running ∧ s.dev.pageClosed 0x32 = false :=
  ⟨(on (fun d => (d.put F.CLK_BLK_STAT_STATE 115 2))), by decide⟩
theorem witness_TimetableAndKeeperPort_ttEndWrite_closed : ∃ (s : State), s.Running ∧ s.dev.pageClosed 0x32 = true :=
  ⟨(on (fun d => (d.put F.CLK_BLK_STAT_STATE 115 0))), by decide⟩
theorem witness_TimetableAndKeeperPort_ttRelease_go : ∃ (s : State) (up : Upset) (w : BitVec 128) (late : Bool), s.Running ∧
  up.queue = false ∧ s.dev.resetBusy = false ∧ s.dev.is F.TT_CTRL_RUN = true ∧ s.dev.ttOpen = true ∧ s.dev.hold 1 = none ∧
  0 < s.dev.ttLevel ∧ s.dev.ttWord (s.dev.get F.TT_HEAD_HEAD) = w ∧ cmdOp w ≠ 8 ∧ s.dev.ttJudge w = .go late :=
  ⟨(on (fun d => { (((d.put F.CLK_BLK_STAT_STATE 115 2).put F.TT_CTRL_RUN 0 1).put F.TT_END_END 0 1) with eng := { tt := [(0, word 0 3000 0)] } })),
    ({}), (word 0 3000 0), (false), by decide⟩
theorem witness_TimetableAndKeeperPort_ttRelease_one : ∃ (s : State) (up : Upset) (w : BitVec 128) (late : Bool), s.Running ∧
  up.queue = false ∧ s.dev.resetBusy = false ∧ s.dev.is F.TT_CTRL_RUN = true ∧ s.dev.ttOpen = true ∧ s.dev.hold 1 = none ∧
  s.dev.ttLevel = 1 ∧ s.dev.ttWord (s.dev.get F.TT_HEAD_HEAD) = w ∧ s.dev.ttJudge w = .go late ∧ cmdOp w ≠ 8 ∧
  cmdLong w = false ∧ acceptCode 1 w none s.dev.tow.pound = none :=
  ⟨(on (fun d => { (((d.put F.CLK_BLK_STAT_STATE 115 2).put F.TT_CTRL_RUN 0 1).put F.TT_END_END 0 1) with eng := { tt := [(0, word 0 3000 0)] } })),
    ({}), (word 0 3000 0), (false), by decide⟩
theorem witness_TimetableAndKeeperPort_ttRelease_empty : ∃ (s : State) (up : Upset), s.Running ∧ up.queue = false ∧
  s.dev.resetBusy = false ∧ s.dev.is F.TT_CTRL_RUN = true ∧ s.dev.ttOpen = true ∧ s.dev.hold 1 = none ∧ s.dev.ttLevel = 0 :=
  ⟨(on (fun d => (((d.put F.CLK_BLK_STAT_STATE 115 2).put F.TT_CTRL_RUN 0 1).put F.TT_STAT_STALLED 0 1))), ({}), by decide⟩
theorem witness_TimetableAndKeeperPort_ttRelease_stop : ∃ (s : State) (up : Upset) (w : BitVec 128), s.Running ∧
  up.queue = false ∧ s.dev.resetBusy = false ∧ s.dev.is F.TT_CTRL_RUN = true ∧ s.dev.ttOpen = true ∧ s.dev.hold 1 = none ∧
  0 < s.dev.ttLevel ∧ s.dev.ttWord (s.dev.get F.TT_HEAD_HEAD) = w ∧ s.dev.ttJudge w = .stop :=
  ⟨(on (fun d => { ((((d.put F.CLK_BLK_STAT_STATE 115 2).put F.TT_CTRL_RUN 0 1).put F.TT_END_END 0 1).put F.TT_STAT_STALLED 0 1) with eng := { tt := [(0, BitVec.ofNat 128 (2 ^ 124 + 3000 * 2 ^ 103 + 200 * 2 ^ 79))] } })),
    ({}), (BitVec.ofNat 128 (2 ^ 124 + 3000 * 2 ^ 103 + 200 * 2 ^ 79)), by decide⟩
set_option maxRecDepth 20000 in
theorem witness_TimetableAndKeeperPort_ttRelease_stall : ∃ (s : State) (up : Upset) (w : BitVec 128), s.Running ∧
  up.queue = false ∧ s.dev.resetBusy = false ∧ s.dev.is F.TT_CTRL_RUN = true ∧ s.dev.ttOpen = true ∧ s.dev.hold 1 = none ∧
  0 < s.dev.ttLevel ∧ s.dev.ttWord (s.dev.get F.TT_HEAD_HEAD) = w ∧ s.dev.ttJudge w = .stall :=
  ⟨(on (fun d => { (((d.put F.CLK_BLK_STAT_STATE 115 2).put F.TT_CTRL_RUN 0 1).put F.TT_END_END 0 1) with eng := { tt := [(0, word 1 3000 0)], engine := [(1, { slice := List.replicate 128 (cmd (word 1 2053 0) 5) })] } })),
    ({}), (word 1 3000 0), by decide⟩
theorem witness_TimetableAndKeeperPort_ttRelease_fence : ∃ (s : State) (up : Upset) (w : BitVec 128) (late : Bool), s.Running ∧
  up.queue = false ∧ s.dev.resetBusy = false ∧ s.dev.is F.TT_CTRL_RUN = true ∧ s.dev.ttOpen = true ∧ s.dev.hold 1 = none ∧
  0 < s.dev.ttLevel ∧ s.dev.ttWord (s.dev.get F.TT_HEAD_HEAD) = w ∧ cmdOp w = 8 ∧ s.dev.ttJudge w = .go late ∧
  acceptCode 1 w none s.dev.tow.pound = none ∧ cmdLong w = false :=
  ⟨(on (fun d => { (((d.put F.CLK_BLK_STAT_STATE 115 2).put F.TT_CTRL_RUN 0 1).put F.TT_END_END 0 1) with eng := { tt := [(0, word 8 0 0x30007)] } })),
    ({}), (word 8 0 0x30007), (false), by decide⟩
theorem witness_TimetableAndKeeperPort_ttRelease_upset : ∃ (s : State) (up : Upset), s.Running ∧ up.queue = true ∧
  s.dev.resetBusy = false ∧ s.dev.is F.TT_CTRL_RUN = true ∧ s.dev.ttOpen = true ∧ s.dev.hold 1 = none ∧ 0 < s.dev.ttLevel :=
  ⟨(on (fun d => (((d.put F.CLK_BLK_STAT_STATE 115 2).put F.TT_CTRL_RUN 0 1).put F.TT_END_END 0 1))), ({ queue := true }),
    by decide⟩
theorem witness_TimetableAndKeeperPort_kpqSubmit_accept : ∃ (s : State) (w : BitVec 128) (second : Option (BitVec 128)),
  s.Running ∧ s.dev.kpr.restarting = false ∧ s.dev.kpqRoom (if second.isSome then 2 else 1) = true ∧
  acceptCode 3 w second s.dev.tow.pound = none :=
  ⟨(base), (word 6 40 0), (none), by decide⟩
theorem witness_TimetableAndKeeperPort_kpqSubmit_refused : ∃ (s : State) (w : BitVec 128) (second : Option (BitVec 128)) (code
  : Code), s.Running ∧ s.dev.kpr.restarting = false ∧ s.dev.kpqRoom (if second.isSome then 2 else 1) = true ∧
  acceptCode 3 w second s.dev.tow.pound = some code :=
  ⟨(base), (word 10 40 0), (none), (3), by decide⟩
theorem witness_TimetableAndKeeperPort_kpqSubmit_waits : ∃ (s : State) (second : Option (BitVec 128)), s.Running ∧
  s.dev.kpr.restarting = false ∧ s.dev.kpqRoom (if second.isSome then 2 else 1) = false :=
  ⟨(on (fun d => { d with eng := { kpq := [{ cmd (word 0 0 0) 5 with words := 32 }] } })), (none), by decide⟩
theorem witness_TimetableAndKeeperPort_kpqSubmit_resend : ∃ (s : State) (id : Nat) (t : List (Nat × Bool)) (x : Entry),
  s.Running ∧ s.dev.kpr.restarting = false ∧ s.dev.kpr.emits = (id, true) :: t ∧ s.dev.kpqRoom 1 = true ∧
  s.dev.cell id = { entry := x } ∧ x.kind = 1 ∧ x.bound = true ∧ x.autoEmit = true ∧
  acceptCode 3 (emitWord id) none s.dev.tow.pound = none :=
  ⟨(on (fun d => { d.setCell 5 { entry := { Entry.fresh 5 0 with state := 1, binding := 0x40, flags := 1 } } with kpr := { emits := [(5, true)] } })),
    (5), ([]), ({ Entry.fresh 5 0 with state := 1, binding := 0x40, flags := 1 }), by decide⟩
theorem witness_TimetableAndKeeperPort_kpqSubmit_skip : ∃ (s : State) (id : Nat) (t : List (Nat × Bool)) (x : Entry),
  s.Running ∧ s.dev.kpr.restarting = false ∧ s.dev.kpr.emits = (id, true) :: t ∧ s.dev.kpqRoom 1 = true ∧
  s.dev.cell id = { entry := x } ∧ (x.kind ≠ 1 ∨ x.bound = false ∨ x.autoEmit = false) :=
  ⟨(on (fun d => { d.setCell 5 { entry := Entry.fresh 5 0 } with kpr := { emits := [(5, true)] } })), (5), ([]),
    (Entry.fresh 5 0), by decide⟩
theorem witness_TimetableAndKeeperPort_kpqRelease_moves : ∃ (s : State) (up : Upset) (c : Cmd) (t : List Cmd), s.Running ∧
  up.queue = false ∧ s.dev.resetBusy = false ∧ s.dev.hold 3 = none ∧ s.dev.eng.kpq = c :: t ∧ cmdOp c.w1 ≠ 8 ∧
  c.eligible s.dev.tow.pound = true ∧ c.isLate s.dev.tow.pound = false ∧ s.dev.sliceFull (ownerOf (cmdBerth c.w1)) = false :=
  ⟨(on (fun d => { d with eng := { kpq := [cmd (word 6 3000 0) 5] } })), ({}), (cmd (word 6 3000 0) 5), ([]), by decide⟩
theorem witness_TimetableAndKeeperPort_kpqRelease_one : ∃ (s : State) (up : Upset) (c : Cmd), s.Running ∧ up.queue = false ∧
  s.dev.resetBusy = false ∧ s.dev.hold 3 = none ∧ s.dev.eng.kpq = [c] ∧ cmdOp c.w1 ≠ 8 ∧ c.eligible s.dev.tow.pound = true ∧
  c.isLate s.dev.tow.pound = false ∧ s.dev.sliceFull (ownerOf (cmdBerth c.w1)) = false :=
  ⟨(on (fun d => { d with eng := { kpq := [cmd (word 6 3000 0) 5] } })), ({}), (cmd (word 6 3000 0) 5), by decide⟩
theorem witness_TimetableAndKeeperPort_kpqRelease_waits : ∃ (s : State) (up : Upset) (c : Cmd) (t : List Cmd), s.Running ∧
  up.queue = false ∧ s.dev.resetBusy = false ∧ s.dev.hold 3 = none ∧ s.dev.eng.kpq = c :: t ∧
  (cmdOp c.w1 = 8 ∨ c.eligible s.dev.tow.pound = false ∨ c.isLate s.dev.tow.pound = true) :=
  ⟨(on (fun d => { d with eng := { kpq := [cmd (word 8 0 0x30007) 5] } })), ({}), (cmd (word 8 0 0x30007) 5), ([]), by decide⟩
set_option maxRecDepth 20000 in
theorem witness_TimetableAndKeeperPort_kpqRelease_full : ∃ (s : State) (up : Upset) (c : Cmd) (t : List Cmd), s.Running ∧
  up.queue = false ∧ s.dev.resetBusy = false ∧ s.dev.hold 3 = none ∧ s.dev.eng.kpq = c :: t ∧ cmdOp c.w1 ≠ 8 ∧
  c.eligible s.dev.tow.pound = true ∧ c.isLate s.dev.tow.pound = false ∧ s.dev.sliceFull (ownerOf (cmdBerth c.w1)) = true :=
  ⟨(on (fun d => { d with eng := { kpq := [cmd (word 6 3000 0) 5], engine := [(1, { slice := List.replicate 128 (cmd (word 1 2053 0) 5) })] } })),
    ({}), (cmd (word 6 3000 0) 5), ([]), by decide⟩
theorem witness_TimetableAndKeeperPort_kpqRelease_upset : ∃ (s : State) (up : Upset) (c : Cmd) (t : List Cmd), s.Running ∧
  up.queue = true ∧ s.dev.resetBusy = false ∧ s.dev.hold 3 = none ∧ s.dev.eng.kpq = c :: t :=
  ⟨(on (fun d => { d with eng := { kpq := [cmd (word 6 3000 0) 5] } })), ({ queue := true }), (cmd (word 6 3000 0) 5), ([]),
    by decide⟩
theorem witness_TimetableAndKeeperPort_refreshSubmit : ∃ (s : State), s.Running ∧ s.dev.is F.LDG_CTRL_REFRESH_EN = true ∧
  s.dev.eng.refreshEach ≤ s.dev.eng.refresh ∧ s.dev.kpqRoom 1 = true ∧
  acceptCode 3 (emitWord (s.dev.get F.LDG_STAT_REFRESH_POS)) none s.dev.tow.pound = none :=
  ⟨(on (fun d => { ((d.put F.LDG_CTRL_REFRESH_EN 0 1).put F.LDG_REFRESH_CFG_PERIOD_LOG 0 17) with eng := { refresh := 1, refreshEach := 1 } })),
    by decide⟩
theorem witness_TimetableAndKeeperPort_refreshSubmit_waits : ∃ (s : State), s.Running ∧
  (s.dev.is F.LDG_CTRL_REFRESH_EN = false ∨ s.dev.eng.refresh < s.dev.eng.refreshEach ∨ s.dev.kpqRoom 1 = false) :=
  ⟨(base), by decide⟩
theorem witness_TimetableAndKeeperPort_kpqReset : ∃ (s : State), s.Running ∧
  (s.dev.eng.kpq.all (fun (c : Cmd) => c.src == 3) = true) :=
  ⟨(on (fun d => { d with eng := { kpq := [{ cmd (word 6 3000 0) 5 with src := 3 }] } })), by decide⟩
theorem witness_FencesAndLateRule_fence_0 : ∃ (s : State) (c : Cmd) (t : List Cmd), s.Running ∧ s.dev.resetBusy = false ∧
  s.dev.hold 0 = none ∧ s.dev.eng.hcq = c :: t ∧ cmdOp c.w1 = 8 :=
  ⟨(on (fun d => { d with eng := { hcq := [{ cmd (word 8 0 0x30007) 5 with src := 0 }] } })),
    ({ cmd (word 8 0 0x30007) 5 with src := 0 }), ([]), by decide⟩
theorem witness_FencesAndLateRule_fence_2 : ∃ (s : State) (c : Cmd) (t : List Cmd), s.Running ∧ s.dev.resetBusy = false ∧
  s.dev.hold 2 = none ∧ s.dev.dec.actq = c :: t ∧ cmdOp c.w1 = 8 :=
  ⟨(on (fun d => { d with dec := { actq := [{ cmd (word 8 0 0x30007) 5 with src := 2 }] } })),
    ({ cmd (word 8 0 0x30007) 5 with src := 2 }), ([]), by decide⟩
theorem witness_FencesAndLateRule_fence_3 : ∃ (s : State) (c : Cmd) (t : List Cmd), s.Running ∧ s.dev.resetBusy = false ∧
  s.dev.hold 3 = none ∧ s.dev.eng.kpq = c :: t ∧ cmdOp c.w1 = 8 :=
  ⟨(on (fun d => { d with eng := { kpq := [{ cmd (word 8 0 0x30007) 5 with src := 3 }] } })),
    ({ cmd (word 8 0 0x30007) 5 with src := 3 }), ([]), by decide⟩
theorem witness_FencesAndLateRule_fence_1 : ∃ (s : State) (w : BitVec 128) (late : Bool), s.Running ∧ s.dev.resetBusy = false ∧
  s.dev.hold 1 = none ∧ s.dev.is F.TT_CTRL_RUN = true ∧ s.dev.ttOpen = true ∧ 0 < s.dev.ttLevel ∧
  s.dev.ttWord (s.dev.get F.TT_HEAD_HEAD) = w ∧ cmdOp w = 8 ∧ s.dev.ttJudge w = .go late ∧
  acceptCode 1 w none s.dev.tow.pound = none ∧ cmdLong w = false :=
  ⟨(on (fun d => { (((d.put F.CLK_BLK_STAT_STATE 115 2).put F.TT_CTRL_RUN 0 1).put F.TT_END_END 0 1) with eng := { tt := [(0, word 8 0 0x30007)] } })),
    (word 8 0 0x30007), (false), by decide⟩
theorem witness_FencesAndLateRule_fenceRelease_0 : ∃ (s : State) (src : Fin 4) (h : FenceHold), s.Running ∧
  s.dev.hold src.val = some h ∧ s.dev.settleFences.fenceMet src.val h = true :=
  ⟨(on (fun d => { (((d.put F.CLK_BLK_STAT_STATE 115 2).put F.TT_CTRL_RUN 0 1).put F.TT_END_END 0 1) with eng := { hcq := [{ cmd (word 8 0 0x30007) 5 with src := 0 }], holds := [(0, { cmd := { cmd (word 8 0 0x30007) 5 with src := 0 }, number := 7, mask := 0, ticks := 256, entry := 0 })] } })),
    (0), ({ cmd := { cmd (word 8 0 0x30007) 5 with src := 0 }, number := 7, mask := 0, ticks := 256, entry := 0 }), by decide⟩
theorem witness_FencesAndLateRule_fenceRelease_waits : ∃ (s : State) (src : Fin 4) (h : FenceHold), s.Running ∧
  s.dev.hold src.val = some h ∧ s.dev.settleFences.fenceMet src.val h = false :=
  ⟨(on (fun d => { d with eng := { hcq := [{ cmd (word 8 0 0x30007) 5 with src := 0 }], holds := [(0, { cmd := { cmd (word 8 0 0x30007) 5 with src := 0 }, number := 7, mask := 2, ticks := 256, entry := 0 })] } })),
    (0), ({ cmd := { cmd (word 8 0 0x30007) 5 with src := 0 }, number := 7, mask := 2, ticks := 256, entry := 0 }), by decide⟩
theorem witness_FencesAndLateRule_fenceTimeout : ∃ (s : State) (src : Fin 4) (h : FenceHold) (l : Nat), s.Running ∧
  s.dev.hold src.val = some h ∧ s.dev.settleFences.fenceMet src.val h = false ∧ s.dev.fenceLimit = some l ∧ l ≤ h.ticks :=
  ⟨(on (fun d => { (d.put F.ENG_CTRL_FENCE_TIMEOUT_LOG 0 8) with eng := { hcq := [{ cmd (word 8 0 0x30007) 5 with src := 0 }], holds := [(0, { cmd := { cmd (word 8 0 0x30007) 5 with src := 0 }, number := 7, mask := 2, ticks := 256, entry := 0 })] } })),
    (0), ({ cmd := { cmd (word 8 0 0x30007) 5 with src := 0 }, number := 7, mask := 2, ticks := 256, entry := 0 }), (256),
    by decide⟩
theorem witness_FencesAndLateRule_fenceTimeout_met : ∃ (s : State) (src : Fin 4) (h : FenceHold), s.Running ∧
  s.dev.hold src.val = some h ∧ s.dev.settleFences.fenceMet src.val h = true :=
  ⟨(on (fun d => { (d.put F.ENG_CTRL_FENCE_TIMEOUT_LOG 0 8) with eng := { hcq := [{ cmd (word 8 0 0x30007) 5 with src := 0 }], holds := [(0, { cmd := { cmd (word 8 0 0x30007) 5 with src := 0 }, number := 7, mask := 0, ticks := 256, entry := 0 })] } })),
    (0), ({ cmd := { cmd (word 8 0 0x30007) 5 with src := 0 }, number := 7, mask := 0, ticks := 256, entry := 0 }), by decide⟩
theorem witness_FencesAndLateRule_fenceTimeout_waits : ∃ (s : State) (src : Fin 4) (h : FenceHold), s.Running ∧
  s.dev.hold src.val = some h ∧ s.dev.settleFences.fenceMet src.val h = false ∧
  (s.dev.fenceLimit.all (fun n => decide (h.ticks < n)) = true) :=
  ⟨(on (fun d => { (d.put F.ENG_CTRL_FENCE_TIMEOUT_LOG 0 9) with eng := { hcq := [{ cmd (word 8 0 0x30007) 5 with src := 0 }], holds := [(0, { cmd := { cmd (word 8 0 0x30007) 5 with src := 0 }, number := 7, mask := 2, ticks := 256, entry := 0 })] } })),
    (0), ({ cmd := { cmd (word 8 0 0x30007) 5 with src := 0 }, number := 7, mask := 2, ticks := 256, entry := 0 }), by decide⟩
theorem witness_FencesAndLateRule_lateReject : ∃ (s : State), s.Running :=
  ⟨(on (fun d => { d with tow := { pound := 9 }, eng := { hcq := [cmd (word 1 0 0) 5, cmd (word 1 0 0) 50] } })), by decide⟩
theorem witness_CountersAndEngineReset_engCntSnap : ∃ (s : State), s.Running :=
  ⟨(on (fun d => (d.put F.ENG_CNT_CTRL_DONE 0 1))), by decide⟩
theorem witness_CountersAndEngineReset_cntSnapCapture : ∃ (s : State), s.Running ∧ s.dev.eng.snapDue = true :=
  ⟨(on (fun d => { d with tow := { pound := 9 }, eng := { snapDue := true, counts2 := { accepted := 9, applied := 4, pending := 5 }, hcq := [{ cmd (word 1 0 0) 5 with src := 2 }] } })),
    by decide⟩
theorem witness_CountersAndEngineReset_enginesReset : ∃ (s : State), s.Running :=
  ⟨(on (fun d => { d with eng := { engine := [(7, { slice := [cmd (word 1 0 0) 5] })] } })), by decide⟩
theorem witness_CountersAndEngineReset_enginesResetDone : ∃ (s : State), s.Running ∧ s.dev.resetBusy = true ∧
  s.dev.clk.resetting.contains 144 = false :=
  ⟨(on (fun d => (d.put F.ENG_STAT_RESET_BUSY 0 1))), by decide⟩
theorem witness_CountersAndEngineReset_enginesResetDone_held : ∃ (s : State), s.Running ∧
  s.dev.clk.resetting.contains 144 = true :=
  ⟨(on (fun d => (d.put F.ENG_STAT_RESET_BUSY 0 1).holdDom 144)), by decide⟩
theorem witness_EngineExecutes_nop : ∃ (s : State) (e : Fin 64) (i : Nat) (c : Cmd) (up : Upset), s.Running ∧
  up.queue = false ∧ cmdOp c.w1 = 0 ∧ (s.dev.engine e.val).used + 1 ≤ s.dev.cycles ∧ s.dev.resetBusy = false ∧
  (s.dev.engine e.val).hand = none ∧ bestOf (s.dev.choices e.val) = some (i, c) :=
  ⟨(on (fun d => ((d.setEngine 0 { slice := [cmd (word 0 5 0) 5] }).setCell 5 { entry := Entry.fresh 5 0 }))), (0), (0),
    (cmd (word 0 5 0) 5), ({}), by decide⟩
theorem witness_EngineExecutes_setFreq_reject : ∃ (s : State) (r : Instr) (e : Fin 64) (up : Upset) (i : Nat) (c : Cmd) (x :
  Cell) (code : Code), s.Running ∧ engineRow r = some (e, up) ∧ rowTakes r c.w1 = true ∧ s.dev.resetBusy = false ∧
  (s.dev.engine e.val).hand = none ∧ bestOf (s.dev.choices e.val) = some (i, c) ∧ up.queue = false ∧ up.lease = false ∧
  up.credit = false ∧ cmdOp c.w1 ≠ 0 ∧ s.dev.bankVoid (bankOf (cmdBerth c.w1)) = false ∧ (s.dev.granted e.val).isSome = true ∧
  (s.dev.engine e.val).used + 2 ≤ s.dev.cycles ∧ (s.dev.cell (cmdBerth c.w1)).hit up.corr up.uncorr = x ∧
  s.dev.judge ({ c with genSeen := x.genRead } : Cmd) (cmdBerth c.w1) x = .reject code :=
  ⟨(on (fun d => ((d.setEngine 0 { slice := [cmd (word 1 5 0x123) 5] }).setCell 5 { entry := Entry.fresh 5 6 }))),
    (.setFreq 0 {}), (0), ({}), (0), (cmd (word 1 5 0x123) 5), (({ entry := Entry.fresh 5 6 } : Cell)), (7), by decide⟩
theorem witness_EngineExecutes_emit_retry : ∃ (s : State) (r : Instr) (e : Fin 64) (up : Upset) (i : Nat) (c : Cmd) (x : Cell)
  (h : Nat), s.Running ∧ engineRow r = some (e, up) ∧ rowTakes r c.w1 = true ∧ s.dev.resetBusy = false ∧
  (s.dev.engine e.val).hand = none ∧ bestOf (s.dev.choices e.val) = some (i, c) ∧ up.queue = false ∧ up.lease = false ∧
  up.credit = false ∧ cmdOp c.w1 ≠ 0 ∧ s.dev.bankVoid (bankOf (cmdBerth c.w1)) = false ∧ (s.dev.granted e.val).isSome = true ∧
  (s.dev.engine e.val).used + 2 ≤ s.dev.cycles ∧ (s.dev.cell (cmdBerth c.w1)).hit up.corr up.uncorr = x ∧
  s.dev.judge ({ c with genSeen := x.genRead } : Cmd) (cmdBerth c.w1) x = .retry h :=
  ⟨(on (fun d => { ((((((d.put F.CLK_BLK_STAT_STATE 0 2).put F.LANE_STAT_STATE 0 7).put F.LANE_STAT_JOINED 0 1).put F.WHF_CREDIT_HELD 0 0).setEngine 0 { slice := [cmd (word 6 5 0) 5] }).setCell 5 { entry := { Entry.fresh 5 0 with state := 1, binding := 0x40 } }) with ledger := { d.ledger with cells := [(5, { entry := { Entry.fresh 5 0 with state := 1, binding := 0x40 } })], map := [(0, 0x80000000)] } })),
    (.emit 0 {}), (0), ({}), (0), (cmd (word 6 5 0) 5), (({ entry := { Entry.fresh 5 0 with state := 1, binding := 0x40 } } :
    Cell)), (0), by decide⟩
theorem witness_EngineExecutes_setFreq_apply : ∃ (s : State) (r : Instr) (e : Fin 64) (up : Upset) (i : Nat) (c : Cmd) (x :
  Cell) (en : Option Entry) (act : Act), s.Running ∧ engineRow r = some (e, up) ∧ rowTakes r c.w1 = true ∧
  s.dev.resetBusy = false ∧ (s.dev.engine e.val).hand = none ∧ bestOf (s.dev.choices e.val) = some (i, c) ∧ up.queue = false ∧
  up.lease = false ∧ up.credit = false ∧ cmdOp c.w1 ≠ 0 ∧ s.dev.bankVoid (bankOf (cmdBerth c.w1)) = false ∧
  (s.dev.granted e.val).isSome = true ∧ (s.dev.engine e.val).used + 2 ≤ s.dev.cycles ∧
  (s.dev.cell (cmdBerth c.w1)).hit up.corr up.uncorr = x ∧ s.dev.judge ({ c with genSeen := x.genRead } : Cmd) (cmdBerth c.w1)
  x = .apply en none act :=
  ⟨(on (fun d => ((d.setEngine 0 { slice := [cmd (word 1 5 0x123) 5] }).setCell 5 { entry := Entry.fresh 5 0 }))),
    (.setFreq 0 {}), (0), ({}), (0), (cmd (word 1 5 0x123) 5), (({ entry := Entry.fresh 5 0 } : Cell)),
    (some ((Entry.fresh 5 0).refreq 5 0x123 none).next), (.none), by decide⟩
theorem witness_EngineExecutes_setFreq_hand : ∃ (s : State) (r : Instr) (e : Fin 64) (up : Upset) (c : Cmd) (x : Cell) (en :
  Option Entry) (act : Act), s.Running ∧ engineRow r = some (e, up) ∧ rowTakes r c.w1 = true ∧ s.dev.resetBusy = false ∧
  (s.dev.engine e.val).hand = some c ∧ up.queue = false ∧ up.credit = false ∧ (s.dev.engine e.val).used + 2 ≤ s.dev.cycles ∧
  (s.dev.cell (cmdBerth c.w1)).hit up.corr up.uncorr = x ∧ s.dev.judge ({ c with genSeen := x.genRead } : Cmd) (cmdBerth c.w1)
  x = .apply en none act :=
  ⟨(on (fun d => (d.setEngine 0 { hand := some (cmd (word 1 5 0x123) 5) }).setCell 5 { entry := Entry.fresh 5 0 })),
    (.setFreq 0 {}), (0), ({}), (cmd (word 1 5 0x123) 5), (({ entry := Entry.fresh 5 0 } : Cell)),
    (some ((Entry.fresh 5 0).refreq 5 0x123 none).next), (.none), by decide⟩
theorem witness_EngineExecutes_setFreq_handUpset : ∃ (s : State) (r : Instr) (e : Fin 64) (up : Upset) (c : Cmd), s.Running ∧
  engineRow r = some (e, up) ∧ rowTakes r c.w1 = true ∧ s.dev.resetBusy = false ∧ (s.dev.engine e.val).hand = some c ∧
  up.queue = true :=
  ⟨(on (fun d => d.setEngine 0 { hand := some (cmd (word 1 5 0x123) 5) })), (.setFreq 0 { queue := true }), (0),
    ({ queue := true }), (cmd (word 1 5 0x123) 5), by decide⟩
theorem witness_EngineExecutes_setFreq_missed : ∃ (s : State) (r : Instr) (e : Fin 64) (up : Upset) (i : Nat) (c : Cmd),
  s.Running ∧ engineRow r = some (e, up) ∧ rowTakes r c.w1 = true ∧ s.dev.resetBusy = false ∧
  (s.dev.engine e.val).hand = none ∧ bestOf (s.dev.choices e.val) = none ∧
  bestOf ((s.dev.atCycle (s.dev.engine e.val).used).choices e.val) = some (i, c) ∧
  (s.dev.engine e.val).used + 2 ≤ s.dev.cycles :=
  ⟨(on (fun d => { d with eng := { engine := [(0, { slice := [cmd (word 1 5 0x123) 5] }), (1, { used := 2 })], flights := [{ eng := 1, cmd := { cmd (word 1 5 0x77) 9 with entry := 7 }, berth := 5 }], turns := [{ cycle := 0, eng := 1, took := some { cmd (word 1 5 0x77) 9 with entry := 7 } }] } })),
    (.setFreq 0 {}), (0), ({}), (0), (cmd (word 1 5 0x123) 5), by decide⟩
theorem witness_EngineExecutes_setFreq_ungranted : ∃ (s : State) (r : Instr) (e : Fin 64) (up : Upset) (i : Nat) (c : Cmd),
  s.Running ∧ engineRow r = some (e, up) ∧ rowTakes r c.w1 = true ∧ s.dev.resetBusy = false ∧
  (s.dev.engine e.val).hand = none ∧ bestOf (s.dev.choices e.val) = some (i, c) ∧ up.queue = false ∧ up.lease = false ∧
  cmdOp c.w1 ≠ 0 ∧ s.dev.bankVoid (bankOf (cmdBerth c.w1)) = false ∧ (s.dev.granted e.val).isSome = false ∧
  (s.dev.engine e.val).used + 2 ≤ s.dev.cycles :=
  ⟨(on (fun d => { d with eng := { engine := [(0, { slice := [cmd (word 1 5 0x123) 5] })], grants := [(5, 0)] } })),
    (.setFreq 0 {}), (0), ({}), (0), (cmd (word 1 5 0x123) 5), by decide⟩
theorem witness_EngineExecutes_setFreq_void : ∃ (s : State) (r : Instr) (e : Fin 64) (up : Upset) (i : Nat) (c : Cmd),
  s.Running ∧ engineRow r = some (e, up) ∧ rowTakes r c.w1 = true ∧ s.dev.resetBusy = false ∧
  (s.dev.engine e.val).hand = none ∧ bestOf (s.dev.choices e.val) = some (i, c) ∧ up.queue = false ∧ cmdOp c.w1 ≠ 0 ∧
  (up.lease = true ∨ s.dev.bankVoid (bankOf (cmdBerth c.w1)) = true) ∧ (s.dev.engine e.val).used + 1 ≤ s.dev.cycles :=
  ⟨(on (fun d => ((d.setEngine 0 { slice := [cmd (word 1 5 0x123) 5] }).setCell 5 { entry := Entry.fresh 5 0 }))),
    (.setFreq 0 { lease := true }), (0), ({ lease := true }), (0), (cmd (word 1 5 0x123) 5), by decide⟩
theorem witness_EngineExecutes_setFreq_upset : ∃ (s : State) (r : Instr) (e : Fin 64) (up : Upset) (i : Nat) (c : Cmd),
  s.Running ∧ engineRow r = some (e, up) ∧ rowTakes r c.w1 = true ∧ s.dev.resetBusy = false ∧
  (s.dev.engine e.val).hand = none ∧ bestOf (s.dev.choices e.val) = some (i, c) ∧ up.queue = true :=
  ⟨(on (fun d => ((d.setEngine 0 { slice := [cmd (word 1 5 0x123) 5] }).setCell 5 { entry := Entry.fresh 5 0 }))),
    (.setFreq 0 { queue := true }), (0), ({ queue := true }), (0), (cmd (word 1 5 0x123) 5), by decide⟩
theorem witness_EngineExecutes_setFreq_noCycles : ∃ (s : State) (r : Instr) (e : Fin 64) (up : Upset) (i : Nat) (c : Cmd),
  s.Running ∧ engineRow r = some (e, up) ∧ rowTakes r c.w1 = true ∧ s.dev.resetBusy = false ∧
  (s.dev.engine e.val).hand = none ∧ bestOf (s.dev.choices e.val) = some (i, c) ∧ up.queue = false ∧ up.lease = false ∧
  cmdOp c.w1 ≠ 0 ∧ s.dev.bankVoid (bankOf (cmdBerth c.w1)) = false ∧ s.dev.cycles < (s.dev.engine e.val).used + 2 :=
  ⟨(on (fun d => { d with eng := { engine := [(0, { slice := [cmd (word 1 5 0x123) 5], used := 5 })] } })), (.setFreq 0 {}),
    (0), ({}), (0), (cmd (word 1 5 0x123) 5), by decide⟩
theorem witness_EngineExecutes_setFreq_unbound : ∃ (s : State) (e : Fin 64) (i : Nat) (c : Cmd) (x : Entry), s.Running ∧
  cmdOp c.w1 = 1 ∧ s.dev.resetBusy = false ∧ (s.dev.engine e.val).hand = none ∧ bestOf (s.dev.choices e.val) = some (i, c) ∧
  s.dev.bankVoid (bankOf (cmdBerth c.w1)) = false ∧ (s.dev.granted e.val).isSome = true ∧
  (s.dev.engine e.val).used + 2 ≤ s.dev.cycles ∧ s.dev.cell (cmdBerth c.w1) = { entry := x } ∧ x.valid (cmdBerth c.w1) = true ∧
  c.refresh = false ∧ x.a.toNat ≤ c.t.toNat ∧ s.dev.preparedFor (cmdBerth c.w1) = none ∧ x.kind ≠ 1 ∧ x.kind ≠ 2 :=
  ⟨(on (fun d => ((d.setEngine 0 { slice := [cmd (word 1 5 (20 * 2 ^ 67)) 5] }).setCell 5 { entry := Entry.fresh 5 0 }))), (0),
    (0), (cmd (word 1 5 (20 * 2 ^ 67)) 5), (Entry.fresh 5 0), by decide⟩
theorem witness_EngineExecutes_setFreq_core : ∃ (s : State) (e : Fin 64) (i : Nat) (c : Cmd) (x : Entry), s.Running ∧
  cmdOp c.w1 = 1 ∧ s.dev.resetBusy = false ∧ (s.dev.engine e.val).hand = none ∧ bestOf (s.dev.choices e.val) = some (i, c) ∧
  s.dev.bankVoid (bankOf (cmdBerth c.w1)) = false ∧ (s.dev.granted e.val).isSome = true ∧
  (s.dev.engine e.val).used + 2 ≤ s.dev.cycles ∧ s.dev.cell (cmdBerth c.w1) = { entry := x } ∧ x.valid (cmdBerth c.w1) = true ∧
  c.refresh = false ∧ x.a.toNat ≤ c.t.toNat ∧ s.dev.preparedFor (cmdBerth c.w1) = none ∧ x.kind = 2 ∧
  s.dev.coreRefusal (cmdBerth c.w1) x false = none ∧ s.dev.outOfRange (s.dev.actingCore x) (cmdFreq c.w1) = false :=
  ⟨(on (fun d => ((((((d.put F.CLK_BLK_STAT_STATE 66 2).put F.CLK_BLK_STAT_STATE 67 2).put F.LOOP_OUTDIV_DIV_A 2 0).put
    F.LOOP_OUTDIV_DIV_A 3 0).setEngine 0 { slice := [cmd (word 1 5 (20 * 2 ^ 67)) 5] }).setCell 5
    { entry := { Entry.fresh 5 0 with state := 1, binding := 0x82 } }).onCore 2 (fun k => { k with berth := some 5 }))), (0),
    (0), (cmd (word 1 5 (20 * 2 ^ 67)) 5), ({ Entry.fresh 5 0 with state := 1, binding := 0x82 }), by decide⟩
theorem witness_EngineExecutes_setFreq_channel : ∃ (s : State) (e : Fin 64) (i : Nat) (c : Cmd) (x : Entry) (h : Nat) (lane :
  Nat) (slot : Nat), s.Running ∧ cmdOp c.w1 = 1 ∧ s.dev.resetBusy = false ∧ (s.dev.engine e.val).hand = none ∧
  bestOf (s.dev.choices e.val) = some (i, c) ∧ s.dev.bankVoid (bankOf (cmdBerth c.w1)) = false ∧
  (s.dev.granted e.val).isSome = true ∧ (s.dev.engine e.val).used + 2 ≤ s.dev.cycles ∧
  s.dev.cell (cmdBerth c.w1) = { entry := x } ∧ x.valid (cmdBerth c.w1) = true ∧ c.refresh = false ∧ x.a.toNat ≤ c.t.toNat ∧
  s.dev.preparedFor (cmdBerth c.w1) = none ∧ x.kind = 1 ∧ s.dev.servingWharf (cmdBerth c.w1) = some h ∧
  s.dev.wharfTrained h = true ∧ s.dev.slotFor h = some (lane, slot) :=
  ⟨(on (fun d => { ((((((d.put F.CLK_BLK_STAT_STATE 0 2).put F.LANE_STAT_STATE 0 7).put F.LANE_STAT_JOINED 0 1).put F.WHF_CREDIT_HELD 0 64).setEngine 0 { slice := [cmd (word 1 5 (20 * 2 ^ 67)) 5] }).setCell 5 { entry := { Entry.fresh 5 0 with state := 1, binding := 0x40 } }) with ledger := { d.ledger with cells := [(5, { entry := { Entry.fresh 5 0 with state := 1, binding := 0x40 } })], map := [(0, 0x80000000)] } })),
    (0), (0), (cmd (word 1 5 (20 * 2 ^ 67)) 5), ({ Entry.fresh 5 0 with state := 1, binding := 0x40 }), (0), (0), (0),
    by decide⟩
theorem witness_EngineExecutes_setFreqPhase_unbound : ∃ (s : State) (e : Fin 64) (i : Nat) (c : Cmd) (x : Entry), s.Running ∧
  cmdOp c.w1 = 2 ∧ s.dev.resetBusy = false ∧ (s.dev.engine e.val).hand = none ∧ bestOf (s.dev.choices e.val) = some (i, c) ∧
  s.dev.bankVoid (bankOf (cmdBerth c.w1)) = false ∧ (s.dev.granted e.val).isSome = true ∧
  (s.dev.engine e.val).used + 2 ≤ s.dev.cycles ∧ s.dev.cell (cmdBerth c.w1) = { entry := x } ∧ x.valid (cmdBerth c.w1) = true ∧
  c.refresh = false ∧ x.a.toNat ≤ c.t.toNat ∧ s.dev.preparedFor (cmdBerth c.w1) = none ∧ x.kind ≠ 1 ∧ x.kind ≠ 2 :=
  ⟨(on (fun d => ((d.setEngine 0 { slice := [cmd (word 2 5 (2 ^ 122 + 20 * 2 ^ 67)) 5 77] }).setCell 5
    { entry := Entry.fresh 5 0 }))), (0), (0), (cmd (word 2 5 (2 ^ 122 + 20 * 2 ^ 67)) 5 77), (Entry.fresh 5 0), by decide⟩
theorem witness_EngineExecutes_setFreqPhase_core : ∃ (s : State) (e : Fin 64) (i : Nat) (c : Cmd) (x : Entry), s.Running ∧
  cmdOp c.w1 = 2 ∧ s.dev.resetBusy = false ∧ (s.dev.engine e.val).hand = none ∧ bestOf (s.dev.choices e.val) = some (i, c) ∧
  s.dev.bankVoid (bankOf (cmdBerth c.w1)) = false ∧ (s.dev.granted e.val).isSome = true ∧
  (s.dev.engine e.val).used + 2 ≤ s.dev.cycles ∧ s.dev.cell (cmdBerth c.w1) = { entry := x } ∧ x.valid (cmdBerth c.w1) = true ∧
  c.refresh = false ∧ x.a.toNat ≤ c.t.toNat ∧ s.dev.preparedFor (cmdBerth c.w1) = none ∧ x.kind = 2 ∧
  s.dev.coreRefusal (cmdBerth c.w1) x false = none ∧ s.dev.outOfRange (s.dev.actingCore x) (cmdFreq c.w1) = false :=
  ⟨(on (fun d => ((((((d.put F.CLK_BLK_STAT_STATE 66 2).put F.CLK_BLK_STAT_STATE 67 2).put F.LOOP_OUTDIV_DIV_A 2 0).put
    F.LOOP_OUTDIV_DIV_A 3 0).setEngine 0 { slice := [cmd (word 2 5 (2 ^ 122 + 20 * 2 ^ 67)) 5 77] }).setCell 5
    { entry := { Entry.fresh 5 0 with state := 1, binding := 0x82 } }).onCore 2 (fun k => { k with berth := some 5 }))), (0),
    (0), (cmd (word 2 5 (2 ^ 122 + 20 * 2 ^ 67)) 5 77), ({ Entry.fresh 5 0 with state := 1, binding := 0x82 }), by decide⟩
theorem witness_EngineExecutes_setFreqPhase_channel : ∃ (s : State) (e : Fin 64) (i : Nat) (c : Cmd) (x : Entry) (h : Nat)
  (lane : Nat) (slot : Nat), s.Running ∧ cmdOp c.w1 = 2 ∧ s.dev.resetBusy = false ∧ (s.dev.engine e.val).hand = none ∧
  bestOf (s.dev.choices e.val) = some (i, c) ∧ s.dev.bankVoid (bankOf (cmdBerth c.w1)) = false ∧
  (s.dev.granted e.val).isSome = true ∧ (s.dev.engine e.val).used + 2 ≤ s.dev.cycles ∧
  s.dev.cell (cmdBerth c.w1) = { entry := x } ∧ x.valid (cmdBerth c.w1) = true ∧ c.refresh = false ∧ x.a.toNat ≤ c.t.toNat ∧
  s.dev.preparedFor (cmdBerth c.w1) = none ∧ x.kind = 1 ∧ s.dev.servingWharf (cmdBerth c.w1) = some h ∧
  s.dev.wharfTrained h = true ∧ s.dev.slotFor h = some (lane, slot) :=
  ⟨(on (fun d => { ((((((d.put F.CLK_BLK_STAT_STATE 0 2).put F.LANE_STAT_STATE 0 7).put F.LANE_STAT_JOINED 0 1).put F.WHF_CREDIT_HELD 0 64).setEngine 0 { slice := [cmd (word 2 5 (2 ^ 122 + 20 * 2 ^ 67)) 5 77] }).setCell 5 { entry := { Entry.fresh 5 0 with state := 1, binding := 0x40 } }) with ledger := { d.ledger with cells := [(5, { entry := { Entry.fresh 5 0 with state := 1, binding := 0x40 } })], map := [(0, 0x80000000)] } })),
    (0), (0), (cmd (word 2 5 (2 ^ 122 + 20 * 2 ^ 67)) 5 77), ({ Entry.fresh 5 0 with state := 1, binding := 0x40 }), (0), (0),
    (0), by decide⟩
theorem witness_EngineExecutes_addPhase_unbound : ∃ (s : State) (e : Fin 64) (i : Nat) (c : Cmd) (x : Entry), s.Running ∧
  cmdOp c.w1 = 3 ∧ s.dev.resetBusy = false ∧ (s.dev.engine e.val).hand = none ∧ bestOf (s.dev.choices e.val) = some (i, c) ∧
  s.dev.bankVoid (bankOf (cmdBerth c.w1)) = false ∧ (s.dev.granted e.val).isSome = true ∧
  (s.dev.engine e.val).used + 2 ≤ s.dev.cycles ∧ s.dev.cell (cmdBerth c.w1) = { entry := x } ∧ x.valid (cmdBerth c.w1) = true ∧
  c.refresh = false ∧ x.a.toNat ≤ c.t.toNat ∧ s.dev.preparedFor (cmdBerth c.w1) = none ∧ x.kind ≠ 1 ∧ x.kind ≠ 2 :=
  ⟨(on (fun d => ((d.setEngine 0 { slice := [cmd (word 3 5 0x123) 5] }).setCell 5 { entry := Entry.fresh 5 0 }))), (0), (0),
    (cmd (word 3 5 0x123) 5), (Entry.fresh 5 0), by decide⟩
theorem witness_EngineExecutes_addPhase_core : ∃ (s : State) (e : Fin 64) (i : Nat) (c : Cmd) (x : Entry), s.Running ∧
  cmdOp c.w1 = 3 ∧ s.dev.resetBusy = false ∧ (s.dev.engine e.val).hand = none ∧ bestOf (s.dev.choices e.val) = some (i, c) ∧
  s.dev.bankVoid (bankOf (cmdBerth c.w1)) = false ∧ (s.dev.granted e.val).isSome = true ∧
  (s.dev.engine e.val).used + 2 ≤ s.dev.cycles ∧ s.dev.cell (cmdBerth c.w1) = { entry := x } ∧ x.valid (cmdBerth c.w1) = true ∧
  c.refresh = false ∧ x.a.toNat ≤ c.t.toNat ∧ s.dev.preparedFor (cmdBerth c.w1) = none ∧ x.kind = 2 ∧
  s.dev.coreRefusal (cmdBerth c.w1) x false = none :=
  ⟨(on (fun d => ((((((d.put F.CLK_BLK_STAT_STATE 66 2).put F.CLK_BLK_STAT_STATE 67 2).put F.LOOP_OUTDIV_DIV_A 2 0).put
    F.LOOP_OUTDIV_DIV_A 3 0).setEngine 0 { slice := [cmd (word 3 5 0x123) 5] }).setCell 5
    { entry := { Entry.fresh 5 0 with state := 1, binding := 0x82 } }).onCore 2 (fun k => { k with berth := some 5 }))), (0),
    (0), (cmd (word 3 5 0x123) 5), ({ Entry.fresh 5 0 with state := 1, binding := 0x82 }), by decide⟩
theorem witness_EngineExecutes_addPhase_channel : ∃ (s : State) (e : Fin 64) (i : Nat) (c : Cmd) (x : Entry) (h : Nat) (lane :
  Nat) (slot : Nat), s.Running ∧ cmdOp c.w1 = 3 ∧ s.dev.resetBusy = false ∧ (s.dev.engine e.val).hand = none ∧
  bestOf (s.dev.choices e.val) = some (i, c) ∧ s.dev.bankVoid (bankOf (cmdBerth c.w1)) = false ∧
  (s.dev.granted e.val).isSome = true ∧ (s.dev.engine e.val).used + 2 ≤ s.dev.cycles ∧
  s.dev.cell (cmdBerth c.w1) = { entry := x } ∧ x.valid (cmdBerth c.w1) = true ∧ c.refresh = false ∧ x.a.toNat ≤ c.t.toNat ∧
  s.dev.preparedFor (cmdBerth c.w1) = none ∧ x.kind = 1 ∧ s.dev.servingWharf (cmdBerth c.w1) = some h ∧
  s.dev.wharfTrained h = true ∧ s.dev.slotFor h = some (lane, slot) :=
  ⟨(on (fun d => { ((((((d.put F.CLK_BLK_STAT_STATE 0 2).put F.LANE_STAT_STATE 0 7).put F.LANE_STAT_JOINED 0 1).put F.WHF_CREDIT_HELD 0 64).setEngine 0 { slice := [cmd (word 3 5 0x123) 5] }).setCell 5 { entry := { Entry.fresh 5 0 with state := 1, binding := 0x40 } }) with ledger := { d.ledger with cells := [(5, { entry := { Entry.fresh 5 0 with state := 1, binding := 0x40 } })], map := [(0, 0x80000000)] } })),
    (0), (0), (cmd (word 3 5 0x123) 5), ({ Entry.fresh 5 0 with state := 1, binding := 0x40 }), (0), (0), (0), by decide⟩
theorem witness_EngineExecutes_setFreq_anchor : ∃ (s : State) (r : Instr) (e : Fin 64) (up : Upset) (i : Nat) (c : Cmd) (x :
  Entry), s.Running ∧ engineRow r = some (e, up) ∧ rowTakes r c.w1 = true ∧ up = {} ∧ s.dev.resetBusy = false ∧
  (s.dev.engine e.val).hand = none ∧ bestOf (s.dev.choices e.val) = some (i, c) ∧
  s.dev.bankVoid (bankOf (cmdBerth c.w1)) = false ∧ (s.dev.granted e.val).isSome = true ∧
  (s.dev.engine e.val).used + 2 ≤ s.dev.cycles ∧ cmdOp c.w1 ≠ 0 ∧ s.dev.cell (cmdBerth c.w1) = { entry := x } ∧
  x.valid (cmdBerth c.w1) = true ∧ c.refresh = false ∧ c.t.toNat < x.a.toNat ∧ s.dev.preparedFor (cmdBerth c.w1) = none :=
  ⟨(on (fun d => ((d.setEngine 0 { slice := [cmd (word 1 5 0x123) 5] }).setCell 5 { entry := Entry.fresh 5 6 }))),
    (.setFreq 0 {}), (0), ({}), (0), (cmd (word 1 5 0x123) 5), (Entry.fresh 5 6), by decide⟩
theorem witness_EngineExecutes_setFreq_hopBusy : ∃ (s : State) (e : Fin 64) (i : Nat) (c : Cmd) (x : Entry) (k : Nat) (th :
  Pound), s.Running ∧ cmdOp c.w1 = 1 ∧ s.dev.resetBusy = false ∧ (s.dev.engine e.val).hand = none ∧
  bestOf (s.dev.choices e.val) = some (i, c) ∧ s.dev.bankVoid (bankOf (cmdBerth c.w1)) = false ∧
  (s.dev.granted e.val).isSome = true ∧ (s.dev.engine e.val).used + 2 ≤ s.dev.cycles ∧
  s.dev.cell (cmdBerth c.w1) = { entry := x } ∧ x.valid (cmdBerth c.w1) = true ∧ c.refresh = false ∧ x.kind = 2 ∧
  s.dev.coreRefusal (cmdBerth c.w1) x false = none ∧ s.dev.hopOf (cmdBerth c.w1) = some (k, th) ∧ c.t.toNat ≤ th.toNat ∧
  x.a.toNat ≤ c.t.toNat :=
  ⟨(on (fun d => { ((((d.put F.COUT_TWIN_CTRL_TWIN_EN 0 2).put F.CLK_BLK_STAT_STATE 66 2).put F.CLK_BLK_STAT_STATE 67 2).setEngine 0 { slice := [cmd (word 1 5 0x123) 7] }) with ledger := { cells := [(5, { entry := { Entry.fresh 5 6 with state := 1, binding := 0xA2 } })] }, twins := [(1, { hop := some (40, 0, 5) })], cores := [(2, { berth := some 5 }), (3, { berth := some 5 })] })),
    (0), (0), (cmd (word 1 5 0x123) 7), ({ Entry.fresh 5 6 with state := 1, binding := 0xA2 }), (1), (40), by decide⟩
theorem witness_EngineExecutes_setFreqPhase_hopBusy : ∃ (s : State) (e : Fin 64) (i : Nat) (c : Cmd) (x : Entry) (k : Nat) (th
  : Pound), s.Running ∧ cmdOp c.w1 = 2 ∧ s.dev.resetBusy = false ∧ (s.dev.engine e.val).hand = none ∧
  bestOf (s.dev.choices e.val) = some (i, c) ∧ s.dev.bankVoid (bankOf (cmdBerth c.w1)) = false ∧
  (s.dev.granted e.val).isSome = true ∧ (s.dev.engine e.val).used + 2 ≤ s.dev.cycles ∧
  s.dev.cell (cmdBerth c.w1) = { entry := x } ∧ x.valid (cmdBerth c.w1) = true ∧ c.refresh = false ∧ x.kind = 2 ∧
  s.dev.coreRefusal (cmdBerth c.w1) x false = none ∧ s.dev.hopOf (cmdBerth c.w1) = some (k, th) ∧ c.t.toNat ≤ th.toNat ∧
  x.a.toNat ≤ c.t.toNat :=
  ⟨(on (fun d => { ((((d.put F.COUT_TWIN_CTRL_TWIN_EN 0 2).put F.CLK_BLK_STAT_STATE 66 2).put F.CLK_BLK_STAT_STATE 67 2).setEngine 0 { slice := [cmd (word 2 5 0x123) 7 77] }) with ledger := { cells := [(5, { entry := { Entry.fresh 5 6 with state := 1, binding := 0xA2 } })] }, twins := [(1, { hop := some (40, 0, 5) })], cores := [(2, { berth := some 5 }), (3, { berth := some 5 })] })),
    (0), (0), (cmd (word 2 5 0x123) 7 77), ({ Entry.fresh 5 6 with state := 1, binding := 0xA2 }), (1), (40), by decide⟩
theorem witness_EngineExecutes_addPhase_hop : ∃ (s : State) (e : Fin 64) (i : Nat) (c : Cmd) (x : Entry) (k : Nat) (th :
  Pound), s.Running ∧ cmdOp c.w1 = 3 ∧ s.dev.resetBusy = false ∧ (s.dev.engine e.val).hand = none ∧
  bestOf (s.dev.choices e.val) = some (i, c) ∧ s.dev.bankVoid (bankOf (cmdBerth c.w1)) = false ∧
  (s.dev.granted e.val).isSome = true ∧ (s.dev.engine e.val).used + 2 ≤ s.dev.cycles ∧
  s.dev.cell (cmdBerth c.w1) = { entry := x } ∧ x.valid (cmdBerth c.w1) = true ∧ c.refresh = false ∧ x.kind = 2 ∧
  s.dev.coreRefusal (cmdBerth c.w1) x false = none ∧ s.dev.hopOf (cmdBerth c.w1) = some (k, th) ∧ c.t.toNat ≤ th.toNat :=
  ⟨(on (fun d => { ((((d.put F.COUT_TWIN_CTRL_TWIN_EN 0 2).put F.CLK_BLK_STAT_STATE 66 2).put F.CLK_BLK_STAT_STATE 67 2).setEngine 0 { slice := [cmd (word 3 5 0x123) 5] }) with ledger := { cells := [(5, { entry := { Entry.fresh 5 6 with state := 1, binding := 0xA2 } })] }, twins := [(1, { hop := some (40, 0, 5) })], cores := [(2, { berth := some 5 }), (3, { berth := some 5 })] })),
    (0), (0), (cmd (word 3 5 0x123) 5), ({ Entry.fresh 5 6 with state := 1, binding := 0xA2 }), (1), (40), by decide⟩
theorem witness_EngineBinds_bind : ∃ (s : State) (e : Fin 64) (i : Nat) (c : Cmd) (x : Entry), s.Running ∧ cmdOp c.w1 = 4 ∧
  s.dev.resetBusy = false ∧ (s.dev.engine e.val).hand = none ∧ bestOf (s.dev.choices e.val) = some (i, c) ∧
  s.dev.bankVoid (bankOf (cmdBerth c.w1)) = false ∧ (s.dev.granted e.val).isSome = true ∧
  (s.dev.engine e.val).used + 2 ≤ s.dev.cycles ∧ s.dev.cell (cmdBerth c.w1) = { entry := x } ∧ x.valid (cmdBerth c.w1) = true ∧
  c.refresh = false ∧ x.a.toNat ≤ c.t.toNat ∧ s.dev.preparedFor (cmdBerth c.w1) = none ∧ x.bound = false ∧
  cmdBinding c.w1 / 64 ≠ 1 ∧ s.dev.bindRefusal (cmdBerth c.w1) (cmdBinding c.w1 % 16) x = none ∧
  s.dev.twinEnabled (cmdBinding c.w1 % 16 / 2) = false :=
  ⟨(on (fun d => ((((((d.put F.CLK_BLK_STAT_STATE 66 2).put F.CLK_BLK_STAT_STATE 67 2).put F.LOOP_OUTDIV_DIV_A 2 0).put
    F.LOOP_OUTDIV_DIV_A 3 0).setEngine 0 { slice := [cmd (word 4 5 (0x82 * 2 ^ 64)) 5] }).setCell 5
    { entry := { Entry.fresh 5 0 with f := BitVec.ofNat 72 (20 * 2 ^ 67) } }))), (0), (0), (cmd (word 4 5 (0x82 * 2 ^ 64)) 5),
    ({ Entry.fresh 5 0 with f := BitVec.ofNat 72 (20 * 2 ^ 67) }), by decide⟩
theorem witness_EngineBinds_bind_twin : ∃ (s : State) (e : Fin 64) (i : Nat) (c : Cmd) (x : Entry), s.Running ∧
  cmdOp c.w1 = 4 ∧ s.dev.resetBusy = false ∧ (s.dev.engine e.val).hand = none ∧ bestOf (s.dev.choices e.val) = some (i, c) ∧
  s.dev.bankVoid (bankOf (cmdBerth c.w1)) = false ∧ (s.dev.granted e.val).isSome = true ∧
  (s.dev.engine e.val).used + 2 ≤ s.dev.cycles ∧ s.dev.cell (cmdBerth c.w1) = { entry := x } ∧ x.valid (cmdBerth c.w1) = true ∧
  c.refresh = false ∧ x.a.toNat ≤ c.t.toNat ∧ s.dev.preparedFor (cmdBerth c.w1) = none ∧ x.bound = false ∧
  cmdBinding c.w1 / 64 ≠ 1 ∧ s.dev.bindRefusal (cmdBerth c.w1) (cmdBinding c.w1 % 16) x = none ∧
  s.dev.twinEnabled (cmdBinding c.w1 % 16 / 2) = true :=
  ⟨(on (fun d => ((((((((d.put F.CLK_BLK_STAT_STATE 66 2).put F.CLK_BLK_STAT_STATE 67 2).put F.LOOP_OUTDIV_DIV_A 2 0).put
    F.LOOP_OUTDIV_DIV_A 3 0).put F.COUT_TWIN_CTRL_TWIN_EN 0 2).put F.LOOP_STAT_STATE 3 4).setEngine 0
    { slice := [cmd (word 4 5 (0x82 * 2 ^ 64)) 5] }).setCell 5
    { entry := { Entry.fresh 5 0 with f := BitVec.ofNat 72 (20 * 2 ^ 67) } }))), (0), (0), (cmd (word 4 5 (0x82 * 2 ^ 64)) 5),
    ({ Entry.fresh 5 0 with f := BitVec.ofNat 72 (20 * 2 ^ 67) }), by decide⟩
theorem witness_EngineBinds_bind_channel : ∃ (s : State) (e : Fin 64) (i : Nat) (c : Cmd) (x : Entry) (h : Nat) (lane : Nat)
  (slot : Nat), s.Running ∧ cmdOp c.w1 = 4 ∧ s.dev.resetBusy = false ∧ (s.dev.engine e.val).hand = none ∧
  bestOf (s.dev.choices e.val) = some (i, c) ∧ s.dev.bankVoid (bankOf (cmdBerth c.w1)) = false ∧
  (s.dev.granted e.val).isSome = true ∧ (s.dev.engine e.val).used + 2 ≤ s.dev.cycles ∧
  s.dev.cell (cmdBerth c.w1) = { entry := x } ∧ x.valid (cmdBerth c.w1) = true ∧ c.refresh = false ∧ x.a.toNat ≤ c.t.toNat ∧
  s.dev.preparedFor (cmdBerth c.w1) = none ∧ x.bound = false ∧ cmdBinding c.w1 / 64 = 1 ∧
  s.dev.servingWharf (cmdBerth c.w1) = some h ∧ s.dev.wharfTrained h = true ∧ s.dev.slotFor h = some (lane, slot) :=
  ⟨(on (fun d => { ((((((d.put F.CLK_BLK_STAT_STATE 0 2).put F.LANE_STAT_STATE 0 7).put F.LANE_STAT_JOINED 0 1).put F.WHF_CREDIT_HELD 0 64).setEngine 0 { slice := [cmd (word 4 5 (0x40 * 2 ^ 64)) 5] }).setCell 5 { entry := Entry.fresh 5 0 }) with ledger := { d.ledger with cells := [(5, { entry := Entry.fresh 5 0 })], map := [(0, 0x80000000)] } })),
    (0), (0), (cmd (word 4 5 (0x40 * 2 ^ 64)) 5), (Entry.fresh 5 0), (0), (0), (0), by decide⟩
theorem witness_EngineBinds_release_core : ∃ (s : State) (e : Fin 64) (i : Nat) (c : Cmd) (x : Entry), s.Running ∧
  cmdOp c.w1 = 5 ∧ s.dev.resetBusy = false ∧ (s.dev.engine e.val).hand = none ∧ bestOf (s.dev.choices e.val) = some (i, c) ∧
  s.dev.bankVoid (bankOf (cmdBerth c.w1)) = false ∧ (s.dev.granted e.val).isSome = true ∧
  (s.dev.engine e.val).used + 2 ≤ s.dev.cycles ∧ s.dev.cell (cmdBerth c.w1) = { entry := x } ∧ x.valid (cmdBerth c.w1) = true ∧
  c.refresh = false ∧ x.a.toNat ≤ c.t.toNat ∧ s.dev.preparedFor (cmdBerth c.w1) = none ∧ x.bound = true ∧ x.kind = 2 ∧
  s.dev.coreRefusal (cmdBerth c.w1) x true = none :=
  ⟨(on (fun d => ((((((d.put F.CLK_BLK_STAT_STATE 66 2).put F.CLK_BLK_STAT_STATE 67 2).put F.LOOP_OUTDIV_DIV_A 2 0).put
    F.LOOP_OUTDIV_DIV_A 3 0).setEngine 0 { slice := [cmd (word 5 5 0) 5] }).setCell 5
    { entry := { Entry.fresh 5 0 with state := 1, binding := 0x82 } }))), (0), (0), (cmd (word 5 5 0) 5),
    ({ Entry.fresh 5 0 with state := 1, binding := 0x82 }), by decide⟩
theorem witness_EngineBinds_release_channel : ∃ (s : State) (e : Fin 64) (i : Nat) (c : Cmd) (x : Entry), s.Running ∧
  cmdOp c.w1 = 5 ∧ s.dev.resetBusy = false ∧ (s.dev.engine e.val).hand = none ∧ bestOf (s.dev.choices e.val) = some (i, c) ∧
  s.dev.bankVoid (bankOf (cmdBerth c.w1)) = false ∧ (s.dev.granted e.val).isSome = true ∧
  (s.dev.engine e.val).used + 2 ≤ s.dev.cycles ∧ s.dev.cell (cmdBerth c.w1) = { entry := x } ∧ x.valid (cmdBerth c.w1) = true ∧
  c.refresh = false ∧ x.a.toNat ≤ c.t.toNat ∧ s.dev.preparedFor (cmdBerth c.w1) = none ∧ x.bound = true ∧ x.kind ≠ 2 :=
  ⟨(on (fun d => ((d.setEngine 0 { slice := [cmd (word 5 5 0) 5] }).setCell 5
    { entry := { Entry.fresh 5 0 with state := 1, binding := 0x40 } }))), (0), (0), (cmd (word 5 5 0) 5),
    ({ Entry.fresh 5 0 with state := 1, binding := 0x40 }), by decide⟩
theorem witness_EngineBinds_release_unbound : ∃ (s : State) (e : Fin 64) (i : Nat) (c : Cmd) (x : Entry), s.Running ∧
  cmdOp c.w1 = 5 ∧ s.dev.resetBusy = false ∧ (s.dev.engine e.val).hand = none ∧ bestOf (s.dev.choices e.val) = some (i, c) ∧
  s.dev.bankVoid (bankOf (cmdBerth c.w1)) = false ∧ (s.dev.granted e.val).isSome = true ∧
  (s.dev.engine e.val).used + 2 ≤ s.dev.cycles ∧ s.dev.cell (cmdBerth c.w1) = { entry := x } ∧ x.valid (cmdBerth c.w1) = true ∧
  c.refresh = false ∧ x.a.toNat ≤ c.t.toNat ∧ s.dev.preparedFor (cmdBerth c.w1) = none ∧ x.bound = false :=
  ⟨(on (fun d => ((d.setEngine 0 { slice := [cmd (word 5 5 0) 5] }).setCell 5 { entry := Entry.fresh 5 0 }))), (0), (0),
    (cmd (word 5 5 0) 5), (Entry.fresh 5 0), by decide⟩
theorem witness_EngineBinds_emit_core : ∃ (s : State) (e : Fin 64) (i : Nat) (c : Cmd) (x : Entry), s.Running ∧
  cmdOp c.w1 = 6 ∧ s.dev.resetBusy = false ∧ (s.dev.engine e.val).hand = none ∧ bestOf (s.dev.choices e.val) = some (i, c) ∧
  s.dev.bankVoid (bankOf (cmdBerth c.w1)) = false ∧ (s.dev.granted e.val).isSome = true ∧
  (s.dev.engine e.val).used + 2 ≤ s.dev.cycles ∧ s.dev.cell (cmdBerth c.w1) = { entry := x } ∧ x.valid (cmdBerth c.w1) = true ∧
  c.refresh = false ∧ x.a.toNat ≤ c.t.toNat ∧ s.dev.preparedFor (cmdBerth c.w1) = none ∧ x.bound = true ∧ x.kind = 2 ∧
  s.dev.coreRefusal (cmdBerth c.w1) x false = none :=
  ⟨(on (fun d => ((((((d.put F.CLK_BLK_STAT_STATE 66 2).put F.CLK_BLK_STAT_STATE 67 2).put F.LOOP_OUTDIV_DIV_A 2 0).put
    F.LOOP_OUTDIV_DIV_A 3 0).setEngine 0 { slice := [cmd (word 6 5 0) 5] }).setCell 5
    { entry := { Entry.fresh 5 0 with state := 1, binding := 0x82 } }).onCore 2 (fun k => { k with berth := some 5 }))), (0),
    (0), (cmd (word 6 5 0) 5), ({ Entry.fresh 5 0 with state := 1, binding := 0x82 }), by decide⟩
theorem witness_EngineBinds_emit_channel : ∃ (s : State) (e : Fin 64) (i : Nat) (c : Cmd) (x : Entry) (h : Nat) (lane : Nat)
  (slot : Nat), s.Running ∧ cmdOp c.w1 = 6 ∧ s.dev.resetBusy = false ∧ (s.dev.engine e.val).hand = none ∧
  bestOf (s.dev.choices e.val) = some (i, c) ∧ s.dev.bankVoid (bankOf (cmdBerth c.w1)) = false ∧
  (s.dev.granted e.val).isSome = true ∧ (s.dev.engine e.val).used + 2 ≤ s.dev.cycles ∧
  s.dev.cell (cmdBerth c.w1) = { entry := x } ∧ x.valid (cmdBerth c.w1) = true ∧ c.refresh = false ∧ x.a.toNat ≤ c.t.toNat ∧
  s.dev.preparedFor (cmdBerth c.w1) = none ∧ x.bound = true ∧ x.kind = 1 ∧ s.dev.servingWharf (cmdBerth c.w1) = some h ∧
  s.dev.wharfTrained h = true ∧ s.dev.slotFor h = some (lane, slot) :=
  ⟨(on (fun d => { ((((((d.put F.CLK_BLK_STAT_STATE 0 2).put F.LANE_STAT_STATE 0 7).put F.LANE_STAT_JOINED 0 1).put F.WHF_CREDIT_HELD 0 64).setEngine 0 { slice := [cmd (word 6 5 0) 5] }).setCell 5 { entry := { Entry.fresh 5 0 with state := 1, binding := 0x40 } }) with ledger := { d.ledger with cells := [(5, { entry := { Entry.fresh 5 0 with state := 1, binding := 0x40 } })], map := [(0, 0x80000000)] } })),
    (0), (0), (cmd (word 6 5 0) 5), ({ Entry.fresh 5 0 with state := 1, binding := 0x40 }), (0), (0), (0), by decide⟩
theorem witness_EngineBinds_emit_refresh : ∃ (s : State) (e : Fin 64) (i : Nat) (c : Cmd) (x : Entry) (h : Nat) (lane : Nat)
  (slot : Nat), s.Running ∧ cmdOp c.w1 = 6 ∧ s.dev.resetBusy = false ∧ (s.dev.engine e.val).hand = none ∧
  bestOf (s.dev.choices e.val) = some (i, c) ∧ s.dev.bankVoid (bankOf (cmdBerth c.w1)) = false ∧
  (s.dev.granted e.val).isSome = true ∧ (s.dev.engine e.val).used + 2 ≤ s.dev.cycles ∧
  s.dev.cell (cmdBerth c.w1) = { entry := x } ∧ x.valid (cmdBerth c.w1) = true ∧ c.refresh = true ∧ x.kind = 1 ∧
  x.noRefresh = false ∧ x.a.toNat ≤ c.t.toNat ∧ s.dev.servingWharf (cmdBerth c.w1) = some h ∧ s.dev.wharfTrained h = true ∧
  s.dev.slotFor h = some (lane, slot) :=
  ⟨(on (fun d => { ((((((d.put F.CLK_BLK_STAT_STATE 0 2).put F.LANE_STAT_STATE 0 7).put F.LANE_STAT_JOINED 0 1).put F.WHF_CREDIT_HELD 0 64).setEngine 0 { slice := [{ cmd (word 6 5 0) 5 with refresh := true }] }).setCell 5 { entry := { Entry.fresh 5 0 with state := 1, binding := 0x40 } }) with ledger := { d.ledger with cells := [(5, { entry := { Entry.fresh 5 0 with state := 1, binding := 0x40 } })], map := [(0, 0x80000000)] } })),
    (0), (0), ({ cmd (word 6 5 0) 5 with refresh := true }), ({ Entry.fresh 5 0 with state := 1, binding := 0x40 }), (0), (0),
    (0), by decide⟩
theorem witness_EngineBinds_emit_noRefresh : ∃ (s : State) (e : Fin 64) (i : Nat) (c : Cmd) (x : Entry), s.Running ∧
  cmdOp c.w1 = 6 ∧ s.dev.resetBusy = false ∧ (s.dev.engine e.val).hand = none ∧ bestOf (s.dev.choices e.val) = some (i, c) ∧
  s.dev.bankVoid (bankOf (cmdBerth c.w1)) = false ∧ (s.dev.granted e.val).isSome = true ∧
  (s.dev.engine e.val).used + 2 ≤ s.dev.cycles ∧ s.dev.cell (cmdBerth c.w1) = { entry := x } ∧ x.valid (cmdBerth c.w1) = true ∧
  c.refresh = true ∧ (x.kind ≠ 1 ∨ x.noRefresh = true ∨ c.t.toNat < x.a.toNat) :=
  ⟨(on (fun d => ((d.setEngine 0 { slice := [{ cmd (word 6 5 0) 5 with refresh := true }] }).setCell 5
    { entry := { Entry.fresh 5 0 with state := 1, binding := 0x82 } }))), (0), (0),
    ({ cmd (word 6 5 0) 5 with refresh := true }), ({ Entry.fresh 5 0 with state := 1, binding := 0x82 }), by decide⟩
set_option maxRecDepth 20000 in
theorem witness_EngineHops_prepHopRetune : ∃ (s : State) (e : Fin 64) (i : Nat) (c : Cmd) (x : Entry), s.Running ∧
  cmdOp c.w1 = 7 ∧ cmdHopKind c.w1 = 1 ∧ s.dev.resetBusy = false ∧ (s.dev.engine e.val).hand = none ∧
  bestOf (s.dev.choices e.val) = some (i, c) ∧ s.dev.bankVoid (bankOf (cmdBerth c.w1)) = false ∧
  (s.dev.granted e.val).isSome = true ∧ (s.dev.engine e.val).used + 2 ≤ s.dev.cycles ∧
  s.dev.cell (cmdBerth c.w1) = { entry := x } ∧ x.valid (cmdBerth c.w1) = true ∧ c.refresh = false ∧ x.a.toNat ≤ c.t.toNat ∧
  s.dev.preparedFor (cmdBerth c.w1) = none ∧ x.kind = 2 ∧ s.dev.coreRefusal (cmdBerth c.w1) x false = none ∧
  s.dev.outOfRange (s.dev.actingCore x) (cmdFreq c.w1) = false ∧ (s.dev.bandLookup (s.dev.actingCore x) (s.dev.derived
  (s.dev.actingCore x) (cmdFreq c.w1))).isSome = true :=
  ⟨(on (fun d => { (((((((d.put F.CLK_BLK_STAT_STATE 66 2).put F.CLK_BLK_STAT_STATE 67 2).put F.LOOP_OUTDIV_DIV_A 2 0).put F.COUT_BANDMAP_CTRL_MAP_EN 0 0xFFFF).setEngine 0 { slice := [cmd (word 7 5 (1 * 2 ^ 77 + 20 * 2 ^ 67)) 5] }).setCell 5 { entry := { Entry.fresh 5 0 with state := 1, binding := 0x82 } }).onCore 2 (fun k => { k with berth := some 5 })) with bandMap := [(512, 0x80000000), (513, 0), (514, 0x1FFFFF), (515, 0)] })),
    (0), (0), (cmd (word 7 5 (1 * 2 ^ 77 + 20 * 2 ^ 67)) 5), ({ Entry.fresh 5 0 with state := 1, binding := 0x82 }), by decide⟩
set_option maxRecDepth 20000 in
theorem witness_EngineHops_prepHopRetune_noEntry : ∃ (s : State) (e : Fin 64) (i : Nat) (c : Cmd) (x : Entry), s.Running ∧
  cmdOp c.w1 = 7 ∧ cmdHopKind c.w1 = 1 ∧ s.dev.resetBusy = false ∧ (s.dev.engine e.val).hand = none ∧
  bestOf (s.dev.choices e.val) = some (i, c) ∧ s.dev.bankVoid (bankOf (cmdBerth c.w1)) = false ∧
  (s.dev.granted e.val).isSome = true ∧ (s.dev.engine e.val).used + 2 ≤ s.dev.cycles ∧
  s.dev.cell (cmdBerth c.w1) = { entry := x } ∧ x.valid (cmdBerth c.w1) = true ∧ c.refresh = false ∧ x.a.toNat ≤ c.t.toNat ∧
  s.dev.preparedFor (cmdBerth c.w1) = none ∧ x.kind = 2 ∧ s.dev.coreRefusal (cmdBerth c.w1) x false = none ∧
  (s.dev.outOfRange (s.dev.actingCore x) (cmdFreq c.w1) = true ∨ (s.dev.bandLookup (s.dev.actingCore x) (s.dev.derived
  (s.dev.actingCore x) (cmdFreq c.w1))).isSome = false) :=
  ⟨(on (fun d => ((((((d.put F.CLK_BLK_STAT_STATE 66 2).put F.CLK_BLK_STAT_STATE 67 2).put F.LOOP_OUTDIV_DIV_A 2 0).put
    F.LOOP_OUTDIV_DIV_A 3 0).setEngine 0 { slice := [cmd (word 7 5 (1 * 2 ^ 77 + 20 * 2 ^ 67)) 5] }).setCell 5
    { entry := { Entry.fresh 5 0 with state := 1, binding := 0x82 } }).onCore 2 (fun k => { k with berth := some 5 }))), (0),
    (0), (cmd (word 7 5 (1 * 2 ^ 77 + 20 * 2 ^ 67)) 5), ({ Entry.fresh 5 0 with state := 1, binding := 0x82 }), by decide⟩
set_option maxRecDepth 20000 in
theorem witness_EngineHops_prepHopTwin : ∃ (s : State) (e : Fin 64) (i : Nat) (c : Cmd) (x : Entry), s.Running ∧
  cmdOp c.w1 = 7 ∧ cmdHopKind c.w1 = 0 ∧ s.dev.resetBusy = false ∧ (s.dev.engine e.val).hand = none ∧
  bestOf (s.dev.choices e.val) = some (i, c) ∧ s.dev.bankVoid (bankOf (cmdBerth c.w1)) = false ∧
  (s.dev.granted e.val).isSome = true ∧ (s.dev.engine e.val).used + 2 ≤ s.dev.cycles ∧
  s.dev.cell (cmdBerth c.w1) = { entry := x } ∧ x.valid (cmdBerth c.w1) = true ∧ c.refresh = false ∧ x.a.toNat ≤ c.t.toNat ∧
  s.dev.preparedFor (cmdBerth c.w1) = none ∧ x.kind = 2 ∧ s.dev.coreRefusal (cmdBerth c.w1) x false = none ∧
  s.dev.twinHopRefusal x (cmdFreq c.w1) = none :=
  ⟨(on (fun d => { ((((((((((d.put F.CLK_BLK_STAT_STATE 66 2).put F.CLK_BLK_STAT_STATE 67 2).put F.LOOP_OUTDIV_DIV_A 3 0).put F.COUT_BANDMAP_CTRL_MAP_EN 0 0xFFFF).put F.COUT_TWIN_CTRL_TWIN_EN 0 2).put F.LOOP_STAT_STATE 3 4).setEngine 0 { slice := [cmd (word 7 5 (20 * 2 ^ 67)) 300] }).setCell 5 { entry := { Entry.fresh 5 0 with state := 1, binding := 0xA2 } }).onCore 2 (fun k => { k with berth := some 5 })).onCore 3 (fun k => { k with berth := some 5 })) with bandMap := [(768, 0x80000000), (769, 0), (770, 0x1FFFFF), (771, 0)] })),
    (0), (0), (cmd (word 7 5 (20 * 2 ^ 67)) 300), ({ Entry.fresh 5 0 with state := 1, binding := 0xA2 }), by decide⟩
set_option maxRecDepth 20000 in
theorem witness_EngineHops_prepHopTwin_refused : ∃ (s : State) (e : Fin 64) (i : Nat) (c : Cmd) (x : Entry) (code : Code),
  s.Running ∧ cmdOp c.w1 = 7 ∧ cmdHopKind c.w1 = 0 ∧ s.dev.resetBusy = false ∧ (s.dev.engine e.val).hand = none ∧
  bestOf (s.dev.choices e.val) = some (i, c) ∧ s.dev.bankVoid (bankOf (cmdBerth c.w1)) = false ∧
  (s.dev.granted e.val).isSome = true ∧ (s.dev.engine e.val).used + 2 ≤ s.dev.cycles ∧
  s.dev.cell (cmdBerth c.w1) = { entry := x } ∧ x.valid (cmdBerth c.w1) = true ∧ c.refresh = false ∧ x.a.toNat ≤ c.t.toNat ∧
  s.dev.preparedFor (cmdBerth c.w1) = none ∧ x.kind = 2 ∧ s.dev.coreRefusal (cmdBerth c.w1) x false = none ∧
  s.dev.twinHopRefusal x (cmdFreq c.w1) = some code :=
  ⟨(on (fun d => ((((((d.put F.CLK_BLK_STAT_STATE 66 2).put F.CLK_BLK_STAT_STATE 67 2).put F.LOOP_OUTDIV_DIV_A 2 0).put
    F.LOOP_OUTDIV_DIV_A 3 0).setEngine 0 { slice := [cmd (word 7 5 (20 * 2 ^ 67)) 300] }).setCell 5
    { entry := { Entry.fresh 5 0 with state := 1, binding := 0x82 } }).onCore 2 (fun k => { k with berth := some 5 }))), (0),
    (0), (cmd (word 7 5 (20 * 2 ^ 67)) 300), ({ Entry.fresh 5 0 with state := 1, binding := 0x82 }), (0x0F), by decide⟩
set_option maxRecDepth 20000 in
theorem witness_EngineHops_prepHopPark : ∃ (s : State) (e : Fin 64) (i : Nat) (c : Cmd) (x : Entry), s.Running ∧
  cmdOp c.w1 = 7 ∧ cmdHopKind c.w1 = 2 ∧ s.dev.resetBusy = false ∧ (s.dev.engine e.val).hand = none ∧
  bestOf (s.dev.choices e.val) = some (i, c) ∧ s.dev.bankVoid (bankOf (cmdBerth c.w1)) = false ∧
  (s.dev.granted e.val).isSome = true ∧ (s.dev.engine e.val).used + 2 ≤ s.dev.cycles ∧
  s.dev.cell (cmdBerth c.w1) = { entry := x } ∧ x.valid (cmdBerth c.w1) = true ∧ c.refresh = false ∧ x.a.toNat ≤ c.t.toNat ∧
  s.dev.preparedFor (cmdBerth c.w1) = none ∧ x.kind = 2 ∧ s.dev.coreRefusal (cmdBerth c.w1) x false = none ∧
  s.dev.twinHopRefusal x (cmdFreq c.w1) = none :=
  ⟨(on (fun d => { ((((((((((d.put F.CLK_BLK_STAT_STATE 66 2).put F.CLK_BLK_STAT_STATE 67 2).put F.LOOP_OUTDIV_DIV_A 3 0).put F.COUT_BANDMAP_CTRL_MAP_EN 0 0xFFFF).put F.COUT_TWIN_CTRL_TWIN_EN 0 2).put F.LOOP_STAT_STATE 3 4).setEngine 0 { slice := [cmd (word 7 5 (2 * 2 ^ 77 + 20 * 2 ^ 67)) 300] }).setCell 5 { entry := { Entry.fresh 5 0 with state := 1, binding := 0xA2 } }).onCore 2 (fun k => { k with berth := some 5 })).onCore 3 (fun k => { k with berth := some 5 })) with bandMap := [(768, 0x80000000), (769, 0), (770, 0x1FFFFF), (771, 0)] })),
    (0), (0), (cmd (word 7 5 (2 * 2 ^ 77 + 20 * 2 ^ 67)) 300), ({ Entry.fresh 5 0 with state := 1, binding := 0xA2 }),
    by decide⟩
set_option maxRecDepth 20000 in
theorem witness_EngineHops_prepHopPark_refused : ∃ (s : State) (e : Fin 64) (i : Nat) (c : Cmd) (x : Entry) (code : Code),
  s.Running ∧ cmdOp c.w1 = 7 ∧ cmdHopKind c.w1 = 2 ∧ s.dev.resetBusy = false ∧ (s.dev.engine e.val).hand = none ∧
  bestOf (s.dev.choices e.val) = some (i, c) ∧ s.dev.bankVoid (bankOf (cmdBerth c.w1)) = false ∧
  (s.dev.granted e.val).isSome = true ∧ (s.dev.engine e.val).used + 2 ≤ s.dev.cycles ∧
  s.dev.cell (cmdBerth c.w1) = { entry := x } ∧ x.valid (cmdBerth c.w1) = true ∧ c.refresh = false ∧ x.a.toNat ≤ c.t.toNat ∧
  s.dev.preparedFor (cmdBerth c.w1) = none ∧ x.kind = 2 ∧ s.dev.coreRefusal (cmdBerth c.w1) x false = none ∧
  s.dev.twinHopRefusal x (cmdFreq c.w1) = some code :=
  ⟨(on (fun d => ((((((d.put F.CLK_BLK_STAT_STATE 66 2).put F.CLK_BLK_STAT_STATE 67 2).put F.LOOP_OUTDIV_DIV_A 2 0).put
    F.LOOP_OUTDIV_DIV_A 3 0).setEngine 0 { slice := [cmd (word 7 5 (2 * 2 ^ 77 + 20 * 2 ^ 67)) 300] }).setCell 5
    { entry := { Entry.fresh 5 0 with state := 1, binding := 0x82 } }).onCore 2 (fun k => { k with berth := some 5 }))), (0),
    (0), (cmd (word 7 5 (2 * 2 ^ 77 + 20 * 2 ^ 67)) 300), ({ Entry.fresh 5 0 with state := 1, binding := 0x82 }), (0x0F),
    by decide⟩
theorem witness_FillStealAndIndirect_fill : ∃ (s : State) (e : Fin 64) (up : Upset) (i : Nat) (c : Cmd), s.Running ∧
  s.dev.fillReady e.val = some (i, c) ∧ up.queue = false ∧ up.lease = false ∧
  s.dev.bankVoid (bankOf (cmdBerth c.w1 + c.filled)) = false ∧ s.dev.eng.leaseHolder (cmdBerth c.w1 + c.filled) = none ∧
  s.dev.fillGranted e.val (bankOf (cmdBerth c.w1 + c.filled)) = true :=
  ⟨(on (fun d => ((d.setEngine 0 { slice := [cmd (word 9 5 (1 * 2 ^ 68)) 5] }).setCell 5 { entry := Entry.fresh 5 0 }))), (0),
    ({}), (0), (cmd (word 9 5 (1 * 2 ^ 68)) 5), by decide⟩
theorem witness_FillStealAndIndirect_fill_waits : ∃ (s : State) (e : Fin 64) (up : Upset) (i : Nat) (c : Cmd), s.Running ∧
  s.dev.fillReady e.val = some (i, c) ∧ up.queue = false ∧ up.lease = false ∧
  s.dev.bankVoid (bankOf (cmdBerth c.w1 + c.filled)) = false ∧ ((s.dev.eng.leaseHolder (cmdBerth c.w1 + c.filled)).isSome =
  true ∨ s.dev.fillGranted e.val (bankOf (cmdBerth c.w1 + c.filled)) = false) :=
  ⟨(on (fun d => { d with eng := { engine := [(0, { slice := [cmd (word 9 5 (1 * 2 ^ 68)) 5] })], flights := [{ eng := 1, cmd := cmd (word 1 5 0) 5, berth := 5 }] } })),
    (0), ({}), (0), (cmd (word 9 5 (1 * 2 ^ 68)) 5), by decide⟩
theorem witness_FillStealAndIndirect_fill_void : ∃ (s : State) (e : Fin 64) (up : Upset) (i : Nat) (c : Cmd), s.Running ∧
  s.dev.fillReady e.val = some (i, c) ∧ up.queue = false ∧ (up.lease =
  true ∨ s.dev.bankVoid (bankOf (cmdBerth c.w1 + c.filled)) = true) ∧ (¬(c.filled + 1 = cmdCount c.w1 ∧
  s.dev.eng.flights.any (fun f => f.fill && f.eng == e.val) = false)) :=
  ⟨(on (fun d => ((d.setEngine 0 { slice := [cmd (word 9 5 (2 * 2 ^ 68)) 5] }).setCell 5 { entry := Entry.fresh 5 0 }))), (0),
    ({ lease := true }), (0), (cmd (word 9 5 (2 * 2 ^ 68)) 5), by decide⟩
theorem witness_FillStealAndIndirect_fill_voidEnd : ∃ (s : State) (e : Fin 64) (up : Upset) (i : Nat) (c : Cmd), s.Running ∧
  s.dev.fillReady e.val = some (i, c) ∧ up.queue = false ∧ (up.lease =
  true ∨ s.dev.bankVoid (bankOf (cmdBerth c.w1 + c.filled)) = true) ∧ c.filled + 1 = cmdCount c.w1 ∧
  (s.dev.eng.flights.any (fun f => f.fill && f.eng == e.val) = false) :=
  ⟨(on (fun d => ((d.setEngine 0 { slice := [cmd (word 9 5 0) 5] }).setCell 5 { entry := Entry.fresh 5 0 }))), (0),
    ({ lease := true }), (0), (cmd (word 9 5 0) 5), by decide⟩
theorem witness_FillStealAndIndirect_fill_upset : ∃ (s : State) (e : Fin 64) (up : Upset) (i : Nat) (c : Cmd), s.Running ∧
  s.dev.fillReady e.val = some (i, c) ∧ up.queue = true :=
  ⟨(on (fun d => ((d.setEngine 0 { slice := [cmd (word 9 5 (1 * 2 ^ 68)) 5] }).setCell 5 { entry := Entry.fresh 5 0 }))), (0),
    ({ queue := true }), (0), (cmd (word 9 5 (1 * 2 ^ 68)) 5), by decide⟩
theorem witness_FillStealAndIndirect_steal : ∃ (s : State) (e : Fin 64) (h : Nat) (v : Nat) (i : Nat) (c : Cmd) (up : Upset),
  s.Running ∧ up.queue = false ∧ up.lease = false ∧ s.dev.stealWish e.val = some (false, h) ∧
  s.dev.granted e.val = some (v, i, c) ∧ v ≠ e.val :=
  ⟨(on (fun d => ((d.put F.ENG_CTRL_STEAL_EN 0 1).put F.ENG_CTRL_STEAL_WEIR 0 0).setEngine 1
    { slice := [cmd (word 1 2053 0) 5], used := 1 })), (0), (1), (1), (0), (cmd (word 1 2053 0) 5), ({}), by decide⟩
theorem witness_FillStealAndIndirect_steal_upset : ∃ (s : State) (e : Fin 64) (ring : Bool) (h : Nat) (v : Nat) (i : Nat) (c :
  Cmd) (up : Upset), s.Running ∧ s.dev.stealWish e.val = some (ring, h) ∧ s.dev.granted e.val = some (v, i, c) ∧ v ≠ e.val ∧
  up.queue = true :=
  ⟨(on (fun d => ((d.put F.ENG_CTRL_STEAL_EN 0 1).put F.ENG_CTRL_STEAL_WEIR 0 0).setEngine 1
    { slice := [cmd (word 1 2053 0) 5], used := 1 })), (0), (false), (1), (1), (0), (cmd (word 1 2053 0) 5),
    ({ queue := true }), by decide⟩
theorem witness_FillStealAndIndirect_steal_void : ∃ (s : State) (e : Fin 64) (ring : Bool) (h : Nat) (v : Nat) (i : Nat) (c :
  Cmd) (up : Upset), s.Running ∧ s.dev.stealWish e.val = some (ring, h) ∧ s.dev.granted e.val = some (v, i, c) ∧ v ≠ e.val ∧
  up.queue = false ∧ up.lease = true :=
  ⟨(on (fun d => ((d.put F.ENG_CTRL_STEAL_EN 0 1).put F.ENG_CTRL_STEAL_WEIR 0 0).setEngine 1
    { slice := [cmd (word 1 2053 0) 5], used := 1 })), (0), (false), (1), (1), (0), (cmd (word 1 2053 0) 5),
    ({ lease := true }), by decide⟩
theorem witness_FillStealAndIndirect_steal_ring : ∃ (s : State) (e : Fin 64) (h : Nat) (v : Nat) (i : Nat) (c : Cmd) (up :
  Upset), s.Running ∧ up.queue = false ∧ up.lease = false ∧ s.dev.stealWish e.val = some (true, h) ∧
  s.dev.granted e.val = some (v, i, c) ∧ v ≠ e.val :=
  ⟨(on (fun d => (((((d.put F.ENG_CTRL_STEAL_EN 0 1).put F.ENG_CTRL_RING_EN 0 1).put F.ENG_CTRL_STEAL_WEIR 0 0).put
    F.CLK_DOM_STAT_CUR_SRC 144 1).put F.CLK_DOM_STAT_CUR_DIV 144 5).setEngine 8
    { slice := [cmd (word 1 16389 0) 5], used := 1 })), (0), (8), (8), (0), (cmd (word 1 16389 0) 5), ({}), by decide⟩
theorem witness_FillStealAndIndirect_steal_ungranted : ∃ (s : State) (e : Fin 64) (ring : Bool) (h : Nat), s.Running ∧
  s.dev.stealWish e.val = some (ring, h) ∧ s.dev.granted e.val = none :=
  ⟨(on (fun d => { (((d.put F.ENG_CTRL_STEAL_EN 0 1).put F.ENG_CTRL_STEAL_WEIR 0 0).setEngine 1 { slice := [cmd (word 1 2053 0) 5], used := 1 }) with eng := { engine := [(1, { slice := [cmd (word 1 2053 0) 5], used := 1 })], grants := [(5, 0)] } })),
    (0), (false), (1), by decide⟩
theorem witness_FillStealAndIndirect_berthIndWriteCommit : ∃ (s : State) (id : Nat) (ws : Store Word) (x : Entry), s.Running ∧
  s.dev.ledger.waiting = some (id, ws) ∧ s.dev.eng.leaseHolder id = none ∧ (s.dev.cell id).boundNow = false ∧
  s.dev.indEntry id ws = some x ∧ (s.dev.cell id).uncorr = 0 :=
  ⟨(on (fun d => { (d.put F.LDG_STAT_IND_BUSY 0 1) with ledger := { cells := [(5, { entry := Entry.fresh 5 0 })], waiting := some (5, [(7, 9)]) } })),
    (5), ([(7, 9)]), ({ Entry.fresh 5 0 with a := 0x900000000 }), by decide⟩
theorem witness_FillStealAndIndirect_berthIndWriteCommit_uncorr : ∃ (s : State) (id : Nat) (ws : Store Word) (x : Entry),
  s.Running ∧ s.dev.ledger.waiting = some (id, ws) ∧ s.dev.eng.leaseHolder id = none ∧ (s.dev.cell id).boundNow = false ∧
  s.dev.indEntry id ws = some x ∧ (s.dev.cell id).uncorr ≠ 0 :=
  ⟨(on (fun d => { (d.put F.LDG_STAT_IND_BUSY 0 1) with ledger := { cells := [(5, { entry := Entry.fresh 5 0, uncorr := 1 })], waiting := some (5, (List.range 10).map (fun i => (i, 0))) } })),
    (5), ((List.range 10).map (fun i => (i, 0))), ({ Entry.fresh 5 0 with f := 0 }), by decide⟩
theorem witness_FillStealAndIndirect_berthIndWriteCommit_bound : ∃ (s : State) (id : Nat) (ws : Store Word), s.Running ∧
  s.dev.ledger.waiting = some (id, ws) ∧ s.dev.eng.leaseHolder id = none ∧ (s.dev.cell id).boundNow = true :=
  ⟨(on (fun d => { (d.put F.LDG_STAT_IND_BUSY 0 1) with ledger := { cells := [(5, { entry := { Entry.fresh 5 0 with state := 1, binding := 0x40 } })], waiting := some (5, [(7, 9)]) } })),
    (5), ([(7, 9)]), by decide⟩
theorem witness_FillStealAndIndirect_berthIndWriteCommit_unread : ∃ (s : State) (id : Nat) (ws : Store Word), s.Running ∧
  s.dev.ledger.waiting = some (id, ws) ∧ s.dev.eng.leaseHolder id = none ∧ (s.dev.cell id).boundNow = false ∧
  s.dev.indEntry id ws = none :=
  ⟨(on (fun d => { (d.put F.LDG_STAT_IND_BUSY 0 1) with ledger := { cells := [(5, { entry := Entry.fresh 5 0, uncorr := 1 })], waiting := some (5, [(7, 9)]) } })),
    (5), ([(7, 9)]), by decide⟩
theorem witness_FillStealAndIndirect_berthIndWriteCommit_leased : ∃ (s : State) (id : Nat) (ws : Store Word), s.Running ∧
  s.dev.ledger.waiting = some (id, ws) ∧ (s.dev.eng.leaseHolder id).isSome = true :=
  ⟨(on (fun d => { d with ledger := { waiting := some (5, [(7, 9)]) }, eng := { flights := [{ eng := 1, cmd := cmd (word 1 5 0) 5, berth := 5 }] } })),
    (5), ([(7, 9)]), by decide⟩
theorem witness_FillStealAndIndirect_berthIndWriteCommit_none : ∃ (s : State), s.Running ∧ s.dev.ledger.waiting = none :=
  ⟨(base), by decide⟩
theorem witness_CoreLoads_coreLoad_phase : ∃ (s : State) (c : Fin 16) (l : Load) (rest : List Load), s.Running ∧
  s.dev.changeDue (c.val / 2) = false ∧ s.dev.takeDue c.val s.dev.loads = some (l, rest) ∧ l.kind = .phase ∧
  s.dev.coreClosed c.val = false ∧ (s.dev.core c.val).berth = some l.berth :=
  ⟨(on (fun d => { ((((d.put F.CLK_BLK_STAT_STATE 66 2).put F.LOOP_OUTDIV_DIV_A 2 0).put F.LOOP_STAT_STATE 2 3).onCore 2 (fun k => { k with berth := some 5 })) with loads := [{ core := 2, kind := .phase, berth := 5, t := 7, a := 6, phi := 9, f := BitVec.ofNat 72 (20 * 2 ^ 67) }], tow := { pound := 7 } })),
    (2), ({ core := 2, kind := .phase, berth := 5, t := 7, a := 6, phi := 9, f := BitVec.ofNat 72 (20 * 2 ^ 67) }), ([]),
    by decide⟩
theorem witness_CoreLoads_coreLoad_emit : ∃ (s : State) (c : Fin 16) (l : Load) (rest : List Load), s.Running ∧
  s.dev.changeDue (c.val / 2) = false ∧ s.dev.takeDue c.val s.dev.loads = some (l, rest) ∧ l.kind = .emit ∧
  s.dev.coreClosed c.val = false ∧ (s.dev.core c.val).berth = some l.berth ∧ s.dev.coreCold c.val = false :=
  ⟨(on (fun d => { ((((d.put F.CLK_BLK_STAT_STATE 66 2).put F.LOOP_OUTDIV_DIV_A 2 0).put F.LOOP_STAT_STATE 2 3).onCore 2 (fun k => { k with berth := some 5 })) with loads := [{ core := 2, kind := .emit, berth := 5, t := 7, a := 6, phi := 9, f := BitVec.ofNat 72 (20 * 2 ^ 67) }], tow := { pound := 7 } })),
    (2), ({ core := 2, kind := .emit, berth := 5, t := 7, a := 6, phi := 9, f := BitVec.ofNat 72 (20 * 2 ^ 67) }), ([]),
    by decide⟩
theorem witness_CoreLoads_coreLoad_addPhase : ∃ (s : State) (c : Fin 16) (l : Load) (rest : List Load), s.Running ∧
  s.dev.changeDue (c.val / 2) = false ∧ s.dev.takeDue c.val s.dev.loads = some (l, rest) ∧ l.kind = .addPhase ∧
  s.dev.coreClosed c.val = false ∧ (s.dev.core c.val).berth = some l.berth :=
  ⟨(on (fun d => { ((((d.put F.CLK_BLK_STAT_STATE 66 2).put F.LOOP_OUTDIV_DIV_A 2 0).put F.LOOP_STAT_STATE 2 3).onCore 2 (fun k => { k with berth := some 5 })) with loads := [{ core := 2, kind := .addPhase, berth := 5, t := 7, a := 6, phi := 9, f := BitVec.ofNat 72 (20 * 2 ^ 67) }], tow := { pound := 7 } })),
    (2), ({ core := 2, kind := .addPhase, berth := 5, t := 7, a := 6, phi := 9, f := BitVec.ofNat 72 (20 * 2 ^ 67) }), ([]),
    by decide⟩
theorem witness_CoreLoads_coreLoad_freq_start : ∃ (s : State) (c : Fin 16) (l : Load) (rest : List Load), s.Running ∧
  s.dev.changeDue (c.val / 2) = false ∧ s.dev.takeDue c.val s.dev.loads = some (l, rest) ∧ (l.kind = .freq ∨ (l.kind = .emit ∧
  s.dev.coreCold c.val = true)) ∧ s.dev.coreClosed c.val = false ∧ (s.dev.core c.val).berth = some l.berth ∧
  (s.dev.derived c.val l.f).refusal = none ∧ s.dev.coreState c.val = 1 ∧ s.dev.is F.LOOP_BAND_CTRL_MANUAL c.val = false :=
  ⟨(on (fun d => { ((((d.put F.CLK_BLK_STAT_STATE 66 2).put F.LOOP_OUTDIV_DIV_A 2 0).put F.LOOP_STAT_STATE 2 1).onCore 2 (fun k => { k with berth := some 5 })) with loads := [{ core := 2, kind := .freq, berth := 5, t := 7, a := 6, phi := 9, f := BitVec.ofNat 72 (20 * 2 ^ 67) }], tow := { pound := 7 } })),
    (2), ({ core := 2, kind := .freq, berth := 5, t := 7, a := 6, phi := 9, f := BitVec.ofNat 72 (20 * 2 ^ 67) }), ([]),
    by decide⟩
theorem witness_CoreLoads_coreLoad_freq_startManual : ∃ (s : State) (c : Fin 16) (l : Load) (rest : List Load), s.Running ∧
  s.dev.changeDue (c.val / 2) = false ∧ s.dev.takeDue c.val s.dev.loads = some (l, rest) ∧ (l.kind = .freq ∨ (l.kind = .emit ∧
  s.dev.coreCold c.val = true)) ∧ s.dev.coreClosed c.val = false ∧ (s.dev.core c.val).berth = some l.berth ∧
  (s.dev.derived c.val l.f).refusal = none ∧ s.dev.coreState c.val = 1 ∧ s.dev.is F.LOOP_BAND_CTRL_MANUAL c.val = true :=
  ⟨(on (fun d => { ((((((d.put F.CLK_BLK_STAT_STATE 66 2).put F.LOOP_OUTDIV_DIV_A 2 0).put F.LOOP_STAT_STATE 2 1).put F.LOOP_BAND_CTRL_MANUAL 2 1).put F.LOOP_BAND_CTRL_BAND 2 33).onCore 2 (fun k => { k with berth := some 5 })) with loads := [{ core := 2, kind := .freq, berth := 5, t := 7, a := 6, phi := 9, f := BitVec.ofNat 72 (20 * 2 ^ 67) }], tow := { pound := 7 } })),
    (2), ({ core := 2, kind := .freq, berth := 5, t := 7, a := 6, phi := 9, f := BitVec.ofNat 72 (20 * 2 ^ 67) }), ([]),
    by decide⟩
theorem witness_CoreLoads_coreLoad_freq_opening : ∃ (s : State) (c : Fin 16) (l : Load) (rest : List Load), s.Running ∧
  s.dev.changeDue (c.val / 2) = false ∧ s.dev.takeDue c.val s.dev.loads = some (l, rest) ∧ (l.kind = .freq ∨ (l.kind = .emit ∧
  s.dev.coreCold c.val = true)) ∧ s.dev.coreClosed c.val = false ∧ (s.dev.core c.val).berth = some l.berth ∧
  (s.dev.derived c.val l.f).refusal = none ∧ s.dev.coreState c.val = 0 :=
  ⟨(on (fun d => { ((((d.put F.CLK_BLK_STAT_STATE 66 2).put F.LOOP_OUTDIV_DIV_A 2 0).put F.LOOP_STAT_STATE 2 0).onCore 2 (fun k => { k with berth := some 5 })) with loads := [{ core := 2, kind := .freq, berth := 5, t := 7, a := 6, phi := 9, f := BitVec.ofNat 72 (20 * 2 ^ 67) }], tow := { pound := 7 } })),
    (2), ({ core := 2, kind := .freq, berth := 5, t := 7, a := 6, phi := 9, f := BitVec.ofNat 72 (20 * 2 ^ 67) }), ([]),
    by decide⟩
theorem witness_CoreLoads_coreLoad_freq_written : ∃ (s : State) (c : Fin 16) (inBand : Bool) (l : Load) (rest : List Load),
  s.Running ∧ s.dev.changeDue (c.val / 2) = false ∧ s.dev.takeDue c.val s.dev.loads = some (l, rest) ∧
  (l.kind = .freq ∨ (l.kind = .emit ∧ s.dev.coreCold c.val = true)) ∧ s.dev.coreClosed c.val = false ∧
  (s.dev.core c.val).berth = some l.berth ∧ (s.dev.derived c.val l.f).refusal = none ∧ 2 ≤ s.dev.coreState c.val ∧
  ¬(s.dev.coreCold c.val = false ∧ s.dev.manualMoves c.val = false ∧
  s.dev.staysInBand c.val (s.dev.derived c.val l.f) inBand = true) ∧ s.dev.bandLookup c.val (s.dev.derived c.val l.f) = none ∧
  s.dev.is F.LOOP_BAND_CTRL_MANUAL c.val = true :=
  ⟨(on (fun d => { (((((((d.put F.CLK_BLK_STAT_STATE 66 2).put F.LOOP_OUTDIV_DIV_A 2 0).put F.LOOP_STAT_STATE 2 4).put F.LOOP_BAND_CTRL_MANUAL 2 1).put F.LOOP_BAND_CTRL_BAND 2 33).put F.LOOP_STAT_TUNE_EDGE 2 1).onCore 2 (fun k => { k with berth := some 5 })) with loads := [{ core := 2, kind := .freq, berth := 5, t := 7, a := 6, phi := 9, f := BitVec.ofNat 72 (20 * 2 ^ 67) }], tow := { pound := 7 } })),
    (2), (false), ({ core := 2, kind := .freq, berth := 5, t := 7, a := 6, phi := 9, f := BitVec.ofNat 72 (20 * 2 ^ 67) }),
    ([]), by decide⟩
theorem witness_CoreLoads_coreLoad_freq_inBand : ∃ (s : State) (c : Fin 16) (inBand : Bool) (l : Load) (rest : List Load),
  s.Running ∧ s.dev.changeDue (c.val / 2) = false ∧ s.dev.takeDue c.val s.dev.loads = some (l, rest) ∧
  (l.kind = .freq ∨ (l.kind = .emit ∧ s.dev.coreCold c.val = true)) ∧ s.dev.coreClosed c.val = false ∧
  (s.dev.core c.val).berth = some l.berth ∧ (s.dev.derived c.val l.f).refusal = none ∧ s.dev.coreCold c.val = false ∧
  s.dev.manualMoves c.val = false ∧ s.dev.staysInBand c.val (s.dev.derived c.val l.f) inBand = true :=
  ⟨(on (fun d => { ((((((d.put F.CLK_BLK_STAT_STATE 66 2).put F.LOOP_OUTDIV_DIV_A 2 0).put F.LOOP_STAT_STATE 2 4).put F.LOOP_STAT_LOCK 2 1).put F.LOOP_STAT_TUNE_EDGE 2 1).onCore 2 (fun k => { k with berth := some 5 })) with loads := [{ core := 2, kind := .freq, berth := 5, t := 7, a := 6, phi := 9, f := BitVec.ofNat 72 (20 * 2 ^ 67) }], tow := { pound := 7 } })),
    (2), (true), ({ core := 2, kind := .freq, berth := 5, t := 7, a := 6, phi := 9, f := BitVec.ofNat 72 (20 * 2 ^ 67) }),
    ([]), by decide⟩
theorem witness_CoreLoads_coreLoad_freq_preset : ∃ (s : State) (c : Fin 16) (inBand : Bool) (l : Load) (rest : List Load) (p :
  Preset), s.Running ∧ s.dev.changeDue (c.val / 2) = false ∧ s.dev.takeDue c.val s.dev.loads = some (l, rest) ∧
  (l.kind = .freq ∨ (l.kind = .emit ∧ s.dev.coreCold c.val = true)) ∧ s.dev.coreClosed c.val = false ∧
  (s.dev.core c.val).berth = some l.berth ∧ (s.dev.derived c.val l.f).refusal = none ∧ 2 ≤ s.dev.coreState c.val ∧
  ¬(s.dev.coreCold c.val = false ∧ s.dev.manualMoves c.val = false ∧
  s.dev.staysInBand c.val (s.dev.derived c.val l.f) inBand = true) ∧
  s.dev.bandLookup c.val (s.dev.derived c.val l.f) = some p :=
  ⟨(on (fun d => { (((((((d.put F.CLK_BLK_STAT_STATE 66 2).put F.LOOP_OUTDIV_DIV_A 2 0).put F.LOOP_STAT_STATE 2 4).put F.LOOP_STAT_LOCK 2 1).put F.LOOP_STAT_TUNE_EDGE 2 1).put F.COUT_BANDMAP_CTRL_MAP_EN 0 0xFFFF).onCore 2 (fun k => { k with berth := some 5 })) with loads := [{ core := 2, kind := .freq, berth := 5, t := 7, a := 6, phi := 9, f := BitVec.ofNat 72 (20 * 2 ^ 67) }], tow := { pound := 7 }, bandMap := [(512, 0x80000000), (513, 0), (514, 0x1FFFFF), (515, 0)] })),
    (2), (false), ({ core := 2, kind := .freq, berth := 5, t := 7, a := 6, phi := 9, f := BitVec.ofNat 72 (20 * 2 ^ 67) }),
    ([]), ({ tank := 0, band := 0, tune := 0, tempCal := 0, tc := 0 }), by decide⟩
theorem witness_CoreLoads_coreLoad_freq_search : ∃ (s : State) (c : Fin 16) (inBand : Bool) (l : Load) (rest : List Load),
  s.Running ∧ s.dev.changeDue (c.val / 2) = false ∧ s.dev.takeDue c.val s.dev.loads = some (l, rest) ∧
  (l.kind = .freq ∨ (l.kind = .emit ∧ s.dev.coreCold c.val = true)) ∧ s.dev.coreClosed c.val = false ∧
  (s.dev.core c.val).berth = some l.berth ∧ (s.dev.derived c.val l.f).refusal = none ∧ 2 ≤ s.dev.coreState c.val ∧
  ¬(s.dev.coreCold c.val = false ∧ s.dev.manualMoves c.val = false ∧
  s.dev.staysInBand c.val (s.dev.derived c.val l.f) inBand = true) ∧ s.dev.bandLookup c.val (s.dev.derived c.val l.f) = none ∧
  s.dev.is F.LOOP_BAND_CTRL_MANUAL c.val = false :=
  ⟨(on (fun d => { (((((d.put F.CLK_BLK_STAT_STATE 66 2).put F.LOOP_OUTDIV_DIV_A 2 0).put F.LOOP_STAT_STATE 2 4).put F.LOOP_STAT_TUNE_EDGE 2 1).onCore 2 (fun k => { k with berth := some 5 })) with loads := [{ core := 2, kind := .freq, berth := 5, t := 7, a := 6, phi := 9, f := BitVec.ofNat 72 (20 * 2 ^ 67) }], tow := { pound := 7 } })),
    (2), (false), ({ core := 2, kind := .freq, berth := 5, t := 7, a := 6, phi := 9, f := BitVec.ofNat 72 (20 * 2 ^ 67) }),
    ([]), by decide⟩
theorem witness_CoreLoads_coreLoad_derived : ∃ (s : State) (c : Fin 16) (l : Load) (rest : List Load), s.Running ∧
  s.dev.changeDue (c.val / 2) = false ∧ s.dev.takeDue c.val s.dev.loads = some (l, rest) ∧ (l.kind = .freq ∨ (l.kind = .emit ∧
  s.dev.coreCold c.val = true)) ∧ s.dev.coreClosed c.val = false ∧ (s.dev.core c.val).berth = some l.berth ∧
  (s.dev.derived c.val l.f).refusal = none :=
  ⟨(on (fun d => { ((((d.put F.CLK_BLK_STAT_STATE 66 2).put F.LOOP_OUTDIV_DIV_A 2 0).put F.LOOP_STAT_STATE 2 4).onCore 2 (fun k => { k with berth := some 5 })) with loads := [{ core := 2, kind := .freq, berth := 5, t := 7, a := 6, phi := 9, f := BitVec.ofNat 72 (20 * 2 ^ 67) }], tow := { pound := 7 } })),
    (2), ({ core := 2, kind := .freq, berth := 5, t := 7, a := 6, phi := 9, f := BitVec.ofNat 72 (20 * 2 ^ 67) }), ([]),
    by decide⟩
theorem witness_CoreLoads_coreLoad_entry : ∃ (s : State) (c : Fin 16) (inBand : Bool) (l : Load) (rest : List Load) (e : Fin
  64) (key : Nat), s.Running ∧ s.dev.changeDue (c.val / 2) = false ∧ s.dev.takeDue c.val s.dev.loads = some (l, rest) ∧
  (l.kind = .freq ∨ (l.kind = .emit ∧ s.dev.coreCold c.val = true)) ∧ s.dev.coreClosed c.val = false ∧
  (s.dev.core c.val).berth = some l.berth ∧ (s.dev.derived c.val l.f).refusal = none ∧ 2 ≤ s.dev.coreState c.val ∧
  ¬(s.dev.coreCold c.val = false ∧ s.dev.manualMoves c.val = false ∧
  s.dev.staysInBand c.val (s.dev.derived c.val l.f) inBand = true) ∧ bit (s.dev.get F.COUT_BANDMAP_CTRL_MAP_EN) c.val = true ∧
  key = ((s.dev.derived c.val l.f).n * (s.dev.derived c.val l.f).modulus + (s.dev.derived c.val l.f).num) * 2 ^ 16 /
  (s.dev.derived c.val l.f).modulus ∧ (bit (s.dev.bandWord c.val e.val 0) 31 = true ∧
  bits (s.dev.bandWord c.val e.val 1) 20 0 ≤ key ∧ key ≤ bits (s.dev.bandWord c.val e.val 2) 20 0) ∧
  ((List.range e.val).all (fun (i : Nat) => !s.dev.bandCovers c.val i key) = true) :=
  ⟨(on (fun d => { (((((((d.put F.CLK_BLK_STAT_STATE 66 2).put F.LOOP_OUTDIV_DIV_A 2 0).put F.LOOP_STAT_STATE 2 4).put F.LOOP_STAT_LOCK 2 1).put F.LOOP_STAT_TUNE_EDGE 2 1).put F.COUT_BANDMAP_CTRL_MAP_EN 0 0xFFFF).onCore 2 (fun k => { k with berth := some 5 })) with loads := [{ core := 2, kind := .freq, berth := 5, t := 7, a := 6, phi := 9, f := BitVec.ofNat 72 (20 * 2 ^ 67) }], tow := { pound := 7 }, bandMap := [(512, 0x80000000), (513, 0), (514, 0x1FFFFF), (515, 0)] })),
    (2), (false), ({ core := 2, kind := .freq, berth := 5, t := 7, a := 6, phi := 9, f := BitVec.ofNat 72 (20 * 2 ^ 67) }),
    ([]), (0), (20 * 2 ^ 16), by decide⟩
theorem witness_CoreLoads_coreLoad_refused : ∃ (s : State) (c : Fin 16) (l : Load) (rest : List Load), s.Running ∧
  s.dev.changeDue (c.val / 2) = false ∧ s.dev.takeDue c.val s.dev.loads = some (l, rest) ∧
  (l.kind = .freq ∨ l.kind = .retune ∨ (l.kind = .emit ∧ s.dev.coreCold c.val = true)) ∧ s.dev.coreClosed c.val = false ∧
  (s.dev.core c.val).berth = some l.berth ∧ (s.dev.derived c.val l.f).refusal.isSome = true :=
  ⟨(on (fun d => { (((d.put F.CLK_BLK_STAT_STATE 66 2).put F.LOOP_OUTDIV_DIV_A 2 0).onCore 2 (fun k => { k with berth := some 5 })) with loads := [{ core := 2, kind := .freq, berth := 5, t := 7, a := 6, phi := 9, f := BitVec.ofNat 72 (40 * 2 ^ 67) }], tow := { pound := 7 } })),
    (2), ({ core := 2, kind := .freq, berth := 5, t := 7, a := 6, phi := 9, f := BitVec.ofNat 72 (40 * 2 ^ 67) }), ([]),
    by decide⟩
theorem witness_CoreLoads_coreLoad_retune : ∃ (s : State) (c : Fin 16) (l : Load) (rest : List Load) (p : Preset), s.Running ∧
  s.dev.changeDue (c.val / 2) = false ∧ s.dev.takeDue c.val s.dev.loads = some (l, rest) ∧ l.kind = .retune ∧
  s.dev.coreClosed c.val = false ∧ (s.dev.core c.val).berth = some l.berth ∧ (s.dev.derived c.val l.f).refusal = none ∧
  2 ≤ s.dev.coreState c.val ∧ s.dev.commitLookup c.val l = some (some p) :=
  ⟨(on (fun d => { (((((d.put F.CLK_BLK_STAT_STATE 66 2).put F.LOOP_OUTDIV_DIV_A 2 0).put F.LOOP_STAT_STATE 2 4).put F.LOOP_STAT_LOCK 2 1).onCore 2 (fun k => { k with berth := some 5 })) with loads := [{ core := 2, kind := .retune, berth := 5, t := 7, a := 6, phi := 9, f := BitVec.ofNat 72 (20 * 2 ^ 67) , preset? := some { tank := 1, band := 9, tune := 3, tempCal := 0, tc := 0 } }], tow := { pound := 7 } })),
    (2), ({ core := 2, kind := .retune, berth := 5, t := 7, a := 6, phi := 9, f := BitVec.ofNat 72 (20 * 2 ^ 67) , preset? := some { tank := 1, band := 9, tune := 3, tempCal := 0, tc := 0 } }),
    ([]), ({ tank := 1, band := 9, tune := 3, tempCal := 0, tc := 0 }), by decide⟩
theorem witness_CoreLoads_coreLoad_hop : ∃ (s : State) (c : Fin 16) (l : Load) (rest : List Load) (p : Preset), s.Running ∧
  s.dev.changeDue (c.val / 2) = false ∧ s.dev.takeDue c.val s.dev.loads = some (l, rest) ∧ l.kind = .hop ∧
  s.dev.coreClosed c.val = false ∧ (s.dev.core c.val).berth = some l.berth ∧ (s.dev.derived c.val l.f).refusal = none ∧
  2 ≤ s.dev.coreState c.val ∧ s.dev.commitLookup c.val l = some (some p) :=
  ⟨(on (fun d => { (((((d.put F.CLK_BLK_STAT_STATE 66 2).put F.LOOP_OUTDIV_DIV_A 2 0).put F.LOOP_STAT_STATE 2 4).put F.LOOP_STAT_LOCK 2 1).onCore 2 (fun k => { k with berth := some 5 })) with loads := [{ core := 2, kind := .hop, berth := 5, t := 7, a := 6, phi := 9, f := BitVec.ofNat 72 (20 * 2 ^ 67) , preset? := some { tank := 1, band := 9, tune := 3, tempCal := 0, tc := 0 } }], tow := { pound := 7 } })),
    (2), ({ core := 2, kind := .hop, berth := 5, t := 7, a := 6, phi := 9, f := BitVec.ofNat 72 (20 * 2 ^ 67) , preset? := some { tank := 1, band := 9, tune := 3, tempCal := 0, tc := 0 } }),
    ([]), ({ tank := 1, band := 9, tune := 3, tempCal := 0, tc := 0 }), by decide⟩
theorem witness_CoreLoads_coreLoad_park : ∃ (s : State) (c : Fin 16) (l : Load) (rest : List Load) (p : Preset), s.Running ∧
  s.dev.changeDue (c.val / 2) = false ∧ s.dev.takeDue c.val s.dev.loads = some (l, rest) ∧ l.kind = .park ∧
  s.dev.activeCore (c.val / 2) ≠ c.val ∧ s.dev.coreClosed c.val = false ∧ (s.dev.core c.val).berth = some l.berth ∧
  (s.dev.derived c.val l.f).refusal = none ∧ 2 ≤ s.dev.coreState c.val ∧ l.preset? = some p :=
  ⟨(on (fun d => { ((((d.put F.CLK_BLK_STAT_STATE 67 2).put F.LOOP_STAT_STATE 3 4).put F.LOOP_OUTDIV_DIV_A 3 0).onCore 3 (fun k => { k with berth := some 5 })) with loads := [{ core := 3, kind := .park, berth := 5, t := 7, a := 6, phi := 9, f := BitVec.ofNat 72 (20 * 2 ^ 67) , preset? := some { tank := 1, band := 9, tune := 3, tempCal := 0, tc := 0 } }], tow := { pound := 7 } })),
    (3), ({ core := 3, kind := .park, berth := 5, t := 7, a := 6, phi := 9, f := BitVec.ofNat 72 (20 * 2 ^ 67) , preset? := some { tank := 1, band := 9, tune := 3, tempCal := 0, tc := 0 } }),
    ([]), ({ tank := 1, band := 9, tune := 3, tempCal := 0, tc := 0 }), by decide⟩
theorem witness_CoreLoads_coreLoad_parkActive : ∃ (s : State) (c : Fin 16) (l : Load) (rest : List Load), s.Running ∧
  s.dev.changeDue (c.val / 2) = false ∧ s.dev.takeDue c.val s.dev.loads = some (l, rest) ∧ l.kind = .park ∧
  s.dev.activeCore (c.val / 2) = c.val :=
  ⟨(on (fun d => { ((((d.put F.CLK_BLK_STAT_STATE 66 2).put F.LOOP_OUTDIV_DIV_A 2 0).put F.LOOP_STAT_STATE 2 4).onCore 2 (fun k => { k with berth := some 5 })) with loads := [{ core := 2, kind := .park, berth := 5, t := 7, a := 6, phi := 9, f := BitVec.ofNat 72 (20 * 2 ^ 67) }], tow := { pound := 7 } })),
    (2), ({ core := 2, kind := .park, berth := 5, t := 7, a := 6, phi := 9, f := BitVec.ofNat 72 (20 * 2 ^ 67) }), ([]),
    by decide⟩
theorem witness_CoreLoads_coreLoad_record : ∃ (s : State) (c : Fin 16) (l : Load) (rest : List Load), s.Running ∧
  s.dev.changeDue (c.val / 2) = false ∧ s.dev.takeDue c.val s.dev.loads = some (l, rest) ∧ l.kind = .record :=
  ⟨(on (fun d => { ((((d.put F.CLK_BLK_STAT_STATE 66 2).put F.LOOP_OUTDIV_DIV_A 2 0).put F.LOOP_STAT_STATE 2 3).onCore 2 (fun k => { k with berth := some 5 })) with loads := [{ core := 2, kind := .record, berth := 5, t := 7, a := 6, phi := 9, f := BitVec.ofNat 72 (20 * 2 ^ 67) }], tow := { pound := 7 } })),
    (2), ({ core := 2, kind := .record, berth := 5, t := 7, a := 6, phi := 9, f := BitVec.ofNat 72 (20 * 2 ^ 67) }), ([]),
    by decide⟩
theorem witness_CoreLoads_coreLoad_bind_closed : ∃ (s : State) (c : Fin 16) (l : Load) (rest : List Load), s.Running ∧
  s.dev.changeDue (c.val / 2) = false ∧ s.dev.takeDue c.val s.dev.loads = some (l, rest) ∧ l.kind = .bind ∧
  s.dev.coreClosed c.val = true :=
  ⟨(on (fun d => { d with loads := [{ core := 2, kind := .bind, berth := 5, t := 7, a := 6, phi := 9, f := BitVec.ofNat 72 (20 * 2 ^ 67) }], tow := { pound := 7 } })),
    (2), ({ core := 2, kind := .bind, berth := 5, t := 7, a := 6, phi := 9, f := BitVec.ofNat 72 (20 * 2 ^ 67) }), ([]),
    by decide⟩
theorem witness_CoreLoads_coreLoad_bind : ∃ (s : State) (c : Fin 16) (l : Load) (rest : List Load), s.Running ∧
  s.dev.changeDue (c.val / 2) = false ∧ s.dev.takeDue c.val s.dev.loads = some (l, rest) ∧ l.kind = .bind ∧
  s.dev.coreClosed c.val = false ∧ (s.dev.derived c.val l.f).refusal = none :=
  ⟨(on (fun d => { ((((d.put F.CLK_BLK_STAT_STATE 66 2).put F.LOOP_OUTDIV_DIV_A 2 0).put F.LOOP_STAT_STATE 2 1).onCore 2 (fun k => { k with berth := none })) with loads := [{ core := 2, kind := .bind, berth := 5, t := 7, a := 6, phi := 9, f := BitVec.ofNat 72 (20 * 2 ^ 67) }], tow := { pound := 7 } })),
    (2), ({ core := 2, kind := .bind, berth := 5, t := 7, a := 6, phi := 9, f := BitVec.ofNat 72 (20 * 2 ^ 67) }), ([]),
    by decide⟩
theorem witness_CoreLoads_coreLoad_release : ∃ (s : State) (c : Fin 16) (l : Load) (rest : List Load), s.Running ∧
  s.dev.changeDue (c.val / 2) = false ∧ s.dev.takeDue c.val s.dev.loads = some (l, rest) ∧ l.kind = .release ∧
  (s.dev.core c.val).berth = some l.berth :=
  ⟨(on (fun d => { ((((d.put F.CLK_BLK_STAT_STATE 66 2).put F.LOOP_OUTDIV_DIV_A 2 0).put F.LOOP_STAT_BOUND 2 1).onCore 2 (fun k => { k with berth := some 5 })) with loads := [{ core := 2, kind := .release, berth := 5, t := 7, a := 6, phi := 9, f := BitVec.ofNat 72 (20 * 2 ^ 67) }], tow := { pound := 7 } })),
    (2), ({ core := 2, kind := .release, berth := 5, t := 7, a := 6, phi := 9, f := BitVec.ofNat 72 (20 * 2 ^ 67) }), ([]),
    by decide⟩
theorem witness_CoreLoads_coreLoad_notOurs : ∃ (s : State) (c : Fin 16) (l : Load) (rest : List Load), s.Running ∧
  s.dev.changeDue (c.val / 2) = false ∧ s.dev.takeDue c.val s.dev.loads = some (l, rest) ∧
  l.kind ∈ [LoadKind.freq, .retune, .emit, .phase, .addPhase, .hop] ∧
  (s.dev.coreClosed c.val = true ∨ (s.dev.core c.val).berth ≠ some l.berth) :=
  ⟨(on (fun d => { (d.put F.CLK_BLK_STAT_STATE 66 2) with loads := [{ core := 2, kind := .freq, berth := 5, t := 7, a := 6, phi := 9, f := BitVec.ofNat 72 (20 * 2 ^ 67) }], tow := { pound := 7 } })),
    (2), ({ core := 2, kind := .freq, berth := 5, t := 7, a := 6, phi := 9, f := BitVec.ofNat 72 (20 * 2 ^ 67) }), ([]),
    by decide⟩
theorem witness_CoreLoads_coreLoad_none : ∃ (s : State) (c : Fin 16), s.Running ∧
  (s.dev.changeDue (c.val / 2) = true ∨ s.dev.takeDue c.val s.dev.loads = none) :=
  ⟨(base), (2), by decide⟩
theorem witness_FreeMode_loopApply_pending : ∃ (s : State) (c : Fin 16) (v : Word) (p : Pound), s.Running ∧
  s.dev.coreClosed c.val = false ∧ p = BitVec.ofNat 64 (s.dev.get F.LOOP_APPLY_POUND_HI_POUND c.val * 2 ^ 32 + s.dev.get
  F.LOOP_APPLY_POUND_LO_POUND c.val) ∧ s.dev.applyRefusal c.val (bit v.toNat 1) p = none :=
  ⟨(on (fun d => ((d.put F.CLK_BLK_STAT_STATE 66 2).put F.LOOP_N_INT_N_INT 2 20))), (2), (0), (0), by decide⟩
theorem witness_FreeMode_loopApply_refused : ∃ (s : State) (c : Fin 16) (v : Word) (p : Pound) (r : Nat), s.Running ∧
  s.dev.coreClosed c.val = false ∧ p = BitVec.ofNat 64 (s.dev.get F.LOOP_APPLY_POUND_HI_POUND c.val * 2 ^ 32 + s.dev.get
  F.LOOP_APPLY_POUND_LO_POUND c.val) ∧ s.dev.applyRefusal c.val (bit v.toNat 1) p = some r :=
  ⟨(on (fun d => ((d.put F.CLK_BLK_STAT_STATE 66 2).put F.LOOP_N_INT_N_INT 2 30))), (2), (0), (0), (3), by decide⟩
theorem witness_FreeMode_loopApplyTakeEffect_start : ∃ (s : State) (c : Fin 16), s.Running ∧ s.dev.applyDue c.val = true ∧
  (s.dev.staged c.val).refusal = none ∧ s.dev.intRefusal c.val (s.dev.staged c.val) = none ∧ s.dev.coreState c.val = 1 ∧
  s.dev.is F.LOOP_BAND_CTRL_MANUAL c.val = false :=
  ⟨(on (fun d => { ((((d.put F.CLK_BLK_STAT_STATE 66 2).put F.LOOP_N_INT_N_INT 2 20).put F.LOOP_STAT_STATE 2 1).onCore 2 (fun k => { k with applyAt := some 0 })) with epoch := d.epoch })),
    (2), by decide⟩
theorem witness_FreeMode_loopApplyTakeEffect_startManual : ∃ (s : State) (c : Fin 16), s.Running ∧
  s.dev.applyDue c.val = true ∧ (s.dev.staged c.val).refusal = none ∧ s.dev.intRefusal c.val (s.dev.staged c.val) = none ∧
  s.dev.coreState c.val = 1 ∧ s.dev.is F.LOOP_BAND_CTRL_MANUAL c.val = true :=
  ⟨(on (fun d => { ((((((d.put F.CLK_BLK_STAT_STATE 66 2).put F.LOOP_N_INT_N_INT 2 20).put F.LOOP_STAT_STATE 2 1).put F.LOOP_BAND_CTRL_MANUAL 2 1).put F.LOOP_BAND_CTRL_BAND 2 33).onCore 2 (fun k => { k with applyAt := some 0 })) with epoch := d.epoch })),
    (2), by decide⟩
theorem witness_FreeMode_loopApplyTakeEffect_opening : ∃ (s : State) (c : Fin 16), s.Running ∧ s.dev.applyDue c.val = true ∧
  (s.dev.staged c.val).refusal = none ∧ s.dev.intRefusal c.val (s.dev.staged c.val) = none ∧ s.dev.coreState c.val = 0 :=
  ⟨(on (fun d => { ((((d.put F.CLK_BLK_STAT_STATE 66 2).put F.LOOP_N_INT_N_INT 2 20).put F.LOOP_STAT_STATE 2 0).onCore 2 (fun k => { k with applyAt := some 0 })) with epoch := d.epoch })),
    (2), by decide⟩
theorem witness_FreeMode_loopApplyTakeEffect_written : ∃ (s : State) (c : Fin 16) (inBand : Bool), s.Running ∧
  s.dev.applyDue c.val = true ∧ (s.dev.staged c.val).refusal = none ∧ s.dev.intRefusal c.val (s.dev.staged c.val) = none ∧
  2 ≤ s.dev.coreState c.val ∧ ¬(s.dev.coreCold c.val = false ∧ s.dev.manualMoves c.val = false ∧
  s.dev.staysInBand c.val (s.dev.staged c.val) inBand = true) ∧ s.dev.bandLookup c.val (s.dev.staged c.val) = none ∧
  s.dev.is F.LOOP_BAND_CTRL_MANUAL c.val = true :=
  ⟨(on (fun d => { (((((((d.put F.CLK_BLK_STAT_STATE 66 2).put F.LOOP_N_INT_N_INT 2 20).put F.LOOP_STAT_STATE 2 4).put F.LOOP_BAND_CTRL_MANUAL 2 1).put F.LOOP_BAND_CTRL_BAND 2 33).put F.LOOP_STAT_TUNE_EDGE 2 1).onCore 2 (fun k => { k with applyAt := some 0 })) with epoch := d.epoch })),
    (2), (false), by decide⟩
theorem witness_FreeMode_loopApplyTakeEffect_inBand : ∃ (s : State) (c : Fin 16) (inBand : Bool), s.Running ∧
  s.dev.applyDue c.val = true ∧ (s.dev.staged c.val).refusal = none ∧ s.dev.intRefusal c.val (s.dev.staged c.val) = none ∧
  s.dev.coreCold c.val = false ∧ s.dev.manualMoves c.val = false ∧ s.dev.staysInBand c.val (s.dev.staged c.val) inBand = true :=
  ⟨(on (fun d => { ((((((d.put F.CLK_BLK_STAT_STATE 66 2).put F.LOOP_N_INT_N_INT 2 20).put F.LOOP_STAT_STATE 2 4).put F.LOOP_STAT_LOCK 2 1).put F.LOOP_STAT_TUNE_EDGE 2 1).onCore 2 (fun k => { k with applyAt := some 0 })) with epoch := d.epoch })),
    (2), (true), by decide⟩
theorem witness_FreeMode_loopApplyTakeEffect_preset : ∃ (s : State) (c : Fin 16) (inBand : Bool) (p : Preset), s.Running ∧
  s.dev.applyDue c.val = true ∧ (s.dev.staged c.val).refusal = none ∧ s.dev.intRefusal c.val (s.dev.staged c.val) = none ∧
  2 ≤ s.dev.coreState c.val ∧ ¬(s.dev.coreCold c.val = false ∧ s.dev.manualMoves c.val = false ∧
  s.dev.staysInBand c.val (s.dev.staged c.val) inBand = true) ∧ s.dev.bandLookup c.val (s.dev.staged c.val) = some p :=
  ⟨(on (fun d => { (((((((d.put F.CLK_BLK_STAT_STATE 66 2).put F.LOOP_N_INT_N_INT 2 20).put F.LOOP_STAT_STATE 2 4).put F.LOOP_STAT_LOCK 2 1).put F.LOOP_STAT_TUNE_EDGE 2 1).put F.COUT_BANDMAP_CTRL_MAP_EN 0 0xFFFF).onCore 2 (fun k => { k with applyAt := some 0 })) with epoch := d.epoch, bandMap := [(512, 0x80000000), (513, 0), (514, 0x1FFFFF), (515, 0)] })),
    (2), (false), ({ tank := 0, band := 0, tune := 0, tempCal := 0, tc := 0 }), by decide⟩
theorem witness_FreeMode_loopApplyTakeEffect_search : ∃ (s : State) (c : Fin 16) (inBand : Bool), s.Running ∧
  s.dev.applyDue c.val = true ∧ (s.dev.staged c.val).refusal = none ∧ s.dev.intRefusal c.val (s.dev.staged c.val) = none ∧
  2 ≤ s.dev.coreState c.val ∧ ¬(s.dev.coreCold c.val = false ∧ s.dev.manualMoves c.val = false ∧
  s.dev.staysInBand c.val (s.dev.staged c.val) inBand = true) ∧ s.dev.bandLookup c.val (s.dev.staged c.val) = none ∧
  s.dev.is F.LOOP_BAND_CTRL_MANUAL c.val = false :=
  ⟨(on (fun d => { (((((d.put F.CLK_BLK_STAT_STATE 66 2).put F.LOOP_N_INT_N_INT 2 20).put F.LOOP_STAT_STATE 2 4).put F.LOOP_STAT_TUNE_EDGE 2 1).onCore 2 (fun k => { k with applyAt := some 0 })) with epoch := d.epoch })),
    (2), (false), by decide⟩
theorem witness_FreeMode_loopApplyTakeEffect_refused : ∃ (s : State) (c : Fin 16) (r : Nat), s.Running ∧
  s.dev.applyDue c.val = true ∧ (((s.dev.staged c.val).refusal.orElse (fun _ => s.dev.intRefusal c.val (s.dev.staged c.val))) =
  some r) :=
  ⟨(on (fun d => (((d.put F.CLK_BLK_STAT_STATE 66 2).put F.LOOP_N_INT_N_INT 2 30).put F.LOOP_STAT_STATE 2 1).onCore 2 (fun k =>
    { k with applyAt := some 0 }))), (2), (3), by decide⟩
theorem witness_FreeMode_phaseAdj_free : ∃ (s : State) (c : Fin 16), s.Running ∧ s.dev.coreClosed c.val = false ∧
  (s.dev.core c.val).berth = none ∧ (s.dev.core c.val).hasU = true :=
  ⟨(on (fun d => (d.put F.CLK_BLK_STAT_STATE 66 2).onCore 2 (fun k => { k with hasU := true }))), (2), by decide⟩
theorem witness_FreeMode_phaseAdj_refused : ∃ (s : State) (c : Fin 16), s.Running ∧ s.dev.coreClosed c.val = false ∧
  ((s.dev.core c.val).berth.isSome = true ∨ (s.dev.core c.val).hasU = false) :=
  ⟨(on (fun d => (d.put F.CLK_BLK_STAT_STATE 66 2).onCore 2 (fun k => { k with berth := some 7 }))), (2), by decide⟩
theorem witness_LockAndBand_bandSearchDone_good : ∃ (s : State) (c : Fin 16) (f : Nat), s.Running ∧
  s.dev.is F.LOOP_STAT_BAND_SEARCH c.val = true ∧ ¬((s.dev.core c.val).set.fvcoKhzMod < 200 * ((f * (s.dev.core
  c.val).set.modulus : Nat) - ((s.dev.core c.val).set.fvcoKhzMod : Int)).natAbs) :=
  ⟨(on (fun d => (d.put F.LOOP_STAT_BAND_SEARCH 2 1))), (2), (10000000), by decide⟩
theorem witness_LockAndBand_bandSearchDone_fail : ∃ (s : State) (c : Fin 16) (f : Nat), s.Running ∧
  s.dev.is F.LOOP_STAT_BAND_SEARCH c.val = true ∧ (s.dev.core c.val).set.fvcoKhzMod < 200 * ((f * (s.dev.core
  c.val).set.modulus : Nat) - ((s.dev.core c.val).set.fvcoKhzMod : Int)).natAbs :=
  ⟨(on (fun d => (d.put F.LOOP_STAT_BAND_SEARCH 2 1))), (2), (9000000), by decide⟩
set_option maxRecDepth 20000 in
theorem witness_LockAndBand_lockGained : ∃ (s : State) (c : Fin 16) (errs : List Nat), s.Running ∧
  (s.dev.coreState c.val = 3 ∨ s.dev.coreState c.val = 5) ∧ s.dev.locked c.val = false ∧ (s.dev.core c.val).blank = false ∧
  s.dev.lockSeen c.val errs = true :=
  ⟨(on (fun d => ((d.put F.LOOP_STAT_STATE 2 3).put F.LOOP_LD_CFG_N 2 0).onCore 2 (fun k => { k with acq := 20 }))), (2),
    (List.replicate 64 3), by decide⟩
set_option maxRecDepth 20000 in
theorem witness_LockAndBand_lockLost : ∃ (s : State) (c : Fin 16) (errs : List Nat), s.Running ∧ s.dev.locked c.val = true ∧
  (s.dev.core c.val).blank = false ∧ s.dev.lossSeen c.val errs = true :=
  ⟨(on (fun d => (((d.put F.LOOP_STAT_LOCK 2 1).put F.LOOP_LD_CFG_M 2 5).put F.LOOP_LD_CFG_WIN 2 2))), (2),
    (List.replicate 8 99999), by decide⟩
theorem witness_LockAndBand_reacquireTimeout : ∃ (s : State) (c : Fin 16), s.Running ∧ s.dev.coreState c.val = 5 ∧
  3125 ≤ (s.dev.core c.val).acq + 1 ∧ s.dev.is F.LOOP_BAND_CTRL_MANUAL c.val = false :=
  ⟨(on (fun d => (d.put F.LOOP_STAT_STATE 2 5).onCore 2 (fun k => { k with acq := 3124 }))), (2), by decide⟩
theorem witness_LockAndBand_reacquireTimeout_manual : ∃ (s : State) (c : Fin 16), s.Running ∧ s.dev.coreState c.val = 5 ∧
  3125 ≤ (s.dev.core c.val).acq + 1 ∧ s.dev.is F.LOOP_BAND_CTRL_MANUAL c.val = true :=
  ⟨(on (fun d => ((d.put F.LOOP_STAT_STATE 2 5).put F.LOOP_BAND_CTRL_MANUAL 2 1).onCore 2 (fun k => { k with acq := 3124 }))),
    (2), by decide⟩
theorem witness_LockAndBand_tuneEdge : ∃ (s : State) (c : Fin 16), s.Running ∧ s.dev.locked c.val = true ∧
  s.dev.is F.LOOP_STAT_TUNE_EDGE c.val = false :=
  ⟨(on (fun d => (d.put F.LOOP_STAT_LOCK 2 1))), (2), by decide⟩
theorem witness_LockAndBand_cycleSlip : ∃ (s : State) (c : Fin 16), s.Running ∧ s.dev.coreClosed c.val = false ∧
  2 ≤ s.dev.coreState c.val :=
  ⟨(on (fun d => (((d.put F.CLK_BLK_STAT_STATE 66 2).put F.LOOP_STAT_STATE 2 4).put F.LOOP_CTRL_AUTO_REALIGN 2 1))), (2),
    by decide⟩
theorem witness_LockAndBand_fcntStart : ∃ (s : State) (c : Fin 16), s.Running ∧ s.dev.coreClosed c.val = false :=
  ⟨(on (fun d => (d.put F.CLK_BLK_STAT_STATE 66 2))), (2), by decide⟩
theorem witness_LockAndBand_fcntDone : ∃ (s : State) (c : Fin 16) (n : Nat), s.Running ∧ (s.dev.core c.val).gate = .open' n ∧
  s.dev.gatePounds c.val ≤ n :=
  ⟨(on (fun d => (d.put F.CLK_BLK_STAT_STATE 66 2).onCore 2 (fun k => { k with gate := .open' 65536 }))), (2), (65536),
    by decide⟩
theorem witness_PhaseMonitor_monitorAverage_within : ∃ (s : State) (c : Fin 16) (err : Int), s.Running ∧
  (s.dev.core c.val).avgCount = s.dev.avgPounds c.val ∧ err = (s.dev.core c.val).meanError (s.dev.core c.val).avgSum
  (s.dev.avgPounds c.val) ∧ err.natAbs ≤ 16 * s.dev.alarmPs c.val :=
  ⟨(on (fun d => (d.put F.CLK_BLK_STAT_STATE 66 2).onCore 2 (fun k =>
    { k with avgCount := (on (fun d => d)).dev.avgPounds 2, avgSum := 3 * ((on (fun d => d)).dev.avgPounds 2 * k.set.errUnits : Nat) }))),
    (2), (3), by decide⟩
theorem witness_PhaseMonitor_monitorAverage_alarm : ∃ (s : State) (c : Fin 16) (err : Int), s.Running ∧
  (s.dev.core c.val).avgCount = s.dev.avgPounds c.val ∧ err = (s.dev.core c.val).meanError (s.dev.core c.val).avgSum
  (s.dev.avgPounds c.val) ∧ 16 * s.dev.alarmPs c.val < err.natAbs :=
  ⟨(on (fun d => (d.put F.CLK_BLK_STAT_STATE 66 2).onCore 2 (fun k =>
    { k with avgCount := (on (fun d => d)).dev.avgPounds 2, avgSum := -30000 * ((on (fun d => d)).dev.avgPounds 2 * k.set.errUnits : Nat) }))),
    (2), (-30000), by decide⟩
theorem witness_PhaseMonitor_monitorHoldEnd : ∃ (s : State) (c : Fin 16), s.Running ∧ s.dev.is F.LOOP_STAT_HOLD c.val = true ∧
  s.dev.holding c.val = false :=
  ⟨(on (fun d => ((d.put F.CLK_BLK_STAT_STATE 66 2).put F.LOOP_STAT_HOLD 2 1).onCore 2 (fun k =>
    { k with holdCount := 300 }))), (2), by decide⟩
theorem witness_PhaseMonitor_realigned : ∃ (s : State) (c : Fin 16), s.Running ∧ (s.dev.core c.val).realignDue = true ∧
  (s.dev.core c.val).raCount = 8 ∧ s.dev.locked c.val = true :=
  ⟨(on (fun d => (d.put F.LOOP_STAT_LOCK 2 1).onCore 2 (fun k => { k with realignDue := true, raCount := 8, raSum := 999 }))),
    (2), by decide⟩
theorem witness_TwinChanges_twinEnWrite_free : ∃ (s : State) (v : Word) (k : Fin 8), s.Running ∧
  s.dev.twinBound k.val = false ∧ bit v.toNat k.val ≠ s.dev.twinEnabled k.val :=
  ⟨(base), (8), (3), by decide⟩
theorem witness_TwinChanges_twinEnWrite_bound : ∃ (s : State) (v : Word) (k : Fin 8), s.Running ∧
  s.dev.twinBound k.val = true ∧ bit v.toNat k.val ≠ s.dev.twinEnabled k.val :=
  ⟨(on (fun d => d.onCore 7 (fun x => { x with berth := some 1 }))), (8), (3), by decide⟩
theorem witness_TwinChanges_twinEnWrite_same : ∃ (s : State) (v : Word) (k : Fin 8), s.Running ∧
  bit v.toNat k.val = s.dev.twinEnabled k.val :=
  ⟨(base), (8), (2), by decide⟩
theorem witness_TwinChanges_hopReady : ∃ (s : State), s.Running :=
  ⟨(on (fun d => ((d.put F.COUT_TWIN_CTRL_TWIN_EN 0 8).put F.LOOP_STAT_ALIGNED 7 1).onCore 7 (fun x =>
    { x with sinceLoad := 5000 }))), by decide⟩
theorem witness_TwinChanges_twinSwitch_ready : ∃ (s : State) (k : Fin 8) (t : Pound), s.Running ∧
  s.dev.changePound k.val = some t ∧ t.toNat ≤ s.dev.tow.pound.toNat ∧ s.dev.deferring k.val = false ∧
  (s.dev.twin k.val).sample = true :=
  ⟨(on (fun d => { (((d.put F.COUT_TWIN_STAT_PREPARED 0 8).put F.COUT_TWIN_CTRL_TWIN_EN 0 8).setTwin 3 { hop := some (7, 1, 5), sample := true }) with tow := { pound := 7 } })),
    (3), (7), by decide⟩
theorem witness_TwinChanges_twinSwitch_defers : ∃ (s : State) (k : Fin 8) (t : Pound), s.Running ∧
  s.dev.changePound k.val = some t ∧ t.toNat ≤ s.dev.tow.pound.toNat ∧ s.dev.deferring k.val = false ∧
  (s.dev.twin k.val).sample = false ∧ s.dev.get F.COUT_TWIN_CFG_MISS_POLICY k.val = 0 :=
  ⟨(on (fun d => { (((d.put F.COUT_TWIN_CFG_MISS_POLICY 3 0).put F.COUT_TWIN_CTRL_TWIN_EN 0 8).setTwin 3 { hop := some (7, 1, 5), sample := false }) with tow := { pound := 7 } })),
    (3), (7), by decide⟩
theorem witness_TwinChanges_twinSwitch_forced : ∃ (s : State) (k : Fin 8) (t : Pound), s.Running ∧
  s.dev.changePound k.val = some t ∧ t.toNat ≤ s.dev.tow.pound.toNat ∧ s.dev.deferring k.val = false ∧
  (s.dev.twin k.val).sample = false ∧ s.dev.get F.COUT_TWIN_CFG_MISS_POLICY k.val = 1 :=
  ⟨(on (fun d => { (((d.put F.COUT_TWIN_CFG_MISS_POLICY 3 1).put F.COUT_TWIN_CTRL_TWIN_EN 0 8).setTwin 3 { swapAt := some 7, sample := false }) with tow := { pound := 7 } })),
    (3), (7), by decide⟩
theorem witness_TwinChanges_twinSwitch_holds : ∃ (s : State) (k : Fin 8) (t : Pound), s.Running ∧
  s.dev.changePound k.val = some t ∧ t.toNat ≤ s.dev.tow.pound.toNat ∧ s.dev.deferring k.val = false ∧
  (s.dev.twin k.val).sample = false ∧ 2 ≤ s.dev.get F.COUT_TWIN_CFG_MISS_POLICY k.val :=
  ⟨(on (fun d => { (((d.put F.COUT_TWIN_CFG_MISS_POLICY 3 2).put F.COUT_TWIN_CTRL_TWIN_EN 0 8).setTwin 3 { hop := some (7, 1, 5), sample := false }) with tow := { pound := 7 } })),
    (3), (7), by decide⟩
theorem witness_TwinChanges_deferSwitch : ∃ (s : State) (k : Fin 8), s.Running ∧ s.dev.deferring k.val = true ∧
  1 ≤ (s.dev.twin k.val).deferred ∧ (s.dev.twin k.val).sample = true :=
  ⟨(on (fun d => { (((((d.put F.COUT_TWIN_CTRL_TWIN_EN 0 8).put F.COUT_TWIN_STAT_DEFERRING 0 8).put F.COUT_TWIN_STAT_PREPARED 0 8).put F.COUT_TWIN_CFG_DEFER_LOG 3 2).setTwin 3 { hop := some (7, 1, 5), sample := true, deferred := 2 }) with tow := { pound := 9 } })),
    (3), by decide⟩
theorem witness_TwinChanges_deferTimeout : ∃ (s : State) (k : Fin 8), s.Running ∧ s.dev.deferring k.val = true ∧
  s.dev.deferLimit k.val ≤ (s.dev.twin k.val).deferred :=
  ⟨(on (fun d => { (((((d.put F.COUT_TWIN_CTRL_TWIN_EN 0 8).put F.COUT_TWIN_STAT_DEFERRING 0 8).put F.COUT_TWIN_STAT_PREPARED 0 8).put F.COUT_TWIN_CFG_DEFER_LOG 3 2).setTwin 3 { hop := some (7, 1, 5), sample := false, deferred := 4 }) with tow := { pound := 9 } })),
    (3), by decide⟩
theorem witness_SwapAndRetune_twinSwap_pending : ∃ (s : State) (v : Word) (k : Fin 8) (p : Pound), s.Running ∧
  bits v.toNat 2 0 = k.val ∧ s.dev.twinBound k.val = false ∧ s.dev.twinEnabled k.val = true ∧
  p = BitVec.ofNat 64 (s.dev.get F.COUT_TWIN_SWAP_POUND_HI_POUND * 2 ^ 32 + s.dev.get F.COUT_TWIN_SWAP_POUND_LO_POUND) ∧
  s.dev.tow.pound.toNat + 2 ≤ p.toNat :=
  ⟨(on (fun d => ((d.put F.COUT_TWIN_CTRL_TWIN_EN 0 8).put F.COUT_TWIN_SWAP_POUND_LO_POUND 0 9))), (3), (3), (9), by decide⟩
theorem witness_SwapAndRetune_twinSwap_refused : ∃ (s : State) (v : Word) (k : Fin 8) (p : Pound), s.Running ∧
  bits v.toNat 2 0 = k.val ∧ p = BitVec.ofNat 64 (s.dev.get F.COUT_TWIN_SWAP_POUND_HI_POUND * 2 ^ 32 + s.dev.get
  F.COUT_TWIN_SWAP_POUND_LO_POUND) ∧ (s.dev.twinBound k.val = true ∨ s.dev.twinEnabled k.val =
  false ∨ p.toNat < s.dev.tow.pound.toNat + 2) :=
  ⟨(on (fun d => d.onCore 7 (fun x => { x with berth := some 1 }))), (3), (3), (0), by decide⟩
theorem witness_SwapAndRetune_hopBlankEnd : ∃ (s : State) (c : Fin 16), s.Running ∧ (s.dev.core c.val).blank = true ∧
  max 1 (s.dev.get F.COUT_RETUNE_CFG_HOP_BLANK) ≤ (s.dev.core c.val).sinceLoad :=
  ⟨(on (fun d => d.onCore 2 (fun x => { x with blank := true, sinceLoad := 5000 }))), (2), by decide⟩
theorem witness_SwapAndRetune_retuneSlow : ∃ (s : State) (c : Fin 16), s.Running ∧ (s.dev.core c.val).retuning = true ∧
  (s.dev.core c.val).slow = false ∧ s.dev.aligned c.val = false ∧
  s.dev.get F.COUT_RETUNE_CFG_RETUNE_LIMIT ≤ (s.dev.core c.val).sinceLoad :=
  ⟨(on (fun d => d.onCore 2 (fun x => { x with retuning := true, sinceLoad := 500000 }))), (2), by decide⟩
theorem witness_OutputStage_outputSourceSelect_kept : ∃ (s : State) (v : Word), s.Running ∧ (¬((48 ≤ bits v.toNat 5 0 ∧
  bits v.toNat 5 0 ≤ 62) ∨ (32 ≤ bits v.toNat 5 0 ∧ bits v.toNat 5 0 < 48 ∧
  s.dev.twinEnabled (bits v.toNat 5 0 % 8) = false))) :=
  ⟨(base), (6), by decide⟩
theorem witness_OutputStage_outputSourceSelect_refused : ∃ (s : State) (v : Word), s.Running ∧ (48 ≤ bits v.toNat 5 0 ∧
  bits v.toNat 5 0 ≤ 62) ∨ (32 ≤ bits v.toNat 5 0 ∧ bits v.toNat 5 0 < 48 ∧ s.dev.twinEnabled (bits v.toNat 5 0 % 8) = false) :=
  ⟨(base), (50), by decide⟩
theorem witness_OutputStage_outputSourceChange : ∃ (s : State) (n : Fin 32) (src : Nat), s.Running ∧
  (s.dev.output n.val).nextSrc = some src ∧ (s.dev.output n.val).srcDue = true :=
  ⟨(on (fun d => (d.put F.COUT_STAT_DCC_LOCK 4 1).onOutput 4 (fun o => { o with nextSrc := some 33, srcDue := true }))), (4),
    (33), by decide⟩
set_option maxRecDepth 20000 in
theorem witness_OutputStage_delayWalk : ∃ (s : State) (n : Fin 32), s.Running ∧ (s.dev.output n.val).walkDue = true :=
  ⟨(on (fun d => { (d.onOutput 4 (fun o => { o with walkAsked := true, walkDue := true })) with cal := { inForce := { base := .zero } } })),
    (4), by decide⟩
theorem witness_OutputStage_delayWalkDone : ∃ (s : State) (n : Fin 32) (tap : Nat), s.Running ∧
  (s.dev.output n.val).walkTo = some tap ∧ s.dev.is F.COUT_STAT_WALKING n.val = true :=
  ⟨(on (fun d => (d.put F.COUT_STAT_WALKING 4 1).onOutput 4 (fun o => { o with walkTo := some 300 }))), (4), (300), by decide⟩
theorem witness_OutputStage_dccLock : ∃ (s : State) (n : Fin 32), s.Running ∧ s.dev.is F.COUT_DRV_DCC_EN n.val = true ∧
  s.dev.outputParked n.val = false :=
  ⟨(on (fun d => (((((d.put F.COUT_DRV_DCC_EN 4 1).put F.COUT_DRV_UNLOCK_ACT 4 0).put F.CLK_BLK_STAT_STATE 84 2).put
    F.CLK_BLK_STAT_STATE 65 2).put F.LOOP_STAT_STATE 1 4).onOutput 4 (fun o => { o with behind := some 2 }))), (4), by decide⟩
theorem witness_AlignStrobes_alignArm_armed : ∃ (s : State) (v : Word) (n : Fin 32), s.Running ∧ bit v.toNat n.val = true ∧
  s.dev.tow.pound.toNat + 2 ≤ (s.dev.strobeProgram n.val).pound.toNat :=
  ⟨(on (fun d => (d.put F.COUT_ALIGN_POUND_LO_POUND 4 9))), (16), (4), by decide⟩
theorem witness_AlignStrobes_alignArm_refused : ∃ (s : State) (v : Word) (n : Fin 32), s.Running ∧ bit v.toNat n.val = true ∧
  (s.dev.strobeProgram n.val).pound.toNat < s.dev.tow.pound.toNat + 2 :=
  ⟨(base), (16), (4), by decide⟩
theorem witness_AlignStrobes_alignArm_others : ∃ (s : State) (v : Word) (n : Fin 32), s.Running ∧ bit v.toNat n.val = false :=
  ⟨(base), (16), (5), by decide⟩
theorem witness_AlignStrobes_alignDisarm_ends : ∃ (s : State) (v : Word) (n : Fin 32), s.Running ∧ bit v.toNat n.val = true ∧
  (s.dev.output n.val).high = none ∧ (s.dev.output n.val).program.isSome = true :=
  ⟨(on (fun d => (d.put F.COUT_ALIGN_ARM_ARM 0 16).onOutput 4 (fun o =>
    { o with program := some { pound := 9, period := 0, count := 1, width := 0, edge := false } }))), (16), (4), by decide⟩
theorem witness_AlignStrobes_alignDisarm_high : ∃ (s : State) (v : Word) (n : Fin 32), s.Running ∧ bit v.toNat n.val = true ∧
  (s.dev.output n.val).high.isSome = true :=
  ⟨(on (fun d => (d.put F.COUT_ALIGN_ARM_ARM 0 16).onOutput 4 (fun o =>
    { o with program := some { pound := 9, period := 0, count := 1, width := 0, edge := false }, high := some 3 }))), (16),
    (4), by decide⟩
theorem witness_AlignStrobes_alignDisarm_others : ∃ (s : State) (v : Word) (n : Fin 32), s.Running ∧
  (bit v.toNat n.val = false ∨ ((s.dev.output n.val).high = none ∧ (s.dev.output n.val).program = none)) :=
  ⟨(base), (16), (5), by decide⟩
theorem witness_AlignStrobes_alignStrobe_rises : ∃ (s : State) (n : Fin 32) (p : Strobes), s.Running ∧
  s.dev.sourceDue n.val = false ∧ (s.dev.output n.val).program = some p ∧ p.ended (s.dev.output n.val).strobe = false ∧
  p.pound.toNat + (s.dev.output n.val).strobe * p.period ≤ s.dev.tow.pound.toNat ∧ (s.dev.output n.val).high = none ∧
  s.dev.outputParked n.val = false :=
  ⟨(on (fun d => { ((((d.put F.COUT_DRV_UNLOCK_ACT 4 0).put F.CLK_BLK_STAT_STATE 84 2).put F.CLK_BLK_STAT_STATE 65 2).put F.LOOP_STAT_STATE 1 4).onOutput 4 (fun o => { o with behind := some 2, program := some { pound := 9, period := 10, count := 3, width := 2, edge := false }, strobe := 1 }) with tow := { pound := 19 } })),
    (4), ({ pound := 9, period := 10, count := 3, width := 2, edge := false }), by decide⟩
theorem witness_AlignStrobes_alignStrobe_skipped : ∃ (s : State) (n : Fin 32) (p : Strobes), s.Running ∧
  s.dev.sourceDue n.val = false ∧ (s.dev.output n.val).program = some p ∧ p.ended (s.dev.output n.val).strobe = false ∧
  p.pound.toNat + (s.dev.output n.val).strobe * p.period ≤ s.dev.tow.pound.toNat ∧ (s.dev.output n.val).high = none ∧
  s.dev.outputParked n.val = true ∧ p.ended ((s.dev.output n.val).strobe + 1) = false :=
  ⟨(on (fun d => { d.onOutput 4 (fun o => { o with program := some { pound := 9, period := 10, count := 3, width := 2, edge := false }, strobe := 1 }) with tow := { pound := 19 } })),
    (4), ({ pound := 9, period := 10, count := 3, width := 2, edge := false }), by decide⟩
theorem witness_AlignStrobes_alignStrobe_skippedLast : ∃ (s : State) (n : Fin 32) (p : Strobes), s.Running ∧
  s.dev.sourceDue n.val = false ∧ (s.dev.output n.val).program = some p ∧ p.ended (s.dev.output n.val).strobe = false ∧
  p.pound.toNat + (s.dev.output n.val).strobe * p.period ≤ s.dev.tow.pound.toNat ∧ (s.dev.output n.val).high = none ∧
  s.dev.outputParked n.val = true ∧ p.ended ((s.dev.output n.val).strobe + 1) = true :=
  ⟨(on (fun d => { d.onOutput 4 (fun o => { o with program := some { pound := 9, period := 10, count := 3, width := 2, edge := false }, strobe := 2 }) with tow := { pound := 29 } })),
    (4), ({ pound := 9, period := 10, count := 3, width := 2, edge := false }), by decide⟩
theorem witness_AlignStrobes_alignStrobeEnd_more : ∃ (s : State) (n : Fin 32) (p : Strobes), s.Running ∧
  (s.dev.output n.val).high = some 0 ∧ s.dev.sourceDue n.val = false ∧ (s.dev.output n.val).program = some p ∧
  p.ended (s.dev.output n.val).strobe = false :=
  ⟨(on (fun d => (d.put F.COUT_STAT_ALIGN_HIGH 4 1).onOutput 4 (fun o =>
    { o with program := some { pound := 9, period := 10, count := 3, width := 2, edge := false }, strobe := 1, high := some 0 }))),
    (4), ({ pound := 9, period := 10, count := 3, width := 2, edge := false }), by decide⟩
theorem witness_AlignStrobes_alignStrobeEnd_last : ∃ (s : State) (n : Fin 32), s.Running ∧ (s.dev.output n.val).high = some 0 ∧
  s.dev.sourceDue n.val = false ∧ ((s.dev.output n.val).program.all (fun p => p.ended (s.dev.output n.val).strobe) = true) :=
  ⟨(on (fun d => (d.put F.COUT_STAT_ALIGN_HIGH 4 1).onOutput 4 (fun o =>
    { o with program := some { pound := 9, period := 10, count := 3, width := 2, edge := false }, strobe := 3, high := some 0 }))),
    (4), by decide⟩
theorem witness_DecisionLookup_decisionLookup_disabled : ∃ (s : State) (e : DecEvent) (t : List DecEvent), s.Running ∧
  s.dev.dec.evq = e :: t ∧ s.dev.decDisabled = true :=
  ⟨(on (fun d => { d with dec := { evq := [({ slot := BitVec.ofNat 112 (4 * 2 ^ 36), wharf := 3, pound := 5 } : DecEvent)] } })),
    (({ slot := BitVec.ofNat 112 (4 * 2 ^ 36), wharf := 3, pound := 5 } : DecEvent)), ([]), by decide⟩
theorem witness_DecisionLookup_decisionLookup_reserved : ∃ (s : State) (e : DecEvent) (t : List DecEvent), s.Running ∧
  s.dev.dec.evq = e :: t ∧ s.dev.decDisabled = false ∧ (e.bits 106 104 ≠ 0 ∨ e.bits 7 0 ≠ 0) :=
  ⟨(on (fun d => { (((d.put F.CLK_BLK_STAT_STATE 114 2).put F.DEC_CTRL_ACCEPT 0 1).put F.DEC_CFG_MAX_AGE 0 0) with dec := { cleared := true, evq := [({ slot := BitVec.ofNat 112 (4 * 2 ^ 36 + 1), wharf := 3, pound := 5 } : DecEvent)], srcMap := [(0, 0x80000000)], cond := [(0, BitVec.ofNat 64 (2 ^ 63 + 7 * 2 ^ 16 + 2 * 2 ^ 10))], winForce := [(0, 4), (2, 1), (3, 9)] } })),
    (({ slot := BitVec.ofNat 112 (4 * 2 ^ 36 + 1), wharf := 3, pound := 5 } : DecEvent)), ([]), by decide⟩
theorem witness_DecisionLookup_decisionLookup_upset : ∃ (s : State) (up : Option Nat) (e : DecEvent) (t : List DecEvent),
  s.Running ∧ s.dev.dec.evq = e :: t ∧ s.dev.decDisabled = false ∧ e.bits 106 104 = 0 ∧ e.bits 7 0 = 0 ∧
  (up = some 0 ∨ s.dev.condUpset (s.dev.srcMapWord (s.dev.sourceOf e)) e up = true) :=
  ⟨(on (fun d => { (((d.put F.CLK_BLK_STAT_STATE 114 2).put F.DEC_CTRL_ACCEPT 0 1).put F.DEC_CFG_MAX_AGE 0 0) with dec := { cleared := true, evq := [({ slot := BitVec.ofNat 112 (4 * 2 ^ 36), wharf := 3, pound := 5 } : DecEvent)], srcMap := [(0, 0x80000000)], cond := [(0, BitVec.ofNat 64 (2 ^ 63 + 7 * 2 ^ 16 + 2 * 2 ^ 10))], winForce := [(0, 4), (2, 1), (3, 9)] } })),
    (some 1), (({ slot := BitVec.ofNat 112 (4 * 2 ^ 36), wharf := 3, pound := 5 } : DecEvent)), ([]), by decide⟩
theorem witness_DecisionLookup_decisionLookup_source : ∃ (s : State) (up : Option Nat) (e : DecEvent) (t : List DecEvent),
  s.Running ∧ s.dev.dec.evq = e :: t ∧ s.dev.decDisabled = false ∧ e.bits 106 104 = 0 ∧ e.bits 7 0 = 0 ∧
  (¬(up = some 0 ∨ s.dev.condUpset (s.dev.srcMapWord (s.dev.sourceOf e)) e up = true)) ∧
  srcValid (s.dev.srcMapWord (s.dev.sourceOf e)) = false :=
  ⟨(on (fun d => { (((d.put F.CLK_BLK_STAT_STATE 114 2).put F.DEC_CTRL_ACCEPT 0 1).put F.DEC_CFG_MAX_AGE 0 0) with dec := { cleared := true, evq := [({ slot := BitVec.ofNat 112 (4 * 2 ^ 36), wharf := 3, pound := 5 } : DecEvent)], srcMap := [(0, 0)], cond := [(0, BitVec.ofNat 64 (2 ^ 63 + 7 * 2 ^ 16 + 2 * 2 ^ 10))], winForce := [(0, 4), (2, 1), (3, 9)] } })),
    (none), (({ slot := BitVec.ofNat 112 (4 * 2 ^ 36), wharf := 3, pound := 5 } : DecEvent)), ([]), by decide⟩
theorem witness_DecisionLookup_decisionLookup_old : ∃ (s : State) (up : Option Nat) (e : DecEvent) (t : List DecEvent),
  s.Running ∧ s.dev.dec.evq = e :: t ∧ s.dev.decDisabled = false ∧ e.bits 106 104 = 0 ∧ e.bits 7 0 = 0 ∧
  (¬(up = some 0 ∨ s.dev.condUpset (s.dev.srcMapWord (s.dev.sourceOf e)) e up = true)) ∧
  srcValid (s.dev.srcMapWord (s.dev.sourceOf e)) = true ∧ (s.dev.get F.DEC_CFG_MAX_AGE ≠ 0 ∧
  (s.dev.get F.DEC_CFG_MAX_AGE : Int) < (e.pound.toNat : Int) - e.stampPound) :=
  ⟨(on (fun d => { (((d.put F.CLK_BLK_STAT_STATE 114 2).put F.DEC_CTRL_ACCEPT 0 1).put F.DEC_CFG_MAX_AGE 0 3) with dec := { cleared := true, evq := [({ slot := BitVec.ofNat 112 (4 * 2 ^ 36), wharf := 3, pound := 15 } : DecEvent)], srcMap := [(0, 0x80000000)], cond := [(0, BitVec.ofNat 64 (2 ^ 63 + 7 * 2 ^ 16 + 2 * 2 ^ 10))], winForce := [(0, 4), (2, 1), (3, 9)] } })),
    (none), (({ slot := BitVec.ofNat 112 (4 * 2 ^ 36), wharf := 3, pound := 15 } : DecEvent)), ([]), by decide⟩
theorem witness_DecisionLookup_decisionLookup_inactive : ∃ (s : State) (up : Option Nat) (e : DecEvent) (t : List DecEvent),
  s.Running ∧ s.dev.dec.evq = e :: t ∧ s.dev.decDisabled = false ∧ e.bits 106 104 = 0 ∧ e.bits 7 0 = 0 ∧
  (¬(up = some 0 ∨ s.dev.condUpset (s.dev.srcMapWord (s.dev.sourceOf e)) e up = true)) ∧
  srcValid (s.dev.srcMapWord (s.dev.sourceOf e)) = true ∧ ¬(s.dev.get F.DEC_CFG_MAX_AGE ≠ 0 ∧
  (s.dev.get F.DEC_CFG_MAX_AGE : Int) < (e.pound.toNat : Int) - e.stampPound) ∧ s.dev.winActive e.window = false :=
  ⟨(on (fun d => { (((d.put F.CLK_BLK_STAT_STATE 114 2).put F.DEC_CTRL_ACCEPT 0 1).put F.DEC_CFG_MAX_AGE 0 0) with dec := { cleared := true, evq := [({ slot := BitVec.ofNat 112 (4 * 2 ^ 36), wharf := 3, pound := 5 } : DecEvent)], srcMap := [(0, 0x80000000)], cond := [(0, BitVec.ofNat 64 (2 ^ 63 + 7 * 2 ^ 16 + 2 * 2 ^ 10))], winForce := [(0, 4), (3, 9)] } })),
    (none), (({ slot := BitVec.ofNat 112 (4 * 2 ^ 36), wharf := 3, pound := 5 } : DecEvent)), ([]), by decide⟩
theorem witness_DecisionLookup_decisionLookup_outside : ∃ (s : State) (up : Option Nat) (e : DecEvent) (t : List DecEvent) (r :
  Nat), s.Running ∧ s.dev.dec.evq = e :: t ∧ s.dev.decDisabled = false ∧ e.bits 106 104 = 0 ∧ e.bits 7 0 = 0 ∧
  (¬(up = some 0 ∨ s.dev.condUpset (s.dev.srcMapWord (s.dev.sourceOf e)) e up = true)) ∧
  srcValid (s.dev.srcMapWord (s.dev.sourceOf e)) = true ∧ ¬(s.dev.get F.DEC_CFG_MAX_AGE ≠ 0 ∧
  (s.dev.get F.DEC_CFG_MAX_AGE : Int) < (e.pound.toNat : Int) - e.stampPound) ∧ s.dev.winActive e.window = true ∧
  s.dev.windowReason e.window e.stamp = .inr r :=
  ⟨(on (fun d => { (((d.put F.CLK_BLK_STAT_STATE 114 2).put F.DEC_CTRL_ACCEPT 0 1).put F.DEC_CFG_MAX_AGE 0 0) with dec := { cleared := true, evq := [({ slot := BitVec.ofNat 112 (4 * 2 ^ 36), wharf := 3, pound := 5 } : DecEvent)], srcMap := [(0, 0x80000000)], cond := [(0, BitVec.ofNat 64 (2 ^ 63 + 7 * 2 ^ 16 + 2 * 2 ^ 10))], winForce := [(0, 4), (2, 1), (3, 0)] } })),
    (none), (({ slot := BitVec.ofNat 112 (4 * 2 ^ 36), wharf := 3, pound := 5 } : DecEvent)), ([]), (6), by decide⟩
theorem witness_DecisionLookup_decisionLookup_duplicate : ∃ (s : State) (up : Option Nat) (e : DecEvent) (t : List DecEvent)
  (occ : Nat), s.Running ∧ s.dev.dec.evq = e :: t ∧ s.dev.decDisabled = false ∧ e.bits 106 104 = 0 ∧ e.bits 7 0 = 0 ∧
  (¬(up = some 0 ∨ s.dev.condUpset (s.dev.srcMapWord (s.dev.sourceOf e)) e up = true)) ∧
  srcValid (s.dev.srcMapWord (s.dev.sourceOf e)) = true ∧ ¬(s.dev.get F.DEC_CFG_MAX_AGE ≠ 0 ∧
  (s.dev.get F.DEC_CFG_MAX_AGE : Int) < (e.pound.toNat : Int) - e.stampPound) ∧ s.dev.winActive e.window = true ∧
  s.dev.windowReason e.window e.stamp = .inl occ ∧ ((s.dev.srcState (s.dev.sourceOf e)).inside = true ∧
  (s.dev.srcState (s.dev.sourceOf e)).window = e.window ∧ (s.dev.srcState (s.dev.sourceOf e)).occ = occ) :=
  ⟨(on (fun d => { (((d.put F.CLK_BLK_STAT_STATE 114 2).put F.DEC_CTRL_ACCEPT 0 1).put F.DEC_CFG_MAX_AGE 0 0) with dec := { cleared := true, evq := [({ slot := BitVec.ofNat 112 (4 * 2 ^ 36), wharf := 3, pound := 5 } : DecEvent)], srcMap := [(0, 0x80000000)], cond := [(0, BitVec.ofNat 64 (2 ^ 63 + 7 * 2 ^ 16 + 2 * 2 ^ 10))], winForce := [(0, 4), (2, 1), (3, 9)], src := [(0, { window := 0, occ := 0, inside := true, seq := 0, seen := false })] } })),
    (none), (({ slot := BitVec.ofNat 112 (4 * 2 ^ 36), wharf := 3, pound := 5 } : DecEvent)), ([]), (0), by decide⟩
theorem witness_DecisionLookup_decisionLookup_noMatch : ∃ (s : State) (up : Option Nat) (e : DecEvent) (t : List DecEvent) (occ
  : Nat), s.Running ∧ s.dev.dec.evq = e :: t ∧ s.dev.decDisabled = false ∧ e.bits 106 104 = 0 ∧ e.bits 7 0 = 0 ∧
  (¬(up = some 0 ∨ s.dev.condUpset (s.dev.srcMapWord (s.dev.sourceOf e)) e up = true)) ∧
  srcValid (s.dev.srcMapWord (s.dev.sourceOf e)) = true ∧ ¬(s.dev.get F.DEC_CFG_MAX_AGE ≠ 0 ∧
  (s.dev.get F.DEC_CFG_MAX_AGE : Int) < (e.pound.toNat : Int) - e.stampPound) ∧ s.dev.winActive e.window = true ∧
  s.dev.windowReason e.window e.stamp = .inl occ ∧ ¬((s.dev.srcState (s.dev.sourceOf e)).inside = true ∧
  (s.dev.srcState (s.dev.sourceOf e)).window = e.window ∧ (s.dev.srcState (s.dev.sourceOf e)).occ = occ) ∧
  s.dev.firstMatch (bits (s.dev.srcMapWord (s.dev.sourceOf e)) 12 0) (bits (s.dev.srcMapWord (s.dev.sourceOf e)) 16 13 + 1) e =
  none :=
  ⟨(on (fun d => { (((d.put F.CLK_BLK_STAT_STATE 114 2).put F.DEC_CTRL_ACCEPT 0 1).put F.DEC_CFG_MAX_AGE 0 0) with dec := { cleared := true, evq := [({ slot := BitVec.ofNat 112 (4 * 2 ^ 36), wharf := 3, pound := 5 } : DecEvent)], srcMap := [(0, 0x80000000)], cond := [(0, BitVec.ofNat 64 (0))], winForce := [(0, 4), (2, 1), (3, 9)] } })),
    (none), (({ slot := BitVec.ofNat 112 (4 * 2 ^ 36), wharf := 3, pound := 5 } : DecEvent)), ([]), (0), by decide⟩
theorem witness_DecisionLookup_decisionLookup_dropped : ∃ (s : State) (up : Option Nat) (e : DecEvent) (t : List DecEvent) (occ
  : Nat) (i : Nat) (w : Nat), s.Running ∧ s.dev.dec.evq = e :: t ∧ s.dev.decDisabled = false ∧ e.bits 106 104 = 0 ∧
  e.bits 7 0 = 0 ∧ (¬(up = some 0 ∨ s.dev.condUpset (s.dev.srcMapWord (s.dev.sourceOf e)) e up = true)) ∧
  srcValid (s.dev.srcMapWord (s.dev.sourceOf e)) = true ∧ ¬(s.dev.get F.DEC_CFG_MAX_AGE ≠ 0 ∧
  (s.dev.get F.DEC_CFG_MAX_AGE : Int) < (e.pound.toNat : Int) - e.stampPound) ∧ s.dev.winActive e.window = true ∧
  s.dev.windowReason e.window e.stamp = .inl occ ∧ ¬((s.dev.srcState (s.dev.sourceOf e)).inside = true ∧
  (s.dev.srcState (s.dev.sourceOf e)).window = e.window ∧ (s.dev.srcState (s.dev.sourceOf e)).occ = occ) ∧
  s.dev.firstMatch (bits (s.dev.srcMapWord (s.dev.sourceOf e)) 12 0) (bits (s.dev.srcMapWord (s.dev.sourceOf e)) 16 13 + 1) e =
  some i ∧ w = s.dev.condWord (bits (s.dev.srcMapWord (s.dev.sourceOf e)) 12 0 + i) ∧ bit w 9 = true :=
  ⟨(on (fun d => { (((d.put F.CLK_BLK_STAT_STATE 114 2).put F.DEC_CTRL_ACCEPT 0 1).put F.DEC_CFG_MAX_AGE 0 0) with dec := { cleared := true, evq := [({ slot := BitVec.ofNat 112 (4 * 2 ^ 36), wharf := 3, pound := 5 } : DecEvent)], srcMap := [(0, 0x80000000)], cond := [(0, BitVec.ofNat 64 (2 ^ 63 + 7 * 2 ^ 16 + 2 * 2 ^ 10 + 2 ^ 9))], winForce := [(0, 4), (2, 1), (3, 9)] } })),
    (none), (({ slot := BitVec.ofNat 112 (4 * 2 ^ 36), wharf := 3, pound := 5 } : DecEvent)), ([]), (0), (0),
    (2 ^ 63 + 7 * 2 ^ 16 + 2 * 2 ^ 10 + 2 ^ 9), by decide⟩
theorem witness_DecisionLookup_decisionLookup_listRange : ∃ (s : State) (up : Option Nat) (e : DecEvent) (t : List DecEvent)
  (occ : Nat) (i : Nat) (w : Nat), s.Running ∧ s.dev.dec.evq = e :: t ∧ s.dev.decDisabled = false ∧ e.bits 106 104 = 0 ∧
  e.bits 7 0 = 0 ∧ (¬(up = some 0 ∨ s.dev.condUpset (s.dev.srcMapWord (s.dev.sourceOf e)) e up = true)) ∧
  srcValid (s.dev.srcMapWord (s.dev.sourceOf e)) = true ∧ ¬(s.dev.get F.DEC_CFG_MAX_AGE ≠ 0 ∧
  (s.dev.get F.DEC_CFG_MAX_AGE : Int) < (e.pound.toNat : Int) - e.stampPound) ∧ s.dev.winActive e.window = true ∧
  s.dev.windowReason e.window e.stamp = .inl occ ∧ ¬((s.dev.srcState (s.dev.sourceOf e)).inside = true ∧
  (s.dev.srcState (s.dev.sourceOf e)).window = e.window ∧ (s.dev.srcState (s.dev.sourceOf e)).occ = occ) ∧
  s.dev.firstMatch (bits (s.dev.srcMapWord (s.dev.sourceOf e)) 12 0) (bits (s.dev.srcMapWord (s.dev.sourceOf e)) 16 13 + 1) e =
  some i ∧ w = s.dev.condWord (bits (s.dev.srcMapWord (s.dev.sourceOf e)) 12 0 + i) ∧ bit w 9 = false ∧
  16384 ≤ bits w 29 16 + bits w 15 10 :=
  ⟨(on (fun d => { (((d.put F.CLK_BLK_STAT_STATE 114 2).put F.DEC_CTRL_ACCEPT 0 1).put F.DEC_CFG_MAX_AGE 0 0) with dec := { cleared := true, evq := [({ slot := BitVec.ofNat 112 (4 * 2 ^ 36), wharf := 3, pound := 5 } : DecEvent)], srcMap := [(0, 0x80000000)], cond := [(0, BitVec.ofNat 64 (2 ^ 63 + 16383 * 2 ^ 16 + 2 * 2 ^ 10))], winForce := [(0, 4), (2, 1), (3, 9)] } })),
    (none), (({ slot := BitVec.ofNat 112 (4 * 2 ^ 36), wharf := 3, pound := 5 } : DecEvent)), ([]), (0), (0),
    (2 ^ 63 + 16383 * 2 ^ 16 + 2 * 2 ^ 10), by decide⟩
theorem witness_DecisionLookup_decisionLookup_match : ∃ (s : State) (up : Option Nat) (e : DecEvent) (t : List DecEvent) (occ :
  Nat) (i : Nat) (w : Nat), s.Running ∧ s.dev.dec.evq = e :: t ∧ s.dev.decDisabled = false ∧ e.bits 106 104 = 0 ∧
  e.bits 7 0 = 0 ∧ (¬(up = some 0 ∨ s.dev.condUpset (s.dev.srcMapWord (s.dev.sourceOf e)) e up = true)) ∧
  srcValid (s.dev.srcMapWord (s.dev.sourceOf e)) = true ∧ ¬(s.dev.get F.DEC_CFG_MAX_AGE ≠ 0 ∧
  (s.dev.get F.DEC_CFG_MAX_AGE : Int) < (e.pound.toNat : Int) - e.stampPound) ∧ s.dev.winActive e.window = true ∧
  s.dev.windowReason e.window e.stamp = .inl occ ∧ ¬((s.dev.srcState (s.dev.sourceOf e)).inside = true ∧
  (s.dev.srcState (s.dev.sourceOf e)).window = e.window ∧ (s.dev.srcState (s.dev.sourceOf e)).occ = occ) ∧
  s.dev.firstMatch (bits (s.dev.srcMapWord (s.dev.sourceOf e)) 12 0) (bits (s.dev.srcMapWord (s.dev.sourceOf e)) 16 13 + 1) e =
  some i ∧ w = s.dev.condWord (bits (s.dev.srcMapWord (s.dev.sourceOf e)) 12 0 + i) ∧ bit w 9 = false ∧
  bits w 29 16 + bits w 15 10 < 16384 :=
  ⟨(on (fun d => { (((d.put F.CLK_BLK_STAT_STATE 114 2).put F.DEC_CTRL_ACCEPT 0 1).put F.DEC_CFG_MAX_AGE 0 0) with dec := { cleared := true, evq := [({ slot := BitVec.ofNat 112 (4 * 2 ^ 36), wharf := 3, pound := 5 } : DecEvent)], srcMap := [(0, 0x80000000)], cond := [(0, BitVec.ofNat 64 (2 ^ 63 + 7 * 2 ^ 16 + 2 * 2 ^ 10))], winForce := [(0, 4), (2, 1), (3, 9)] } })),
    (none), (({ slot := BitVec.ofNat 112 (4 * 2 ^ 36), wharf := 3, pound := 5 } : DecEvent)), ([]), (0), (0),
    (2 ^ 63 + 7 * 2 ^ 16 + 2 * 2 ^ 10), by decide⟩
theorem witness_DecisionLookup_decisionLookup_empty : ∃ (s : State), s.Running ∧ s.dev.dec.evq = [] :=
  ⟨(base), by decide⟩
theorem witness_DecisionLookup_decLastEvtRead : ∃ (s : State), s.Running ∧ s.dev.PortsIdle ∧ s.dev.blockClosed 114 = false ∧
  s.dev.domStopped 144 = false :=
  ⟨(on (fun d => { ((((d.put F.CLK_BLK_STAT_STATE 114 2).put F.DEC_CTRL_ACCEPT 0 1).put F.DEC_CFG_MAX_AGE 0 0).put F.DEC_LAST_EVT3_REASON 0 13) with dec := { frozen := true } })),
    by decide⟩
theorem witness_DecisionLookup_decLastEvtRead_stopped : ∃ (s : State), s.Running ∧ s.dev.PortsIdle ∧
  s.dev.blockClosed 114 = false ∧ s.dev.domStopped 144 = true :=
  ⟨(on (fun d => { ((((d.put F.CLK_BLK_STAT_STATE 114 2).put F.DEC_CTRL_ACCEPT 0 1).put F.DEC_CFG_MAX_AGE 0 0).put F.CLK_JUDGE_STAT_STOPPED 2 1) with dec := { frozen := true } })),
    by decide⟩
theorem witness_DecisionLookup_decLastEvtRead_closed : ∃ (s : State), s.Running ∧ s.dev.PortsIdle ∧
  s.dev.blockClosed 114 = true :=
  ⟨(on (fun d => { (d.put F.CLK_BLK_STAT_STATE 114 0) with bus := { lastRead := 7 } })), by decide⟩
theorem witness_DecisionLookup_decisionLookup_content : ∃ (s : State) (e : DecEvent) (t : List DecEvent) (occ : Nat),
  s.Running ∧ s.dev.dec.evq = e :: t ∧ occ = s.dev.winOcc e.window :=
  ⟨(on (fun d => { (((d.put F.CLK_BLK_STAT_STATE 114 2).put F.DEC_CTRL_ACCEPT 0 1).put F.DEC_CFG_MAX_AGE 0 0) with dec := { cleared := true, evq := [({ slot := BitVec.ofNat 112 (4 * 2 ^ 36), wharf := 3, pound := 5 } : DecEvent)], srcMap := [(0, 0x80000000)], cond := [(0, BitVec.ofNat 64 (2 ^ 63 + 7 * 2 ^ 16 + 2 * 2 ^ 10))], winForce := [(0, 4), (2, 1), (3, 9)] } })),
    (({ slot := BitVec.ofNat 112 (4 * 2 ^ 36), wharf := 3, pound := 5 } : DecEvent)), ([]), (0), by decide⟩
theorem witness_DecisionLookup_windowAdvance : ∃ (s : State) (w : Byte), s.Running ∧ s.dev.winActive w.toNat = true :=
  ⟨(on (fun d => { d with tow := { pound := 40 }, dec := { cleared := true, winForce := [(16, 4), (18, 1), (19, 3), (21, 5)] } })),
    (2), by decide⟩
theorem witness_DecisionLookup_windowAdvance_inactive : ∃ (s : State) (w : Byte), s.Running ∧ s.dev.winActive w.toNat = false :=
  ⟨(on (fun d => { d with dec := { cleared := true } })), (2), by decide⟩
theorem witness_ActionLists_listAccept_overrun : ∃ (s : State) (bad : BitVec 64) (m : Matched) (l : List ListItem), s.Running ∧
  (s.dev.dec.waiting.find? (fun (x : Matched) => x.due) = some m) ∧ l = listItems 64 (s.dev.listWords m bad) ∧
  ¬(wordsOf s.dev.dec.actq + s.dev.listRoom l true ≤ 1024 ∧ wordsOf s.dev.dec.deferred + s.dev.listRoom l false ≤ 2048) :=
  ⟨(on (fun d => { d with dec := { cleared := true, frozen := true, waiting := [({ ev := ({ slot := BitVec.ofNat 112 (4 * 2 ^ 36), wharf := 3, pound := 5 } : DecEvent), base := 7, len := 1, due := true } : Matched)], action := [(7, word 6 40 0)], actq := [{ cmd 0 5 with words := 1024 }] } })),
    (0), (({ ev := ({ slot := BitVec.ofNat 112 (4 * 2 ^ 36), wharf := 3, pound := 5 } : DecEvent), base := 7, len := 1, due := true }
    : Matched)), ([({ w1 := word 6 40 0 } : ListItem)]), by decide⟩
theorem witness_ActionLists_listAccept_accepts : ∃ (s : State) (bad : BitVec 64) (m : Matched) (l : List ListItem), s.Running ∧
  (s.dev.dec.waiting.find? (fun (x : Matched) => x.due) = some m) ∧ l = listItems 64 (s.dev.listWords m bad) ∧
  wordsOf s.dev.dec.actq + s.dev.listRoom l true ≤ 1024 ∧ wordsOf s.dev.dec.deferred + s.dev.listRoom l false ≤ 2048 :=
  ⟨(on (fun d => { d with dec := { waiting := [({ ev := ({ slot := BitVec.ofNat 112 (4 * 2 ^ 36), wharf := 3, pound := 5 } : DecEvent), base := 7, len := 1, due := true } : Matched)], action := [(7, word 6 40 0)] } })),
    (0), (({ ev := ({ slot := BitVec.ofNat 112 (4 * 2 ^ 36), wharf := 3, pound := 5 } : DecEvent), base := 7, len := 1, due := true }
    : Matched)), ([({ w1 := word 6 40 0 } : ListItem)]), by decide⟩
theorem witness_ActionLists_listAccept_one : ∃ (s : State) (bad : BitVec 64) (m : Matched) (l : List ListItem) (x : ListItem),
  s.Running ∧ (s.dev.dec.waiting.find? (fun (x : Matched) => x.due) = some m) ∧ l = listItems 64 (s.dev.listWords m bad) ∧
  wordsOf s.dev.dec.actq + s.dev.listRoom l true ≤ 1024 ∧ wordsOf s.dev.dec.deferred + s.dev.listRoom l false ≤ 2048 ∧
  l = [x] ∧ x.unreadable = false ∧ acceptCode 2 x.w1 x.second s.dev.tow.pound = none :=
  ⟨(on (fun d => { d with dec := { waiting := [({ ev := ({ slot := BitVec.ofNat 112 (4 * 2 ^ 36), wharf := 3, pound := 5 } : DecEvent), base := 7, len := 1, due := true } : Matched)], action := [(7, word 6 40 0)] } })),
    (0), (({ ev := ({ slot := BitVec.ofNat 112 (4 * 2 ^ 36), wharf := 3, pound := 5 } : DecEvent), base := 7, len := 1, due := true }
    : Matched)), ([({ w1 := word 6 40 0 } : ListItem)]), (({ w1 := word 6 40 0 } : ListItem)), by decide⟩
theorem witness_ActionLists_listAccept_unreadable : ∃ (s : State) (bad : BitVec 64) (m : Matched) (l : List ListItem) (x :
  ListItem), s.Running ∧ (s.dev.dec.waiting.find? (fun (x : Matched) => x.due) = some m) ∧
  l = listItems 64 (s.dev.listWords m bad) ∧ wordsOf s.dev.dec.actq + s.dev.listRoom l true ≤ 1024 ∧
  wordsOf s.dev.dec.deferred + s.dev.listRoom l false ≤ 2048 ∧ l = [x] ∧ x.unreadable = true :=
  ⟨(on (fun d => { d with dec := { waiting := [({ ev := ({ slot := BitVec.ofNat 112 (4 * 2 ^ 36), wharf := 3, pound := 5 } : DecEvent), base := 7, len := 1, due := true } : Matched)], action := [(7, word 6 40 0)] } })),
    (1), (({ ev := ({ slot := BitVec.ofNat 112 (4 * 2 ^ 36), wharf := 3, pound := 5 } : DecEvent), base := 7, len := 1, due := true }
    : Matched)), ([{ w1 := 0, unreadable := true, lost := true }]), ({ w1 := 0, unreadable := true, lost := true }), by decide⟩
theorem witness_ActionLists_listAccept_none : ∃ (s : State), s.Running ∧
  (s.dev.dec.waiting.find? (fun (x : Matched) => x.due) = none) :=
  ⟨(base), by decide⟩
theorem witness_ActionLists_deferredMove : ∃ (s : State) (up : Upset) (i : Nat) (c : Cmd), s.Running ∧
  (s.dev.dec.waiting.any (fun (x : Matched) => x.due) = false) ∧ (bestOf ((s.dev.dec.deferred.zipIdx).filterMap (fun (x : Cmd ×
  Nat) => if x.1.eligible s.dev.tow.pound then some (x.2, x.1) else none)) = some (i, c)) ∧ up.queue = false ∧
  wordsOf s.dev.dec.actq + c.words ≤ 1024 :=
  ⟨(on (fun d => { d with dec := { deferred := [cmd (word 1 5 0) 7] } })), ({}), (0), (cmd (word 1 5 0) 7), by decide⟩
theorem witness_ActionLists_deferredMove_noRoom : ∃ (s : State) (up : Upset) (i : Nat) (c : Cmd), s.Running ∧
  (s.dev.dec.waiting.any (fun (x : Matched) => x.due) = false) ∧ (bestOf ((s.dev.dec.deferred.zipIdx).filterMap (fun (x : Cmd ×
  Nat) => if x.1.eligible s.dev.tow.pound then some (x.2, x.1) else none)) = some (i, c)) ∧ up.queue = false ∧
  1024 < wordsOf s.dev.dec.actq + c.words :=
  ⟨(on (fun d => { d with dec := { deferred := [cmd (word 1 5 0) 7], actq := [{ cmd 0 5 with words := 1024 }] } })), ({}), (0),
    (cmd (word 1 5 0) 7), by decide⟩
theorem witness_ActionLists_deferredMove_upset : ∃ (s : State) (up : Upset) (i : Nat) (c : Cmd), s.Running ∧
  (s.dev.dec.waiting.any (fun (x : Matched) => x.due) = false) ∧ (bestOf ((s.dev.dec.deferred.zipIdx).filterMap (fun (x : Cmd ×
  Nat) => if x.1.eligible s.dev.tow.pound then some (x.2, x.1) else none)) = some (i, c)) ∧ up.queue = true :=
  ⟨(on (fun d => { d with dec := { deferred := [cmd (word 1 5 0) 7] } })), ({ queue := true }), (0), (cmd (word 1 5 0) 7),
    by decide⟩
theorem witness_ActionLists_actqRelease_moves : ∃ (s : State) (up : Upset) (c : Cmd) (t : List Cmd), s.Running ∧
  up.queue = false ∧ s.dev.resetBusy = false ∧ s.dev.hold 2 = none ∧ s.dev.dec.actq = c :: t ∧ cmdOp c.w1 ≠ 8 ∧
  c.eligible s.dev.tow.pound = true ∧ c.isLate s.dev.tow.pound = false ∧ s.dev.sliceFull (ownerOf (cmdBerth c.w1)) = false :=
  ⟨(on (fun d => { (d.put F.DEC_STAT_WAITING 0 1) with dec := { actq := [cmd (word 6 3000 0) 5] } })), ({}),
    (cmd (word 6 3000 0) 5), ([]), by decide⟩
theorem witness_ActionLists_actqRelease_one : ∃ (s : State) (up : Upset) (c : Cmd), s.Running ∧ up.queue = false ∧
  s.dev.resetBusy = false ∧ s.dev.hold 2 = none ∧ s.dev.dec.actq = [c] ∧ cmdOp c.w1 ≠ 8 ∧ c.eligible s.dev.tow.pound = true ∧
  c.isLate s.dev.tow.pound = false ∧ s.dev.sliceFull (ownerOf (cmdBerth c.w1)) = false :=
  ⟨(on (fun d => { (d.put F.DEC_STAT_WAITING 0 1) with dec := { actq := [cmd (word 6 3000 0) 5] } })), ({}),
    (cmd (word 6 3000 0) 5), by decide⟩
theorem witness_ActionLists_actqRelease_waits : ∃ (s : State) (up : Upset) (c : Cmd) (t : List Cmd), s.Running ∧
  up.queue = false ∧ s.dev.resetBusy = false ∧ s.dev.hold 2 = none ∧ s.dev.dec.actq = c :: t ∧
  (cmdOp c.w1 = 8 ∨ c.eligible s.dev.tow.pound = false ∨ c.isLate s.dev.tow.pound = true) :=
  ⟨(on (fun d => { (d.put F.DEC_STAT_WAITING 0 1) with dec := { actq := [cmd (word 8 0 0x30007) 5] } })), ({}),
    (cmd (word 8 0 0x30007) 5), ([]), by decide⟩
set_option maxRecDepth 20000 in
theorem witness_ActionLists_actqRelease_full : ∃ (s : State) (up : Upset) (c : Cmd) (t : List Cmd), s.Running ∧
  up.queue = false ∧ s.dev.resetBusy = false ∧ s.dev.hold 2 = none ∧ s.dev.dec.actq = c :: t ∧ cmdOp c.w1 ≠ 8 ∧
  c.eligible s.dev.tow.pound = true ∧ c.isLate s.dev.tow.pound = false ∧ s.dev.sliceFull (ownerOf (cmdBerth c.w1)) = true :=
  ⟨(on (fun d => { (d.put F.DEC_STAT_WAITING 0 1) with dec := { actq := [cmd (word 6 3000 0) 5] }, eng := { engine := [(1, { slice := List.replicate 128 (cmd (word 1 2053 0) 5) })] } })),
    ({}), (cmd (word 6 3000 0) 5), ([]), by decide⟩
theorem witness_ActionLists_actqRelease_empty : ∃ (s : State), s.Running ∧ s.dev.resetBusy = false ∧ s.dev.hold 2 = none ∧
  s.dev.dec.actq = [] :=
  ⟨(on (fun d => (d.put F.DEC_STAT_WAITING 0 1))), by decide⟩
theorem witness_ActionLists_actqRelease_upset : ∃ (s : State) (up : Upset) (c : Cmd) (t : List Cmd), s.Running ∧
  up.queue = true ∧ s.dev.resetBusy = false ∧ s.dev.hold 2 = none ∧ s.dev.dec.actq = c :: t :=
  ⟨(on (fun d => { (d.put F.DEC_STAT_WAITING 0 1) with dec := { actq := [cmd (word 6 3000 0) 5] } })), ({ queue := true }),
    (cmd (word 6 3000 0) 5), ([]), by decide⟩
theorem witness_DecisionReset_decClear : ∃ (s : State) (v : Word), s.Running ∧ s.dev.pageClosed 0x33 = false ∧
  bit v.toNat 30 = false :=
  ⟨(on (fun d => (((d.put F.CLK_BLK_STAT_STATE 114 2).put F.DEC_CTRL_ACCEPT 0 1).put F.DEC_CFG_MAX_AGE 0 0))), (0), by decide⟩
theorem witness_DecisionReset_decClearDone : ∃ (s : State), s.Running ∧ s.dev.is F.DEC_STAT_CLEAR_BUSY = true :=
  ⟨(on (fun d => { (d.put F.DEC_STAT_CLEAR_BUSY 0 1) with dec := { srcMap := [(9, 5)] } })), by decide⟩
theorem witness_DecisionReset_decFlush_dueLists : ∃ (s : State), s.Running ∧ s.dev.pageClosed 0x33 = false :=
  ⟨(on (fun d => { d with dec := { waiting := [({ ev := ({ slot := BitVec.ofNat 112 (4 * 2 ^ 36), wharf := 3, pound := 5 } : DecEvent), base := 7, len := 1, due := true } : Matched)], action := [(7, word 6 40 0)] } })),
    by decide⟩
theorem witness_DecisionReset_decFlush : ∃ (s : State), s.Running ∧ s.dev.pageClosed 0x33 = false ∧
  (s.dev.dec.waiting.all (fun (x : Matched) => !x.due) = true) ∧ ((s.dev.dec.actq ++
  s.dev.dec.deferred).all (fun (c : Cmd) => c.src == 2) = true) :=
  ⟨(on (fun d => { (((d.put F.CLK_BLK_STAT_STATE 114 2).put F.DEC_CTRL_ACCEPT 0 1).put F.DEC_CFG_MAX_AGE 0 0) with dec := { actq := [{ cmd (word 6 3000 0) 5 with src := 2 }] } })),
    by decide⟩
theorem witness_DecisionReset_decUnitReset : ∃ (s : State), s.Running ∧ s.dev.pageClosed 0x33 = false ∧
  ((s.dev.dec.actq ++ s.dev.dec.deferred).all (fun (c : Cmd) => c.src == 2) = true) :=
  ⟨(on (fun d => { (((d.put F.CLK_BLK_STAT_STATE 114 2).put F.DEC_CTRL_ACCEPT 0 1).put F.DEC_CFG_MAX_AGE 0 0) with dec := { actq := [{ cmd (word 6 3000 0) 5 with src := 2 }] } })),
    by decide⟩
theorem witness_DecisionReset_decClear_closed : ∃ (s : State), s.Running ∧ s.dev.pageClosed 0x33 = true :=
  ⟨(on (fun d => (d.put F.CLK_BLK_STAT_STATE 114 0))), by decide⟩
theorem witness_DecisionReset_decFlush_closed : ∃ (s : State), s.Running ∧ s.dev.pageClosed 0x33 = true :=
  ⟨(on (fun d => (d.put F.CLK_BLK_STAT_STATE 114 0))), by decide⟩
theorem witness_DecisionReset_decUnitReset_closed : ∃ (s : State), s.Running ∧ s.dev.pageClosed 0x33 = true :=
  ⟨(on (fun d => (d.put F.CLK_BLK_STAT_STATE 114 0))), by decide⟩
theorem witness_StorePortQueue_nvsPush_queued : ∃ (s : State), s.Running ∧ s.dev.pushRefused s.dev.nvsEntry = false :=
  ⟨(on (fun d => (d.put F.CLK_BLK_STAT_STATE 117 2))), by decide⟩
theorem witness_StorePortQueue_nvsPush_refused : ∃ (s : State), s.Running ∧ s.dev.pushRefused s.dev.nvsEntry = true :=
  ⟨(on (fun d => (d.put F.CLK_BLK_STAT_STATE 117 0))), by decide⟩
theorem witness_StorePortQueue_nvsEntry : ∃ (s : State) (e : NvsEntry) (tl : List NvsEntry), s.Running ∧
  s.dev.nvs.queue = e :: tl ∧ s.dev.nvsReady = true ∧ e.isPoll = false ∧ e.dirIn = false :=
  ⟨(on (fun d => { ((d.put F.CLK_BLK_STAT_STATE 117 2).put F.NVS_STAT_OWNED 0 1) with nvs := { queue := [{ hdr := 0x9F, addr := 0, len := 0, poll := 0 }] } })),
    ({ hdr := 0x9F, addr := 0, len := 0, poll := 0 }), ([]), by decide⟩
theorem witness_StorePortQueue_nvsEntry_reads : ∃ (s : State) (e : NvsEntry) (tl : List NvsEntry), s.Running ∧
  s.dev.nvs.queue = e :: tl ∧ s.dev.nvsReady = true ∧ e.isPoll = false ∧ e.dirIn = true :=
  ⟨(on (fun d => { ((d.put F.CLK_BLK_STAT_STATE 117 2).put F.NVS_STAT_OWNED 0 1) with nvs := { queue := [{ hdr := 0xA000000B, addr := 16, len := 2, poll := 0 }] } })),
    ({ hdr := 0xA000000B, addr := 16, len := 2, poll := 0 }), ([]), by decide⟩
theorem witness_StorePortQueue_nvsEntry_polls : ∃ (s : State) (e : NvsEntry) (tl : List NvsEntry), s.Running ∧
  s.dev.nvs.queue = e :: tl ∧ s.dev.nvsReady = true ∧ e.isPoll = true ∧ e.dirIn = true :=
  ⟨(on (fun d => { ((d.put F.CLK_BLK_STAT_STATE 117 2).put F.NVS_STAT_OWNED 0 1) with nvs := { queue := [{ hdr := 0x30000005, addr := 0, len := 1, poll := 0x01000005 }] } })),
    ({ hdr := 0x30000005, addr := 0, len := 1, poll := 0x01000005 }), ([]), by decide⟩
theorem witness_StorePortQueue_nvsEntry_waits : ∃ (s : State), s.Running ∧ (s.dev.nvs.queue = [] ∨ s.dev.nvsReady = false) :=
  ⟨(base), by decide⟩
theorem witness_StorePortQueue_nvsEntry_single : ∃ (s : State) (e : NvsEntry) (tl : List NvsEntry), s.Running ∧
  s.dev.nvs.queue = e :: tl ∧ s.dev.nvsReady = true ∧ e.isPoll = false ∧ e.dirIn = true ∧ e.words = 1 ∧ e.dataLanes = 1 ∧
  s.dev.nvs.rdata = [] :=
  ⟨(on (fun d => { ((d.put F.CLK_BLK_STAT_STATE 117 2).put F.NVS_STAT_OWNED 0 1) with nvs := { queue := [{ hdr := 0xA000000B, addr := 16, len := 1, poll := 0 }] } })),
    ({ hdr := 0xA000000B, addr := 16, len := 1, poll := 0 }), ([]), by decide⟩
theorem witness_StorePortQueue_nvsEntry_quad : ∃ (s : State) (e : NvsEntry) (tl : List NvsEntry), s.Running ∧
  s.dev.nvs.queue = e :: tl ∧ s.dev.nvsReady = true ∧ e.isPoll = false ∧ e.dirIn = true ∧ e.words = 1 ∧ e.dataLanes = 4 ∧
  s.dev.nvs.rdata = [] :=
  ⟨(on (fun d => { ((d.put F.CLK_BLK_STAT_STATE 117 2).put F.NVS_STAT_OWNED 0 1) with nvs := { queue := [{ hdr := 0xA080000B, addr := 16, len := 1, poll := 0 }] } })),
    ({ hdr := 0xA080000B, addr := 16, len := 1, poll := 0 }), ([]), by decide⟩
theorem witness_StorePortQueue_nvsEntryDone : ∃ (s : State) (e : NvsEntry), s.Running ∧ s.dev.nvs.running = some e ∧
  e.isPoll = false ∧ s.dev.nvs.incoming = [] :=
  ⟨(on (fun d => { ((((d.put F.CLK_BLK_STAT_STATE 117 2).put F.NVS_STAT_OWNED 0 1).put F.NVS_CTRL_HOST_OWN 0 1).put F.NVS_STAT_BUSY 0 1) with nvs := { running := some { hdr := 0x9F, addr := 0, len := 0, poll := 0 } } })),
    ({ hdr := 0x9F, addr := 0, len := 0, poll := 0 }), by decide⟩
theorem witness_StorePortQueue_nvsEntryDone_notYet : ∃ (s : State), s.Running ∧
  (s.dev.nvs.running.all (fun e => e.isPoll || !s.dev.nvs.incoming.isEmpty) = true) :=
  ⟨(on (fun d => { ((((d.put F.CLK_BLK_STAT_STATE 117 2).put F.NVS_STAT_OWNED 0 1).put F.NVS_CTRL_HOST_OWN 0 1).put F.NVS_STAT_BUSY 0 1) with nvs := { running := some { hdr := 0x30000005, addr := 0, len := 1, poll := 0x01000005 } } })),
    by decide⟩
set_option maxRecDepth 20000 in
theorem witness_StorePortQueue_nvsPoll_goesOn : ∃ (s : State) (rx : List (BitVec 4)) (b : Byte) (e : NvsEntry), s.Running ∧
  s.dev.nvs.running = some e ∧ e.isPoll = true ∧ b.toNat = nvsTake e.dataLanes 8 0 rx ∧
  b &&& (e.poll.extractLsb' 24 8) ≠ (e.poll.extractLsb' 16 8) &&& (e.poll.extractLsb' 24 8) :=
  ⟨(on (fun d => { ((((d.put F.CLK_BLK_STAT_STATE 117 2).put F.NVS_STAT_OWNED 0 1).put F.NVS_CTRL_HOST_OWN 0 1).put F.NVS_STAT_BUSY 0 1) with nvs := { running := some { hdr := 0x30000005, addr := 0, len := 1, poll := 0x01000005 } } })),
    (List.replicate 6 0 ++ [2, 2]), (3), ({ hdr := 0x30000005, addr := 0, len := 1, poll := 0x01000005 }), by decide⟩
set_option maxRecDepth 20000 in
theorem witness_StorePortQueue_nvsPoll_matches : ∃ (s : State) (rx : List (BitVec 4)) (b : Byte) (e : NvsEntry), s.Running ∧
  s.dev.nvs.running = some e ∧ e.isPoll = true ∧ b.toNat = nvsTake e.dataLanes 8 0 rx ∧
  b &&& (e.poll.extractLsb' 24 8) = (e.poll.extractLsb' 16 8) &&& (e.poll.extractLsb' 24 8) :=
  ⟨(on (fun d => { ((((d.put F.CLK_BLK_STAT_STATE 117 2).put F.NVS_STAT_OWNED 0 1).put F.NVS_CTRL_HOST_OWN 0 1).put F.NVS_STAT_BUSY 0 1) with nvs := { running := some { hdr := 0x30000005, addr := 0, len := 1, poll := 0x01000005 } } })),
    (List.replicate 6 0 ++ [2, 0]), (2), ({ hdr := 0x30000005, addr := 0, len := 1, poll := 0x01000005 }), by decide⟩
theorem witness_StorePortQueue_nvsPollTimeout : ∃ (s : State) (e : NvsEntry), s.Running ∧ s.dev.nvs.running = some e ∧
  e.isPoll = true ∧ bits e.poll.toNat 15 0 ≠ 0 :=
  ⟨(on (fun d => { ((((d.put F.CLK_BLK_STAT_STATE 117 2).put F.NVS_STAT_OWNED 0 1).put F.NVS_CTRL_HOST_OWN 0 1).put F.NVS_STAT_BUSY 0 1) with nvs := { running := some { hdr := 0x30000005, addr := 0, len := 1, poll := 0x01000005 } } })),
    ({ hdr := 0x30000005, addr := 0, len := 1, poll := 0x01000005 }), by decide⟩
theorem witness_StorePortQueue_nvsResume : ∃ (s : State), s.Running ∧ s.dev.nvsCtrl < 2 ^ 30 :=
  ⟨(on (fun d => (d.put F.NVS_STAT_HALTED 0 1))), by decide⟩
theorem witness_StorePortQueue_nvsFlush : ∃ (s : State), s.Running ∧ s.dev.nvsCtrl < 2 ^ 30 :=
  ⟨(on (fun d => { (d.put F.NVS_STAT_HALTED 0 1) with nvs := { queue := [{ hdr := 0x9F, addr := 0, len := 0, poll := 0 }], wdata := [4] } })),
    by decide⟩
theorem witness_StorePortQueue_hostOwn : ∃ (s : State), s.Running :=
  ⟨(on (fun d => (d.put F.NVS_STAT_OWNED 0 1))), by decide⟩
theorem witness_StorePortQueue_ownGranted : ∃ (s : State), s.Running ∧ s.dev.is F.NVS_CTRL_HOST_OWN = true ∧
  s.dev.nvsOwned = false ∧ s.dev.keeperActive = false ∧ 3 ≤ s.dev.get F.SYS_BOOT_STAT_STEP ∧ s.dev.kpr.restarting = false :=
  ⟨(on (fun d => ((d.put F.NVS_CTRL_HOST_OWN 0 1).put F.SYS_BOOT_STAT_STEP 0 9))), by decide⟩
theorem witness_StorePortQueue_nvsRdataRead : ∃ (s : State) (w : Word) (tl : List Word), s.Running ∧
  s.dev.nvs.rdata = w :: tl :=
  ⟨(on (fun d => { d with nvs := { rdata := [7, 3], incoming := [8] } })), (7), ([3]), by decide⟩
theorem witness_StorePortQueue_nvsRdataRead_empty : ∃ (s : State), s.Running ∧ s.dev.nvs.rdata = [] :=
  ⟨(on (fun d => { d with bus := { lastRead := 7 } })), by decide⟩
theorem witness_StorePortQueue_nvsWdataWrite : ∃ (s : State), s.Running :=
  ⟨(base), by decide⟩
set_option maxRecDepth 20000 in
theorem witness_HostPortFrames_hspWrite_staged : ∃ (s : State) (command : List Byte) (address : List Byte) (data : List Byte)
  (stageFree : Bool) (alive : BitVec 4) (addr : BitVec 24) (payload : List Bool) (k : Nat), s.Running ∧ s.dev.PortsIdle ∧
  s.dev.hspRuns = true ∧ s.dev.hspFrame (command ++ address ++ data) = .write alive addr payload ∧
  writeCut alive addr payload = false ∧ stageFree = true ∧ (writeData alive addr payload).2 = true ∧
  (writeData alive addr payload).1 = some k ∧ k ≤ 256 ∧ addr.toNat % 4 = 0 ∧ s.dev.aliveOk alive = true ∧
  isGuard addr.toNat = false ∧ addr.toNat % 0x1000 + 4 * k ≤ 0x1000 ∧ addr.toNat % 0x1000 ≠ 0x20 ∧ 1 ≤ k :=
  ⟨(on (fun d => (d.put F.SYS_BOOT_STAT_STEP 0 9))), (((msbBits 8 0x13 ++ msbBits 24 0xA08C ++ msbBits 32 0x123 ++
    msbBits 16 (crcBits (msbBits 8 0x13 ++ msbBits 24 0xA08C ++ msbBits 32 0x123))).map (fun b => BitVec.ofNat 8 (ofBool
    b))).take 8), ((((msbBits 8 0x13 ++ msbBits 24 0xA08C ++ msbBits 32 0x123 ++ msbBits 16 (crcBits (msbBits 8 0x13 ++
    msbBits 24 0xA08C ++ msbBits 32 0x123))).map (fun b => BitVec.ofNat 8 (ofBool b))).drop 8).take 24),
    (((msbBits 8 0x13 ++ msbBits 24 0xA08C ++ msbBits 32 0x123 ++ msbBits 16 (crcBits (msbBits 8 0x13 ++ msbBits 24 0xA08C ++
    msbBits 32 0x123))).map (fun b => BitVec.ofNat 8 (ofBool b))).drop 32), (true), (3), (0xA08C),
    ((msbBits 32 0x123 ++ msbBits 16 (crcBits (msbBits 8 0x13 ++ msbBits 24 0xA08C ++ msbBits 32 0x123)))), (1), by decide⟩
set_option maxRecDepth 20000 in
theorem witness_HostPortFrames_hspWrite_lands : ∃ (s : State) (command : List Byte) (address : List Byte) (data : List Byte)
  (stageFree : Bool) (alive : BitVec 4) (addr : BitVec 24) (payload : List Bool) (k : Nat), s.Running ∧ s.dev.PortsIdle ∧
  s.dev.hspRuns = true ∧ s.dev.hspFrame (command ++ address ++ data) = .write alive addr payload ∧
  writeCut alive addr payload = false ∧ stageFree = true ∧ (writeData alive addr payload).2 = true ∧
  (writeData alive addr payload).1 = some k ∧ k ≤ 256 ∧ addr.toNat % 4 = 0 ∧ s.dev.aliveOk alive = true ∧
  isGuard addr.toNat = false ∧ addr.toNat % 0x1000 + 4 * k ≤ 0x1000 ∧
  [1, 3, 0xB, 0x38].contains (addr.toNat / 0x1000) = false ∧ stageFree = true :=
  ⟨(on (fun d => (d.put F.SYS_BOOT_STAT_STEP 0 9))), (((msbBits 8 0x13 ++ msbBits 24 0xA08C ++ msbBits 32 0x123 ++
    msbBits 16 (crcBits (msbBits 8 0x13 ++ msbBits 24 0xA08C ++ msbBits 32 0x123))).map (fun b => BitVec.ofNat 8 (ofBool
    b))).take 8), ((((msbBits 8 0x13 ++ msbBits 24 0xA08C ++ msbBits 32 0x123 ++ msbBits 16 (crcBits (msbBits 8 0x13 ++
    msbBits 24 0xA08C ++ msbBits 32 0x123))).map (fun b => BitVec.ofNat 8 (ofBool b))).drop 8).take 24),
    (((msbBits 8 0x13 ++ msbBits 24 0xA08C ++ msbBits 32 0x123 ++ msbBits 16 (crcBits (msbBits 8 0x13 ++ msbBits 24 0xA08C ++
    msbBits 32 0x123))).map (fun b => BitVec.ofNat 8 (ofBool b))).drop 32), (true), (3), (0xA08C),
    ((msbBits 32 0x123 ++ msbBits 16 (crcBits (msbBits 8 0x13 ++ msbBits 24 0xA08C ++ msbBits 32 0x123)))), (1), by decide⟩
set_option maxRecDepth 20000 in
theorem witness_HostPortFrames_hspWrite_overrun : ∃ (s : State) (command : List Byte) (address : List Byte) (data : List Byte)
  (stageFree : Bool) (alive : BitVec 4) (addr : BitVec 24) (payload : List Bool) (k : Nat), s.Running ∧ s.dev.PortsIdle ∧
  s.dev.hspRuns = true ∧ s.dev.hspFrame (command ++ address ++ data) = .write alive addr payload ∧
  writeCut alive addr payload = false ∧ stageFree = true ∧ (writeData alive addr payload).2 = true ∧
  (writeData alive addr payload).1 = some k ∧ k ≤ 256 ∧ addr.toNat % 4 = 0 ∧ s.dev.aliveOk alive = true ∧
  isGuard addr.toNat = false ∧ [1, 3, 0xB, 0x38].contains (addr.toNat / 0x1000) = false ∧ addr.toNat % 0x1000 ≠ 0x20 ∧
  0x1000 < addr.toNat % 0x1000 + 4 * k ∧ s.dev.openPair .host = none ∧ s.dev.pageTakes (addr.toNat / 0x1000) = false :=
  ⟨(on (fun d => (d.put F.SYS_BOOT_STAT_STEP 0 9))), (((msbBits 8 0x13 ++ msbBits 24 0x12FFC ++ msbBits 32 0x123 ++
    msbBits 32 0x124 ++ msbBits 16 (crcBits (msbBits 8 0x13 ++ msbBits 24 0x12FFC ++ msbBits 32 0x123 ++
    msbBits 32 0x124))).map (fun b => BitVec.ofNat 8 (ofBool b))).take 8),
    ((((msbBits 8 0x13 ++ msbBits 24 0x12FFC ++ msbBits 32 0x123 ++ msbBits 32 0x124 ++ msbBits 16 (crcBits (msbBits 8 0x13 ++
    msbBits 24 0x12FFC ++ msbBits 32 0x123 ++ msbBits 32 0x124))).map (fun b => BitVec.ofNat 8 (ofBool b))).drop 8).take 24),
    (((msbBits 8 0x13 ++ msbBits 24 0x12FFC ++ msbBits 32 0x123 ++ msbBits 32 0x124 ++ msbBits 16 (crcBits (msbBits 8 0x13 ++
    msbBits 24 0x12FFC ++ msbBits 32 0x123 ++ msbBits 32 0x124))).map (fun b => BitVec.ofNat 8 (ofBool b))).drop 32), (true),
    (3), (0x12FFC), ((msbBits 32 0x123 ++ msbBits 32 0x124 ++ msbBits 16 (crcBits (msbBits 8 0x13 ++ msbBits 24 0x12FFC ++
    msbBits 32 0x123 ++ msbBits 32 0x124)))), (2), by decide⟩
set_option maxRecDepth 20000 in
theorem witness_HostPortFrames_hspWrite_good : ∃ (s : State) (command : List Byte) (address : List Byte) (data : List Byte)
  (stageFree : Bool) (alive : BitVec 4) (addr : BitVec 24) (payload : List Bool) (k : Nat) (w : Nat), s.Running ∧
  s.dev.PortsIdle ∧ s.dev.hspRuns = true ∧ s.dev.hspFrame (command ++ address ++ data) = .write alive addr payload ∧
  writeCut alive addr payload = false ∧ stageFree = true ∧ (writeData alive addr payload).2 = true ∧
  (writeData alive addr payload).1 = some k ∧ k ≤ 256 ∧ addr.toNat % 4 = 0 ∧ s.dev.aliveOk alive = true ∧ addr = 0xA08C ∧
  k = 1 ∧ wordsOfBits 1 payload = [w] ∧ s.dev.openPair .host = none :=
  ⟨(on (fun d => (d.put F.SYS_BOOT_STAT_STEP 0 9))), (((msbBits 8 0x13 ++ msbBits 24 0xA08C ++ msbBits 32 0x123 ++
    msbBits 16 (crcBits (msbBits 8 0x13 ++ msbBits 24 0xA08C ++ msbBits 32 0x123))).map (fun b => BitVec.ofNat 8 (ofBool
    b))).take 8), ((((msbBits 8 0x13 ++ msbBits 24 0xA08C ++ msbBits 32 0x123 ++ msbBits 16 (crcBits (msbBits 8 0x13 ++
    msbBits 24 0xA08C ++ msbBits 32 0x123))).map (fun b => BitVec.ofNat 8 (ofBool b))).drop 8).take 24),
    (((msbBits 8 0x13 ++ msbBits 24 0xA08C ++ msbBits 32 0x123 ++ msbBits 16 (crcBits (msbBits 8 0x13 ++ msbBits 24 0xA08C ++
    msbBits 32 0x123))).map (fun b => BitVec.ofNat 8 (ofBool b))).drop 32), (true), (3), (0xA08C),
    ((msbBits 32 0x123 ++ msbBits 16 (crcBits (msbBits 8 0x13 ++ msbBits 24 0xA08C ++ msbBits 32 0x123)))), (1), (0x123),
    by decide⟩
set_option maxRecDepth 20000 in
theorem witness_HostPortFrames_hspWrite_bad : ∃ (s : State) (command : List Byte) (address : List Byte) (data : List Byte)
  (stageFree : Bool) (alive : BitVec 4) (addr : BitVec 24) (payload : List Bool), s.Running ∧ s.dev.PortsIdle ∧
  s.dev.hspRuns = true ∧ s.dev.hspFrame (command ++ address ++ data) = .write alive addr payload ∧
  writeCut alive addr payload = false ∧ (s.dev.aliveOk alive && (writeData alive addr payload).2 && !((writeData alive addr
  payload).1.isNone || decide (256 < (writeData alive addr payload).1.getD 0) || addr.toNat % 4 != 0) && stageFree) = false :=
  ⟨(on (fun d => (d.put F.SYS_BOOT_STAT_STEP 0 9))), (((msbBits 8 0x13 ++ msbBits 24 0xA08C ++
    List.replicate 48 true).map (fun b => BitVec.ofNat 8 (ofBool b))).take 8),
    ((((msbBits 8 0x13 ++ msbBits 24 0xA08C ++ List.replicate 48 true).map (fun b => BitVec.ofNat 8 (ofBool b))).drop 8).take
    24), (((msbBits 8 0x13 ++ msbBits 24 0xA08C ++ List.replicate 48 true).map (fun b => BitVec.ofNat 8 (ofBool b))).drop 32),
    (true), (3), (0xA08C), (List.replicate 48 true), by decide⟩
theorem witness_HostPortFrames_hspRead_good : ∃ (s : State) (command : List Byte) (address : List Byte) (code : Nat) (alive :
  BitVec 4) (addr : BitVec 24), s.Running ∧ s.dev.PortsIdle ∧ s.dev.hspRuns = true ∧
  s.dev.hspFrame (command ++ address) = .read code alive addr ∧ code = 0 ∧ addr = 0xA08C ∧ s.dev.aliveOk alive = true :=
  ⟨(on (fun d => (d.put F.SYS_BOOT_STAT_STEP 0 9))), (((msbBits 8 0x83 ++
    msbBits 24 0xA08C).map (fun b => BitVec.ofNat 8 (ofBool b))).take 8),
    (((msbBits 8 0x83 ++ msbBits 24 0xA08C).map (fun b => BitVec.ofNat 8 (ofBool b))).drop 8), (0), (3), (0xA08C), by decide⟩
theorem witness_HostPortFrames_hspRead_words : ∃ (s : State) (command : List Byte) (address : List Byte) (code : Nat) (alive :
  BitVec 4) (addr : BitVec 24), s.Running ∧ s.dev.PortsIdle ∧ s.dev.hspRuns = true ∧
  s.dev.hspFrame (command ++ address) = .read code alive addr ∧ s.dev.aliveOk alive = true ∧ addr.toNat % 4 = 0 ∧
  addr.toNat % 0x1000 + 4 * 2 ^ code ≤ 0x1000 ∧ [1, 3, 0xB, 0x38].contains (addr.toNat / 0x1000) = false :=
  ⟨(on (fun d => (d.put F.SYS_BOOT_STAT_STEP 0 9))), (((msbBits 8 0x93 ++
    msbBits 24 0xA08C).map (fun b => BitVec.ofNat 8 (ofBool b))).take 8),
    (((msbBits 8 0x93 ++ msbBits 24 0xA08C).map (fun b => BitVec.ofNat 8 (ofBool b))).drop 8), (1), (3), (0xA08C), by decide⟩
theorem witness_HostPortFrames_hspRead_begins : ∃ (s : State) (command : List Byte) (address : List Byte) (code : Nat) (alive :
  BitVec 4) (addr : BitVec 24), s.Running ∧ s.dev.PortsIdle ∧ s.dev.hspRuns = true ∧
  s.dev.hspFrame (command ++ address) = .read code alive addr ∧ s.dev.aliveOk alive = true ∧ addr.toNat % 4 = 0 ∧
  addr.toNat % 0x1000 + 4 * 2 ^ code ≤ 0x1000 ∧ addr.toNat % 0x1000 ≠ 0x20 :=
  ⟨(on (fun d => (d.put F.SYS_BOOT_STAT_STEP 0 9))), (((msbBits 8 0x83 ++
    msbBits 24 0xA08C).map (fun b => BitVec.ofNat 8 (ofBool b))).take 8),
    (((msbBits 8 0x83 ++ msbBits 24 0xA08C).map (fun b => BitVec.ofNat 8 (ofBool b))).drop 8), (0), (3), (0xA08C), by decide⟩
theorem witness_HostPortFrames_hspRead_abandoned : ∃ (s : State) (command : List Byte) (address : List Byte) (code : Nat)
  (alive : BitVec 4) (addr : BitVec 24), s.Running ∧ s.dev.PortsIdle ∧ s.dev.hspRuns = true ∧
  s.dev.hspFrame (command ++ address) = .read code alive addr ∧ s.dev.aliveOk alive = true ∧ addr.toNat % 4 = 0 ∧
  addr.toNat % 0x1000 + 4 * 2 ^ code ≤ 0x1000 :=
  ⟨(on (fun d => (d.put F.SYS_BOOT_STAT_STEP 0 9))), (((msbBits 8 0x83 ++
    msbBits 24 0xA08C).map (fun b => BitVec.ofNat 8 (ofBool b))).take 8),
    (((msbBits 8 0x83 ++ msbBits 24 0xA08C).map (fun b => BitVec.ofNat 8 (ofBool b))).drop 8), (0), (3), (0xA08C), by decide⟩
theorem witness_HostPortFrames_hspRead_bad : ∃ (s : State) (command : List Byte) (address : List Byte) (code : Nat) (alive :
  BitVec 4) (addr : BitVec 24), s.Running ∧ s.dev.PortsIdle ∧ s.dev.hspRuns = true ∧
  s.dev.hspFrame (command ++ address) = .read code alive addr ∧ (s.dev.aliveOk alive && addr.toNat % 4 == 0) = false :=
  ⟨(on (fun d => (d.put F.SYS_BOOT_STAT_STEP 0 9))), (((msbBits 8 0x83 ++
    msbBits 24 0xA08E).map (fun b => BitVec.ofNat 8 (ofBool b))).take 8),
    (((msbBits 8 0x83 ++ msbBits 24 0xA08E).map (fun b => BitVec.ofNat 8 (ofBool b))).drop 8), (0), (3), (0xA08E), by decide⟩
theorem witness_HostPortFrames_hspStatus : ∃ (s : State) (command : List Byte) (alive : BitVec 4), s.Running ∧
  s.dev.PortsIdle ∧ s.dev.hspRuns = true ∧ s.dev.hspFrame command = .status alive ∧ s.dev.aliveOk alive = true :=
  ⟨(on (fun d => (d.put F.SYS_BOOT_STAT_STEP 0 9))), (((msbBits 8 0x23).map (fun b => BitVec.ofNat 8 (ofBool b)))), (3),
    by decide⟩
theorem witness_HostPortFrames_hspStatus_bad : ∃ (s : State) (command : List Byte) (alive : BitVec 4), s.Running ∧
  s.dev.PortsIdle ∧ s.dev.hspRuns = true ∧ s.dev.hspFrame command = .status alive ∧ s.dev.aliveOk alive = false :=
  ⟨(on (fun d => { (d.put F.SYS_BOOT_STAT_STEP 0 9) with hsp := { expect := some 9 } })),
    (((msbBits 8 0x23).map (fun b => BitVec.ofNat 8 (ofBool b)))), (3), by decide⟩
theorem witness_HostPortFrames_hspStatus_applying : ∃ (s : State) (command : List Byte) (alive : BitVec 4) (a : Nat) (v : Nat)
  (u : Bool) (m : Bool) (l : List BusAccess), s.Running ∧ s.dev.hspRuns = true ∧ s.dev.hspFrame command = .status alive ∧
  s.dev.aliveOk alive = true ∧ s.dev.heldOf 0 = BusAccess.write (some a) v u m :: l ∧
  (l.all (fun x => match x with | .frameRead _ _ _ => false | _ => true) = true) ∧
  s.dev.waits .host (.write (some a) v u m) = true :=
  ⟨(on (fun d => { ((d.put F.SYS_BOOT_STAT_STEP 0 9).put F.CLK_JUDGE_STAT_STOPPED 3 1) with bus := { held := [(0, [.write (some 0x1080) 5 false true])] } })),
    (((msbBits 8 0x23).map (fun b => BitVec.ofNat 8 (ofBool b)))), (3), (0x1080), (5), (false), (true), ([]), by decide⟩
set_option maxRecDepth 20000 in
theorem witness_HostPortFrames_hspCut_address : ∃ (s : State) (cycles : List Byte) (alive : BitVec 4), s.Running ∧
  s.dev.PortsIdle ∧ s.dev.hspRuns = true ∧ s.dev.hspFrame cycles = .cut (some alive) :=
  ⟨(on (fun d => (d.put F.SYS_BOOT_STAT_STEP 0 9))), (((msbBits 8 0x13 ++
    msbBits 10 0).map (fun b => BitVec.ofNat 8 (ofBool b)))), (3), by decide⟩
set_option maxRecDepth 20000 in
theorem witness_HostPortFrames_hspCut_data : ∃ (s : State) (cycles : List Byte) (alive : BitVec 4) (addr : BitVec 24) (payload
  : List Bool), s.Running ∧ s.dev.PortsIdle ∧ s.dev.hspRuns = true ∧ s.dev.hspFrame cycles = .write alive addr payload ∧
  writeCut alive addr payload = true :=
  ⟨(on (fun d => (d.put F.SYS_BOOT_STAT_STEP 0 9))), (((msbBits 8 0x13 ++ msbBits 24 0xA08C ++
    msbBits 20 0).map (fun b => BitVec.ofNat 8 (ofBool b)))), (3), (0xA08C), (msbBits 20 0), by decide⟩
set_option maxRecDepth 20000 in
theorem witness_HostPortFrames_hspCut_command : ∃ (s : State) (cycles : List Byte), s.Running ∧ s.dev.PortsIdle ∧
  s.dev.hspRuns = true ∧ s.dev.hspFrame cycles = .cut none :=
  ⟨(on (fun d => (d.put F.SYS_BOOT_STAT_STEP 0 9))), (((msbBits 5 0).map (fun b => BitVec.ofNat 8 (ofBool b)))), by decide⟩
theorem witness_HostPortFrames_hspReservedOpcode : ∃ (s : State) (command : List Byte) (rest : List Byte) (op : BitVec 4)
  (alive : BitVec 4), s.Running ∧ s.dev.PortsIdle ∧ s.dev.hspRuns = true ∧
  s.dev.hspFrame (command ++ rest) = .reserved op alive :=
  ⟨(on (fun d => (d.put F.SYS_BOOT_STAT_STEP 0 9))), (((msbBits 8 0x53).map (fun b => BitVec.ofNat 8 (ofBool b))).take 8),
    (((msbBits 8 0x53).map (fun b => BitVec.ofNat 8 (ofBool b))).drop 8), (5), (3), by decide⟩
set_option maxRecDepth 20000 in
theorem witness_HostPortFrames_resetFormat : ∃ (s : State) (cycles : List Byte), s.Running ∧ s.dev.PortsIdle ∧
  s.dev.hspRuns = true ∧ s.dev.hspFrame cycles = .resetFormat :=
  ⟨(on (fun d => ((d.put F.SYS_BOOT_STAT_STEP 0 9).put F.HSP_CFG_DUMMY 0 4))), (List.replicate 40 0xFF), by decide⟩
theorem witness_RegisterAccess_registerWrite_register : ∃ (s : State) (port : Port) (addr : BitVec 24) (v : Word), s.Running ∧
  s.dev.PortsIdle ∧ s.dev.openPair port = none ∧ s.dev.pageTakes (addr.toNat / 0x1000) = true ∧
  s.dev.addrWaits addr.toNat = false ∧ isGuarded addr.toNat = false ∧ isGuard addr.toNat = false ∧
  addr.toNat % 0x1000 < 0x800 ∧ addr.toNat % 0x1000 ≠ 0x1C ∧ addr.toNat % 0x1000 ≠ 0x20 ∧
  (s.dev.regAt addr.toNat).isSome = true ∧ s.dev.noWharf (s.dev.regFor addr.toNat).1 (s.dev.regFor addr.toNat).2 = false ∧
  s.dev.farStopped (s.dev.regFor addr.toNat).1 (s.dev.regFor addr.toNat).2 = false ∧
  s.dev.wrSystem port (s.dev.regFor addr.toNat).1.base v.toNat = none ∧
  s.dev.wrUnit (s.dev.regFor addr.toNat).1.base (s.dev.regFor addr.toNat).2 v.toNat = none ∧
  (((s.dev.regFor addr.toNat).1.fields.map (fun (g : Fld) => g.key (s.dev.regFor addr.toNat).2)).Nodup) :=
  ⟨(base), (.host), (0xA08C), (0xFFFFF321), by decide⟩
theorem witness_RegisterAccess_registerWrite_plain : ∃ (s : State) (port : Port) (addr : BitVec 24), s.Running ∧
  s.dev.PortsIdle ∧ s.dev.openPair port = none ∧ addr = 0xA08C :=
  ⟨(base), (.host), (0xA08C), by decide⟩
theorem witness_RegisterAccess_registerWrite_readOnly : ∃ (s : State) (port : Port) (addr : BitVec 24), s.Running ∧
  s.dev.PortsIdle ∧ s.dev.openPair port = none ∧ addr = 0xA0C0 :=
  ⟨(base), (.host), (0xA0C0), by decide⟩
theorem witness_RegisterAccess_registerWrite_stopped : ∃ (s : State) (port : Port) (addr : BitVec 24), s.Running ∧
  s.dev.PortsIdle ∧ s.dev.openPair port = none ∧ s.dev.pageTakes (addr.toNat / 0x1000) = true ∧
  s.dev.addrWaits addr.toNat = false ∧ isGuarded addr.toNat = false ∧ isGuard addr.toNat = false ∧
  addr.toNat % 0x1000 < 0x800 ∧ addr.toNat % 0x1000 ≠ 0x1C ∧ addr.toNat % 0x1000 ≠ 0x20 ∧
  (s.dev.regAt addr.toNat).isSome = true ∧ s.dev.noWharf (s.dev.regFor addr.toNat).1 (s.dev.regFor addr.toNat).2 = false ∧
  s.dev.farStopped (s.dev.regFor addr.toNat).1 (s.dev.regFor addr.toNat).2 = true :=
  ⟨(on (fun d => ((d.put F.CLK_BLK_STAT_STATE 66 2).put F.LOOP_STAT_STATE 2 1))), (.host), (0x120E4), by decide⟩
theorem witness_RegisterAccess_registerWrite_closed : ∃ (s : State) (port : Port) (addr : BitVec 24), s.Running ∧
  s.dev.PortsIdle ∧ s.dev.openPair port = none ∧ s.dev.pageTakes (addr.toNat / 0x1000) = false :=
  ⟨(base), (.keeper), (0x12080), by decide⟩
theorem witness_RegisterAccess_registerWrite_undefined : ∃ (s : State) (port : Port) (addr : BitVec 24), s.Running ∧
  s.dev.PortsIdle ∧ s.dev.openPair port = none ∧ isGuarded addr.toNat = false ∧ isGuard addr.toNat = false ∧
  addr.toNat % 0x1000 < 0x800 ∧ addr.toNat % 0x1000 ≠ 0x1C ∧ addr.toNat % 0x1000 ≠ 0x20 ∧ s.dev.regAt addr.toNat = none :=
  ⟨(base), (.keeper), (0x30700), by decide⟩
theorem witness_RegisterAccess_registerWrite_waits : ∃ (s : State) (port : Port) (addr : BitVec 24) (v : Word), s.Running ∧
  s.dev.PortsIdle ∧ s.dev.waits port (.write (some addr.toNat) v.toNat false true) = true :=
  ⟨(on (fun d => (d.put F.CLK_JUDGE_STAT_STOPPED 3 1))), (.host), (0x1080), (5), by decide⟩
theorem witness_RegisterAccess_rcRead_waits : ∃ (s : State) (port : Port) (addr : BitVec 24) (unstable : Bool), s.Running ∧
  s.dev.PortsIdle ∧ s.dev.waits port (.read addr.toNat unstable) = true :=
  ⟨(on (fun d => (d.put F.CLK_JUDGE_STAT_STOPPED 3 1))), (.host), (0x1080), (false), by decide⟩
theorem witness_RegisterAccess_registerWrite_behind : ∃ (s : State) (port : Port) (x : BusAccess) (l : List BusAccess),
  s.Running ∧ s.dev.hsp.reading = none ∧ s.dev.heldOf (portNo port) = x :: l ∧ s.dev.waits port x = true ∧
  (port = .host → ((x :: l).all (fun y => match y with | .frameRead _ _ _ => false | _ => true)) = true) ∧
  (port = .keeper → s.dev.heldOf 0 = []) :=
  ⟨(on (fun d => { (d.put F.CLK_JUDGE_STAT_STOPPED 3 1) with bus := { held := [(0, [.write (some 0x1080) 5 false true])] } })),
    (.host), (.write (some 0x1080) 5 false true), ([]), by decide⟩
theorem witness_RegisterAccess_rcRead_unstable : ∃ (s : State) (addr : BitVec 24), s.Running ∧ s.dev.PortsIdle ∧
  s.dev.pageTakes (addr.toNat / 0x1000) = true ∧ s.dev.addrWaits addr.toNat = false ∧ addr.toNat % 0x1000 < 0x800 ∧
  addr.toNat % 0x1000 ≠ 0x1C ∧ addr.toNat % 0x1000 ≠ 0x20 ∧ (s.dev.regAt addr.toNat).isSome = true ∧
  s.dev.noWharf (s.dev.regFor addr.toNat).1 (s.dev.regFor addr.toNat).2 = false ∧
  s.dev.farStopped (s.dev.regFor addr.toNat).1 (s.dev.regFor addr.toNat).2 = false ∧
  (s.dev.regFor addr.toNat).1.base ≠ 0x330FC ∧ (s.dev.regFor addr.toNat).1.sampled = true :=
  ⟨(on (fun d => d.onTow (fun t => { t with running := true }))), (0x380D0), by decide⟩
theorem witness_RegisterAccess_rcRead_register : ∃ (s : State) (addr : BitVec 24), s.Running ∧ s.dev.PortsIdle ∧
  s.dev.pageTakes (addr.toNat / 0x1000) = true ∧ s.dev.addrWaits addr.toNat = false ∧ addr.toNat % 0x1000 < 0x800 ∧
  addr.toNat % 0x1000 ≠ 0x1C ∧ addr.toNat % 0x1000 ≠ 0x20 ∧ (s.dev.regAt addr.toNat).isSome = true ∧
  s.dev.noWharf (s.dev.regFor addr.toNat).1 (s.dev.regFor addr.toNat).2 = false ∧
  s.dev.farStopped (s.dev.regFor addr.toNat).1 (s.dev.regFor addr.toNat).2 = false ∧
  (s.dev.regFor addr.toNat).1.base ≠ 0x50C8 ∧ (s.dev.regFor addr.toNat).1.base ≠ 0x330FC :=
  ⟨(on (fun d => (d.put F.FLT_EVT_LOG_HIGH 0 1))), (0xA0C4), by decide⟩
theorem witness_RegisterAccess_rcRead : ∃ (s : State) (addr : BitVec 24), s.Running ∧ s.dev.PortsIdle ∧ addr = 0xA0C4 :=
  ⟨(on (fun d => (d.put F.FLT_EVT_LOG_HIGH 0 1))), (0xA0C4), by decide⟩
theorem witness_RegisterAccess_rcRead_closed : ∃ (s : State) (addr : BitVec 24), s.Running ∧ s.dev.PortsIdle ∧
  s.dev.pageTakes (addr.toNat / 0x1000) = false :=
  ⟨(on (fun d => { d with bus := { lastRead := 7 } })), (0x120C4), by decide⟩
theorem witness_RegisterAccess_rcRead_stopped : ∃ (s : State) (addr : BitVec 24), s.Running ∧ s.dev.PortsIdle ∧
  s.dev.pageTakes (addr.toNat / 0x1000) = true ∧ s.dev.addrWaits addr.toNat = false ∧ addr.toNat % 0x1000 < 0x800 ∧
  addr.toNat % 0x1000 ≠ 0x1C ∧ addr.toNat % 0x1000 ≠ 0x20 ∧ (s.dev.regAt addr.toNat).isSome = true ∧
  s.dev.noWharf (s.dev.regFor addr.toNat).1 (s.dev.regFor addr.toNat).2 = false ∧
  s.dev.farStopped (s.dev.regFor addr.toNat).1 (s.dev.regFor addr.toNat).2 = true :=
  ⟨(on (fun d => ((d.put F.CLK_BLK_STAT_STATE 66 2).put F.LOOP_STAT_STATE 2 1))), (0x120E4), by decide⟩
theorem witness_RegisterAccess_aliasWrite_selfClearing : ∃ (s : State) (port : Port) (addr : BitVec 24) (v : Word), s.Running ∧
  s.dev.PortsIdle ∧ s.dev.openPair port = none ∧ s.dev.addrWaits (aliasTarget addr.toNat) = false ∧
  s.dev.pageTakes (addr.toNat / 0x1000) = true ∧ 0x800 ≤ addr.toNat % 0x1000 ∧ isGuarded addr.toNat = false ∧
  isGuard addr.toNat = false ∧ (s.dev.regAt (aliasTarget addr.toNat)).isSome = true ∧ s.dev.aliasAcc addr.toNat = some .wsc ∧
  bit v.toNat 0 = true :=
  ⟨(on (fun d => (d.put F.COUT_ALIGN_POUND_LO_POUND 4 9))), (.host), (0x20810), (1), by decide⟩
theorem witness_RegisterAccess_aliasWrite_zero : ∃ (s : State) (port : Port) (addr : BitVec 24) (v : Word), s.Running ∧
  s.dev.PortsIdle ∧ s.dev.openPair port = none ∧ s.dev.addrWaits (aliasTarget addr.toNat) = false ∧
  s.dev.pageTakes (addr.toNat / 0x1000) = true ∧ 0x800 ≤ addr.toNat % 0x1000 ∧ isGuarded addr.toNat = false ∧
  isGuard addr.toNat = false ∧ (s.dev.regAt (aliasTarget addr.toNat)).isSome = true ∧ s.dev.aliasAcc addr.toNat = some .wsc ∧
  bit v.toNat 0 = false :=
  ⟨(base), (.host), (0x20810), (2), by decide⟩
theorem witness_RegisterAccess_aliasWrite_bit : ∃ (s : State) (port : Port) (addr : BitVec 24) (a : Acc), s.Running ∧
  s.dev.PortsIdle ∧ s.dev.openPair port = none ∧ s.dev.addrWaits (aliasTarget addr.toNat) = false ∧
  s.dev.pageTakes (addr.toNat / 0x1000) = true ∧ 0x800 ≤ addr.toNat % 0x1000 ∧ isGuarded addr.toNat = false ∧
  isGuard addr.toNat = false ∧ (s.dev.regAt (aliasTarget addr.toNat)).isSome = true ∧ s.dev.aliasAcc addr.toNat = some a ∧
  a ≠ .wsc :=
  ⟨(base), (.host), (0x2908), (.rw), by decide⟩
theorem witness_RegisterAccess_aliasWrite_arms : ∃ (s : State) (port : Port) (addr : BitVec 24) (v : Word) (n : Fin 32),
  s.Running ∧ s.dev.PortsIdle ∧ s.dev.openPair port = none ∧ addr.toNat = 0x20800 + 4 * n.val ∧ bit v.toNat 0 = true ∧
  s.dev.tow.pound.toNat + 2 ≤ (s.dev.strobeProgram n.val).pound.toNat :=
  ⟨(on (fun d => (d.put F.COUT_ALIGN_POUND_LO_POUND 4 9))), (.host), (0x20810), (1), (4), by decide⟩
theorem witness_RegisterAccess_aliasWrite_elsewhere : ∃ (s : State) (addr : BitVec 24), s.Running ∧
  addr.toNat % 0x1000 < 0x800 :=
  ⟨(base), (0x20410), by decide⟩
theorem witness_RegisterAccess_indirectAddrWrite : ∃ (s : State) (port : Port) (page : BitVec 12), s.Running ∧
  s.dev.PortsIdle ∧ s.dev.openPair port = none ∧ s.dev.pageTakes page.toNat = true ∧ indSpace page.toNat = true :=
  ⟨(base), (.host), (0x38), by decide⟩
theorem witness_RegisterAccess_indirectDataWrite_map : ∃ (s : State) (port : Port) (page : BitVec 12) (ch : Nat), s.Running ∧
  s.dev.PortsIdle ∧ s.dev.openPair port = none ∧ page = 0x30 ∧ s.dev.pageTakes 0x30 = true ∧ s.dev.indStopped 0x30 = false ∧
  s.dev.indAddr 0x30 = 0x400000 + 4 * ch ∧ ch < 4096 ∧ Store.get? s.dev.bus.staged 0x30 = none ∧
  s.dev.is F.PAGE_CTRL_IND_AINC 0x30 = true :=
  ⟨(on (fun d => (d.put F.INDIRECT_ADDR_ADDR 0x30 (0x100000 + 9)))), (.host), (0x30), (9), by decide⟩
theorem witness_RegisterAccess_indirectDataWrite_stages : ∃ (s : State) (port : Port) (page : BitVec 12) (k : Nat) (j : Nat),
  s.Running ∧ s.dev.PortsIdle ∧ s.dev.openPair port = none ∧ page = 0x32 ∧ s.dev.pageClosed 0x32 = false ∧
  s.dev.indStopped 0x32 = false ∧ s.dev.indAddr 0x32 = 16 * k + 4 * j ∧ k < 65536 ∧ j < 3 ∧
  Store.get? s.dev.bus.staged 0x32 = none ∧ s.dev.is F.PAGE_CTRL_IND_AINC 0x32 = true :=
  ⟨(on (fun d => ((d.put F.INDIRECT_ADDR_ADDR 0x32 36).put F.CLK_BLK_STAT_STATE 115 2))), (.host), (0x32), (9), (0), by decide⟩
theorem witness_RegisterAccess_indirectDataWrite_undefined : ∃ (s : State) (port : Port) (page : BitVec 12), s.Running ∧
  s.dev.PortsIdle ∧ s.dev.openPair port = none ∧ s.dev.pageTakes page.toNat = true ∧ indSpace page.toNat = true ∧
  s.dev.indStopped page.toNat = false ∧ indPlace page.toNat (s.dev.indAddr page.toNat) = none :=
  ⟨(on (fun d => { (d.put F.INDIRECT_ADDR_ADDR 0x38 0x200) with tow := { running := true } })), (.host), (0x38), by decide⟩
theorem witness_RegisterAccess_indirectDataRead : ∃ (s : State) (page : BitVec 12) (ch : Nat), s.Running ∧ s.dev.PortsIdle ∧
  page = 0x30 ∧ s.dev.pageTakes 0x30 = true ∧ s.dev.indStopped 0x30 = false ∧ s.dev.indAddr 0x30 = 0x400000 + 4 * ch ∧
  ch < 4096 ∧ Store.get? s.dev.bus.staged 0x30 = none ∧ s.dev.is F.PAGE_CTRL_IND_AINC 0x30 = true :=
  ⟨(on (fun d => (d.put F.INDIRECT_ADDR_ADDR 0x30 (0x100000 + 9)))), (0x30), (9), by decide⟩
theorem witness_RegisterAccess_indirectDataRead_word : ∃ (s : State) (page : BitVec 12) (p : IndPlace), s.Running ∧
  s.dev.PortsIdle ∧ s.dev.pageTakes page.toNat = true ∧ indSpace page.toNat = true ∧ s.dev.indStopped page.toNat = false ∧
  indPlace page.toNat (s.dev.indAddr page.toNat) = some p ∧ p.words = 1 ∧ (page.toNat < 0x40 ∨ 0x80 ≤ page.toNat) :=
  ⟨(on (fun d => { (d.put F.INDIRECT_ADDR_ADDR 0x38 4) with tow := { running := true } })), (0x38), ({ first := 0x10 }),
    by decide⟩
theorem witness_RegisterAccess_indirectDataRead_undefined : ∃ (s : State) (page : BitVec 12), s.Running ∧ s.dev.PortsIdle ∧
  s.dev.pageTakes page.toNat = true ∧ indSpace page.toNat = true ∧ s.dev.indStopped page.toNat = false ∧
  indPlace page.toNat (s.dev.indAddr page.toNat) = none :=
  ⟨(on (fun d => { (d.put F.INDIRECT_ADDR_ADDR 0x38 0x200) with tow := { running := true } })), (0x38), by decide⟩
theorem witness_RegisterAccess_berthIndirectRead : ∃ (s : State) (id : Nat) (x : Entry), s.Running ∧ s.dev.PortsIdle ∧
  s.dev.pageTakes 0x30 = true ∧ s.dev.indStopped 0x30 = false ∧ s.dev.indAddr 0x30 = 32 * id ∧ id < 131072 ∧
  s.dev.cell id = { entry := x } ∧ Store.get? s.dev.bus.staged 0x30 = none ∧ s.dev.is F.PAGE_CTRL_IND_AINC 0x30 = true :=
  ⟨(on (fun d => (d.put F.INDIRECT_ADDR_ADDR 0x30 40).setCell 5 { entry := { Entry.fresh 5 0 with gen := 77 } })), (5),
    ({ Entry.fresh 5 0 with gen := 77 }), by decide⟩
theorem witness_RegisterAccess_berthIndirectWrite_stages : ∃ (s : State) (port : Port) (id : Nat) (j : Nat), s.Running ∧
  s.dev.PortsIdle ∧ s.dev.openPair port = none ∧ s.dev.pageTakes 0x30 = true ∧ s.dev.indStopped 0x30 = false ∧
  s.dev.indAddr 0x30 = 32 * id + 4 * j ∧ j < 7 ∧ id < 131072 ∧ s.dev.ledger.waiting = none ∧
  Store.get? s.dev.bus.staged 0x30 = none ∧ s.dev.is F.PAGE_CTRL_IND_AINC 0x30 = true :=
  ⟨(on (fun d => (d.put F.INDIRECT_ADDR_ADDR 0x30 40))), (.host), (5), (0), by decide⟩
theorem witness_RegisterAccess_berthIndirectWrite_waits : ∃ (s : State) (port : Port) (id : Nat), s.Running ∧ s.dev.PortsIdle ∧
  s.dev.openPair port = none ∧ s.dev.pageTakes 0x30 = true ∧ s.dev.indStopped 0x30 = false ∧
  s.dev.indAddr 0x30 = 32 * id + 28 ∧ id < 131072 ∧ s.dev.ledger.waiting = none ∧ Store.get? s.dev.bus.staged 0x30 = none ∧
  s.dev.is F.PAGE_CTRL_IND_AINC 0x30 = true ∧ (s.dev.cell id).boundNow = false ∧ (s.dev.cell id).uncorr = 0 :=
  ⟨(on (fun d => (d.put F.INDIRECT_ADDR_ADDR 0x30 47).setCell 5 { entry := Entry.fresh 5 0 })), (.host), (5), by decide⟩
theorem witness_RegisterAccess_berthIndirectWrite_bound : ∃ (s : State) (port : Port) (id : Nat), s.Running ∧ s.dev.PortsIdle ∧
  s.dev.openPair port = none ∧ s.dev.pageTakes 0x30 = true ∧ s.dev.indStopped 0x30 = false ∧
  s.dev.indAddr 0x30 = 32 * id + 28 ∧ id < 131072 ∧ s.dev.ledger.waiting = none ∧ (s.dev.cell id).boundNow = true :=
  ⟨(on (fun d => (d.put F.INDIRECT_ADDR_ADDR 0x30 47).setCell 5
    { entry := { Entry.fresh 5 0 with state := 1, binding := 0x40 } })), (.host), (5), by decide⟩
theorem witness_RegisterAccess_berthIndirectWrite_busy : ∃ (s : State) (port : Port), s.Running ∧ s.dev.PortsIdle ∧
  s.dev.openPair port = none ∧ s.dev.pageTakes 0x30 = true ∧ s.dev.indStopped 0x30 = false ∧ s.dev.indAddr 0x30 < 0x400000 ∧
  s.dev.ledger.waiting.isSome = true :=
  ⟨(on (fun d => { (d.put F.INDIRECT_ADDR_ADDR 0x30 47) with ledger := { waiting := some (5, []) } })), (.host), by decide⟩
theorem witness_GuardsCrossingsAndScan_guardPairWrite_first : ∃ (s : State) (port : Port) (addr : BitVec 24), s.Running ∧
  s.dev.PortsIdle ∧ s.dev.openPair port = none ∧ (s.dev.writeTarget port addr.toNat).any s.dev.addrWaits = false ∧
  s.dev.pageTakes (addr.toNat / 0x1000) = true ∧ (isGuarded addr.toNat = true ∨ isGuard addr.toNat = true) ∧
  (isGuarded addr.toNat = true → s.dev.unlocked port = false) :=
  ⟨(base), (.host), (0x6080), by decide⟩
theorem witness_GuardsCrossingsAndScan_guardPairWrite_unlocked : ∃ (s : State) (port : Port) (addr : BitVec 24), s.Running ∧
  s.dev.PortsIdle ∧ s.dev.openPair port = none ∧ (s.dev.writeTarget port addr.toNat).any s.dev.addrWaits = false ∧
  s.dev.pageTakes (addr.toNat / 0x1000) = true ∧ isGuarded addr.toNat = true ∧ s.dev.unlocked port = true :=
  ⟨(on (fun d => (d.put F.CFG_STAT_UNLOCKED_HSP 0 1))), (.host), (0x6080), by decide⟩
theorem witness_GuardsCrossingsAndScan_guardPairWrite_pair : ∃ (s : State) (port : Port) (addr : BitVec 24) (v : Word) (a :
  Nat) (w : Nat), s.Running ∧ s.dev.PortsIdle ∧ s.dev.openPair port = some (a, w) ∧
  (s.dev.writeTarget port addr.toNat).any s.dev.addrWaits = false ∧ addr.toNat = pairPartner a ∧ v.toNat + w = 0xFFFFFFFF :=
  ⟨(on (fun d => { d with bus := { pair := [(0, 0x6080, 3)] } })), (.host), (0x6480), (0xFFFFFFFC), (0x6080), (3), by decide⟩
theorem witness_GuardsCrossingsAndScan_guardPairWrite_second : ∃ (s : State) (port : Port) (addr : BitVec 24) (v : Word) (w :
  Nat), s.Running ∧ s.dev.PortsIdle ∧ s.dev.openPair port = some (0x6080, w) ∧ addr = 0x6480 ∧ v.toNat + w = 0xFFFFFFFF ∧
  s.dev.is F.CFG_STAT_SCANNING = false :=
  ⟨(on (fun d => { d with bus := { pair := [(0, 0x6080, 3)] } })), (.host), (0x6480), (0xFFFFFFFC), (3), by decide⟩
theorem witness_GuardsCrossingsAndScan_guardPairWrite_fails : ∃ (s : State) (port : Port) (addr : BitVec 24) (v : Word) (a :
  Nat) (w : Nat), s.Running ∧ s.dev.PortsIdle ∧ s.dev.openPair port = some (a, w) ∧
  (s.dev.writeTarget port addr.toNat).any s.dev.addrWaits = false ∧ (addr.toNat ≠ pairPartner a ∨ v.toNat + w ≠ 0xFFFFFFFF) ∧
  (isGuarded addr.toNat = true ∨ isGuard addr.toNat = true) :=
  ⟨(on (fun d => { d with bus := { pair := [(0, 0x6080, 3)] } })), (.host), (0x6480), (0xFFFFFFFD), (0x6080), (3), by decide⟩
theorem witness_GuardsCrossingsAndScan_guardTimeout : ∃ (s : State) (port : Port) (a : Nat) (w : Nat), s.Running ∧
  s.dev.openPair port = some (a, w) :=
  ⟨(on (fun d => { d with bus := { pair := [(0, 0x6080, 3)] } })), (.host), (0x6080), (3), by decide⟩
set_option maxRecDepth 20000 in
theorem witness_GuardsCrossingsAndScan_cfgUnlock_key : ∃ (s : State) (port : Port) (v : Word), s.Running ∧ s.dev.PortsIdle ∧
  s.dev.openPair port = none ∧ v = 0x3C69D2E1 ∧ (port = .keeper ∨ s.dev.mode ≠ 0) :=
  ⟨(base), (.host), (0x3C69D2E1), by decide⟩
set_option maxRecDepth 20000 in
theorem witness_GuardsCrossingsAndScan_cfgUnlock_service : ∃ (s : State) (v : Word), s.Running ∧ s.dev.PortsIdle ∧
  s.dev.openPair .host = none ∧ v = 0x3C69D2E1 ∧ s.dev.mode = 0 :=
  ⟨(on (fun d => (d.put F.SYS_BOOT_STAT_READY 0 1))), (0x3C69D2E1), by decide⟩
set_option maxRecDepth 20000 in
theorem witness_GuardsCrossingsAndScan_cfgUnlock_other : ∃ (s : State) (port : Port) (v : Word), s.Running ∧ s.dev.PortsIdle ∧
  s.dev.openPair port = none ∧ v ≠ 0x3C69D2E1 :=
  ⟨(on (fun d => (d.put F.CFG_STAT_UNLOCKED_HSP 0 1))), (.host), (1), by decide⟩
set_option maxRecDepth 20000 in
theorem witness_GuardsCrossingsAndScan_unlockExpiry : ∃ (s : State), s.Running :=
  ⟨(on (fun d => (d.put F.CFG_STAT_UNLOCKED_KPR 0 1))), by decide⟩
theorem witness_GuardsCrossingsAndScan_xingTimeout_register : ∃ (s : State) (addr : BitVec 24), s.Running ∧
  (s.dev.regAt addr.toNat).isSome = true ∧ addr.toNat % 0x1000 ≠ 0x20 ∧ s.dev.pageTakes (addr.toNat / 0x1000) = true ∧
  s.dev.noWharf (s.dev.regFor addr.toNat).1 (s.dev.regFor addr.toNat).2 = false ∧ (s.dev.regFor addr.toNat).1.dom ≠ .aon ∧
  (s.dev.regFor addr.toNat).1.base ≠ 0x380C8 ∧ s.dev.farStopped (s.dev.regFor addr.toNat).1 (s.dev.regFor addr.toNat).2 =
  true :=
  ⟨(on (fun d => ((d.put F.CLK_BLK_STAT_STATE 66 2).put F.LOOP_STAT_STATE 2 1))), (0x120E4), by decide⟩
theorem witness_GuardsCrossingsAndScan_xingTimeout_indirect : ∃ (s : State) (addr : BitVec 24) (page : Nat), s.Running ∧
  addr.toNat / 0x1000 = page ∧ addr.toNat % 0x1000 = 0x20 ∧ (s.dev.regAt addr.toNat).isSome = true ∧
  s.dev.pageTakes page = true ∧ s.dev.indStopped page = true :=
  ⟨(on (fun d => (d.put F.CLK_DOM_STAT_CUR_SRC 151 1))), (0x38020), (0x38), by decide⟩
theorem witness_GuardsCrossingsAndScan_xingTimeout : ∃ (s : State) (addr : BitVec 24) (c : Fin 16), s.Running ∧
  addr.toNat = 0x100C0 + 0x1000 * c.val ∧ s.dev.pageClosed (0x10 + c.val) = false ∧ s.dev.coreState c.val = 1 :=
  ⟨(on (fun d => ((d.put F.CLK_BLK_STAT_STATE 66 2).put F.LOOP_STAT_STATE 2 1))), (0x120C0), (2), by decide⟩
theorem witness_GuardsCrossingsAndScan_cfgScan : ∃ (s : State), s.Running ∧ s.dev.is F.CFG_CTRL_SCAN_EN = true ∧
  s.dev.is F.CFG_STAT_SCANNING = false ∧ s.dev.scanTime = true :=
  ⟨(base), by decide⟩
theorem witness_GuardsCrossingsAndScan_cfgScanDone_incomplete : ∃ (s : State) (uncorr : Bool), s.Running ∧
  s.dev.is F.CFG_STAT_SCANNING = true ∧ (s.dev.bus.incomplete || uncorr || s.dev.scanStopped) = true :=
  ⟨(on (fun d => (d.put F.CFG_STAT_SCANNING 0 1))), (true), by decide⟩
theorem witness_GuardsCrossingsAndScan_cfgScanDone_dirty : ∃ (s : State) (uncorr : Bool), s.Running ∧
  s.dev.is F.CFG_STAT_SCANNING = true ∧ (s.dev.bus.incomplete || uncorr || s.dev.scanStopped) = false ∧
  s.dev.bus.dirty = true :=
  ⟨(on (fun d => { (d.put F.CFG_STAT_SCANNING 0 1) with tow := { running := true }, bus := { dirty := true } })), (false),
    by decide⟩
theorem witness_GuardsCrossingsAndScan_cfgScanDone_commit : ∃ (s : State) (uncorr : Bool), s.Running ∧
  s.dev.is F.CFG_STAT_SCANNING = true ∧ (s.dev.bus.incomplete || uncorr || s.dev.scanStopped) = false ∧
  s.dev.bus.dirty = false ∧ s.dev.bus.commitScan = true :=
  ⟨(on (fun d => { (d.put F.CFG_STAT_SCANNING 0 1) with tow := { running := true }, bus := { commitScan := true } })), (false),
    by decide⟩
theorem witness_GuardsCrossingsAndScan_cfgScanDone_clean : ∃ (s : State) (uncorr : Bool), s.Running ∧
  s.dev.is F.CFG_STAT_SCANNING = true ∧ (s.dev.bus.incomplete || uncorr || s.dev.scanStopped) = false ∧
  s.dev.bus.dirty = false ∧ s.dev.bus.commitScan = false :=
  ⟨(on (fun d => { (d.put F.CFG_STAT_SCANNING 0 1) with tow := { running := true } })), (false), by decide⟩
theorem witness_GuardsCrossingsAndScan_commitRequest : ∃ (s : State), s.Running :=
  ⟨(base), by decide⟩
theorem witness_GuardsCrossingsAndScan_cfgCrcRefWrite : ∃ (s : State), s.Running :=
  ⟨(base), by decide⟩
theorem witness_LaneTraining_laneEnable : ∃ (s : State) (n : Byte) (v : Word), s.Running ∧
  s.dev.blockClosed (n.toNat / 4) = false ∧ bit v.toNat 3 = false :=
  ⟨(on (fun d => ((d.put F.CLK_BLK_STAT_STATE 2 2).put F.LANE_STAT_STATE 9 0))), (9), (6), by decide⟩
theorem witness_LaneTraining_laneEnable_retrain : ∃ (s : State) (n : Byte) (v : Word), s.Running ∧
  s.dev.blockClosed (n.toNat / 4) = false ∧ bit v.toNat 3 = true ∧ s.dev.laneState n.toNat ≠ 0 ∧
  s.dev.inService n.toNat = false ∧ s.dev.laneState n.toNat ≠ 11 :=
  ⟨(on (fun d => { ((d.put F.CLK_BLK_STAT_STATE 2 2).put F.LANE_STAT_STATE 9 4) with whf := { lane := [(9, { bad := 2 })] } })),
    (9), (14), by decide⟩
theorem witness_LaneTraining_laneRetrain : ∃ (s : State) (n : Byte) (v : Word), s.Running ∧
  s.dev.blockClosed (n.toNat / 4) = false ∧ bit v.toNat 0 = true ∧ s.dev.laneState n.toNat ≠ 0 ∧
  s.dev.inService n.toNat = false ∧ s.dev.laneState n.toNat ≠ 11 :=
  ⟨(on (fun d => ((d.put F.CLK_BLK_STAT_STATE 2 2).put F.LANE_STAT_STATE 9 4))), (9), (7), by decide⟩
theorem witness_LaneTraining_laneRetrain_disabled : ∃ (s : State) (n : Byte) (v : Word), s.Running ∧
  s.dev.blockClosed (n.toNat / 4) = false ∧ bit v.toNat 0 = false ∧ s.dev.laneState n.toNat ≠ 0 ∧
  s.dev.inService n.toNat = false :=
  ⟨(on (fun d => (((d.put F.CLK_BLK_STAT_STATE 2 2).put F.LANE_STAT_STATE 9 4).put F.LANE_CTRL_LANE_EN 9 1))), (9), (6),
    by decide⟩
theorem witness_LaneTraining_laneRetrain_inService : ∃ (s : State) (n : Byte), s.Running ∧
  s.dev.blockClosed (n.toNat / 4) = false ∧ (s.dev.inService n.toNat && s.dev.joined n.toNat && !(s.dev.lane n.toNat).failed) =
  true :=
  ⟨(on (fun d => (((d.put F.CLK_BLK_STAT_STATE 2 2).put F.LANE_STAT_STATE 9 7).put F.LANE_STAT_JOINED 9 1))), (9), by decide⟩
theorem witness_LaneTraining_trainingStart : ∃ (s : State) (n : Byte), s.Running ∧ s.dev.blockClosed (n.toNat / 4) = false ∧
  s.dev.laneState n.toNat = 1 ∧ s.dev.groupDue (n.toNat / 4) = true ∧ s.dev.kpr.restarting = false ∧
  s.dev.calRuns 4 n.toNat = false :=
  ⟨(on (fun d => ((d.put F.CLK_BLK_STAT_STATE 2 2).put F.LANE_STAT_STATE 9 1))), (9), by decide⟩
theorem witness_LaneTraining_trainingStart_waits : ∃ (s : State) (n : Byte), s.Running ∧
  (s.dev.groupDue (n.toNat / 4) = false ∨ s.dev.kpr.restarting = true ∨ s.dev.calRuns 4 n.toNat =
  true ∨ s.dev.laneState n.toNat ≠ 1) :=
  ⟨(on (fun d => ((d.put F.CLK_BLK_STAT_STATE 2 2).put F.LANE_STAT_STATE 9 4))), (9), by decide⟩
theorem witness_LaneTraining_acquireDone : ∃ (s : State) (n : Byte) (inverted : Bool), s.Running ∧
  s.dev.laneState n.toNat = 2 ∧ (inverted = false ∨ s.dev.is F.LANE_CTRL_RX_INV_AUTO n.toNat = true) :=
  ⟨(on (fun d => (((d.put F.CLK_BLK_STAT_STATE 2 2).put F.LANE_STAT_STATE 9 2).put F.LANE_CTRL_RX_INV_AUTO 9 1))), (9), (true),
    by decide⟩
theorem witness_LaneTraining_acquireDone_inverted : ∃ (s : State) (n : Byte), s.Running ∧
  s.dev.is F.LANE_CTRL_RX_INV_AUTO n.toNat = false :=
  ⟨(on (fun d => (((d.put F.CLK_BLK_STAT_STATE 2 2).put F.LANE_STAT_STATE 9 2).put F.LANE_CTRL_RX_INV_AUTO 9 0))), (9),
    by decide⟩
theorem witness_LaneTraining_capsEnter : ∃ (s : State) (n : Byte), s.Running ∧ s.dev.laneState n.toNat = 3 :=
  ⟨(on (fun d => ((d.put F.CLK_BLK_STAT_STATE 2 2).put F.LANE_STAT_STATE 9 3))), (9), by decide⟩
theorem witness_LaneTraining_trainingDeadline : ∃ (s : State) (n : Byte), s.Running ∧ 2 ≤ s.dev.laneState n.toNat ∧
  s.dev.laneState n.toNat ≤ 5 ∧ (s.dev.lane n.toNat).start ≠ s.dev.tow.ticks ∧
  (s.dev.atStep 6 && s.dev.enabledWharf (s.dev.wharfOf n.toNat) && !s.dev.missedFirst (s.dev.wharfOf n.toNat)) = false :=
  ⟨(on (fun d => { ((d.put F.CLK_BLK_STAT_STATE 2 2).put F.LANE_STAT_STATE 9 4) with whf := { lane := [(9, { start := 5 })] } })),
    (9), by decide⟩
theorem witness_LaneTraining_trainingDeadline_not : ∃ (s : State) (n : Byte), s.Running ∧
  (s.dev.laneState n.toNat < 2 ∨ 5 < s.dev.laneState n.toNat ∨ (s.dev.lane n.toNat).start = s.dev.tow.ticks) :=
  ⟨(on (fun d => ((d.put F.CLK_BLK_STAT_STATE 2 2).put F.LANE_STAT_STATE 9 4))), (9), by decide⟩
theorem witness_LaneTraining_trainingDeadline_startUp : ∃ (s : State) (n : Byte), s.Running ∧ 2 ≤ s.dev.laneState n.toNat ∧
  s.dev.laneState n.toNat ≤ 5 ∧ (s.dev.lane n.toNat).start ≠ s.dev.tow.ticks ∧
  (s.dev.atStep 6 && s.dev.enabledWharf (s.dev.wharfOf n.toNat) && !s.dev.missedFirst (s.dev.wharfOf n.toNat)) = true :=
  ⟨(on (fun d => { (((((d.put F.CLK_BLK_STAT_STATE 2 2).put F.LANE_STAT_STATE 9 4).put F.SYS_BOOT_STAT_STEP 0 6).put F.CLK_EN_QUAD_LO_QUAD_EN 0 4).put F.LANE_CTRL_LANE_EN 9 1) with whf := { lane := [(9, { start := 5 })] } })),
    (9), by decide⟩
theorem witness_LaneTraining_quietBackoffEnd : ∃ (s : State) (n : Byte), s.Running ∧ s.dev.laneState n.toNat = 8 :=
  ⟨(on (fun d => (((d.put F.CLK_BLK_STAT_STATE 2 2).put F.LANE_STAT_STATE 9 8).put F.LANE_CTRL_LANE_EN 9 1))), (9), by decide⟩
theorem witness_LaneTraining_lossOfSignal_training : ∃ (s : State) (n : Byte), s.Running ∧ 2 ≤ s.dev.laneState n.toNat ∧
  s.dev.laneState n.toNat ≤ 5 :=
  ⟨(on (fun d => (((d.put F.CLK_BLK_STAT_STATE 2 2).put F.LANE_STAT_STATE 9 4).put F.LANE_STAT_SIG_DET 9 1))), (9), by decide⟩
theorem witness_LaneTraining_lossOfSignal_inService : ∃ (s : State) (n : Byte), s.Running ∧
  (s.dev.inService n.toNat && s.dev.joined n.toNat && !(s.dev.lane n.toNat).failed) = true :=
  ⟨(on (fun d => (((d.put F.CLK_BLK_STAT_STATE 2 2).put F.LANE_STAT_STATE 9 7).put F.LANE_STAT_JOINED 9 1))), (9), by decide⟩
theorem witness_LaneTraining_lossOfSignal_counted : ∃ (s : State) (n : Byte), s.Running ∧ 6 ≤ s.dev.laneState n.toNat ∧
  s.dev.laneState n.toNat ≠ 11 ∧ (s.dev.inService n.toNat && s.dev.joined n.toNat && !(s.dev.lane n.toNat).failed) = false :=
  ⟨(on (fun d => (((d.put F.CLK_BLK_STAT_STATE 2 2).put F.LANE_STAT_STATE 9 8).put F.LANE_STAT_SIG_DET 9 1))), (9), by decide⟩
theorem witness_LaneTraining_lossOfSignal_back : ∃ (s : State) (n : Byte), s.Running ∧ 2 ≤ s.dev.laneState n.toNat ∧
  s.dev.laneState n.toNat ≠ 11 :=
  ⟨(on (fun d => ((d.put F.CLK_BLK_STAT_STATE 2 2).put F.LANE_STAT_STATE 9 7))), (9), by decide⟩
theorem witness_LaneTraining_lossOfSignal_unwatched : ∃ (s : State) (n : Byte), s.Running ∧
  (s.dev.laneState n.toNat ≤ 1 ∨ s.dev.laneState n.toNat = 11) :=
  ⟨(on (fun d => ((d.put F.CLK_BLK_STAT_STATE 2 2).put F.LANE_STAT_STATE 9 1))), (9), by decide⟩
theorem witness_LaneTraining_cdrLockLoss_training : ∃ (s : State) (n : Byte), s.Running ∧ 3 ≤ s.dev.laneState n.toNat ∧
  s.dev.laneState n.toNat ≤ 5 :=
  ⟨(on (fun d => (((d.put F.CLK_BLK_STAT_STATE 2 2).put F.LANE_STAT_STATE 9 4).put F.LANE_STAT_CDR_LOCK 9 1))), (9), by decide⟩
theorem witness_LaneTraining_cdrLockLoss_inService : ∃ (s : State) (n : Byte), s.Running ∧
  (s.dev.inService n.toNat && s.dev.joined n.toNat && !(s.dev.lane n.toNat).failed) = true :=
  ⟨(on (fun d => (((d.put F.CLK_BLK_STAT_STATE 2 2).put F.LANE_STAT_STATE 9 7).put F.LANE_STAT_JOINED 9 1))), (9), by decide⟩
theorem witness_LaneTraining_cdrLockLoss_elsewhere : ∃ (s : State) (n : Byte), s.Running ∧
  (s.dev.laneState n.toNat = 2 ∨ (6 ≤ s.dev.laneState n.toNat ∧ s.dev.laneState n.toNat ≠ 11 ∧
  (s.dev.inService n.toNat && s.dev.joined n.toNat && !(s.dev.lane n.toNat).failed) = false)) :=
  ⟨(on (fun d => { (((d.put F.CLK_BLK_STAT_STATE 2 2).put F.LANE_STAT_STATE 9 2).put F.LANE_STAT_CDR_LOCK 9 1) with whf := { lane := [(9, { aliveRx := some 3 })] } })),
    (9), by decide⟩
theorem witness_LaneTraining_cdrLockLoss_back : ∃ (s : State) (n : Byte), s.Running ∧ 2 ≤ s.dev.laneState n.toNat ∧
  s.dev.laneState n.toNat ≠ 11 :=
  ⟨(on (fun d => ((d.put F.CLK_BLK_STAT_STATE 2 2).put F.LANE_STAT_STATE 9 7))), (9), by decide⟩
theorem witness_LaneTraining_cdrLockLoss_unwatched : ∃ (s : State) (n : Byte), s.Running ∧
  (s.dev.laneState n.toNat ≤ 1 ∨ s.dev.laneState n.toNat = 11) :=
  ⟨(on (fun d => ((d.put F.CLK_BLK_STAT_STATE 2 2).put F.LANE_STAT_STATE 9 1))), (9), by decide⟩
theorem witness_LaneService_laneJoin_towpath : ∃ (s : State) (n : Byte), s.Running ∧ s.dev.laneState n.toNat = 5 ∧
  (s.dev.lane n.toNat).deskewed = true ∧ (s.dev.lane n.toNat).farJoined = true ∧
  (s.dev.wharf (s.dev.wharfOf n.toNat)).towpath = true :=
  ⟨(on (fun d => { (((d.put F.CLK_BLK_STAT_STATE 2 2).put F.LANE_STAT_STATE 9 5).put F.LANE_QUAD_STAT_LAYOUT 2 1) with whf := { lane := [(9, { deskewed := true, farJoined := true, farCap := some 0, start := 0 })], wharf := [(8, { towpath := true })] } })),
    (9), by decide⟩
theorem witness_LaneService_laneJoin_partner : ∃ (s : State) (n : Byte), s.Running ∧ s.dev.laneState n.toNat = 5 ∧
  (s.dev.lane n.toNat).deskewed = true ∧ (s.dev.lane n.toNat).farJoined = true ∧
  (s.dev.wharf (s.dev.wharfOf n.toNat)).towpath = false :=
  ⟨(on (fun d => { (((((d.put F.CLK_BLK_STAT_STATE 2 2).put F.LANE_STAT_STATE 9 5).put F.LANE_QUAD_STAT_LAYOUT 2 1).put F.LANE_STAT_STATE 8 7).put F.LANE_STAT_JOINED 8 1) with whf := { lane := [(9, { deskewed := true, farJoined := true, farCap := some 0, start := 0 })] } })),
    (9), by decide⟩
theorem witness_LaneService_laneJoin_waits : ∃ (s : State) (n : Byte), s.Running ∧
  (s.dev.laneState n.toNat ≠ 5 ∨ (s.dev.lane n.toNat).deskewed = false ∨ (s.dev.lane n.toNat).farJoined = false) :=
  ⟨(on (fun d => ((d.put F.CLK_BLK_STAT_STATE 2 2).put F.LANE_STAT_STATE 9 5))), (9), by decide⟩
theorem witness_LaneService_laneFailure : ∃ (s : State) (n : Byte), s.Running ∧
  (s.dev.inService n.toNat && s.dev.joined n.toNat && !(s.dev.lane n.toNat).failed) = true :=
  ⟨(on (fun d => (((d.put F.CLK_BLK_STAT_STATE 2 2).put F.LANE_STAT_STATE 9 7).put F.LANE_STAT_JOINED 9 1))), (9), by decide⟩
theorem witness_LaneService_laneFailure_elsewhere : ∃ (s : State) (n : Byte), s.Running ∧
  (s.dev.inService n.toNat && s.dev.joined n.toNat && !(s.dev.lane n.toNat).failed) = false :=
  ⟨(on (fun d => ((d.put F.CLK_BLK_STAT_STATE 2 2).put F.LANE_STAT_STATE 9 4))), (9), by decide⟩
theorem witness_LaneService_laneShed : ∃ (s : State) (n : Byte), s.Running ∧
  ((s.dev.lane n.toNat).failed && s.dev.joined n.toNat && s.dev.hasOther n.toNat) = true ∧
  s.dev.downDue (s.dev.wharfOf n.toNat) = false ∧ (s.dev.wharf (s.dev.wharfOf n.toNat)).resetDue = false :=
  ⟨(on (fun d => { (((((((d.put F.CLK_BLK_STAT_STATE 2 2).put F.LANE_STAT_STATE 9 7).put F.LANE_QUAD_STAT_LAYOUT 2 1).put F.LANE_STAT_JOINED 9 1).put F.LANE_STAT_STATE 8 7).put F.LANE_STAT_JOINED 8 1).put F.WHF_CREDIT_HELD 8 5) with eng := { flights := [(Flight.mk 0 (cmd (word 6 5 0) 5) 5 none (some (Barge.mk 8 9 0 0)) Act.none false)] }, whf := { lane := [(9, { failed := true })], wharf := [(8, { gotValid := true })] } })),
    (9), by decide⟩
theorem witness_LaneService_laneShed_waits : ∃ (s : State) (n : Byte), s.Running ∧
  (((s.dev.lane n.toNat).failed && s.dev.joined n.toNat && s.dev.hasOther n.toNat) =
  false ∨ s.dev.downDue (s.dev.wharfOf n.toNat) = true ∨ (s.dev.wharf (s.dev.wharfOf n.toNat)).resetDue = true) :=
  ⟨(on (fun d => (((d.put F.CLK_BLK_STAT_STATE 2 2).put F.LANE_STAT_STATE 9 7).put F.LANE_STAT_JOINED 9 1))), (9), by decide⟩
set_option maxRecDepth 20000 in
theorem witness_ReceivedFrames_laneFrameReceive_sync : ∃ (s : State) (n : Byte), s.Running ∧
  s.dev.blockClosed (n.toNat / 4) = false ∧ (framing (s.dev.laneState n.toNat) = true ∨ s.dev.laneState n.toNat = 3) ∧
  ((s.dev.inService n.toNat && s.dev.wharfWidth (s.dev.wharfOf n.toNat) != 0) = false ∨ (s.dev.lane n.toNat).owed = []) :=
  ⟨(on (fun d => ((d.put F.CLK_BLK_STAT_STATE 2 2).put F.LANE_STAT_STATE 9 7))), (9), by decide⟩
set_option maxRecDepth 20000 in
theorem witness_ReceivedFrames_laneFrameReceive_crc : ∃ (s : State) (n : Byte) (f : BitVec 256), s.Running ∧
  s.dev.blockClosed (n.toNat / 4) = false ∧ (framing (s.dev.laneState n.toNat) = true ∨ s.dev.laneState n.toNat = 3) ∧
  ((s.dev.inService n.toNat && s.dev.wharfWidth (s.dev.wharfOf n.toNat) != 0) = false ∨ (s.dev.lane n.toNat).owed = []) ∧
  frameGood f = false :=
  ⟨(on (fun d => ((d.put F.CLK_BLK_STAT_STATE 2 2).put F.LANE_STAT_STATE 9 7))), (9), (1), by decide⟩
set_option maxRecDepth 20000 in
theorem witness_ReceivedFrames_laneFrameReceive_alive : ∃ (s : State) (n : Byte) (f : BitVec 256) (a : Nat), s.Running ∧
  s.dev.blockClosed (n.toNat / 4) = false ∧ (framing (s.dev.laneState n.toNat) = true ∨ s.dev.laneState n.toNat = 3) ∧
  ((s.dev.inService n.toNat && s.dev.wharfWidth (s.dev.wharfOf n.toNat) != 0) = false ∨ (s.dev.lane n.toNat).owed = []) ∧
  frameGood f = true ∧ (s.dev.lane n.toNat).aliveRx = some a ∧ (a + 1) % 16 ≠ frameAlive f :=
  ⟨(on (fun d => { ((d.put F.CLK_BLK_STAT_STATE 2 2).put F.LANE_STAT_STATE 9 7) with whf := { lane := [(9, { aliveRx := some 9 })] } })),
    (9), (frameBits 5 3 (BitVec.ofNat 112 (8 * 2 ^ 108 + 77)) 0), (9), by decide⟩
set_option maxRecDepth 20000 in
theorem witness_ReceivedFrames_laneFrameReceive_owed : ∃ (s : State) (n : Byte) (f : BitVec 256) (p8 : Nat) (rest : List Nat),
  s.Running ∧ s.dev.blockClosed (n.toNat / 4) = false ∧ frameGood f = false ∧
  (s.dev.inService n.toNat && s.dev.wharfWidth (s.dev.wharfOf n.toNat) != 0) = true ∧ (s.dev.lane n.toNat).owed = p8 :: rest :=
  ⟨(on (fun d => { (((d.put F.CLK_BLK_STAT_STATE 2 2).put F.LANE_STAT_STATE 9 7).put F.LANE_QUAD_STAT_LAYOUT 2 1) with whf := { lane := [(9, { owed := [5] })] } })),
    (9), (1), (5), ([]), by decide⟩
set_option maxRecDepth 20000 in
theorem witness_ReceivedFrames_laneFrameReceive_late : ∃ (s : State) (n : Byte) (f : BitVec 256), s.Running ∧
  s.dev.blockClosed (n.toNat / 4) = false ∧ frameGood f = true ∧ ((s.dev.lane n.toNat).aliveRx.all (fun a => (a + 1) % 16 ==
  frameAlive f) = true) ∧ s.dev.inService n.toNat = true ∧ (s.dev.lane n.toNat).owed.contains (frameP8 f) = true :=
  ⟨(on (fun d => { (((d.put F.CLK_BLK_STAT_STATE 2 2).put F.LANE_STAT_STATE 9 7).put F.LANE_QUAD_STAT_LAYOUT 2 1) with whf := { lane := [(9, { owed := [4, 5, 6] })] } })),
    (9), (frameBits 5 3 (BitVec.ofNat 112 (8 * 2 ^ 108 + 77)) 0), by decide⟩
set_option maxRecDepth 20000 in
theorem witness_ReceivedFrames_laneFrameReceive_held : ∃ (s : State) (n : Byte) (f : BitVec 256), s.Running ∧
  s.dev.blockClosed (n.toNat / 4) = false ∧ frameGood f = true ∧ ((s.dev.lane n.toNat).aliveRx.all (fun a => (a + 1) % 16 ==
  frameAlive f) = true) ∧ s.dev.inService n.toNat = true ∧ (s.dev.lane n.toNat).owed.contains (frameP8 f) = false ∧
  s.dev.wharfWidth (s.dev.wharfOf n.toNat) ≠ 0 :=
  ⟨(on (fun d => ((((d.put F.CLK_BLK_STAT_STATE 2 2).put F.LANE_STAT_STATE 9 7).put F.LANE_QUAD_STAT_LAYOUT 2 1).put
    F.LANE_STAT_JOINED 9 1))), (9), (frameBits 5 3 (BitVec.ofNat 112 (8 * 2 ^ 108 + 77)) 0), by decide⟩
set_option maxRecDepth 20000 in
theorem witness_ReceivedFrames_laneFrameReceive_empty : ∃ (s : State) (n : Byte) (f : BitVec 256), s.Running ∧
  s.dev.blockClosed (n.toNat / 4) = false ∧ frameGood f = true ∧ ((s.dev.lane n.toNat).aliveRx.all (fun a => (a + 1) % 16 ==
  frameAlive f) = true) ∧ s.dev.inService n.toNat = true ∧ (s.dev.lane n.toNat).owed.contains (frameP8 f) = false ∧
  s.dev.wharfWidth (s.dev.wharfOf n.toNat) = 0 ∧ slotType (frameSlot0 f) = 0 ∧ slotType (frameSlot1 f) = 0 :=
  ⟨(on (fun d => (((d.put F.CLK_BLK_STAT_STATE 2 2).put F.LANE_STAT_STATE 9 7).put F.LANE_STAT_JOINED 9 1))), (9),
    (frameBits 5 3 0 0), by decide⟩
set_option maxRecDepth 20000 in
theorem witness_ReceivedFrames_laneFrameReceive_event : ∃ (s : State) (n : Byte) (f : BitVec 256), s.Running ∧
  s.dev.blockClosed (n.toNat / 4) = false ∧ frameGood f = true ∧ ((s.dev.lane n.toNat).aliveRx.all (fun a => (a + 1) % 16 ==
  frameAlive f) = true) ∧ s.dev.inService n.toNat = true ∧ (s.dev.lane n.toNat).owed.contains (frameP8 f) = false ∧
  s.dev.wharfWidth (s.dev.wharfOf n.toNat) = 0 ∧ (s.dev.wharf (s.dev.wharfOf n.toNat)).towpath = false ∧
  slotType (frameSlot0 f) = 8 ∧ slotType (frameSlot1 f) = 0 ∧ s.dev.dec.evq.length < 1024 :=
  ⟨(on (fun d => (((d.put F.CLK_BLK_STAT_STATE 2 2).put F.LANE_STAT_STATE 9 7).put F.LANE_STAT_JOINED 9 1))), (9),
    (frameBits 5 3 (BitVec.ofNat 112 (8 * 2 ^ 108 + 77)) 0), by decide⟩
set_option maxRecDepth 20000 in
theorem witness_ReceivedFrames_laneFrameReceive_firstMatch : ∃ (s : State) (n : Byte) (f : BitVec 256) (reading : Nat),
  s.Running ∧ s.dev.blockClosed (n.toNat / 4) = false ∧ frameGood f = true ∧
  ((s.dev.lane n.toNat).aliveRx.all (fun a => (a + 1) % 16 == frameAlive f) = true) ∧ s.dev.laneState n.toNat = 4 ∧
  slotType (frameSlot0 f) = 12 ∧ slotType (frameSlot1 f) = 0 ∧ (((s.dev.onLane n.toNat (fun x =>
  { x with arr := some (s.dev.arrivalOffset (frameP8 f) (s.dev.laneStamp n.toNat reading)) })).mismatchWhy n.toNat (frameSlot0
  f)) = 0) ∧ (s.dev.lane n.toNat).capRun = 0 :=
  ⟨(on (fun d => (((d.put F.CLK_BLK_STAT_STATE 2 2).put F.LANE_STAT_STATE 9 4).put F.LANE_QUAD_STAT_LAYOUT 2 1))), (9),
    (frameBits 5 3 (BitVec.ofNat 112 (12 * 2 ^ 108 + 2 ^ 104 + 1 * 2 ^ 100 + 1 * 2 ^ 98 + 1 * 2 ^ 96 + 64 * 2 ^ 87)) 0), (5),
    by decide⟩
set_option maxRecDepth 20000 in
theorem witness_ReceivedFrames_laneFrameReceive_secondMatch : ∃ (s : State) (n : Byte) (f : BitVec 256) (reading : Nat),
  s.Running ∧ s.dev.blockClosed (n.toNat / 4) = false ∧ frameGood f = true ∧
  ((s.dev.lane n.toNat).aliveRx.all (fun a => (a + 1) % 16 == frameAlive f) = true) ∧ s.dev.laneState n.toNat = 4 ∧
  slotType (frameSlot0 f) = 12 ∧ slotType (frameSlot1 f) = 0 ∧ (((s.dev.onLane n.toNat (fun x =>
  { x with arr := some (s.dev.arrivalOffset (frameP8 f) (s.dev.laneStamp n.toNat reading)) })).mismatchWhy n.toNat (frameSlot0
  f)) = 0) ∧ 1 ≤ (s.dev.lane n.toNat).capRun ∧ s.dev.wharfWidth (s.dev.wharfOf n.toNat) ≠ 0 :=
  ⟨(on (fun d => { (((d.put F.CLK_BLK_STAT_STATE 2 2).put F.LANE_STAT_STATE 9 4).put F.LANE_QUAD_STAT_LAYOUT 2 1) with whf := { lane := [(9, { capRun := 1 })] } })),
    (9), (frameBits 5 3 (BitVec.ofNat 112 (12 * 2 ^ 108 + 2 ^ 104 + 1 * 2 ^ 100 + 1 * 2 ^ 98 + 1 * 2 ^ 96 + 64 * 2 ^ 87)) 0),
    (5), by decide⟩
set_option maxRecDepth 20000 in
theorem witness_ReceivedFrames_laneFrameReceive_mismatch : ∃ (s : State) (n : Byte) (f : BitVec 256) (reading : Nat),
  s.Running ∧ s.dev.blockClosed (n.toNat / 4) = false ∧ frameGood f = true ∧
  ((s.dev.lane n.toNat).aliveRx.all (fun a => (a + 1) % 16 == frameAlive f) = true) ∧ s.dev.laneState n.toNat = 4 ∧
  slotType (frameSlot0 f) = 12 ∧ slotType (frameSlot1 f) = 0 ∧ (((s.dev.onLane n.toNat (fun x =>
  { x with arr := some (s.dev.arrivalOffset (frameP8 f) (s.dev.laneStamp n.toNat reading)) })).mismatchWhy n.toNat (frameSlot0
  f)) ≠ 0) :=
  ⟨(on (fun d => (((d.put F.CLK_BLK_STAT_STATE 2 2).put F.LANE_STAT_STATE 9 4).put F.LANE_QUAD_STAT_LAYOUT 2 1))), (9),
    (frameBits 5 3 (BitVec.ofNat 112 (12 * 2 ^ 108)) 0), (5), by decide⟩
set_option maxRecDepth 20000 in
theorem witness_ReceivedFrames_laneFrameReceive_ready : ∃ (s : State) (n : Byte) (f : BitVec 256), s.Running ∧
  s.dev.blockClosed (n.toNat / 4) = false ∧ frameGood f = true ∧ ((s.dev.lane n.toNat).aliveRx.all (fun a => (a + 1) % 16 ==
  frameAlive f) = true) ∧ s.dev.laneState n.toNat = 3 :=
  ⟨(on (fun d => (((d.put F.CLK_BLK_STAT_STATE 2 2).put F.LANE_STAT_STATE 9 3).put F.LANE_QUAD_STAT_LAYOUT 2 1))), (9),
    (frameBits 5 3 (BitVec.ofNat 112 (12 * 2 ^ 108 + 2 ^ 104 + 1 * 2 ^ 100 + 1 * 2 ^ 98 + 1 * 2 ^ 96 + 64 * 2 ^ 87)) 0),
    by decide⟩
theorem witness_ReceivedFrames_deskewRelease_releases : ∃ (s : State) (h : Byte) (expired : Bool) (k : Nat) (p8 : Nat),
  s.Running ∧ s.dev.heldPound h.toNat = some (k, p8) ∧ ((expired || (s.dev.joinedLanes h.toNat).all (fun n => (heldUpTo
  ((s.dev.wharf h.toNat).heldOn n) k p8).isSome)) = true) :=
  ⟨(on (fun d => { (((((d.put F.LANE_QUAD_STAT_LAYOUT 2 1).put F.LANE_STAT_JOINED 9 1).put F.LANE_STAT_STATE 9 7).put F.LANE_STAT_JOINED 8 1).put F.LANE_STAT_STATE 8 7) with whf := { wharf := [(8, { held := [{ lane := 9, report := false, arr := 0, frame := some 0x530a30700000000000000000000000000000000000000000000000000000000 }] })] } })),
    (8), (true), (0), (5), by decide⟩
theorem witness_ReceivedFrames_deskewRelease_waits : ∃ (s : State) (h : Byte) (expired : Bool) (k : Nat) (p8 : Nat),
  s.Running ∧ s.dev.heldPound h.toNat = some (k, p8) ∧ ((expired || (s.dev.joinedLanes h.toNat).all (fun n => (heldUpTo
  ((s.dev.wharf h.toNat).heldOn n) k p8).isSome)) = false) :=
  ⟨(on (fun d => { (((((d.put F.LANE_QUAD_STAT_LAYOUT 2 1).put F.LANE_STAT_JOINED 9 1).put F.LANE_STAT_STATE 9 7).put F.LANE_STAT_JOINED 8 1).put F.LANE_STAT_STATE 8 7) with whf := { wharf := [(8, { held := [{ lane := 9, report := false, arr := 0, frame := some 0x530a30700000000000000000000000000000000000000000000000000000000 }] })] } })),
    (8), (false), (0), (5), by decide⟩
theorem witness_ReceivedFrames_deskewRelease_empty : ∃ (s : State) (h : Byte), s.Running ∧ s.dev.heldPound h.toNat = none :=
  ⟨(on (fun d => { (((((d.put F.LANE_QUAD_STAT_LAYOUT 2 1).put F.LANE_STAT_JOINED 9 1).put F.LANE_STAT_STATE 9 7).put F.LANE_STAT_JOINED 8 1).put F.LANE_STAT_STATE 8 7) with whf := { wharf := [(8, { held := [{ lane := 8, report := false, arr := 0, frame := none }] })] } })),
    (8), by decide⟩
theorem witness_ReceivedFrames_deskewRelease_status : ∃ (s : State) (h : Byte) (x : HeldFrame) (f : BitVec 256), s.Running ∧
  (s.dev.wharf h.toNat).held = [x] ∧ s.dev.joinedLanes h.toNat = [x.lane] ∧ (s.dev.wharf h.toNat).towpath = false ∧
  x.frame = some f ∧ slotType (frameSlot0 f) = 10 ∧ slotType (frameSlot1 f) = 0 :=
  ⟨(on (fun d => { (((d.put F.LANE_QUAD_STAT_LAYOUT 2 1).put F.LANE_STAT_JOINED 9 1).put F.LANE_STAT_STATE 9 7) with whf := { wharf := [(8, { held := [{ lane := 9, report := false, arr := 0, frame := some 0x530a30700000000000000000000000000000000000000000000000000000000 }] })] } })),
    (8), ({ lane := 9, report := false, arr := 0, frame := some 0x530a30700000000000000000000000000000000000000000000000000000000 }),
    (0x530a30700000000000000000000000000000000000000000000000000000000), by decide⟩
theorem witness_CreditExchange_creditExchangeStart : ∃ (s : State) (h : Byte), s.Running ∧ s.dev.wharfIn h.toNat 6 = true ∧
  s.dev.kpr.restarting = false ∧ (s.dev.wharf h.toNat).asked = false ∧ (s.dev.wharf h.toNat).requesting = false ∧
  (s.dev.wharf h.toNat).towpath = false :=
  ⟨(on (fun d => ((d.put F.CLK_BLK_STAT_STATE 2 2).put F.LANE_STAT_STATE 9 6))), (9), by decide⟩
theorem witness_CreditExchange_creditExchangeStart_not : ∃ (s : State) (h : Byte), s.Running ∧
  (s.dev.wharfIn h.toNat 6 = false ∨ s.dev.kpr.restarting = true ∨ (s.dev.wharf h.toNat).asked =
  true ∨ (s.dev.wharf h.toNat).requesting = true ∨ (s.dev.wharf h.toNat).towpath = true) :=
  ⟨(on (fun d => ((d.put F.CLK_BLK_STAT_STATE 2 2).put F.LANE_STAT_STATE 9 7))), (9), by decide⟩
theorem witness_CreditExchange_creditGrant : ∃ (s : State) (h : Byte) (free : Nat), s.Running ∧
  (s.dev.wharf h.toNat).grant = some free ∧ s.dev.wharfIn h.toNat 6 = true :=
  ⟨(on (fun d => { (((d.put F.CLK_BLK_STAT_STATE 2 2).put F.LANE_STAT_STATE 9 6).put F.LANE_STAT_JOINED 9 1) with ledger := { map := [(3, 0x80000009)] }, whf := { wharf := [(9, { requesting := true, grant := some 70, fresh := true })] } })),
    (9), (70), by decide⟩
theorem witness_CreditExchange_creditGrant_none : ∃ (s : State) (h : Byte), s.Running ∧
  ((s.dev.wharf h.toNat).grant = none ∨ s.dev.wharfIn h.toNat 6 = false) :=
  ⟨(on (fun d => ((d.put F.CLK_BLK_STAT_STATE 2 2).put F.LANE_STAT_STATE 9 6))), (9), by decide⟩
theorem witness_CreditExchange_exchFail : ∃ (s : State) (h : Byte), s.Running ∧
  ((s.dev.wharf h.toNat).requesting && (s.dev.wharf h.toNat).grant.isNone && decide (max 16 (s.dev.get
  F.WHF_LINK_CFG_EXCH_TIMEOUT) ≤ (s.dev.wharf h.toNat).reqPounds) && !(s.dev.wharf h.toNat).downDue) = true :=
  ⟨(on (fun d => { (d.put F.CLK_BLK_STAT_STATE 2 2) with whf := { wharf := [(9, { requesting := true, reqPounds := 1000000 })] } })),
    (9), by decide⟩
theorem witness_CreditExchange_exchFail_not : ∃ (s : State) (h : Byte), s.Running ∧
  ((s.dev.wharf h.toNat).requesting && (s.dev.wharf h.toNat).grant.isNone && decide (max 16 (s.dev.get
  F.WHF_LINK_CFG_EXCH_TIMEOUT) ≤ (s.dev.wharf h.toNat).reqPounds) && !(s.dev.wharf h.toNat).downDue) = false :=
  ⟨(on (fun d => ((d.put F.CLK_BLK_STAT_STATE 2 2).put F.LANE_STAT_STATE 9 6))), (9), by decide⟩
theorem witness_WharfDownAndReset_wharfDown : ∃ (s : State) (h : Byte), s.Running ∧ s.dev.downDue h.toNat = true ∧
  (s.dev.role ≠ 3 ∨ s.dev.followWharf ≠ h.toNat) :=
  ⟨(on (fun d => { (((d.put F.CLK_BLK_STAT_STATE 2 2).put F.LANE_STAT_STATE 9 7).put F.LANE_STAT_JOINED 9 1) with whf := { wharf := [(9, { downDue := true })] } })),
    (9), by decide⟩
theorem witness_WharfDownAndReset_wharfDown_followed : ∃ (s : State) (h : Byte), s.Running ∧ s.dev.downDue h.toNat = true ∧
  s.dev.role = 3 ∧ s.dev.followWharf = h.toNat :=
  ⟨(on (fun d => { ((((d.put F.CLK_BLK_STAT_STATE 2 2).put F.LANE_STAT_STATE 9 7).put F.LANE_STAT_JOINED 9 1).put F.TOW_STAT_ROLE 0 3) with tow := { pri := 9 }, whf := { wharf := [(9, { downDue := true })] } })),
    (9), by decide⟩
theorem witness_WharfDownAndReset_wharfDown_notDue : ∃ (s : State) (h : Byte), s.Running ∧ s.dev.downDue h.toNat = false :=
  ⟨(on (fun d => ((d.put F.CLK_BLK_STAT_STATE 2 2).put F.LANE_STAT_STATE 9 4))), (9), by decide⟩
theorem witness_WharfDownAndReset_wharfRetrain_trained : ∃ (s : State) (h : Byte), s.Running ∧
  s.dev.blockClosed (h.toNat / 4) = false ∧ (s.dev.wharfLanes h.toNat).isEmpty = false ∧ s.dev.wharfUp h.toNat = true :=
  ⟨(on (fun d => ((d.put F.CLK_BLK_STAT_STATE 2 2).put F.LANE_STAT_STATE 9 7))), (9), by decide⟩
theorem witness_WharfDownAndReset_wharfRetrain_training : ∃ (s : State) (h : Byte), s.Running ∧
  s.dev.blockClosed (h.toNat / 4) = false ∧ (s.dev.wharfLanes h.toNat).isEmpty = false ∧ s.dev.wharfUp h.toNat = false :=
  ⟨(on (fun d => ((d.put F.CLK_BLK_STAT_STATE 2 2).put F.LANE_STAT_STATE 9 4))), (9), by decide⟩
theorem witness_WharfDownAndReset_wharfReset : ∃ (s : State) (h : Byte), s.Running ∧ s.dev.blockClosed (h.toNat / 4) = false ∧
  (s.dev.wharfLanes h.toNat).isEmpty = false :=
  ⟨(on (fun d => ((d.put F.CLK_BLK_STAT_STATE 2 2).put F.LANE_STAT_STATE 9 7))), (9), by decide⟩
theorem witness_WharfDownAndReset_wharfReset_absent : ∃ (s : State) (h : Byte), s.Running ∧
  (s.dev.blockClosed (h.toNat / 4) = true ∨ (s.dev.wharfLanes h.toNat).isEmpty = true) :=
  ⟨(on (fun d => (d.put F.CLK_BLK_STAT_STATE 2 0))), (9), by decide⟩
theorem witness_PowerStates_powerStateRequest_kept : ∃ (s : State) (h : Byte) (v : Word), s.Running ∧
  s.dev.blockClosed (h.toNat / 4) = false ∧ (s.dev.wharfLanes h.toNat).isEmpty = false ∧
  ((bits v.toNat 9 8 == 0 || bits v.toNat 9 8 == 3) && s.dev.wharfIn h.toNat 10 && (s.dev.wharf h.toNat).wake.isNone) = false :=
  ⟨(on (fun d => ((d.put F.CLK_BLK_STAT_STATE 2 2).put F.LANE_STAT_STATE 9 7))), (9), (0x500), by decide⟩
theorem witness_PowerStates_powerStateRequest_wakes : ∃ (s : State) (h : Byte) (v : Word), s.Running ∧
  s.dev.blockClosed (h.toNat / 4) = false ∧ (s.dev.wharfLanes h.toNat).isEmpty = false ∧
  ((bits v.toNat 9 8 == 0 || bits v.toNat 9 8 == 3) && s.dev.wharfIn h.toNat 10 && (s.dev.wharf h.toNat).wake.isNone) = true :=
  ⟨(on (fun d => ((d.put F.CLK_BLK_STAT_STATE 2 2).put F.LANE_STAT_STATE 9 10))), (9), (0x401), by decide⟩
theorem witness_PowerStates_standbyEnter : ∃ (s : State) (h : Byte), s.Running ∧
  (s.dev.pwrReq h.toNat == 1 && s.dev.wharfIn h.toNat 7 && !s.dev.wharfIn h.toNat 6 && (s.dev.reserved h.toNat).isEmpty &&
  !(s.dev.wharf h.toNat).busy) = true :=
  ⟨(on (fun d => ((((d.put F.CLK_BLK_STAT_STATE 2 2).put F.LANE_STAT_STATE 9 7).put F.LANE_STAT_JOINED 9 1).put
    F.WHF_CFG_PWR_REQ 9 1))), (9), by decide⟩
theorem witness_PowerStates_standbyEnter_not : ∃ (s : State) (h : Byte), s.Running ∧
  (s.dev.pwrReq h.toNat == 1 && s.dev.wharfIn h.toNat 7 && !s.dev.wharfIn h.toNat 6 && (s.dev.reserved h.toNat).isEmpty &&
  !(s.dev.wharf h.toNat).busy) = false :=
  ⟨(on (fun d => ((d.put F.CLK_BLK_STAT_STATE 2 2).put F.LANE_STAT_STATE 9 7))), (9), by decide⟩
theorem witness_PowerStates_standbyExit : ∃ (s : State) (h : Byte), s.Running ∧
  ((s.dev.wharfIn h.toNat 10 && (s.dev.wharf h.toNat).wake.any (fun k => decide (13 ≤ k))) = true) :=
  ⟨(on (fun d => { (((d.put F.CLK_BLK_STAT_STATE 2 2).put F.LANE_STAT_STATE 9 10).put F.LANE_STAT_JOINED 9 1) with whf := { wharf := [(9, { wake := some 13 })] } })),
    (9), by decide⟩
theorem witness_PowerStates_standbyExit_not : ∃ (s : State) (h : Byte), s.Running ∧
  ((s.dev.wharfIn h.toNat 10 && (s.dev.wharf h.toNat).wake.any (fun k => decide (13 ≤ k))) = false) :=
  ⟨(on (fun d => ((d.put F.CLK_BLK_STAT_STATE 2 2).put F.LANE_STAT_STATE 9 10))), (9), by decide⟩
theorem witness_PowerStates_deepEnter : ∃ (s : State) (q : Fin 64), s.Running ∧
  ((decide (2 ≤ Store.getD s.dev.whf.deep q.val 0) && (s.dev.wharvesOf q.val).all (fun h => (s.dev.reserved h).isEmpty)) =
  true) ∧ (s.dev.role ≠ 3 ∨ (s.dev.wharvesOf q.val).contains s.dev.followWharf = false) :=
  ⟨(on (fun d => { (((d.put F.CLK_BLK_STAT_STATE 2 2).put F.LANE_STAT_STATE 9 7).put F.LANE_STAT_JOINED 9 1) with whf := { deep := [(2, 2)] } })),
    (2), by decide⟩
theorem witness_PowerStates_deepEnter_followed : ∃ (s : State) (q : Fin 64), s.Running ∧
  ((decide (2 ≤ Store.getD s.dev.whf.deep q.val 0) && (s.dev.wharvesOf q.val).all (fun h => (s.dev.reserved h).isEmpty)) =
  true) ∧ s.dev.role = 3 ∧ (s.dev.wharvesOf q.val).contains s.dev.followWharf = true :=
  ⟨(on (fun d => { ((((d.put F.CLK_BLK_STAT_STATE 2 2).put F.LANE_STAT_STATE 9 7).put F.LANE_STAT_JOINED 9 1).put F.TOW_STAT_ROLE 0 3) with tow := { pri := 9 }, whf := { deep := [(2, 2)] } })),
    (2), by decide⟩
theorem witness_PowerStates_deepEnter_not : ∃ (s : State) (q : Fin 64), s.Running ∧
  ((decide (2 ≤ Store.getD s.dev.whf.deep q.val 0) && (s.dev.wharvesOf q.val).all (fun h => (s.dev.reserved h).isEmpty)) =
  false) :=
  ⟨(on (fun d => ((d.put F.CLK_BLK_STAT_STATE 2 2).put F.LANE_STAT_STATE 9 7))), (2), by decide⟩
theorem witness_PowerStates_deepExit : ∃ (s : State) (q : Fin 64), s.Running ∧
  (s.dev.is F.LANE_QUAD_STAT_DEEP q.val && !s.dev.deepAsked q.val) = true :=
  ⟨(on (fun d => (((d.put F.CLK_BLK_STAT_STATE 2 2).put F.LANE_STAT_STATE 9 11).put F.LANE_QUAD_STAT_DEEP 2 1))), (2),
    by decide⟩
theorem witness_PowerStates_deepExit_not : ∃ (s : State) (q : Fin 64), s.Running ∧
  (s.dev.is F.LANE_QUAD_STAT_DEEP q.val && !s.dev.deepAsked q.val) = false :=
  ⟨(on (fun d => ((d.put F.CLK_BLK_STAT_STATE 2 2).put F.LANE_STAT_STATE 9 7))), (2), by decide⟩
theorem witness_Alignment_realign_written : ∃ (s : State), s.Running :=
  ⟨(on (fun d => ((d.put F.TOW_ROLE_ROLE 0 3).put F.TOW_STAT_USING_ALT 0 1))), by decide⟩
theorem witness_Alignment_realign_startUp : ∃ (s : State), s.Running ∧
  (s.dev.atStep 7 && s.dev.tow.running && !s.dev.kpr.restarting && s.dev.tow.phase == .idle) = true :=
  ⟨(on (fun d => { ((d.put F.SYS_BOOT_STAT_STEP 0 7).put F.TOW_ROLE_ROLE 0 3) with tow := { running := true, pound := 5 } })),
    by decide⟩
theorem witness_Alignment_realign_notStartUp : ∃ (s : State), s.Running ∧
  (s.dev.atStep 7 && s.dev.tow.running && !s.dev.kpr.restarting && s.dev.tow.phase == .idle) = false :=
  ⟨(on (fun d => { (d.put F.SYS_BOOT_STAT_STEP 0 9) with tow := { running := true, pound := 5 } })), by decide⟩
theorem witness_Alignment_towAligned_locked : ∃ (s : State), s.Running ∧ s.dev.tow.phase = .fine ∧ 8 ≤ s.dev.tow.good ∧
  s.dev.kpr.restarting = false ∧ s.dev.atStep 7 = false :=
  ⟨(on (fun d => { (d.put F.TOW_STAT_HOLDOVER 0 1) with tow := { running := true, phase := .fine, engaged := true, good := 8 } })),
    by decide⟩
theorem witness_Alignment_towAligned_startUp : ∃ (s : State), s.Running ∧ s.dev.tow.phase = .fine ∧ 8 ≤ s.dev.tow.good ∧
  s.dev.kpr.restarting = false ∧ s.dev.atStep 7 = true :=
  ⟨(on (fun d => { (d.put F.SYS_BOOT_STAT_STEP 0 7) with tow := { running := true, phase := .fine, engaged := true, good := 8 } })),
    by decide⟩
theorem witness_Alignment_towAligned_notYet : ∃ (s : State), s.Running ∧
  (s.dev.tow.phase ≠ .fine ∨ s.dev.tow.good < 8 ∨ s.dev.kpr.restarting = true) :=
  ⟨(on (fun d => { d with tow := { running := true, phase := .fine, good := 7 } })), by decide⟩
theorem witness_Alignment_towLoadFallback : ∃ (s : State), s.Running ∧
  (s.dev.tow.phase == .source && s.dev.loadsCount && s.dev.tow.loadSrc == 1 && !s.dev.portSlave && !s.dev.tow.fallback) =
  true :=
  ⟨(on (fun d => { d with tow := { running := true, phase := .source, loadSrc := 1 } })), by decide⟩
theorem witness_Alignment_towLoadFallback_not : ∃ (s : State), s.Running ∧
  (s.dev.tow.phase == .source && s.dev.loadsCount && s.dev.tow.loadSrc == 1 && !s.dev.portSlave && !s.dev.tow.fallback) =
  false :=
  ⟨(on (fun d => { d with tow := { running := true, phase := .source, loadSrc := 2 } })), by decide⟩
theorem witness_WharfDelay_wharfDelayMeasurement_notYet : ∃ (s : State) (h : Byte), s.Running ∧
  (s.dev.wharfUp h.toNat = false ∨ s.dev.tow.ticks < (s.dev.towWharf h.toNat).since + 2 ^ s.dev.towAvg) :=
  ⟨(on (fun d => { (d.put F.LANE_STAT_STATE 9 7) with tow := { running := true, ticks := 100000,  wharf := [(9, { since := 99999 })] } })),
    (9), by decide⟩
theorem witness_WharfDelay_wharfDelayMeasurement_missing : ∃ (s : State) (h : Byte), s.Running ∧ s.dev.wharfUp h.toNat = true ∧
  (s.dev.towWharf h.toNat).since + 2 ^ s.dev.towAvg ≤ s.dev.tow.ticks ∧ 2 * (s.dev.towWharf h.toNat).n < 2 ^ s.dev.towAvg ∧
  ((decide (s.dev.role = 3) && s.dev.followWharf == h.toNat) && decide (3 ≤ (s.dev.towWharf h.toNat).missed) &&
  s.dev.tow.engaged && !s.dev.towHold) = false :=
  ⟨(on (fun d => { (d.put F.LANE_STAT_STATE 9 7) with tow := { running := true, ticks := 100000,  wharf := [(9, { n := 2 })] } })),
    (9), by decide⟩
theorem witness_WharfDelay_wharfDelayMeasurement_lost : ∃ (s : State) (h : Byte), s.Running ∧ s.dev.wharfUp h.toNat = true ∧
  (s.dev.towWharf h.toNat).since + 2 ^ s.dev.towAvg ≤ s.dev.tow.ticks ∧ 2 * (s.dev.towWharf h.toNat).n < 2 ^ s.dev.towAvg ∧
  (decide (s.dev.role = 3) && s.dev.followWharf == h.toNat) = true ∧ 3 ≤ (s.dev.towWharf h.toNat).missed ∧
  s.dev.tow.engaged = true ∧ s.dev.towHold = false ∧ s.dev.altQualifies = false :=
  ⟨(on (fun d => { ((d.put F.LANE_STAT_STATE 9 7).put F.TOW_STAT_ROLE 0 3) with tow := { running := true, ticks := 100000, engaged := true, pri := 9, hist := [5, 7], wharf := [(9, { n := 2, missed := 3 })] } })),
    (9), by decide⟩
theorem witness_WharfDelay_wharfDelayMeasurement_paused : ∃ (s : State) (h : Byte) (rtt : Nat) (a : Int) (theta : Int),
  s.Running ∧ s.dev.wharfUp h.toNat = true ∧ (s.dev.towWharf h.toNat).since + 2 ^ s.dev.towAvg ≤ s.dev.tow.ticks ∧
  2 ^ s.dev.towAvg ≤ 2 * (s.dev.towWharf h.toNat).n ∧ rtt = (divRound (s.dev.towWharf h.toNat).sumRtt (s.dev.towWharf
  h.toNat).n).toNat ∧ a = divRound (s.dev.towWharf h.toNat).sumA (s.dev.towWharf h.toNat).n ∧
  s.dev.is F.TOW_STAT_SERVO_PAUSED = true ∧ theta = divRound (((s.dev.get F.TOW_WHF_RTT_RTT_REF h.toNat : Nat) : Int)) 2 +
  (s.dev.towWharf h.toNat).asym - a ∧ (decide (s.dev.role = 3) && s.dev.followWharf == h.toNat) = false :=
  ⟨(on (fun d => { (((d.put F.LANE_STAT_STATE 9 7).put F.TOW_STAT_SERVO_PAUSED 0 1).put F.TOW_WHF_RTT_RTT_REF 9 4000) with tow := { running := true, ticks := 100000,  wharf := [(9, { n := 16384, sumA := 0, sumRtt := 5000 * 16384 })] } })),
    (9), (5000), (0), (2000), by decide⟩
theorem witness_WharfDelay_wharfDelayMeasurement_pausedFollowed : ∃ (s : State) (h : Byte) (rtt : Nat) (a : Int) (theta : Int),
  s.Running ∧ s.dev.wharfUp h.toNat = true ∧ (s.dev.towWharf h.toNat).since + 2 ^ s.dev.towAvg ≤ s.dev.tow.ticks ∧
  2 ^ s.dev.towAvg ≤ 2 * (s.dev.towWharf h.toNat).n ∧ rtt = (divRound (s.dev.towWharf h.toNat).sumRtt (s.dev.towWharf
  h.toNat).n).toNat ∧ a = divRound (s.dev.towWharf h.toNat).sumA (s.dev.towWharf h.toNat).n ∧
  s.dev.is F.TOW_STAT_SERVO_PAUSED = true ∧ theta = divRound (((s.dev.get F.TOW_WHF_RTT_RTT_REF h.toNat : Nat) : Int)) 2 +
  (s.dev.towWharf h.toNat).asym - a ∧ (decide (s.dev.role = 3) && s.dev.followWharf == h.toNat) = true ∧
  s.dev.is F.TOW_WHF_STAT_STEP h.toNat = false :=
  ⟨(on (fun d => { ((((d.put F.LANE_STAT_STATE 9 7).put F.TOW_STAT_ROLE 0 3).put F.TOW_STAT_SERVO_PAUSED 0 1).put F.TOW_WHF_RTT_RTT_REF 9 4000) with tow := { pri := 9, running := true, ticks := 100000,  wharf := [(9, { n := 16384, sumA := 0, sumRtt := 5000 * 16384 })] } })),
    (9), (5000), (0), (2000), by decide⟩
theorem witness_WharfDelay_wharfDelayMeasurement_first : ∃ (s : State) (h : Byte) (rtt : Nat) (a : Int) (theta : Int),
  s.Running ∧ s.dev.wharfUp h.toNat = true ∧ (s.dev.towWharf h.toNat).since + 2 ^ s.dev.towAvg ≤ s.dev.tow.ticks ∧
  2 ^ s.dev.towAvg ≤ 2 * (s.dev.towWharf h.toNat).n ∧ rtt = (divRound (s.dev.towWharf h.toNat).sumRtt (s.dev.towWharf
  h.toNat).n).toNat ∧ a = divRound (s.dev.towWharf h.toNat).sumA (s.dev.towWharf h.toNat).n ∧
  s.dev.is F.TOW_STAT_SERVO_PAUSED = false ∧ (s.dev.towWharf h.toNat).accepted = false ∧
  (if s.dev.is F.TOW_WHF_STAT_STEP h.toNat then (s.dev.towWharf h.toNat).action else 0) = 0 ∧
  theta = divRound ((((rtt % 2 ^ 32) : Nat) : Int)) 2 + (s.dev.towWharf h.toNat).asym - a ∧
  (decide (s.dev.role = 3) && s.dev.followWharf == h.toNat) = false :=
  ⟨(on (fun d => { (d.put F.LANE_STAT_STATE 9 7) with tow := { running := true, ticks := 100000,  wharf := [(9, { n := 16384, sumA := 0, sumRtt := 5000 * 16384 })] } })),
    (9), (5000), (0), (2500), by decide⟩
theorem witness_WharfDelay_wharfDelayMeasurement_firstFollowedSource : ∃ (s : State) (h : Byte) (rtt : Nat) (a : Int) (theta :
  Int), s.Running ∧ s.dev.wharfUp h.toNat = true ∧ (s.dev.towWharf h.toNat).since + 2 ^ s.dev.towAvg ≤ s.dev.tow.ticks ∧
  2 ^ s.dev.towAvg ≤ 2 * (s.dev.towWharf h.toNat).n ∧ rtt = (divRound (s.dev.towWharf h.toNat).sumRtt (s.dev.towWharf
  h.toNat).n).toNat ∧ a = divRound (s.dev.towWharf h.toNat).sumA (s.dev.towWharf h.toNat).n ∧
  s.dev.is F.TOW_STAT_SERVO_PAUSED = false ∧ (s.dev.towWharf h.toNat).accepted = false ∧
  (if s.dev.is F.TOW_WHF_STAT_STEP h.toNat then (s.dev.towWharf h.toNat).action else 0) = 0 ∧
  theta = divRound ((((rtt % 2 ^ 32) : Nat) : Int)) 2 + (s.dev.towWharf h.toNat).asym - a ∧
  s.dev.is F.TOW_WHF_STAT_STEP h.toNat = false ∧ (decide (s.dev.role = 3) && s.dev.followWharf == h.toNat) = true ∧
  (s.dev.tow.phase = .source ∨ (s.dev.tow.phase = .idle ∧ s.dev.tow.engaged = false)) :=
  ⟨(on (fun d => { ((d.put F.LANE_STAT_STATE 9 7).put F.TOW_STAT_ROLE 0 3) with tow := { pri := 9, running := true, ticks := 100000,  wharf := [(9, { n := 16384, sumA := 0, sumRtt := 5000 * 16384 })] } })),
    (9), (5000), (0), (2500), by decide⟩
theorem witness_WharfDelay_wharfDelayMeasurement_firstFollowedTracked : ∃ (s : State) (h : Byte) (rtt : Nat) (a : Int) (theta :
  Int), s.Running ∧ s.dev.wharfUp h.toNat = true ∧ (s.dev.towWharf h.toNat).since + 2 ^ s.dev.towAvg ≤ s.dev.tow.ticks ∧
  2 ^ s.dev.towAvg ≤ 2 * (s.dev.towWharf h.toNat).n ∧ rtt = (divRound (s.dev.towWharf h.toNat).sumRtt (s.dev.towWharf
  h.toNat).n).toNat ∧ a = divRound (s.dev.towWharf h.toNat).sumA (s.dev.towWharf h.toNat).n ∧
  s.dev.is F.TOW_STAT_SERVO_PAUSED = false ∧ (s.dev.towWharf h.toNat).accepted = false ∧
  (if s.dev.is F.TOW_WHF_STAT_STEP h.toNat then (s.dev.towWharf h.toNat).action else 0) = 0 ∧
  theta = divRound ((((rtt % 2 ^ 32) : Nat) : Int)) 2 + (s.dev.towWharf h.toNat).asym - a ∧
  s.dev.is F.TOW_WHF_STAT_STEP h.toNat = false ∧ (decide (s.dev.role = 3) && s.dev.followWharf == h.toNat) = true ∧
  s.dev.tow.phase = .idle ∧ s.dev.tow.engaged = true ∧ s.dev.towHold = false ∧ s.dev.tow.slew = false ∧
  s.dev.is F.TOW_STAT_SERVO_PAUSED = false :=
  ⟨(on (fun d => { ((d.put F.LANE_STAT_STATE 9 7).put F.TOW_STAT_ROLE 0 3) with tow := { engaged := true, pri := 9, running := true, ticks := 100000,  wharf := [(9, { n := 16384, sumA := 0, sumRtt := 5000 * 16384 })] } })),
    (9), (5000), (0), (2500), by decide⟩
theorem witness_WharfDelay_wharfDelayMeasurement_near : ∃ (s : State) (h : Byte) (rtt : Nat) (a : Int) (theta : Int),
  s.Running ∧ s.dev.wharfUp h.toNat = true ∧ (s.dev.towWharf h.toNat).since + 2 ^ s.dev.towAvg ≤ s.dev.tow.ticks ∧
  2 ^ s.dev.towAvg ≤ 2 * (s.dev.towWharf h.toNat).n ∧ rtt = (divRound (s.dev.towWharf h.toNat).sumRtt (s.dev.towWharf
  h.toNat).n).toNat ∧ a = divRound (s.dev.towWharf h.toNat).sumA (s.dev.towWharf h.toNat).n ∧
  s.dev.is F.TOW_STAT_SERVO_PAUSED = false ∧ (s.dev.towWharf h.toNat).accepted = true ∧
  s.dev.is F.TOW_WHF_STAT_STEP h.toNat = false ∧ decide (((rtt : Int) - (s.dev.get F.TOW_WHF_RTT_RTT_REF h.toNat : Nat)).natAbs
  ≤ max 1 (s.dev.get F.TOW_STEP_CFG_STEP_PS)) = true ∧ theta = divRound ((((rtt % 2 ^ 32) : Nat) : Int)) 2 + (s.dev.towWharf
  h.toNat).asym - a ∧ (decide (s.dev.role = 3) && s.dev.followWharf == h.toNat) = false :=
  ⟨(on (fun d => { (((d.put F.LANE_STAT_STATE 9 7).put F.TOW_WHF_RTT_RTT_REF 9 5001).put F.TOW_STEP_CFG_STEP_PS 0 100) with tow := { running := true, ticks := 100000,  wharf := [(9, { n := 16384, sumA := 0, sumRtt := 5000 * 16384, accepted := true })] } })),
    (9), (5000), (0), (2500), by decide⟩
theorem witness_WharfDelay_wharfDelayMeasurement_nearFollowedSource : ∃ (s : State) (h : Byte) (rtt : Nat) (a : Int) (theta :
  Int), s.Running ∧ s.dev.wharfUp h.toNat = true ∧ (s.dev.towWharf h.toNat).since + 2 ^ s.dev.towAvg ≤ s.dev.tow.ticks ∧
  2 ^ s.dev.towAvg ≤ 2 * (s.dev.towWharf h.toNat).n ∧ rtt = (divRound (s.dev.towWharf h.toNat).sumRtt (s.dev.towWharf
  h.toNat).n).toNat ∧ a = divRound (s.dev.towWharf h.toNat).sumA (s.dev.towWharf h.toNat).n ∧
  s.dev.is F.TOW_STAT_SERVO_PAUSED = false ∧ (s.dev.towWharf h.toNat).accepted = true ∧
  s.dev.is F.TOW_WHF_STAT_STEP h.toNat = false ∧ decide (((rtt : Int) - (s.dev.get F.TOW_WHF_RTT_RTT_REF h.toNat : Nat)).natAbs
  ≤ max 1 (s.dev.get F.TOW_STEP_CFG_STEP_PS)) = true ∧ theta = divRound ((((rtt % 2 ^ 32) : Nat) : Int)) 2 + (s.dev.towWharf
  h.toNat).asym - a ∧ (decide (s.dev.role = 3) && s.dev.followWharf == h.toNat) = true ∧
  (s.dev.tow.phase = .source ∨ (s.dev.tow.phase = .idle ∧ s.dev.tow.engaged = false)) :=
  ⟨(on (fun d => { ((((d.put F.LANE_STAT_STATE 9 7).put F.TOW_STAT_ROLE 0 3).put F.TOW_WHF_RTT_RTT_REF 9 5001).put F.TOW_STEP_CFG_STEP_PS 0 100) with tow := { pri := 9, running := true, ticks := 100000,  wharf := [(9, { n := 16384, sumA := 0, sumRtt := 5000 * 16384, accepted := true })] } })),
    (9), (5000), (0), (2500), by decide⟩
theorem witness_WharfDelay_wharfDelayMeasurement_nearFollowedTracked : ∃ (s : State) (h : Byte) (rtt : Nat) (a : Int) (theta :
  Int), s.Running ∧ s.dev.wharfUp h.toNat = true ∧ (s.dev.towWharf h.toNat).since + 2 ^ s.dev.towAvg ≤ s.dev.tow.ticks ∧
  2 ^ s.dev.towAvg ≤ 2 * (s.dev.towWharf h.toNat).n ∧ rtt = (divRound (s.dev.towWharf h.toNat).sumRtt (s.dev.towWharf
  h.toNat).n).toNat ∧ a = divRound (s.dev.towWharf h.toNat).sumA (s.dev.towWharf h.toNat).n ∧
  s.dev.is F.TOW_STAT_SERVO_PAUSED = false ∧ (s.dev.towWharf h.toNat).accepted = true ∧
  s.dev.is F.TOW_WHF_STAT_STEP h.toNat = false ∧ decide (((rtt : Int) - (s.dev.get F.TOW_WHF_RTT_RTT_REF h.toNat : Nat)).natAbs
  ≤ max 1 (s.dev.get F.TOW_STEP_CFG_STEP_PS)) = true ∧ theta = divRound ((((rtt % 2 ^ 32) : Nat) : Int)) 2 + (s.dev.towWharf
  h.toNat).asym - a ∧ (decide (s.dev.role = 3) && s.dev.followWharf == h.toNat) = true ∧ s.dev.tow.phase = .idle ∧
  s.dev.tow.engaged = true ∧ s.dev.towHold = false ∧ s.dev.tow.slew = false ∧ s.dev.is F.TOW_STAT_SERVO_PAUSED = false :=
  ⟨(on (fun d => { ((((d.put F.LANE_STAT_STATE 9 7).put F.TOW_STAT_ROLE 0 3).put F.TOW_WHF_RTT_RTT_REF 9 5001).put F.TOW_STEP_CFG_STEP_PS 0 100) with tow := { engaged := true, pri := 9, running := true, ticks := 100000,  wharf := [(9, { n := 16384, sumA := 0, sumRtt := 5000 * 16384, accepted := true })] } })),
    (9), (5000), (0), (2500), by decide⟩
theorem witness_WharfDelay_wharfDelayMeasurement_nearFollowedHoldover : ∃ (s : State) (h : Byte) (rtt : Nat) (a : Int) (theta :
  Int), s.Running ∧ s.dev.wharfUp h.toNat = true ∧ (s.dev.towWharf h.toNat).since + 2 ^ s.dev.towAvg ≤ s.dev.tow.ticks ∧
  2 ^ s.dev.towAvg ≤ 2 * (s.dev.towWharf h.toNat).n ∧ rtt = (divRound (s.dev.towWharf h.toNat).sumRtt (s.dev.towWharf
  h.toNat).n).toNat ∧ a = divRound (s.dev.towWharf h.toNat).sumA (s.dev.towWharf h.toNat).n ∧
  s.dev.is F.TOW_STAT_SERVO_PAUSED = false ∧ (s.dev.towWharf h.toNat).accepted = true ∧
  s.dev.is F.TOW_WHF_STAT_STEP h.toNat = false ∧ decide (((rtt : Int) - (s.dev.get F.TOW_WHF_RTT_RTT_REF h.toNat : Nat)).natAbs
  ≤ max 1 (s.dev.get F.TOW_STEP_CFG_STEP_PS)) = true ∧ theta = divRound ((((rtt % 2 ^ 32) : Nat) : Int)) 2 + (s.dev.towWharf
  h.toNat).asym - a ∧ (decide (s.dev.role = 3) && s.dev.followWharf == h.toNat) = true ∧ s.dev.tow.phase = .idle ∧
  s.dev.tow.engaged = true ∧ s.dev.towHold = true ∧ s.dev.tow.cause ≠ .jump :=
  ⟨(on (fun d => { ((((d.put F.LANE_STAT_STATE 9 7).put F.TOW_STAT_ROLE 0 3 |>.put F.TOW_STAT_HOLDOVER 0 1).put F.TOW_WHF_RTT_RTT_REF 9 5001).put F.TOW_STEP_CFG_STEP_PS 0 100) with tow := { engaged := true, cause := .source, pri := 9, running := true, ticks := 100000,  wharf := [(9, { n := 16384, sumA := 0, sumRtt := 5000 * 16384, accepted := true })] } })),
    (9), (5000), (0), (2500), by decide⟩
theorem witness_WharfDelay_wharfDelayMeasurement_step : ∃ (s : State) (h : Byte) (rtt : Nat) (a : Int) (theta : Int),
  s.Running ∧ s.dev.wharfUp h.toNat = true ∧ (s.dev.towWharf h.toNat).since + 2 ^ s.dev.towAvg ≤ s.dev.tow.ticks ∧
  2 ^ s.dev.towAvg ≤ 2 * (s.dev.towWharf h.toNat).n ∧ rtt = (divRound (s.dev.towWharf h.toNat).sumRtt (s.dev.towWharf
  h.toNat).n).toNat ∧ a = divRound (s.dev.towWharf h.toNat).sumA (s.dev.towWharf h.toNat).n ∧
  s.dev.is F.TOW_STAT_SERVO_PAUSED = false ∧ (s.dev.towWharf h.toNat).accepted = true ∧
  s.dev.is F.TOW_WHF_STAT_STEP h.toNat = false ∧ decide (((rtt : Int) - (s.dev.get F.TOW_WHF_RTT_RTT_REF h.toNat : Nat)).natAbs
  ≤ max 1 (s.dev.get F.TOW_STEP_CFG_STEP_PS)) = false ∧ theta = divRound (((s.dev.get F.TOW_WHF_RTT_RTT_REF h.toNat : Nat) :
  Int)) 2 + (s.dev.towWharf h.toNat).asym - a ∧ (decide (s.dev.role = 3) && s.dev.followWharf == h.toNat) = false :=
  ⟨(on (fun d => { (((d.put F.LANE_STAT_STATE 9 7).put F.TOW_WHF_RTT_RTT_REF 9 8000).put F.TOW_STEP_CFG_STEP_PS 0 100) with tow := { running := true, ticks := 100000,  wharf := [(9, { n := 16384, sumA := 0, sumRtt := 5000 * 16384, accepted := true })] } })),
    (9), (5000), (0), (4000), by decide⟩
theorem witness_WharfDelay_wharfDelayMeasurement_stepFollowed : ∃ (s : State) (h : Byte) (rtt : Nat) (a : Int) (theta : Int),
  s.Running ∧ s.dev.wharfUp h.toNat = true ∧ (s.dev.towWharf h.toNat).since + 2 ^ s.dev.towAvg ≤ s.dev.tow.ticks ∧
  2 ^ s.dev.towAvg ≤ 2 * (s.dev.towWharf h.toNat).n ∧ rtt = (divRound (s.dev.towWharf h.toNat).sumRtt (s.dev.towWharf
  h.toNat).n).toNat ∧ a = divRound (s.dev.towWharf h.toNat).sumA (s.dev.towWharf h.toNat).n ∧
  s.dev.is F.TOW_STAT_SERVO_PAUSED = false ∧ (s.dev.towWharf h.toNat).accepted = true ∧
  s.dev.is F.TOW_WHF_STAT_STEP h.toNat = false ∧ decide (((rtt : Int) - (s.dev.get F.TOW_WHF_RTT_RTT_REF h.toNat : Nat)).natAbs
  ≤ max 1 (s.dev.get F.TOW_STEP_CFG_STEP_PS)) = false ∧ theta = divRound (((s.dev.get F.TOW_WHF_RTT_RTT_REF h.toNat : Nat) :
  Int)) 2 + (s.dev.towWharf h.toNat).asym - a ∧ (decide (s.dev.role = 3) && s.dev.followWharf == h.toNat) = true ∧
  s.dev.tow.engaged = true ∧ s.dev.towHold = false ∧ s.dev.altQualifies = false :=
  ⟨(on (fun d => { ((((d.put F.LANE_STAT_STATE 9 7).put F.TOW_STAT_ROLE 0 3).put F.TOW_WHF_RTT_RTT_REF 9 8000).put F.TOW_STEP_CFG_STEP_PS 0 100) with tow := { engaged := true, hist := [5, 7], pri := 9, running := true, ticks := 100000,  wharf := [(9, { n := 16384, sumA := 0, sumRtt := 5000 * 16384, accepted := true })] } })),
    (9), (5000), (0), (4000), by decide⟩
theorem witness_WharfDelay_wharfDelayMeasurement_stepFollowedQuiet : ∃ (s : State) (h : Byte) (rtt : Nat) (a : Int) (theta :
  Int), s.Running ∧ s.dev.wharfUp h.toNat = true ∧ (s.dev.towWharf h.toNat).since + 2 ^ s.dev.towAvg ≤ s.dev.tow.ticks ∧
  2 ^ s.dev.towAvg ≤ 2 * (s.dev.towWharf h.toNat).n ∧ rtt = (divRound (s.dev.towWharf h.toNat).sumRtt (s.dev.towWharf
  h.toNat).n).toNat ∧ a = divRound (s.dev.towWharf h.toNat).sumA (s.dev.towWharf h.toNat).n ∧
  s.dev.is F.TOW_STAT_SERVO_PAUSED = false ∧ (s.dev.towWharf h.toNat).accepted = true ∧
  s.dev.is F.TOW_WHF_STAT_STEP h.toNat = false ∧ decide (((rtt : Int) - (s.dev.get F.TOW_WHF_RTT_RTT_REF h.toNat : Nat)).natAbs
  ≤ max 1 (s.dev.get F.TOW_STEP_CFG_STEP_PS)) = false ∧ theta = divRound (((s.dev.get F.TOW_WHF_RTT_RTT_REF h.toNat : Nat) :
  Int)) 2 + (s.dev.towWharf h.toNat).asym - a ∧ (decide (s.dev.role = 3) && s.dev.followWharf == h.toNat) = true ∧
  (s.dev.tow.engaged = false ∨ s.dev.towHold = true) :=
  ⟨(on (fun d => { ((((d.put F.LANE_STAT_STATE 9 7).put F.TOW_STAT_ROLE 0 3).put F.TOW_WHF_RTT_RTT_REF 9 8000).put F.TOW_STEP_CFG_STEP_PS 0 100) with tow := { pri := 9, running := true, ticks := 100000,  wharf := [(9, { n := 16384, sumA := 0, sumRtt := 5000 * 16384, accepted := true })] } })),
    (9), (5000), (0), (4000), by decide⟩
theorem witness_WharfDelay_wharfDelayMeasurement_held : ∃ (s : State) (h : Byte) (rtt : Nat) (a : Int) (theta : Int),
  s.Running ∧ s.dev.wharfUp h.toNat = true ∧ (s.dev.towWharf h.toNat).since + 2 ^ s.dev.towAvg ≤ s.dev.tow.ticks ∧
  2 ^ s.dev.towAvg ≤ 2 * (s.dev.towWharf h.toNat).n ∧ rtt = (divRound (s.dev.towWharf h.toNat).sumRtt (s.dev.towWharf
  h.toNat).n).toNat ∧ a = divRound (s.dev.towWharf h.toNat).sumA (s.dev.towWharf h.toNat).n ∧
  s.dev.is F.TOW_STAT_SERVO_PAUSED = false ∧ (s.dev.towWharf h.toNat).accepted = true ∧
  s.dev.is F.TOW_WHF_STAT_STEP h.toNat = true ∧ (s.dev.towWharf h.toNat).action = 0 ∧
  (decide (((rtt : Int) - (s.dev.get F.TOW_WHF_RTT_RTT_REF h.toNat : Nat)).natAbs ≤ max 1 (s.dev.get F.TOW_STEP_CFG_STEP_PS))
  && !s.dev.is F.TOW_WHF_STAT_UNTRUSTED h.toNat) = false ∧ theta =
  divRound (((s.dev.get F.TOW_WHF_RTT_RTT_REF h.toNat : Nat) : Int)) 2 + (s.dev.towWharf h.toNat).asym - a ∧
  (decide (s.dev.role = 3) && s.dev.followWharf == h.toNat) = false :=
  ⟨(on (fun d => { (((d.put F.LANE_STAT_STATE 9 7).put F.TOW_WHF_RTT_RTT_REF 9 8000).put F.TOW_WHF_STAT_STEP 9 1) with tow := { running := true, ticks := 100000,  wharf := [(9, { n := 16384, sumA := 0, sumRtt := 5000 * 16384, accepted := true, run := 2 })] } })),
    (9), (5000), (0), (4000), by decide⟩
theorem witness_WharfDelay_wharfDelayMeasurement_heldFollowed : ∃ (s : State) (h : Byte) (rtt : Nat) (a : Int) (theta : Int),
  s.Running ∧ s.dev.wharfUp h.toNat = true ∧ (s.dev.towWharf h.toNat).since + 2 ^ s.dev.towAvg ≤ s.dev.tow.ticks ∧
  2 ^ s.dev.towAvg ≤ 2 * (s.dev.towWharf h.toNat).n ∧ rtt = (divRound (s.dev.towWharf h.toNat).sumRtt (s.dev.towWharf
  h.toNat).n).toNat ∧ a = divRound (s.dev.towWharf h.toNat).sumA (s.dev.towWharf h.toNat).n ∧
  s.dev.is F.TOW_STAT_SERVO_PAUSED = false ∧ (s.dev.towWharf h.toNat).accepted = true ∧
  s.dev.is F.TOW_WHF_STAT_STEP h.toNat = true ∧ (s.dev.towWharf h.toNat).action = 0 ∧
  (decide (((rtt : Int) - (s.dev.get F.TOW_WHF_RTT_RTT_REF h.toNat : Nat)).natAbs ≤ max 1 (s.dev.get F.TOW_STEP_CFG_STEP_PS))
  && !s.dev.is F.TOW_WHF_STAT_UNTRUSTED h.toNat) = false ∧ theta =
  divRound (((s.dev.get F.TOW_WHF_RTT_RTT_REF h.toNat : Nat) : Int)) 2 + (s.dev.towWharf h.toNat).asym - a ∧
  (decide (s.dev.role = 3) && s.dev.followWharf == h.toNat) = true :=
  ⟨(on (fun d => { ((((d.put F.LANE_STAT_STATE 9 7).put F.TOW_STAT_ROLE 0 3).put F.TOW_WHF_RTT_RTT_REF 9 8000).put F.TOW_WHF_STAT_STEP 9 1) with tow := { pri := 9, running := true, ticks := 100000,  wharf := [(9, { n := 16384, sumA := 0, sumRtt := 5000 * 16384, accepted := true, run := 2 })] } })),
    (9), (5000), (0), (4000), by decide⟩
theorem witness_WharfDelay_wharfDelayMeasurement_counts : ∃ (s : State) (h : Byte) (rtt : Nat) (a : Int) (theta : Int),
  s.Running ∧ s.dev.wharfUp h.toNat = true ∧ (s.dev.towWharf h.toNat).since + 2 ^ s.dev.towAvg ≤ s.dev.tow.ticks ∧
  2 ^ s.dev.towAvg ≤ 2 * (s.dev.towWharf h.toNat).n ∧ rtt = (divRound (s.dev.towWharf h.toNat).sumRtt (s.dev.towWharf
  h.toNat).n).toNat ∧ a = divRound (s.dev.towWharf h.toNat).sumA (s.dev.towWharf h.toNat).n ∧
  s.dev.is F.TOW_STAT_SERVO_PAUSED = false ∧ (s.dev.towWharf h.toNat).accepted = true ∧
  s.dev.is F.TOW_WHF_STAT_STEP h.toNat = true ∧ (s.dev.towWharf h.toNat).action = 0 ∧
  (decide (((rtt : Int) - (s.dev.get F.TOW_WHF_RTT_RTT_REF h.toNat : Nat)).natAbs ≤ max 1 (s.dev.get F.TOW_STEP_CFG_STEP_PS))
  && !s.dev.is F.TOW_WHF_STAT_UNTRUSTED h.toNat) = true ∧ (s.dev.get F.TOW_STEP_CFG_RETURN_N =
  0 ∨ (s.dev.towWharf h.toNat).run + 1 < s.dev.get F.TOW_STEP_CFG_RETURN_N) ∧
  theta = divRound (((s.dev.get F.TOW_WHF_RTT_RTT_REF h.toNat : Nat) : Int)) 2 + (s.dev.towWharf h.toNat).asym - a ∧
  (decide (s.dev.role = 3) && s.dev.followWharf == h.toNat) = false :=
  ⟨(on (fun d => { ((((d.put F.LANE_STAT_STATE 9 7).put F.TOW_WHF_RTT_RTT_REF 9 5000).put F.TOW_WHF_STAT_STEP 9 1).put F.TOW_STEP_CFG_RETURN_N 0 9) with tow := { running := true, ticks := 100000,  wharf := [(9, { n := 16384, sumA := 0, sumRtt := 5000 * 16384, accepted := true, run := 2 })] } })),
    (9), (5000), (0), (2500), by decide⟩
theorem witness_WharfDelay_wharfDelayMeasurement_countsFollowed : ∃ (s : State) (h : Byte) (rtt : Nat) (a : Int) (theta : Int),
  s.Running ∧ s.dev.wharfUp h.toNat = true ∧ (s.dev.towWharf h.toNat).since + 2 ^ s.dev.towAvg ≤ s.dev.tow.ticks ∧
  2 ^ s.dev.towAvg ≤ 2 * (s.dev.towWharf h.toNat).n ∧ rtt = (divRound (s.dev.towWharf h.toNat).sumRtt (s.dev.towWharf
  h.toNat).n).toNat ∧ a = divRound (s.dev.towWharf h.toNat).sumA (s.dev.towWharf h.toNat).n ∧
  s.dev.is F.TOW_STAT_SERVO_PAUSED = false ∧ (s.dev.towWharf h.toNat).accepted = true ∧
  s.dev.is F.TOW_WHF_STAT_STEP h.toNat = true ∧ (s.dev.towWharf h.toNat).action = 0 ∧
  (decide (((rtt : Int) - (s.dev.get F.TOW_WHF_RTT_RTT_REF h.toNat : Nat)).natAbs ≤ max 1 (s.dev.get F.TOW_STEP_CFG_STEP_PS))
  && !s.dev.is F.TOW_WHF_STAT_UNTRUSTED h.toNat) = true ∧ (s.dev.get F.TOW_STEP_CFG_RETURN_N =
  0 ∨ (s.dev.towWharf h.toNat).run + 1 < s.dev.get F.TOW_STEP_CFG_RETURN_N) ∧
  theta = divRound (((s.dev.get F.TOW_WHF_RTT_RTT_REF h.toNat : Nat) : Int)) 2 + (s.dev.towWharf h.toNat).asym - a ∧
  (decide (s.dev.role = 3) && s.dev.followWharf == h.toNat) = true :=
  ⟨(on (fun d => { (((((d.put F.LANE_STAT_STATE 9 7).put F.TOW_STAT_ROLE 0 3).put F.TOW_WHF_RTT_RTT_REF 9 5000).put F.TOW_WHF_STAT_STEP 9 1).put F.TOW_STEP_CFG_RETURN_N 0 9) with tow := { pri := 9, running := true, ticks := 100000,  wharf := [(9, { n := 16384, sumA := 0, sumRtt := 5000 * 16384, accepted := true, run := 2 })] } })),
    (9), (5000), (0), (2500), by decide⟩
theorem witness_WharfDelay_wharfDelayMeasurement_returns : ∃ (s : State) (h : Byte) (rtt : Nat) (a : Int) (theta : Int),
  s.Running ∧ s.dev.wharfUp h.toNat = true ∧ (s.dev.towWharf h.toNat).since + 2 ^ s.dev.towAvg ≤ s.dev.tow.ticks ∧
  2 ^ s.dev.towAvg ≤ 2 * (s.dev.towWharf h.toNat).n ∧ rtt = (divRound (s.dev.towWharf h.toNat).sumRtt (s.dev.towWharf
  h.toNat).n).toNat ∧ a = divRound (s.dev.towWharf h.toNat).sumA (s.dev.towWharf h.toNat).n ∧
  s.dev.is F.TOW_STAT_SERVO_PAUSED = false ∧ (s.dev.towWharf h.toNat).accepted = true ∧
  s.dev.is F.TOW_WHF_STAT_STEP h.toNat = true ∧ (s.dev.towWharf h.toNat).action = 0 ∧
  (decide (((rtt : Int) - (s.dev.get F.TOW_WHF_RTT_RTT_REF h.toNat : Nat)).natAbs ≤ max 1 (s.dev.get F.TOW_STEP_CFG_STEP_PS))
  && !s.dev.is F.TOW_WHF_STAT_UNTRUSTED h.toNat) = true ∧ s.dev.get F.TOW_STEP_CFG_RETURN_N ≠ 0 ∧
  s.dev.get F.TOW_STEP_CFG_RETURN_N ≤ (s.dev.towWharf h.toNat).run + 1 ∧
  theta = divRound ((((rtt % 2 ^ 32) : Nat) : Int)) 2 + (s.dev.towWharf h.toNat).asym - a ∧
  (decide (s.dev.role = 3) && s.dev.followWharf == h.toNat) = false :=
  ⟨(on (fun d => { ((((d.put F.LANE_STAT_STATE 9 7).put F.TOW_WHF_RTT_RTT_REF 9 5000).put F.TOW_WHF_STAT_STEP 9 1).put F.TOW_STEP_CFG_RETURN_N 0 3) with tow := { running := true, ticks := 100000,  wharf := [(9, { n := 16384, sumA := 0, sumRtt := 5000 * 16384, accepted := true, run := 2 })] } })),
    (9), (5000), (0), (2500), by decide⟩
theorem witness_WharfDelay_wharfDelayMeasurement_returnsFollowedSource : ∃ (s : State) (h : Byte) (rtt : Nat) (a : Int) (theta
  : Int), s.Running ∧ s.dev.wharfUp h.toNat = true ∧ (s.dev.towWharf h.toNat).since + 2 ^ s.dev.towAvg ≤ s.dev.tow.ticks ∧
  2 ^ s.dev.towAvg ≤ 2 * (s.dev.towWharf h.toNat).n ∧ rtt = (divRound (s.dev.towWharf h.toNat).sumRtt (s.dev.towWharf
  h.toNat).n).toNat ∧ a = divRound (s.dev.towWharf h.toNat).sumA (s.dev.towWharf h.toNat).n ∧
  s.dev.is F.TOW_STAT_SERVO_PAUSED = false ∧ (s.dev.towWharf h.toNat).accepted = true ∧
  s.dev.is F.TOW_WHF_STAT_STEP h.toNat = true ∧ (s.dev.towWharf h.toNat).action = 0 ∧
  (decide (((rtt : Int) - (s.dev.get F.TOW_WHF_RTT_RTT_REF h.toNat : Nat)).natAbs ≤ max 1 (s.dev.get F.TOW_STEP_CFG_STEP_PS))
  && !s.dev.is F.TOW_WHF_STAT_UNTRUSTED h.toNat) = true ∧ s.dev.get F.TOW_STEP_CFG_RETURN_N ≠ 0 ∧
  s.dev.get F.TOW_STEP_CFG_RETURN_N ≤ (s.dev.towWharf h.toNat).run + 1 ∧
  theta = divRound ((((rtt % 2 ^ 32) : Nat) : Int)) 2 + (s.dev.towWharf h.toNat).asym - a ∧
  (decide (s.dev.role = 3) && s.dev.followWharf == h.toNat) = true ∧ (s.dev.tow.phase = .source ∨ (s.dev.tow.phase = .idle ∧
  s.dev.tow.engaged = false)) :=
  ⟨(on (fun d => { (((((d.put F.LANE_STAT_STATE 9 7).put F.TOW_STAT_ROLE 0 3).put F.TOW_WHF_RTT_RTT_REF 9 5000).put F.TOW_WHF_STAT_STEP 9 1).put F.TOW_STEP_CFG_RETURN_N 0 3) with tow := { pri := 9, running := true, ticks := 100000,  wharf := [(9, { n := 16384, sumA := 0, sumRtt := 5000 * 16384, accepted := true, run := 2 })] } })),
    (9), (5000), (0), (2500), by decide⟩
theorem witness_WharfDelay_wharfDelayMeasurement_returnsFollowedTracked : ∃ (s : State) (h : Byte) (rtt : Nat) (a : Int) (theta
  : Int), s.Running ∧ s.dev.wharfUp h.toNat = true ∧ (s.dev.towWharf h.toNat).since + 2 ^ s.dev.towAvg ≤ s.dev.tow.ticks ∧
  2 ^ s.dev.towAvg ≤ 2 * (s.dev.towWharf h.toNat).n ∧ rtt = (divRound (s.dev.towWharf h.toNat).sumRtt (s.dev.towWharf
  h.toNat).n).toNat ∧ a = divRound (s.dev.towWharf h.toNat).sumA (s.dev.towWharf h.toNat).n ∧
  s.dev.is F.TOW_STAT_SERVO_PAUSED = false ∧ (s.dev.towWharf h.toNat).accepted = true ∧
  s.dev.is F.TOW_WHF_STAT_STEP h.toNat = true ∧ (s.dev.towWharf h.toNat).action = 0 ∧
  (decide (((rtt : Int) - (s.dev.get F.TOW_WHF_RTT_RTT_REF h.toNat : Nat)).natAbs ≤ max 1 (s.dev.get F.TOW_STEP_CFG_STEP_PS))
  && !s.dev.is F.TOW_WHF_STAT_UNTRUSTED h.toNat) = true ∧ s.dev.get F.TOW_STEP_CFG_RETURN_N ≠ 0 ∧
  s.dev.get F.TOW_STEP_CFG_RETURN_N ≤ (s.dev.towWharf h.toNat).run + 1 ∧
  theta = divRound ((((rtt % 2 ^ 32) : Nat) : Int)) 2 + (s.dev.towWharf h.toNat).asym - a ∧
  (decide (s.dev.role = 3) && s.dev.followWharf == h.toNat) = true ∧ s.dev.tow.phase = .idle ∧ s.dev.tow.engaged = true ∧
  s.dev.towHold = false ∧ s.dev.tow.slew = false ∧ s.dev.is F.TOW_STAT_SERVO_PAUSED = false :=
  ⟨(on (fun d => { (((((d.put F.LANE_STAT_STATE 9 7).put F.TOW_STAT_ROLE 0 3).put F.TOW_WHF_RTT_RTT_REF 9 5000).put F.TOW_WHF_STAT_STEP 9 1).put F.TOW_STEP_CFG_RETURN_N 0 3) with tow := { engaged := true, pri := 9, running := true, ticks := 100000,  wharf := [(9, { n := 16384, sumA := 0, sumRtt := 5000 * 16384, accepted := true, run := 2 })] } })),
    (9), (5000), (0), (2500), by decide⟩
theorem witness_WharfDelay_wharfDelayMeasurement_resolved : ∃ (s : State) (h : Byte) (rtt : Nat) (a : Int) (theta : Int),
  s.Running ∧ s.dev.wharfUp h.toNat = true ∧ (s.dev.towWharf h.toNat).since + 2 ^ s.dev.towAvg ≤ s.dev.tow.ticks ∧
  2 ^ s.dev.towAvg ≤ 2 * (s.dev.towWharf h.toNat).n ∧ rtt = (divRound (s.dev.towWharf h.toNat).sumRtt (s.dev.towWharf
  h.toNat).n).toNat ∧ a = divRound (s.dev.towWharf h.toNat).sumA (s.dev.towWharf h.toNat).n ∧
  s.dev.is F.TOW_STAT_SERVO_PAUSED = false ∧ (s.dev.towWharf h.toNat).accepted = true ∧
  s.dev.is F.TOW_WHF_STAT_STEP h.toNat = true ∧ ((s.dev.towWharf h.toNat).action = 1 ∨ (s.dev.towWharf h.toNat).action = 2) ∧
  rtt < 2 ^ 32 ∧ theta = divRound (((rtt : Nat) : Int)) 2 + (if (s.dev.towWharf h.toNat).action =
  1 then 0 else sgn 32 (s.dev.get F.TOW_WHF_NEW_ASYM_ASYM_PS)) - a ∧
  (decide (s.dev.role = 3) && s.dev.followWharf == h.toNat) = false :=
  ⟨(on (fun d => { (((d.put F.LANE_STAT_STATE 9 7).put F.TOW_WHF_RTT_RTT_REF 9 9000).put F.TOW_WHF_STAT_STEP 9 1) with tow := { running := true, ticks := 100000,  wharf := [(9, { n := 16384, sumA := 0, sumRtt := 5000 * 16384, accepted := true, run := 2, action := 1 })] } })),
    (9), (5000), (0), (2500), by decide⟩
theorem witness_WharfDelay_wharfDelayMeasurement_resolvedFollowedSource : ∃ (s : State) (h : Byte) (rtt : Nat) (a : Int) (theta
  : Int), s.Running ∧ s.dev.wharfUp h.toNat = true ∧ (s.dev.towWharf h.toNat).since + 2 ^ s.dev.towAvg ≤ s.dev.tow.ticks ∧
  2 ^ s.dev.towAvg ≤ 2 * (s.dev.towWharf h.toNat).n ∧ rtt = (divRound (s.dev.towWharf h.toNat).sumRtt (s.dev.towWharf
  h.toNat).n).toNat ∧ a = divRound (s.dev.towWharf h.toNat).sumA (s.dev.towWharf h.toNat).n ∧
  s.dev.is F.TOW_STAT_SERVO_PAUSED = false ∧ (s.dev.towWharf h.toNat).accepted = true ∧
  s.dev.is F.TOW_WHF_STAT_STEP h.toNat = true ∧ ((s.dev.towWharf h.toNat).action = 1 ∨ (s.dev.towWharf h.toNat).action = 2) ∧
  rtt < 2 ^ 32 ∧ theta = divRound (((rtt : Nat) : Int)) 2 + (if (s.dev.towWharf h.toNat).action =
  1 then 0 else sgn 32 (s.dev.get F.TOW_WHF_NEW_ASYM_ASYM_PS)) - a ∧
  (decide (s.dev.role = 3) && s.dev.followWharf == h.toNat) = true ∧ (s.dev.tow.phase = .source ∨ (s.dev.tow.phase = .idle ∧
  s.dev.tow.engaged = false)) :=
  ⟨(on (fun d => { ((((d.put F.LANE_STAT_STATE 9 7).put F.TOW_STAT_ROLE 0 3).put F.TOW_WHF_RTT_RTT_REF 9 9000).put F.TOW_WHF_STAT_STEP 9 1) with tow := { pri := 9, running := true, ticks := 100000,  wharf := [(9, { n := 16384, sumA := 0, sumRtt := 5000 * 16384, accepted := true, run := 2, action := 1 })] } })),
    (9), (5000), (0), (2500), by decide⟩
theorem witness_WharfDelay_wharfDelayMeasurement_resolvedFollowedTracked : ∃ (s : State) (h : Byte) (rtt : Nat) (a : Int)
  (theta : Int), s.Running ∧ s.dev.wharfUp h.toNat = true ∧ (s.dev.towWharf h.toNat).since + 2 ^ s.dev.towAvg ≤ s.dev.tow.ticks
  ∧ 2 ^ s.dev.towAvg ≤ 2 * (s.dev.towWharf h.toNat).n ∧ rtt = (divRound (s.dev.towWharf h.toNat).sumRtt (s.dev.towWharf
  h.toNat).n).toNat ∧ a = divRound (s.dev.towWharf h.toNat).sumA (s.dev.towWharf h.toNat).n ∧
  s.dev.is F.TOW_STAT_SERVO_PAUSED = false ∧ (s.dev.towWharf h.toNat).accepted = true ∧
  s.dev.is F.TOW_WHF_STAT_STEP h.toNat = true ∧ ((s.dev.towWharf h.toNat).action = 1 ∨ (s.dev.towWharf h.toNat).action = 2) ∧
  rtt < 2 ^ 32 ∧ theta = divRound (((rtt : Nat) : Int)) 2 + (if (s.dev.towWharf h.toNat).action =
  1 then 0 else sgn 32 (s.dev.get F.TOW_WHF_NEW_ASYM_ASYM_PS)) - a ∧
  (decide (s.dev.role = 3) && s.dev.followWharf == h.toNat) = true ∧ s.dev.tow.phase = .idle ∧ s.dev.tow.engaged = true ∧
  s.dev.towHold = false ∧ s.dev.tow.slew = false ∧ s.dev.is F.TOW_STAT_SERVO_PAUSED = false :=
  ⟨(on (fun d => { ((((d.put F.LANE_STAT_STATE 9 7).put F.TOW_STAT_ROLE 0 3).put F.TOW_WHF_RTT_RTT_REF 9 9000).put F.TOW_WHF_STAT_STEP 9 1) with tow := { engaged := true, pri := 9, running := true, ticks := 100000,  wharf := [(9, { n := 16384, sumA := 0, sumRtt := 5000 * 16384, accepted := true, run := 2, action := 1 })] } })),
    (9), (5000), (0), (2500), by decide⟩
theorem witness_WharfDelay_wharfDelayMeasurement_resolvedFollowedHoldover : ∃ (s : State) (h : Byte) (rtt : Nat) (a : Int)
  (theta : Int), s.Running ∧ s.dev.wharfUp h.toNat = true ∧ (s.dev.towWharf h.toNat).since + 2 ^ s.dev.towAvg ≤ s.dev.tow.ticks
  ∧ 2 ^ s.dev.towAvg ≤ 2 * (s.dev.towWharf h.toNat).n ∧ rtt = (divRound (s.dev.towWharf h.toNat).sumRtt (s.dev.towWharf
  h.toNat).n).toNat ∧ a = divRound (s.dev.towWharf h.toNat).sumA (s.dev.towWharf h.toNat).n ∧
  s.dev.is F.TOW_STAT_SERVO_PAUSED = false ∧ (s.dev.towWharf h.toNat).accepted = true ∧
  s.dev.is F.TOW_WHF_STAT_STEP h.toNat = true ∧ ((s.dev.towWharf h.toNat).action = 1 ∨ (s.dev.towWharf h.toNat).action = 2) ∧
  rtt < 2 ^ 32 ∧ theta = divRound (((rtt : Nat) : Int)) 2 + (if (s.dev.towWharf h.toNat).action =
  1 then 0 else sgn 32 (s.dev.get F.TOW_WHF_NEW_ASYM_ASYM_PS)) - a ∧
  (decide (s.dev.role = 3) && s.dev.followWharf == h.toNat) = true ∧ s.dev.tow.phase = .idle ∧ s.dev.tow.engaged = true ∧
  s.dev.towHold = true ∧ s.dev.tow.cause ≠ .jump :=
  ⟨(on (fun d => { ((((d.put F.LANE_STAT_STATE 9 7).put F.TOW_STAT_ROLE 0 3 |>.put F.TOW_STAT_HOLDOVER 0 1).put F.TOW_WHF_RTT_RTT_REF 9 9000).put F.TOW_WHF_STAT_STEP 9 1) with tow := { engaged := true, cause := .source, pri := 9, running := true, ticks := 100000,  wharf := [(9, { n := 16384, sumA := 0, sumRtt := 5000 * 16384, accepted := true, run := 2, action := 1 })] } })),
    (9), (5000), (0), (2500), by decide⟩
theorem witness_WharfDelay_wharfDelayMeasurement_rejected : ∃ (s : State) (h : Byte) (rtt : Nat) (a : Int) (theta : Int),
  s.Running ∧ s.dev.wharfUp h.toNat = true ∧ (s.dev.towWharf h.toNat).since + 2 ^ s.dev.towAvg ≤ s.dev.tow.ticks ∧
  2 ^ s.dev.towAvg ≤ 2 * (s.dev.towWharf h.toNat).n ∧ rtt = (divRound (s.dev.towWharf h.toNat).sumRtt (s.dev.towWharf
  h.toNat).n).toNat ∧ a = divRound (s.dev.towWharf h.toNat).sumA (s.dev.towWharf h.toNat).n ∧
  s.dev.is F.TOW_STAT_SERVO_PAUSED = false ∧ (s.dev.towWharf h.toNat).accepted = true ∧
  s.dev.is F.TOW_WHF_STAT_STEP h.toNat = true ∧ (s.dev.towWharf h.toNat).action = 3 ∧
  theta = divRound (((s.dev.get F.TOW_WHF_RTT_RTT_REF h.toNat : Nat) : Int)) 2 + (s.dev.towWharf h.toNat).asym - a ∧
  (decide (s.dev.role = 3) && s.dev.followWharf == h.toNat) = false :=
  ⟨(on (fun d => { (((d.put F.LANE_STAT_STATE 9 7).put F.TOW_WHF_RTT_RTT_REF 9 9000).put F.TOW_WHF_STAT_STEP 9 1) with tow := { running := true, ticks := 100000,  wharf := [(9, { n := 16384, sumA := 0, sumRtt := 5000 * 16384, accepted := true, run := 2, action := 3 })] } })),
    (9), (5000), (0), (4500), by decide⟩
theorem witness_WharfDelay_wharfDelayMeasurement_rejectedFollowed : ∃ (s : State) (h : Byte) (rtt : Nat) (a : Int) (theta :
  Int), s.Running ∧ s.dev.wharfUp h.toNat = true ∧ (s.dev.towWharf h.toNat).since + 2 ^ s.dev.towAvg ≤ s.dev.tow.ticks ∧
  2 ^ s.dev.towAvg ≤ 2 * (s.dev.towWharf h.toNat).n ∧ rtt = (divRound (s.dev.towWharf h.toNat).sumRtt (s.dev.towWharf
  h.toNat).n).toNat ∧ a = divRound (s.dev.towWharf h.toNat).sumA (s.dev.towWharf h.toNat).n ∧
  s.dev.is F.TOW_STAT_SERVO_PAUSED = false ∧ (s.dev.towWharf h.toNat).accepted = true ∧
  s.dev.is F.TOW_WHF_STAT_STEP h.toNat = true ∧ (s.dev.towWharf h.toNat).action = 3 ∧
  theta = divRound (((s.dev.get F.TOW_WHF_RTT_RTT_REF h.toNat : Nat) : Int)) 2 + (s.dev.towWharf h.toNat).asym - a ∧
  (decide (s.dev.role = 3) && s.dev.followWharf == h.toNat) = true :=
  ⟨(on (fun d => { ((((d.put F.LANE_STAT_STATE 9 7).put F.TOW_STAT_ROLE 0 3).put F.TOW_WHF_RTT_RTT_REF 9 9000).put F.TOW_WHF_STAT_STEP 9 1) with tow := { pri := 9, running := true, ticks := 100000,  wharf := [(9, { n := 16384, sumA := 0, sumRtt := 5000 * 16384, accepted := true, run := 2, action := 3 })] } })),
    (9), (5000), (0), (4500), by decide⟩
theorem witness_WharfDelay_towWhfResolve : ∃ (s : State) (h : Nat), s.Running ∧ s.dev.get F.TOW_WHF_SEL_WHARF = h :=
  ⟨(on (fun d => ((d.put F.TOW_WHF_SEL_WHARF 0 9).put F.TOW_WHF_STAT_STEP 9 1))), (9), by decide⟩
set_option maxRecDepth 20000 in
theorem witness_TickAndPps_tickInEdge_any : ∃ (s : State), s.Running ∧ s.dev.tow.running = true :=
  ⟨(on (fun d => { d with tow := { running := true, pound := 7 } })), by decide⟩
set_option maxRecDepth 20000 in
theorem witness_TickAndPps_tickInEdge_stopped : ∃ (s : State), s.Running ∧ s.dev.tow.running = false :=
  ⟨(base), by decide⟩
set_option maxRecDepth 20000 in
theorem witness_TickAndPps_tickInEdge_calibrating : ∃ (s : State), s.Running ∧ s.dev.tow.running = true ∧
  s.dev.stampBusy 64 = true :=
  ⟨(on (fun d => { (((d.put F.CAL_STAT_BUSY 0 1).put F.CAL_STAT_KIND 0 1).put F.CAL_STAT_UNIT 0 64) with tow := { running := true, pound := 7 } })),
    by decide⟩
set_option maxRecDepth 20000 in
theorem witness_TickAndPps_tickInEdge_marker : ∃ (s : State) (high : Nat), s.Running ∧ s.dev.tow.running = true ∧
  s.dev.stampBusy 64 = false ∧ s.dev.tickPlain = false ∧ s.dev.tow.tick.pos = none ∧ 6000 ≤ high ∧ high ≤ 10000 :=
  ⟨(on (fun d => { d with tow := { running := true, pound := 7 } })), (8000), by decide⟩
set_option maxRecDepth 20000 in
theorem witness_TickAndPps_tickInEdge_noWord : ∃ (s : State) (high : Nat), s.Running ∧ s.dev.tow.running = true ∧
  s.dev.stampBusy 64 = false ∧ s.dev.tickPlain = false ∧ s.dev.tow.tick.pos = none ∧ (high < 6000 ∨ 10000 < high) :=
  ⟨(on (fun d => { d with tow := { running := true, pound := 7 } })), (4000), by decide⟩
set_option maxRecDepth 20000 in
theorem witness_TickAndPps_tickInEdge_bit : ∃ (s : State) (reading : Nat) (high : Nat) (j : Nat), s.Running ∧
  s.dev.tow.running = true ∧ s.dev.stampBusy 64 = false ∧ s.dev.tickPlain = false ∧ s.dev.tow.tick.pos = some j ∧ j < 87 ∧
  (divRound (((s.dev.tow.ticks : Int) - s.dev.tow.tick.marker.1) * 16000 + (s.dev.stampPs 64 reading) -
  s.dev.tow.tick.marker.2) 16000).toNat = j + 1 ∧ (high < 6000 ∨ 10000 < high) :=
  ⟨(on (fun d => { d with cal := { inForce := setImgValid (setImgValid { base := .zero } 1 64) 1 65 }, tow := { running := true, pound := 7, ticks := 5, tick := { pos := some 4, word := 3 } } })),
    (320), (12000), (4), by decide⟩
set_option maxRecDepth 20000 in
theorem witness_TickAndPps_tickInEdge_badWord : ∃ (s : State) (reading : Nat) (high : Nat) (w : Nat), s.Running ∧
  s.dev.tow.running = true ∧ s.dev.stampBusy 64 = false ∧ s.dev.tickPlain = false ∧ s.dev.tow.tick.pos = some 87 ∧
  s.dev.tow.tick.spoiled = false ∧ (divRound (((s.dev.tow.ticks : Int) - s.dev.tow.tick.marker.1) * 16000 + (s.dev.stampPs 64
  reading) - s.dev.tow.tick.marker.2) 16000).toNat = 88 ∧ (high < 6000 ∨ 10000 < high) ∧
  w = s.dev.tow.tick.word * 2 + (if high < 6000 then 0 else 1) ∧ crc16 ((leBytes 9 (w / 65536)).reverse) ≠ w % 65536 :=
  ⟨(on (fun d => { d with cal := { inForce := setImgValid (setImgValid { base := .zero } 1 64) 1 65 }, tow := { running := true, pound := 600, ticks := 1088, tick := { pos := some 87, word := 5375115856, marker := (1000, 0) } } })),
    (0), (12000), (10750231713), by decide⟩
set_option maxRecDepth 20000 in
theorem witness_TickAndPps_tickInEdge_word : ∃ (s : State) (reading : Nat) (high : Nat) (w : Nat) (theta : Int), s.Running ∧
  s.dev.tow.running = true ∧ s.dev.stampBusy 64 = false ∧ s.dev.tickPlain = false ∧ s.dev.tow.tick.pos = some 87 ∧
  s.dev.tow.tick.spoiled = false ∧ (divRound (((s.dev.tow.ticks : Int) - s.dev.tow.tick.marker.1) * 16000 + (s.dev.stampPs 64
  reading) - s.dev.tow.tick.marker.2) 16000).toNat = 88 ∧ (high < 6000 ∨ 10000 < high) ∧
  w = s.dev.tow.tick.word * 2 + (if high < 6000 then 0 else 1) ∧ crc16 ((leBytes 9 (w / 65536)).reverse) = w % 65536 ∧
  theta = (s.dev.get F.TOW_TICK_CFG_TICK_DELAY_PS : Nat) - (((s.dev.tow.pound - BitVec.ofNat 64 (s.dev.tow.ticks -
  s.dev.tow.tick.marker.1)) - (BitVec.ofNat 64 (w / 2 ^ 24) - 128)).toInt * 16000 + s.dev.tow.tick.marker.2) ∧
  (s.dev.towAligned && s.dev.tow.phase == .idle && decide (8000 ≤ theta.natAbs)) = false ∧ (s.dev.role ≠ 4 ∧
  (s.dev.role ≠ 1 ∨ s.dev.tow.tickWord = false)) :=
  ⟨(on (fun d => { d with cal := { inForce := setImgValid (setImgValid { base := .zero } 1 64) 1 65 }, tow := { running := true, pound := 600, ticks := 1088, tick := { pos := some 87, word := 5375115858, marker := (1000, 0) } } })),
    (0), (12000), (10750231717), (0), by decide⟩
set_option maxRecDepth 20000 in
theorem witness_TickAndPps_tickInEdge_measured : ∃ (s : State) (reading : Nat) (high : Nat) (w : Nat) (theta : Int),
  s.Running ∧ s.dev.tow.running = true ∧ s.dev.stampBusy 64 = false ∧ s.dev.tickPlain = false ∧ s.dev.tow.tick.pos = some 87 ∧
  s.dev.tow.tick.spoiled = false ∧ (divRound (((s.dev.tow.ticks : Int) - s.dev.tow.tick.marker.1) * 16000 + (s.dev.stampPs 64
  reading) - s.dev.tow.tick.marker.2) 16000).toNat = 88 ∧ (high < 6000 ∨ 10000 < high) ∧
  w = s.dev.tow.tick.word * 2 + (if high < 6000 then 0 else 1) ∧ crc16 ((leBytes 9 (w / 65536)).reverse) = w % 65536 ∧
  theta = (s.dev.get F.TOW_TICK_CFG_TICK_DELAY_PS : Nat) - (((s.dev.tow.pound - BitVec.ofNat 64 (s.dev.tow.ticks -
  s.dev.tow.tick.marker.1)) - (BitVec.ofNat 64 (w / 2 ^ 24) - 128)).toInt * 16000 + s.dev.tow.tick.marker.2) ∧
  (s.dev.towAligned && s.dev.tow.phase == .idle && decide (8000 ≤ theta.natAbs)) = false ∧ (s.dev.role = 4 ∨ (s.dev.role = 1 ∧
  s.dev.tow.tickWord = true)) ∧ (s.dev.tow.phase = .source ∨ (s.dev.tow.phase = .idle ∧ s.dev.tow.engaged = false)) :=
  ⟨(on (fun d => { (d.put F.TOW_STAT_ROLE 0 4) with cal := { inForce := setImgValid (setImgValid { base := .zero } 1 64) 1 65 }, tow := { running := true, pound := 600, ticks := 1088, tick := { pos := some 87, word := 5375115858, marker := (1000, 0) } } })),
    (0), (12000), (10750231717), (0), by decide⟩
set_option maxRecDepth 20000 in
theorem witness_TickAndPps_tickInEdge_mismatch : ∃ (s : State) (reading : Nat) (high : Nat) (w : Nat) (theta : Int),
  s.Running ∧ s.dev.tow.running = true ∧ s.dev.stampBusy 64 = false ∧ s.dev.tickPlain = false ∧ s.dev.tow.tick.pos = some 87 ∧
  s.dev.tow.tick.spoiled = false ∧ (divRound (((s.dev.tow.ticks : Int) - s.dev.tow.tick.marker.1) * 16000 + (s.dev.stampPs 64
  reading) - s.dev.tow.tick.marker.2) 16000).toNat = 88 ∧ (high < 6000 ∨ 10000 < high) ∧
  w = s.dev.tow.tick.word * 2 + (if high < 6000 then 0 else 1) ∧ crc16 ((leBytes 9 (w / 65536)).reverse) = w % 65536 ∧
  theta = (s.dev.get F.TOW_TICK_CFG_TICK_DELAY_PS : Nat) - (((s.dev.tow.pound - BitVec.ofNat 64 (s.dev.tow.ticks -
  s.dev.tow.tick.marker.1)) - (BitVec.ofNat 64 (w / 2 ^ 24) - 128)).toInt * 16000 + s.dev.tow.tick.marker.2) ∧
  (s.dev.towAligned && s.dev.tow.phase == .idle && decide (8000 ≤ theta.natAbs)) = true :=
  ⟨(on (fun d => { ((d.put F.TOW_STAT_ALIGNED 0 1).put F.TOW_STAT_ROLE 0 4) with cal := { inForce := setImgValid (setImgValid { base := .zero } 1 64) 1 65 }, tow := { running := true, pound := 601, ticks := 1088, tick := { pos := some 87, word := 5375115858, marker := (1000, 0) } } })),
    (0), (12000), (10750231717), (-16000), by decide⟩
set_option maxRecDepth 20000 in
theorem witness_TickAndPps_tickInEdge_plain : ∃ (s : State) (reading : Nat) (theta : Int), s.Running ∧
  s.dev.tow.running = true ∧ s.dev.stampBusy 64 = false ∧ s.dev.tickPlain = true ∧
  theta = (if 8000 ≤ (((s.dev.get F.TOW_TICK_CFG_TICK_DELAY_PS : Nat) - (s.dev.stampPs 64 reading)) % 16000) then (((s.dev.get
  F.TOW_TICK_CFG_TICK_DELAY_PS : Nat) - (s.dev.stampPs 64 reading)) % 16000) - 16000 else (((s.dev.get
  F.TOW_TICK_CFG_TICK_DELAY_PS : Nat) - (s.dev.stampPs 64 reading)) % 16000)) ∧
  (s.dev.tow.phase = .source ∨ (s.dev.tow.phase = .idle ∧ s.dev.tow.engaged = false)) :=
  ⟨(on (fun d => { ((d.put F.TOW_STAT_ROLE 0 1).put F.TOW_TICK_CFG_TICK_DELAY_PS 0 900) with cal := { inForce := setImgValid (setImgValid { base := .zero } 1 64) 1 65 }, tow := { running := true, pound := 7, tickWord := false } })),
    (512), (100), by decide⟩
set_option maxRecDepth 20000 in
theorem witness_TickAndPps_tickInEdge_tracked : ∃ (s : State) (reading : Nat) (theta : Int), s.Running ∧
  s.dev.tow.running = true ∧ s.dev.stampBusy 64 = false ∧ s.dev.tickPlain = true ∧
  theta = (if 8000 ≤ (((s.dev.get F.TOW_TICK_CFG_TICK_DELAY_PS : Nat) - (s.dev.stampPs 64 reading)) % 16000) then (((s.dev.get
  F.TOW_TICK_CFG_TICK_DELAY_PS : Nat) - (s.dev.stampPs 64 reading)) % 16000) - 16000 else (((s.dev.get
  F.TOW_TICK_CFG_TICK_DELAY_PS : Nat) - (s.dev.stampPs 64 reading)) % 16000)) ∧ s.dev.tow.phase = .idle ∧
  s.dev.tow.engaged = true ∧ s.dev.towHold = false ∧ s.dev.tow.slew = false ∧ s.dev.is F.TOW_STAT_SERVO_PAUSED = false :=
  ⟨(on (fun d => { ((d.put F.TOW_STAT_ROLE 0 1).put F.TOW_TICK_CFG_TICK_DELAY_PS 0 900) with cal := { inForce := setImgValid (setImgValid { base := .zero } 1 64) 1 65 }, tow := { running := true, pound := 7, tickWord := false, engaged := true } })),
    (512), (100), by decide⟩
theorem witness_TickAndPps_tickInLost_unused : ∃ (s : State), s.Running ∧
  (decide (4 ≤ s.dev.tow.tick.missing) || (!s.dev.tickPlain && (decide (2 ≤ s.dev.tow.tick.badWords) ||
  s.dev.tow.tick.markerMissing))) = true ∧ ((s.dev.role ≠ 1 ∧ s.dev.role ≠ 4) ∨ s.dev.tow.engaged = false ∨ s.dev.towHold =
  true) :=
  ⟨(on (fun d => { d with tow := { running := true, tick := { run := 3, missing := 4, pos := some 3 } } })), by decide⟩
theorem witness_TickAndPps_tickInLost_holdover : ∃ (s : State), s.Running ∧
  (decide (4 ≤ s.dev.tow.tick.missing) || (!s.dev.tickPlain && (decide (2 ≤ s.dev.tow.tick.badWords) ||
  s.dev.tow.tick.markerMissing))) = true ∧ (s.dev.role = 1 ∨ s.dev.role = 4) ∧ s.dev.tow.engaged = true ∧
  s.dev.towHold = false :=
  ⟨(on (fun d => { (d.put F.TOW_STAT_ROLE 0 1) with tow := { running := true, engaged := true, hist := [4, 9], tick := { run := 3, missing := 4, pos := some 3 } } })),
    by decide⟩
theorem witness_TickAndPps_tickInLost_not : ∃ (s : State), s.Running ∧
  (decide (4 ≤ s.dev.tow.tick.missing) || (!s.dev.tickPlain && (decide (2 ≤ s.dev.tow.tick.badWords) ||
  s.dev.tow.tick.markerMissing))) = false :=
  ⟨(on (fun d => { d with tow := { running := true, tick := { run := 3, missing := 3 } } })), by decide⟩
set_option maxRecDepth 20000 in
theorem witness_TickAndPps_ppsInEdge_any : ∃ (s : State) (reading : Nat), s.Running ∧ s.dev.is F.TOW_PPS_CFG_PPS_IN_EN = true ∧
  s.dev.tow.running = true ∧ s.dev.stampBusy 65 = false ∧ (s.dev.tow.ppsAccepted.any (fun (y : PF) => decide (((s.dev.ppsStamp
  reading).time - y.time) * 16 < nsTime (10 ^ 9 - s.dev.ppsTol))) = false) :=
  ⟨(on (fun d => { (d.put F.TOW_PPS_CFG_PPS_IN_EN 0 1) with cal := { inForce := setImgValid (setImgValid { base := .zero } 1 64) 1 65 }, tow := { running := true, pound := 7 } })),
    (640), by decide⟩
set_option maxRecDepth 20000 in
theorem witness_TickAndPps_ppsInEdge_accepted : ∃ (s : State) (reading : Nat), s.Running ∧
  s.dev.is F.TOW_PPS_CFG_PPS_IN_EN = true ∧ s.dev.tow.running = true ∧ s.dev.stampBusy 65 = false ∧
  (s.dev.tow.ppsAccepted.any (fun (y : PF) => decide (((s.dev.ppsStamp reading).time - y.time) * 16 < nsTime (10 ^ 9 -
  s.dev.ppsTol))) = false) ∧ s.dev.role ≠ 2 :=
  ⟨(on (fun d => { (d.put F.TOW_PPS_CFG_PPS_IN_EN 0 1) with cal := { inForce := setImgValid (setImgValid { base := .zero } 1 64) 1 65 }, tow := { running := true, pound := 7 } })),
    (640), by decide⟩
set_option maxRecDepth 20000 in
theorem witness_TickAndPps_ppsInEdge_step : ∃ (s : State) (reading : Nat), s.Running ∧
  s.dev.is F.TOW_PPS_CFG_PPS_IN_EN = true ∧ s.dev.tow.running = true ∧ s.dev.stampBusy 65 = false ∧
  (s.dev.tow.ppsAccepted.any (fun (y : PF) => decide (((s.dev.ppsStamp reading).time - y.time) * 16 < nsTime (10 ^ 9 -
  s.dev.ppsTol))) = false) ∧ s.dev.role = 2 ∧ (s.dev.towAligned && s.dev.tow.phase == .idle && decide (1000 * s.dev.ppsTol <
  (s.dev.ppsTheta (s.dev.ppsStamp reading)).natAbs)) = true ∧ s.dev.towHold = false :=
  ⟨(on (fun d => { (((d.put F.TOW_PPS_CFG_PPS_IN_EN 0 1).put F.TOW_STAT_ROLE 0 2).put F.TOW_STAT_ALIGNED 0 1) with cal := { inForce := setImgValid (setImgValid { base := .zero } 1 64) 1 65 }, tow := { running := true, engaged := true, hist := [3, 4], pound := 30000000 } })),
    (640), by decide⟩
set_option maxRecDepth 20000 in
theorem witness_TickAndPps_ppsInEdge_measured : ∃ (s : State) (reading : Nat), s.Running ∧
  s.dev.is F.TOW_PPS_CFG_PPS_IN_EN = true ∧ s.dev.tow.running = true ∧ s.dev.stampBusy 65 = false ∧
  (s.dev.tow.ppsAccepted.any (fun (y : PF) => decide (((s.dev.ppsStamp reading).time - y.time) * 16 < nsTime (10 ^ 9 -
  s.dev.ppsTol))) = false) ∧ s.dev.role = 2 ∧ (s.dev.towAligned && s.dev.tow.phase == .idle && decide (1000 * s.dev.ppsTol <
  (s.dev.ppsTheta (s.dev.ppsStamp reading)).natAbs)) = false ∧ (s.dev.tow.phase = .source ∨ (s.dev.tow.phase = .idle ∧
  s.dev.tow.engaged = false)) :=
  ⟨(on (fun d => { ((d.put F.TOW_PPS_CFG_PPS_IN_EN 0 1).put F.TOW_STAT_ROLE 0 2) with cal := { inForce := setImgValid (setImgValid { base := .zero } 1 64) 1 65 }, tow := { running := true, phase := .source, pound := 7 } })),
    (640), by decide⟩
set_option maxRecDepth 20000 in
theorem witness_TickAndPps_ppsInEdge_spurious : ∃ (s : State) (reading : Nat), s.Running ∧
  s.dev.is F.TOW_PPS_CFG_PPS_IN_EN = true ∧ s.dev.tow.running = true ∧ s.dev.stampBusy 65 = false ∧
  (s.dev.tow.ppsAccepted.any (fun (y : PF) => decide (((s.dev.ppsStamp reading).time - y.time) * 16 < nsTime (10 ^ 9 -
  s.dev.ppsTol))) = true) :=
  ⟨(on (fun d => { (d.put F.TOW_PPS_CFG_PPS_IN_EN 0 1) with cal := { inForce := setImgValid (setImgValid { base := .zero } 1 64) 1 65 }, tow := { running := true, pound := 7, ppsAccepted := some (PF.mk 6 5) } })),
    (640), by decide⟩
set_option maxRecDepth 20000 in
theorem witness_TickAndPps_ppsInEdge_disabled : ∃ (s : State), s.Running ∧
  (s.dev.is F.TOW_PPS_CFG_PPS_IN_EN = false ∨ s.dev.tow.running = false ∨ s.dev.stampBusy 65 = true) :=
  ⟨(on (fun d => { d with tow := { running := true, pound := 7 } })), by decide⟩
theorem witness_TickAndPps_ppsInLost_unused : ∃ (s : State) (y : PF), s.Running ∧ s.dev.is F.TOW_PPS_CFG_PPS_IN_EN = true ∧
  s.dev.tow.ppsAccepted = some y ∧ nsTime (10 ^ 9 + s.dev.ppsTol) < ((s.dev.tow.pound.toNat + 1 : Nat) * 2 ^ 24 - y.time) * 16
  ∧ (s.dev.role ≠ 2 ∨ s.dev.tow.engaged = false ∨ s.dev.towHold = true) :=
  ⟨(on (fun d => { (d.put F.TOW_PPS_CFG_PPS_IN_EN 0 1) with tow := { running := true, pound := 700000000, ppsAccepted := some (PF.mk 6 5) } })),
    (PF.mk 6 5), by decide⟩
theorem witness_TickAndPps_ppsInLost_holdover : ∃ (s : State) (y : PF), s.Running ∧ s.dev.is F.TOW_PPS_CFG_PPS_IN_EN = true ∧
  s.dev.tow.ppsAccepted = some y ∧ nsTime (10 ^ 9 + s.dev.ppsTol) < ((s.dev.tow.pound.toNat + 1 : Nat) * 2 ^ 24 - y.time) * 16
  ∧ s.dev.role = 2 ∧ s.dev.tow.engaged = true ∧ s.dev.towHold = false :=
  ⟨(on (fun d => { ((d.put F.TOW_PPS_CFG_PPS_IN_EN 0 1).put F.TOW_STAT_ROLE 0 2) with tow := { running := true, engaged := true, pound := 700000000, ppsAccepted := some (PF.mk 6 5) } })),
    (PF.mk 6 5), by decide⟩
theorem witness_TickAndPps_ppsInLost_not : ∃ (s : State), s.Running ∧
  (s.dev.tow.ppsAccepted = none ∨ s.dev.is F.TOW_PPS_CFG_PPS_IN_EN = false) :=
  ⟨(on (fun d => { d with tow := { running := true, pound := 7 } })), by decide⟩
theorem witness_TickAndPps_ppsOutPulse : ∃ (s : State), s.Running ∧
  (s.dev.is F.TOW_PPS_CFG_PPS_OUT_EN && s.dev.tow.running && decide (((s.dev.tow.pound.toNat + 62500000 - s.dev.get
  F.TOW_PPS_OUT_OFFSET_OFFSET % 62500000) % 62500000) = 0)) = true :=
  ⟨(on (fun d => { ((d.put F.TOW_PPS_CFG_PPS_OUT_EN 0 1).put F.TOW_PPS_OUT_OFFSET_OFFSET 0 7) with tow := { running := true, pound := 62500007 } })),
    by decide⟩
theorem witness_TickAndPps_ppsOutPulse_not : ∃ (s : State), s.Running ∧
  (s.dev.is F.TOW_PPS_CFG_PPS_OUT_EN && s.dev.tow.running && decide (((s.dev.tow.pound.toNat + 62500000 - s.dev.get
  F.TOW_PPS_OUT_OFFSET_OFFSET % 62500000) % 62500000) = 0)) = false :=
  ⟨(on (fun d => { ((d.put F.TOW_PPS_CFG_PPS_OUT_EN 0 1).put F.TOW_PPS_OUT_OFFSET_OFFSET 0 7) with tow := { running := true, pound := 62500006 } })),
    by decide⟩
theorem witness_TickAndPps_poundBoundary_ppsOut : ∃ (s : State), s.Running ∧ s.dev.tow.running = true :=
  ⟨(on (fun d => { d with tow := { running := true, ppsHigh := some 5, ticks := 7 } })), by decide⟩
theorem witness_TickAndPps_ppsOutEnd : ∃ (s : State), s.Running ∧ s.dev.tow.ppsHigh = some 0 :=
  ⟨(on (fun d => { d with tow := { running := true, ppsHigh := some 0 } })), by decide⟩
theorem witness_TickAndPps_ppsOutEnd_not : ∃ (s : State), s.Running ∧ s.dev.tow.ppsHigh ≠ some 0 :=
  ⟨(on (fun d => { d with tow := { running := true, ppsHigh := some 1 } })), by decide⟩
theorem witness_TimePort_timeRxFrame_ring : ∃ (s : State) (frame : List Byte) (good : Bool) (r : Nat), s.Running ∧
  s.dev.tptOpen = true ∧ s.dev.tptMode = 2 ∧ (s.dev.ptpAccepts frame good).isSome = true ∧
  (((List.range 16).map (fun i => (s.dev.get F.TPT_STAT_RX_HEAD + i) % 16)).find? (fun r => !(s.dev.rxSlot r).valid) =
  some r) ∧ frame.length ≤ 256 :=
  ⟨(on (fun d => { ((((d.put F.CLK_BLK_STAT_STATE 116 2).put F.TPT_CTRL_MODE 0 2).put F.TPT_CTRL_L2_EN 0 1).put F.TPT_CTRL_DOMAIN 0 0) with tpt := { slots := [(0, { valid := true })] } })),
    ([0x01, 0x1B, 0x19, 0, 0, 0, 1, 2, 3, 4, 5, 6, 0x88, 0xF7, 0, 2, 0, 44, 0, 0]), (true), (1), by decide⟩
theorem witness_TimePort_timeRxFrame_dropped : ∃ (s : State) (frame : List Byte) (good : Bool), s.Running ∧
  s.dev.tptOpen = true ∧ s.dev.tptMode ≠ 0 ∧ (s.dev.ptpAccepts frame good).isSome = false ∨ (s.dev.tptMode = 2 ∧
  (256 < frame.length ∨ (((List.range 16).map (fun i => (s.dev.get F.TPT_STAT_RX_HEAD + i) % 16)).find? (fun r =>
  !(s.dev.rxSlot r).valid)).isSome = false)) :=
  ⟨(on (fun d => ((d.put F.CLK_BLK_STAT_STATE 116 2).put F.TPT_CTRL_MODE 0 2))), ([0x01, 0x1B, 0x19, 0, 0, 0, 1, 2, 3, 4, 5, 6,
    0x88, 0xF7, 0, 2, 0, 44, 0, 0]), (false), by decide⟩
theorem witness_TimePort_timeRxFrame_client : ∃ (s : State) (frame : List Byte) (good : Bool), s.Running ∧
  s.dev.tptOpen = true ∧ s.dev.tptMode = 1 ∧ (s.dev.ptpAccepts frame good).isSome = true :=
  ⟨(on (fun d => ((((d.put F.CLK_BLK_STAT_STATE 116 2).put F.TPT_CTRL_MODE 0 1).put F.TPT_CTRL_L2_EN 0 1).put F.TPT_CTRL_DOMAIN
    0 0))), ([0x01, 0x1B, 0x19, 0, 0, 0, 1, 2, 3, 4, 5, 6, 0x88, 0xF7, 0, 2, 0, 44, 0, 0]), (true), by decide⟩
set_option maxRecDepth 20000 in
theorem witness_TimePort_timeRxFrame_announce : ∃ (s : State) (frame : List Byte) (good : Bool) (k : Nat), s.Running ∧
  s.dev.tptOpen = true ∧ s.dev.tptMode = 1 ∧ s.dev.kpr.restarting = false ∧ s.dev.ptpAccepts frame good = some k ∧
  beAt frame k 1 % 16 = 11 ∧ s.dev.tpt.ptp.parent = none :=
  ⟨(on (fun d => (((((d.put F.CLK_BLK_STAT_STATE 116 2).put F.TPT_CTRL_MODE 0 1).put F.TPT_CTRL_L2_EN 0 1).put
    F.TPT_CTRL_DOMAIN 0 3).put F.TPT_STAT_PORT_STATE 0 2))), (([0x01, 0x1B, 0x19, 0, 0, 0, 1, 2, 3, 4, 5, 6, 0x88, 0xF7, 0x0B,
    2, 0, 64] ++ List.replicate 44 3)), (true), (14), by decide⟩
theorem witness_TimePort_timeRxFrame_off : ∃ (s : State), s.Running ∧ (s.dev.tptOpen = false ∨ s.dev.tptMode = 0) :=
  ⟨(on (fun d => ((d.put F.CLK_BLK_STAT_STATE 116 2).put F.TPT_CTRL_MODE 0 0))), by decide⟩
theorem witness_TimePort_rxRelease : ∃ (s : State), s.Running ∧ s.dev.blockClosed 116 = false :=
  ⟨(on (fun d => { (d.put F.CLK_BLK_STAT_STATE 116 2) with tpt := { slots := [(0, { valid := true })] } })), by decide⟩
theorem witness_TimePort_timeTxSend_sends : ∃ (s : State) (v : Word), s.Running ∧ s.dev.tptOpen = true ∧ s.dev.tptMode = 2 ∧
  bit (s.dev.get F.TPT_STAT_TX_BUSY) (bits v.toNat 30 30) = false :=
  ⟨(on (fun d => ((d.put F.CLK_BLK_STAT_STATE 116 2).put F.TPT_CTRL_MODE 0 2))), (0x40140064), by decide⟩
theorem witness_TimePort_timeTxSend_refused : ∃ (s : State) (v : Word), s.Running ∧ s.dev.tptOpen = true ∧ s.dev.tptMode = 2 ∧
  bit (s.dev.get F.TPT_STAT_TX_BUSY) (bits v.toNat 30 30) = true :=
  ⟨(on (fun d => (((d.put F.CLK_BLK_STAT_STATE 116 2).put F.TPT_CTRL_MODE 0 2).put F.TPT_STAT_TX_BUSY 0 2))), (0x40140064),
    by decide⟩
theorem witness_TimePort_timeTxSend_otherMode : ∃ (s : State), s.Running ∧ s.dev.tptOpen = true ∧ s.dev.tptMode ≠ 2 :=
  ⟨(on (fun d => ((d.put F.CLK_BLK_STAT_STATE 116 2).put F.TPT_CTRL_MODE 0 1))), by decide⟩
theorem witness_TimePort_timeTxDone_general : ∃ (s : State) (b : Fin 2) (len : Nat) (ofs : Nat), s.Running ∧
  s.dev.tptOpen = true ∧ s.dev.tpt.wire = some b.val ∧ Store.get? s.dev.tpt.sending b.val = some (len, ofs) ∧
  (4 ≤ (s.dev.txByte b.val ofs).toNat % 16 ∨ s.dev.tptMode ≠ 2) :=
  ⟨(on (fun d => { (((d.put F.CLK_BLK_STAT_STATE 116 2).put F.TPT_CTRL_MODE 0 2).put F.TPT_STAT_TX_BUSY 0 2) with tpt := { sending := [(1, (60, 14))], wire := some 1, tx := [(270, 0x1B)] } })),
    (1), (60), (14), by decide⟩
theorem witness_TimePort_timeTxDone_event : ∃ (s : State) (b : Fin 2) (len : Nat) (ofs : Nat) (n : Nat), s.Running ∧
  s.dev.tptOpen = true ∧ s.dev.tpt.wire = some b.val ∧ Store.get? s.dev.tpt.sending b.val = some (len, ofs) ∧
  s.dev.tptMode = 2 ∧ (s.dev.txByte b.val ofs).toNat % 16 ≤ 3 ∧ ((List.range 4).find? (fun n => !s.dev.is F.TPT_TXTS_FRAC_VALID
  n) = some n) :=
  ⟨(on (fun d => { ((((d.put F.CLK_BLK_STAT_STATE 116 2).put F.TPT_CTRL_MODE 0 2).put F.TPT_STAT_TX_BUSY 0 2).put F.TPT_TXTS_FRAC_VALID 0 1) with tpt := { sending := [(1, (60, 14))], wire := some 1, tx := [(270, 0x11)] } })),
    (1), (60), (14), (1), by decide⟩
theorem witness_TimePort_timeTxDone_overrun : ∃ (s : State) (b : Fin 2) (len : Nat) (ofs : Nat), s.Running ∧
  s.dev.tptOpen = true ∧ s.dev.tpt.wire = some b.val ∧ Store.get? s.dev.tpt.sending b.val = some (len, ofs) ∧
  s.dev.tptMode = 2 ∧ (s.dev.txByte b.val ofs).toNat % 16 ≤ 3 ∧ (((List.range 4).find? (fun n => !s.dev.is
  F.TPT_TXTS_FRAC_VALID n)).isSome = false) :=
  ⟨(on (fun d => { (((((((d.put F.CLK_BLK_STAT_STATE 116 2).put F.TPT_CTRL_MODE 0 2).put F.TPT_STAT_TX_BUSY 0 2).put F.TPT_TXTS_FRAC_VALID 0 1).put F.TPT_TXTS_FRAC_VALID 1 1).put F.TPT_TXTS_FRAC_VALID 2 1).put F.TPT_TXTS_FRAC_VALID 3 1) with tpt := { sending := [(1, (60, 14))], wire := some 1, tx := [(270, 0x11)] } })),
    (1), (60), (14), by decide⟩
theorem witness_TimePort_timeTxDone_closing : ∃ (s : State) (b : Fin 2) (len : Nat) (ofs : Nat), s.Running ∧
  s.dev.tptOpen = false ∧ s.dev.tpt.wire = some b.val ∧ Store.get? s.dev.tpt.sending b.val = some (len, ofs) :=
  ⟨(on (fun d => { (((d.put F.CLK_BLK_STAT_STATE 116 3).put F.TPT_CTRL_MODE 0 2).put F.TPT_STAT_TX_BUSY 0 2) with tpt := { sending := [(1, (60, 14))], wire := some 1, tx := [(270, 0x11)] } })),
    (1), (60), (14), by decide⟩
theorem witness_TimePort_timeTxDone_none : ∃ (s : State) (b : Fin 2), s.Running ∧
  (s.dev.tpt.wire ≠ some b.val ∨ Store.get? s.dev.tpt.sending b.val = none) :=
  ⟨(on (fun d => (d.put F.CLK_BLK_STAT_STATE 116 2))), (1), by decide⟩
theorem witness_TimePort_txtsRelease : ∃ (s : State), s.Running ∧ s.dev.blockClosed 116 = false :=
  ⟨(on (fun d => ((d.put F.CLK_BLK_STAT_STATE 116 2).put F.TPT_TXTS_FRAC_VALID 2 1))), by decide⟩
theorem witness_TimePort_ptpDelayReq : ∃ (s : State), s.Running ∧
  (s.dev.portInUse && !s.dev.kpr.restarting && decide (3 ≤ s.dev.portState) && decide (s.dev.portState ≤ 4)) = true :=
  ⟨(on (fun d => (((d.put F.CLK_BLK_STAT_STATE 116 2).put F.TPT_CTRL_MODE 0 1).put F.TPT_STAT_PORT_STATE 0 4))), by decide⟩
theorem witness_TimePort_ptpDelayReq_not : ∃ (s : State), s.Running ∧
  (s.dev.portInUse && !s.dev.kpr.restarting && decide (3 ≤ s.dev.portState) && decide (s.dev.portState ≤ 4)) = false :=
  ⟨(on (fun d => (d.put F.CLK_BLK_STAT_STATE 116 2))), by decide⟩
theorem witness_TimePort_ptpAnnounceTimeout : ∃ (s : State), s.Running ∧
  (s.dev.portInUse && !s.dev.kpr.restarting && decide (3 ≤ s.dev.portState) && decide (s.dev.portState ≤ 4)) = true :=
  ⟨(on (fun d => (((d.put F.CLK_BLK_STAT_STATE 116 2).put F.TPT_CTRL_MODE 0 1).put F.TPT_STAT_PORT_STATE 0 4))), by decide⟩
theorem witness_TimePort_ptpAnnounceTimeout_not : ∃ (s : State), s.Running ∧
  (s.dev.portInUse && !s.dev.kpr.restarting && decide (3 ≤ s.dev.portState) && decide (s.dev.portState ≤ 4)) = false :=
  ⟨(on (fun d => (d.put F.CLK_BLK_STAT_STATE 116 2))), by decide⟩
theorem witness_TimePort_timeLinkChange : ∃ (s : State) (up : Bool), s.Running ∧ s.dev.tptOpen = true ∧
  s.dev.is F.TPT_STAT_LINK ≠ up :=
  ⟨(on (fun d => (d.put F.CLK_BLK_STAT_STATE 116 2))), (true), by decide⟩
theorem witness_TimePort_timeLinkChange_same : ∃ (s : State) (up : Bool), s.Running ∧
  (s.dev.tptOpen = false ∨ s.dev.is F.TPT_STAT_LINK = up) :=
  ⟨(on (fun d => (d.put F.CLK_BLK_STAT_STATE 116 2))), (false), by decide⟩
theorem witness_TimePort_timeModeChange_same : ∃ (s : State) (v : Word), s.Running ∧ s.dev.blockClosed 116 = false ∧
  bits v.toNat 31 30 = s.dev.get F.TPT_CTRL_MODE :=
  ⟨(on (fun d => ((d.put F.CLK_BLK_STAT_STATE 116 2).put F.TPT_CTRL_MODE 0 2))), (0x81000500), by decide⟩
theorem witness_TimePort_timeModeChange_change : ∃ (s : State) (v : Word), s.Running ∧ s.dev.blockClosed 116 = false ∧
  bits v.toNat 31 30 ≠ s.dev.get F.TPT_CTRL_MODE :=
  ⟨(on (fun d => (((d.put F.CLK_BLK_STAT_STATE 116 2).put F.TPT_CTRL_MODE 0 1).put F.TPT_STAT_PORT_STATE 0 4))), (0x81000500),
    by decide⟩
theorem witness_TimePort_timeModeChange_closed : ∃ (s : State), s.Running ∧ s.dev.blockClosed 116 = true :=
  ⟨(on (fun d => (d.put F.CLK_BLK_STAT_STATE 116 0))), by decide⟩
set_option maxRecDepth 20000 in
theorem witness_CalibrationStart_calStart_begins : ∃ (s : State) (v : Word), s.Running ∧
  (!s.dev.kpr.restarting && s.dev.is F.KPR_STAT_RUNNING) = true ∧
  (s.dev.cal.applyAt.all (fun (p : Pound) => decide (s.dev.tow.pound.toNat < p.toNat)) = true) ∧
  s.dev.is F.CAL_CMD_STORE = false ∧ s.dev.calBusy = false ∧ bits v.toNat 7 0 < unitCount (bits v.toNat 10 8) ∧
  s.dev.calFail (bits v.toNat 10 8) (bits v.toNat 7 0) true = none ∧ bits v.toNat 10 8 ≠ 0 ∧ bits v.toNat 10 8 ≠ 3 :=
  ⟨(on (fun d => { ((d.put F.KPR_STAT_RUNNING 0 1).put F.CLK_REF_STAT_READY 0 16) with tow := { running := true } })), (0x103),
    by decide⟩
set_option maxRecDepth 20000 in
theorem witness_CalibrationStart_calStart_monitor : ∃ (s : State) (v : Word), s.Running ∧
  (!s.dev.kpr.restarting && s.dev.is F.KPR_STAT_RUNNING) = true ∧
  (s.dev.cal.applyAt.all (fun (p : Pound) => decide (s.dev.tow.pound.toNat < p.toNat)) = true) ∧
  s.dev.is F.CAL_CMD_STORE = false ∧ s.dev.calBusy = false ∧ bits v.toNat 7 0 < unitCount (bits v.toNat 10 8) ∧
  s.dev.calFail (bits v.toNat 10 8) (bits v.toNat 7 0) true = none ∧ bits v.toNat 10 8 = 0 :=
  ⟨(on (fun d => { (((((d.put F.KPR_STAT_RUNNING 0 1).put F.CLK_REF_STAT_READY 0 16).put F.CLK_BLK_STAT_STATE 67 2).put F.LOOP_STAT_STATE 3 4).put F.LOOP_STAT_LOCK 3 1) with tow := { running := true } })),
    (0x3), by decide⟩
set_option maxRecDepth 20000 in
theorem witness_CalibrationStart_calStart_bands : ∃ (s : State) (v : Word) (e : Nat) (rest : List Nat), s.Running ∧
  (!s.dev.kpr.restarting && s.dev.is F.KPR_STAT_RUNNING) = true ∧
  (s.dev.cal.applyAt.all (fun (p : Pound) => decide (s.dev.tow.pound.toNat < p.toNat)) = true) ∧
  s.dev.is F.CAL_CMD_STORE = false ∧ s.dev.calBusy = false ∧ bits v.toNat 7 0 < unitCount (bits v.toNat 10 8) ∧
  s.dev.calFail (bits v.toNat 10 8) (bits v.toNat 7 0) true = none ∧ bits v.toNat 10 8 = 3 ∧
  s.dev.validBands (bits v.toNat 7 0) = e :: rest :=
  ⟨(on (fun d => { (((((d.put F.KPR_STAT_RUNNING 0 1).put F.CLK_REF_STAT_READY 0 16).put F.CLK_BLK_STAT_STATE 67 2).put F.LOOP_STAT_STATE 3 1)) with bandMap := (List.range 256).map (fun k => (768 + k, if k = 20 then 0x80000000 else if k = 21 then 0x500000 else if k = 22 then 0x520000 else 0)), tow := { running := true } })),
    (0x303), (5), ([]), by decide⟩
set_option maxRecDepth 20000 in
theorem witness_CalibrationStart_calStart_noUnit : ∃ (s : State) (v : Word), s.Running ∧
  (!s.dev.kpr.restarting && s.dev.is F.KPR_STAT_RUNNING) = true ∧
  (s.dev.cal.applyAt.all (fun (p : Pound) => decide (s.dev.tow.pound.toNat < p.toNat)) = true) ∧
  s.dev.is F.CAL_CMD_STORE = false ∧ s.dev.calBusy = false ∧ unitCount (bits v.toNat 10 8) ≤ bits v.toNat 7 0 :=
  ⟨(on (fun d => (d.put F.KPR_STAT_RUNNING 0 1))), (0x1F0), by decide⟩
set_option maxRecDepth 20000 in
theorem witness_CalibrationStart_calStart_fails : ∃ (s : State) (v : Word) (c : Nat), s.Running ∧
  (!s.dev.kpr.restarting && s.dev.is F.KPR_STAT_RUNNING) = true ∧
  (s.dev.cal.applyAt.all (fun (p : Pound) => decide (s.dev.tow.pound.toNat < p.toNat)) = true) ∧
  s.dev.is F.CAL_CMD_STORE = false ∧ s.dev.calBusy = false ∧ bits v.toNat 7 0 < unitCount (bits v.toNat 10 8) ∧
  s.dev.calFail (bits v.toNat 10 8) (bits v.toNat 7 0) true = some c :=
  ⟨(on (fun d => (d.put F.KPR_STAT_RUNNING 0 1))), (0x103), (0x10), by decide⟩
set_option maxRecDepth 20000 in
theorem witness_CalibrationStart_calStart_refused : ∃ (s : State), s.Running ∧
  (!s.dev.kpr.restarting && s.dev.is F.KPR_STAT_RUNNING) = true ∧
  (s.dev.cal.applyAt.all (fun (p : Pound) => decide (s.dev.tow.pound.toNat < p.toNat)) = true) ∧
  s.dev.is F.CAL_CMD_STORE = false ∧ s.dev.calBusy = true :=
  ⟨(on (fun d => ((d.put F.KPR_STAT_RUNNING 0 1).put F.CAL_STAT_BUSY 0 1))), by decide⟩
set_option maxRecDepth 20000 in
theorem witness_CalibrationStart_calStart_waits : ∃ (s : State), s.Running ∧
  (!s.dev.kpr.restarting && s.dev.is F.KPR_STAT_RUNNING) = false ∧
  (s.dev.cal.applyAt.all (fun (p : Pound) => decide (s.dev.tow.pound.toNat < p.toNat)) = true) :=
  ⟨(base), by decide⟩
theorem witness_CalibrationStart_calAbort : ∃ (s : State), s.Running ∧
  ((!s.dev.kpr.restarting && s.dev.is F.KPR_STAT_RUNNING) && (s.dev.is F.CAL_CMD_STORE || s.dev.is F.CAL_CMD_GO)) = false ∧
  (s.dev.cal.applyAt.all (fun (p : Pound) => decide (s.dev.tow.pound.toNat < p.toNat)) = true) ∧ s.dev.calBusy = true ∧
  s.dev.calKind ≠ 0 ∧ s.dev.calKind ≠ 3 :=
  ⟨(on (fun d => { (((d.put F.KPR_STAT_RUNNING 0 1).put F.CAL_STAT_BUSY 0 1).put F.CAL_STAT_KIND 0 1) with cal := { first := some {} } })),
    by decide⟩
theorem witness_CalibrationStart_calAbort_core : ∃ (s : State), s.Running ∧
  ((!s.dev.kpr.restarting && s.dev.is F.KPR_STAT_RUNNING) && (s.dev.is F.CAL_CMD_STORE || s.dev.is F.CAL_CMD_GO)) = false ∧
  (s.dev.cal.applyAt.all (fun (p : Pound) => decide (s.dev.tow.pound.toNat < p.toNat)) = true) ∧ s.dev.calBusy = true ∧
  (s.dev.calKind = 0 ∨ s.dev.calKind = 3) :=
  ⟨(on (fun d => { ((((d.put F.KPR_STAT_RUNNING 0 1).put F.CAL_STAT_BUSY 0 1).put F.CAL_STAT_KIND 0 0).put F.CLK_BLK_STAT_STATE 64 2) with cal := { first := some {} } })),
    by decide⟩
theorem witness_CalibrationStart_calAbort_none : ∃ (s : State), s.Running ∧
  ((!s.dev.kpr.restarting && s.dev.is F.KPR_STAT_RUNNING) && (s.dev.is F.CAL_CMD_STORE || s.dev.is F.CAL_CMD_GO)) = false ∧
  (s.dev.cal.applyAt.all (fun (p : Pound) => decide (s.dev.tow.pound.toNat < p.toNat)) = true) ∧ s.dev.calBusy = false :=
  ⟨(on (fun d => (d.put F.KPR_STAT_RUNNING 0 1))), by decide⟩
theorem witness_CalibrationStart_calPreconditionFail : ∃ (s : State) (code : Byte), s.Running ∧ s.dev.calBusy = true ∧
  s.dev.calFail s.dev.calKind s.dev.calUnit false = some code.toNat ∧ s.dev.calKind ≠ 0 ∧ s.dev.calKind ≠ 3 :=
  ⟨(on (fun d => { (((d.put F.KPR_STAT_RUNNING 0 1).put F.CAL_STAT_BUSY 0 1).put F.CAL_STAT_KIND 0 1) with cal := { first := some {} } })),
    (0x10), by decide⟩
theorem witness_CalibrationStart_calPreconditionFail_core : ∃ (s : State) (code : Byte), s.Running ∧ s.dev.calBusy = true ∧
  s.dev.calFail s.dev.calKind s.dev.calUnit false = some code.toNat ∧ (s.dev.calKind = 0 ∨ s.dev.calKind = 3) :=
  ⟨(on (fun d => { ((((d.put F.KPR_STAT_RUNNING 0 1).put F.CAL_STAT_BUSY 0 1).put F.CAL_STAT_KIND 0 0).put F.CLK_BLK_STAT_STATE 64 2) with cal := { first := some {} } })),
    (0x10), by decide⟩
theorem witness_CalibrationStart_calPreconditionFail_none : ∃ (s : State) (code : Byte), s.Running ∧
  (s.dev.calBusy = false ∨ s.dev.calFail s.dev.calKind s.dev.calUnit false ≠ some code.toNat) :=
  ⟨(base), (0x10), by decide⟩
set_option maxRecDepth 20000 in
theorem witness_CalibrationRuns_calRunDone_histogram : ∃ (s : State) (bins : List Nat) (grid : List Nat), s.Running ∧
  s.dev.calBusy = true ∧ s.dev.calKind ≤ 2 ∧ s.dev.get F.CAL_STAT_RUN ≠ 3 ∧ bins.length = codeCount s.dev.calKind + 1 ∧
  bins.foldl (· + ·) 0 = (s.dev.calHits s.dev.calKind) ∧ grid.length = calGrid s.dev.calKind ∧
  grid.foldl (· + ·) 0 = (s.dev.calHits s.dev.calKind) ∧ s.dev.calFail s.dev.calKind s.dev.calUnit false = none ∧
  uniform (s.dev.calHits s.dev.calKind) (calGrid s.dev.calKind) (max 1 (s.dev.get F.CAL_CFG_UNIF_SIGMA)) (gridDev
  (s.dev.calHits s.dev.calKind) (calGrid s.dev.calKind) grid) = true ∧
  (missingCode bins || (s.dev.calKind != 2 && bins.getD (codeCount s.dev.calKind) 0 != 0)) = false :=
  ⟨(on (fun d => { ((((((((d.put F.CAL_STAT_BUSY 0 1).put F.CAL_STAT_KIND 0 1).put F.CAL_STAT_RUN 0 1).put F.CAL_STAT_UNIT 0 3).put F.CAL_CFG_TDC_HITS_LOG 0 20).put F.CAL_CFG_DLY_HITS_LOG 0 20).put F.CAL_CFG_UNIF_SIGMA 0 4).put F.CLK_REF_STAT_READY 0 16) with tow := { running := true } })),
    ((List.replicate 512 2048 ++ [0])), ([524288, 524288]), by decide⟩
set_option maxRecDepth 20000 in
theorem witness_CalibrationRuns_calRunDone_badHistogram : ∃ (s : State) (bins : List Nat) (grid : List Nat) (c : Nat),
  s.Running ∧ s.dev.calBusy = true ∧ s.dev.calKind ≤ 2 ∧ s.dev.get F.CAL_STAT_RUN ≠ 3 ∧
  bins.length = codeCount s.dev.calKind + 1 ∧ bins.foldl (· + ·) 0 = (s.dev.calHits s.dev.calKind) ∧
  grid.length = calGrid s.dev.calKind ∧ grid.foldl (· + ·) 0 = (s.dev.calHits s.dev.calKind) ∧
  ((s.dev.calFail s.dev.calKind s.dev.calUnit false).isSome = true ∨ uniform (s.dev.calHits s.dev.calKind) (calGrid
  s.dev.calKind) (max 1 (s.dev.get F.CAL_CFG_UNIF_SIGMA)) (gridDev (s.dev.calHits s.dev.calKind) (calGrid s.dev.calKind) grid)
  = false ∨ (missingCode bins || (s.dev.calKind != 2 && bins.getD (codeCount s.dev.calKind) 0 != 0)) = true) ∧
  c = (match s.dev.calFail s.dev.calKind s.dev.calUnit false with | some x => x | none => (if (!uniform (s.dev.calHits
  s.dev.calKind) (calGrid s.dev.calKind) (max 1 (s.dev.get F.CAL_CFG_UNIF_SIGMA)) (gridDev (s.dev.calHits s.dev.calKind)
  (calGrid s.dev.calKind) grid)) then 0x14 else 0x16)) ∧ s.dev.calKind ≠ 0 ∧ s.dev.calKind ≠ 3 :=
  ⟨(on (fun d => { ((((((((d.put F.CAL_STAT_BUSY 0 1).put F.CAL_STAT_KIND 0 1).put F.CAL_STAT_RUN 0 1).put F.CAL_STAT_UNIT 0 3).put F.CAL_CFG_TDC_HITS_LOG 0 20).put F.CAL_CFG_DLY_HITS_LOG 0 20).put F.CAL_CFG_UNIF_SIGMA 0 4).put F.CLK_REF_STAT_READY 0 16) with tow := { running := true } })),
    ((List.replicate 511 2052 ++ [0, 4])), ([524288, 524288]), (0x16), by decide⟩
set_option maxRecDepth 20000 in
theorem witness_CalibrationRuns_calRunDone_badHistogramCore : ∃ (s : State) (bins : List Nat) (grid : List Nat) (c : Nat),
  s.Running ∧ s.dev.calBusy = true ∧ s.dev.calKind ≤ 2 ∧ s.dev.get F.CAL_STAT_RUN ≠ 3 ∧
  bins.length = codeCount s.dev.calKind + 1 ∧ bins.foldl (· + ·) 0 = (s.dev.calHits s.dev.calKind) ∧
  grid.length = calGrid s.dev.calKind ∧ grid.foldl (· + ·) 0 = (s.dev.calHits s.dev.calKind) ∧
  ((s.dev.calFail s.dev.calKind s.dev.calUnit false).isSome = true ∨ uniform (s.dev.calHits s.dev.calKind) (calGrid
  s.dev.calKind) (max 1 (s.dev.get F.CAL_CFG_UNIF_SIGMA)) (gridDev (s.dev.calHits s.dev.calKind) (calGrid s.dev.calKind) grid)
  = false ∨ (missingCode bins || (s.dev.calKind != 2 && bins.getD (codeCount s.dev.calKind) 0 != 0)) = true) ∧
  c = (match s.dev.calFail s.dev.calKind s.dev.calUnit false with | some x => x | none => (if (!uniform (s.dev.calHits
  s.dev.calKind) (calGrid s.dev.calKind) (max 1 (s.dev.get F.CAL_CFG_UNIF_SIGMA)) (gridDev (s.dev.calHits s.dev.calKind)
  (calGrid s.dev.calKind) grid)) then 0x14 else 0x16)) ∧ (s.dev.calKind = 0 ∨ s.dev.calKind = 3) :=
  ⟨(on (fun d => { (((((((((((d.put F.CAL_STAT_BUSY 0 1).put F.CLK_BLK_STAT_STATE 67 2).put F.LOOP_STAT_STATE 3 4).put F.LOOP_STAT_LOCK 3 1).put F.CAL_STAT_KIND 0 0).put F.CAL_STAT_RUN 0 1).put F.CAL_STAT_UNIT 0 3).put F.CAL_CFG_TDC_HITS_LOG 0 20).put F.CAL_CFG_DLY_HITS_LOG 0 20).put F.CAL_CFG_UNIF_SIGMA 0 4).put F.CLK_REF_STAT_READY 0 16) with tow := { running := true } })),
    ((List.replicate 2048 512 ++ [0])), ([4, 1048572]), (0x14), by decide⟩
set_option maxRecDepth 20000 in
theorem witness_CalibrationRuns_calRunDone_firstMean : ∃ (s : State) (readings : List (Int × Nat)) (offset : Int), s.Running ∧
  s.dev.calBusy = true ∧ s.dev.calKind ≤ 2 ∧ s.dev.get F.CAL_STAT_RUN = 3 ∧ readingCount readings = 65536 ∧
  (offset = divRound (readingSum (readings.map (fun (x : Int × Nat) => (meanTime s.dev.calKind s.dev.cal.now.pos x.1,
  x.2)))) 65536) ∧ s.dev.calFail s.dev.calKind s.dev.calUnit false = none ∧
  (decide (999 * 65536 ≤ 1000 * readingsNear 512 (readings.map (fun (x : Int × Nat) => (meanTime s.dev.calKind
  s.dev.cal.now.pos x.1, x.2)))) = true) ∧ (s.dev.calKind != 2 || decide ((64000 : Int) ≤ offset + s.dev.cal.now.pos.getD 1023
  0)) = true ∧ s.dev.cal.first = none :=
  ⟨(on (fun d => { (((((d.put F.CAL_STAT_BUSY 0 1).put F.CAL_STAT_KIND 0 1).put F.CAL_STAT_RUN 0 3).put F.CAL_STAT_UNIT 0 3).put F.CLK_REF_STAT_READY 0 16) with tow := { running := true }, cal := { now := { pos := (List.range 512).map (fun i => ((100 * i : Nat) : Int)) } } })),
    ([(5, 65536)]), (500), by decide⟩
set_option maxRecDepth 20000 in
theorem witness_CalibrationRuns_calRunDone_agreed : ∃ (s : State) (readings : List (Int × Nat)) (offset : Int) (a : CalRun),
  s.Running ∧ s.dev.calBusy = true ∧ s.dev.calKind ≤ 2 ∧ s.dev.get F.CAL_STAT_RUN = 3 ∧ readingCount readings = 65536 ∧
  (offset = divRound (readingSum (readings.map (fun (x : Int × Nat) => (meanTime s.dev.calKind s.dev.cal.now.pos x.1,
  x.2)))) 65536) ∧ s.dev.calFail s.dev.calKind s.dev.calUnit false = none ∧
  (decide (999 * 65536 ≤ 1000 * readingsNear 512 (readings.map (fun (x : Int × Nat) => (meanTime s.dev.calKind
  s.dev.cal.now.pos x.1, x.2)))) = true) ∧ (s.dev.calKind != 2 || decide ((64000 : Int) ≤ offset + s.dev.cal.now.pos.getD 1023
  0)) = true ∧ (s.dev.cal.applyAt.all (fun (p : Pound) => decide (s.dev.tow.pound.toNat < p.toNat)) = true) ∧
  s.dev.cal.first = some a ∧ agreed s.dev.calKind a { s.dev.cal.now with offset := offset } = true ∧ s.dev.calKind ≠ 0 ∧
  s.dev.calKind ≠ 3 :=
  ⟨(on (fun d => { (((((d.put F.CAL_STAT_BUSY 0 1).put F.CAL_STAT_KIND 0 1).put F.CAL_STAT_RUN 0 3).put F.CAL_STAT_UNIT 0 3).put F.CLK_REF_STAT_READY 0 16) with tow := { running := true }, cal := { first := some { offset := 500, pos := (List.range 512).map (fun i => ((100 * i : Nat) : Int)) }, now := { pos := (List.range 512).map (fun i => ((100 * i : Nat) : Int)) } } })),
    ([(5, 65536)]), (500), ({ offset := 500, pos := (List.range 512).map (fun i => ((100 * i : Nat) : Int)) }), by decide⟩
set_option maxRecDepth 20000 in
theorem witness_CalibrationRuns_calRunDone_agreedCore : ∃ (s : State) (readings : List (Int × Nat)) (offset : Int) (a :
  CalRun), s.Running ∧ s.dev.calBusy = true ∧ s.dev.calKind ≤ 2 ∧ s.dev.get F.CAL_STAT_RUN = 3 ∧
  readingCount readings = 65536 ∧ (offset = divRound (readingSum (readings.map (fun (x : Int × Nat) => (meanTime s.dev.calKind
  s.dev.cal.now.pos x.1, x.2)))) 65536) ∧ s.dev.calFail s.dev.calKind s.dev.calUnit false = none ∧
  (decide (999 * 65536 ≤ 1000 * readingsNear 512 (readings.map (fun (x : Int × Nat) => (meanTime s.dev.calKind
  s.dev.cal.now.pos x.1, x.2)))) = true) ∧ (s.dev.calKind != 2 || decide ((64000 : Int) ≤ offset + s.dev.cal.now.pos.getD 1023
  0)) = true ∧ (s.dev.cal.applyAt.all (fun (p : Pound) => decide (s.dev.tow.pound.toNat < p.toNat)) = true) ∧
  s.dev.cal.first = some a ∧ agreed s.dev.calKind a { s.dev.cal.now with offset := offset } = true ∧
  (s.dev.calKind = 0 ∨ s.dev.calKind = 3) :=
  ⟨(on (fun d => { ((((((((d.put F.CAL_STAT_BUSY 0 1).put F.CLK_BLK_STAT_STATE 67 2).put F.LOOP_STAT_STATE 3 4).put F.LOOP_STAT_LOCK 3 1).put F.CAL_STAT_KIND 0 0).put F.CAL_STAT_RUN 0 3).put F.CAL_STAT_UNIT 0 3).put F.CLK_REF_STAT_READY 0 16) with tow := { running := true }, cal := { first := some { offset := 500, pos := (List.range 512).map (fun i => ((100 * i : Nat) : Int)) }, now := { pos := (List.range 512).map (fun i => ((100 * i : Nat) : Int)) } } })),
    ([(5, 65536)]), (500), ({ offset := 500, pos := (List.range 512).map (fun i => ((100 * i : Nat) : Int)) }), by decide⟩
set_option maxRecDepth 20000 in
theorem witness_CalibrationRuns_calRunDone_disagree : ∃ (s : State) (readings : List (Int × Nat)) (offset : Int) (a : CalRun),
  s.Running ∧ s.dev.calBusy = true ∧ s.dev.calKind ≤ 2 ∧ s.dev.get F.CAL_STAT_RUN = 3 ∧ readingCount readings = 65536 ∧
  (offset = divRound (readingSum (readings.map (fun (x : Int × Nat) => (meanTime s.dev.calKind s.dev.cal.now.pos x.1,
  x.2)))) 65536) ∧ s.dev.calFail s.dev.calKind s.dev.calUnit false = none ∧
  (decide (999 * 65536 ≤ 1000 * readingsNear 512 (readings.map (fun (x : Int × Nat) => (meanTime s.dev.calKind
  s.dev.cal.now.pos x.1, x.2)))) = true) ∧ (s.dev.calKind != 2 || decide ((64000 : Int) ≤ offset + s.dev.cal.now.pos.getD 1023
  0)) = true ∧ s.dev.cal.first = some a ∧ agreed s.dev.calKind a { s.dev.cal.now with offset := offset } = false :=
  ⟨(on (fun d => { (((((d.put F.CAL_STAT_BUSY 0 1).put F.CAL_STAT_KIND 0 1).put F.CAL_STAT_RUN 0 3).put F.CAL_STAT_UNIT 0 3).put F.CLK_REF_STAT_READY 0 16) with tow := { running := true }, cal := { first := some { offset := 200, pos := (List.range 512).map (fun i => ((100 * i : Nat) : Int)) }, now := { pos := (List.range 512).map (fun i => ((100 * i : Nat) : Int)) } } })),
    ([(5, 65536)]), (500), ({ offset := 200, pos := (List.range 512).map (fun i => ((100 * i : Nat) : Int)) }), by decide⟩
set_option maxRecDepth 20000 in
theorem witness_CalibrationRuns_calRunDone_scatter : ∃ (s : State) (readings : List (Int × Nat)) (offset : Int) (c : Nat),
  s.Running ∧ s.dev.calBusy = true ∧ s.dev.calKind ≤ 2 ∧ s.dev.get F.CAL_STAT_RUN = 3 ∧ readingCount readings = 65536 ∧
  (offset = divRound (readingSum (readings.map (fun (x : Int × Nat) => (meanTime s.dev.calKind s.dev.cal.now.pos x.1,
  x.2)))) 65536) ∧ ((s.dev.calFail s.dev.calKind s.dev.calUnit false).isSome =
  true ∨ decide (999 * 65536 ≤ 1000 * readingsNear 512 (readings.map (fun (x : Int × Nat) => (meanTime s.dev.calKind
  s.dev.cal.now.pos x.1, x.2)))) = false ∨ (s.dev.calKind != 2 || decide ((64000 : Int) ≤ offset + s.dev.cal.now.pos.getD 1023
  0)) = false) ∧ (c = (match s.dev.calFail s.dev.calKind s.dev.calUnit false with | some x => x | none => (if (!decide (999 *
  65536 ≤ 1000 * readingsNear 512 (readings.map (fun (x : Int × Nat) => (meanTime s.dev.calKind s.dev.cal.now.pos x.1,
  x.2))))) then 0x14 else 0x16))) :=
  ⟨(on (fun d => { (((((d.put F.CAL_STAT_BUSY 0 1).put F.CAL_STAT_KIND 0 1).put F.CAL_STAT_RUN 0 3).put F.CAL_STAT_UNIT 0 3).put F.CLK_REF_STAT_READY 0 16) with tow := { running := true }, cal := { now := { pos := (List.range 512).map (fun i => ((100 * i : Nat) : Int)) } } })),
    ([(5, 60000), (100, 5536)]), (1302), (0x14), by decide⟩
set_option maxRecDepth 20000 in
theorem witness_CalibrationRuns_calRunDone_firstTrims : ∃ (s : State) (ones : List (List Nat)), s.Running ∧
  s.dev.calBusy = true ∧ s.dev.calKind = 4 ∧ ones.length = 16 ∧ (ones.all (fun (l : List Nat) => l.length == 9) = true) ∧
  s.dev.calFail s.dev.calKind s.dev.calUnit false = none ∧ (ones.all (fun (l : List Nat) => halfOnes (l.getD 8 0)) = true) ∧
  ((ones.map (fun (l : List Nat) => searchTrim 8 0 (l.take 8))).all (fun (t : Nat) => t != 0 && t != 255) = true) ∧
  s.dev.cal.first = none :=
  ⟨(on (fun d => { ((((((((d.put F.CLK_BLK_STAT_STATE 2 2).put F.CAL_STAT_BUSY 0 1).put F.CAL_STAT_KIND 0 4).put F.CAL_STAT_RUN 0 1).put F.CAL_STAT_UNIT 0 9).put F.LANE_STAT_STATE 9 1).put F.LANE_QUAD_STAT_PLL_LOCK 2 1).put F.CLK_REF_STAT_READY 0 16) with tow := { running := true }, cal := {  } })),
    ((List.replicate 16 [0, 65536, 0, 65536, 0, 65536, 0, 65536, 32768])),
    by (simp only [trims_alternate]; cases Config.trimRaises <;> decide)⟩
set_option maxRecDepth 20000 in
theorem witness_CalibrationRuns_calRunDone_agreedTrims : ∃ (s : State) (ones : List (List Nat)) (a : CalRun), s.Running ∧
  s.dev.calBusy = true ∧ s.dev.calKind = 4 ∧ ones.length = 16 ∧ (ones.all (fun (l : List Nat) => l.length == 9) = true) ∧
  s.dev.calFail s.dev.calKind s.dev.calUnit false = none ∧ (ones.all (fun (l : List Nat) => halfOnes (l.getD 8 0)) = true) ∧
  ((ones.map (fun (l : List Nat) => searchTrim 8 0 (l.take 8))).all (fun (t : Nat) => t != 0 && t != 255) = true) ∧
  (s.dev.cal.applyAt.all (fun (p : Pound) => decide (s.dev.tow.pound.toNat < p.toNat)) = true) ∧ s.dev.cal.first = some a ∧
  (agreed 4 a ({ trims := (ones.map (fun (l : List Nat) => searchTrim 8 0 (l.take 8))) } : CalRun) = true) :=
  ⟨(on (fun d => { ((((((((d.put F.CLK_BLK_STAT_STATE 2 2).put F.CAL_STAT_BUSY 0 1).put F.CAL_STAT_KIND 0 4).put F.CAL_STAT_RUN 0 1).put F.CAL_STAT_UNIT 0 9).put F.LANE_STAT_STATE 9 1).put F.LANE_QUAD_STAT_PLL_LOCK 2 1).put F.CLK_REF_STAT_READY 0 16) with tow := { running := true }, cal := { first := some { trims := [] } } })),
    ((List.replicate 16 [0, 65536, 0, 65536, 0, 65536, 0, 65536, 32768])), ({ trims := [] }),
    by (simp only [trims_alternate]; cases Config.trimRaises <;> decide)⟩
set_option maxRecDepth 20000 in
theorem witness_CalibrationRuns_calRunDone_disagreeTrims : ∃ (s : State) (ones : List (List Nat)) (a : CalRun), s.Running ∧
  s.dev.calBusy = true ∧ s.dev.calKind = 4 ∧ ones.length = 16 ∧ (ones.all (fun (l : List Nat) => l.length == 9) = true) ∧
  s.dev.calFail s.dev.calKind s.dev.calUnit false = none ∧ (ones.all (fun (l : List Nat) => halfOnes (l.getD 8 0)) = true) ∧
  ((ones.map (fun (l : List Nat) => searchTrim 8 0 (l.take 8))).all (fun (t : Nat) => t != 0 && t != 255) = true) ∧
  s.dev.cal.first = some a ∧ (agreed 4 a ({ trims := (ones.map (fun (l : List Nat) => searchTrim 8 0 (l.take 8))) } : CalRun) =
  false) :=
  ⟨(on (fun d => { ((((((((d.put F.CLK_BLK_STAT_STATE 2 2).put F.CAL_STAT_BUSY 0 1).put F.CAL_STAT_KIND 0 4).put F.CAL_STAT_RUN 0 1).put F.CAL_STAT_UNIT 0 9).put F.LANE_STAT_STATE 9 1).put F.LANE_QUAD_STAT_PLL_LOCK 2 1).put F.CLK_REF_STAT_READY 0 16) with tow := { running := true }, cal := { first := some { offset := 1000 } } })),
    ((List.replicate 16 [0, 65536, 0, 65536, 0, 65536, 0, 65536, 32768])), ({ offset := 1000 }),
    by (simp only [trims_alternate]; cases Config.trimRaises <;> decide)⟩
set_option maxRecDepth 20000 in
theorem witness_CalibrationRuns_calRunDone_badTrims : ∃ (s : State) (ones : List (List Nat)) (c : Nat), s.Running ∧
  s.dev.calBusy = true ∧ s.dev.calKind = 4 ∧ ones.length = 16 ∧ (ones.all (fun (l : List Nat) => l.length == 9) = true) ∧
  ((s.dev.calFail s.dev.calKind s.dev.calUnit false).isSome = true ∨ ones.all (fun (l : List Nat) => halfOnes (l.getD 8 0)) =
  false ∨ (ones.map (fun (l : List Nat) => searchTrim 8 0 (l.take 8))).all (fun (t : Nat) => t != 0 && t != 255) = false) ∧
  (c = (match s.dev.calFail s.dev.calKind s.dev.calUnit false with | some x => x | none => (if (!ones.all (fun (l : List Nat)
  => halfOnes (l.getD 8 0))) then 0x14 else 0x16))) :=
  ⟨(on (fun d => { ((((((((d.put F.CLK_BLK_STAT_STATE 2 2).put F.CAL_STAT_BUSY 0 1).put F.CAL_STAT_KIND 0 4).put F.CAL_STAT_RUN 0 1).put F.CAL_STAT_UNIT 0 9).put F.LANE_STAT_STATE 9 1).put F.LANE_QUAD_STAT_PLL_LOCK 2 1).put F.CLK_REF_STAT_READY 0 16) with tow := { running := true }, cal := {  } })),
    ((List.replicate 16 (List.replicate 9 0))), (0x14), by decide⟩
set_option maxRecDepth 20000 in
theorem witness_CalibrationRuns_calRunDone_tune : ∃ (s : State) (readings : List (Nat × Nat)) (b : BandFit), s.Running ∧
  s.dev.calBusy = true ∧ s.dev.calKind = 3 ∧ s.dev.locked s.dev.calUnit = true ∧ readingCount readings = 4096 ∧
  s.dev.cal.fit = some (b, .tunes) ∧ s.dev.calFail s.dev.calKind s.dev.calUnit false = none ∧
  (readingsNear 8 (readings.map (fun (x : Nat × Nat) => ((x.1 : Int), x.2))) = 4096) :=
  ⟨(on (fun d => { (((((((((d.put F.CAL_STAT_BUSY 0 1).put F.CAL_STAT_KIND 0 3).put F.CAL_STAT_RUN 0 1).put F.CAL_STAT_UNIT 0 3).put F.CLK_BLK_STAT_STATE 67 2).put F.LOOP_STAT_STATE 3 4).put F.LOOP_STAT_LOCK 3 1).put F.CLK_REF_STAT_READY 0 16)) with bandMap := (List.range 256).map (fun k => (768 + k, if k = 20 then 0x80000000 else if k = 21 then 0x500000 else if k = 22 then 0x520000 else 0)), cores := [(3, {  })], tow := { running := true }, cal := { fit := some ({ entry := 5 }, .tunes) } })),
    ([(100, 4096)]), ({ entry := 5 }), by decide⟩
set_option maxRecDepth 20000 in
theorem witness_CalibrationRuns_calRunDone_badTune : ∃ (s : State) (readings : List (Nat × Nat)) (b : BandFit) (c : Nat),
  s.Running ∧ s.dev.calBusy = true ∧ s.dev.calKind = 3 ∧ s.dev.locked s.dev.calUnit = true ∧ readingCount readings = 4096 ∧
  s.dev.cal.fit = some (b, .tunes) ∧ ((s.dev.calFail s.dev.calKind s.dev.calUnit false).isSome =
  true ∨ readingsNear 8 (readings.map (fun (x : Nat × Nat) => ((x.1 : Int), x.2))) ≠ 4096) ∧
  c = (match s.dev.calFail s.dev.calKind s.dev.calUnit false with | some x => x | none => 0x14) :=
  ⟨(on (fun d => { (((((((((d.put F.CAL_STAT_BUSY 0 1).put F.CAL_STAT_KIND 0 3).put F.CAL_STAT_RUN 0 1).put F.CAL_STAT_UNIT 0 3).put F.CLK_BLK_STAT_STATE 67 2).put F.LOOP_STAT_STATE 3 4).put F.LOOP_STAT_LOCK 3 1).put F.CLK_REF_STAT_READY 0 16)) with bandMap := (List.range 256).map (fun k => (768 + k, if k = 20 then 0x80000000 else if k = 21 then 0x500000 else if k = 22 then 0x520000 else 0)), cores := [(3, {  })], tow := { running := true }, cal := { fit := some ({ entry := 5 }, .tunes) } })),
    ([(100, 4095), (400, 1)]), ({ entry := 5 }), (0x14), by decide⟩
set_option maxRecDepth 20000 in
theorem witness_CalibrationRuns_calRunDone_low : ∃ (s : State) (b : BandFit) (p : FitPhase), s.Running ∧ s.dev.calBusy = true ∧
  s.dev.calKind = 3 ∧ s.dev.cal.fit = some (b, p) ∧ p ≠ .tunes ∧ (s.dev.is F.LOOP_STAT_ALIGNED s.dev.calUnit && !(s.dev.core
  s.dev.calUnit).slow) = true ∧ s.dev.calFail s.dev.calKind s.dev.calUnit false = none ∧ p = .lo :=
  ⟨(on (fun d => { ((((((((((d.put F.CAL_STAT_BUSY 0 1).put F.CAL_STAT_KIND 0 3).put F.CAL_STAT_RUN 0 1).put F.CAL_STAT_UNIT 0 3).put F.CLK_BLK_STAT_STATE 67 2).put F.LOOP_STAT_STATE 3 4).put F.LOOP_STAT_LOCK 3 1).put F.CLK_REF_STAT_READY 0 16).put F.LOOP_STAT_ALIGNED 3 1)) with bandMap := (List.range 256).map (fun k => (768 + k, if k = 20 then 0x80000000 else if k = 21 then 0x500000 else if k = 22 then 0x520000 else 0)), cores := [(3, {  })], tow := { running := true }, cal := { fit := some ({ entry := 5 }, .lo) } })),
    ({ entry := 5 }), (.lo), by decide⟩
set_option maxRecDepth 20000 in
theorem witness_CalibrationRuns_calRunDone_nextEntry : ∃ (s : State) (b : BandFit) (p : FitPhase) (e : Nat) (rest : List Nat),
  s.Running ∧ s.dev.calBusy = true ∧ s.dev.calKind = 3 ∧ s.dev.cal.fit = some (b, p) ∧ p ≠ .tunes ∧
  (s.dev.is F.LOOP_STAT_ALIGNED s.dev.calUnit && !(s.dev.core s.dev.calUnit).slow) = true ∧
  s.dev.calFail s.dev.calKind s.dev.calUnit false = none ∧ p = .hi ∧ s.dev.cal.left = e :: rest :=
  ⟨(on (fun d => { ((((((((((d.put F.CAL_STAT_BUSY 0 1).put F.CAL_STAT_KIND 0 3).put F.CAL_STAT_RUN 0 1).put F.CAL_STAT_UNIT 0 3).put F.CLK_BLK_STAT_STATE 67 2).put F.LOOP_STAT_STATE 3 4).put F.LOOP_STAT_LOCK 3 1).put F.CLK_REF_STAT_READY 0 16).put F.LOOP_STAT_ALIGNED 3 1)) with bandMap := (List.range 256).map (fun k => (768 + k, if k = 20 then 0x80000000 else if k = 21 then 0x500000 else if k = 22 then 0x520000 else 0)), cores := [(3, {  })], tow := { running := true }, cal := { fit := some ({ entry := 5 }, .hi), left := [5] } })),
    ({ entry := 5 }), (.hi), (5), ([]), by decide⟩
set_option maxRecDepth 20000 in
theorem witness_CalibrationRuns_calRunDone_firstBands : ∃ (s : State) (b : BandFit) (p : FitPhase), s.Running ∧
  s.dev.calBusy = true ∧ s.dev.calKind = 3 ∧ s.dev.cal.fit = some (b, p) ∧ p ≠ .tunes ∧
  (s.dev.is F.LOOP_STAT_ALIGNED s.dev.calUnit && !(s.dev.core s.dev.calUnit).slow) = true ∧
  s.dev.calFail s.dev.calKind s.dev.calUnit false = none ∧ p = .hi ∧ s.dev.cal.left = [] ∧ s.dev.cal.first = none :=
  ⟨(on (fun d => { ((((((((((d.put F.CAL_STAT_BUSY 0 1).put F.CAL_STAT_KIND 0 3).put F.CAL_STAT_RUN 0 1).put F.CAL_STAT_UNIT 0 3).put F.CLK_BLK_STAT_STATE 67 2).put F.LOOP_STAT_STATE 3 4).put F.LOOP_STAT_LOCK 3 1).put F.CLK_REF_STAT_READY 0 16).put F.LOOP_STAT_ALIGNED 3 1)) with bandMap := (List.range 256).map (fun k => (768 + k, if k = 20 then 0x80000000 else if k = 21 then 0x500000 else if k = 22 then 0x520000 else 0)), cores := [(3, {  })], tow := { running := true }, cal := { fit := some ({ entry := 5 }, .hi) } })),
    ({ entry := 5 }), (.hi), by decide⟩
set_option maxRecDepth 20000 in
theorem witness_CalibrationRuns_calRunDone_agreedBands : ∃ (s : State) (b : BandFit) (p : FitPhase) (a : CalRun), s.Running ∧
  s.dev.calBusy = true ∧ s.dev.calKind = 3 ∧ s.dev.cal.fit = some (b, p) ∧ p ≠ .tunes ∧
  (s.dev.is F.LOOP_STAT_ALIGNED s.dev.calUnit && !(s.dev.core s.dev.calUnit).slow) = true ∧
  s.dev.calFail s.dev.calKind s.dev.calUnit false = none ∧ p = .hi ∧ s.dev.cal.left = [] ∧ s.dev.cal.first = some a ∧
  (s.dev.cal.applyAt.all (fun (p : Pound) => decide (s.dev.tow.pound.toNat < p.toNat)) = true) ∧
  agreed 3 a ({ s.dev.cal.now with fits := s.dev.cal.now.fits ++ [b] } : CalRun) = true :=
  ⟨(on (fun d => { ((((((((((d.put F.CAL_STAT_BUSY 0 1).put F.CAL_STAT_KIND 0 3).put F.CAL_STAT_RUN 0 1).put F.CAL_STAT_UNIT 0 3).put F.CLK_BLK_STAT_STATE 67 2).put F.LOOP_STAT_STATE 3 4).put F.LOOP_STAT_LOCK 3 1).put F.CLK_REF_STAT_READY 0 16).put F.LOOP_STAT_ALIGNED 3 1)) with bandMap := (List.range 256).map (fun k => (768 + k, if k = 20 then 0x80000000 else if k = 21 then 0x500000 else if k = 22 then 0x520000 else 0)), cores := [(3, {  })], tow := { running := true }, cal := { fit := some ({ entry := 5 }, .hi), first := some { fits := [{ entry := 5 }] } } })),
    ({ entry := 5 }), (.hi), ({ fits := [{ entry := 5 }] }), by decide⟩
set_option maxRecDepth 20000 in
theorem witness_CalibrationRuns_calRunDone_disagreeBands : ∃ (s : State) (b : BandFit) (p : FitPhase) (a : CalRun), s.Running ∧
  s.dev.calBusy = true ∧ s.dev.calKind = 3 ∧ s.dev.cal.fit = some (b, p) ∧ p ≠ .tunes ∧
  (s.dev.is F.LOOP_STAT_ALIGNED s.dev.calUnit && !(s.dev.core s.dev.calUnit).slow) = true ∧
  s.dev.calFail s.dev.calKind s.dev.calUnit false = none ∧ p = .hi ∧ s.dev.cal.left = [] ∧ s.dev.cal.first = some a ∧
  agreed 3 a ({ s.dev.cal.now with fits := s.dev.cal.now.fits ++ [b] } : CalRun) = false :=
  ⟨(on (fun d => { ((((((((((d.put F.CAL_STAT_BUSY 0 1).put F.CAL_STAT_KIND 0 3).put F.CAL_STAT_RUN 0 1).put F.CAL_STAT_UNIT 0 3).put F.CLK_BLK_STAT_STATE 67 2).put F.LOOP_STAT_STATE 3 4).put F.LOOP_STAT_LOCK 3 1).put F.CLK_REF_STAT_READY 0 16).put F.LOOP_STAT_ALIGNED 3 1)) with bandMap := (List.range 256).map (fun k => (768 + k, if k = 20 then 0x80000000 else if k = 21 then 0x500000 else if k = 22 then 0x520000 else 0)), cores := [(3, {  })], tow := { running := true }, cal := { fit := some ({ entry := 5 }, .hi), first := some { fits := [{ entry := 5, band := 7 }] } } })),
    ({ entry := 5 }), (.hi), ({ fits := [{ entry := 5, band := 7 }] }), by decide⟩
set_option maxRecDepth 20000 in
theorem witness_CalibrationRuns_calRunDone_slow : ∃ (s : State) (b : BandFit) (p : FitPhase) (c : Nat), s.Running ∧
  s.dev.calBusy = true ∧ s.dev.calKind = 3 ∧ s.dev.cal.fit = some (b, p) ∧ p ≠ .tunes ∧
  (s.dev.is F.LOOP_STAT_ALIGNED s.dev.calUnit && !(s.dev.core s.dev.calUnit).slow) = false ∧
  ((s.dev.core s.dev.calUnit).slow || decide (s.dev.get F.COUT_RETUNE_CFG_RETUNE_LIMIT ≤ (s.dev.core s.dev.calUnit).sinceLoad))
  = true ∧ c = (match s.dev.calFail s.dev.calKind s.dev.calUnit false with | some x => x | none => 0x16) :=
  ⟨(on (fun d => { (((((((((d.put F.CAL_STAT_BUSY 0 1).put F.CAL_STAT_KIND 0 3).put F.CAL_STAT_RUN 0 1).put F.CAL_STAT_UNIT 0 3).put F.CLK_BLK_STAT_STATE 67 2).put F.LOOP_STAT_STATE 3 4).put F.LOOP_STAT_LOCK 3 1).put F.CLK_REF_STAT_READY 0 16)) with bandMap := (List.range 256).map (fun k => (768 + k, if k = 20 then 0x80000000 else if k = 21 then 0x500000 else if k = 22 then 0x520000 else 0)), cores := [(3, { slow := true })], tow := { running := true }, cal := { fit := some ({ entry := 5 }, .lo) } })),
    ({ entry := 5 }), (.lo), (0x16), by decide⟩
set_option maxRecDepth 20000 in
theorem witness_CalibrationRuns_calRunDone_waits : ∃ (s : State) (b : BandFit) (p : FitPhase), s.Running ∧
  s.dev.calBusy = true ∧ s.dev.calKind = 3 ∧ s.dev.cal.fit = some (b, p) ∧ p ≠ .tunes ∧
  (s.dev.is F.LOOP_STAT_ALIGNED s.dev.calUnit && !(s.dev.core s.dev.calUnit).slow) = false ∧
  ((s.dev.core s.dev.calUnit).slow || decide (s.dev.get F.COUT_RETUNE_CFG_RETUNE_LIMIT ≤ (s.dev.core s.dev.calUnit).sinceLoad))
  = false :=
  ⟨(on (fun d => { ((((((((((d.put F.CAL_STAT_BUSY 0 1).put F.CAL_STAT_KIND 0 3).put F.CAL_STAT_RUN 0 1).put F.CAL_STAT_UNIT 0 3).put F.CLK_BLK_STAT_STATE 67 2).put F.LOOP_STAT_STATE 3 4).put F.LOOP_STAT_LOCK 3 1).put F.CLK_REF_STAT_READY 0 16).put F.COUT_RETUNE_CFG_RETUNE_LIMIT 0 9)) with bandMap := (List.range 256).map (fun k => (768 + k, if k = 20 then 0x80000000 else if k = 21 then 0x500000 else if k = 22 then 0x520000 else 0)), cores := [(3, {  })], tow := { running := true }, cal := { fit := some ({ entry := 5 }, .lo) } })),
    ({ entry := 5 }), (.lo), by decide⟩
set_option maxRecDepth 20000 in
theorem witness_CalibrationRuns_calRunDone_none : ∃ (s : State), s.Running ∧ s.dev.calBusy = false :=
  ⟨(base), by decide⟩
theorem witness_CalibrationApply_calDiscard : ∃ (s : State), s.Running ∧
  ((!s.dev.kpr.restarting && s.dev.is F.KPR_STAT_RUNNING) && (s.dev.is F.CAL_CMD_STORE || s.dev.is F.CAL_CMD_GO)) = false ∧
  (s.dev.cal.applyAt.all (fun (p : Pound) => decide (s.dev.tow.pound.toNat < p.toNat)) = true) :=
  ⟨(on (fun d => { (d.put F.KPR_STAT_RUNNING 0 1) with cal := { pend := { bytes := [(0x20, 1)] } } })), by decide⟩
set_option maxRecDepth 20000 in
theorem witness_CalibrationApply_calApplyRequest_pending : ∃ (s : State) (p : Pound), s.Running ∧
  (s.dev.cal.applyAt.all (fun (p : Pound) => decide (s.dev.tow.pound.toNat < p.toNat)) = true) ∧
  p = BitVec.ofNat 64 (s.dev.get F.CAL_APPLY_POUND_HI_POUND * 2 ^ 32 + s.dev.get F.CAL_APPLY_POUND_LO_POUND) ∧
  s.dev.tow.running = true ∧ s.dev.storeBusy = false ∧ s.dev.tow.pound.toNat + 2 ≤ p.toNat :=
  ⟨(on (fun d => { (d.put F.CAL_APPLY_POUND_LO_POUND 0 9) with tow := { running := true, pound := 7 } })), (9), by decide⟩
set_option maxRecDepth 20000 in
theorem witness_CalibrationApply_calApplyRequest_refused : ∃ (s : State) (p : Pound), s.Running ∧
  (s.dev.cal.applyAt.all (fun (p : Pound) => decide (s.dev.tow.pound.toNat < p.toNat)) = true) ∧
  p = BitVec.ofNat 64 (s.dev.get F.CAL_APPLY_POUND_HI_POUND * 2 ^ 32 + s.dev.get F.CAL_APPLY_POUND_LO_POUND) ∧
  (p.toNat < s.dev.tow.pound.toNat + 2 ∨ s.dev.tow.running = false ∨ s.dev.storeBusy = true) :=
  ⟨(on (fun d => { (d.put F.CAL_APPLY_POUND_LO_POUND 0 9) with tow := { running := true, pound := 8 } })), (9), by decide⟩
set_option maxRecDepth 20000 in
theorem witness_CalibrationApply_calApply_all : ∃ (s : State) (p : Pound), s.Running ∧ s.dev.cal.applyAt = some p ∧
  p.toNat ≤ s.dev.tow.pound.toNat :=
  ⟨(on (fun d => { d with cal := { applyAt := some 9 }, tow := { pound := 9 } })), (9), by decide⟩
set_option maxRecDepth 20000 in
theorem witness_CalibrationApply_calApply_empty : ∃ (s : State) (p : Pound), s.Running ∧ s.dev.cal.applyAt = some p ∧
  p.toNat ≤ s.dev.tow.pound.toNat ∧ s.dev.calPending = [] :=
  ⟨(on (fun d => { d with cal := { applyAt := some 9 }, tow := { pound := 9 } })), (9), by decide⟩
set_option maxRecDepth 20000 in
theorem witness_CalibrationApply_calApply_lane : ∃ (s : State) (p : Pound) (u : Byte), s.Running ∧ s.dev.cal.applyAt = some p ∧
  p.toNat ≤ s.dev.tow.pound.toNat ∧ s.dev.calPending = [(4, u.toNat)] :=
  ⟨(on (fun d => { d with cal := { applyAt := some 9, pend := { bytes := [(0x41, 2), (0x490, 7)] } }, tow := { pound := 9 } })),
    (9), (9), by decide⟩
set_option maxRecDepth 20000 in
theorem witness_CalibrationApply_calApply_monitor : ∃ (s : State) (p : Pound) (c : Fin 16), s.Running ∧
  s.dev.cal.applyAt = some p ∧ p.toNat ≤ s.dev.tow.pound.toNat ∧ s.dev.calPending = [(0, c.val)] ∧
  s.dev.coreClosed c.val = false :=
  ⟨(on (fun d => { (d.put F.CLK_BLK_STAT_STATE 67 2) with cal := { applyAt := some 9, pend := { bytes := [(0x20, 8), (0x10C, 64)] } }, tow := { pound := 9 } })),
    (9), (3), by decide⟩
set_option maxRecDepth 20000 in
theorem witness_CalibrationApply_calApply_stamp : ∃ (s : State) (p : Pound) (q : Fin 64), s.Running ∧
  s.dev.cal.applyAt = some p ∧ p.toNat ≤ s.dev.tow.pound.toNat ∧ s.dev.calPending = [(1, q.val)] :=
  ⟨(on (fun d => { (d.put F.LANE_STAT_STATE 9 7) with cal := { applyAt := some 9, pend := { bytes := [(0x2C, 4)] } }, tow := { pound := 9 } })),
    (9), (2), by decide⟩
set_option maxRecDepth 20000 in
theorem witness_CalibrationApply_calApply_delay : ∃ (s : State) (p : Pound) (o : Fin 32), s.Running ∧
  s.dev.cal.applyAt = some p ∧ p.toNat ≤ s.dev.tow.pound.toNat ∧ s.dev.calPending = [(2, o.val)] ∧
  s.dev.outputClosed o.val = false :=
  ⟨(on (fun d => { (d.put F.CLK_BLK_STAT_STATE 83 2) with cal := { applyAt := some 9, pend := { bytes := [(0x28, 8)] } }, tow := { pound := 9 } })),
    (9), (3), by decide⟩
set_option maxRecDepth 20000 in
theorem witness_CalibrationApply_calApply_bands : ∃ (s : State) (p : Pound) (c : Fin 16), s.Running ∧
  s.dev.cal.applyAt = some p ∧ p.toNat ≤ s.dev.tow.pound.toNat ∧ s.dev.calPending = [(3, c.val)] ∧
  s.dev.coreClosed c.val = false :=
  ⟨(on (fun d => { (d.put F.CLK_BLK_STAT_STATE 67 2) with cal := { applyAt := some 9, pend := { bytes := [(0x24, 8), (0x2053, 0x80)] } }, tow := { pound := 9 } })),
    (9), (3), by decide⟩
set_option maxRecDepth 20000 in
theorem witness_CalibrationApply_calApply_notDue : ∃ (s : State), s.Running ∧
  (s.dev.cal.applyAt.all (fun p => decide (s.dev.tow.pound.toNat < p.toNat)) = true) :=
  ⟨(on (fun d => { d with cal := { applyAt := some 9 }, tow := { pound := 8 } })), by decide⟩
set_option maxRecDepth 20000 in
theorem witness_CalibrationApply_calStore_begins : ∃ (s : State), s.Running ∧
  (!s.dev.kpr.restarting && s.dev.is F.KPR_STAT_RUNNING) = true ∧
  (s.dev.cal.applyAt.all (fun (p : Pound) => decide (s.dev.tow.pound.toNat < p.toNat)) = true) ∧
  s.dev.is F.CAL_CMD_GO = false ∧ (s.dev.cal.applyAt.isSome || s.dev.storeBusy) = false ∧
  (s.dev.nvsOpen && !s.dev.noFlash) = true ∧ s.dev.nvsOwned = false :=
  ⟨(on (fun d => ((d.put F.KPR_STAT_RUNNING 0 1).put F.CLK_BLK_STAT_STATE 117 2))), by decide⟩
set_option maxRecDepth 20000 in
theorem witness_CalibrationApply_calStore_waitsForHost : ∃ (s : State), s.Running ∧
  (!s.dev.kpr.restarting && s.dev.is F.KPR_STAT_RUNNING) = true ∧
  (s.dev.cal.applyAt.all (fun (p : Pound) => decide (s.dev.tow.pound.toNat < p.toNat)) = true) ∧
  s.dev.is F.CAL_CMD_GO = false ∧ (s.dev.cal.applyAt.isSome || s.dev.storeBusy) = false ∧
  (s.dev.nvsOpen && !s.dev.noFlash) = true ∧ s.dev.nvsOwned = true :=
  ⟨(on (fun d => (((d.put F.KPR_STAT_RUNNING 0 1).put F.CLK_BLK_STAT_STATE 117 2).put F.NVS_STAT_OWNED 0 1))), by decide⟩
set_option maxRecDepth 20000 in
theorem witness_CalibrationApply_calStore_refused : ∃ (s : State), s.Running ∧
  (!s.dev.kpr.restarting && s.dev.is F.KPR_STAT_RUNNING) = true ∧
  (s.dev.cal.applyAt.all (fun (p : Pound) => decide (s.dev.tow.pound.toNat < p.toNat)) = true) ∧
  s.dev.is F.CAL_CMD_GO = false ∧ (s.dev.cal.applyAt.isSome || s.dev.storeBusy) = true :=
  ⟨(on (fun d => { (d.put F.KPR_STAT_RUNNING 0 1) with cal := { applyAt := some 9 } })), by decide⟩
set_option maxRecDepth 20000 in
theorem witness_CalibrationApply_calStore_noPort : ∃ (s : State), s.Running ∧
  (!s.dev.kpr.restarting && s.dev.is F.KPR_STAT_RUNNING) = true ∧
  (s.dev.cal.applyAt.all (fun (p : Pound) => decide (s.dev.tow.pound.toNat < p.toNat)) = true) ∧
  s.dev.is F.CAL_CMD_GO = false ∧ (s.dev.cal.applyAt.isSome || s.dev.storeBusy) = false ∧
  (s.dev.nvsOpen && !s.dev.noFlash) = false :=
  ⟨(on (fun d => ((d.put F.KPR_STAT_RUNNING 0 1).put F.CLK_BLK_STAT_STATE 117 0))), by decide⟩
set_option maxRecDepth 20000 in
theorem witness_CalibrationApply_calStore_waits : ∃ (s : State), s.Running ∧
  (!s.dev.kpr.restarting && s.dev.is F.KPR_STAT_RUNNING) = false ∧
  (s.dev.cal.applyAt.all (fun (p : Pound) => decide (s.dev.tow.pound.toNat < p.toNat)) = true) :=
  ⟨(base), by decide⟩
set_option maxRecDepth 20000 in
theorem witness_CalibrationApply_calStoreDone_written : ∃ (s : State), s.Running ∧ s.dev.storeBusy = true ∧
  s.dev.is F.NVS_STAT_KEEPER_ACTIVE = true :=
  ⟨(on (fun d => ((d.put F.CAL_STORE_STAT_STORE_BUSY 0 1).put F.NVS_STAT_KEEPER_ACTIVE 0 1))), by decide⟩
set_option maxRecDepth 20000 in
theorem witness_CalibrationApply_calStoreDone_fails : ∃ (s : State), s.Running ∧ s.dev.storeBusy = true ∧
  s.dev.is F.NVS_STAT_KEEPER_ACTIVE = true :=
  ⟨(on (fun d => ((d.put F.CAL_STORE_STAT_STORE_BUSY 0 1).put F.NVS_STAT_KEEPER_ACTIVE 0 1))), by decide⟩
set_option maxRecDepth 20000 in
theorem witness_CalibrationApply_calStoreDone_none : ∃ (s : State), s.Running ∧
  (s.dev.storeBusy = false ∨ s.dev.is F.NVS_STAT_KEEPER_ACTIVE = false) :=
  ⟨(base), by decide⟩
theorem witness_PoundBoundary_poundBoundary_counts : ∃ (s : State), s.Running ∧ s.dev.tow.running = true ∧
  ((s.dev.coarseNow && (s.dev.atStep 6 || s.dev.atStep 7) && s.dev.boot.entries.any (fun e => e.phase == 3)) = false) :=
  ⟨(on (fun d => { d with tow := { running := true, pound := 7, ticks := 3 } })), by decide⟩
theorem witness_PoundBoundary_poundBoundary_answers : ∃ (s : State), s.Running ∧ s.dev.tow.running = true :=
  ⟨(on (fun d => { d with tow := { running := true, pound := 7, ticks := 3 } })), by decide⟩
theorem witness_PoundBoundary_poundBoundary_stopped : ∃ (s : State), s.Running ∧ s.dev.tow.running = false :=
  ⟨(base), by decide⟩
theorem witness_PoundBoundary_poundBoundary_others : ∃ (s : State), s.Running ∧ s.dev.tow.running = true ∧
  s.dev.coarseNow = false :=
  ⟨(on (fun d => { d with eng := { flights := [(Flight.mk 0 (cmd (word 1 5 0) 8) 5 (some ({ a := 5, phi := 7, f := 9, channel := 3, state := 1, binding := 0, flags := 0, gen := 6 })) none Act.none false)] }, tow := { running := true, pound := 7, ticks := 3 } })),
    by decide⟩
theorem witness_PoundBoundary_poundBoundary_writes : ∃ (s : State), s.Running ∧ s.dev.tow.running = true ∧
  s.dev.coarseNow = false ∧ (s.dev.eng.flights.all (fun (f : Flight) => f.barge?.all (fun (b : Barge) => !(s.dev.wharf
  b.wharf).resetDue && !s.dev.downDue b.wharf && !(s.dev.lane b.lane).failed)) = true) ∧
  ((s.dev.eng.flights.map (fun (f : Flight) => f.berth)).Nodup) :=
  ⟨(on (fun d => { d with eng := { flights := [(Flight.mk 0 (cmd (word 1 5 0) 8) 5 (some ({ a := 5, phi := 7, f := 9, channel := 3, state := 1, binding := 0, flags := 0, gen := 6 })) none Act.none false), (Flight.mk 0 (cmd (word 1 6 0) 8) 6 (some ({ a := 5, phi := 7, f := 9, channel := 3, state := 1, binding := 0, flags := 0, gen := 6 })) none Act.none false)] }, tow := { running := true, pound := 7, ticks := 3 } })),
    by decide⟩
theorem witness_PoundBoundary_poundBoundary_counted : ∃ (s : State), s.Running ∧ s.dev.tow.running = true ∧
  s.dev.coarseNow = false ∧ (s.dev.eng.flights.all (fun (f : Flight) => f.barge?.all (fun (b : Barge) => !(s.dev.wharf
  b.wharf).resetDue && !s.dev.downDue b.wharf && !(s.dev.lane b.lane).failed)) = true) ∧
  (s.dev.eng.flights.all (fun (f : Flight) => !f.fill) = true) ∧ s.dev.eng.holds = [] :=
  ⟨(on (fun d => { d with eng := { flights := [(Flight.mk 0 (cmd (word 1 5 0) 8) 5 (some ({ a := 5, phi := 7, f := 9, channel := 3, state := 1, binding := 0, flags := 0, gen := 6 })) none Act.none false), (Flight.mk 0 (cmd (word 1 6 0) 8) 6 (some ({ a := 5, phi := 7, f := 9, channel := 3, state := 1, binding := 0, flags := 0, gen := 6 })) none Act.none false)] }, tow := { running := true, pound := 7, ticks := 3 } })),
    by decide⟩
theorem witness_PoundBoundary_poundBoundary_recorded : ∃ (s : State) (f : Flight) (x : Entry), s.Running ∧
  s.dev.tow.running = true ∧ s.dev.coarseNow = false ∧ s.dev.eng.flights = [f] ∧
  (f.barge?.all (fun (b : Barge) => !(s.dev.wharf b.wharf).resetDue && !s.dev.downDue b.wharf && !(s.dev.lane b.lane).failed) =
  true) ∧ f.fill = false ∧ f.entry? = some x ∧ s.dev.eng.holds = [] :=
  ⟨(on (fun d => { ((d.put F.LDG_LOG_CFG_LOG_MODE 0 1).put F.FLT_LOG_CFG_HIGH 0 1) with eng := { flights := [(Flight.mk 0 (cmd (word 1 5 0) 8) 5 (some ({ a := 5, phi := 7, f := 9, channel := 3, state := 1, binding := 0, flags := 0, gen := 6 })) none Act.none false)] }, tow := { running := true, pound := 7, ticks := 3 } })),
    ((Flight.mk 0 (cmd (word 1 5 0) 8) 5 (some
    ({ a := 5, phi := 7, f := 9, channel := 3, state := 1, binding := 0, flags := 0, gen := 6 })) none Act.none false)),
    ({ a := 5, phi := 7, f := 9, channel := 3, state := 1, binding := 0, flags := 0, gen := 6 }), by decide⟩
theorem witness_PoundBoundary_poundBoundary_loads : ∃ (s : State) (f : Flight) (x : Entry) (l : List Load), s.Running ∧
  s.dev.tow.running = true ∧ s.dev.coarseNow = false ∧ s.dev.eng.flights = [f] ∧
  (f.barge?.all (fun (b : Barge) => !(s.dev.wharf b.wharf).resetDue && !s.dev.downDue b.wharf && !(s.dev.lane b.lane).failed) =
  true) ∧ f.fill = false ∧ f.entry? = some x ∧ f.act = .loads l :=
  ⟨(on (fun d => { d with eng := { flights := [(Flight.mk 0 (cmd (word 1 5 0) 8) 5 (some ({ a := 5, phi := 7, f := 9, channel := 3, state := 1, binding := 0, flags := 0, gen := 6 })) none (Act.loads [{ core := 3, kind := .record, berth := 5, t := 8 }]) false)] }, tow := { running := true, pound := 7, ticks := 3 } })),
    ((Flight.mk 0 (cmd (word 1 5 0) 8) 5 (some
    ({ a := 5, phi := 7, f := 9, channel := 3, state := 1, binding := 0, flags := 0, gen := 6 })) none (Act.loads
    [{ core := 3, kind := .record, berth := 5, t := 8 }]) false)),
    ({ a := 5, phi := 7, f := 9, channel := 3, state := 1, binding := 0, flags := 0, gen := 6 }),
    ([{ core := 3, kind := .record, berth := 5, t := 8 }]), by decide⟩
theorem witness_PoundBoundary_poundBoundary_hop : ∃ (s : State) (f : Flight) (x : Entry) (k : Nat) (t : Pound) (l : Load),
  s.Running ∧ s.dev.tow.running = true ∧ s.dev.coarseNow = false ∧ s.dev.eng.flights = [f] ∧
  (f.barge?.all (fun (b : Barge) => !(s.dev.wharf b.wharf).resetDue && !s.dev.downDue b.wharf && !(s.dev.lane b.lane).failed) =
  true) ∧ f.fill = false ∧ f.entry? = some x ∧ f.act = .hop k t l ∧ k < 8 :=
  ⟨(on (fun d => { d with eng := { flights := [(Flight.mk 0 (cmd (word 1 5 0) 8) 5 (some ({ a := 5, phi := 7, f := 9, channel := 3, state := 1, binding := 0, flags := 0, gen := 6 })) none (Act.hop 1 40 { core := 3, kind := .record, berth := 5, t := 8 }) false)] }, tow := { running := true, pound := 7, ticks := 3 } })),
    ((Flight.mk 0 (cmd (word 1 5 0) 8) 5 (some
    ({ a := 5, phi := 7, f := 9, channel := 3, state := 1, binding := 0, flags := 0, gen := 6 })) none (Act.hop 1 40
    { core := 3, kind := .record, berth := 5, t := 8 }) false)),
    ({ a := 5, phi := 7, f := 9, channel := 3, state := 1, binding := 0, flags := 0, gen := 6 }), (1), (40),
    ({ core := 3, kind := .record, berth := 5, t := 8 }), by decide⟩
theorem witness_PoundBoundary_poundBoundary_barge : ∃ (s : State) (f : Flight) (x : Entry) (b : Barge), s.Running ∧
  s.dev.tow.running = true ∧ s.dev.coarseNow = false ∧ s.dev.eng.flights = [f] ∧
  (f.barge?.all (fun (b : Barge) => !(s.dev.wharf b.wharf).resetDue && !s.dev.downDue b.wharf && !(s.dev.lane b.lane).failed) =
  true) ∧ f.fill = false ∧ f.entry? = some x ∧ f.barge? = some b ∧ b.slot ≤ 1 ∧ s.dev.openLanes.contains b.lane = true ∧
  s.dev.laneState b.lane = 7 ∧ (s.dev.wharf (s.dev.wharfOf b.lane)).towpath = false ∧
  (s.dev.wharf (s.dev.wharfOf b.lane)).resetDue = false ∧ s.dev.downDue (s.dev.wharfOf b.lane) = false :=
  ⟨(on (fun d => { (((d.put F.CLK_BLK_STAT_STATE 2 2).put F.LANE_STAT_STATE 9 7).put F.LANE_STAT_JOINED 9 1) with eng := { flights := [(Flight.mk 0 (cmd (word 1 5 0) 8) 5 (some ({ a := 5, phi := 7, f := 9, channel := 3, state := 1, binding := 0, flags := 0, gen := 6 })) (some (Barge.mk 9 9 1 77)) (Act.none) false)] }, tow := { running := true, pound := 7, ticks := 3 }, whf := { wharf := [(9, { gotValid := true })] } })),
    ((Flight.mk 0 (cmd (word 1 5 0) 8) 5 (some
    ({ a := 5, phi := 7, f := 9, channel := 3, state := 1, binding := 0, flags := 0, gen := 6 })) (some (Barge.mk 9 9 1 77))
    (Act.none) false)), ({ a := 5, phi := 7, f := 9, channel := 3, state := 1, binding := 0, flags := 0, gen := 6 }),
    (Barge.mk 9 9 1 77), by decide⟩
theorem witness_PoundBoundary_poundJump : ∃ (s : State) (n : Pound), s.Running ∧ s.dev.tow.running = true ∧
  s.dev.coarseNow = true ∧ s.dev.mayJump = true ∧ s.dev.coarseTarget = some n ∧
  (((s.dev.atStep 6 || s.dev.atStep 7) && s.dev.boot.entries.any (fun e => e.phase == 3)) = false) :=
  ⟨(on (fun d => { (((d.put F.CLK_REF_STAT_MPL0_LOCK 0 1).put F.TOW_LOAD_LO_POUND 0 5).put F.TOW_LOAD_HI_POUND 0 1) with tow := { running := true, pound := 7, ticks := 3, phase := .source, startUp := true } })),
    (BitVec.ofNat 64 (2 ^ 32 + 5)), by decide⟩
theorem witness_PoundBoundary_poundJump_late : ∃ (s : State) (n : Pound), s.Running ∧ s.dev.tow.running = true ∧
  s.dev.coarseNow = true ∧ s.dev.mayJump = true ∧ s.dev.coarseTarget = some n ∧
  (((s.dev.atStep 6 || s.dev.atStep 7) && s.dev.boot.entries.any (fun e => e.phase == 3)) = false) ∧
  (s.dev.eng.flights.all (fun (f : Flight) => f.barge?.isNone) = true) :=
  ⟨(on (fun d => { (((d.put F.CLK_REF_STAT_MPL0_LOCK 0 1).put F.TOW_LOAD_LO_POUND 0 5).put F.TOW_LOAD_HI_POUND 0 1) with eng := { flights := [(Flight.mk 0 (cmd (word 1 5 0) 8) 5 (some ({ a := 5, phi := 7, f := 9, channel := 3, state := 1, binding := 0, flags := 0, gen := 6 })) none Act.none false)], hcq := [cmd (word 1 6 0) 8, cmd (word 9 6 0) 8] }, tow := { running := true, pound := 7, ticks := 3, phase := .source, startUp := true } })),
    (BitVec.ofNat 64 (2 ^ 32 + 5)), by decide⟩
theorem witness_PoundBoundary_poundJump_rejects : ∃ (s : State) (n : Pound) (e : Fin 64), s.Running ∧
  s.dev.tow.running = true ∧ s.dev.coarseNow = true ∧ s.dev.mayJump = true ∧ s.dev.coarseTarget = some n ∧
  (((s.dev.atStep 6 || s.dev.atStep 7) && s.dev.boot.entries.any (fun e => e.phase == 3)) = false) :=
  ⟨(on (fun d => { (((d.put F.CLK_REF_STAT_MPL0_LOCK 0 1).put F.TOW_LOAD_LO_POUND 0 5).put F.TOW_LOAD_HI_POUND 0 1) with eng := { flights := [(Flight.mk 0 (cmd (word 1 5 0) 8) 5 (some ({ a := 5, phi := 7, f := 9, channel := 3, state := 1, binding := 0, flags := 0, gen := 6 })) none Act.none false)], hcq := [cmd (word 1 6 0) 8, cmd (word 9 6 0) 8] }, tow := { running := true, pound := 7, ticks := 3, phase := .source, startUp := true } })),
    (BitVec.ofNat 64 (2 ^ 32 + 5)), (0), by decide⟩
theorem witness_PoundBoundary_poundJump_disarms : ∃ (s : State) (n : Pound), s.Running ∧ s.dev.tow.running = true ∧
  s.dev.coarseNow = true ∧ s.dev.mayJump = true ∧ s.dev.coarseTarget = some n ∧
  (((s.dev.atStep 6 || s.dev.atStep 7) && s.dev.boot.entries.any (fun e => e.phase == 3)) = false) :=
  ⟨(on (fun d => { (((d.put F.CLK_REF_STAT_MPL0_LOCK 0 1).put F.TOW_LOAD_LO_POUND 0 5).put F.TOW_LOAD_HI_POUND 0 1) with twins := [(1, { hop := some (40, 5, 5) })], tow := { running := true, pound := 7, ticks := 3, phase := .source, startUp := true } })),
    (BitVec.ofNat 64 (2 ^ 32 + 5)), by decide⟩
theorem witness_PoundBoundary_poundJump_loopApply : ∃ (s : State) (n : Pound) (p : Pound) (c : Fin 16), s.Running ∧
  s.dev.tow.running = true ∧ s.dev.coarseNow = true ∧ s.dev.mayJump = true ∧ s.dev.coarseTarget = some n ∧
  (((s.dev.atStep 6 || s.dev.atStep 7) && s.dev.boot.entries.any (fun e => e.phase == 3)) = false) ∧
  (s.dev.core c.val).applyAt = some p ∧ s.dev.get F.LOOP_APPLY_AT_POUND c.val ≠ 0 ∧ p.toNat < n.toNat + 2 :=
  ⟨(on (fun d => { ((((d.put F.LOOP_APPLY_AT_POUND 3 1).put F.CLK_REF_STAT_MPL0_LOCK 0 1).put F.TOW_LOAD_LO_POUND 0 5).put F.TOW_LOAD_HI_POUND 0 1) with cores := [(3, { applyAt := some 40 })], tow := { running := true, pound := 7, ticks := 3, phase := .source, startUp := true } })),
    (BitVec.ofNat 64 (2 ^ 32 + 5)), (40), (3), by decide⟩
theorem witness_PoundBoundary_poundJump_swap : ∃ (s : State) (n : Pound) (p : Pound) (k : Fin 8), s.Running ∧
  s.dev.tow.running = true ∧ s.dev.coarseNow = true ∧ s.dev.mayJump = true ∧ s.dev.coarseTarget = some n ∧
  (((s.dev.atStep 6 || s.dev.atStep 7) && s.dev.boot.entries.any (fun e => e.phase == 3)) = false) ∧
  (s.dev.twin k.val).swapAt = some p ∧ p.toNat < n.toNat + 2 :=
  ⟨(on (fun d => { (((d.put F.CLK_REF_STAT_MPL0_LOCK 0 1).put F.TOW_LOAD_LO_POUND 0 5).put F.TOW_LOAD_HI_POUND 0 1) with twins := [(1, { swapAt := some 40 })], tow := { running := true, pound := 7, ticks := 3, phase := .source, startUp := true } })),
    (BitVec.ofNat 64 (2 ^ 32 + 5)), (40), (1), by decide⟩
theorem witness_PoundBoundary_poundJump_calApply : ∃ (s : State) (n : Pound) (p : Pound), s.Running ∧
  s.dev.tow.running = true ∧ s.dev.coarseNow = true ∧ s.dev.mayJump = true ∧ s.dev.coarseTarget = some n ∧
  (((s.dev.atStep 6 || s.dev.atStep 7) && s.dev.boot.entries.any (fun e => e.phase == 3)) = false) ∧
  s.dev.cal.applyAt = some p ∧ p.toNat < n.toNat + 2 :=
  ⟨(on (fun d => { (((d.put F.CLK_REF_STAT_MPL0_LOCK 0 1).put F.TOW_LOAD_LO_POUND 0 5).put F.TOW_LOAD_HI_POUND 0 1) with cal := { applyAt := some 40 }, tow := { running := true, pound := 7, ticks := 3, phase := .source, startUp := true } })),
    (BitVec.ofNat 64 (2 ^ 32 + 5)), (40), by decide⟩
theorem witness_PoundBoundary_poundJump_answers : ∃ (s : State) (n : Pound), s.Running ∧ s.dev.tow.running = true ∧
  s.dev.coarseNow = true ∧ s.dev.mayJump = true ∧ s.dev.coarseTarget = some n :=
  ⟨(on (fun d => { (((d.put F.CLK_REF_STAT_MPL0_LOCK 0 1).put F.TOW_LOAD_LO_POUND 0 5).put F.TOW_LOAD_HI_POUND 0 1) with tow := { running := true, pound := 7, ticks := 3, phase := .source, startUp := true } })),
    (BitVec.ofNat 64 (2 ^ 32 + 5)), by decide⟩
theorem witness_PoundBoundary_poundJump_not : ∃ (s : State), s.Running ∧
  (s.dev.tow.running = false ∨ s.dev.coarseNow = false ∨ s.dev.mayJump = false ∨ s.dev.coarseTarget = none) :=
  ⟨(base), by decide⟩

end Sys2Proof.Tests
end

section
/-! The canonical form of the register file and of the Berth memory: every operation of the device keeps it, each proved by
the operations it is made of. A lemma is named after the operation. -/

namespace Sys2Proof.Machine

namespace Device.StoresCanonical

variable {d : Device}
  {a b c dom e i id k n page q reporter s src st v w addr code kind slot rtt reading ofs p8 result : Nat}
  {cls m rail word sym base : Nat}
  {inBand crc int refresh back good late fresh : Bool} {theta ps : Int} {p : Pound} {up : Upset} {at' : PF}
  {cycles : List Byte} {image : Option (List Byte)} {cap : BitVec 112} {second : Option (BitVec 128)}
  {raw dith merged : List Nat} {gen : BitVec 16} {flash : Option FlashImages}

/-! ### The ways in which operations are put together -/

/-- The canonical form is one of the registers and the Berth cells alone: any other part may be given a new value. -/
theorem update {epoch freeCtr bandEpoch : Nat} {boot : Boot} {clk : Clocks} {flt : FaultUnit} {cores : Store Core}
    {twins : Store Twin} {outputs : Store Output} {bandMap : Store Word} {loads : List Load} {eng : Engines} {dec : Decisions}
    {whf : Wharves} {tow : Tow} {tpt : Tpt} {cal : Cal} {hsp : Hsp} {nvs : Nvs} {bus : Bus} {mbx : Mailbox} {kpr : Keeper}
    (h : d.StoresCanonical) :
    Device.StoresCanonical {
      fields := d.fields, ledger := d.ledger, epoch, freeCtr, boot, clk, flt, cores, twins, outputs, bandMap, bandEpoch,
      loads, eng, dec, whf, tow, tpt, cal, hsp, nvs, bus, mbx, kpr } :=
  h

/-- So may the rest of the ledger. -/
theorem updateLedger {epoch : Nat} {map : Store Word} {waiting : Option (Nat × Store Word)} (h : d.StoresCanonical) :
    Device.StoresCanonical { d with ledger := { cells := d.ledger.cells, epoch, map, waiting } } :=
  h

theorem ite {x : Prop} [Decidable x] {d₁ d₂ : Device} (h₁ : d₁.StoresCanonical) (h₂ : d₂.StoresCanonical) :
    (if x then d₁ else d₂).StoresCanonical := by
  split
  · exact h₁
  · exact h₂

theorem forEach {α : Type} {l : List α} {f : α → Device → Device} (h : d.StoresCanonical)
    (hf : ∀ {x d}, d.StoresCanonical → (f x d).StoresCanonical) : (Machine.forEach l f d).StoresCanonical := by
  unfold Machine.forEach
  induction l generalizing d with
  | nil => exact h
  | cons x t ih => exact ih (hf h)

/-- What follows an accepted command keeps the canonical form; nothing follows a rejected one. -/
theorem accepted {r : Option Cmd × Device} {f : Cmd → Device → Device} (h : r.2.StoresCanonical)
    (hf : ∀ {c d}, d.StoresCanonical → (f c d).StoresCanonical) :
    (match r with | (some c, d) => f c d | (none, d) => d).StoresCanonical := by
  obtain ⟨_ | c, d⟩ := r
  · exact h
  · exact hf h


/-! ### Machine/Ops.lean -/

theorem put {f : Fld} (h : d.StoresCanonical) : (d.put f i v).StoresCanonical := d.put_canonical f i v h
theorem putB {f : Fld} {b : Bool} (h : d.StoresCanonical) : (d.putB f i b).StoresCanonical := h.put
theorem bump {f : Fld} (h : d.StoresCanonical) : (d.bump f i n).StoresCanonical := h.put
theorem irqStat (h : d.StoresCanonical) : (d.irqStat page k).StoresCanonical := h.put
theorem eventBit {f : Fld} (h : d.StoresCanonical) : (d.eventBit f i b).StoresCanonical := h.put.irqStat
theorem event {f : Fld} (h : d.StoresCanonical) : (d.event f i).StoresCanonical := h.eventBit
theorem pageEvent {f : Fld} (h : d.StoresCanonical) : (d.pageEvent f page).StoresCanonical := h.put.put
theorem draw (h : d.StoresCanonical) : (d.draw kind).2.StoresCanonical := update h
theorem when {b : Bool} {f : Device → Device} (h : d.StoresCanonical)
    (hf : ∀ {d}, d.StoresCanonical → (f d).StoresCanonical) : (d.when b f).StoresCanonical := ite (hf h) h
theorem markDirty (h : d.StoresCanonical) : d.markDirty.StoresCanonical := when h (fun h => update h)
theorem reportAt {at? : Option Pound} (h : d.StoresCanonical) :
    (d.reportAt cls src code reporter at?).StoresCanonical := ite (update h) h.bump.event
theorem report (h : d.StoresCanonical) : (d.report cls src code reporter).StoresCanonical := h.reportAt
theorem resetRegs {l : List Reg} (h : d.StoresCanonical) : (d.resetRegs l).StoresCanonical := d.resetRegs_canonical l h

theorem mbxFinish {words : Option (List Word)} (h : d.StoresCanonical) :
    (d.mbxFinish result words).StoresCanonical := by
  unfold Device.mbxFinish
  extract_lets +onlyGivenNames d₁ d₂
  have h₁ : d₁.StoresCanonical := update h
  have h₂ : d₂.StoresCanonical := by
    unfold d₂
    split
    · exact put <| forEach h₁ put
    · exact h₁
  exact h₂.put.put.event

theorem ifOpen {f : Device → Device} (h : d.StoresCanonical)
    (hf : ∀ {d}, d.StoresCanonical → (f d).StoresCanonical) : (d.ifOpen page f).StoresCanonical := ite h (hf h)

/-! ### Machine/Faults.lean -/

theorem takeReport {r : Report} {f : BitVec 24} (h : d.StoresCanonical) :
    (d.takeReport r f).StoresCanonical := by
  unfold Device.takeReport
  extract_lets +onlyGivenNames st last
  split
  · exact update h
  · split
    · exact event <| put <| update h
    · exact h.bump.event

theorem faultReport {f : BitVec 24} (h : d.StoresCanonical) : (d.faultReport f).StoresCanonical := by
  unfold Device.faultReport
  split
  · exact takeReport <| update h
  · split
    · exact takeReport <| update h
    · exact h

theorem freeRecord (h : d.StoresCanonical) : (d.freeRecord k).StoresCanonical := by
  unfold Device.freeRecord
  split
  · exact update h
  · exact h

theorem wrFltClear (h : d.StoresCanonical) : (d.wrFltClear v).StoresCanonical :=
  have h := h.put
  ite h.freeRecord h

theorem freeAll (h : d.StoresCanonical) : d.freeAll.StoresCanonical := update h

theorem wrFltCtrl (h : d.StoresCanonical) : (d.wrFltCtrl v).StoresCanonical :=
  have h := h.put.put
  ite h.freeAll h

theorem stampHopMiss (h : d.StoresCanonical) : (d.stampHopMiss k p).StoresCanonical := by
  unfold Device.stampHopMiss
  refine ite (update h) ?_
  refine ite (update h) ?_
  split
  · exact update h
  · exact h

theorem logWeir {before : Nat} (h : d.StoresCanonical) : (d.logWeir before).StoresCanonical := when h event
theorem logRecord {rec : BitVec 128} (h : d.StoresCanonical) : (d.logRecord rec).StoresCanonical :=
  ite h.bump.event (logWeir <| put <| update h)
theorem wrLogTail (h : d.StoresCanonical) : (d.wrLogTail v).StoresCanonical := h.put.logWeir

/-! ### Machine/Cores.lean -/

theorem setCore {k : Core} (h : d.StoresCanonical) : (d.setCore c k).StoresCanonical := update h
theorem onCore {f : Core → Core} (h : d.StoresCanonical) : (d.onCore c f).StoresCanonical := h.setCore
theorem coreReport (h : d.StoresCanonical) : (d.coreReport c code).StoresCanonical := h.report
theorem setTwin {t : Twin} (h : d.StoresCanonical) : (d.setTwin k t).StoresCanonical := update h
theorem putBit {f : Fld} {v : Bool} (h : d.StoresCanonical) : (d.putBit f i b v).StoresCanonical := h.put
theorem standbyStops (h : d.StoresCanonical) : (d.standbyStops k).StoresCanonical := when h put
theorem onOutput {f : Output → Output} (h : d.StoresCanonical) : (d.onOutput n f).StoresCanonical := update h
theorem dccRetune {old : Settings} (h : d.StoresCanonical) : (d.dccRetune c old).StoresCanonical :=
  forEach h (fun h => when h put)
theorem putAligned {v : Bool} (h : d.StoresCanonical) : (d.putAligned c v).StoresCanonical := when h.putB putBit

theorem refreshAligned (h : d.StoresCanonical) : (d.refreshAligned c).StoresCanonical :=
  have h := h.putAligned
  ite (onCore <| when h eventBit) h

theorem startHold (h : d.StoresCanonical) : (d.startHold c).StoresCanonical := h.put.onCore
theorem track (h : d.StoresCanonical) : (d.track c).StoresCanonical :=
  ite (refreshAligned <| put <| when (when h.setCore bump) startHold) h.onCore.put.refreshAligned

theorem monitorSample (h : d.StoresCanonical) : (d.monitorSample c).StoresCanonical := by
  unfold Device.monitorSample
  split
  · exact h
  · extract_lets +onlyGivenNames d₁
    have h₁ : d₁.StoresCanonical := h.onCore
    refine ite ?_ h₁
    extract_lets +onlyGivenNames time d₂
    have h₂ : d₂.StoresCanonical := h₁.put
    exact ite h₂ h₂.onCore

theorem captureCore (h : d.StoresCanonical) : (d.captureCore c).StoresCanonical := by
  unfold Device.captureCore
  split
  · exact ite (update h) h
  · exact h

theorem endCore (h : d.StoresCanonical) : (d.endCore c).StoresCanonical := h.track.monitorSample.captureCore
theorem dropLock (h : d.StoresCanonical) : (d.dropLock c).StoresCanonical := h.put.putAligned.put.put.put.onCore
theorem acquire (h : d.StoresCanonical) : (d.acquire c st).StoresCanonical := h.put.onCore

theorem searchOrManual {s : Settings} (h : d.StoresCanonical) : (d.searchOrManual c s).StoresCanonical :=
  have h := h.dropLock.onCore.put
  ite h.put.put.put.acquire h.put.put.put

theorem presetLoad {p : Preset} (h : d.StoresCanonical) : (d.presetLoad c p).StoresCanonical :=
  have h := h.put.put.put.put.putAligned
  onCore <| ite h.acquire h

theorem setTrim {x : Int} (h : d.StoresCanonical) : (d.setTrim c x).StoresCanonical := h.put
theorem addTrim {s : Int} (h : d.StoresCanonical) : (d.addTrim c s).StoresCanonical := h.setTrim
theorem reduceTrim (h : d.StoresCanonical) : (d.reduceTrim c).StoresCanonical := h.addTrim
theorem newSettings {s : Settings} {start : Bool} (h : d.StoresCanonical) :
    (d.newSettings c s int start).StoresCanonical := h.onCore.putB.reduceTrim.dccRetune

theorem takeSettings {s : Settings} {int : Bool} {commit? : Option (Option Preset)} (h : d.StoresCanonical) :
    (d.takeSettings c s int commit? inBand).StoresCanonical := by
  unfold Device.takeSettings
  extract_lets +onlyGivenNames idle stays found d₁ d₂
  have h₁ : d₁.StoresCanonical := h.newSettings
  have h₂ : d₂.StoresCanonical := by
    unfold d₂
    generalize found = preset?
    split
    · exact h₁.presetLoad
    · exact ite h₁.onCore (ite h₁.put h₁.searchOrManual)
  exact when h₂ startHold

theorem loadFrame {l : Load} (h : d.StoresCanonical) : (d.loadFrame c l).StoresCanonical := h.onCore

/-- The definition is unfolded by an equation between functions: unfolded at its arguments, the kernel would evaluate the
settings that `Device.derived` computes to see which branch of the match is taken. -/
theorem boundLoad {l : Load} (h : d.StoresCanonical) : (d.boundLoad c l inBand).StoresCanonical := by
  have unfolded : Device.boundLoad = Device.boundLoad := rfl
  conv at unfolded => rhs; delta Device.boundLoad
  rw [unfolded]
  dsimp only
  generalize (d.derived c l.f).refusal = refusal?
  cases refusal? with
  | none => exact h.loadFrame.takeSettings
  | some _ => exact h.event.coreReport

theorem cancelApply (h : d.StoresCanonical) : (d.cancelApply c).StoresCanonical := ite h.put.put.onCore h
theorem recordBinding {berth : Nat} (h : d.StoresCanonical) : (d.recordBinding c berth).StoresCanonical :=
  h.cancelApply.put.put.onCore
theorem releaseCore (h : d.StoresCanonical) : (d.releaseCore c).StoresCanonical := h.put.onCore
theorem cancelHop (h : d.StoresCanonical) : (d.cancelHop k).StoresCanonical :=
  ite h.setTwin.putBit.putBit.onCore.standbyStops.eventBit.report h

theorem takeLoad {l : Load} (h : d.StoresCanonical) : (d.takeLoad c l inBand).StoresCanonical := by
  unfold Device.takeLoad
  extract_lets +onlyGivenNames ours
  split
  · exact h.recordBinding
  · exact ite h.releaseCore h
  · extract_lets +onlyGivenNames d₁
    have h₁ : d₁.StoresCanonical := h.recordBinding
    exact ite h₁ h₁.boundLoad
  · exact ite h h.boundLoad
  · exact ite h h.boundLoad
  · exact ite h (ite h.boundLoad h.loadFrame)
  · exact ite h h.loadFrame
  · exact ite h h.onCore
  · exact ite h (when h.boundLoad onCore)
  · exact ite h.eventBit.report (ite h h.boundLoad)

theorem coreLoad (h : d.StoresCanonical) : (d.coreLoad c inBand).StoresCanonical := by
  unfold Device.coreLoad
  refine ite h ?_
  split
  · exact h
  · extract_lets +onlyGivenNames d₁
    have h₁ : d₁.StoresCanonical := takeLoad <| update h
    exact ite h₁ h₁.endCore

theorem wrLoopApply (h : d.StoresCanonical) : (d.wrLoopApply c v).StoresCanonical := by
  unfold Device.wrLoopApply
  refine ite h ?_
  extract_lets +onlyGivenNames d₁
  have h₁ : d₁.StoresCanonical := h.put.put
  refine ite ?_ h₁
  extract_lets +onlyGivenNames p d₂
  have h₂ : d₂.StoresCanonical := when h₁ put
  split
  · exact h₂.put.put.onCore
  · exact h₂.put.put.onCore

theorem setFreeTarget (h : d.StoresCanonical) : (d.setFreeTarget c).StoresCanonical := ite h.onCore h.onCore

theorem loopApplyTake (h : d.StoresCanonical) : (d.loopApplyTake c inBand).StoresCanonical := by
  unfold Device.loopApplyTake
  refine ite ?_ h
  extract_lets +onlyGivenNames d₁ s
  have h₁ : d₁.StoresCanonical := h.onCore.put
  split
  · exact h₁.put.endCore
  · exact h₁.takeSettings.onCore.setFreeTarget.put.event.endCore

theorem wrPhaseAdj (h : d.StoresCanonical) : (d.wrPhaseAdj c v).StoresCanonical := by
  unfold Device.wrPhaseAdj
  refine ite h ?_
  extract_lets +onlyGivenNames d₁
  have h₁ : d₁.StoresCanonical := h.put
  exact ite (ite h₁.event h₁.put.onCore) h₁

theorem gainLock (h : d.StoresCanonical) : (d.gainLock c).StoresCanonical :=
  event <| put <| put <| put <| setCore <| update h
theorem lockGained {errs : List Nat} (h : d.StoresCanonical) : (d.lockGained c errs).StoresCanonical :=
  ite h.gainLock h
theorem loseLock (h : d.StoresCanonical) : (d.loseLock c).StoresCanonical :=
  h.dropLock.acquire.onCore.bump.event.coreReport
theorem lockLost {errs : List Nat} (h : d.StoresCanonical) : (d.lockLost c errs).StoresCanonical := ite h.loseLock h
theorem reacquireTimeout (h : d.StoresCanonical) : (d.reacquireTimeout c).StoresCanonical := ite h.searchOrManual h

theorem bandSearchDone {band fKhz : Nat} (h : d.StoresCanonical) :
    (d.bandSearchDone c band fKhz).StoresCanonical := by
  unfold Device.bandSearchDone
  refine ite ?_ h
  extract_lets +onlyGivenNames s goal d₁
  have h₁ : d₁.StoresCanonical := h.put.put.onCore
  exact ite h₁.put.event.coreReport h₁.acquire

theorem tuneEdge (h : d.StoresCanonical) : (d.tuneEdge c).StoresCanonical := ite h.put.event.coreReport h
theorem cycleSlip (h : d.StoresCanonical) : (d.cycleSlip c).StoresCanonical := ite h (when h.bump.event onCore)

theorem wrFcntCfg (h : d.StoresCanonical) : (d.wrFcntCfg c v).StoresCanonical := by
  unfold Device.wrFcntCfg
  refine ite h ?_
  extract_lets +onlyGivenNames d₁
  have h₁ : d₁.StoresCanonical := h.put
  exact ite h₁.put.put.onCore h₁

theorem fcntDone {count : Nat} (h : d.StoresCanonical) : (d.fcntDone c count).StoresCanonical := by
  unfold Device.fcntDone
  split
  · exact ite h.put.put.put.onCore h
  · exact h

theorem monitorAverage (h : d.StoresCanonical) : (d.monitorAverage c).StoresCanonical :=
  ite (refreshAligned <| when (when h.put.put.onCore (fun h => h.event.coreReport)) addTrim) h
theorem monitorHoldEnd (h : d.StoresCanonical) : (d.monitorHoldEnd c).StoresCanonical := ite h.put.refreshAligned h
theorem realigned (h : d.StoresCanonical) : (d.realigned c).StoresCanonical := ite h.onCore.addTrim.event h

theorem coreBoundary {dith raw : Nat} (h : d.StoresCanonical) :
    (d.coreBoundary c dith raw).StoresCanonical := by
  unfold Device.coreBoundary
  refine ite h ?_
  extract_lets +onlyGivenNames k newBw bwChanged opens gate hadAdj _ k d₁ d₂ d₃
  have h₁ : d₁.StoresCanonical := h.setCore
  have h₂ : d₂.StoresCanonical := when h₁ put
  have h₃ : d₃.StoresCanonical := when h₂ startHold
  exact ite h₃ h₃.endCore

/-! ### Machine/Twins.lean -/

theorem followSource (h : d.StoresCanonical) : (d.followSource n).StoresCanonical := onOutput <| when h put
theorem wrOutputSel (h : d.StoresCanonical) : (d.wrOutputSel n v).StoresCanonical := ite h.putBit h.put.onOutput

theorem outputSourceChange (h : d.StoresCanonical) : (d.outputSourceChange n).StoresCanonical := by
  unfold Device.outputSourceChange
  split
  · exact ite h.put.onOutput.followSource.put h
  · exact h

theorem refreshReady (h : d.StoresCanonical) : (d.refreshReady k).StoresCanonical := h.putBit
theorem endHop (h : d.StoresCanonical) : (d.endHop k).StoresCanonical := h.setTwin.putBit.putBit
theorem endSwap {r : Nat} (h : d.StoresCanonical) : (d.endSwap k r).StoresCanonical := h.setTwin.put.put
theorem switchTwin (h : d.StoresCanonical) : (d.switchTwin k).StoresCanonical :=
  forEach (refreshReady <| eventBit <| standbyStops <| onCore <| onCore <| putBit <| endHop <| when h endSwap)
    (fun h => when h followSource)
theorem abandonHop (h : d.StoresCanonical) : (d.abandonHop k).StoresCanonical :=
  endHop <| when h.onCore.standbyStops endSwap

theorem missHop {t : Pound} (h : d.StoresCanonical) : (d.missHop k t).StoresCanonical :=
  have h := h.reportAt.eventBit
  ite h.setTwin.putBit (ite h.switchTwin h.abandonHop)

theorem twinSwitch (h : d.StoresCanonical) : (d.twinSwitch k).StoresCanonical := by
  unfold Device.twinSwitch
  split
  · exact ite (ite h.switchTwin h.missHop) h
  · exact h

theorem deferSwitch (h : d.StoresCanonical) : (d.deferSwitch k).StoresCanonical := ite h.switchTwin.stampHopMiss h
theorem deferTimeout (h : d.StoresCanonical) : (d.deferTimeout k).StoresCanonical := ite h.abandonHop.stampHopMiss h
theorem hopReadyStep (h : d.StoresCanonical) : (d.hopReadyStep k).StoresCanonical := h.refreshReady
theorem wrTwinEnBit {v : Bool} (h : d.StoresCanonical) : (d.wrTwinEnBit k v).StoresCanonical :=
  ite h (ite h.eventBit (ite h.putBit.refreshReady (refreshReady <| endHop <| when h.putBit.putBit endSwap)))
theorem wrTwinCtrl (h : d.StoresCanonical) : (d.wrTwinCtrl v).StoresCanonical := forEach h wrTwinEnBit

theorem wrTwinSwap (h : d.StoresCanonical) : (d.wrTwinSwap v).StoresCanonical :=
  have h := h.put
  ite (ite h.put.put (put <| put <| setTwin <| forEach h (fun h => when h setTwin))) h

theorem hopBlankEnd (h : d.StoresCanonical) : (d.hopBlankEnd c).StoresCanonical := ite h.onCore h
theorem retuneSlow (h : d.StoresCanonical) : (d.retuneSlow c).StoresCanonical := ite h.onCore.eventBit.coreReport h

theorem wrOutputDelay (h : d.StoresCanonical) : (d.wrOutputDelay n v).StoresCanonical :=
  have h := h.put
  ite h.onOutput h.onOutput

theorem walkToTable (h : d.StoresCanonical) : (d.walkToTable n).StoresCanonical := h.onOutput.put
theorem delayWalk (h : d.StoresCanonical) : (d.delayWalk n).StoresCanonical := ite h.walkToTable h

theorem delayWalkDone (h : d.StoresCanonical) : (d.delayWalkDone n).StoresCanonical := by
  unfold Device.delayWalkDone
  split
  · exact ite h.put.put.onOutput h
  · exact h

theorem dccPark (h : d.StoresCanonical) : (d.dccPark n).StoresCanonical := when h put
theorem dccEnable (h : d.StoresCanonical) : (d.dccEnable n).StoresCanonical := when h put
theorem dccLock (h : d.StoresCanonical) : (d.dccLock n).StoresCanonical := ite h.put h
theorem alignArm (h : d.StoresCanonical) : (d.alignArm n).StoresCanonical := ite h.put.putBit h.onOutput.put.putBit
theorem alignEnd (h : d.StoresCanonical) : (d.alignEnd n).StoresCanonical := h.onOutput.put.putBit.putBit
theorem alignDisarm (h : d.StoresCanonical) : (d.alignDisarm n).StoresCanonical :=
  ite h.onOutput.putBit (ite h.alignEnd h)
theorem wrAlignArm (h : d.StoresCanonical) : (d.wrAlignArm v).StoresCanonical := forEach h (fun h => when h alignArm)
theorem wrAlignDisarm (h : d.StoresCanonical) : (d.wrAlignDisarm v).StoresCanonical :=
  forEach h (fun h => when h alignDisarm)

theorem alignStrobe (h : d.StoresCanonical) : (d.alignStrobe n).StoresCanonical := by
  unfold Device.alignStrobe
  extract_lets +onlyGivenNames o
  split
  · refine ite ?_ h
    extract_lets +onlyGivenNames d₁
    have h₁ : d₁.StoresCanonical := h.onOutput
    refine ite ?_ h₁.bump.put.onOutput
    extract_lets +onlyGivenNames d₂
    have h₂ : d₂.StoresCanonical := h₁.putBit
    exact ite h₂.alignEnd h₂
  · exact h

theorem strobeFall (h : d.StoresCanonical) : (d.strobeFall n).StoresCanonical := by
  unfold Device.strobeFall
  extract_lets +onlyGivenNames o d₁
  have h₁ : d₁.StoresCanonical := h.put.onOutput
  split
  · exact ite h₁.alignEnd h₁
  · exact h₁.alignEnd

theorem alignStrobeEnd (h : d.StoresCanonical) : (d.alignStrobeEnd n).StoresCanonical := ite h.strobeFall h
theorem sampleTwins (h : d.StoresCanonical) : d.sampleTwins.StoresCanonical := forEach h setTwin
theorem outputsBoundary (h : d.StoresCanonical) : d.outputsBoundary.StoresCanonical :=
  forEach (forEach h (fun h => refreshReady <| when h setTwin)) (fun h => h.onOutput.followSource.dccPark)

/-! ### Machine/Ledger.lean -/

theorem count {s : Fin 4} {f : Counts → Counts} (h : d.StoresCanonical) : (d.count s f).StoresCanonical := update h
theorem effect {c : Cmd} {code : Code} (h : d.StoresCanonical) : (d.effect c code gen).StoresCanonical :=
  when h logRecord
theorem rejectCmd {c : Cmd} {code : Code} (h : d.StoresCanonical) :
    (d.rejectCmd c code gen).StoresCanonical := h.count.effect
theorem discardCmd {c : Cmd} (h : d.StoresCanonical) : (d.discardCmd c).StoresCanonical := h.count
theorem applyCmd {c : Cmd} (h : d.StoresCanonical) : (d.applyCmd c gen).StoresCanonical := h.count.effect

theorem accept {src : Fin 4} {w : BitVec 128} (h : d.StoresCanonical) :
    (d.accept src w second refresh).2.StoresCanonical := by
  unfold Device.accept
  extract_lets +onlyGivenNames p c
  split
  · exact h.count.effect
  · exact h.count

theorem setCell {c : Cell} (h : d.StoresCanonical) : (d.setCell id c).StoresCanonical := d.setCell_canonical id c h
theorem noteErrors {c : Cell} (h : d.StoresCanonical) : (d.noteErrors id c).StoresCanonical :=
  when (when h (fun h => h.bump.event.put.putB.put)) (fun h => h.bump.event.put.putB.put.report)
theorem readBerth (h : d.StoresCanonical) : (d.readBerth id up).2.StoresCanonical := noteErrors (when h setCell)
theorem releaseBerth (h : d.StoresCanonical) : (d.releaseBerth id).StoresCanonical :=
  forEach h (fun h => when h releaseCore)
theorem cancelBerthHop (h : d.StoresCanonical) : (d.cancelBerthHop id).StoresCanonical :=
  forEach h (fun h => when h cancelHop)
theorem indRefused (h : d.StoresCanonical) : d.indRefused.StoresCanonical := h.event

theorem requestBerthWrite {words : Store Word} (h : d.StoresCanonical) :
    (d.requestBerthWrite id words).StoresCanonical := by
  unfold Device.requestBerthWrite
  extract_lets +onlyGivenNames _ d₁
  have h₁ : d₁.StoresCanonical := put <| updateLedger h
  refine ite h₁ ?_
  refine ite h.indRefused ?_
  split
  · exact h.indRefused.pageEvent
  · exact h₁

theorem berthWriteCommit (h : d.StoresCanonical) : d.berthWriteCommit.StoresCanonical := by
  unfold Device.berthWriteCommit
  split
  · exact h
  · refine ite h ?_
    extract_lets +onlyGivenNames _ d₁
    have h₁ : d₁.StoresCanonical := put <| updateLedger h
    refine ite h₁.indRefused ?_
    split
    · exact h₁.indRefused.pageEvent
    · exact when h₁.setCell releaseBerth

/-! ### Machine/Slots.lean -/

theorem onLane {f : Lane → Lane} (h : d.StoresCanonical) : (d.onLane n f).StoresCanonical := update h
theorem onWharf {f : Wharf → Wharf} (h : d.StoresCanonical) : (d.onWharf w f).StoresCanonical := update h
theorem takeCredit (h : d.StoresCanonical) : (d.takeCredit w).StoresCanonical := h.put
theorem giveCredits (h : d.StoresCanonical) : (d.giveCredits w n).StoresCanonical := h.put
theorem slotFailed (h : d.StoresCanonical) : (d.slotFailed w).StoresCanonical := when h onWharf
theorem countUndeliverable (h : d.StoresCanonical) : (d.countUndeliverable w).StoresCanonical := when h bump

/-! ### Machine/Engines.lean -/

theorem setEngine {x : Engine} (h : d.StoresCanonical) : (d.setEngine e x).StoresCanonical := update h
theorem onEngine {f : Engine → Engine} (h : d.StoresCanonical) : (d.onEngine e f).StoresCanonical := h.setEngine
theorem spend (h : d.StoresCanonical) : (d.spend e n).StoresCanonical := h.onEngine.bump
theorem passFence (h : d.StoresCanonical) : (d.passFence s n).StoresCanonical := h.putBit.put

theorem settleFences (h : d.StoresCanonical) : d.settleFences.StoresCanonical := by
  unfold Device.settleFences
  refine forEach h fun h₁ => ?_
  split
  · exact when h₁ passFence
  · exact h₁

theorem enterSlice {c : Cmd} (h : d.StoresCanonical) : (d.enterSlice e c).StoresCanonical := put <| update h.onEngine
theorem backToSlice {c : Cmd} (h : d.StoresCanonical) : (d.backToSlice c).StoresCanonical := h.onEngine
theorem grant {bank cycle : Nat} (h : d.StoresCanonical) : (d.grant bank cycle).StoresCanonical := update h
theorem voidBank (h : d.StoresCanonical) : (d.voidBank b).StoresCanonical := h.putBit.event.report
theorem queueUncorr (h : d.StoresCanonical) : (d.queueUncorr reporter).StoresCanonical := h.event.report
theorem dropWord {c : Cmd} (h : d.StoresCanonical) : (d.dropWord c up reporter).StoresCanonical :=
  h.count.queueUncorr.settleFences
theorem creditUncorr (h : d.StoresCanonical) : (d.creditUncorr w).StoresCanonical := report <| put <| update h

theorem untake {x : Turn} (h : d.StoresCanonical) : (d.untake x).StoresCanonical := by
  unfold Device.untake
  split
  · exact h.onEngine
  · exact h

theorem atCycle {t : Nat} (h : d.StoresCanonical) : (d.atCycle t).StoresCanonical := forEach (update h) untake
theorem turn {took : Option Cmd} (h : d.StoresCanonical) : (d.turn e took).StoresCanonical := update h

theorem executeCmd {c : Cmd} (h : d.StoresCanonical) : (d.executeCmd e c up).StoresCanonical := by
  unfold Device.executeCmd
  extract_lets +onlyGivenNames id d₁
  have h₁ : d₁.StoresCanonical := by
    unfold d₁
    split
    · exact when h creditUncorr
    · exact h
  have h₂ : (d₁.readBerth id up).2.StoresCanonical := h₁.readBerth
  generalize d₁.readBerth id up = r at h₂
  obtain ⟨x, d₂⟩ := r
  dsimp only at h₂ ⊢
  split
  · refine rejectCmd <| bump <| spend ?_
    split
    · exact when h₂ countUndeliverable
    · exact h₂
  · exact h₂.spend.slotFailed.backToSlice
  · split
    · exact update h₂.spend.bump
    · split
      · exact h₂.spend.bump
      · exact update h₂.spend.bump.takeCredit

theorem startCmd {c : Cmd} (h : d.StoresCanonical) : (d.startCmd e i c up).StoresCanonical := by
  unfold Device.startCmd
  extract_lets +onlyGivenNames b used d₁ drop
  have h₁ : d₁.StoresCanonical := when h voidBank
  exact ite (ite h₁.turn.onEngine.spend.bump.rejectCmd h₁) (ite (ite h₁.turn.onEngine.grant.executeCmd h₁.turn.spend) h₁)

theorem runNop {c : Cmd} (h : d.StoresCanonical) : (d.runNop e i c).StoresCanonical :=
  ite h.turn.onEngine.spend.bump.applyCmd h

theorem missedTurn {want : BitVec 128 → Bool} (h : d.StoresCanonical) :
    (d.missedTurn e want).StoresCanonical := by
  unfold Device.missedTurn
  extract_lets +onlyGivenNames t
  split
  · exact ite h.turn.spend h
  · exact h

theorem engineStep {want : BitVec 128 → Bool} (h : d.StoresCanonical) :
    (d.engineStep e want up).StoresCanonical := by
  unfold Device.engineStep
  refine ite h ?_
  split
  · exact ite h.onEngine.dropWord (ite (settleFences <| executeCmd <| onEngine <| when h voidBank) h)
  · split
    · exact h.missedTurn
    · exact ite h (ite h.onEngine.dropWord (ite h.runNop.settleFences h.startCmd.settleFences))

theorem steal {ring : Bool} (h : d.StoresCanonical) : (d.steal e ring up).StoresCanonical := by
  unfold Device.steal
  extract_lets +onlyGivenNames used
  split
  · exact h
  · refine ite h ?_
    split
    · exact h.turn.spend
    · refine ite h.turn.spend.onEngine.dropWord ?_
      refine ite h.turn.spend.voidBank ?_
      extract_lets +onlyGivenNames _ d₁ d₂ d₃ d₄
      have h₁ : d₁.StoresCanonical := update h
      have h₂ : d₂.StoresCanonical := h₁.turn.grant
      have h₃ : d₃.StoresCanonical := h₂.onEngine
      have h₄ : d₄.StoresCanonical := h₃.onEngine.spend
      exact ite h₄.bump h₄.bump

theorem endFill {c : Cmd} (h : d.StoresCanonical) : (d.endFill e c).StoresCanonical :=
  have h := h.event.bump
  ite h.rejectCmd h.applyCmd

theorem fillOne {c : Cmd} (h : d.StoresCanonical) : (d.fillOne e i c).StoresCanonical := by
  unfold Device.fillOne
  extract_lets +onlyGivenNames id b cycle go
  refine ite ?_ (ite h.spend (update h.grant.spend.onEngine))
  extract_lets +onlyGivenNames c' d₁
  have h₁ : d₁.StoresCanonical := h.spend
  exact ite h₁.onEngine.endFill h₁.onEngine

theorem fillStep (h : d.StoresCanonical) : (d.fillStep e up).StoresCanonical := by
  unfold Device.fillStep
  split
  · exact h
  · exact ite h.onEngine.dropWord (settleFences <| fillOne <| when h voidBank)

theorem addLoads {l : List Load} (h : d.StoresCanonical) : (d.addLoads l).StoresCanonical := update h

theorem doAct {berth : Nat} {a : Act} (h : d.StoresCanonical) : (d.doAct berth a).StoresCanonical := by
  unfold Device.doAct
  split
  · exact h
  · exact h.addLoads
  · exact h.cancelHop.addLoads
  · exact h.setTwin.putBit.put.addLoads

theorem commit {f : Flight} (h : d.StoresCanonical) : (d.commit f).StoresCanonical := by
  unfold Device.commit
  extract_lets +onlyGivenNames d₁
  have h₁ : d₁.StoresCanonical := by
    unfold d₁
    split
    · exact h.setCell
    · exact h
  refine ite ?_ h₁.doAct.applyCmd
  extract_lets +onlyGivenNames d₂
  have h₂ : d₂.StoresCanonical := h₁.cancelBerthHop.releaseBerth
  split
  · exact ite h₂.onEngine.endFill (ite h₂.onEngine.endFill h₂)
  · exact h₂

theorem commitAll (h : d.StoresCanonical) : d.commitAll.StoresCanonical := update (forEach h commit)

/-! ### Machine/Sources.lean -/

theorem holdAt {c : Cmd} (h : d.StoresCanonical) : (d.holdAt s c).StoresCanonical := settleFences <| put <| update h
theorem endHold (h : d.StoresCanonical) : (d.endHold s).StoresCanonical := put <| update <| update h
theorem setHcq {q : List Cmd} (h : d.StoresCanonical) : (d.setHcq q).StoresCanonical :=
  when (when (update h) (fun h => event <| update h)) (fun h => event <| update h)
theorem ttWeir {before : Nat} (h : d.StoresCanonical) : (d.ttWeir before).StoresCanonical := when (when h event) event
theorem ttPastFence {w : FenceHold} (h : d.StoresCanonical) : (d.ttPastFence w).StoresCanonical :=
  ite h.put.bump.ttWeir h

theorem unhold {w : FenceHold} (h : d.StoresCanonical) : (d.unhold s w).StoresCanonical := by
  unfold Device.unhold
  extract_lets +onlyGivenNames d₁
  have h₁ : d₁.StoresCanonical := h.endHold
  split
  · exact h₁.setHcq
  · exact h₁.ttPastFence
  · exact update h₁
  · exact update h₁

theorem fenceRelease (h : d.StoresCanonical) : (d.fenceRelease s).StoresCanonical := by
  unfold Device.fenceRelease
  extract_lets +onlyGivenNames d₁
  have h₁ : d₁.StoresCanonical := h.settleFences
  split
  · exact ite h₁.unhold.applyCmd h₁
  · exact h₁

theorem fenceTimeout (h : d.StoresCanonical) : (d.fenceTimeout s).StoresCanonical := by
  unfold Device.fenceTimeout
  extract_lets +onlyGivenNames d₁
  have h₁ : d₁.StoresCanonical := h.settleFences
  split
  · exact h₁
  · exact ite h₁.unhold.applyCmd (ite h₁.unhold.passFence.rejectCmd.event.report h₁)

theorem dropHold (h : d.StoresCanonical) : (d.dropHold s).StoresCanonical := by
  unfold Device.dropHold
  split
  · exact h.endHold.passFence
  · exact h

theorem passAll {l : List Cmd} (h : d.StoresCanonical) : (d.passAll s l).StoresCanonical := forEach h passFence
theorem refusePush (h : d.StoresCanonical) : d.refusePush.StoresCanonical := event <| bump <| update h

theorem pushHost {w : BitVec 128} (h : d.StoresCanonical) : (d.pushHost w).StoresCanonical := by
  unfold Device.pushHost
  split
  · split
    · exact h.refusePush
    · extract_lets +onlyGivenNames _ d₁
      have h₁ : d₁.StoresCanonical := update h
      exact accepted (accept h₁) setHcq
  · split
    · exact update h
    · split
      · exact h.refusePush
      · exact accepted h.accept setHcq

theorem wrHcqWin (h : d.StoresCanonical) : (d.wrHcqWin i v).StoresCanonical :=
  have h := h.put
  ite h.pushHost h

theorem releaseHead {l : List Cmd} (h : d.StoresCanonical) : (Device.releaseHead p n l d).2.2.StoresCanonical := by
  induction n, l, d using Device.releaseHead.induct (p := p) with
  | case1 => simpa only [Device.releaseHead] using h
  | case2 => simpa only [Device.releaseHead] using h
  | case3 n c t d stop => simpa only [Device.releaseHead, if_pos stop] using h
  | case4 n c t d go full => simpa only [Device.releaseHead, if_neg go, if_pos full] using h
  | case5 n c t d go room ih => simpa only [Device.releaseHead, if_neg go, if_neg room] using ih h.enterSlice

theorem dropHead {c : Cmd} (h : d.StoresCanonical) : (d.dropHead s c up).StoresCanonical := h.dropWord

theorem hcqRelease (h : d.StoresCanonical) : (d.hcqRelease up).StoresCanonical := by
  unfold Device.hcqRelease
  refine ite h ?_
  split
  next => exact h
  next c t _ =>
    refine ite h.setHcq.dropHead ?_
    have h₁ : (Device.releaseHead d.tow.pound 8 (c :: t) d).2.2.StoresCanonical := h.releaseHead
    generalize Device.releaseHead d.tow.pound 8 (c :: t) d = r at h₁
    obtain ⟨q, full, d₁⟩ := r
    exact when h₁.setHcq event

theorem flushHcq (h : d.StoresCanonical) : d.flushHcq.StoresCanonical := by
  unfold Device.flushHcq
  extract_lets +onlyGivenNames q d₁ d₂
  have h₁ : d₁.StoresCanonical := h.dropHold.passAll.setHcq
  have h₂ : d₂.StoresCanonical := forEach h₁ rejectCmd
  split
  · exact effect <| count <| update h₂
  · exact h₂

theorem wrHcqCtrl (h : d.StoresCanonical) : (d.wrHcqCtrl v).StoresCanonical :=
  have h := h.put.put
  ite h.flushHcq h

theorem wrTtEnd (h : d.StoresCanonical) : (d.wrTtEnd v).StoresCanonical := h.put.ttWeir
theorem wrTtHead (h : d.StoresCanonical) : (d.wrTtHead v).StoresCanonical := ite h h.put.ttWeir

theorem ttTake {w : BitVec 128} (h : d.StoresCanonical) : (d.ttTake w late).StoresCanonical := by
  unfold Device.ttTake
  extract_lets +onlyGivenNames head second pass order d₁
  have pass_canonical : ∀ {d}, d.StoresCanonical → (pass d).StoresCanonical := fun h => h.put.bump.ttWeir
  have h₁ : d₁.StoresCanonical := when h event
  have h₂ := h₁.accept (src := 1) (w := w) (second := second) (refresh := false)
  split <;> rename_i e <;> rw [e] at h₂
  · exact pass_canonical h₂
  · exact ite h₂.holdAt (pass_canonical h₂).enterSlice

theorem ttStall (h : d.StoresCanonical) : d.ttStall.StoresCanonical :=
  have h := h.put.event.event
  ite h (bump <| update h)

theorem ttExamine {fuel : Nat} (h : d.StoresCanonical) : (Device.ttExamine fuel n d).StoresCanonical := by
  induction fuel generalizing n d with
  | zero => exact h
  | succ fuel ih =>
    unfold Device.ttExamine
    extract_lets +onlyGivenNames w words
    split
    · exact h
    · split
      · exact h
      · exact h.ttStall
      · exact ih h.ttTake

theorem ttRelease (h : d.StoresCanonical) : (d.ttRelease up).StoresCanonical := by
  unfold Device.ttRelease
  refine ite h ?_
  extract_lets +onlyGivenNames d₁
  have h₁ : d₁.StoresCanonical := h.put
  exact ite h₁.put.ttWeir.count.queueUncorr h₁.ttExamine

theorem submitKeeper {w : BitVec 128} (h : d.StoresCanonical) : (d.submitKeeper w second refresh).StoresCanonical :=
  accepted h.accept fun h => update h
theorem refreshBoundary (h : d.StoresCanonical) : d.refreshBoundary.StoresCanonical := ite (update h) (update h)
theorem refreshSubmit (h : d.StoresCanonical) : d.refreshSubmit.StoresCanonical :=
  ite (bump <| put <| submitKeeper <| update h) h
theorem emitWharfDone (h : d.StoresCanonical) : d.emitWharfDone.StoresCanonical := ite h.mbxFinish h

theorem keeperEmit (h : d.StoresCanonical) : d.keeperEmit.StoresCanonical := by
  unfold Device.keeperEmit
  split
  · exact h
  · refine ite ?_ h
    extract_lets +onlyGivenNames c _ d₁ ok d₂
    have h₁ : d₁.StoresCanonical := noteErrors <| update h
    have h₂ : d₂.StoresCanonical := ite h₁.submitKeeper h₁
    exact ite h₂ (emitWharfDone <| update h₂)

theorem kpqSubmit {k : KeeperSubmit} (h : d.StoresCanonical) : (d.kpqSubmit k).StoresCanonical := by
  unfold Device.kpqSubmit
  refine ite h ?_
  split
  · exact ite h.submitKeeper h
  · exact h.keeperEmit

theorem kpqRelease (h : d.StoresCanonical) : (d.kpqRelease up).StoresCanonical := by
  unfold Device.kpqRelease
  refine ite h ?_
  split
  next => exact h
  next c t _ =>
    refine ite (dropHead <| update h) ?_
    have h₁ : (Device.releaseHead d.tow.pound 2 (c :: t) d).2.2.StoresCanonical := h.releaseHead
    generalize Device.releaseHead d.tow.pound 2 (c :: t) d = r at h₁
    obtain ⟨q, full, d₁⟩ := r
    exact when (update h₁) event

theorem takeFence (h : d.StoresCanonical) : (d.takeFence s).StoresCanonical := by
  unfold Device.takeFence
  refine ite h ?_
  extract_lets +onlyGivenNames head
  have head_canonical : ∀ q, (head q).StoresCanonical := fun q => by
    unfold head
    split
    · exact ite h.holdAt h
    · exact h
  refine ite (head_canonical _) (ite (head_canonical _) (ite (head_canonical _) (ite ?_ h)))
  refine ite ?_ h
  split
  · exact h.ttTake
  · exact h

theorem lateEngine (h : d.StoresCanonical) : (d.lateEngine e).StoresCanonical := forEach h.setEngine rejectCmd
theorem lateReject (h : d.StoresCanonical) : d.lateReject.StoresCanonical :=
  settleFences <| forEach (update (setHcq <| forEach h lateEngine)) rejectCmd

theorem wrCntCtrl (h : d.StoresCanonical) : (d.wrCntCtrl v).StoresCanonical :=
  have h := h.put
  ite (put <| put <| update h) h

theorem snapOne {s : Fin 4} (h : d.StoresCanonical) : (d.snapOne s).StoresCanonical := h.put.put.put.put.put.put
theorem snapCapture (h : d.StoresCanonical) : d.snapCapture.StoresCanonical :=
  ite (update (put <| put <| forEach h snapOne)) h
theorem resetEngines (h : d.StoresCanonical) : d.resetEngines.StoresCanonical :=
  settleFences <| forEach (put <| update (forEach (forEach h discardCmd) giveCredits)) (fun h => h.put.put.put.put)

theorem resetHcq (h : d.StoresCanonical) : d.resetHcq.StoresCanonical := by
  unfold Device.resetHcq
  refine event ?_
  split
  · exact count <| update <| forEach h.dropHold.passAll.setHcq discardCmd
  · exact forEach h.dropHold.passAll.setHcq discardCmd

theorem resetKpq (h : d.StoresCanonical) : d.resetKpq.StoresCanonical :=
  event <| forEach (update h.dropHold.passAll) discardCmd

theorem wrEngReset (h : d.StoresCanonical) : (d.wrEngReset v).StoresCanonical := by
  unfold Device.wrEngReset
  extract_lets +onlyGivenNames d₁ d₂
  have h₁ : d₁.StoresCanonical := ite h.resetEngines.put h
  have h₂ : d₂.StoresCanonical := ite h₁.resetHcq h₁
  exact ite h₂.resetKpq h₂

theorem enginesResetDone (h : d.StoresCanonical) : d.enginesResetDone.StoresCanonical := ite h.put.event h

/-! ### Machine/Decisions.lean -/

theorem onDec {f : Decisions → Decisions} (h : d.StoresCanonical) : (d.onDec f).StoresCanonical := update h
theorem decCount {r : Nat} (h : d.StoresCanonical) : (d.decCount r).StoresCanonical := h.bump

theorem captureDiscard {e : DecEvent} {reason : Nat} (h : d.StoresCanonical) :
    (d.captureDiscard e reason).StoresCanonical :=
  ite h (event <| forEach h.onDec.put.put.put.put.put.put (fun h => when h irqStat))

theorem discardEvent {e : DecEvent} {reason : Nat} (h : d.StoresCanonical) :
    (d.discardEvent e reason).StoresCanonical :=
  when (when (when h.decCount.captureDiscard event) event) (fun h => h.event.report)

theorem deliverEvent {slot : BitVec 112} {wharf lane place : Nat} (h : d.StoresCanonical) :
    (d.deliverEvent slot wharf lane place).StoresCanonical :=
  have h := h.decCount
  ite h.discardEvent h.onDec

theorem windowAdvance (h : d.StoresCanonical) : (d.windowAdvance w).StoresCanonical := ite h.onDec h
theorem windowsBoundary (h : d.StoresCanonical) : d.windowsBoundary.StoresCanonical := h.onDec
theorem checkSeq {e : DecEvent} (h : d.StoresCanonical) : (d.checkSeq s e).StoresCanonical :=
  onDec <| when h (fun h => h.decCount.event)

theorem decideMatch {e : DecEvent} (h : d.StoresCanonical) : (d.decideMatch e m).StoresCanonical := by
  unfold Device.decideMatch
  split
  · exact h.discardEvent
  · exact ite h.discardEvent (ite h.discardEvent h.onDec)

theorem judgeWindow {e : DecEvent} (h : d.StoresCanonical) : (d.judgeWindow e s m).StoresCanonical := by
  unfold Device.judgeWindow
  extract_lets +onlyGivenNames age maxAge
  refine ite h.discardEvent ?_
  refine ite h.discardEvent ?_
  split
  · exact h.discardEvent
  · exact ite h.discardEvent h.onDec.decideMatch

theorem lookupEvent {e : DecEvent} {up : Option Nat} (h : d.StoresCanonical) :
    (d.lookupEvent e up).StoresCanonical :=
  ite h.discardEvent (ite h.discardEvent (ite h.discardEvent (ite h.discardEvent h.checkSeq.judgeWindow)))

theorem decisionLookup {up : Option Nat} (h : d.StoresCanonical) : (d.decisionLookup up).StoresCanonical := by
  unfold Device.decisionLookup
  split
  · exact h
  · exact h.onDec.lookupEvent

theorem acceptItem {x : ListItem} (h : d.StoresCanonical) : (d.acceptItem x).StoresCanonical := by
  unfold Device.acceptItem
  split
  · dsimp only
    split
    · exact effect <| count <| update h
    · exact h.count.effect
  · have h₁ : (d.accept 2 x.w1 x.second false).2.StoresCanonical := h.accept
    split <;> rename_i e <;> rw [e] at h₁
    · exact h₁
    · exact ite h₁.onDec h₁.onDec

theorem listAccept {bad : BitVec 64} (h : d.StoresCanonical) : (d.listAccept bad).StoresCanonical := by
  unfold Device.listAccept
  split
  · exact h
  · extract_lets +onlyGivenNames d₁ l now
    have h₁ : d₁.StoresCanonical := h.onDec
    exact ite h₁.discardEvent (forEach h₁.decCount acceptItem)

theorem deferredMove (h : d.StoresCanonical) : (d.deferredMove up).StoresCanonical := by
  unfold Device.deferredMove
  refine ite h ?_
  split
  · exact h
  · exact ite h.onDec.dropHead (ite h.onDec h)

theorem actqRelease (h : d.StoresCanonical) : (d.actqRelease up).StoresCanonical := by
  unfold Device.actqRelease
  refine ite h ?_
  split
  next => exact h.put
  next c t _ =>
    refine ite h.onDec.dropHead ?_
    have h₁ : (Device.releaseHead d.tow.pound 32 (c :: t) d).2.2.StoresCanonical := h.releaseHead
    generalize Device.releaseHead d.tow.pound 32 (c :: t) d = r at h₁
    obtain ⟨q, full, d₁⟩ := r
    exact when h₁.onDec.putB event

theorem decBoundary (h : d.StoresCanonical) : d.decBoundary.StoresCanonical := h.windowsBoundary.onDec
theorem dropEvents (h : d.StoresCanonical) : d.dropEvents.StoresCanonical := forEach h.onDec discardEvent
theorem rejectActions {code : Code} (h : d.StoresCanonical) : (d.rejectActions code).StoresCanonical :=
  forEach h.dropHold.passAll.onDec rejectCmd
theorem acceptDue (h : d.StoresCanonical) : d.acceptDue.StoresCanonical := forEach h listAccept

theorem wrDecCtrl (h : d.StoresCanonical) : (d.wrDecCtrl v).StoresCanonical := by
  unfold Device.wrDecCtrl
  extract_lets +onlyGivenNames d₁ d₂
  have h₁ : d₁.StoresCanonical := h.put
  have h₂ : d₂.StoresCanonical := ite h₁.put h₁
  exact ite h₂.acceptDue.rejectActions.event h₂

theorem decClearDone (h : d.StoresCanonical) : d.decClearDone.StoresCanonical := ite h.onDec.put.event h
theorem wrDecReset (h : d.StoresCanonical) : (d.wrDecReset v).StoresCanonical :=
  ite (event <| forEach h.dropEvents.dropHold.passAll.onDec discardCmd) h
theorem decClose (h : d.StoresCanonical) : d.decClose.StoresCanonical := h.dropEvents.rejectActions

theorem readLastEvt3 (h : d.StoresCanonical) : d.readLastEvt3.2.StoresCanonical := by
  unfold Device.readLastEvt3
  split
  · exact h
  · exact h.onDec

/-! ### Machine/Towpath.lean -/

theorem onTow {f : Tow → Tow} (h : d.StoresCanonical) : (d.onTow f).StoresCanonical := update h
theorem onTowWharf {f : TowWharf → TowWharf} (h : d.StoresCanonical) : (d.onTowWharf w f).StoresCanonical := h.onTow
theorem towReport (h : d.StoresCanonical) : (d.towReport src code reporter).StoresCanonical := h.report

theorem servoStep (h : d.StoresCanonical) : (d.servoStep theta).2.StoresCanonical := by
  unfold Device.servoStep
  split
  · exact update h
  · exact h

theorem servo (h : d.StoresCanonical) : (d.servo theta).StoresCanonical := ite h h.servoStep.put.onTow

theorem enterHoldover {cause : HoldCause} (h : d.StoresCanonical) :
    (d.enterHoldover cause).StoresCanonical := by
  unfold Device.enterHoldover
  refine ite h.onTow ?_
  extract_lets +onlyGivenNames d₁ last d₂
  have h₁ : d₁.StoresCanonical := h.onTow
  have h₂ : d₂.StoresCanonical := ite h₁ h₁.put
  exact h₂.put.event.event.towReport

theorem leaveHoldover (h : d.StoresCanonical) : d.leaveHoldover.StoresCanonical := ite h.onTow.put.event h
theorem sourceLost (h : d.StoresCanonical) : d.sourceLost.StoresCanonical :=
  ite h (ite h.onTow.put.event.towReport h.enterHoldover)
theorem towLoop (h : d.StoresCanonical) : d.towLoop.StoresCanonical := ite h.event.towReport.enterHoldover h
theorem startAlign {startUp : Bool} (h : d.StoresCanonical) : (d.startAlign startUp).StoresCanonical :=
  put <| put <| put <| onTow <| when h onTow

theorem wrRealign (h : d.StoresCanonical) : (d.wrRealign v).StoresCanonical :=
  have h := h.put
  ite h.startAlign h

theorem setAligned (h : d.StoresCanonical) : d.setAligned.StoresCanonical :=
  h.onTow.leaveHoldover.put.put.put.event.event

theorem afterCoarse (h : d.StoresCanonical) : d.afterCoarse.StoresCanonical :=
  have h := h.onTow
  ite h.setAligned h

theorem jumpRefused (h : d.StoresCanonical) : d.jumpRefused.StoresCanonical := h.onTow.put.put.enterHoldover
theorem loadFallback (h : d.StoresCanonical) : d.loadFallback.StoresCanonical := ite h.onTow.towReport h
theorem fineMeasure (h : d.StoresCanonical) : (d.fineMeasure theta).StoresCanonical :=
  ite h (servo <| onTow <| when h leaveHoldover)
theorem trackMeasure (h : d.StoresCanonical) : (d.trackMeasure theta).StoresCanonical :=
  ite (ite h (ite h.put h.leaveHoldover.onTow.servo)) h.onTow.servo

theorem towMeasure {full : Int} (h : d.StoresCanonical) : (d.towMeasure theta full).StoresCanonical := by
  unfold Device.towMeasure
  extract_lets +onlyGivenNames d₁
  have h₁ : d₁.StoresCanonical := h.put.onTow
  refine ite h₁ ?_
  split
  · exact h₁
  · exact h₁.fineMeasure
  · exact ite h₁.trackMeasure h₁

theorem noteArrival (h : d.StoresCanonical) : (d.noteArrival w p8 ps).StoresCanonical := ite h.onTowWharf h.onTowWharf

theorem takeReport' {slot : BitVec 112} (h : d.StoresCanonical) :
    (d.takeReport' w slot p8 ps).StoresCanonical := by
  unfold Device.takeReport'
  extract_lets +onlyGivenNames x reaches a b d₁ d₂ d₃ far d₄ hi d₅
  have h₁ : d₁.StoresCanonical := h.put.put.put
  have h₂ : d₂.StoresCanonical := h₁.put.put
  have h₃ : d₃.StoresCanonical := ite h₂ h₂.onTowWharf
  have h₄ : d₄.StoresCanonical := h₃.onTowWharf
  have h₅ : d₅.StoresCanonical := when h₄ (fun h => h.event.towReport)
  exact ite (ite h₅.towLoop (when h₅ sourceLost)) h₅

theorem skewCheck (h : d.StoresCanonical) : (d.skewCheck w theta).StoresCanonical :=
  ite h.onTowWharf.put (when h (fun h => h.put.event.towReport))

theorem applyAction (h : d.StoresCanonical) : (d.applyAction w rtt).StoresCanonical :=
  have h := h.onTowWharf
  ite h.put (ite h h.put.put.put)

theorem judgeRtt (h : d.StoresCanonical) : (d.judgeRtt w rtt).StoresCanonical := by
  unfold Device.judgeRtt
  extract_lets +onlyGivenNames w lim near
  refine ite h.put.onTowWharf ?_
  split
  · refine ite ?_ h.onTowWharf
    extract_lets +onlyGivenNames n d₁
    have h₁ : d₁.StoresCanonical := h.onTowWharf
    exact ite h₁.put.put.onTowWharf.event h₁
  · refine ite h.put ?_
    extract_lets +onlyGivenNames d₂ d₃
    have h₂ : d₂.StoresCanonical := h.put.onTowWharf.bump.event
    have h₃ : d₃.StoresCanonical := h₂.towReport
    exact ite h₃.sourceLost h₃

theorem delayMeasurement (h : d.StoresCanonical) : (d.delayMeasurement w).StoresCanonical := by
  unfold Device.delayMeasurement
  extract_lets +onlyGivenNames w len
  refine ite h ?_
  extract_lets +onlyGivenNames d₁ mine
  have h₁ : d₁.StoresCanonical := h.onTowWharf
  refine ite (when h₁.put sourceLost) ?_
  extract_lets +onlyGivenNames rtt a d₂ d₃ theta d₄
  have h₂ : d₂.StoresCanonical := h₁.put
  have h₃ : d₃.StoresCanonical := ite h₂ h₂.applyAction.judgeRtt
  have h₄ : d₄.StoresCanonical := h₃.put.skewCheck
  exact when h₄ towMeasure

theorem wrResolve (h : d.StoresCanonical) : (d.wrResolve v).StoresCanonical := when (when h onTowWharf) onTowWharf
theorem towWharfDown (h : d.StoresCanonical) : (d.towWharfDown w fresh).StoresCanonical :=
  when (when h.onTowWharf.put (fun h => h.put.put)) sourceLost
theorem tickOutBoundary (h : d.StoresCanonical) : (d.tickOutBoundary p).StoresCanonical := h.onTow
theorem tickWordBad (h : d.StoresCanonical) : d.tickWordBad.StoresCanonical := h.onTow.bump

theorem tickMismatch (h : d.StoresCanonical) : (d.tickMismatch theta).StoresCanonical :=
  have h := h.event.towReport
  ite (when h.put put) h

theorem tickWordDone (h : d.StoresCanonical) : (d.tickWordDone word).StoresCanonical := by
  unfold Device.tickWordDone
  refine ite ?_ h.tickWordBad
  dsimp only
  exact ite h.onTow.tickMismatch (when h.onTow towMeasure)

theorem tickSymbolAt {j : Nat} {start : Tick} (h : d.StoresCanonical) :
    (d.tickSymbolAt j i sym start).StoresCanonical := by
  unfold Device.tickSymbolAt
  extract_lets +onlyGivenNames k
  refine ite h.onTow ?_
  refine ite h.onTow ?_
  refine ite h.onTow ?_
  refine ite h.onTow.tickWordBad ?_
  extract_lets +onlyGivenNames bad w d₁
  have h₁ : d₁.StoresCanonical := h.onTow
  exact ite (ite h₁.tickWordBad h₁.tickWordDone) h₁

theorem tickSymbolIn (h : d.StoresCanonical) : (d.tickSymbolIn sym ps).StoresCanonical := by
  unfold Device.tickSymbolIn
  extract_lets +onlyGivenNames _ start
  split
  · exact ite h.onTow h
  · exact h.tickSymbolAt

theorem tickEdge {high : Nat} (h : d.StoresCanonical) : (d.tickEdge reading high).StoresCanonical := by
  unfold Device.tickEdge
  refine ite h ?_
  extract_lets +onlyGivenNames ps d₁
  have h₁ : d₁.StoresCanonical := h.onTow
  exact ite h₁ (ite h₁.towMeasure h₁.tickSymbolIn)

theorem tickLost (h : d.StoresCanonical) : d.tickLost.StoresCanonical := ite (when h.onTow sourceLost) h
theorem tickInBoundary (h : d.StoresCanonical) : d.tickInBoundary.StoresCanonical := when h.onTow bump

theorem ppsAccept {x : PF} (h : d.StoresCanonical) : (d.ppsAccept x).StoresCanonical :=
  have h := h.onTow.bump
  ite (ite h.put.event.towReport.enterHoldover h.towMeasure) h

theorem ppsEdge (h : d.StoresCanonical) : (d.ppsEdge reading).StoresCanonical := by
  unfold Device.ppsEdge
  refine ite h ?_
  extract_lets +onlyGivenNames x d₁
  have h₁ : d₁.StoresCanonical := h.onTow
  split
  · exact ite h₁.bump h₁.ppsAccept
  · exact h₁.ppsAccept

theorem ppsLost (h : d.StoresCanonical) : d.ppsLost.StoresCanonical := by
  unfold Device.ppsLost
  split
  · exact ite (when h.onTow sourceLost) h
  · exact h

theorem ppsOutPulse (h : d.StoresCanonical) : d.ppsOutPulse.StoresCanonical := ite h.onTow h
theorem ppsOutEnd (h : d.StoresCanonical) : d.ppsOutEnd.StoresCanonical := ite h.onTow h

theorem wrPpsCfg (h : d.StoresCanonical) : (d.wrPpsCfg v).StoresCanonical :=
  have h := h.put.put.put
  ite h h.onTow

/-! ### Machine/TimePort.lean -/

theorem onTpt {f : Tpt → Tpt} (h : d.StoresCanonical) : (d.onTpt f).StoresCanonical := update h
theorem onPtp {f : Ptp → Ptp} (h : d.StoresCanonical) : (d.onPtp f).StoresCanonical := h.onTpt
theorem setPortState (h : d.StoresCanonical) : (d.setPortState st).StoresCanonical := ite h h.put.event
theorem dropFrame (h : d.StoresCanonical) : d.dropFrame.StoresCanonical := h.bump.event
theorem setRxSlot {r : Nat} {x : RxSlot} (h : d.StoresCanonical) : (d.setRxSlot r x).StoresCanonical := h.onTpt

theorem ringTake {l : List Byte} (h : d.StoresCanonical) : (d.ringTake l at').StoresCanonical := by
  unfold Device.ringTake
  extract_lets +onlyGivenNames head
  split
  · exact ite h.setRxSlot.event h.dropFrame
  · exact h.dropFrame

theorem wrRxRel (h : d.StoresCanonical) : (d.wrRxRel v).StoresCanonical := ite h.setRxSlot.put h

theorem takeAnnounce {l : List Byte} (h : d.StoresCanonical) : (d.takeAnnounce l w).StoresCanonical := by
  unfold Device.takeAnnounce
  extract_lets +onlyGivenNames body who better
  refine ite ?_ h
  extract_lets +onlyGivenNames fresh d₁ flags d₂ d₃
  have h₁ : d₁.StoresCanonical := h.onPtp
  have h₂ : d₂.StoresCanonical := h₁.put.putB.putB
  have h₃ : d₃.StoresCanonical := h₂.putB
  exact ite h₃.setPortState h₃

theorem publishPtp (h : d.StoresCanonical) : d.publishPtp.StoresCanonical := by
  unfold Device.publishPtp
  split
  · exact setPortState <| put <| put <| ite h h.put.put.put
  · exact h

theorem takeSync {l : List Byte} (h : d.StoresCanonical) : (d.takeSync l w at').StoresCanonical :=
  ite h.onPtp h.onPtp.publishPtp

theorem takeFollowUp {l : List Byte} (h : d.StoresCanonical) : (d.takeFollowUp l w).StoresCanonical := by
  unfold Device.takeFollowUp
  split
  · exact ite h.onPtp.publishPtp h
  · exact h

theorem takeDelayResp {l : List Byte} (h : d.StoresCanonical) : (d.takeDelayResp l w).StoresCanonical := by
  unfold Device.takeDelayResp
  split
  · exact ite h.onPtp.publishPtp h
  · exact h

theorem clientTake {l : List Byte} (h : d.StoresCanonical) : (d.clientTake l w at').StoresCanonical := by
  unfold Device.clientTake
  refine ite h ?_
  extract_lets +onlyGivenNames d₁ ty
  have h₁ : d₁.StoresCanonical := ite h.setPortState h
  exact ite h₁.takeAnnounce (ite h₁ (ite h₁.takeSync (ite h₁.takeFollowUp (ite h₁.takeDelayResp h₁))))

theorem timeRx {l : List Byte} (h : d.StoresCanonical) : (d.timeRx l good at').StoresCanonical := by
  unfold Device.timeRx
  refine ite h ?_
  split
  · exact h.dropFrame
  · exact ite h.ringTake h.clientTake

theorem delayReq (h : d.StoresCanonical) : (d.delayReq at').StoresCanonical := ite h.onPtp h
theorem announceTimeout (h : d.StoresCanonical) : d.announceTimeout.StoresCanonical := ite h.onPtp.setPortState h
theorem clientInit (h : d.StoresCanonical) : d.clientInit.StoresCanonical := ite h.onPtp.setPortState h

theorem linkChange {up : Bool} (h : d.StoresCanonical) : (d.linkChange up).StoresCanonical := by
  unfold Device.linkChange
  refine ite h ?_
  extract_lets +onlyGivenNames d₁
  have h₁ : d₁.StoresCanonical := h.putB.putB.event
  exact ite h₁.setPortState h₁

theorem wrTxCtrl (h : d.StoresCanonical) : (d.wrTxCtrl v).StoresCanonical :=
  have h := h.put.put.put
  ite h (ite h.event h.putBit.onTpt)

theorem enterStamp (h : d.StoresCanonical) : (d.enterStamp b ofs at').StoresCanonical := by
  unfold Device.enterStamp
  split
  · exact h.bump.event
  · exact h.put.put.put.put.put.put.put.event

theorem txDone (h : d.StoresCanonical) : (d.txDone b at').StoresCanonical := by
  unfold Device.txDone
  split
  · exact h
  · extract_lets +onlyGivenNames d₁
    have h₁ : d₁.StoresCanonical := h.putBit.onTpt
    exact ite h₁ (when h₁.event enterStamp)

theorem clearStamp (h : d.StoresCanonical) : (d.clearStamp n).StoresCanonical := h.put.put.put.put.put.put.put
theorem wrTxtsRel (h : d.StoresCanonical) : (d.wrTxtsRel v).StoresCanonical := forEach h (fun h => when h clearStamp)
theorem portDisable (h : d.StoresCanonical) : d.portDisable.StoresCanonical :=
  forEach h.setPortState.put.onTpt.onTpt clearStamp

theorem wrTptCtrl (h : d.StoresCanonical) : (d.wrTptCtrl v).StoresCanonical :=
  have h := h.put.put.put.put.put.put
  ite (ite h.portDisable.clientInit h.portDisable) h

/-! ### Machine/Wharves.lean -/

theorem setLane (h : d.StoresCanonical) : (d.setLane n st).StoresCanonical := h.put
theorem atNext {f : Device → Device} (h : d.StoresCanonical) (hf : ∀ {d}, d.StoresCanonical → (f d).StoresCanonical) :
    (d.atNext f).StoresCanonical := onTow (hf h.onTow)

theorem sendFrames {l : List Barge} (h : d.StoresCanonical) : (d.sendFrames l).StoresCanonical := by
  unfold Device.sendFrames
  extract_lets +onlyGivenNames p
  refine forEach h fun h₁ => ?_
  extract_lets +onlyGivenNames d₂
  have h₂ : d₂.StoresCanonical := h₁.onLane
  exact ite h₂.onLane (when h₂ onLane)

theorem laneRest (h : d.StoresCanonical) : (d.laneRest n).StoresCanonical := h.setLane.put.put.put.put.put.onLane
theorem takeTrims (h : d.StoresCanonical) : (d.takeTrims n).StoresCanonical := update h
theorem laneAgain {restart : Bool} (h : d.StoresCanonical) : (d.laneAgain n st restart).StoresCanonical :=
  h.setLane.put.onLane
theorem laneReacquire {restart : Bool} (h : d.StoresCanonical) :
    (d.laneReacquire n restart).StoresCanonical := h.takeTrims.laneAgain.onLane
theorem laneFail (h : d.StoresCanonical) : (d.laneFail n).StoresCanonical := ite h.event.onLane h
theorem laneRetrain (h : d.StoresCanonical) : (d.laneRetrain n).StoresCanonical := ite h.laneFail (ite h h.laneRest)

theorem wrLaneCtrl (h : d.StoresCanonical) : (d.wrLaneCtrl n v).StoresCanonical := by
  unfold Device.wrLaneCtrl
  refine ite h ?_
  extract_lets +onlyGivenNames d₁ d₂
  have h₁ : d₁.StoresCanonical := h.put.put.put
  have h₂ : d₂.StoresCanonical := ite (ite h₁.setLane h₁) (ite h₁.laneFail (ite h₁ h₁.laneRest))
  exact ite h₂.laneRetrain h₂

theorem trainingStart (h : d.StoresCanonical) : (d.trainingStart n).StoresCanonical :=
  ite (laneReacquire <| ite h h.onWharf) h
theorem acquireDone {inverted : Bool} (h : d.StoresCanonical) : (d.acquireDone n inverted).StoresCanonical :=
  ite h.setLane.put.put.putB h
theorem capsEnter (h : d.StoresCanonical) : (d.capsEnter n).StoresCanonical := ite h.onLane h
theorem trainingDeadline (h : d.StoresCanonical) : (d.trainingDeadline n).StoresCanonical :=
  ite h.laneAgain.onLane.put.event.event.bump.report h
theorem backoffEnd (h : d.StoresCanonical) : (d.backoffEnd n).StoresCanonical := ite h.laneRest h
theorem countLos (h : d.StoresCanonical) : (d.countLos n).StoresCanonical := h.put.bump.event
theorem lossOfSignal (h : d.StoresCanonical) : (d.lossOfSignal n back).StoresCanonical :=
  ite h (ite h.put (ite h.countLos.laneReacquire (ite h.countLos.laneFail h.countLos)))

theorem cdrLoss {alignmentOnly : Bool} (h : d.StoresCanonical) :
    (d.cdrLoss n alignmentOnly back).StoresCanonical := by
  unfold Device.cdrLoss
  extract_lets +onlyGivenNames st
  refine ite h ?_
  refine ite h.put ?_
  extract_lets +onlyGivenNames d₁ d₂
  have h₁ : d₁.StoresCanonical := put <| ite h h.put
  have h₂ : d₂.StoresCanonical := h₁.onLane
  exact ite h₂.laneReacquire (ite h₂.laneFail h₂)

theorem laneEnters (h : d.StoresCanonical) : (d.laneEnters n).StoresCanonical := by
  unfold Device.laneEnters
  extract_lets +onlyGivenNames w up us kind d₁ d₂ d₃ d₄
  have h₁ : d₁.StoresCanonical := h.put.put.put
  have h₂ : d₂.StoresCanonical := h₁.event.put
  have h₃ : d₃.StoresCanonical := h₂.onLane
  have h₄ : d₄.StoresCanonical := ite (forEach h₃ setLane) (onWharf <| forEach h₃ setLane)
  exact ite h₄.event h₄.event.put.onWharf.onTowWharf

theorem laneJoin (h : d.StoresCanonical) : (d.laneJoin n).StoresCanonical := ite h.laneEnters h
theorem enterMismatch {why : Nat} (h : d.StoresCanonical) : (d.enterMismatch n cap why).StoresCanonical :=
  h.setLane.put.onLane.event.report

theorem capsTake (h : d.StoresCanonical) : (d.capsTake n cap).StoresCanonical := by
  unfold Device.capsTake
  extract_lets +onlyGivenNames why
  refine ite ?_ h.enterMismatch
  extract_lets +onlyGivenNames run d₁
  have h₁ : d₁.StoresCanonical := h.onLane
  exact ite h₁ (ite h₁.laneEnters h₁.setLane.onLane)

theorem deskewTake (h : d.StoresCanonical) : (d.deskewTake n cap).StoresCanonical := ite h.onLane h.enterMismatch

theorem mismatchTake (h : d.StoresCanonical) : (d.mismatchTake n cap).StoresCanonical := by
  unfold Device.mismatchTake
  refine ite h ?_
  extract_lets +onlyGivenNames why d₁
  have h₁ : d₁.StoresCanonical := h.onLane
  exact ite h₁.setLane.put.onLane h₁.put

theorem badSlot (h : d.StoresCanonical) : (d.badSlot w).StoresCanonical := h.bump.event
theorem takeStatus {s : BitVec 112} (h : d.StoresCanonical) : (d.takeStatus w s).StoresCanonical :=
  h.put.put.put.put.event
theorem takeGrant {s : BitVec 112} (h : d.StoresCanonical) : (d.takeGrant w s).StoresCanonical :=
  ite (forEach h.onWharf onLane) h.badSlot

theorem takeSlot {rep : Bool} {s : BitVec 112} (h : d.StoresCanonical) :
    (d.takeSlot w n slot rep s p8 ps).StoresCanonical := by
  unfold Device.takeSlot
  extract_lets +onlyGivenNames partner
  split
  · exact h
  · exact ite h.deliverEvent h.badSlot
  · exact ite h.takeReport' h.badSlot
  · exact ite h.takeStatus h.badSlot
  · exact ite h.takeGrant h.badSlot
  · exact ite h.report h.badSlot
  · exact h.badSlot

theorem trainSlots {s0 s1 : BitVec 112} (h : d.StoresCanonical) : (d.trainSlots n s0 s1).StoresCanonical := by
  unfold Device.trainSlots
  extract_lets +onlyGivenNames w st d₁
  have h₁ : d₁.StoresCanonical := when h badSlot
  exact ite (ite h₁.capsTake (ite h₁.deskewTake h₁.mismatchTake)) (onLane <| when h₁ badSlot)

theorem takeCredits {f : BitVec 256} (h : d.StoresCanonical) : (d.takeCredits w n f).StoresCanonical :=
  ite h (onLane <| when h giveCredits)
theorem holdFrame {arr : Int} {frame : Option (BitVec 256)} (h : d.StoresCanonical) :
    (d.holdFrame n arr frame).StoresCanonical := h.onWharf

theorem badFrame {cnt : Fld} (h : d.StoresCanonical) : (d.badFrame n cnt).StoresCanonical := by
  unfold Device.badFrame
  extract_lets +onlyGivenNames d₁ bonded
  have h₁ : d₁.StoresCanonical := h.bump.onLane
  split
  · exact h₁.onLane
  · extract_lets +onlyGivenNames d₂
    have h₂ : d₂.StoresCanonical := when h₁.onLane holdFrame
    exact ite h₂.laneFail h₂

theorem goodFrame {f : BitVec 256} (h : d.StoresCanonical) : (d.goodFrame n f ps).StoresCanonical := by
  unfold Device.goodFrame
  extract_lets +onlyGivenNames w p8 a d₁ d₂
  have h₁ : d₁.StoresCanonical := h.onLane.put
  have h₂ : d₂.StoresCanonical := h₁.put.put
  refine ite h₂.onLane ?_
  extract_lets +onlyGivenNames d₃
  have h₃ : d₃.StoresCanonical := h₂.onLane.takeCredits
  refine ite ?_ h₃.trainSlots
  extract_lets +onlyGivenNames d₄ d₅
  have h₄ : d₄.StoresCanonical := h₃.onWharf
  have h₅ : d₅.StoresCanonical := ite h₄.noteArrival h₄
  exact ite h₅.takeSlot.takeSlot h₅.holdFrame

theorem frameReceive {sync : Bool} {f : BitVec 256} (h : d.StoresCanonical) :
    (d.frameReceive n sync f reading).StoresCanonical := by
  unfold Device.frameReceive
  refine ite h ?_
  extract_lets +onlyGivenNames last d₁
  have h₁ : d₁.StoresCanonical := when h onLane
  exact ite h₁.badFrame (ite h₁.badFrame (ite h₁.goodFrame h₁.badFrame))

theorem laneMissed {lead : Nat} (h : d.StoresCanonical) : (d.laneMissed n lead k p8).StoresCanonical :=
  have h := h.onLane
  ite h.laneFail h

theorem presentFrame {x : HeldFrame} (h : d.StoresCanonical) : (d.presentFrame w x).StoresCanonical := by
  unfold Device.presentFrame
  split
  · exact h.takeSlot.takeSlot
  · exact h

theorem deskewRelease {expired : Bool} (h : d.StoresCanonical) :
    (d.deskewRelease w expired).StoresCanonical := by
  unfold Device.deskewRelease
  split
  · exact h
  · exact ite (forEach (forEach h.onWharf presentFrame) laneMissed) h

theorem exchangeStart {xseq : Nat} (h : d.StoresCanonical) : (d.exchangeStart w xseq).StoresCanonical :=
  ite h.put.onWharf h

theorem creditGrant (h : d.StoresCanonical) : (d.creditGrant w).StoresCanonical := by
  unfold Device.creditGrant
  extract_lets +onlyGivenNames w
  split
  · refine ite ?_ h
    extract_lets +onlyGivenNames d₁ d₂ _ d₃
    have h₁ : d₁.StoresCanonical := h.put.put.event
    have h₂ : d₂.StoresCanonical := forEach h₁ setLane
    have h₃ : d₃.StoresCanonical := ite (update h₂) h₂
    exact h₃.onWharf
  · exact h

theorem exchFail (h : d.StoresCanonical) : (d.exchFail w).StoresCanonical := ite h.event.report.onWharf h
theorem rejectBarges {code : Code} {p : Barge → Bool} (h : d.StoresCanonical) :
    (d.rejectBarges code p).StoresCanonical := forEach (update h) rejectCmd
theorem shedLane (h : d.StoresCanonical) : (d.shedLane n).StoresCanonical :=
  ite h.rejectBarges.giveCredits.laneRest.onLane.event.event.reportAt h
theorem goDown {record : Bool} (h : d.StoresCanonical) : (d.goDown w record).StoresCanonical :=
  towWharfDown <| when (onWharf <| forEach h.rejectBarges.bump.put.put.bump.event.eventBit laneRest) reportAt
theorem wharfReset (h : d.StoresCanonical) : (d.wharfReset w).StoresCanonical :=
  forEach (forEach (towWharfDown <| onWharf <| ite h.goDown (forEach h (fun h => ite h h.laneRest))) put)
    (fun h => forEach h.onLane put)

theorem wrWhfCmd (h : d.StoresCanonical) : (d.wrWhfCmd w v).StoresCanonical := by
  unfold Device.wrWhfCmd
  refine ite h ?_
  extract_lets +onlyGivenNames d₁
  have h₁ : d₁.StoresCanonical := ite (ite h.onWharf (forEach h laneRetrain)) h
  exact ite h₁.onWharf h₁

theorem wrWhfCfg (h : d.StoresCanonical) : (d.wrWhfCfg w v).StoresCanonical := ite h (when h.put.put.put onWharf)
theorem standbyEnter (h : d.StoresCanonical) : (d.standbyEnter w).StoresCanonical :=
  ite (onWharf <| forEach h setLane) h
theorem standbyExit (h : d.StoresCanonical) : (d.standbyExit w).StoresCanonical :=
  ite (onWharf <| forEach h setLane) h
theorem deepEnter (h : d.StoresCanonical) : (d.deepEnter q).StoresCanonical :=
  ite (put <| put <| update (forEach (forEach h (fun h => ite h h.laneRest.setLane)) (fun h => h.put.onWharf.towWharfDown))) h
theorem deepExit (h : d.StoresCanonical) : (d.deepExit q).StoresCanonical :=
  ite (forEach h.put.put (fun h => ite h.laneRest h)) h
theorem quadClose (h : d.StoresCanonical) : (d.quadClose q).StoresCanonical :=
  put <| put <| update (forEach (forEach h (fun h => atNext h goDown)) (fun h => h.laneRest.setLane))
theorem quadStart (h : d.StoresCanonical) : (d.quadStart q).StoresCanonical := h.put
theorem quadOpen (h : d.StoresCanonical) : (d.quadOpen q).StoresCanonical := forEach h.put (fun h => when h setLane)
theorem wharvesDue (h : d.StoresCanonical) : d.wharvesDue.StoresCanonical :=
  forEach (forEach h (fun h => ite h.wharfReset (ite h.goDown h))) shedLane
theorem wharvesBoundary {l : List Barge} (h : d.StoresCanonical) : (d.wharvesBoundary l).StoresCanonical :=
  forEach (forEach (forEach (forEach h creditGrant) onWharf) (fun h => ite (update h) h)) (fun h => ite h.setLane.onLane
    (ite h.onLane h))

/-! ### Machine/Serial.lean -/

theorem onNvs {f : Nvs → Nvs} (h : d.StoresCanonical) : (d.onNvs f).StoresCanonical := update h
theorem wrNvsPush (h : d.StoresCanonical) : (d.wrNvsPush v).StoresCanonical := ite (ite h.put.event h.onNvs.put) h

theorem nvsStart {rx : List (BitVec 4)} (h : d.StoresCanonical) : (d.nvsStart rx).StoresCanonical := by
  unfold Device.nvsStart
  split
  · exact h
  · exact ite h.onNvs.put h

theorem storeBegin (h : d.StoresCanonical) : d.storeBegin.StoresCanonical := update h.put
theorem nvsSettleOwner (h : d.StoresCanonical) : d.nvsSettleOwner.StoresCanonical := ite (when h.put storeBegin) h
theorem nvsStop (h : d.StoresCanonical) : d.nvsStop.StoresCanonical := h.onNvs.put.nvsSettleOwner
theorem nvsComplete (h : d.StoresCanonical) : d.nvsComplete.StoresCanonical := h.nvsStop.event.bump

theorem nvsEntryDone (h : d.StoresCanonical) : d.nvsEntryDone.StoresCanonical := by
  unfold Device.nvsEntryDone
  split
  · exact ite h h.nvsComplete
  · exact h

theorem nvsPoll {rx : List (BitVec 4)} (h : d.StoresCanonical) : (d.nvsPoll rx).StoresCanonical := by
  unfold Device.nvsPoll
  split
  · refine ite ?_ h
    extract_lets +onlyGivenNames b d₁ mask
    have h₁ : d₁.StoresCanonical := h.onNvs.put
    exact ite h₁.nvsComplete h₁
  · exact h

theorem nvsPollTimeout (h : d.StoresCanonical) : d.nvsPollTimeout.StoresCanonical := by
  unfold Device.nvsPollTimeout
  split
  · exact ite h.nvsStop.put.event h
  · exact h

theorem nvsEmpty (h : d.StoresCanonical) : d.nvsEmpty.StoresCanonical := when h.onNvs.nvsStop event
theorem wrNvsCtrl (h : d.StoresCanonical) : (d.wrNvsCtrl v).StoresCanonical :=
  nvsSettleOwner <| when (when h.put.put.put (fun h => h.nvsEmpty.put)) put
theorem ownGranted (h : d.StoresCanonical) : d.ownGranted.StoresCanonical := ite h.put.event h

theorem readNvsRdata (h : d.StoresCanonical) : d.readNvsRdata.2.StoresCanonical := by
  unfold Device.readNvsRdata
  split
  · exact h
  · exact h.onNvs

theorem wrNvsWdata (h : d.StoresCanonical) : (d.wrNvsWdata v).StoresCanonical :=
  have h := h.put
  ite h.onNvs h

theorem onHsp {f : Hsp → Hsp} (h : d.StoresCanonical) : (d.onHsp f).StoresCanonical := update h

theorem hspFlag (h : d.StoresCanonical) : (d.hspFlag b).StoresCanonical := by
  unfold Device.hspFlag
  extract_lets +onlyGivenNames d₁
  have h₁ : d₁.StoresCanonical := h.put
  split
  · exact h₁.event
  · exact h₁.event
  · exact h₁.event
  · exact h₁.event
  · exact h₁.event
  · exact h₁.event
  · exact h₁

theorem aliveSync {alive : BitVec 4} (h : d.StoresCanonical) : (d.aliveSync alive).StoresCanonical := h.onHsp.put

theorem hspBad {alive format full : Bool} (h : d.StoresCanonical) :
    (d.hspBad alive crc format full).StoresCanonical :=
  when (when (when (when h.hspFlag (fun h => h.hspFlag.bump)) (fun h => h.hspFlag.bump)) (fun h => h.hspFlag.bump))
    (fun h => h.hspFlag.bump)

theorem hspDrive {busy : Nat} (h : d.StoresCanonical) : (d.hspDrive busy).StoresCanonical := h.onHsp
theorem hspReply {head : List Bool} {alive : BitVec 4} {data : List Nat} (h : d.StoresCanonical) :
    (d.hspReply head alive data).StoresCanonical := h.put.put.onHsp

theorem hspStatus {busy : Nat} {abandoned : Bool} (h : d.StoresCanonical) :
    (d.hspStatus cycles busy abandoned).StoresCanonical := by
  unfold Device.hspStatus
  split
  · refine ite ?_ h
    extract_lets +onlyGivenNames ok applying d₁ d₂
    have h₁ : d₁.StoresCanonical := h.aliveSync.hspDrive
    have h₂ : d₂.StoresCanonical := ite h₁.bump h₁.hspBad
    exact ite h₂ h₂.hspReply
  · exact h

theorem formatReset (h : d.StoresCanonical) : d.formatReset.StoresCanonical :=
  bump <| event <| put <| onHsp <| forEach h put

theorem hspReserved (h : d.StoresCanonical) : (d.hspReserved cycles).StoresCanonical := by
  unfold Device.hspReserved
  split
  · exact ite h.aliveSync.hspBad h
  · exact h

theorem cutFrame {alive : Option (BitVec 4)} (h : d.StoresCanonical) :
    (d.cutFrame alive).StoresCanonical := by
  unfold Device.cutFrame
  extract_lets +onlyGivenNames d₁
  have h₁ : d₁.StoresCanonical := by
    unfold d₁
    split
    · exact h.aliveSync
    · exact h
  exact h₁.bump.event

theorem hspCut (h : d.StoresCanonical) : (d.hspCut cycles).StoresCanonical := by
  unfold Device.hspCut
  refine ite ?_ h
  split
  · exact h.cutFrame
  · exact ite h.cutFrame h
  · exact h

/-! ### Machine/Gates.lean -/

theorem setEnable {v : Bool} (h : d.StoresCanonical) : (d.setEnable b v).StoresCanonical := h.putBit
theorem setBlockState (h : d.StoresCanonical) : (d.setBlockState b st).StoresCanonical := h.put
theorem dropStaged (h : d.StoresCanonical) : (d.dropStaged page).StoresCanonical :=
  when h (fun h => pageEvent <| update h)
theorem dropCapture (h : d.StoresCanonical) : (d.dropCapture page).StoresCanonical := update h
theorem coreClose (h : d.StoresCanonical) : (d.coreClose c).StoresCanonical :=
  onCore <| forEach h.cancelApply.cancelHop.putAligned put
theorem outputClose (h : d.StoresCanonical) : (d.outputClose n).StoresCanonical := when h.put strobeFall

theorem closeEffects (h : d.StoresCanonical) : (d.closeEffects b).StoresCanonical := by
  unfold Device.closeEffects
  refine ite h.quadClose ?_
  refine ite h.coreClose ?_
  refine ite h.outputClose ?_
  split
  · exact h.decClose
  · exact h.portDisable
  · exact h.nvsEmpty
  · exact h

theorem coreStart (h : d.StoresCanonical) : (d.coreStart c).StoresCanonical := h.onCore
theorem openStarts (h : d.StoresCanonical) : (d.openStarts b).StoresCanonical := ite h.quadStart (ite h.coreStart h)
theorem setBandWord (h : d.StoresCanonical) : (d.setBandWord c e w v).StoresCanonical := update h
theorem bandTake {m : Image} (h : d.StoresCanonical) : (d.bandTake m c e).StoresCanonical := h.setBandWord.setBandWord
theorem bandOpen (h : d.StoresCanonical) : (d.bandOpen c).StoresCanonical := forEach h (fun h => when h bandTake)
theorem monOffset (h : d.StoresCanonical) : (d.monOffset c).StoresCanonical := h.put

theorem coreOpen (h : d.StoresCanonical) : (d.coreOpen c).StoresCanonical :=
  have h := h.put.putB.monOffset.bandOpen
  ite h.onCore.searchOrManual h

theorem outputOpen (h : d.StoresCanonical) : (d.outputOpen n).StoresCanonical := ite h h.walkToTable
theorem onClk {f : Clocks → Clocks} (h : d.StoresCanonical) : (d.onClk f).StoresCanonical := update h
theorem auxDivUpdate (h : d.StoresCanonical) : (d.auxDivUpdate a).StoresCanonical := ite h h.onClk
theorem auxSscUpdate (h : d.StoresCanonical) : (d.auxSscUpdate a).StoresCanonical := ite h h.onClk
theorem openEffects (h : d.StoresCanonical) : (d.openEffects b).StoresCanonical :=
  ite h.quadOpen (ite h.coreOpen (ite h.outputOpen (ite h.auxDivUpdate.auxSscUpdate (ite (ite h h.clientInit) h))))

theorem gateTakes (h : d.StoresCanonical) : (d.gateTakes b).StoresCanonical := by
  unfold Device.gateTakes
  extract_lets +onlyGivenNames _ d₁ d₂
  have h₁ : d₁.StoresCanonical := setBlockState <| update h
  have h₂ : d₂.StoresCanonical := h₁.put.closeEffects
  split
  · exact h₂.dropStaged.dropCapture
  · exact h₂

theorem gateClose {busy : Bool} (h : d.StoresCanonical) : (d.gateClose b busy).StoresCanonical :=
  ite h.put (ite h (ite (ite h (update h)) h.gateTakes))

theorem gateOpen (h : d.StoresCanonical) : (d.gateOpen b).StoresCanonical := by
  unfold Device.gateOpen
  extract_lets +onlyGivenNames _ d₁
  have h₁ : d₁.StoresCanonical := update h
  exact ite h₁.put (ite h₁.setBlockState.openStarts h₁)

theorem wrEnable {v busy : Bool} (h : d.StoresCanonical) : (d.wrEnable b v busy).StoresCanonical :=
  have h := h.setEnable
  ite (ite h h.gateOpen) (ite h.gateClose h)

theorem wrEnables (h : d.StoresCanonical) : (d.wrEnables ofs v).StoresCanonical := forEach h wrEnable
theorem blockClose {busy : Bool} (h : d.StoresCanonical) : (d.blockClose b busy).StoresCanonical :=
  h.wrEnable.markDirty
theorem gateBusAbort (h : d.StoresCanonical) : (d.gateBusAbort b).StoresCanonical :=
  ite (event <| update h.gateTakes) h
theorem shutdownDone (h : d.StoresCanonical) : (d.shutdownDone b).StoresCanonical :=
  ite (ite h.put.setBlockState.openStarts.event h.setBlockState) h
theorem blockOpenDone (h : d.StoresCanonical) : (d.blockOpenDone b).StoresCanonical :=
  ite h.setBlockState.openEffects h

/-! ### Machine/Clocks.lean -/

theorem clockReport (h : d.StoresCanonical) : (d.clockReport code reporter).StoresCanonical := h.report
theorem setJudge {j : Judge} (h : d.StoresCanonical) : (d.setJudge src j).StoresCanonical := h.onClk
theorem putSwitch {w : Switch} (h : d.StoresCanonical) : (d.putSwitch dom w).StoresCanonical := h.onClk.put
theorem dropSwitch (h : d.StoresCanonical) : (d.dropSwitch dom).StoresCanonical := h.onClk.putB

theorem showClkOp (h : d.StoresCanonical) : d.showClkOp.StoresCanonical := by
  unfold Device.showClkOp
  refine ite ?_ h.put
  split
  · exact h.put
  · exact put <| update h

theorem putClock {div : Nat} (h : d.StoresCanonical) : (d.putClock dom src div).StoresCanonical :=
  when h.put.put showClkOp
theorem setVid (h : d.StoresCanonical) : (d.setVid v).StoresCanonical := h.put.put.onClk
theorem opIdle (h : d.StoresCanonical) : d.opIdle.StoresCanonical := h.onClk.put.put

theorem opAfterRamp (h : d.StoresCanonical) : d.opAfterRamp.StoresCanonical := by
  unfold Device.opAfterRamp
  split
  · exact event <| opIdle <| ite h.setVid h
  · exact h.opIdle

theorem switchEnds {w : Switch} (h : d.StoresCanonical) : (d.switchEnds dom w).StoresCanonical := by
  unfold Device.switchEnds
  extract_lets +onlyGivenNames d₁ d₂
  have h₁ : d₁.StoresCanonical := h.dropSwitch
  have h₂ : d₂.StoresCanonical := ite h₁ h₁.put.event
  exact ite h₂.opAfterRamp h₂

theorem rampOnce {w : Switch} (h : d.StoresCanonical) : (d.rampOnce dom w).StoresCanonical := by
  unfold Device.rampOnce
  extract_lets +onlyGivenNames w goal now
  split
  · extract_lets +onlyGivenNames k d₁
    have h₁ : d₁.StoresCanonical := h.putClock.putSwitch
    exact ite h₁.switchEnds h₁
  · split
    · exact h.putClock.putSwitch
    · exact h.putSwitch

theorem startSwitch {div : Nat} {host : Bool} (h : d.StoresCanonical) :
    (d.startSwitch dom src div host).StoresCanonical :=
  have h := h.putSwitch
  ite h (ite h.rampOnce (ite h.rampOnce h))

theorem refuseSwitch {r : Nat} (h : d.StoresCanonical) : (d.refuseSwitch dom r).StoresCanonical :=
  when h.put.event clockReport
theorem hostSwitch (h : d.StoresCanonical) : (d.hostSwitch dom src).StoresCanonical :=
  ite h.refuseSwitch (ite h.refuseSwitch (ite h.refuseSwitch h.onClk.startSwitch))

theorem changeOver {w : Switch} (h : d.StoresCanonical) : (d.changeOver dom w).StoresCanonical := by
  unfold Device.changeOver
  refine ite h.put.switchEnds ?_
  extract_lets +onlyGivenNames goal now k d₁
  have h₁ : d₁.StoresCanonical := h.putClock
  exact ite h₁.switchEnds h₁.putSwitch

theorem switchDone (h : d.StoresCanonical) : (d.switchDone dom).StoresCanonical := by
  unfold Device.switchDone
  split
  · exact ite h h.changeOver
  · exact h

theorem rampStep (h : d.StoresCanonical) : (d.rampStep dom).StoresCanonical := by
  unfold Device.rampStep
  split
  · exact ite h h.rampOnce
  · exact h

theorem refReset (h : d.StoresCanonical) : d.refReset.StoresCanonical := h.setJudge.setJudge
theorem holdDom (h : d.StoresCanonical) : (d.holdDom dom).StoresCanonical := h.onClk.put
theorem resetRef (h : d.StoresCanonical) : d.resetRef.StoresCanonical := ite h.refReset.holdDom h

theorem switchForced (h : d.StoresCanonical) : (d.switchForced dom).StoresCanonical := by
  unfold Device.switchForced
  split
  · refine ite h ?_
    extract_lets +onlyGivenNames w d₁ d₂
    have h₁ : d₁.StoresCanonical := h.put.put.event
    have h₂ : d₂.StoresCanonical := h₁.clockReport.changeOver
    exact ite h₂.resetRef h₂
  · exact h

theorem opRamp {r : Nat} (h : d.StoresCanonical) : (d.opRamp r).StoresCanonical := by
  unfold Device.opRamp
  extract_lets +onlyGivenNames d₁
  have h₁ : d₁.StoresCanonical := h.onClk
  split
  · exact ite h₁.putSwitch h₁.opAfterRamp
  · exact ite (ite h₁.opAfterRamp h₁.startSwitch) h₁.opAfterRamp

theorem opStart {r : Nat} (h : d.StoresCanonical) : (d.opStart r).StoresCanonical :=
  have h := h.onClk.put
  ite h.setVid.put h.put.opRamp

theorem opNext (h : d.StoresCanonical) : d.opNext.StoresCanonical := by
  unfold Device.opNext
  split
  · exact ite h h.onClk.put.opStart
  · exact h

theorem opRequest {r : Nat} (h : d.StoresCanonical) : (d.opRequest r).StoresCanonical := h.onClk.put.opNext

theorem wrOpCtrl (h : d.StoresCanonical) : (d.wrOpCtrl v).StoresCanonical := by
  unfold Device.wrOpCtrl
  extract_lets +onlyGivenNames r
  refine ite h ?_
  extract_lets +onlyGivenNames d₁
  have h₁ : d₁.StoresCanonical := h.put
  exact ite h₁.opRequest h₁

theorem pgBlankingEnd {pg : Bool} (h : d.StoresCanonical) : (d.pgBlankingEnd pg).StoresCanonical := by
  unfold Device.pgBlankingEnd
  extract_lets +onlyGivenNames d₁
  have h₁ : d₁.StoresCanonical := h.onClk.putB
  split
  · exact ite h₁.put.opRamp.opNext h₁
  · exact h₁

theorem raiseFailed (h : d.StoresCanonical) : d.raiseFailed.StoresCanonical :=
  ite h.put.setVid.opIdle.event.report.opNext h
theorem lostPhase (h : d.StoresCanonical) : d.lostPhase.StoresCanonical := ite h h.put.put

theorem pgLost (h : d.StoresCanonical) : d.pgLost.StoresCanonical := by
  unfold Device.pgLost
  refine ite h ?_
  refine ite h.put ?_
  extract_lets +onlyGivenNames d₁ d₂ d₃
  have h₁ : d₁.StoresCanonical := h.put.event.report
  have h₂ : d₂.StoresCanonical := ite h₁ h₁.opIdle
  have h₃ : d₃.StoresCanonical := h₂.onClk.put
  split
  · exact ite h₃ (ite h₃.putSwitch (ite h₃.lostPhase.switchEnds h₃.lostPhase.startSwitch))
  · exact ite h₃.lostPhase.startSwitch h₃

theorem opCut {toFio : Bool} (h : d.StoresCanonical) : (d.opCut toFio).StoresCanonical :=
  ite (ite h.opAfterRamp h.opIdle) h
theorem mpl0Holdover {lost : Bool} (h : d.StoresCanonical) : (d.mpl0Holdover lost).StoresCanonical :=
  ite (when h.put.put.event clockReport) h
theorem refChange (h : d.StoresCanonical) : (d.refChange i).StoresCanonical :=
  ite h.refuseSwitch (ite h.refuseSwitch h.startSwitch)

theorem refFailover (h : d.StoresCanonical) : d.refFailover.StoresCanonical := by
  unfold Device.refFailover
  refine ite h ?_
  split
  · exact h
  · extract_lets +onlyGivenNames d₁
    have h₁ : d₁.StoresCanonical := h.onClk
    exact ite h₁ (when h₁.refChange (fun h => h.event.clockReport))

theorem mpl0Relock (h : d.StoresCanonical) : d.mpl0Relock.StoresCanonical := ite h.onClk.put.put h

theorem fallback (h : d.StoresCanonical) : d.fallback.StoresCanonical := by
  unfold Device.fallback
  refine ite ?_ h
  extract_lets +onlyGivenNames d₁ d₂
  have h₁ : d₁.StoresCanonical := h.onClk
  have h₂ : d₂.StoresCanonical := by
    unfold d₂
    refine forEach h₁ fun h₃ => ?_
    refine when h₃ fun h₄ => ?_
    extract_lets +onlyGivenNames d₅ d₆ d₇
    have h₅ : d₅.StoresCanonical := h₄.onClk
    have h₆ : d₆.StoresCanonical := when h₅ opCut
    have h₇ : d₇.StoresCanonical := when h₆ dropSwitch
    exact ite h₇.startSwitch h₇
  exact h₂.event.clockReport

theorem returnDomains (h : d.StoresCanonical) : d.returnDomains.StoresCanonical :=
  ite h (forEach h.onClk (fun h => when h startSwitch))
theorem fallForward (h : d.StoresCanonical) : d.fallForward.StoresCanonical := ite h.onClk.returnDomains h
theorem mpl1Back (h : d.StoresCanonical) : d.mpl1Back.StoresCanonical := ite h.put.fallForward h
theorem mpl1Unlock (h : d.StoresCanonical) : d.mpl1Unlock.StoresCanonical := ite h.put.setJudge.fallback h

theorem loseReady (h : d.StoresCanonical) : (d.loseReady src).StoresCanonical := by
  unfold Device.loseReady
  extract_lets +onlyGivenNames _ d₁
  have h₁ : d₁.StoresCanonical := h.setJudge
  refine ite ?_ h₁
  extract_lets +onlyGivenNames d₂
  have h₂ : d₂.StoresCanonical := h₁.putBit.eventBit.clockReport
  exact ite (refFailover <| onClk <| ite h₂.mpl0Holdover h₂) (ite h₂.fallback h₂)

theorem windowTaken (h : d.StoresCanonical) : (d.windowTaken src).StoresCanonical := h.onClk

theorem judgeCount {nom t hz : Nat} (h : d.StoresCanonical) :
    (d.judgeCount src nom t hz).StoresCanonical := by
  unfold Device.judgeCount
  extract_lets +onlyGivenNames j ok hits outs d₁ d₂
  have h₁ : d₁.StoresCanonical := h.setJudge
  have h₂ : d₂.StoresCanonical := h₁.put
  refine ite (ite h₂.loseReady (ite h₂.mpl1Back h₂)) ?_
  refine ite ?_ h₂
  extract_lets +onlyGivenNames d₃
  have h₃ : d₃.StoresCanonical := h₂.putBit
  exact ite h₃.refFailover h₃

theorem judgeSource {count : Nat} (h : d.StoresCanonical) : (d.judgeSource src count).StoresCanonical := by
  unfold Device.judgeSource
  split
  · exact h
  · refine ite h ?_
    show Device.StoresCanonical _
    extract_lets +onlyGivenNames d₁
    have h₁ : d₁.StoresCanonical := h.windowTaken
    exact ite h₁ (judgeCount <| when h₁ put)

theorem stopDetect (h : d.StoresCanonical) : (d.stopDetect src).StoresCanonical := ite h.put.loseReady h.put

theorem wrRefCtrl {asks : Bool} (h : d.StoresCanonical) : (d.wrRefCtrl v asks).StoresCanonical := by
  unfold Device.wrRefCtrl
  extract_lets +onlyGivenNames changed0 changed1 newSel d₁ d₂ d₃
  have h₁ : d₁.StoresCanonical := forEach h put
  have h₂ : d₂.StoresCanonical := when h₁ (fun h => h.setJudge.loseReady)
  have h₃ : d₃.StoresCanonical := when h₂ (fun h => h.setJudge.loseReady)
  exact ite h₃.mpl0Holdover.refChange h₃

/-! ### Machine/Calibration.lean -/

theorem onCal {f : Cal → Cal} (h : d.StoresCanonical) : (d.onCal f).StoresCanonical := update h

theorem calEnd (h : d.StoresCanonical) : (d.calEnd code).StoresCanonical := by
  unfold Device.calEnd
  extract_lets +onlyGivenNames kind u d₁ d₂ d₃
  have h₁ : d₁.StoresCanonical := h.put.put.put
  have h₂ : d₂.StoresCanonical := h₁.onCal
  have h₃ : d₃.StoresCanonical := ite h₂.event h₂.event
  exact ite h₃.startHold (ite h₃.coreClose.coreOpen h₃)

theorem calReject (h : d.StoresCanonical) : (d.calReject code).StoresCanonical := h.put.put.event

theorem fitLoad {x : Nat} {f : Device → Device} (h : d.StoresCanonical)
    (hf : ∀ {d}, d.StoresCanonical → (f d).StoresCanonical) : (d.fitLoad c x f).StoresCanonical :=
  onCore (hf h.newSettings)

theorem fitEntry {rest : List Nat} (h : d.StoresCanonical) : (d.fitEntry c e rest).StoresCanonical := by
  unfold Device.fitEntry
  exact fitLoad h.onCal fun h => h.dropLock.onCore.put.put.put.put

theorem fitBegin (h : d.StoresCanonical) : (d.fitBegin c).StoresCanonical := by
  unfold Device.fitBegin
  split
  · exact h.fitEntry
  · exact h

theorem fitPreset {b : BandFit} {p : FitPhase} (h : d.StoresCanonical) :
    (d.fitPreset c b p).StoresCanonical := when (fitLoad h.onCal presetLoad) startHold

theorem calStart (h : d.StoresCanonical) : d.calStart.StoresCanonical := by
  unfold Device.calStart
  extract_lets +onlyGivenNames kind u d₁
  have h₁ : d₁.StoresCanonical := h.put
  refine ite h₁.event ?_
  extract_lets +onlyGivenNames d₂
  have h₂ : d₂.StoresCanonical := h₁.put.put
  refine ite h₂.calReject ?_
  split
  · exact h₂.calReject
  · extract_lets +onlyGivenNames d₃ d₄
    have h₃ : d₃.StoresCanonical := h₂.put.put.put
    have h₄ : d₄.StoresCanonical := h₃.onCal
    exact ite h₄.startHold (ite h₄.fitBegin h₄)

theorem calPrecondition (h : d.StoresCanonical) : (d.calPrecondition code).StoresCanonical := ite h.calEnd h
theorem calAbort (h : d.StoresCanonical) : d.calAbort.StoresCanonical := ite h.calEnd h

theorem calDensity {bins grid : List Nat} (h : d.StoresCanonical) :
    (d.calDensity bins grid).StoresCanonical := by
  unfold Device.calDensity
  extract_lets +onlyGivenNames kind n k codes sum
  refine ite ?_ h
  extract_lets +onlyGivenNames dev d₁
  have h₁ : d₁.StoresCanonical := h.onCal.put
  split
  · exact h₁.calEnd
  · exact ite h₁.calEnd (ite h₁.calEnd h₁.onCal.put)

theorem applyOver (h : d.StoresCanonical) : (d.applyOver result).StoresCanonical := h.onCal.put.put
theorem applyRefuse (h : d.StoresCanonical) : d.applyRefuse.StoresCanonical := h.applyOver.event
theorem applyJudge (h : d.StoresCanonical) : (d.applyJudge p).StoresCanonical := ite h.applyRefuse h.onCal.put.put
theorem takeBytes (h : d.StoresCanonical) : (d.takeBytes ofs n).StoresCanonical := h.onCal

theorem applyBands (h : d.StoresCanonical) : (d.applyBands c).StoresCanonical := by
  unfold Device.applyBands
  extract_lets +onlyGivenNames m
  refine forEach h fun h₁ => ?_
  refine ite ?_ h₁.event
  extract_lets +onlyGivenNames d₂
  have h₂ : d₂.StoresCanonical := h₁.takeBytes
  exact ite h₂ h₂.bandTake

theorem keepStamps (h : d.StoresCanonical) : (d.keepStamps q).StoresCanonical := forEach h onTowWharf

theorem applyUnit {u : Nat} (h : d.StoresCanonical) : (d.applyUnit kind u).StoresCanonical := by
  unfold Device.applyUnit
  extract_lets +onlyGivenNames d₁ d₂
  have h₁ : d₁.StoresCanonical := when h keepStamps
  have h₂ : d₂.StoresCanonical := h₁.onCal
  split
  · exact h₂.applyBands
  · exact h₂.takeBytes
  · extract_lets +onlyGivenNames d₃
    have h₃ : d₃.StoresCanonical := h₂.takeBytes.takeBytes
    exact ite h₃.monOffset.onCore (ite h₃.walkToTable h₃)

theorem calApply (h : d.StoresCanonical) : d.calApply.StoresCanonical := by
  unfold Device.calApply
  split
  · exact ite (event <| applyOver <| when (forEach h applyUnit) onCal) h
  · exact h

theorem applyPassed (h : d.StoresCanonical) : d.applyPassed.StoresCanonical := when h calApply

theorem wrCalApply (h : d.StoresCanonical) : (d.wrCalApply v).StoresCanonical :=
  have h := h.applyPassed
  ite h.applyJudge h

theorem calHold {r : CalRun} (h : d.StoresCanonical) : (d.calHold r).StoresCanonical :=
  put <| onCal <| update h.applyPassed

theorem calComplete {r : CalRun} (h : d.StoresCanonical) : (d.calComplete r).StoresCanonical := by
  unfold Device.calComplete
  split
  · exact when h.onCal.put fitBegin
  · extract_lets +onlyGivenNames d₁
    have h₁ : d₁.StoresCanonical := h.put
    exact ite h₁.calHold.calEnd h₁.calEnd

theorem calPartEnd {statistics range : Bool} {f : Device → Device} (h : d.StoresCanonical)
    (hf : ∀ {d}, d.StoresCanonical → (f d).StoresCanonical) : (d.calPartEnd statistics range f).StoresCanonical := by
  unfold Device.calPartEnd
  split
  · exact h.calEnd
  · exact ite h.calEnd (ite h.calEnd (hf h))

theorem calMean {readings : List (Int × Nat)} (h : d.StoresCanonical) :
    (d.calMean readings).StoresCanonical := ite (calPartEnd h.put calComplete) h

theorem fitTunes {readings : List (Nat × Nat)} (h : d.StoresCanonical) :
    (d.fitTunes readings).StoresCanonical := by
  unfold Device.fitTunes
  split
  · exact ite (calPartEnd h fitPreset) h
  · exact h

theorem fitStep (h : d.StoresCanonical) : d.fitStep.StoresCanonical := by
  unfold Device.fitStep
  extract_lets +onlyGivenNames c k ok late
  split
  · refine ite ?_ h
    refine calPartEnd h fun h₁ => ?_
    refine ite h₁.fitPreset ?_
    extract_lets +onlyGivenNames _ r
    split
    · exact h₁.onCal.fitEntry
    · exact h₁.onCal.calComplete
  · exact h

theorem calTrims {ones : List (List Nat)} (h : d.StoresCanonical) : (d.calTrims ones).StoresCanonical :=
  ite (calPartEnd h calComplete) h

theorem calRunDone {p : CalPart} (h : d.StoresCanonical) : (d.calRunDone p).StoresCanonical := by
  unfold Device.calRunDone
  refine ite ?_ h
  split
  · exact h.calDensity
  · exact h.calMean
  · exact h.fitTunes
  · exact h.fitStep
  · exact h.calTrims

theorem calDiscard (h : d.StoresCanonical) : d.calDiscard.StoresCanonical := h.onCal

theorem applyRejudge (h : d.StoresCanonical) : d.applyRejudge.StoresCanonical := by
  unfold Device.applyRejudge
  split
  · exact ite h.applyRefuse h
  · exact h

theorem calStore (h : d.StoresCanonical) : d.calStore.StoresCanonical :=
  have h := h.put
  ite h.put (ite h.put (when h.put storeBegin))

theorem storeEnd (h : d.StoresCanonical) : (d.storeEnd code).StoresCanonical := h.put.put.put
theorem storeFail (h : d.StoresCanonical) : (d.storeFail code).StoresCanonical := h.storeEnd.event.report

theorem calStoreDone {r : StoreResult} (h : d.StoresCanonical) : (d.calStoreDone r).StoresCanonical := by
  unfold Device.calStoreDone
  refine ite ?_ h
  split
  · exact h.storeFail
  · exact ite h.onNvs.onCal.storeEnd.put.event h.onNvs.storeFail

theorem calServe (h : d.StoresCanonical) : d.calServe.StoresCanonical := ite h (when (when h calStore) calStart)
theorem wrCalCmd (h : d.StoresCanonical) : (d.wrCalCmd v).StoresCanonical :=
  calServe <| when (when (when (when h.applyPassed.put.put calAbort) calDiscard) put) put
theorem calKeeperRestart (h : d.StoresCanonical) : d.calKeeperRestart.StoresCanonical := when h.calAbort storeFail

/-! ### Machine/Reset.lean -/

theorem onBoot {f : Boot → Boot} (h : d.StoresCanonical) : (d.onBoot f).StoresCanonical := update h

/-- POWER_ON_RESET starts from empty tables, so it gives the canonical form from any state. -/
theorem powerOnReset : d.powerOnReset.StoresCanonical := putB ⟨rfl, rfl⟩

theorem warmReset (h : d.StoresCanonical) : d.warmReset.StoresCanonical := resetRegs ⟨Store.wf_keep _ _ h.1, h.2⟩
theorem enterWarm (h : d.StoresCanonical) : d.enterWarm.StoresCanonical := ite h (ite h h.warmReset)
theorem release (h : d.StoresCanonical) : d.release.StoresCanonical := ite h.onBoot.put h
theorem powerOnEnd {bootsel : Nat} (h : d.StoresCanonical) : (d.powerOnEnd bootsel).StoresCanonical :=
  ite h.onBoot.release h

theorem pinReset (h : d.StoresCanonical) : d.pinReset.StoresCanonical :=
  have h := h.onBoot
  ite h h.enterWarm.put

theorem pinRelease (h : d.StoresCanonical) : d.pinRelease.StoresCanonical := h.onBoot.release

theorem brownout (h : d.StoresCanonical) : (d.brownout rail).StoresCanonical :=
  have h₁ := h.onBoot.putBit
  have h₂ := h₁.enterWarm.put
  ite h₁ (ite (put ⟨h₂.1, rfl⟩) h₂)

theorem brownoutOver (h : d.StoresCanonical) : (d.brownoutOver rail).StoresCanonical := h.onBoot.putBit.release
theorem aonEvent {f : Fld} (h : d.StoresCanonical) : (d.aonEvent f).StoresCanonical := ite h.put h.event
theorem railDip (h : d.StoresCanonical) : d.railDip.StoresCanonical := h.aonEvent

theorem sensorUpdate (h : d.StoresCanonical) : (d.sensorUpdate v).StoresCanonical := by
  unfold Device.sensorUpdate
  extract_lets +onlyGivenNames d₁
  have h₁ : d₁.StoresCanonical := put <| when h onBoot
  exact ite h₁.put h₁

theorem overTemp (h : d.StoresCanonical) : d.overTemp.StoresCanonical := by
  unfold Device.overTemp
  refine ite ?_ h
  extract_lets +onlyGivenNames d₁
  have h₁ : d₁.StoresCanonical := h.aonEvent
  exact ite h₁ h₁.report

theorem thermalReset (h : d.StoresCanonical) : d.thermalReset.StoresCanonical := by
  unfold Device.thermalReset
  refine ite ?_ h
  extract_lets +onlyGivenNames d₁
  have h₁ : d₁.StoresCanonical := h.onBoot
  exact ite h₁ h₁.enterWarm.put

theorem thermalRelease (h : d.StoresCanonical) : d.thermalRelease.StoresCanonical := ite h.onBoot.release h

theorem keeperRestart (h : d.StoresCanonical) : d.keeperRestart.StoresCanonical := by
  unfold Device.keeperRestart
  extract_lets +onlyGivenNames d₁ d₂ d₃ d₄ d₅
  have h₁ : d₁.StoresCanonical := update h
  have h₂ : d₂.StoresCanonical := h₁.resetRegs
  have h₃ : d₃.StoresCanonical := ite h₂.mbxFinish h₂
  have h₄ : d₄.StoresCanonical := h₃.calKeeperRestart.clientInit
  have h₅ : d₅.StoresCanonical := ite h₄.put.event h₄
  exact ite h₅.put h₅

theorem watchdogExpiry (h : d.StoresCanonical) : d.watchdogExpiry.StoresCanonical :=
  ite h.keeperRestart.event.put.report h
theorem loopReset (h : d.StoresCanonical) : (d.loopReset c).StoresCanonical :=
  when (forEach h.cancelHop.onCore put) loseLock
theorem towReset (h : d.StoresCanonical) : d.towReset.StoresCanonical :=
  update (forEach h.resetRegs (fun h => ite h.alignEnd h))

theorem tpxReset (h : d.StoresCanonical) : d.tpxReset.StoresCanonical := by
  unfold Device.tpxReset
  extract_lets +onlyGivenNames d₁ _ d₂
  have h₁ : d₁.StoresCanonical := h.resetRegs
  have h₂ : d₂.StoresCanonical := update h₁
  exact ite h₂ h₂.clientInit

theorem domainEffects (h : d.StoresCanonical) : (d.domainEffects dom).StoresCanonical := by
  unfold Device.domainEffects
  refine ite (forEach h wharfReset) ?_
  refine ite h.loopReset ?_
  split
  · exact h.resetEngines.put
  · exact h.keeperRestart
  · exact h.nvsEmpty
  · exact h.towReset
  · exact h.tpxReset
  · exact h.refReset
  · exact h

theorem domReset (h : d.StoresCanonical) : (d.domReset dom).StoresCanonical := by
  unfold Device.domReset
  refine ite h.put ?_
  extract_lets +onlyGivenNames d₁ d₂
  have h₁ : d₁.StoresCanonical := ite h.dropSwitch.put h
  have h₂ : d₂.StoresCanonical := ite h₁.opCut h₁
  exact h₂.holdDom.domainEffects

theorem domResetDone (h : d.StoresCanonical) : (d.domResetDone dom).StoresCanonical := ite h.onClk.put.putB.opNext h
theorem wrDomCtrl (h : d.StoresCanonical) : (d.wrDomCtrl v).StoresCanonical :=
  ite h (when (when h.put domReset) hostSwitch)

/-! ### Machine/Mailbox.lean -/

theorem onMbx {f : Mailbox → Mailbox} (h : d.StoresCanonical) : (d.onMbx f).StoresCanonical := update h

theorem mbxServe (h : d.StoresCanonical) : d.mbxServe.StoresCanonical := by
  unfold Device.mbxServe
  split
  · exact ite (ite h.mbxFinish h.onMbx) h
  · exact h

theorem wrMbxReq (h : d.StoresCanonical) : (d.wrMbxReq v).StoresCanonical := by
  unfold Device.wrMbxReq
  extract_lets +onlyGivenNames obj index d₁
  have h₁ : d₁.StoresCanonical := h.put.put
  refine ite ?_ h₁
  refine ite h₁.put ?_
  extract_lets +onlyGivenNames d₂
  have h₂ : d₂.StoresCanonical := h₁.put
  exact ite h₂.mbxFinish (mbxServe <| update h₂.put.put)

theorem mbxBoundary (h : d.StoresCanonical) : d.mbxBoundary.StoresCanonical := when h onMbx

theorem mbxCaptureDone {f : BitVec 24} (h : d.StoresCanonical) : (d.mbxCaptureDone f).StoresCanonical := by
  unfold Device.mbxCaptureDone
  split
  · exact ite h.mbxFinish h
  · exact ite h.mbxFinish h
  · exact ite h.mbxFinish h
  · exact ite h.mbxFinish h
  · exact ite h.mbxFinish h
  · exact h

theorem mbxCaptureTimeout (h : d.StoresCanonical) : d.mbxCaptureTimeout.StoresCanonical := by
  unfold Device.mbxCaptureTimeout
  split
  · exact ite h.mbxFinish h
  · exact h

theorem mbxStatus {status a b : Word} (h : d.StoresCanonical) : (d.mbxStatus status a b).StoresCanonical :=
  h.mbxFinish
theorem keeperCommand {f : Device → Device} (h : d.StoresCanonical)
    (hf : ∀ {d}, d.StoresCanonical → (f d).StoresCanonical) : (d.keeperCommand c f).StoresCanonical := ite (hf h) h
theorem version (h : d.StoresCanonical) : d.version.StoresCanonical := keeperCommand h mbxStatus

theorem trainWharf (h : d.StoresCanonical) : (d.trainWharf w).StoresCanonical := by
  unfold Device.trainWharf
  refine forEach h fun h₁ => ?_
  refine ite ?_ h₁
  extract_lets +onlyGivenNames d₂
  have h₂ : d₂.StoresCanonical := h₁.put.onLane
  exact trainingStart <| ite h₂.laneRest h₂

theorem keeperTrain (h : d.StoresCanonical) : d.keeperTrain.StoresCanonical :=
  keeperCommand h (fun h => ite h.mbxStatus h.trainWharf.mbxStatus)
theorem keeperEmitWharf (h : d.StoresCanonical) : d.keeperEmitWharf.StoresCanonical :=
  keeperCommand h (fun h => ite h (ite h.mbxStatus (ite (emitWharfDone <| onMbx <| update h) h.mbxStatus)))
theorem ptpRestart (h : d.StoresCanonical) : d.ptpRestart.StoresCanonical :=
  keeperCommand h (fun h => ite h.clientInit.mbxStatus h.mbxStatus)

/-! ### Machine/Indirect.lean -/

theorem xingErr (h : d.StoresCanonical) : (d.xingErr page).StoresCanonical := h.pageEvent.hspFlag
theorem setCapture {words : List Word} (h : d.StoresCanonical) :
    (d.setCapture page a words).StoresCanonical := update h
theorem indCapture {p : IndPlace} (h : d.StoresCanonical) : (d.indCapture page a p).2.StoresCanonical :=
  setCapture (ite h.noteErrors h)

theorem indReadWord {p : IndPlace} (h : d.StoresCanonical) : (d.indReadWord page a p).2.StoresCanonical := by
  unfold Device.indReadWord
  split
  · extract_lets +onlyGivenNames w
    split
    · split
      · exact h.setCapture
      · split
        · exact h.indCapture
        · exact h.dropCapture
    · split
      · exact h.indCapture
      · exact h.dropCapture
  · exact ite (update h.dropCapture) h.dropCapture

theorem indAdvance (h : d.StoresCanonical) : (d.indAdvance page).StoresCanonical := ite h.put h

theorem indLeave {first : Nat} (h : d.StoresCanonical) : (d.indLeave page first).StoresCanonical := by
  unfold Device.indLeave
  split
  · exact ite h h.dropStaged
  · exact h

theorem indRead (h : d.StoresCanonical) : (d.indRead page).2.StoresCanonical := by
  unfold Device.indRead
  split
  · extract_lets +onlyGivenNames a
    split
    · exact h.xingErr.indAdvance
    · split
      · exact h.dropStaged.dropCapture.pageEvent.indAdvance
      · exact h.indLeave.indReadWord.indAdvance
  · exact h

theorem wrIndAddr (h : d.StoresCanonical) : (d.wrIndAddr page v).StoresCanonical := ite h.dropStaged.put h
theorem writeTx (h : d.StoresCanonical) : (d.writeTx a v).StoresCanonical := ite h (update h)

theorem indWriteWord (h : d.StoresCanonical) : (d.indWriteWord page a v).StoresCanonical := by
  unfold Device.indWriteWord
  extract_lets +onlyGivenNames w
  refine ite (ite (update h) h) ?_
  split
  · exact h.setBandWord
  · exact ite (updateLedger h) h
  · exact ite h.onDec (ite h.onDec h)
  · exact h.onTowWharf
  · exact ite h.writeTx h
  · exact h

theorem indWriteEntry {p : IndPlace} {words : Store Word} (h : d.StoresCanonical) :
    (d.indWriteEntry page p words).StoresCanonical := by
  unfold Device.indWriteEntry
  split
  · exact h.requestBerthWrite
  · exact update h
  · exact ite h.onDec (ite h.onDec h.onDec)
  · exact h

theorem indStage {p : IndPlace} (h : d.StoresCanonical) : (d.indStage page a v p).StoresCanonical :=
  ite (indWriteEntry <| update h) (update h)

theorem indWrite {key : Bool} (h : d.StoresCanonical) : (d.indWrite page v key).StoresCanonical := by
  unfold Device.indWrite
  refine ite ?_ h
  extract_lets +onlyGivenNames a
  refine ite h.xingErr.indAdvance ?_
  split
  · exact h.dropStaged.pageEvent.indAdvance
  · extract_lets +onlyGivenNames d₁ d₂ d₃
    have h₁ : d₁.StoresCanonical := h.indLeave
    have h₂ : d₂.StoresCanonical := when h₁ markDirty
    have h₃ : d₃.StoresCanonical := ite h₂.indRefused (ite h₂.pageEvent (ite h₂.indWriteWord (ite h₂ h₂.indStage)))
    exact h₃.indAdvance

/-! ### Machine/Bus.lean -/

theorem onBus {f : Bus → Bus} (h : d.StoresCanonical) : (d.onBus f).StoresCanonical := update h
theorem scanStart (h : d.StoresCanonical) : d.scanStart.StoresCanonical := ite h.onBus.put h
theorem scanClean {crc : Nat} (h : d.StoresCanonical) : (d.scanClean crc).StoresCanonical :=
  ite h.put.put.put.event (ite h.bump.event.report h)

theorem scanEnd (h : d.StoresCanonical) : d.scanEnd.StoresCanonical := by
  unfold Device.scanEnd
  dsimp only
  split
  · exact event <| bump <| put <| ite (event <| update h.put) (event <| update h.put)
  · exact h.put.scanClean.put.bump.event

theorem scanDone {uncorr : Bool} (h : d.StoresCanonical) : (d.scanDone uncorr).StoresCanonical :=
  ite h.onBus.scanEnd h

theorem wrCfgCtrl (h : d.StoresCanonical) : (d.wrCfgCtrl v).StoresCanonical :=
  have h := h.put.put.put
  ite h.onBus.scanEnd h

theorem wrCrcRef (h : d.StoresCanonical) : (d.wrCrcRef v).StoresCanonical := h.put.put
theorem wrUnlock {p : Port} (h : d.StoresCanonical) : (d.wrUnlock p v).StoresCanonical :=
  ite (ite h.pageEvent h.put) h.put

theorem writeFields {r : Reg} (h : d.StoresCanonical) : (d.writeFields r i v).StoresCanonical := by
  unfold Device.writeFields
  refine forEach h fun h₁ => ?_
  split
  · exact h₁
  · exact h₁
  · exact ite h₁ h₁.put
  · exact h₁.put

theorem wrSliceSel (h : d.StoresCanonical) : (d.wrSliceSel v).StoresCanonical := forEach h.put put
theorem wrMonCfg (h : d.StoresCanonical) : (d.wrMonCfg c v).StoresCanonical := h.writeFields.onCore
theorem wrEpochHi (h : d.StoresCanonical) : (d.wrEpochHi v).StoresCanonical := h.put.writeFields
theorem wrMacHi (h : d.StoresCanonical) : (d.wrMacHi v).StoresCanonical := h.put.writeFields

theorem wrSystem {p : Port} {t : Device} (h : d.StoresCanonical) (e : d.wrSystem p b v = some t) : t.StoresCanonical := by
  unfold Device.wrSystem at e
  split at e <;> cases e
  · exact h.wrEnables
  · exact h.wrEnables
  · exact h.wrEnables
  · exact h.wrEnables
  · exact h.wrEnables
  · exact h.wrRefCtrl
  · exact h.wrDomCtrl
  · exact h.wrOpCtrl
  · exact h.wrNvsCtrl
  · exact h.wrNvsPush
  · exact h.wrNvsWdata
  · exact h.wrCfgCtrl
  · exact h.wrCrcRef
  · exact h.wrUnlock
  · exact h.wrMbxReq
  · exact h.wrCalCmd
  · exact h.wrCalApply
  · exact h.wrFltCtrl
  · exact h.wrFltClear
  · exact h.wrLogTail

theorem wrUnit {t : Device} (h : d.StoresCanonical) (e : d.wrUnit b i v = some t) : t.StoresCanonical := by
  unfold Device.wrUnit at e
  split at e <;> cases e
  · exact h.wrLoopApply
  · exact h.wrPhaseAdj
  · exact h.wrMonCfg
  · exact h.wrFcntCfg
  · exact h.writeFields.reduceTrim
  · exact h.wrAlignArm
  · exact h.wrAlignDisarm
  · exact h.wrTwinCtrl
  · exact h.wrTwinSwap
  · exact h.wrOutputSel
  · exact h.writeFields.dccEnable
  · exact h.wrOutputDelay
  · exact h.wrEngReset
  · exact h.wrHcqCtrl
  · exact h.wrSliceSel
  · exact h.wrCntCtrl
  · exact h.wrHcqWin
  · exact h.wrTtEnd
  · exact h.wrTtHead
  · exact h.wrDecCtrl
  · exact h.wrDecReset
  · exact h.wrRealign
  · exact h.wrPpsCfg
  · exact h.onTow
  · exact h.wrEpochHi
  · exact h.wrResolve
  · exact h.wrTptCtrl
  · exact h.onTpt
  · exact h.wrMacHi
  · exact h.wrRxRel
  · exact h.wrTxCtrl
  · exact h.wrTxtsRel
  · exact h.wrLaneCtrl
  · exact h.wrWhfCfg
  · exact h.wrWhfCmd

theorem writeReg {p : Port} {r : Reg} (h : d.StoresCanonical) : (d.writeReg p r i v).StoresCanonical := by
  unfold Device.writeReg
  extract_lets +onlyGivenNames d₁
  have h₁ : d₁.StoresCanonical := when h markDirty
  refine ite h (ite h.xingErr ?_)
  split
  next e =>
    rcases Option.or_eq_some_iff.mp e with e | ⟨-, e⟩
    · exact h₁.wrSystem e
    · exact h₁.wrUnit e
  next => exact h₁.writeFields

theorem closePair {p : Port} (h : d.StoresCanonical) : (d.closePair p).StoresCanonical := h.onBus
theorem failPair {p : Port} (h : d.StoresCanonical) : (d.failPair p addr).StoresCanonical := h.closePair.pageEvent

theorem writeGuarded {p : Port} (h : d.StoresCanonical) : (d.writeGuarded p addr v).StoresCanonical := by
  unfold Device.writeGuarded
  split
  · exact h.writeReg
  · exact h

theorem writeOpen {p : Port} (h : d.StoresCanonical) : (d.writeOpen p addr v).StoresCanonical := by
  unfold Device.writeOpen
  extract_lets +onlyGivenNames page ofs
  refine ite (ite h.put.writeGuarded h.onBus) ?_
  refine ite h.onBus ?_
  split
  · extract_lets +onlyGivenNames target b
    split
    · split
      · exact ite (ite h.writeReg h) h.writeReg
      · exact h
    · exact h
  · refine ite h.wrIndAddr ?_
    refine ite (when h.indWrite put) ?_
    split
    · exact h.writeReg
    · exact h

theorem busWrite {p : Port} (h : d.StoresCanonical) : (d.busWrite p addr v).StoresCanonical := by
  unfold Device.busWrite
  split
  · refine ite h.closePair.writeGuarded ?_
    extract_lets +onlyGivenNames d₁
    have h₁ : d₁.StoresCanonical := h.failPair
    exact ite h₁ (ite h₁.writeOpen h₁)
  · exact ite h.writeOpen h

theorem clearRead {r : Reg} (h : d.StoresCanonical) : (d.clearRead r i v).StoresCanonical :=
  forEach h (fun h => ite h.put h)

theorem readReg {r : Reg} {unstable : Bool} (h : d.StoresCanonical) : (d.readReg r i addr unstable).2.StoresCanonical := by
  unfold Device.readReg
  split
  · exact h
  · split
    · exact h.xingErr
    · split
      · exact h.readNvsRdata
      · split
        · exact h.readLastEvt3
        · split
          · split
            · exact h.clearRead.pageEvent
            · exact h.clearRead.onBus
          · exact h.clearRead

theorem readAddr {unstable : Bool} (h : d.StoresCanonical) : (d.readAddr addr unstable).2.StoresCanonical := by
  unfold Device.readAddr
  extract_lets +onlyGivenNames page ofs
  split
  · split
    · split
      · exact h
      · exact h
    · split
      · exact h.indRead
      · split
        · exact h.readReg
        · exact h
  · exact h

theorem busRead {unstable : Bool} (h : d.StoresCanonical) : (d.busRead addr unstable).2.StoresCanonical :=
  h.readAddr.onBus

theorem frameWord {last : Bool} (h : d.StoresCanonical) : (d.frameWord v last).StoresCanonical := by
  unfold Device.frameWord
  split
  · exact h
  · exact ite h.onHsp.hspReply h.onHsp

theorem writeUnlocked (h : d.StoresCanonical) : (d.writeUnlocked addr v).StoresCanonical := ite h.put.writeOpen.put h

theorem land {p : Port} {x : BusAccess} (h : d.StoresCanonical) : (d.land p x).StoresCanonical := by
  unfold Device.land
  split
  · exact ite h.writeUnlocked h.busWrite
  · exact h.hspFlag
  · exact h.busRead
  · exact h.busRead.frameWord
  · exact h.hspFlag.frameWord
  · exact h.formatReset

theorem setHeld {p : Port} {l : List BusAccess} (h : d.StoresCanonical) : (d.setHeld p l).StoresCanonical := h.onBus
theorem issue {p : Port} {l : List BusAccess} (h : d.StoresCanonical) : (d.issue p l).StoresCanonical := h.setHeld

theorem landN {p : Port} (h : d.StoresCanonical) : (Device.landN p n d).StoresCanonical := by
  induction n generalizing d with
  | zero => exact h
  | succ n ih =>
    unfold Device.landN
    split
    · exact h
    · exact ite h (ih h.setHeld.land)

theorem landAll {p : Port} (h : d.StoresCanonical) : (d.landAll p).StoresCanonical := h.landN

theorem landSome {p : Port} {n : Option Nat} (h : d.StoresCanonical) : (d.landSome p n).StoresCanonical := by
  unfold Device.landSome
  split
  · exact h.landN
  · exact h.landAll

theorem hspSelect (h : d.StoresCanonical) : d.hspSelect.StoresCanonical := h.onHsp.setHeld

theorem access {p : Port} {x : BusAccess} (h : d.StoresCanonical) : (d.access p x).StoresCanonical := by
  unfold Device.access
  split
  · exact h.hspSelect.issue.landAll
  · exact h.issue.landAll.landSome

theorem accessWrite {p : Port} (h : d.StoresCanonical) : (d.accessWrite p addr v).StoresCanonical := h.access
theorem landAfter {before : Device} (h : d.StoresCanonical) : (d.landAfter before).StoresCanonical :=
  forEach h (fun h => when h landAll)

theorem xingTimeout {write : Bool} (h : d.StoresCanonical) : (d.xingTimeout addr write).StoresCanonical := by
  unfold Device.xingTimeout
  extract_lets +onlyGivenNames page
  split
  · exact ite (when h.xingErr onBus) (ite (when h.xingErr onBus) h)
  · exact h

theorem hspWrite {stageFree : Bool} {landed : Option Nat} (h : d.StoresCanonical) :
    (d.hspWrite cycles stageFree landed).StoresCanonical := by
  unfold Device.hspWrite
  split
  · exact ite (ite h.aliveSync.bump.issue.landSome h.aliveSync.hspBad.landSome) h
  · exact h

theorem hspRead {busy : Nat} {abandoned : Bool} {landed : Option Nat} {unstable : List Nat} (h : d.StoresCanonical) :
    (d.hspRead cycles busy abandoned landed unstable).StoresCanonical := by
  unfold Device.hspRead
  split
  · refine ite ?_ h
    extract_lets +onlyGivenNames n head ok format d₁
    have h₁ : d₁.StoresCanonical := h.aliveSync.hspDrive
    exact ite (when h₁.bump.onHsp.issue.landSome hspSelect) (landSome <| when h₁.hspBad hspReply)
  · exact h

theorem hspResetFormat (h : d.StoresCanonical) : (d.hspResetFormat cycles).StoresCanonical := ite h.issue h
theorem frameRow {f : Device → Device} (h : d.StoresCanonical)
    (hf : ∀ {d}, d.StoresCanonical → (f d).StoresCanonical) : (d.frameRow f).StoresCanonical := landAll (hf h.hspSelect)

/-! ### Machine/Boot.lean -/

theorem stepDone (h : d.StoresCanonical) : (d.stepDone n).StoresCanonical := h.put.put
theorem bootRecord (h : d.StoresCanonical) : (d.bootRecord code).StoresCanonical := h.report
theorem bootWait (h : d.StoresCanonical) : (d.bootWait code).StoresCanonical := h.put.bootRecord
theorem bootFail (h : d.StoresCanonical) : (d.bootFail code).StoresCanonical := h.bootWait.put
theorem bootWarn {f : Fld} (h : d.StoresCanonical) : (d.bootWarn f code).StoresCanonical := h.put.bootRecord
theorem keeperWrite (h : d.StoresCanonical) : (d.keeperWrite addr v).StoresCanonical := h.issue.landAll
theorem bootEntry {e : BootEntry} (h : d.StoresCanonical) : (d.bootEntry e).StoresCanonical :=
  ite h.onBoot (ite h.onBoot (ite h.onBoot h.keeperWrite))
theorem bootPhase {p : Nat} (h : d.StoresCanonical) : (d.bootPhase p).StoresCanonical := forEach h bootEntry
theorem writeHeld {l : List BootEntry} (h : d.StoresCanonical) : (d.writeHeld l).StoresCanonical :=
  forEach h.onBoot keeperWrite

theorem keeperBoots {patch : Option (List Byte)} (h : d.StoresCanonical) :
    (d.keeperBoots patch).StoresCanonical := by
  unfold Device.keeperBoots
  extract_lets +onlyGivenNames d₁
  have h₁ : d₁.StoresCanonical := h.put
  split
  · exact update h₁.put.put
  · exact h₁

theorem keeperServes (h : d.StoresCanonical) : d.keeperServes.StoresCanonical := h.mbxServe.calServe
theorem flashRun {l : List FlashSeq} (h : d.StoresCanonical) : (d.flashRun l).StoresCanonical := h.onNvs

theorem bootPatch (h : d.StoresCanonical) : (d.bootPatch image).StoresCanonical :=
  have h := h.keeperBoots
  ite h h.bootWarn

theorem patchLoad {found : FlashProbe} (h : d.StoresCanonical) :
    (d.patchLoad image found).StoresCanonical := by
  unfold Device.patchLoad
  refine ite ?_ h
  extract_lets +onlyGivenNames d₁
  have h₁ : d₁.StoresCanonical := h.onNvs.flashRun
  split
  · split
    · exact h₁.flashRun.bootPatch.stepDone.keeperServes
    · exact h₁.bootPatch.stepDone.keeperServes
  · exact h.onBoot.keeperBoots.stepDone.keeperServes
  · exact h₁.keeperBoots.stepDone.bootWait.keeperServes

theorem loadBands (h : d.StoresCanonical) : d.loadBands.StoresCanonical := update h
theorem loadImage {m : Image} {loaded : Nat} (h : d.StoresCanonical) :
    (d.loadImage m loaded).StoresCanonical := h.onCal.put

theorem calLoad (h : d.StoresCanonical) : (d.calLoad flash).StoresCanonical := by
  unfold Device.calLoad
  refine loadBands <| onCal <| ite h.put ?_
  split
  · exact h.loadImage
  · exact ite h.loadImage.bootWarn h.loadImage

theorem bootCfgLoad (h : d.StoresCanonical) : (d.bootCfgLoad flash).StoresCanonical := by
  unfold Device.bootCfgLoad
  split
  · exact h.onBoot
  · exact ite h.bootWarn h

theorem stepFour (h : d.StoresCanonical) : d.stepFour.StoresCanonical := ite h.put.stepDone (ite h.put.stepDone h)

theorem stepSixStart (h : d.StoresCanonical) : d.stepSixStart.StoresCanonical := by
  unfold Device.stepSixStart
  refine ite ?_ h
  refine ite (forEach h startSwitch) ?_
  split
  · exact h.refuseSwitch.bootFail
  · exact forEach h.onClk startSwitch

theorem stepSixAsk (h : d.StoresCanonical) : d.stepSixAsk.StoresCanonical := by
  unfold Device.stepSixAsk
  refine ite h ?_
  extract_lets +onlyGivenNames d₁ r
  have h₁ : d₁.StoresCanonical := h.onBoot
  exact ite h₁ h₁.opRequest

theorem stepSixEnd (h : d.StoresCanonical) : d.stepSixEnd.StoresCanonical := by
  unfold Device.stepSixEnd
  refine ite ?_ h
  extract_lets +onlyGivenNames d₁
  have h₁ : d₁.StoresCanonical := h.stepSixAsk
  exact ite h₁ h₁.stepDone.bootPhase.onBoot

theorem stepFive (h : d.StoresCanonical) : d.stepFive.StoresCanonical := ite h.stepDone.bootPhase h
theorem bootAdvance (h : d.StoresCanonical) : d.bootAdvance.StoresCanonical :=
  ite h (when (when (when (when h stepFour) stepFive) stepSixStart) stepSixEnd)
theorem poll (h : d.StoresCanonical) : d.poll.StoresCanonical :=
  when h (fun h => h.refFailover.returnDomains.bootAdvance.opNext)
theorem calibrationLoad (h : d.StoresCanonical) : (d.calibrationLoad flash).StoresCanonical :=
  ite (poll <| stepDone <| bootPhase <| bootCfgLoad <| calLoad <| when (ite h.bootWarn h) flashRun) h
theorem refAbsent (h : d.StoresCanonical) : d.refAbsent.StoresCanonical := ite h.bootWait h
theorem mpl0Locks (h : d.StoresCanonical) : d.mpl0Locks.StoresCanonical := h.put.onTow
theorem mplLock (h : d.StoresCanonical) : d.mplLock.StoresCanonical := ite h.mpl0Locks.put.poll (when h put)
theorem mplLockTimeout {mpl1 : Bool} (h : d.StoresCanonical) : (d.mplLockTimeout mpl1).StoresCanonical :=
  ite (ite h.mpl0Locks.bootFail h.bootFail) h

theorem stepOpen (h : d.StoresCanonical) : (d.stepOpen q).StoresCanonical :=
  have h := h.onBoot.wrEnable
  ite h.writeHeld.wrEnable.wrEnable h.writeHeld

theorem blockOpen (h : d.StoresCanonical) : (d.blockOpen b).StoresCanonical := markDirty <| ite h.stepOpen h.wrEnable
theorem takeHeld (h : d.StoresCanonical) : (d.takeHeld q).StoresCanonical := ite h.writeHeld h
theorem blockShutdownDone (h : d.StoresCanonical) : (d.blockShutdownDone b).StoresCanonical := h.shutdownDone.takeHeld
theorem quietWarn (h : d.StoresCanonical) : (d.quietWarn w).StoresCanonical := when h bootWarn

theorem trainingMissed (h : d.StoresCanonical) : (d.trainingMissed n).StoresCanonical := by
  unfold Device.trainingMissed
  exact when h.trainingDeadline quietWarn

theorem stepSeven (h : d.StoresCanonical) : d.stepSeven.StoresCanonical := ite (ite (stepDone <| when h bootWarn) h) h
theorem stepEight (h : d.StoresCanonical) : d.stepEight.StoresCanonical :=
  ite h.stepDone.bootPhase.stepDone.put.put.put h

theorem realign {v : Option Nat} (h : d.StoresCanonical) : (d.realign v).StoresCanonical := by
  unfold Device.realign
  split
  · exact h.wrRealign
  · exact ite h.startAlign h

theorem followerNoMaster (h : d.StoresCanonical) : d.followerNoMaster.StoresCanonical := ite h.bootWait h
theorem towAlignedRow (h : d.StoresCanonical) : d.towAlignedRow.StoresCanonical := ite h.setAligned.stepEight h

theorem coarseDone (h : d.StoresCanonical) : d.coarseDone.StoresCanonical := by
  unfold Device.coarseDone
  extract_lets +onlyGivenNames d₁ d₂
  have h₁ : d₁.StoresCanonical := h.afterCoarse
  have h₂ : d₂.StoresCanonical := when h₁ put
  exact ite h₂.stepEight h₂

theorem keeperReboots (h : d.StoresCanonical) : (d.keeperReboots image).StoresCanonical :=
  ite (ite h.flashRun.bootPatch h.bootPatch) h.keeperBoots
theorem keeperResume (h : d.StoresCanonical) : (d.keeperResume image).StoresCanonical :=
  ite (poll <| fallForward <| keeperServes <| clientInit <| when (resetRef <| forEach (put <| keeperReboots <|
    update h) takeHeld) onTow) h
theorem continueCmd (h : d.StoresCanonical) : d.continueCmd.StoresCanonical :=
  keeperCommand h (fun h => ite h.onBoot.put.mbxStatus h.mbxStatus)

/-! ### Machine/Boundary.lean -/

theorem rewindFill (h : d.StoresCanonical) : (d.rewindFill e).StoresCanonical := by
  unfold Device.rewindFill
  split
  · exact h.onEngine
  · exact h

theorem jumpEngine (h : d.StoresCanonical) : (d.jumpEngine e).StoresCanonical := forEach h.setEngine rejectCmd
theorem jumpReject (h : d.StoresCanonical) : d.jumpReject.StoresCanonical :=
  forEach (update (setHcq <| forEach (forEach (forEach (update
    (forEach h rewindFill)) giveCredits) rejectCmd) jumpEngine)) rejectCmd

theorem rejudgeApply (h : d.StoresCanonical) : (d.rejudgeApply c).StoresCanonical := by
  unfold Device.rejudgeApply
  split
  · exact ite h.onCore (ite h.put.put.onCore h)
  · exact h

theorem rejudgeSwap (h : d.StoresCanonical) : (d.rejudgeSwap k).StoresCanonical := by
  unfold Device.rejudgeSwap
  split
  · exact ite h.setTwin.put.put h
  · exact h

theorem shiftStamps {j : Int} (h : d.StoresCanonical) : (d.shiftStamps j).StoresCanonical := h.onTow.onPtp
theorem jumpEffects (h : d.StoresCanonical) : (d.jumpEffects p).StoresCanonical :=
  reportAt <| event <| put <| shiftStamps <| update (applyRejudge <| forEach (forEach (forEach h.jumpReject alignDisarm)
    (fun h => h.cancelHop.rejudgeSwap)) rejudgeApply)

theorem boundary {n : Pound} {jump : Bool} (h : d.StoresCanonical) :
    (d.boundary n jump raw dith).StoresCanonical := by
  unfold Device.boundary
  extract_lets +onlyGivenNames p d₁ _ d₂ barges d₃ d₄ d₅ d₆
  have h₁ : d₁.StoresCanonical := h.sampleTwins.onTow
  have h₂ : d₂.StoresCanonical := wharvesDue <| update h₁
  have h₃ : d₃.StoresCanonical := ite h₂.jumpEffects h₂.commitAll
  have h₄ : d₄.StoresCanonical := decBoundary <| settleFences <| refreshBoundary <| update h₃
  have h₅ : d₅.StoresCanonical := forEach h₄.mbxBoundary coreBoundary
  have h₆ : d₆.StoresCanonical := h₅.outputsBoundary.wharvesBoundary.sendFrames
  exact h₆.tickOutBoundary.tickInBoundary.stepSeven

theorem mergeEvents {pages : List Nat} (h : d.StoresCanonical) : (d.mergeEvents pages).StoresCanonical :=
  forEach h pageEvent

theorem poundBoundary (h : d.StoresCanonical) : (d.poundBoundary raw dith merged).StoresCanonical := by
  unfold Device.poundBoundary
  refine ite ?_ h
  extract_lets +onlyGivenNames d₁
  have h₁ : d₁.StoresCanonical := h.mergeEvents.boundary
  refine ite ?_ h₁
  split
  · exact h₁.coarseDone
  · exact ite h₁ h₁.jumpRefused

theorem poundJump (h : d.StoresCanonical) : (d.poundJump raw dith merged).StoresCanonical := by
  unfold Device.poundJump
  refine ite ?_ h
  split
  · exact h.mergeEvents.boundary.coarseDone
  · exact h

/-! ### One command, and the step -/

theorem always {s : State} {f : Device → Device} (h : s.dev.StoresCanonical)
    (hf : ∀ {d}, d.StoresCanonical → (f d).StoresCanonical) : (s.always f).dev.StoresCanonical := hf h

theorem on {s : State} {f : Device → Device} (h : s.dev.StoresCanonical)
    (hf : ∀ {d}, d.StoresCanonical → (f d).StoresCanonical) : (s.on f).dev.StoresCanonical := by
  unfold State.on
  split
  · exact h
  · exact hf h

/-- Every command answers a next state, and its effect keeps the canonical form. -/
theorem exec {s : State} (i : Instr) (h : s.dev.StoresCanonical) :
    ∃ t, Machine.exec i s = .next t ∧ t.dev.StoresCanonical := by
  cases i with
  | powerOnReset => exact ⟨_, rfl, h.always fun _ => powerOnReset⟩
  | powerOnResetEnd => exact ⟨_, rfl, h.always powerOnEnd⟩
  | warmReset => exact ⟨_, rfl, h.always pinReset⟩
  | resetNRelease => exact ⟨_, rfl, h.always pinRelease⟩
  | brownout => exact ⟨_, rfl, h.always brownout⟩
  | brownoutRecovered => exact ⟨_, rfl, h.always brownoutOver⟩
  | railDip => exact ⟨_, rfl, h.always railDip⟩
  | overTemp => exact ⟨_, rfl, h.always overTemp⟩
  | thermalReset => exact ⟨_, rfl, h.always thermalReset⟩
  | thermalRelease => exact ⟨_, rfl, h.always thermalRelease⟩
  | pgLost => exact ⟨_, rfl, h.always fun h => h.pgLost.poll⟩
  | keeperWatchdogExpiry => exact ⟨_, rfl, h.on watchdogExpiry⟩
  | patchLoad => exact ⟨_, rfl, h.on patchLoad⟩
  | calibrationLoad => exact ⟨_, rfl, h.on calibrationLoad⟩
  | refAbsent => exact ⟨_, rfl, h.on refAbsent⟩
  | mplLock => exact ⟨_, rfl, h.on fun h => h.mplLock.landAfter⟩
  | mplLockTimeout => exact ⟨_, rfl, h.on fun h => h.mplLockTimeout.landAfter⟩
  | followerNoMaster => exact ⟨_, rfl, h.on followerNoMaster⟩
  | judgeWindow => exact ⟨_, rfl, h.on fun h => h.judgeSource.poll.landAfter⟩
  | stopDetect => exact ⟨_, rfl, h.on stopDetect⟩
  | refSwitch => exact ⟨_, rfl, h.on fun h => h.wrRefCtrl.markDirty⟩
  | mpl0Relock => exact ⟨_, rfl, h.on mpl0Relock⟩
  | mpl1Unlock => exact ⟨_, rfl, h.on mpl1Unlock⟩
  | domainSwitch => exact ⟨_, rfl, h.on fun h => h.wrDomCtrl.markDirty⟩
  | switchDone => exact ⟨_, rfl, h.on fun h => h.switchDone.poll⟩
  | switchForced => exact ⟨_, rfl, h.on fun h => h.switchForced.poll⟩
  | rampStep => exact ⟨_, rfl, h.on fun h => h.rampStep.poll⟩
  | domReset => exact ⟨_, rfl, h.on fun h => h.wrDomCtrl.markDirty⟩
  | blockClose => exact ⟨_, rfl, h.on blockClose⟩
  | gateBusAbort => exact ⟨_, rfl, h.on gateBusAbort⟩
  | blockShutdownDone => exact ⟨_, rfl, h.on blockShutdownDone⟩
  | blockOpen => exact ⟨_, rfl, h.on blockOpen⟩
  | blockOpenDone => exact ⟨_, rfl, h.on blockOpenDone⟩
  | opRequest => exact ⟨_, rfl, h.on fun h => h.wrOpCtrl.poll.markDirty⟩
  | pgBlankingEnd => exact ⟨_, rfl, h.always fun h => h.pgBlankingEnd.poll⟩
  | raiseFailed => exact ⟨_, rfl, h.on fun h => h.raiseFailed.poll⟩
  | auxDivUpdate => exact ⟨_, rfl, h.on auxDivUpdate⟩
  | auxSscUpdate => exact ⟨_, rfl, h.on auxSscUpdate⟩
  | poundBoundary => exact ⟨_, rfl, h.on poundBoundary⟩
  | lateReject => exact ⟨_, rfl, h.on lateReject⟩
  | hcqPush => exact ⟨_, rfl, h.on wrHcqWin⟩
  | hcqRelease => exact ⟨_, rfl, h.on hcqRelease⟩
  | flush => exact ⟨_, rfl, h.on fun h => h.wrHcqCtrl.markDirty⟩
  | ttRelease => exact ⟨_, rfl, h.on ttRelease⟩
  | ttEndWrite => exact ⟨_, rfl, h.on fun h => ifOpen h wrTtEnd⟩
  | kpqSubmit => exact ⟨_, rfl, h.on kpqSubmit⟩
  | kpqRelease => exact ⟨_, rfl, h.on kpqRelease⟩
  | refreshSubmit => exact ⟨_, rfl, h.on refreshSubmit⟩
  | nop => exact ⟨_, rfl, h.on engineStep⟩
  | setFreq => exact ⟨_, rfl, h.on engineStep⟩
  | setFreqPhase => exact ⟨_, rfl, h.on engineStep⟩
  | addPhase => exact ⟨_, rfl, h.on engineStep⟩
  | bind => exact ⟨_, rfl, h.on engineStep⟩
  | release => exact ⟨_, rfl, h.on engineStep⟩
  | emit => exact ⟨_, rfl, h.on engineStep⟩
  | prepHopTwin => exact ⟨_, rfl, h.on engineStep⟩
  | prepHopRetune => exact ⟨_, rfl, h.on engineStep⟩
  | prepHopPark => exact ⟨_, rfl, h.on engineStep⟩
  | fence => exact ⟨_, rfl, h.on takeFence⟩
  | fill => exact ⟨_, rfl, h.on fillStep⟩
  | steal => exact ⟨_, rfl, h.on steal⟩
  | fenceRelease => exact ⟨_, rfl, h.on fenceRelease⟩
  | fenceTimeout => exact ⟨_, rfl, h.on fenceTimeout⟩
  | engCntSnap => exact ⟨_, rfl, h.on wrCntCtrl⟩
  | cntSnapCapture => exact ⟨_, rfl, h.on snapCapture⟩
  | enginesReset => exact ⟨_, rfl, h.on wrEngReset⟩
  | enginesResetDone => exact ⟨_, rfl, h.on enginesResetDone⟩
  | hcqReset => exact ⟨_, rfl, h.on wrEngReset⟩
  | kpqReset => exact ⟨_, rfl, h.on wrEngReset⟩
  | coreLoad => exact ⟨_, rfl, h.on coreLoad⟩
  | loopApply => exact ⟨_, rfl, h.on wrLoopApply⟩
  | loopApplyTakeEffect => exact ⟨_, rfl, h.on loopApplyTake⟩
  | bandSearchDone => exact ⟨_, rfl, h.on bandSearchDone⟩
  | lockGained => exact ⟨_, rfl, h.on lockGained⟩
  | lockLost => exact ⟨_, rfl, h.on lockLost⟩
  | reacquireTimeout => exact ⟨_, rfl, h.on reacquireTimeout⟩
  | cycleSlip => exact ⟨_, rfl, h.on cycleSlip⟩
  | tuneEdge => exact ⟨_, rfl, h.on tuneEdge⟩
  | fcntStart => exact ⟨_, rfl, h.on wrFcntCfg⟩
  | fcntDone => exact ⟨_, rfl, h.on fcntDone⟩
  | phaseAdj => exact ⟨_, rfl, h.on wrPhaseAdj⟩
  | monitorAverage => exact ⟨_, rfl, h.on monitorAverage⟩
  | monitorHoldEnd => exact ⟨_, rfl, h.on monitorHoldEnd⟩
  | realigned => exact ⟨_, rfl, h.on realigned⟩
  | twinEnWrite => exact ⟨_, rfl, h.on fun h => h.wrTwinCtrl.markDirty⟩
  | hopBlankEnd => exact ⟨_, rfl, h.on hopBlankEnd⟩
  | retuneSlow => exact ⟨_, rfl, h.on retuneSlow⟩
  | hopReady => exact ⟨_, rfl, h.on hopReadyStep⟩
  | twinSwitch => exact ⟨_, rfl, h.on twinSwitch⟩
  | deferSwitch => exact ⟨_, rfl, h.on deferSwitch⟩
  | deferTimeout => exact ⟨_, rfl, h.on deferTimeout⟩
  | twinSwap => exact ⟨_, rfl, h.on wrTwinSwap⟩
  | outputSourceSelect => exact ⟨_, rfl, h.on fun h => h.wrOutputSel.markDirty⟩
  | outputSourceChange => exact ⟨_, rfl, h.on outputSourceChange⟩
  | delayWalk => exact ⟨_, rfl, h.on delayWalk⟩
  | delayWalkDone => exact ⟨_, rfl, h.on delayWalkDone⟩
  | dccLock => exact ⟨_, rfl, h.on dccLock⟩
  | alignArm => exact ⟨_, rfl, h.on wrAlignArm⟩
  | alignDisarm => exact ⟨_, rfl, h.on wrAlignDisarm⟩
  | alignStrobe => exact ⟨_, rfl, h.on alignStrobe⟩
  | alignStrobeEnd => exact ⟨_, rfl, h.on alignStrobeEnd⟩
  | berthIndirectRead => exact ⟨_, rfl, h.on fun h => ite h.access h⟩
  | berthIndirectWrite => exact ⟨_, rfl, h.on fun h => ite h.accessWrite h⟩
  | berthIndWriteCommit => exact ⟨_, rfl, h.on berthWriteCommit⟩
  | laneFrameReceive => exact ⟨_, rfl, h.on frameReceive⟩
  | deskewRelease => exact ⟨_, rfl, h.on deskewRelease⟩
  | decisionLookup => exact ⟨_, rfl, h.on decisionLookup⟩
  | listAccept => exact ⟨_, rfl, h.on listAccept⟩
  | deferredMove => exact ⟨_, rfl, h.on deferredMove⟩
  | actqRelease => exact ⟨_, rfl, h.on actqRelease⟩
  | windowAdvance => exact ⟨_, rfl, h.on windowAdvance⟩
  | decClear => exact ⟨_, rfl, h.on fun h => ifOpen h wrDecCtrl⟩
  | decClearDone => exact ⟨_, rfl, h.on decClearDone⟩
  | decFlush => exact ⟨_, rfl, h.on fun h => ifOpen h wrDecCtrl⟩
  | decUnitReset => exact ⟨_, rfl, h.on fun h => ifOpen h wrDecReset⟩
  | decLastEvtRead => exact ⟨_, rfl, h.on access⟩
  | realign => exact ⟨_, rfl, h.on realign⟩
  | poundJump => exact ⟨_, rfl, h.on poundJump⟩
  | towAligned => exact ⟨_, rfl, h.on towAlignedRow⟩
  | towLoadFallback => exact ⟨_, rfl, h.on loadFallback⟩
  | wharfDelayMeasurement => exact ⟨_, rfl, h.on delayMeasurement⟩
  | towWhfResolve => exact ⟨_, rfl, h.on wrResolve⟩
  | tickInEdge => exact ⟨_, rfl, h.on tickEdge⟩
  | tickInLost => exact ⟨_, rfl, h.on tickLost⟩
  | ppsInEdge => exact ⟨_, rfl, h.on ppsEdge⟩
  | ppsInLost => exact ⟨_, rfl, h.on ppsLost⟩
  | ppsOutPulse => exact ⟨_, rfl, h.on ppsOutPulse⟩
  | ppsOutEnd => exact ⟨_, rfl, h.on ppsOutEnd⟩
  | timeRxFrame => exact ⟨_, rfl, h.on timeRx⟩
  | ptpDelayReq => exact ⟨_, rfl, h.on delayReq⟩
  | ptpAnnounceTimeout => exact ⟨_, rfl, h.on announceTimeout⟩
  | timeLinkChange => exact ⟨_, rfl, h.on linkChange⟩
  | rxRelease => exact ⟨_, rfl, h.on fun h => ifOpen h wrRxRel⟩
  | timeTxSend => exact ⟨_, rfl, h.on fun h => ifOpen h wrTxCtrl⟩
  | timeTxDone => exact ⟨_, rfl, h.on txDone⟩
  | txtsRelease => exact ⟨_, rfl, h.on fun h => ifOpen h wrTxtsRel⟩
  | timeModeChange => exact ⟨_, rfl, h.on fun h => ifOpen h (fun h => h.wrTptCtrl.markDirty)⟩
  | laneEnable => exact ⟨_, rfl, h.on fun h => ifOpen h (fun h => h.wrLaneCtrl.markDirty)⟩
  | trainingStart => exact ⟨_, rfl, h.on trainingStart⟩
  | acquireDone => exact ⟨_, rfl, h.on acquireDone⟩
  | capsEnter => exact ⟨_, rfl, h.on capsEnter⟩
  | laneJoin => exact ⟨_, rfl, h.on laneJoin⟩
  | trainingDeadline => exact ⟨_, rfl, h.on trainingMissed⟩
  | quietBackoffEnd => exact ⟨_, rfl, h.on backoffEnd⟩
  | lossOfSignal => exact ⟨_, rfl, h.on lossOfSignal⟩
  | cdrLockLoss => exact ⟨_, rfl, h.on cdrLoss⟩
  | laneRetrain => exact ⟨_, rfl, h.on fun h => ifOpen h (fun h => h.wrLaneCtrl.markDirty)⟩
  | laneFailure => exact ⟨_, rfl, h.on laneFail⟩
  | laneShed => exact ⟨_, rfl, h.on fun h => ite h (atNext h shedLane)⟩
  | creditExchangeStart => exact ⟨_, rfl, h.on exchangeStart⟩
  | creditGrant => exact ⟨_, rfl, h.on creditGrant⟩
  | exchFail => exact ⟨_, rfl, h.on exchFail⟩
  | wharfDown => exact ⟨_, rfl, h.on fun h => ite (atNext h goDown) h⟩
  | wharfRetrain => exact ⟨_, rfl, h.on wrWhfCmd⟩
  | wharfReset => exact ⟨_, rfl, h.on wrWhfCmd⟩
  | powerStateRequest => exact ⟨_, rfl, h.on fun h => ifOpen h (fun h => h.wrWhfCfg.markDirty)⟩
  | standbyEnter => exact ⟨_, rfl, h.on standbyEnter⟩
  | standbyExit => exact ⟨_, rfl, h.on standbyExit⟩
  | deepEnter => exact ⟨_, rfl, h.on deepEnter⟩
  | deepExit => exact ⟨_, rfl, h.on deepExit⟩
  | calStart => exact ⟨_, rfl, h.on wrCalCmd⟩
  | calRunDone => exact ⟨_, rfl, h.on calRunDone⟩
  | calPreconditionFail => exact ⟨_, rfl, h.on calPrecondition⟩
  | calAbort => exact ⟨_, rfl, h.on wrCalCmd⟩
  | calDiscard => exact ⟨_, rfl, h.on wrCalCmd⟩
  | calApplyRequest => exact ⟨_, rfl, h.on wrCalApply⟩
  | calApply => exact ⟨_, rfl, h.on calApply⟩
  | calStore => exact ⟨_, rfl, h.on wrCalCmd⟩
  | calStoreDone => exact ⟨_, rfl, h.on calStoreDone⟩
  | hspWrite => exact ⟨_, rfl, h.on fun h => h.hspSelect.hspWrite⟩
  | hspRead => exact ⟨_, rfl, h.on fun h => h.hspSelect.hspRead⟩
  | hspStatus => exact ⟨_, rfl, h.on fun h => frameRow h hspStatus⟩
  | resetFormat => exact ⟨_, rfl, h.on fun h => frameRow h hspResetFormat⟩
  | hspReservedOpcode => exact ⟨_, rfl, h.on fun h => frameRow h hspReserved⟩
  | hspCut => exact ⟨_, rfl, h.on fun h => frameRow h hspCut⟩
  | nvsPush => exact ⟨_, rfl, h.on wrNvsPush⟩
  | nvsEntry => exact ⟨_, rfl, h.on nvsStart⟩
  | nvsEntryDone => exact ⟨_, rfl, h.on nvsEntryDone⟩
  | nvsPoll => exact ⟨_, rfl, h.on nvsPoll⟩
  | nvsPollTimeout => exact ⟨_, rfl, h.on nvsPollTimeout⟩
  | nvsResume => exact ⟨_, rfl, h.on fun h => h.wrNvsCtrl.markDirty⟩
  | nvsFlush => exact ⟨_, rfl, h.on fun h => h.wrNvsCtrl.markDirty⟩
  | hostOwn => exact ⟨_, rfl, h.on fun h => h.wrNvsCtrl.markDirty⟩
  | ownGranted => exact ⟨_, rfl, h.on ownGranted⟩
  | nvsRdataRead => exact ⟨_, rfl, h.on fun h => update h.readNvsRdata⟩
  | nvsWdataWrite => exact ⟨_, rfl, h.on wrNvsWdata⟩
  | registerWrite => exact ⟨_, rfl, h.on accessWrite⟩
  | rcRead => exact ⟨_, rfl, h.on access⟩
  | aliasWrite => exact ⟨_, rfl, h.on fun h => ite h.accessWrite h⟩
  | guardPairWrite => exact ⟨_, rfl, h.on fun h => ite h.accessWrite h⟩
  | guardTimeout =>
    refine ⟨_, rfl, h.on fun h => ?_⟩
    split
    · exact h.failPair
    · exact h
  | cfgUnlock => exact ⟨_, rfl, h.on accessWrite⟩
  | unlockExpiry => exact ⟨_, rfl, h.on put⟩
  | indirectAddrWrite => exact ⟨_, rfl, h.on accessWrite⟩
  | indirectDataWrite => exact ⟨_, rfl, h.on accessWrite⟩
  | indirectDataRead => exact ⟨_, rfl, h.on access⟩
  | xingTimeout => exact ⟨_, rfl, h.on xingTimeout⟩
  | cfgScan => exact ⟨_, rfl, h.on scanStart⟩
  | cfgScanDone => exact ⟨_, rfl, h.on scanDone⟩
  | commitRequest => exact ⟨_, rfl, h.on put⟩
  | cfgCrcRefWrite => exact ⟨_, rfl, h.on wrCrcRef⟩
  | coreSettings => exact ⟨_, rfl, h.on wrMbxReq⟩
  | corePhase => exact ⟨_, rfl, h.on wrMbxReq⟩
  | mbxCaptureDone => exact ⟨_, rfl, h.on mbxCaptureDone⟩
  | mbxCaptureTimeout => exact ⟨_, rfl, h.on mbxCaptureTimeout⟩
  | time => exact ⟨_, rfl, h.on wrMbxReq⟩
  | pps => exact ⟨_, rfl, h.on wrMbxReq⟩
  | parent => exact ⟨_, rfl, h.on wrMbxReq⟩
  | mbxUnknownObject => exact ⟨_, rfl, h.on fun h => ite h.wrMbxReq h⟩
  | version => exact ⟨_, rfl, h.on version⟩
  | continueStart => exact ⟨_, rfl, h.on continueCmd⟩
  | trainWharf => exact ⟨_, rfl, h.on keeperTrain⟩
  | emitWharf => exact ⟨_, rfl, h.on keeperEmitWharf⟩
  | ptpRestart => exact ⟨_, rfl, h.on ptpRestart⟩
  | faultReport => exact ⟨_, rfl, h.on faultReport⟩
  | fltClear => exact ⟨_, rfl, h.on wrFltClear⟩
  | clearAll => exact ⟨_, rfl, h.on fun h => h.wrFltCtrl.markDirty⟩
  | fltLogTailWrite => exact ⟨_, rfl, h.on wrLogTail⟩
  | keeperResume => exact ⟨_, rfl, h.on keeperResume⟩
  | domResetDone => exact ⟨_, rfl, h.on fun h => h.domResetDone.poll⟩
  | testmodeChange => exact ⟨_, rfl, h.always onBoot⟩
  | sensorUpdate => exact ⟨_, rfl, h.always sensorUpdate⟩

theorem step {s t : State} (h : s.dev.StoresCanonical) (e : Machine.step s = .next t) : t.dev.StoresCanonical := by
  unfold Machine.step at e
  split at e
  · cases e; exact h
  · next i rest _ =>
    obtain ⟨t', e', h'⟩ := exec (s := { s with pending := rest }) i h
    cases e'.symm.trans e
    exact h'

end Device.StoresCanonical

/-- Settles O7: each operation of the device keeps the canonical form, so each command does. -/
theorem storesCanonicalKept : Obligations.StoresCanonicalKept := by
  unfold Obligations.StoresCanonicalKept
  exact fun _ _ h e => h.step e

end Sys2Proof.Machine
end

section
/-! The state after reset. -/

namespace Sys2Proof.Machine

/-- At reset no register field is listed, so each reads its Reset value. -/
theorem State.get_reset (f : Fld) (i : Nat) : State.reset.dev.get f i = f.reset i := rfl

theorem State.countsBalance_reset : State.reset.dev.CountsBalance := by
  intro src
  fin_cases src <;> rfl

theorem State.leasesUnique_reset : State.reset.dev.LeasesUnique := List.nodup_nil

theorem State.storesCanonical_reset : State.reset.dev.StoresCanonical := ⟨rfl, rfl⟩

/-- Settles O4: the state after reset lists nothing, and the invariants hold of empty tables and zero counters. -/
theorem resetState : Obligations.ResetState := by
  unfold Obligations.ResetState
  exact ⟨rfl, rfl, rfl, State.get_reset, rfl, rfl, rfl, rfl, rfl, rfl, rfl, State.countsBalance_reset,
    State.leasesUnique_reset, State.storesCanonical_reset⟩

end Sys2Proof.Machine
end

section
/-! A bound Berth whose lease an executed command holds. -/

namespace Sys2Proof.Machine

/-- A running device in which Berth 5 is bound, an executed and uncommitted SET_FREQ of engine 0 holds its lease, and the indirect
address of page 0x030 is that of the Berth's word 7. -/
def State.boundBerthLeased : State :=
  let d : Device := { boot := { inReset := false, powerOn := false }, eng := { flights := [{
    eng := 0, berth := 5,
    cmd := { w1 := BitVec.ofNat 128 (2 ^ 124 + 5 * 2 ^ 103), w2 := 0, src := 0, seq := 1, t := 0, acc := 0 } }] } }
  { dev := (d.put F.INDIRECT_ADDR_ADDR 0x30 47).setCell 5 { entry := { Entry.fresh 5 0 with state := 1, binding := 0x40 } },
    pending := [] }

/-- The write of word 7 by the host is not refused: it waits for the lease. -/
theorem State.boundBerthLeased_write_waits :
    (State.boundBerthLeased.after (.berthIndirectWrite .host 0)).dev.ledger.waiting = some (5, [(7, 0)]) := by
  decide

/-- Refutes O45: its clause on the last word of a bound Berth leaves out the lease. While an executed command holds the Berth's lease
the model judges nothing yet, so the write waits (R172) and the ledger changes. -/
theorem not_registerAccess : ¬ Obligations.RegisterAccess := by
  unfold Obligations.RegisterAccess
  rintro ⟨-, -, -, -, -, -, -, -, -, -, -, -, -, -, -, -, -, -, -, -, -, -, -, -, -, -, -, -, -, bound, -⟩
  obtain ⟨t, answer, -, -, -, ledgerKept, -⟩ := bound State.boundBerthLeased .host 0 5 (by decide) (by decide) (by decide)
    (by decide) (by decide) (by decide) (by decide) (by decide) (by decide)
  have waits := State.boundBerthLeased_write_waits
  rw [State.after, answer] at waits
  change t.dev.ledger.waiting = _ at waits
  rw [ledgerKept] at waits
  exact absurd waits (by decide)

end Sys2Proof.Machine
end

section
/-! A steal whose choice of the command in the present slice is decided by its number of entry alone. -/

namespace Sys2Proof.Machine

/-- A host command for pound 5 with IMM set: an opcode and a Berth, no operand. -/
def Cmd.immediate (op berth : Nat) : Cmd :=
  { w1 := BitVec.ofNat 128 (op * 2 ^ 124 + 2 ^ 123 + berth * 2 ^ 103), src := 0, seq := 1, t := 5, acc := 0 }

/-- A running device with a STEAL of engine 0 to come. Berth 7 is leased to an executed command of engine 2. The slice of engine 1 holds a
NOP whose word names Berth 7 and two SET_FREQ of free Berths, all with the same number of entry. -/
def State.sharedEntry : State :=
  { dev := { boot := { inReset := false, powerOn := false }, eng := {
      engine := [(1, { slice := [.immediate 0 7, .immediate 1 2053, .immediate 1 2054], used := 1 })],
      flights := [{ eng := 2, cmd := .immediate 1 7, berth := 7 }] } },
    pending := [.steal 0 false] }

theorem State.sharedEntry_leasesUnique : State.sharedEntry.dev.LeasesUnique := by
  unfold Device.LeasesUnique
  decide

/-- The request is granted for a SET_FREQ; the command of the slice with that number of entry that comes first is the NOP. -/
theorem State.sharedEntry_steal :
    ∃ t, step State.sharedEntry = .next t ∧ t.dev.leaseHolders = [7, 7] :=
  ⟨_, rfl, by decide⟩

/-- Refutes O6: from a state in which commands share a number of entry, as commands that entered slices do not, a STEAL puts a NOP into
an engine's hand. Nothing has asked whether the lease of the Berth in its word is free, and the Berth then has two holders. -/
theorem not_leasesUniqueKept : ¬ Obligations.LeasesUniqueKept := by
  unfold Obligations.LeasesUniqueKept
  intro kept
  obtain ⟨t, answer, holders⟩ := State.sharedEntry_steal
  have unique := kept State.sharedEntry t State.sharedEntry_leasesUnique answer
  unfold Device.LeasesUnique at unique
  rw [holders] at unique
  exact absurd unique (by decide)

end Sys2Proof.Machine
end

section
/-! A Keeper that restarts during a calibration of a band map. -/

namespace Sys2Proof.Machine

/-- A running device whose Keeper runs and calibrates the band map of core 0, which is open, while twin 0 has a hop prepared. -/
def State.bandMapRunOnHoppingTwin : State :=
  let d : Device := { boot := { inReset := false, powerOn := false }, twins := [(0, { hop := some (300, 10, 5) })],
                      cal := { inForce := { base := .zero } } }
  { dev := (((d.put F.KPR_STAT_RUNNING 0 1).put F.CAL_STAT_BUSY 0 1).put F.CAL_STAT_KIND 0 3).put F.CLK_BLK_STAT_STATE 64 2,
    pending := [] }

/-- The run is aborted, so its core closes, which cancels the hop of its twin. -/
theorem State.bandMapRunOnHoppingTwin_watchdog :
    (State.bandMapRunOnHoppingTwin.after .keeperWatchdogExpiry).dev.twins = [] := by
  decide

/-- Refutes O13: its clause on the watchdog keeps the twins, but the restart aborts a band-map run (R297), the core of the run closes, and a
hop prepared on its twin is cancelled (R71) and reported. -/
theorem not_sensorsPinsAndKeeperWatchdog : ¬ Obligations.SensorsPinsAndKeeperWatchdog := by
  unfold Obligations.SensorsPinsAndKeeperWatchdog
  rintro ⟨-, -, -, -, -, -, watchdog⟩
  obtain ⟨t, answer, -, -, -, -, -, -, -, -, -, -, -, twinsKept, -⟩ :=
    watchdog State.bandMapRunOnHoppingTwin (by decide) (by decide)
  have cancelled := State.bandMapRunOnHoppingTwin_watchdog
  rw [State.after, answer] at cancelled
  change t.dev.twins = [] at cancelled
  exact absurd (twinsKept.symm.trans cancelled) (by decide)

end Sys2Proof.Machine
end

section
/-! A boundary that commits a hop of a twin there is not. -/

namespace Sys2Proof.Machine

/-- A running device whose Towpath runs, with one executed SET_FREQ whose act prepares a hop of twin 16370 for pound 1. The register of that
hop's pound, COUT_HOP_POUND of the index 16370, would lie where LDG_LOG_CFG lies. -/
def State.strayHop : State :=
  { dev := { boot := { inReset := false, powerOn := false }, tow := { running := true }, eng := { flights := [{
      eng := 0, cmd := .immediate 1 7, berth := 7, entry? := some (Entry.fresh 7 0),
      act := .hop 16370 1 { core := 0, kind := .hop, berth := 7, t := 0 } }] } },
    pending := [] }

/-- The commit sets LOG_MODE to 1 before the effect record is made, so the record is logged. -/
theorem State.strayHop_logged : (State.strayHop.after (.poundBoundary [] [])).dev.flt.log ≠ [] := by
  decide +kernel

/-- Refutes O60: its clause on the effect record bounds no twin in the act of the command. With LOG_MODE 0 the boundary is to log no applied
effect; a hop of a twin beyond the eighth writes its pound over LOG_MODE first. -/
theorem not_poundBoundary : ¬ Obligations.PoundBoundary := by
  unfold Obligations.PoundBoundary
  rintro ⟨-, -, -, -, -, -, logged, -⟩
  obtain ⟨t, answer, -, record⟩ := logged State.strayHop [] [] [] _ (Entry.fresh 7 0) (by decide) (by decide) (by decide) rfl
    (by decide) (by decide) rfl (by decide)
  have log := State.strayHop_logged
  rw [State.after, answer] at log
  change t.dev.flt.log ≠ [] at log
  rw [Device.Logged, if_pos (by decide)] at record
  obtain ⟨logKept, -, -⟩ := record
  exact log logKept

end Sys2Proof.Machine
end

section
/-! The balance of the command counts (R25). The counts stand in the engines' part of the device. Most operations leave that part
alone: their lemmas are stated for any property `P` of it, so that each also says, with `P := (· = d.eng)`, that the operation is
a frame for the engines. The operations on queues, slices and counts are stated for the balance. A lemma is named after the
operation, and proved by the operations this one is made of. -/

namespace Sys2Proof.Machine

/-! ### The changes of the counters -/

namespace Counts.Balanced

variable {c : Counts} {late : Bool} {queued : Nat}

theorem accept (h : c.Balanced) : c.accept.Balanced := by
  simp only [Counts.Balanced, Counts.accept] at *
  bv_omega

theorem acceptReject (h : c.Balanced) : (c.acceptReject late).Balanced := by
  simp only [Counts.Balanced, Counts.acceptReject] at *
  bv_omega

theorem acceptDiscard (h : c.Balanced) : c.acceptDiscard.Balanced := by
  simp only [Counts.Balanced, Counts.acceptDiscard] at *
  bv_omega

theorem apply (h : c.Balanced) : c.apply.Balanced := by
  simp only [Counts.Balanced, Counts.apply] at *
  bv_omega

theorem reject (h : c.Balanced) : (c.reject late).Balanced := by
  simp only [Counts.Balanced, Counts.reject] at *
  bv_omega

theorem discard (h : c.Balanced) : c.discard.Balanced := by
  simp only [Counts.Balanced, Counts.discard] at *
  bv_omega

/-- After a block reset the counts balance whatever they were (R193). -/
theorem engineReset : (c.engineReset queued).Balanced := by
  simp only [Counts.Balanced, Counts.engineReset]
  bv_omega

end Counts.Balanced

/-- The counts of every source balance (R25). -/
def Engines.Balanced (e : Engines) : Prop := ∀ src : Fin 4, (e.counts src).Balanced

theorem Engines.balanced_iff {e : Engines} :
    e.Balanced ↔ e.counts0.Balanced ∧ e.counts1.Balanced ∧ e.counts2.Balanced ∧ e.counts3.Balanced := by
  simp [Engines.Balanced, Fin.forall_fin_succ, Engines.counts]

/-- After the resets of the device every counter is zero. -/
theorem Engines.balanced_fresh {n : Nat} : ({ ttEpoch := n } : Engines).Balanced :=
  Engines.balanced_iff.mpr ⟨rfl, rfl, rfl, rfl⟩

theorem Engines.Balanced.setCounts {e : Engines} {src : Fin 4} {c : Counts} (h : e.Balanced) (hc : c.Balanced) :
    (e.setCounts src c).Balanced := by
  obtain ⟨h₀, h₁, h₂, h₃⟩ := Engines.balanced_iff.mp h
  rw [Engines.balanced_iff]
  fin_cases src
  · exact ⟨hc, h₁, h₂, h₃⟩
  · exact ⟨h₀, hc, h₂, h₃⟩
  · exact ⟨h₀, h₁, hc, h₃⟩
  · exact ⟨h₀, h₁, h₂, hc⟩

/-- The engines' part of the device has the property `P`. -/
def Device.EnginesHave (P : Engines → Prop) (d : Device) : Prop := P d.eng

/-- The counts of the device balance: `Device.CountsBalance` as a property of the engines' part. -/
abbrev Device.Balances (d : Device) : Prop := d.EnginesHave Engines.Balanced

namespace Device.EnginesHave

variable {P : Engines → Prop} {d : Device}
  {a b c dom e i id k n page q reporter s src st v w addr code kind slot rtt reading ofs p8 result : Nat}
  {cls m rail word sym base : Nat}
  {inBand crc int refresh back good late fresh : Bool} {theta ps : Int} {p : Pound} {up : Upset} {at' : PF}
  {cycles : List Byte} {image : Option (List Byte)} {cap : BitVec 112} {second : Option (BitVec 128)}
  {raw dith merged : List Nat} {gen : BitVec 16} {flash : Option FlashImages}

/-! ### The ways in which operations are put together -/

/-- A property of the engines' part is kept when every other part of the device is given a new value. -/
theorem update {fields : Store Nat} {ledger : Ledger} {epoch freeCtr bandEpoch : Nat} {boot : Boot} {clk : Clocks} {flt : FaultUnit}
    {cores : Store Core} {twins : Store Twin} {outputs : Store Output} {bandMap : Store Word} {loads : List Load}
    {dec : Decisions} {whf : Wharves} {tow : Tow} {tpt : Tpt} {cal : Cal} {hsp : Hsp} {nvs : Nvs} {bus : Bus} {mbx : Mailbox}
    {kpr : Keeper} (h : d.EnginesHave P) :
    Device.EnginesHave P {
      fields, ledger, epoch, freeCtr, boot, clk, flt, cores, twins, outputs, bandMap, bandEpoch, loads, eng := d.eng, dec,
      whf, tow, tpt, cal, hsp, nvs, bus, mbx, kpr } :=
  h

/-- The balance is one of the counters alone: the rest of the engines' part may be given new values too. -/
theorem updateEngines {epoch freeCtr bandEpoch : Nat} {boot : Boot} {clk : Clocks} {flt : FaultUnit}
    {fields : Store Nat} {ledger : Ledger} {cores : Store Core} {twins : Store Twin} {outputs : Store Output} {bandMap : Store Word}
    {loads : List Load} {dec : Decisions} {whf : Wharves} {tow : Tow} {tpt : Tpt} {cal : Cal} {hsp : Hsp} {nvs : Nvs} {bus : Bus}
    {mbx : Mailbox} {kpr : Keeper} {engine : Store Engine} {entered refresh refreshEach ttEpoch : Nat} {flights : List Flight}
    {grants : List (Nat × Nat)} {fillLast : Store Nat} {steals : List (Bool × Nat × Nat)} {turns : List Turn}
    {snapAsked snapDue hcqHighTripped ttLowTripped stalledThisPound : Bool} {hcq kpq : List Cmd}
    {hcqHeld : Option (BitVec 128)} {holds : Store FenceHold} {tt : Store (BitVec 128)} (h : d.Balances) :
    Device.Balances {
      fields, ledger, epoch, freeCtr, boot, clk, flt, cores, twins, outputs, bandMap, bandEpoch, loads, dec, whf, tow, tpt, cal,
      hsp, nvs, bus, mbx, kpr,
      eng := {
        engine, entered, refresh, refreshEach, flights, grants, fillLast, steals, turns, counts0 := d.eng.counts0,
        counts1 := d.eng.counts1, counts2 := d.eng.counts2, counts3 := d.eng.counts3, snapAsked, snapDue, hcq, hcqHeld,
        hcqHighTripped, kpq, holds, tt, ttEpoch, ttLowTripped, stalledThisPound } } :=
  h

theorem ite {x : Prop} [Decidable x] {d₁ d₂ : Device} (h₁ : d₁.EnginesHave P) (h₂ : d₂.EnginesHave P) :
    (if x then d₁ else d₂).EnginesHave P := by
  split
  · exact h₁
  · exact h₂

theorem forEach {α : Type} {l : List α} {f : α → Device → Device} (h : d.EnginesHave P)
    (hf : ∀ {x d}, d.EnginesHave P → (f x d).EnginesHave P) : (Machine.forEach l f d).EnginesHave P := by
  unfold Machine.forEach
  induction l generalizing d with
  | nil => exact h
  | cons x t ih => exact ih (hf h)

/-- What follows an accepted command keeps the property; nothing follows a rejected one. -/
theorem accepted {r : Option Cmd × Device} {f : Cmd → Device → Device} (h : r.2.EnginesHave P)
    (hf : ∀ {c d}, d.EnginesHave P → (f c d).EnginesHave P) :
    (match r with | (some c, d) => f c d | (none, d) => d).EnginesHave P := by
  obtain ⟨_ | c, d⟩ := r
  · exact h
  · exact hf h

/-! ### Machine/Ops.lean -/

theorem put {f : Fld} (h : d.EnginesHave P) : (d.put f i v).EnginesHave P := h

theorem putB {f : Fld} {b : Bool} (h : d.EnginesHave P) : (d.putB f i b).EnginesHave P := h.put
theorem bump {f : Fld} (h : d.EnginesHave P) : (d.bump f i n).EnginesHave P := h.put
theorem irqStat (h : d.EnginesHave P) : (d.irqStat page k).EnginesHave P := h.put
theorem eventBit {f : Fld} (h : d.EnginesHave P) : (d.eventBit f i b).EnginesHave P := h.put.irqStat
theorem event {f : Fld} (h : d.EnginesHave P) : (d.event f i).EnginesHave P := h.eventBit
theorem pageEvent {f : Fld} (h : d.EnginesHave P) : (d.pageEvent f page).EnginesHave P := h.put.put
theorem draw (h : d.EnginesHave P) : (d.draw kind).2.EnginesHave P := update h
theorem when {b : Bool} {f : Device → Device} (h : d.EnginesHave P)
    (hf : ∀ {d}, d.EnginesHave P → (f d).EnginesHave P) : (d.when b f).EnginesHave P := ite (hf h) h
theorem markDirty (h : d.EnginesHave P) : d.markDirty.EnginesHave P := when h (fun h => update h)
theorem reportAt {at? : Option Pound} (h : d.EnginesHave P) :
    (d.reportAt cls src code reporter at?).EnginesHave P := ite (update h) h.bump.event
theorem report (h : d.EnginesHave P) : (d.report cls src code reporter).EnginesHave P := h.reportAt
theorem resetRegs {l : List Reg} (h : d.EnginesHave P) : (d.resetRegs l).EnginesHave P := h

theorem mbxFinish {words : Option (List Word)} (h : d.EnginesHave P) :
    (d.mbxFinish result words).EnginesHave P := by
  unfold Device.mbxFinish
  extract_lets +onlyGivenNames d₁ d₂
  have h₁ : d₁.EnginesHave P := update h
  have h₂ : d₂.EnginesHave P := by
    unfold d₂
    split
    · exact put <| forEach h₁ put
    · exact h₁
  exact h₂.put.put.event

theorem ifOpen {f : Device → Device} (h : d.EnginesHave P)
    (hf : ∀ {d}, d.EnginesHave P → (f d).EnginesHave P) : (d.ifOpen page f).EnginesHave P := ite h (hf h)

/-! ### Machine/Faults.lean -/

theorem takeReport {r : Report} {f : BitVec 24} (h : d.EnginesHave P) :
    (d.takeReport r f).EnginesHave P := by
  unfold Device.takeReport
  extract_lets +onlyGivenNames st last
  split
  · exact update h
  · split
    · exact event <| put <| update h
    · exact h.bump.event

theorem faultReport {f : BitVec 24} (h : d.EnginesHave P) : (d.faultReport f).EnginesHave P := by
  unfold Device.faultReport
  split
  · exact takeReport <| update h
  · split
    · exact takeReport <| update h
    · exact h

theorem freeRecord (h : d.EnginesHave P) : (d.freeRecord k).EnginesHave P := by
  unfold Device.freeRecord
  split
  · exact update h
  · exact h

theorem wrFltClear (h : d.EnginesHave P) : (d.wrFltClear v).EnginesHave P :=
  have h := h.put
  ite h.freeRecord h

theorem freeAll (h : d.EnginesHave P) : d.freeAll.EnginesHave P := update h

theorem wrFltCtrl (h : d.EnginesHave P) : (d.wrFltCtrl v).EnginesHave P :=
  have h := h.put.put
  ite h.freeAll h

theorem stampHopMiss (h : d.EnginesHave P) : (d.stampHopMiss k p).EnginesHave P := by
  unfold Device.stampHopMiss
  refine ite (update h) ?_
  refine ite (update h) ?_
  split
  · exact update h
  · exact h

theorem logWeir {before : Nat} (h : d.EnginesHave P) : (d.logWeir before).EnginesHave P := when h event
theorem logRecord {rec : BitVec 128} (h : d.EnginesHave P) : (d.logRecord rec).EnginesHave P :=
  ite h.bump.event (logWeir <| put <| update h)
theorem wrLogTail (h : d.EnginesHave P) : (d.wrLogTail v).EnginesHave P := h.put.logWeir

/-! ### Machine/Cores.lean -/

theorem setCore {k : Core} (h : d.EnginesHave P) : (d.setCore c k).EnginesHave P := update h
theorem onCore {f : Core → Core} (h : d.EnginesHave P) : (d.onCore c f).EnginesHave P := h.setCore
theorem coreReport (h : d.EnginesHave P) : (d.coreReport c code).EnginesHave P := h.report
theorem setTwin {t : Twin} (h : d.EnginesHave P) : (d.setTwin k t).EnginesHave P := update h
theorem putBit {f : Fld} {v : Bool} (h : d.EnginesHave P) : (d.putBit f i b v).EnginesHave P := h.put
theorem standbyStops (h : d.EnginesHave P) : (d.standbyStops k).EnginesHave P := when h put
theorem onOutput {f : Output → Output} (h : d.EnginesHave P) : (d.onOutput n f).EnginesHave P := update h
theorem dccRetune {old : Settings} (h : d.EnginesHave P) : (d.dccRetune c old).EnginesHave P :=
  forEach h (fun h => when h put)
theorem putAligned {v : Bool} (h : d.EnginesHave P) : (d.putAligned c v).EnginesHave P := when h.putB putBit

theorem refreshAligned (h : d.EnginesHave P) : (d.refreshAligned c).EnginesHave P :=
  have h := h.putAligned
  ite (onCore <| when h eventBit) h

theorem startHold (h : d.EnginesHave P) : (d.startHold c).EnginesHave P := h.put.onCore
theorem track (h : d.EnginesHave P) : (d.track c).EnginesHave P :=
  ite (refreshAligned <| put <| when (when h.setCore bump) startHold) h.onCore.put.refreshAligned

theorem monitorSample (h : d.EnginesHave P) : (d.monitorSample c).EnginesHave P := by
  unfold Device.monitorSample
  split
  · exact h
  · extract_lets +onlyGivenNames d₁
    have h₁ : d₁.EnginesHave P := h.onCore
    refine ite ?_ h₁
    extract_lets +onlyGivenNames time d₂
    have h₂ : d₂.EnginesHave P := h₁.put
    exact ite h₂ h₂.onCore

theorem captureCore (h : d.EnginesHave P) : (d.captureCore c).EnginesHave P := by
  unfold Device.captureCore
  split
  · exact ite (update h) h
  · exact h

theorem endCore (h : d.EnginesHave P) : (d.endCore c).EnginesHave P := h.track.monitorSample.captureCore
theorem dropLock (h : d.EnginesHave P) : (d.dropLock c).EnginesHave P := h.put.putAligned.put.put.put.onCore
theorem acquire (h : d.EnginesHave P) : (d.acquire c st).EnginesHave P := h.put.onCore

theorem searchOrManual {s : Settings} (h : d.EnginesHave P) : (d.searchOrManual c s).EnginesHave P :=
  have h := h.dropLock.onCore.put
  ite h.put.put.put.acquire h.put.put.put

theorem presetLoad {p : Preset} (h : d.EnginesHave P) : (d.presetLoad c p).EnginesHave P :=
  have h := h.put.put.put.put.putAligned
  onCore <| ite h.acquire h

theorem setTrim {x : Int} (h : d.EnginesHave P) : (d.setTrim c x).EnginesHave P := h.put
theorem addTrim {s : Int} (h : d.EnginesHave P) : (d.addTrim c s).EnginesHave P := h.setTrim
theorem reduceTrim (h : d.EnginesHave P) : (d.reduceTrim c).EnginesHave P := h.addTrim
theorem newSettings {s : Settings} {start : Bool} (h : d.EnginesHave P) :
    (d.newSettings c s int start).EnginesHave P := h.onCore.putB.reduceTrim.dccRetune

theorem takeSettings {s : Settings} {int : Bool} {commit? : Option (Option Preset)} (h : d.EnginesHave P) :
    (d.takeSettings c s int commit? inBand).EnginesHave P := by
  unfold Device.takeSettings
  extract_lets +onlyGivenNames idle stays found d₁ d₂
  have h₁ : d₁.EnginesHave P := h.newSettings
  have h₂ : d₂.EnginesHave P := by
    unfold d₂
    generalize found = preset?
    split
    · exact h₁.presetLoad
    · exact ite h₁.onCore (ite h₁.put h₁.searchOrManual)
  exact when h₂ startHold

theorem loadFrame {l : Load} (h : d.EnginesHave P) : (d.loadFrame c l).EnginesHave P := h.onCore

/-- The definition is unfolded by an equation between functions: unfolded at its arguments, the kernel would evaluate the
settings that `Device.derived` computes to see which branch of the match is taken. -/
theorem boundLoad {l : Load} (h : d.EnginesHave P) : (d.boundLoad c l inBand).EnginesHave P := by
  have unfolded : Device.boundLoad = Device.boundLoad := rfl
  conv at unfolded => rhs; delta Device.boundLoad
  rw [unfolded]
  dsimp only
  generalize (d.derived c l.f).refusal = refusal?
  cases refusal? with
  | none => exact h.loadFrame.takeSettings
  | some _ => exact h.event.coreReport

theorem cancelApply (h : d.EnginesHave P) : (d.cancelApply c).EnginesHave P := ite h.put.put.onCore h
theorem recordBinding {berth : Nat} (h : d.EnginesHave P) : (d.recordBinding c berth).EnginesHave P :=
  h.cancelApply.put.put.onCore
theorem releaseCore (h : d.EnginesHave P) : (d.releaseCore c).EnginesHave P := h.put.onCore
theorem cancelHop (h : d.EnginesHave P) : (d.cancelHop k).EnginesHave P :=
  ite h.setTwin.putBit.putBit.onCore.standbyStops.eventBit.report h

theorem takeLoad {l : Load} (h : d.EnginesHave P) : (d.takeLoad c l inBand).EnginesHave P := by
  unfold Device.takeLoad
  extract_lets +onlyGivenNames ours
  split
  · exact h.recordBinding
  · exact ite h.releaseCore h
  · extract_lets +onlyGivenNames d₁
    have h₁ : d₁.EnginesHave P := h.recordBinding
    exact ite h₁ h₁.boundLoad
  · exact ite h h.boundLoad
  · exact ite h h.boundLoad
  · exact ite h (ite h.boundLoad h.loadFrame)
  · exact ite h h.loadFrame
  · exact ite h h.onCore
  · exact ite h (when h.boundLoad onCore)
  · exact ite h.eventBit.report (ite h h.boundLoad)

theorem coreLoad (h : d.EnginesHave P) : (d.coreLoad c inBand).EnginesHave P := by
  unfold Device.coreLoad
  refine ite h ?_
  split
  · exact h
  · extract_lets +onlyGivenNames d₁
    have h₁ : d₁.EnginesHave P := takeLoad <| update h
    exact ite h₁ h₁.endCore

theorem wrLoopApply (h : d.EnginesHave P) : (d.wrLoopApply c v).EnginesHave P := by
  unfold Device.wrLoopApply
  refine ite h ?_
  extract_lets +onlyGivenNames d₁
  have h₁ : d₁.EnginesHave P := h.put.put
  refine ite ?_ h₁
  extract_lets +onlyGivenNames p d₂
  have h₂ : d₂.EnginesHave P := when h₁ put
  split
  · exact h₂.put.put.onCore
  · exact h₂.put.put.onCore

theorem setFreeTarget (h : d.EnginesHave P) : (d.setFreeTarget c).EnginesHave P := ite h.onCore h.onCore

theorem loopApplyTake (h : d.EnginesHave P) : (d.loopApplyTake c inBand).EnginesHave P := by
  unfold Device.loopApplyTake
  refine ite ?_ h
  extract_lets +onlyGivenNames d₁ s
  have h₁ : d₁.EnginesHave P := h.onCore.put
  split
  · exact h₁.put.endCore
  · exact h₁.takeSettings.onCore.setFreeTarget.put.event.endCore

theorem wrPhaseAdj (h : d.EnginesHave P) : (d.wrPhaseAdj c v).EnginesHave P := by
  unfold Device.wrPhaseAdj
  refine ite h ?_
  extract_lets +onlyGivenNames d₁
  have h₁ : d₁.EnginesHave P := h.put
  exact ite (ite h₁.event h₁.put.onCore) h₁

theorem gainLock (h : d.EnginesHave P) : (d.gainLock c).EnginesHave P :=
  event <| put <| put <| put <| setCore <| update h
theorem lockGained {errs : List Nat} (h : d.EnginesHave P) : (d.lockGained c errs).EnginesHave P :=
  ite h.gainLock h
theorem loseLock (h : d.EnginesHave P) : (d.loseLock c).EnginesHave P :=
  h.dropLock.acquire.onCore.bump.event.coreReport
theorem lockLost {errs : List Nat} (h : d.EnginesHave P) : (d.lockLost c errs).EnginesHave P := ite h.loseLock h
theorem reacquireTimeout (h : d.EnginesHave P) : (d.reacquireTimeout c).EnginesHave P := ite h.searchOrManual h

theorem bandSearchDone {band fKhz : Nat} (h : d.EnginesHave P) :
    (d.bandSearchDone c band fKhz).EnginesHave P := by
  unfold Device.bandSearchDone
  refine ite ?_ h
  extract_lets +onlyGivenNames s goal d₁
  have h₁ : d₁.EnginesHave P := h.put.put.onCore
  exact ite h₁.put.event.coreReport h₁.acquire

theorem tuneEdge (h : d.EnginesHave P) : (d.tuneEdge c).EnginesHave P := ite h.put.event.coreReport h
theorem cycleSlip (h : d.EnginesHave P) : (d.cycleSlip c).EnginesHave P := ite h (when h.bump.event onCore)

theorem wrFcntCfg (h : d.EnginesHave P) : (d.wrFcntCfg c v).EnginesHave P := by
  unfold Device.wrFcntCfg
  refine ite h ?_
  extract_lets +onlyGivenNames d₁
  have h₁ : d₁.EnginesHave P := h.put
  exact ite h₁.put.put.onCore h₁

theorem fcntDone {count : Nat} (h : d.EnginesHave P) : (d.fcntDone c count).EnginesHave P := by
  unfold Device.fcntDone
  split
  · exact ite h.put.put.put.onCore h
  · exact h

theorem monitorAverage (h : d.EnginesHave P) : (d.monitorAverage c).EnginesHave P :=
  ite (refreshAligned <| when (when h.put.put.onCore (fun h => h.event.coreReport)) addTrim) h
theorem monitorHoldEnd (h : d.EnginesHave P) : (d.monitorHoldEnd c).EnginesHave P := ite h.put.refreshAligned h
theorem realigned (h : d.EnginesHave P) : (d.realigned c).EnginesHave P := ite h.onCore.addTrim.event h

theorem coreBoundary {dith raw : Nat} (h : d.EnginesHave P) :
    (d.coreBoundary c dith raw).EnginesHave P := by
  unfold Device.coreBoundary
  refine ite h ?_
  extract_lets +onlyGivenNames k newBw bwChanged opens gate hadAdj _ k d₁ d₂ d₃
  have h₁ : d₁.EnginesHave P := h.setCore
  have h₂ : d₂.EnginesHave P := when h₁ put
  have h₃ : d₃.EnginesHave P := when h₂ startHold
  exact ite h₃ h₃.endCore

/-! ### Machine/Twins.lean -/

theorem followSource (h : d.EnginesHave P) : (d.followSource n).EnginesHave P := onOutput <| when h put
theorem wrOutputSel (h : d.EnginesHave P) : (d.wrOutputSel n v).EnginesHave P := ite h.putBit h.put.onOutput

theorem outputSourceChange (h : d.EnginesHave P) : (d.outputSourceChange n).EnginesHave P := by
  unfold Device.outputSourceChange
  split
  · exact ite h.put.onOutput.followSource.put h
  · exact h

theorem refreshReady (h : d.EnginesHave P) : (d.refreshReady k).EnginesHave P := h.putBit
theorem endHop (h : d.EnginesHave P) : (d.endHop k).EnginesHave P := h.setTwin.putBit.putBit
theorem endSwap {r : Nat} (h : d.EnginesHave P) : (d.endSwap k r).EnginesHave P := h.setTwin.put.put
theorem switchTwin (h : d.EnginesHave P) : (d.switchTwin k).EnginesHave P :=
  forEach (refreshReady <| eventBit <| standbyStops <| onCore <| onCore <| putBit <| endHop <| when h endSwap)
    (fun h => when h followSource)
theorem abandonHop (h : d.EnginesHave P) : (d.abandonHop k).EnginesHave P :=
  endHop <| when h.onCore.standbyStops endSwap

theorem missHop {t : Pound} (h : d.EnginesHave P) : (d.missHop k t).EnginesHave P :=
  have h := h.reportAt.eventBit
  ite h.setTwin.putBit (ite h.switchTwin h.abandonHop)

theorem twinSwitch (h : d.EnginesHave P) : (d.twinSwitch k).EnginesHave P := by
  unfold Device.twinSwitch
  split
  · exact ite (ite h.switchTwin h.missHop) h
  · exact h

theorem deferSwitch (h : d.EnginesHave P) : (d.deferSwitch k).EnginesHave P := ite h.switchTwin.stampHopMiss h
theorem deferTimeout (h : d.EnginesHave P) : (d.deferTimeout k).EnginesHave P := ite h.abandonHop.stampHopMiss h
theorem hopReadyStep (h : d.EnginesHave P) : (d.hopReadyStep k).EnginesHave P := h.refreshReady
theorem wrTwinEnBit {v : Bool} (h : d.EnginesHave P) : (d.wrTwinEnBit k v).EnginesHave P :=
  ite h (ite h.eventBit (ite h.putBit.refreshReady (refreshReady <| endHop <| when h.putBit.putBit endSwap)))
theorem wrTwinCtrl (h : d.EnginesHave P) : (d.wrTwinCtrl v).EnginesHave P := forEach h wrTwinEnBit

theorem wrTwinSwap (h : d.EnginesHave P) : (d.wrTwinSwap v).EnginesHave P :=
  have h := h.put
  ite (ite h.put.put (put <| put <| setTwin <| forEach h (fun h => when h setTwin))) h

theorem hopBlankEnd (h : d.EnginesHave P) : (d.hopBlankEnd c).EnginesHave P := ite h.onCore h
theorem retuneSlow (h : d.EnginesHave P) : (d.retuneSlow c).EnginesHave P := ite h.onCore.eventBit.coreReport h

theorem wrOutputDelay (h : d.EnginesHave P) : (d.wrOutputDelay n v).EnginesHave P :=
  have h := h.put
  ite h.onOutput h.onOutput

theorem walkToTable (h : d.EnginesHave P) : (d.walkToTable n).EnginesHave P := h.onOutput.put
theorem delayWalk (h : d.EnginesHave P) : (d.delayWalk n).EnginesHave P := ite h.walkToTable h

theorem delayWalkDone (h : d.EnginesHave P) : (d.delayWalkDone n).EnginesHave P := by
  unfold Device.delayWalkDone
  split
  · exact ite h.put.put.onOutput h
  · exact h

theorem dccPark (h : d.EnginesHave P) : (d.dccPark n).EnginesHave P := when h put
theorem dccEnable (h : d.EnginesHave P) : (d.dccEnable n).EnginesHave P := when h put
theorem dccLock (h : d.EnginesHave P) : (d.dccLock n).EnginesHave P := ite h.put h
theorem alignArm (h : d.EnginesHave P) : (d.alignArm n).EnginesHave P := ite h.put.putBit h.onOutput.put.putBit
theorem alignEnd (h : d.EnginesHave P) : (d.alignEnd n).EnginesHave P := h.onOutput.put.putBit.putBit
theorem alignDisarm (h : d.EnginesHave P) : (d.alignDisarm n).EnginesHave P :=
  ite h.onOutput.putBit (ite h.alignEnd h)
theorem wrAlignArm (h : d.EnginesHave P) : (d.wrAlignArm v).EnginesHave P := forEach h (fun h => when h alignArm)
theorem wrAlignDisarm (h : d.EnginesHave P) : (d.wrAlignDisarm v).EnginesHave P :=
  forEach h (fun h => when h alignDisarm)

theorem alignStrobe (h : d.EnginesHave P) : (d.alignStrobe n).EnginesHave P := by
  unfold Device.alignStrobe
  extract_lets +onlyGivenNames o
  split
  · refine ite ?_ h
    extract_lets +onlyGivenNames d₁
    have h₁ : d₁.EnginesHave P := h.onOutput
    refine ite ?_ h₁.bump.put.onOutput
    extract_lets +onlyGivenNames d₂
    have h₂ : d₂.EnginesHave P := h₁.putBit
    exact ite h₂.alignEnd h₂
  · exact h

theorem strobeFall (h : d.EnginesHave P) : (d.strobeFall n).EnginesHave P := by
  unfold Device.strobeFall
  extract_lets +onlyGivenNames o d₁
  have h₁ : d₁.EnginesHave P := h.put.onOutput
  split
  · exact ite h₁.alignEnd h₁
  · exact h₁.alignEnd

theorem alignStrobeEnd (h : d.EnginesHave P) : (d.alignStrobeEnd n).EnginesHave P := ite h.strobeFall h
theorem sampleTwins (h : d.EnginesHave P) : d.sampleTwins.EnginesHave P := forEach h setTwin
theorem outputsBoundary (h : d.EnginesHave P) : d.outputsBoundary.EnginesHave P :=
  forEach (forEach h (fun h => refreshReady <| when h setTwin)) (fun h => h.onOutput.followSource.dccPark)

/-! ### Machine/Ledger.lean -/

theorem count {s : Fin 4} {f : Counts → Counts} (h : d.Balances) (hf : ∀ {c : Counts}, c.Balanced → (f c).Balanced) :
    (d.count s f).Balances :=
  Engines.Balanced.setCounts h (hf (h s))

theorem effect {c : Cmd} {code : Code} (h : d.EnginesHave P) : (d.effect c code gen).EnginesHave P :=
  when h logRecord
theorem rejectCmd {c : Cmd} {code : Code} (h : d.Balances) :
    (d.rejectCmd c code gen).Balances := effect <| h.count .reject

theorem discardCmd {c : Cmd} (h : d.Balances) : (d.discardCmd c).Balances := h.count .discard

theorem applyCmd {c : Cmd} (h : d.Balances) : (d.applyCmd c gen).Balances := effect <| h.count .apply

theorem accept {src : Fin 4} {w : BitVec 128} (h : d.Balances) :
    (d.accept src w second refresh).2.Balances := by
  unfold Device.accept
  extract_lets +onlyGivenNames p c
  split
  · exact effect <| h.count .acceptReject
  · exact h.count .accept

theorem setCell {c : Cell} (h : d.EnginesHave P) : (d.setCell id c).EnginesHave P := h

theorem noteErrors {c : Cell} (h : d.EnginesHave P) : (d.noteErrors id c).EnginesHave P :=
  when (when h (fun h => h.bump.event.put.putB.put)) (fun h => h.bump.event.put.putB.put.report)
theorem readBerth (h : d.EnginesHave P) : (d.readBerth id up).2.EnginesHave P := noteErrors (when h setCell)
theorem releaseBerth (h : d.EnginesHave P) : (d.releaseBerth id).EnginesHave P :=
  forEach h (fun h => when h releaseCore)
theorem cancelBerthHop (h : d.EnginesHave P) : (d.cancelBerthHop id).EnginesHave P :=
  forEach h (fun h => when h cancelHop)
theorem indRefused (h : d.EnginesHave P) : d.indRefused.EnginesHave P := h.event

theorem requestBerthWrite {words : Store Word} (h : d.EnginesHave P) :
    (d.requestBerthWrite id words).EnginesHave P := by
  unfold Device.requestBerthWrite
  extract_lets +onlyGivenNames _ d₁
  have h₁ : d₁.EnginesHave P := put <| update h
  refine ite h₁ ?_
  refine ite h.indRefused ?_
  split
  · exact h.indRefused.pageEvent
  · exact h₁

theorem berthWriteCommit (h : d.EnginesHave P) : d.berthWriteCommit.EnginesHave P := by
  unfold Device.berthWriteCommit
  split
  · exact h
  · refine ite h ?_
    extract_lets +onlyGivenNames _ d₁
    have h₁ : d₁.EnginesHave P := put <| update h
    refine ite h₁.indRefused ?_
    split
    · exact h₁.indRefused.pageEvent
    · exact when h₁.setCell releaseBerth

/-! ### Machine/Slots.lean -/

theorem onLane {f : Lane → Lane} (h : d.EnginesHave P) : (d.onLane n f).EnginesHave P := update h
theorem onWharf {f : Wharf → Wharf} (h : d.EnginesHave P) : (d.onWharf w f).EnginesHave P := update h
theorem takeCredit (h : d.EnginesHave P) : (d.takeCredit w).EnginesHave P := h.put
theorem giveCredits (h : d.EnginesHave P) : (d.giveCredits w n).EnginesHave P := h.put
theorem slotFailed (h : d.EnginesHave P) : (d.slotFailed w).EnginesHave P := when h onWharf
theorem countUndeliverable (h : d.EnginesHave P) : (d.countUndeliverable w).EnginesHave P := when h bump

/-! ### Machine/Engines.lean -/

theorem setEngine {x : Engine} (h : d.Balances) : (d.setEngine e x).Balances := update h
theorem onEngine {f : Engine → Engine} (h : d.Balances) : (d.onEngine e f).Balances := h.setEngine
theorem spend (h : d.Balances) : (d.spend e n).Balances := h.onEngine.bump
theorem passFence (h : d.EnginesHave P) : (d.passFence s n).EnginesHave P := h.putBit.put

theorem settleFences (h : d.EnginesHave P) : d.settleFences.EnginesHave P := by
  unfold Device.settleFences
  refine forEach h fun h₁ => ?_
  split
  · exact when h₁ passFence
  · exact h₁

theorem enterSlice {c : Cmd} (h : d.Balances) : (d.enterSlice e c).Balances := put <| updateEngines h.onEngine

theorem backToSlice {c : Cmd} (h : d.Balances) : (d.backToSlice c).Balances := h.onEngine
theorem grant {bank cycle : Nat} (h : d.Balances) : (d.grant bank cycle).Balances := update h
theorem voidBank (h : d.EnginesHave P) : (d.voidBank b).EnginesHave P := h.putBit.event.report
theorem queueUncorr (h : d.EnginesHave P) : (d.queueUncorr reporter).EnginesHave P := h.event.report
theorem dropWord {c : Cmd} (h : d.Balances) : (d.dropWord c up reporter).Balances :=
  settleFences <| queueUncorr <| h.count .discard

theorem creditUncorr (h : d.EnginesHave P) : (d.creditUncorr w).EnginesHave P := report <| put <| update h

theorem untake {x : Turn} (h : d.Balances) : (d.untake x).Balances := by
  unfold Device.untake
  split
  · exact h.onEngine
  · exact h

theorem atCycle {t : Nat} (h : d.Balances) : (d.atCycle t).Balances := forEach (update h) untake
theorem turn {took : Option Cmd} (h : d.Balances) : (d.turn e took).Balances := update h

theorem executeCmd {c : Cmd} (h : d.Balances) : (d.executeCmd e c up).Balances := by
  unfold Device.executeCmd
  extract_lets +onlyGivenNames id d₁
  have h₁ : d₁.Balances := by
    unfold d₁
    split
    · exact when h creditUncorr
    · exact h
  have h₂ : (d₁.readBerth id up).2.Balances := h₁.readBerth
  generalize d₁.readBerth id up = r at h₂
  obtain ⟨x, d₂⟩ := r
  dsimp only at h₂ ⊢
  split
  · refine rejectCmd <| bump <| spend ?_
    split
    · exact when h₂ countUndeliverable
    · exact h₂
  · exact h₂.spend.slotFailed.backToSlice
  · split
    · exact updateEngines h₂.spend.bump
    · split
      · exact h₂.spend.bump
      · exact updateEngines h₂.spend.bump.takeCredit

theorem startCmd {c : Cmd} (h : d.Balances) : (d.startCmd e i c up).Balances := by
  unfold Device.startCmd
  extract_lets +onlyGivenNames b used d₁ drop
  have h₁ : d₁.Balances := when h voidBank
  exact ite (ite h₁.turn.onEngine.spend.bump.rejectCmd h₁) (ite (ite h₁.turn.onEngine.grant.executeCmd h₁.turn.spend) h₁)

theorem runNop {c : Cmd} (h : d.Balances) : (d.runNop e i c).Balances :=
  ite h.turn.onEngine.spend.bump.applyCmd h

theorem missedTurn {want : BitVec 128 → Bool} (h : d.Balances) :
    (d.missedTurn e want).Balances := by
  unfold Device.missedTurn
  extract_lets +onlyGivenNames t
  split
  · exact ite h.turn.spend h
  · exact h

theorem engineStep {want : BitVec 128 → Bool} (h : d.Balances) :
    (d.engineStep e want up).Balances := by
  unfold Device.engineStep
  refine ite h ?_
  split
  · exact ite h.onEngine.dropWord (ite (settleFences <| executeCmd <| onEngine <| when h voidBank) h)
  · split
    · exact h.missedTurn
    · exact ite h (ite h.onEngine.dropWord (ite h.runNop.settleFences h.startCmd.settleFences))

theorem steal {ring : Bool} (h : d.Balances) : (d.steal e ring up).Balances := by
  unfold Device.steal
  extract_lets +onlyGivenNames used
  split
  · exact h
  · refine ite h ?_
    split
    · exact h.turn.spend
    · refine ite h.turn.spend.onEngine.dropWord ?_
      refine ite h.turn.spend.voidBank ?_
      extract_lets +onlyGivenNames _ d₁ d₂ d₃ d₄
      have h₁ : d₁.Balances := update h
      have h₂ : d₂.Balances := h₁.turn.grant
      have h₃ : d₃.Balances := h₂.onEngine
      have h₄ : d₄.Balances := h₃.onEngine.spend
      exact ite h₄.bump h₄.bump

theorem endFill {c : Cmd} (h : d.Balances) : (d.endFill e c).Balances :=
  have h := h.event.bump
  ite h.rejectCmd h.applyCmd

theorem fillOne {c : Cmd} (h : d.Balances) : (d.fillOne e i c).Balances := by
  unfold Device.fillOne
  extract_lets +onlyGivenNames id b cycle go
  refine ite ?_ (ite h.spend (updateEngines h.grant.spend.onEngine))
  extract_lets +onlyGivenNames c' d₁
  have h₁ : d₁.Balances := h.spend
  exact ite h₁.onEngine.endFill h₁.onEngine

theorem fillStep (h : d.Balances) : (d.fillStep e up).Balances := by
  unfold Device.fillStep
  split
  · exact h
  · exact ite h.onEngine.dropWord (settleFences <| fillOne <| when h voidBank)

theorem addLoads {l : List Load} (h : d.EnginesHave P) : (d.addLoads l).EnginesHave P := update h

theorem doAct {berth : Nat} {a : Act} (h : d.EnginesHave P) : (d.doAct berth a).EnginesHave P := by
  unfold Device.doAct
  split
  · exact h
  · exact h.addLoads
  · exact h.cancelHop.addLoads
  · exact h.setTwin.putBit.put.addLoads

theorem commit {f : Flight} (h : d.Balances) : (d.commit f).Balances := by
  unfold Device.commit
  extract_lets +onlyGivenNames d₁
  have h₁ : d₁.Balances := by
    unfold d₁
    split
    · exact h.setCell
    · exact h
  refine ite ?_ h₁.doAct.applyCmd
  extract_lets +onlyGivenNames d₂
  have h₂ : d₂.Balances := h₁.cancelBerthHop.releaseBerth
  split
  · exact ite h₂.onEngine.endFill (ite h₂.onEngine.endFill h₂)
  · exact h₂

theorem commitAll (h : d.Balances) : d.commitAll.Balances := update (forEach h commit)

/-! ### Machine/Sources.lean -/

theorem holdAt {c : Cmd} (h : d.Balances) : (d.holdAt s c).Balances := settleFences <| put <| update h
theorem endHold (h : d.Balances) : (d.endHold s).Balances := put <| update <| update h
theorem setHcq {q : List Cmd} (h : d.Balances) : (d.setHcq q).Balances :=
  when (when (update h) (fun h => event <| update h)) (fun h => event <| update h)
theorem ttWeir {before : Nat} (h : d.EnginesHave P) : (d.ttWeir before).EnginesHave P := when (when h event) event
theorem ttPastFence {w : FenceHold} (h : d.EnginesHave P) : (d.ttPastFence w).EnginesHave P :=
  ite h.put.bump.ttWeir h

theorem unhold {w : FenceHold} (h : d.Balances) : (d.unhold s w).Balances := by
  unfold Device.unhold
  extract_lets +onlyGivenNames d₁
  have h₁ : d₁.Balances := h.endHold
  split
  · exact h₁.setHcq
  · exact h₁.ttPastFence
  · exact updateEngines h₁
  · exact updateEngines h₁

theorem fenceRelease (h : d.Balances) : (d.fenceRelease s).Balances := by
  unfold Device.fenceRelease
  extract_lets +onlyGivenNames d₁
  have h₁ : d₁.Balances := h.settleFences
  split
  · exact ite h₁.unhold.applyCmd h₁
  · exact h₁

theorem fenceTimeout (h : d.Balances) : (d.fenceTimeout s).Balances := by
  unfold Device.fenceTimeout
  extract_lets +onlyGivenNames d₁
  have h₁ : d₁.Balances := h.settleFences
  split
  · exact h₁
  · exact ite h₁.unhold.applyCmd (ite h₁.unhold.passFence.rejectCmd.event.report h₁)

theorem dropHold (h : d.Balances) : (d.dropHold s).Balances := by
  unfold Device.dropHold
  split
  · exact h.endHold.passFence
  · exact h

theorem passAll {l : List Cmd} (h : d.EnginesHave P) : (d.passAll s l).EnginesHave P := forEach h passFence
theorem refusePush (h : d.Balances) : d.refusePush.Balances := event <| bump <| update h

theorem pushHost {w : BitVec 128} (h : d.Balances) : (d.pushHost w).Balances := by
  unfold Device.pushHost
  split
  · split
    · exact h.refusePush
    · extract_lets +onlyGivenNames _ d₁
      have h₁ : d₁.Balances := update h
      exact accepted (accept h₁) setHcq
  · split
    · exact update h
    · split
      · exact h.refusePush
      · exact accepted h.accept setHcq

theorem wrHcqWin (h : d.Balances) : (d.wrHcqWin i v).Balances :=
  have h := h.put
  ite h.pushHost h

theorem releaseHead {l : List Cmd} (h : d.Balances) : (Device.releaseHead p n l d).2.2.Balances := by
  induction n, l, d using Device.releaseHead.induct (p := p) with
  | case1 => simpa only [Device.releaseHead] using h
  | case2 => simpa only [Device.releaseHead] using h
  | case3 n c t d stop => simpa only [Device.releaseHead, if_pos stop] using h
  | case4 n c t d go full => simpa only [Device.releaseHead, if_neg go, if_pos full] using h
  | case5 n c t d go room ih => simpa only [Device.releaseHead, if_neg go, if_neg room] using ih h.enterSlice

theorem dropHead {c : Cmd} (h : d.Balances) : (d.dropHead s c up).Balances := h.dropWord

theorem hcqRelease (h : d.Balances) : (d.hcqRelease up).Balances := by
  unfold Device.hcqRelease
  refine ite h ?_
  split
  next => exact h
  next c t _ =>
    refine ite h.setHcq.dropHead ?_
    have h₁ : (Device.releaseHead d.tow.pound 8 (c :: t) d).2.2.Balances := h.releaseHead
    generalize Device.releaseHead d.tow.pound 8 (c :: t) d = r at h₁
    obtain ⟨q, full, d₁⟩ := r
    exact when h₁.setHcq event

theorem flushHcq (h : d.Balances) : d.flushHcq.Balances := by
  unfold Device.flushHcq
  extract_lets +onlyGivenNames q d₁ d₂
  have h₁ : d₁.Balances := h.dropHold.passAll.setHcq
  have h₂ : d₂.Balances := forEach h₁ rejectCmd
  split
  · exact effect <| count (updateEngines h₂) .acceptReject
  · exact h₂

theorem wrHcqCtrl (h : d.Balances) : (d.wrHcqCtrl v).Balances :=
  have h := h.put.put
  ite h.flushHcq h

theorem wrTtEnd (h : d.EnginesHave P) : (d.wrTtEnd v).EnginesHave P := h.put.ttWeir
theorem wrTtHead (h : d.EnginesHave P) : (d.wrTtHead v).EnginesHave P := ite h h.put.ttWeir

theorem ttTake {w : BitVec 128} (h : d.Balances) : (d.ttTake w late).Balances := by
  unfold Device.ttTake
  extract_lets +onlyGivenNames head second pass order d₁
  have pass_balances : ∀ {d}, d.Balances → (pass d).Balances := fun h => h.put.bump.ttWeir
  have h₁ : d₁.Balances := when h event
  have h₂ := h₁.accept (src := 1) (w := w) (second := second) (refresh := false)
  split <;> rename_i e <;> rw [e] at h₂
  · exact pass_balances h₂
  · exact ite h₂.holdAt (pass_balances h₂).enterSlice

theorem ttStall (h : d.Balances) : d.ttStall.Balances :=
  have h := h.put.event.event
  ite h (bump <| update h)

theorem ttExamine {fuel : Nat} (h : d.Balances) : (Device.ttExamine fuel n d).Balances := by
  induction fuel generalizing n d with
  | zero => exact h
  | succ fuel ih =>
    unfold Device.ttExamine
    extract_lets +onlyGivenNames w words
    split
    · exact h
    · split
      · exact h
      · exact h.ttStall
      · exact ih h.ttTake

theorem ttRelease (h : d.Balances) : (d.ttRelease up).Balances := by
  unfold Device.ttRelease
  refine ite h ?_
  extract_lets +onlyGivenNames d₁
  have h₁ : d₁.Balances := h.put
  exact ite (queueUncorr <| h₁.put.ttWeir.count .acceptDiscard) h₁.ttExamine

theorem submitKeeper {w : BitVec 128} (h : d.Balances) : (d.submitKeeper w second refresh).Balances :=
  accepted h.accept fun h => update h
theorem refreshBoundary (h : d.Balances) : d.refreshBoundary.Balances := ite (update h) (update h)
theorem refreshSubmit (h : d.Balances) : d.refreshSubmit.Balances :=
  ite (bump <| put <| submitKeeper <| update h) h
theorem emitWharfDone (h : d.EnginesHave P) : d.emitWharfDone.EnginesHave P := ite h.mbxFinish h

theorem keeperEmit (h : d.Balances) : d.keeperEmit.Balances := by
  unfold Device.keeperEmit
  split
  · exact h
  · refine ite ?_ h
    extract_lets +onlyGivenNames c _ d₁ ok d₂
    have h₁ : d₁.Balances := noteErrors <| update h
    have h₂ : d₂.Balances := ite h₁.submitKeeper h₁
    exact ite h₂ (emitWharfDone <| update h₂)

theorem kpqSubmit {k : KeeperSubmit} (h : d.Balances) : (d.kpqSubmit k).Balances := by
  unfold Device.kpqSubmit
  refine ite h ?_
  split
  · exact ite h.submitKeeper h
  · exact h.keeperEmit

theorem kpqRelease (h : d.Balances) : (d.kpqRelease up).Balances := by
  unfold Device.kpqRelease
  refine ite h ?_
  split
  next => exact h
  next c t _ =>
    refine ite (dropHead <| update h) ?_
    have h₁ : (Device.releaseHead d.tow.pound 2 (c :: t) d).2.2.Balances := h.releaseHead
    generalize Device.releaseHead d.tow.pound 2 (c :: t) d = r at h₁
    obtain ⟨q, full, d₁⟩ := r
    exact when (update h₁) event

theorem takeFence (h : d.Balances) : (d.takeFence s).Balances := by
  unfold Device.takeFence
  refine ite h ?_
  extract_lets +onlyGivenNames head
  have head_balances : ∀ q, (head q).Balances := fun q => by
    unfold head
    split
    · exact ite h.holdAt h
    · exact h
  refine ite (head_balances _) (ite (head_balances _) (ite (head_balances _) (ite ?_ h)))
  refine ite ?_ h
  split
  · exact h.ttTake
  · exact h

theorem lateEngine (h : d.Balances) : (d.lateEngine e).Balances := forEach h.setEngine rejectCmd
theorem lateReject (h : d.Balances) : d.lateReject.Balances := by
  have h₁ : (Machine.forEach (List.range 64) (fun e d => d.lateEngine e) d).Balances := forEach h lateEngine
  unfold Device.lateReject
  dsimp only
  generalize Machine.forEach (List.range 64) (fun e d => d.lateEngine e) d = d₁ at h₁ ⊢
  exact settleFences <| forEach (updateEngines h₁.setHcq) rejectCmd

theorem wrCntCtrl (h : d.Balances) : (d.wrCntCtrl v).Balances :=
  have h := h.put
  ite (put <| put <| update h) h

theorem snapOne {s : Fin 4} (h : d.EnginesHave P) : (d.snapOne s).EnginesHave P := h.put.put.put.put.put.put
theorem snapCapture (h : d.Balances) : d.snapCapture.Balances := by
  unfold Device.snapCapture
  refine ite ?_ h
  extract_lets +onlyGivenNames d₁
  have h₁ : d₁.Balances := put <| put <| forEach h snapOne
  exact updateEngines h₁

/-- Whatever the counts were. -/
theorem resetEngines : d.resetEngines.Balances := by
  unfold Device.resetEngines
  extract_lets +onlyGivenNames cmds flown barges d₁ d₂ _ d₃ d₄ d₅
  have h₃ : d₃.Balances := Engines.balanced_iff (e := d₃.eng) |>.mpr
    ⟨.engineReset, .engineReset, .engineReset, .engineReset⟩
  have h₅ : d₅.Balances := forEach h₃.put (fun h => h.put.put.put.put)
  exact h₅.settleFences

theorem resetHcq (h : d.Balances) : d.resetHcq.Balances := by
  unfold Device.resetHcq
  refine event ?_
  split
  · exact count (updateEngines <| forEach h.dropHold.passAll.setHcq discardCmd) .acceptDiscard
  · exact forEach h.dropHold.passAll.setHcq discardCmd

theorem resetKpq (h : d.Balances) : d.resetKpq.Balances :=
  event <| forEach (update h.dropHold.passAll) discardCmd

theorem wrEngReset (h : d.Balances) : (d.wrEngReset v).Balances := by
  unfold Device.wrEngReset
  extract_lets +onlyGivenNames d₁ d₂
  have h₁ : d₁.Balances := ite (put resetEngines) h
  have h₂ : d₂.Balances := ite h₁.resetHcq h₁
  exact ite h₂.resetKpq h₂

theorem enginesResetDone (h : d.EnginesHave P) : d.enginesResetDone.EnginesHave P := ite h.put.event h

/-! ### Machine/Decisions.lean -/

theorem onDec {f : Decisions → Decisions} (h : d.EnginesHave P) : (d.onDec f).EnginesHave P := update h
theorem decCount {r : Nat} (h : d.EnginesHave P) : (d.decCount r).EnginesHave P := h.bump

theorem captureDiscard {e : DecEvent} {reason : Nat} (h : d.EnginesHave P) :
    (d.captureDiscard e reason).EnginesHave P :=
  ite h (event <| forEach h.onDec.put.put.put.put.put.put (fun h => when h irqStat))

theorem discardEvent {e : DecEvent} {reason : Nat} (h : d.EnginesHave P) :
    (d.discardEvent e reason).EnginesHave P :=
  when (when (when h.decCount.captureDiscard event) event) (fun h => h.event.report)

theorem deliverEvent {slot : BitVec 112} {wharf lane place : Nat} (h : d.EnginesHave P) :
    (d.deliverEvent slot wharf lane place).EnginesHave P :=
  have h := h.decCount
  ite h.discardEvent h.onDec

theorem windowAdvance (h : d.EnginesHave P) : (d.windowAdvance w).EnginesHave P := ite h.onDec h
theorem windowsBoundary (h : d.EnginesHave P) : d.windowsBoundary.EnginesHave P := h.onDec
theorem checkSeq {e : DecEvent} (h : d.EnginesHave P) : (d.checkSeq s e).EnginesHave P :=
  onDec <| when h (fun h => h.decCount.event)

theorem decideMatch {e : DecEvent} (h : d.EnginesHave P) : (d.decideMatch e m).EnginesHave P := by
  unfold Device.decideMatch
  split
  · exact h.discardEvent
  · exact ite h.discardEvent (ite h.discardEvent h.onDec)

theorem judgeWindow {e : DecEvent} (h : d.EnginesHave P) : (d.judgeWindow e s m).EnginesHave P := by
  unfold Device.judgeWindow
  extract_lets +onlyGivenNames age maxAge
  refine ite h.discardEvent ?_
  refine ite h.discardEvent ?_
  split
  · exact h.discardEvent
  · exact ite h.discardEvent h.onDec.decideMatch

theorem lookupEvent {e : DecEvent} {up : Option Nat} (h : d.EnginesHave P) :
    (d.lookupEvent e up).EnginesHave P :=
  ite h.discardEvent (ite h.discardEvent (ite h.discardEvent (ite h.discardEvent h.checkSeq.judgeWindow)))

theorem decisionLookup {up : Option Nat} (h : d.EnginesHave P) : (d.decisionLookup up).EnginesHave P := by
  unfold Device.decisionLookup
  split
  · exact h
  · exact h.onDec.lookupEvent

theorem acceptItem {x : ListItem} (h : d.Balances) : (d.acceptItem x).Balances := by
  unfold Device.acceptItem
  split
  · dsimp only
    split
    · exact effect <| count (update h) .acceptReject
    · exact effect <| h.count .acceptReject
  · have h₁ : (d.accept 2 x.w1 x.second false).2.Balances := h.accept
    split <;> rename_i e <;> rw [e] at h₁
    · exact h₁
    · exact ite h₁.onDec h₁.onDec

theorem listAccept {bad : BitVec 64} (h : d.Balances) : (d.listAccept bad).Balances := by
  unfold Device.listAccept
  split
  · exact h
  · extract_lets +onlyGivenNames d₁ l now
    have h₁ : d₁.Balances := h.onDec
    exact ite h₁.discardEvent (forEach h₁.decCount acceptItem)

theorem deferredMove (h : d.Balances) : (d.deferredMove up).Balances := by
  unfold Device.deferredMove
  refine ite h ?_
  split
  · exact h
  · exact ite h.onDec.dropHead (ite h.onDec h)

theorem actqRelease (h : d.Balances) : (d.actqRelease up).Balances := by
  unfold Device.actqRelease
  refine ite h ?_
  split
  next => exact h.put
  next c t _ =>
    refine ite h.onDec.dropHead ?_
    have h₁ : (Device.releaseHead d.tow.pound 32 (c :: t) d).2.2.Balances := h.releaseHead
    generalize Device.releaseHead d.tow.pound 32 (c :: t) d = r at h₁
    obtain ⟨q, full, d₁⟩ := r
    exact when h₁.onDec.putB event

theorem decBoundary (h : d.EnginesHave P) : d.decBoundary.EnginesHave P := h.windowsBoundary.onDec
theorem dropEvents (h : d.EnginesHave P) : d.dropEvents.EnginesHave P := forEach h.onDec discardEvent
theorem rejectActions {code : Code} (h : d.Balances) : (d.rejectActions code).Balances :=
  forEach h.dropHold.passAll.onDec rejectCmd
theorem acceptDue (h : d.Balances) : d.acceptDue.Balances := forEach h listAccept

theorem wrDecCtrl (h : d.Balances) : (d.wrDecCtrl v).Balances := by
  unfold Device.wrDecCtrl
  extract_lets +onlyGivenNames d₁ d₂
  have h₁ : d₁.Balances := h.put
  have h₂ : d₂.Balances := ite h₁.put h₁
  exact ite h₂.acceptDue.rejectActions.event h₂

theorem decClearDone (h : d.EnginesHave P) : d.decClearDone.EnginesHave P := ite h.onDec.put.event h
theorem wrDecReset (h : d.Balances) : (d.wrDecReset v).Balances :=
  ite (event <| forEach h.dropEvents.dropHold.passAll.onDec discardCmd) h
theorem decClose (h : d.Balances) : d.decClose.Balances := h.dropEvents.rejectActions

theorem readLastEvt3 (h : d.EnginesHave P) : d.readLastEvt3.2.EnginesHave P := by
  unfold Device.readLastEvt3
  split
  · exact h
  · exact h.onDec

/-! ### Machine/Towpath.lean -/

theorem onTow {f : Tow → Tow} (h : d.EnginesHave P) : (d.onTow f).EnginesHave P := update h
theorem onTowWharf {f : TowWharf → TowWharf} (h : d.EnginesHave P) : (d.onTowWharf w f).EnginesHave P := h.onTow
theorem towReport (h : d.EnginesHave P) : (d.towReport src code reporter).EnginesHave P := h.report

theorem servoStep (h : d.EnginesHave P) : (d.servoStep theta).2.EnginesHave P := by
  unfold Device.servoStep
  split
  · exact update h
  · exact h

theorem servo (h : d.EnginesHave P) : (d.servo theta).EnginesHave P := ite h h.servoStep.put.onTow

theorem enterHoldover {cause : HoldCause} (h : d.EnginesHave P) :
    (d.enterHoldover cause).EnginesHave P := by
  unfold Device.enterHoldover
  refine ite h.onTow ?_
  extract_lets +onlyGivenNames d₁ last d₂
  have h₁ : d₁.EnginesHave P := h.onTow
  have h₂ : d₂.EnginesHave P := ite h₁ h₁.put
  exact h₂.put.event.event.towReport

theorem leaveHoldover (h : d.EnginesHave P) : d.leaveHoldover.EnginesHave P := ite h.onTow.put.event h
theorem sourceLost (h : d.EnginesHave P) : d.sourceLost.EnginesHave P :=
  ite h (ite h.onTow.put.event.towReport h.enterHoldover)
theorem towLoop (h : d.EnginesHave P) : d.towLoop.EnginesHave P := ite h.event.towReport.enterHoldover h
theorem startAlign {startUp : Bool} (h : d.EnginesHave P) : (d.startAlign startUp).EnginesHave P :=
  put <| put <| put <| onTow <| when h onTow

theorem wrRealign (h : d.EnginesHave P) : (d.wrRealign v).EnginesHave P :=
  have h := h.put
  ite h.startAlign h

theorem setAligned (h : d.EnginesHave P) : d.setAligned.EnginesHave P :=
  h.onTow.leaveHoldover.put.put.put.event.event

theorem afterCoarse (h : d.EnginesHave P) : d.afterCoarse.EnginesHave P :=
  have h := h.onTow
  ite h.setAligned h

theorem jumpRefused (h : d.EnginesHave P) : d.jumpRefused.EnginesHave P := h.onTow.put.put.enterHoldover
theorem loadFallback (h : d.EnginesHave P) : d.loadFallback.EnginesHave P := ite h.onTow.towReport h
theorem fineMeasure (h : d.EnginesHave P) : (d.fineMeasure theta).EnginesHave P :=
  ite h (servo <| onTow <| when h leaveHoldover)
theorem trackMeasure (h : d.EnginesHave P) : (d.trackMeasure theta).EnginesHave P :=
  ite (ite h (ite h.put h.leaveHoldover.onTow.servo)) h.onTow.servo

theorem towMeasure {full : Int} (h : d.EnginesHave P) : (d.towMeasure theta full).EnginesHave P := by
  unfold Device.towMeasure
  extract_lets +onlyGivenNames d₁
  have h₁ : d₁.EnginesHave P := h.put.onTow
  refine ite h₁ ?_
  split
  · exact h₁
  · exact h₁.fineMeasure
  · exact ite h₁.trackMeasure h₁

theorem noteArrival (h : d.EnginesHave P) : (d.noteArrival w p8 ps).EnginesHave P := ite h.onTowWharf h.onTowWharf

theorem takeReport' {slot : BitVec 112} (h : d.EnginesHave P) :
    (d.takeReport' w slot p8 ps).EnginesHave P := by
  unfold Device.takeReport'
  extract_lets +onlyGivenNames x reaches a b d₁ d₂ d₃ far d₄ hi d₅
  have h₁ : d₁.EnginesHave P := h.put.put.put
  have h₂ : d₂.EnginesHave P := h₁.put.put
  have h₃ : d₃.EnginesHave P := ite h₂ h₂.onTowWharf
  have h₄ : d₄.EnginesHave P := h₃.onTowWharf
  have h₅ : d₅.EnginesHave P := when h₄ (fun h => h.event.towReport)
  exact ite (ite h₅.towLoop (when h₅ sourceLost)) h₅

theorem skewCheck (h : d.EnginesHave P) : (d.skewCheck w theta).EnginesHave P :=
  ite h.onTowWharf.put (when h (fun h => h.put.event.towReport))

theorem applyAction (h : d.EnginesHave P) : (d.applyAction w rtt).EnginesHave P :=
  have h := h.onTowWharf
  ite h.put (ite h h.put.put.put)

theorem judgeRtt (h : d.EnginesHave P) : (d.judgeRtt w rtt).EnginesHave P := by
  unfold Device.judgeRtt
  extract_lets +onlyGivenNames w lim near
  refine ite h.put.onTowWharf ?_
  split
  · refine ite ?_ h.onTowWharf
    extract_lets +onlyGivenNames n d₁
    have h₁ : d₁.EnginesHave P := h.onTowWharf
    exact ite h₁.put.put.onTowWharf.event h₁
  · refine ite h.put ?_
    extract_lets +onlyGivenNames d₂ d₃
    have h₂ : d₂.EnginesHave P := h.put.onTowWharf.bump.event
    have h₃ : d₃.EnginesHave P := h₂.towReport
    exact ite h₃.sourceLost h₃

theorem delayMeasurement (h : d.EnginesHave P) : (d.delayMeasurement w).EnginesHave P := by
  unfold Device.delayMeasurement
  extract_lets +onlyGivenNames w len
  refine ite h ?_
  extract_lets +onlyGivenNames d₁ mine
  have h₁ : d₁.EnginesHave P := h.onTowWharf
  refine ite (when h₁.put sourceLost) ?_
  extract_lets +onlyGivenNames rtt a d₂ d₃ theta d₄
  have h₂ : d₂.EnginesHave P := h₁.put
  have h₃ : d₃.EnginesHave P := ite h₂ h₂.applyAction.judgeRtt
  have h₄ : d₄.EnginesHave P := h₃.put.skewCheck
  exact when h₄ towMeasure

theorem wrResolve (h : d.EnginesHave P) : (d.wrResolve v).EnginesHave P := when (when h onTowWharf) onTowWharf
theorem towWharfDown (h : d.EnginesHave P) : (d.towWharfDown w fresh).EnginesHave P :=
  when (when h.onTowWharf.put (fun h => h.put.put)) sourceLost
theorem tickOutBoundary (h : d.EnginesHave P) : (d.tickOutBoundary p).EnginesHave P := h.onTow
theorem tickWordBad (h : d.EnginesHave P) : d.tickWordBad.EnginesHave P := h.onTow.bump

theorem tickMismatch (h : d.EnginesHave P) : (d.tickMismatch theta).EnginesHave P :=
  have h := h.event.towReport
  ite (when h.put put) h

theorem tickWordDone (h : d.EnginesHave P) : (d.tickWordDone word).EnginesHave P := by
  unfold Device.tickWordDone
  refine ite ?_ h.tickWordBad
  dsimp only
  exact ite h.onTow.tickMismatch (when h.onTow towMeasure)

theorem tickSymbolAt {j : Nat} {start : Tick} (h : d.EnginesHave P) :
    (d.tickSymbolAt j i sym start).EnginesHave P := by
  unfold Device.tickSymbolAt
  extract_lets +onlyGivenNames k
  refine ite h.onTow ?_
  refine ite h.onTow ?_
  refine ite h.onTow ?_
  refine ite h.onTow.tickWordBad ?_
  extract_lets +onlyGivenNames bad w d₁
  have h₁ : d₁.EnginesHave P := h.onTow
  exact ite (ite h₁.tickWordBad h₁.tickWordDone) h₁

theorem tickSymbolIn (h : d.EnginesHave P) : (d.tickSymbolIn sym ps).EnginesHave P := by
  unfold Device.tickSymbolIn
  extract_lets +onlyGivenNames _ start
  split
  · exact ite h.onTow h
  · exact h.tickSymbolAt

theorem tickEdge {high : Nat} (h : d.EnginesHave P) : (d.tickEdge reading high).EnginesHave P := by
  unfold Device.tickEdge
  refine ite h ?_
  extract_lets +onlyGivenNames ps d₁
  have h₁ : d₁.EnginesHave P := h.onTow
  exact ite h₁ (ite h₁.towMeasure h₁.tickSymbolIn)

theorem tickLost (h : d.EnginesHave P) : d.tickLost.EnginesHave P := ite (when h.onTow sourceLost) h
theorem tickInBoundary (h : d.EnginesHave P) : d.tickInBoundary.EnginesHave P := when h.onTow bump

theorem ppsAccept {x : PF} (h : d.EnginesHave P) : (d.ppsAccept x).EnginesHave P :=
  have h := h.onTow.bump
  ite (ite h.put.event.towReport.enterHoldover h.towMeasure) h

theorem ppsEdge (h : d.EnginesHave P) : (d.ppsEdge reading).EnginesHave P := by
  unfold Device.ppsEdge
  refine ite h ?_
  extract_lets +onlyGivenNames x d₁
  have h₁ : d₁.EnginesHave P := h.onTow
  split
  · exact ite h₁.bump h₁.ppsAccept
  · exact h₁.ppsAccept

theorem ppsLost (h : d.EnginesHave P) : d.ppsLost.EnginesHave P := by
  unfold Device.ppsLost
  split
  · exact ite (when h.onTow sourceLost) h
  · exact h

theorem ppsOutPulse (h : d.EnginesHave P) : d.ppsOutPulse.EnginesHave P := ite h.onTow h
theorem ppsOutEnd (h : d.EnginesHave P) : d.ppsOutEnd.EnginesHave P := ite h.onTow h

theorem wrPpsCfg (h : d.EnginesHave P) : (d.wrPpsCfg v).EnginesHave P :=
  have h := h.put.put.put
  ite h h.onTow

/-! ### Machine/TimePort.lean -/

theorem onTpt {f : Tpt → Tpt} (h : d.EnginesHave P) : (d.onTpt f).EnginesHave P := update h
theorem onPtp {f : Ptp → Ptp} (h : d.EnginesHave P) : (d.onPtp f).EnginesHave P := h.onTpt
theorem setPortState (h : d.EnginesHave P) : (d.setPortState st).EnginesHave P := ite h h.put.event
theorem dropFrame (h : d.EnginesHave P) : d.dropFrame.EnginesHave P := h.bump.event
theorem setRxSlot {r : Nat} {x : RxSlot} (h : d.EnginesHave P) : (d.setRxSlot r x).EnginesHave P := h.onTpt

theorem ringTake {l : List Byte} (h : d.EnginesHave P) : (d.ringTake l at').EnginesHave P := by
  unfold Device.ringTake
  extract_lets +onlyGivenNames head
  split
  · exact ite h.setRxSlot.event h.dropFrame
  · exact h.dropFrame

theorem wrRxRel (h : d.EnginesHave P) : (d.wrRxRel v).EnginesHave P := ite h.setRxSlot.put h

theorem takeAnnounce {l : List Byte} (h : d.EnginesHave P) : (d.takeAnnounce l w).EnginesHave P := by
  unfold Device.takeAnnounce
  extract_lets +onlyGivenNames body who better
  refine ite ?_ h
  extract_lets +onlyGivenNames fresh d₁ flags d₂ d₃
  have h₁ : d₁.EnginesHave P := h.onPtp
  have h₂ : d₂.EnginesHave P := h₁.put.putB.putB
  have h₃ : d₃.EnginesHave P := h₂.putB
  exact ite h₃.setPortState h₃

theorem publishPtp (h : d.EnginesHave P) : d.publishPtp.EnginesHave P := by
  unfold Device.publishPtp
  split
  · exact setPortState <| put <| put <| ite h h.put.put.put
  · exact h

theorem takeSync {l : List Byte} (h : d.EnginesHave P) : (d.takeSync l w at').EnginesHave P :=
  ite h.onPtp h.onPtp.publishPtp

theorem takeFollowUp {l : List Byte} (h : d.EnginesHave P) : (d.takeFollowUp l w).EnginesHave P := by
  unfold Device.takeFollowUp
  split
  · exact ite h.onPtp.publishPtp h
  · exact h

theorem takeDelayResp {l : List Byte} (h : d.EnginesHave P) : (d.takeDelayResp l w).EnginesHave P := by
  unfold Device.takeDelayResp
  split
  · exact ite h.onPtp.publishPtp h
  · exact h

theorem clientTake {l : List Byte} (h : d.EnginesHave P) : (d.clientTake l w at').EnginesHave P := by
  unfold Device.clientTake
  refine ite h ?_
  extract_lets +onlyGivenNames d₁ ty
  have h₁ : d₁.EnginesHave P := ite h.setPortState h
  exact ite h₁.takeAnnounce (ite h₁ (ite h₁.takeSync (ite h₁.takeFollowUp (ite h₁.takeDelayResp h₁))))

theorem timeRx {l : List Byte} (h : d.EnginesHave P) : (d.timeRx l good at').EnginesHave P := by
  unfold Device.timeRx
  refine ite h ?_
  split
  · exact h.dropFrame
  · exact ite h.ringTake h.clientTake

theorem delayReq (h : d.EnginesHave P) : (d.delayReq at').EnginesHave P := ite h.onPtp h
theorem announceTimeout (h : d.EnginesHave P) : d.announceTimeout.EnginesHave P := ite h.onPtp.setPortState h
theorem clientInit (h : d.EnginesHave P) : d.clientInit.EnginesHave P := ite h.onPtp.setPortState h

theorem linkChange {up : Bool} (h : d.EnginesHave P) : (d.linkChange up).EnginesHave P := by
  unfold Device.linkChange
  refine ite h ?_
  extract_lets +onlyGivenNames d₁
  have h₁ : d₁.EnginesHave P := h.putB.putB.event
  exact ite h₁.setPortState h₁

theorem wrTxCtrl (h : d.EnginesHave P) : (d.wrTxCtrl v).EnginesHave P :=
  have h := h.put.put.put
  ite h (ite h.event h.putBit.onTpt)

theorem enterStamp (h : d.EnginesHave P) : (d.enterStamp b ofs at').EnginesHave P := by
  unfold Device.enterStamp
  split
  · exact h.bump.event
  · exact h.put.put.put.put.put.put.put.event

theorem txDone (h : d.EnginesHave P) : (d.txDone b at').EnginesHave P := by
  unfold Device.txDone
  split
  · exact h
  · extract_lets +onlyGivenNames d₁
    have h₁ : d₁.EnginesHave P := h.putBit.onTpt
    exact ite h₁ (when h₁.event enterStamp)

theorem clearStamp (h : d.EnginesHave P) : (d.clearStamp n).EnginesHave P := h.put.put.put.put.put.put.put
theorem wrTxtsRel (h : d.EnginesHave P) : (d.wrTxtsRel v).EnginesHave P := forEach h (fun h => when h clearStamp)
theorem portDisable (h : d.EnginesHave P) : d.portDisable.EnginesHave P :=
  forEach h.setPortState.put.onTpt.onTpt clearStamp

theorem wrTptCtrl (h : d.EnginesHave P) : (d.wrTptCtrl v).EnginesHave P :=
  have h := h.put.put.put.put.put.put
  ite (ite h.portDisable.clientInit h.portDisable) h

/-! ### Machine/Wharves.lean -/

theorem setLane (h : d.EnginesHave P) : (d.setLane n st).EnginesHave P := h.put
theorem atNext {f : Device → Device} (h : d.EnginesHave P) (hf : ∀ {d}, d.EnginesHave P → (f d).EnginesHave P) :
    (d.atNext f).EnginesHave P := onTow (hf h.onTow)

theorem sendFrames {l : List Barge} (h : d.EnginesHave P) : (d.sendFrames l).EnginesHave P := by
  unfold Device.sendFrames
  extract_lets +onlyGivenNames p
  refine forEach h fun h₁ => ?_
  extract_lets +onlyGivenNames d₂
  have h₂ : d₂.EnginesHave P := h₁.onLane
  exact ite h₂.onLane (when h₂ onLane)

theorem laneRest (h : d.EnginesHave P) : (d.laneRest n).EnginesHave P := h.setLane.put.put.put.put.put.onLane
theorem takeTrims (h : d.EnginesHave P) : (d.takeTrims n).EnginesHave P := update h
theorem laneAgain {restart : Bool} (h : d.EnginesHave P) : (d.laneAgain n st restart).EnginesHave P :=
  h.setLane.put.onLane
theorem laneReacquire {restart : Bool} (h : d.EnginesHave P) :
    (d.laneReacquire n restart).EnginesHave P := h.takeTrims.laneAgain.onLane
theorem laneFail (h : d.EnginesHave P) : (d.laneFail n).EnginesHave P := ite h.event.onLane h
theorem laneRetrain (h : d.EnginesHave P) : (d.laneRetrain n).EnginesHave P := ite h.laneFail (ite h h.laneRest)

theorem wrLaneCtrl (h : d.EnginesHave P) : (d.wrLaneCtrl n v).EnginesHave P := by
  unfold Device.wrLaneCtrl
  refine ite h ?_
  extract_lets +onlyGivenNames d₁ d₂
  have h₁ : d₁.EnginesHave P := h.put.put.put
  have h₂ : d₂.EnginesHave P := ite (ite h₁.setLane h₁) (ite h₁.laneFail (ite h₁ h₁.laneRest))
  exact ite h₂.laneRetrain h₂

theorem trainingStart (h : d.EnginesHave P) : (d.trainingStart n).EnginesHave P :=
  ite (laneReacquire <| ite h h.onWharf) h
theorem acquireDone {inverted : Bool} (h : d.EnginesHave P) : (d.acquireDone n inverted).EnginesHave P :=
  ite h.setLane.put.put.putB h
theorem capsEnter (h : d.EnginesHave P) : (d.capsEnter n).EnginesHave P := ite h.onLane h
theorem trainingDeadline (h : d.EnginesHave P) : (d.trainingDeadline n).EnginesHave P :=
  ite h.laneAgain.onLane.put.event.event.bump.report h
theorem backoffEnd (h : d.EnginesHave P) : (d.backoffEnd n).EnginesHave P := ite h.laneRest h
theorem countLos (h : d.EnginesHave P) : (d.countLos n).EnginesHave P := h.put.bump.event
theorem lossOfSignal (h : d.EnginesHave P) : (d.lossOfSignal n back).EnginesHave P :=
  ite h (ite h.put (ite h.countLos.laneReacquire (ite h.countLos.laneFail h.countLos)))

theorem cdrLoss {alignmentOnly : Bool} (h : d.EnginesHave P) :
    (d.cdrLoss n alignmentOnly back).EnginesHave P := by
  unfold Device.cdrLoss
  extract_lets +onlyGivenNames st
  refine ite h ?_
  refine ite h.put ?_
  extract_lets +onlyGivenNames d₁ d₂
  have h₁ : d₁.EnginesHave P := put <| ite h h.put
  have h₂ : d₂.EnginesHave P := h₁.onLane
  exact ite h₂.laneReacquire (ite h₂.laneFail h₂)

theorem laneEnters (h : d.EnginesHave P) : (d.laneEnters n).EnginesHave P := by
  unfold Device.laneEnters
  extract_lets +onlyGivenNames w up us kind d₁ d₂ d₃ d₄
  have h₁ : d₁.EnginesHave P := h.put.put.put
  have h₂ : d₂.EnginesHave P := h₁.event.put
  have h₃ : d₃.EnginesHave P := h₂.onLane
  have h₄ : d₄.EnginesHave P := ite (forEach h₃ setLane) (onWharf <| forEach h₃ setLane)
  exact ite h₄.event h₄.event.put.onWharf.onTowWharf

theorem laneJoin (h : d.EnginesHave P) : (d.laneJoin n).EnginesHave P := ite h.laneEnters h
theorem enterMismatch {why : Nat} (h : d.EnginesHave P) : (d.enterMismatch n cap why).EnginesHave P :=
  h.setLane.put.onLane.event.report

theorem capsTake (h : d.EnginesHave P) : (d.capsTake n cap).EnginesHave P := by
  unfold Device.capsTake
  extract_lets +onlyGivenNames why
  refine ite ?_ h.enterMismatch
  extract_lets +onlyGivenNames run d₁
  have h₁ : d₁.EnginesHave P := h.onLane
  exact ite h₁ (ite h₁.laneEnters h₁.setLane.onLane)

theorem deskewTake (h : d.EnginesHave P) : (d.deskewTake n cap).EnginesHave P := ite h.onLane h.enterMismatch

theorem mismatchTake (h : d.EnginesHave P) : (d.mismatchTake n cap).EnginesHave P := by
  unfold Device.mismatchTake
  refine ite h ?_
  extract_lets +onlyGivenNames why d₁
  have h₁ : d₁.EnginesHave P := h.onLane
  exact ite h₁.setLane.put.onLane h₁.put

theorem badSlot (h : d.EnginesHave P) : (d.badSlot w).EnginesHave P := h.bump.event
theorem takeStatus {s : BitVec 112} (h : d.EnginesHave P) : (d.takeStatus w s).EnginesHave P :=
  h.put.put.put.put.event
theorem takeGrant {s : BitVec 112} (h : d.EnginesHave P) : (d.takeGrant w s).EnginesHave P :=
  ite (forEach h.onWharf onLane) h.badSlot

theorem takeSlot {rep : Bool} {s : BitVec 112} (h : d.EnginesHave P) :
    (d.takeSlot w n slot rep s p8 ps).EnginesHave P := by
  unfold Device.takeSlot
  extract_lets +onlyGivenNames partner
  split
  · exact h
  · exact ite h.deliverEvent h.badSlot
  · exact ite h.takeReport' h.badSlot
  · exact ite h.takeStatus h.badSlot
  · exact ite h.takeGrant h.badSlot
  · exact ite h.report h.badSlot
  · exact h.badSlot

theorem trainSlots {s0 s1 : BitVec 112} (h : d.EnginesHave P) : (d.trainSlots n s0 s1).EnginesHave P := by
  unfold Device.trainSlots
  extract_lets +onlyGivenNames w st d₁
  have h₁ : d₁.EnginesHave P := when h badSlot
  exact ite (ite h₁.capsTake (ite h₁.deskewTake h₁.mismatchTake)) (onLane <| when h₁ badSlot)

theorem takeCredits {f : BitVec 256} (h : d.EnginesHave P) : (d.takeCredits w n f).EnginesHave P :=
  ite h (onLane <| when h giveCredits)
theorem holdFrame {arr : Int} {frame : Option (BitVec 256)} (h : d.EnginesHave P) :
    (d.holdFrame n arr frame).EnginesHave P := h.onWharf

theorem badFrame {cnt : Fld} (h : d.EnginesHave P) : (d.badFrame n cnt).EnginesHave P := by
  unfold Device.badFrame
  extract_lets +onlyGivenNames d₁ bonded
  have h₁ : d₁.EnginesHave P := h.bump.onLane
  split
  · exact h₁.onLane
  · extract_lets +onlyGivenNames d₂
    have h₂ : d₂.EnginesHave P := when h₁.onLane holdFrame
    exact ite h₂.laneFail h₂

theorem goodFrame {f : BitVec 256} (h : d.EnginesHave P) : (d.goodFrame n f ps).EnginesHave P := by
  unfold Device.goodFrame
  extract_lets +onlyGivenNames w p8 a d₁ d₂
  have h₁ : d₁.EnginesHave P := h.onLane.put
  have h₂ : d₂.EnginesHave P := h₁.put.put
  refine ite h₂.onLane ?_
  extract_lets +onlyGivenNames d₃
  have h₃ : d₃.EnginesHave P := h₂.onLane.takeCredits
  refine ite ?_ h₃.trainSlots
  extract_lets +onlyGivenNames d₄ d₅
  have h₄ : d₄.EnginesHave P := h₃.onWharf
  have h₅ : d₅.EnginesHave P := ite h₄.noteArrival h₄
  exact ite h₅.takeSlot.takeSlot h₅.holdFrame

theorem frameReceive {sync : Bool} {f : BitVec 256} (h : d.EnginesHave P) :
    (d.frameReceive n sync f reading).EnginesHave P := by
  unfold Device.frameReceive
  refine ite h ?_
  extract_lets +onlyGivenNames last d₁
  have h₁ : d₁.EnginesHave P := when h onLane
  exact ite h₁.badFrame (ite h₁.badFrame (ite h₁.goodFrame h₁.badFrame))

theorem laneMissed {lead : Nat} (h : d.EnginesHave P) : (d.laneMissed n lead k p8).EnginesHave P :=
  have h := h.onLane
  ite h.laneFail h

theorem presentFrame {x : HeldFrame} (h : d.EnginesHave P) : (d.presentFrame w x).EnginesHave P := by
  unfold Device.presentFrame
  split
  · exact h.takeSlot.takeSlot
  · exact h

theorem deskewRelease {expired : Bool} (h : d.EnginesHave P) :
    (d.deskewRelease w expired).EnginesHave P := by
  unfold Device.deskewRelease
  split
  · exact h
  · exact ite (forEach (forEach h.onWharf presentFrame) laneMissed) h

theorem exchangeStart {xseq : Nat} (h : d.EnginesHave P) : (d.exchangeStart w xseq).EnginesHave P :=
  ite h.put.onWharf h

theorem creditGrant (h : d.EnginesHave P) : (d.creditGrant w).EnginesHave P := by
  unfold Device.creditGrant
  extract_lets +onlyGivenNames w
  split
  · refine ite ?_ h
    extract_lets +onlyGivenNames d₁ d₂ _ d₃
    have h₁ : d₁.EnginesHave P := h.put.put.event
    have h₂ : d₂.EnginesHave P := forEach h₁ setLane
    have h₃ : d₃.EnginesHave P := ite (update h₂) h₂
    exact h₃.onWharf
  · exact h

theorem exchFail (h : d.EnginesHave P) : (d.exchFail w).EnginesHave P := ite h.event.report.onWharf h
theorem rejectBarges {code : Code} {p : Barge → Bool} (h : d.Balances) :
    (d.rejectBarges code p).Balances := forEach (update h) rejectCmd
theorem shedLane (h : d.Balances) : (d.shedLane n).Balances :=
  ite h.rejectBarges.giveCredits.laneRest.onLane.event.event.reportAt h
theorem goDown {record : Bool} (h : d.Balances) : (d.goDown w record).Balances :=
  towWharfDown <| when (onWharf <| forEach h.rejectBarges.bump.put.put.bump.event.eventBit laneRest) reportAt
theorem wharfReset (h : d.Balances) : (d.wharfReset w).Balances :=
  forEach (forEach (towWharfDown <| onWharf <| ite h.goDown (forEach h (fun h => ite h h.laneRest))) put)
    (fun h => forEach h.onLane put)

theorem wrWhfCmd (h : d.EnginesHave P) : (d.wrWhfCmd w v).EnginesHave P := by
  unfold Device.wrWhfCmd
  refine ite h ?_
  extract_lets +onlyGivenNames d₁
  have h₁ : d₁.EnginesHave P := ite (ite h.onWharf (forEach h laneRetrain)) h
  exact ite h₁.onWharf h₁

theorem wrWhfCfg (h : d.EnginesHave P) : (d.wrWhfCfg w v).EnginesHave P := ite h (when h.put.put.put onWharf)
theorem standbyEnter (h : d.EnginesHave P) : (d.standbyEnter w).EnginesHave P :=
  ite (onWharf <| forEach h setLane) h
theorem standbyExit (h : d.EnginesHave P) : (d.standbyExit w).EnginesHave P :=
  ite (onWharf <| forEach h setLane) h
theorem deepEnter (h : d.EnginesHave P) : (d.deepEnter q).EnginesHave P :=
  ite (put <| put <| update (forEach (forEach h (fun h => ite h h.laneRest.setLane)) (fun h => h.put.onWharf.towWharfDown))) h
theorem deepExit (h : d.EnginesHave P) : (d.deepExit q).EnginesHave P :=
  ite (forEach h.put.put (fun h => ite h.laneRest h)) h
theorem quadClose (h : d.Balances) : (d.quadClose q).Balances :=
  put <| put <| update (forEach (forEach h (fun h => atNext h goDown)) (fun h => h.laneRest.setLane))
theorem quadStart (h : d.EnginesHave P) : (d.quadStart q).EnginesHave P := h.put
theorem quadOpen (h : d.EnginesHave P) : (d.quadOpen q).EnginesHave P := forEach h.put (fun h => when h setLane)
theorem wharvesDue (h : d.Balances) : d.wharvesDue.Balances :=
  forEach (forEach h (fun h => ite h.wharfReset (ite h.goDown h))) shedLane
theorem wharvesBoundary {l : List Barge} (h : d.EnginesHave P) : (d.wharvesBoundary l).EnginesHave P :=
  forEach (forEach (forEach (forEach h creditGrant) onWharf) (fun h => ite (update h) h)) (fun h => ite h.setLane.onLane
    (ite h.onLane h))

/-! ### Machine/Serial.lean -/

theorem onNvs {f : Nvs → Nvs} (h : d.EnginesHave P) : (d.onNvs f).EnginesHave P := update h
theorem wrNvsPush (h : d.EnginesHave P) : (d.wrNvsPush v).EnginesHave P := ite (ite h.put.event h.onNvs.put) h

theorem nvsStart {rx : List (BitVec 4)} (h : d.EnginesHave P) : (d.nvsStart rx).EnginesHave P := by
  unfold Device.nvsStart
  split
  · exact h
  · exact ite h.onNvs.put h

theorem storeBegin (h : d.EnginesHave P) : d.storeBegin.EnginesHave P := update h.put
theorem nvsSettleOwner (h : d.EnginesHave P) : d.nvsSettleOwner.EnginesHave P := ite (when h.put storeBegin) h
theorem nvsStop (h : d.EnginesHave P) : d.nvsStop.EnginesHave P := h.onNvs.put.nvsSettleOwner
theorem nvsComplete (h : d.EnginesHave P) : d.nvsComplete.EnginesHave P := h.nvsStop.event.bump

theorem nvsEntryDone (h : d.EnginesHave P) : d.nvsEntryDone.EnginesHave P := by
  unfold Device.nvsEntryDone
  split
  · exact ite h h.nvsComplete
  · exact h

theorem nvsPoll {rx : List (BitVec 4)} (h : d.EnginesHave P) : (d.nvsPoll rx).EnginesHave P := by
  unfold Device.nvsPoll
  split
  · refine ite ?_ h
    extract_lets +onlyGivenNames b d₁ mask
    have h₁ : d₁.EnginesHave P := h.onNvs.put
    exact ite h₁.nvsComplete h₁
  · exact h

theorem nvsPollTimeout (h : d.EnginesHave P) : d.nvsPollTimeout.EnginesHave P := by
  unfold Device.nvsPollTimeout
  split
  · exact ite h.nvsStop.put.event h
  · exact h

theorem nvsEmpty (h : d.EnginesHave P) : d.nvsEmpty.EnginesHave P := when h.onNvs.nvsStop event
theorem wrNvsCtrl (h : d.EnginesHave P) : (d.wrNvsCtrl v).EnginesHave P :=
  nvsSettleOwner <| when (when h.put.put.put (fun h => h.nvsEmpty.put)) put
theorem ownGranted (h : d.EnginesHave P) : d.ownGranted.EnginesHave P := ite h.put.event h

theorem readNvsRdata (h : d.EnginesHave P) : d.readNvsRdata.2.EnginesHave P := by
  unfold Device.readNvsRdata
  split
  · exact h
  · exact h.onNvs

theorem wrNvsWdata (h : d.EnginesHave P) : (d.wrNvsWdata v).EnginesHave P :=
  have h := h.put
  ite h.onNvs h

theorem onHsp {f : Hsp → Hsp} (h : d.EnginesHave P) : (d.onHsp f).EnginesHave P := update h

theorem hspFlag (h : d.EnginesHave P) : (d.hspFlag b).EnginesHave P := by
  unfold Device.hspFlag
  extract_lets +onlyGivenNames d₁
  have h₁ : d₁.EnginesHave P := h.put
  split
  · exact h₁.event
  · exact h₁.event
  · exact h₁.event
  · exact h₁.event
  · exact h₁.event
  · exact h₁.event
  · exact h₁

theorem aliveSync {alive : BitVec 4} (h : d.EnginesHave P) : (d.aliveSync alive).EnginesHave P := h.onHsp.put

theorem hspBad {alive format full : Bool} (h : d.EnginesHave P) :
    (d.hspBad alive crc format full).EnginesHave P :=
  when (when (when (when h.hspFlag (fun h => h.hspFlag.bump)) (fun h => h.hspFlag.bump)) (fun h => h.hspFlag.bump))
    (fun h => h.hspFlag.bump)

theorem hspDrive {busy : Nat} (h : d.EnginesHave P) : (d.hspDrive busy).EnginesHave P := h.onHsp
theorem hspReply {head : List Bool} {alive : BitVec 4} {data : List Nat} (h : d.EnginesHave P) :
    (d.hspReply head alive data).EnginesHave P := h.put.put.onHsp

theorem hspStatus {busy : Nat} {abandoned : Bool} (h : d.EnginesHave P) :
    (d.hspStatus cycles busy abandoned).EnginesHave P := by
  unfold Device.hspStatus
  split
  · refine ite ?_ h
    extract_lets +onlyGivenNames ok applying d₁ d₂
    have h₁ : d₁.EnginesHave P := h.aliveSync.hspDrive
    have h₂ : d₂.EnginesHave P := ite h₁.bump h₁.hspBad
    exact ite h₂ h₂.hspReply
  · exact h

theorem formatReset (h : d.EnginesHave P) : d.formatReset.EnginesHave P :=
  bump <| event <| put <| onHsp <| forEach h put

theorem hspReserved (h : d.EnginesHave P) : (d.hspReserved cycles).EnginesHave P := by
  unfold Device.hspReserved
  split
  · exact ite h.aliveSync.hspBad h
  · exact h

theorem cutFrame {alive : Option (BitVec 4)} (h : d.EnginesHave P) :
    (d.cutFrame alive).EnginesHave P := by
  unfold Device.cutFrame
  extract_lets +onlyGivenNames d₁
  have h₁ : d₁.EnginesHave P := by
    unfold d₁
    split
    · exact h.aliveSync
    · exact h
  exact h₁.bump.event

theorem hspCut (h : d.EnginesHave P) : (d.hspCut cycles).EnginesHave P := by
  unfold Device.hspCut
  refine ite ?_ h
  split
  · exact h.cutFrame
  · exact ite h.cutFrame h
  · exact h

/-! ### Machine/Gates.lean -/

theorem setEnable {v : Bool} (h : d.EnginesHave P) : (d.setEnable b v).EnginesHave P := h.putBit
theorem setBlockState (h : d.EnginesHave P) : (d.setBlockState b st).EnginesHave P := h.put
theorem dropStaged (h : d.EnginesHave P) : (d.dropStaged page).EnginesHave P :=
  when h (fun h => pageEvent <| update h)
theorem dropCapture (h : d.EnginesHave P) : (d.dropCapture page).EnginesHave P := update h
theorem coreClose (h : d.EnginesHave P) : (d.coreClose c).EnginesHave P :=
  onCore <| forEach h.cancelApply.cancelHop.putAligned put
theorem outputClose (h : d.EnginesHave P) : (d.outputClose n).EnginesHave P := when h.put strobeFall

theorem closeEffects (h : d.Balances) : (d.closeEffects b).Balances := by
  unfold Device.closeEffects
  refine ite h.quadClose ?_
  refine ite h.coreClose ?_
  refine ite h.outputClose ?_
  split
  · exact h.decClose
  · exact h.portDisable
  · exact h.nvsEmpty
  · exact h

theorem coreStart (h : d.EnginesHave P) : (d.coreStart c).EnginesHave P := h.onCore
theorem openStarts (h : d.EnginesHave P) : (d.openStarts b).EnginesHave P := ite h.quadStart (ite h.coreStart h)
theorem setBandWord (h : d.EnginesHave P) : (d.setBandWord c e w v).EnginesHave P := update h
theorem bandTake {m : Image} (h : d.EnginesHave P) : (d.bandTake m c e).EnginesHave P := h.setBandWord.setBandWord
theorem bandOpen (h : d.EnginesHave P) : (d.bandOpen c).EnginesHave P := forEach h (fun h => when h bandTake)
theorem monOffset (h : d.EnginesHave P) : (d.monOffset c).EnginesHave P := h.put

theorem coreOpen (h : d.EnginesHave P) : (d.coreOpen c).EnginesHave P :=
  have h := h.put.putB.monOffset.bandOpen
  ite h.onCore.searchOrManual h

theorem outputOpen (h : d.EnginesHave P) : (d.outputOpen n).EnginesHave P := ite h h.walkToTable
theorem onClk {f : Clocks → Clocks} (h : d.EnginesHave P) : (d.onClk f).EnginesHave P := update h
theorem auxDivUpdate (h : d.EnginesHave P) : (d.auxDivUpdate a).EnginesHave P := ite h h.onClk
theorem auxSscUpdate (h : d.EnginesHave P) : (d.auxSscUpdate a).EnginesHave P := ite h h.onClk
theorem openEffects (h : d.EnginesHave P) : (d.openEffects b).EnginesHave P :=
  ite h.quadOpen (ite h.coreOpen (ite h.outputOpen (ite h.auxDivUpdate.auxSscUpdate (ite (ite h h.clientInit) h))))

theorem gateTakes (h : d.Balances) : (d.gateTakes b).Balances := by
  unfold Device.gateTakes
  extract_lets +onlyGivenNames _ d₁ d₂
  have h₁ : d₁.Balances := setBlockState <| update h
  have h₂ : d₂.Balances := h₁.put.closeEffects
  split
  · exact h₂.dropStaged.dropCapture
  · exact h₂

theorem gateClose {busy : Bool} (h : d.Balances) : (d.gateClose b busy).Balances :=
  ite h.put (ite h (ite (ite h (update h)) h.gateTakes))

theorem gateOpen (h : d.EnginesHave P) : (d.gateOpen b).EnginesHave P := by
  unfold Device.gateOpen
  extract_lets +onlyGivenNames _ d₁
  have h₁ : d₁.EnginesHave P := update h
  exact ite h₁.put (ite h₁.setBlockState.openStarts h₁)

theorem wrEnable {v busy : Bool} (h : d.Balances) : (d.wrEnable b v busy).Balances :=
  have h := h.setEnable
  ite (ite h h.gateOpen) (ite h.gateClose h)

theorem wrEnables (h : d.Balances) : (d.wrEnables ofs v).Balances := forEach h wrEnable
theorem blockClose {busy : Bool} (h : d.Balances) : (d.blockClose b busy).Balances :=
  h.wrEnable.markDirty
theorem gateBusAbort (h : d.Balances) : (d.gateBusAbort b).Balances :=
  ite (event <| update h.gateTakes) h
theorem shutdownDone (h : d.EnginesHave P) : (d.shutdownDone b).EnginesHave P :=
  ite (ite h.put.setBlockState.openStarts.event h.setBlockState) h
theorem blockOpenDone (h : d.EnginesHave P) : (d.blockOpenDone b).EnginesHave P :=
  ite h.setBlockState.openEffects h

/-! ### Machine/Clocks.lean -/

theorem clockReport (h : d.EnginesHave P) : (d.clockReport code reporter).EnginesHave P := h.report
theorem setJudge {j : Judge} (h : d.EnginesHave P) : (d.setJudge src j).EnginesHave P := h.onClk
theorem putSwitch {w : Switch} (h : d.EnginesHave P) : (d.putSwitch dom w).EnginesHave P := h.onClk.put
theorem dropSwitch (h : d.EnginesHave P) : (d.dropSwitch dom).EnginesHave P := h.onClk.putB

theorem showClkOp (h : d.EnginesHave P) : d.showClkOp.EnginesHave P := by
  unfold Device.showClkOp
  refine ite ?_ h.put
  split
  · exact h.put
  · exact put <| update h

theorem putClock {div : Nat} (h : d.EnginesHave P) : (d.putClock dom src div).EnginesHave P :=
  when h.put.put showClkOp
theorem setVid (h : d.EnginesHave P) : (d.setVid v).EnginesHave P := h.put.put.onClk
theorem opIdle (h : d.EnginesHave P) : d.opIdle.EnginesHave P := h.onClk.put.put

theorem opAfterRamp (h : d.EnginesHave P) : d.opAfterRamp.EnginesHave P := by
  unfold Device.opAfterRamp
  split
  · exact event <| opIdle <| ite h.setVid h
  · exact h.opIdle

theorem switchEnds {w : Switch} (h : d.EnginesHave P) : (d.switchEnds dom w).EnginesHave P := by
  unfold Device.switchEnds
  extract_lets +onlyGivenNames d₁ d₂
  have h₁ : d₁.EnginesHave P := h.dropSwitch
  have h₂ : d₂.EnginesHave P := ite h₁ h₁.put.event
  exact ite h₂.opAfterRamp h₂

theorem rampOnce {w : Switch} (h : d.EnginesHave P) : (d.rampOnce dom w).EnginesHave P := by
  unfold Device.rampOnce
  extract_lets +onlyGivenNames w goal now
  split
  · extract_lets +onlyGivenNames k d₁
    have h₁ : d₁.EnginesHave P := h.putClock.putSwitch
    exact ite h₁.switchEnds h₁
  · split
    · exact h.putClock.putSwitch
    · exact h.putSwitch

theorem startSwitch {div : Nat} {host : Bool} (h : d.EnginesHave P) :
    (d.startSwitch dom src div host).EnginesHave P :=
  have h := h.putSwitch
  ite h (ite h.rampOnce (ite h.rampOnce h))

theorem refuseSwitch {r : Nat} (h : d.EnginesHave P) : (d.refuseSwitch dom r).EnginesHave P :=
  when h.put.event clockReport
theorem hostSwitch (h : d.EnginesHave P) : (d.hostSwitch dom src).EnginesHave P :=
  ite h.refuseSwitch (ite h.refuseSwitch (ite h.refuseSwitch h.onClk.startSwitch))

theorem changeOver {w : Switch} (h : d.EnginesHave P) : (d.changeOver dom w).EnginesHave P := by
  unfold Device.changeOver
  refine ite h.put.switchEnds ?_
  extract_lets +onlyGivenNames goal now k d₁
  have h₁ : d₁.EnginesHave P := h.putClock
  exact ite h₁.switchEnds h₁.putSwitch

theorem switchDone (h : d.EnginesHave P) : (d.switchDone dom).EnginesHave P := by
  unfold Device.switchDone
  split
  · exact ite h h.changeOver
  · exact h

theorem rampStep (h : d.EnginesHave P) : (d.rampStep dom).EnginesHave P := by
  unfold Device.rampStep
  split
  · exact ite h h.rampOnce
  · exact h

theorem refReset (h : d.EnginesHave P) : d.refReset.EnginesHave P := h.setJudge.setJudge
theorem holdDom (h : d.EnginesHave P) : (d.holdDom dom).EnginesHave P := h.onClk.put
theorem resetRef (h : d.EnginesHave P) : d.resetRef.EnginesHave P := ite h.refReset.holdDom h

theorem switchForced (h : d.EnginesHave P) : (d.switchForced dom).EnginesHave P := by
  unfold Device.switchForced
  split
  · refine ite h ?_
    extract_lets +onlyGivenNames w d₁ d₂
    have h₁ : d₁.EnginesHave P := h.put.put.event
    have h₂ : d₂.EnginesHave P := h₁.clockReport.changeOver
    exact ite h₂.resetRef h₂
  · exact h

theorem opRamp {r : Nat} (h : d.EnginesHave P) : (d.opRamp r).EnginesHave P := by
  unfold Device.opRamp
  extract_lets +onlyGivenNames d₁
  have h₁ : d₁.EnginesHave P := h.onClk
  split
  · exact ite h₁.putSwitch h₁.opAfterRamp
  · exact ite (ite h₁.opAfterRamp h₁.startSwitch) h₁.opAfterRamp

theorem opStart {r : Nat} (h : d.EnginesHave P) : (d.opStart r).EnginesHave P :=
  have h := h.onClk.put
  ite h.setVid.put h.put.opRamp

theorem opNext (h : d.EnginesHave P) : d.opNext.EnginesHave P := by
  unfold Device.opNext
  split
  · exact ite h h.onClk.put.opStart
  · exact h

theorem opRequest {r : Nat} (h : d.EnginesHave P) : (d.opRequest r).EnginesHave P := h.onClk.put.opNext

theorem wrOpCtrl (h : d.EnginesHave P) : (d.wrOpCtrl v).EnginesHave P := by
  unfold Device.wrOpCtrl
  extract_lets +onlyGivenNames r
  refine ite h ?_
  extract_lets +onlyGivenNames d₁
  have h₁ : d₁.EnginesHave P := h.put
  exact ite h₁.opRequest h₁

theorem pgBlankingEnd {pg : Bool} (h : d.EnginesHave P) : (d.pgBlankingEnd pg).EnginesHave P := by
  unfold Device.pgBlankingEnd
  extract_lets +onlyGivenNames d₁
  have h₁ : d₁.EnginesHave P := h.onClk.putB
  split
  · exact ite h₁.put.opRamp.opNext h₁
  · exact h₁

theorem raiseFailed (h : d.EnginesHave P) : d.raiseFailed.EnginesHave P :=
  ite h.put.setVid.opIdle.event.report.opNext h
theorem lostPhase (h : d.EnginesHave P) : d.lostPhase.EnginesHave P := ite h h.put.put

theorem pgLost (h : d.EnginesHave P) : d.pgLost.EnginesHave P := by
  unfold Device.pgLost
  refine ite h ?_
  refine ite h.put ?_
  extract_lets +onlyGivenNames d₁ d₂ d₃
  have h₁ : d₁.EnginesHave P := h.put.event.report
  have h₂ : d₂.EnginesHave P := ite h₁ h₁.opIdle
  have h₃ : d₃.EnginesHave P := h₂.onClk.put
  split
  · exact ite h₃ (ite h₃.putSwitch (ite h₃.lostPhase.switchEnds h₃.lostPhase.startSwitch))
  · exact ite h₃.lostPhase.startSwitch h₃

theorem opCut {toFio : Bool} (h : d.EnginesHave P) : (d.opCut toFio).EnginesHave P :=
  ite (ite h.opAfterRamp h.opIdle) h
theorem mpl0Holdover {lost : Bool} (h : d.EnginesHave P) : (d.mpl0Holdover lost).EnginesHave P :=
  ite (when h.put.put.event clockReport) h
theorem refChange (h : d.EnginesHave P) : (d.refChange i).EnginesHave P :=
  ite h.refuseSwitch (ite h.refuseSwitch h.startSwitch)

theorem refFailover (h : d.EnginesHave P) : d.refFailover.EnginesHave P := by
  unfold Device.refFailover
  refine ite h ?_
  split
  · exact h
  · extract_lets +onlyGivenNames d₁
    have h₁ : d₁.EnginesHave P := h.onClk
    exact ite h₁ (when h₁.refChange (fun h => h.event.clockReport))

theorem mpl0Relock (h : d.EnginesHave P) : d.mpl0Relock.EnginesHave P := ite h.onClk.put.put h

theorem fallback (h : d.EnginesHave P) : d.fallback.EnginesHave P := by
  unfold Device.fallback
  refine ite ?_ h
  extract_lets +onlyGivenNames d₁ d₂
  have h₁ : d₁.EnginesHave P := h.onClk
  have h₂ : d₂.EnginesHave P := by
    unfold d₂
    refine forEach h₁ fun h₃ => ?_
    refine when h₃ fun h₄ => ?_
    extract_lets +onlyGivenNames d₅ d₆ d₇
    have h₅ : d₅.EnginesHave P := h₄.onClk
    have h₆ : d₆.EnginesHave P := when h₅ opCut
    have h₇ : d₇.EnginesHave P := when h₆ dropSwitch
    exact ite h₇.startSwitch h₇
  exact h₂.event.clockReport

theorem returnDomains (h : d.EnginesHave P) : d.returnDomains.EnginesHave P :=
  ite h (forEach h.onClk (fun h => when h startSwitch))
theorem fallForward (h : d.EnginesHave P) : d.fallForward.EnginesHave P := ite h.onClk.returnDomains h
theorem mpl1Back (h : d.EnginesHave P) : d.mpl1Back.EnginesHave P := ite h.put.fallForward h
theorem mpl1Unlock (h : d.EnginesHave P) : d.mpl1Unlock.EnginesHave P := ite h.put.setJudge.fallback h

theorem loseReady (h : d.EnginesHave P) : (d.loseReady src).EnginesHave P := by
  unfold Device.loseReady
  extract_lets +onlyGivenNames _ d₁
  have h₁ : d₁.EnginesHave P := h.setJudge
  refine ite ?_ h₁
  extract_lets +onlyGivenNames d₂
  have h₂ : d₂.EnginesHave P := h₁.putBit.eventBit.clockReport
  exact ite (refFailover <| onClk <| ite h₂.mpl0Holdover h₂) (ite h₂.fallback h₂)

theorem windowTaken (h : d.EnginesHave P) : (d.windowTaken src).EnginesHave P := h.onClk

theorem judgeCount {nom t hz : Nat} (h : d.EnginesHave P) :
    (d.judgeCount src nom t hz).EnginesHave P := by
  unfold Device.judgeCount
  extract_lets +onlyGivenNames j ok hits outs d₁ d₂
  have h₁ : d₁.EnginesHave P := h.setJudge
  have h₂ : d₂.EnginesHave P := h₁.put
  refine ite (ite h₂.loseReady (ite h₂.mpl1Back h₂)) ?_
  refine ite ?_ h₂
  extract_lets +onlyGivenNames d₃
  have h₃ : d₃.EnginesHave P := h₂.putBit
  exact ite h₃.refFailover h₃

theorem judgeSource {count : Nat} (h : d.EnginesHave P) : (d.judgeSource src count).EnginesHave P := by
  unfold Device.judgeSource
  split
  · exact h
  · refine ite h ?_
    show Device.EnginesHave P _
    extract_lets +onlyGivenNames d₁
    have h₁ : d₁.EnginesHave P := h.windowTaken
    exact ite h₁ (judgeCount <| when h₁ put)

theorem stopDetect (h : d.EnginesHave P) : (d.stopDetect src).EnginesHave P := ite h.put.loseReady h.put

theorem wrRefCtrl {asks : Bool} (h : d.EnginesHave P) : (d.wrRefCtrl v asks).EnginesHave P := by
  unfold Device.wrRefCtrl
  extract_lets +onlyGivenNames changed0 changed1 newSel d₁ d₂ d₃
  have h₁ : d₁.EnginesHave P := forEach h put
  have h₂ : d₂.EnginesHave P := when h₁ (fun h => h.setJudge.loseReady)
  have h₃ : d₃.EnginesHave P := when h₂ (fun h => h.setJudge.loseReady)
  exact ite h₃.mpl0Holdover.refChange h₃

/-! ### Machine/Calibration.lean -/

theorem onCal {f : Cal → Cal} (h : d.EnginesHave P) : (d.onCal f).EnginesHave P := update h

theorem calEnd (h : d.EnginesHave P) : (d.calEnd code).EnginesHave P := by
  unfold Device.calEnd
  extract_lets +onlyGivenNames kind u d₁ d₂ d₃
  have h₁ : d₁.EnginesHave P := h.put.put.put
  have h₂ : d₂.EnginesHave P := h₁.onCal
  have h₃ : d₃.EnginesHave P := ite h₂.event h₂.event
  exact ite h₃.startHold (ite h₃.coreClose.coreOpen h₃)

theorem calReject (h : d.EnginesHave P) : (d.calReject code).EnginesHave P := h.put.put.event

theorem fitLoad {x : Nat} {f : Device → Device} (h : d.EnginesHave P)
    (hf : ∀ {d}, d.EnginesHave P → (f d).EnginesHave P) : (d.fitLoad c x f).EnginesHave P :=
  onCore (hf h.newSettings)

theorem fitEntry {rest : List Nat} (h : d.EnginesHave P) : (d.fitEntry c e rest).EnginesHave P := by
  unfold Device.fitEntry
  exact fitLoad h.onCal fun h => h.dropLock.onCore.put.put.put.put

theorem fitBegin (h : d.EnginesHave P) : (d.fitBegin c).EnginesHave P := by
  unfold Device.fitBegin
  split
  · exact h.fitEntry
  · exact h

theorem fitPreset {b : BandFit} {p : FitPhase} (h : d.EnginesHave P) :
    (d.fitPreset c b p).EnginesHave P := when (fitLoad h.onCal presetLoad) startHold

theorem calStart (h : d.EnginesHave P) : d.calStart.EnginesHave P := by
  unfold Device.calStart
  extract_lets +onlyGivenNames kind u d₁
  have h₁ : d₁.EnginesHave P := h.put
  refine ite h₁.event ?_
  extract_lets +onlyGivenNames d₂
  have h₂ : d₂.EnginesHave P := h₁.put.put
  refine ite h₂.calReject ?_
  split
  · exact h₂.calReject
  · extract_lets +onlyGivenNames d₃ d₄
    have h₃ : d₃.EnginesHave P := h₂.put.put.put
    have h₄ : d₄.EnginesHave P := h₃.onCal
    exact ite h₄.startHold (ite h₄.fitBegin h₄)

theorem calPrecondition (h : d.EnginesHave P) : (d.calPrecondition code).EnginesHave P := ite h.calEnd h
theorem calAbort (h : d.EnginesHave P) : d.calAbort.EnginesHave P := ite h.calEnd h

theorem calDensity {bins grid : List Nat} (h : d.EnginesHave P) :
    (d.calDensity bins grid).EnginesHave P := by
  unfold Device.calDensity
  extract_lets +onlyGivenNames kind n k codes sum
  refine ite ?_ h
  extract_lets +onlyGivenNames dev d₁
  have h₁ : d₁.EnginesHave P := h.onCal.put
  split
  · exact h₁.calEnd
  · exact ite h₁.calEnd (ite h₁.calEnd h₁.onCal.put)

theorem applyOver (h : d.EnginesHave P) : (d.applyOver result).EnginesHave P := h.onCal.put.put
theorem applyRefuse (h : d.EnginesHave P) : d.applyRefuse.EnginesHave P := h.applyOver.event
theorem applyJudge (h : d.EnginesHave P) : (d.applyJudge p).EnginesHave P := ite h.applyRefuse h.onCal.put.put
theorem takeBytes (h : d.EnginesHave P) : (d.takeBytes ofs n).EnginesHave P := h.onCal

theorem applyBands (h : d.EnginesHave P) : (d.applyBands c).EnginesHave P := by
  unfold Device.applyBands
  extract_lets +onlyGivenNames m
  refine forEach h fun h₁ => ?_
  refine ite ?_ h₁.event
  extract_lets +onlyGivenNames d₂
  have h₂ : d₂.EnginesHave P := h₁.takeBytes
  exact ite h₂ h₂.bandTake

theorem keepStamps (h : d.EnginesHave P) : (d.keepStamps q).EnginesHave P := forEach h onTowWharf

theorem applyUnit {u : Nat} (h : d.EnginesHave P) : (d.applyUnit kind u).EnginesHave P := by
  unfold Device.applyUnit
  extract_lets +onlyGivenNames d₁ d₂
  have h₁ : d₁.EnginesHave P := when h keepStamps
  have h₂ : d₂.EnginesHave P := h₁.onCal
  split
  · exact h₂.applyBands
  · exact h₂.takeBytes
  · extract_lets +onlyGivenNames d₃
    have h₃ : d₃.EnginesHave P := h₂.takeBytes.takeBytes
    exact ite h₃.monOffset.onCore (ite h₃.walkToTable h₃)

theorem calApply (h : d.EnginesHave P) : d.calApply.EnginesHave P := by
  unfold Device.calApply
  split
  · exact ite (event <| applyOver <| when (forEach h applyUnit) onCal) h
  · exact h

theorem applyPassed (h : d.EnginesHave P) : d.applyPassed.EnginesHave P := when h calApply

theorem wrCalApply (h : d.EnginesHave P) : (d.wrCalApply v).EnginesHave P :=
  have h := h.applyPassed
  ite h.applyJudge h

theorem calHold {r : CalRun} (h : d.EnginesHave P) : (d.calHold r).EnginesHave P :=
  put <| onCal <| update h.applyPassed

theorem calComplete {r : CalRun} (h : d.EnginesHave P) : (d.calComplete r).EnginesHave P := by
  unfold Device.calComplete
  split
  · exact when h.onCal.put fitBegin
  · extract_lets +onlyGivenNames d₁
    have h₁ : d₁.EnginesHave P := h.put
    exact ite h₁.calHold.calEnd h₁.calEnd

theorem calPartEnd {statistics range : Bool} {f : Device → Device} (h : d.EnginesHave P)
    (hf : ∀ {d}, d.EnginesHave P → (f d).EnginesHave P) : (d.calPartEnd statistics range f).EnginesHave P := by
  unfold Device.calPartEnd
  split
  · exact h.calEnd
  · exact ite h.calEnd (ite h.calEnd (hf h))

theorem calMean {readings : List (Int × Nat)} (h : d.EnginesHave P) :
    (d.calMean readings).EnginesHave P := ite (calPartEnd h.put calComplete) h

theorem fitTunes {readings : List (Nat × Nat)} (h : d.EnginesHave P) :
    (d.fitTunes readings).EnginesHave P := by
  unfold Device.fitTunes
  split
  · exact ite (calPartEnd h fitPreset) h
  · exact h

theorem fitStep (h : d.EnginesHave P) : d.fitStep.EnginesHave P := by
  unfold Device.fitStep
  extract_lets +onlyGivenNames c k ok late
  split
  · refine ite ?_ h
    refine calPartEnd h fun h₁ => ?_
    refine ite h₁.fitPreset ?_
    extract_lets +onlyGivenNames _ r
    split
    · exact h₁.onCal.fitEntry
    · exact h₁.onCal.calComplete
  · exact h

theorem calTrims {ones : List (List Nat)} (h : d.EnginesHave P) : (d.calTrims ones).EnginesHave P :=
  ite (calPartEnd h calComplete) h

theorem calRunDone {p : CalPart} (h : d.EnginesHave P) : (d.calRunDone p).EnginesHave P := by
  unfold Device.calRunDone
  refine ite ?_ h
  split
  · exact h.calDensity
  · exact h.calMean
  · exact h.fitTunes
  · exact h.fitStep
  · exact h.calTrims

theorem calDiscard (h : d.EnginesHave P) : d.calDiscard.EnginesHave P := h.onCal

theorem applyRejudge (h : d.EnginesHave P) : d.applyRejudge.EnginesHave P := by
  unfold Device.applyRejudge
  split
  · exact ite h.applyRefuse h
  · exact h

theorem calStore (h : d.EnginesHave P) : d.calStore.EnginesHave P :=
  have h := h.put
  ite h.put (ite h.put (when h.put storeBegin))

theorem storeEnd (h : d.EnginesHave P) : (d.storeEnd code).EnginesHave P := h.put.put.put
theorem storeFail (h : d.EnginesHave P) : (d.storeFail code).EnginesHave P := h.storeEnd.event.report

theorem calStoreDone {r : StoreResult} (h : d.EnginesHave P) : (d.calStoreDone r).EnginesHave P := by
  unfold Device.calStoreDone
  refine ite ?_ h
  split
  · exact h.storeFail
  · exact ite h.onNvs.onCal.storeEnd.put.event h.onNvs.storeFail

theorem calServe (h : d.EnginesHave P) : d.calServe.EnginesHave P := ite h (when (when h calStore) calStart)
theorem wrCalCmd (h : d.EnginesHave P) : (d.wrCalCmd v).EnginesHave P :=
  calServe <| when (when (when (when h.applyPassed.put.put calAbort) calDiscard) put) put
theorem calKeeperRestart (h : d.EnginesHave P) : d.calKeeperRestart.EnginesHave P := when h.calAbort storeFail

/-! ### Machine/Reset.lean -/

theorem onBoot {f : Boot → Boot} (h : d.EnginesHave P) : (d.onBoot f).EnginesHave P := update h

theorem powerOnReset : d.powerOnReset.Balances := Engines.balanced_fresh (n := d.eng.ttEpoch + 1)

theorem warmReset : d.warmReset.Balances := Engines.balanced_fresh (n := d.eng.ttEpoch + 1)

theorem enterWarm (h : d.Balances) : d.enterWarm.Balances := ite h (ite h warmReset)

theorem release (h : d.EnginesHave P) : d.release.EnginesHave P := ite h.onBoot.put h
theorem powerOnEnd {bootsel : Nat} (h : d.EnginesHave P) : (d.powerOnEnd bootsel).EnginesHave P :=
  ite h.onBoot.release h

theorem pinReset (h : d.Balances) : d.pinReset.Balances :=
  have h := h.onBoot
  ite h h.enterWarm.put

theorem pinRelease (h : d.EnginesHave P) : d.pinRelease.EnginesHave P := h.onBoot.release

theorem brownout (h : d.Balances) : (d.brownout rail).Balances :=
  have h₁ := h.onBoot.putBit
  have h₂ := h₁.enterWarm.put
  ite h₁ (ite (put <| update h₂) h₂)

theorem brownoutOver (h : d.EnginesHave P) : (d.brownoutOver rail).EnginesHave P := h.onBoot.putBit.release
theorem aonEvent {f : Fld} (h : d.EnginesHave P) : (d.aonEvent f).EnginesHave P := ite h.put h.event
theorem railDip (h : d.EnginesHave P) : d.railDip.EnginesHave P := h.aonEvent

theorem sensorUpdate (h : d.EnginesHave P) : (d.sensorUpdate v).EnginesHave P := by
  unfold Device.sensorUpdate
  extract_lets +onlyGivenNames d₁
  have h₁ : d₁.EnginesHave P := put <| when h onBoot
  exact ite h₁.put h₁

theorem overTemp (h : d.EnginesHave P) : d.overTemp.EnginesHave P := by
  unfold Device.overTemp
  refine ite ?_ h
  extract_lets +onlyGivenNames d₁
  have h₁ : d₁.EnginesHave P := h.aonEvent
  exact ite h₁ h₁.report

theorem thermalReset (h : d.Balances) : d.thermalReset.Balances := by
  unfold Device.thermalReset
  refine ite ?_ h
  extract_lets +onlyGivenNames d₁
  have h₁ : d₁.Balances := h.onBoot
  exact ite h₁ h₁.enterWarm.put

theorem thermalRelease (h : d.EnginesHave P) : d.thermalRelease.EnginesHave P := ite h.onBoot.release h

theorem keeperRestart (h : d.EnginesHave P) : d.keeperRestart.EnginesHave P := by
  unfold Device.keeperRestart
  extract_lets +onlyGivenNames d₁ d₂ d₃ d₄ d₅
  have h₁ : d₁.EnginesHave P := update h
  have h₂ : d₂.EnginesHave P := h₁.resetRegs
  have h₃ : d₃.EnginesHave P := ite h₂.mbxFinish h₂
  have h₄ : d₄.EnginesHave P := h₃.calKeeperRestart.clientInit
  have h₅ : d₅.EnginesHave P := ite h₄.put.event h₄
  exact ite h₅.put h₅

theorem watchdogExpiry (h : d.EnginesHave P) : d.watchdogExpiry.EnginesHave P :=
  ite h.keeperRestart.event.put.report h
theorem loopReset (h : d.EnginesHave P) : (d.loopReset c).EnginesHave P :=
  when (forEach h.cancelHop.onCore put) loseLock
theorem towReset (h : d.EnginesHave P) : d.towReset.EnginesHave P :=
  update (forEach h.resetRegs (fun h => ite h.alignEnd h))

theorem tpxReset (h : d.EnginesHave P) : d.tpxReset.EnginesHave P := by
  unfold Device.tpxReset
  extract_lets +onlyGivenNames d₁ _ d₂
  have h₁ : d₁.EnginesHave P := h.resetRegs
  have h₂ : d₂.EnginesHave P := update h₁
  exact ite h₂ h₂.clientInit

theorem domainEffects (h : d.Balances) : (d.domainEffects dom).Balances := by
  unfold Device.domainEffects
  refine ite (forEach h wharfReset) ?_
  refine ite h.loopReset ?_
  split
  · exact put resetEngines
  · exact h.keeperRestart
  · exact h.nvsEmpty
  · exact h.towReset
  · exact h.tpxReset
  · exact h.refReset
  · exact h

theorem domReset (h : d.Balances) : (d.domReset dom).Balances := by
  unfold Device.domReset
  refine ite h.put ?_
  extract_lets +onlyGivenNames d₁ d₂
  have h₁ : d₁.Balances := ite h.dropSwitch.put h
  have h₂ : d₂.Balances := ite h₁.opCut h₁
  exact h₂.holdDom.domainEffects

theorem domResetDone (h : d.EnginesHave P) : (d.domResetDone dom).EnginesHave P := ite h.onClk.put.putB.opNext h
theorem wrDomCtrl (h : d.Balances) : (d.wrDomCtrl v).Balances :=
  ite h (when (when h.put domReset) hostSwitch)

/-! ### Machine/Mailbox.lean -/

theorem onMbx {f : Mailbox → Mailbox} (h : d.EnginesHave P) : (d.onMbx f).EnginesHave P := update h

theorem mbxServe (h : d.EnginesHave P) : d.mbxServe.EnginesHave P := by
  unfold Device.mbxServe
  split
  · exact ite (ite h.mbxFinish h.onMbx) h
  · exact h

theorem wrMbxReq (h : d.EnginesHave P) : (d.wrMbxReq v).EnginesHave P := by
  unfold Device.wrMbxReq
  extract_lets +onlyGivenNames obj index d₁
  have h₁ : d₁.EnginesHave P := h.put.put
  refine ite ?_ h₁
  refine ite h₁.put ?_
  extract_lets +onlyGivenNames d₂
  have h₂ : d₂.EnginesHave P := h₁.put
  exact ite h₂.mbxFinish (mbxServe <| update h₂.put.put)

theorem mbxBoundary (h : d.EnginesHave P) : d.mbxBoundary.EnginesHave P := when h onMbx

theorem mbxCaptureDone {f : BitVec 24} (h : d.EnginesHave P) : (d.mbxCaptureDone f).EnginesHave P := by
  unfold Device.mbxCaptureDone
  split
  · exact ite h.mbxFinish h
  · exact ite h.mbxFinish h
  · exact ite h.mbxFinish h
  · exact ite h.mbxFinish h
  · exact ite h.mbxFinish h
  · exact h

theorem mbxCaptureTimeout (h : d.EnginesHave P) : d.mbxCaptureTimeout.EnginesHave P := by
  unfold Device.mbxCaptureTimeout
  split
  · exact ite h.mbxFinish h
  · exact h

theorem mbxStatus {status a b : Word} (h : d.EnginesHave P) : (d.mbxStatus status a b).EnginesHave P :=
  h.mbxFinish
theorem keeperCommand {f : Device → Device} (h : d.EnginesHave P)
    (hf : ∀ {d}, d.EnginesHave P → (f d).EnginesHave P) : (d.keeperCommand c f).EnginesHave P := ite (hf h) h
theorem version (h : d.EnginesHave P) : d.version.EnginesHave P := keeperCommand h mbxStatus

theorem trainWharf (h : d.EnginesHave P) : (d.trainWharf w).EnginesHave P := by
  unfold Device.trainWharf
  refine forEach h fun h₁ => ?_
  refine ite ?_ h₁
  extract_lets +onlyGivenNames d₂
  have h₂ : d₂.EnginesHave P := h₁.put.onLane
  exact trainingStart <| ite h₂.laneRest h₂

theorem keeperTrain (h : d.EnginesHave P) : d.keeperTrain.EnginesHave P :=
  keeperCommand h (fun h => ite h.mbxStatus h.trainWharf.mbxStatus)
theorem keeperEmitWharf (h : d.EnginesHave P) : d.keeperEmitWharf.EnginesHave P :=
  keeperCommand h (fun h => ite h (ite h.mbxStatus (ite (emitWharfDone <| onMbx <| update h) h.mbxStatus)))
theorem ptpRestart (h : d.EnginesHave P) : d.ptpRestart.EnginesHave P :=
  keeperCommand h (fun h => ite h.clientInit.mbxStatus h.mbxStatus)

/-! ### Machine/Indirect.lean -/

theorem xingErr (h : d.EnginesHave P) : (d.xingErr page).EnginesHave P := h.pageEvent.hspFlag
theorem setCapture {words : List Word} (h : d.EnginesHave P) :
    (d.setCapture page a words).EnginesHave P := update h
theorem indCapture {p : IndPlace} (h : d.EnginesHave P) : (d.indCapture page a p).2.EnginesHave P :=
  setCapture (ite h.noteErrors h)

theorem indReadWord {p : IndPlace} (h : d.EnginesHave P) : (d.indReadWord page a p).2.EnginesHave P := by
  unfold Device.indReadWord
  split
  · extract_lets +onlyGivenNames w
    split
    · split
      · exact h.setCapture
      · split
        · exact h.indCapture
        · exact h.dropCapture
    · split
      · exact h.indCapture
      · exact h.dropCapture
  · exact ite (update h.dropCapture) h.dropCapture

theorem indAdvance (h : d.EnginesHave P) : (d.indAdvance page).EnginesHave P := ite h.put h

theorem indLeave {first : Nat} (h : d.EnginesHave P) : (d.indLeave page first).EnginesHave P := by
  unfold Device.indLeave
  split
  · exact ite h h.dropStaged
  · exact h

theorem indRead (h : d.EnginesHave P) : (d.indRead page).2.EnginesHave P := by
  unfold Device.indRead
  split
  · extract_lets +onlyGivenNames a
    split
    · exact h.xingErr.indAdvance
    · split
      · exact h.dropStaged.dropCapture.pageEvent.indAdvance
      · exact h.indLeave.indReadWord.indAdvance
  · exact h

theorem wrIndAddr (h : d.EnginesHave P) : (d.wrIndAddr page v).EnginesHave P := ite h.dropStaged.put h
theorem writeTx (h : d.EnginesHave P) : (d.writeTx a v).EnginesHave P := ite h (update h)

theorem indWriteWord (h : d.EnginesHave P) : (d.indWriteWord page a v).EnginesHave P := by
  unfold Device.indWriteWord
  extract_lets +onlyGivenNames w
  refine ite (ite (update h) h) ?_
  split
  · exact h.setBandWord
  · exact ite (update h) h
  · exact ite h.onDec (ite h.onDec h)
  · exact h.onTowWharf
  · exact ite h.writeTx h
  · exact h

theorem indWriteEntry {p : IndPlace} {words : Store Word} (h : d.Balances) :
    (d.indWriteEntry page p words).Balances := by
  unfold Device.indWriteEntry
  split
  · exact h.requestBerthWrite
  · exact update h
  · exact ite h.onDec (ite h.onDec h.onDec)
  · exact h

theorem indStage {p : IndPlace} (h : d.Balances) : (d.indStage page a v p).Balances :=
  ite (indWriteEntry <| update h) (update h)

theorem indWrite {key : Bool} (h : d.Balances) : (d.indWrite page v key).Balances := by
  unfold Device.indWrite
  refine ite ?_ h
  extract_lets +onlyGivenNames a
  refine ite h.xingErr.indAdvance ?_
  split
  · exact h.dropStaged.pageEvent.indAdvance
  · extract_lets +onlyGivenNames d₁ d₂ d₃
    have h₁ : d₁.Balances := h.indLeave
    have h₂ : d₂.Balances := when h₁ markDirty
    have h₃ : d₃.Balances := ite h₂.indRefused (ite h₂.pageEvent (ite h₂.indWriteWord (ite h₂ h₂.indStage)))
    exact h₃.indAdvance

/-! ### Machine/Bus.lean -/

theorem onBus {f : Bus → Bus} (h : d.EnginesHave P) : (d.onBus f).EnginesHave P := update h
theorem scanStart (h : d.EnginesHave P) : d.scanStart.EnginesHave P := ite h.onBus.put h
theorem scanClean {crc : Nat} (h : d.EnginesHave P) : (d.scanClean crc).EnginesHave P :=
  ite h.put.put.put.event (ite h.bump.event.report h)

theorem scanEnd (h : d.EnginesHave P) : d.scanEnd.EnginesHave P := by
  unfold Device.scanEnd
  dsimp only
  split
  · exact event <| bump <| put <| ite (event <| update h.put) (event <| update h.put)
  · exact h.put.scanClean.put.bump.event

theorem scanDone {uncorr : Bool} (h : d.EnginesHave P) : (d.scanDone uncorr).EnginesHave P :=
  ite h.onBus.scanEnd h

theorem wrCfgCtrl (h : d.EnginesHave P) : (d.wrCfgCtrl v).EnginesHave P :=
  have h := h.put.put.put
  ite h.onBus.scanEnd h

theorem wrCrcRef (h : d.EnginesHave P) : (d.wrCrcRef v).EnginesHave P := h.put.put
theorem wrUnlock {p : Port} (h : d.EnginesHave P) : (d.wrUnlock p v).EnginesHave P :=
  ite (ite h.pageEvent h.put) h.put

theorem writeFields {r : Reg} (h : d.EnginesHave P) : (d.writeFields r i v).EnginesHave P := by
  unfold Device.writeFields
  refine forEach h fun h₁ => ?_
  split
  · exact h₁
  · exact h₁
  · exact ite h₁ h₁.put
  · exact h₁.put

theorem wrSliceSel (h : d.EnginesHave P) : (d.wrSliceSel v).EnginesHave P := forEach h.put put
theorem wrMonCfg (h : d.EnginesHave P) : (d.wrMonCfg c v).EnginesHave P := h.writeFields.onCore
theorem wrEpochHi (h : d.EnginesHave P) : (d.wrEpochHi v).EnginesHave P := h.put.writeFields
theorem wrMacHi (h : d.EnginesHave P) : (d.wrMacHi v).EnginesHave P := h.put.writeFields

theorem wrSystem {p : Port} {t : Device} (h : d.Balances) (e : d.wrSystem p b v = some t) : t.Balances := by
  unfold Device.wrSystem at e
  split at e <;> cases e
  · exact h.wrEnables
  · exact h.wrEnables
  · exact h.wrEnables
  · exact h.wrEnables
  · exact h.wrEnables
  · exact h.wrRefCtrl
  · exact h.wrDomCtrl
  · exact h.wrOpCtrl
  · exact h.wrNvsCtrl
  · exact h.wrNvsPush
  · exact h.wrNvsWdata
  · exact h.wrCfgCtrl
  · exact h.wrCrcRef
  · exact h.wrUnlock
  · exact h.wrMbxReq
  · exact h.wrCalCmd
  · exact h.wrCalApply
  · exact h.wrFltCtrl
  · exact h.wrFltClear
  · exact h.wrLogTail

theorem wrUnit {t : Device} (h : d.Balances) (e : d.wrUnit b i v = some t) : t.Balances := by
  unfold Device.wrUnit at e
  split at e <;> cases e
  · exact h.wrLoopApply
  · exact h.wrPhaseAdj
  · exact h.wrMonCfg
  · exact h.wrFcntCfg
  · exact h.writeFields.reduceTrim
  · exact h.wrAlignArm
  · exact h.wrAlignDisarm
  · exact h.wrTwinCtrl
  · exact h.wrTwinSwap
  · exact h.wrOutputSel
  · exact h.writeFields.dccEnable
  · exact h.wrOutputDelay
  · exact h.wrEngReset
  · exact h.wrHcqCtrl
  · exact h.wrSliceSel
  · exact h.wrCntCtrl
  · exact h.wrHcqWin
  · exact h.wrTtEnd
  · exact h.wrTtHead
  · exact h.wrDecCtrl
  · exact h.wrDecReset
  · exact h.wrRealign
  · exact h.wrPpsCfg
  · exact h.onTow
  · exact h.wrEpochHi
  · exact h.wrResolve
  · exact h.wrTptCtrl
  · exact h.onTpt
  · exact h.wrMacHi
  · exact h.wrRxRel
  · exact h.wrTxCtrl
  · exact h.wrTxtsRel
  · exact h.wrLaneCtrl
  · exact h.wrWhfCfg
  · exact h.wrWhfCmd

theorem writeReg {p : Port} {r : Reg} (h : d.Balances) : (d.writeReg p r i v).Balances := by
  unfold Device.writeReg
  extract_lets +onlyGivenNames d₁
  have h₁ : d₁.Balances := when h markDirty
  refine ite h (ite h.xingErr ?_)
  split
  next e =>
    rcases Option.or_eq_some_iff.mp e with e | ⟨-, e⟩
    · exact h₁.wrSystem e
    · exact h₁.wrUnit e
  next => exact h₁.writeFields

theorem closePair {p : Port} (h : d.EnginesHave P) : (d.closePair p).EnginesHave P := h.onBus
theorem failPair {p : Port} (h : d.EnginesHave P) : (d.failPair p addr).EnginesHave P := h.closePair.pageEvent

theorem writeGuarded {p : Port} (h : d.Balances) : (d.writeGuarded p addr v).Balances := by
  unfold Device.writeGuarded
  split
  · exact h.writeReg
  · exact h

theorem writeOpen {p : Port} (h : d.Balances) : (d.writeOpen p addr v).Balances := by
  unfold Device.writeOpen
  extract_lets +onlyGivenNames page ofs
  refine ite (ite h.put.writeGuarded h.onBus) ?_
  refine ite h.onBus ?_
  split
  · extract_lets +onlyGivenNames target b
    split
    · split
      · exact ite (ite h.writeReg h) h.writeReg
      · exact h
    · exact h
  · refine ite h.wrIndAddr ?_
    refine ite (when h.indWrite put) ?_
    split
    · exact h.writeReg
    · exact h

theorem busWrite {p : Port} (h : d.Balances) : (d.busWrite p addr v).Balances := by
  unfold Device.busWrite
  split
  · refine ite h.closePair.writeGuarded ?_
    extract_lets +onlyGivenNames d₁
    have h₁ : d₁.Balances := h.failPair
    exact ite h₁ (ite h₁.writeOpen h₁)
  · exact ite h.writeOpen h

theorem clearRead {r : Reg} (h : d.EnginesHave P) : (d.clearRead r i v).EnginesHave P :=
  forEach h (fun h => ite h.put h)

theorem readReg {r : Reg} {unstable : Bool} (h : d.EnginesHave P) : (d.readReg r i addr unstable).2.EnginesHave P := by
  unfold Device.readReg
  split
  · exact h
  · split
    · exact h.xingErr
    · split
      · exact h.readNvsRdata
      · split
        · exact h.readLastEvt3
        · split
          · split
            · exact h.clearRead.pageEvent
            · exact h.clearRead.onBus
          · exact h.clearRead

theorem readAddr {unstable : Bool} (h : d.EnginesHave P) : (d.readAddr addr unstable).2.EnginesHave P := by
  unfold Device.readAddr
  extract_lets +onlyGivenNames page ofs
  split
  · split
    · split
      · exact h
      · exact h
    · split
      · exact h.indRead
      · split
        · exact h.readReg
        · exact h
  · exact h

theorem busRead {unstable : Bool} (h : d.EnginesHave P) : (d.busRead addr unstable).2.EnginesHave P :=
  h.readAddr.onBus

theorem frameWord {last : Bool} (h : d.EnginesHave P) : (d.frameWord v last).EnginesHave P := by
  unfold Device.frameWord
  split
  · exact h
  · exact ite h.onHsp.hspReply h.onHsp

theorem writeUnlocked (h : d.Balances) : (d.writeUnlocked addr v).Balances := ite h.put.writeOpen.put h

theorem land {p : Port} {x : BusAccess} (h : d.Balances) : (d.land p x).Balances := by
  unfold Device.land
  split
  · exact ite h.writeUnlocked h.busWrite
  · exact h.hspFlag
  · exact h.busRead
  · exact h.busRead.frameWord
  · exact h.hspFlag.frameWord
  · exact h.formatReset

theorem setHeld {p : Port} {l : List BusAccess} (h : d.EnginesHave P) : (d.setHeld p l).EnginesHave P := h.onBus
theorem issue {p : Port} {l : List BusAccess} (h : d.EnginesHave P) : (d.issue p l).EnginesHave P := h.setHeld

theorem landN {p : Port} (h : d.Balances) : (Device.landN p n d).Balances := by
  induction n generalizing d with
  | zero => exact h
  | succ n ih =>
    unfold Device.landN
    split
    · exact h
    · exact ite h (ih h.setHeld.land)

theorem landAll {p : Port} (h : d.Balances) : (d.landAll p).Balances := h.landN

theorem landSome {p : Port} {n : Option Nat} (h : d.Balances) : (d.landSome p n).Balances := by
  unfold Device.landSome
  split
  · exact h.landN
  · exact h.landAll

theorem hspSelect (h : d.EnginesHave P) : d.hspSelect.EnginesHave P := h.onHsp.setHeld

theorem access {p : Port} {x : BusAccess} (h : d.Balances) : (d.access p x).Balances := by
  unfold Device.access
  split
  · exact h.hspSelect.issue.landAll
  · exact h.issue.landAll.landSome

theorem accessWrite {p : Port} (h : d.Balances) : (d.accessWrite p addr v).Balances := h.access
theorem landAfter {before : Device} (h : d.Balances) : (d.landAfter before).Balances :=
  forEach h (fun h => when h landAll)

theorem xingTimeout {write : Bool} (h : d.EnginesHave P) : (d.xingTimeout addr write).EnginesHave P := by
  unfold Device.xingTimeout
  extract_lets +onlyGivenNames page
  split
  · exact ite (when h.xingErr onBus) (ite (when h.xingErr onBus) h)
  · exact h

theorem hspWrite {stageFree : Bool} {landed : Option Nat} (h : d.Balances) :
    (d.hspWrite cycles stageFree landed).Balances := by
  unfold Device.hspWrite
  split
  · exact ite (ite h.aliveSync.bump.issue.landSome h.aliveSync.hspBad.landSome) h
  · exact h

theorem hspRead {busy : Nat} {abandoned : Bool} {landed : Option Nat} {unstable : List Nat} (h : d.Balances) :
    (d.hspRead cycles busy abandoned landed unstable).Balances := by
  unfold Device.hspRead
  split
  · refine ite ?_ h
    extract_lets +onlyGivenNames n head ok format d₁
    have h₁ : d₁.Balances := h.aliveSync.hspDrive
    exact ite (when h₁.bump.onHsp.issue.landSome hspSelect) (landSome <| when h₁.hspBad hspReply)
  · exact h

theorem hspResetFormat (h : d.EnginesHave P) : (d.hspResetFormat cycles).EnginesHave P := ite h.issue h
theorem frameRow {f : Device → Device} (h : d.Balances)
    (hf : ∀ {d}, d.Balances → (f d).Balances) : (d.frameRow f).Balances := landAll (hf h.hspSelect)

/-! ### Machine/Boot.lean -/

theorem stepDone (h : d.EnginesHave P) : (d.stepDone n).EnginesHave P := h.put.put
theorem bootRecord (h : d.EnginesHave P) : (d.bootRecord code).EnginesHave P := h.report
theorem bootWait (h : d.EnginesHave P) : (d.bootWait code).EnginesHave P := h.put.bootRecord
theorem bootFail (h : d.EnginesHave P) : (d.bootFail code).EnginesHave P := h.bootWait.put
theorem bootWarn {f : Fld} (h : d.EnginesHave P) : (d.bootWarn f code).EnginesHave P := h.put.bootRecord
theorem keeperWrite (h : d.Balances) : (d.keeperWrite addr v).Balances := h.issue.landAll
theorem bootEntry {e : BootEntry} (h : d.Balances) : (d.bootEntry e).Balances :=
  ite h.onBoot (ite h.onBoot (ite h.onBoot h.keeperWrite))
theorem bootPhase {p : Nat} (h : d.Balances) : (d.bootPhase p).Balances := forEach h bootEntry
theorem writeHeld {l : List BootEntry} (h : d.Balances) : (d.writeHeld l).Balances :=
  forEach h.onBoot keeperWrite

theorem keeperBoots {patch : Option (List Byte)} (h : d.EnginesHave P) :
    (d.keeperBoots patch).EnginesHave P := by
  unfold Device.keeperBoots
  extract_lets +onlyGivenNames d₁
  have h₁ : d₁.EnginesHave P := h.put
  split
  · exact update h₁.put.put
  · exact h₁

theorem keeperServes (h : d.EnginesHave P) : d.keeperServes.EnginesHave P := h.mbxServe.calServe
theorem flashRun {l : List FlashSeq} (h : d.EnginesHave P) : (d.flashRun l).EnginesHave P := h.onNvs

theorem bootPatch (h : d.EnginesHave P) : (d.bootPatch image).EnginesHave P :=
  have h := h.keeperBoots
  ite h h.bootWarn

theorem patchLoad {found : FlashProbe} (h : d.EnginesHave P) :
    (d.patchLoad image found).EnginesHave P := by
  unfold Device.patchLoad
  refine ite ?_ h
  extract_lets +onlyGivenNames d₁
  have h₁ : d₁.EnginesHave P := h.onNvs.flashRun
  split
  · split
    · exact h₁.flashRun.bootPatch.stepDone.keeperServes
    · exact h₁.bootPatch.stepDone.keeperServes
  · exact h.onBoot.keeperBoots.stepDone.keeperServes
  · exact h₁.keeperBoots.stepDone.bootWait.keeperServes

theorem loadBands (h : d.EnginesHave P) : d.loadBands.EnginesHave P := update h
theorem loadImage {m : Image} {loaded : Nat} (h : d.EnginesHave P) :
    (d.loadImage m loaded).EnginesHave P := h.onCal.put

theorem calLoad (h : d.EnginesHave P) : (d.calLoad flash).EnginesHave P := by
  unfold Device.calLoad
  refine loadBands <| onCal <| ite h.put ?_
  split
  · exact h.loadImage
  · exact ite h.loadImage.bootWarn h.loadImage

theorem bootCfgLoad (h : d.EnginesHave P) : (d.bootCfgLoad flash).EnginesHave P := by
  unfold Device.bootCfgLoad
  split
  · exact h.onBoot
  · exact ite h.bootWarn h

theorem stepFour (h : d.EnginesHave P) : d.stepFour.EnginesHave P := ite h.put.stepDone (ite h.put.stepDone h)

theorem stepSixStart (h : d.EnginesHave P) : d.stepSixStart.EnginesHave P := by
  unfold Device.stepSixStart
  refine ite ?_ h
  refine ite (forEach h startSwitch) ?_
  split
  · exact h.refuseSwitch.bootFail
  · exact forEach h.onClk startSwitch

theorem stepSixAsk (h : d.EnginesHave P) : d.stepSixAsk.EnginesHave P := by
  unfold Device.stepSixAsk
  refine ite h ?_
  extract_lets +onlyGivenNames d₁ r
  have h₁ : d₁.EnginesHave P := h.onBoot
  exact ite h₁ h₁.opRequest

theorem stepSixEnd (h : d.Balances) : d.stepSixEnd.Balances := by
  unfold Device.stepSixEnd
  refine ite ?_ h
  extract_lets +onlyGivenNames d₁
  have h₁ : d₁.Balances := h.stepSixAsk
  exact ite h₁ h₁.stepDone.bootPhase.onBoot

theorem stepFive (h : d.Balances) : d.stepFive.Balances := ite h.stepDone.bootPhase h
theorem bootAdvance (h : d.Balances) : d.bootAdvance.Balances :=
  ite h (when (when (when (when h stepFour) stepFive) stepSixStart) stepSixEnd)
theorem poll (h : d.Balances) : d.poll.Balances :=
  when h (fun h => h.refFailover.returnDomains.bootAdvance.opNext)
theorem calibrationLoad (h : d.Balances) : (d.calibrationLoad flash).Balances :=
  ite (poll <| stepDone <| bootPhase <| bootCfgLoad <| calLoad <| when (ite h.bootWarn h) flashRun) h
theorem refAbsent (h : d.EnginesHave P) : d.refAbsent.EnginesHave P := ite h.bootWait h
theorem mpl0Locks (h : d.EnginesHave P) : d.mpl0Locks.EnginesHave P := h.put.onTow
theorem mplLock (h : d.Balances) : d.mplLock.Balances := ite h.mpl0Locks.put.poll (when h put)
theorem mplLockTimeout {mpl1 : Bool} (h : d.EnginesHave P) : (d.mplLockTimeout mpl1).EnginesHave P :=
  ite (ite h.mpl0Locks.bootFail h.bootFail) h

theorem stepOpen (h : d.Balances) : (d.stepOpen q).Balances :=
  have h := h.onBoot.wrEnable
  ite h.writeHeld.wrEnable.wrEnable h.writeHeld

theorem blockOpen (h : d.Balances) : (d.blockOpen b).Balances := markDirty <| ite h.stepOpen h.wrEnable
theorem takeHeld (h : d.Balances) : (d.takeHeld q).Balances := ite h.writeHeld h
theorem blockShutdownDone (h : d.Balances) : (d.blockShutdownDone b).Balances := h.shutdownDone.takeHeld
theorem quietWarn (h : d.EnginesHave P) : (d.quietWarn w).EnginesHave P := when h bootWarn

theorem trainingMissed (h : d.EnginesHave P) : (d.trainingMissed n).EnginesHave P := by
  unfold Device.trainingMissed
  exact when h.trainingDeadline quietWarn

theorem stepSeven (h : d.EnginesHave P) : d.stepSeven.EnginesHave P := ite (ite (stepDone <| when h bootWarn) h) h
theorem stepEight (h : d.Balances) : d.stepEight.Balances :=
  ite h.stepDone.bootPhase.stepDone.put.put.put h

theorem realign {v : Option Nat} (h : d.EnginesHave P) : (d.realign v).EnginesHave P := by
  unfold Device.realign
  split
  · exact h.wrRealign
  · exact ite h.startAlign h

theorem followerNoMaster (h : d.EnginesHave P) : d.followerNoMaster.EnginesHave P := ite h.bootWait h
theorem towAlignedRow (h : d.Balances) : d.towAlignedRow.Balances := ite h.setAligned.stepEight h

theorem coarseDone (h : d.Balances) : d.coarseDone.Balances := by
  unfold Device.coarseDone
  extract_lets +onlyGivenNames d₁ d₂
  have h₁ : d₁.Balances := h.afterCoarse
  have h₂ : d₂.Balances := when h₁ put
  exact ite h₂.stepEight h₂

theorem keeperReboots (h : d.EnginesHave P) : (d.keeperReboots image).EnginesHave P :=
  ite (ite h.flashRun.bootPatch h.bootPatch) h.keeperBoots
theorem keeperResume (h : d.Balances) : (d.keeperResume image).Balances :=
  ite (poll <| fallForward <| keeperServes <| clientInit <| when (resetRef <| forEach (put <| keeperReboots <|
    update h) takeHeld) onTow) h
theorem continueCmd (h : d.EnginesHave P) : d.continueCmd.EnginesHave P :=
  keeperCommand h (fun h => ite h.onBoot.put.mbxStatus h.mbxStatus)

/-! ### Machine/Boundary.lean -/

theorem rewindFill (h : d.Balances) : (d.rewindFill e).Balances := by
  unfold Device.rewindFill
  split
  · exact h.onEngine
  · exact h

theorem jumpEngine (h : d.Balances) : (d.jumpEngine e).Balances := forEach h.setEngine rejectCmd
theorem jumpReject (h : d.Balances) : d.jumpReject.Balances := by
  unfold Device.jumpReject
  extract_lets +onlyGivenNames flown barges d₁ _ d₂ d₃ d₄ target stay gone d₅ _ _ d₆
  have h₁ : d₁.Balances := forEach h rewindFill
  have h₃ : d₃.Balances := forEach (forEach (updateEngines h₁) giveCredits) rejectCmd
  have h₄ : d₄.Balances := forEach h₃ jumpEngine
  have h₆ : d₆.Balances := updateEngines h₄.setHcq
  exact forEach h₆ rejectCmd

theorem rejudgeApply (h : d.EnginesHave P) : (d.rejudgeApply c).EnginesHave P := by
  unfold Device.rejudgeApply
  split
  · exact ite h.onCore (ite h.put.put.onCore h)
  · exact h

theorem rejudgeSwap (h : d.EnginesHave P) : (d.rejudgeSwap k).EnginesHave P := by
  unfold Device.rejudgeSwap
  split
  · exact ite h.setTwin.put.put h
  · exact h

theorem shiftStamps {j : Int} (h : d.EnginesHave P) : (d.shiftStamps j).EnginesHave P := h.onTow.onPtp
theorem jumpEffects (h : d.Balances) : (d.jumpEffects p).Balances :=
  reportAt <| event <| put <| shiftStamps <| update (applyRejudge <| forEach (forEach (forEach h.jumpReject alignDisarm)
    (fun h => h.cancelHop.rejudgeSwap)) rejudgeApply)

theorem boundary {n : Pound} {jump : Bool} (h : d.Balances) :
    (d.boundary n jump raw dith).Balances := by
  unfold Device.boundary
  extract_lets +onlyGivenNames p d₁ _ d₂ barges d₃ d₄ d₅ d₆
  have h₁ : d₁.Balances := h.sampleTwins.onTow
  have h₂ : d₂.Balances := wharvesDue <| update h₁
  have h₃ : d₃.Balances := ite h₂.jumpEffects h₂.commitAll
  have h₄ : d₄.Balances := decBoundary <| settleFences <| refreshBoundary <| update h₃
  have h₅ : d₅.Balances := forEach h₄.mbxBoundary coreBoundary
  have h₆ : d₆.Balances := h₅.outputsBoundary.wharvesBoundary.sendFrames
  exact h₆.tickOutBoundary.tickInBoundary.stepSeven

theorem mergeEvents {pages : List Nat} (h : d.EnginesHave P) : (d.mergeEvents pages).EnginesHave P :=
  forEach h pageEvent

theorem poundBoundary (h : d.Balances) : (d.poundBoundary raw dith merged).Balances := by
  unfold Device.poundBoundary
  refine ite ?_ h
  extract_lets +onlyGivenNames d₁
  have h₁ : d₁.Balances := h.mergeEvents.boundary
  refine ite ?_ h₁
  split
  · exact h₁.coarseDone
  · exact ite h₁ h₁.jumpRefused

theorem poundJump (h : d.Balances) : (d.poundJump raw dith merged).Balances := by
  unfold Device.poundJump
  refine ite ?_ h
  split
  · exact h.mergeEvents.boundary.coarseDone
  · exact h

/-! ### One command, and the step -/

theorem always {s : State} {f : Device → Device} (h : s.dev.EnginesHave P)
    (hf : ∀ {d}, d.EnginesHave P → (f d).EnginesHave P) : (s.always f).dev.EnginesHave P := hf h

theorem on {s : State} {f : Device → Device} (h : s.dev.EnginesHave P)
    (hf : ∀ {d}, d.EnginesHave P → (f d).EnginesHave P) : (s.on f).dev.EnginesHave P := by
  unfold State.on
  split
  · exact h
  · exact hf h

/-- Every command answers a next state, and its effect keeps the balance. -/
theorem exec {s : State} (i : Instr) (h : s.dev.Balances) :
    ∃ t, Machine.exec i s = .next t ∧ t.dev.Balances := by
  cases i with
  | powerOnReset => exact ⟨_, rfl, h.always fun _ => powerOnReset⟩
  | powerOnResetEnd => exact ⟨_, rfl, h.always powerOnEnd⟩
  | warmReset => exact ⟨_, rfl, h.always pinReset⟩
  | resetNRelease => exact ⟨_, rfl, h.always pinRelease⟩
  | brownout => exact ⟨_, rfl, h.always brownout⟩
  | brownoutRecovered => exact ⟨_, rfl, h.always brownoutOver⟩
  | railDip => exact ⟨_, rfl, h.always railDip⟩
  | overTemp => exact ⟨_, rfl, h.always overTemp⟩
  | thermalReset => exact ⟨_, rfl, h.always thermalReset⟩
  | thermalRelease => exact ⟨_, rfl, h.always thermalRelease⟩
  | pgLost => exact ⟨_, rfl, h.always fun h => h.pgLost.poll⟩
  | keeperWatchdogExpiry => exact ⟨_, rfl, h.on watchdogExpiry⟩
  | patchLoad => exact ⟨_, rfl, h.on patchLoad⟩
  | calibrationLoad => exact ⟨_, rfl, h.on calibrationLoad⟩
  | refAbsent => exact ⟨_, rfl, h.on refAbsent⟩
  | mplLock => exact ⟨_, rfl, h.on fun h => h.mplLock.landAfter⟩
  | mplLockTimeout => exact ⟨_, rfl, h.on fun h => h.mplLockTimeout.landAfter⟩
  | followerNoMaster => exact ⟨_, rfl, h.on followerNoMaster⟩
  | judgeWindow => exact ⟨_, rfl, h.on fun h => h.judgeSource.poll.landAfter⟩
  | stopDetect => exact ⟨_, rfl, h.on stopDetect⟩
  | refSwitch => exact ⟨_, rfl, h.on fun h => h.wrRefCtrl.markDirty⟩
  | mpl0Relock => exact ⟨_, rfl, h.on mpl0Relock⟩
  | mpl1Unlock => exact ⟨_, rfl, h.on mpl1Unlock⟩
  | domainSwitch => exact ⟨_, rfl, h.on fun h => h.wrDomCtrl.markDirty⟩
  | switchDone => exact ⟨_, rfl, h.on fun h => h.switchDone.poll⟩
  | switchForced => exact ⟨_, rfl, h.on fun h => h.switchForced.poll⟩
  | rampStep => exact ⟨_, rfl, h.on fun h => h.rampStep.poll⟩
  | domReset => exact ⟨_, rfl, h.on fun h => h.wrDomCtrl.markDirty⟩
  | blockClose => exact ⟨_, rfl, h.on blockClose⟩
  | gateBusAbort => exact ⟨_, rfl, h.on gateBusAbort⟩
  | blockShutdownDone => exact ⟨_, rfl, h.on blockShutdownDone⟩
  | blockOpen => exact ⟨_, rfl, h.on blockOpen⟩
  | blockOpenDone => exact ⟨_, rfl, h.on blockOpenDone⟩
  | opRequest => exact ⟨_, rfl, h.on fun h => h.wrOpCtrl.poll.markDirty⟩
  | pgBlankingEnd => exact ⟨_, rfl, h.always fun h => h.pgBlankingEnd.poll⟩
  | raiseFailed => exact ⟨_, rfl, h.on fun h => h.raiseFailed.poll⟩
  | auxDivUpdate => exact ⟨_, rfl, h.on auxDivUpdate⟩
  | auxSscUpdate => exact ⟨_, rfl, h.on auxSscUpdate⟩
  | poundBoundary => exact ⟨_, rfl, h.on poundBoundary⟩
  | lateReject => exact ⟨_, rfl, h.on lateReject⟩
  | hcqPush => exact ⟨_, rfl, h.on wrHcqWin⟩
  | hcqRelease => exact ⟨_, rfl, h.on hcqRelease⟩
  | flush => exact ⟨_, rfl, h.on fun h => h.wrHcqCtrl.markDirty⟩
  | ttRelease => exact ⟨_, rfl, h.on ttRelease⟩
  | ttEndWrite => exact ⟨_, rfl, h.on fun h => ifOpen h wrTtEnd⟩
  | kpqSubmit => exact ⟨_, rfl, h.on kpqSubmit⟩
  | kpqRelease => exact ⟨_, rfl, h.on kpqRelease⟩
  | refreshSubmit => exact ⟨_, rfl, h.on refreshSubmit⟩
  | nop => exact ⟨_, rfl, h.on engineStep⟩
  | setFreq => exact ⟨_, rfl, h.on engineStep⟩
  | setFreqPhase => exact ⟨_, rfl, h.on engineStep⟩
  | addPhase => exact ⟨_, rfl, h.on engineStep⟩
  | bind => exact ⟨_, rfl, h.on engineStep⟩
  | release => exact ⟨_, rfl, h.on engineStep⟩
  | emit => exact ⟨_, rfl, h.on engineStep⟩
  | prepHopTwin => exact ⟨_, rfl, h.on engineStep⟩
  | prepHopRetune => exact ⟨_, rfl, h.on engineStep⟩
  | prepHopPark => exact ⟨_, rfl, h.on engineStep⟩
  | fence => exact ⟨_, rfl, h.on takeFence⟩
  | fill => exact ⟨_, rfl, h.on fillStep⟩
  | steal => exact ⟨_, rfl, h.on steal⟩
  | fenceRelease => exact ⟨_, rfl, h.on fenceRelease⟩
  | fenceTimeout => exact ⟨_, rfl, h.on fenceTimeout⟩
  | engCntSnap => exact ⟨_, rfl, h.on wrCntCtrl⟩
  | cntSnapCapture => exact ⟨_, rfl, h.on snapCapture⟩
  | enginesReset => exact ⟨_, rfl, h.on wrEngReset⟩
  | enginesResetDone => exact ⟨_, rfl, h.on enginesResetDone⟩
  | hcqReset => exact ⟨_, rfl, h.on wrEngReset⟩
  | kpqReset => exact ⟨_, rfl, h.on wrEngReset⟩
  | coreLoad => exact ⟨_, rfl, h.on coreLoad⟩
  | loopApply => exact ⟨_, rfl, h.on wrLoopApply⟩
  | loopApplyTakeEffect => exact ⟨_, rfl, h.on loopApplyTake⟩
  | bandSearchDone => exact ⟨_, rfl, h.on bandSearchDone⟩
  | lockGained => exact ⟨_, rfl, h.on lockGained⟩
  | lockLost => exact ⟨_, rfl, h.on lockLost⟩
  | reacquireTimeout => exact ⟨_, rfl, h.on reacquireTimeout⟩
  | cycleSlip => exact ⟨_, rfl, h.on cycleSlip⟩
  | tuneEdge => exact ⟨_, rfl, h.on tuneEdge⟩
  | fcntStart => exact ⟨_, rfl, h.on wrFcntCfg⟩
  | fcntDone => exact ⟨_, rfl, h.on fcntDone⟩
  | phaseAdj => exact ⟨_, rfl, h.on wrPhaseAdj⟩
  | monitorAverage => exact ⟨_, rfl, h.on monitorAverage⟩
  | monitorHoldEnd => exact ⟨_, rfl, h.on monitorHoldEnd⟩
  | realigned => exact ⟨_, rfl, h.on realigned⟩
  | twinEnWrite => exact ⟨_, rfl, h.on fun h => h.wrTwinCtrl.markDirty⟩
  | hopBlankEnd => exact ⟨_, rfl, h.on hopBlankEnd⟩
  | retuneSlow => exact ⟨_, rfl, h.on retuneSlow⟩
  | hopReady => exact ⟨_, rfl, h.on hopReadyStep⟩
  | twinSwitch => exact ⟨_, rfl, h.on twinSwitch⟩
  | deferSwitch => exact ⟨_, rfl, h.on deferSwitch⟩
  | deferTimeout => exact ⟨_, rfl, h.on deferTimeout⟩
  | twinSwap => exact ⟨_, rfl, h.on wrTwinSwap⟩
  | outputSourceSelect => exact ⟨_, rfl, h.on fun h => h.wrOutputSel.markDirty⟩
  | outputSourceChange => exact ⟨_, rfl, h.on outputSourceChange⟩
  | delayWalk => exact ⟨_, rfl, h.on delayWalk⟩
  | delayWalkDone => exact ⟨_, rfl, h.on delayWalkDone⟩
  | dccLock => exact ⟨_, rfl, h.on dccLock⟩
  | alignArm => exact ⟨_, rfl, h.on wrAlignArm⟩
  | alignDisarm => exact ⟨_, rfl, h.on wrAlignDisarm⟩
  | alignStrobe => exact ⟨_, rfl, h.on alignStrobe⟩
  | alignStrobeEnd => exact ⟨_, rfl, h.on alignStrobeEnd⟩
  | berthIndirectRead => exact ⟨_, rfl, h.on fun h => ite h.access h⟩
  | berthIndirectWrite => exact ⟨_, rfl, h.on fun h => ite h.accessWrite h⟩
  | berthIndWriteCommit => exact ⟨_, rfl, h.on berthWriteCommit⟩
  | laneFrameReceive => exact ⟨_, rfl, h.on frameReceive⟩
  | deskewRelease => exact ⟨_, rfl, h.on deskewRelease⟩
  | decisionLookup => exact ⟨_, rfl, h.on decisionLookup⟩
  | listAccept => exact ⟨_, rfl, h.on listAccept⟩
  | deferredMove => exact ⟨_, rfl, h.on deferredMove⟩
  | actqRelease => exact ⟨_, rfl, h.on actqRelease⟩
  | windowAdvance => exact ⟨_, rfl, h.on windowAdvance⟩
  | decClear => exact ⟨_, rfl, h.on fun h => ifOpen h wrDecCtrl⟩
  | decClearDone => exact ⟨_, rfl, h.on decClearDone⟩
  | decFlush => exact ⟨_, rfl, h.on fun h => ifOpen h wrDecCtrl⟩
  | decUnitReset => exact ⟨_, rfl, h.on fun h => ifOpen h wrDecReset⟩
  | decLastEvtRead => exact ⟨_, rfl, h.on access⟩
  | realign => exact ⟨_, rfl, h.on realign⟩
  | poundJump => exact ⟨_, rfl, h.on poundJump⟩
  | towAligned => exact ⟨_, rfl, h.on towAlignedRow⟩
  | towLoadFallback => exact ⟨_, rfl, h.on loadFallback⟩
  | wharfDelayMeasurement => exact ⟨_, rfl, h.on delayMeasurement⟩
  | towWhfResolve => exact ⟨_, rfl, h.on wrResolve⟩
  | tickInEdge => exact ⟨_, rfl, h.on tickEdge⟩
  | tickInLost => exact ⟨_, rfl, h.on tickLost⟩
  | ppsInEdge => exact ⟨_, rfl, h.on ppsEdge⟩
  | ppsInLost => exact ⟨_, rfl, h.on ppsLost⟩
  | ppsOutPulse => exact ⟨_, rfl, h.on ppsOutPulse⟩
  | ppsOutEnd => exact ⟨_, rfl, h.on ppsOutEnd⟩
  | timeRxFrame => exact ⟨_, rfl, h.on timeRx⟩
  | ptpDelayReq => exact ⟨_, rfl, h.on delayReq⟩
  | ptpAnnounceTimeout => exact ⟨_, rfl, h.on announceTimeout⟩
  | timeLinkChange => exact ⟨_, rfl, h.on linkChange⟩
  | rxRelease => exact ⟨_, rfl, h.on fun h => ifOpen h wrRxRel⟩
  | timeTxSend => exact ⟨_, rfl, h.on fun h => ifOpen h wrTxCtrl⟩
  | timeTxDone => exact ⟨_, rfl, h.on txDone⟩
  | txtsRelease => exact ⟨_, rfl, h.on fun h => ifOpen h wrTxtsRel⟩
  | timeModeChange => exact ⟨_, rfl, h.on fun h => ifOpen h (fun h => h.wrTptCtrl.markDirty)⟩
  | laneEnable => exact ⟨_, rfl, h.on fun h => ifOpen h (fun h => h.wrLaneCtrl.markDirty)⟩
  | trainingStart => exact ⟨_, rfl, h.on trainingStart⟩
  | acquireDone => exact ⟨_, rfl, h.on acquireDone⟩
  | capsEnter => exact ⟨_, rfl, h.on capsEnter⟩
  | laneJoin => exact ⟨_, rfl, h.on laneJoin⟩
  | trainingDeadline => exact ⟨_, rfl, h.on trainingMissed⟩
  | quietBackoffEnd => exact ⟨_, rfl, h.on backoffEnd⟩
  | lossOfSignal => exact ⟨_, rfl, h.on lossOfSignal⟩
  | cdrLockLoss => exact ⟨_, rfl, h.on cdrLoss⟩
  | laneRetrain => exact ⟨_, rfl, h.on fun h => ifOpen h (fun h => h.wrLaneCtrl.markDirty)⟩
  | laneFailure => exact ⟨_, rfl, h.on laneFail⟩
  | laneShed => exact ⟨_, rfl, h.on fun h => ite h (atNext h shedLane)⟩
  | creditExchangeStart => exact ⟨_, rfl, h.on exchangeStart⟩
  | creditGrant => exact ⟨_, rfl, h.on creditGrant⟩
  | exchFail => exact ⟨_, rfl, h.on exchFail⟩
  | wharfDown => exact ⟨_, rfl, h.on fun h => ite (atNext h goDown) h⟩
  | wharfRetrain => exact ⟨_, rfl, h.on wrWhfCmd⟩
  | wharfReset => exact ⟨_, rfl, h.on wrWhfCmd⟩
  | powerStateRequest => exact ⟨_, rfl, h.on fun h => ifOpen h (fun h => h.wrWhfCfg.markDirty)⟩
  | standbyEnter => exact ⟨_, rfl, h.on standbyEnter⟩
  | standbyExit => exact ⟨_, rfl, h.on standbyExit⟩
  | deepEnter => exact ⟨_, rfl, h.on deepEnter⟩
  | deepExit => exact ⟨_, rfl, h.on deepExit⟩
  | calStart => exact ⟨_, rfl, h.on wrCalCmd⟩
  | calRunDone => exact ⟨_, rfl, h.on calRunDone⟩
  | calPreconditionFail => exact ⟨_, rfl, h.on calPrecondition⟩
  | calAbort => exact ⟨_, rfl, h.on wrCalCmd⟩
  | calDiscard => exact ⟨_, rfl, h.on wrCalCmd⟩
  | calApplyRequest => exact ⟨_, rfl, h.on wrCalApply⟩
  | calApply => exact ⟨_, rfl, h.on calApply⟩
  | calStore => exact ⟨_, rfl, h.on wrCalCmd⟩
  | calStoreDone => exact ⟨_, rfl, h.on calStoreDone⟩
  | hspWrite => exact ⟨_, rfl, h.on fun h => h.hspSelect.hspWrite⟩
  | hspRead => exact ⟨_, rfl, h.on fun h => h.hspSelect.hspRead⟩
  | hspStatus => exact ⟨_, rfl, h.on fun h => frameRow h hspStatus⟩
  | resetFormat => exact ⟨_, rfl, h.on fun h => frameRow h hspResetFormat⟩
  | hspReservedOpcode => exact ⟨_, rfl, h.on fun h => frameRow h hspReserved⟩
  | hspCut => exact ⟨_, rfl, h.on fun h => frameRow h hspCut⟩
  | nvsPush => exact ⟨_, rfl, h.on wrNvsPush⟩
  | nvsEntry => exact ⟨_, rfl, h.on nvsStart⟩
  | nvsEntryDone => exact ⟨_, rfl, h.on nvsEntryDone⟩
  | nvsPoll => exact ⟨_, rfl, h.on nvsPoll⟩
  | nvsPollTimeout => exact ⟨_, rfl, h.on nvsPollTimeout⟩
  | nvsResume => exact ⟨_, rfl, h.on fun h => h.wrNvsCtrl.markDirty⟩
  | nvsFlush => exact ⟨_, rfl, h.on fun h => h.wrNvsCtrl.markDirty⟩
  | hostOwn => exact ⟨_, rfl, h.on fun h => h.wrNvsCtrl.markDirty⟩
  | ownGranted => exact ⟨_, rfl, h.on ownGranted⟩
  | nvsRdataRead => exact ⟨_, rfl, h.on fun h => update h.readNvsRdata⟩
  | nvsWdataWrite => exact ⟨_, rfl, h.on wrNvsWdata⟩
  | registerWrite => exact ⟨_, rfl, h.on accessWrite⟩
  | rcRead => exact ⟨_, rfl, h.on access⟩
  | aliasWrite => exact ⟨_, rfl, h.on fun h => ite h.accessWrite h⟩
  | guardPairWrite => exact ⟨_, rfl, h.on fun h => ite h.accessWrite h⟩
  | guardTimeout =>
    refine ⟨_, rfl, h.on fun h => ?_⟩
    split
    · exact h.failPair
    · exact h
  | cfgUnlock => exact ⟨_, rfl, h.on accessWrite⟩
  | unlockExpiry => exact ⟨_, rfl, h.on put⟩
  | indirectAddrWrite => exact ⟨_, rfl, h.on accessWrite⟩
  | indirectDataWrite => exact ⟨_, rfl, h.on accessWrite⟩
  | indirectDataRead => exact ⟨_, rfl, h.on access⟩
  | xingTimeout => exact ⟨_, rfl, h.on xingTimeout⟩
  | cfgScan => exact ⟨_, rfl, h.on scanStart⟩
  | cfgScanDone => exact ⟨_, rfl, h.on scanDone⟩
  | commitRequest => exact ⟨_, rfl, h.on put⟩
  | cfgCrcRefWrite => exact ⟨_, rfl, h.on wrCrcRef⟩
  | coreSettings => exact ⟨_, rfl, h.on wrMbxReq⟩
  | corePhase => exact ⟨_, rfl, h.on wrMbxReq⟩
  | mbxCaptureDone => exact ⟨_, rfl, h.on mbxCaptureDone⟩
  | mbxCaptureTimeout => exact ⟨_, rfl, h.on mbxCaptureTimeout⟩
  | time => exact ⟨_, rfl, h.on wrMbxReq⟩
  | pps => exact ⟨_, rfl, h.on wrMbxReq⟩
  | parent => exact ⟨_, rfl, h.on wrMbxReq⟩
  | mbxUnknownObject => exact ⟨_, rfl, h.on fun h => ite h.wrMbxReq h⟩
  | version => exact ⟨_, rfl, h.on version⟩
  | continueStart => exact ⟨_, rfl, h.on continueCmd⟩
  | trainWharf => exact ⟨_, rfl, h.on keeperTrain⟩
  | emitWharf => exact ⟨_, rfl, h.on keeperEmitWharf⟩
  | ptpRestart => exact ⟨_, rfl, h.on ptpRestart⟩
  | faultReport => exact ⟨_, rfl, h.on faultReport⟩
  | fltClear => exact ⟨_, rfl, h.on wrFltClear⟩
  | clearAll => exact ⟨_, rfl, h.on fun h => h.wrFltCtrl.markDirty⟩
  | fltLogTailWrite => exact ⟨_, rfl, h.on wrLogTail⟩
  | keeperResume => exact ⟨_, rfl, h.on keeperResume⟩
  | domResetDone => exact ⟨_, rfl, h.on fun h => h.domResetDone.poll⟩
  | testmodeChange => exact ⟨_, rfl, h.always onBoot⟩
  | sensorUpdate => exact ⟨_, rfl, h.always sensorUpdate⟩

theorem step {s t : State} (h : s.dev.Balances) (e : Machine.step s = .next t) : t.dev.Balances := by
  unfold Machine.step at e
  split at e
  · cases e; exact h
  · next i rest _ =>
    obtain ⟨t', e', h'⟩ := exec (s := { s with pending := rest }) i h
    cases e'.symm.trans e
    exact h'

end Device.EnginesHave

/-- Settles O5: each operation of the device keeps the balance of the counts, so each command does. -/
theorem countsBalanceKept : Obligations.CountsBalanceKept := by
  unfold Obligations.CountsBalanceKept
  exact fun _ _ h e => Device.EnginesHave.step h e

end Sys2Proof.Machine
end

section
/-! What the operations on fences, queues and rejected commands change, and the values they leave (R189-R194). -/

namespace Sys2Proof.Machine

variable {a b c d : Device}

/-! ### Parts and register fields together -/

/-- From a to b only the parts `ps` and the register fields with the keys `ks` change. -/
structure Device.Within (ps : List Part) (ks : List Nat) (a b : Device) : Prop where
  parts : a.KeepsParts ps b
  regs : a.KeepsRegs ks b

namespace Device.Within

variable {ps ps' : List Part} {ks ks' : List Nat}

theorem refl (d : Device) : d.Within ps ks d := ⟨.refl _ d, .refl _ d⟩

theorem trans (h : a.Within ps ks b) (h' : b.Within ps' ks' c) : a.Within (ps ++ ps') (ks ++ ks') c :=
  ⟨h.parts.trans h'.parts, h.regs.trans h'.regs⟩

theorem mono (h : a.Within ps ks b) (hp : ∀ p, p ∈ ps → p ∈ ps') (hk : ∀ k, k ∈ ks → k ∈ ks') : a.Within ps' ks' b :=
  ⟨h.parts.mono hp, h.regs.mono hk⟩

/-- Two operations within the same bounds are within them together. -/
theorem andThen (h : a.Within ps ks b) (h' : b.Within ps ks c) : a.Within ps ks c :=
  (h.trans h').mono (by simp) (by simp)

theorem ite {x : Prop} [Decidable x] (h : d.Within ps ks a) (h' : d.Within ps ks b) : d.Within ps ks (if x then a else b) := by
  split
  · exact h
  · exact h'

theorem when {x : Bool} {f : Device → Device} (hf : ∀ d : Device, d.Within ps ks (f d)) : d.Within ps ks (d.when x f) :=
  ite (hf d) (refl d)

theorem forEach {α : Type} {l : List α} {f : α → Device → Device} (hf : ∀ (x : α) (d : Device), d.Within ps ks (f x d)) :
    d.Within ps ks (Machine.forEach l f d) := by
  unfold Machine.forEach
  induction l generalizing d with
  | nil => exact refl d
  | cons x t ih => exact (hf x d).andThen ih

theorem eng (h : a.Within ps ks b) (hp : .eng ∉ ps := by decide) : b.eng = a.eng := h.parts .eng hp
theorem dec (h : a.Within ps ks b) (hp : .dec ∉ ps := by decide) : b.dec = a.dec := h.parts .dec hp
theorem flt (h : a.Within ps ks b) (hp : .flt ∉ ps := by decide) : b.flt = a.flt := h.parts .flt hp
theorem tow (h : a.Within ps ks b) (hp : .tow ∉ ps := by decide) : b.tow = a.tow := h.parts .tow hp
theorem get (h : a.Within ps ks b) (f : Fld) (i : Nat) (hk : f.key i ∉ ks) : b.get f i = a.get f i := h.regs.get f i hk

theorem put (d : Device) (f : Fld) (i v : Nat) : d.Within [] [f.key i] (d.put f i v) := ⟨d.put_keepsParts f i v, d.put_keepsRegs f i v⟩
theorem bump (d : Device) (f : Fld) : d.Within [] [f.key 0] (d.bump f) := put d f 0 _
theorem event (d : Device) (f : Fld) : d.Within [] (evKeys f) (d.event f) := ⟨d.event_keepsParts f 0, d.event_keepsRegs f 0⟩
theorem report (d : Device) (cls src code reporter : Nat) : d.Within [.flt] reportKeys (d.report cls src code reporter) :=
  ⟨d.reportAt_keepsParts cls src code reporter none, d.reportAt_keepsRegs cls src code reporter none⟩

/-- The engines' part is given a new value. -/
theorem setEng (d : Device) (e : Engines) : d.Within [.eng] [] { d with eng := e } := by
  refine ⟨fun p hp => ?_, .refl _ _⟩
  cases p with
  | eng => exact absurd (List.mem_singleton.mpr rfl) hp
  | _ => rfl

theorem setDec (d : Device) (e : Decisions) : d.Within [.dec] [] { d with dec := e } := by
  refine ⟨fun p hp => ?_, .refl _ _⟩
  cases p with
  | dec => exact absurd (List.mem_singleton.mpr rfl) hp
  | _ => rfl

theorem setFlt (d : Device) (e : FaultUnit) : d.Within [.flt] [] { d with flt := e } := by
  refine ⟨fun p hp => ?_, .refl _ _⟩
  cases p with
  | flt => exact absurd (List.mem_singleton.mpr rfl) hp
  | _ => rfl

end Device.Within

/-- An event bit reads 1 after its event. -/
theorem Device.get_event (d : Device) (f : Fld) (hf : f.width = 1) (hk : f.key 0 ≠ F.IRQ_STAT_EVT.key (f.page 0)) :
    (d.event f).get f 0 = 1 := by
  have odd (x : Nat) : setBit x 0 % 2 = 1 := by
    simp only [setBit, setBits, bits]
    omega
  unfold Device.event Device.eventBit Device.irqStat
  rw [Device.get_put_ne _ _ _ _ _ _ hk, Device.get_put, hf]
  exact odd _

/-! ### Rejections and their records (R167-R169, R194) -/

theorem Device.logWeir_within (d : Device) (before : Nat) : d.Within [] (evKeys F.FLT_EVT_LOG_HIGH) (d.logWeir before) :=
  .when (Within.event · _)

theorem Device.logRecord_within (d : Device) (rec : BitVec 128) : d.Within [.flt] logKeys (d.logRecord rec) := by
  refine .ite ?_ ?_
  · exact ((Within.bump d _).trans (.event _ _)).mono (by decide) (by decide)
  · exact (((Within.setFlt d _).trans (.put _ _ _ _)).trans (logWeir_within _ _)).mono (by decide) (by decide)

theorem Device.effect_within (d : Device) (c : Cmd) (code : Code) (gen : BitVec 16) :
    d.Within [.flt] logKeys (d.effect c code gen) := by
  unfold Device.effect
  extract_lets mode wanted
  exact .when (fun d => d.logRecord_within _)

/-- A record of the effect log leaves the report queue. -/
theorem Device.logRecord_queue (d : Device) (rec : BitVec 128) : (d.logRecord rec).flt.queue = d.flt.queue := by
  unfold Device.logRecord
  split
  · exact congrArg (·.queue) ((Within.bump d _).trans (.event _ _)).flt
  · extract_lets +onlyGivenNames before head
    exact congrArg (·.queue) ((Within.put _ _ _ _).trans (logWeir_within _ _)).flt

theorem Device.effect_queue (d : Device) (c : Cmd) (code : Code) (gen : BitVec 16) : (d.effect c code gen).flt.queue = d.flt.queue := by
  unfold Device.effect Device.when
  extract_lets
  split
  · exact d.logRecord_queue _
  · rfl

theorem Device.count_within (d : Device) (s : Fin 4) (f : Counts → Counts) : d.Within [.eng] [] (d.count s f) := .setEng d _

theorem Device.rejectCmd_within (d : Device) (c : Cmd) (code : Code) (gen : BitVec 16) :
    d.Within [.eng, .flt] logKeys (d.rejectCmd c code gen) :=
  (d.count_within c.src _).trans (effect_within _ c code gen)

theorem Device.applyCmd_within (d : Device) (c : Cmd) (gen : BitVec 16) : d.Within [.eng, .flt] logKeys (d.applyCmd c gen) :=
  (d.count_within c.src _).trans (effect_within _ c 0 gen)

theorem Device.rejectCmd_eng (d : Device) (c : Cmd) (code : Code) (gen : BitVec 16) :
    (d.rejectCmd c code gen).eng = d.eng.setCounts c.src ((d.eng.counts c.src).reject (code == 1)) :=
  (effect_within _ c code gen).eng

theorem Device.applyCmd_eng (d : Device) (c : Cmd) (gen : BitVec 16) :
    (d.applyCmd c gen).eng = d.eng.setCounts c.src (d.eng.counts c.src).apply :=
  (effect_within _ c 0 gen).eng

theorem Device.rejectCmd_queue (d : Device) (c : Cmd) (code : Code) (gen : BitVec 16) :
    (d.rejectCmd c code gen).flt.queue = d.flt.queue :=
  effect_queue _ c code gen

@[simp] theorem Engines.counts_setCounts (e : Engines) (s : Fin 4) (x : Counts) : (e.setCounts s x).counts s = x := by
  fin_cases s <;> rfl

@[simp] theorem Engines.setCounts_engine (e : Engines) (s : Fin 4) (x : Counts) : (e.setCounts s x).engine = e.engine := by
  fin_cases s <;> rfl

@[simp] theorem Engines.setCounts_flights (e : Engines) (s : Fin 4) (x : Counts) : (e.setCounts s x).flights = e.flights := by
  fin_cases s <;> rfl

@[simp] theorem Engines.setCounts_hcq (e : Engines) (s : Fin 4) (x : Counts) : (e.setCounts s x).hcq = e.hcq := by
  fin_cases s <;> rfl

@[simp] theorem Engines.setCounts_kpq (e : Engines) (s : Fin 4) (x : Counts) : (e.setCounts s x).kpq = e.kpq := by
  fin_cases s <;> rfl

@[simp] theorem Engines.setCounts_holds (e : Engines) (s : Fin 4) (x : Counts) : (e.setCounts s x).holds = e.holds := by
  fin_cases s <;> rfl

/-! ### Fences passed (R189, R190) -/

/-- The register fields that show the fences passed. -/
def fenceKeys : List Nat :=
  [F.ENG_FENCE_FLAGS_VALID.key 0, F.ENG_FENCE_STAT_PASSED.key 0, F.ENG_FENCE_STAT_PASSED.key 1, F.ENG_FENCE_STAT_PASSED.key 2,
    F.ENG_FENCE_STAT_PASSED.key 3]

theorem Device.passFence_within (d : Device) (s : Fin 4) (n : Nat) : d.Within [] fenceKeys (d.passFence s n) :=
  ((Within.put d _ _ _).trans (.put _ _ _ _)).mono (by decide) (by revert s; decide)

theorem Device.settleFences_within (d : Device) : d.Within [] fenceKeys d.settleFences := by
  refine .forEach (fun s d => ?_)
  split
  · exact .when (passFence_within · s _)
  · exact .refl d

@[simp] theorem Device.settleFences_hold (d : Device) (s : Nat) : d.settleFences.hold s = d.hold s :=
  congrArg (fun e : Engines => Store.get? e.holds s) d.settleFences_within.eng

/-- A source has passed the fence it passes. -/
theorem Device.hasPassed_passFence (d : Device) (s : Fin 4) (n : Nat) : (d.passFence s n).hasPassed s n = true := by
  have differ : F.ENG_FENCE_FLAGS_VALID.key 0 ≠ F.ENG_FENCE_STAT_PASSED.key s := by revert s; decide
  have valid (x : Nat) : bit (setBits x s s 1 % 2 ^ 4) s = true := by
    fin_cases s <;> simp only [bit, setBits, bits] <;> simp <;> omega
  unfold Device.hasPassed Device.passFence
  rw [Device.get_put_ne _ _ _ _ _ _ differ, Device.putBit, Device.get_put, Device.get_put]
  refine Bool.and_eq_true_iff.mpr ⟨valid _, decide_eq_true ?_⟩
  change (n % 2 ^ 16 + 2 ^ 16 - n % 2 ^ 16) % 2 ^ 16 < 2 ^ 15
  omega

/-- Whether a source has passed a fence shows in the fields of the fences passed alone. -/
theorem Device.Within.hasPassed {ps : List Part} {ks : List Nat} (h : a.Within ps ks b) (s : Fin 4) (n : Nat)
    (hk : ∀ k ∈ fenceKeys, k ∉ ks) : b.hasPassed s n = a.hasPassed s n := by
  have passed : F.ENG_FENCE_STAT_PASSED.key s ∈ fenceKeys := by revert s; decide
  unfold Device.hasPassed
  rw [h.get _ _ (hk _ (by decide)), h.get _ _ (hk _ passed)]

/-! ### A source takes a fence (R189) -/

/-- The hold that `Device.holdAt` lists. -/
def Device.newHold (d : Device) (c : Cmd) : FenceHold :=
  { cmd := c, number := cmdNumber c.w1, mask := cmdMask c.w1, entry := d.get F.TT_HEAD_HEAD }

theorem Device.holdAt_within (d : Device) (s : Fin 4) (c : Cmd) :
    d.Within [.eng] ([F.ENG_FENCE_STAT_WAIT_NUM.key s] ++ fenceKeys) (d.holdAt s c) :=
  ((Within.setEng d _).trans (.put _ _ _ _)).trans (settleFences_within _)

theorem Device.holdAt_eng (d : Device) (s : Fin 4) (c : Cmd) :
    (d.holdAt s c).eng = { d.eng with holds := Store.set d.eng.holds s (d.newHold c) } :=
  (settleFences_within _).eng

theorem Device.holdAt_hold (d : Device) (s : Fin 4) (c : Cmd) : (d.holdAt s c).hold s = some (d.newHold c) := by
  rw [Device.hold, holdAt_eng, Store.get?_set_self]

theorem Device.holdAt_waitNum (d : Device) (s : Fin 4) (c : Cmd) :
    (d.holdAt s c).get F.ENG_FENCE_STAT_WAIT_NUM s = (cmdNumber c.w1).toNat := by
  have other : F.ENG_FENCE_STAT_WAIT_NUM.key s ∉ fenceKeys := by revert s; decide
  unfold Device.holdAt
  rw [(settleFences_within _).get _ _ other, Device.get_put]
  exact Nat.mod_eq_of_lt (cmdNumber c.w1).isLt

/-! ### A source goes on after its fence (R189, R192) -/

/-- The register fields that change when a source goes on after its fence. -/
def unholdKeys (src : Fin 4) : List Nat :=
  [F.ENG_FENCE_STAT_WAIT_NUM.key src, F.TT_HEAD_HEAD.key 0, F.TT_RELEASED_CNT_RELEASED.key 0] ++ evKeys F.ENG_EVT_HCQ_HIGH ++
    evKeys F.ENG_EVT_HCQ_LOW ++ evKeys F.TT_EVT_LOW ++ evKeys F.TT_EVT_EMPTY

theorem Device.endHold_within (d : Device) (s : Nat) :
    d.Within [.eng, .freeCtr] [F.ENG_FENCE_STAT_WAIT_NUM.key s] (d.endHold s) :=
  have drawn : d.Within [.freeCtr] [] (d.draw 9).2 := ⟨d.draw_keepsParts 9, .refl _ _⟩
  ((drawn.trans (.setEng _ _)).trans (.put _ _ _ _)).mono (by decide) (by simp)

theorem Device.setHcq_within (d : Device) (q : List Cmd) :
    d.Within [.eng] (evKeys F.ENG_EVT_HCQ_HIGH ++ evKeys F.ENG_EVT_HCQ_LOW) (d.setHcq q) :=
  (((Within.setEng d _).trans (.when (fun d => (Within.setEng d _).trans (.event _ _)))).trans
    (.when (fun d => (Within.setEng d _).trans (.event _ _)))).mono (by decide) (by decide)

/-- Besides the queue only the state of its Weirs changes. -/
theorem Device.setHcq_eng (d : Device) (q : List Cmd) :
    (d.setHcq q).eng = { d.eng with hcq := q, hcqHighTripped := (d.setHcq q).eng.hcqHighTripped } := by
  unfold Device.setHcq
  extract_lets +onlyGivenNames before after _ d₁ d₂
  have h₂ : d₂.eng = { d.eng with hcq := q, hcqHighTripped := d₂.eng.hcqHighTripped } := by
    unfold d₂ Device.when
    split <;> rfl
  unfold Device.when
  split
  · change { d₂.eng with hcqHighTripped := false } = _
    rw [h₂]
    rfl
  · exact h₂

theorem Device.ttWeir_within (d : Device) (before : Nat) :
    d.Within [] (evKeys F.TT_EVT_LOW ++ evKeys F.TT_EVT_EMPTY) (d.ttWeir before) :=
  (Within.when (Within.event · _)).trans (.when (Within.event · _))

theorem Device.ttPastFence_within (d : Device) (h : FenceHold) :
    d.Within [] ([F.TT_HEAD_HEAD.key 0, F.TT_RELEASED_CNT_RELEASED.key 0] ++ evKeys F.TT_EVT_LOW ++ evKeys F.TT_EVT_EMPTY)
      (d.ttPastFence h) :=
  .ite ((((Within.put d _ _ _).trans (.bump _ _)).trans (ttWeir_within _ _)).mono (by decide) (by decide)) (.refl d)

theorem Device.get_ttHead_ttPastFence (d : Device) (h : FenceHold) (at' : d.get F.TT_HEAD_HEAD = h.entry) :
    (d.ttPastFence h).get F.TT_HEAD_HEAD = (h.entry + 1) % 65536 := by
  unfold Device.ttPastFence
  rw [if_pos at', (ttWeir_within _ _).get _ _ (by decide), (Within.bump _ _).get _ _ (by decide), Device.get_put]
  rfl

theorem Device.unhold_within (d : Device) (src : Fin 4) (h : FenceHold) :
    d.Within [.eng, .dec, .freeCtr] (unholdKeys src) (d.unhold src h) := by
  unfold Device.unhold
  extract_lets +onlyGivenNames d₁
  have h₁ : d.Within [.eng, .freeCtr] [F.ENG_FENCE_STAT_WAIT_NUM.key src] d₁ := d.endHold_within src
  fin_cases src
  · exact (h₁.trans (d₁.setHcq_within _)).mono (by decide) (by decide)
  · exact (h₁.trans (d₁.ttPastFence_within h)).mono (by decide) (by decide)
  · exact (h₁.trans (.setDec d₁ _)).mono (by decide) (by decide)
  · exact (h₁.trans (.setEng d₁ _)).mono (by decide) (by decide)

end Sys2Proof.Machine
end

section
/-! A source that holds at a fence goes on after it (R189, R191, R192). -/

namespace Sys2Proof.Machine

variable {a b c d : Device}

/-- From a to b source `src` leaves its fence h: it holds no more, the fence is gone from the head of its queue, or TT_HEAD goes past it,
and the slices and what is executed stay. -/
structure Device.LeavesFence (src : Fin 4) (h : FenceHold) (a b : Device) : Prop where
  hold : b.hold src = none
  hcq : b.eng.hcq = if src = 0 then a.eng.hcq.drop 1 else a.eng.hcq
  kpq : b.eng.kpq = if src = 3 then a.eng.kpq.drop 1 else a.eng.kpq
  actq : b.dec.actq = if src = 2 then a.dec.actq.drop 1 else a.dec.actq
  head : src = 1 → a.get F.TT_HEAD_HEAD = h.entry → b.get F.TT_HEAD_HEAD = (h.entry + 1) % 65536
  engine : b.eng.engine = a.eng.engine
  flights : b.eng.flights = a.eng.flights

theorem Device.endHold_hold (d : Device) (s : Nat) : (d.endHold s).hold s = none := by
  change Store.get? (Store.erase d.eng.holds s) s = none
  rw [Store.get?_erase, if_pos rfl]

theorem Device.unhold_leavesFence (d : Device) (src : Fin 4) (h : FenceHold) : d.LeavesFence src h (d.unhold src h) := by
  have untouched : (d.endHold src).get F.TT_HEAD_HEAD = d.get F.TT_HEAD_HEAD :=
    (d.endHold_within src).get _ _ (by revert src; decide)
  have held := d.endHold_hold src
  unfold Device.unhold
  extract_lets +onlyGivenNames d₁
  fin_cases src
  · have e := d₁.setHcq_eng (d₁.eng.hcq.drop 1)
    have decKept : (d₁.setHcq (d₁.eng.hcq.drop 1)).dec = d₁.dec := (d₁.setHcq_within _).dec
    exact
      { hold := (congrArg (fun e : Engines => Store.get? e.holds 0) e).trans held
        hcq := congrArg (·.hcq) e
        kpq := congrArg (·.kpq) e
        actq := congrArg (·.actq) decKept
        head := fun x => absurd x (by decide)
        engine := congrArg (·.engine) e
        flights := congrArg (·.flights) e }
  · have e : (d₁.ttPastFence h).eng = d₁.eng := (d₁.ttPastFence_within h).eng
    have decKept : (d₁.ttPastFence h).dec = d₁.dec := (d₁.ttPastFence_within h).dec
    exact
      { hold := (congrArg (fun e : Engines => Store.get? e.holds 1) e).trans held
        hcq := congrArg (·.hcq) e
        kpq := congrArg (·.kpq) e
        actq := congrArg (·.actq) decKept
        head := fun _ at' => d₁.get_ttHead_ttPastFence h (untouched.trans at')
        engine := congrArg (·.engine) e
        flights := congrArg (·.flights) e }
  · exact { hold := held, hcq := rfl, kpq := rfl, actq := rfl, head := fun x => absurd x (by decide), engine := rfl, flights := rfl }
  · exact { hold := held, hcq := rfl, kpq := rfl, actq := rfl, head := fun x => absurd x (by decide), engine := rfl, flights := rfl }

theorem Device.unhold_counts (d : Device) (src : Fin 4) (h : FenceHold) (k : Fin 4) :
    (d.unhold src h).eng.counts k = d.eng.counts k := by
  unfold Device.unhold
  extract_lets +onlyGivenNames d₁
  fin_cases src
  · exact congrArg (·.counts k) (d₁.setHcq_eng (d₁.eng.hcq.drop 1))
  · exact congrArg (·.counts k) (d₁.ttPastFence_within h).eng
  · rfl
  · rfl

/-- The fences passed do not matter to it. -/
theorem Device.LeavesFence.of_settled {src : Fin 4} {h : FenceHold} (l : a.settleFences.LeavesFence src h b) :
    a.LeavesFence src h b := by
  have s := a.settleFences_within
  obtain ⟨hold, hcq, kpq, actq, head, engine, flights⟩ := l
  rw [s.eng] at hcq kpq engine flights
  rw [s.dec] at actq
  rw [s.get _ _ (by decide)] at head
  exact ⟨hold, hcq, kpq, actq, head, engine, flights⟩

/-- Nor does what is counted and recorded afterwards. -/
theorem Device.LeavesFence.counted {src k : Fin 4} {h : FenceHold} {x : Counts} (l : a.LeavesFence src h b)
    (eng : c.eng = b.eng.setCounts k x) (dec : c.dec = b.dec) (head : c.get F.TT_HEAD_HEAD = b.get F.TT_HEAD_HEAD) :
    a.LeavesFence src h c where
  hold := by rw [Device.hold, eng, Engines.setCounts_holds]; exact l.hold
  hcq := by rw [eng, Engines.setCounts_hcq, l.hcq]
  kpq := by rw [eng, Engines.setCounts_kpq, l.kpq]
  actq := by rw [dec, l.actq]
  head := by rw [head]; exact l.head
  engine := by rw [eng, Engines.setCounts_engine, l.engine]
  flights := by rw [eng, Engines.setCounts_flights, l.flights]

/-! ### A fence released with APPLIED -/

/-- The device after source `src` is released from its fence h. -/
def Device.released (d : Device) (src : Fin 4) (h : FenceHold) : Device := (d.settleFences.unhold src h).applyCmd h.cmd 0

theorem Device.released_within (d : Device) (src : Fin 4) (h : FenceHold) :
    d.Within [.eng, .dec, .flt, .freeCtr] ([F.ENG_FENCE_STAT_WAIT_NUM.key src, F.TT_HEAD_HEAD.key 0,
        F.TT_RELEASED_CNT_RELEASED.key 0] ++ fenceKeys ++ [F.FLT_LOG_HEAD_HEAD.key 0, F.FLT_LOG_LOST_CNT_LOST.key 0] ++
        evKeys F.FLT_EVT_LOG_LOST ++ evKeys F.FLT_EVT_LOG_HIGH ++ evKeys F.ENG_EVT_HCQ_HIGH ++ evKeys F.ENG_EVT_HCQ_LOW ++
        evKeys F.TT_EVT_LOW ++ evKeys F.TT_EVT_EMPTY) (d.released src h) :=
  ((d.settleFences_within.trans (unhold_within _ src h)).trans (applyCmd_within _ h.cmd 0)).mono (by decide)
    (by revert src; decide)

theorem Device.released_leavesFence (d : Device) (src : Fin 4) (h : FenceHold) : d.LeavesFence src h (d.released src h) :=
  have applied := applyCmd_within (d.settleFences.unhold src h) h.cmd 0
  (d.settleFences.unhold_leavesFence src h).counted (applyCmd_eng _ h.cmd 0) applied.dec (applied.get _ _ (by decide)) |>.of_settled

theorem Device.released_counts (d : Device) (src : Fin 4) (h : FenceHold) :
    (d.released src h).eng.counts h.cmd.src = (d.eng.counts h.cmd.src).apply := by
  rw [released, applyCmd_eng, Engines.counts_setCounts, unhold_counts, d.settleFences_within.eng]

/-! ### A fence that has timed out -/

/-- The device after source `src` gives up its fence h, before the report: rejected and counted as passed, with its event. -/
def Device.gaveUp (d : Device) (src : Fin 4) (h : FenceHold) : Device :=
  (((d.settleFences.unhold src h).passFence src h.number.toNat).rejectCmd h.cmd 0x20 0).event F.ENG_EVT_FENCE_TIMEOUT

/-- The device after the timeout of the fence h of source `src`. -/
def Device.timedOut (d : Device) (src : Fin 4) (h : FenceHold) : Device := (d.gaveUp src h).report 5 0 4 src

theorem Device.timedOut_within (d : Device) (src : Fin 4) (h : FenceHold) :
    d.Within [.eng, .dec, .flt, .freeCtr] (reportKeys ++ [F.ENG_FENCE_STAT_WAIT_NUM.key src, F.TT_HEAD_HEAD.key 0,
        F.TT_RELEASED_CNT_RELEASED.key 0] ++ fenceKeys ++ [F.FLT_LOG_HEAD_HEAD.key 0, F.FLT_LOG_LOST_CNT_LOST.key 0] ++
        evKeys F.FLT_EVT_LOG_LOST ++ evKeys F.FLT_EVT_LOG_HIGH ++ evKeys F.ENG_EVT_HCQ_HIGH ++ evKeys F.ENG_EVT_HCQ_LOW ++
        evKeys F.TT_EVT_LOW ++ evKeys F.TT_EVT_EMPTY ++ evKeys F.ENG_EVT_FENCE_TIMEOUT) (d.timedOut src h) :=
  (((((d.settleFences_within.trans (unhold_within _ src h)).trans (passFence_within _ src _)).trans
    (rejectCmd_within _ h.cmd 0x20 0)).trans (.event _ _)).trans (.report _ 5 0 4 src)).mono (by decide) (by revert src; decide)

/-- What follows the fence that counts as passed. -/
theorem Device.timedOut_within_passed (d : Device) (src : Fin 4) (h : FenceHold) :
    ((d.settleFences.unhold src h).passFence src h.number.toNat).Within [.eng, .flt]
      (logKeys ++ evKeys F.ENG_EVT_FENCE_TIMEOUT ++ reportKeys) (d.timedOut src h) :=
  (((rejectCmd_within _ h.cmd 0x20 0).trans (.event _ _)).trans (.report _ 5 0 4 src)).mono (by decide) (by simp)

theorem Device.timedOut_eng (d : Device) (src : Fin 4) (h : FenceHold) :
    (d.timedOut src h).eng = (d.settleFences.unhold src h).eng.setCounts h.cmd.src
      (((d.settleFences.unhold src h).eng.counts h.cmd.src).reject false) :=
  ((Within.event _ F.ENG_EVT_FENCE_TIMEOUT).trans (.report _ 5 0 4 src)).eng.trans (rejectCmd_eng _ h.cmd 0x20 0)

theorem Device.timedOut_leavesFence (d : Device) (src : Fin 4) (h : FenceHold) : d.LeavesFence src h (d.timedOut src h) := by
  have passed := (d.settleFences.unhold src h).passFence_within src h.number.toNat
  have after := d.timedOut_within_passed src h
  refine ((d.settleFences.unhold_leavesFence src h).counted (d.timedOut_eng src h) ?_ ?_).of_settled
  · exact after.dec.trans passed.dec
  · exact (after.get _ _ (by decide)).trans (passed.get _ _ (by decide))

theorem Device.timedOut_counts (d : Device) (src : Fin 4) (h : FenceHold) :
    (d.timedOut src h).eng.counts h.cmd.src = (d.eng.counts h.cmd.src).reject false := by
  rw [timedOut_eng, Engines.counts_setCounts, unhold_counts, d.settleFences_within.eng]

theorem Device.timedOut_event (d : Device) (src : Fin 4) (h : FenceHold) :
    (d.timedOut src h).get F.ENG_EVT_FENCE_TIMEOUT = 1 := by
  rw [timedOut, (Within.report _ 5 0 4 src).get _ _ (by decide)]
  exact get_event _ _ (by decide) (by decide)

theorem Device.timedOut_hasPassed (d : Device) (src : Fin 4) (h : FenceHold) :
    (d.timedOut src h).hasPassed src h.number.toNat = true := by
  rw [(d.timedOut_within_passed src h).hasPassed src _ (by decide)]
  exact hasPassed_passFence _ src _

/-- Two devices with the same report queue and the same count of lost reports take a report alike. -/
theorem Device.report_alike (cls src code reporter : Nat) (queue : b.flt.queue = a.flt.queue)
    (lost : b.get F.FLT_LOST_CNT_LOST = a.get F.FLT_LOST_CNT_LOST) :
    (b.report cls src code reporter).flt.queue = (a.report cls src code reporter).flt.queue ∧
      (b.report cls src code reporter).get F.FLT_LOST_CNT_LOST = (a.report cls src code reporter).get F.FLT_LOST_CNT_LOST := by
  unfold Device.report Device.reportAt
  rw [queue]
  split
  · exact ⟨rfl, lost⟩
  · refine ⟨queue, ?_⟩
    rw [(Within.event _ _).get _ _ (by decide), (Within.event _ _).get _ _ (by decide), get_bump, get_bump, lost]

theorem Device.gaveUp_queue (d : Device) (src : Fin 4) (h : FenceHold) : (d.gaveUp src h).flt.queue = d.flt.queue := by
  have before := (d.settleFences_within.trans (unhold_within _ src h)).trans (passFence_within _ src h.number.toNat)
  calc (d.gaveUp src h).flt.queue
    _ = _ := congrArg (·.queue) (Within.event _ _).flt
    _ = _ := rejectCmd_queue _ h.cmd 0x20 0
    _ = d.flt.queue := congrArg (·.queue) before.flt

theorem Device.gaveUp_lost (d : Device) (src : Fin 4) (h : FenceHold) :
    (d.gaveUp src h).get F.FLT_LOST_CNT_LOST = d.get F.FLT_LOST_CNT_LOST :=
  ((((d.settleFences_within.trans (unhold_within _ src h)).trans (passFence_within _ src h.number.toNat)).trans
    (rejectCmd_within _ h.cmd 0x20 0)).trans (.event _ _)).get _ _ (by revert src; decide)

theorem Device.timedOut_reported (d : Device) (src : Fin 4) (h : FenceHold) :
    (d.timedOut src h).flt.queue = (d.report 5 0 4 src).flt.queue ∧
      (d.timedOut src h).get F.FLT_LOST_CNT_LOST = (d.report 5 0 4 src).get F.FLT_LOST_CNT_LOST :=
  report_alike 5 0 4 src (d.gaveUp_queue src h) (d.gaveUp_lost src h)

/-! ### The commands on fences -/

section Rows

variable {src : Fin 4} {h : FenceHold}

/-- A source that takes the FENCE c at the head of its queue holds at it. -/
theorem does_fence {s : State} {c : Cmd} (r : s.Running) (e : s.dev.takeFence src = s.dev.holdAt src c) :
    Does (.fence src) s [.eng] ([F.ENG_FENCE_STAT_WAIT_NUM.key src] ++ fenceKeys) (fun d =>
      (d.hold src).map (fun (h : FenceHold) => (h.cmd, h.number, h.mask, h.ticks)) = some (c, cmdNumber c.w1, cmdMask c.w1, 0) ∧
      d.get F.ENG_FENCE_STAT_WAIT_NUM src = (cmdNumber c.w1).toNat ∧ d.eng = { s.dev.eng with holds := d.eng.holds }) := by
  have w := s.dev.holdAt_within src c
  refine does_of_on rfl r (e ▸ w.parts) (e ▸ w.regs) ?_
  rw [e]
  refine ⟨?_, s.dev.holdAt_waitNum src c, ?_⟩
  · rw [Device.holdAt_hold]
    rfl
  · rw [Device.holdAt_eng]

theorem Device.fenceRelease_of_met (held : d.hold src = some h) (met : d.settleFences.fenceMet src h = true) :
    d.fenceRelease src = d.released src h := by
  simp [fenceRelease, held, met, released]

theorem Device.fenceRelease_of_not_met (held : d.hold src = some h) (met : d.settleFences.fenceMet src h = false) :
    d.fenceRelease src = d.settleFences := by
  simp [fenceRelease, held, met]

theorem Device.fenceTimeout_of_met (held : d.hold src = some h) (met : d.settleFences.fenceMet src h = true) :
    d.fenceTimeout src = d.released src h := by
  simp [fenceTimeout, held, met, released]

@[simp] theorem Device.settleFences_fenceLimit (d : Device) : d.settleFences.fenceLimit = d.fenceLimit := by
  unfold fenceLimit
  rw [d.settleFences_within.get _ _ (by decide)]

theorem Device.fenceTimeout_of_passed {l : Nat} (held : d.hold src = some h) (met : d.settleFences.fenceMet src h = false)
    (limit : d.fenceLimit = some l) (passed : l ≤ h.ticks) : d.fenceTimeout src = d.timedOut src h := by
  simp [fenceTimeout, held, met, limit, passed, timedOut, gaveUp]

theorem Device.fenceTimeout_of_waits (held : d.hold src = some h) (met : d.settleFences.fenceMet src h = false)
    (waits : d.fenceLimit.all (fun n => decide (h.ticks < n)) = true) : d.fenceTimeout src = d.settleFences := by
  unfold fenceTimeout
  cases limit : d.fenceLimit with
  | none => simp [held, met, limit]
  | some l =>
    rw [limit] at waits
    simp_all

/-- A command that only settles what the sources have passed leaves the hold and the engines' part. -/
theorem does_settle {s : State} {i : Instr} {f : Device → Device} (run : exec i s = .next (s.on f)) (r : s.Running)
    (e : f s.dev = s.dev.settleFences) (held : s.dev.hold src = some h) :
    Does i s [] fenceKeys (fun d => d.hold src = some h ∧ d.eng = s.dev.eng) := by
  have w := s.dev.settleFences_within
  refine does_of_on run r (e ▸ w.parts) (e ▸ w.regs) ?_
  rw [e]
  exact ⟨(s.dev.settleFences_hold src).trans held, w.eng⟩

/-- A FENCE at TT_HEAD whose word is released is accepted, and the timetable holds at it. -/
theorem Device.ttTake_fence {w : BitVec 128} {late : Bool} (op : cmdOp w = 8) (judged : d.ttJudge w = .go late)
    (accepted : acceptCode 1 w none d.tow.pound = none) (short : cmdLong w = false) :
    ∃ c : Cmd, c.w1 = w ∧ d.ttTake w late = (d.count 1 (·.accept)).holdAt 1 c := by
  have notLate : late = false := by
    simp [ttJudge, op, short] at judged
    exact judged
  simp only [ttTake, accept, Fin.isValue, Fin.coe_ofNat_eq_mod, Nat.one_mod, short, Bool.false_eq_true, ↓reduceIte, notLate, accepted,
    Option.none_beq_some, Bool.or_self, when_false, op]
  exact ⟨_, rfl, rfl⟩

/-- The timetable takes the FENCE at TT_HEAD, accepts it and holds at it, TT_HEAD staying where it stands. -/
theorem does_timetableFence {s : State} {w : BitVec 128} {late : Bool} (r : s.Running) (e : s.dev.takeFence 1 = s.dev.ttTake w late)
    (op : cmdOp w = 8) (judged : s.dev.ttJudge w = .go late) (accepted : acceptCode 1 w none s.dev.tow.pound = none)
    (short : cmdLong w = false) :
    Does (.fence 1) s [.eng] ([F.ENG_FENCE_STAT_WAIT_NUM.key 1] ++ fenceKeys) (fun d =>
      (d.hold 1).map (fun (h : FenceHold) => (h.number, h.mask, h.ticks)) = some (cmdNumber w, cmdMask w, 0) ∧
      d.get F.ENG_FENCE_STAT_WAIT_NUM 1 = (cmdNumber w).toNat ∧ d.get F.TT_HEAD_HEAD = s.dev.get F.TT_HEAD_HEAD ∧
      d.eng.counts1 = s.dev.eng.counts1.accept) := by
  obtain ⟨c, rfl, taken⟩ := Device.ttTake_fence op judged accepted short
  have run : s.dev.takeFence (1 : Fin 4) = _ := e.trans taken
  have w := ((s.dev.count_within 1 (·.accept)).trans (Device.holdAt_within _ 1 c)).mono (ps' := [.eng]) (by decide)
    (fun _ h => h)
  refine does_of_on rfl r (run ▸ w.parts) (run ▸ w.regs) ?_
  rw [run]
  refine ⟨?_, Device.holdAt_waitNum _ 1 c, w.get _ _ (by decide), ?_⟩
  · exact congrArg (Option.map fun h : FenceHold => (h.number, h.mask, h.ticks)) (Device.holdAt_hold _ 1 c)
  · exact congrArg (·.counts1) (Device.holdAt_eng _ 1 c)

end Rows

end Sys2Proof.Machine
end

section
/-! The late rule: what LATE_REJECT takes out, and what it counts (R14, R188, R194). -/

namespace Sys2Proof.Machine

variable {d : Device} {p : Pound}

/-! ### The counts of rejected lists -/

/-- Rejected as late: the commands of source k among l. -/
def Counts.rejectLate (x : Counts) (k : Fin 4) (l : List Cmd) : Counts :=
  { x with pending := x.pending - ofSource k l, rejected := x.rejected + ofSource k l, late := x.late + ofSource k l }

/-- Rejected as late: every command of l, each at its source. -/
def Engines.rejectLate (e : Engines) (l : List Cmd) : Engines :=
  { e with
    counts0 := e.counts0.rejectLate 0 l, counts1 := e.counts1.rejectLate 1 l, counts2 := e.counts2.rejectLate 2 l,
    counts3 := e.counts3.rejectLate 3 l }

theorem Engines.counts_rejectLate (e : Engines) (l : List Cmd) (k : Fin 4) :
    (e.rejectLate l).counts k = (e.counts k).rejectLate k l := by
  fin_cases k <;> rfl

theorem ofSource_append (k : Fin 4) (l m : List Cmd) : ofSource k (l ++ m) = ofSource k l + ofSource k m := by
  simp [ofSource, BitVec.ofNat_add]

theorem Counts.rejectLate_append (x : Counts) (k : Fin 4) (l m : List Cmd) :
    (x.rejectLate k l).rejectLate k m = x.rejectLate k (l ++ m) := by
  simp only [rejectLate, ofSource_append, Counts.mk.injEq, true_and]
  refine ⟨?_, ?_, ?_⟩ <;> ring

theorem Engines.rejectLate_append (e : Engines) (l m : List Cmd) : (e.rejectLate l).rejectLate m = e.rejectLate (l ++ m) := by
  simp only [rejectLate, Counts.rejectLate_append]

@[simp] theorem Engines.rejectLate_nil (e : Engines) : e.rejectLate [] = e := by
  simp [rejectLate, Counts.rejectLate, ofSource]

/-- The rejection of one command as LATE counts it at its source alone. -/
theorem Device.rejectCmd_late (d : Device) (c : Cmd) : (d.rejectCmd c 1 c.genSeen).eng = d.eng.rejectLate [c] := by
  rw [rejectCmd_eng]
  generalize d.eng = e
  generalize hk : c.src = k
  fin_cases k <;> simp [Engines.setCounts, Engines.counts, Engines.rejectLate, Counts.rejectLate, Counts.reject, ofSource, hk]

/-- Every command of l is rejected as LATE. -/
def Device.rejectAll (d : Device) (l : List Cmd) : Device := forEach l (fun c d => d.rejectCmd c 1 c.genSeen) d

theorem Device.rejectAll_within (d : Device) (l : List Cmd) : d.Within [.eng, .flt] logKeys (d.rejectAll l) :=
  .forEach (fun c d => d.rejectCmd_within c 1 c.genSeen)

theorem Device.rejectAll_eng (d : Device) (l : List Cmd) : (d.rejectAll l).eng = d.eng.rejectLate l := by
  induction l generalizing d with
  | nil => exact d.eng.rejectLate_nil.symm
  | cons c t ih =>
    calc (d.rejectAll (c :: t)).eng
      _ = (d.rejectCmd c 1 c.genSeen).eng.rejectLate t := ih _
      _ = d.eng.rejectLate (c :: t) := by rw [d.rejectCmd_late, Engines.rejectLate_append]; rfl

/-! ### The engines -/

/-- What stays of an engine at pound p: the commands of its slice and its hand that are not late. -/
def Engine.dropLate (x : Engine) (p : Pound) : Engine :=
  { x with slice := x.slice.filter (fun c => !c.isLate p), hand := x.hand.filter (fun c => !c.isLate p) }

/-- The commands of an engine that wait: those of its slice and its hand. -/
def Engine.waiting (x : Engine) : List Cmd := x.slice ++ x.hand.toList

theorem Device.lateEngine_eq (d : Device) (e : Nat) :
    d.lateEngine e =
      (d.setEngine e ((d.engine e).dropLate d.tow.pound)).rejectAll ((d.engine e).waiting.filter (·.isLate d.tow.pound)) := by
  unfold lateEngine Engine.dropLate Engine.waiting rejectAll
  obtain ⟨slice, hand, used⟩ := d.engine e
  cases hand with
  | none => simp [splitLate]
  | some c => cases late : c.isLate d.tow.pound <;> simp [splitLate, late, Option.filter]

theorem Device.lateEngine_within (d : Device) (e : Nat) : d.Within [.eng, .flt] logKeys (d.lateEngine e) := by
  rw [lateEngine_eq]
  exact ((Within.setEng d _).trans (rejectAll_within _ _)).mono (by decide) (by simp)

theorem Device.lateEngine_eng (d : Device) (e : Nat) :
    (d.lateEngine e).eng =
      ({ d.eng with engine := (d.lateEngine e).eng.engine } : Engines).rejectLate
        ((d.engine e).waiting.filter (·.isLate d.tow.pound)) := by
  rw [lateEngine_eq, rejectAll_eng]
  rfl

/-- The engine keeps what is not late, and every other engine stays. -/
theorem Device.engine_lateEngine (d : Device) (e k : Nat) :
    (d.lateEngine e).engine k = if k = e then (d.engine k).dropLate d.tow.pound else d.engine k := by
  rw [lateEngine_eq, engine, rejectAll_eng]
  change Store.getD (Store.put d.eng.engine {} e _) k {} = _
  rw [Store.getD_put]
  split
  · next same => rw [same]
  · rfl

/-- The late commands leave the slices and hands of the engines of l. -/
def Device.lateEngines (d : Device) (l : List Nat) : Device := forEach l (fun e d => d.lateEngine e) d

theorem Device.lateEngines_within (d : Device) (l : List Nat) : d.Within [.eng, .flt] logKeys (d.lateEngines l) :=
  .forEach (fun e d => d.lateEngine_within e)

theorem Device.engine_lateEngines (d : Device) {l : List Nat} (distinct : l.Nodup) (k : Nat) :
    (d.lateEngines l).engine k = if k ∈ l then (d.engine k).dropLate d.tow.pound else d.engine k := by
  induction l generalizing d with
  | nil => rfl
  | cons e t ih =>
    obtain ⟨new, distinct⟩ := List.nodup_cons.mp distinct
    change ((d.lateEngine e).lateEngines t).engine k = _
    rw [ih _ distinct, (d.lateEngine_within e).tow, engine_lateEngine]
    by_cases same : k = e
    · subst same
      simp [new]
    · simp [same]

theorem Device.lateEngines_eng (d : Device) {l : List Nat} (distinct : l.Nodup) :
    (d.lateEngines l).eng = ({ d.eng with engine := (d.lateEngines l).eng.engine } : Engines).rejectLate
      ((l.flatMap (fun e => (d.engine e).waiting)).filter (·.isLate d.tow.pound)) := by
  induction l generalizing d with
  | nil => exact (Engines.rejectLate_nil _).symm
  | cons e t ih =>
    obtain ⟨new, distinct⟩ := List.nodup_cons.mp distinct
    have others : t.flatMap (fun k => ((d.lateEngine e).engine k).waiting) = t.flatMap (fun k => (d.engine k).waiting) := by
      refine List.flatMap_congr (fun k hk => ?_)
      rw [engine_lateEngine, if_neg (fun (same : k = e) => new (same ▸ hk))]
    change ((d.lateEngine e).lateEngines t).eng = _
    rw [ih _ distinct, others, (d.lateEngine_within e).tow, d.lateEngine_eng e, List.flatMap_cons, List.filter_append,
      ← Engines.rejectLate_append]
    rfl

theorem Device.lateEngines_hcq (d : Device) {l : List Nat} (distinct : l.Nodup) : (d.lateEngines l).eng.hcq = d.eng.hcq :=
  congrArg (·.hcq) (d.lateEngines_eng distinct)

theorem Device.lateEngines_kpq (d : Device) {l : List Nat} (distinct : l.Nodup) : (d.lateEngines l).eng.kpq = d.eng.kpq :=
  congrArg (·.kpq) (d.lateEngines_eng distinct)

/-! ### The queues -/

/-- The late commands leave the queues. -/
def Device.lateQueues (d : Device) (p : Pound) : Device :=
  let d' := d.setHcq (d.eng.hcq.filter (fun c => !c.isLate p))
  { d' with
    eng := { d'.eng with kpq := d.eng.kpq.filter (fun c => !c.isLate p) }
    dec := { d'.dec with
      actq := d.dec.actq.filter (fun c => !c.isLate p), deferred := d.dec.deferred.filter (fun c => !c.isLate p) } }

/-- The commands that wait in the queues. -/
def Device.queuedCmds (d : Device) : List Cmd := d.eng.hcq ++ d.dec.actq ++ d.dec.deferred ++ d.eng.kpq

theorem Device.lateQueues_within (d : Device) (p : Pound) :
    d.Within [.eng, .dec] (evKeys F.ENG_EVT_HCQ_HIGH ++ evKeys F.ENG_EVT_HCQ_LOW) (d.lateQueues p) := by
  let d' := d.setHcq (d.eng.hcq.filter (fun c => !c.isLate p))
  have queue := (d.setHcq_within _).trans (.setEng d' { d'.eng with kpq := d.eng.kpq.filter (fun c => !c.isLate p) })
  exact (queue.trans (.setDec _ _)).mono (by decide) (by simp)

theorem Device.lateQueues_eng (d : Device) (p : Pound) :
    (d.lateQueues p).eng = { d.eng with
      hcq := d.eng.hcq.filter (fun c => !c.isLate p), kpq := d.eng.kpq.filter (fun c => !c.isLate p),
      hcqHighTripped := (d.lateQueues p).eng.hcqHighTripped } := by
  have e := d.setHcq_eng (d.eng.hcq.filter (fun c => !c.isLate p))
  unfold lateQueues
  dsimp only
  rw [e]

theorem Device.lateQueues_dec (d : Device) (p : Pound) :
    (d.lateQueues p).dec = { d.dec with
      actq := d.dec.actq.filter (fun c => !c.isLate p), deferred := d.dec.deferred.filter (fun c => !c.isLate p) } := by
  have e : (d.setHcq (d.eng.hcq.filter (fun c => !c.isLate p))).dec = d.dec := (d.setHcq_within _).dec
  unfold lateQueues
  dsimp only
  rw [e]

/-- LATE_REJECT works on the engines, then on the queues, then counts what left the queues. -/
theorem Device.lateReject_eq (d : Device) :
    d.lateReject = (((d.lateEngines (List.range 64)).lateQueues (d.lateEngines (List.range 64)).tow.pound).rejectAll
      ((d.lateEngines (List.range 64)).queuedCmds.filter (·.isLate d.tow.pound))).settleFences := by
  have pound := (d.lateEngines_within (List.range 64)).tow
  unfold lateReject
  unfold lateEngines at pound ⊢
  generalize forEach (List.range 64) (fun e d => d.lateEngine e) d = d₁ at pound ⊢
  rw [pound, queuedCmds, List.filter_append, List.filter_append, List.filter_append]
  rfl

theorem Device.lateReject_within (d : Device) :
    d.Within [.eng, .dec, .flt] (evKeys F.ENG_EVT_HCQ_HIGH ++ evKeys F.ENG_EVT_HCQ_LOW ++ logKeys ++ fenceKeys) d.lateReject := by
  rw [lateReject_eq]
  exact ((((d.lateEngines_within _).trans (lateQueues_within _ _)).trans (rejectAll_within _ _)).trans
    (settleFences_within _)).mono (by decide) (by decide)

theorem Device.lateReject_dec (d : Device) :
    d.lateReject.dec = { d.dec with
      actq := d.dec.actq.filter (fun c => !c.isLate d.tow.pound),
      deferred := d.dec.deferred.filter (fun c => !c.isLate d.tow.pound) } := by
  have engines := d.lateEngines_within (List.range 64)
  rw [lateReject_eq, (settleFences_within _).dec, (rejectAll_within _ _).dec, lateQueues_dec, engines.tow, engines.dec]

/-- In the engines' part the late commands leave the queues after those of the engines, and are counted with them. -/
theorem Device.lateQueues_rejectLate {e : Engines} {l m : List Cmd} (counted : d.eng = e.rejectLate l) :
    ∃ tripped, (d.lateQueues p).eng.rejectLate m = ({ e with
      hcq := e.hcq.filter (fun c => !c.isLate p), kpq := e.kpq.filter (fun c => !c.isLate p),
      hcqHighTripped := tripped } : Engines).rejectLate (l ++ m) := by
  refine ⟨(d.lateQueues p).eng.hcqHighTripped, ?_⟩
  rw [lateQueues_eng, counted, ← Engines.rejectLate_append]
  rfl

theorem Device.queuedCmds_lateEngines (d : Device) {l : List Nat} (distinct : l.Nodup) :
    (d.lateEngines l).queuedCmds = d.queuedCmds := by
  rw [queuedCmds, d.lateEngines_hcq distinct, d.lateEngines_kpq distinct, (d.lateEngines_within l).dec, queuedCmds]

theorem Device.waitingCmds_eq (d : Device) :
    d.waitingCmds = (List.range 64).flatMap (fun e => (d.engine e).waiting) ++ d.queuedCmds := by
  simp only [waitingCmds, queuedCmds, Engine.waiting, List.append_assoc]

/-- In the engines' part the late commands leave slices, hands and queues, and are counted. -/
theorem Device.lateReject_eng (d : Device) :
    ∃ engines tripped, (∀ e : Fin 64, Store.getD engines e {} = (d.engine e).dropLate d.tow.pound) ∧
      d.lateReject.eng = ({ d.eng with
        engine := engines, hcq := d.eng.hcq.filter (fun c => !c.isLate d.tow.pound),
        kpq := d.eng.kpq.filter (fun c => !c.isLate d.tow.pound), hcqHighTripped := tripped } : Engines).rejectLate
          (d.waitingCmds.filter (·.isLate d.tow.pound)) := by
  have distinct : (List.range 64).Nodup := List.nodup_range
  have numbers (e : Fin 64) : (e : Nat) ∈ List.range 64 := List.mem_range.mpr e.isLt
  rw [lateReject_eq, (settleFences_within _).eng, rejectAll_eng, (d.lateEngines_within _).tow, d.queuedCmds_lateEngines distinct,
    waitingCmds_eq, List.filter_append]
  generalize List.range 64 = l at distinct numbers ⊢
  obtain ⟨tripped, eng⟩ := lateQueues_rejectLate (p := d.tow.pound) (m := d.queuedCmds.filter (·.isLate d.tow.pound))
    (d.lateEngines_eng distinct)
  refine ⟨(d.lateEngines l).eng.engine, tripped, fun e => ?_, eng⟩
  exact (d.engine_lateEngines distinct e).trans (if_pos (numbers e))

/-- LATE_REJECT: what stays, and what is counted. -/
theorem does_lateReject {s : State} (r : s.Running) (e : Fin 64) (k : Fin 4) :
    Does .lateReject s [.eng, .dec, .flt] (evKeys F.ENG_EVT_HCQ_HIGH ++ evKeys F.ENG_EVT_HCQ_LOW ++ logKeys ++ fenceKeys) (fun d =>
      d.engine e = (s.dev.engine e).dropLate s.dev.tow.pound ∧
      d.dec = { s.dev.dec with
        actq := s.dev.dec.actq.filter (fun c => !c.isLate s.dev.tow.pound),
        deferred := s.dev.dec.deferred.filter (fun c => !c.isLate s.dev.tow.pound) } ∧
      d.eng.hcq = s.dev.eng.hcq.filter (fun c => !c.isLate s.dev.tow.pound) ∧
      d.eng.kpq = s.dev.eng.kpq.filter (fun c => !c.isLate s.dev.tow.pound) ∧
      d.eng.counts k = (s.dev.eng.counts k).rejectLate k (s.dev.waitingCmds.filter (·.isLate s.dev.tow.pound)) ∧
      d.eng.flights = s.dev.eng.flights ∧ d.eng.holds = s.dev.eng.holds) := by
  have w := s.dev.lateReject_within
  obtain ⟨engines, tripped, kept, eng⟩ := s.dev.lateReject_eng
  refine does_of_on rfl r w.parts w.regs ⟨?_, s.dev.lateReject_dec, ?_⟩
  · rw [Device.engine, eng]
    exact kept e
  · rw [eng]
    exact ⟨rfl, rfl, Engines.counts_rejectLate _ _ k, rfl, rfl⟩

/-- Settles O26: in each clause the row is one of four operations (a source holds at its FENCE, is released from it, gives it up, or what
has passed is settled) or LATE_REJECT, and the lemmas about that operation give what changes and what is left. -/
theorem fencesAndLateRule : Obligations.FencesAndLateRule := by
  unfold Obligations.FencesAndLateRule
  refine ⟨?_, ?_, ?_, ?_, ?_, ?_, ?_, ?_, ?_, ?_⟩
  · intro s c t r busy free queue op
    exact does_fence (src := 0) r (by simp [Device.takeFence, busy, free, queue, op])
  · intro s c t r busy free queue op
    exact does_fence (src := 2) r (by simp [Device.takeFence, busy, free, queue, op])
  · intro s c t r busy free queue op
    exact does_fence (src := 3) r (by simp [Device.takeFence, busy, free, queue, op])
  · intro s w late r busy free run openTable entry word op judged accepted short
    have e : s.dev.takeFence 1 = s.dev.ttTake w late := by
      simp [Device.takeFence, busy, free, run, openTable, entry, word, op, judged]
    exact does_timetableFence r e op judged accepted short
  · intro s src h r held met
    have e := s.dev.fenceRelease_of_met held met
    have w := s.dev.released_within src h
    have l := s.dev.released_leavesFence src h
    refine does_of_on rfl r (e ▸ w.parts) (e ▸ w.regs) ?_
    rw [e]
    exact ⟨l.hold, s.dev.released_counts src h, l.hcq, l.kpq, l.actq, l.head, l.engine, l.flights⟩
  · intro s src h r held met
    exact does_settle rfl r (s.dev.fenceRelease_of_not_met held met) held
  · intro s src h limit r held met limited passed
    have e := s.dev.fenceTimeout_of_passed held met limited passed
    have w := s.dev.timedOut_within src h
    have l := s.dev.timedOut_leavesFence src h
    obtain ⟨queue, lost⟩ := s.dev.timedOut_reported src h
    refine does_of_on rfl r (e ▸ w.parts) (e ▸ w.regs) ?_
    rw [e]
    exact ⟨l.hold, s.dev.timedOut_counts src h, s.dev.timedOut_event src h, s.dev.timedOut_hasPassed src h, queue, lost, l.hcq,
      l.kpq, l.actq, l.head, l.flights⟩
  · intro s src h r held met
    have e := s.dev.fenceTimeout_of_met held met
    have w := s.dev.released_within src h
    have l := s.dev.released_leavesFence src h
    refine does_of_on rfl r (e ▸ w.parts) (e ▸ w.regs) ?_
    rw [e]
    exact ⟨l.hold, s.dev.released_counts src h, l.hcq, l.kpq, l.actq, l.head⟩
  · intro s src h r held met waits
    exact does_settle rfl r (s.dev.fenceTimeout_of_waits held met waits) held
  · intro s e k r
    obtain ⟨t, run, pending, parts, regs, engine, dec, hcq, kpq, counts, flights, holds⟩ := does_lateReject r e k
    refine ⟨t, run, pending, parts, regs, ?_⟩
    beta_reduce
    rw [engine, counts]
    exact ⟨rfl, rfl, hcq, kpq, dec, rfl, rfl, rfl, rfl, flights, holds⟩

end Sys2Proof.Machine
end

section
/-! An input that becomes READY when step 5 completes, and whose frequency the boot configuration then changes. -/

namespace Sys2Proof.Machine

/-- A running device in step 5 of start-up with both multipliers locked, in which seven windows of XI0 have agreed at 100 MHz. The one
entry of phase 1 of its boot configuration writes CLK_REF_CTRL, and gives XI0 the frequency code 0. -/
def State.eighthWindowInStepFive : State :=
  let d : Device := {
    boot := { inReset := false, powerOn := false, entries := [{ phase := 1, addr := 0x2080, value := 0 }] }
    clk := { judge := [(0, { hits := List.replicate 7 100000000 })] } }
  { dev := (((d.put F.SYS_BOOT_STAT_STEP 0 4).put F.CLK_REF_STAT_MPL0_LOCK 0 1).put F.CLK_REF_STAT_MPL1_LOCK 0 1).put
      F.CLK_REF_STAT_READY 0 4,
    pending := [] }

/-- The write of phase 1 restarts the judgement of XI0, which is READY no longer. -/
theorem State.eighthWindowInStepFive_judged :
    (State.eighthWindowInStepFive.after (.judgeWindow 0 400000)).dev.ready 0 = false := by
  decide +kernel

/-- Refutes O14: its clause on the eighth window that agrees lets start-up go on in the same command. Where step 5 completes then, phase 1
of the boot configuration is written, and a new frequency of the input takes its READY away at once (R53, R355). -/
theorem not_sourceJudgement : ¬ Obligations.SourceJudgement := by
  unfold Obligations.SourceJudgement
  rintro ⟨-, becomesReady, -⟩
  obtain ⟨t, answer, -, ready, -⟩ := becomesReady State.eighthWindowInStepFive 0 400000 100000000 100000000 (by decide) (by decide)
    (by decide) (by decide) (by decide) (by decide) (by decide) (by decide) (by decide) (by decide)
  have lost := State.eighthWindowInStepFive_judged
  rw [State.after, answer] at lost
  exact absurd (ready.symm.trans lost) (by decide)

end Sys2Proof.Machine
end

section
/-! A domain that ramps on MPL1 while it still runs on FIO. -/

namespace Sys2Proof.Machine

/-- A device in service whose FAB domain, still on FIO at 400 MHz, has a change to MPL1 at /12 in progress past its change-over. -/
def State.rampBeforeChangeOver : State :=
  let d : Device := {
    boot := { inReset := false, powerOn := false }
    clk := { switch := [(145, { src := 1, div := 12, crossing := false })] } }
  { dev := ((d.put F.SYS_BOOT_STAT_STEP 0 9).put F.CLK_REF_STAT_MPL0_LOCK 0 1).put F.CLK_REF_STAT_MPL1_LOCK 0 1, pending := [] }

/-- The last divider of the ramp, within 25 % of 400 MHz, brings the source with it. -/
theorem State.rampBeforeChangeOver_ramped :
    (State.rampBeforeChangeOver.after (.rampStep 145)).dev.get F.CLK_DOM_STAT_CUR_SRC 145 = 1 := by
  decide

/-- Refutes O16: its clause on the last divider of a ramp lists no CUR_SRC among the fields that change and does not ask that the domain
is on MPL1 already. A ramp divider is always taken with its source, so that of a domain on FIO changes. -/
theorem not_domainSwitches : ¬ Obligations.DomainSwitches := by
  unfold Obligations.DomainSwitches
  rintro ⟨-, -, -, -, rampEnds⟩
  obtain ⟨t, answer, -, -, kept, -⟩ := rampEnds State.rampBeforeChangeOver 145 12 0 false false (by decide) (by decide) (by decide)
    (by decide) (by decide) (by decide) (by decide) (by decide)
  have onMpl := State.rampBeforeChangeOver_ramped
  rw [State.after, answer] at onMpl
  have onFio : t.dev.get F.CLK_DOM_STAT_CUR_SRC 145 = 0 := kept.get _ _ (by decide)
  exact absurd (onFio.symm.trans onMpl) (by decide)

end Sys2Proof.Machine
end

section
/-! Where register fields lie: fields whose keys never meet, and reads of one after a write of the other (R2, R322, R361, R368). -/

namespace Sys2Proof.Machine

variable {d : Device}

/-- Every copy of the field lies at the place of `base` and `lo` in its page of 4 KiB. -/
def Fld.paged (f : Fld) : Bool :=
  decide (f.lo < 32) &&
    match f.shape with
    | .one | .page _ | .hdr | .bank _ => true
    | _ => false

/-- Every copy of the field lies at the place of `base` and `lo`, those of a bank above the 24-bit address space. -/
def Fld.flat (f : Fld) : Bool :=
  decide (f.lo < 32) && decide (f.base < 0x1000000) &&
    match f.shape with
    | .one | .bank _ => true
    | _ => false

/-- No copy of f is a copy of g: they have different places in their pages, or different addresses. -/
def Fld.apart (f g : Fld) : Bool :=
  f.paged && g.paged && decide (f.base % 0x1000 * 32 + f.lo ≠ g.base % 0x1000 * 32 + g.lo) ||
    f.flat && g.flat && decide (f.base * 32 + f.lo ≠ g.base * 32 + g.lo)

theorem Fld.key_of_paged {f : Fld} (h : f.paged = true) (i : Nat) : f.key i % 0x20000 = f.base % 0x1000 * 32 + f.lo := by
  obtain ⟨base, hi, lo, acc, shape, reset, cfg⟩ := f
  cases shape <;> simp_all [paged, key, addr, Shape.addr] <;> omega

theorem Fld.key_of_flat {f : Fld} (h : f.flat = true) (i : Nat) : f.key i % 0x20000000 = f.base * 32 + f.lo := by
  obtain ⟨base, hi, lo, acc, shape, reset, cfg⟩ := f
  cases shape <;> simp_all [flat, key, addr, Shape.addr] <;> omega

theorem Fld.key_ne_of_apart {f g : Fld} (h : f.apart g = true) (i j : Nat) : f.key i ≠ g.key j := by
  intro same
  simp only [apart, Bool.or_eq_true, Bool.and_eq_true, decide_eq_true_eq] at h
  obtain ⟨⟨hf, hg⟩, ne⟩ | ⟨⟨hf, hg⟩, ne⟩ := h
  · exact ne (by rw [← key_of_paged hf i, ← key_of_paged hg j, same])
  · exact ne (by rw [← key_of_flat hf i, ← key_of_flat hg j, same])

theorem Device.get_put_apart (d : Device) {f g : Fld} (h : g.apart f = true) (i j v : Nat) : (d.put f i v).get g j = d.get g j :=
  d.get_put_ne f g i j v (Fld.key_ne_of_apart h j i)

end Sys2Proof.Machine
end

section
/-! What operations that are shared by clocks, gates and cores change, part by part and field by field. -/

namespace Sys2Proof.Machine

variable {a b c d : Device}

namespace Device.Within

variable {ps : List Part} {ks : List Nat}

theorem bus (h : a.Within ps ks b) (hp : .bus ∉ ps := by decide) : b.bus = a.bus := h.parts .bus hp
theorem clk (h : a.Within ps ks b) (hp : .clk ∉ ps := by decide) : b.clk = a.clk := h.parts .clk hp
theorem cores (h : a.Within ps ks b) (hp : .cores ∉ ps := by decide) : b.cores = a.cores := h.parts .cores hp
theorem core (h : a.Within ps ks b) (i : Nat) (hp : .cores ∉ ps := by decide) : b.core i = a.core i := by
  unfold Device.core
  rw [h.cores hp]

/-- An operation that leaves the register fields and every part but `p`. -/
theorem of_part (p : Part) (parts : ∀ q, q ≠ p → a.SamePart b q) (fields : b.fields = a.fields) : a.Within [p] [] b :=
  ⟨fun q hq => parts q (fun same => hq (List.mem_singleton.mpr same)), keepsRegs_of_fields fields⟩

theorem setBus (d : Device) (x : Bus) : d.Within [.bus] [] { d with bus := x } :=
  of_part .bus (fun q hq => by cases q with | bus => exact absurd rfl hq | _ => rfl) rfl

theorem onClk (d : Device) (f : Clocks → Clocks) : d.Within [.clk] [] (d.onClk f) :=
  of_part .clk (fun q hq => by cases q with | clk => exact absurd rfl hq | _ => rfl) rfl

theorem onCore (d : Device) (i : Nat) (f : Core → Core) : d.Within [.cores] [] (d.onCore i f) :=
  of_part .cores (fun q hq => by cases q with | cores => exact absurd rfl hq | _ => rfl) rfl

theorem putB (d : Device) (f : Fld) (i : Nat) (v : Bool) : d.Within [] [f.key i] (d.putB f i v) := put d f i _
theorem putBit (d : Device) (f : Fld) (i n : Nat) (v : Bool) : d.Within [] [f.key i] (d.putBit f i n v) := put d f i _

theorem eventBit (d : Device) (f : Fld) (i n : Nat) : d.Within [] (evKeys f i) (d.eventBit f i n) :=
  ⟨d.eventBit_keepsParts f i n, d.eventBit_keepsRegs f i n⟩

theorem markDirty (d : Device) : d.Within [.bus] [] d.markDirty := .when (fun d => setBus d _)
theorem switchOf (h : a.Within ps ks b) (dom : Nat) (hp : .clk ∉ ps := by decide) : b.switchOf dom = a.switchOf dom := by
  unfold Device.switchOf
  rw [h.clk hp]
theorem judge? (h : a.Within ps ks b) (src : Nat) (hp : .clk ∉ ps := by decide) : b.judge? src = a.judge? src := by
  unfold Device.judge?
  rw [h.clk hp]

end Device.Within

/-- A command that leads from d to e completes with what changes between them. -/
theorem does_within {i : Instr} {s : State} {f : Device → Device} {e : Device} {parts : List Part} {regs : List Nat}
    {post : Device → Prop} (answer : exec i s = .next (s.on f)) (r : s.Running) (run : f s.dev = e) (w : s.dev.Within parts regs e)
    (h : post e) : Does i s parts regs post :=
  does_of_on answer r (run ▸ w.parts) (run ▸ w.regs) (run ▸ h)

theorem answers_on {i : Instr} {s : State} {f : Device → Device} {e : Device} {post : Device → Prop}
    (answer : exec i s = .next (s.on f)) (r : s.Running) (run : f s.dev = e) (h : post e) : Answers i s post :=
  ⟨s.on f, answer, s.on_pending f, by rw [s.on_running f r, run]; exact h⟩

/-- A register field reads the same in two devices with the same fields. -/
theorem Device.get_of_fields (h : b.fields = a.fields) (f : Fld) (i : Nat) : b.get f i = a.get f i := by
  unfold get
  rw [h]

theorem Device.core_onCore (d : Device) (i : Nat) (f : Core → Core) (j : Nat) :
    (d.onCore i f).core j = if j = i then f (d.core i) else d.core j :=
  Store.getD_put _ _ _ _ _

@[simp] theorem Device.core_onCore_self (d : Device) (i : Nat) (f : Core → Core) : (d.onCore i f).core i = f (d.core i) :=
  (d.core_onCore i f i).trans (if_pos rfl)

@[simp] theorem Device.core_put (d : Device) (f : Fld) (i v j : Nat) : (d.put f i v).core j = d.core j := rfl

@[simp] theorem Device.get_onCore (d : Device) (i : Nat) (g : Core → Core) (f : Fld) (j : Nat) : (d.onCore i g).get f j = d.get f j := rfl
/-! ### Fields that an operation leaves -/

/-- From a to b every copy of a register field apart from those of l reads the same. -/
def Device.Leaves (l : List Fld) (a b : Device) : Prop := ∀ f : Fld, l.all f.apart = true → ∀ i, b.get f i = a.get f i

namespace Device.Leaves

variable {l m : List Fld}

theorem of_fields (h : b.fields = a.fields) : a.Leaves l b := fun f _ i => get_of_fields h f i

theorem trans (h : a.Leaves l b) (k : b.Leaves m c) : a.Leaves (l ++ m) c := fun f hf i => by
  rw [List.all_append, Bool.and_eq_true] at hf
  rw [k f hf.2, h f hf.1]

theorem mono (h : a.Leaves l b) (hm : ∀ f, f ∈ l → f ∈ m) : a.Leaves m b := fun f hf =>
  h f (List.all_eq_true.mpr fun g hg => List.all_eq_true.mp hf g (hm g hg))

/-- What comes after h leaves the register fields. -/
theorem parts (h : a.Leaves l b) (e : c.fields = b.fields) : a.Leaves l c := fun f hf i => (get_of_fields e f i).trans (h f hf i)

theorem ite {x : Prop} [Decidable x] (h : d.Leaves l a) (k : d.Leaves l b) : d.Leaves l (if x then a else b) := by
  split
  · exact h
  · exact k

theorem when {x : Bool} {f : Device → Device} (h : ∀ d : Device, d.Leaves l (f d)) : d.Leaves l (d.when x f) :=
  ite (h d) (of_fields rfl)

theorem put (d : Device) (f : Fld) (i v : Nat) : d.Leaves [f] (d.put f i v) := fun g hg j => by
  rw [List.all_cons, List.all_nil, Bool.and_true] at hg
  exact d.get_put_apart hg i j v

theorem event (d : Device) (f : Fld) (i n : Nat) : d.Leaves [f, F.IRQ_STAT_EVT] (d.eventBit f i n) := (put d f i _).trans (put _ _ _ _)

theorem report (d : Device) (cls src code reporter : Nat) :
    d.Leaves [F.FLT_LOST_CNT_LOST, F.FLT_EVT_LOST, F.IRQ_STAT_EVT] (d.report cls src code reporter) :=
  ite (of_fields rfl) ((put d _ _ _).trans (event _ _ _ _))

end Device.Leaves

/-! ### Cores that lose lock (R94) -/

theorem Device.putAligned_leaves (d : Device) (i : Nat) (v : Bool) :
    d.Leaves [F.LOOP_STAT_ALIGNED, F.COUT_TWIN_STAT_READY] (d.putAligned i v) :=
  (Leaves.put d _ _ _).trans (.when (fun d => .put d _ _ _))

theorem Device.putAligned_within (d : Device) (i : Nat) (v : Bool) :
    d.Within [] [F.LOOP_STAT_ALIGNED.key i, F.COUT_TWIN_STAT_READY.key 0] (d.putAligned i v) :=
  (Within.putB d _ _ _).trans (.when (Within.putBit · _ _ _ _))

/-- The fields that a core's loss of lock changes. -/
def unlockFields : List Fld :=
  [F.LOOP_STAT_LOCK, F.LOOP_STAT_ALIGNED, F.COUT_TWIN_STAT_READY, F.LOOP_STAT_TRACKING, F.LOOP_STAT_HOLD, F.LOOP_MON_ERR_VALID]

theorem Device.dropLock_leaves (d : Device) (i : Nat) : d.Leaves unlockFields (d.dropLock i) := by
  unfold dropLock
  extract_lets d₁
  have h₁ : d.Leaves ([F.LOOP_STAT_LOCK] ++ [F.LOOP_STAT_ALIGNED, F.COUT_TWIN_STAT_READY] ++ [F.LOOP_STAT_TRACKING] ++ [F.LOOP_STAT_HOLD]) d₁ :=
    (((Leaves.put d _ _ _).trans (putAligned_leaves _ i _)).trans (.put _ _ _ _)).trans (.put _ _ _ _)
  exact (h₁.trans (.put d₁ F.LOOP_MON_ERR_VALID i 0)).parts rfl

/-- What a core keeps when its lock is set aside. -/
def Core.dropLock (k : Core) : Core :=
  { k with tracked := false, alarm := false, blank := false, gateSteady := false, avgSum := 0, avgCount := 0, raSum := 0, raCount := 0 }

theorem Device.core_dropLock (d : Device) (i : Nat) : (d.dropLock i).core i = (d.core i).dropLock := by
  unfold dropLock
  rw [core_onCore_self]
  exact congrArg Core.dropLock ((d.put _ _ _).putAligned_within i false |>.core i)

theorem Device.acquire_leaves (d : Device) (i st : Nat) : d.Leaves [F.LOOP_STAT_STATE] (d.acquire i st) := (Leaves.put d _ _ _).parts rfl

theorem Device.core_acquire (d : Device) (i st : Nat) : (d.acquire i st).core i = { d.core i with acq := 0 } := core_onCore_self _ _ _

theorem Device.loseLock_leaves (d : Device) (i : Nat) :
    d.Leaves (unlockFields ++ [F.LOOP_STAT_STATE] ++ [F.LOOP_UNLOCK_CNT_UNLOCKS] ++ [F.LOOP_EVT_LOCK_LOST, F.IRQ_STAT_EVT] ++
      [F.FLT_LOST_CNT_LOST, F.FLT_EVT_LOST, F.IRQ_STAT_EVT]) (d.loseLock i) := by
  unfold loseLock
  extract_lets d₁ d₂
  have h₂ : d.Leaves (unlockFields ++ [F.LOOP_STAT_STATE]) d₂ := ((d.dropLock_leaves i).trans (acquire_leaves _ i 5)).parts rfl
  exact ((h₂.trans (.put d₂ _ _ _)).trans (.event _ _ _ _)).trans (.report _ _ _ _ _)

theorem Device.core_loseLock (d : Device) (i : Nat) :
    (d.loseLock i).core i = { (d.core i).dropLock with acq := 0, lostBefore := true, lossPark := true } := by
  unfold loseLock
  extract_lets d₁ d₂
  have h₁ : d₁.core i = { (d.core i).dropLock with acq := 0 } := by
    rw [← core_dropLock]
    exact core_acquire _ i 5
  have h₂ : d₂.core i = { d₁.core i with lostBefore := true, lossPark := true } := core_onCore_self _ _ _
  rw [coreReport, (Within.report _ _ _ _ _).core, event, (Within.eventBit _ _ _ _).core, bump, core_put, h₂, h₁]

/-! ### A prepared hop is cancelled (R127) -/

theorem Device.standbyStops_within (d : Device) (k : Nat) :
    d.Within [] [F.LOOP_STAT_TRACKING.key (d.standbyCore k)] (d.standbyStops k) := by
  unfold standbyStops when
  exact .ite (.put _ _ _ _) (.refl d)

theorem Device.standbyStops_leaves (d : Device) (k : Nat) : d.Leaves [F.LOOP_STAT_TRACKING] (d.standbyStops k) := by
  unfold standbyStops when
  exact .ite (.put _ _ _ _) (.of_fields rfl)

/-- The fields that the cancellation of a hop changes. -/
def hopFields : List Fld :=
  [F.COUT_TWIN_STAT_PREPARED] ++ [F.COUT_TWIN_STAT_DEFERRING] ++ [F.LOOP_STAT_TRACKING] ++ [F.COUT_HOP_EVT_CANCELLED, F.IRQ_STAT_EVT] ++
    [F.FLT_LOST_CNT_LOST, F.FLT_EVT_LOST, F.IRQ_STAT_EVT]

theorem Device.cancelHop_leaves (d : Device) (k : Nat) : d.Leaves hopFields (d.cancelHop k) := by
  unfold cancelHop
  split
  · extract_lets t d₁ d₂ d₃
    have h₂ : d.Leaves ([F.COUT_TWIN_STAT_PREPARED] ++ [F.COUT_TWIN_STAT_DEFERRING]) d₂ := (Leaves.put d₁ _ _ _).trans (.put _ _ _ _)
    have h₃ : d.Leaves ([F.COUT_TWIN_STAT_PREPARED] ++ [F.COUT_TWIN_STAT_DEFERRING] ++ [F.LOOP_STAT_TRACKING]) d₃ :=
      (h₂.parts rfl).trans (standbyStops_leaves _ k)
    exact (h₃.trans (.event _ _ _ _)).trans (.report _ _ _ _ _)
  · exact .of_fields rfl

/-- Every core keeps its binding. -/
theorem Device.core_cancelHop_berth (d : Device) (k i : Nat) : ((d.cancelHop k).core i).berth = (d.core i).berth := by
  unfold cancelHop
  split
  · extract_lets t d₁ d₂ d₃
    have h₂ : d₂.core i = d.core i := rfl
    have h₃ : (d₃.core i).berth = (d₂.core i).berth := by
      unfold d₃
      rw [(standbyStops_within _ k).core, core_onCore]
      split
      · next same => rw [same]
      · rfl
    rw [(Within.report _ _ _ _ _).core, (Within.eventBit d₃ _ _ _).core, h₃, h₂]
  · rfl

end Sys2Proof.Machine
end

section
/-! Domain resets: what holds and releases a domain, and what the reset of REF and of a core does (R65, R67, R108). -/

namespace Sys2Proof.Machine

variable {d : Device} {dom : Nat}

/-! ### The word of DOM_RESET -/

theorem bit_nine_resetWord (x : Nat) : bit (setBit (bits x 7 0) 9) 9 = true := by
  simp only [bit, setBit, setBits, bits, beq_iff_eq]
  omega

theorem bit_eight_resetWord (x : Nat) : bit (setBit (bits x 7 0) 9) 8 = false := by
  simp only [bit, setBit, setBits, bits, beq_eq_false_iff_ne]
  omega

theorem bits_src_resetWord (x : Nat) : bits (setBit (bits x 7 0) 9) 7 6 = bits x 7 6 := by
  simp only [setBit, setBits, bits]
  omega

/-- DOM_RESET keeps SRC and resets the domain that CLK_DOM_SEL names. -/
theorem Device.wrDomCtrl_reset (named : d.get F.CLK_DOM_SEL_DOM = dom) (domain : dom < 157) (x : Nat) :
    d.wrDomCtrl (setBit (bits x 7 0) 9) = (d.put F.CLK_DOM_CTRL_SRC 0 (bits x 7 6)).domReset dom := by
  unfold wrDomCtrl
  simp only [bit_nine_resetWord, bit_eight_resetWord, bits_src_resetWord, named, when_true, when_false, if_neg (Nat.not_le.mpr domain)]

/-! ### A domain is held and released -/

theorem Device.holdDom_within (d : Device) (dom : Nat) : d.Within [.clk] [F.CLK_DOM_STAT_BUSY.key dom] (d.holdDom dom) :=
  (Within.onClk d _).trans (.put _ _ _ _)

theorem Device.mem_resetting_holdDom (d : Device) (dom : Nat) : dom ∈ (d.holdDom dom).clk.resetting := List.mem_cons_self

theorem Device.domBusy_holdDom (d : Device) (dom : Nat) : (d.holdDom dom).domBusy dom = true := by
  unfold domBusy is holdDom
  rw [get_put]
  rfl

/-- A domain with no switch in progress and no step of the sequencer is held, and the effects of its reset follow. -/
theorem Device.domReset_of_idle (idle : d.switchOf dom = none) (other : dom ∉ [144, 147, 148, 150]) :
    d.domReset dom = (d.holdDom dom).domainEffects dom := by
  simp only [List.mem_cons, List.not_mem_nil, or_false, not_or] at other
  obtain ⟨notEng, notReg, notHsp, notAon⟩ := other
  simp [domReset, idle, notEng, notReg, notHsp, notAon]

theorem Device.domainEffects_none (h : [145, 153, 155, 156].contains dom = true) (d : Device) : d.domainEffects dom = d := by
  simp only [List.contains_iff_mem, List.mem_cons, List.not_mem_nil, or_false] at h
  obtain rfl | rfl | rfl | rfl := h <;> rfl

theorem Device.domainEffects_core (d : Device) (c : Fin 16) : d.domainEffects (128 + c) = d.loopReset c := by
  have low : ¬128 + (c : Nat) < 128 := by omega
  have high : 128 + (c : Nat) < 144 := by omega
  unfold domainEffects
  rw [if_neg low, if_pos high, Nat.add_sub_cancel_left]

/-! ### The judgement of the inputs -/

@[simp] theorem Device.judge?_setJudge (d : Device) (src : Nat) (j : Judge) (k : Nat) :
    (d.setJudge src j).judge? k = if k = src then j else d.judge? k :=
  Store.getD_put _ _ _ _ _

theorem Device.setJudge_within (d : Device) (src : Nat) (j : Judge) : d.Within [.clk] [] (d.setJudge src j) := .onClk d _

theorem Device.refReset_within (d : Device) : d.Within [.clk] [] d.refReset :=
  (d.setJudge_within _ _).andThen (setJudge_within _ _ _)

/-- The inputs keep their last count and agree with nothing. -/
theorem Device.judge?_refReset (d : Device) {src : Nat} (h : src = 0 ∨ src = 1) :
    d.refReset.judge? src = { d.judge? src with hits := [], outs := 0, held := 0 } := by
  obtain rfl | rfl := h <;> simp [refReset]

/-! ### The reset of a core -/

/-- The trim is at its Reset value, whether or not the core then loses lock. -/
theorem Device.get_trim_loopReset (d : Device) (c : Nat) : (d.loopReset c).get F.LOOP_TRIM_TAU c = 0 := by
  unfold loopReset
  extract_lets d₁ d₂ d₃
  have cleared : d₃.get F.LOOP_TRIM_TAU c = 0 := get_put _ _ _ _
  unfold Device.when
  split
  · rw [d₃.loseLock_leaves c _ (by decide), cleared]
  · exact cleared

/-- Accumulators, dividers and the free target are cleared; the binding stays. -/
theorem Device.core_loopReset (d : Device) (c : Nat) :
    ((d.loopReset c).core c).acc1 = 0 ∧ ((d.loopReset c).core c).cA = 0 ∧ ((d.loopReset c).core c).hasU = false ∧
      ((d.loopReset c).core c).berth = (d.core c).berth := by
  unfold loopReset
  extract_lets d₁ d₂ d₃
  have h₂ : d₂.core c = { d₁.core c with
      acc1 := 0, acc2 := 0, acc3 := 0, acc4 := 0, carries := {}, cA := 0, cB := 0, u := 0, hasU := false, uFromQ := true,
      blank := false } := core_onCore_self d₁ c _
  have h₃ : d₃.core c = _ := h₂
  have bound : (d₃.core c).berth = (d.core c).berth := by
    rw [h₃]
    exact d.core_cancelHop_berth (c / 2) c
  unfold Device.when
  split
  · rw [core_loseLock]
    exact ⟨by rw [h₃]; rfl, by rw [h₃]; rfl, by rw [h₃]; rfl, bound⟩
  · exact ⟨by rw [h₃], by rw [h₃], by rw [h₃], bound⟩

/-! ### In service nothing else is set going -/

theorem Device.refFailover_of_rests (h : d.RefRests) : d.refFailover = d := by
  obtain ⟨tracking, locked⟩ := h
  unfold refFailover
  obtain locked | noInput := locked
  · simp [mpl0Waits, tracking, locked]
  · simp [noInput]

theorem Device.returnDomains_of_none (h : d.clk.fell = []) : d.returnDomains = d := by
  have same (p : Nat → Bool) : d.onClk (fun c => { c with fell := c.fell.filter p }) = d := by
    obtain ⟨⟩ := d
    rename_i clk _ _ _ _ _ _ _ _ _ _ _ _ _ _ _ _ _ _ _
    obtain ⟨⟩ := clk
    cases h
    rfl
  unfold returnDomains
  split
  · rfl
  · simp only [h, List.filter_nil, forEach, List.foldl_nil, same]

theorem Device.bootAdvance_of_service (h : d.step = 9) : d.bootAdvance = d := by
  simp [bootAdvance, atStep, h]

theorem Device.opNext_of_none (h : d.clk.opHeld = none) : d.opNext = d := by
  rw [opNext, h]

/-- In service, with nothing waiting, nothing follows a change of a source or domain. -/
theorem Device.poll_of_settled (h : d.Settled) : d.poll = d := by
  obtain ⟨service, noPoint, rests, noReturn⟩ := h
  have same : d.refFailover.returnDomains.bootAdvance.opNext = d := by
    rw [refFailover_of_rests rests, returnDomains_of_none noReturn, bootAdvance_of_service service, opNext_of_none noPoint]
  change (if _ then d.refFailover.returnDomains.bootAdvance.opNext else d) = d
  rw [same, ite_self]

/-- Whether the device is settled shows in fields and parts that a domain's release leaves. -/
theorem Device.Settled.of_leaves {a b : Device} (h : a.Settled) (fields : a.Leaves [F.CLK_DOM_STAT_UNTRUSTED, F.CLK_DOM_STAT_BUSY] b)
    (held : b.clk.opHeld = a.clk.opHeld) (fell : b.clk.fell = a.clk.fell) (lost : b.clk.bothLost = a.clk.bothLost) : b.Settled := by
  obtain ⟨service, noPoint, ⟨tracking, locked⟩, noReturn⟩ := h
  have kept (f : Fld) (hf : [F.CLK_DOM_STAT_UNTRUSTED, F.CLK_DOM_STAT_BUSY].all f.apart = true) : b.get f = a.get f := fields f hf 0
  have input : b.holdoverInput = a.holdoverInput := by
    unfold holdoverInput ready activeXi is
    rw [lost, kept _ (by decide), kept F.CLK_REF_STAT_READY (by decide), kept F.CLK_REF_STAT_ACTIVE (by decide),
      kept F.CLK_REF_CTRL_AUTO_FAILOVER (by decide)]
  unfold Settled RefRests step mpl0Hold mpl0Lock is
  rw [kept _ (by decide), kept F.CLK_REF_STAT_MPL0_HOLDOVER (by decide), kept F.CLK_REF_STAT_MPL0_LOCK (by decide), held, fell, input]
  exact ⟨service, noPoint, ⟨tracking, locked⟩, noReturn⟩

/-! ### A domain is released -/

/-- The device after the reset of a domain is released. -/
def Device.releaseDom (d : Device) (dom : Nat) : Device :=
  ((d.onClk (fun c => { c with resetting := c.resetting.filter (· != dom) })).put F.CLK_DOM_STAT_UNTRUSTED dom 0).putB
    F.CLK_DOM_STAT_BUSY dom (d.switchOf dom).isSome

theorem Device.releaseDom_within (d : Device) (dom : Nat) :
    d.Within [.clk] [F.CLK_DOM_STAT_UNTRUSTED.key dom, F.CLK_DOM_STAT_BUSY.key dom] (d.releaseDom dom) :=
  ((Within.onClk d _).trans (.put _ _ _ _)).trans (.putB _ _ _ _)

theorem Device.releaseDom_leaves (d : Device) (dom : Nat) :
    d.Leaves [F.CLK_DOM_STAT_UNTRUSTED, F.CLK_DOM_STAT_BUSY] (d.releaseDom dom) :=
  (Leaves.put (d.onClk _) _ _ _).trans (.put _ _ _ _)

/-- In service the release of a domain is all that DOM_RESET_DONE does. -/
theorem Device.domResetDone_of_settled (held : d.clk.resetting.contains dom = true) (h : d.Settled) :
    (d.domResetDone dom).poll = d.releaseDom dom := by
  have settled : (d.releaseDom dom).Settled := h.of_leaves (d.releaseDom_leaves dom) rfl rfl rfl
  have ⟨_, noPoint, _, _⟩ := settled
  have released : d.domResetDone dom = d.releaseDom dom := by
    unfold domResetDone
    rw [if_pos held]
    exact opNext_of_none noPoint
  rw [released, poll_of_settled settled]

theorem Device.domBusy_releaseDom (d : Device) (dom : Nat) : (d.releaseDom dom).domBusy dom = (d.switchOf dom).isSome := by
  unfold domBusy is releaseDom putB
  rw [get_put]
  cases (d.switchOf dom).isSome <;> rfl

theorem Device.get_untrusted_releaseDom (d : Device) (dom : Nat) : (d.releaseDom dom).get F.CLK_DOM_STAT_UNTRUSTED dom = 0 := by
  unfold releaseDom putB
  rw [get_put_apart _ (by decide), get_put]
  rfl

/-! ### The commands -/

/-- The device with a domain held in its reset by a write of CLK_DOM_CTRL. -/
def Device.heldReset (d : Device) (v : Word) (dom : Nat) : Device := (d.put F.CLK_DOM_CTRL_SRC 0 (bits v.toNat 7 6)).holdDom dom

theorem Device.heldReset_within (d : Device) (v : Word) (dom : Nat) :
    d.Within [.clk] [F.CLK_DOM_CTRL_SRC.key 0, F.CLK_DOM_STAT_BUSY.key dom] (d.heldReset v dom) :=
  (Within.put d _ _ _).trans (holdDom_within _ dom)

/-- DOM_RESET of a domain with no switch in progress: it is held, and the effects of its reset follow. -/
theorem Device.domReset_row {v : Word} (named : d.get F.CLK_DOM_SEL_DOM = dom) (domain : dom < 157) (other : dom ∉ [144, 147, 148, 150])
    (idle : d.switchOf dom = none) :
    (d.wrDomCtrl (setBit (bits v.toNat 7 0) 9)).markDirty = ((d.heldReset v dom).domainEffects dom).markDirty := by
  have kept : (d.put F.CLK_DOM_CTRL_SRC 0 (bits v.toNat 7 6)).switchOf dom = none := idle
  rw [wrDomCtrl_reset named domain, domReset_of_idle kept other]
  rfl

/-- Settles O17: each clause is the hold of the domain with the effects of its reset, none, those of REF or those of a core, or its
release; in service nothing follows a release. -/
theorem domainResets : Obligations.DomainResets := by
  unfold Obligations.DomainResets
  refine ⟨?_, ?_, ?_, ?_⟩
  · intro s v dom r named plain idle
    have one : dom = 145 ∨ dom = 153 ∨ dom = 155 ∨ dom = 156 := by simpa using plain
    have run := Device.domReset_row (v := v) named (by omega) (by simp; omega) idle
    rw [Device.domainEffects_none plain] at run
    have w := (s.dev.heldReset_within v dom).trans (.markDirty _)
    have clk := (Device.Within.markDirty (s.dev.heldReset v dom)).clk
    refine does_within rfl r run w ⟨?_, ?_⟩
    · rw [clk]
      exact Device.mem_resetting_holdDom _ dom
    · rw [Device.domBusy, Device.is, (Device.Within.markDirty _).get _ _ List.not_mem_nil]
      exact Device.domBusy_holdDom _ dom
  · intro s v r named idle
    have run : (s.dev.wrDomCtrl (setBit (bits v.toNat 7 0) 9)).markDirty = (s.dev.heldReset v 154).refReset.markDirty :=
      Device.domReset_row named (by decide) (by decide) idle
    have held := s.dev.heldReset_within v 154
    have after := (Device.refReset_within (s.dev.heldReset v 154)).trans (.markDirty _)
    have judged (src : Nat) (h : src = 0 ∨ src = 1) : (s.dev.heldReset v 154).refReset.markDirty.judge? src =
        { s.dev.judge? src with hits := [], outs := 0, held := 0 } := by
      rw [(Device.Within.markDirty _).judge?, Device.judge?_refReset _ h]
      rfl
    refine does_within rfl r run ((held.trans after).mono (by decide) (by decide)) ⟨?_, ?_, ?_, ?_, ?_⟩
    · rw [(Device.Within.markDirty _).clk]
      exact Device.mem_resetting_holdDom _ 154
    all_goals rw [judged _ (by decide)]
  · intro s v c r named idle
    have run := Device.domReset_row (v := v) named (by omega) (by simp; omega) idle
    rw [Device.domainEffects_core] at run
    have dirty := Device.Within.markDirty ((s.dev.heldReset v (128 + c)).loopReset c)
    obtain ⟨acc, divider, target, bound⟩ := (s.dev.heldReset v (128 + c)).core_loopReset c
    refine answers_on rfl r run ?_
    rw [dirty.core, dirty.get _ _ List.not_mem_nil]
    exact ⟨acc, divider, target, Device.get_trim_loopReset _ c, bound⟩
  · intro s dom r held settled
    have run := Device.domResetDone_of_settled held settled
    refine does_within rfl r run (s.dev.releaseDom_within dom) ⟨?_, ?_, ?_⟩
    · simp [Device.releaseDom, Device.putB]
    · exact s.dev.get_untrusted_releaseDom dom
    · exact s.dev.domBusy_releaseDom dom

end Sys2Proof.Machine
end

section
/-! Gates: what enable bits, closing, opening and restarting blocks change, and the values they leave (R70-R72, R92, R108). -/

namespace Sys2Proof.Machine

variable {d : Device}

/-! ### Enable bits and states of blocks -/

/-- A bit of a field reads what it was set to. -/
theorem bit_setBits {n w : Nat} (h : n < w) (x : Nat) (v : Bool) : bit (setBits x n n (ofBool v) % 2 ^ w) n = v := by
  have one : n + 1 - n = 1 := by omega
  have digit : setBits x n n (ofBool v) / 2 ^ n = x / 2 ^ n - x / 2 ^ n % 2 + ofBool v := by
    have small : ofBool v % 2 ^ 1 = ofBool v := by cases v <;> rfl
    rw [setBits, bits, one, small, Nat.add_mul_div_right _ _ (Nat.two_pow_pos n), Nat.mul_comm (_ % _), Nat.sub_mul_div, pow_one]
  have inside : (setBits x n n (ofBool v) % 2 ^ w).testBit n = (setBits x n n (ofBool v)).testBit n := by
    rw [Nat.testBit_mod_two_pow, decide_eq_true h, Bool.true_and]
  rw [Nat.testBit_eq_decide_div_mod_eq, Nat.testBit_eq_decide_div_mod_eq, digit] at inside
  rw [bit, Bool.beq_eq_decide_eq, inside]
  cases v
  · exact decide_eq_false (by change ¬(x / 2 ^ n - x / 2 ^ n % 2 + 0) % 2 = 1; omega)
  · exact decide_eq_true (by change (x / 2 ^ n - x / 2 ^ n % 2 + 1) % 2 = 1; omega)

theorem enableBit_lt_width (b : Fin 118) : (enableBit b).2 < (enableBit b).1.width := by
  revert b
  decide

theorem enableBit_apart_state (b : Fin 118) :
    (enableBit b).1.apart F.CLK_BLK_STAT_STATE = true ∧ F.CLK_BLK_STAT_STATE.apart (enableBit b).1 = true ∧
      (enableBit b).1.apart F.CLK_BLK_STAT_RESTART_PENDING = true := by
  revert b
  decide

theorem Device.setEnable_within (d : Device) (b : Nat) (v : Bool) : d.Within [] [(enableBit b).1.key 0] (d.setEnable b v) :=
  .putBit d _ _ _ _

theorem Device.setBlockState_within (d : Device) (b st : Nat) : d.Within [] [F.CLK_BLK_STAT_STATE.key b] (d.setBlockState b st) :=
  .put d _ _ _

@[simp] theorem Device.blockEnabled_setEnable (d : Device) (b : Fin 118) (v : Bool) : (d.setEnable b v).blockEnabled b = v := by
  rw [blockEnabled, setEnable, putBit, get_put]
  exact bit_setBits (enableBit_lt_width b) _ v

@[simp] theorem Device.blockState_setEnable (d : Device) (b : Fin 118) (v : Bool) (k : Nat) :
    (d.setEnable b v).blockState k = d.blockState k :=
  d.get_put_apart (enableBit_apart_state b).2.1 _ _ _

theorem Device.blockState_setBlockState (d : Device) (b : Nat) {st : Nat} (h : st < 4) : (d.setBlockState b st).blockState b = st :=
  (d.get_put _ _ _).trans (Nat.mod_eq_of_lt h)

namespace Device.Leaves

variable {a b : Device} {l : List Fld}

theorem blockState (h : a.Leaves l b) (k : Nat) (hl : l.all F.CLK_BLK_STAT_STATE.apart = true := by decide) :
    b.blockState k = a.blockState k :=
  h _ hl k

theorem blockEnabled (h : a.Leaves l b) (k : Nat) (hl : l.all (enableBit k).1.apart = true) : b.blockEnabled k = a.blockEnabled k := by
  unfold Device.blockEnabled
  rw [h _ hl]

end Device.Leaves

/-! ### A gate takes force -/

/-- A block enters CLOSING: no gate request is held for it and no restart is pending. -/
def Device.gateShut (d : Device) (b : Nat) : Device :=
  ((d.onClk (fun c => { c with gateHeld := c.gateHeld.filter (· != b) })).setBlockState b 3).put F.CLK_BLK_STAT_RESTART_PENDING b 0

theorem Device.gateShut_within (d : Device) (b : Nat) :
    d.Within [.clk] [F.CLK_BLK_STAT_STATE.key b, F.CLK_BLK_STAT_RESTART_PENDING.key b] (d.gateShut b) :=
  ((Within.onClk d _).trans (setBlockState_within _ b 3)).trans (.put _ _ _ _)

theorem Device.gateShut_leaves (d : Device) (b : Nat) :
    d.Leaves [F.CLK_BLK_STAT_STATE, F.CLK_BLK_STAT_RESTART_PENDING] (d.gateShut b) :=
  (Leaves.put (d.onClk _) _ _ _).trans (.put _ _ _ _)

@[simp] theorem Device.blockState_gateShut (d : Device) (b : Nat) : (d.gateShut b).blockState b = 3 := by
  rw [blockState, gateShut, get_put_apart _ (by decide)]
  exact blockState_setBlockState _ b (by decide)

@[simp] theorem Device.blockEnabled_gateShut (d : Device) (b : Nat) (k : Fin 118) : (d.gateShut b).blockEnabled k = d.blockEnabled k := by
  obtain ⟨state, -, restart⟩ := enableBit_apart_state k
  exact (d.gateShut_leaves b).blockEnabled k (by simp [state, restart])

theorem Device.not_mem_gateHeld_gateShut (d : Device) (b : Nat) : b ∉ (d.gateShut b).clk.gateHeld := by
  simp [gateShut, setBlockState]

/-- AUXA and AUXB do nothing else when they close. -/
theorem Device.gateTakes_aux (d : Device) {b : Nat} (low : 112 ≤ b) (high : b ≤ 113) : d.gateTakes b = d.gateShut b := by
  obtain rfl | rfl : b = 112 ∨ b = 113 := by omega
  · rfl
  · rfl

theorem Device.gateTakes_core (d : Device) (c : Fin 16) :
    d.gateTakes (64 + c) = (((d.gateShut (64 + c)).coreClose c).dropStaged (16 + c)).dropCapture (16 + c) := by
  fin_cases c <;> rfl

/-! ### The enable bit of an open block is cleared -/

theorem Device.wrEnable_clear (busy : Bool) {b : Nat} (enabled : d.blockEnabled b = true) :
    d.wrEnable b false busy = (d.setEnable b false).gateClose b busy := by
  simp [wrEnable, enabled]

/-- With its port busy an open block stays open, its gate held. -/
theorem Device.gateClose_busy {b : Nat} (opened : d.blockState b = 2) (free : d.clk.gateHeld.contains b = false) :
    d.gateClose b true = d.onClk (fun c => { c with gateHeld := c.gateHeld ++ [b] }) := by
  rw [gateClose, opened, free]
  rfl

theorem Device.gateClose_idle {b : Nat} (opened : d.blockState b = 2) : d.gateClose b false = d.gateTakes b := by
  rw [gateClose, opened]
  rfl

theorem Device.blockClose_busy {b : Fin 118} (enabled : d.blockEnabled b = true) (opened : d.blockState b = 2)
    (free : d.clk.gateHeld.contains b.val = false) :
    d.blockClose b true = ((d.setEnable b false).onClk (fun c => { c with gateHeld := c.gateHeld ++ [b.val] })).markDirty := by
  rw [blockClose, wrEnable_clear true enabled, gateClose_busy ((d.blockState_setEnable b false b).trans opened) free]

theorem Device.blockClose_idle {b : Fin 118} (enabled : d.blockEnabled b = true) (opened : d.blockState b = 2) :
    d.blockClose b false = ((d.setEnable b false).gateTakes b).markDirty := by
  rw [blockClose, wrEnable_clear false enabled, gateClose_idle ((d.blockState_setEnable b false b).trans opened)]

end Sys2Proof.Machine
end

section
/-! Gates: what a core does when it closes and opens, the other gate commands, and O18 (R71, R72, R92, R101, R108, R134, R291). -/

namespace Sys2Proof.Machine

variable {d : Device}

/-! ### A core closes (R108) -/

/-- The fields of l take given values in copy i. -/
def Device.putAll (d : Device) (l : List Fld) (i : Nat) (v : Fld → Nat) : Device := forEach l (fun f d => d.put f i (v f)) d

theorem Device.putAll_leaves (d : Device) (l : List Fld) (i : Nat) (v : Fld → Nat) : d.Leaves l (d.putAll l i v) := by
  induction l generalizing d with
  | nil => exact .of_fields rfl
  | cons f t ih => exact (Leaves.put d f i (v f)).trans (ih _)

@[simp] theorem Device.core_putAll (d : Device) (l : List Fld) (i : Nat) (v : Fld → Nat) (c : Nat) : (d.putAll l i v).core c = d.core c := by
  induction l generalizing d with
  | nil => rfl
  | cons f t ih => exact ih _

/-- Each of them reads its value where they are all apart. -/
theorem Device.get_putAll (d : Device) {l : List Fld} (distinct : l.Pairwise (fun f g => f.apart g = true)) {f : Fld} (h : f ∈ l)
    (i : Nat) (v : Fld → Nat) : (d.putAll l i v).get f i = v f % 2 ^ f.width := by
  induction l generalizing d with
  | nil => exact absurd h List.not_mem_nil
  | cons g t ih =>
    obtain ⟨others, distinct⟩ := List.pairwise_cons.mp distinct
    obtain rfl | h := List.mem_cons.mp h
    · have kept := (d.put f i (v f)).putAll_leaves t i v f (List.all_eq_true.mpr others) i
      exact kept.trans (d.get_put f i _)
    · exact ih _ distinct h

/-- The fields of a core that take their Reset values when it closes. -/
def closeFields : List Fld := R.LOOP_STAT.fields ++ R.LOOP_MON_ERR.fields ++ R.LOOP_MON_RAW.fields ++ R.LOOP_TRIM.fields

/-- The fields that change before a closing core takes its Reset values. -/
def cancelFields : List Fld :=
  [F.LOOP_APPLY_RESULT, F.LOOP_APPLY_GO] ++ hopFields ++ [F.LOOP_STAT_ALIGNED, F.COUT_TWIN_STAT_READY]

theorem Device.cancelApply_leaves (d : Device) (c : Nat) : d.Leaves [F.LOOP_APPLY_RESULT, F.LOOP_APPLY_GO] (d.cancelApply c) :=
  .ite (((Leaves.put d _ _ _).trans (.put _ F.LOOP_APPLY_GO c 0)).parts rfl) (.of_fields rfl)

theorem Device.core_cancelApply_berth (d : Device) (c : Nat) : ((d.cancelApply c).core c).berth = (d.core c).berth := by
  unfold cancelApply
  split
  · rw [core_onCore_self]
    rfl
  · rfl

/-- A core loses its pending apply, the prepared hop of its twin and ALIGNED. -/
def Device.coreCancel (d : Device) (c : Nat) : Device := ((d.cancelApply c).cancelHop (c / 2)).putAligned c false

theorem Device.coreCancel_leaves (d : Device) (c : Nat) : d.Leaves cancelFields (d.coreCancel c) :=
  ((d.cancelApply_leaves c).trans (cancelHop_leaves _ _)).trans (putAligned_leaves _ _ _)

theorem Device.core_coreCancel_berth (d : Device) (c : Nat) : ((d.coreCancel c).core c).berth = (d.core c).berth := by
  rw [coreCancel, (putAligned_within _ _ _).core, core_cancelHop_berth, core_cancelApply_berth]

theorem Device.coreClose_eq (d : Device) (c : Nat) :
    d.coreClose c = ((d.coreCancel c).putAll closeFields c (·.reset c)).onCore c (fun k => { berth := k.berth }) := by
  unfold coreClose coreCancel putAll closeFields
  rfl

theorem Device.coreClose_leaves (d : Device) (c : Nat) : d.Leaves (cancelFields ++ closeFields) (d.coreClose c) := by
  rw [coreClose_eq]
  exact ((d.coreCancel_leaves c).trans (putAll_leaves _ closeFields c (·.reset c))).parts (onCore_fields _ _ _)

theorem Device.core_coreClose (d : Device) (c : Nat) : (d.coreClose c).core c = { berth := (d.core c).berth } := by
  rw [coreClose_eq, core_onCore_self, core_putAll, core_coreCancel_berth]

theorem Device.get_coreClose {f : Fld} (h : f ∈ closeFields) (d : Device) (c : Nat) :
    (d.coreClose c).get f c = f.reset c % 2 ^ f.width := by
  rw [coreClose_eq, get_onCore]
  exact get_putAll _ (by decide) h c (·.reset c)

theorem Device.dropStaged_leaves (d : Device) (page : Nat) : d.Leaves [F.PAGE_STAT_IND_DROP, F.IRQ_STAT_PAGE] (d.dropStaged page) := by
  unfold dropStaged Device.when
  exact .ite ((Leaves.put { d with bus := _ } _ _ _).trans (.put _ _ _ _)) (.of_fields rfl)

theorem Device.core_dropStaged (d : Device) (page c : Nat) : (d.dropStaged page).core c = d.core c := by
  unfold dropStaged Device.when
  split <;> rfl

/-! ### A core starts and opens (R92, R101, R291) -/

theorem Device.bandOpen_within (d : Device) (c : Nat) : d.Within [.bandMap] [] (d.bandOpen c) := by
  have word (d : Device) (e w v : Nat) : d.Within [.bandMap] [] (d.setBandWord c e w v) :=
    .of_part .bandMap (fun q hq => by cases q with | bandMap => exact absurd rfl hq | _ => rfl) rfl
  exact .forEach (fun e d => .when (fun d => (word d _ _ _).andThen (word _ _ _ _)))

/-- An open core before a load that waited starts it: IDLE, its binding shown, its corrections taken. -/
def Device.coreIdle (d : Device) (c : Nat) : Device :=
  (((d.put F.LOOP_STAT_STATE c 1).putB F.LOOP_STAT_BOUND c (d.core c).berth.isSome).monOffset c).bandOpen c

theorem Device.coreIdle_within (d : Device) (c : Nat) :
    d.Within [.bandMap] [F.LOOP_STAT_STATE.key c, F.LOOP_STAT_BOUND.key c, F.LOOP_MON_OFFSET_OFFSET.key c] (d.coreIdle c) :=
  (((Within.put d _ _ _).trans (.putB _ _ _ _)).trans (.put _ _ _ _)).trans (bandOpen_within _ c)

theorem Device.coreIdle_leaves (d : Device) (c : Nat) :
    d.Leaves [F.LOOP_STAT_STATE, F.LOOP_STAT_BOUND, F.LOOP_MON_OFFSET_OFFSET] (d.coreIdle c) := fun f hf i =>
  ((bandOpen_within _ c).get f i List.not_mem_nil).trans
    ((((Leaves.put d F.LOOP_STAT_STATE c 1).trans (.put _ F.LOOP_STAT_BOUND c _)).trans (.put _ F.LOOP_MON_OFFSET_OFFSET c _)) f hf i)

theorem Device.get_state_coreIdle (d : Device) (c : Nat) : (d.coreIdle c).get F.LOOP_STAT_STATE c = 1 := by
  rw [coreIdle, (bandOpen_within _ c).get _ _ List.not_mem_nil, monOffset, get_put_apart _ (by decide), putB, get_put_apart _ (by decide),
    get_put]
  rfl

theorem Device.is_bound_coreIdle (d : Device) (c : Nat) : (d.coreIdle c).is F.LOOP_STAT_BOUND c = (d.core c).berth.isSome := by
  rw [is, coreIdle, (bandOpen_within _ c).get _ _ List.not_mem_nil, monOffset, get_put_apart _ (by decide), putB, get_put]
  cases (d.core c).berth <;> rfl

theorem Device.coreOpen_of_idle {c : Nat} (h : (d.core c).starts = false) : d.coreOpen c = d.coreIdle c := by
  have waits : ((d.coreIdle c).core c).starts = false := by rw [(d.coreIdle_within c).core, h]
  change (if ((d.coreIdle c).core c).starts then _ else d.coreIdle c) = _
  rw [waits]
  rfl

theorem Device.coreOpen_of_starts {c : Nat} (h : (d.core c).starts = true) :
    d.coreOpen c = ((d.coreIdle c).onCore c (fun k => { k with starts := false })).searchOrManual c ((d.coreIdle c).core c).set := by
  have waits : ((d.coreIdle c).core c).starts = true := by rw [(d.coreIdle_within c).core, h]
  exact if_pos waits

/-- The fields that show the band and whether it is searched for. -/
def bandFields : List Fld := [F.LOOP_STAT_TANK, F.LOOP_STAT_BAND, F.LOOP_STAT_BAND_SEARCH, F.LOOP_STAT_STATE]

/-- The start of an acquisition with the written band. -/
def Device.bandWritten (d : Device) (c : Nat) : Device :=
  (((d.put F.LOOP_STAT_TANK c (d.get F.LOOP_BAND_CTRL_TANK c)).put F.LOOP_STAT_BAND c (d.get F.LOOP_BAND_CTRL_BAND c)).put
    F.LOOP_STAT_BAND_SEARCH c 0).acquire c 3

/-- The start of a band search. -/
def Device.bandSearched (d : Device) (c tank : Nat) : Device :=
  ((d.put F.LOOP_STAT_TANK c tank).put F.LOOP_STAT_STATE c 2).put F.LOOP_STAT_BAND_SEARCH c 1

/-- Lock is set aside before either. -/
def Device.bandCleared (d : Device) (c : Nat) : Device :=
  ((d.dropLock c).onCore c (fun k => { k with presetPark := true, since := 0 })).put F.LOOP_STAT_TUNE_EDGE c 0

theorem Device.bandWritten_leaves (d : Device) (c : Nat) : d.Leaves bandFields (d.bandWritten c) :=
  (((Leaves.put d F.LOOP_STAT_TANK c _).trans (.put _ F.LOOP_STAT_BAND c _)).trans (.put _ F.LOOP_STAT_BAND_SEARCH c 0)).trans
    (acquire_leaves _ c 3)

theorem Device.bandSearched_leaves (d : Device) (c tank : Nat) :
    d.Leaves [F.LOOP_STAT_TANK, F.LOOP_STAT_STATE, F.LOOP_STAT_BAND_SEARCH] (d.bandSearched c tank) :=
  ((Leaves.put d _ _ _).trans (.put _ _ _ _)).trans (.put _ _ _ _)

theorem Device.bandCleared_leaves (d : Device) (c : Nat) : d.Leaves (unlockFields ++ [F.LOOP_STAT_TUNE_EDGE]) (d.bandCleared c) :=
  ((d.dropLock_leaves c).parts rfl).trans (.put ((d.dropLock c).onCore c _) F.LOOP_STAT_TUNE_EDGE c 0)

theorem Device.starts_bandCleared (d : Device) (c : Nat) : ((d.bandCleared c).core c).starts = (d.core c).starts := by
  rw [bandCleared, core_put, core_onCore_self, core_dropLock]
  rfl

theorem Device.manual_bandCleared (d : Device) (c : Nat) :
    (d.bandCleared c).is F.LOOP_BAND_CTRL_MANUAL c = d.is F.LOOP_BAND_CTRL_MANUAL c := by
  unfold is
  rw [d.bandCleared_leaves c _ (by decide)]

theorem Device.searchOrManual_of_manual {c : Nat} (s : Settings) (h : d.is F.LOOP_BAND_CTRL_MANUAL c = true) :
    d.searchOrManual c s = (d.bandCleared c).bandWritten c :=
  if_pos ((d.manual_bandCleared c).trans h)

theorem Device.searchOrManual_of_auto {c : Nat} (s : Settings) (h : d.is F.LOOP_BAND_CTRL_MANUAL c = false) :
    d.searchOrManual c s = (d.bandCleared c).bandSearched c ((d.bandCleared c).tankFor c s) :=
  if_neg (Bool.eq_false_iff.mp ((d.manual_bandCleared c).trans h))

/-- A band search starts, or the written band is taken: what STATE and BAND_SEARCH show, and what stays. -/
theorem Device.searchOrManual_spec (d : Device) (c : Nat) (s : Settings) :
    d.Leaves (unlockFields ++ [F.LOOP_STAT_TUNE_EDGE] ++ bandFields) (d.searchOrManual c s) ∧
      ((d.searchOrManual c s).core c).starts = (d.core c).starts ∧
      (d.searchOrManual c s).get F.LOOP_STAT_STATE c = (if d.is F.LOOP_BAND_CTRL_MANUAL c then 3 else 2) ∧
      (d.searchOrManual c s).is F.LOOP_STAT_BAND_SEARCH c = !d.is F.LOOP_BAND_CTRL_MANUAL c := by
  have cleared := d.bandCleared_leaves c
  have starts := d.starts_bandCleared c
  cases manual : d.is F.LOOP_BAND_CTRL_MANUAL c with
  | true =>
    rw [searchOrManual_of_manual s manual]
    refine ⟨cleared.trans (bandWritten_leaves _ c), ?_, ?_, ?_⟩
    · rw [bandWritten, core_acquire, core_put, core_put, core_put, starts]
    · rw [bandWritten, acquire, get_onCore, get_put]
      rfl
    · rw [is, bandWritten, acquire, get_onCore, get_put_apart _ (by decide), get_put]
      rfl
  | false =>
    rw [searchOrManual_of_auto s manual]
    have searched := (bandSearched_leaves (d.bandCleared c) c ((d.bandCleared c).tankFor c s)).mono (m := bandFields)
      (by simp [bandFields])
    refine ⟨cleared.trans searched, starts, ?_, ?_⟩
    · rw [bandSearched, get_put_apart _ (by decide), get_put]
      rfl
    · rw [is, bandSearched, get_put]
      rfl

/-! ### The other gate commands -/

/-- Outside step 7 no quad takes held entries, and no other block ever does. -/
theorem Device.takeHeld_of_not_seven (h : d.atStep 6 = false) (q : Nat) : d.takeHeld q = d := by
  simp [takeHeld, h]

theorem Device.takeHeld_of_no_quad {q : Nat} (h : 64 ≤ q) : d.takeHeld q = d := by
  simp [takeHeld, Nat.not_lt.mpr h]

theorem Device.atStep_setBlockState (d : Device) (b st n : Nat) : (d.setBlockState b st).atStep n = d.atStep n := by
  unfold atStep step is setBlockState
  rw [get_put_apart _ (by decide), get_put_apart _ (by decide)]

theorem Device.openStarts_of_high {b : Nat} (h : 80 ≤ b) : d.openStarts b = d := by
  rw [openStarts, if_neg (by omega), if_neg (by omega)]

theorem Device.openStarts_core (d : Device) (c : Fin 16) : d.openStarts (64 + c) = d.coreStart c := by
  rw [openStarts, if_neg (by omega), if_pos (by omega), Nat.add_sub_cancel_left]

theorem Device.coreStart_within (d : Device) (c : Nat) : d.Within [.cores] [] (d.coreStart c) := .onCore d c _

/-- A shut down block without a pending restart is CLOSED. -/
theorem Device.blockShutdownDone_closed {b : Nat} (closing : d.blockState b = 3)
    (final : d.is F.CLK_BLK_STAT_RESTART_PENDING b = false) (h : d.atStep 6 = false) : d.blockShutdownDone b = d.setBlockState b 0 := by
  have shut : d.shutdownDone b = d.setBlockState b 0 := by simp [shutdownDone, closing, final]
  rw [blockShutdownDone, shut, takeHeld_of_not_seven (by rw [atStep_setBlockState, h])]

/-- A shut down block with a pending restart, neither quad nor core, is OPENING. -/
theorem Device.blockShutdownDone_restarts {b : Nat} (high : 80 ≤ b) (closing : d.blockState b = 3)
    (restart : d.is F.CLK_BLK_STAT_RESTART_PENDING b = true) :
    d.blockShutdownDone b = ((d.put F.CLK_BLK_STAT_RESTART_PENDING b 0).setBlockState b 1).event F.CLK_GATE_EVT_RESTART_DONE := by
  have shut : d.shutdownDone b =
      ((d.put F.CLK_BLK_STAT_RESTART_PENDING b 0).setBlockState b 1).event F.CLK_GATE_EVT_RESTART_DONE := by
    rw [shutdownDone, if_pos closing, if_pos restart, openStarts_of_high high]
  rw [blockShutdownDone, shut, takeHeld_of_no_quad (by omega)]

/-- A CLOSED block whose enable bit is set enters OPENING. -/
def Device.gateStart (d : Device) (b : Nat) : Device :=
  ((d.setEnable b true).onClk (fun c => { c with gateHeld := c.gateHeld.filter (· != b) })).setBlockState b 1

theorem Device.gateStart_within (d : Device) (b : Nat) :
    d.Within [.clk] [(enableBit b).1.key 0, F.CLK_BLK_STAT_STATE.key b] (d.gateStart b) :=
  ((d.setEnable_within b true).trans (.onClk _ _)).trans (setBlockState_within _ b 1)

theorem Device.blockState_gateStart (d : Device) (b : Nat) : (d.gateStart b).blockState b = 1 := blockState_setBlockState _ b (by decide)

theorem Device.blockEnabled_gateStart (d : Device) (b : Fin 118) : (d.gateStart b).blockEnabled b = true := by
  have kept := (Leaves.put ((d.setEnable b true).onClk (fun c => { c with gateHeld := c.gateHeld.filter (· != b.val) }))
    F.CLK_BLK_STAT_STATE b 1).blockEnabled b (by simp [enableBit_apart_state])
  exact kept.trans (d.blockEnabled_setEnable b true)

theorem Device.gateOpen_closed {b : Nat} (closed : d.blockState b = 0) :
    d.gateOpen b = ((d.onClk (fun c => { c with gateHeld := c.gateHeld.filter (· != b) })).setBlockState b 1).openStarts b := by
  have notClosing : ¬d.blockState b = 3 := by omega
  exact (if_neg notClosing).trans (if_pos closed)

theorem Device.blockOpen_closed {b : Fin 118} (disabled : d.blockEnabled b = false) (closed : d.blockState b = 0)
    (notListed : b.val ∉ d.boot.toOpen) : d.blockOpen b = ((d.gateStart b).openStarts b).markDirty := by
  have opens : d.wrEnable b true false = (d.gateStart b).openStarts b := by
    rw [wrEnable, disabled]
    exact gateOpen_closed ((d.blockState_setEnable b true b).trans closed)
  simp [blockOpen, notListed, opens]

/-- A block that is OPENING is OPEN, and does what it does then. -/
theorem Device.blockOpenDone_opening {b : Nat} (opening : d.blockState b = 1) :
    d.blockOpenDone b = (d.setBlockState b 2).openEffects b := if_pos opening

theorem Device.openEffects_none {b : Nat} (h : b = 114 ∨ b = 115 ∨ b = 117) : d.openEffects b = d := by
  obtain rfl | rfl | rfl := h <;> rfl

theorem Device.openEffects_core (d : Device) (c : Fin 16) : d.openEffects (64 + c) = d.coreOpen c := by
  rw [openEffects, if_neg (by omega), if_pos (by omega), Nat.add_sub_cancel_left]

theorem Device.openEffects_output (d : Device) (n : Fin 32) : d.openEffects (80 + n) = d.outputOpen n := by
  rw [openEffects, if_neg (by omega), if_neg (by omega), if_pos (by omega), Nat.add_sub_cancel_left]

theorem Device.openEffects_aux (d : Device) (a : Fin 2) : d.openEffects (112 + a) = (d.auxDivUpdate a).auxSscUpdate a := by
  rw [openEffects, if_neg (by omega), if_neg (by omega), if_neg (by omega), if_pos (by omega), Nat.add_sub_cancel_left]

/-- The settings of an AUX output come into force. -/
def Device.auxTakes (d : Device) (a : Nat) : Device :=
  d.onClk (fun c => { c with
    auxDiv := Store.set c.auxDiv a (auxClamp (d.auxDivReg a)), auxSsc := Store.set c.auxSsc a (d.auxSscReg a) })

theorem Device.aux_of_open {a : Nat} (opened : d.blockState (112 + a) = 2) : (d.auxDivUpdate a).auxSscUpdate a = d.auxTakes a := by
  have open' : d.blockClosed (112 + a) = false := by
    unfold blockClosed
    rw [show d.get F.CLK_BLK_STAT_STATE (112 + a) = 2 from opened]
    rfl
  have div : d.auxDivUpdate a = d.onClk (fun c => { c with auxDiv := Store.set c.auxDiv a (auxClamp (d.auxDivReg a)) }) := by
    rw [auxDivUpdate, open']
    rfl
  rw [div]
  exact if_neg (Bool.eq_false_iff.mp open')

/-- The AUX settings written do not lie with the states of the blocks. -/
theorem Device.aux_setBlockState (d : Device) (b st a : Nat) :
    (d.setBlockState b st).auxDivReg a = d.auxDivReg a ∧ (d.setBlockState b st).auxSscReg a = d.auxSscReg a := by
  unfold auxDivReg auxSscReg setBlockState
  simp (disch := decide) only [get_put_apart, and_self]

/-- The states of the blocks lie above the 24-bit address space. -/
theorem key_ne_blockState {f : Fld} {i : Nat} (low : f.key i < 0x20000000) (b : Nat) : f.key i ≠ F.CLK_BLK_STAT_STATE.key b := by
  have high : 0x20000000 ≤ F.CLK_BLK_STAT_STATE.key b := by
    simp only [Fld.key, Fld.addr, Shape.addr, F.CLK_BLK_STAT_STATE]
    omega
  omega

theorem outputKey_low (n : Fin 32) :
    F.COUT_STAT_TAP.key n < 0x20000000 ∧ F.COUT_DLY_DELAY.key n < 0x20000000 ∧ F.COUT_STAT_WALKING.key n < 0x20000000 := by
  revert n
  decide

/-- Nor do the tap of an output and the delay it is selected for. -/
theorem Device.tap_setBlockState (d : Device) (b st : Nat) (n : Fin 32) :
    (d.setBlockState b st).get F.COUT_STAT_TAP n = d.get F.COUT_STAT_TAP n ∧ (d.setBlockState b st).tapFor n = d.tapFor n := by
  unfold tapFor delayOf
  obtain ⟨tap, delay, -⟩ := outputKey_low n
  rw [setBlockState, get_put_ne _ _ _ _ _ _ (key_ne_blockState tap b), get_put_ne _ _ _ _ _ _ (key_ne_blockState delay b)]
  exact ⟨rfl, rfl⟩

theorem Device.walkToTable_within (d : Device) (n : Nat) : d.Within [.outputs] [F.COUT_STAT_WALKING.key n] (d.walkToTable n) := by
  have out : d.Within [.outputs] [] (d.onOutput n (fun o => { o with walkTo := some (d.tapFor n), walkAsked := false, walkDue := false })) :=
    .of_part .outputs (fun q hq => by cases q with | outputs => exact absurd rfl hq | _ => rfl) rfl
  exact out.trans (.put _ _ _ _)

theorem Device.blockState_walkToTable (d : Device) (n : Fin 32) (b : Nat) : (d.walkToTable n).blockState b = d.blockState b := by
  obtain ⟨-, -, walking⟩ := outputKey_low n
  exact Device.get_put_ne _ _ _ _ _ _ (key_ne_blockState walking b).symm

end Sys2Proof.Machine
end

section
/-! The commands on gates. -/

namespace Sys2Proof.Machine

variable (d : Device)

@[simp] theorem Device.get_markDirty (f : Fld) (i : Nat) : d.markDirty.get f i = d.get f i :=
  (Within.markDirty d).get f i List.not_mem_nil

@[simp] theorem Device.clk_markDirty : d.markDirty.clk = d.clk := (Within.markDirty d).clk
@[simp] theorem Device.core_markDirty (c : Nat) : d.markDirty.core c = d.core c := (Within.markDirty d).core c
@[simp] theorem Device.blockState_markDirty (b : Nat) : d.markDirty.blockState b = d.blockState b := d.get_markDirty _ b
@[simp] theorem Device.blockEnabled_markDirty (b : Nat) : d.markDirty.blockEnabled b = d.blockEnabled b := by
  unfold blockEnabled
  rw [get_markDirty]

@[simp] theorem Device.blockState_onClk (f : Clocks → Clocks) (b : Nat) : (d.onClk f).blockState b = d.blockState b := rfl
@[simp] theorem Device.blockEnabled_onClk (f : Clocks → Clocks) (b : Nat) : (d.onClk f).blockEnabled b = d.blockEnabled b := rfl
@[simp] theorem Device.clk_setEnable (b : Nat) (v : Bool) : (d.setEnable b v).clk = d.clk := rfl

theorem enableBit_apart_core (b : Fin 118) :
    (cancelFields ++ closeFields ++ [F.PAGE_STAT_IND_DROP, F.IRQ_STAT_PAGE]).all (enableBit b).1.apart = true := by
  revert b
  decide

/-- The close of a core's gate: the block, what the core keeps, and what its registers show. -/
theorem Device.gateTakes_core_spec {b : Fin 118} {c : Fin 16} (place : b.val = 64 + c) :
    (d.gateTakes b).blockState b = 3 ∧ (d.gateTakes b).blockEnabled b = d.blockEnabled b ∧
      (d.gateTakes b).core c = { berth := (d.core c).berth } ∧
      ∀ f ∈ closeFields, (∀ g ∈ [F.PAGE_STAT_IND_DROP, F.IRQ_STAT_PAGE], f.apart g = true) →
        (d.gateTakes b).get f c = f.reset c % 2 ^ f.width := by
  have dropped := ((d.gateShut b).coreClose c).dropStaged_leaves (16 + c)
  have after := ((d.gateShut b).coreClose_leaves c).trans dropped
  have takes : d.gateTakes b = (((d.gateShut b).coreClose c).dropStaged (16 + c)).dropCapture (16 + c) := by
    rw [place, gateTakes_core]
  rw [takes]
  refine ⟨?_, ?_, ?_, fun f hf apart => ?_⟩
  · exact (after.blockState b).trans (d.blockState_gateShut b)
  · exact (after.blockEnabled b (enableBit_apart_core b)).trans (d.blockEnabled_gateShut b b)
  · exact (core_dropStaged _ _ _).trans (core_coreClose _ c)
  · exact (dropped f (List.all_eq_true.mpr apart) c).trans (get_coreClose hf _ c)

/-- Settles O18: in each clause the command is one change of a gate with what the block does then, and the lemmas about it give what
changes and what shows. -/
theorem gates : Obligations.Gates := by
  unfold Obligations.Gates
  refine ⟨?_, ?_, ?_, ?_, ?_, ?_, ?_, ?_, ?_, ?_, ?_, ?_, ?_, ?_⟩
  · intro s b r enabled opened free
    have w := (s.dev.setEnable_within b false).trans (.onClk _ (fun c => { c with gateHeld := c.gateHeld ++ [b.val] }))
    refine does_within rfl r (Device.blockClose_busy enabled opened free) (w.trans (.markDirty _)) ⟨?_, ?_, ?_⟩
    · simp
    · simp
    · simp [opened]
  · intro s b r low high enabled opened
    have run := Device.blockClose_idle enabled opened
    rw [Device.gateTakes_aux _ low high] at run
    have w := ((s.dev.setEnable_within b false).trans (Device.gateShut_within _ b)).trans (.markDirty _)
    refine does_within rfl r run w ⟨?_, ?_⟩
    · simp
    · simp
  · intro s b c r place enabled opened
    have run := Device.blockClose_idle enabled opened
    obtain ⟨closing, kept, core, shown⟩ := (s.dev.setEnable b false).gateTakes_core_spec place
    refine answers_on rfl r run ⟨?_, ?_, ?_, ?_, ?_⟩
    · rw [Device.blockState_markDirty, closing]
    · rw [Device.blockEnabled_markDirty, kept, Device.blockEnabled_setEnable]
    · rw [Device.core_markDirty, core]
      rfl
    · rw [Device.get_markDirty, shown _ (by simp [closeFields, R.LOOP_STAT]) (by decide)]
      rfl
    · rw [Device.get_markDirty, shown _ (by simp [closeFields, R.LOOP_STAT]) (by decide)]
      rfl
  · intro s b r low high held
    have run : s.dev.gateBusAbort b =
        ({ s.dev.gateShut b with bus := { s.dev.bus with lastRead := 0 } } : Device).event F.CLK_GATE_EVT_BUS_ABORT := by
      rw [Device.gateBusAbort, if_pos held, Device.gateTakes_aux _ low high]
      rfl
    have completed := Device.Within.setBus (s.dev.gateShut b) { s.dev.bus with lastRead := 0 }
    have w := ((s.dev.gateShut_within b).trans completed).trans (.event _ F.CLK_GATE_EVT_BUS_ABORT)
    refine does_within rfl r run w ⟨?_, ?_, ?_, ?_⟩
    · exact ((Device.Leaves.event _ _ _ _).blockState b).trans (s.dev.blockState_gateShut b)
    · exact s.dev.not_mem_gateHeld_gateShut b
    · rfl
    · exact Device.get_event _ _ (by decide) (by decide)
  · intro s b r closing final step
    exact does_within rfl r (Device.blockShutdownDone_closed closing final step) (s.dev.setBlockState_within b 0)
      (s.dev.blockState_setBlockState b (by decide))
  · intro s b r high closing restart
    have w := ((Device.Within.put s.dev F.CLK_BLK_STAT_RESTART_PENDING b 0).trans (Device.setBlockState_within _ b 1)).trans
      (.event _ F.CLK_GATE_EVT_RESTART_DONE)
    refine does_within rfl r (Device.blockShutdownDone_restarts high closing restart) (w.mono (by decide) fun k hk => ?_) ⟨?_, ?_, ?_⟩
    · simp only [List.mem_append, List.mem_cons, List.not_mem_nil, or_false] at hk ⊢
      exact hk.imp_left Or.symm
    · exact ((Device.Leaves.event _ _ _ _).blockState b).trans (Device.blockState_setBlockState _ b (by decide))
    · have kept : (((s.dev.put F.CLK_BLK_STAT_RESTART_PENDING b 0).setBlockState b 1).event F.CLK_GATE_EVT_RESTART_DONE).get
          F.CLK_BLK_STAT_RESTART_PENDING b = 0 := by
        rw [Device.event, Device.Leaves.event _ _ _ _ _ (by decide), Device.setBlockState, Device.get_put_apart _ (by decide),
          Device.get_put]
        rfl
      rw [Device.is, kept]
      rfl
    · exact Device.get_event _ _ (by decide) (by decide)
  · intro s b r high disabled closed notListed
    have run := Device.blockOpen_closed disabled closed notListed
    rw [Device.openStarts_of_high high] at run
    refine does_within rfl r run ((s.dev.gateStart_within b).trans (.markDirty _)) ⟨?_, ?_⟩
    · exact (Device.blockState_markDirty _ b).trans (s.dev.blockState_gateStart b)
    · exact (Device.blockEnabled_markDirty _ b).trans (s.dev.blockEnabled_gateStart b)
  · intro s b c r place disabled closed notListed
    have run := Device.blockOpen_closed disabled closed notListed
    have starts : (s.dev.gateStart b).openStarts b = (s.dev.gateStart b).coreStart c := by
      rw [place, Device.openStarts_core]
    rw [starts] at run
    have w := ((s.dev.gateStart_within b).trans (Device.coreStart_within _ c)).trans (.markDirty _)
    refine does_within rfl r run (w.mono (by decide) (by simp)) ⟨?_, ?_, ?_⟩
    · exact (Device.blockState_markDirty _ b).trans (s.dev.blockState_gateStart b)
    · exact (Device.blockEnabled_markDirty _ b).trans (s.dev.blockEnabled_gateStart b)
    · exact (Device.core_markDirty _ c).trans (Device.core_onCore_self _ c _)
  · intro s b r other opening
    have run := Device.blockOpenDone_opening opening
    rw [Device.openEffects_none other] at run
    exact does_within rfl r run (s.dev.setBlockState_within b 2) (s.dev.blockState_setBlockState b (by decide))
  · intro s b a r place opening
    obtain ⟨div, ssc⟩ := s.dev.aux_setBlockState b 2 a
    have opened := s.dev.blockState_setBlockState b (st := 2) (by decide)
    have run : s.dev.blockOpenDone b = (s.dev.setBlockState b 2).auxTakes a := by
      rw [Device.blockOpenDone_opening opening, place, Device.openEffects_aux, Device.aux_of_open (place ▸ opened)]
    refine does_within rfl r run ((s.dev.setBlockState_within b 2).trans (.onClk _ _)) ⟨opened, ?_, ?_⟩
    · simp [Device.auxTakes, div]
    · simp [Device.auxTakes, ssc]
  · intro s b n r place opening there
    obtain ⟨tap, table⟩ := s.dev.tap_setBlockState b 2 n
    have run : s.dev.blockOpenDone b = s.dev.setBlockState b 2 := by
      rw [Device.blockOpenDone_opening opening, place, Device.openEffects_output, ← place, Device.outputOpen, tap, table, if_pos there]
    exact does_within rfl r run (s.dev.setBlockState_within b 2) (s.dev.blockState_setBlockState b (by decide))
  · intro s b n r place opening elsewhere
    obtain ⟨tap, table⟩ := s.dev.tap_setBlockState b 2 n
    have run : s.dev.blockOpenDone b = (s.dev.setBlockState b 2).walkToTable n := by
      rw [Device.blockOpenDone_opening opening, place, Device.openEffects_output, ← place, Device.outputOpen, tap, table,
        if_neg elsewhere]
    have walks := (s.dev.setBlockState b 2).walkToTable_within n
    refine does_within rfl r run ((s.dev.setBlockState_within b 2).trans walks) ⟨?_, ?_⟩
    · exact (Device.blockState_walkToTable _ n b).trans (s.dev.blockState_setBlockState b (by decide))
    · exact Device.get_put _ _ _ _
  · intro s b c r place opening waits
    have run : s.dev.blockOpenDone b = (s.dev.setBlockState b 2).coreIdle c := by
      rw [Device.blockOpenDone_opening opening, place, Device.openEffects_core, ← place]
      exact Device.coreOpen_of_idle waits
    refine does_within rfl r run ((s.dev.setBlockState_within b 2).trans (Device.coreIdle_within _ c)) ⟨?_, ?_, ?_⟩
    · exact ((Device.coreIdle_leaves _ c).blockState b).trans (s.dev.blockState_setBlockState b (by decide))
    · exact Device.get_state_coreIdle _ c
    · exact Device.is_bound_coreIdle _ c
  · intro s b c r place opening waits
    let idle := (s.dev.setBlockState b 2).coreIdle c
    let begun := idle.onCore c (fun k => { k with starts := false })
    have run : s.dev.blockOpenDone b = begun.searchOrManual c (idle.core c).set := by
      rw [Device.blockOpenDone_opening opening, place, Device.openEffects_core, ← place]
      exact Device.coreOpen_of_starts waits
    obtain ⟨after, starts, state, searches⟩ := begun.searchOrManual_spec c (idle.core c).set
    have before := Device.coreIdle_leaves (s.dev.setBlockState b 2) c
    have manual : begun.is F.LOOP_BAND_CTRL_MANUAL c = s.dev.is F.LOOP_BAND_CTRL_MANUAL c := by
      have kept : begun.get F.LOOP_BAND_CTRL_MANUAL c = s.dev.get F.LOOP_BAND_CTRL_MANUAL c :=
        (before _ (by decide) c).trans (s.dev.get_put_apart (by decide) _ _ _)
      rw [Device.is, kept]
      rfl
    have begins : (begun.core c).starts = false := by rw [Device.core_onCore_self]
    rw [manual] at state searches
    refine answers_on rfl r run ⟨?_, state, searches, starts.trans begins⟩
    calc _ = begun.blockState b := after.blockState b
      _ = (s.dev.setBlockState b 2).blockState b := before.blockState b
      _ = 2 := s.dev.blockState_setBlockState b (by decide)

end Sys2Proof.Machine
end

section
/-! What the changes of clock sources and domains leave: the change of REF, the ramps, the fallback and the sequencer (R62-R69, R74). -/

namespace Sys2Proof.Machine

variable {a b c d : Device} {dom : Nat}

/-- The domains that change their clock: those of the fallback, and REF. -/
def clockDomains : List Nat := 154 :: mplDomains

/-- The register fields that changes of REF and of domains write: all but those of CLK_REF_CTRL, ACTIVE and MPL1_LOCK. -/
def clockKeys : List Nat :=
  clockDomains.flatMap (fun dom => [F.CLK_DOM_STAT_CUR_SRC.key dom, F.CLK_DOM_STAT_CUR_DIV.key dom, F.CLK_DOM_STAT_RESULT.key dom,
    F.CLK_DOM_STAT_BUSY.key dom]) ++
  [F.CLK_REF_STAT_READY.key 0, F.CLK_REF_STAT_MPL0_HOLDOVER.key 0, F.CLK_REF_STAT_MPL0_LOCK.key 0, F.CLK_REF_EVT_FAILOVER.key 0,
    F.CLK_REF_EVT_HOLDOVER_ENTERED.key 0, F.CLK_REF_EVT_READY_LOST.key 0, F.CLK_SWITCH_EVT_FALLBACK.key 0,
    F.CLK_SWITCH_EVT_SWITCH_REFUSED.key 0, F.CLK_SWITCH_EVT_SWITCH_DONE.key 0, F.IRQ_STAT_EVT.key 2, F.PWR_OP_STAT_BUSY.key 0,
    F.PWR_OP_STAT_PHASE.key 0, F.PWR_OP_STAT_CLK_OP.key 0, F.PWR_OP_STAT_VOLT_OP.key 0, F.PWR_OP_STAT_VID.key 0,
    F.PWR_EVT_OP_DONE.key 0, F.IRQ_STAT_EVT.key 3] ++ reportKeys

theorem domainKeys_mem : ∀ dom ∈ clockDomains,
    F.CLK_DOM_STAT_CUR_SRC.key dom ∈ clockKeys ∧ F.CLK_DOM_STAT_CUR_DIV.key dom ∈ clockKeys ∧
      F.CLK_DOM_STAT_RESULT.key dom ∈ clockKeys ∧ F.CLK_DOM_STAT_BUSY.key dom ∈ clockKeys := by
  decide

/-- From a to b clocks have changed: only in the fields of `clockKeys`, in clocks, reports and free values, and the fallback stands or not
as before. -/
structure Device.Reclocked (a b : Device) : Prop where
  within : a.Within [.clk, .flt, .freeCtr] clockKeys b
  fellBack : b.clk.fellBack = a.clk.fellBack

namespace Device.Reclocked

theorem refl (d : Device) : d.Reclocked d := ⟨.refl d, rfl⟩

theorem trans (h : a.Reclocked b) (k : b.Reclocked c) : a.Reclocked c := ⟨h.within.andThen k.within, k.fellBack.trans h.fellBack⟩

theorem ite {x : Prop} [Decidable x] (h : d.Reclocked a) (k : d.Reclocked b) : d.Reclocked (if x then a else b) := by
  split
  · exact h
  · exact k

theorem when {x : Bool} {f : Device → Device} (h : ∀ d : Device, d.Reclocked (f d)) : d.Reclocked (d.when x f) := ite (h d) (refl d)

theorem put (d : Device) {f : Fld} {i : Nat} (v : Nat) (h : f.key i ∈ clockKeys) : d.Reclocked (d.put f i v) :=
  ⟨(Within.put d f i v).mono (by simp) (by simpa using h), rfl⟩

theorem onClk (d : Device) {f : Clocks → Clocks} (h : (f d.clk).fellBack = d.clk.fellBack) : d.Reclocked (d.onClk f) :=
  ⟨(Within.onClk d f).mono (by simp) (by simp), h⟩

theorem eventBit (d : Device) {f : Fld} {i : Nat} (n : Nat) (h : ∀ k ∈ evKeys f i, k ∈ clockKeys) : d.Reclocked (d.eventBit f i n) :=
  ⟨(Within.eventBit d f i n).mono (by simp) h, rfl⟩

theorem event (d : Device) {f : Fld} (h : ∀ k ∈ evKeys f, k ∈ clockKeys) : d.Reclocked (d.event f) := eventBit d 0 h

theorem clockReport (d : Device) (code reporter : Nat) : d.Reclocked (d.clockReport code reporter) :=
  ⟨(Within.report d 2 0 code reporter).mono (by simp) (by decide), congrArg (·.fellBack) (Within.report d 2 0 code reporter).clk⟩

theorem draw (d : Device) (kind : Nat) : d.Reclocked (d.draw kind).2 :=
  ⟨⟨(d.draw_keepsParts kind).mono (by simp), fun _ _ => rfl⟩, rfl⟩

theorem setJudge (d : Device) (src : Nat) (j : Judge) : d.Reclocked (d.setJudge src j) := onClk d rfl

end Device.Reclocked

/-! ### The sequencer of operating points (R74) -/

theorem Device.showClkOp_reclocked (d : Device) : d.Reclocked d.showClkOp := by
  unfold showClkOp
  split
  · split
    · exact .put d _ (by decide)
    · exact (Reclocked.draw d 7).trans (.put _ _ (by decide))
  · exact .put d _ (by decide)

theorem Device.setVid_reclocked (d : Device) (v : Nat) : d.Reclocked (d.setVid v) :=
  ((Reclocked.put d v (by decide)).trans (.put _ _ (by decide))).trans (.onClk _ rfl)

theorem Device.opIdle_reclocked (d : Device) : d.Reclocked d.opIdle :=
  ((Reclocked.onClk d rfl).trans (.put _ 0 (by decide))).trans (.put _ 0 (by decide))

theorem Device.opAfterRamp_reclocked (d : Device) : d.Reclocked d.opAfterRamp := by
  unfold opAfterRamp
  split
  · next r _ =>
    have lowered : d.Reclocked (if vidOf r < d.get F.PWR_OP_STAT_VID then d.setVid (vidOf r) else d) := .ite (d.setVid_reclocked _) (.refl d)
    exact (lowered.trans (opIdle_reclocked _)).trans (.event _ (by decide))
  · exact d.opIdle_reclocked

theorem Device.opCut_reclocked (d : Device) (toFio : Bool) : d.Reclocked (d.opCut toFio) :=
  .ite (.ite d.opAfterRamp_reclocked d.opIdle_reclocked) (.refl d)

/-! ### A change of a domain (R61-R63) -/

theorem Device.putSwitch_reclocked (d : Device) (h : dom ∈ clockDomains) (w : Switch) : d.Reclocked (d.putSwitch dom w) := by
  obtain ⟨-, -, -, busy⟩ := domainKeys_mem dom h
  exact (Reclocked.onClk d rfl).trans (.put _ 1 busy)

theorem Device.dropSwitch_reclocked (d : Device) (h : dom ∈ clockDomains) : d.Reclocked (d.dropSwitch dom) := by
  obtain ⟨-, -, -, busy⟩ := domainKeys_mem dom h
  exact (Reclocked.onClk d rfl).trans (.put _ _ busy)

theorem Device.putClock_reclocked (d : Device) (h : dom ∈ clockDomains) (src div : Nat) : d.Reclocked (d.putClock dom src div) := by
  obtain ⟨source, divider, -, -⟩ := domainKeys_mem dom h
  exact ((Reclocked.put d src source).trans (.put _ div divider)).trans (.when showClkOp_reclocked)

theorem Device.switchEnds_reclocked (d : Device) (h : dom ∈ clockDomains) (w : Switch) : d.Reclocked (d.switchEnds dom w) := by
  obtain ⟨-, -, result, -⟩ := domainKeys_mem dom h
  unfold switchEnds
  extract_lets d₁ d₂
  have ended : d.Reclocked d₂ := (d.dropSwitch_reclocked h).trans
    (.ite (.refl _) ((Reclocked.put _ 1 result).trans (.event _ (by decide))))
  exact ended.trans (.ite (opAfterRamp_reclocked _) (.refl _))

theorem Device.rampOnce_reclocked (d : Device) (h : dom ∈ clockDomains) (w : Switch) : d.Reclocked (d.rampOnce dom w) := by
  unfold rampOnce
  extract_lets w' goal now k d₁
  split
  · have taken : d.Reclocked d₁ := (d.putClock_reclocked h 1 k).trans (putSwitch_reclocked _ h w')
    exact taken.trans (.ite (switchEnds_reclocked _ h w') (.refl _))
  · split
    · exact (d.putClock_reclocked h 1 _).trans (putSwitch_reclocked _ h _)
    · exact d.putSwitch_reclocked h _

theorem Device.startSwitch_reclocked (d : Device) (h : dom ∈ clockDomains) (src div : Nat) (host : Bool) :
    d.Reclocked (d.startSwitch dom src div host) := by
  unfold startSwitch
  extract_lets w d₁
  have put : d.Reclocked d₁ := d.putSwitch_reclocked h w
  refine put.trans (.ite (.refl _) (.ite ?_ (.ite ?_ (.refl _))))
  · exact d₁.rampOnce_reclocked h _
  · exact d₁.rampOnce_reclocked h _

theorem Device.refuseSwitch_reclocked (d : Device) (h : dom ∈ clockDomains) (r : Nat) : d.Reclocked (d.refuseSwitch dom r) := by
  obtain ⟨-, -, result, -⟩ := domainKeys_mem dom h
  exact ((Reclocked.put d r result).trans (.event _ (by decide))).trans (.when (Reclocked.clockReport · 2 dom))

/-! ### REF and the inputs (R57, R66-R68) -/

theorem Device.mpl0Holdover_reclocked (d : Device) (lost : Bool) : d.Reclocked (d.mpl0Holdover lost) := by
  unfold mpl0Holdover
  extract_lets d₁
  have held : d.Reclocked d₁ := ((Reclocked.put d 0 (by decide)).trans (.put _ 1 (by decide))).trans (.event _ (by decide))
  exact .ite (held.trans (.when (fun d => .clockReport d 4 _))) (.refl d)

theorem Device.refChange_reclocked (d : Device) (i : Nat) : d.Reclocked (d.refChange i) :=
  .ite (d.refuseSwitch_reclocked (by decide) 3) (.ite (d.refuseSwitch_reclocked (by decide) 4) (d.startSwitch_reclocked (by decide) i _ _))

theorem Device.refFailover_reclocked (d : Device) : d.Reclocked d.refFailover := by
  unfold refFailover
  split
  · exact .refl d
  · split
    · exact .refl d
    · next i _ =>
      extract_lets d₁
      have kept : d.Reclocked d₁ := .onClk d rfl
      have failover (d : Device) : d.Reclocked ((d.event F.CLK_REF_EVT_FAILOVER).clockReport 5 i) :=
        (Reclocked.event d (by decide)).trans (.clockReport _ 5 i)
      exact kept.trans (.ite (.refl _) ((d₁.refChange_reclocked i).trans (.when failover)))

/-- An input loses READY; no multiplier falls back. -/
theorem Device.loseReady_reclocked (d : Device) {src : Nat} (h : src ≤ 1) : d.Reclocked (d.loseReady src) := by
  unfold loseReady
  extract_lets _ d₁ d₂ d₃
  have h₁ : d.Reclocked d₁ := .setJudge d _ _
  have h₂ : d₁.Reclocked d₂ :=
    ((Reclocked.put d₁ (f := F.CLK_REF_STAT_READY) (i := 0) _ (by decide)).trans (.eventBit _ src (by decide))).trans (.clockReport _ 1 src)
  have h₃ : d₂.Reclocked d₃ := .ite (d₂.mpl0Holdover_reclocked true) (.refl d₂)
  rw [if_pos h]
  exact h₁.trans (.ite (h₂.trans (h₃.trans ((Reclocked.onClk d₃ rfl).trans (refFailover_reclocked _)))) (.refl d₁))

/-! ### The fallback (R69) -/

/-- A domain on MPL1 moves to FIO. -/
def Device.fallDomain (d : Device) (dom : Nat) : Device :=
  d.when (d.onMpl1 dom) (fun d =>
    let d := d.onClk (fun c => { c with fell := c.fell.filter (· != dom) ++ [dom] })
    let d := d.when (dom == 144) (fun d => d.opCut true)
    let d := d.when (d.switchOf dom).isSome (fun d => d.dropSwitch dom)
    if d.curSrc dom = 1 then d.startSwitch dom 0 (fioDiv dom) else d)

theorem Device.fallDomain_reclocked (d : Device) (h : dom ∈ clockDomains) : d.Reclocked (d.fallDomain dom) := by
  refine .when (fun d => ?_)
  extract_lets d₁ d₂ d₃
  have h₁ : d.Reclocked d₁ := .onClk d rfl
  have h₂ : d₁.Reclocked d₂ := .when (fun d => d.opCut_reclocked true)
  have h₃ : d₂.Reclocked d₃ := .when (fun d => d.dropSwitch_reclocked h)
  exact ((h₁.trans h₂).trans h₃).trans (.ite (d₃.startSwitch_reclocked h 0 _ _) (.refl d₃))

/-- The domains of l that are on MPL1 move to FIO. -/
def Device.fallDomains (d : Device) (l : List Nat) : Device := forEach l (fun dom d => d.fallDomain dom) d

theorem Device.fallDomains_reclocked (d : Device) {l : List Nat} (h : ∀ dom ∈ l, dom ∈ clockDomains) : d.Reclocked (d.fallDomains l) := by
  induction l generalizing d with
  | nil => exact .refl d
  | cons dom t ih =>
    obtain ⟨first, rest⟩ := List.forall_mem_cons.mp h
    exact (d.fallDomain_reclocked first).trans (ih _ rest)

/-- The fallback is taken: its mark, the domains, the event and the record. -/
def Device.fallsBack (d : Device) : Device :=
  (((d.onClk (fun c => { c with fellBack := true })).fallDomains mplDomains).event F.CLK_SWITCH_EVT_FALLBACK).clockReport 6 0

theorem Device.fallback_eq (d : Device) :
    d.fallback = if d.is F.CLK_REF_CTRL_FALLBACK_EN && (mplDomains.any d.onMpl1 || (!d.clk.fellBack && decide (6 ≤ d.step))) then d.fallsBack
      else d := rfl

theorem Device.fallsBack_reclocked (d : Device) : (d.onClk (fun c => { c with fellBack := true })).Reclocked d.fallsBack :=
  ((fallDomains_reclocked _ (by decide)).trans (.event _ (by decide))).trans (.clockReport _ 6 0)

theorem Device.fallsBack_within (d : Device) : d.Within [.clk, .flt, .freeCtr] clockKeys d.fallsBack :=
  ((Within.onClk d _).mono (by simp) (by simp)).andThen d.fallsBack_reclocked.within

theorem Device.get_event_fallsBack (d : Device) : d.fallsBack.get F.CLK_SWITCH_EVT_FALLBACK = 1 := by
  rw [fallsBack, clockReport, (Within.report _ _ _ _ _).get _ _ (by decide)]
  exact get_event _ _ (by decide) (by decide)

/-! ### The write of CLK_REF_CTRL (R53, R67) -/

/-- The register fields of CLK_REF_CTRL. -/
def refCtrlKeys : List Nat := R.CLK_REF_CTRL.fields.map (·.key 0)

theorem Device.putAll_within (d : Device) (l : List Fld) (i : Nat) (v : Fld → Nat) : d.Within [] (l.map (·.key i)) (d.putAll l i v) := by
  induction l generalizing d with
  | nil => exact .refl d
  | cons f t ih => exact (Within.put d f i (v f)).trans (ih _)

/-- CLK_REF_CTRL takes the fields of a word. -/
def Device.refWritten (d : Device) (v : Nat) : Device := d.putAll R.CLK_REF_CTRL.fields 0 (fun f => bits v f.hi f.lo)

theorem Device.refWritten_within (d : Device) (v : Nat) : d.Within [] refCtrlKeys (d.refWritten v) := d.putAll_within _ _ _

theorem Device.get_refWritten {f : Fld} (h : f ∈ R.CLK_REF_CTRL.fields) (d : Device) (v : Nat) :
    (d.refWritten v).get f 0 = bits v f.hi f.lo :=
  (d.get_putAll (by decide) h 0 _).trans (Nat.mod_mod _ _)

/-- A write of CLK_REF_CTRL takes its fields; what follows leaves them. -/
theorem Device.wrRefCtrl_reclocked (d : Device) (v : Nat) : (d.refWritten v).Reclocked (d.wrRefCtrl v) := by
  unfold wrRefCtrl
  extract_lets changed0 changed1 newSel d₁ d₂ d₃
  have restart (src : Nat) (h : src ≤ 1) (d : Device) : d.Reclocked ((d.setJudge src {}).loseReady src) :=
    (Reclocked.setJudge d src _).trans (loseReady_reclocked _ h)
  have h₂ : d₁.Reclocked d₂ := .when (restart 0 (by decide))
  have h₃ : d₂.Reclocked d₃ := .when (restart 1 (by decide))
  have change : d₃.Reclocked ((d₃.mpl0Holdover false).refChange (bits v 14 14)) :=
    (d₃.mpl0Holdover_reclocked false).trans (refChange_reclocked _ _)
  exact (h₂.trans h₃).trans (.ite change (.refl d₃))

/-- With the modes and frequencies as they were, a new SEL puts MPL0 in holdover and asks for the change of REF. -/
theorem Device.wrRefCtrl_newSel {v : Nat} (mode0 : bits v 6 5 = d.xiMode 0) (freq0 : bits v 4 2 = d.xiFreq 0)
    (mode1 : bits v 11 10 = d.xiMode 1) (freq1 : bits v 9 7 = d.xiFreq 1) (new : bits v 14 14 ≠ d.get F.CLK_REF_CTRL_SEL) :
    d.wrRefCtrl v = ((d.refWritten v).mpl0Holdover false).refChange (bits v 14 14) := by
  simp [wrRefCtrl, mode0, freq0, mode1, freq1, new, refWritten, putAll]

/-- The register fields that the start of a holdover changes. -/
def holdoverKeys : List Nat :=
  [F.CLK_REF_STAT_MPL0_LOCK.key 0, F.CLK_REF_STAT_MPL0_HOLDOVER.key 0] ++ evKeys F.CLK_REF_EVT_HOLDOVER_ENTERED

theorem Device.mpl0Holdover_within (d : Device) : d.Within [] holdoverKeys (d.mpl0Holdover false) := by
  unfold mpl0Holdover
  extract_lets d₁
  exact .ite (((Within.put d _ _ _).trans (.put _ _ _ _)).trans (.event _ _)) (.refl d)

/-- A new SEL and the holdover leave the other parts and the fields of no concern to them. -/
theorem Device.refHeld_within (d : Device) (v : Nat) : d.Within [] (refCtrlKeys ++ holdoverKeys) ((d.refWritten v).mpl0Holdover false) :=
  (d.refWritten_within v).trans (mpl0Holdover_within _)

theorem Device.holdover_of_lock (h : d.mpl0Lock = true) : (d.mpl0Holdover false).mpl0Lock = false ∧ (d.mpl0Holdover false).mpl0Hold = true := by
  have held : d.mpl0Holdover false =
      ((d.put F.CLK_REF_STAT_MPL0_LOCK 0 0).put F.CLK_REF_STAT_MPL0_HOLDOVER 0 1).event F.CLK_REF_EVT_HOLDOVER_ENTERED := if_pos h
  rw [held]
  unfold mpl0Lock mpl0Hold is
  rw [(Within.event _ _).get _ _ (by decide), (Within.event _ _).get _ _ (by decide), get_put_apart _ (by decide), get_put, get_put]
  exact ⟨rfl, rfl⟩

/-- REF starts to change to a READY input. -/
theorem Device.refChange_of_ready {i : Nat} (ready : d.ready i = true) (idle : d.domBusy 154 = false) :
    d.refChange i = d.putSwitch 154 { src := i, div := xiPrescaler (d.xiFreq i), since := d.tow.ticks } := by
  rw [refChange, ready, idle]
  rfl

/-- The change of REF to an input that is not READY is refused. -/
theorem Device.refChange_of_not_ready {i : Nat} (h : d.ready i = false) :
    d.refChange i = ((d.put F.CLK_DOM_STAT_RESULT 154 3).event F.CLK_SWITCH_EVT_SWITCH_REFUSED).clockReport 2 154 := by
  rw [refChange, h]
  rfl

/-! ### Reports and pages -/

/-- A report is made of a device whose report queue and count of lost reports are those of a. -/
theorem Device.reported_report {cls src code reporter : Nat} (flt : b.flt = a.flt) (lost : b.get F.FLT_LOST_CNT_LOST = a.get F.FLT_LOST_CNT_LOST) :
    a.Reported (b.report cls src code reporter) cls src code reporter := by
  unfold Reported
  split
  · next room =>
    rw [report, reportAt_room _ _ _ _ _ _ (by rw [flt]; exact room), flt]
    exact ⟨rfl, lost⟩
  · next room =>
    rw [report, reportAt_full _ _ _ _ _ _ (by rw [flt]; omega)]
    refine ⟨flt, ?_, get_event _ _ (by decide) (by decide)⟩
    rw [(Within.event _ _).get _ _ (by decide), get_bump, lost]

/-- A command that leads from d to e completes with what changes between them, on the pages of those fields. -/
theorem doesWide_within {i : Instr} {s : State} {f : Device → Device} {e : Device} {parts : List Part} {regs pages : List Nat}
    {post : Device → Prop} (answer : exec i s = .next (s.on f)) (r : s.Running) (run : f s.dev = e) (w : s.dev.Within parts regs e)
    (onPages : ∀ k ∈ regs, pageOfKey k ∈ pages) (h : post e) : DoesWide i s parts pages post :=
  ⟨s.on f, answer, s.on_pending f, by rw [s.on_running f r, run]; exact w.parts,
    by rw [s.on_running f r, run]; exact fun k hk => w.regs k (fun listed => hk (onPages k listed)),
    by rw [s.on_running f r, run]; exact h⟩

end Sys2Proof.Machine
end

section
/-! The write of CLK_REF_CTRL, the relock of MPL0 and the loss of lock of MPL1 (R53, R66, R67, R69). -/

namespace Sys2Proof.Machine

variable {d : Device}

/-- The register fields that a write of CLK_REF_CTRL and what follows change. -/
def refSwitchKeys : List Nat := refCtrlKeys ++ clockKeys

theorem refSwitchKeys_pages : ∀ k ∈ refSwitchKeys, pageOfKey k ∈ [2, 3, 10] := by decide

/-- What REF_SWITCH changes, whatever follows the write. -/
theorem Device.refSwitch_within (d : Device) (v : Nat) :
    d.Within [.bus, .clk, .flt, .freeCtr] refSwitchKeys (d.wrRefCtrl v).markDirty :=
  (((d.refWritten_within v).trans (d.wrRefCtrl_reclocked v).within).trans (.markDirty _)).mono (by decide)
    (by simp [refSwitchKeys])

/-- The fields of CLK_REF_CTRL that no clock change concerns read as written. -/
theorem Device.get_refSwitch {f : Fld} (h : f ∈ R.CLK_REF_CTRL.fields) (k : f.key 0 ∉ clockKeys) (d : Device) (v : Nat) :
    (d.wrRefCtrl v).markDirty.get f = bits v f.hi f.lo := by
  rw [get_markDirty, (d.wrRefCtrl_reclocked v).within.get _ _ k, get_refWritten h]

/-- The change of REF leaves lock and holdover of MPL0. -/
theorem Device.putSwitch_ref (d : Device) (w : Switch) :
    (d.putSwitch 154 w).mpl0Lock = d.mpl0Lock ∧ (d.putSwitch 154 w).mpl0Hold = d.mpl0Hold ∧ (d.putSwitch 154 w).domBusy 154 = true ∧
      (d.putSwitch 154 w).switchOf 154 = some w := by
  unfold putSwitch
  refine ⟨?_, ?_, ?_, Store.get?_set_self ..⟩
  · exact congrArg (· == 1) (get_put_apart _ (by decide) ..)
  · exact congrArg (· == 1) (get_put_apart _ (by decide) ..)
  · rw [domBusy, is, get_put]
    rfl

/-- A refused change of REF shows its RESULT and its event, leaves the switch in progress and makes its record. -/
theorem Device.refChange_refused {a : Device} {i : Nat} (h : d.ready i = false) (flt : d.flt = a.flt)
    (lost : d.get F.FLT_LOST_CNT_LOST = a.get F.FLT_LOST_CNT_LOST) :
    (d.refChange i).get F.CLK_DOM_STAT_RESULT 154 = 3 ∧ (d.refChange i).get F.CLK_SWITCH_EVT_SWITCH_REFUSED = 1 ∧
      (d.refChange i).switchOf 154 = d.switchOf 154 ∧ a.Reported (d.refChange i) 2 0 2 154 := by
  rw [refChange_of_not_ready h, clockReport]
  have result := Within.put d F.CLK_DOM_STAT_RESULT 154 3
  have event := Within.event (d.put F.CLK_DOM_STAT_RESULT 154 3) F.CLK_SWITCH_EVT_SWITCH_REFUSED
  have record := Within.report ((d.put F.CLK_DOM_STAT_RESULT 154 3).event F.CLK_SWITCH_EVT_SWITCH_REFUSED) 2 0 2 154
  refine ⟨?_, ?_, ?_, reported_report (event.flt.trans (result.flt.trans flt)) ?_⟩
  · rw [record.get _ _ (by decide), event.get _ _ (by decide), get_put]
    rfl
  · rw [record.get _ _ (by decide), get_event _ _ (by decide) (by decide)]
  · rw [record.switchOf, event.switchOf, result.switchOf]
  · rw [event.get _ _ (by decide), result.get _ _ (by decide), lost]

theorem Device.is_markDirty (f : Fld) (i : Nat) : d.markDirty.is f i = d.is f i := congrArg (· == 1) (d.get_markDirty f i)

/-- A report stands whether or not the write of a configuration-class location spoils a scan. -/
theorem Device.Reported.markDirty {a b : Device} {cls src code reporter : Nat} (h : a.Reported b cls src code reporter) :
    a.Reported b.markDirty cls src code reporter := by
  unfold Reported at *
  rwa [(Within.markDirty b).flt, get_markDirty, get_markDirty]

/-- A new SEL changes neither READY nor the changes in progress of a domain. -/
theorem Device.refHeld_keeps (d : Device) (v i : Nat) :
    ((d.refWritten v).mpl0Holdover false).ready i = d.ready i ∧ ((d.refWritten v).mpl0Holdover false).domBusy 154 = d.domBusy 154 := by
  have w := d.refHeld_within v
  unfold ready domBusy is
  rw [w.get _ _ (by decide), w.get _ _ (by decide)]
  exact ⟨rfl, rfl⟩

/-- MPL0 relocks to its READY input. -/
theorem Device.mpl0Relock_of_ready (hold : d.mpl0Hold = true) (ready : d.ready d.activeXi = true) (idle : d.domBusy 154 = false)
    (trusted : d.is F.CLK_DOM_STAT_UNTRUSTED 154 = false) :
    d.mpl0Relock = ((d.onClk (fun c => { c with bothLost := false })).put F.CLK_REF_STAT_MPL0_HOLDOVER 0 0).put
      F.CLK_REF_STAT_MPL0_LOCK 0 1 := by
  simp [mpl0Relock, hold, ready, idle, trusted]

/-- MPL1 out of lock, its windows in band counted anew. -/
def Device.mpl1Lost (d : Device) : Device :=
  (d.put F.CLK_REF_STAT_MPL1_LOCK 0 0).setJudge 5 { d.judge? 5 with held := 0 }

theorem Device.mpl1Unlock_of_lock (h : d.is F.CLK_REF_STAT_MPL1_LOCK = true) : d.mpl1Unlock = d.mpl1Lost.fallback := if_pos h

theorem Device.mpl1Lost_within (d : Device) : d.Within [.clk] [F.CLK_REF_STAT_MPL1_LOCK.key 0] d.mpl1Lost := by
  unfold mpl1Lost setJudge
  exact (Within.put d _ _ _).trans (.onClk _ _)

theorem Device.get_lock_mpl1Lost (d : Device) : d.mpl1Lost.get F.CLK_REF_STAT_MPL1_LOCK = 0 := d.get_put F.CLK_REF_STAT_MPL1_LOCK 0 0

theorem Device.onMpl1_mpl1Lost (d : Device) : d.mpl1Lost.onMpl1 = d.onMpl1 := by
  funext dom
  have same : d.mpl1Lost.curSrc dom = d.curSrc dom :=
    d.get_put_apart (f := F.CLK_REF_STAT_MPL1_LOCK) (g := F.CLK_DOM_STAT_CUR_SRC) (by decide) 0 dom 0
  unfold onMpl1
  rw [same]
  rfl

theorem Device.fallback_within (d : Device) : d.Within [.clk, .flt, .freeCtr] clockKeys d.fallback := by
  rw [fallback_eq]
  exact .ite d.fallsBack_within (.refl d)

/-- With FALLBACK_EN set a loss of lock of MPL1 starts the fallback while a domain is on it, or from step 6 on for the first time. -/
theorem Device.fallback_mpl1Lost (enabled : d.is F.CLK_REF_CTRL_FALLBACK_EN = true)
    (due : mplDomains.any d.onMpl1 = true ∨ (d.clk.fellBack = false ∧ 6 ≤ d.step)) : d.mpl1Lost.fallback = d.mpl1Lost.fallsBack := by
  have same : d.mpl1Lost.is F.CLK_REF_CTRL_FALLBACK_EN = d.is F.CLK_REF_CTRL_FALLBACK_EN ∧ d.mpl1Lost.step = d.step := by
    unfold is step
    rw [d.mpl1Lost_within.get _ _ (by decide), d.mpl1Lost_within.get _ _ (by decide)]
    exact ⟨rfl, rfl⟩
  have notFallen : d.mpl1Lost.clk.fellBack = d.clk.fellBack := rfl
  obtain ⟨enable, atStep⟩ := same
  rw [fallback_eq, onMpl1_mpl1Lost, enable, atStep, notFallen]
  exact if_pos (by simpa [enabled] using due)

/-- Settles O15: a write of CLK_REF_CTRL takes its fields and, for a new SEL, puts MPL0 in holdover and asks for the change of REF;
a loss of lock of MPL1 is its cleared bit and then the fallback. -/
theorem referenceAndMultipliers : Obligations.ReferenceAndMultipliers := by
  unfold Obligations.ReferenceAndMultipliers
  refine ⟨?_, ?_, ?_, ?_, ?_⟩
  · intro s v r
    refine doesWide_within rfl r rfl (s.dev.refSwitch_within _) refSwitchKeys_pages ⟨?_, ?_, ?_, ?_, ?_⟩
    all_goals exact Device.get_refSwitch (by simp [R.CLK_REF_CTRL]) (by decide) _ _
  · intro s v r mode0 freq0 mode1 freq1 new lock ready idle
    obtain ⟨readyKept, busyKept⟩ := s.dev.refHeld_keeps v.toNat (bits v.toNat 14 14)
    have locked : (s.dev.refWritten v.toNat).mpl0Lock = true :=
      (congrArg (· == 1) ((s.dev.refWritten_within v.toNat).get _ _ (by decide))).trans lock
    obtain ⟨unlocked, held⟩ := Device.holdover_of_lock locked
    refine doesWide_within rfl r rfl (s.dev.refSwitch_within _) refSwitchKeys_pages ?_
    rw [Device.wrRefCtrl_newSel mode0 freq0 mode1 freq1 new,
      Device.refChange_of_ready (readyKept.trans ready) (busyKept.trans idle)]
    obtain ⟨lockKept, holdKept, busy, change⟩ := Device.putSwitch_ref ((s.dev.refWritten v.toNat).mpl0Holdover false)
      { src := bits v.toNat 14 14, div := xiPrescaler (((s.dev.refWritten v.toNat).mpl0Holdover false).xiFreq (bits v.toNat 14 14)),
        since := ((s.dev.refWritten v.toNat).mpl0Holdover false).tow.ticks }
    refine ⟨(Device.is_markDirty _ _).trans (lockKept.trans unlocked), (Device.is_markDirty _ _).trans (holdKept.trans held),
      (Device.is_markDirty _ _).trans busy, ?_⟩
    rw [(Device.Within.markDirty _).switchOf, change]
    rfl
  · intro s v r mode0 freq0 mode1 freq1 new notReady
    obtain ⟨readyKept, -⟩ := s.dev.refHeld_keeps v.toNat (bits v.toNat 14 14)
    have held := s.dev.refHeld_within v.toNat
    obtain ⟨result, event, change, record⟩ := Device.refChange_refused (a := s.dev) (readyKept.trans notReady) held.flt
      (held.get _ _ (by decide))
    refine answers_on rfl r (congrArg Device.markDirty (Device.wrRefCtrl_newSel mode0 freq0 mode1 freq1 new))
      ⟨?_, ?_, ?_, record.markDirty⟩
    · rw [Device.get_markDirty, result]
    · rw [Device.get_markDirty, event]
    · rw [(Device.Within.markDirty _).switchOf, change, held.switchOf]
  · intro s r hold ready idle trusted
    refine does_within rfl r (Device.mpl0Relock_of_ready hold ready idle trusted)
      (((Device.Within.onClk _ _).trans (.put _ _ _ _)).trans (.put _ _ _ _)) ⟨?_, ?_, rfl⟩
    · rw [Device.mpl0Lock, Device.is, Device.get_put]
      rfl
    · rw [Device.mpl0Hold, Device.is, Device.get_put_apart _ (by decide), Device.get_put]
      rfl
  · intro s r lock
    have after := s.dev.mpl1Lost.fallback_within
    refine doesWide_within rfl r (Device.mpl1Unlock_of_lock lock) ((s.dev.mpl1Lost_within.trans after).mono (by decide) (fun _ hk => hk))
      (by decide) ⟨?_, ?_⟩
    · rw [after.get _ _ (by decide), Device.get_lock_mpl1Lost]
    · intro enabled due
      rw [Device.fallback_mpl1Lost enabled due]
      exact ⟨(Device.fallsBack_reclocked _).fellBack, Device.get_event_fallsBack _⟩

end Sys2Proof.Machine
end

section
/-! Cores: reads after events and reports, the other cores, and what a core's loss of lock, band search and capture of lock change
(R87, R93, R94). -/

namespace Sys2Proof.Machine

variable {a b d : Device}

/-! ### Reads after events and reports -/

theorem Device.get_eventBit_apart (d : Device) {f g : Fld} (h : [f, F.IRQ_STAT_EVT].all g.apart = true) (i n j : Nat) :
    (d.eventBit f i n).get g j = d.get g j :=
  Leaves.event d f i n g h j

theorem Device.get_event_apart (d : Device) {f g : Fld} (h : [f, F.IRQ_STAT_EVT].all g.apart = true) (i j : Nat) :
    (d.event f i).get g j = d.get g j :=
  d.get_eventBit_apart h i 0 j

theorem Device.get_report_apart (d : Device) {g : Fld} (h : [F.FLT_LOST_CNT_LOST, F.FLT_EVT_LOST, F.IRQ_STAT_EVT].all g.apart = true)
    (cls src code reporter j : Nat) : (d.report cls src code reporter).get g j = d.get g j :=
  Leaves.report d cls src code reporter g h j

/-- The event bit of a copy reads 1 after its event. -/
theorem Device.get_event_copy (d : Device) {f : Fld} (hf : f.width = 1) (h : f.apart F.IRQ_STAT_EVT = true) (i : Nat) :
    (d.event f i).get f i = 1 := by
  have odd (x : Nat) : setBit x 0 % 2 = 1 := by
    simp only [setBit, setBits, bits]
    omega
  unfold event eventBit irqStat
  rw [get_put_apart _ h, get_put, hf]
  exact odd _

@[simp] theorem Device.core_eventBit (d : Device) (f : Fld) (i n c : Nat) : (d.eventBit f i n).core c = d.core c := rfl
@[simp] theorem Device.core_event (d : Device) (f : Fld) (i c : Nat) : (d.event f i).core c = d.core c := rfl
@[simp] theorem Device.core_putB (d : Device) (f : Fld) (i : Nat) (v : Bool) (c : Nat) : (d.putB f i v).core c = d.core c := rfl
@[simp] theorem Device.core_report (d : Device) (cls src code reporter c : Nat) : (d.report cls src code reporter).core c = d.core c :=
  (Within.report d cls src code reporter).core c

theorem Device.core_onCore_ne (d : Device) (i : Nat) (f : Core → Core) {n : Nat} (h : n ≠ i) : (d.onCore i f).core n = d.core n :=
  (d.core_onCore i f n).trans (if_neg h)

/-- A report stays made where the reports and their losses stay. -/
theorem Device.Reported.of_kept {c : Device} {cls src code reporter : Nat} (h : a.Reported b cls src code reporter) (flt : c.flt = b.flt)
    (count : c.get F.FLT_LOST_CNT_LOST = b.get F.FLT_LOST_CNT_LOST) (lost : c.get F.FLT_EVT_LOST = b.get F.FLT_EVT_LOST) :
    a.Reported c cls src code reporter := by
  unfold Reported at h ⊢
  rw [flt, count, lost]
  exact h

/-! ### The other cores -/

/-- From a to b no core but core i changes. -/
def Device.KeepsCores (i : Nat) (a b : Device) : Prop := ∀ n, n ≠ i → b.core n = a.core n

namespace Device.KeepsCores

variable {i : Nat} {c : Device}

theorem trans (h : a.KeepsCores i b) (k : b.KeepsCores i c) : a.KeepsCores i c := fun n hn => (k n hn).trans (h n hn)
theorem of_cores (h : b.cores = a.cores) : a.KeepsCores i b := fun n _ => congrArg (fun l : Store Core => Store.getD l n {}) h
theorem within {ps : List Part} {ks : List Nat} (h : a.Within ps ks b) (hp : .cores ∉ ps := by decide) : a.KeepsCores i b :=
  of_cores (h.cores hp)
theorem onCore (d : Device) (f : Core → Core) : d.KeepsCores i (d.onCore i f) := fun _ hn => d.core_onCore_ne i f hn
theorem put (d : Device) (f : Fld) (j v : Nat) : d.KeepsCores i (d.put f j v) := of_cores rfl
theorem event (d : Device) (f : Fld) (j : Nat) : d.KeepsCores i (d.event f j) := of_cores rfl
theorem report (d : Device) (cls src code reporter : Nat) : d.KeepsCores i (d.report cls src code reporter) := within (.report d _ _ _ _)

theorem ite {x : Prop} [Decidable x] (h : d.KeepsCores i a) (k : d.KeepsCores i b) : d.KeepsCores i (if x then a else b) := by
  split
  · exact h
  · exact k

end Device.KeepsCores

/-! ### ALIGNED, and lock set aside (R94, R102, R122) -/

theorem Device.get_putAligned_apart (d : Device) {g : Fld} (h : [F.LOOP_STAT_ALIGNED, F.COUT_TWIN_STAT_READY].all g.apart = true)
    (i : Nat) (v : Bool) (j : Nat) : (d.putAligned i v).get g j = d.get g j :=
  d.putAligned_leaves i v g h j

theorem Device.get_aligned_putAligned (d : Device) (i : Nat) (v : Bool) : (d.putAligned i v).get F.LOOP_STAT_ALIGNED i = ofBool v := by
  have shown : (d.putB F.LOOP_STAT_ALIGNED i v).get F.LOOP_STAT_ALIGNED i = ofBool v := by
    rw [putB, get_put]
    cases v <;> rfl
  unfold putAligned Device.when
  split
  · exact (get_put_apart _ (by decide) _ _ _).trans shown
  · exact shown

/-- The keys of the fields that change when a core's lock is set aside. -/
def unlockKeys (i : Nat) : List Nat :=
  [F.LOOP_STAT_LOCK.key i, F.LOOP_STAT_ALIGNED.key i, F.LOOP_STAT_TRACKING.key i, F.LOOP_STAT_HOLD.key i, F.LOOP_MON_ERR_VALID.key i,
    F.COUT_TWIN_STAT_READY.key 0]

theorem Device.dropLock_within (d : Device) (i : Nat) : d.Within [.cores] (unlockKeys i) (d.dropLock i) := by
  have h := ((((Within.put d F.LOOP_STAT_LOCK i 0).trans (putAligned_within _ i false)).trans (.put _ F.LOOP_STAT_TRACKING i 0)).trans
    (.put _ F.LOOP_STAT_HOLD i 0)).trans (.put _ F.LOOP_MON_ERR_VALID i 0)
  unfold dropLock
  refine (h.trans (.onCore _ i _)).mono (ps' := [.cores]) (by simp) ?_
  simp only [unlockKeys, List.mem_append, List.mem_cons, List.not_mem_nil, or_false]
  tauto

theorem Device.dropLock_keepsCores (d : Device) (i : Nat) : d.KeepsCores i (d.dropLock i) :=
  ((((KeepsCores.put d F.LOOP_STAT_LOCK i 0).trans (.within (putAligned_within _ i false))).trans (.put _ F.LOOP_STAT_TRACKING i 0)).trans
    (.put _ F.LOOP_STAT_HOLD i 0)).trans ((KeepsCores.put _ F.LOOP_MON_ERR_VALID i 0).trans (.onCore _ _))

/-- Without lock nothing of it shows. -/
theorem Device.get_dropLock (d : Device) (i : Nat) :
    (d.dropLock i).get F.LOOP_STAT_LOCK i = 0 ∧ (d.dropLock i).get F.LOOP_STAT_ALIGNED i = 0 ∧
      (d.dropLock i).get F.LOOP_STAT_TRACKING i = 0 ∧ (d.dropLock i).get F.LOOP_MON_ERR_VALID i = 0 := by
  unfold dropLock
  simp (disch := decide) only [get_onCore, get_put_apart, get_putAligned_apart, get_aligned_putAligned, get_put]
  exact ⟨rfl, rfl, rfl, rfl⟩

end Sys2Proof.Machine
end

section
/-! Lock, band search, slips and the frequency counter: what each command changes and shows, and O34 (R87, R88, R93-R96, R119). -/

namespace Sys2Proof.Machine

variable {a b d : Device}

/-! ### A band search starts, or the written band is taken (R87) -/

/-- At core c of b a band search for the settings s runs, begun from a. -/
def Device.Searches (c : Nat) (s : Settings) (a b : Device) : Prop :=
  b.coreState c = 2 ∧ b.get F.LOOP_STAT_BAND_SEARCH c = 1 ∧ b.get F.LOOP_STAT_TANK c = a.tankFor c s % 2 ∧ b.locked c = false ∧
    b.get F.LOOP_STAT_TUNE_EDGE c = 0

/-- Core c of b acquires in the tank and band that a has written for it. -/
def Device.AcquiresWritten (c : Nat) (a b : Device) : Prop :=
  b.coreState c = 3 ∧ b.get F.LOOP_STAT_BAND_SEARCH c = 0 ∧ b.get F.LOOP_STAT_TANK c = a.get F.LOOP_BAND_CTRL_TANK c % 2 ∧
    b.get F.LOOP_STAT_BAND c = a.get F.LOOP_BAND_CTRL_BAND c % 256 ∧ b.locked c = false

theorem Device.get_lock_bandCleared (d : Device) (c : Nat) : (d.bandCleared c).get F.LOOP_STAT_LOCK c = 0 := by
  rw [bandCleared, get_put_apart _ (by decide), get_onCore]
  exact (d.get_dropLock c).1

theorem Device.tankFor_bandCleared (d : Device) (c : Nat) (s : Settings) : (d.bandCleared c).tankFor c s = d.tankFor c s := by
  have cleared := d.bandCleared_leaves c
  unfold tankFor coreState
  rw [cleared F.LOOP_STAT_STATE (by decide), cleared F.LOOP_CTRL_TANK_PREF (by decide), cleared F.LOOP_STAT_TANK (by decide)]

theorem Device.searchOrManual_searches {c : Nat} (s : Settings) (auto : d.is F.LOOP_BAND_CTRL_MANUAL c = false) :
    d.Searches c s (d.searchOrManual c s) := by
  have locked := d.get_lock_bandCleared c
  have edge : (d.bandCleared c).get F.LOOP_STAT_TUNE_EDGE c = 0 := get_put _ _ _ _
  rw [searchOrManual_of_auto s auto, tankFor_bandCleared]
  unfold Searches coreState Device.locked is bandSearched
  simp (disch := decide) only [get_put_apart, get_put, locked, edge]
  exact ⟨rfl, rfl, rfl, rfl, trivial⟩

theorem Device.searchOrManual_acquiresWritten {c : Nat} (s : Settings) (manual : d.is F.LOOP_BAND_CTRL_MANUAL c = true) :
    d.AcquiresWritten c (d.searchOrManual c s) := by
  have locked := d.get_lock_bandCleared c
  have cleared := d.bandCleared_leaves c
  have tank := cleared F.LOOP_BAND_CTRL_TANK (by decide) c
  have band := cleared F.LOOP_BAND_CTRL_BAND (by decide) c
  rw [searchOrManual_of_manual s manual]
  unfold AcquiresWritten coreState Device.locked is bandWritten acquire
  simp (disch := decide) only [get_onCore, get_put_apart, get_put, locked, tank, band]
  exact ⟨rfl, rfl, rfl, rfl, rfl⟩

/-- The keys of the fields that change when a band search starts or the written band is taken. -/
def searchKeys (c : Nat) : List Nat :=
  unlockKeys c ++ [F.LOOP_STAT_STATE.key c, F.LOOP_STAT_TUNE_EDGE.key c, F.LOOP_STAT_TANK.key c, F.LOOP_STAT_BAND.key c,
    F.LOOP_STAT_BAND_SEARCH.key c]

theorem Device.acquire_within (d : Device) (c st : Nat) : d.Within [.cores] [F.LOOP_STAT_STATE.key c] (d.acquire c st) :=
  (Within.put d _ _ _).trans (.onCore _ _ _)

theorem Device.acquire_keepsCores (d : Device) (c st : Nat) : d.KeepsCores c (d.acquire c st) := (KeepsCores.put d _ _ _).trans (.onCore _ _)

theorem Device.searchOrManual_within (d : Device) (c : Nat) (s : Settings) :
    d.Within [.cores] (searchKeys c) (d.searchOrManual c s) := by
  have cleared : d.Within [.cores] (searchKeys c) (d.bandCleared c) :=
    (((d.dropLock_within c).trans (.onCore _ c _)).trans (.put _ _ _ _)).mono (by simp)
      (fun k hk => (List.mem_append.mp hk).elim (List.mem_append_left _) (fun hk => List.mem_append_right _ (by simp_all)))
  have written (d : Device) : d.Within [.cores] (searchKeys c) (d.bandWritten c) :=
    ((((Within.put d _ _ _).trans (.put _ _ _ _)).trans (.put _ _ _ _)).trans (acquire_within _ c 3)).mono (by simp)
      (by simp [searchKeys])
  have searched (d : Device) (tank : Nat) : d.Within [.cores] (searchKeys c) (d.bandSearched c tank) :=
    (((Within.put d _ _ _).trans (.put _ _ _ _)).trans (.put _ _ _ _)).mono (by simp) (by simp [searchKeys])
  cases manual : d.is F.LOOP_BAND_CTRL_MANUAL c with
  | true => exact searchOrManual_of_manual s manual ▸ cleared.andThen (written _)
  | false => exact searchOrManual_of_auto s manual ▸ cleared.andThen (searched _ _)

/-- What a core holds while a band search runs or the loop acquires in the written band. -/
def Core.searching (k : Core) (acq : Nat) : Core := { k.dropLock with presetPark := true, since := 0, acq }

theorem Device.core_bandCleared (d : Device) (c : Nat) : (d.bandCleared c).core c = (d.core c).searching (d.core c).acq := by
  rw [bandCleared, core_put, core_onCore_self, core_dropLock]
  rfl

theorem Device.bandCleared_keepsCores (d : Device) (c : Nat) : d.KeepsCores c (d.bandCleared c) := by
  unfold bandCleared
  exact ((d.dropLock_keepsCores c).trans (.onCore _ _)).trans (.put _ _ _ _)

/-- Another core does not change, and this one keeps all but the marks of its lock and of its acquisition. -/
theorem Device.core_searchOrManual (d : Device) (c : Nat) (s : Settings) :
    d.KeepsCores c (d.searchOrManual c s) ∧ ∃ acq, (d.searchOrManual c s).core c = (d.core c).searching acq := by
  have cleared := d.bandCleared_keepsCores c
  have core := d.core_bandCleared c
  cases manual : d.is F.LOOP_BAND_CTRL_MANUAL c with
  | true =>
    rw [searchOrManual_of_manual s manual]
    unfold bandWritten
    refine ⟨cleared.trans ((((KeepsCores.put _ _ _ _).trans (.put _ _ _ _)).trans (.put _ _ _ _)).trans (acquire_keepsCores _ c 3)), 0, ?_⟩
    rw [core_acquire, core_put, core_put, core_put, core]
    rfl
  | false =>
    rw [searchOrManual_of_auto s manual]
    unfold bandSearched
    refine ⟨cleared.trans (((KeepsCores.put _ _ _ _).trans (.put _ _ _ _)).trans (.put _ _ _ _)), (d.core c).acq, ?_⟩
    rw [core_put, core_put, core_put, core]

/-! ### The end of a band search (R87) -/

/-- The search of core c has ended with a band. -/
def Device.bandFound (d : Device) (c band : Nat) : Device :=
  ((d.put F.LOOP_STAT_BAND_SEARCH c 0).put F.LOOP_STAT_BAND c band).onCore c (fun k => { k with since := 0 })

/-- The band found misses the target by more than 0.5 %. -/
def Device.bandFails (d : Device) (c : Nat) : Device := (d.put F.LOOP_STAT_STATE c 6).event F.LOOP_EVT_BAND_FAIL c

theorem Device.bandFound_within (d : Device) (c band : Nat) :
    d.Within [.cores] [F.LOOP_STAT_BAND_SEARCH.key c, F.LOOP_STAT_BAND.key c] (d.bandFound c band) :=
  ((Within.put d _ _ _).trans (.put _ _ _ _)).trans (.onCore _ _ _)

theorem Device.bandFound_keepsCores (d : Device) (c band : Nat) : d.KeepsCores c (d.bandFound c band) :=
  (KeepsCores.of_cores (a := d) (b := (d.put F.LOOP_STAT_BAND_SEARCH c 0).put F.LOOP_STAT_BAND c band) rfl).trans (.onCore _ _)

theorem Device.bandFound_leaves (d : Device) (c band : Nat) :
    d.Leaves [F.LOOP_STAT_BAND_SEARCH, F.LOOP_STAT_BAND] (d.bandFound c band) :=
  ((Leaves.put d _ _ _).trans (.put _ _ _ _)).parts (onCore_fields _ _ _)

theorem Device.bandFails_leaves (d : Device) (c : Nat) :
    d.Leaves [F.LOOP_STAT_STATE, F.LOOP_EVT_BAND_FAIL, F.IRQ_STAT_EVT] (d.bandFails c) :=
  (Leaves.put d _ _ _).trans (.event _ _ _ _)

theorem Device.get_bandFound (d : Device) (c : Nat) (band : Byte) :
    (d.bandFound c band.toNat).get F.LOOP_STAT_BAND c = band.toNat ∧ (d.bandFound c band.toNat).get F.LOOP_STAT_BAND_SEARCH c = 0 := by
  unfold bandFound
  simp (disch := decide) only [get_onCore, get_put_apart, get_put]
  exact ⟨Nat.mod_eq_of_lt band.isLt, rfl⟩

theorem Device.bandSearchDone_of_near {c band f : Nat} (searching : d.is F.LOOP_STAT_BAND_SEARCH c = true)
    (near : ¬(d.core c).set.fvcoKhzMod < 200 * ((f * (d.core c).set.modulus : Nat) - ((d.core c).set.fvcoKhzMod : Int)).natAbs) :
    d.bandSearchDone c band f = (d.bandFound c band).acquire c 3 :=
  (if_pos searching).trans (if_neg near)

theorem Device.bandSearchDone_of_far {c band f : Nat} (searching : d.is F.LOOP_STAT_BAND_SEARCH c = true)
    (far : (d.core c).set.fvcoKhzMod < 200 * ((f * (d.core c).set.modulus : Nat) - ((d.core c).set.fvcoKhzMod : Int)).natAbs) :
    d.bandSearchDone c band f = ((d.bandFound c band).bandFails c).coreReport c 2 :=
  (if_pos searching).trans (if_pos far)

/-! ### Lock is gained and lost (R93, R94) -/

/-- Lock is declared: which values divider and accumulators take is open, the settings stay. -/
theorem Device.gainLock_eq (d : Device) (c : Nat) :
    ∃ k : Core, d.gainLock c =
      (((((d.draw 1).2.onCore c (fun _ => k)).put F.LOOP_STAT_LOCK c 1).put F.LOOP_STAT_STATE c 4).put F.LOOP_MON_ERR_VALID c 0).event
        F.LOOP_EVT_LOCK_GAINED c ∧ k.tracked = false ∧ k.set = (d.core c).set :=
  ⟨_, rfl, rfl, rfl⟩

/-- A core whose lock is lost, before the record. -/
def Device.lockDropped (d : Device) (c : Nat) : Device :=
  ((((d.dropLock c).acquire c 5).onCore c (fun k => { k with lostBefore := true, lossPark := true })).bump F.LOOP_UNLOCK_CNT_UNLOCKS c).event
    F.LOOP_EVT_LOCK_LOST c

theorem Device.loseLock_eq (d : Device) (c : Nat) : d.loseLock c = (d.lockDropped c).report 3 0 1 c := rfl

theorem Device.lockDropped_within (d : Device) (c : Nat) :
    d.Within [.cores] (unlockKeys c ++ [F.LOOP_STAT_STATE.key c, F.LOOP_UNLOCK_CNT_UNLOCKS.key c] ++ evKeys F.LOOP_EVT_LOCK_LOST c)
      (d.lockDropped c) :=
  (((((d.dropLock_within c).trans (acquire_within _ c 5)).trans (.onCore _ c _)).trans (.put _ F.LOOP_UNLOCK_CNT_UNLOCKS c _)).trans
    (.eventBit _ F.LOOP_EVT_LOCK_LOST c 0)).mono (by simp) (by simp)

theorem Device.lockDropped_keepsCores (d : Device) (c : Nat) : d.KeepsCores c (d.lockDropped c) :=
  ((((d.dropLock_keepsCores c).trans (acquire_keepsCores _ c 5)).trans (.onCore _ _)).trans (.put _ _ _ _)).trans (.event _ _ _)

theorem Device.lockDropped_leaves (d : Device) (c : Nat) :
    (d.dropLock c).Leaves [F.LOOP_STAT_STATE, F.LOOP_UNLOCK_CNT_UNLOCKS, F.LOOP_EVT_LOCK_LOST, F.IRQ_STAT_EVT] (d.lockDropped c) :=
  ((acquire_leaves (d.dropLock c) c 5).parts (onCore_fields _ _ _)).trans ((Leaves.put _ _ _ _).trans (.event _ _ _ _))

theorem Device.get_lockDropped (d : Device) (c : Nat) :
    (d.lockDropped c).get F.LOOP_STAT_STATE c = 5 ∧
      (d.lockDropped c).get F.LOOP_UNLOCK_CNT_UNLOCKS c = (d.get F.LOOP_UNLOCK_CNT_UNLOCKS c + 1) % 2 ^ 32 ∧
      (d.lockDropped c).get F.LOOP_EVT_LOCK_LOST c = 1 := by
  have count := d.dropLock_leaves c F.LOOP_UNLOCK_CNT_UNLOCKS (by decide) c
  refine ⟨?_, ?_, get_event_copy _ (by decide) (by decide) c⟩
  all_goals
    unfold lockDropped acquire bump
    simp (disch := decide) only [get_event_apart, get_onCore, get_put_apart, get_put, count]
    rfl

end Sys2Proof.Machine
end

section
/-! The commands on lock, band, slips and the counter. -/

namespace Sys2Proof.Machine

variable {d : Device}

theorem Device.lockGained_of_seen {c : Nat} {errs : List Nat} (acquires : d.coreState c = 3 ∨ d.coreState c = 5)
    (unlocked : d.locked c = false) (watched : (d.core c).blank = false) (seen : d.lockSeen c errs = true) :
    d.lockGained c errs = d.gainLock c := by
  unfold lockGained
  obtain state | state := acquires <;> simp [state, unlocked, watched, seen]

theorem Device.lockLost_of_seen {c : Nat} {errs : List Nat} (locked : d.locked c = true) (watched : (d.core c).blank = false)
    (seen : d.lossSeen c errs = true) : d.lockLost c errs = d.loseLock c := by
  simp [lockLost, locked, watched, seen]

/-- A core that has not relocked in time searches for its band again, or takes the written one. -/
theorem does_reacquireTimeout {s : State} {c : Fin 16} {post : Device → Prop} (r : s.Running) (lost : s.dev.coreState c.val = 5)
    (late : 3125 ≤ (s.dev.core c.val).acq + 1) (h : ∀ d, d = s.dev.searchOrManual c (s.dev.core c).set →
      (d.core c).set = (s.dev.core c).set → s.dev.KeepsCores c d → post d) :
    Does (.reacquireTimeout c) s [.cores] ([F.LOOP_STAT_LOCK.key c.val, F.LOOP_STAT_ALIGNED.key c.val,
        F.LOOP_STAT_TRACKING.key c.val, F.LOOP_STAT_HOLD.key c.val, F.LOOP_MON_ERR_VALID.key c.val,
        F.LOOP_STAT_STATE.key c.val, F.COUT_TWIN_STAT_READY.key 0] ++ [F.LOOP_STAT_TUNE_EDGE.key c.val,
        F.LOOP_STAT_TANK.key c.val, F.LOOP_STAT_BAND.key c.val, F.LOOP_STAT_BAND_SEARCH.key c.val]) post := by
  have run : s.dev.reacquireTimeout c = s.dev.searchOrManual c (s.dev.core c).set := if_pos ⟨lost, late⟩
  have w := s.dev.searchOrManual_within c (s.dev.core c).set
  obtain ⟨others, acq, core⟩ := s.dev.core_searchOrManual c (s.dev.core c).set
  exact does_within rfl r run (w.mono (fun _ hp => hp) (by grind [searchKeys, unlockKeys])) (h _ rfl (by rw [core]; rfl) others)

theorem bit_setBit_31 (x : Nat) : bit (setBit x 31) 31 = true := by
  simp only [bit, setBit, setBits, bits, beq_iff_eq]
  omega

theorem bits_4_setBit_31 (x : Nat) : bits (setBit x 31) 4 0 = bits x 4 0 := by
  simp only [setBit, setBits, bits]
  omega

/-- GO arms the counter of an open core. -/
theorem Device.wrFcntCfg_go {c v : Nat} (opened : d.coreClosed c = false) :
    d.wrFcntCfg c (setBit v 31) = (((d.put F.LOOP_FCNT_CFG_GATE c (bits v 4 0)).put F.LOOP_FCNT_CFG_DONE c 0).put
      F.LOOP_FCNT_CFG_GO c 1).onCore c (fun k => { k with gate := .armed }) := by
  unfold wrFcntCfg
  rw [opened, bit_setBit_31, bits_4_setBit_31]
  rfl

theorem Device.fcntDone_of_open {c count n : Nat} (gate : (d.core c).gate = .open' n) (long : d.gatePounds c ≤ n) :
    d.fcntDone c count = (((d.put F.LOOP_FCNT_COUNT c ((d.core c).counted (d.gatePounds c) count)).put F.LOOP_FCNT_CFG_DONE c 1).put
      F.LOOP_FCNT_CFG_GO c 0).onCore c (fun k => { k with gate := .idle }) := by
  unfold fcntDone
  rw [gate]
  exact if_pos long

/-- A slip is counted and shown. -/
def Device.slipCounted (d : Device) (c : Nat) : Device := (d.bump F.LOOP_SLIP_CNT_SLIPS c).event F.LOOP_EVT_CYCLE_SLIP c

/-- A realignment is due. -/
def Device.realignDue (d : Device) (c : Nat) : Device := d.onCore c (fun k => { k with realignDue := true })

theorem Device.slipCounted_within (d : Device) (c : Nat) :
    d.Within [] ([F.LOOP_SLIP_CNT_SLIPS.key c] ++ evKeys F.LOOP_EVT_CYCLE_SLIP c) (d.slipCounted c) :=
  (Within.put d _ _ _).trans (.eventBit _ _ _ _)

theorem Device.get_slipCounted (d : Device) (c : Nat) :
    (d.slipCounted c).get F.LOOP_SLIP_CNT_SLIPS c = (d.get F.LOOP_SLIP_CNT_SLIPS c + 1) % 2 ^ 32 ∧
      (d.slipCounted c).get F.LOOP_EVT_CYCLE_SLIP c = 1 := by
  refine ⟨?_, get_event_copy _ (by decide) (by decide) c⟩
  rw [slipCounted, get_event_apart _ (by decide), get_bump]
  rfl

/-- A slip of an open core that runs is counted; with AUTO_REALIGN a realignment is due. -/
theorem Device.cycleSlip_of_open {c : Nat} (opened : d.coreClosed c = false) (runs : 2 ≤ d.coreState c) :
    d.cycleSlip c = (d.slipCounted c).when (d.is F.LOOP_CTRL_AUTO_REALIGN c) (·.realignDue c) := by
  have auto : (d.slipCounted c).is F.LOOP_CTRL_AUTO_REALIGN c = d.is F.LOOP_CTRL_AUTO_REALIGN c := by
    rw [is, slipCounted, get_event_apart _ (by decide), bump, get_put_apart _ (by decide)]
    rfl
  have notIdle : (d.coreState c == 1) = false := by simp; omega
  unfold cycleSlip
  rw [opened, notIdle, ← auto]
  rfl

/-- Settles O34: each command is one change of the core's fields (a search that ends, a lock gained or lost, a search begun, an event
counted, a gate), and the lemmas about that change give what it shows and keeps. -/
theorem lockAndBand : Obligations.LockAndBand := by
  unfold Obligations.LockAndBand
  refine ⟨?_, ?_, ?_, ?_, ?_, ?_, ?_, ?_, ?_, ?_⟩
  · intro s c band f r searching near
    have w := (s.dev.bandFound_within c band.toNat).trans (Device.acquire_within _ c 3)
    have others := (s.dev.bandFound_keepsCores c band.toNat).trans (Device.acquire_keepsCores _ c 3)
    obtain ⟨shown, ended⟩ := s.dev.get_bandFound c band
    have kept := Device.acquire_leaves (s.dev.bandFound c band.toNat) c 3
    refine does_within rfl r (Device.bandSearchDone_of_near searching near) (w.mono (by simp) (by simp)) ⟨?_, ?_, ?_, others, ?_⟩
    · rw [kept _ (by decide), shown]
    · rw [kept _ (by decide), ended]
    · rw [Device.core_acquire, Device.bandFound, Device.core_onCore_self]
      rfl
    · rw [Device.coreState, Device.acquire, Device.get_onCore, Device.get_put]
      rfl
  · intro s c band f r searching far
    obtain ⟨shown, ended⟩ := s.dev.get_bandFound c band
    have found := s.dev.bandFound_within c band.toNat
    have fails : (s.dev.bandFound c band.toNat).Within [] ([F.LOOP_STAT_STATE.key c] ++ evKeys F.LOOP_EVT_BAND_FAIL c)
        ((s.dev.bandFound c band.toNat).bandFails c) := (Device.Within.put _ _ _ _).trans (.eventBit _ _ _ _)
    have kept := (s.dev.bandFound c band.toNat).bandFails_leaves c
    have lost := kept F.FLT_LOST_CNT_LOST (by decide) 0
    have others := (s.dev.bandFound_keepsCores c band.toNat).trans (.within fails)
    have w := (found.trans fails).trans (.report _ 3 0 2 c)
    refine does_within rfl r (Device.bandSearchDone_of_far searching far) (w.mono (by simp) (by grind))
      ⟨?_, ?_, ?_, others.trans (.report _ 3 0 2 c), ?_, ?_, ?_⟩
    · rw [Device.coreReport, Device.get_report_apart _ (by decide), kept _ (by decide), shown]
    · rw [Device.coreReport, Device.get_report_apart _ (by decide), kept _ (by decide), ended]
    · rw [Device.coreReport, Device.core_report, fails.core, Device.bandFound, Device.core_onCore_self]
      rfl
    · rw [Device.coreState, Device.coreReport, Device.get_report_apart _ (by decide), Device.bandFails,
        Device.get_event_apart _ (by decide), Device.get_put]
      rfl
    · rw [Device.coreReport, Device.get_report_apart _ (by decide), Device.bandFails]
      exact Device.get_event_copy _ (by decide) (by decide) c
    · exact Device.reported_report (found.trans fails).flt (lost.trans (s.dev.bandFound_leaves c band.toNat _ (by decide) 0))
  · intro s c errs r acquires unlocked watched seen
    obtain ⟨k, run, untracked, settings⟩ := s.dev.gainLock_eq c
    have drawn : s.dev.Within [.freeCtr] [] (s.dev.draw 1).2 := ⟨s.dev.draw_keepsParts 1, .refl _ _⟩
    have w := ((((drawn.trans (.onCore _ c (fun _ => k))).trans (.put _ F.LOOP_STAT_LOCK c 1)).trans
      (.put _ F.LOOP_STAT_STATE c 4)).trans (.put _ F.LOOP_MON_ERR_VALID c 0)).trans (.eventBit _ F.LOOP_EVT_LOCK_GAINED c 0)
    have core : ∀ n, (s.dev.gainLock c).core n = if n = c then k else s.dev.core n := fun n => by
      rw [run, Device.core_event, Device.core_put, Device.core_put, Device.core_put, Device.core_onCore, drawn.core]
    have locked := (Device.lockGained_of_seen acquires unlocked watched seen).trans run
    refine does_within rfl r locked (w.mono (by simp) (by simp)) ?_
    rw [← run, core, if_pos rfl, run]
    refine ⟨?_, ?_, ?_, ?_, untracked, settings, fun n hn => ?_⟩
    · rw [Device.locked, Device.is, Device.get_event_apart _ (by decide), Device.get_put_apart _ (by decide),
        Device.get_put_apart _ (by decide), Device.get_put]
      rfl
    · rw [Device.coreState, Device.get_event_apart _ (by decide), Device.get_put_apart _ (by decide), Device.get_put]
      rfl
    · rw [Device.get_event_apart _ (by decide), Device.get_put]
      rfl
    · exact Device.get_event_copy _ (by decide) (by decide) c
    · exact (run ▸ core n).trans (if_neg hn)
  · intro s c errs r locked watched seen
    have w := s.dev.lockDropped_within c
    obtain ⟨state, count, event⟩ := s.dev.get_lockDropped c
    obtain ⟨lock, aligned, tracking, valid⟩ := s.dev.get_dropLock c
    have kept := s.dev.lockDropped_leaves c
    have lost := kept F.FLT_LOST_CNT_LOST (by decide) 0
    have run := (Device.lockLost_of_seen locked watched seen).trans (s.dev.loseLock_eq c)
    have core : ((s.dev.lockDropped c).report 3 0 1 c).core c = _ := s.dev.core_loseLock c
    refine does_within rfl r run ((w.trans (.report _ 3 0 1 c)).mono (by simp) (by grind [unlockKeys]))
      ⟨?_, ?_, ?_, ?_, ?_, ?_, ?_, ?_, (s.dev.lockDropped_keepsCores c).trans (.report _ 3 0 1 c), ?_⟩
    · rw [Device.locked, Device.is, Device.get_report_apart _ (by decide), kept _ (by decide), lock]
      rfl
    · rw [Device.aligned, Device.is, Device.get_report_apart _ (by decide), kept _ (by decide), aligned]
      rfl
    · rw [Device.coreState, Device.get_report_apart _ (by decide), state]
    · rw [Device.get_report_apart _ (by decide), kept _ (by decide), tracking]
    · rw [Device.get_report_apart _ (by decide), kept _ (by decide), valid]
    · rw [Device.get_report_apart _ (by decide), count]
    · rw [Device.get_report_apart _ (by decide), event]
    · rw [core]
      rfl
    · exact Device.reported_report w.flt (lost.trans (s.dev.dropLock_leaves c _ (by decide) 0))
  · intro s c r lost late auto
    refine does_reacquireTimeout r lost late fun d run settings others => ?_
    obtain ⟨state, search, tank, -, -⟩ := Device.searchOrManual_searches (s.dev.core c).set auto
    rw [← run] at state search tank
    exact ⟨state, search, tank, settings, others⟩
  · intro s c r lost late manual
    refine does_reacquireTimeout r lost late fun d run settings others => ?_
    obtain ⟨state, search, tank, band, -⟩ := Device.searchOrManual_acquiresWritten (s.dev.core c).set manual
    rw [← run] at state search tank band
    exact ⟨state, band, tank, search, settings, others⟩
  · intro s c r locked inside
    have run : s.dev.tuneEdge c = ((s.dev.put F.LOOP_STAT_TUNE_EDGE c 1).event F.LOOP_EVT_TUNE_EDGE_SET c).report 3 0 3 c := by
      rw [Device.tuneEdge, locked, inside]
      rfl
    have w := (Device.Within.put s.dev F.LOOP_STAT_TUNE_EDGE c 1).trans (.eventBit _ F.LOOP_EVT_TUNE_EDGE_SET c 0)
    refine does_within rfl r run ((w.trans (.report _ 3 0 3 c)).mono (by simp) (by grind)) ⟨?_, ?_, ?_⟩
    · rw [Device.get_report_apart _ (by decide), Device.get_event_apart _ (by decide), Device.get_put]
      rfl
    · rw [Device.get_report_apart _ (by decide)]
      exact Device.get_event_copy _ (by decide) (by decide) c
    · exact Device.reported_report w.flt (((Device.Leaves.put s.dev _ _ _).trans (.event _ _ _ _)) _ (by decide) 0)
  · intro s c r opened runs
    have w := (s.dev.slipCounted_within c).trans
      (.when (x := s.dev.is F.LOOP_CTRL_AUTO_REALIGN c) (f := (·.realignDue c)) (fun d => .onCore d c _))
    obtain ⟨count, event⟩ := s.dev.get_slipCounted c
    have core : (s.dev.slipCounted c).core c = s.dev.core c := (s.dev.slipCounted_within c).core c
    have others : s.dev.KeepsCores c (s.dev.slipCounted c) := .within (s.dev.slipCounted_within c)
    refine does_within rfl r (Device.cycleSlip_of_open opened runs) w ?_
    cases s.dev.is F.LOOP_CTRL_AUTO_REALIGN c with
    | true =>
      rw [Device.when_true, Bool.or_true]
      refine ⟨count, event, ?_, others.trans (.onCore _ _)⟩
      rw [Device.realignDue, Device.core_onCore_self, core]
    | false =>
      rw [Device.when_false, Bool.or_false]
      exact ⟨count, event, core, others⟩
  · intro s c v r opened
    have w := (((Device.Within.put s.dev F.LOOP_FCNT_CFG_GATE c (bits v.toNat 4 0)).trans (.put _ F.LOOP_FCNT_CFG_DONE c 0)).trans
      (.put _ F.LOOP_FCNT_CFG_GO c 1)).trans (.onCore _ c (fun k => { k with gate := .armed }))
    refine does_within rfl r (Device.wrFcntCfg_go opened) w ⟨?_, ?_, ?_, ?_, fun n hn => Device.core_onCore_ne _ _ _ hn⟩
    · rw [Device.core_onCore_self]
      rfl
    · rw [Device.get_onCore, Device.get_put]
      rfl
    · rw [Device.get_onCore, Device.get_put_apart _ (by decide), Device.get_put]
      rfl
    · rw [Device.get_onCore, Device.get_put_apart _ (by decide), Device.get_put_apart _ (by decide), Device.get_put]
      exact Nat.mod_mod _ _
  · intro s c count n r gate long
    have w := (((Device.Within.put s.dev F.LOOP_FCNT_COUNT c ((s.dev.core c).counted (s.dev.gatePounds c) count.toNat)).trans
      (.put _ F.LOOP_FCNT_CFG_DONE c 1)).trans (.put _ F.LOOP_FCNT_CFG_GO c 0)).trans (.onCore _ c (fun k => { k with gate := .idle }))
    refine does_within rfl r (Device.fcntDone_of_open gate long) w ⟨?_, ?_, ?_, ?_, fun n hn => Device.core_onCore_ne _ _ _ hn⟩
    · rw [Device.get_onCore, Device.get_put_apart _ (by decide), Device.get_put_apart _ (by decide), Device.get_put]
      rfl
    · rw [Device.get_onCore, Device.get_put_apart _ (by decide), Device.get_put]
      rfl
    · rw [Device.get_onCore, Device.get_put]
      rfl
    · rw [Device.core_onCore_self]
      rfl

end Sys2Proof.Machine
end

section
/-! The tick phase monitor: ALIGNED, the trim offset, averages, holds and realignments, and O35 (R102, R104-R106). -/

namespace Sys2Proof.Machine

variable {a b d : Device}

/-! ### ALIGNED follows its conditions (R102, R119) -/

/-- The keys of the fields that change when ALIGNED follows its conditions. -/
def alignKeys (c : Nat) : List Nat :=
  [F.LOOP_STAT_ALIGNED.key c, F.COUT_TWIN_STAT_READY.key 0] ++ evKeys F.COUT_RETUNE_EVT_RETUNE_DONE

/-- A core is aligned again: its retune is shown as done where there was one, and its parking ends. -/
def Device.realignEnds (d : Device) (c : Nat) (retuning : Bool) : Device :=
  (d.when retuning (·.eventBit F.COUT_RETUNE_EVT_RETUNE_DONE 0 c)).onCore c
    (fun k => { k with retuning := false, lossPark := false, presetPark := false })

theorem Device.refreshAligned_eq (d : Device) (c : Nat) :
    d.refreshAligned c = if d.alignedCond c then (d.putAligned c (d.alignedCond c)).realignEnds c (d.core c).retuning
      else d.putAligned c (d.alignedCond c) := rfl

theorem Device.retuneDone_within (d : Device) (c : Nat) (retuning : Bool) :
    d.Within [] (evKeys F.COUT_RETUNE_EVT_RETUNE_DONE) (d.when retuning (·.eventBit F.COUT_RETUNE_EVT_RETUNE_DONE 0 c)) :=
  .when (Within.eventBit · _ 0 c)

theorem Device.realignEnds_within (d : Device) (c : Nat) (retuning : Bool) :
    d.Within [.cores] (evKeys F.COUT_RETUNE_EVT_RETUNE_DONE) (d.realignEnds c retuning) :=
  ((d.retuneDone_within c retuning).trans (.onCore _ _ _)).mono (by simp) (by simp)

theorem Device.realignEnds_leaves (d : Device) (c : Nat) (retuning : Bool) :
    d.Leaves [F.COUT_RETUNE_EVT_RETUNE_DONE, F.IRQ_STAT_EVT] (d.realignEnds c retuning) :=
  Leaves.parts (b := d.when retuning (·.eventBit F.COUT_RETUNE_EVT_RETUNE_DONE 0 c)) (.when (Leaves.event · _ 0 c)) (onCore_fields _ _ _)

theorem Device.refreshAligned_within (d : Device) (c : Nat) : d.Within [.cores] (alignKeys c) (d.refreshAligned c) := by
  have aligned := d.putAligned_within c (d.alignedCond c)
  rw [refreshAligned_eq]
  exact .ite ((aligned.trans (realignEnds_within _ c _)).mono (by simp) (by simp [alignKeys]))
    (aligned.mono (by simp) (by simp [alignKeys]))

theorem Device.refreshAligned_leaves (d : Device) (c : Nat) :
    d.Leaves [F.LOOP_STAT_ALIGNED, F.COUT_TWIN_STAT_READY, F.COUT_RETUNE_EVT_RETUNE_DONE, F.IRQ_STAT_EVT] (d.refreshAligned c) := by
  have aligned := d.putAligned_leaves c (d.alignedCond c)
  rw [refreshAligned_eq]
  exact .ite (aligned.trans (realignEnds_leaves _ c _)) (aligned.mono (by simp))

/-- Only the marks of a retune and of parking end with it. -/
theorem Device.core_refreshAligned (d : Device) (c : Nat) :
    d.KeepsCores c (d.refreshAligned c) ∧ ∃ retuning lossPark presetPark,
      (d.refreshAligned c).core c = { d.core c with retuning, lossPark, presetPark } := by
  have aligned := d.putAligned_within c (d.alignedCond c)
  have done := (d.putAligned c (d.alignedCond c)).retuneDone_within c (d.core c).retuning
  rw [refreshAligned_eq]
  split
  · refine ⟨(KeepsCores.within (aligned.trans done)).trans (.onCore _ _), false, false, false, ?_⟩
    rw [realignEnds, core_onCore_self, done.core, aligned.core]
  · exact ⟨.within aligned, _, _, _, aligned.core c⟩

/-! ### The trim offset (R105) -/

theorem Device.addTrim_within (d : Device) (c : Nat) (x : Int) : d.Within [] [F.LOOP_TRIM_TAU.key c] (d.addTrim c x) := .put d _ _ _

theorem Device.addTrim_leaves (d : Device) (c : Nat) (x : Int) : d.Leaves [F.LOOP_TRIM_TAU] (d.addTrim c x) := .put d _ _ _

@[simp] theorem Device.core_addTrim (d : Device) (c : Nat) (x : Int) (n : Nat) : (d.addTrim c x).core n = d.core n := rfl

/-- The trim after a correction depends on the trim before it and on D_A alone. -/
theorem Device.get_addTrim_of_same {c : Nat} (x : Int) (tau : b.get F.LOOP_TRIM_TAU c = a.get F.LOOP_TRIM_TAU c)
    (settings : (b.core c).set = (a.core c).set) :
    (b.addTrim c x).get F.LOOP_TRIM_TAU c = (a.addTrim c x).get F.LOOP_TRIM_TAU c := by
  unfold addTrim setTrim
  rw [get_put, get_put, tau, settings]

/-- A value of a 32-bit field reads back in two's complement. -/
theorem sgn_unsgn_32 {z : Int} (low : -2 ^ 31 ≤ z) (high : z < 2 ^ 31) : sgn 32 (unsgn 32 z % 2 ^ 32) = z := by
  unfold sgn unsgn
  split <;> omega

/-- The trim is held modulo the period of output A. -/
theorem Device.addTrim_congruent {c : Nat} (x : Int) (small : 1 ≤ (d.core c).set.dA ∧ (d.core c).set.dA ≤ 256) :
    (sgn 32 ((d.addTrim c x).get F.LOOP_TRIM_TAU c) - (sgn 32 (d.get F.LOOP_TRIM_TAU c) + x)) % ((d.core c).set.dA * 65536 : Nat) = 0 := by
  obtain ⟨low, high⟩ := small
  unfold addTrim setTrim
  rw [get_put]
  generalize sgn 32 (d.get F.LOOP_TRIM_TAU c) + x = t
  rw [show ((d.core c).set.dA * 65536 : Int) = ((d.core c).set.dA * 65536 : Nat) by norm_num]
  obtain ⟨m, hm⟩ : ∃ m : Nat, (d.core c).set.dA * 65536 = m := ⟨_, rfl⟩
  have ranges : 1 ≤ m ∧ m ≤ 2 ^ 24 := by omega
  rw [hm]
  have least := Int.emod_nonneg t (show (m : Int) ≠ 0 by omega)
  have most := Int.emod_lt_of_pos t (show (0 : Int) < m by omega)
  have congruent : (t % m - t) % m = 0 := Int.emod_eq_emod_iff_emod_sub_eq_zero.mp (Int.emod_emod_of_dvd t (dvd_refl (m : Int)))
  change (sgn 32 (unsgn 32 (if (m : Int) ≤ 2 * (t % m) then t % m - m else t % m) % 2 ^ 32) - t) % m = 0
  rw [sgn_unsgn_32 (by split <;> omega) (by split <;> omega)]
  split
  · rw [show t % m - m - t = t % m - t - m by ring, Int.sub_emod_right, congruent]
  · exact congruent

/-! ### An average is complete (R104, R105) -/

/-- The average is written and shown, and a new one begins. -/
def Device.averageTaken (d : Device) (c : Nat) (err : Int) (big : Bool) : Device :=
  let d := (d.put F.LOOP_MON_ERR_ERR c (unsgnSat 24 err)).put F.LOOP_MON_ERR_VALID c 1
  d.onCore c (fun k => { k with
    avgSum := 0, avgCount := 0, alarm := big, realignDue := k.realignDue || (big && d.is F.LOOP_CTRL_AUTO_REALIGN c) })

/-- A new alarm is shown and reported. -/
def Device.phaseAlarm (d : Device) (c : Nat) : Device := (d.event F.LOOP_EVT_PHASE_ALARM c).report 3 0 4 c

/-- In trim mode a correction is clamped and taken. -/
def Device.trimStep (d : Device) (c : Nat) (steps : Int) : Device :=
  d.when (decide (2 ≤ d.get F.LOOP_CTRL_MON_MODE c)) (fun d => d.addTrim c (clampAbs (d.get F.LOOP_MON_CFG_TRIM_MAX c) steps))

theorem Device.monitorAverage_of_full {c : Nat} {err : Int} {big : Bool} (full : (d.core c).avgCount = d.avgPounds c)
    (mean : err = (d.core c).meanError (d.core c).avgSum (d.avgPounds c)) (beyond : decide (16 * d.alarmPs c < err.natAbs) = big) :
    d.monitorAverage c = (((d.averageTaken c err big).when big (·.phaseAlarm c)).trimStep c ((d.core c).trimSteps err)).refreshAligned c := by
  subst mean beyond
  exact if_pos full

theorem Device.averageTaken_within (d : Device) (c : Nat) (err : Int) (big : Bool) :
    d.Within [.cores] [F.LOOP_MON_ERR_ERR.key c, F.LOOP_MON_ERR_VALID.key c] (d.averageTaken c err big) := by
  unfold averageTaken
  exact ((Within.put d _ _ _).trans (.put _ _ _ _)).trans (.onCore _ _ _)

theorem Device.averageTaken_leaves (d : Device) (c : Nat) (err : Int) (big : Bool) :
    d.Leaves [F.LOOP_MON_ERR_ERR, F.LOOP_MON_ERR_VALID] (d.averageTaken c err big) := by
  unfold averageTaken
  exact ((Leaves.put d _ _ _).trans (.put _ _ _ _)).parts (onCore_fields _ _ _)

theorem Device.averageTaken_keepsCores (d : Device) (c : Nat) (err : Int) (big : Bool) : d.KeepsCores c (d.averageTaken c err big) := by
  unfold averageTaken
  exact ((KeepsCores.put d _ _ _).trans (.put _ _ _ _)).trans (.onCore _ _)

theorem Device.averageTaken_spec (d : Device) (c : Nat) (err : Int) (big : Bool) :
    (d.averageTaken c err big).get F.LOOP_MON_ERR_ERR c = unsgnSat 24 err % 2 ^ 24 ∧
      (d.averageTaken c err big).get F.LOOP_MON_ERR_VALID c = 1 ∧ ((d.averageTaken c err big).core c).avgCount = 0 ∧
      ((d.averageTaken c err big).core c).set = (d.core c).set ∧ ((d.averageTaken c err big).core c).alarm = big := by
  unfold averageTaken
  simp (disch := decide) only [get_onCore, get_put_apart, get_put, core_onCore_self, core_put]
  exact ⟨rfl, rfl, trivial, trivial, trivial⟩

theorem Device.phaseAlarm_within (d : Device) (c : Nat) :
    d.Within [.flt] (evKeys F.LOOP_EVT_PHASE_ALARM c ++ reportKeys) (d.phaseAlarm c) :=
  (Within.eventBit d _ _ _).trans (.report _ _ _ _ _)

theorem Device.phaseAlarm_leaves (d : Device) (c : Nat) :
    d.Leaves [F.LOOP_EVT_PHASE_ALARM, F.IRQ_STAT_EVT, F.FLT_LOST_CNT_LOST, F.FLT_EVT_LOST] (d.phaseAlarm c) :=
  ((Leaves.event d _ _ _).trans (.report _ _ _ _ _)).mono (by simp)

theorem Device.trimStep_within (d : Device) (c : Nat) (x : Int) : d.Within [] [F.LOOP_TRIM_TAU.key c] (d.trimStep c x) := by
  unfold trimStep Device.when
  exact .ite (d.addTrim_within c _) (.refl d)

theorem Device.trimStep_leaves (d : Device) (c : Nat) (x : Int) : d.Leaves [F.LOOP_TRIM_TAU] (d.trimStep c x) := by
  unfold trimStep Device.when
  exact .ite (d.addTrim_leaves c _) (.of_fields rfl)

/-- The trim after a step depends on the trim, the mode, the limit and D_A alone. -/
theorem Device.get_trimStep_of_leaves {l : List Fld} {c : Nat} (x : Int) (h : a.Leaves l b) (settings : (b.core c).set = (a.core c).set)
    (tau : l.all F.LOOP_TRIM_TAU.apart = true := by decide) (mode : l.all F.LOOP_CTRL_MON_MODE.apart = true := by decide)
    (limit : l.all F.LOOP_MON_CFG_TRIM_MAX.apart = true := by decide) :
    (b.trimStep c x).get F.LOOP_TRIM_TAU c =
      if 2 ≤ a.get F.LOOP_CTRL_MON_MODE c then (a.addTrim c (clampAbs (a.get F.LOOP_MON_CFG_TRIM_MAX c) x)).get F.LOOP_TRIM_TAU c
      else a.get F.LOOP_TRIM_TAU c := by
  unfold trimStep Device.when
  simp only [h _ mode, h _ limit]
  by_cases trims : 2 ≤ a.get F.LOOP_CTRL_MON_MODE c
  · rw [if_pos (decide_eq_true trims), if_pos trims]
    exact get_addTrim_of_same _ (h _ tau c) settings
  · rw [if_neg (by simpa using trims), if_neg trims, h _ tau]

/-- A full average: what it shows and keeps, with an alarm that stands or not. -/
theorem Device.averaged_spec {c : Nat} {err steps : Int} {big : Bool} {m : Device}
    (m_def : m = (d.averageTaken c err big).when big (·.phaseAlarm c)) :
    let e := (m.trimStep c steps).refreshAligned c
    e.get F.LOOP_MON_ERR_ERR c = unsgnSat 24 err % 2 ^ 24 ∧ e.get F.LOOP_MON_ERR_VALID c = 1 ∧ (e.core c).avgCount = 0 ∧
      (e.core c).set = (d.core c).set ∧
      e.get F.LOOP_TRIM_TAU c =
        (if 2 ≤ d.get F.LOOP_CTRL_MON_MODE c then (d.addTrim c (clampAbs (d.get F.LOOP_MON_CFG_TRIM_MAX c) steps)).get F.LOOP_TRIM_TAU c
        else d.get F.LOOP_TRIM_TAU c) ∧
      d.KeepsCores c e ∧ (e.core c).alarm = big := by
  intro e
  obtain ⟨shown, valid, count, settings, alarm⟩ := d.averageTaken_spec c err big
  have before : (d.averageTaken c err big).Leaves [F.LOOP_EVT_PHASE_ALARM, F.IRQ_STAT_EVT, F.FLT_LOST_CNT_LOST, F.FLT_EVT_LOST] m :=
    m_def ▸ .when (phaseAlarm_leaves · c)
  have alarmed : (d.averageTaken c err big).Within [.flt] (evKeys F.LOOP_EVT_PHASE_ALARM c ++ reportKeys) m :=
    m_def ▸ .when (phaseAlarm_within · c)
  have trimmed := m.trimStep_within c steps
  have after := (m.trimStep_leaves c steps).trans (refreshAligned_leaves (m.trimStep c steps) c)
  obtain ⟨others, retuning, lossPark, presetPark, core⟩ := (m.trimStep c steps).core_refreshAligned c
  have kept : e.core c = { (d.averageTaken c err big).core c with retuning, lossPark, presetPark } := by
    rw [← alarmed.core, ← trimmed.core]
    exact core
  rw [kept]
  refine ⟨?_, ?_, count, settings, ?_, ?_, alarm⟩
  · rw [after _ (by decide), before _ (by decide), shown]
  · rw [after _ (by decide), before _ (by decide), valid]
  · rw [refreshAligned_leaves (m.trimStep c steps) c _ (by decide)]
    exact get_trimStep_of_leaves steps ((d.averageTaken_leaves c err big).trans before) ((alarmed.core c).symm ▸ settings)
  · exact ((d.averageTaken_keepsCores c err big).trans (.within (alarmed.trans trimmed))).trans others

/-- The keys of the fields that change with a full average, besides those of an alarm. -/
def averageKeys (c : Nat) : List Nat := [F.LOOP_MON_ERR_ERR.key c, F.LOOP_MON_ERR_VALID.key c, F.LOOP_TRIM_TAU.key c] ++ alignKeys c

theorem averageKeys_pages : ∀ c : Fin 16, ∀ k ∈ averageKeys c, pageOfKey k ∈ [0x10 + c.val, 0x20] := by
  decide

theorem alarmKeys_pages : ∀ c : Fin 16, ∀ k ∈ evKeys F.LOOP_EVT_PHASE_ALARM c ++ reportKeys, pageOfKey k ∈ [0x10 + c.val, 0x20, 0xA] := by
  decide

/-! ### A realignment (R106) -/

/-- A realignment ends: its samples are taken, and the correction enters the trim. -/
theorem Device.realigned_of_due {c : Nat} (due : (d.core c).realignDue = true) (eight : (d.core c).raCount = 8)
    (locked : d.locked c = true) :
    d.realigned c = ((d.onCore c (fun k => { k with realignDue := false, raSum := 0, raCount := 0 })).addTrim c
      ((d.core c).trimSteps ((d.core c).meanError (d.core c).raSum 8))).event F.LOOP_EVT_REALIGNED c := by
  simp [realigned, due, eight, locked]

/-- Settles O35: a full average is written, alarmed and trimmed in that order, a hold ends with ALIGNED following, and a realignment is one
correction of the trim. -/
theorem phaseMonitor : Obligations.PhaseMonitor := by
  unfold Obligations.PhaseMonitor
  refine ⟨?_, ?_, ?_, ?_⟩
  · intro s c err r full mean within
    have run := Device.monitorAverage_of_full full mean (decide_eq_false (Nat.not_lt.mpr within))
    rw [Device.when_false] at run
    have w := ((s.dev.averageTaken_within c err false).trans (Device.trimStep_within _ c ((s.dev.core c).trimSteps err))).trans
      (Device.refreshAligned_within _ c)
    exact doesWide_within rfl r run (w.mono (by simp) (ks' := averageKeys c) (by grind [averageKeys]))
      (averageKeys_pages c) (Device.averaged_spec rfl)
  · intro s c err r full mean beyond
    have run := Device.monitorAverage_of_full full mean (decide_eq_true beyond)
    rw [Device.when_true] at run
    have taken := s.dev.averageTaken_within c err true
    have after := (Device.trimStep_within ((s.dev.averageTaken c err true).phaseAlarm c) c ((s.dev.core c).trimSteps err)).trans
      (Device.refreshAligned_within _ c)
    have w := (taken.trans (Device.phaseAlarm_within _ c)).trans after
    obtain ⟨shown, valid, count, settings, trim, others, alarm⟩ :=
      Device.averaged_spec (d := s.dev) (c := c) (err := err) (big := true) (steps := (s.dev.core c).trimSteps err) rfl
    have kept := (Device.trimStep_leaves ((s.dev.averageTaken c err true).phaseAlarm c) c ((s.dev.core c).trimSteps err)).trans
      (Device.refreshAligned_leaves _ c)
    have pages : ∀ k ∈ averageKeys c ++ (evKeys F.LOOP_EVT_PHASE_ALARM c ++ reportKeys), pageOfKey k ∈ [0x10 + c.val, 0x20, 0xA] :=
      List.forall_mem_append.mpr ⟨fun k hk => by have := averageKeys_pages c k hk; grind, alarmKeys_pages c⟩
    refine doesWide_within rfl r run (w.mono (by simp) (by grind [averageKeys])) pages
      ⟨shown, valid, count, settings, trim, others, alarm, ?_, ?_⟩
    · rw [kept _ (by decide), Device.phaseAlarm, Device.get_report_apart _ (by decide)]
      exact Device.get_event_copy _ (by decide) (by decide) c
    · have lost := ((s.dev.averageTaken_leaves c err true).trans (.event _ F.LOOP_EVT_PHASE_ALARM c 0)) F.FLT_LOST_CNT_LOST (by decide) 0
      have flt := (taken.trans (.eventBit _ F.LOOP_EVT_PHASE_ALARM c 0)).flt
      exact (Device.reported_report flt lost).of_kept after.flt (kept _ (by decide) 0) (kept _ (by decide) 0)
  · intro s c r holds ended
    have run : s.dev.monitorHoldEnd c = (s.dev.put F.LOOP_STAT_HOLD c 0).refreshAligned c := by
      rw [Device.monitorHoldEnd, holds, ended]
      rfl
    obtain ⟨others, retuning, lossPark, presetPark, core⟩ := (s.dev.put F.LOOP_STAT_HOLD c 0).core_refreshAligned c
    refine does_within rfl r run ((Device.Within.put s.dev _ _ _).trans (Device.refreshAligned_within _ c)) ⟨?_, ?_, others⟩
    · rw [Device.refreshAligned_leaves _ c _ (by decide), Device.get_put]
      rfl
    · rw [core]
      rfl
  · intro s c r due eight locked
    have tau : (s.dev.onCore c (fun k => { k with realignDue := false, raSum := 0, raCount := 0 })).get F.LOOP_TRIM_TAU c =
      s.dev.get F.LOOP_TRIM_TAU c := s.dev.get_onCore c _ _ c
    have core := s.dev.core_onCore_self c (fun k => { k with realignDue := false, raSum := 0, raCount := 0 })
    have settings := congrArg Core.set core
    have trim := Device.get_addTrim_of_same ((s.dev.core c).trimSteps ((s.dev.core c).meanError (s.dev.core c).raSum 8)) tau settings
    have w := ((Device.Within.onCore s.dev c (fun k => { k with realignDue := false, raSum := 0, raCount := 0 })).trans
      (Device.addTrim_within _ c ((s.dev.core c).trimSteps ((s.dev.core c).meanError (s.dev.core c).raSum 8)))).trans
      (.eventBit _ F.LOOP_EVT_REALIGNED c 0)
    refine does_within rfl r (Device.realigned_of_due due eight locked) w ⟨?_, fun small => ?_, ?_, ?_, ?_, ?_, ?_⟩
    · rw [Device.get_event_apart _ (by decide), trim]
    · rw [Device.get_event_apart _ (by decide), trim]
      exact Device.addTrim_congruent _ small
    · rw [Device.core_event, Device.core_addTrim, core]
    · rw [Device.core_event, Device.core_addTrim, core]
    · rw [Device.core_event, Device.core_addTrim, core]
    · exact ((Device.KeepsCores.onCore s.dev _).trans (.within (Device.addTrim_within _ c _))).trans (.event _ _ _)
    · exact Device.get_event_copy _ (by decide) (by decide) c

end Sys2Proof.Machine
end

section
/-! The mailbox: a request, its end, and the captures, with O22 (R113, R250, R328, R353). -/

namespace Sys2Proof.Machine

variable {a b d : Device} {obj index : Nat}

/-! ### A request is written (R328) -/

/-- MBX_REQ shows the request written last. -/
def Device.mbxNamed (d : Device) (obj index : Nat) : Device := (d.put F.MBX_REQ_OBJ 0 obj).put F.MBX_REQ_INDEX 0 index

/-- A request is taken: BUSY is set, VALID and RESULT are clear. -/
def Device.mbxTaken (d : Device) (obj index : Nat) : Device :=
  (((d.put F.MBX_STAT_VALID 0 0).put F.MBX_STAT_BUSY 0 1).put F.MBX_STAT_RESULT 0 0).onMbx (fun _ => { req := some (obj, index) })

/-- A write of MBX_REQ with GO. -/
theorem Device.wrMbxReq_go {v : Nat} (go : bit v 31 = true) (named : bits v 15 8 = obj) (at' : bits v 7 0 = index) :
    d.wrMbxReq v =
      if d.is F.MBX_STAT_BUSY then (d.mbxNamed obj index).put F.MBX_STAT_RESULT 0 4
      else if mbxUnknown obj index && decide (obj < 0x80) then ((d.mbxNamed obj index).put F.MBX_STAT_VALID 0 0).mbxFinish 2 none
      else ((d.mbxNamed obj index).mbxTaken obj index).mbxServe := by
  have busy : (d.mbxNamed obj index).is F.MBX_STAT_BUSY = d.is F.MBX_STAT_BUSY := by
    unfold is mbxNamed
    rw [get_put_apart _ (by decide), get_put_apart _ (by decide)]
  rw [← busy]
  subst named at'
  exact if_pos go

theorem mbxWord_bits {obj : Nat} (small : obj < 128) (index : Byte) :
    bit (mbxWord obj index) 31 = true ∧ bits (mbxWord obj index) 15 8 = obj ∧ bits (mbxWord obj index) 7 0 = index.toNat := by
  have := index.isLt
  simp only [mbxWord, bit, bits, beq_iff_eq]
  omega

theorem setBit_31_bits (x : Nat) : bits (setBit x 31) 15 8 = bits x 15 8 ∧ bits (setBit x 31) 7 0 = bits x 7 0 := by
  simp only [setBit, setBits, bits]
  omega

/-! ### What a request changes -/

/-- The keys of a request. -/
def requestKeys : List Nat :=
  [F.MBX_REQ_OBJ.key 0, F.MBX_REQ_INDEX.key 0, F.MBX_STAT_VALID.key 0, F.MBX_STAT_BUSY.key 0, F.MBX_STAT_RESULT.key 0]

theorem Device.Within.onMbx (d : Device) (f : Mailbox → Mailbox) : d.Within [.mbx] [] (d.onMbx f) :=
  of_part .mbx (fun q hq => by cases q with | mbx => exact absurd rfl hq | _ => rfl) rfl

theorem Device.mbxNamed_within (d : Device) (obj index : Nat) :
    d.Within [] [F.MBX_REQ_OBJ.key 0, F.MBX_REQ_INDEX.key 0] (d.mbxNamed obj index) :=
  (Within.put d _ _ _).trans (.put _ _ _ _)

theorem Device.mbxTaken_within (d : Device) (obj index : Nat) :
    d.Within [.mbx] [F.MBX_STAT_VALID.key 0, F.MBX_STAT_BUSY.key 0, F.MBX_STAT_RESULT.key 0] (d.mbxTaken obj index) :=
  (((Within.put d _ _ _).trans (.put _ _ _ _)).trans (.put _ _ _ _)).trans (.onMbx _ _)

/-- What a request that is taken shows. -/
theorem Device.get_mbxTaken (d : Device) (obj index : Nat) :
    ((d.mbxNamed obj index).mbxTaken obj index).get F.MBX_REQ_OBJ = obj % 256 ∧
      ((d.mbxNamed obj index).mbxTaken obj index).get F.MBX_REQ_INDEX = index % 256 ∧
      ((d.mbxNamed obj index).mbxTaken obj index).get F.MBX_STAT_BUSY = 1 ∧
      ((d.mbxNamed obj index).mbxTaken obj index).get F.MBX_STAT_VALID = 0 ∧
      ((d.mbxNamed obj index).mbxTaken obj index).get F.MBX_STAT_RESULT = 0 := by
  have shown (g : Fld) : ((d.mbxNamed obj index).mbxTaken obj index).get g =
      (((((d.put F.MBX_REQ_OBJ 0 obj).put F.MBX_REQ_INDEX 0 index).put F.MBX_STAT_VALID 0 0).put F.MBX_STAT_BUSY 0 1).put
        F.MBX_STAT_RESULT 0 0).get g := get_of_fields rfl g 0
  refine ⟨?_, ?_, ?_, ?_, ?_⟩
  all_goals
    rw [shown]
    simp (disch := decide) only [get_put_apart, get_put]
    rfl

/-- The result of a request shows, and its end. -/
def Device.mbxEnded (d : Device) (result : Nat) : Device :=
  ((d.put F.MBX_STAT_RESULT 0 result).put F.MBX_STAT_BUSY 0 0).event F.MBX_EVT_DONE

theorem Device.mbxFinish_none (d : Device) (result : Nat) : d.mbxFinish result none = (d.onMbx (fun _ => {})).mbxEnded result := rfl

theorem Device.mbxEnded_within (d : Device) (result : Nat) :
    d.Within [] ([F.MBX_STAT_RESULT.key 0, F.MBX_STAT_BUSY.key 0] ++ evKeys F.MBX_EVT_DONE) (d.mbxEnded result) :=
  ((Within.put d _ _ _).trans (.put _ _ _ _)).trans (.event _ _)

theorem Device.mbxEnded_leaves (d : Device) (result : Nat) :
    d.Leaves [F.MBX_STAT_RESULT, F.MBX_STAT_BUSY, F.MBX_EVT_DONE, F.IRQ_STAT_EVT] (d.mbxEnded result) :=
  ((Leaves.put d _ _ _).trans (.put _ _ _ _)).trans (.event _ _ _ _)

theorem Device.get_mbxEnded (d : Device) {result : Nat} (small : result < 16) :
    (d.mbxEnded result).get F.MBX_STAT_RESULT = result ∧ (d.mbxEnded result).get F.MBX_STAT_BUSY = 0 ∧
      (d.mbxEnded result).get F.MBX_EVT_DONE = 1 := by
  refine ⟨?_, ?_, get_event _ _ (by decide) (by decide)⟩
  · rw [mbxEnded, get_event_apart _ (by decide), get_put_apart _ (by decide), get_put]
    exact Nat.mod_eq_of_lt small
  · rw [mbxEnded, get_event_apart _ (by decide), get_put]
    rfl

/-- A write of MBX_REQ for a listed object and index, with the mailbox free. -/
theorem Device.wrMbxReq_known {v : Nat} (go : bit v 31 = true) (named : bits v 15 8 = obj) (at' : bits v 7 0 = index)
    (free : d.is F.MBX_STAT_BUSY = false) (known : mbxUnknown obj index = false) (object : obj < 0x80) :
    d.wrMbxReq v = (d.mbxNamed obj index).mbxTaken obj index := by
  have noKeeper : decide (0x80 ≤ obj) = false := decide_eq_false (by omega)
  have unserved : ((d.mbxNamed obj index).mbxTaken obj index).mbxServe = (d.mbxNamed obj index).mbxTaken obj index := by
    change (if (_ && decide (0x80 ≤ obj)) = true then _ else _) = _
    rw [noKeeper, Bool.and_false]
    rfl
  rw [wrMbxReq_go go named at', free, known, unserved]
  rfl

theorem Device.wrMbxReq_unknown {v : Nat} (go : bit v 31 = true) (named : bits v 15 8 = obj) (at' : bits v 7 0 = index)
    (free : d.is F.MBX_STAT_BUSY = false) (unknown : mbxUnknown obj index = true) (object : obj < 0x80) :
    d.wrMbxReq v = ((d.mbxNamed obj index).put F.MBX_STAT_VALID 0 0).mbxFinish 2 none := by
  rw [wrMbxReq_go go named at', free, unknown, decide_eq_true object]
  rfl

theorem Device.wrMbxReq_busy {v : Nat} (go : bit v 31 = true) (named : bits v 15 8 = obj) (at' : bits v 7 0 = index)
    (busy : d.is F.MBX_STAT_BUSY = true) : d.wrMbxReq v = (d.mbxNamed obj index).put F.MBX_STAT_RESULT 0 4 := by
  rw [wrMbxReq_go go named at', busy]
  rfl

/-! ### The requests -/

section Requests

variable {i : Instr} {s : State} {f : Device → Device}

/-- A request whose BUSY is set already is refused. -/
theorem does_mbxRefused (answer : exec i s = .next (s.on f)) (r : s.Running)
    (run : f s.dev = (s.dev.mbxNamed obj index).put F.MBX_STAT_RESULT 0 4) :
    Does i s [] [F.MBX_REQ_OBJ.key 0, F.MBX_REQ_INDEX.key 0, F.MBX_STAT_RESULT.key 0] (fun d => d.get F.MBX_STAT_RESULT = 4) :=
  does_within answer r run ((s.dev.mbxNamed_within obj index).trans (.put _ _ _ _)) (Device.get_put _ _ _ _)

/-- A request for what the mailbox does not know ends at once. -/
theorem does_mbxUnknown (answer : exec i s = .next (s.on f)) (r : s.Running) {e : Device} (run : f s.dev = e.mbxFinish 2 none)
    (w : s.dev.Within [.mbx] requestKeys e) (valid : e.get F.MBX_STAT_VALID = 0) :
    Does i s [.mbx] (requestKeys ++ evKeys F.MBX_EVT_DONE) (fun d => d.get F.MBX_STAT_RESULT = 2 ∧ d.get F.MBX_STAT_BUSY = 0 ∧
      d.get F.MBX_STAT_VALID = 0 ∧ d.get F.MBX_EVT_DONE = 1 ∧ d.mbx = ({} : Mailbox)) := by
  obtain ⟨result, busy, done⟩ := (e.onMbx (fun _ => {})).get_mbxEnded (result := 2) (by decide)
  refine does_within answer r (run.trans (e.mbxFinish_none 2)) (((w.trans (.onMbx e (fun _ => {}))).trans (Device.mbxEnded_within _ 2)).mono
    (by simp) (by grind [requestKeys])) ⟨result, busy, ?_, done, rfl⟩
  rw [Device.mbxEnded_leaves _ 2 _ (by decide)]
  exact valid

/-- A request that no one serves at once stays in progress. -/
theorem does_mbxTaken (answer : exec i s = .next (s.on f)) (r : s.Running)
    (run : f s.dev = (s.dev.mbxNamed obj index).mbxTaken obj index) :
    Does i s [.mbx] requestKeys (fun d => d.mbx = ({ req := some (obj, index) } : Mailbox) ∧ d.get F.MBX_REQ_OBJ = obj % 256 ∧
      d.get F.MBX_REQ_INDEX = index % 256 ∧ d.get F.MBX_STAT_BUSY = 1 ∧ d.get F.MBX_STAT_VALID = 0 ∧ d.get F.MBX_STAT_RESULT = 0) := by
  have w := (s.dev.mbxNamed_within obj index).trans (Device.mbxTaken_within _ obj index)
  exact does_within answer r run w ⟨rfl, s.dev.get_mbxTaken obj index⟩

end Requests

/-! ### The captures (R113, R250) -/

/-- The data words are written and valid. -/
def Device.mbxData (d : Device) (l : List Word) : Device :=
  ((((d.put F.MBX_DATA_WORD 0 (l.getD 0 0).toNat).put F.MBX_DATA_WORD 1 (l.getD 1 0).toNat).put F.MBX_DATA_WORD 2
    (l.getD 2 0).toNat).put F.MBX_DATA_WORD 3 (l.getD 3 0).toNat).put F.MBX_STAT_VALID 0 1

theorem Device.mbxFinish_some (d : Device) (result : Nat) (l : List Word) :
    d.mbxFinish result (some l) = ((d.onMbx (fun _ => {})).mbxData l).mbxEnded result := rfl

/-- The keys of the data words. -/
def dataKeys : List Nat := [F.MBX_DATA_WORD.key 0, F.MBX_DATA_WORD.key 1, F.MBX_DATA_WORD.key 2, F.MBX_DATA_WORD.key 3]

theorem Device.mbxData_within (d : Device) (l : List Word) : d.Within [] (dataKeys ++ [F.MBX_STAT_VALID.key 0]) (d.mbxData l) :=
  ((((Within.put d _ _ _).trans (.put _ _ _ _)).trans (.put _ _ _ _)).trans (.put _ _ _ _)).trans (.put _ _ _ _)

theorem Device.get_mbxData (d : Device) (l : List Word) (k : Fin 4) :
    (d.mbxData l).get F.MBX_DATA_WORD k = (l.getD k 0).toNat ∧ (d.mbxData l).get F.MBX_STAT_VALID = 1 := by
  refine ⟨?_, get_put _ _ _ _⟩
  unfold mbxData
  fin_cases k
  all_goals
    simp (disch := decide) only [get_put_ne, get_put]
    exact Nat.mod_eq_of_lt (BitVec.isLt _)

/-- A capture that is complete: the four words are written at once, and the request has ended. -/
theorem does_mbxCaptured {s : State} {g : BitVec 24} {l : List Word} (r : s.Running)
    (run : s.dev.mbxCaptureDone g = s.dev.mbxFinish 1 (some l)) :
    Does (.mbxCaptureDone g) s [.mbx] ([F.MBX_DATA_WORD.key 0, F.MBX_DATA_WORD.key 1, F.MBX_DATA_WORD.key 2,
        F.MBX_DATA_WORD.key 3, F.MBX_STAT_VALID.key 0, F.MBX_STAT_RESULT.key 0, F.MBX_STAT_BUSY.key 0] ++ evKeys F.MBX_EVT_DONE)
      (fun d => d.get F.MBX_DATA_WORD 0 = (l.getD 0 0).toNat ∧ d.get F.MBX_DATA_WORD 1 = (l.getD 1 0).toNat ∧
        d.get F.MBX_DATA_WORD 2 = (l.getD 2 0).toNat ∧ d.get F.MBX_DATA_WORD 3 = (l.getD 3 0).toNat ∧ d.get F.MBX_STAT_VALID = 1 ∧
        d.get F.MBX_STAT_RESULT = 1 ∧ d.get F.MBX_STAT_BUSY = 0 ∧ d.get F.MBX_EVT_DONE = 1 ∧ d.mbx = ({} : Mailbox)) := by
  have ended := ((s.dev.onMbx (fun _ => {})).mbxData l).mbxEnded_within 1
  have w := ((Device.Within.onMbx s.dev (fun _ => {})).trans (Device.mbxData_within _ l)).trans ended
  obtain ⟨result, busy, done⟩ := ((s.dev.onMbx (fun _ => {})).mbxData l).get_mbxEnded (result := 1) (by decide)
  have shown := (s.dev.onMbx (fun _ => {})).get_mbxData l
  refine does_within rfl r (run.trans (s.dev.mbxFinish_some 1 l)) w ⟨?_, ?_, ?_, ?_, ?_, result, busy, done, rfl⟩
  · exact (ended.get _ _ (by decide)).trans (shown 0).1
  · exact (ended.get _ _ (by decide)).trans (shown 1).1
  · exact (ended.get _ _ (by decide)).trans (shown 2).1
  · exact (ended.get _ _ (by decide)).trans (shown 3).1
  · exact (ended.get _ _ (by decide)).trans (shown 0).2

/-- The words of a TIME object: the pound, the fraction in the high bits, and the three flags. -/
theorem Device.timeWords_toNat (d : Device) (g : BitVec 24) :
    ((d.timeWords g).getD 0 0).toNat = d.tow.pound.toNat % 2 ^ 32 ∧ ((d.timeWords g).getD 1 0).toNat = d.tow.pound.toNat / 2 ^ 32 ∧
      ((d.timeWords g).getD 2 0).toNat = g.toNat * 256 ∧
      ((d.timeWords g).getD 3 0).toNat = ofBool d.todValid * 4 + ofBool d.towHold * 2 + ofBool d.towAligned := by
  have pound := d.tow.pound.isLt
  have fraction := g.isLt
  have flag (x : Bool) : ofBool x ≤ 1 := by cases x <;> decide
  have valid := flag d.todValid
  have hold := flag d.towHold
  have aligned := flag d.towAligned
  change (d.tow.pound.extractLsb' 0 32).toNat = _ ∧ (d.tow.pound.extractLsb' 32 32).toNat = _ ∧
    (BitVec.ofNat 32 (g.toNat * 2 ^ 8)).toNat = _ ∧ (BitVec.ofNat 32 _).toNat = _
  simp only [BitVec.extractLsb'_toNat, BitVec.toNat_ofNat, Nat.shiftRight_eq_div_pow, pow_zero, Nat.div_one]
  refine ⟨trivial, ?_, ?_, ?_⟩ <;> omega

/-- The request for an object of a core whose clock is stopped ends with RESULT 3. -/
theorem Device.mbxCaptureTimeout_of_stopped {o c : Nat} (req : d.mbx.req = some (o, c)) (object : o = 1 ∨ o = 2)
    (missing : d.mbx.words = none) (stopped : d.loopRuns c = false) (late : 2 ≤ d.mbx.pounds ∨ d.tow.running = false) :
    d.mbxCaptureTimeout = d.mbxFinish 3 none := by
  unfold mbxCaptureTimeout
  rw [req]
  obtain rfl | rfl := object <;> simp [missing, stopped, late]

/-- A Keeper's request is served, or waits for the Keeper. -/
theorem Device.mbxServe_unknown (unknown : mbxUnknown obj index = true) (keeper : 0x80 ≤ obj) (e : Device)
    (req : e.mbx.req = some (obj, index)) : e.mbxServe = if e.keeperRuns then e.mbxFinish 2 none else e := by
  have beyond : 0x85 ≤ obj := by
    have plain : ¬(obj = 1 ∨ obj = 2) := by omega
    have stored : ¬(obj = 0x10 ∨ obj = 0x11 ∨ obj = 0x12) := by omega
    rw [mbxUnknown, if_neg plain, if_neg stored, decide_eq_true keeper] at unknown
    simpa using unknown
  unfold mbxServe
  rw [req]
  simp [keeper, beyond]

theorem Device.keeperRuns_mbxTaken (d : Device) (obj index : Nat) :
    ((d.mbxNamed obj index).mbxTaken obj index).keeperRuns = d.keeperRuns := by
  have w := (d.mbxNamed_within obj index).trans (mbxTaken_within _ obj index)
  unfold keeperRuns is
  rw [w.get _ _ (by decide), w.parts .kpr (by decide)]

/-- A request with GO for a Keeper command that the mailbox does not know. -/
theorem Device.wrMbxReq_keeper {v : Nat} (go : bit v 31 = true) (named : bits v 15 8 = obj) (at' : bits v 7 0 = index)
    (free : d.is F.MBX_STAT_BUSY = false) (unknown : mbxUnknown obj index = true) (keeper : 0x80 ≤ obj) :
    d.wrMbxReq v = if d.keeperRuns then ((d.mbxNamed obj index).mbxTaken obj index).mbxFinish 2 none
      else (d.mbxNamed obj index).mbxTaken obj index := by
  have served := mbxServe_unknown unknown keeper ((d.mbxNamed obj index).mbxTaken obj index) rfl
  rw [keeperRuns_mbxTaken] at served
  rw [wrMbxReq_go go named at', free, unknown, decide_eq_false (Nat.not_lt.mpr keeper), ← served]
  rfl

/-! ### The objects (R328) -/

section Objects

variable {i : Instr} {s : State} {x : Byte}

/-- A request for an object at an index it has. -/
theorem does_objectTaken (answer : exec i s = .next (s.on (·.wrMbxReq (mbxWord obj x)))) (r : s.Running) (small : obj < 128)
    (known : mbxUnknown obj x.toNat = false) (free : s.dev.is F.MBX_STAT_BUSY = false) :
    Does i s [.mbx] requestKeys (fun d => d.mbx = ({ req := some (obj, x.toNat) } : Mailbox) ∧ d.get F.MBX_REQ_OBJ = obj ∧
      d.get F.MBX_REQ_INDEX = x.toNat ∧ d.get F.MBX_STAT_BUSY = 1 ∧ d.get F.MBX_STAT_VALID = 0 ∧ d.get F.MBX_STAT_RESULT = 0) := by
  obtain ⟨go, named, at'⟩ := mbxWord_bits small x
  have taken := does_mbxTaken answer r (Device.wrMbxReq_known go named at' free known small)
  rwa [Nat.mod_eq_of_lt x.isLt, Nat.mod_eq_of_lt (by omega : obj < 256)] at taken

/-- A request while another is in progress. -/
theorem does_objectRefused (answer : exec i s = .next (s.on (·.wrMbxReq (mbxWord obj x)))) (r : s.Running) (small : obj < 128)
    (busy : s.dev.is F.MBX_STAT_BUSY = true) :
    Does i s [] [F.MBX_REQ_OBJ.key 0, F.MBX_REQ_INDEX.key 0, F.MBX_STAT_RESULT.key 0] (fun d => d.get F.MBX_STAT_RESULT = 4) := by
  obtain ⟨go, named, at'⟩ := mbxWord_bits small x
  exact does_mbxRefused answer r (Device.wrMbxReq_busy go named at' busy)

/-- A request that names what no table lists, written as the word v. -/
theorem does_wordUnknown {index v : Nat} {f : Device → Device} (answer : exec i s = .next (s.on f)) (r : s.Running)
    (run : f s.dev = s.dev.wrMbxReq v) (go : bit v 31 = true) (named : bits v 15 8 = obj) (at' : bits v 7 0 = index)
    (free : s.dev.is F.MBX_STAT_BUSY = false) (unknown : mbxUnknown obj index = true) (small : obj < 0x80) :
    Does i s [.mbx] (requestKeys ++ evKeys F.MBX_EVT_DONE) (fun d => d.get F.MBX_STAT_RESULT = 2 ∧ d.get F.MBX_STAT_BUSY = 0 ∧
      d.get F.MBX_STAT_VALID = 0 ∧ d.get F.MBX_EVT_DONE = 1 ∧ d.mbx = ({} : Mailbox)) := by
  have w := (s.dev.mbxNamed_within obj index).trans (.put _ F.MBX_STAT_VALID 0 0)
  exact does_mbxUnknown answer r (run.trans (Device.wrMbxReq_unknown go named at' free unknown small))
    (w.mono (by simp) (by grind [requestKeys])) (Device.get_put _ _ _ _)

theorem does_objectUnknown (answer : exec i s = .next (s.on (·.wrMbxReq (mbxWord obj x)))) (r : s.Running) (small : obj < 128)
    (unknown : mbxUnknown obj x.toNat = true) (free : s.dev.is F.MBX_STAT_BUSY = false) :
    Does i s [.mbx] (requestKeys ++ evKeys F.MBX_EVT_DONE) (fun d => d.get F.MBX_STAT_RESULT = 2 ∧ d.get F.MBX_STAT_BUSY = 0 ∧
      d.get F.MBX_STAT_VALID = 0 ∧ d.get F.MBX_EVT_DONE = 1 ∧ d.mbx = ({} : Mailbox)) := by
  obtain ⟨go, named, at'⟩ := mbxWord_bits small x
  exact does_wordUnknown answer r rfl go named at' free unknown small

end Objects

/-- The row of a request for what no table lists writes its word with GO. -/
theorem unknownRow {d : Device} {v : Word} (unknown : mbxUnknown (bits v.toNat 15 8) (bits v.toNat 7 0) = true) :
    (if mbxUnknown (bits v.toNat 15 8) (bits v.toNat 7 0) then d.wrMbxReq (setBit v.toNat 31) else d) =
      d.wrMbxReq (setBit v.toNat 31) := if_pos unknown

/-- Settles O22: a request is taken, refused or ended at once as BUSY and the tables have it, and a capture or its timeout is one end of the
request in progress. -/
theorem mailboxRequests : Obligations.MailboxRequests := by
  unfold Obligations.MailboxRequests
  refine ⟨?_, ?_, ?_, ?_, ?_, ?_, ?_, ?_, ?_, ?_, ?_, ?_, ?_, ?_, ?_, ?_, ?_, ?_, ?_, ?_, ?_, ?_, ?_, ?_⟩
  · exact fun s x r index free => does_objectTaken rfl r (by decide) (by simpa [mbxUnknown] using index) free
  · exact fun s x r busy => does_objectRefused rfl r (by decide) busy
  · exact fun s x r index free => does_objectUnknown rfl r (by decide) (by simpa [mbxUnknown] using index) free
  · exact fun s x r index free => does_objectTaken rfl r (by decide) (by simpa [mbxUnknown] using index) free
  · exact fun s x r busy => does_objectRefused rfl r (by decide) busy
  · exact fun s x r index free => does_objectUnknown rfl r (by decide) (by simpa [mbxUnknown] using index) free
  · exact fun s x r index free => does_objectTaken rfl r (by decide) (by simpa [mbxUnknown] using index) free
  · exact fun s x r busy => does_objectRefused rfl r (by decide) busy
  · exact fun s x r index free => does_objectUnknown rfl r (by decide) (by simpa [mbxUnknown] using index) free
  · exact fun s x r index free => does_objectTaken rfl r (by decide) (by simpa [mbxUnknown] using index) free
  · exact fun s x r busy => does_objectRefused rfl r (by decide) busy
  · exact fun s x r index free => does_objectUnknown rfl r (by decide) (by simpa [mbxUnknown] using index) free
  · exact fun s x r index free => does_objectTaken rfl r (by decide) (by simpa [mbxUnknown] using index) free
  · exact fun s x r busy => does_objectRefused rfl r (by decide) busy
  · exact fun s x r index free => does_objectUnknown rfl r (by decide) (by simpa [mbxUnknown] using index) free
  · intro s v r unknown object free
    obtain ⟨named, at'⟩ := setBit_31_bits v.toNat
    exact does_wordUnknown rfl r (unknownRow unknown) (bit_setBit_31 _) named at' free unknown object
  · intro s v r unknown keeper free runs
    obtain ⟨named, at'⟩ := setBit_31_bits v.toNat
    have run := (unknownRow unknown).trans (Device.wrMbxReq_keeper (d := s.dev) (bit_setBit_31 _) named at' free unknown keeper)
    rw [runs] at run
    have w := (s.dev.mbxNamed_within (bits v.toNat 15 8) (bits v.toNat 7 0)).trans
      (Device.mbxTaken_within _ (bits v.toNat 15 8) (bits v.toNat 7 0))
    obtain ⟨-, -, -, valid, -⟩ := s.dev.get_mbxTaken (bits v.toNat 15 8) (bits v.toNat 7 0)
    exact does_mbxUnknown rfl r run (w.mono (by simp) (by grind [requestKeys])) valid
  · intro s v r unknown keeper free rests
    obtain ⟨named, at'⟩ := setBit_31_bits v.toNat
    have run := (unknownRow unknown).trans (Device.wrMbxReq_keeper (d := s.dev) (bit_setBit_31 _) named at' free unknown keeper)
    rw [rests] at run
    obtain ⟨t, answer, pending, parts, regs, mbx, -, -, busy, valid, result⟩ := does_mbxTaken (i := .mbxUnknownObject v) rfl r run
    exact ⟨t, answer, pending, parts, regs, result, busy, valid, mbx⟩
  · intro s v r unknown busy
    obtain ⟨named, at'⟩ := setBit_31_bits v.toNat
    exact does_mbxRefused rfl r ((unknownRow unknown).trans (Device.wrMbxReq_busy (bit_setBit_31 _) named at' busy))
  · intro s g r req running
    have run : s.dev.mbxCaptureDone g = s.dev.mbxFinish 1 (some (s.dev.timeWords g)) := by
      simp [Device.mbxCaptureDone, req, running]
    obtain ⟨w0, w1, w2, w3⟩ := s.dev.timeWords_toNat g
    obtain ⟨t, answer, pending, parts, regs, d0, d1, d2, d3, valid, result, busy, done, mbx⟩ := does_mbxCaptured r run
    exact ⟨t, answer, pending, parts, regs, d0.trans w0, d1.trans w1, d2.trans w2, d3.trans w3, valid, result, busy, done,
      congrArg (·.req) mbx⟩
  · intro s g o c w0 w1 w2 w3 r req object words
    have run : s.dev.mbxCaptureDone g = s.dev.mbxFinish 1 (some [w0, w1, w2, w3]) := by
      obtain rfl | rfl := object <;> simp [Device.mbxCaptureDone, req, words]
    obtain ⟨t, answer, pending, parts, regs, d0, d1, d2, d3, valid, result, busy, -⟩ := does_mbxCaptured r run
    exact ⟨t, answer, pending, parts, regs, d0, d1, d2, d3, valid, result, busy⟩
  · exact fun s g r req running => does_mbxCaptured r (by simp [Device.mbxCaptureDone, req, running])
  · exact fun s g r req runs => does_mbxCaptured r (by simp [Device.mbxCaptureDone, req, runs])
  · intro s o c r req object missing stopped late
    have ended := (s.dev.onMbx (fun _ => {})).mbxEnded_within 3
    obtain ⟨result, busy, done⟩ := (s.dev.onMbx (fun _ => {})).get_mbxEnded (result := 3) (by decide)
    exact does_within rfl r (Device.mbxCaptureTimeout_of_stopped req object missing stopped late)
      ((Device.Within.onMbx s.dev (fun _ => {})).trans ended) ⟨result, busy, done, rfl⟩

end Sys2Proof.Machine
end

section
/-! What an operation at one core leaves elsewhere, and the end of a core's boundary: tracking step, monitor sample and capture (R99, R102-R104,
R107, R113). -/

namespace Sys2Proof.Machine

variable {a b d : Device}

/-! ### Operations at one core -/

/-- From a to b, for core c: only the parts `ps`, register fields on the pages `pages`, and no other core change. -/
structure Device.AtCore (c : Nat) (ps : List Part) (pages : List Nat) (a b : Device) : Prop where
  parts : a.KeepsParts ps b
  regs : a.KeepsPages pages b
  others : a.KeepsCores c b

/-- A register field of the cores: one copy on the page of each. -/
def Fld.ofCore (f : Fld) : Bool := decide (f.base / 0x1000 = 0x10) && decide (f.lo < 32) && decide (f.shape = .page 16)

theorem pageOfKey_ofCore {f : Fld} (h : f.ofCore = true) (c : Fin 16) : pageOfKey (f.key c) = 0x10 + c := by
  have := c.isLt
  obtain ⟨base, hi, lo, acc, shape, reset, cfg⟩ := f
  simp only [Fld.ofCore, Bool.and_eq_true, decide_eq_true_eq] at h
  obtain ⟨⟨page, low⟩, rfl⟩ := h
  simp only [pageOfKey, Fld.key, Fld.addr, Shape.addr]
  omega

theorem pageOfKey_irq {p : Nat} (h : p < 0x1000) : pageOfKey (F.IRQ_STAT_EVT.key p) = p := by
  simp only [pageOfKey, Fld.key, Fld.addr, Shape.addr, F.IRQ_STAT_EVT]
  omega

theorem page_ofCore {f : Fld} (h : f.ofCore = true) (c : Fin 16) : f.page c = 0x10 + c := by
  have := c.isLt
  obtain ⟨base, hi, lo, acc, shape, reset, cfg⟩ := f
  simp only [Fld.ofCore, Bool.and_eq_true, decide_eq_true_eq] at h
  obtain ⟨⟨page, low⟩, rfl⟩ := h
  simp only [Fld.page, Fld.addr, Shape.addr]
  omega

namespace Device.AtCore

variable {c : Nat} {ps ps' : List Part} {pages pages' : List Nat} {e : Device}

theorem refl (d : Device) : d.AtCore c ps pages d := ⟨.refl _ d, fun _ _ => rfl, .of_cores rfl⟩

theorem trans (h : a.AtCore c ps pages b) (k : b.AtCore c ps' pages' e) : a.AtCore c (ps ++ ps') (pages ++ pages') e where
  parts := h.parts.trans k.parts
  regs := fun x hx => (k.regs x (fun y => hx (List.mem_append_right _ y))).trans (h.regs x (fun y => hx (List.mem_append_left _ y)))
  others := h.others.trans k.others

theorem mono (h : a.AtCore c ps pages b) (hp : ∀ p, p ∈ ps → p ∈ ps') (hg : ∀ g, g ∈ pages → g ∈ pages') : a.AtCore c ps' pages' b where
  parts := h.parts.mono hp
  regs := fun x hx => h.regs x (fun y => hx (hg _ y))
  others := h.others

/-- Two operations within the same bounds are within them together. -/
theorem andThen (h : a.AtCore c ps pages b) (k : b.AtCore c ps pages e) : a.AtCore c ps pages e :=
  (h.trans k).mono (by simp) (by simp)

theorem of_within {ks : List Nat} (h : a.Within ps ks b) (onPages : ∀ k ∈ ks, pageOfKey k ∈ pages) (others : a.KeepsCores c b) :
    a.AtCore c ps pages b :=
  ⟨h.parts, fun x hx => h.regs x (fun y => hx (onPages x y)), others⟩

theorem onCore (d : Device) (f : Core → Core) : d.AtCore c [.cores] [] (d.onCore c f) :=
  of_within (Within.onCore d c f) (fun _ hk => nomatch hk) (.onCore d f)

theorem put {i : Fin 16} (d : Device) {f : Fld} (v : Nat) (h : f.ofCore = true := by decide) : d.AtCore i [] [0x10 + i] (d.put f i v) :=
  of_within (Within.put d f i v) (by simp [pageOfKey_ofCore h]) (.put d f i v)

theorem event {i : Fin 16} (d : Device) {f : Fld} (h : f.ofCore = true := by decide) : d.AtCore i [] [0x10 + i] (d.event f i) := by
  have low : 0x10 + (i : Nat) < 0x1000 := by omega
  exact of_within (Within.eventBit d f i 0) (by simp [evKeys, pageOfKey_ofCore h, page_ofCore h, pageOfKey_irq low]) (.event d f i)

theorem report (d : Device) (cls src code reporter : Nat) : d.AtCore c [.flt] [0xA] (d.report cls src code reporter) :=
  of_within (Within.report d cls src code reporter) (by decide) (.report d _ _ _ _)

end Device.AtCore

/-! ### What a core keeps at the end of its boundary -/

/-- From a to b a core keeps its settings, its target and its marks: a free target that is not to be taken from q stays. -/
structure Core.EndsAs (a b : Core) : Prop where
  set : b.set = a.set
  phi : b.phi = a.phi
  f : b.f = a.f
  berth : b.berth = a.berth
  hasU : b.hasU = a.hasU
  intMode : b.intMode = a.intMode
  applyAt : b.applyAt = a.applyAt
  tune : b.tune = a.tune
  starts : b.starts = a.starts
  blank : b.blank = a.blank
  hopTarget : b.hopTarget = a.hopTarget
  u : a.uFromQ = false → b.u = a.u ∧ b.uFromQ = false

theorem Core.EndsAs.refl (k : Core) : k.EndsAs k := ⟨rfl, rfl, rfl, rfl, rfl, rfl, rfl, rfl, rfl, rfl, rfl, fun h => ⟨rfl, h⟩⟩

theorem Core.EndsAs.trans {x y z : Core} (h : x.EndsAs y) (k : y.EndsAs z) : x.EndsAs z where
  set := k.set.trans h.set
  phi := k.phi.trans h.phi
  f := k.f.trans h.f
  berth := k.berth.trans h.berth
  hasU := k.hasU.trans h.hasU
  intMode := k.intMode.trans h.intMode
  applyAt := k.applyAt.trans h.applyAt
  tune := k.tune.trans h.tune
  starts := k.starts.trans h.starts
  blank := k.blank.trans h.blank
  hopTarget := k.hopTarget.trans h.hopTarget
  u := fun q => ⟨(k.u (h.u q).2).1.trans (h.u q).1, (k.u (h.u q).2).2⟩

theorem Core.EndsAs.ite {k a b : Core} {x : Prop} [Decidable x] (h : k.EndsAs a) (h' : k.EndsAs b) : k.EndsAs (if x then a else b) := by
  split
  · exact h
  · exact h'

theorem Core.freeTarget_endsAs (k : Core) : k.EndsAs k.freeTarget := by
  unfold freeTarget
  split
  · next fromQ => exact ⟨rfl, rfl, rfl, rfl, rfl, rfl, rfl, rfl, rfl, rfl, rfl, fun h => absurd (fromQ.symm.trans h) (by decide)⟩
  · exact .refl k

/-! ### The end of a boundary -/

/-- The fields that the end of a boundary changes. -/
def endFields : List Fld :=
  [F.LOOP_TRACK_CNT_STEPS, F.LOOP_STAT_HOLD, F.LOOP_STAT_TRACKING, F.LOOP_STAT_ALIGNED, F.COUT_TWIN_STAT_READY,
    F.COUT_RETUNE_EVT_RETUNE_DONE, F.IRQ_STAT_EVT, F.LOOP_MON_RAW_RAW]

/-- From a to b core c ends its boundary, or begins a hold. -/
structure Device.Ends (c : Fin 16) (a b : Device) : Prop where
  at' : a.AtCore c [.cores, .mbx] [0x10 + c, 0x20] b
  leaves : a.Leaves endFields b
  core : (a.core c).EndsAs (b.core c)

namespace Device.Ends

variable {c : Fin 16} {e : Device}

theorem refl (d : Device) : d.Ends c d := ⟨.refl d, .of_fields rfl, .refl _⟩

theorem trans (h : a.Ends c b) (k : b.Ends c e) : a.Ends c e :=
  ⟨h.at'.andThen k.at', (h.leaves.trans k.leaves).mono (by simp), h.core.trans k.core⟩

theorem ite {x : Prop} [Decidable x] (h : d.Ends c a) (k : d.Ends c b) : d.Ends c (if x then a else b) := by
  split
  · exact h
  · exact k

theorem when {x : Bool} {f : Device → Device} (h : ∀ d : Device, d.Ends c (f d)) : d.Ends c (d.when x f) := ite (h d) (refl d)

theorem get (h : a.Ends c b) (f : Fld) (i : Nat) (hf : endFields.all f.apart = true := by decide) : b.get f i = a.get f i := h.leaves f hf i

theorem onCore (d : Device) (f : Core → Core) (h : ∀ k : Core, k.EndsAs (f k)) : d.Ends c (d.onCore c f) where
  at' := (AtCore.onCore d f).mono (by simp) (by simp)
  leaves := .of_fields rfl
  core := (d.core_onCore_self c f).symm ▸ h _

theorem put (d : Device) (f : Fld) (v : Nat) (h : f ∈ endFields) (page : f.ofCore = true := by decide) : d.Ends c (d.put f c v) where
  at' := (AtCore.put d v page).mono (by simp) (by simp)
  leaves := (Leaves.put d f c v).mono (by simpa using h)
  core := .refl _

end Device.Ends

theorem alignKeys_pages : ∀ c : Fin 16, ∀ k ∈ alignKeys c, pageOfKey k ∈ [0x10 + c.val, 0x20] := by
  decide

theorem Device.refreshAligned_ends (d : Device) (c : Fin 16) : d.Ends c (d.refreshAligned c) := by
  obtain ⟨others, retuning, lossPark, presetPark, core⟩ := d.core_refreshAligned c
  have w := (d.refreshAligned_within c).mono (ps' := [.cores, .mbx]) (by simp) (fun _ hk => hk)
  refine ⟨.of_within w (alignKeys_pages c) others, (d.refreshAligned_leaves c).mono (by simp [endFields]), ?_⟩
  rw [core]
  exact ⟨rfl, rfl, rfl, rfl, rfl, rfl, rfl, rfl, rfl, rfl, rfl, fun h => ⟨rfl, h⟩⟩

theorem Device.startHold_ends (d : Device) (c : Fin 16) : d.Ends c (d.startHold c) :=
  (Ends.put d F.LOOP_STAT_HOLD 1 (by simp [endFields])).trans
    (.onCore _ _ fun _ => ⟨rfl, rfl, rfl, rfl, rfl, rfl, rfl, rfl, rfl, rfl, rfl, fun h => ⟨rfl, h⟩⟩)

theorem Core.divided_endsAs (k : Core) (acc1 cA cB : Nat) (bSync : Bool) : k.EndsAs { k with acc1, cA, bSync, cB } :=
  ⟨rfl, rfl, rfl, rfl, rfl, rfl, rfl, rfl, rfl, rfl, rfl, fun h => ⟨rfl, h⟩⟩

theorem Core.correct_eq (k : Core) (s : Nat) (inj : Int) :
    ∃ (acc1 cA cB : Nat) (bSync : Bool), k.correct s inj = { k with acc1, cA, bSync, cB } := ⟨_, _, _, _, rfl⟩

theorem Core.correct_endsAs (k : Core) (s : Nat) (inj : Int) : k.EndsAs (k.correct s inj) := by
  obtain ⟨acc1, cA, cB, bSync, corrected⟩ := k.correct_eq s inj
  rw [corrected]
  exact k.divided_endsAs acc1 cA cB bSync

theorem Core.tracked_endsAs (k : Core) (since : Nat) (gateSteady : Bool) : k.EndsAs { k with tracked := true, since, gateSteady } :=
  ⟨rfl, rfl, rfl, rfl, rfl, rfl, rfl, rfl, rfl, rfl, rfl, fun h => ⟨rfl, h⟩⟩

theorem Core.shown_endsAs (k : Core) (qNow lastT : Nat) (lastD : Int) : k.EndsAs { k with qNow, lastT, lastD } :=
  ⟨rfl, rfl, rfl, rfl, rfl, rfl, rfl, rfl, rfl, rfl, rfl, fun h => ⟨rfl, h⟩⟩

theorem Core.seen_endsAs (k : Core) (tau : Int) : k.EndsAs (k.seen tau) := k.shown_endsAs _ _ _

theorem Device.Ends.setCore {c : Fin 16} {k : Core} (h : (d.core c).EndsAs k) : d.Ends c (d.setCore c k) where
  at' := (AtCore.onCore d (fun _ => k)).mono (by simp) (by simp)
  leaves := .of_fields rfl
  core := by
    rw [show (d.setCore c k).core c = k from d.core_onCore_self c (fun _ => k)]
    exact h

/-- A tracking step: divider and modulator are corrected, steps counted, a hold perhaps begun; TRACKING and ALIGNED follow. -/
theorem Device.track_ends (d : Device) (c : Fin 16) : d.Ends c (d.track c) := by
  unfold track
  extract_lets tau
  split
  next k first tracks =>
    have target : (d.core c).EndsAs k := (d.core c).freeTarget_endsAs.trans (Core.seen_endsAs _ tau)
    split
    next w steps parts =>
    extract_lets s inj big k₁ k' d₁ d₂ d₃
    have h₁ : d.Ends c d₁ := .setCore ((target.trans (k.correct_endsAs s inj)).trans (k₁.tracked_endsAs _ _))
    have h₂ : d₁.Ends c d₂ := .when fun d => .put d F.LOOP_TRACK_CNT_STEPS _ (by simp [endFields])
    have h₃ : d₂.Ends c d₃ := .when fun d => d.startHold_ends c
    exact (((h₁.trans h₂).trans h₃).trans (.put _ F.LOOP_STAT_TRACKING 1 (by simp [endFields]))).trans (refreshAligned_ends _ c)
  · have seen : d.Ends c (d.onCore c (fun k => k.seen tau)) := .onCore d _ fun k => k.seen_endsAs tau
    exact (seen.trans (.put _ F.LOOP_STAT_TRACKING 0 (by simp [endFields]))).trans (refreshAligned_ends _ c)

/-- The samples of a realignment are taken apart from the average. -/
theorem Core.sampled_endsAs (k : Core) (raSum : Int) (raCount : Nat) : k.EndsAs { k with raSum, raCount } :=
  ⟨rfl, rfl, rfl, rfl, rfl, rfl, rfl, rfl, rfl, rfl, rfl, fun h => ⟨rfl, h⟩⟩

theorem Core.averaged_endsAs (k : Core) (avgSum : Int) (avgCount : Nat) : k.EndsAs { k with avgSum, avgCount } :=
  ⟨rfl, rfl, rfl, rfl, rfl, rfl, rfl, rfl, rfl, rfl, rfl, fun h => ⟨rfl, h⟩⟩

theorem Core.read_endsAs (k : Core) : k.EndsAs { k with raw := none } :=
  ⟨rfl, rfl, rfl, rfl, rfl, rfl, rfl, rfl, rfl, rfl, rfl, fun h => ⟨rfl, h⟩⟩

theorem Device.monitorSample_ends (d : Device) (c : Fin 16) : d.Ends c (d.monitorSample c) := by
  unfold monitorSample
  split
  · exact .refl d
  · extract_lets d₁
    have taken : d.Ends c d₁ := .onCore d _ Core.read_endsAs
    split
    next time d₂ samples =>
      have shown : d₁.Ends c d₂ := .put d₁ F.LOOP_MON_RAW_RAW time (by simp [endFields])
      refine taken.trans (shown.trans (.ite (.refl d₂) (.onCore d₂ _ fun k => ?_)))
      extract_lets e k₂
      have realigns : k.EndsAs k₂ := .ite (k.sampled_endsAs _ _) (.refl k)
      exact realigns.trans (.ite (k₂.averaged_endsAs _ _) (.refl k₂))
    · exact taken

theorem Device.captureCore_ends (d : Device) (c : Fin 16) : d.Ends c (d.captureCore c) := by
  have captured (m : Mailbox) : d.Ends c (d.onMbx (fun _ => m)) :=
    ⟨.of_within ((Within.onMbx d _).mono (by simp) (fun _ hk => hk)) (fun _ hk => nomatch hk) (.of_cores rfl), .of_fields rfl, .refl _⟩
  unfold captureCore
  split
  · exact .ite (captured _) (.refl d)
  · exact .refl d

theorem Device.endCore_ends (d : Device) (c : Fin 16) : d.Ends c (d.endCore c) :=
  ((d.track_ends c).trans (monitorSample_ends _ c)).trans (captureCore_ends _ c)

end Sys2Proof.Machine
end

section
/-! New settings come into force at a core: what they change, and in which band the core goes on (R84, R87, R92, R118, R119, R128). -/

namespace Sys2Proof.Machine

variable {a b d : Device}

/-! ### The dividers and the modulator take settings (R84, R86, R135) -/

theorem Device.Within.forEach_mem {α : Type} {ps : List Part} {ks : List Nat} {l : List α} {f : α → Device → Device}
    (hf : ∀ x ∈ l, ∀ d : Device, d.Within ps ks (f x d)) : d.Within ps ks (Machine.forEach l f d) := by
  unfold Machine.forEach
  induction l generalizing d with
  | nil => exact refl d
  | cons x t ih => exact (hf x (List.mem_cons_self ..) d).andThen (ih fun y hy => hf y (List.mem_cons_of_mem _ hy))

/-- The keys of the duty locks of the outputs. -/
def dutyKeys : List Nat := (List.range 32).map F.COUT_STAT_DCC_LOCK.key

theorem dutyKeys_page : ∀ k ∈ dutyKeys, pageOfKey k = 0x21 := by
  decide

theorem Device.dccRetune_within (d : Device) (c : Nat) (old : Settings) : d.Within [] dutyKeys (d.dccRetune c old) := by
  unfold dccRetune
  exact .forEach_mem fun n hn d => .when fun d => (Within.put d _ n 0).mono (fun _ hp => hp)
    (fun _ hk => List.mem_singleton.mp hk ▸ List.mem_map_of_mem hn)

/-- The keys of the fields that change with the settings. -/
def settingsKeys (c : Nat) : List Nat := [F.LOOP_STAT_INT_ACTIVE.key c, F.LOOP_TRIM_TAU.key c] ++ dutyKeys

/-- A core takes settings, before the trim and the duty corrections follow. -/
def Device.settingsTaken (d : Device) (c : Nat) (s : Settings) (int start : Bool) : Device :=
  (d.onCore c (fun k => k.take s int (d.is F.LOOP_CTRL_DITHER c) (d.is F.LOOP_CTRL_B_FOLLOW c) start)).putB F.LOOP_STAT_INT_ACTIVE c int

theorem Device.settingsTaken_within (d : Device) (c : Nat) (s : Settings) (int start : Bool) :
    d.Within [.cores] [F.LOOP_STAT_INT_ACTIVE.key c] (d.settingsTaken c s int start) := (Within.onCore d c _).trans (.putB _ _ _ _)

theorem Device.settingsFollowed_within (d : Device) (c : Nat) (old : Settings) :
    d.Within [] (settingsKeys c) ((d.addTrim c 0).dccRetune c old) :=
  ((d.addTrim_within c 0).trans (dccRetune_within _ c old)).mono (by simp) (by simp +contextual [settingsKeys])

theorem Device.newSettings_eq (d : Device) (c : Nat) (s : Settings) (int start : Bool) :
    d.newSettings c s int start = ((d.settingsTaken c s int start).addTrim c 0).dccRetune c (d.core c).set := rfl

theorem Device.newSettings_within (d : Device) (c : Nat) (s : Settings) (int start : Bool) :
    d.Within [.cores] (settingsKeys c) (d.newSettings c s int start) :=
  ((d.settingsTaken_within c s int start).trans (settingsFollowed_within _ c _)).mono (by simp) (by simp [settingsKeys])

theorem Device.core_newSettings (d : Device) (c : Nat) (s : Settings) (int start : Bool) :
    d.KeepsCores c (d.newSettings c s int start) ∧ (d.newSettings c s int start).core c =
      (d.core c).take s int (d.is F.LOOP_CTRL_DITHER c) (d.is F.LOOP_CTRL_B_FOLLOW c) start := by
  have followed := (d.settingsTaken c s int start).settingsFollowed_within c (d.core c).set
  rw [newSettings_eq]
  refine ⟨((KeepsCores.onCore d _).trans (.put _ _ _ _)).trans (.within followed), ?_⟩
  rw [followed.core, settingsTaken, core_putB, core_onCore_self]

/-- What a core keeps at a load whose settings and target stand: its trajectory, its marks, and a free target that is not to be taken
from q. -/
structure Core.LoadsAs (a b : Core) : Prop where
  set : b.set = a.set
  intMode : b.intMode = a.intMode
  phi : b.phi = a.phi
  f : b.f = a.f
  berth : b.berth = a.berth
  hasU : b.hasU = a.hasU
  applyAt : b.applyAt = a.applyAt
  hopTarget : b.hopTarget = a.hopTarget
  u : a.uFromQ = false → b.u = a.u ∧ b.uFromQ = false

namespace Core.LoadsAs

variable {x y z : Core}

theorem refl (k : Core) : k.LoadsAs k := ⟨rfl, rfl, rfl, rfl, rfl, rfl, rfl, rfl, fun h => ⟨rfl, h⟩⟩

theorem trans (h : x.LoadsAs y) (k : y.LoadsAs z) : x.LoadsAs z where
  set := k.set.trans h.set
  intMode := k.intMode.trans h.intMode
  phi := k.phi.trans h.phi
  f := k.f.trans h.f
  berth := k.berth.trans h.berth
  hasU := k.hasU.trans h.hasU
  applyAt := k.applyAt.trans h.applyAt
  hopTarget := k.hopTarget.trans h.hopTarget
  u := fun q => ⟨(k.u (h.u q).2).1.trans (h.u q).1, (k.u (h.u q).2).2⟩

end Core.LoadsAs

theorem Core.EndsAs.loadsAs {x y : Core} (h : x.EndsAs y) : x.LoadsAs y :=
  ⟨h.set, h.intMode, h.phi, h.f, h.berth, h.hasU, h.applyAt, h.hopTarget, h.u⟩

/-- Only the dividers and the modulator change with the settings. -/
theorem Core.take_eq (k : Core) (s : Settings) (int dith follow start : Bool) :
    ∃ (acc1 acc2 acc3 acc4 cA cB : Nat) (bSync : Bool) (carries : Carries), k.take s int dith follow start =
      { k with acc1, acc2, acc3, acc4, cA, cB, bSync, carries, intMode := int, dither := dith, bFollow := follow, set := s,
               gateSteady := false } := by
  unfold take
  extract_lets resc restart k'
  split
  · exact ⟨_, _, _, _, _, _, _, _, rfl⟩
  · exact ⟨_, _, _, _, _, _, _, _, rfl⟩

theorem Core.take_loadsAs (k : Core) (s : Settings) (int dith follow start : Bool) :
    Core.LoadsAs { k with set := s, intMode := int } (k.take s int dith follow start) := by
  obtain ⟨acc1, acc2, acc3, acc4, cA, cB, bSync, carries, taken⟩ := k.take_eq s int dith follow start
  rw [taken]
  exact ⟨rfl, rfl, rfl, rfl, rfl, rfl, rfl, rfl, fun h => ⟨rfl, h⟩⟩

/-! ### What a load reads of a core -/

/-- The registers of a core that decide what a load makes of it. -/
def loadReads : List Fld :=
  [F.LOOP_STAT_STATE, F.LOOP_STAT_TANK, F.LOOP_STAT_BAND, F.LOOP_STAT_LOCK, F.LOOP_STAT_BAND_SEARCH, F.LOOP_STAT_TUNE_EDGE,
    F.LOOP_CTRL_TANK_PREF, F.LOOP_CTRL_INT_MODE, F.LOOP_BAND_CTRL_MANUAL, F.LOOP_BAND_CTRL_TANK, F.LOOP_BAND_CTRL_BAND,
    F.LOOP_MOD_HI_MOD, F.LOOP_MOD_LO_MOD, F.LOOP_OUTDIV_DIV_A, F.LOOP_OUTDIV_DIV_B, F.LOOP_N_INT_N_INT, F.LOOP_NUM_HI_NUM,
    F.LOOP_NUM_LO_NUM]

theorem loadReads_ofCore : ∀ f ∈ loadReads, f.ofCore = true := by
  decide

/-- A load finds the same at core c of b as of a: registers, band map and temperature. -/
structure Device.LoadAlike (c : Nat) (a b : Device) : Prop where
  regs : ∀ f ∈ loadReads, b.get f c = a.get f c
  mapEn : b.get F.COUT_BANDMAP_CTRL_MAP_EN = a.get F.COUT_BANDMAP_CTRL_MAP_EN
  tempComp : b.get F.COUT_BANDMAP_CTRL_TEMP_COMP = a.get F.COUT_BANDMAP_CTRL_TEMP_COMP
  temp : b.get F.SYS_TEMP_NOW = a.get F.SYS_TEMP_NOW
  bandMap : b.bandMap = a.bandMap
  bandEpoch : b.bandEpoch = a.bandEpoch

namespace Device.LoadAlike

variable {c : Nat} (h : a.LoadAlike c b)

theorem of_within {ps : List Part} {ks : List Nat} (w : a.Within ps ks b) (hp : .bandMap ∉ ps ∧ .bandEpoch ∉ ps)
    (hk : ∀ f ∈ loadReads, f.key c ∉ ks)
    (hs : ∀ f ∈ [F.COUT_BANDMAP_CTRL_MAP_EN, F.COUT_BANDMAP_CTRL_TEMP_COMP, F.SYS_TEMP_NOW], f.key 0 ∉ ks) : a.LoadAlike c b where
  regs := fun f hf => w.get f c (hk f hf)
  mapEn := w.get _ 0 (hs _ (by simp))
  tempComp := w.get _ 0 (hs _ (by simp))
  temp := w.get _ 0 (hs _ (by simp))
  bandMap := w.parts .bandMap hp.1
  bandEpoch := w.parts .bandEpoch hp.2

include h

theorem get (f : Fld) (hf : f ∈ loadReads := by simp [loadReads]) : b.get f c = a.get f c := h.regs f hf

theorem coreState : b.coreState c = a.coreState c := h.get F.LOOP_STAT_STATE
theorem locked : b.locked c = a.locked c := congrArg (· == 1) (h.get F.LOOP_STAT_LOCK)
theorem coreCold : b.coreCold c = a.coreCold c := by
  unfold Device.coreCold
  rw [h.coreState]
theorem manual : b.is F.LOOP_BAND_CTRL_MANUAL c = a.is F.LOOP_BAND_CTRL_MANUAL c := congrArg (· == 1) (h.get _)

theorem manualMoves : b.manualMoves c = a.manualMoves c := by
  unfold Device.manualMoves is
  rw [h.get F.LOOP_BAND_CTRL_MANUAL, h.get F.LOOP_STAT_BAND_SEARCH, h.get F.LOOP_STAT_TANK, h.get F.LOOP_BAND_CTRL_TANK,
    h.get F.LOOP_STAT_BAND, h.get F.LOOP_BAND_CTRL_BAND]

theorem tankFor (s : Settings) : b.tankFor c s = a.tankFor c s := by
  unfold Device.tankFor
  rw [h.coreState, h.get F.LOOP_CTRL_TANK_PREF, h.get F.LOOP_STAT_TANK]

theorem presetTune (p : Preset) : b.presetTune p = a.presetTune p := by
  unfold Device.presetTune is
  rw [h.tempComp, h.temp]

theorem bandWord (e w : Nat) : b.bandWord c e w = a.bandWord c e w := by
  unfold Device.bandWord
  rw [h.bandMap, h.bandEpoch]

theorem bandLookup (s : Settings) : b.bandLookup c s = a.bandLookup c s := by
  unfold Device.bandLookup bandCovers
  simp only [h.mapEn, h.bandWord]

theorem modReg : b.modReg c = a.modReg c := by
  unfold Device.modReg
  rw [h.get F.LOOP_MOD_HI_MOD, h.get F.LOOP_MOD_LO_MOD]

theorem derived (f : Freq) : b.derived c f = a.derived c f := by
  unfold Device.derived dAReg
  rw [h.modReg, h.get F.LOOP_OUTDIV_DIV_A, h.get F.LOOP_OUTDIV_DIV_B]

theorem staged : b.staged c = a.staged c := by
  unfold Device.staged dAReg
  rw [h.modReg, h.get F.LOOP_OUTDIV_DIV_A, h.get F.LOOP_OUTDIV_DIV_B, h.get F.LOOP_N_INT_N_INT, h.get F.LOOP_NUM_HI_NUM,
    h.get F.LOOP_NUM_LO_NUM]

theorem intRefusal (s : Settings) : b.intRefusal c s = a.intRefusal c s := by
  unfold Device.intRefusal is
  rw [h.get F.LOOP_CTRL_INT_MODE]

theorem staysInBand (s : Settings) (inBand : Bool) (set : (b.core c).set = (a.core c).set) :
    b.staysInBand c s inBand = a.staysInBand c s inBand := by
  unfold Device.staysInBand is
  rw [set, h.get F.LOOP_STAT_TUNE_EDGE]

end Device.LoadAlike

/-- A key on the page of core c is not one of the duty locks. -/
theorem key_notMem_dutyKeys {f : Fld} (h : f.ofCore = true) (c : Fin 16) : f.key c ∉ dutyKeys := fun listed => by
  have page := dutyKeys_page _ listed
  rw [pageOfKey_ofCore h] at page
  omega

theorem loadReads_notMem : ∀ c : Fin 16, ∀ f ∈ loadReads, f.key c ∉ [F.LOOP_STAT_INT_ACTIVE.key c, F.LOOP_TRIM_TAU.key c] := by
  decide

theorem sharedReads_notMem : ∀ c : Fin 16, ∀ f ∈ [F.COUT_BANDMAP_CTRL_MAP_EN, F.COUT_BANDMAP_CTRL_TEMP_COMP, F.SYS_TEMP_NOW],
    f.key 0 ∉ settingsKeys c := by
  decide

theorem Device.newSettings_loadAlike (d : Device) (c : Fin 16) (s : Settings) (int start : Bool) :
    d.LoadAlike c (d.newSettings c s int start) :=
  .of_within (d.newSettings_within c s int start) (by decide)
    (fun f hf listed => (List.mem_append.mp listed).elim (loadReads_notMem c f hf) (key_notMem_dutyKeys (loadReads_ofCore f hf) c))
    (sharedReads_notMem c)

end Sys2Proof.Machine
end

section
/-! The band in which a core goes on at a load (R87, R92, R118, R119, R128). -/

namespace Sys2Proof.Machine

variable {a b d : Device}

/-! ### The band after a load -/

/-- The load finds the core in its band, with MANUAL in the written one: it can keep it. -/
def Device.loadStays (d : Device) (c : Nat) (s : Settings) (inBand : Bool) : Bool :=
  !d.coreCold c && !d.manualMoves c && d.staysInBand c s inBand

/-- The band-map entry a load goes by: none from IDLE, what the commit found, or what the map holds for a core that cannot stay. -/
def Device.loadFound (d : Device) (c : Nat) (s : Settings) (commit? : Option (Option Preset)) (inBand : Bool) : Option Preset :=
  if d.coreState c ≤ 1 then none
  else match commit? with
    | some p => p
    | none => if d.loadStays c s inBand then none else d.bandLookup c s

/-- The core goes on with an entry, opens, stays, or searches. -/
def Device.loadBand (d : Device) (c : Nat) (s : Settings) (found : Option Preset) (stays : Bool) : Device :=
  match found with
  | some p => d.presetLoad c p
  | none =>
    if d.coreState c = 0 then d.onCore c (fun k => { k with starts := true })
    else if stays then d.put F.LOOP_STAT_TUNE_EDGE c 0
    else d.searchOrManual c s

/-- The monitor of a locked core holds. -/
def Device.holdLocked (d : Device) (c : Nat) : Device := d.when (d.locked c) (·.startHold c)

theorem Device.takeSettings_eq (d : Device) (c : Nat) (s : Settings) (int : Bool) (commit? : Option (Option Preset)) (inBand : Bool) :
    d.takeSettings c s int commit? inBand =
      ((d.newSettings c s int (decide (d.coreState c ≤ 1))).loadBand c s (d.loadFound c s commit? inBand) (d.loadStays c s inBand)).holdLocked
        c := by
  unfold takeSettings loadFound loadBand
  simp only [decide_eq_true_eq]
  rfl

/-! ### A preset load (R118, R119) -/

/-- Tank and band of an entry are in force, no search runs, and the core is not aligned. -/
def Device.presetShown (d : Device) (c : Nat) (p : Preset) : Device :=
  ((((d.put F.LOOP_STAT_TANK c p.tank).put F.LOOP_STAT_BAND c p.band).put F.LOOP_STAT_TUNE_EDGE c 0).put F.LOOP_STAT_BAND_SEARCH c 0).putAligned
    c false

/-- A core that was searching or had failed acquires. -/
def Device.presetAcquires (d : Device) (c : Nat) : Device := if d.coreState c = 2 ∨ d.coreState c = 6 then d.acquire c 3 else d

theorem Device.presetLoad_eq (d : Device) (c : Nat) (p : Preset) :
    d.presetLoad c p = ((d.presetShown c p).presetAcquires c).onCore c (fun k => { k with
      tune := d.presetTune p, since := 0, retuning := true, slow := false, blank := true, sinceLoad := 0,
      crossTank := d.get F.LOOP_STAT_TANK c != p.tank, presetPark := true }) := rfl

theorem Device.presetShown_within (d : Device) (c : Nat) (p : Preset) : d.Within [] (searchKeys c) (d.presetShown c p) := by
  unfold presetShown
  exact (((((Within.put d _ _ _).trans (.put _ _ _ _)).trans (.put _ _ _ _)).trans (.put _ _ _ _)).trans
    (putAligned_within _ _ _)).mono (by simp) (by grind [searchKeys, unlockKeys])

theorem Device.presetAcquires_within (d : Device) (c : Nat) : d.Within [.cores] (searchKeys c) (d.presetAcquires c) :=
  .ite ((acquire_within d c 3).mono (by simp) (by simp [searchKeys])) (.refl d)

theorem Device.presetAcquires_keepsCores (d : Device) (c : Nat) : d.KeepsCores c (d.presetAcquires c) :=
  .ite (acquire_keepsCores d c 3) (.of_cores rfl)

theorem Device.presetLoad_within (d : Device) (c : Nat) (p : Preset) : d.Within [.cores] (searchKeys c) (d.presetLoad c p) := by
  rw [presetLoad_eq]
  exact ((((d.presetShown_within c p).trans (presetAcquires_within _ c))).trans (.onCore _ c _)).mono (by simp) (by simp)

theorem Device.core_presetAcquires (d : Device) (c : Nat) : ∃ acq, (d.presetAcquires c).core c = { d.core c with acq } := by
  unfold presetAcquires
  split
  · exact ⟨0, core_acquire _ _ _⟩
  · exact ⟨_, rfl⟩

theorem Device.core_presetLoad (d : Device) (c : Nat) (p : Preset) : d.KeepsCores c (d.presetLoad c p) ∧ ∃ acq crossTank,
    (d.presetLoad c p).core c = { d.core c with
      tune := d.presetTune p, since := 0, retuning := true, slow := false, blank := true, sinceLoad := 0, presetPark := true, acq,
      crossTank } := by
  have shown := d.presetShown_within c p
  obtain ⟨acq, acquires⟩ := (d.presetShown c p).core_presetAcquires c
  rw [presetLoad_eq]
  refine ⟨((KeepsCores.within shown).trans (presetAcquires_keepsCores _ c)).trans (.onCore _ _), acq, d.get F.LOOP_STAT_TANK c != p.tank, ?_⟩
  rw [core_onCore_self, acquires, shown.core]

/-! ### What the load shows -/

/-- Core c of b starts when it is open. -/
def Device.Opens (c : Nat) (b : Device) : Prop := (b.core c).starts = true ∧ b.coreState c = 0

/-- Core c of b has the tank, band, state and lock it has in a. -/
def Device.StaysInBand (c : Nat) (a b : Device) : Prop :=
  b.get F.LOOP_STAT_TANK c = a.get F.LOOP_STAT_TANK c ∧ b.get F.LOOP_STAT_BAND c = a.get F.LOOP_STAT_BAND c ∧
    b.coreState c = a.coreState c ∧ b.locked c = a.locked c ∧ b.get F.LOOP_STAT_TUNE_EDGE c = 0

/-- Core c of b, at a before, has made a preset load of the entry p. -/
def Device.Presets (c : Nat) (p : Preset) (a b : Device) : Prop :=
  b.get F.LOOP_STAT_TANK c = p.tank % 2 ∧ b.get F.LOOP_STAT_BAND c = p.band % 256 ∧ (b.core c).tune = a.presetTune p ∧
    b.locked c = a.locked c ∧ b.get F.LOOP_STAT_BAND_SEARCH c = 0 ∧ b.get F.LOOP_STAT_TUNE_EDGE c = 0 ∧ (b.core c).blank = true ∧
    b.coreState c = (if a.coreState c = 2 ∨ a.coreState c = 6 then 3 else a.coreState c)

/-- What core c of b, at a before, shows after a load of the settings s. -/
def Device.ShowsLoad (c : Nat) (s : Settings) (found : Option Preset) (stays : Bool) (a b : Device) : Prop :=
  match found with
  | some p => Presets c p a b
  | none =>
    if a.coreState c = 0 then Opens c b
    else if stays then StaysInBand c a b
    else if a.is F.LOOP_BAND_CTRL_MANUAL c then AcquiresWritten c a b
    else Searches c s a b

theorem Device.get_presetShown (d : Device) (c : Nat) (p : Preset) :
    (d.presetShown c p).get F.LOOP_STAT_TANK c = p.tank % 2 ∧ (d.presetShown c p).get F.LOOP_STAT_BAND c = p.band % 256 ∧
      (d.presetShown c p).get F.LOOP_STAT_BAND_SEARCH c = 0 ∧ (d.presetShown c p).get F.LOOP_STAT_TUNE_EDGE c = 0 ∧
      (d.presetShown c p).get F.LOOP_STAT_STATE c = d.get F.LOOP_STAT_STATE c ∧
      (d.presetShown c p).get F.LOOP_STAT_LOCK c = d.get F.LOOP_STAT_LOCK c := by
  unfold presetShown
  simp (disch := decide) only [get_putAligned_apart, get_put_apart, get_put]
  exact ⟨rfl, rfl, rfl, rfl, trivial, trivial⟩

theorem Device.get_presetAcquires_apart (d : Device) (c : Nat) {f : Fld} (h : f.apart F.LOOP_STAT_STATE = true) (i : Nat) :
    (d.presetAcquires c).get f i = d.get f i := by
  unfold presetAcquires acquire
  split
  · rw [get_onCore, get_put_apart _ h]
  · rfl

theorem Device.coreState_presetAcquires (d : Device) (c : Nat) :
    (d.presetAcquires c).coreState c = if d.coreState c = 2 ∨ d.coreState c = 6 then 3 else d.coreState c := by
  unfold presetAcquires
  split
  · exact (get_onCore _ _ _ _ _).trans (get_put _ _ _ _)
  · rfl

theorem Device.presetLoad_presets (d : Device) (c : Nat) (p : Preset) : d.Presets c p (d.presetLoad c p) := by
  obtain ⟨-, acq, crossTank, core⟩ := d.core_presetLoad c p
  obtain ⟨tank, band, search, edge, state, lock⟩ := d.get_presetShown c p
  have apart {f : Fld} (h : f.apart F.LOOP_STAT_STATE = true) : (d.presetLoad c p).get f c = (d.presetShown c p).get f c :=
    get_presetAcquires_apart _ c h c
  refine ⟨(apart (by decide)).trans tank, (apart (by decide)).trans band, by rw [core],
    congrArg (· == 1) ((apart (by decide)).trans lock), (apart (by decide)).trans search, (apart (by decide)).trans edge, by rw [core], ?_⟩
  calc (d.presetLoad c p).coreState c
    _ = if (d.presetShown c p).coreState c = 2 ∨ (d.presetShown c p).coreState c = 6 then 3 else (d.presetShown c p).coreState c :=
      coreState_presetAcquires _ c
    _ = if d.coreState c = 2 ∨ d.coreState c = 6 then 3 else d.coreState c := by rw [coreState, state, coreState]

theorem Device.loadBand_within (d : Device) (c : Nat) (s : Settings) (found : Option Preset) (stays : Bool) :
    d.Within [.cores] (searchKeys c) (d.loadBand c s found stays) := by
  cases found with
  | some p => exact d.presetLoad_within c p
  | none =>
    refine .ite ((Within.onCore d c _).mono (by simp) (by simp)) (.ite ?_ (d.searchOrManual_within c s))
    exact (Within.put d _ _ _).mono (by simp) (by simp [searchKeys])

theorem Core.searching_loadsAs (k : Core) (acq : Nat) : k.LoadsAs (k.searching acq) :=
  ⟨rfl, rfl, rfl, rfl, rfl, rfl, rfl, rfl, fun h => ⟨rfl, h⟩⟩

theorem Device.core_loadBand (d : Device) (c : Nat) (s : Settings) (found : Option Preset) (stays : Bool) :
    d.KeepsCores c (d.loadBand c s found stays) ∧ (d.core c).LoadsAs ((d.loadBand c s found stays).core c) := by
  cases found with
  | some p =>
    obtain ⟨others, acq, crossTank, core⟩ := d.core_presetLoad c p
    refine ⟨others, ?_⟩
    change (d.core c).LoadsAs ((d.presetLoad c p).core c)
    rw [core]
    exact ⟨rfl, rfl, rfl, rfl, rfl, rfl, rfl, rfl, fun h => ⟨rfl, h⟩⟩
  | none =>
    unfold loadBand
    dsimp only
    split
    · refine ⟨.onCore d _, ?_⟩
      rw [core_onCore_self]
      exact ⟨rfl, rfl, rfl, rfl, rfl, rfl, rfl, rfl, fun h => ⟨rfl, h⟩⟩
    · split
      · exact ⟨.put d _ _ _, .refl _⟩
      · obtain ⟨others, acq, core⟩ := d.core_searchOrManual c s
        exact ⟨others, core ▸ (d.core c).searching_loadsAs acq⟩

theorem Device.loadBand_shows (d : Device) (c : Nat) (s : Settings) (found : Option Preset) (stays : Bool) :
    ShowsLoad c s found stays d (d.loadBand c s found stays) := by
  cases found with
  | some p => exact d.presetLoad_presets c p
  | none =>
    unfold ShowsLoad loadBand
    dsimp only
    split
    next opening => exact ⟨by rw [core_onCore_self], opening⟩
    · split
      · unfold StaysInBand coreState Device.locked is
        simp (disch := decide) only [get_put_apart, get_put]
        exact ⟨trivial, trivial, trivial, trivial, rfl⟩
      · split
        next manual => exact d.searchOrManual_acquiresWritten s manual
        next auto => exact d.searchOrManual_searches s (by simpa using auto)

/-! ### What it shows in other states -/

/-- Core c of b shows the band, the state and the lock that it shows in a. -/
structure Device.BandAlike (c : Nat) (a b : Device) : Prop where
  state : b.coreState c = a.coreState c
  search : b.get F.LOOP_STAT_BAND_SEARCH c = a.get F.LOOP_STAT_BAND_SEARCH c
  tank : b.get F.LOOP_STAT_TANK c = a.get F.LOOP_STAT_TANK c
  band : b.get F.LOOP_STAT_BAND c = a.get F.LOOP_STAT_BAND c
  locked : b.locked c = a.locked c
  edge : b.get F.LOOP_STAT_TUNE_EDGE c = a.get F.LOOP_STAT_TUNE_EDGE c
  starts : (b.core c).starts = (a.core c).starts
  tune : (b.core c).tune = (a.core c).tune
  blank : (b.core c).blank = (a.core c).blank

theorem Device.BandAlike.of_reads {c : Nat} (h : ∀ f ∈ [F.LOOP_STAT_STATE, F.LOOP_STAT_BAND_SEARCH, F.LOOP_STAT_TANK, F.LOOP_STAT_BAND,
    F.LOOP_STAT_LOCK, F.LOOP_STAT_TUNE_EDGE], b.get f c = a.get f c) (starts : (b.core c).starts = (a.core c).starts)
    (tune : (b.core c).tune = (a.core c).tune) (blank : (b.core c).blank = (a.core c).blank) : a.BandAlike c b where
  state := h _ (by simp)
  search := h _ (by simp)
  tank := h _ (by simp)
  band := h _ (by simp)
  locked := congrArg (· == 1) (h F.LOOP_STAT_LOCK (by simp))
  edge := h _ (by simp)
  starts := starts
  tune := tune
  blank := blank

theorem Device.Ends.bandAlike {c : Fin 16} (h : a.Ends c b) : a.BandAlike c b :=
  .of_reads (fun f hf => h.leaves f ((by decide : ∀ f ∈ [F.LOOP_STAT_STATE, F.LOOP_STAT_BAND_SEARCH, F.LOOP_STAT_TANK, F.LOOP_STAT_BAND,
    F.LOOP_STAT_LOCK, F.LOOP_STAT_TUNE_EDGE], endFields.all f.apart = true) f hf) c) h.core.starts h.core.tune h.core.blank

/-- What a load shows stays shown where the band and the marks of the load stay. -/
theorem Device.ShowsLoad.to {c : Nat} {s : Settings} {found : Option Preset} {stays : Bool} {e : Device}
    (h : ShowsLoad c s found stays a b) (k : b.BandAlike c e) : ShowsLoad c s found stays a e := by
  unfold ShowsLoad Presets Opens StaysInBand AcquiresWritten Searches at h ⊢
  rw [k.state, k.search, k.tank, k.band, k.locked, k.edge, k.starts, k.tune, k.blank]
  exact h

/-- It is the same seen from another state in which the load finds the same. -/
theorem Device.ShowsLoad.from {c : Nat} {s : Settings} {found : Option Preset} {stays : Bool} {e : Device}
    (h : ShowsLoad c s found stays b e) (k : a.LoadAlike c b) : ShowsLoad c s found stays a e := by
  unfold ShowsLoad Presets StaysInBand AcquiresWritten Searches at h ⊢
  simp only [k.coreState, k.locked, k.manual, k.tankFor, k.presetTune, k.get F.LOOP_STAT_TANK, k.get F.LOOP_STAT_BAND,
    k.get F.LOOP_BAND_CTRL_TANK, k.get F.LOOP_BAND_CTRL_BAND] at h
  exact h

/-! ### New settings at a load -/

/-- The keys of the fields that change when new settings come into force. -/
def takeKeys (c : Nat) : List Nat := searchKeys c ++ settingsKeys c

theorem takeKeys_pages : ∀ c : Fin 16, ∀ k ∈ takeKeys c, pageOfKey k ∈ [0x10 + c.val, 0x20, 0x21] := by
  decide

theorem Device.startHold_within (d : Device) (c : Nat) : d.Within [.cores] [F.LOOP_STAT_HOLD.key c] (d.startHold c) :=
  (Within.put d _ _ _).trans (.onCore _ _ _)

theorem Device.holdLocked_within (d : Device) (c : Nat) : d.Within [.cores] [F.LOOP_STAT_HOLD.key c] (d.holdLocked c) :=
  .when (·.startHold_within c)

theorem Device.holdLocked_ends (d : Device) (c : Fin 16) : d.Ends c (d.holdLocked c) := .when (·.startHold_ends c)

theorem Device.takeSettings_within (d : Device) (c : Nat) (s : Settings) (int : Bool) (commit? : Option (Option Preset)) (inBand : Bool) :
    d.Within [.cores] (takeKeys c) (d.takeSettings c s int commit? inBand) := by
  rw [takeSettings_eq]
  exact (((d.newSettings_within c s int _).trans (loadBand_within _ c s _ _)).trans (holdLocked_within _ c)).mono (by simp)
    (by grind [takeKeys, searchKeys, unlockKeys])

/-- The core has the new settings, and keeps its target and its marks. -/
theorem Device.core_takeSettings (d : Device) (c : Fin 16) (s : Settings) (int : Bool) (commit? : Option (Option Preset)) (inBand : Bool) :
    d.KeepsCores c (d.takeSettings c s int commit? inBand) ∧
      Core.LoadsAs { d.core c with set := s, intMode := int } ((d.takeSettings c s int commit? inBand).core c) := by
  obtain ⟨taken, core⟩ := d.core_newSettings c s int (decide (d.coreState c ≤ 1))
  obtain ⟨loaded, keeps⟩ := (d.newSettings c s int (decide (d.coreState c ≤ 1))).core_loadBand c s (d.loadFound c s commit? inBand)
    (d.loadStays c s inBand)
  have held := ((d.newSettings c s int (decide (d.coreState c ≤ 1))).loadBand c s (d.loadFound c s commit? inBand)
    (d.loadStays c s inBand)).holdLocked_ends c
  rw [takeSettings_eq]
  rw [core] at keeps
  exact ⟨(taken.trans loaded).trans held.at'.others, ((Core.take_loadsAs _ _ _ _ _ _).trans keeps).trans held.core.loadsAs⟩

theorem Device.takeSettings_shows (d : Device) (c : Fin 16) (s : Settings) (int : Bool) (commit? : Option (Option Preset)) (inBand : Bool) :
    ShowsLoad c s (d.loadFound c s commit? inBand) (d.loadStays c s inBand) d (d.takeSettings c s int commit? inBand) := by
  rw [takeSettings_eq]
  exact ((loadBand_shows _ c s _ _).to (holdLocked_ends _ c).bandAlike).from (d.newSettings_loadAlike c s int _)

end Sys2Proof.Machine
end

section
/-! What a load of new settings shows, by the state in which it finds the core (R87, R92, R118, R128). -/

namespace Sys2Proof.Machine

variable {a b d : Device} {c : Nat} {s : Settings} {commit? : Option (Option Preset)} {inBand : Bool}

/-- Core c of b shows the load of the settings s that it made in a. -/
def Device.LoadShown (c : Nat) (s : Settings) (commit? : Option (Option Preset)) (inBand : Bool) (a b : Device) : Prop :=
  ShowsLoad c s (a.loadFound c s commit? inBand) (a.loadStays c s inBand) a b

theorem Device.LoadAlike.loadStays (h : a.LoadAlike c b) (set : (b.core c).set = (a.core c).set) (s : Settings) (inBand : Bool) :
    b.loadStays c s inBand = a.loadStays c s inBand := by
  unfold Device.loadStays
  rw [h.coreCold, h.manualMoves, h.staysInBand s inBand set]

theorem Device.LoadAlike.loadFound (h : a.LoadAlike c b) (set : (b.core c).set = (a.core c).set) (s : Settings)
    (commit? : Option (Option Preset)) (inBand : Bool) : b.loadFound c s commit? inBand = a.loadFound c s commit? inBand := by
  unfold Device.loadFound
  rw [h.coreState, h.loadStays set, h.bandLookup]

/-- A load shows the same seen from a state in which it finds the same. -/
theorem Device.LoadShown.from {e : Device} (h : LoadShown c s commit? inBand b e) (k : a.LoadAlike c b)
    (set : (b.core c).set = (a.core c).set) : LoadShown c s commit? inBand a e := by
  unfold LoadShown at h ⊢
  rw [k.loadStays set, k.loadFound set] at h
  exact ShowsLoad.from h k

theorem Device.LoadShown.to {e : Device} (h : LoadShown c s commit? inBand a b) (k : b.BandAlike c e) :
    LoadShown c s commit? inBand a e :=
  ShowsLoad.to h k

theorem Device.takeSettings_shown (d : Device) (c : Fin 16) (s : Settings) (int : Bool) (commit? : Option (Option Preset)) (inBand : Bool) :
    LoadShown c s commit? inBand d (d.takeSettings c s int commit? inBand) :=
  d.takeSettings_shows c s int commit? inBand

theorem Device.loadFound_of_idle (idle : d.coreState c ≤ 1) : d.loadFound c s commit? inBand = none := if_pos idle

theorem Device.loadFound_of_commit {p : Option Preset} (runs : 2 ≤ d.coreState c) : d.loadFound c s (some p) inBand = p :=
  if_neg (by omega)

theorem Device.loadFound_of_moves (runs : 2 ≤ d.coreState c) (moves : d.loadStays c s inBand = false) :
    d.loadFound c s none inBand = d.bandLookup c s := by
  unfold loadFound
  rw [if_neg (by omega), moves]
  rfl

theorem Device.loadFound_of_stays (stays : d.loadStays c s inBand = true) : d.loadFound c s none inBand = none := by
  unfold loadFound
  rw [stays]
  split <;> rfl

theorem Device.loadStays_of_cold (cold : d.coreCold c = true) : d.loadStays c s inBand = false := by
  simp [loadStays, cold]

theorem Device.loadStays_of_not (h : ¬(d.coreCold c = false ∧ d.manualMoves c = false ∧ d.staysInBand c s inBand = true)) :
    d.loadStays c s inBand = false := by
  unfold loadStays
  rw [← Bool.not_eq_true]
  simpa only [Bool.and_eq_true, Bool.not_eq_true', and_assoc] using h

theorem Device.coreCold_of_idle (idle : d.coreState c ≤ 1) : d.coreCold c = true := by
  simp [coreCold, idle]

namespace Device.LoadShown

/-- A core that opens starts when it is open. -/
theorem opens (opening : a.coreState c = 0) (h : LoadShown c s commit? inBand a b) : Opens c b := by
  rwa [LoadShown, loadFound_of_idle (by omega), ShowsLoad, if_pos opening] at h

/-- With an entry the load is a preset load. -/
theorem presets {p : Preset} (found : a.loadFound c s commit? inBand = some p) (h : LoadShown c s commit? inBand a b) :
    Presets c p a b := by
  rwa [LoadShown, found] at h

/-- A core that can stay in its band stays. -/
theorem stays (stays : a.loadStays c s inBand = true) (h : LoadShown c s none inBand a b) : StaysInBand c a b := by
  have runs : a.coreState c ≠ 0 := fun opening => by
    rw [loadStays_of_cold (coreCold_of_idle (by omega))] at stays
    contradiction
  rwa [LoadShown, loadFound_of_stays stays, ShowsLoad, if_neg runs, if_pos stays] at h

/-- Without an entry a core that cannot stay searches. -/
theorem searches (runs : a.coreState c ≠ 0) (found : a.loadFound c s commit? inBand = none) (moves : a.loadStays c s inBand = false)
    (auto : a.is F.LOOP_BAND_CTRL_MANUAL c = false) (h : LoadShown c s commit? inBand a b) : Searches c s a b := by
  rwa [LoadShown, found, ShowsLoad, if_neg runs, moves, if_neg (by decide), auto, if_neg (by decide)] at h

/-- With MANUAL it takes the written tank and band. -/
theorem acquiresWritten (runs : a.coreState c ≠ 0) (found : a.loadFound c s commit? inBand = none)
    (moves : a.loadStays c s inBand = false) (manual : a.is F.LOOP_BAND_CTRL_MANUAL c = true)
    (h : LoadShown c s commit? inBand a b) : AcquiresWritten c a b := by
  rwa [LoadShown, found, ShowsLoad, if_neg runs, moves, if_neg (by decide), manual, if_pos rfl] at h

/-- From IDLE a core starts with a band search. -/
theorem searches_of_idle (idle : a.coreState c = 1) (auto : a.is F.LOOP_BAND_CTRL_MANUAL c = false)
    (h : LoadShown c s commit? inBand a b) : Searches c s a b :=
  h.searches (by omega) (loadFound_of_idle (by omega)) (loadStays_of_cold (coreCold_of_idle (by omega))) auto

theorem acquiresWritten_of_idle (idle : a.coreState c = 1) (manual : a.is F.LOOP_BAND_CTRL_MANUAL c = true)
    (h : LoadShown c s commit? inBand a b) : AcquiresWritten c a b :=
  h.acquiresWritten (by omega) (loadFound_of_idle (by omega)) (loadStays_of_cold (coreCold_of_idle (by omega))) manual

end Device.LoadShown

/-- A core that runs and cannot stay in its band. -/
structure Device.MustMove (d : Device) (c : Nat) (s : Settings) (inBand : Bool) : Prop where
  runs : 2 ≤ d.coreState c
  leaves : ¬(d.coreCold c = false ∧ d.manualMoves c = false ∧ d.staysInBand c s inBand = true)

namespace Device.LoadShown

variable (m : a.MustMove c s inBand)
include m

theorem searches_of_moves (none' : a.bandLookup c s = none) (auto : a.is F.LOOP_BAND_CTRL_MANUAL c = false)
    (h : LoadShown c s none inBand a b) : Searches c s a b :=
  have stays := loadStays_of_not m.leaves
  h.searches (by have := m.runs; omega) ((loadFound_of_moves m.runs stays).trans none') stays auto

theorem acquiresWritten_of_moves (none' : a.bandLookup c s = none) (manual : a.is F.LOOP_BAND_CTRL_MANUAL c = true)
    (h : LoadShown c s none inBand a b) : AcquiresWritten c a b :=
  have stays := loadStays_of_not m.leaves
  h.acquiresWritten (by have := m.runs; omega) ((loadFound_of_moves m.runs stays).trans none') stays manual

theorem presets_of_moves {p : Preset} (entry : a.bandLookup c s = some p) (h : LoadShown c s none inBand a b) : Presets c p a b :=
  h.presets ((loadFound_of_moves m.runs (loadStays_of_not m.leaves)).trans entry)

end Device.LoadShown

theorem Device.LoadShown.stays_of (warm : a.coreCold c = false) (kept : a.manualMoves c = false)
    (inside : a.staysInBand c s inBand = true) (h : LoadShown c s none inBand a b) : StaysInBand c a b :=
  h.stays (by simp [loadStays, warm, kept, inside])

end Sys2Proof.Machine
end

section
/-! Free mode: LOOP_APPLY and LOOP_PHASE_ADJ, and O33 (R83, R86, R101, R107). -/

namespace Sys2Proof.Machine

variable {a b d : Device}

/-! ### A write of LOOP_APPLY (R83) -/

theorem bit_setBit_0 (x : Nat) : bit (setBit x 0) 0 = true := by
  simp only [bit, setBit, setBits, bits, beq_iff_eq]
  omega

/-- GO leaves the other bits of LOOP_APPLY. -/
theorem setBit_0_bits (x : Nat) :
    bits (setBit x 0) 2 2 = bits x 2 2 ∧ bits (setBit x 0) 1 1 = bits x 1 1 ∧ bit (setBit x 0) 1 = bit x 1 := by
  have above (k : Nat) (hk : k = 1 ∨ k = 2) : setBit x 0 / 2 ^ k = x / 2 ^ k := by
    simp only [setBit, setBits, bits]
    obtain rfl | rfl := hk <;> omega
  unfold bits bit
  rw [above 2 (.inr rfl), above 1 (.inl rfl)]
  exact ⟨rfl, rfl, rfl⟩

/-- The keys of LOOP_APPLY. -/
def applyKeys (c : Nat) : List Nat :=
  [F.LOOP_APPLY_PHASE_SET.key c, F.LOOP_APPLY_AT_POUND.key c, F.LOOP_APPLY_RESULT.key c, F.LOOP_APPLY_GO.key c]

/-- LOOP_APPLY is written, and a pending request is superseded. -/
def Device.applyNoted (d : Device) (c v : Nat) : Device :=
  ((d.put F.LOOP_APPLY_PHASE_SET c (bits v 2 2)).put F.LOOP_APPLY_AT_POUND c (bits v 1 1)).when (d.core c).applyAt.isSome
    (·.put F.LOOP_APPLY_RESULT c 9)

/-- A request is answered: pending, or refused. -/
def Device.applyAnswered (d : Device) (c v result go : Nat) (at? : Option Pound) : Device :=
  (((d.applyNoted c v).put F.LOOP_APPLY_RESULT c result).put F.LOOP_APPLY_GO c go).onCore c (fun k => { k with applyAt := at? })

theorem Device.applyNoted_within (d : Device) (c v : Nat) :
    d.Within [] [F.LOOP_APPLY_PHASE_SET.key c, F.LOOP_APPLY_AT_POUND.key c, F.LOOP_APPLY_RESULT.key c] (d.applyNoted c v) :=
  ((Within.put d _ _ _).trans (.put _ _ _ _)).trans (.when (Within.put · F.LOOP_APPLY_RESULT c 9))

theorem Device.applyAnswered_within (d : Device) (c v result go : Nat) (at? : Option Pound) :
    d.Within [.cores] (applyKeys c) (d.applyAnswered c v result go at?) :=
  ((((d.applyNoted_within c v).trans (.put _ F.LOOP_APPLY_RESULT c result)).trans (.put _ F.LOOP_APPLY_GO c go)).trans (.onCore _ c _)).mono
    (by simp) (by simp [applyKeys])

theorem Device.applyAnswered_keepsCores (d : Device) (c v result go : Nat) (at? : Option Pound) :
    d.KeepsCores c (d.applyAnswered c v result go at?) :=
  (((KeepsCores.within (d.applyNoted_within c v)).trans (.put _ F.LOOP_APPLY_RESULT c result)).trans (.put _ F.LOOP_APPLY_GO c go)).trans
    (.onCore _ _)

theorem Device.core_applyAnswered (d : Device) (c v result go : Nat) (at? : Option Pound) :
    (d.applyAnswered c v result go at?).core c = { d.core c with applyAt := at? } := by
  rw [applyAnswered, core_onCore_self, core_put, core_put, (d.applyNoted_within c v).core]

theorem Device.get_applyNoted_apart (d : Device) (c v : Nat) {f : Fld} (h : f.apart F.LOOP_APPLY_RESULT = true) (i : Nat) :
    (d.applyNoted c v).get f i = ((d.put F.LOOP_APPLY_PHASE_SET c (bits v 2 2)).put F.LOOP_APPLY_AT_POUND c (bits v 1 1)).get f i := by
  unfold applyNoted Device.when
  split
  · exact get_put_apart _ h _ _ _
  · rfl

theorem Device.get_applyAnswered (d : Device) (c v result go : Nat) (at? : Option Pound) :
    (d.applyAnswered c v result go at?).get F.LOOP_APPLY_RESULT c = result % 16 ∧
      (d.applyAnswered c v result go at?).get F.LOOP_APPLY_GO c = go % 2 ∧
      (d.applyAnswered c v result go at?).get F.LOOP_APPLY_PHASE_SET c = bits v 2 2 ∧
      (d.applyAnswered c v result go at?).get F.LOOP_APPLY_AT_POUND c = bits v 1 1 := by
  unfold applyAnswered
  simp (disch := decide) only [get_onCore, get_put_apart, get_put, get_applyNoted_apart]
  exact ⟨rfl, rfl, Nat.mod_eq_of_lt (Nat.mod_lt _ (by decide)), Nat.mod_eq_of_lt (Nat.mod_lt _ (by decide))⟩

theorem loadReads_notMem_apply : ∀ c : Fin 16, ∀ f ∈ loadReads, f.key c ∉ applyKeys c := by
  decide

theorem sharedReads_notMem_apply : ∀ c : Fin 16, ∀ f ∈ [F.COUT_BANDMAP_CTRL_MAP_EN, F.COUT_BANDMAP_CTRL_TEMP_COMP, F.SYS_TEMP_NOW],
    f.key 0 ∉ applyKeys c := by
  decide

/-- What changes LOOP_APPLY alone leaves what a load finds. -/
theorem Device.LoadAlike.of_apply {c : Fin 16} {ps : List Part} (w : a.Within ps (applyKeys c) b)
    (hp : .bandMap ∉ ps ∧ .bandEpoch ∉ ps := by decide) : a.LoadAlike c b :=
  .of_within w hp (loadReads_notMem_apply c) (sharedReads_notMem_apply c)

theorem Device.applyNoted_loadAlike (d : Device) (c : Fin 16) (v : Nat) : d.LoadAlike c (d.applyNoted c v) :=
  .of_apply ((d.applyNoted_within c v).mono (fun _ hp => hp) (by simp [applyKeys]))

theorem Device.applyRefusal_applyNoted (d : Device) (c : Fin 16) (v : Nat) (atPound : Bool) (p : Pound) :
    (d.applyNoted c v).applyRefusal c atPound p = d.applyRefusal c atPound p := by
  have w := d.applyNoted_within c v
  have alike := d.applyNoted_loadAlike c v
  unfold applyRefusal
  rw [alike.staged, w.core, w.tow]
  simp only [alike.intRefusal]

/-- The pound a request names. -/
def Device.applyPound (d : Device) (c : Nat) : Pound :=
  BitVec.ofNat 64 (d.get F.LOOP_APPLY_POUND_HI_POUND c * 2 ^ 32 + d.get F.LOOP_APPLY_POUND_LO_POUND c)

theorem Device.wrLoopApply_eq {c : Fin 16} {v : Nat} (isOpen : d.coreClosed c = false) : d.wrLoopApply c (setBit v 0) =
    match d.applyRefusal c (bit v 1) (d.applyPound c) with
    | some r => d.applyAnswered c (setBit v 0) r 0 none
    | none => d.applyAnswered c (setBit v 0) 2 1 (some (if bit v 1 then d.applyPound c else d.tow.pound + 1)) := by
  obtain ⟨-, -, bit₁⟩ := setBit_0_bits v
  rw [← d.applyRefusal_applyNoted c (setBit v 0), ← bit₁]
  unfold wrLoopApply applyAnswered
  rw [isOpen, if_neg (by decide), bit_setBit_0, if_pos rfl]
  have pound : ∀ i w : Nat, ((d.put F.LOOP_APPLY_PHASE_SET c i).put F.LOOP_APPLY_AT_POUND c w).applyPound c = d.applyPound c := fun i w => by
    unfold applyPound
    simp (disch := decide) only [get_put_apart]
  have tow := (d.applyNoted_within c (setBit v 0)).tow
  simp only [← tow, ← pound (bits (setBit v 0) 2 2) (bits (setBit v 0) 1 1)]
  rfl

/-- A write of LOOP_APPLY with GO is answered. -/
theorem does_applyAnswered {s : State} {c : Fin 16} {v : Word} {result go : Nat} {at? : Option Pound} (r : s.Running)
    (run : s.dev.wrLoopApply c (setBit v.toNat 0) = s.dev.applyAnswered c (setBit v.toNat 0) result go at?) :
    Does (.loopApply c v) s [.cores] (applyKeys c) (fun d => d.get F.LOOP_APPLY_RESULT c = result % 16 ∧
      d.get F.LOOP_APPLY_GO c = go % 2 ∧ d.core c = { s.dev.core c with applyAt := at? } ∧
      d.get F.LOOP_APPLY_PHASE_SET c = bits v.toNat 2 2 ∧ d.get F.LOOP_APPLY_AT_POUND c = bits v.toNat 1 1 ∧
      (∀ n, n ≠ c.val → d.core n = s.dev.core n)) := by
  obtain ⟨bits₂, bits₁, -⟩ := setBit_0_bits v.toNat
  obtain ⟨shown, pending, phase, atPound⟩ := s.dev.get_applyAnswered c (setBit v.toNat 0) result go at?
  exact does_within rfl r run (s.dev.applyAnswered_within _ _ _ _ _) ⟨shown, pending, s.dev.core_applyAnswered _ _ _ _ _,
    phase.trans bits₂, atPound.trans bits₁, s.dev.applyAnswered_keepsCores _ _ _ _ _⟩

/-! ### LOOP_APPLY takes effect (R83, R101, R107) -/

/-- The request is no longer pending. -/
def Device.applyBegun (d : Device) (c : Nat) : Device := (d.onCore c (fun k => { k with applyAt := none })).put F.LOOP_APPLY_GO c 0

/-- FREE_PHASE of a core in the units of the target under the settings s. -/
def Device.freeStart (d : Device) (c : Nat) (s : Settings) : Nat :=
  roundDiv (d.get F.LOOP_FREE_PHASE_PHASE c * s.dA * s.modulus) (2 ^ 32) % (s.dA * s.modulus)

/-- The free target of a core starts from x where PHASE_SET is set, and else takes q. -/
def Core.freed (k : Core) (start : Bool) (x : Nat) : Core := { k with hasU := true, uFromQ := !start, u := if start then x else k.u }

/-- A free target leaves settings and marks. -/
theorem Core.freed_keeps (k : Core) (start : Bool) (x : Nat) :
    (k.freed start x).set = k.set ∧ (k.freed start x).intMode = k.intMode ∧ (k.freed start x).applyAt = k.applyAt := ⟨rfl, rfl, rfl⟩

theorem Core.freed_target (k : Core) (start : Bool) (x : Nat) :
    (k.freed start x).hasU = true ∧ (k.freed start x).uFromQ = !start ∧ (k.freed true x).u = x := ⟨rfl, rfl, rfl⟩

/-- With the settings in force the free target follows and the request is answered. -/
def Device.applyShown (d : Device) (c : Nat) : Device :=
  (((d.onCore c (fun k => { k with sinceApply := 0 })).setFreeTarget c).put F.LOOP_APPLY_RESULT c 1).event F.LOOP_EVT_APPLY_DONE c

theorem Device.applyBegun_within (d : Device) (c : Nat) : d.Within [.cores] [F.LOOP_APPLY_GO.key c] (d.applyBegun c) :=
  (Within.onCore d c _).trans (.put _ _ _ _)

theorem Device.core_applyBegun (d : Device) (c : Nat) : (d.applyBegun c).core c = { d.core c with applyAt := none } := by
  rw [applyBegun, core_put, core_onCore_self]

theorem Device.applyBegun_keepsCores (d : Device) (c : Nat) : d.KeepsCores c (d.applyBegun c) :=
  (KeepsCores.onCore d _).trans (.put _ _ _ _)

theorem Device.setFreeTarget_within (d : Device) (c : Nat) : d.Within [.cores] [] (d.setFreeTarget c) :=
  .ite (.onCore d c _) (.onCore d c _)

theorem Device.setFreeTarget_keepsCores (d : Device) (c : Nat) : d.KeepsCores c (d.setFreeTarget c) := .ite (.onCore d _) (.onCore d _)

theorem Device.core_setFreeTarget (d : Device) (c : Nat) :
    (d.setFreeTarget c).core c = (d.core c).freed (d.is F.LOOP_APPLY_PHASE_SET c) (d.freeStart c (d.core c).set) := by
  unfold setFreeTarget
  cases d.is F.LOOP_APPLY_PHASE_SET c with
  | true => simp only [if_true, core_onCore_self, Core.freed, freeStart, Bool.not_true]
  | false => simp only [Bool.false_eq_true, if_false, core_onCore_self, Core.freed, Bool.not_false]

theorem Device.applyShown_within (d : Device) (c : Nat) :
    d.Within [.cores] ([F.LOOP_APPLY_RESULT.key c] ++ evKeys F.LOOP_EVT_APPLY_DONE c) (d.applyShown c) :=
  ((((Within.onCore d c _).trans (setFreeTarget_within _ c)).trans (.put _ F.LOOP_APPLY_RESULT c 1)).trans
    (.eventBit _ F.LOOP_EVT_APPLY_DONE c 0)).mono (by simp) (by simp)

theorem Device.applyShown_keepsCores (d : Device) (c : Nat) : d.KeepsCores c (d.applyShown c) :=
  (((KeepsCores.onCore d _).trans (setFreeTarget_keepsCores _ c)).trans (.put _ _ _ _)).trans (.event _ _ _)

theorem Device.core_applyShown (d : Device) (c : Nat) : (d.applyShown c).core c =
    Core.freed { d.core c with sinceApply := 0 } (d.is F.LOOP_APPLY_PHASE_SET c) (d.freeStart c (d.core c).set) := by
  rw [applyShown, core_event, core_put, core_setFreeTarget, core_onCore_self]
  rfl

theorem Device.get_setFreeTarget (d : Device) (c : Nat) (f : Fld) (i : Nat) : (d.setFreeTarget c).get f i = d.get f i :=
  (d.setFreeTarget_within c).get f i (List.not_mem_nil)

theorem Device.applyShown_bandAlike (d : Device) (c : Nat) : d.BandAlike c (d.applyShown c) := by
  refine .of_reads (fun f hf => ?_) (by rw [core_applyShown]; rfl) (by rw [core_applyShown]; rfl) (by rw [core_applyShown]; rfl)
  have apart := (by decide : ∀ f ∈ [F.LOOP_STAT_STATE, F.LOOP_STAT_BAND_SEARCH, F.LOOP_STAT_TANK, F.LOOP_STAT_BAND, F.LOOP_STAT_LOCK,
    F.LOOP_STAT_TUNE_EDGE], [F.LOOP_EVT_APPLY_DONE, F.IRQ_STAT_EVT].all f.apart = true ∧ f.apart F.LOOP_APPLY_RESULT = true) f hf
  rw [applyShown, get_event_apart _ apart.1, get_put_apart _ apart.2, get_setFreeTarget, get_onCore]

theorem Device.get_applyShown (d : Device) (c : Nat) : (d.applyShown c).get F.LOOP_APPLY_RESULT c = 1 ∧
    (d.applyShown c).get F.LOOP_EVT_APPLY_DONE c = 1 ∧ (d.applyShown c).get F.LOOP_APPLY_GO c = d.get F.LOOP_APPLY_GO c := by
  refine ⟨?_, get_event_copy _ (by decide) (by decide) c, ?_⟩
  · rw [applyShown, get_event_apart _ (by decide), get_put]
    rfl
  · rw [applyShown, get_event_apart _ (by decide), get_put_apart _ (by decide), get_setFreeTarget, get_onCore]

theorem Device.applyBegun_loadAlike (d : Device) (c : Fin 16) : d.LoadAlike c (d.applyBegun c) :=
  .of_apply ((d.applyBegun_within c).mono (fun _ hp => hp) (by simp [applyKeys]))

/-- The new settings of a LOOP_APPLY are in force. -/
def Device.applyTaken (d : Device) (c : Nat) (inBand : Bool) : Device :=
  (d.applyBegun c).takeSettings c (d.staged c) (d.is F.LOOP_CTRL_INT_MODE c) none inBand

theorem Device.loopApplyTake_eq {c : Fin 16} {inBand : Bool} (due : d.applyDue c = true) : d.loopApplyTake c inBand =
    match (d.staged c).refusal.orElse (fun _ => d.intRefusal c (d.staged c)) with
    | some r => ((d.applyBegun c).put F.LOOP_APPLY_RESULT c r).endCore c
    | none => ((d.applyTaken c inBand).applyShown c).endCore c := by
  have alike := d.applyBegun_loadAlike c
  have mode : (d.applyBegun c).is F.LOOP_CTRL_INT_MODE c = d.is F.LOOP_CTRL_INT_MODE c :=
    congrArg (· == 1) (alike.get F.LOOP_CTRL_INT_MODE)
  unfold applyTaken
  rw [← alike.staged, ← alike.intRefusal, ← mode]
  exact if_pos due

/-- The keys that change when a LOOP_APPLY takes effect. -/
def appliedKeys (c : Nat) : List Nat := takeKeys c ++ [F.LOOP_APPLY_GO.key c, F.LOOP_APPLY_RESULT.key c] ++ evKeys F.LOOP_EVT_APPLY_DONE c

theorem appliedKeys_pages : ∀ c : Fin 16, ∀ k ∈ appliedKeys c, pageOfKey k ∈ [0x10 + c.val, 0x20, 0x21] := by
  decide

theorem applyReads_notMem : ∀ c : Fin 16, ∀ f ∈ [F.LOOP_APPLY_GO, F.LOOP_APPLY_PHASE_SET, F.LOOP_FREE_PHASE_PHASE],
    f.key c ∉ takeKeys c := by
  decide

theorem Device.applyTaken_within (d : Device) (c : Nat) (inBand : Bool) :
    d.Within [.cores] ([F.LOOP_APPLY_GO.key c] ++ takeKeys c) (d.applyTaken c inBand) :=
  ((d.applyBegun_within c).trans (takeSettings_within _ c _ _ _ _)).mono (by simp) (fun _ hk => hk)

/-- The settings are the staged ones, and the request is no longer pending. -/
theorem Device.core_applyTaken (d : Device) (c : Fin 16) (inBand : Bool) :
    d.KeepsCores c (d.applyTaken c inBand) ∧ ((d.applyTaken c inBand).core c).set = d.staged c ∧
      ((d.applyTaken c inBand).core c).intMode = d.is F.LOOP_CTRL_INT_MODE c ∧ ((d.applyTaken c inBand).core c).applyAt = none := by
  obtain ⟨others, keeps⟩ := (d.applyBegun c).core_takeSettings c (d.staged c) (d.is F.LOOP_CTRL_INT_MODE c) none inBand
  exact ⟨(d.applyBegun_keepsCores c).trans others, keeps.set, keeps.intMode,
    keeps.applyAt.trans (congrArg (·.applyAt) (d.core_applyBegun c))⟩

theorem Device.get_applyTaken (d : Device) (c : Fin 16) (inBand : Bool) : (d.applyTaken c inBand).get F.LOOP_APPLY_GO c = 0 ∧
    (d.applyTaken c inBand).get F.LOOP_APPLY_PHASE_SET c = d.get F.LOOP_APPLY_PHASE_SET c ∧
    (d.applyTaken c inBand).get F.LOOP_FREE_PHASE_PHASE c = d.get F.LOOP_FREE_PHASE_PHASE c := by
  have kept (f : Fld) (hf : f ∈ [F.LOOP_APPLY_GO, F.LOOP_APPLY_PHASE_SET, F.LOOP_FREE_PHASE_PHASE]) :
      (d.applyTaken c inBand).get f c = (d.applyBegun c).get f c :=
    ((d.applyBegun c).takeSettings_within c _ _ _ _).get f c (applyReads_notMem c f hf)
  refine ⟨(kept _ (by simp)).trans (get_put _ _ _ _), (kept _ (by simp)).trans ?_, (kept _ (by simp)).trans ?_⟩
  all_goals
    unfold applyBegun
    rw [get_put_apart _ (by decide), get_onCore]

theorem Device.applyTaken_shown (d : Device) (c : Fin 16) (inBand : Bool) :
    LoadShown c (d.staged c) none inBand d (d.applyTaken c inBand) :=
  (takeSettings_shown (d.applyBegun c) c _ _ _ _).from (d.applyBegun_loadAlike c) (congrArg (·.set) (d.core_applyBegun c))

/-- A command that leads from d to e, at core c, completes with what changes between them. -/
theorem doesWide_atCore {i : Instr} {s : State} {f : Device → Device} {e : Device} {c : Nat} {parts : List Part} {pages : List Nat}
    {post : Device → Prop} (answer : exec i s = .next (s.on f)) (r : s.Running) (run : f s.dev = e)
    (w : s.dev.AtCore c parts pages e) (h : post e) : DoesWide i s parts pages post :=
  ⟨s.on f, answer, s.on_pending f, by rw [s.on_running f r, run]; exact w.parts, by rw [s.on_running f r, run]; exact w.regs,
    by rw [s.on_running f r, run]; exact h⟩

theorem Device.applied_atCore (d : Device) (c : Fin 16) (inBand : Bool) :
    d.AtCore c [.cores] [0x10 + c.val, 0x20, 0x21] ((d.applyTaken c inBand).applyShown c) :=
  .of_within (((d.applyTaken_within c inBand).trans (applyShown_within _ c)).mono (ks' := appliedKeys c) (by simp)
    (by grind [appliedKeys])) (appliedKeys_pages c) ((d.core_applyTaken c inBand).1.trans (applyShown_keepsCores _ c))

section Applied

variable {s : State} {c : Fin 16} {inBand : Bool}

/-- A due LOOP_APPLY with good settings comes into force; what it shows of its band is as for any load. -/
theorem does_applied {shown : Device → Prop} (r : s.Running) (due : s.dev.applyDue c.val = true)
    (good : (s.dev.staged c.val).refusal = none) (mode : s.dev.intRefusal c.val (s.dev.staged c.val) = none)
    (shows : ∀ d, s.dev.LoadShown c (s.dev.staged c) none inBand d → shown d) :
    DoesWide (.loopApplyTakeEffect c inBand) s [.cores, .mbx] ([0x10 + c.val, 0x20, 0x21])
      (fun d => (d.core c.val).set = s.dev.staged c.val ∧ (d.core c.val).intMode = s.dev.is F.LOOP_CTRL_INT_MODE c.val ∧
        (d.core c.val).hasU = true ∧ d.get F.LOOP_APPLY_RESULT c.val = 1 ∧ d.get F.LOOP_EVT_APPLY_DONE c.val = 1 ∧
        (d.core c.val).applyAt = none ∧ d.get F.LOOP_APPLY_GO c.val = 0 ∧ (∀ n, n ≠ c.val → d.core n = s.dev.core n) ∧
        (s.dev.is F.LOOP_APPLY_PHASE_SET c.val = true → (d.core c.val).u =
        roundDiv (s.dev.get F.LOOP_FREE_PHASE_PHASE c.val * (s.dev.staged c.val).dA * (s.dev.staged c.val).modulus) (2 ^ 32)
        % ((s.dev.staged c.val).dA * (s.dev.staged c.val).modulus)) ∧ shown d) := by
  have run : s.dev.loopApplyTake c inBand = ((s.dev.applyTaken c inBand).applyShown c).endCore c := by
    rw [Device.loopApplyTake_eq due, good, mode]
    rfl
  have ends := ((s.dev.applyTaken c inBand).applyShown c).endCore_ends c
  have at' := ((s.dev.applied_atCore c inBand).trans ends.at').mono (ps' := [.cores, .mbx]) (pages' := [0x10 + c.val, 0x20, 0x21])
    (by simp) (by simp)
  obtain ⟨-, set, int, noRequest⟩ := s.dev.core_applyTaken c inBand
  obtain ⟨go, phaseSet, phase⟩ := s.dev.get_applyTaken c inBand
  obtain ⟨result, done, goKept⟩ := (s.dev.applyTaken c inBand).get_applyShown c
  have core := (s.dev.applyTaken c inBand).core_applyShown c
  obtain ⟨setKept, intKept, noRequestKept⟩ := Core.freed_keeps { (s.dev.applyTaken c inBand).core c with sinceApply := 0 }
    ((s.dev.applyTaken c inBand).is F.LOOP_APPLY_PHASE_SET c)
    ((s.dev.applyTaken c inBand).freeStart c ((s.dev.applyTaken c inBand).core c).set)
  obtain ⟨target, fromQ, -⟩ := Core.freed_target { (s.dev.applyTaken c inBand).core c with sinceApply := 0 }
    ((s.dev.applyTaken c inBand).is F.LOOP_APPLY_PHASE_SET c)
    ((s.dev.applyTaken c inBand).freeStart c ((s.dev.applyTaken c inBand).core c).set)
  rw [← core] at setKept intKept noRequestKept target fromQ
  refine doesWide_atCore rfl r run at' ⟨ends.core.set.trans (setKept.trans set), ends.core.intMode.trans (intKept.trans int),
    ends.core.hasU.trans target, (ends.get _ c).trans result, (ends.get _ c).trans done,
    ends.core.applyAt.trans (noRequestKept.trans noRequest), (ends.get _ c).trans (goKept.trans go), at'.others, fun start => ?_,
    shows _ (((s.dev.applyTaken_shown c inBand).to (Device.applyShown_bandAlike _ c)).to ends.bandAlike)⟩
  have starts : (s.dev.applyTaken c inBand).is F.LOOP_APPLY_PHASE_SET c = true := (congrArg (· == 1) phaseSet).trans start
  rw [starts] at fromQ
  rw [(ends.core.u fromQ).1, core, starts, (Core.freed_target _ true _).2.2, Device.freeStart, set, phase]

/-- A due LOOP_APPLY with settings that have become bad is refused at its boundary. -/
theorem does_applyRefused {result : Nat} (r : s.Running) (due : s.dev.applyDue c.val = true)
    (bad : ((s.dev.staged c.val).refusal.orElse (fun _ => s.dev.intRefusal c.val (s.dev.staged c.val))) = some result) :
    DoesWide (.loopApplyTakeEffect c inBand) s [.cores, .mbx] ([0x10 + c.val, 0x20])
      (fun d => d.get F.LOOP_APPLY_RESULT c.val = result % 16 ∧ (d.core c.val).set = (s.dev.core c.val).set ∧
        (d.core c.val).applyAt = none ∧ d.get F.LOOP_APPLY_GO c.val = 0 ∧ (∀ n, n ≠ c.val → d.core n = s.dev.core n)) := by
  have run : s.dev.loopApplyTake c inBand = ((s.dev.applyBegun c).put F.LOOP_APPLY_RESULT c result).endCore c := by
    rw [Device.loopApplyTake_eq due, bad]
  have ends := ((s.dev.applyBegun c).put F.LOOP_APPLY_RESULT c result).endCore_ends c
  have begun : s.dev.AtCore c [.cores] [0x10 + c.val] ((s.dev.applyBegun c).put F.LOOP_APPLY_RESULT c result) :=
    ((Device.AtCore.onCore s.dev _).trans ((Device.AtCore.put _ 0).trans (.put _ result))).mono (by simp) (by simp)
  have at' := (begun.trans ends.at').mono (ps' := [.cores, .mbx]) (pages' := [0x10 + c.val, 0x20]) (by simp) (by simp)
  have core := s.dev.core_applyBegun c
  refine doesWide_atCore rfl r run at' ⟨(ends.get _ c).trans (Device.get_put _ _ _ _), ?_, ?_, ?_, at'.others⟩
  · rw [ends.core.set, Device.core_put, core]
  · rw [ends.core.applyAt, Device.core_put, core]
  · rw [ends.get _ c, Device.get_put_apart _ (by decide), Device.applyBegun, Device.get_put]
    rfl

end Applied

/-! ### LOOP_PHASE_ADJ (R101) -/

theorem bits_23_setBit_31 (x : Nat) : bits (setBit x 31) 23 0 = bits x 23 0 := by
  simp only [setBit, setBits, bits]
  omega

/-- An adjustment of a free core with a target is kept. -/
theorem Device.wrPhaseAdj_of_free {c v : Nat} (isOpen : d.coreClosed c = false) (free : (d.core c).berth = none)
    (target : (d.core c).hasU = true) : d.wrPhaseAdj c (setBit v 31) =
      ((d.put F.LOOP_PHASE_ADJ_STEPS c (bits v 23 0)).put F.LOOP_PHASE_ADJ_GO c 1).onCore c
        (fun k => { k with adj := k.adj ++ [sgn 24 (bits v 23 0)] }) := by
  unfold wrPhaseAdj
  simp [isOpen, bit_setBit_31, bits_23_setBit_31, free, target]

/-- Any other is refused. -/
theorem Device.wrPhaseAdj_of_bound {c v : Nat} (isOpen : d.coreClosed c = false)
    (bound : (d.core c).berth.isSome = true ∨ (d.core c).hasU = false) : d.wrPhaseAdj c (setBit v 31) =
      (d.put F.LOOP_PHASE_ADJ_STEPS c (bits v 23 0)).event F.LOOP_EVT_PA_REFUSED c := by
  unfold wrPhaseAdj
  simp [isOpen, bit_setBit_31, bits_23_setBit_31, bound]

/-- Settles O33: LOOP_APPLY is answered when it is written and again at its boundary, where its settings come into force like those of any
load; an adjustment is kept or refused. -/
theorem freeMode : Obligations.FreeMode := by
  unfold Obligations.FreeMode
  refine ⟨?_, ?_, ?_, ?_, ?_, ?_, ?_, ?_, ?_, ?_, ?_, ?_⟩
  · intro s c v p r isOpen pound good
    subst pound
    refine does_applyAnswered (result := 2) (go := 1) r ?_
    rw [Device.wrLoopApply_eq isOpen, Device.applyPound, good]
  · intro s c v p code r isOpen pound bad
    subst pound
    refine does_applyAnswered (result := code) (go := 0) r ?_
    rw [Device.wrLoopApply_eq isOpen, Device.applyPound, bad]
  · exact fun s c inBand r due good mode idle auto => does_applied r due good mode fun d h => h.searches_of_idle idle auto
  · exact fun s c inBand r due good mode idle manual => does_applied r due good mode fun d h => h.acquiresWritten_of_idle idle manual
  · exact fun s c inBand r due good mode opening => does_applied r due good mode fun d h => h.opens opening
  · exact fun s c inBand r due good mode runs leaves none' manual =>
      does_applied r due good mode fun d h => h.acquiresWritten_of_moves ⟨runs, leaves⟩ none' manual
  · exact fun s c inBand r due good mode warm kept inside => does_applied r due good mode fun d h => h.stays_of warm kept inside
  · exact fun s c inBand p r due good mode runs leaves entry =>
      does_applied r due good mode fun d h => h.presets_of_moves ⟨runs, leaves⟩ entry
  · exact fun s c inBand r due good mode runs leaves none' auto =>
      does_applied r due good mode fun d h => h.searches_of_moves ⟨runs, leaves⟩ none' auto
  · exact fun s c inBand code r due bad => does_applyRefused r due bad
  · intro s c v r isOpen free target
    refine does_within rfl r (Device.wrPhaseAdj_of_free isOpen free target)
      (((Device.Within.put _ _ _ _).trans (.put _ _ _ _)).trans (.onCore _ _ _)) ⟨?_, ?_, ?_, ?_⟩
    · rw [Device.core_onCore_self, Device.core_put, Device.core_put]
    · rw [Device.get_onCore, Device.get_put]
      rfl
    · rw [Device.get_onCore, Device.get_put_apart _ (by decide), Device.get_put]
      exact Nat.mod_eq_of_lt (Nat.mod_lt _ (by decide))
    · exact fun n hn => Device.core_onCore_ne _ _ _ hn
  · intro s c v r isOpen bound
    refine does_within rfl r (Device.wrPhaseAdj_of_bound isOpen bound)
      ((Device.Within.put _ _ _ _).trans (.eventBit _ F.LOOP_EVT_PA_REFUSED c 0)) ⟨?_, ?_⟩
    · exact Device.get_event_copy _ (by decide) (by decide) _
    · rw [Device.get_event_apart _ (by decide), Device.get_put]
      exact Nat.mod_eq_of_lt (Nat.mod_lt _ (by decide))

end Sys2Proof.Machine
end

section
/-! Loads of a core at a boundary: the load that is due, and what each kind of load brings (R98, R115, R118, R124, R159). -/

namespace Sys2Proof.Machine

variable {a b d e : Device} {c : Fin 16} {l : Load} {rest : List Load} {inBand : Bool}

/-! ### The load that is due -/

/-- The loads that still wait. -/
def Device.loadsLeft (d : Device) (rest : List Load) : Device := { d with loads := rest }

theorem Device.loadsLeft_within (d : Device) (rest : List Load) : d.Within [.loads] [] (d.loadsLeft rest) :=
  .of_part .loads (fun q hq => by cases q with | loads => exact absurd rfl hq | _ => rfl) rfl

/-- The boundary of a core ends when no other load of it is due. -/
def Device.boundaryEnd (d : Device) (c : Nat) : Device := if d.loadDue c then d else d.endCore c

theorem Device.boundaryEnd_ends (d : Device) (c : Fin 16) : d.Ends c (d.boundaryEnd c) := .ite (.refl d) (d.endCore_ends c)

theorem Device.coreLoad_of_due (stands : d.changeDue (c / 2) = false) (due : d.takeDue c d.loads = some (l, rest)) :
    d.coreLoad c inBand = ((d.loadsLeft rest).takeLoad c l inBand).boundaryEnd c := by
  unfold coreLoad
  rw [stands, due]
  rfl

theorem Device.coreLoad_of_none (h : d.changeDue (c / 2) = true ∨ d.takeDue c d.loads = none) : d.coreLoad c inBand = d := by
  unfold coreLoad
  obtain h | h := h
  · exact if_pos h
  · rw [h]
    exact ite_self d

/-- The row of a due load: it takes effect as e, which ends its boundary. -/
theorem does_load {s : State} {parts parts' : List Part} {pages pages' : List Nat} {post : Device → Prop} (r : s.Running)
    (stands : s.dev.changeDue (c / 2) = false) (due : s.dev.takeDue c s.dev.loads = some (l, rest))
    (took : (s.dev.loadsLeft rest).takeLoad c l inBand = e) (w : (s.dev.loadsLeft rest).AtCore c parts pages e)
    (h : ∀ b, e.Ends c b → b.loads = rest → s.dev.KeepsCores c b → post b) (hl : .loads ∉ parts := by decide)
    (hp : ∀ p ∈ [.loads] ++ (parts ++ [.cores, .mbx]), p ∈ parts' := by simp)
    (hg : ∀ g ∈ pages ++ [0x10 + c.val, 0x20], g ∈ pages' := by simp) : DoesWide (.coreLoad c inBand) s parts' pages' post := by
  have ends := e.boundaryEnd_ends c
  have left : s.dev.AtCore c [.loads] [] (s.dev.loadsLeft rest) :=
    .of_within (s.dev.loadsLeft_within rest) (fun _ hk => nomatch hk) (.of_cores rfl)
  have at' := (left.trans (w.trans ends.at')).mono hp hg
  refine doesWide_atCore rfl r (by rw [Device.coreLoad_of_due stands due, took]) at' (h _ ends ?_ at'.others)
  have kept : e.loads = rest := w.parts .loads hl
  have ended : (e.boundaryEnd c).loads = e.loads := ends.at'.parts .loads (by decide)
  exact ended.trans kept

/-! ### Loads of settings in bound mode (R98) -/

/-- A frequency load in bound mode: the trajectory and the settings derived from it. -/
def Device.boundTaken (d : Device) (c : Nat) (l : Load) (inBand : Bool) : Device :=
  (d.loadFrame c l).takeSettings c (d.derived c l.f) false (d.commitLookup c l) inBand

/-- The definition is unfolded by an equation between functions: unfolded at its arguments, the kernel would evaluate the settings that
`Device.derived` computes to see which branch of the match is taken. -/
theorem Device.boundLoad_eq (d : Device) (c : Nat) (l : Load) (inBand : Bool) : d.boundLoad c l inBand =
    (d.derived c l.f).refusal.elim (d.boundTaken c l inBand) (fun _ => (d.event F.LOOP_EVT_LOAD_REFUSED c).report 3 0 6 c) := by
  have unfolded : Device.boundLoad = Device.boundLoad := rfl
  conv at unfolded => rhs; delta Device.boundLoad
  rw [unfolded]
  unfold boundTaken
  dsimp only
  generalize (d.derived c l.f).refusal = refusal?
  cases refusal? with
  | none => rfl
  | some _ => rfl

theorem Device.boundLoad_of_good (good : (d.derived c l.f).refusal = none) : d.boundLoad c l inBand = d.boundTaken c l inBand := by
  rw [boundLoad_eq, good, Option.elim_none]

theorem Device.boundLoad_of_bad (bad : (d.derived c l.f).refusal.isSome = true) :
    d.boundLoad c l inBand = (d.event F.LOOP_EVT_LOAD_REFUSED c).report 3 0 6 c := by
  obtain ⟨code, refused⟩ := Option.isSome_iff_exists.mp bad
  rw [boundLoad_eq, refused, Option.elim_some]

theorem Device.LoadAlike.of_fields (fields : b.fields = a.fields) (bandMap : b.bandMap = a.bandMap) (bandEpoch : b.bandEpoch = a.bandEpoch) :
    a.LoadAlike c b :=
  ⟨fun f _ => get_of_fields fields f c, get_of_fields fields _ _, get_of_fields fields _ _, get_of_fields fields _ _, bandMap, bandEpoch⟩

theorem Device.core_loadFrame (d : Device) (c : Nat) (l : Load) :
    (d.loadFrame c l).core c = { d.core c with phi := phaseAt l.a l.phi l.f d.tow.pound, f := l.f } := core_onCore_self _ _ _

theorem Device.boundTaken_atCore (d : Device) (c : Fin 16) (l : Load) (inBand : Bool) :
    d.AtCore c [.cores] [0x10 + c.val, 0x20, 0x21] (d.boundTaken c l inBand) :=
  ((AtCore.onCore d _).trans (.of_within (takeSettings_within _ c _ _ _ _) (takeKeys_pages c)
    (core_takeSettings _ c _ _ _ _).1)).mono (by simp) (by simp)

/-- The core has the trajectory and the settings of the load. -/
theorem Device.core_boundTaken (d : Device) (c : Fin 16) (l : Load) (inBand : Bool) : Core.LoadsAs { d.core c with
    phi := phaseAt l.a l.phi l.f d.tow.pound, f := l.f, set := d.derived c l.f, intMode := false } ((d.boundTaken c l inBand).core c) := by
  obtain ⟨-, keeps⟩ := (d.loadFrame c l).core_takeSettings c (d.derived c l.f) false (d.commitLookup c l) inBand
  rwa [core_loadFrame] at keeps

theorem Device.boundTaken_shown (d : Device) (c : Fin 16) (l : Load) (inBand : Bool) :
    LoadShown c (d.derived c l.f) (d.commitLookup c l) inBand d (d.boundTaken c l inBand) :=
  (takeSettings_shown _ c _ _ _ _).from (.of_fields rfl rfl rfl) (congrArg (·.set) (d.core_loadFrame c l))

/-- Core c of b, at a before, has made the load l of settings in bound mode. -/
structure Device.BoundLoaded (c : Nat) (l : Load) (inBand : Bool) (a b : Device) : Prop where
  phi : (b.core c).phi = phaseAt l.a l.phi l.f a.tow.pound
  f : (b.core c).f = l.f
  set : (b.core c).set = a.derived c l.f
  shown : a.LoadShown c (a.derived c l.f) (a.commitLookup c l) inBand b

theorem Device.boundTaken_loaded (d : Device) (c : Fin 16) (l : Load) (inBand : Bool) :
    d.BoundLoaded c l inBand (d.boundTaken c l inBand) :=
  have core := d.core_boundTaken c l inBand
  ⟨core.phi, core.f, core.set, d.boundTaken_shown c l inBand⟩

/-- The loads that wait do not bear on a load. -/
theorem Device.BoundLoaded.of_loadsLeft (h : (a.loadsLeft rest).BoundLoaded c l inBand b) : a.BoundLoaded c l inBand b :=
  ⟨h.phi, h.f, h.set, h.shown.from (.of_fields rfl rfl rfl) rfl⟩

theorem Device.BoundLoaded.ends (h : a.BoundLoaded c l inBand b) (k : b.Ends c e) : a.BoundLoaded c l inBand e :=
  ⟨k.core.phi.trans h.phi, k.core.f.trans h.f, k.core.set.trans h.set, h.shown.to k.bandAlike⟩

/-- The row of a load of good settings in bound mode. -/
theorem does_boundLoad {s : State} {post : Device → Prop} (r : s.Running) (stands : s.dev.changeDue (c / 2) = false)
    (due : s.dev.takeDue c s.dev.loads = some (l, rest))
    (took : (s.dev.loadsLeft rest).takeLoad c l inBand = (s.dev.loadsLeft rest).boundLoad c l inBand)
    (good : (s.dev.derived c l.f).refusal = none)
    (h : ∀ b, s.dev.BoundLoaded c l inBand b → b.loads = rest → s.dev.KeepsCores c b → post b) :
    DoesWide (.coreLoad c inBand) s [.cores, .loads, .mbx] ([0x10 + c.val, 0x20, 0x21]) post :=
  does_load r stands due (took.trans (Device.boundLoad_of_good good)) (Device.boundTaken_atCore _ c l inBand)
    fun b ends loads others => h b ((Device.boundTaken_loaded _ c l inBand).of_loadsLeft.ends ends) loads others

/-- The row of a load of settings out of range. -/
theorem does_refusedLoad {s : State} (r : s.Running) (stands : s.dev.changeDue (c / 2) = false)
    (due : s.dev.takeDue c s.dev.loads = some (l, rest))
    (took : (s.dev.loadsLeft rest).takeLoad c l inBand = (s.dev.loadsLeft rest).boundLoad c l inBand)
    (bad : (s.dev.derived c l.f).refusal.isSome = true) :
    DoesWide (.coreLoad c inBand) s [.cores, .loads, .mbx, .flt] ([0x10 + c.val, 0x20, 0xA])
      (fun d => (d.core c.val).set = (s.dev.core c.val).set ∧ (d.core c.val).f = (s.dev.core c.val).f ∧
        (d.core c.val).phi = (s.dev.core c.val).phi ∧ d.get F.LOOP_EVT_LOAD_REFUSED c.val = 1 ∧ d.loads = rest ∧
        (∀ n, n ≠ c.val → d.core n = s.dev.core n) ∧ s.dev.Reported d 3 0 6 c.val) := by
  have event : (s.dev.loadsLeft rest).Leaves [F.LOOP_EVT_LOAD_REFUSED, F.IRQ_STAT_EVT]
    ((s.dev.loadsLeft rest).event F.LOOP_EVT_LOAD_REFUSED c) := .event _ _ _ _
  have core (n : Nat) : (((s.dev.loadsLeft rest).event F.LOOP_EVT_LOAD_REFUSED c).report 3 0 6 c).core n = s.dev.core n :=
    (Device.core_report _ _ _ _ _ n).trans (Device.core_event _ _ _ n)
  have reported : s.dev.Reported (((s.dev.loadsLeft rest).event F.LOOP_EVT_LOAD_REFUSED c).report 3 0 6 c) 3 0 6 c :=
    Device.reported_report rfl (event _ (by decide) 0)
  refine does_load r stands due (took.trans (Device.boundLoad_of_bad bad)) ((Device.AtCore.event _).trans (.report _ 3 0 6 c))
    fun b ends loads others => ⟨?_, ?_, ?_, ?_, loads, others, reported.of_kept (ends.at'.parts .flt (by decide)) (ends.get _ 0) (ends.get _ 0)⟩
  · rw [ends.core.set, core]
  · rw [ends.core.f, core]
  · rw [ends.core.phi, core]
  · rw [ends.get _ c, Device.get_report_apart _ (by decide), Device.get_event_copy _ (by decide) (by decide)]

/-! ### What the kinds of load bring (R115, R125, R159) -/

section Kinds

/-- The load is for an open core that records its Berth. -/
structure Device.Meant (d : Device) (c : Nat) (l : Load) : Prop where
  isOpen : d.coreClosed c = false
  ours : (d.core c).berth = some l.berth

theorem Device.Meant.loadsLeft (h : d.Meant c l) (rest : List Load) : (d.loadsLeft rest).Meant c l := ⟨h.isOpen, h.ours⟩

variable (m : d.Meant c l)
include m

theorem Device.takeLoad_of_phase (kind : l.kind = .phase) : d.takeLoad c l inBand = d.loadFrame c l := by
  simp [takeLoad, kind, m.isOpen, m.ours]

theorem Device.takeLoad_of_warmEmit (kind : l.kind = .emit) (warm : d.coreCold c = false) :
    d.takeLoad c l inBand = d.loadFrame c l := by
  simp [takeLoad, kind, m.isOpen, m.ours, warm]

theorem Device.takeLoad_of_addPhase (kind : l.kind = .addPhase) :
    d.takeLoad c l inBand = d.onCore c (fun k => { k with phi := k.phi + l.phi }) := by
  simp [takeLoad, kind, m.isOpen, m.ours]

theorem Device.takeLoad_of_freq (kind : l.kind = .freq ∨ l.kind = .retune ∨ (l.kind = .emit ∧ d.coreCold c = true)) :
    d.takeLoad c l inBand = d.boundLoad c l inBand := by
  obtain kind | kind | ⟨kind, cold⟩ := kind
  · simp [takeLoad, kind, m.isOpen, m.ours]
  · simp [takeLoad, kind, m.isOpen, m.ours]
  · simp [takeLoad, kind, m.isOpen, m.ours, cold]

theorem Device.takeLoad_of_hop (kind : l.kind = .hop) (good : (d.derived c l.f).refusal = none) :
    d.takeLoad c l inBand = (d.boundTaken c l inBand).onCore c (fun k => { k with hopTarget := true }) := by
  rw [← boundLoad_of_good good]
  simp [takeLoad, kind, m.isOpen, m.ours, good, Device.when]

theorem Device.takeLoad_of_park (kind : l.kind = .park) (standby : d.activeCore (c / 2) ≠ c) :
    d.takeLoad c l inBand = d.boundLoad c l inBand := by
  simp [takeLoad, kind, m.isOpen, m.ours, standby]

end Kinds

theorem Device.takeLoad_of_parkActive (kind : l.kind = .park) (active : d.activeCore (c / 2) = c) :
    d.takeLoad c l inBand = (d.eventBit F.COUT_HOP_EVT_CANCELLED 0 (c / 2)).report 4 0 2 (c / 2) := by
  simp [takeLoad, kind, active]

/-- The keys of a binding. -/
def bindingKeys (c : Nat) : List Nat :=
  [F.LOOP_APPLY_RESULT.key c, F.LOOP_APPLY_GO.key c, F.LOOP_STAT_BOUND.key c, F.LOOP_STAT_INT_ACTIVE.key c]

theorem bindingKeys_pages : ∀ c : Fin 16, ∀ k ∈ bindingKeys c, pageOfKey k ∈ [0x10 + c.val] := by
  decide

theorem Device.cancelApply_within (d : Device) (c : Nat) :
    d.Within [.cores] [F.LOOP_APPLY_RESULT.key c, F.LOOP_APPLY_GO.key c] (d.cancelApply c) := by
  unfold cancelApply
  exact .ite (((Within.put d _ _ _).trans (.put _ _ _ _)).trans (.onCore _ _ _)) (.refl d)

theorem Device.cancelApply_keepsCores (d : Device) (c : Nat) : d.KeepsCores c (d.cancelApply c) := by
  unfold cancelApply
  exact .ite (((KeepsCores.put d _ _ _).trans (.put _ _ _ _)).trans (.onCore _ _)) (.of_cores rfl)

theorem Device.core_cancelApply (d : Device) (c : Nat) : ∃ applyAt, (d.cancelApply c).core c = { d.core c with applyAt } := by
  unfold cancelApply
  split
  · exact ⟨none, core_onCore_self _ _ _⟩
  · exact ⟨_, rfl⟩

theorem Device.recordBinding_within (d : Device) (c berth : Nat) : d.Within [.cores] (bindingKeys c) (d.recordBinding c berth) := by
  unfold recordBinding
  exact ((((d.cancelApply_within c).trans (.put _ _ _ _)).trans (.put _ _ _ _)).trans (.onCore _ _ _)).mono (by simp)
    (by simp [bindingKeys])

theorem Device.recordBinding_atCore (d : Device) (c : Fin 16) (berth : Nat) :
    d.AtCore c [.cores] [0x10 + c.val] (d.recordBinding c berth) := by
  refine .of_within (d.recordBinding_within c berth) (bindingKeys_pages c) ?_
  unfold recordBinding
  exact (((d.cancelApply_keepsCores c).trans (.put _ _ _ _)).trans (.put _ _ _ _)).trans (.onCore _ _)

/-- The core records the Berth, and its modulator runs. -/
theorem Device.core_recordBinding (d : Device) (c berth : Nat) :
    ∃ applyAt, (d.recordBinding c berth).core c = { d.core c with applyAt, berth := some berth, intMode := false } := by
  obtain ⟨applyAt, core⟩ := d.core_cancelApply c
  exact ⟨applyAt, by rw [recordBinding, core_onCore_self, core_put, core_put, core]⟩

theorem Device.get_bound_recordBinding (d : Device) (c berth : Nat) : (d.recordBinding c berth).get F.LOOP_STAT_BOUND c = 1 := by
  rw [recordBinding, get_onCore, get_put_apart _ (by decide), get_put]
  rfl

theorem blockState_notMem : ∀ c : Fin 16, F.CLK_BLK_STAT_STATE.key (64 + c) ∉ bindingKeys c := by
  decide

theorem Device.coreClosed_recordBinding (d : Device) (c : Fin 16) (berth : Nat) :
    (d.recordBinding c berth).coreClosed c = d.coreClosed c := by
  unfold coreClosed blockClosed
  rw [(d.recordBinding_within c berth).get _ _ (blockState_notMem c)]

theorem Device.takeLoad_of_record (kind : l.kind = .record ∨ (l.kind = .bind ∧ d.coreClosed c = true)) :
    d.takeLoad c l inBand = d.recordBinding c l.berth := by
  obtain kind | ⟨kind, closed⟩ := kind
  · simp [takeLoad, kind]
  · simp [takeLoad, kind, coreClosed_recordBinding, closed]

theorem Device.takeLoad_of_bind (kind : l.kind = .bind) (isOpen : d.coreClosed c = false) :
    d.takeLoad c l inBand = (d.recordBinding c l.berth).boundLoad c l inBand := by
  simp [takeLoad, kind, coreClosed_recordBinding, isOpen]

theorem Device.takeLoad_of_release (kind : l.kind = .release) (ours : (d.core c).berth = some l.berth) :
    d.takeLoad c l inBand = d.releaseCore c := by
  simp [takeLoad, kind, ours]

/-- A closed core, and one that records another Berth, takes nothing from a load. -/
theorem Device.takeLoad_of_other (kind : l.kind ∈ [LoadKind.freq, .retune, .emit, .phase, .addPhase, .hop])
    (other : d.coreClosed c = true ∨ (d.core c).berth ≠ some l.berth) : d.takeLoad c l inBand = d := by
  have passes : (d.coreClosed c || !((d.core c).berth == some l.berth)) = true := by
    simpa using other
  simp only [List.mem_cons, List.not_mem_nil, or_false] at kind
  obtain kind | kind | kind | kind | kind | kind := kind <;> simp [takeLoad, kind, passes]

end Sys2Proof.Machine
end

section
/-! Settings derived from a frame frequency, the entry of a band map, and O32 (R82, R83, R98, R117, R118, R124, R159). -/

namespace Sys2Proof.Machine

variable {a b d e : Device} {c : Fin 16} {l : Load} {rest : List Load} {inBand : Bool}

/-! ### Derived settings (R98) -/

/-- A remainder below 2^67 keeps its rounded share of m within m. -/
theorem roundDiv_share_le {r m : Nat} (h : r < 2 ^ 67) : roundDiv (r * m) (2 ^ 67) ≤ m := by
  have share : r * m ≤ 2 ^ 67 * m := Nat.mul_le_mul_right m h.le
  unfold roundDiv
  generalize r * m = x at share ⊢
  omega

/-- The ratio is rounded as a whole. -/
theorem roundDiv_ratio (x m : Nat) :
    x / 2 ^ 67 * m + roundDiv (x % 2 ^ 67 * m) (2 ^ 67) = (2 * (x * m) + 2 ^ 67) / 2 ^ 68 := by
  have parts : x * m = 2 ^ 67 * (x / 2 ^ 67 * m) + x % 2 ^ 67 * m := by
    conv_lhs => rw [← Nat.div_add_mod x (2 ^ 67), Nat.add_mul, Nat.mul_assoc]
  unfold roundDiv
  rw [parts]
  generalize x / 2 ^ 67 * m = y
  generalize x % 2 ^ 67 * m = z
  omega

/-- The settings derived from a frequency hold D_A, D_B and MOD, and the ratio to the nearest 1 / MOD. -/
theorem deriveSettings_spec (f : Freq) (dA dB : Nat) {m : Nat} (hm : 0 < m) :
    (deriveSettings f dA dB m).modulus = m ∧ (deriveSettings f dA dB m).dA = dA ∧ (deriveSettings f dA dB m).dB = dB ∧
      (deriveSettings f dA dB m).num < m ∧
      (deriveSettings f dA dB m).n * m + (deriveSettings f dA dB m).num = (2 * (f.toNat * dA * m) + 2 ^ 67) / 2 ^ 68 := by
  have small := roundDiv_share_le (m := m) (Nat.mod_lt (f.toNat * dA) (show 0 < 2 ^ 67 by positivity))
  have ratio := roundDiv_ratio (f.toNat * dA) m
  unfold deriveSettings
  extract_lets x n num
  split
  next whole =>
    refine ⟨rfl, rfl, rfl, hm, ?_⟩
    calc (n + 1) * m + 0
      _ = n * m + num := by rw [whole]; ring
      _ = _ := ratio
  next below => exact ⟨rfl, rfl, rfl, lt_of_le_of_ne small below, ratio⟩

theorem Device.modReg_pos (d : Device) (c : Nat) : 0 < d.modReg c := by
  unfold modReg
  extract_lets m
  split
  · positivity
  · omega

theorem Device.derived_spec (d : Device) (c : Nat) (f : Freq) :
    (d.derived c f).modulus = d.modReg c ∧ (d.derived c f).dA = d.dAReg c ∧ (d.derived c f).dB = d.get F.LOOP_OUTDIV_DIV_B c + 1 ∧
      (d.derived c f).num < d.modReg c ∧
      (d.derived c f).n * d.modReg c + (d.derived c f).num = (2 * (f.toNat * d.dAReg c * d.modReg c) + 2 ^ 67) / 2 ^ 68 :=
  deriveSettings_spec f _ _ (d.modReg_pos c)

/-! ### The entry of a band map (R117, R118) -/

theorem Device.bandCovers_of {c e key : Nat} (h : bit (d.bandWord c e 0) 31 = true ∧ bits (d.bandWord c e 1) 20 0 ≤ key ∧
    key ≤ bits (d.bandWord c e 2) 20 0) : d.bandCovers c e key = true := by
  obtain ⟨valid, low, high⟩ := h
  simp [bandCovers, valid, low, high]

/-- The entry that words 0 and 3 of an entry hold. -/
def presetOf (w0 w3 : Nat) : Preset :=
  { tank := bits w0 30 30, band := bits w0 29 22, tune := bits w0 21 10, tempCal := sgn 8 (bits w3 31 24), tc := sgn 8 (bits w3 23 16) }

/-- The lookup finds the first entry that covers the ratio. -/
theorem Device.bandLookup_of_first {c : Nat} {s : Settings} {e : Fin 64} (enabled : bit (d.get F.COUT_BANDMAP_CTRL_MAP_EN) c = true)
    (covers : d.bandCovers c e (s.rate * 2 ^ 16 / s.modulus) = true)
    (first : (List.range e.val).all (fun (i : Nat) => !d.bandCovers c i (s.rate * 2 ^ 16 / s.modulus)) = true) :
    d.bandLookup c s = some (presetOf (d.bandWord c e 0) (d.bandWord c e 3)) := by
  have found : (List.range 64).find? (fun i => d.bandCovers c i (s.rate * 2 ^ 16 / s.modulus)) = some e.val :=
    List.find?_range_eq_some.mpr ⟨covers, List.mem_range.mpr e.isLt,
      fun j hj => List.all_eq_true.mp first j (List.mem_range.mpr hj)⟩
  unfold bandLookup
  rw [if_pos enabled, found]
  rfl

/-! ### The rows -/

/-- A command that leads from the device to itself does not occur. -/
theorem idles_of_same {i : Instr} {s : State} {f : Device → Device} (answer : exec i s = .next (s.on f)) (r : s.Running)
    (same : f s.dev = s.dev) : Idles i s := by
  have stays : s.on f = s := by
    rw [State.on, if_neg (by rw [r]; decide), same]
  exact answer.trans (congrArg Host.Outcome.next stays)

/-- An entry found at the commit is what a load of it shows. -/
theorem Device.BoundLoaded.presets {p : Preset} (h : a.BoundLoaded c l inBand b) (runs : 2 ≤ a.coreState c)
    (commit : a.commitLookup c l = some (some p)) : a.Presets c p b := by
  have shown := h.shown
  rw [commit] at shown
  exact shown.presets (loadFound_of_commit runs)

/-- The mark of a hop does not bear on what a load shows. -/
theorem Device.BoundLoaded.hopTarget (h : a.BoundLoaded c l inBand b) :
    a.BoundLoaded c l inBand (b.onCore c (fun k => { k with hopTarget := true })) := by
  have core : (b.onCore c (fun k => { k with hopTarget := true })).core c = { b.core c with hopTarget := true } := core_onCore_self _ _ _
  refine ⟨?_, ?_, ?_, h.shown.to (.of_reads (fun f _ => get_onCore _ _ _ _ _) (by rw [core]) (by rw [core]) (by rw [core]))⟩
  · rw [core]
    exact h.phi
  · rw [core]
    exact h.f
  · rw [core]
    exact h.set

theorem loadReads_notMem_binding : ∀ c : Fin 16, ∀ f ∈ loadReads, f.key c ∉ bindingKeys c := by
  decide

theorem sharedReads_notMem_binding : ∀ c : Fin 16, ∀ f ∈ [F.COUT_BANDMAP_CTRL_MAP_EN, F.COUT_BANDMAP_CTRL_TEMP_COMP, F.SYS_TEMP_NOW],
    f.key 0 ∉ bindingKeys c := by
  decide

theorem Device.recordBinding_loadAlike (d : Device) (c : Fin 16) (berth : Nat) : d.LoadAlike c (d.recordBinding c berth) :=
  .of_within (d.recordBinding_within c berth) (by decide) (loadReads_notMem_binding c) (sharedReads_notMem_binding c)

theorem bound_notMem : ∀ c : Fin 16, F.LOOP_STAT_BOUND.key c ∉ takeKeys c := by
  decide

/-- BOUND stays at a load of settings. -/
theorem Device.get_bound_boundTaken (d : Device) (c : Fin 16) (l : Load) (inBand : Bool) :
    (d.boundTaken c l inBand).get F.LOOP_STAT_BOUND c = d.get F.LOOP_STAT_BOUND c :=
  (takeSettings_within (d.loadFrame c l) c _ _ _ _).get _ _ (bound_notMem c)

section Rows

variable {s : State} (r : s.Running) (stands : s.dev.changeDue (c / 2) = false)
  (due : s.dev.takeDue c s.dev.loads = some (l, rest))
include r stands due

/-- A load of the frame alone: the trajectory at the present pound. -/
theorem does_frameLoad (took : (s.dev.loadsLeft rest).takeLoad c l inBand = (s.dev.loadsLeft rest).loadFrame c l) :
    DoesWide (.coreLoad c inBand) s [.cores, .loads, .mbx] ([0x10 + c.val, 0x20])
      (fun d => (d.core c.val).phi = phaseAt l.a l.phi l.f s.dev.tow.pound ∧ (d.core c.val).f = l.f ∧
        (d.core c.val).set = (s.dev.core c.val).set ∧ d.loads = rest ∧ (∀ n, n ≠ c.val → d.core n = s.dev.core n)) := by
  have core := (s.dev.loadsLeft rest).core_loadFrame c l
  refine does_load r stands due took (.onCore _ _) fun b ends loads others => ⟨?_, ?_, ?_, loads, others⟩
  · rw [ends.core.phi, core]
    rfl
  · rw [ends.core.f, core]
  · rw [ends.core.set, core]
    rfl

/-- A record, or the binding of a closed core. -/
theorem does_recordLoad (took : (s.dev.loadsLeft rest).takeLoad c l inBand = (s.dev.loadsLeft rest).recordBinding c l.berth) :
    DoesWide (.coreLoad c inBand) s [.cores, .loads, .mbx] ([0x10 + c.val, 0x20])
      (fun d => (d.core c.val).berth = some l.berth ∧ d.get F.LOOP_STAT_BOUND c.val = 1 ∧ (d.core c.val).intMode = false ∧
        (d.core c.val).set = (s.dev.core c.val).set ∧ d.loads = rest ∧ (∀ n, n ≠ c.val → d.core n = s.dev.core n)) := by
  obtain ⟨applyAt, core⟩ := (s.dev.loadsLeft rest).core_recordBinding c l.berth
  refine does_load r stands due took (Device.recordBinding_atCore _ c _) fun b ends loads others =>
    ⟨?_, (ends.get _ c).trans (Device.get_bound_recordBinding _ _ _), ?_, ?_, loads, others⟩
  · rw [ends.core.berth, core]
  · rw [ends.core.intMode, core]
  · rw [ends.core.set, core]
    rfl

/-- A frequency load with good settings; what it shows of its band is as for any load. -/
theorem does_freqLoad {shown : Device → Prop} (kind : l.kind = .freq ∨ (l.kind = .emit ∧ s.dev.coreCold c.val = true))
    (isOpen : s.dev.coreClosed c.val = false) (ours : (s.dev.core c.val).berth = some l.berth)
    (good : (s.dev.derived c.val l.f).refusal = none)
    (shows : ∀ d, s.dev.LoadShown c (s.dev.derived c l.f) none inBand d → shown d) :
    DoesWide (.coreLoad c inBand) s [.cores, .loads, .mbx] ([0x10 + c.val, 0x20, 0x21])
      (fun d => (d.core c.val).phi = phaseAt l.a l.phi l.f s.dev.tow.pound ∧ (d.core c.val).f = l.f ∧
        (d.core c.val).set = s.dev.derived c.val l.f ∧ d.loads = rest ∧ (∀ n, n ≠ c.val → d.core n = s.dev.core n) ∧ shown d) := by
  have plain : s.dev.commitLookup c l = none := by
    obtain kind | ⟨kind, -⟩ := kind <;> simp [Device.commitLookup, kind]
  have m : s.dev.Meant c l := ⟨isOpen, ours⟩
  have took := Device.takeLoad_of_freq (inBand := inBand) (m.loadsLeft rest) (kind.imp_right .inr)
  refine does_boundLoad r stands due took good fun b h loads others => ⟨h.phi, h.f, h.set, loads, others, shows b ?_⟩
  exact plain ▸ h.shown

/-- A load of a core that recorded another Berth, or is closed. -/
theorem does_otherLoad (kind : l.kind ∈ [LoadKind.freq, .retune, .emit, .phase, .addPhase, .hop])
    (other : s.dev.coreClosed c.val = true ∨ (s.dev.core c.val).berth ≠ some l.berth) :
    DoesWide (.coreLoad c inBand) s [.cores, .loads, .mbx] ([0x10 + c.val, 0x20])
      (fun d => (d.core c.val).phi = (s.dev.core c.val).phi ∧ (d.core c.val).f = (s.dev.core c.val).f ∧
        (d.core c.val).set = (s.dev.core c.val).set ∧ (d.core c.val).berth = (s.dev.core c.val).berth ∧ d.loads = rest ∧
        (∀ n, n ≠ c.val → d.core n = s.dev.core n)) :=
  does_load (parts := []) (pages := []) r stands due (Device.takeLoad_of_other kind other) (.refl _) fun _ ends loads others =>
    ⟨ends.core.phi, ends.core.f, ends.core.set, ends.core.berth, loads, others⟩

/-- A release of the Berth that the core records. -/
theorem does_releaseLoad (kind : l.kind = .release) (ours : (s.dev.core c.val).berth = some l.berth) :
    DoesWide (.coreLoad c inBand) s [.cores, .loads, .mbx] ([0x10 + c.val, 0x20])
      (fun d => (d.core c.val).berth = none ∧ d.get F.LOOP_STAT_BOUND c.val = 0 ∧ (d.core c.val).hasU = true ∧
        (d.core c.val).set = (s.dev.core c.val).set ∧ d.loads = rest ∧ (∀ n, n ≠ c.val → d.core n = s.dev.core n)) := by
  have core : ((s.dev.loadsLeft rest).releaseCore c).core c =
      { s.dev.core c with berth := none, hasU := true, uFromQ := true, hopTarget := false } := Device.core_onCore_self _ _ _
  refine does_load r stands due (Device.takeLoad_of_release kind ours) ((Device.AtCore.put _ 0).trans (.onCore _ _))
    fun b ends loads others => ⟨?_, ?_, ?_, ?_, loads, others⟩
  · rw [ends.core.berth, core]
  · rw [ends.get _ c, Device.releaseCore, Device.get_onCore, Device.get_put]
    rfl
  · rw [ends.core.hasU, core]
  · rw [ends.core.set, core]

/-- A load for the standby of a twin, whose core is active at the boundary. -/
theorem does_parkActive (kind : l.kind = .park) (active : s.dev.activeCore (c.val / 2) = c.val) :
    DoesWide (.coreLoad c inBand) s [.cores, .loads, .mbx, .flt] ([0x10 + c.val, 0x20, 0xA])
      (fun d => d.get F.COUT_HOP_EVT_CANCELLED = setBits (s.dev.get F.COUT_HOP_EVT_CANCELLED) (c.val / 2) (c.val / 2) 1 % 2 ^ 8 ∧
        (d.core c.val).set = (s.dev.core c.val).set ∧ (d.core c.val).f = (s.dev.core c.val).f ∧ d.loads = rest ∧
        (∀ n, n ≠ c.val → d.core n = s.dev.core n) ∧ s.dev.Reported d 4 0 2 (c.val / 2)) := by
  have event : (s.dev.loadsLeft rest).Leaves [F.COUT_HOP_EVT_CANCELLED, F.IRQ_STAT_EVT]
    ((s.dev.loadsLeft rest).eventBit F.COUT_HOP_EVT_CANCELLED 0 (c / 2)) := .event _ _ _ _
  have at' : (s.dev.loadsLeft rest).AtCore c [] [0x20] ((s.dev.loadsLeft rest).eventBit F.COUT_HOP_EVT_CANCELLED 0 (c / 2)) :=
    .of_within (.eventBit _ _ _ _) (by decide) (.of_cores rfl)
  have core (n : Nat) : (((s.dev.loadsLeft rest).eventBit F.COUT_HOP_EVT_CANCELLED 0 (c / 2)).report 4 0 2 (c / 2)).core n =
      s.dev.core n := (Device.core_report _ _ _ _ _ n).trans (Device.core_eventBit _ _ _ _ n)
  have reported : s.dev.Reported (((s.dev.loadsLeft rest).eventBit F.COUT_HOP_EVT_CANCELLED 0 (c / 2)).report 4 0 2 (c / 2)) 4 0 2 (c / 2) :=
    Device.reported_report rfl (event _ (by decide) 0)
  refine does_load r stands due (Device.takeLoad_of_parkActive kind active) (at'.trans (.report _ 4 0 2 (c / 2)))
    fun b ends loads others => ⟨?_, ?_, ?_, loads, others, reported.of_kept (ends.at'.parts .flt (by decide)) (ends.get _ 0) (ends.get _ 0)⟩
  · rw [ends.get _ 0, Device.get_report_apart _ (by decide), Device.eventBit, Device.irqStat, Device.get_put_apart _ (by decide),
      Device.get_put]
    rfl
  · rw [ends.core.set, core]
  · rw [ends.core.f, core]

/-- The binding of an open core with good settings. -/
theorem does_bindLoad (kind : l.kind = .bind) (isOpen : s.dev.coreClosed c.val = false) (good : (s.dev.derived c.val l.f).refusal = none) :
    DoesWide (.coreLoad c inBand) s [.cores, .loads, .mbx] ([0x10 + c.val, 0x20, 0x21])
      (fun d => (d.core c.val).berth = some l.berth ∧ d.get F.LOOP_STAT_BOUND c.val = 1 ∧ (d.core c.val).intMode = false ∧
        (d.core c.val).phi = phaseAt l.a l.phi l.f s.dev.tow.pound ∧ (d.core c.val).f = l.f ∧
        (d.core c.val).set = s.dev.derived c.val l.f ∧ d.loads = rest ∧ (∀ n, n ≠ c.val → d.core n = s.dev.core n)) := by
  have binding := (s.dev.loadsLeft rest).recordBinding_within c l.berth
  have derived : ((s.dev.loadsLeft rest).recordBinding c l.berth).derived c l.f = s.dev.derived c l.f :=
    ((s.dev.loadsLeft rest).recordBinding_loadAlike c l.berth).derived l.f
  obtain ⟨applyAt, recorded⟩ := (s.dev.loadsLeft rest).core_recordBinding c l.berth
  have core := ((s.dev.loadsLeft rest).recordBinding c l.berth).core_boundTaken c l inBand
  have bound : (((s.dev.loadsLeft rest).recordBinding c l.berth).boundTaken c l inBand).get F.LOOP_STAT_BOUND c = 1 :=
    (Device.get_bound_boundTaken _ c l inBand).trans (Device.get_bound_recordBinding _ _ _)
  rw [recorded, derived, binding.tow] at core
  have took := (Device.takeLoad_of_bind (d := s.dev.loadsLeft rest) (inBand := inBand) kind isOpen).trans
    (Device.boundLoad_of_good ((congrArg Settings.refusal derived).trans good))
  refine does_load r stands due took
    ((Device.recordBinding_atCore _ c l.berth).trans (Device.boundTaken_atCore _ c l inBand)) fun b ends loads others =>
    ⟨ends.core.berth.trans core.berth, (ends.get _ c).trans bound, ends.core.intMode.trans core.intMode, ends.core.phi.trans core.phi,
      ends.core.f.trans core.f, ends.core.set.trans core.set, loads, others⟩

end Rows

/-- Settles O32: each kind of load is one operation at the core followed by the end of its boundary, and what a load of settings shows of
its band follows from the state in which it finds the core. -/
theorem coreLoads : Obligations.CoreLoads := by
  unfold Obligations.CoreLoads
  refine ⟨?_, ?_, ?_, ?_, ?_, ?_, ?_, ?_, ?_, ?_, ?_, ?_, ?_, ?_, ?_, ?_, ?_, ?_, ?_, ?_, ?_, ?_, ?_⟩
  · intro s c inBand l rest r stands due kind isOpen ours
    exact does_frameLoad r stands due (Device.takeLoad_of_phase (Device.Meant.loadsLeft ⟨isOpen, ours⟩ rest) kind)
  · intro s c inBand l rest r stands due kind isOpen ours warm
    exact does_frameLoad r stands due (Device.takeLoad_of_warmEmit (Device.Meant.loadsLeft ⟨isOpen, ours⟩ rest) kind warm)
  · intro s c inBand l rest r stands due kind isOpen ours
    have core : ((s.dev.loadsLeft rest).onCore c (fun k => { k with phi := k.phi + l.phi })).core c =
        { s.dev.core c with phi := (s.dev.core c).phi + l.phi } := Device.core_onCore_self _ _ _
    refine does_load r stands due (Device.takeLoad_of_addPhase (Device.Meant.loadsLeft ⟨isOpen, ours⟩ rest) kind) (.onCore _ _)
      fun b ends loads others => ⟨?_, ?_, ?_, loads, others⟩
    · rw [ends.core.phi, core]
    · rw [ends.core.f, core]
    · rw [ends.core.set, core]
  · exact fun s c inBand l rest r stands due kind isOpen ours good idle auto =>
      does_freqLoad r stands due kind isOpen ours good fun d h => h.searches_of_idle idle auto
  · exact fun s c inBand l rest r stands due kind isOpen ours good idle manual =>
      does_freqLoad r stands due kind isOpen ours good fun d h => h.acquiresWritten_of_idle idle manual
  · exact fun s c inBand l rest r stands due kind isOpen ours good opening =>
      does_freqLoad r stands due kind isOpen ours good fun d h => h.opens opening
  · exact fun s c inBand l rest r stands due kind isOpen ours good runs leaves none' manual =>
      does_freqLoad r stands due kind isOpen ours good fun d h => h.acquiresWritten_of_moves ⟨runs, leaves⟩ none' manual
  · exact fun s c inBand l rest r stands due kind isOpen ours good warm kept inside =>
      does_freqLoad r stands due kind isOpen ours good fun d h => h.stays_of warm kept inside
  · exact fun s c inBand l rest p r stands due kind isOpen ours good runs leaves entry =>
      does_freqLoad r stands due kind isOpen ours good fun d h => h.presets_of_moves ⟨runs, leaves⟩ entry
  · exact fun s c inBand l rest r stands due kind isOpen ours good runs leaves none' auto =>
      does_freqLoad r stands due kind isOpen ours good fun d h => h.searches_of_moves ⟨runs, leaves⟩ none' auto
  · intro s c inBand l rest r stands due kind isOpen ours good
    have took := Device.takeLoad_of_freq (inBand := inBand) (Device.Meant.loadsLeft ⟨isOpen, ours⟩ rest) (kind.imp_right .inr)
    refine does_boundLoad r stands due took good fun b h loads others => ?_
    obtain ⟨modulus, dA, dB, num, ratio⟩ := s.dev.derived_spec c l.f
    rw [h.set, modulus]
    exact ⟨rfl, dA, dB, num, ratio⟩
  · intro s c inBand l rest e key r stands due kind isOpen ours good runs leaves enabled at' covers first
    subst at'
    have took := Device.takeLoad_of_freq (inBand := inBand) (Device.Meant.loadsLeft ⟨isOpen, ours⟩ rest) (kind.imp_right .inr)
    have plain : s.dev.commitLookup c l = none := by
      obtain kind | ⟨kind, -⟩ := kind <;> simp [Device.commitLookup, kind]
    refine does_boundLoad r stands due took good fun b h loads others => ?_
    have shown : s.dev.LoadShown c (s.dev.derived c l.f) none inBand b := plain ▸ h.shown
    obtain ⟨tank, band, tune, -, search, -⟩ := shown.presets_of_moves ⟨runs, leaves⟩
      (Device.bandLookup_of_first enabled (Device.bandCovers_of covers) first)
    exact ⟨tank.trans (Nat.mod_eq_of_lt (Nat.mod_lt _ (by decide))), band.trans (Nat.mod_eq_of_lt (Nat.mod_lt _ (by decide))), tune, search⟩
  · intro s c inBand l rest r stands due kind isOpen ours bad
    exact does_refusedLoad r stands due (Device.takeLoad_of_freq (Device.Meant.loadsLeft ⟨isOpen, ours⟩ rest) kind) bad
  · intro s c inBand l rest p r stands due kind isOpen ours good runs commit
    have took := Device.takeLoad_of_freq (inBand := inBand) (Device.Meant.loadsLeft ⟨isOpen, ours⟩ rest) (.inr (.inl kind))
    refine does_boundLoad r stands due took good fun b h loads others => ?_
    obtain ⟨tank, band, tune, locked, -, -, blank, -⟩ := h.presets runs commit
    exact ⟨h.phi, h.f, h.set, tank, band, tune, locked, blank, loads, others⟩
  · intro s c inBand l rest p r stands due kind isOpen ours good runs commit
    have took := Device.takeLoad_of_hop (inBand := inBand) (Device.Meant.loadsLeft ⟨isOpen, ours⟩ rest) kind good
    have loaded := ((s.dev.loadsLeft rest).boundTaken_loaded c l inBand).of_loadsLeft.hopTarget
    refine does_load r stands due took ((Device.boundTaken_atCore _ c l inBand).trans (.onCore _ _)) fun b ends loads others => ?_
    have h := loaded.ends ends
    obtain ⟨tank, band, tune, locked, -, -, blank, -⟩ := h.presets runs commit
    exact ⟨h.phi, h.f, h.set, tank, band, tune, locked, blank, loads, others,
      ends.core.hopTarget.trans (congrArg (·.hopTarget) (Device.core_onCore_self _ _ _))⟩
  · intro s c inBand l rest p r stands due kind standby isOpen ours good runs entry
    have took := Device.takeLoad_of_park (inBand := inBand) (Device.Meant.loadsLeft ⟨isOpen, ours⟩ rest) kind standby
    have commit : s.dev.commitLookup c l = some (some p) := by simp [Device.commitLookup, kind, entry]
    refine does_boundLoad r stands due took good fun b h loads others => ?_
    obtain ⟨tank, band, -⟩ := h.presets runs commit
    exact ⟨h.phi, h.f, h.set, tank, band, loads, others⟩
  · exact fun s c inBand l rest r stands due kind active => does_parkActive r stands due kind active
  · exact fun s c inBand l rest r stands due kind => does_recordLoad r stands due (Device.takeLoad_of_record (.inl kind))
  · exact fun s c inBand l rest r stands due kind closed => does_recordLoad r stands due (Device.takeLoad_of_record (.inr ⟨kind, closed⟩))
  · exact fun s c inBand l rest r stands due kind isOpen good => does_bindLoad r stands due kind isOpen good
  · exact fun s c inBand l rest r stands due kind ours => does_releaseLoad r stands due kind ours
  · exact fun s c inBand l rest r stands due kind other => does_otherLoad r stands due kind other
  · exact fun s c inBand r none' => idles_of_same rfl r (Device.coreLoad_of_none none')

end Sys2Proof.Machine
end

section
/-! Fields at different places of their registers, and what twins, outputs and their fields read after the operations that they share
(R114, R131). -/

namespace Sys2Proof.Machine

variable {a b d : Device}

/-! ### Fields beside each other -/

/-- The fields begin at different bits of their registers, so that no copy of one is a copy of the other. -/
def Fld.beside (f g : Fld) : Bool := decide (f.lo < 32) && decide (g.lo < 32) && decide (f.lo ≠ g.lo)

theorem Fld.key_ne_of_beside {f g : Fld} (h : f.beside g = true) (i j : Nat) : f.key i ≠ g.key j := by
  simp only [beside, Bool.and_eq_true, decide_eq_true_eq] at h
  unfold key
  omega

theorem Device.get_put_beside (d : Device) {f g : Fld} (h : g.beside f = true) (i j v : Nat) : (d.put f i v).get g j = d.get g j :=
  d.get_put_ne f g i j v (Fld.key_ne_of_beside h j i)

/-! ### Outputs and twins -/

theorem Device.output_onOutput (d : Device) (n : Nat) (f : Output → Output) (m : Nat) :
    (d.onOutput n f).output m = if m = n then f (d.output n) else d.output m :=
  Store.getD_put _ _ _ _ _

@[simp] theorem Device.output_onOutput_self (d : Device) (n : Nat) (f : Output → Output) : (d.onOutput n f).output n = f (d.output n) :=
  (d.output_onOutput n f n).trans (if_pos rfl)

theorem Device.output_onOutput_ne (d : Device) {n m : Nat} (f : Output → Output) (h : m ≠ n) : (d.onOutput n f).output m = d.output m :=
  (d.output_onOutput n f m).trans (if_neg h)

theorem Device.twin_setTwin (d : Device) (k : Nat) (t : Twin) (j : Nat) : (d.setTwin k t).twin j = if j = k then t else d.twin j :=
  Store.getD_put _ _ _ _ _

@[simp] theorem Device.twin_setTwin_self (d : Device) (k : Nat) (t : Twin) : (d.setTwin k t).twin k = t :=
  (d.twin_setTwin k t k).trans (if_pos rfl)

theorem Device.twin_setTwin_ne (d : Device) {k j : Nat} (t : Twin) (h : j ≠ k) : (d.setTwin k t).twin j = d.twin j :=
  (d.twin_setTwin k t j).trans (if_neg h)

@[simp] theorem Device.output_put (d : Device) (f : Fld) (i v n : Nat) : (d.put f i v).output n = d.output n := rfl
@[simp] theorem Device.output_putBit (d : Device) (f : Fld) (i b : Nat) (v : Bool) (n : Nat) : (d.putBit f i b v).output n = d.output n := rfl
@[simp] theorem Device.twin_put (d : Device) (f : Fld) (i v k : Nat) : (d.put f i v).twin k = d.twin k := rfl
@[simp] theorem Device.twin_putBit (d : Device) (f : Fld) (i b : Nat) (v : Bool) (k : Nat) : (d.putBit f i b v).twin k = d.twin k := rfl
@[simp] theorem Device.get_onOutput (d : Device) (n : Nat) (g : Output → Output) (f : Fld) (i : Nat) : (d.onOutput n g).get f i = d.get f i := rfl
@[simp] theorem Device.get_setTwin (d : Device) (k : Nat) (t : Twin) (f : Fld) (i : Nat) : (d.setTwin k t).get f i = d.get f i := rfl
@[simp] theorem Device.core_onOutput (d : Device) (n : Nat) (g : Output → Output) (c : Nat) : (d.onOutput n g).core c = d.core c := rfl

namespace Device.Within

variable {ps : List Part} {ks : List Nat}

theorem onOutput (d : Device) (n : Nat) (f : Output → Output) : d.Within [.outputs] [] (d.onOutput n f) :=
  of_part .outputs (fun q hq => by cases q with | outputs => exact absurd rfl hq | _ => rfl) rfl

theorem setTwin (d : Device) (k : Nat) (t : Twin) : d.Within [.twins] [] (d.setTwin k t) :=
  of_part .twins (fun q hq => by cases q with | twins => exact absurd rfl hq | _ => rfl) rfl

theorem twin (h : a.Within ps ks b) (k : Nat) (hp : .twins ∉ ps := by decide) : b.twin k = a.twin k :=
  congrArg (fun l : Store Twin => Store.getD l k {}) (h.parts .twins hp)

theorem output (h : a.Within ps ks b) (n : Nat) (hp : .outputs ∉ ps := by decide) : b.output n = a.output n :=
  congrArg (fun l : Store Output => Store.getD l n {}) (h.parts .outputs hp)

end Device.Within

@[simp] theorem Device.twin_markDirty (d : Device) (k : Nat) : d.markDirty.twin k = d.twin k := (Within.markDirty d).twin k
@[simp] theorem Device.output_markDirty (d : Device) (n : Nat) : d.markDirty.output n = d.output n := (Within.markDirty d).output n

end Sys2Proof.Machine
end

section
/-! The output stage: sources, delay walks and duty correction (R131, R132, R134, R135). -/

namespace Sys2Proof.Machine

open Device

variable {d : Device}

/-- A source that a write of COUT_SELn cannot choose: reserved, or of a disabled twin (R131). -/
abbrev Device.SourceRefused (d : Device) (src : Nat) : Prop :=
  (48 ≤ src ∧ src ≤ 62) ∨ (32 ≤ src ∧ src < 48 ∧ d.twinEnabled (src % 8) = false)

/-- The source in force of output n follows the divider that it carries. -/
theorem Device.followSource_within (d : Device) (n : Nat) : d.Within [.outputs] [F.COUT_STAT_DCC_LOCK.key n] (d.followSource n) := by
  unfold followSource
  exact (Within.when fun d => .put d _ _ 0).trans (.onOutput _ _ _)

theorem Device.output_followSource (d : Device) (n m : Nat) : (d.followSource n).output m =
    if m = n then { d.output n with behind := d.dividerOf (d.get F.COUT_STAT_CUR_SRC n) } else d.output m := by
  have dropped : d.Within [] [F.COUT_STAT_DCC_LOCK.key n]
      (d.when (!d.sameTone (d.output n).behind (d.dividerOf (d.get F.COUT_STAT_CUR_SRC n))) (fun d => d.put F.COUT_STAT_DCC_LOCK n 0)) :=
    .when fun d => .put d _ _ _
  unfold followSource
  rw [output_onOutput, dropped.output n, dropped.output m]

/-- The divider that a source carries depends on the twins' settings alone. -/
theorem Device.dividerOf_put (d : Device) {f : Fld} (h : F.COUT_TWIN_CTRL_TWIN_EN.beside f = true)
    (h' : F.COUT_TWIN_STAT_ACTIVE.beside f = true) (i v src : Nat) : (d.put f i v).dividerOf src = d.dividerOf src := by
  unfold dividerOf activeCore twinEnabled
  rw [get_put_beside _ h, get_put_beside _ h']

/-- The new source of output n is in force. -/
def Device.sourceTaken (d : Device) (n src : Nat) : Device :=
  (d.put F.COUT_STAT_CUR_SRC n src).onOutput n (fun o => { o with nextSrc := none, srcDue := false })

theorem Device.outputSourceChange_of_due {n src : Nat} (waits : (d.output n).nextSrc = some src) (due : (d.output n).srcDue = true) :
    d.outputSourceChange n = ((d.sourceTaken n src).followSource n).put F.COUT_STAT_DCC_LOCK n 0 := by
  rw [outputSourceChange, waits]
  exact if_pos due

theorem Device.sourceTaken_within (d : Device) (n src : Nat) : d.Within [.outputs] [F.COUT_STAT_CUR_SRC.key n] (d.sourceTaken n src) :=
  (Within.put d _ _ _).trans (.onOutput _ _ _)

theorem Device.get_src_sourceTaken (d : Device) (n src : Nat) : (d.sourceTaken n src).get F.COUT_STAT_CUR_SRC n = src % 64 :=
  d.get_put _ _ _

theorem Device.output_sourceTaken (d : Device) (n src m : Nat) : (d.sourceTaken n src).output m =
    if m = n then { d.output n with nextSrc := none, srcDue := false } else d.output m :=
  output_onOutput _ _ _ _

theorem Device.dividerOf_sourceTaken (d : Device) (n src k : Nat) : (d.sourceTaken n src).dividerOf k = d.dividerOf k :=
  d.dividerOf_put (f := F.COUT_STAT_CUR_SRC) (by decide) (by decide) n src k

theorem does_sourceSelected {s : State} {n : Fin 32} {v : Word} (r : s.Running) (free : ¬s.dev.SourceRefused (bits v.toNat 5 0)) :
    Does (.outputSourceSelect n v) s [.outputs, .bus] [F.COUT_SEL_SRC.key n] (fun d =>
      d.get F.COUT_SEL_SRC n = bits v.toNat 5 0 ∧
      d.output n = { s.dev.output n with nextSrc := some (bits v.toNat 5 0), srcDue := false } ∧
      (∀ m, m ≠ n.val → d.output m = s.dev.output m)) := by
  have run : (s.dev.wrOutputSel n v.toNat).markDirty = ((s.dev.put F.COUT_SEL_SRC n (bits v.toNat 5 0)).onOutput n
      (fun o => { o with nextSrc := some (bits v.toNat 5 0), srcDue := false })).markDirty := congrArg markDirty (if_neg free)
  refine does_within rfl r run (((Within.put _ _ _ _).trans (.onOutput _ _ _)).trans (.markDirty _)) ⟨?_, ?_, fun m other => ?_⟩
  · rw [get_markDirty, get_onOutput, get_put]
    exact Nat.mod_mod _ _
  · rw [output_markDirty, output_onOutput_self, output_put]
  · rw [output_markDirty, output_onOutput_ne _ _ other, output_put]

theorem does_sourceRefused {s : State} {n : Fin 32} {v : Word} (r : s.Running) (refused : s.dev.SourceRefused (bits v.toNat 5 0)) :
    Does (.outputSourceSelect n v) s [.bus] [F.COUT_SEL_REFUSED_REFUSED.key 0] (fun d =>
      bit (d.get F.COUT_SEL_REFUSED_REFUSED) n = true) := by
  have run : (s.dev.wrOutputSel n v.toNat).markDirty = (s.dev.putBit F.COUT_SEL_REFUSED_REFUSED 0 n true).markDirty :=
    congrArg markDirty (if_pos refused)
  refine does_within rfl r run ((Within.putBit _ _ _ _ _).trans (.markDirty _)) ?_
  rw [get_markDirty, putBit, get_put]
  exact bit_setBits n.isLt _ true

theorem does_sourceChanged {s : State} {n : Fin 32} {src : Nat} (r : s.Running) (waits : (s.dev.output n).nextSrc = some src)
    (due : (s.dev.output n).srcDue = true) :
    Does (.outputSourceChange n) s [.outputs] [F.COUT_STAT_CUR_SRC.key n, F.COUT_STAT_DCC_LOCK.key n] (fun d =>
      d.get F.COUT_STAT_CUR_SRC n = src % 64 ∧
      d.output n = { s.dev.output n with nextSrc := none, srcDue := false, behind := s.dev.dividerOf (src % 64) } ∧
      (∀ m, m ≠ n.val → d.output m = s.dev.output m) ∧ d.get F.COUT_STAT_DCC_LOCK n = 0) := by
  have w := ((s.dev.sourceTaken_within n src).trans (followSource_within _ n)).trans (.put _ F.COUT_STAT_DCC_LOCK n 0)
  have apart : F.COUT_STAT_CUR_SRC.key n ∉ [F.COUT_STAT_DCC_LOCK.key n] := by
    simpa using Fld.key_ne_of_beside (by decide) n n
  refine does_within rfl r (outputSourceChange_of_due waits due) (w.mono (by decide) (by simp)) ⟨?_, ?_, fun m other => ?_, ?_⟩
  · rw [get_put_beside _ (by decide), (followSource_within _ n).get _ _ apart, get_src_sourceTaken]
  · rw [output_put, output_followSource, if_pos rfl, output_sourceTaken, if_pos rfl, get_src_sourceTaken, dividerOf_sourceTaken]
  · rw [output_put, output_followSource, if_neg other, output_sourceTaken, if_neg other]
  · exact get_put _ _ _ _

theorem Device.output_walkToTable (d : Device) (n m : Nat) : (d.walkToTable n).output m =
    if m = n then { d.output n with walkTo := some (d.tapFor n), walkDue := false, walkAsked := false } else d.output m := by
  rw [walkToTable, output_put, output_onOutput]

theorem does_walkStarts {s : State} {n : Fin 32} (r : s.Running) (due : (s.dev.output n).walkDue = true) :
    Does (.delayWalk n) s [.outputs] [F.COUT_STAT_WALKING.key n] (fun d =>
      d.get F.COUT_STAT_WALKING n = 1 ∧
      d.output n = { s.dev.output n with walkTo := some (s.dev.tapFor n), walkDue := false, walkAsked := false } ∧
      (∀ m, m ≠ n.val → d.output m = s.dev.output m)) :=
  does_within rfl r (if_pos due) (s.dev.walkToTable_within n)
    ⟨get_put _ _ _ _, (output_walkToTable _ _ _).trans (if_pos rfl), fun _ other => (output_walkToTable _ _ _).trans (if_neg other)⟩

theorem does_walkEnds {s : State} {n : Fin 32} {tap : Nat} (r : s.Running) (target : (s.dev.output n).walkTo = some tap)
    (walks : s.dev.is F.COUT_STAT_WALKING n = true) :
    Does (.delayWalkDone n) s [.outputs] [F.COUT_STAT_TAP.key n, F.COUT_STAT_WALKING.key n] (fun d =>
      d.get F.COUT_STAT_TAP n = tap % 2 ^ 10 ∧ d.get F.COUT_STAT_WALKING n = 0 ∧
      d.output n = { s.dev.output n with walkTo := none } ∧ (∀ m, m ≠ n.val → d.output m = s.dev.output m)) := by
  have run : s.dev.delayWalkDone n =
      ((s.dev.put F.COUT_STAT_TAP n tap).put F.COUT_STAT_WALKING n 0).onOutput n (fun o => { o with walkTo := none }) := by
    rw [delayWalkDone, target]
    exact if_pos walks
  refine does_within rfl r run (((Within.put _ _ _ _).trans (.put _ _ _ _)).trans (.onOutput _ _ _))
    ⟨?_, ?_, output_onOutput_self _ _ _, fun _ other => output_onOutput_ne _ _ other⟩
  · rw [get_onOutput, get_put_beside _ (by decide), get_put]
    rfl
  · rw [get_onOutput, get_put]
    rfl

/-- Settles O38: each row is one operation at its output, and the lemmas about that operation give the fields and the output it leaves. -/
theorem outputStage : Obligations.OutputStage := by
  unfold Obligations.OutputStage
  refine ⟨?_, ?_, ?_, ?_, ?_, ?_⟩
  · exact fun s n v r free => does_sourceSelected r free
  · exact fun s n v r refused => does_sourceRefused r refused
  · exact fun s n src r waits due => does_sourceChanged r waits due
  · exact fun s n r due => does_walkStarts r due
  · exact fun s n tap r target walks => does_walkEnds r target walks
  · intro s n r enabled runs
    have run : s.dev.dccLock n = s.dev.put F.COUT_STAT_DCC_LOCK n 1 := by simp [Device.dccLock, enabled, runs]
    exact does_within rfl r run (.put _ _ _ _) (Device.get_put _ _ _ _)

end Sys2Proof.Machine
end

section
/-! Bits of register fields, loops over twins or outputs, and reports with a pound of their own (R324, R347, R348). -/

namespace Sys2Proof.Machine

variable {a b c d : Device}

/-! ### Bits of a field -/

theorem bit_eq_testBit (x n : Nat) : bit x n = x.testBit n := by
  rw [bit, Nat.testBit_eq_decide_div_mod_eq, Bool.beq_eq_decide_eq]

/-- A number whose low n bits are those of x, whose bit n is r, and above which those of q stand. -/
theorem testBit_above {n m x q r : Nat} (small : r < 2) (other : m ≠ n) :
    (2 ^ n * (2 * q + r) + x % 2 ^ n).testBit m = if m < n then (x % 2 ^ n).testBit m else q.testBit (m - n - 1) := by
  rw [Nat.testBit_two_pow_mul_add _ (Nat.mod_lt _ (Nat.two_pow_pos n))]
  split
  · rfl
  · obtain ⟨i, hi⟩ : ∃ i, m - n = i + 1 := ⟨m - n - 1, by omega⟩
    rw [hi, Nat.testBit_succ, Nat.add_sub_cancel]
    congr 1
    omega

/-- The other bits of a field stay when one is set or cleared. -/
theorem bit_setBits_ne {n m w : Nat} (h : m < w) (other : m ≠ n) (x : Nat) (v : Bool) :
    bit (setBits x n n (ofBool v) % 2 ^ w) m = bit x m := by
  have parts : x = 2 ^ n * (2 * (x / 2 ^ n / 2) + x / 2 ^ n % 2) + x % 2 ^ n := by
    rw [Nat.div_add_mod (x / 2 ^ n) 2, Nat.div_add_mod]
  have cleared : x - x / 2 ^ n % 2 * 2 ^ n = 2 ^ n * (2 * (x / 2 ^ n / 2)) + x % 2 ^ n :=
    Nat.sub_eq_of_eq_add (parts.trans (by ring))
  have written : setBits x n n (ofBool v) = 2 ^ n * (2 * (x / 2 ^ n / 2) + ofBool v) + x % 2 ^ n := by
    have one : n + 1 - n = 1 := by omega
    have small : ofBool v % 2 ^ 1 = ofBool v := by cases v <;> rfl
    rw [setBits, bits, one, small, pow_one, cleared]
    ring
  have bitSmall : ofBool v < 2 := by cases v <;> decide
  rw [bit_eq_testBit, bit_eq_testBit, Nat.testBit_mod_two_pow, decide_eq_true h, Bool.true_and, written, testBit_above bitSmall other,
    ← testBit_above (Nat.mod_lt _ (by decide)) other, ← parts]

theorem Fld.apart_comm (f g : Fld) : f.apart g = g.apart f := by
  unfold apart
  simp only [ne_comm, Bool.and_comm f.paged, Bool.and_comm f.flat]

/-- From a to b bit k of the fields of l stays. -/
def Device.BitAlike (l : List Fld) (k : Nat) (a b : Device) : Prop := ∀ f ∈ l, bit (b.get f) k = bit (a.get f) k

namespace Device.BitAlike

variable {l : List Fld} {k : Nat}

theorem trans (h : a.BitAlike l k b) (h' : b.BitAlike l k c) : a.BitAlike l k c := fun f hf => (h' f hf).trans (h f hf)

theorem of_leaves {m : List Fld} (h : a.Leaves m b) (apart : ∀ f ∈ l, m.all f.apart = true) : a.BitAlike l k b :=
  fun f hf => congrArg (bit · k) (h f (apart f hf) 0)

/-- Another bit of a field of l is written. -/
theorem putBit (d : Device) {f : Fld} {j : Nat} (v : Bool) (distinct : l.Pairwise (fun f g => f.apart g = true)) (listed : f ∈ l)
    (small : k < f.width) (other : k ≠ j) : d.BitAlike l k (d.putBit f 0 j v) := by
  intro g hg
  by_cases same : g = f
  · rw [same, Device.putBit, get_put, bit_setBits_ne small other]
  · have symm : Std.Symm (fun f g : Fld => f.apart g = true) := ⟨fun f g h => (g.apart_comm f).trans h⟩
    rw [Device.putBit, get_put_apart _ (distinct.forall hg listed same)]

end Device.BitAlike

@[simp] theorem Device.bit_putBit (d : Device) {f : Fld} {n : Nat} (h : n < f.width) (i : Nat) (v : Bool) :
    bit ((d.putBit f i n v).get f i) n = v := by
  rw [putBit, get_put]
  exact bit_setBits h _ v

theorem Device.get_putBit_apart (d : Device) {f g : Fld} (h : g.apart f = true) (i n j : Nat) (v : Bool) :
    (d.putBit f i n v).get g j = d.get g j :=
  d.get_put_apart h i j _

/-- The bit of an event reads 1 after it. -/
theorem Device.bit_eventBit (d : Device) {f : Fld} {n : Nat} (h : n < f.width) (apart : f.apart F.IRQ_STAT_EVT = true) :
    bit ((d.eventBit f 0 n).get f) n = true := by
  rw [eventBit, irqStat, get_put_apart _ apart, get_put]
  exact bit_setBits h _ true

/-! ### Loops -/

/-- A loop runs each of its steps once: before and after step k only others run, which do what R allows. -/
theorem forEach_once {α : Type} {l : List α} {f : α → Device → Device} {R : Device → Device → Prop} {k : α} (distinct : l.Nodup)
    (listed : k ∈ l) (refl : ∀ d, R d d) (trans : ∀ a b c, R a b → R b c → R a c) (others : ∀ x, x ≠ k → ∀ d, R d (f x d)) (d : Device) :
    ∃ m, R d m ∧ R (f k m) (forEach l f d) := by
  have all (t : List α) (h : k ∉ t) (d : Device) : R d (forEach t f d) := by
    induction t generalizing d with
    | nil => exact refl d
    | cons x t ih =>
      obtain ⟨first, rest⟩ := not_or.mp (List.mem_cons.not.mp h)
      exact trans _ _ _ (others x (Ne.symm first) d) (ih rest _)
  induction l generalizing d with
  | nil => nomatch listed
  | cons x t ih =>
    obtain ⟨new, distinct⟩ := List.nodup_cons.mp distinct
    by_cases same : x = k
    · subst same
      exact ⟨d, refl d, all t new _⟩
    · obtain ⟨m, before, after⟩ := ih distinct ((List.mem_cons.mp listed).resolve_left (Ne.symm same)) (f x d)
      exact ⟨m, trans _ _ _ (others x same d) before, after⟩

/-! ### Reports with a pound of their own -/

theorem Device.Within.reportAt (d : Device) (cls src code reporter : Nat) (p : Option Pound) :
    d.Within [.flt] reportKeys (d.reportAt cls src code reporter p) :=
  ⟨d.reportAt_keepsParts cls src code reporter p, d.reportAt_keepsRegs cls src code reporter p⟩

theorem Device.Leaves.reportAt (d : Device) (cls src code reporter : Nat) (p : Option Pound) :
    d.Leaves [F.FLT_LOST_CNT_LOST, F.FLT_EVT_LOST, F.IRQ_STAT_EVT] (d.reportAt cls src code reporter p) :=
  .ite (.of_fields rfl) ((put d _ _ _).trans (event _ _ _ _))

theorem Device.reported_reportAt (d : Device) (cls src code reporter : Nat) (p : Option Pound) :
    d.Reported (d.reportAt cls src code reporter p) cls src code reporter p := by
  unfold Reported
  split
  · next room =>
    rw [reportAt_room _ _ _ _ _ _ room]
    exact ⟨rfl, rfl⟩
  · next room =>
    rw [reportAt_full _ _ _ _ _ _ (by omega)]
    refine ⟨rfl, ?_, get_event _ _ (by decide) (by decide)⟩
    rw [(Within.event _ _).get _ _ (by decide), get_bump]

/-- A report stays made after what leaves the reports and the count of lost ones. -/
theorem Device.Reported.of_within {cls src code reporter : Nat} {p : Option Pound} {ps : List Part} {ks : List Nat}
    (h : a.Reported b cls src code reporter p) (w : b.Within ps ks c) (hp : .flt ∉ ps := by decide)
    (hk : F.FLT_LOST_CNT_LOST.key 0 ∉ ks ∧ F.FLT_EVT_LOST.key 0 ∉ ks := by decide) : a.Reported c cls src code reporter p := by
  unfold Reported at h ⊢
  rw [w.flt hp, w.get _ _ hk.1, w.get _ _ hk.2]
  exact h

end Sys2Proof.Machine
end

section
/-! Swaps in free mode, and what ends after a preset load (R119, R130). -/

namespace Sys2Proof.Machine

open Device

variable {a b d : Device}

/-- The pound that a write of COUT_TWIN_SWAP names. -/
def Device.swapPound (d : Device) : Pound :=
  BitVec.ofNat 64 (d.get F.COUT_TWIN_SWAP_POUND_HI_POUND * 2 ^ 32 + d.get F.COUT_TWIN_SWAP_POUND_LO_POUND)

/-- Twin k takes no swap: it is bound or disabled, or the pound is nearer than two ahead (R130). -/
def Device.SwapRefused (d : Device) (k : Nat) : Prop :=
  d.twinBound k = true ∨ d.twinEnabled k = false ∨ d.swapPound.toNat < d.tow.pound.toNat + 2

/-- A swap that waits on a twin of l is dropped. -/
def Device.swapsDropped (d : Device) (l : List Nat) : Device :=
  forEach l (fun j d => d.when (d.twin j).swapAt.isSome (fun d => d.setTwin j { d.twin j with swapAt := none })) d

/-- The swap of twin k at pound p waits in place of any other. -/
def Device.swapWaits (d : Device) (k : Nat) (p : Pound) : Device :=
  (d.swapsDropped (List.range 8)).setTwin k { (d.swapsDropped (List.range 8)).twin k with swapAt := some p }

/-- What a write of COUT_TWIN_SWAP shows: the twin, the SWAP_RESULT and GO. -/
def Device.swapAnswered (d : Device) (result go : Nat) : Device := (d.put F.COUT_TWIN_SWAP_SWAP_RESULT 0 result).put F.COUT_TWIN_SWAP_GO 0 go

def swapKeys : List Nat := [F.COUT_TWIN_SWAP_TWIN.key 0, F.COUT_TWIN_SWAP_SWAP_RESULT.key 0, F.COUT_TWIN_SWAP_GO.key 0]

theorem Device.swapsDropped_within (d : Device) (l : List Nat) : d.Within [.twins] [] (d.swapsDropped l) :=
  .forEach fun _ _ => .when fun d => .setTwin d _ _

theorem Device.twin_swapsDropped (d : Device) (l : List Nat) (j : Nat) :
    (d.swapsDropped l).twin j = if j ∈ l then { d.twin j with swapAt := none } else d.twin j := by
  induction l generalizing d with
  | nil => rfl
  | cons x t ih =>
    have first : (d.when (d.twin x).swapAt.isSome (fun d => d.setTwin x { d.twin x with swapAt := none })).twin j =
        if j = x then { d.twin j with swapAt := none } else d.twin j := by
      unfold Device.when
      split
      · rw [twin_setTwin]
        split
        · next same => rw [same]
        · rfl
      · next none' =>
        split
        · next same =>
          rw [← same, Bool.not_eq_true, Option.isSome_eq_false_iff, Option.isNone_iff_eq_none] at none'
          rw [← none']
        · rfl
    change (swapsDropped (d.when (d.twin x).swapAt.isSome (fun d => d.setTwin x { d.twin x with swapAt := none })) t).twin j = _
    rw [ih, first]
    by_cases same : j = x <;> simp [same]

theorem Device.swapWaits_within (d : Device) (k : Nat) (p : Pound) : d.Within [.twins] [] (d.swapWaits k p) :=
  (d.swapsDropped_within (List.range 8)).andThen (.setTwin _ _ _)

theorem Device.twin_swapWaits (d : Device) (k j : Fin 8) (p : Pound) :
    (d.swapWaits k p).twin j = { d.twin j with swapAt := if j = k then some p else none } := by
  have dropped (i : Fin 8) : (d.swapsDropped (List.range 8)).twin i = { d.twin i with swapAt := none } :=
    (d.twin_swapsDropped _ i).trans (if_pos (List.mem_range.mpr i.isLt))
  unfold swapWaits
  split
  · next same => rw [same, twin_setTwin_self, dropped]
  · next other => rw [twin_setTwin_ne _ _ (Fin.val_ne_of_ne other), dropped]

theorem bits_2_setBit_31 (x : Nat) : bits (setBit x 31) 2 0 = bits x 2 0 := by
  simp only [setBit, setBits, bits]
  omega

/-- GO judges twin k by what the device shows before the write. -/
theorem Device.swapRefused_named (d : Device) (k : Nat) : (d.put F.COUT_TWIN_SWAP_TWIN 0 k).SwapRefused k ↔ d.SwapRefused k := by
  unfold SwapRefused swapPound twinEnabled
  rw [get_put_apart _ (by decide), get_put_apart _ (by decide), get_put_apart _ (by decide)]
  rfl

theorem Device.wrTwinSwap_of_refused {v k : Nat} (named : bits v 2 0 = k) (refused : d.SwapRefused k) :
    d.wrTwinSwap (setBit v 31) = (d.put F.COUT_TWIN_SWAP_TWIN 0 k).swapAnswered 2
      (ofBool ((List.range 8).any (fun j => (d.twin j).swapAt.isSome))) := by
  have judged := (d.swapRefused_named k).mpr refused
  unfold wrTwinSwap
  rw [bits_2_setBit_31, named, bit_setBit_31, if_pos rfl]
  refine if_pos ?_
  simp only [Bool.or_eq_true, Bool.not_eq_true', decide_eq_true_eq, or_assoc]
  exact judged

theorem Device.wrTwinSwap_of_taken {v k : Nat} (named : bits v 2 0 = k) (taken : ¬d.SwapRefused k) :
    d.wrTwinSwap (setBit v 31) = ((d.put F.COUT_TWIN_SWAP_TWIN 0 k).swapWaits k d.swapPound).swapAnswered 1 1 := by
  have judged := (d.swapRefused_named k).not.mpr taken
  have pound : (d.put F.COUT_TWIN_SWAP_TWIN 0 k).swapPound = d.swapPound := by
    unfold swapPound
    rw [get_put_apart _ (by decide), get_put_apart _ (by decide)]
  unfold wrTwinSwap
  rw [bits_2_setBit_31, named, bit_setBit_31, if_pos rfl, ← pound]
  refine if_neg ?_
  simp only [Bool.or_eq_true, Bool.not_eq_true', decide_eq_true_eq, or_assoc]
  exact judged

theorem Device.get_swapAnswered (d : Device) {result go : Nat} (hr : result < 4) (hg : go < 2) :
    (d.swapAnswered result go).get F.COUT_TWIN_SWAP_SWAP_RESULT = result ∧ (d.swapAnswered result go).get F.COUT_TWIN_SWAP_GO = go ∧
      (d.swapAnswered result go).get F.COUT_TWIN_SWAP_TWIN = d.get F.COUT_TWIN_SWAP_TWIN := by
  unfold swapAnswered
  refine ⟨?_, (get_put _ _ _ _).trans (Nat.mod_eq_of_lt hg), ?_⟩
  · rw [get_put_apart _ (by decide), get_put]
    exact Nat.mod_eq_of_lt hr
  · rw [get_put_apart _ (by decide), get_put_apart _ (by decide)]

theorem Device.swapAnswered_within (d : Device) (result go : Nat) :
    d.Within [] [F.COUT_TWIN_SWAP_SWAP_RESULT.key 0, F.COUT_TWIN_SWAP_GO.key 0] (d.swapAnswered result go) :=
  (Within.put _ _ _ _).trans (.put _ _ _ _)

theorem Device.get_swapTwin_named (d : Device) (k : Fin 8) : (d.put F.COUT_TWIN_SWAP_TWIN 0 k).get F.COUT_TWIN_SWAP_TWIN = k :=
  (d.get_put _ _ _).trans (Nat.mod_eq_of_lt k.isLt)

theorem does_swapTaken {s : State} {v : Word} {k : Fin 8} (j : Fin 8) (r : s.Running) (named : bits v.toNat 2 0 = k)
    (taken : ¬s.dev.SwapRefused k) :
    Does (.twinSwap v) s [.twins] swapKeys (fun d =>
      d.twin k = { s.dev.twin k with swapAt := some s.dev.swapPound } ∧
      (j ≠ k → d.twin j = { s.dev.twin j with swapAt := none }) ∧ d.get F.COUT_TWIN_SWAP_SWAP_RESULT = 1 ∧
      d.get F.COUT_TWIN_SWAP_GO = 1 ∧ d.get F.COUT_TWIN_SWAP_TWIN = k) := by
  have w := ((Within.put s.dev F.COUT_TWIN_SWAP_TWIN 0 k).trans (swapWaits_within _ k s.dev.swapPound)).trans (swapAnswered_within _ 1 1)
  have twins (i : Fin 8) := twin_swapWaits (s.dev.put F.COUT_TWIN_SWAP_TWIN 0 k) k i s.dev.swapPound
  obtain ⟨result, go, twin⟩ := get_swapAnswered ((s.dev.put F.COUT_TWIN_SWAP_TWIN 0 k).swapWaits k s.dev.swapPound)
    (result := 1) (go := 1) (by decide) (by decide)
  refine does_within rfl r (wrTwinSwap_of_taken named taken) (w.mono (by decide) (fun _ hk => hk)) ⟨?_, fun other => ?_, result, go, ?_⟩
  · rw [(swapAnswered_within _ 1 1).twin, twins, if_pos rfl, twin_put]
  · rw [(swapAnswered_within _ 1 1).twin, twins, if_neg other, twin_put]
  · rw [twin, (swapWaits_within _ _ _).get _ _ (by simp), get_swapTwin_named]

theorem does_swapRefused {s : State} {v : Word} {k : Fin 8} (r : s.Running) (named : bits v.toNat 2 0 = k)
    (refused : s.dev.SwapRefused k) :
    Does (.twinSwap v) s [] swapKeys (fun d =>
      d.get F.COUT_TWIN_SWAP_SWAP_RESULT = 2 ∧ d.get F.COUT_TWIN_SWAP_TWIN = k ∧
      d.get F.COUT_TWIN_SWAP_GO = ofBool ((List.range 8).any (fun j => (s.dev.twin j).swapAt.isSome))) := by
  have small (v : Bool) : ofBool v < 2 := by cases v <;> decide
  obtain ⟨result, go, twin⟩ := get_swapAnswered (s.dev.put F.COUT_TWIN_SWAP_TWIN 0 k) (result := 2) (by decide)
    (small ((List.range 8).any (fun j => (s.dev.twin j).swapAt.isSome)))
  exact does_within rfl r (wrTwinSwap_of_refused named refused) ((Within.put _ _ _ _).trans (swapAnswered_within _ _ _))
    ⟨result, twin.trans (s.dev.get_swapTwin_named k), go⟩

/-- A core that has not aligned in time is marked, shown and reported. -/
def Device.slowShown (d : Device) (c : Nat) : Device :=
  (d.onCore c (fun k => { k with slow := true })).eventBit F.COUT_RETUNE_EVT_RETUNE_SLOW 0 c

theorem does_retuneSlow {s : State} {c : Fin 16} (r : s.Running) (run : s.dev.retuneSlow c = (s.dev.slowShown c).coreReport c 5) :
    Does (.retuneSlow c) s [.cores, .flt] (reportKeys ++ evKeys F.COUT_RETUNE_EVT_RETUNE_SLOW) (fun d =>
      d.core c = { s.dev.core c with slow := true } ∧ (∀ n, n ≠ c.val → d.core n = s.dev.core n) ∧
      bit (d.get F.COUT_RETUNE_EVT_RETUNE_SLOW) c = true ∧ s.dev.Reported d 3 0 5 c) := by
  have shown : s.dev.Within [.cores] (evKeys F.COUT_RETUNE_EVT_RETUNE_SLOW) (s.dev.slowShown c) :=
    (Within.onCore s.dev c _).trans (.eventBit _ _ _ _)
  refine does_within rfl r run ((shown.trans (.report _ 3 0 5 c)).mono (by decide) (by decide)) ⟨?_, fun n other => ?_, ?_, ?_⟩
  · rw [coreReport, core_report, slowShown, core_eventBit, core_onCore_self]
  · rw [coreReport, core_report, slowShown, core_eventBit, core_onCore_ne _ _ _ other]
  · rw [coreReport, get_report_apart _ (by decide)]
    exact bit_eventBit _ c.isLt (by decide)
  · exact reported_report shown.flt (shown.get _ _ (by decide))

/-- Settles O37: a swap is judged by what stands before the write, and the ends of HOP_BLANK and RETUNE_LIMIT change their core alone. -/
theorem swapAndRetune : Obligations.SwapAndRetune := by
  unfold Obligations.SwapAndRetune
  refine ⟨?_, ?_, ?_, ?_⟩
  · intro s v k j p r named free enabled at' ahead
    subst at'
    refine does_swapTaken j r named ?_
    rintro (bound | disabled | near)
    · exact absurd (free.symm.trans bound) (by decide)
    · exact absurd (enabled.symm.trans disabled) (by decide)
    · exact absurd ahead (by simpa [Device.swapPound] using near)
  · intro s v k p r named at' refused
    subst at'
    exact does_swapRefused r named refused
  · intro s c r blank passed
    have run : s.dev.hopBlankEnd c = s.dev.onCore c (fun k => { k with blank := false }) := by simp [Device.hopBlankEnd, blank, passed]
    exact does_within rfl r run (.onCore _ _ _) ⟨Device.core_onCore_self _ _ _, fun n other => Device.core_onCore_ne _ _ _ other⟩
  · intro s c r retunes first misaligned passed
    exact does_retuneSlow r (by simp [Device.retuneSlow, Device.slowShown, retunes, first, misaligned, passed])

end Sys2Proof.Machine
end

section
/-! ALIGN strobes: programs armed and disarmed, and their strobes (R136-R138). -/

namespace Sys2Proof.Machine

open Device

variable {a b c d : Device}

/-! ### What the program of an output reads and shows -/

/-- The fields that a strobe program is taken from. -/
def programReads : List Fld :=
  [F.COUT_ALIGN_CFG_WIDTH, F.COUT_ALIGN_CFG_PERIOD, F.COUT_ALIGN_CFG_COUNT, F.COUT_ALIGN_CFG_EDGE_SEL, F.COUT_ALIGN_POUND_HI_POUND,
    F.COUT_ALIGN_POUND_LO_POUND]

/-- The fields that show a bit for each output. -/
def strobeBits : List Fld := [F.COUT_ALIGN_ARM_ARM, F.COUT_ALIGN_DISARM_DISARM, F.COUT_ALIGN_REFUSED_REFUSED]

/-- Output n, its program and what is shown of it are the same in b as in a. -/
structure Device.StrobeAlike (n : Nat) (a b : Device) : Prop where
  output : b.output n = a.output n
  reads : ∀ f ∈ F.COUT_STAT_ALIGN_RESULT :: programReads, b.get f n = a.get f n
  bits : a.BitAlike strobeBits n b
  tow : b.tow = a.tow

namespace Device.StrobeAlike

variable {n : Nat}

theorem refl (d : Device) : d.StrobeAlike n d := ⟨rfl, fun _ _ => rfl, fun _ _ => rfl, rfl⟩

theorem trans (h : a.StrobeAlike n b) (k : b.StrobeAlike n c) : a.StrobeAlike n c :=
  ⟨k.output.trans h.output, fun f hf => (k.reads f hf).trans (h.reads f hf), h.bits.trans k.bits, k.tow.trans h.tow⟩

theorem ite {x : Prop} [Decidable x] (h : d.StrobeAlike n a) (k : d.StrobeAlike n b) : d.StrobeAlike n (if x then a else b) := by
  split
  · exact h
  · exact k

theorem when {x : Bool} {f : Device → Device} (h : ∀ d : Device, d.StrobeAlike n (f d)) : d.StrobeAlike n (d.when x f) := ite (h d) (refl d)

theorem program (h : a.StrobeAlike n b) : b.strobeProgram n = a.strobeProgram n := by
  have read (f : Fld) (hf : f ∈ programReads) : b.get f n = a.get f n := h.reads f (List.mem_cons_of_mem _ hf)
  unfold strobeProgram is
  simp only [read F.COUT_ALIGN_CFG_WIDTH (by simp [programReads]), read F.COUT_ALIGN_CFG_PERIOD (by simp [programReads]),
    read F.COUT_ALIGN_CFG_COUNT (by simp [programReads]), read F.COUT_ALIGN_CFG_EDGE_SEL (by simp [programReads]),
    read F.COUT_ALIGN_POUND_HI_POUND (by simp [programReads]), read F.COUT_ALIGN_POUND_LO_POUND (by simp [programReads])]

theorem result (h : a.StrobeAlike n b) : b.get F.COUT_STAT_ALIGN_RESULT n = a.get F.COUT_STAT_ALIGN_RESULT n :=
  h.reads _ List.mem_cons_self

theorem onOutput (d : Device) {m : Nat} (f : Output → Output) (other : m ≠ n) : d.StrobeAlike n (d.onOutput m f) :=
  ⟨d.output_onOutput_ne f other.symm, fun _ _ => rfl, fun _ _ => rfl, rfl⟩

theorem putResult (d : Device) {m : Nat} (v : Nat) (other : m ≠ n) : d.StrobeAlike n (d.put F.COUT_STAT_ALIGN_RESULT m v) := by
  have beside : ∀ f ∈ programReads, f.beside F.COUT_STAT_ALIGN_RESULT = true := by decide
  have shown : ∀ f ∈ strobeBits, f.beside F.COUT_STAT_ALIGN_RESULT = true := by decide
  refine ⟨rfl, fun f hf => ?_, fun f hf => congrArg (bit · n) (d.get_put_beside (shown f hf) _ _ _), rfl⟩
  obtain rfl | hf := List.mem_cons.mp hf
  · refine d.get_put_ne _ _ _ _ _ ?_
    change (0x21400 + 4 * n) * 32 + 20 ≠ (0x21400 + 4 * m) * 32 + 20
    omega
  · exact d.get_put_beside (beside f hf) _ _ _

theorem putBit {n : Fin 32} (d : Device) {f : Fld} {m : Nat} (v : Bool) (listed : f ∈ strobeBits) (other : m ≠ n) :
    d.StrobeAlike n (d.putBit f 0 m v) := by
  have away : ∀ n : Fin 32, ∀ f ∈ strobeBits, ∀ g ∈ F.COUT_STAT_ALIGN_RESULT :: programReads, g.key n ≠ f.key 0 := by decide
  have wide : ∀ f ∈ strobeBits, f.width = 32 := by decide
  exact ⟨rfl, fun g hg => d.get_put_ne _ _ _ _ _ (away n f listed g hg),
    .putBit d v (by decide) listed (by rw [wide f listed]; exact n.isLt) other.symm, rfl⟩

theorem alignArm {n : Fin 32} (d : Device) {m : Nat} (other : m ≠ n) : d.StrobeAlike n (d.alignArm m) := by
  refine .ite ?_ ?_
  · exact (putResult d 2 other).trans (.putBit _ _ (by simp [strobeBits]) other)
  · exact ((onOutput d _ other).trans (.putResult _ 1 other)).trans (.putBit _ _ (by simp [strobeBits]) other)

theorem alignEnd {n : Fin 32} (d : Device) {m : Nat} (other : m ≠ n) : d.StrobeAlike n (d.alignEnd m) :=
  (((onOutput d _ other).trans (.putResult _ 3 other)).trans (.putBit _ _ (by simp [strobeBits]) other)).trans (.putBit _ _ (by simp [strobeBits]) other)

theorem alignDisarm {n : Fin 32} (d : Device) {m : Nat} (other : m ≠ n) : d.StrobeAlike n (d.alignDisarm m) :=
  .ite ((onOutput d _ other).trans (.putBit _ _ (by simp [strobeBits]) other)) (.ite (alignEnd d other) (refl d))

end Device.StrobeAlike

/-- A write that acts on one output after the other acts on output n once. -/
theorem Device.strobes_once {f : Nat → Device → Device} {n : Fin 32} (others : ∀ m, m ≠ n.val → ∀ d : Device, d.StrobeAlike n (f m d))
    (d : Device) : ∃ m, d.StrobeAlike n m ∧ (f n m).StrobeAlike n (forEach (List.range 32) f d) :=
  forEach_once List.nodup_range (List.mem_range.mpr n.isLt) .refl (fun _ _ _ h k => h.trans k) others d

/-! ### Arming (R136) -/

/-- The keys of the results of the programs. -/
def alignResultKeys : List Nat := (List.range 32).map (fun m => F.COUT_STAT_ALIGN_RESULT.key m)

theorem Device.putResult_within (d : Device) {m : Nat} (v : Nat) (hm : m ∈ List.range 32) :
    d.Within [] alignResultKeys (d.put F.COUT_STAT_ALIGN_RESULT m v) :=
  (Within.put d _ m v).mono (fun _ hp => hp) (fun _ hk => List.mem_singleton.mp hk ▸ List.mem_map_of_mem hm)

theorem Device.alignArm_of_near {n : Nat} (near : (d.strobeProgram n).pound.toNat < d.tow.pound.toNat + 2) :
    d.alignArm n = (d.put F.COUT_STAT_ALIGN_RESULT n 2).putBit F.COUT_ALIGN_REFUSED_REFUSED 0 n true := if_pos near

theorem Device.alignArm_of_ahead {n : Nat} (ahead : d.tow.pound.toNat + 2 ≤ (d.strobeProgram n).pound.toNat) :
    d.alignArm n = ((d.onOutput n (fun o => { o with program := some (d.strobeProgram n), strobe := 0 })).put
      F.COUT_STAT_ALIGN_RESULT n 1).putBit F.COUT_ALIGN_ARM_ARM 0 n true := if_neg (Nat.not_lt.mpr ahead)

theorem Device.wrAlignArm_within (d : Device) (v : Nat) : d.Within [.outputs]
    (alignResultKeys ++ [F.COUT_ALIGN_REFUSED_REFUSED.key 0, F.COUT_ALIGN_ARM_ARM.key 0]) (d.wrAlignArm v) := by
  refine .forEach_mem fun m hm d => .when fun d => .ite ?_ ?_
  · refine ((d.putResult_within 2 hm).trans (.putBit _ _ _ _ _)).mono (by simp) fun k hk => ?_
    exact List.mem_append.mpr ((List.mem_append.mp hk).imp_right (List.mem_cons.mpr ∘ .inl ∘ List.mem_singleton.mp))
  · refine (((Within.onOutput d m _).trans (putResult_within _ 1 hm)).trans (.putBit _ _ _ _ _)).mono (by simp) fun k hk => ?_
    exact List.mem_append.mpr ((List.mem_append.mp hk).imp_right (List.mem_cons_of_mem _))

theorem does_alignArm {s : State} {v : Word} {n : Fin 32} {post : Device → Prop} (r : s.Running)
    (h : ∀ m d : Device, s.dev.StrobeAlike n m → (m.when (bit v.toNat n) (fun d => d.alignArm n)).StrobeAlike n d → post d) :
    Does (.alignArm v) s [.outputs] (alignResultKeys ++ [F.COUT_ALIGN_REFUSED_REFUSED.key 0, F.COUT_ALIGN_ARM_ARM.key 0]) post := by
  obtain ⟨m, before, after⟩ := strobes_once (n := n) (f := fun k d => d.when (bit v.toNat k) (fun d => d.alignArm k))
    (fun k other d => .when fun d => .alignArm d other) s.dev
  exact does_within rfl r rfl (s.dev.wrAlignArm_within _) (h m _ before after)

/-! ### Disarming (R136) -/

/-- The program of an output that ends. -/
def Output.disarmed (o : Output) : Output := { o with program := none, strobe := 0 }

/-- The keys that the end of the program of output n changes. -/
def alignEndKeys (n : Nat) : List Nat := [F.COUT_STAT_ALIGN_RESULT.key n, F.COUT_ALIGN_ARM_ARM.key 0, F.COUT_ALIGN_DISARM_DISARM.key 0]

theorem Device.alignEnd_within (d : Device) (n : Nat) : d.Within [.outputs] (alignEndKeys n) (d.alignEnd n) :=
  (((Within.onOutput d n _).trans (.put _ _ _ _)).trans (.putBit _ _ _ _ _)).trans (.putBit _ _ _ _ _)

theorem Device.output_alignEnd (d : Device) (n m : Nat) : (d.alignEnd n).output m = if m = n then (d.output n).disarmed else d.output m := by
  rw [alignEnd, output_putBit, output_putBit, output_put, output_onOutput]
  rfl

theorem Device.get_alignEnd (d : Device) (n : Fin 32) : (d.alignEnd n).get F.COUT_STAT_ALIGN_RESULT n = 3 ∧
    bit ((d.alignEnd n).get F.COUT_ALIGN_ARM_ARM) n = false ∧ bit ((d.alignEnd n).get F.COUT_ALIGN_DISARM_DISARM) n = false := by
  unfold alignEnd
  refine ⟨?_, ?_, bit_putBit _ n.isLt _ _⟩
  · rw [putBit, get_put_beside _ (by decide), putBit, get_put_beside _ (by decide), get_put]
    rfl
  · rw [get_putBit_apart _ (by decide), bit_putBit _ n.isLt]

theorem Device.alignDisarm_of_high {n : Nat} (high : (d.output n).high.isSome = true) :
    d.alignDisarm n = (d.onOutput n Output.disarmed).putBit F.COUT_ALIGN_DISARM_DISARM 0 n true := if_pos high

theorem Device.alignDisarm_of_low {n : Nat} (low : (d.output n).high = none) :
    d.alignDisarm n = if (d.output n).program.isSome then d.alignEnd n else d := by
  rw [alignDisarm, low]
  rfl

theorem Device.wrAlignDisarm_within (d : Device) (v : Nat) : d.Within [.outputs]
    (alignResultKeys ++ [F.COUT_ALIGN_DISARM_DISARM.key 0, F.COUT_ALIGN_ARM_ARM.key 0]) (d.wrAlignDisarm v) := by
  refine .forEach_mem fun m hm d => .when fun d => .ite ?_ (.ite ?_ (.refl d))
  · exact ((Within.onOutput d m _).trans (.putBit _ _ _ _ _)).mono (by simp) (by simp +contextual)
  · have result : F.COUT_STAT_ALIGN_RESULT.key m ∈ alignResultKeys := List.mem_map_of_mem hm
    refine (d.alignEnd_within m).mono (fun _ hp => hp) fun k hk => ?_
    simp only [alignEndKeys, List.mem_cons, List.not_mem_nil, or_false] at hk
    obtain rfl | rfl | rfl := hk
    · exact List.mem_append_left _ result
    · simp
    · simp

theorem does_alignDisarm {s : State} {v : Word} {n : Fin 32} {post : Device → Prop} (r : s.Running)
    (h : ∀ m d : Device, s.dev.StrobeAlike n m → (m.when (bit v.toNat n) (fun d => d.alignDisarm n)).StrobeAlike n d → post d) :
    Does (.alignDisarm v) s [.outputs] (alignResultKeys ++ [F.COUT_ALIGN_DISARM_DISARM.key 0, F.COUT_ALIGN_ARM_ARM.key 0]) post := by
  obtain ⟨m, before, after⟩ := strobes_once (n := n) (f := fun k d => d.when (bit v.toNat k) (fun d => d.alignDisarm k))
    (fun k other d => .when fun d => .alignDisarm d other) s.dev
  exact does_within rfl r rfl (s.dev.wrAlignDisarm_within _) (h m _ before after)

/-! ### Strobes (R137, R138) -/

theorem Device.outputParked_onOutput {n : Nat} {f : Output → Output} (h : (f (d.output n)).behind = (d.output n).behind) :
    (d.onOutput n f).outputParked n = d.outputParked n := by
  unfold outputParked
  rw [output_onOutput_self, h]
  rfl

theorem Device.retimedBy_onOutput {n : Nat} {f : Output → Output} (h : (f (d.output n)).behind = (d.output n).behind) (edge : Bool) :
    (d.onOutput n f).retimedBy n edge = d.retimedBy n edge := by
  unfold retimedBy
  rw [outputParked_onOutput h, output_onOutput_self, h]
  rfl

/-- The next strobe of output n's program is due on it. -/
structure Device.StrobeDue (d : Device) (n : Nat) (p : Strobes) : Prop where
  settled : d.sourceDue n = false
  armed : (d.output n).program = some p
  goesOn : p.ended (d.output n).strobe = false
  due : p.pound.toNat + (d.output n).strobe * p.period ≤ d.tow.pound.toNat
  low : (d.output n).high = none

/-- One more strobe of output n's program has passed. -/
def Device.strobeCounted (d : Device) (n : Nat) : Device := d.onOutput n (fun o => { o with strobe := o.strobe + 1 })

/-- The strobe of output n is skipped. -/
def Device.strobeSkipped (d : Device) (n : Nat) : Device := (d.strobeCounted n).putBit F.COUT_ALIGN_SKIPPED_SKIPPED 0 n true

theorem Device.strobeSkipped_within (d : Device) (n : Nat) : d.Within [.outputs] [F.COUT_ALIGN_SKIPPED_SKIPPED.key 0] (d.strobeSkipped n) :=
  (Within.onOutput d n _).trans (.putBit _ _ _ _ _)

theorem Device.output_strobeSkipped (d : Device) (n m : Nat) :
    (d.strobeSkipped n).output m = if m = n then { d.output n with strobe := (d.output n).strobe + 1 } else d.output m := by
  rw [strobeSkipped, output_putBit, strobeCounted, output_onOutput]

theorem Device.alignStrobe_of_parked {n : Nat} {p : Strobes} (h : d.StrobeDue n p) (parked : d.outputParked n = true) :
    d.alignStrobe n = if p.ended ((d.output n).strobe + 1) then (d.strobeSkipped n).alignEnd n else d.strobeSkipped n := by
  have parked' : (d.strobeCounted n).outputParked n = true := (outputParked_onOutput rfl).trans parked
  have armed := h.armed
  unfold alignStrobe
  dsimp only
  rw [armed]
  exact (if_pos ⟨h.settled, h.goesOn, h.due, h.low⟩).trans (if_pos parked')

theorem Device.alignStrobe_of_running {n : Nat} {p : Strobes} (h : d.StrobeDue n p) (runs : d.outputParked n = false) :
    d.alignStrobe n = (((d.strobeCounted n).bump F.COUT_ALIGN_CNT_FIRED n).put F.COUT_STAT_ALIGN_HIGH n 1).onOutput n
      (fun o => { o with high := some (p.width + 1), edge := p.edge, edgeBy := d.retimedBy n p.edge }) := by
  have runs' : (d.strobeCounted n).outputParked n = false := (outputParked_onOutput rfl).trans runs
  have retimed : (d.strobeCounted n).retimedBy n p.edge = d.retimedBy n p.edge := retimedBy_onOutput rfl _
  have armed := h.armed
  unfold alignStrobe
  dsimp only
  rw [armed, ← retimed]
  exact (if_pos ⟨h.settled, h.goesOn, h.due, h.low⟩).trans (if_neg (by rw [← strobeCounted, runs']; decide))

/-- The strobe of output n falls. -/
def Device.strobeLowered (d : Device) (n : Nat) : Device :=
  (d.put F.COUT_STAT_ALIGN_HIGH n 0).onOutput n (fun o => { o with high := none, edgeBy := d.retimedBy n o.edge })

theorem Device.strobeLowered_within (d : Device) (n : Nat) : d.Within [.outputs] [F.COUT_STAT_ALIGN_HIGH.key n] (d.strobeLowered n) :=
  (Within.put d _ _ _).trans (.onOutput _ _ _)

theorem Device.output_strobeLowered (d : Device) (n m : Nat) : (d.strobeLowered n).output m =
    if m = n then { d.output n with high := none, edgeBy := d.retimedBy n (d.output n).edge } else d.output m :=
  output_onOutput _ _ _ _

theorem Device.alignStrobeEnd_of_due {n : Nat} (high : (d.output n).high = some 0) (settled : d.sourceDue n = false) :
    d.alignStrobeEnd n =
      if (d.output n).program.all (fun p => p.ended (d.output n).strobe) then (d.strobeLowered n).alignEnd n else d.strobeLowered n := by
  refine (if_pos ⟨high, settled⟩).trans ?_
  unfold strobeFall
  dsimp only
  cases (d.output n).program with
  | none => rfl
  | some p => rfl

theorem Device.get_high_strobeLowered (d : Device) (n : Nat) : (d.strobeLowered n).get F.COUT_STAT_ALIGN_HIGH n = 0 :=
  (get_onOutput _ _ _ _ _).trans (d.get_put _ _ _)

/-- The end of a program leaves ALIGN_HIGH and the skips. -/
theorem Device.get_alignEnd_kept (d : Device) (n m : Nat) : (d.alignEnd n).get F.COUT_STAT_ALIGN_HIGH m = d.get F.COUT_STAT_ALIGN_HIGH m ∧
    (d.alignEnd n).get F.COUT_ALIGN_SKIPPED_SKIPPED = d.get F.COUT_ALIGN_SKIPPED_SKIPPED := by
  unfold alignEnd
  constructor
  · rw [putBit, get_put_beside _ (by decide), putBit, get_put_beside _ (by decide), get_put_beside _ (by decide), get_onOutput]
  · rw [get_putBit_apart _ (by decide), get_putBit_apart _ (by decide), get_put_beside _ (by decide), get_onOutput]

theorem does_strobeRises {s : State} {n : Fin 32} {p : Strobes} (r : s.Running) (h : s.dev.StrobeDue n p)
    (runs : s.dev.outputParked n = false) :
    Does (.alignStrobe n) s [.outputs] [F.COUT_ALIGN_CNT_FIRED.key n, F.COUT_STAT_ALIGN_HIGH.key n] (fun d =>
      d.output n = { s.dev.output n with
        high := some (p.width + 1), strobe := (s.dev.output n).strobe + 1, edge := p.edge, edgeBy := s.dev.retimedBy n p.edge } ∧
      (∀ m, m ≠ n.val → d.output m = s.dev.output m) ∧ d.get F.COUT_STAT_ALIGN_HIGH n = 1 ∧
      d.get F.COUT_ALIGN_CNT_FIRED n = (s.dev.get F.COUT_ALIGN_CNT_FIRED n + 1) % 2 ^ 32) := by
  have w := (((Within.onOutput s.dev n (fun o => { o with strobe := o.strobe + 1 })).trans
    (.put _ F.COUT_ALIGN_CNT_FIRED n (s.dev.get F.COUT_ALIGN_CNT_FIRED n + 1))).trans (.put _ F.COUT_STAT_ALIGN_HIGH n 1)).trans
    (.onOutput _ n (fun o => { o with high := some (p.width + 1), edge := p.edge, edgeBy := s.dev.retimedBy n p.edge }))
  refine does_within rfl r (alignStrobe_of_running h runs) (w.mono (by decide) (fun _ hk => hk)) ⟨?_, fun m other => ?_, ?_, ?_⟩
  · rw [output_onOutput_self, output_put, bump, output_put, strobeCounted, output_onOutput_self]
  · rw [output_onOutput_ne _ _ other, output_put, bump, output_put, strobeCounted, output_onOutput_ne _ _ other]
  · rw [get_onOutput, get_put]
    rfl
  · rw [get_onOutput, get_put_beside _ (by decide), get_bump]
    rfl

/-- Settles O39: a write of several outputs acts once on each; a strobe and its end are each one operation at their output. -/
theorem alignStrobes : Obligations.AlignStrobes := by
  unfold Obligations.AlignStrobes
  refine ⟨?_, ?_, ?_, ?_, ?_, ?_, ?_, ?_, ?_, ?_, ?_⟩
  · intro s v n r written ahead
    refine does_alignArm (n := n) r fun m d before after => ?_
    rw [written, when_true, alignArm_of_ahead (by rw [before.tow, before.program]; exact ahead), before.program] at after
    refine ⟨?_, ?_, ?_⟩
    · rw [after.output, output_putBit, output_put, output_onOutput_self, before.output]
    · rw [after.result, putBit, get_put_beside _ (by decide), get_put]
      rfl
    · rw [after.bits _ (by simp [strobeBits]), bit_putBit _ n.isLt]
  · intro s v n r written near
    refine does_alignArm (n := n) r fun m d before after => ?_
    rw [written, when_true, alignArm_of_near (by rw [before.tow, before.program]; exact near)] at after
    refine ⟨after.output.trans before.output, ?_, ?_⟩
    · rw [after.result, putBit, get_put_beside _ (by decide), get_put]
      rfl
    · rw [after.bits _ (by simp [strobeBits]), bit_putBit _ n.isLt]
  · intro s v n r unwritten
    refine does_alignArm (n := n) r fun m d before after => ?_
    rw [unwritten, when_false] at after
    have kept := before.trans after
    exact ⟨kept.output, kept.result, kept.bits _ (by simp [strobeBits])⟩
  · intro s v n r written low armed
    refine does_alignDisarm (n := n) r fun m d before after => ?_
    rw [written, when_true, alignDisarm_of_low (by rw [before.output]; exact low), before.output, if_pos armed] at after
    obtain ⟨result, arm, -⟩ := m.get_alignEnd n
    refine ⟨?_, after.result.trans result, (after.bits _ (by simp [strobeBits])).trans arm⟩
    rw [after.output, output_alignEnd, if_pos rfl, before.output]
    rfl
  · intro s v n r written high
    refine does_alignDisarm (n := n) r fun m d before after => ?_
    rw [written, when_true, alignDisarm_of_high (by rw [before.output]; exact high)] at after
    refine ⟨?_, ?_⟩
    · rw [after.output, output_putBit, output_onOutput_self, before.output]
      rfl
    · rw [after.bits _ (by simp [strobeBits]), bit_putBit _ n.isLt]
  · intro s v n r idle
    refine does_alignDisarm (n := n) r fun m d before after => ?_
    have same : m.when (bit v.toNat n) (fun d => d.alignDisarm n) = m := by
      obtain unwritten | ⟨low, unarmed⟩ := idle
      · rw [unwritten, when_false]
      · have idle' : m.alignDisarm n = m := by
          rw [alignDisarm_of_low (by rw [before.output]; exact low), before.output, unarmed]
          rfl
        cases bit v.toNat n
        · rfl
        · exact idle'
    rw [same] at after
    have kept := before.trans after
    exact ⟨kept.output, kept.result, kept.bits _ (by simp [strobeBits])⟩
  · exact fun s n p r settled armed goesOn due low runs => does_strobeRises r ⟨settled, armed, goesOn, due, low⟩ runs
  · intro s n p r settled armed goesOn due low parked more
    have run := (alignStrobe_of_parked ⟨settled, armed, goesOn, due, low⟩ parked).trans (if_neg (Bool.eq_false_iff.mp more))
    exact does_within rfl r run (s.dev.strobeSkipped_within n) ⟨(output_strobeSkipped _ _ _).trans (if_pos rfl),
      fun m other => (output_strobeSkipped _ _ _).trans (if_neg other), bit_putBit _ n.isLt _ _⟩
  · intro s n p r settled armed goesOn due low parked last
    have run := (alignStrobe_of_parked ⟨settled, armed, goesOn, due, low⟩ parked).trans (if_pos last)
    have w := (s.dev.strobeSkipped_within n).trans (alignEnd_within _ n)
    have out (m : Nat) := (s.dev.strobeSkipped n).output_alignEnd n m
    obtain ⟨result, arm, disarm⟩ := (s.dev.strobeSkipped n).get_alignEnd n
    refine does_within rfl r run (w.mono (by decide) (fun _ hk => hk)) ⟨?_, ?_, result, arm, disarm, fun m other => ?_, ?_, ?_⟩
    · rw [out, if_pos rfl]
      rfl
    · rw [out, if_pos rfl]
      rfl
    · rw [out, if_neg other, output_strobeSkipped, if_neg other]
    · rw [((s.dev.strobeSkipped n).get_alignEnd_kept n n).2]
      exact bit_putBit _ n.isLt _ _
    · rw [out, if_pos rfl, output_strobeSkipped, if_pos rfl]
      exact low
  · intro s n p r high settled armed goesOn
    have run := (alignStrobeEnd_of_due high settled).trans (if_neg (by rw [armed]; exact Bool.eq_false_iff.mp goesOn))
    have out (m : Nat) := s.dev.output_strobeLowered n m
    refine does_within rfl r run (s.dev.strobeLowered_within n)
      ⟨s.dev.get_high_strobeLowered n, ?_, ?_, fun m other => (out m).trans (if_neg other), ?_⟩
    · rw [out, if_pos rfl]
    · rw [out, if_pos rfl]
    · rw [out, if_pos rfl]
      exact armed
  · intro s n r high settled ended
    have run := (alignStrobeEnd_of_due high settled).trans (if_pos ended)
    have w := (s.dev.strobeLowered_within n).trans (alignEnd_within _ n)
    have out (m : Nat) := (s.dev.strobeLowered n).output_alignEnd n m
    have lowered (m : Nat) := s.dev.output_strobeLowered n m
    obtain ⟨result, arm, disarm⟩ := (s.dev.strobeLowered n).get_alignEnd n
    refine does_within rfl r run (w.mono (by decide) (fun _ hk => hk)) ⟨?_, ?_, ?_, fun m other => ?_, ?_, ?_, result, arm, disarm⟩
    · rw [((s.dev.strobeLowered n).get_alignEnd_kept n n).1, get_high_strobeLowered]
    · rw [out, if_pos rfl, lowered, if_pos rfl]
      rfl
    · rw [out, if_pos rfl, lowered, if_pos rfl]
      rfl
    · rw [out, if_neg other, lowered, if_neg other]
    · rw [out, if_pos rfl]
      rfl
    · rw [out, if_pos rfl]
      rfl

end Sys2Proof.Machine
end

section
/-! Twins: how a change ends, and the switchover, abandonment and deferral of changes (R114, R122, R123, R126, R130). -/

namespace Sys2Proof.Machine

open Device

variable {a b c d : Device}

/-! ### The end of a change -/

/-- A swap that waits on twin k ends with SWAP_RESULT r. -/
def Device.swapEnded (d : Device) (k r : Nat) : Device := d.when (d.twin k).swapAt.isSome (fun d => d.endSwap k r)

/-- The change of twin k ends, that of a swap with SWAP_RESULT r. -/
def Device.changeEnded (d : Device) (k r : Nat) : Device := (d.swapEnded k r).endHop k

/-- The twin without a change. -/
def Twin.ended (t : Twin) : Twin := { t with hop := none, swapAt := none, deferred := 0, swapMissed := false }

/-- The fields that the end of a change writes. -/
def changeFields : List Fld :=
  [F.COUT_TWIN_SWAP_GO, F.COUT_TWIN_SWAP_SWAP_RESULT, F.COUT_TWIN_STAT_PREPARED, F.COUT_TWIN_STAT_DEFERRING]

theorem Device.swapEnded_within (d : Device) (k r : Nat) :
    d.Within [.twins] [F.COUT_TWIN_SWAP_GO.key 0, F.COUT_TWIN_SWAP_SWAP_RESULT.key 0] (d.swapEnded k r) :=
  .when fun d => ((Within.setTwin d _ _).trans (.put _ _ _ _)).trans (.put _ _ _ _)

theorem Device.changeEnded_within (d : Device) (k r : Nat) : d.Within [.twins] (changeFields.map (Fld.key · 0)) (d.changeEnded k r) :=
  ((d.swapEnded_within k r).trans (((Within.setTwin _ _ _).trans (.putBit _ _ _ _ _)).trans (.putBit _ _ _ _ _))).mono (by simp)
    (fun _ hk => hk)

theorem Device.changeEnded_leaves (d : Device) (k r : Nat) : d.Leaves changeFields (d.changeEnded k r) := by
  have swap : d.Leaves ([F.COUT_TWIN_SWAP_GO] ++ [F.COUT_TWIN_SWAP_SWAP_RESULT]) (d.swapEnded k r) :=
    .when fun d => (Leaves.put _ _ _ _).trans (.put _ _ _ _)
  have dropped := swap.parts (c := (d.swapEnded k r).setTwin k { (d.swapEnded k r).twin k with hop := none, deferred := 0, swapMissed := false })
    rfl
  exact (dropped.trans (.put _ F.COUT_TWIN_STAT_PREPARED _ _)).trans (.put _ F.COUT_TWIN_STAT_DEFERRING _ _)

theorem Device.twin_swapEnded (d : Device) (k r j : Nat) :
    (d.swapEnded k r).twin j = if j = k then { d.twin k with swapAt := none } else d.twin j := by
  unfold swapEnded Device.when
  split
  · exact d.twin_setTwin k _ j
  · next none' =>
    rw [Bool.not_eq_true, Option.isSome_eq_false_iff, Option.isNone_iff_eq_none] at none'
    split
    · next same => rw [same, ← none']
    · rfl

theorem Device.twin_changeEnded (d : Device) (k r j : Nat) :
    (d.changeEnded k r).twin j = if j = k then (d.twin k).ended else d.twin j := by
  rw [changeEnded, endHop, twin_putBit, twin_putBit, twin_setTwin, twin_swapEnded, twin_swapEnded, if_pos rfl]
  split <;> rfl

theorem Device.get_changeEnded (d : Device) (k : Fin 8) (r : Nat) : bit ((d.changeEnded k r).get F.COUT_TWIN_STAT_PREPARED) k = false ∧
    bit ((d.changeEnded k r).get F.COUT_TWIN_STAT_DEFERRING) k = false := by
  refine ⟨?_, bit_putBit _ k.isLt _ _⟩
  rw [changeEnded, endHop, get_putBit_apart _ (by decide)]
  exact bit_putBit _ k.isLt _ _

theorem Device.get_swap_changeEnded {k r : Nat} (waits : (d.twin k).swapAt.isSome = true) (hr : r < 4) :
    (d.changeEnded k r).get F.COUT_TWIN_SWAP_SWAP_RESULT = r ∧ (d.changeEnded k r).get F.COUT_TWIN_SWAP_GO = 0 := by
  have run : d.swapEnded k r = d.endSwap k r := if_pos waits
  rw [changeEnded, run, endHop, endSwap, get_putBit_apart _ (by decide), get_putBit_apart _ (by decide), get_setTwin, get_put,
    get_putBit_apart _ (by decide), get_putBit_apart _ (by decide), get_setTwin, get_put_apart _ (by decide), get_put]
  exact ⟨Nat.mod_eq_of_lt hr, rfl⟩

/-! ### Writes of TWIN_EN (R114) -/

/-- The fields with a bit for each twin that a write of TWIN_EN can change, but READY. -/
def twinBits : List Fld :=
  [F.COUT_TWIN_CTRL_TWIN_EN, F.COUT_TWIN_STAT_ACTIVE, F.COUT_TWIN_STAT_PREPARED, F.COUT_TWIN_STAT_DEFERRING, F.COUT_HOP_EVT_TWIN_REFUSED]

/-- Twin k, its bits and the cores are the same in b as in a. -/
structure Device.TwinAlike (k : Nat) (a b : Device) : Prop where
  twin : b.twin k = a.twin k
  cores : b.cores = a.cores
  bits : a.BitAlike twinBits k b

namespace Device.TwinAlike

variable {k j : Nat}

theorem refl (d : Device) : d.TwinAlike k d := ⟨rfl, rfl, fun _ _ => rfl⟩

theorem trans (h : a.TwinAlike k b) (h' : b.TwinAlike k c) : a.TwinAlike k c :=
  ⟨h'.twin.trans h.twin, h'.cores.trans h.cores, h.bits.trans h'.bits⟩

theorem ite {x : Prop} [Decidable x] (h : d.TwinAlike k a) (h' : d.TwinAlike k b) : d.TwinAlike k (if x then a else b) := by
  split
  · exact h
  · exact h'

theorem setTwin (d : Device) (t : Twin) (other : k ≠ j) : d.TwinAlike k (d.setTwin j t) :=
  ⟨d.twin_setTwin_ne t other, rfl, fun _ _ => rfl⟩

theorem put (d : Device) {f : Fld} {i v : Nat} (apart : ∀ g ∈ twinBits, [f].all g.apart = true) : d.TwinAlike k (d.put f i v) :=
  ⟨rfl, rfl, .of_leaves (.put d f i v) apart⟩

theorem putBit {k : Fin 8} (d : Device) {f : Fld} (v : Bool) (listed : f ∈ twinBits) (other : k ≠ j) :
    d.TwinAlike k (d.putBit f 0 j v) := by
  have wide : ∀ f ∈ twinBits, f.width = 8 := by decide
  exact ⟨rfl, rfl, .putBit d v (by decide) listed (by rw [wide f listed]; exact k.isLt) other⟩

theorem refused {k : Fin 8} (d : Device) (other : k ≠ j) : d.TwinAlike k (d.eventBit F.COUT_HOP_EVT_TWIN_REFUSED 0 j) := by
  have event : d.eventBit F.COUT_HOP_EVT_TWIN_REFUSED 0 j = (d.putBit F.COUT_HOP_EVT_TWIN_REFUSED 0 j true).irqStat
      (F.COUT_HOP_EVT_TWIN_REFUSED.page 0) (F.COUT_HOP_EVT_TWIN_REFUSED.eventIndex 0) := rfl
  rw [event]
  exact (putBit d true (by simp [twinBits]) other).trans (.put _ (by decide))

theorem refreshReady (d : Device) : d.TwinAlike k (d.refreshReady j) := .put d (by decide)

theorem changeEnded {k : Fin 8} (d : Device) (r : Nat) (other : k ≠ j) : d.TwinAlike k (d.changeEnded j r) := by
  have swap : d.TwinAlike k (d.swapEnded j r) :=
    ite (((setTwin d _ other).trans (.put _ (by decide))).trans (.put _ (by decide))) (refl d)
  exact ((swap.trans (.setTwin _ _ other)).trans (.putBit _ _ (by simp [twinBits]) other)).trans (.putBit _ _ (by simp [twinBits]) other)

theorem wrTwinEnBit {k : Fin 8} (d : Device) (v : Bool) (other : k ≠ j) : d.TwinAlike k (d.wrTwinEnBit j v) := by
  refine ite (refl d) (ite (refused d other) (ite ?_ ?_))
  · exact (putBit d _ (by simp [twinBits]) other).trans (.refreshReady _)
  · exact (((putBit d _ (by simp [twinBits]) other).trans (.putBit _ _ (by simp [twinBits]) other)).trans
      (.changeEnded _ 2 other)).trans (.refreshReady _)

theorem markDirty (d : Device) : d.TwinAlike k d.markDirty :=
  ⟨d.twin_markDirty k, (Within.markDirty d).cores, fun f _ => congrArg (bit · k) (d.get_markDirty f 0)⟩

theorem bound (h : a.TwinAlike k b) : b.twinBound k = a.twinBound k := by
  unfold twinBound core
  rw [h.cores]

theorem enabled (h : a.TwinAlike k b) : b.twinEnabled k = a.twinEnabled k := h.bits F.COUT_TWIN_CTRL_TWIN_EN (by simp [twinBits])

end Device.TwinAlike

/-- The keys that a write of TWIN_EN can change. -/
def twinEnKeys : List Nat :=
  [F.COUT_TWIN_CTRL_TWIN_EN.key 0, F.COUT_TWIN_STAT_READY.key 0, F.COUT_TWIN_STAT_ACTIVE.key 0, F.COUT_TWIN_STAT_PREPARED.key 0,
    F.COUT_TWIN_STAT_DEFERRING.key 0, F.COUT_TWIN_SWAP_GO.key 0, F.COUT_TWIN_SWAP_SWAP_RESULT.key 0] ++ evKeys F.COUT_HOP_EVT_TWIN_REFUSED

/-- Twin k, which is unbound, is enabled. -/
def Device.twinOn (d : Device) (k : Nat) : Device := (d.putBit F.COUT_TWIN_CTRL_TWIN_EN 0 k true).refreshReady k

/-- Twin k, which is unbound, is disabled: core 2k is active again and no change is prepared. -/
def Device.twinOff (d : Device) (k : Nat) : Device :=
  (((d.putBit F.COUT_TWIN_CTRL_TWIN_EN 0 k false).putBit F.COUT_TWIN_STAT_ACTIVE 0 k false).changeEnded k 2).refreshReady k

theorem Device.twinOn_within (d : Device) (k : Nat) : d.Within [] [F.COUT_TWIN_CTRL_TWIN_EN.key 0, F.COUT_TWIN_STAT_READY.key 0] (d.twinOn k) :=
  (Within.putBit d _ _ _ _).trans (.putBit _ _ _ _ _)

theorem Device.twinOff_within (d : Device) (k : Nat) : d.Within [.twins] twinEnKeys (d.twinOff k) :=
  (((((Within.putBit d _ _ _ _).trans (.putBit _ _ _ _ _)).trans (changeEnded_within _ k 2)).trans (.putBit _ _ _ _ _)).mono
    (by simp) (by decide))

theorem Device.wrTwinEnBit_of_same {k : Nat} {v : Bool} (same : v = d.twinEnabled k) : d.wrTwinEnBit k v = d := if_pos same

theorem Device.wrTwinEnBit_of_bound {k : Nat} {v : Bool} (new : v ≠ d.twinEnabled k) (bound : d.twinBound k = true) :
    d.wrTwinEnBit k v = d.eventBit F.COUT_HOP_EVT_TWIN_REFUSED 0 k :=
  (if_neg new).trans (if_pos bound)

theorem Device.wrTwinEnBit_of_free {k : Nat} {v : Bool} (new : v ≠ d.twinEnabled k) (free : d.twinBound k = false) :
    d.wrTwinEnBit k v = if v then d.twinOn k else d.twinOff k :=
  (if_neg new).trans (if_neg (by rw [free]; decide))

theorem Device.wrTwinEnBit_within (d : Device) (k : Nat) (v : Bool) : d.Within [.twins] twinEnKeys (d.wrTwinEnBit k v) :=
  .ite (.refl d) (.ite ((Within.eventBit d _ _ _).mono (by decide) (by decide))
    (.ite ((d.twinOn_within k).mono (by decide) (by decide)) (d.twinOff_within k)))

theorem Device.get_twinOn (d : Device) (k : Fin 8) : bit ((d.twinOn k).get F.COUT_TWIN_CTRL_TWIN_EN) k = true := by
  rw [twinOn, refreshReady, get_putBit_apart _ (by decide), bit_putBit _ k.isLt]

theorem Device.twin_twinOff (d : Device) (k : Nat) : (d.twinOff k).twin k = (d.twin k).ended := by
  rw [twinOff, refreshReady, twin_putBit, twin_changeEnded, if_pos rfl, twin_putBit, twin_putBit]

theorem Device.get_twinOff (d : Device) (k : Fin 8) :
    bit ((d.twinOff k).get F.COUT_TWIN_CTRL_TWIN_EN) k = false ∧ bit ((d.twinOff k).get F.COUT_TWIN_STAT_ACTIVE) k = false ∧
      bit ((d.twinOff k).get F.COUT_TWIN_STAT_PREPARED) k = false ∧ bit ((d.twinOff k).get F.COUT_TWIN_STAT_DEFERRING) k = false := by
  obtain ⟨prepared, deferring⟩ := get_changeEnded ((d.putBit F.COUT_TWIN_CTRL_TWIN_EN 0 k false).putBit F.COUT_TWIN_STAT_ACTIVE 0 k false) k 2
  unfold twinOff refreshReady
  refine ⟨?_, ?_, ?_, ?_⟩
  · rw [get_putBit_apart _ (by decide), changeEnded_leaves _ _ _ _ (by decide), get_putBit_apart _ (by decide), bit_putBit _ k.isLt]
  · rw [get_putBit_apart _ (by decide), changeEnded_leaves _ _ _ _ (by decide), bit_putBit _ k.isLt]
  · rw [get_putBit_apart _ (by decide), prepared]
  · rw [get_putBit_apart _ (by decide), deferring]

/-- A write of TWIN_EN acts on twin k once. -/
theorem does_twinEnWrite {s : State} {v : Word} {k : Fin 8} {post : Device → Prop} (r : s.Running)
    (h : ∀ m d : Device, s.dev.TwinAlike k m → (m.wrTwinEnBit k (bit v.toNat k)).TwinAlike k d → post d) :
    Does (.twinEnWrite v) s [.bus, .twins] twinEnKeys post := by
  obtain ⟨m, before, after⟩ := forEach_once (f := fun k d => d.wrTwinEnBit k (bit v.toNat k)) (R := TwinAlike k) List.nodup_range
    (List.mem_range.mpr k.isLt) .refl (fun _ _ _ h h' => h.trans h') (fun j other d => .wrTwinEnBit d _ other.symm) s.dev
  have w : s.dev.Within [.twins] twinEnKeys (s.dev.wrTwinCtrl v.toNat) := .forEach fun j d => d.wrTwinEnBit_within j _
  exact does_within rfl r rfl ((w.trans (.markDirty _)).mono (by decide) (by simp)) (h m _ before (after.trans (.markDirty _)))

end Sys2Proof.Machine
end

section
/-! The change of a twin at its pound: switched, missed, deferred or abandoned (R122, R123, R126, R130). -/

namespace Sys2Proof.Machine

open Device

variable {a b c d : Device}

/-! ### What the standby shows -/

/-- The fields that name the standby of a twin, and those that the standby shows. -/
def standbyFields : List Fld :=
  [F.COUT_TWIN_CTRL_TWIN_EN, F.COUT_TWIN_STAT_ACTIVE, F.LOOP_STAT_STATE, F.LOOP_STAT_LOCK, F.LOOP_STAT_ALIGNED, F.LOOP_STAT_TRACKING]

/-- The standbys of the twins, and what they show, are the same in b as in a. -/
structure Device.StandbyAlike (a b : Device) : Prop where
  cores : b.cores = a.cores
  fields : ∀ f ∈ standbyFields, ∀ i, b.get f i = a.get f i

namespace Device.StandbyAlike

theorem of_leaves {l : List Fld} (cores : b.cores = a.cores) (h : a.Leaves l b) (apart : ∀ f ∈ standbyFields, l.all f.apart = true) :
    a.StandbyAlike b :=
  ⟨cores, fun f hf => h f (apart f hf)⟩

theorem standbyCore (h : a.StandbyAlike b) (k : Nat) : b.standbyCore k = a.standbyCore k := by
  unfold Device.standbyCore activeCore twinEnabled
  rw [h.fields F.COUT_TWIN_CTRL_TWIN_EN (by simp [standbyFields]), h.fields F.COUT_TWIN_STAT_ACTIVE (by simp [standbyFields])]

theorem locked (h : a.StandbyAlike b) (i : Nat) : b.locked i = a.locked i :=
  congrArg (· == 1) (h.fields F.LOOP_STAT_LOCK (by simp [standbyFields]) i)

theorem tracks (h : a.StandbyAlike b) (i : Nat) : b.tracks i = a.tracks i := by
  unfold Device.tracks isStandby activeCore twinEnabled core
  rw [h.locked, h.cores, h.fields F.COUT_TWIN_CTRL_TWIN_EN (by simp [standbyFields]),
    h.fields F.COUT_TWIN_STAT_ACTIVE (by simp [standbyFields])]

end Device.StandbyAlike

/-- The standby of twin k in d shows what that core showed in a, but TRACKING only where it tracks. -/
structure Device.StandbyShown (k : Nat) (a d : Device) : Prop where
  state : d.coreState (d.standbyCore k) = a.coreState (d.standbyCore k)
  lock : d.locked (d.standbyCore k) = a.locked (d.standbyCore k)
  aligned : d.get F.LOOP_STAT_ALIGNED (d.standbyCore k) = a.get F.LOOP_STAT_ALIGNED (d.standbyCore k)
  tracking : d.get F.LOOP_STAT_TRACKING (d.standbyCore k) =
    if d.tracks (d.standbyCore k) then a.get F.LOOP_STAT_TRACKING (d.standbyCore k) else 0

/-- The fields of the four that StandbyShown compares. -/
def shownFields : List Fld := [F.LOOP_STAT_STATE, F.LOOP_STAT_LOCK, F.LOOP_STAT_ALIGNED, F.LOOP_STAT_TRACKING]

namespace Device.StandbyShown

variable {k : Nat}

theorem of_stops (d : Device) : d.StandbyShown k (d.standbyStops k) := by
  have w := d.standbyStops_within k
  have l := d.standbyStops_leaves k
  have lock (i : Nat) : (d.standbyStops k).locked i = d.locked i := congrArg (· == 1) (l F.LOOP_STAT_LOCK (by decide) i)
  have standby : (d.standbyStops k).standbyCore k = d.standbyCore k := by
    unfold standbyCore activeCore twinEnabled
    rw [l F.COUT_TWIN_CTRL_TWIN_EN (by decide), l F.COUT_TWIN_STAT_ACTIVE (by decide)]
  have tracks : (d.standbyStops k).tracks (d.standbyCore k) = d.tracks (d.standbyCore k) := by
    unfold Device.tracks isStandby activeCore twinEnabled
    rw [lock, w.core, l F.COUT_TWIN_CTRL_TWIN_EN (by decide), l F.COUT_TWIN_STAT_ACTIVE (by decide)]
  constructor
  · exact l F.LOOP_STAT_STATE (by decide) _
  · exact lock _
  · exact l F.LOOP_STAT_ALIGNED (by decide) _
  · rw [standby, tracks, standbyStops]
    cases d.tracks (d.standbyCore k) with
    | true => rfl
    | false => exact d.get_put _ _ _

theorem of_before (h : b.StandbyShown k c) (before : ∀ f ∈ shownFields, ∀ i, b.get f i = a.get f i) : a.StandbyShown k c := by
  have lock (i : Nat) : b.locked i = a.locked i := congrArg (· == 1) (before F.LOOP_STAT_LOCK (by simp [shownFields]) i)
  obtain ⟨state', lock', aligned', tracking'⟩ := h
  constructor
  · exact state'.trans (before F.LOOP_STAT_STATE (by simp [shownFields]) _)
  · exact lock'.trans (lock _)
  · exact aligned'.trans (before F.LOOP_STAT_ALIGNED (by simp [shownFields]) _)
  · rw [tracking', before F.LOOP_STAT_TRACKING (by simp [shownFields])]

theorem of_after (h : a.StandbyShown k b) (after : b.StandbyAlike c) : a.StandbyShown k c := by
  obtain ⟨state', lock', aligned', tracking'⟩ := h
  have standby := after.standbyCore k
  constructor
  · rw [standby]
    exact (after.fields F.LOOP_STAT_STATE (by simp [standbyFields]) _).trans state'
  · rw [standby, after.locked, lock']
  · rw [standby, after.fields F.LOOP_STAT_ALIGNED (by simp [standbyFields]), aligned']
  · rw [standby, after.fields F.LOOP_STAT_TRACKING (by simp [standbyFields]), after.tracks, tracking']

end Device.StandbyShown

/-! ### A change that is over -/

/-- From a to d the change of twin k has ended, that of a swap with SWAP_RESULT r. -/
structure Device.ChangeOver (k r : Nat) (a d : Device) : Prop where
  prepared : bit (d.get F.COUT_TWIN_STAT_PREPARED) k = false
  deferring : bit (d.get F.COUT_TWIN_STAT_DEFERRING) k = false
  twin : d.twin k = (a.twin k).ended
  swap : (a.twin k).swapAt.isSome = true → d.get F.COUT_TWIN_SWAP_SWAP_RESULT = r ∧ d.get F.COUT_TWIN_SWAP_GO = 0
  others : ∀ n, n ≠ k → d.twin n = a.twin n

namespace Device.ChangeOver

variable {k r : Nat}

theorem of_changeEnded (d : Device) (k : Fin 8) (hr : r < 4) : d.ChangeOver k r (d.changeEnded k r) := by
  obtain ⟨prepared, deferring⟩ := d.get_changeEnded k r
  exact ⟨prepared, deferring, (d.twin_changeEnded _ _ _).trans (if_pos rfl), fun waits => get_swap_changeEnded waits hr,
    fun n other => (d.twin_changeEnded _ _ _).trans (if_neg other)⟩

theorem of_before (h : b.ChangeOver k r c) (before : b.twins = a.twins) : a.ChangeOver k r c := by
  have twin (n : Nat) : b.twin n = a.twin n := by rw [Device.twin, before, Device.twin]
  obtain ⟨prepared, deferring, twin', swap, others⟩ := h
  rw [twin] at twin' swap
  exact ⟨prepared, deferring, twin', swap, fun n other => (others n other).trans (twin n)⟩

theorem of_after (h : a.ChangeOver k r b) (twins : c.twins = b.twins) (fields : ∀ f ∈ changeFields, c.get f = b.get f) :
    a.ChangeOver k r c := by
  have twin (n : Nat) : c.twin n = b.twin n := by rw [Device.twin, twins, Device.twin]
  obtain ⟨prepared, deferring, twin', swap, others⟩ := h
  refine ⟨?_, ?_, (twin k).trans twin', fun waits => ?_, fun n other => (twin n).trans (others n other)⟩
  · rw [fields F.COUT_TWIN_STAT_PREPARED (by simp [changeFields]), prepared]
  · rw [fields F.COUT_TWIN_STAT_DEFERRING (by simp [changeFields]), deferring]
  · rw [fields F.COUT_TWIN_SWAP_SWAP_RESULT (by simp [changeFields]), fields F.COUT_TWIN_SWAP_GO (by simp [changeFields])]
    exact swap waits

end Device.ChangeOver

/-! ### The switchover (R123) -/

/-- The core of twin k that is its standby after the change. -/
def Device.leavingCore (d : Device) (k : Nat) : Nat := if d.twinEnabled k then d.activeCore k else 2 * k + 1

/-- The change of twin k has ended, ACTIVE has toggled, and its cores have left the load of a hop. -/
def Device.turned (d : Device) (k : Nat) : Device :=
  (((d.changeEnded k 3).putBit F.COUT_TWIN_STAT_ACTIVE 0 k (!bit (d.get F.COUT_TWIN_STAT_ACTIVE) k)).onCore (2 * k)
    (fun x => { x with hopTarget := false })).onCore (2 * k + 1) (fun x => { x with hopTarget := false })

/-- The former active core of twin k is its standby, and the change is shown. -/
def Device.changed (d : Device) (k : Nat) : Device :=
  (((d.turned k).standbyStops k).eventBit F.COUT_HOP_EVT_SWITCHED 0 k).refreshReady k

/-- The outputs that twin k is the source of follow its active core. -/
def Device.outputsFollow (d : Device) (k : Nat) : Device :=
  forEach (List.range 32) (fun n d =>
    d.when (d.get F.COUT_STAT_CUR_SRC n == 32 + k || d.get F.COUT_STAT_CUR_SRC n == 40 + k) (fun d => d.followSource n)) d

theorem Device.switchTwin_eq (d : Device) (k : Nat) : d.switchTwin k = (d.changed k).outputsFollow k := by
  have active : (d.swapEnded k 3).get F.COUT_TWIN_STAT_ACTIVE = d.get F.COUT_TWIN_STAT_ACTIVE :=
    (d.swapEnded_within k 3).get _ _ (by decide)
  unfold changed turned
  rw [← active]
  rfl

theorem Device.activeCore_lt (d : Device) (k : Fin 8) : d.activeCore k < 2 * k + 2 := by
  have small (v : Bool) : ofBool v < 2 := by cases v <;> decide
  exact Nat.add_lt_add_left (small _) _

theorem Device.leavingCore_lt (d : Device) (k : Fin 8) : d.leavingCore k < 16 := by
  have active := d.activeCore_lt k
  unfold leavingCore
  split <;> omega

theorem Device.standbyCore_lt (d : Device) (k : Fin 8) : d.standbyCore k < 16 := by
  have active : 2 * k.val ≤ d.activeCore k := Nat.le_add_right _ _
  unfold standbyCore
  omega

def turnedFields : List Fld := changeFields ++ [F.COUT_TWIN_STAT_ACTIVE]

theorem Device.turned_within (d : Device) (k : Nat) : d.Within [.twins, .cores] (turnedFields.map (Fld.key · 0)) (d.turned k) :=
  ((((d.changeEnded_within k 3).trans (.putBit _ F.COUT_TWIN_STAT_ACTIVE _ _ _)).trans (.onCore _ _ _)).trans (.onCore _ _ _)).mono
    (by simp) (by simp [turnedFields])

theorem Device.turned_leaves (d : Device) (k : Nat) : d.Leaves turnedFields (d.turned k) :=
  ((d.changeEnded_leaves k 3).trans (.put _ F.COUT_TWIN_STAT_ACTIVE _ _)).parts rfl

theorem Device.get_turned (d : Device) (k : Fin 8) :
    bit ((d.turned k).get F.COUT_TWIN_STAT_ACTIVE) k = !bit (d.get F.COUT_TWIN_STAT_ACTIVE) k := by
  unfold turned
  rw [get_onCore, get_onCore, bit_putBit _ k.isLt]

theorem Device.standbyCore_turned (d : Device) (k : Fin 8) : (d.turned k).standbyCore k = d.leavingCore k := by
  have enabled : (d.turned k).twinEnabled k = d.twinEnabled k :=
    congrArg (bit · k) (d.turned_leaves k F.COUT_TWIN_CTRL_TWIN_EN (by decide) 0)
  unfold standbyCore leavingCore activeCore
  rw [enabled, d.get_turned k]
  cases d.twinEnabled k with
  | false =>
    change 4 * k.val + 1 - (2 * k.val + 0) = 2 * k.val + 1
    omega
  | true =>
    cases bit (d.get F.COUT_TWIN_STAT_ACTIVE) k with
    | false =>
      change 4 * k.val + 1 - (2 * k.val + 1) = 2 * k.val + 0
      omega
    | true =>
      change 4 * k.val + 1 - (2 * k.val + 0) = 2 * k.val + 1
      omega

theorem Device.changeOver_turned (d : Device) (k : Fin 8) : d.ChangeOver k 3 (d.turned k) := by
  refine (ChangeOver.of_changeEnded d k (by decide)).of_after rfl fun f hf => ?_
  have apart : ∀ f ∈ changeFields, f.apart F.COUT_TWIN_STAT_ACTIVE = true := by decide
  exact get_put_apart _ (apart f hf) _ _ _

/-- The keys of DCC_LOCK. -/
def dccKeys : List Nat := (List.range 32).map (fun n => F.COUT_STAT_DCC_LOCK.key n)

theorem Device.outputsFollow_within (d : Device) (k : Nat) : d.Within [.outputs] dccKeys (d.outputsFollow k) :=
  .forEach_mem fun n hn _ => .when fun d => (d.followSource_within n).mono (fun _ hp => hp)
    (fun _ hk => List.mem_singleton.mp hk ▸ List.mem_map_of_mem hn)

theorem Device.standbyAlike_outputsFollow (d : Device) (k : Nat) : d.StandbyAlike (d.outputsFollow k) := by
  have w := d.outputsFollow_within k
  have beside : ∀ f ∈ standbyFields, f.beside F.COUT_STAT_DCC_LOCK = true := by decide
  refine ⟨w.cores, fun f hf i => w.get f i fun listed => ?_⟩
  obtain ⟨n, -, same⟩ := List.mem_map.mp listed
  exact Fld.key_ne_of_beside (beside f hf) i n same.symm

/-- The fields that the change of a twin writes beside DCC_LOCK. -/
def changedFields : List Fld := turnedFields ++ [F.LOOP_STAT_TRACKING] ++ [F.COUT_HOP_EVT_SWITCHED, F.IRQ_STAT_EVT, F.COUT_TWIN_STAT_READY]

theorem Device.changed_leaves_stopped (d : Device) (k : Nat) :
    ((d.turned k).standbyStops k).Leaves [F.COUT_HOP_EVT_SWITCHED, F.IRQ_STAT_EVT, F.COUT_TWIN_STAT_READY] (d.changed k) :=
  (Leaves.event _ _ _ _).trans (.put _ _ _ _)

theorem Device.changed_leaves (d : Device) (k : Nat) : d.Leaves changedFields (d.changed k) :=
  ((d.turned_leaves k).trans (standbyStops_leaves _ k)).trans (d.changed_leaves_stopped k)

/-- The keys that the change of a twin writes when core i becomes its standby. -/
def switchKeys (i : Nat) : List Nat :=
  turnedFields.map (Fld.key · 0) ++ [F.LOOP_STAT_TRACKING.key i] ++ evKeys F.COUT_HOP_EVT_SWITCHED ++ [F.COUT_TWIN_STAT_READY.key 0] ++ dccKeys

theorem Device.switchTwin_within (d : Device) (k : Fin 8) :
    d.Within [.twins, .cores, .outputs] (switchKeys (d.leavingCore k)) (d.switchTwin k) := by
  have stops := (d.turned k).standbyStops_within k
  rw [d.standbyCore_turned k] at stops
  rw [switchTwin_eq]
  exact ((((d.turned_within k).trans stops).trans (.eventBit _ _ _ _)).trans (.putBit _ _ _ _ _)).trans (outputsFollow_within _ k)

theorem pageOfKey_tracking (i : Fin 16) : pageOfKey (F.LOOP_STAT_TRACKING.key i) = 0x10 + i := pageOfKey_ofCore (by decide) i

theorem switchKeys_pages {i : Nat} (h : i < 16) : ∀ k ∈ switchKeys i, pageOfKey k ∈ [0x20, 0x21, 0x10 + i] := by
  have closed : ∀ k ∈ turnedFields.map (Fld.key · 0) ++ evKeys F.COUT_HOP_EVT_SWITCHED ++ [F.COUT_TWIN_STAT_READY.key 0] ++ dccKeys,
      pageOfKey k ∈ [0x20, 0x21] := by decide
  intro k hk
  simp only [switchKeys, List.mem_append, List.mem_singleton, or_assoc] at hk closed
  by_cases tracking : k = F.LOOP_STAT_TRACKING.key i
  · rw [tracking, pageOfKey_tracking ⟨i, h⟩]
    simp
  · simp only [tracking, false_or] at hk
    exact List.mem_append_left [0x10 + i] (closed k hk)

/-- A field that is not one of twin changes keeps its value when a twin changes. -/
theorem Device.get_switchTwin (d : Device) (k : Nat) {f : Fld} (apart : changedFields.all f.apart = true) (dcc : f.key 0 ∉ dccKeys) :
    (d.switchTwin k).get f = d.get f := by
  rw [switchTwin_eq, (outputsFollow_within _ k).get f 0 dcc, changed_leaves d k f apart]

theorem Device.changeOver_switchTwin (d : Device) (k : Fin 8) : d.ChangeOver k 3 (d.switchTwin k) := by
  have changed : d.ChangeOver k 3 (d.changed k) := by
    have l := (standbyStops_leaves (d.turned k) k).trans (d.changed_leaves_stopped k)
    have apart : ∀ f ∈ changeFields, ([F.LOOP_STAT_TRACKING] ++
      [F.COUT_HOP_EVT_SWITCHED, F.IRQ_STAT_EVT, F.COUT_TWIN_STAT_READY]).all f.apart = true := by decide
    exact (d.changeOver_turned k).of_after ((standbyStops_within _ k).parts .twins (by decide)) fun f hf => l f (apart f hf) 0
  rw [switchTwin_eq]
  have w := (d.changed k).outputsFollow_within k
  have unlisted : ∀ f ∈ changeFields, f.key 0 ∉ dccKeys := by decide
  exact changed.of_after (w.parts .twins (by decide)) fun f hf => w.get f 0 (unlisted f hf)

theorem Device.standbyShown_switchTwin (d : Device) (k : Fin 8) : d.StandbyShown k (d.switchTwin k) := by
  have apart : ∀ f ∈ shownFields, turnedFields.all f.apart = true := by decide
  have shown : d.StandbyShown k ((d.turned k).standbyStops k) :=
    (StandbyShown.of_stops _).of_before fun f hf => d.turned_leaves k f (apart f hf)
  have after : ((d.turned k).standbyStops k).StandbyAlike (d.changed k) := .of_leaves rfl (d.changed_leaves_stopped k) (by decide)
  rw [switchTwin_eq]
  exact (shown.of_after after).of_after (standbyAlike_outputsFollow _ k)

theorem Device.get_active_switchTwin (d : Device) (k : Fin 8) :
    bit ((d.switchTwin k).get F.COUT_TWIN_STAT_ACTIVE) k = !bit (d.get F.COUT_TWIN_STAT_ACTIVE) k ∧
      bit ((d.switchTwin k).get F.COUT_HOP_EVT_SWITCHED) k = true := by
  rw [switchTwin_eq, (outputsFollow_within _ k).get _ 0 (by decide), (outputsFollow_within _ k).get _ 0 (by decide)]
  unfold changed refreshReady
  refine ⟨?_, ?_⟩
  · rw [get_putBit_apart _ (by decide), get_eventBit_apart _ (by decide), standbyStops_leaves _ _ _ (by decide), get_turned]
  · rw [get_putBit_apart _ (by decide), bit_eventBit _ k.isLt (by decide)]

/-- What the change of twin k leads to (R123). -/
def Device.SwitchedOver (k : Nat) (a d : Device) : Prop :=
  bit (d.get F.COUT_TWIN_STAT_ACTIVE) k = !bit (a.get F.COUT_TWIN_STAT_ACTIVE) k ∧ bit (d.get F.COUT_HOP_EVT_SWITCHED) k = true ∧
    a.ChangeOver k 3 d ∧ a.StandbyShown k d

theorem Device.switchedOver_switchTwin (d : Device) (k : Fin 8) : d.SwitchedOver k (d.switchTwin k) := by
  obtain ⟨active, switched⟩ := d.get_active_switchTwin k
  exact ⟨active, switched, d.changeOver_switchTwin k, d.standbyShown_switchTwin k⟩

/-! ### Changes abandoned (R126) -/

/-- The standby of twin k has left the load of a hop and shows TRACKING as it tracks. -/
def Device.standbyLeft (d : Device) (k : Nat) : Device := (d.onCore (d.standbyCore k) (fun x => { x with hopTarget := false })).standbyStops k

/-- The keys that an abandoned change writes when core i is the standby. -/
def abandonKeys (i : Nat) : List Nat := F.LOOP_STAT_TRACKING.key i :: changeFields.map (Fld.key · 0)

theorem Device.abandonHop_eq (d : Device) (k : Nat) : d.abandonHop k = (d.standbyLeft k).changeEnded k 2 := rfl

theorem Device.standbyLeft_within (d : Device) (k : Nat) : d.Within [.cores] [F.LOOP_STAT_TRACKING.key (d.standbyCore k)] (d.standbyLeft k) :=
  (Within.onCore d (d.standbyCore k) (fun x => { x with hopTarget := false })).trans (standbyStops_within (d.onCore _ _) k)

theorem Device.standbyLeft_leaves (d : Device) (k : Nat) : d.Leaves [F.LOOP_STAT_TRACKING] (d.standbyLeft k) :=
  standbyStops_leaves (d.onCore _ _) k

theorem Device.abandonHop_within (d : Device) (k : Nat) : d.Within [.twins, .cores] (abandonKeys (d.standbyCore k)) (d.abandonHop k) :=
  ((d.standbyLeft_within k).trans (changeEnded_within _ k 2)).mono (by simp) (fun _ hk => hk)

theorem Device.abandonHop_leaves (d : Device) (k : Nat) : d.Leaves ([F.LOOP_STAT_TRACKING] ++ changeFields) (d.abandonHop k) :=
  (d.standbyLeft_leaves k).trans (changeEnded_leaves _ k 2)

theorem abandonKeys_pages {i : Nat} (h : i < 16) : ∀ k ∈ abandonKeys i, pageOfKey k ∈ [0x20, 0x10 + i] := by
  have closed : ∀ k ∈ changeFields.map (Fld.key · 0), pageOfKey k ∈ [0x20] := by decide
  intro k hk
  obtain rfl | hk := List.mem_cons.mp hk
  · rw [pageOfKey_tracking ⟨i, h⟩]
    simp
  · exact List.mem_append_left [0x10 + i] (closed k hk)

/-- What the abandonment of twin k's change leads to (R126). -/
def Device.Abandoned (k : Nat) (a d : Device) : Prop :=
  bit (d.get F.COUT_TWIN_STAT_ACTIVE) k = bit (a.get F.COUT_TWIN_STAT_ACTIVE) k ∧ a.ChangeOver k 2 d ∧ a.StandbyShown k d

theorem Device.abandoned_abandonHop (d : Device) (k : Fin 8) : d.Abandoned k (d.abandonHop k) := by
  have ends := ChangeOver.of_changeEnded (d.standbyLeft k) k (r := 2) (by decide)
  have after : (d.standbyLeft k).StandbyAlike (d.abandonHop k) :=
    .of_leaves (changeEnded_within _ k 2).cores (changeEnded_leaves _ k 2) (by decide)
  have shown : d.StandbyShown k (d.standbyLeft k) := (StandbyShown.of_stops _).of_before fun _ _ _ => rfl
  refine ⟨?_, ends.of_before ((d.standbyLeft_within k).parts .twins (by decide)), shown.of_after after⟩
  rw [d.abandonHop_leaves k F.COUT_TWIN_STAT_ACTIVE (by decide)]

/-! ### Changes missed (R126) -/

/-- The miss of twin k's change at pound t is reported and shown. -/
def Device.missShown (d : Device) (k : Nat) (t : Pound) : Device := (d.reportAt 4 0 1 k (some t)).eventBit F.COUT_HOP_EVT_MISSED 0 k

def missKeys : List Nat := reportKeys ++ evKeys F.COUT_HOP_EVT_MISSED

/-- The fields that a miss writes. -/
def missFields : List Fld := [F.FLT_LOST_CNT_LOST, F.FLT_EVT_LOST, F.IRQ_STAT_EVT] ++ [F.COUT_HOP_EVT_MISSED, F.IRQ_STAT_EVT]

theorem Device.missShown_within (d : Device) (k : Nat) (t : Pound) : d.Within [.flt] missKeys (d.missShown k t) :=
  (Within.reportAt d _ _ _ _ _).trans (.eventBit _ _ _ _)

theorem Device.missShown_leaves (d : Device) (k : Nat) (t : Pound) : d.Leaves missFields (d.missShown k t) :=
  (Leaves.reportAt d _ _ _ _ _).trans (.event _ _ _ _)

theorem missKeys_pages : ∀ k ∈ missKeys, pageOfKey k ∈ [0xA, 0x20] := by decide

theorem Device.get_missShown (d : Device) (k : Fin 8) (t : Pound) : bit ((d.missShown k t).get F.COUT_HOP_EVT_MISSED) k = true :=
  bit_eventBit _ k.isLt (by decide)

theorem Device.reported_missShown (d : Device) (k : Nat) (t : Pound) : d.Reported (d.missShown k t) 4 0 1 k (some t) :=
  (d.reported_reportAt _ _ _ _ _).of_within (.eventBit _ _ _ _)

theorem Device.missPolicy_missShown (d : Device) (k : Fin 8) (t : Pound) :
    (d.missShown k t).get F.COUT_TWIN_CFG_MISS_POLICY k = d.get F.COUT_TWIN_CFG_MISS_POLICY k := by
  have unlisted : ∀ k : Fin 8, F.COUT_TWIN_CFG_MISS_POLICY.key k ∉ missKeys := by decide
  exact (d.missShown_within k t).get _ _ (unlisted k)

/-- The fields read by the change of a twin that a miss leaves. -/
theorem Device.standbyAlike_missShown (d : Device) (k : Nat) (t : Pound) : d.StandbyAlike (d.missShown k t) :=
  .of_leaves (d.missShown_within k t).cores (d.missShown_leaves k t) (by decide)

theorem Device.leavingCore_missShown (d : Device) (k : Nat) (t : Pound) : (d.missShown k t).leavingCore k = d.leavingCore k := by
  have alike := d.standbyAlike_missShown k t
  unfold leavingCore activeCore twinEnabled
  rw [alike.fields F.COUT_TWIN_CTRL_TWIN_EN (by simp [standbyFields]), alike.fields F.COUT_TWIN_STAT_ACTIVE (by simp [standbyFields])]

theorem Device.ChangeOver.of_missShown {k r : Nat} {t : Pound} (h : (a.missShown k t).ChangeOver k r d) : a.ChangeOver k r d :=
  h.of_before ((a.missShown_within k t).parts .twins (by decide))

theorem Device.StandbyShown.of_missShown {k : Nat} {t : Pound} (h : (a.missShown k t).StandbyShown k d) : a.StandbyShown k d := by
  have apart : ∀ f ∈ shownFields, missFields.all f.apart = true := by decide
  exact h.of_before fun f hf => a.missShown_leaves k t f (apart f hf)

theorem Device.SwitchedOver.of_missShown {k : Nat} {t : Pound} (h : (a.missShown k t).SwitchedOver k d) : a.SwitchedOver k d := by
  obtain ⟨active, switched, ends, shown⟩ := h
  exact ⟨a.missShown_leaves k t F.COUT_TWIN_STAT_ACTIVE (by decide) 0 ▸ active, switched, ends.of_missShown, shown.of_missShown⟩

theorem Device.Abandoned.of_missShown {k : Nat} {t : Pound} (h : (a.missShown k t).Abandoned k d) : a.Abandoned k d := by
  obtain ⟨active, ends, shown⟩ := h
  exact ⟨a.missShown_leaves k t F.COUT_TWIN_STAT_ACTIVE (by decide) 0 ▸ active, ends.of_missShown, shown.of_missShown⟩

/-- A report stays made where the queue of reports and the counts of lost ones read the same. -/
theorem Device.Reported.of_same {cls src code reporter : Nat} {p : Option Pound} (h : a.Reported b cls src code reporter p)
    (flt : c.flt = b.flt) (count : c.get F.FLT_LOST_CNT_LOST = b.get F.FLT_LOST_CNT_LOST)
    (lost : c.get F.FLT_EVT_LOST = b.get F.FLT_EVT_LOST) : a.Reported c cls src code reporter p := by
  unfold Reported at h ⊢
  rw [flt, count, lost]
  exact h

/-- A twin defers its missed change. -/
def Device.missDefers (d : Device) (k : Nat) (t : Pound) : Device :=
  ((d.missShown k t).setTwin k { (d.missShown k t).twin k with deferred := 0 }).putBit F.COUT_TWIN_STAT_DEFERRING 0 k true

theorem Device.missHop_eq (d : Device) (k : Fin 8) (t : Pound) : d.missHop k t =
    if d.get F.COUT_TWIN_CFG_MISS_POLICY k = 0 then d.missDefers k t
    else if d.get F.COUT_TWIN_CFG_MISS_POLICY k = 1 then (d.missShown k t).switchTwin k else (d.missShown k t).abandonHop k := by
  rw [← d.missPolicy_missShown k t]
  rfl

theorem Device.twinSwitch_of_due {k : Nat} {t : Pound} (change : d.changePound k = some t) (due : t.toNat ≤ d.tow.pound.toNat)
    (fresh : d.deferring k = false) : d.twinSwitch k = if (d.twin k).sample then d.switchTwin k else d.missHop k t := by
  rw [twinSwitch, change]
  exact if_pos ⟨due, fresh⟩

theorem Device.twinSwitch_of_missed {k : Nat} {t : Pound} (change : d.changePound k = some t) (due : t.toNat ≤ d.tow.pound.toNat)
    (fresh : d.deferring k = false) (unready : (d.twin k).sample = false) : d.twinSwitch k = d.missHop k t :=
  (twinSwitch_of_due change due fresh).trans (if_neg (by rw [unready]; decide))

theorem does_missDefers {s : State} {k : Fin 8} {t : Pound} (r : s.Running) (run : s.dev.twinSwitch k = s.dev.missDefers k t) :
    Does (.twinSwitch k) s [.twins, .flt] (reportKeys ++ ([F.COUT_TWIN_STAT_DEFERRING.key 0] ++ evKeys F.COUT_HOP_EVT_MISSED))
      (fun d => bit (d.get F.COUT_HOP_EVT_MISSED) k = true ∧ s.dev.Reported d 4 0 1 k (some t) ∧
        bit (d.get F.COUT_TWIN_STAT_DEFERRING) k = true ∧ d.twin k = { s.dev.twin k with deferred := 0 } ∧
        (∀ n, n ≠ k.val → d.twin n = s.dev.twin n)) := by
  have shown := s.dev.missShown_within k t
  have after : (s.dev.missShown k t).Within ([.twins] ++ []) ([] ++ [F.COUT_TWIN_STAT_DEFERRING.key 0]) (s.dev.missDefers k t) :=
    (Within.setTwin _ _ _).trans (.putBit _ _ _ _ _)
  refine does_within rfl r run ((shown.trans after).mono (by decide) (by decide))
    ⟨?_, (s.dev.reported_missShown k t).of_within after, bit_putBit _ k.isLt _ _, ?_, fun n other => ?_⟩
  · rw [after.get _ _ (by decide), get_missShown]
  · rw [missDefers, twin_putBit, twin_setTwin_self, shown.twin]
  · rw [missDefers, twin_putBit, twin_setTwin_ne _ _ other, shown.twin]

/-! ### The last stamp of a missed change (R126, R348) -/

theorem Device.stampHopMiss_within (d : Device) (k : Nat) (p : Pound) : d.Within [.flt] [] (d.stampHopMiss k p) := by
  unfold stampHopMiss
  refine .ite (.setFlt d _) (.ite (.setFlt d _) ?_)
  split
  · exact .setFlt d _
  · exact .refl d

theorem Device.flt_stampHopMiss (same : b.flt = a.flt) (k : Nat) (p : Pound) : (b.stampHopMiss k p).flt = (a.stampHopMiss k p).flt := by
  unfold stampHopMiss
  rw [same]
  split
  · rfl
  · split
    · rfl
    · split
      · rfl
      · exact same

theorem Device.ChangeOver.stamped {k r j : Nat} {p : Pound} (h : a.ChangeOver k r d) : a.ChangeOver k r (d.stampHopMiss j p) :=
  h.of_after ((d.stampHopMiss_within j p).parts .twins (by decide)) fun f _ => (d.stampHopMiss_within j p).get f 0 (by simp)

theorem Device.StandbyShown.stamped {k j : Nat} {p : Pound} (h : a.StandbyShown k d) : a.StandbyShown k (d.stampHopMiss j p) :=
  h.of_after ⟨(d.stampHopMiss_within j p).cores, fun f _ i => (d.stampHopMiss_within j p).get f i (by simp)⟩

theorem Device.deferSwitch_of_ready {k : Nat} (defers : d.deferring k = true) (waited : 1 ≤ (d.twin k).deferred)
    (ready : (d.twin k).sample = true) : d.deferSwitch k = (d.switchTwin k).stampHopMiss k d.tow.pound :=
  if_pos (by rw [defers, ready, decide_eq_true waited]; rfl)

theorem Device.deferTimeout_of_limit {k : Nat} (defers : d.deferring k = true) (limit : d.deferLimit k ≤ (d.twin k).deferred) :
    d.deferTimeout k = (d.abandonHop k).stampHopMiss k d.tow.pound :=
  if_pos (by rw [defers, decide_eq_true limit]; rfl)

/-- Settles O36: a write of TWIN_EN acts once on each twin; each outcome of a change is a switchover or an abandonment after the report of a
miss or before its last stamp. -/
theorem twinChanges : Obligations.TwinChanges := by
  unfold Obligations.TwinChanges
  refine ⟨?_, ?_, ?_, ?_, ?_, ?_, ?_, ?_, ?_, ?_⟩
  · intro s v k r free new
    refine does_twinEnWrite (k := k) r fun m d before after => ?_
    rw [wrTwinEnBit_of_free (by rw [before.enabled]; exact new) (before.bound.trans free)] at after
    cases written : bit v.toNat k with
    | true =>
      rw [written, if_pos rfl] at after
      have enabled := after.bits F.COUT_TWIN_CTRL_TWIN_EN (by simp [twinBits])
      exact ⟨enabled.trans (m.get_twinOn k), nofun, fun _ => after.twin.trans (((m.twinOn_within k).twin k).trans before.twin)⟩
    | false =>
      rw [written, if_neg (by decide)] at after
      obtain ⟨enabled, active, prepared, deferring⟩ := m.get_twinOff k
      have ended : d.twin k = (m.twin k).ended := after.twin.trans (m.twin_twinOff k)
      exact ⟨(after.bits _ (by simp [twinBits])).trans enabled, fun _ => ⟨congrArg Twin.hop ended, congrArg Twin.swapAt ended,
        (after.bits _ (by simp [twinBits])).trans active, (after.bits _ (by simp [twinBits])).trans prepared,
        (after.bits _ (by simp [twinBits])).trans deferring⟩, nofun⟩
  · intro s v k r bound new
    refine does_twinEnWrite (k := k) r fun m d before after => ?_
    rw [wrTwinEnBit_of_bound (by rw [before.enabled]; exact new) (before.bound.trans bound)] at after
    have refused := (m.eventBit_keepsRegs F.COUT_HOP_EVT_TWIN_REFUSED 0 k).get F.COUT_TWIN_CTRL_TWIN_EN 0 (by decide)
    refine ⟨?_, ?_, after.twin.trans before.twin⟩
    · exact (after.bits F.COUT_TWIN_CTRL_TWIN_EN (by simp [twinBits])).trans ((congrArg (bit · k) refused).trans before.enabled)
    · exact (after.bits F.COUT_HOP_EVT_TWIN_REFUSED (by simp [twinBits])).trans (bit_eventBit _ k.isLt (by decide))
  · intro s v k r same
    refine does_twinEnWrite (k := k) r fun m d before after => ?_
    rw [wrTwinEnBit_of_same (by rw [before.enabled]; exact same)] at after
    exact ⟨(before.trans after).enabled, (before.trans after).twin⟩
  · exact fun s k r => does_within rfl r rfl (.putBit _ _ _ _ _) (bit_putBit _ k.isLt _ _)
  · intro s k t r change due fresh ready
    have run := (twinSwitch_of_due change due fresh).trans (if_pos ready)
    obtain ⟨active, switched, ends, shown⟩ := s.dev.switchedOver_switchTwin k
    exact doesWide_within rfl r run ((s.dev.switchTwin_within k).mono (by decide) (fun _ hk => hk)) (switchKeys_pages (s.dev.leavingCore_lt k))
      ⟨active, ends.prepared, ends.deferring, switched, congrArg Twin.hop ends.twin, congrArg Twin.swapAt ends.twin, ends.swap, ends.others,
        shown.state, shown.lock, shown.aligned, shown.tracking⟩
  · intro s k t r change due fresh unready policy
    exact does_missDefers r ((twinSwitch_of_missed change due fresh unready).trans ((s.dev.missHop_eq k t).trans (if_pos policy)))
  · intro s k t r change due fresh unready policy
    have run : s.dev.twinSwitch k = (s.dev.missShown k t).switchTwin k := by
      rw [twinSwitch_of_missed change due fresh unready, missHop_eq, policy]
      rfl
    have w := (s.dev.missShown_within k t).trans (switchTwin_within _ k)
    have kept (f : Fld) (apart : changedFields.all f.apart = true) (dcc : f.key 0 ∉ dccKeys) :=
      (s.dev.missShown k t).get_switchTwin k apart dcc
    rw [leavingCore_missShown] at w
    have pages : ∀ i ∈ missKeys ++ switchKeys (s.dev.leavingCore k), pageOfKey i ∈ [0x20, 0x21, 0xA, 0x10 + s.dev.leavingCore k] := by
      intro i hi
      obtain hi | hi := List.mem_append.mp hi
      · have page := missKeys_pages i hi
        grind
      · have page := switchKeys_pages (s.dev.leavingCore_lt k) i hi
        grind
    obtain ⟨active, switched, ends, shown⟩ := ((s.dev.missShown k t).switchedOver_switchTwin k).of_missShown
    refine doesWide_within rfl r run (w.mono (by decide) (fun _ hk => hk)) pages
      ⟨?_, ?_, active, ends.prepared, ends.deferring, switched, congrArg Twin.hop ends.twin, congrArg Twin.swapAt ends.twin, ends.swap,
        ends.others, shown.state, shown.lock, shown.aligned, shown.tracking⟩
    · rw [kept _ (by decide) (by decide), get_missShown]
    · exact (s.dev.reported_missShown k t).of_same (switchTwin_within _ k).flt (kept _ (by decide) (by decide)) (kept _ (by decide) (by decide))
  · intro s k t r change due fresh unready policy
    have run : s.dev.twinSwitch k = (s.dev.missShown k t).abandonHop k := by
      rw [twinSwitch_of_missed change due fresh unready, missHop_eq, if_neg (by omega), if_neg (by omega)]
    have w := (s.dev.missShown_within k t).trans (abandonHop_within _ k)
    have kept (f : Fld) (apart : ([F.LOOP_STAT_TRACKING] ++ changeFields).all f.apart = true) := abandonHop_leaves (s.dev.missShown k t) k f apart 0
    rw [(s.dev.standbyAlike_missShown k t).standbyCore k] at w
    have pages : ∀ i ∈ missKeys ++ abandonKeys (s.dev.standbyCore k), pageOfKey i ∈ [0x20, 0xA, 0x10 + s.dev.standbyCore k] := by
      intro i hi
      obtain hi | hi := List.mem_append.mp hi
      · have page := missKeys_pages i hi
        grind
      · have page := abandonKeys_pages (s.dev.standbyCore_lt k) i hi
        grind
    obtain ⟨active, ends, shown⟩ := ((s.dev.missShown k t).abandoned_abandonHop k).of_missShown
    refine doesWide_within rfl r run (w.mono (by decide) (fun _ hk => hk)) pages
      ⟨?_, ?_, active, ends.prepared, ends.deferring, congrArg Twin.hop ends.twin, congrArg Twin.swapAt ends.twin, ends.swap,
        ends.others, shown.state, shown.lock, shown.aligned, shown.tracking⟩
    · rw [kept _ (by decide), get_missShown]
    · exact (s.dev.reported_missShown k t).of_same (abandonHop_within _ k).flt (kept _ (by decide)) (kept _ (by decide))
  · intro s k r defers waited ready
    have stamp := (s.dev.switchTwin k).stampHopMiss_within k s.dev.tow.pound
    obtain ⟨active, switched, ends, shown⟩ := s.dev.switchedOver_switchTwin k
    have ends' := ends.stamped (j := k) (p := s.dev.tow.pound)
    have shown' := shown.stamped (j := k) (p := s.dev.tow.pound)
    refine doesWide_within rfl r (deferSwitch_of_ready defers waited ready) (((s.dev.switchTwin_within k).trans stamp).mono (by decide)
      (fun _ hk => by rwa [List.append_nil] at hk)) (switchKeys_pages (s.dev.leavingCore_lt k))
      ⟨?_, ends'.prepared, ends'.deferring, ?_, congrArg Twin.hop ends'.twin, congrArg Twin.swapAt ends'.twin, ends'.swap,
        ends'.others, shown'.state, shown'.lock, shown'.aligned, shown'.tracking, flt_stampHopMiss (s.dev.switchTwin_within k).flt _ _⟩
    · rw [stamp.get _ _ (by simp), active]
    · rw [stamp.get _ _ (by simp), switched]
  · intro s k r defers limit
    have stamp := (s.dev.abandonHop k).stampHopMiss_within k s.dev.tow.pound
    obtain ⟨active, ends, shown⟩ := s.dev.abandoned_abandonHop k
    have ends' := ends.stamped (j := k) (p := s.dev.tow.pound)
    have shown' := shown.stamped (j := k) (p := s.dev.tow.pound)
    refine doesWide_within rfl r (deferTimeout_of_limit defers limit) (((s.dev.abandonHop_within k).trans stamp).mono (by decide)
      (by simp)) (abandonKeys_pages (s.dev.standbyCore_lt k))
      ⟨?_, ends'.prepared, ends'.deferring, congrArg Twin.hop ends'.twin, congrArg Twin.swapAt ends'.twin, ends'.swap,
        ends'.others, shown'.state, shown'.lock, shown'.aligned, shown'.tracking, flt_stampHopMiss (s.dev.abandonHop_within k).flt _ _⟩
    rw [stamp.get _ _ (by simp), active]

end Sys2Proof.Machine
end

section
/-! What the verdict on a command reads of a device, and the wharf slots it asks for (R155, R268). -/

namespace Sys2Proof.Machine

open Device

variable {a b c d : Device}

/-! ### Slots and credits -/

/-- The fields of a lane, or of the wharf at it, that a reservation reads. -/
def laneReads : List Fld := [F.LANE_STAT_STATE, F.LANE_STAT_JOINED, F.WHF_CREDIT_HELD]

/-- The wharves, their lanes and the slots reserved are the same in b as in a. -/
structure Device.SlotsAlike (a b : Device) : Prop where
  whf : b.whf = a.whf
  flights : b.eng.flights = a.eng.flights
  lanes : ∀ f ∈ laneReads, ∀ n, n < 256 → b.get f n = a.get f n
  layout : ∀ q, q < 64 → b.get F.LANE_QUAD_STAT_LAYOUT q = a.get F.LANE_QUAD_STAT_LAYOUT q

/-- A key outside the pages of the quads. -/
def offQuads (k : Nat) : Bool := decide (k < 0x40000 * 32) || decide (0x80000 * 32 ≤ k)

theorem Fld.key_of_laneReads {f : Fld} (h : f ∈ laneReads) {n : Nat} (hn : n < 256) : offQuads (f.key n) = false := by
  have shape : ∀ f ∈ laneReads, f.shape = .lane ∧ 0x40000 ≤ f.base ∧ f.base < 0x40300 ∧ f.lo < 32 := by decide
  obtain ⟨lane, low, high, lo⟩ := shape f h
  simp only [offQuads, key, addr, lane, Shape.addr, Bool.or_eq_false_iff, decide_eq_false_iff_not]
  omega

theorem layout_key {q : Nat} (h : q < 64) : offQuads (F.LANE_QUAD_STAT_LAYOUT.key q) = false := by
  have place : F.LANE_QUAD_STAT_LAYOUT.key q = (0x40084 + 0x1000 * q) * 32 := rfl
  rw [place, offQuads, Bool.or_eq_false_iff, decide_eq_false_iff_not, decide_eq_false_iff_not]
  omega

namespace Device.SlotsAlike

theorem of_within {ps : List Part} {ks : List Nat} (w : a.Within ps ks b) (flights : b.eng.flights = a.eng.flights)
    (off : ∀ k ∈ ks, offQuads k = true) (hp : .whf ∉ ps := by decide) : a.SlotsAlike b := by
  have unlisted (k : Nat) (on : offQuads k = false) : k ∉ ks := fun listed => absurd ((off k listed).symm.trans on) (by decide)
  exact ⟨w.parts .whf hp, flights, fun f hf n hn => w.get f n (unlisted _ (Fld.key_of_laneReads hf hn)),
    fun q hq => w.get _ q (unlisted _ (layout_key hq))⟩

variable (h : a.SlotsAlike b) {n : Nat}

include h

theorem laneState (hn : n < 256) : b.laneState n = a.laneState n := h.lanes F.LANE_STAT_STATE (by simp [laneReads]) n hn

theorem joined (hn : n < 256) : b.joined n = a.joined n := congrArg (· == 1) (h.lanes F.LANE_STAT_JOINED (by simp [laneReads]) n hn)

theorem wharfOf (hn : n < 256) : b.wharfOf n = a.wharfOf n := by
  unfold Device.wharfOf
  rw [h.layout (n / 4) (by omega)]

theorem wharfLanes (hn : n < 256) : b.wharfLanes n = a.wharfLanes n := by
  refine List.filterMap_congr fun l hl => ?_
  have small := List.mem_range.mp hl
  rw [h.wharfOf (by omega)]

omit h in
theorem wharfLanes_lt (d : Device) (hn : n < 256) {l : Nat} (hl : l ∈ d.wharfLanes n) : l < 256 := by
  obtain ⟨i, hi, at'⟩ := List.mem_filterMap.mp hl
  have small := List.mem_range.mp hi
  split at at'
  · obtain rfl := Option.some.inj at'
    omega
  · nomatch at'

theorem joinedLanes (hn : n < 256) : b.joinedLanes n = a.joinedLanes n := by
  unfold Device.joinedLanes
  rw [h.wharfLanes hn]
  exact List.filter_congr fun l hl => h.joined (wharfLanes_lt a hn hl)

theorem wharfIn (hn : n < 256) (st : Nat) : b.wharfIn n st = a.wharfIn n st := by
  unfold Device.wharfIn
  rw [h.wharfLanes hn]
  refine Bool.eq_iff_iff.mpr ?_
  simp only [List.any_eq_true]
  exact exists_congr fun l => and_congr_right fun hl => by rw [h.laneState (wharfLanes_lt a hn hl)]

theorem wharfUp (hn : n < 256) : b.wharfUp n = a.wharfUp n := by
  unfold Device.wharfUp
  rw [h.wharfLanes hn]
  refine Bool.eq_iff_iff.mpr ?_
  simp only [List.any_eq_true]
  exact exists_congr fun l => and_congr_right fun hl => by rw [h.laneState (wharfLanes_lt a hn hl)]

theorem reserved (n : Nat) : b.reserved n = a.reserved n := by
  unfold Device.reserved
  rw [h.flights]

theorem takesSlots (hn : n < 256) : b.takesSlots n = a.takesSlots n := by
  unfold Device.takesSlots
  rw [h.wharfIn hn, h.wharfIn hn, h.whf]

theorem slotFor (hn : n < 256) : b.slotFor n = a.slotFor n := by
  unfold Device.slotFor
  rw [h.takesSlots hn, h.lanes F.WHF_CREDIT_HELD (by simp [laneReads]) n hn, h.joinedLanes hn, h.reserved]

end Device.SlotsAlike

/-! ### Verdicts -/

/-- The other fields that a verdict reads. -/
def judgeReads : List Fld :=
  [F.COUT_TWIN_CTRL_TWIN_EN, F.COUT_TWIN_STAT_ACTIVE, F.CLK_BLK_STAT_STATE, F.LDG_CTRL_ECC_WB, F.COUT_BANDMAP_CTRL_MAP_EN,
    F.COUT_BANDMAP_CTRL_TEMP_COMP, F.SYS_TEMP_NOW] ++ loadReads

/-- What the verdict on a command reads is the same in b as in a. -/
structure Device.JudgesAlike (a b : Device) : Prop where
  cores : b.cores = a.cores
  twins : b.twins = a.twins
  tow : b.tow = a.tow
  map : b.ledger.map = a.ledger.map
  bandMap : b.bandMap = a.bandMap
  bandEpoch : b.bandEpoch = a.bandEpoch
  fields : ∀ f ∈ judgeReads, ∀ i, b.get f i = a.get f i
  slots : a.SlotsAlike b

/-- A key that is none of what a verdict reads. -/
def unjudged (k : Nat) : Bool :=
  decide (k < 0x40000 * 32) && judgeReads.all (fun f => decide (k % 0x20000 ≠ f.base % 0x1000 * 32 + f.lo))

theorem offQuads_of_unjudged {k : Nat} (h : unjudged k = true) : offQuads k = true := by
  unfold unjudged at h
  exact Bool.or_eq_true_iff.mpr (.inl (Bool.and_eq_true_iff.mp h).1)

theorem Fld.key_ne_of_unjudged {f : Fld} (hf : f ∈ judgeReads) {k : Nat} (h : unjudged k = true) (i : Nat) : f.key i ≠ k := by
  have paged : ∀ f ∈ judgeReads, f.paged = true := by decide
  intro same
  have apart := List.all_eq_true.mp (Bool.and_eq_true_iff.mp h).2 f hf
  exact of_decide_eq_true apart (same ▸ Fld.key_of_paged (paged f hf) i)

namespace Device.JudgesAlike

theorem refl (d : Device) : d.JudgesAlike d :=
  ⟨rfl, rfl, rfl, rfl, rfl, rfl, fun _ _ _ => rfl, ⟨rfl, rfl, fun _ _ _ _ => rfl, fun _ _ => rfl⟩⟩

theorem of_within {ps : List Part} {ks : List Nat} (w : a.Within ps ks b) (quiet : ∀ k ∈ ks, unjudged k = true)
    (map : b.ledger.map = a.ledger.map) (flights : b.eng.flights = a.eng.flights)
    (hp : ∀ p ∈ [Part.cores, .twins, .tow, .bandMap, .bandEpoch, .whf], p ∉ ps := by decide) : a.JudgesAlike b where
  cores := w.parts .cores (hp _ (by simp))
  twins := w.parts .twins (hp _ (by simp))
  tow := w.parts .tow (hp _ (by simp))
  map := map
  bandMap := w.parts .bandMap (hp _ (by simp))
  bandEpoch := w.parts .bandEpoch (hp _ (by simp))
  fields := fun f hf i => w.get f i fun listed => Fld.key_ne_of_unjudged hf (quiet _ listed) i rfl
  slots := .of_within w flights (fun k hk => offQuads_of_unjudged (quiet k hk)) (hp _ (by simp))

theorem trans (h : a.JudgesAlike b) (k : b.JudgesAlike c) : a.JudgesAlike c where
  cores := k.cores.trans h.cores
  twins := k.twins.trans h.twins
  tow := k.tow.trans h.tow
  map := k.map.trans h.map
  bandMap := k.bandMap.trans h.bandMap
  bandEpoch := k.bandEpoch.trans h.bandEpoch
  fields := fun f hf i => (k.fields f hf i).trans (h.fields f hf i)
  slots := ⟨k.slots.whf.trans h.slots.whf, k.slots.flights.trans h.slots.flights,
    fun f hf n hn => (k.slots.lanes f hf n hn).trans (h.slots.lanes f hf n hn), fun q hq => (k.slots.layout q hq).trans (h.slots.layout q hq)⟩

variable (h : a.JudgesAlike b)

include h

theorem loads (i : Nat) : a.LoadAlike i b where
  regs := fun f hf => h.fields f (List.mem_append_right _ hf) i
  mapEn := h.fields _ (by simp [judgeReads]) 0
  tempComp := h.fields _ (by simp [judgeReads]) 0
  temp := h.fields _ (by simp [judgeReads]) 0
  bandMap := h.bandMap
  bandEpoch := h.bandEpoch

theorem core (i : Nat) : b.core i = a.core i := by
  unfold Device.core
  rw [h.cores]

theorem twin (k : Nat) : b.twin k = a.twin k := by
  unfold Device.twin
  rw [h.twins]

theorem twinEnabled (k : Nat) : b.twinEnabled k = a.twinEnabled k :=
  congrArg (bit · k) (h.fields F.COUT_TWIN_CTRL_TWIN_EN (by simp [judgeReads]) 0)

theorem activeCore (k : Nat) : b.activeCore k = a.activeCore k := by
  unfold Device.activeCore
  rw [h.twinEnabled, h.fields F.COUT_TWIN_STAT_ACTIVE (by simp [judgeReads])]

theorem standbyCore (k : Nat) : b.standbyCore k = a.standbyCore k := by
  unfold Device.standbyCore
  rw [h.activeCore]

theorem actingCore (x : Entry) : b.actingCore x = a.actingCore x := by
  unfold Device.actingCore
  rw [h.activeCore]

theorem blockClosed (i : Nat) : b.blockClosed i = a.blockClosed i := by
  unfold Device.blockClosed
  rw [h.fields F.CLK_BLK_STAT_STATE (by simp [judgeReads])]

theorem coreClosed (i : Nat) : b.coreClosed i = a.coreClosed i := h.blockClosed _

theorem derived (i : Nat) (f : Freq) : b.derived i f = a.derived i f := (h.loads i).derived f

theorem outOfRange (i : Nat) (f : Freq) : b.outOfRange i f = a.outOfRange i f := by
  unfold Device.outOfRange
  rw [h.derived]

theorem bandLookup (i : Nat) (s : Settings) : b.bandLookup i s = a.bandLookup i s := (h.loads i).bandLookup s

theorem coreState (i : Nat) : b.coreState i = a.coreState i := (h.loads i).coreState

theorem coreRefusal (id : Nat) (x : Entry) (release : Bool) : b.coreRefusal id x release = a.coreRefusal id x release := by
  unfold Device.coreRefusal
  simp only [h.core, h.actingCore, h.coreClosed]

theorem hopOf (id : Nat) : b.hopOf id = a.hopOf id := by
  unfold Device.hopOf
  simp only [h.twin]

theorem preparedFor (id : Nat) : b.preparedFor id = a.preparedFor id := by
  unfold Device.preparedFor
  rw [h.hopOf]

theorem bindRefusal (id i : Nat) (x : Entry) : b.bindRefusal id i x = a.bindRefusal id i x := by
  unfold Device.bindRefusal boundElsewhere
  simp only [h.core, h.coreClosed, h.twinEnabled, h.outOfRange]

theorem twinHopRefusal (x : Entry) (f : Freq) : b.twinHopRefusal x f = a.twinHopRefusal x f := by
  unfold Device.twinHopRefusal
  simp only [h.twinEnabled, h.standbyCore, h.coreClosed, h.coreState, h.outOfRange, h.bandLookup, h.derived, h.twin]

theorem servingWharf (id : Nat) : b.servingWharf id = a.servingWharf id := by
  unfold Device.servingWharf mapEntry
  rw [h.map]

omit h in
/-- The wharves have one byte numbers. -/
theorem servingWharf_lt {id n : Nat} (serves : d.servingWharf id = some n) : n < 256 := by
  unfold Device.servingWharf at serves
  dsimp only at serves
  split at serves
  · obtain rfl := Option.some.inj serves
    exact Nat.mod_lt _ (by decide)
  · nomatch serves

theorem wharfTrained {n : Nat} (hn : n < 256) : b.wharfTrained n = a.wharfTrained n := by
  unfold Device.wharfTrained wharf
  rw [h.slots.wharfUp hn, h.slots.whf, h.blockClosed]

theorem sendVerdict (id : Nat) (entry? : Option Entry) (first emit refresh : Bool) (act : Act) :
    b.sendVerdict id entry? first emit refresh act = a.sendVerdict id entry? first emit refresh act := by
  unfold Device.sendVerdict
  rw [h.servingWharf]
  cases serves : a.servingWharf id with
  | none => rfl
  | some n => simp only [h.wharfTrained (servingWharf_lt serves), h.slots.slotFor (servingWharf_lt serves)]

theorem judgeBind (c : Cmd) (id : Nat) (x : Entry) : b.judgeBind c id x = a.judgeBind c id x := by
  unfold Device.judgeBind
  simp only [h.hopOf, h.preparedFor, h.sendVerdict, h.bindRefusal, h.twinEnabled, h.standbyCore, h.activeCore]

theorem judgeHop (c : Cmd) (x : Entry) : b.judgeHop c x = a.judgeHop c x := by
  unfold Device.judgeHop
  simp only [h.actingCore, h.outOfRange, h.bandLookup, h.derived, h.twinHopRefusal, h.standbyCore]

theorem hopPhaseLoads (c : Cmd) (k : Nat) (th : Pound) (x : Entry) : b.hopPhaseLoads c k th x = a.hopPhaseLoads c k th x := by
  unfold Device.hopPhaseLoads
  simp only [h.standbyCore, h.activeCore, h.tow]

theorem judgeCore (c : Cmd) (id : Nat) (x : Entry) : b.judgeCore c id x = a.judgeCore c id x := by
  unfold Device.judgeCore addPhaseLoads
  simp only [h.actingCore, h.preparedFor, h.outOfRange, h.hopOf, h.hopPhaseLoads]

theorem judgeEntry (c : Cmd) (id : Nat) (x : Entry) : b.judgeEntry c id x = a.judgeEntry c id x := by
  unfold Device.judgeEntry hopAct
  simp only [h.preparedFor, h.sendVerdict, h.judgeBind, h.coreRefusal, h.judgeHop, h.judgeCore, h.hopOf, h.hopPhaseLoads]

theorem judge (c : Cmd) (id : Nat) (x : Cell) : b.judge c id x = a.judge c id x := by
  unfold Device.judge
  rw [h.judgeEntry]

theorem writeBack (c : Cmd) (x : Cell) (entry? : Option Entry) : b.writeBack c x entry? = a.writeBack c x entry? := by
  unfold Device.writeBack is
  rw [h.fields F.LDG_CTRL_ECC_WB (by simp [judgeReads])]

end Device.JudgesAlike

end Sys2Proof.Machine
end

section
/-! One cycle of an engine: the row that runs it, what it takes from its slice, and the effect record (R155, R167, R169, R183-R185). -/

namespace Sys2Proof.Machine

open Device

variable {a b c d : Device}

/-- A row of an engine runs a step of that engine for the commands that the row takes. -/
theorem exec_engineRow {r : Instr} {e : Fin 64} {up : Upset} (row : engineRow r = some (e, up)) (s : State) :
    exec r s = .next (s.on (·.engineStep e (rowTakes r) up)) := by
  cases r with
  | nop | setFreq | setFreqPhase | addPhase | bind | release | emit | prepHopTwin | prepHopRetune | prepHopPark =>
    obtain ⟨rfl, rfl⟩ := Prod.mk.inj (Option.some.inj row)
    rfl
  | _ => nomatch row

/-! ### Engines -/

theorem Device.engine_onEngine (d : Device) (e : Nat) (f : Engine → Engine) (j : Nat) :
    (d.onEngine e f).engine j = if j = e then f (d.engine e) else d.engine j :=
  Store.getD_put _ _ _ _ _

@[simp] theorem Device.engine_onEngine_self (d : Device) (e : Nat) (f : Engine → Engine) : (d.onEngine e f).engine e = f (d.engine e) :=
  (d.engine_onEngine e f e).trans (if_pos rfl)

theorem Device.Within.onEngine (d : Device) (e : Nat) (f : Engine → Engine) : d.Within [.eng] [] (d.onEngine e f) := .setEng d _

theorem Device.engine_of_eng (h : b.eng = a.eng) (e : Nat) : b.engine e = a.engine e := by rw [Device.engine, h, Device.engine]

/-- Command c is taken from place i of engine e's slice. -/
def Device.dropped (d : Device) (e i : Nat) (c : Cmd) : Device :=
  (d.turn e (some c)).onEngine e (fun x => { x with slice := dropAt x.slice i })

/-- Command c is taken from place i of engine e's slice, with the lease of its Berth. -/
def Device.taken (d : Device) (e i : Nat) (c : Cmd) : Device := (d.dropped e i c).grant (bankOf (cmdBerth c.w1)) (d.engine e).used

theorem Device.dropped_within (d : Device) (e i : Nat) (c : Cmd) : d.Within [.eng] [] (d.dropped e i c) := .setEng d _
theorem Device.taken_within (d : Device) (e i : Nat) (c : Cmd) : d.Within [.eng] [] (d.taken e i c) := .setEng d _

theorem Device.engine_dropped (d : Device) (e i : Nat) (c : Cmd) :
    (d.dropped e i c).engine e = { d.engine e with slice := dropAt (d.engine e).slice i } :=
  engine_onEngine_self _ _ _

theorem Device.engine_taken (d : Device) (e i : Nat) (c : Cmd) :
    (d.taken e i c).engine e = { d.engine e with slice := dropAt (d.engine e).slice i } :=
  d.engine_dropped e i c

/-- The keys of the counters of engine e. -/
def engineKeys (e : Nat) : List Nat := [F.ENG_CL_CYC_CNT_CYCLES.key e, F.ENG_CL_EXEC_CNT_EXECUTED.key e]

/-- Engine e has executed a command in n cycles. -/
def Device.worked (d : Device) (e n : Nat) : Device := (d.spend e n).bump F.ENG_CL_EXEC_CNT_EXECUTED e

theorem Device.spend_within (d : Device) (e n : Nat) : d.Within [.eng] [F.ENG_CL_CYC_CNT_CYCLES.key e] (d.spend e n) :=
  (Within.onEngine d e _).trans (.put _ _ _ _)

theorem Device.worked_within (d : Device) (e n : Nat) : d.Within [.eng] (engineKeys e) (d.worked e n) :=
  (d.spend_within e n).trans (.put _ _ _ _)

theorem Device.engine_spend (d : Device) (e n : Nat) : (d.spend e n).engine e = { d.engine e with used := (d.engine e).used + n } :=
  d.engine_onEngine_self e (fun x => { x with used := x.used + n })

theorem Device.engine_worked (d : Device) (e n : Nat) : (d.worked e n).engine e = { d.engine e with used := (d.engine e).used + n } :=
  d.engine_spend e n

theorem Device.get_worked (d : Device) (e : Fin 64) (n : Nat) :
    (d.worked e n).get F.ENG_CL_EXEC_CNT_EXECUTED e = (d.get F.ENG_CL_EXEC_CNT_EXECUTED e + 1) % 2 ^ 32 := by
  have other : ∀ e : Fin 64, F.ENG_CL_EXEC_CNT_EXECUTED.key e ∉ [F.ENG_CL_CYC_CNT_CYCLES.key e] := by decide
  rw [worked, get_bump, (d.spend_within e n).get _ _ (other e)]
  rfl

/-- Neither counter of an engine is one of the fields of a record or of a fence, and none of them is on the page of a quad. -/
theorem engineKeys_high (e : Fin 64) : ∀ k ∈ engineKeys e, 0x80000 * 32 ≤ k := by
  revert e
  decide

theorem engineKeys_offQuads (e : Fin 64) : ∀ k ∈ engineKeys e, offQuads k = true := fun k hk =>
  Bool.or_eq_true_iff.mpr (.inr (decide_eq_true (engineKeys_high e k hk)))

/-! ### Effect records (R167, R169, R352) -/

/-- The fields that the entry of an effect record in the log reads and shows. -/
def logReads : List Fld :=
  [F.FLT_LOG_HEAD_HEAD, F.FLT_LOG_TAIL_TAIL, F.FLT_LOG_LOST_CNT_LOST, F.FLT_LOG_CFG_HIGH, F.LDG_LOG_CFG_LOG_MODE, F.FLT_EVT_LOG_LOST,
    F.FLT_EVT_LOG_HIGH]

/-- The effect log is the same in b as in a. -/
structure Device.LogAlike (a b : Device) : Prop where
  log : b.flt.log = a.flt.log
  logged : b.flt.loggedThisPound = a.flt.loggedThisPound
  pound : b.tow.pound = a.tow.pound
  fields : ∀ f ∈ logReads, b.get f = a.get f

namespace Device.LogAlike

theorem refl (d : Device) : d.LogAlike d := ⟨rfl, rfl, rfl, fun _ _ => rfl⟩

theorem trans (h : a.LogAlike b) (k : b.LogAlike c) : a.LogAlike c :=
  ⟨k.log.trans h.log, k.logged.trans h.logged, k.pound.trans h.pound, fun f hf => (k.fields f hf).trans (h.fields f hf)⟩

theorem of_within {ps : List Part} {ks : List Nat} (w : a.Within ps ks b) (hk : ∀ f ∈ logReads, f.key 0 ∉ ks)
    (hp : .flt ∉ ps ∧ .tow ∉ ps := by decide) : a.LogAlike b :=
  ⟨by rw [w.flt hp.1], by rw [w.flt hp.1], by rw [w.tow hp.2], fun f hf => w.get f 0 (hk f hf)⟩

/-- A key above the registers of the records leaves them. -/
theorem of_high {ps : List Part} {ks : List Nat} (w : a.Within ps ks b) (high : ∀ k ∈ ks, 0x40000 * 32 ≤ k)
    (hp : .flt ∉ ps ∧ .tow ∉ ps := by decide) : a.LogAlike b := by
  have low : ∀ f ∈ logReads, f.key 0 < 0x40000 * 32 := by decide
  exact .of_within w (fun f hf listed => Nat.not_lt.mpr (high _ listed) (low f hf)) hp

theorem report (d : Device) (cls src code reporter : Nat) : d.LogAlike (d.report cls src code reporter) := by
  have w := Within.report d cls src code reporter
  have unlisted : ∀ f ∈ logReads, f.key 0 ∉ reportKeys := by decide
  refine ⟨?_, ?_, by rw [w.tow], fun f hf => w.get f 0 (unlisted f hf)⟩
  · unfold Device.report reportAt
    split <;> rfl
  · unfold Device.report reportAt
    split <;> rfl

end Device.LogAlike

/-- A record reads and shows the log alone. -/
theorem Device.Logged.of_alike {cmd : Cmd} {code : Code} {gen : BitVec 16} {e : Device} (h : b.Logged c cmd code gen)
    (before : a.LogAlike b) (after : c.LogAlike e) : a.Logged e cmd code gen := by
  have head := before.fields F.FLT_LOG_HEAD_HEAD (by simp [logReads])
  have tail := before.fields F.FLT_LOG_TAIL_TAIL (by simp [logReads])
  have lost := before.fields F.FLT_LOG_LOST_CNT_LOST (by simp [logReads])
  have high := before.fields F.FLT_LOG_CFG_HIGH (by simp [logReads])
  have head' := after.fields F.FLT_LOG_HEAD_HEAD (by simp [logReads])
  have tail' := after.fields F.FLT_LOG_TAIL_TAIL (by simp [logReads])
  have lost' := after.fields F.FLT_LOG_LOST_CNT_LOST (by simp [logReads])
  have evLost := after.fields F.FLT_EVT_LOG_LOST (by simp [logReads])
  have evHigh := after.fields F.FLT_EVT_LOG_HIGH (by simp [logReads])
  have takes : b.logTakes cmd code = a.logTakes cmd code := by
    unfold logTakes
    rw [before.fields F.LDG_LOG_CFG_LOG_MODE (by simp [logReads])]
  have level : e.logLevel = c.logLevel := by
    unfold logLevel
    rw [head', tail']
  unfold Logged at h ⊢
  rw [takes, head, tail, lost, high, before.log, before.logged, before.pound] at h
  rw [after.log, after.logged, head', lost', evLost, evHigh, level]
  exact h

theorem Device.logTakes_eq (d : Device) (c : Cmd) (code : Code) : d.logTakes c code =
    (d.get F.LDG_LOG_CFG_LOG_MODE != 2 && (code != 0 || (d.get F.LDG_LOG_CFG_LOG_MODE != 0 && !c.refresh))) := by
  unfold logTakes
  rcases d.get F.LDG_LOG_CFG_LOG_MODE with _ | _ | _ | n
  · simp
  · simp
  · simp
  · simp

theorem Device.logWeir_shows (d : Device) (before : Nat) (below : before < d.get F.FLT_LOG_CFG_HIGH)
    (reached : d.get F.FLT_LOG_CFG_HIGH ≤ (d.logWeir before).logLevel) : (d.logWeir before).get F.FLT_EVT_LOG_HIGH = 1 := by
  have level : (d.logWeir before).logLevel = d.logLevel := by
    unfold logLevel
    rw [(d.logWeir_within before).get _ _ (by decide), (d.logWeir_within before).get _ _ (by decide)]
  have run : d.logWeir before = d.event F.FLT_EVT_LOG_HIGH := by
    unfold logWeir Device.when
    rw [decide_eq_true below, decide_eq_true (level ▸ reached)]
    rfl
  rw [run, get_event _ _ (by decide) (by decide)]

/-- A record stands in the log where HEAD pointed. -/
def Device.recordEntered (d : Device) (rec : BitVec 128) : Device :=
  ({ d with flt := { d.flt with log := Store.set d.flt.log (d.get F.FLT_LOG_HEAD_HEAD) rec,
                                loggedThisPound := d.flt.loggedThisPound + 1 } } : Device).put
    F.FLT_LOG_HEAD_HEAD 0 (d.get F.FLT_LOG_HEAD_HEAD + 1)

theorem Device.recordEntered_within (d : Device) (rec : BitVec 128) : d.Within [.flt] [F.FLT_LOG_HEAD_HEAD.key 0] (d.recordEntered rec) :=
  (Within.setFlt d _).trans (.put _ _ _ _)

theorem Device.logRecord_of_room {rec : BitVec 128} (room : ¬(d.logLevel = 4095 ∨ 64 ≤ d.flt.loggedThisPound)) :
    d.logRecord rec = (d.recordEntered rec).logWeir d.logLevel := if_neg room

/-- The record of an effect enters the log, is lost, or is not wanted. -/
theorem Device.logged_effect (d : Device) (c : Cmd) (code : Code) (gen : BitVec 16) : d.Logged (d.effect c code gen) c code gen := by
  unfold Logged
  split
  · next unwanted =>
    rw [logTakes_eq] at unwanted
    have run : d.effect c code gen = d := if_neg (by rw [unwanted]; decide)
    rw [run]
    exact ⟨rfl, rfl, rfl⟩
  · next wanted =>
    rw [logTakes_eq, Bool.not_eq_false] at wanted
    have run : d.effect c code gen = d.logRecord (effectWord c code gen d.tow.pound) := by
      rw [← Cmd.record_eq]
      exact if_pos wanted
    rw [run]
    dsimp only
    split
    · next full =>
      have lost : d.logRecord (effectWord c code gen d.tow.pound) = (d.bump F.FLT_LOG_LOST_CNT_LOST).event F.FLT_EVT_LOG_LOST := if_pos full
      have w := (Within.bump d F.FLT_LOG_LOST_CNT_LOST).trans (.event _ F.FLT_EVT_LOG_LOST)
      rw [lost]
      refine ⟨by rw [w.flt], w.get _ _ (by decide), get_event _ _ (by decide) (by decide), ?_⟩
      rw [(Within.event _ _).get _ _ (by decide), get_bump]
    · next room =>
      have entered := d.recordEntered_within (effectWord c code gen d.tow.pound)
      have weir := (d.recordEntered (effectWord c code gen d.tow.pound)).logWeir_within d.logLevel
      have high := entered.get F.FLT_LOG_CFG_HIGH 0 (by decide)
      rw [logRecord_of_room room]
      refine ⟨by rw [weir.flt]; rfl, ?_, by rw [weir.flt]; rfl, ?_, fun below reached => ?_⟩
      · rw [weir.get _ _ (by decide), recordEntered, get_put]
        rfl
      · rw [weir.get _ _ (by decide), entered.get _ _ (by decide)]
      · exact logWeir_shows _ _ (high ▸ below) (high ▸ reached)

theorem Device.logged_rejectCmd (d : Device) (c : Cmd) (code : Code) (gen : BitVec 16) : d.Logged (d.rejectCmd c code gen) c code gen :=
  (logged_effect _ c code gen).of_alike (.of_within (d.count_within c.src _) (by simp)) (.refl _)

theorem Device.logged_applyCmd (d : Device) (c : Cmd) (gen : BitVec 16) : d.Logged (d.applyCmd c gen) c 0 gen :=
  (logged_effect _ c 0 gen).of_alike (.of_within (d.count_within c.src _) (by simp)) (.refl _)

theorem Device.LogAlike.settleFences (d : Device) : d.LogAlike d.settleFences := .of_within d.settleFences_within (by decide)

end Sys2Proof.Machine
end

section
/-! What an engine does with the command that it starts, by the verdict on it (R155, R183-R185, R197). -/

namespace Sys2Proof.Machine

open Device

variable {a b d : Device}

/-! ### Reads of a Berth (R170, R171) -/

/-- A Berth as the command reads it. -/
def Device.cellRead (d : Device) (c : Cmd) (up : Upset) : Cell := (d.cell (cmdBerth c.w1)).hit up.corr up.uncorr

/-- The device after the read of the command's Berth. -/
def Device.berthRead (d : Device) (c : Cmd) (up : Upset) : Device := (d.readBerth (cmdBerth c.w1) up).2

/-- A command with the GEN that it has read. -/
def Cmd.seen (c : Cmd) (x : Cell) : Cmd := { c with genSeen := x.genRead }

theorem Device.readBerth_eq (d : Device) (c : Cmd) (up : Upset) : d.readBerth (cmdBerth c.w1) up = (d.cellRead c up, d.berthRead c up) := rfl

/-- The keys that the errors of a read change. -/
def readKeys : List Nat :=
  [F.LDG_ECC_CORR_CNT_CORRECTED.key 0] ++ evKeys F.LDG_EVT_CORR ++ [F.LDG_ECC_LAST_CWORD.key 0, F.LDG_ECC_LAST_UNCORR.key 0,
    F.LDG_ECC_LAST_BERTH.key 0, F.LDG_ECC_UNCORR_CNT_UNCORRECTABLE.key 0] ++ evKeys F.LDG_EVT_UNCORR ++ reportKeys

theorem Device.setCell_within (d : Device) (id : Nat) (x : Cell) : d.Within [.ledger] [] (d.setCell id x) :=
  .of_part .ledger (fun q hq => by cases q with | ledger => exact absurd rfl hq | _ => rfl) rfl

/-- An error is shown in LDG_ECC_LAST. -/
def Device.eccShown (d : Device) (word : Nat) (uncorr : Bool) (id : Nat) : Device :=
  ((d.put F.LDG_ECC_LAST_CWORD 0 word).putB F.LDG_ECC_LAST_UNCORR 0 uncorr).put F.LDG_ECC_LAST_BERTH 0 id

theorem Device.eccShown_within (d : Device) (word : Nat) (uncorr : Bool) (id : Nat) :
    d.Within [] [F.LDG_ECC_LAST_CWORD.key 0, F.LDG_ECC_LAST_UNCORR.key 0, F.LDG_ECC_LAST_BERTH.key 0] (d.eccShown word uncorr id) :=
  ((Within.put d _ _ _).trans (.putB _ _ _ _)).trans (.put _ _ _ _)

/-- A corrected codeword is counted and shown. -/
def Device.corrNoted (d : Device) (id : Nat) (x : Cell) : Device :=
  ((d.bump F.LDG_ECC_CORR_CNT_CORRECTED 0 (popcount4 x.corrected)).event F.LDG_EVT_CORR).eccShown (topCodeword x.corrected) false id

/-- An uncorrectable codeword is counted, shown and reported. -/
def Device.uncorrNoted (d : Device) (id : Nat) (x : Cell) : Device :=
  (((d.bump F.LDG_ECC_UNCORR_CNT_UNCORRECTABLE).event F.LDG_EVT_UNCORR).eccShown (topCodeword x.uncorr) true id).report 5 id 1 (bankOf id)

theorem Device.noteErrors_eq (d : Device) (id : Nat) (x : Cell) : d.noteErrors id x =
    (d.when (x.corrected != 0) (fun d => d.corrNoted id x)).when (x.uncorr != 0) (fun d => d.uncorrNoted id x) := rfl

theorem Device.corrNoted_within (d : Device) (id : Nat) (x : Cell) : d.Within [.flt] readKeys (d.corrNoted id x) :=
  (((Within.put d _ _ _).trans (.event _ _)).trans (eccShown_within _ _ _ _)).mono (by simp) (by decide)

theorem Device.uncorrNoted_within (d : Device) (id : Nat) (x : Cell) : d.Within [.flt] readKeys (d.uncorrNoted id x) :=
  ((((Within.put d _ _ _).trans (.event _ _)).trans (eccShown_within _ _ _ _)).trans (.report _ _ _ _ _)).mono (by simp) (by decide)

theorem Device.noteErrors_within (d : Device) (id : Nat) (x : Cell) : d.Within [.flt] readKeys (d.noteErrors id x) :=
  (Within.when fun d => d.corrNoted_within id x).andThen (.when fun d => d.uncorrNoted_within id x)

theorem Device.berthRead_within (d : Device) (c : Cmd) (up : Upset) : d.Within [.ledger, .flt] readKeys (d.berthRead c up) :=
  ((Within.when fun d => d.setCell_within (cmdBerth c.w1) _).trans (noteErrors_within _ _ _)).mono (by simp) (by simp)

theorem Device.judgesAlike_berthRead (d : Device) (c : Cmd) (up : Upset) : d.JudgesAlike (d.berthRead c up) := by
  have noted := (d.when (d.cellRead c up != d.cell (cmdBerth c.w1)) (fun d => d.setCell (cmdBerth c.w1) (d.cellRead c up))).noteErrors_within
    (cmdBerth c.w1) (d.cellRead c up)
  have w := d.berthRead_within c up
  refine .of_within w (by decide) ?_ (congrArg Engines.flights w.eng)
  have kept : (d.berthRead c up).ledger =
      (d.when ((d.cellRead c up) != d.cell (cmdBerth c.w1)) (fun d' => d'.setCell (cmdBerth c.w1) (d.cellRead c up))).ledger :=
    (noteErrors_within _ _ _).parts .ledger (by decide)
  rw [kept]
  unfold Device.when
  split <;> rfl

theorem Device.logAlike_berthRead (d : Device) (c : Cmd) (up : Upset) : d.LogAlike (d.berthRead c up) := by
  have stored : d.LogAlike (d.when ((d.cellRead c up) != d.cell (cmdBerth c.w1)) (fun d' => d'.setCell (cmdBerth c.w1) (d.cellRead c up))) :=
    .of_within (.when fun d => d.setCell_within _ _) (by simp)
  have corr (d : Device) (x : Cell) : d.LogAlike (d.when (x.corrected != 0) (fun d => d.corrNoted (cmdBerth c.w1) x)) := by
    unfold Device.when
    split
    · exact .of_within (((Within.put d _ _ _).trans (.event _ _)).trans (eccShown_within _ _ _ _)) (by decide)
    · exact .refl d
  have uncorr (d : Device) (x : Cell) : d.LogAlike (d.when (x.uncorr != 0) (fun d => d.uncorrNoted (cmdBerth c.w1) x)) := by
    unfold Device.when
    split
    · refine .trans (.of_within (((Within.put d _ _ _).trans (.event _ _)).trans (eccShown_within _ _ _ _)) (by decide)) (.report _ _ _ _ _)
    · exact .refl d
  exact (stored.trans (corr _ _)).trans (uncorr _ _)

theorem Cell.hit_none (x : Cell) : x.hit 0 0 = x := by
  simp [hit]

/-- A read without error changes nothing. -/
theorem Device.berthRead_clean {c : Cmd} {x : Entry} (clean : d.cell (cmdBerth c.w1) = { entry := x }) :
    d.cellRead c {} = { entry := x } ∧ d.berthRead c {} = d := by
  have read : d.cellRead c {} = { entry := x } := by
    unfold cellRead
    rw [clean]
    exact Cell.hit_none _
  refine ⟨read, ?_⟩
  have same : (d.cellRead c {} != d.cell (cmdBerth c.w1)) = false := by
    rw [read, clean]
    exact bne_self_eq_false _
  have stored : d.when (d.cellRead c {} != d.cell (cmdBerth c.w1)) (fun d' => d'.setCell (cmdBerth c.w1) (d.cellRead c {})) = d := by
    rw [same, when_false]
  have noted : d.berthRead c {} = d.noteErrors (cmdBerth c.w1) (d.cellRead c {}) :=
    congrArg (noteErrors · (cmdBerth c.w1) (d.cellRead c {})) stored
  have none' : (({ entry := x } : Cell).corrected != 0) = false := by simp [Cell.corrected]
  rw [noted, read, noteErrors_eq, none']
  rfl

/-! ### Execution by verdict -/

/-- The wharf of a rejected command counts it where its code is UNDELIVERABLE. -/
def Device.undelivered (d : Device) (c : Cmd) (code : Code) : Device :=
  match d.servingWharf (cmdBerth c.w1) with
  | some h => d.when (code == 2) (fun d => d.countUndeliverable h)
  | none => d

/-- An executed command waits for the commit. -/
def Device.executed (d : Device) (f : Flight) : Device := { d with eng := { d.eng with flights := d.eng.flights ++ [f] } }

/-- Engine e carries out the verdict on command c, which has read cell x. -/
def Device.carriedOut (d : Device) (e : Nat) (c : Cmd) (x : Cell) : Verdict → Device
  | .reject code => ((d.undelivered c code).worked e 1).rejectCmd c code x.genRead
  | .retry h => ((d.spend e 1).slotFailed h).backToSlice { c with failed := true }
  | .apply entry? none act =>
    (d.worked e 2).executed { eng := e, cmd := c, berth := cmdBerth c.w1, entry? := d.writeBack c x entry?, act }
  | .apply entry? (some (h, first, emit, refresh)) act =>
    match (d.worked e 2).slotFor h with
    | none => d.worked e 2
    | some (lane, slot) =>
      ((d.worked e 2).takeCredit h).executed
        { eng := e, cmd := c, berth := cmdBerth c.w1, entry? := d.writeBack c x entry?, act,
          barge? := some ((d.worked e 2).packBarge c (cmdBerth c.w1) (entry?.getD x.entry) h first emit refresh lane slot) }

theorem Device.carriedOut_reject (d : Device) (e : Nat) (c : Cmd) (x : Cell) (code : Code) :
    d.carriedOut e c x (.reject code) = ((d.undelivered c code).worked e 1).rejectCmd c code x.genRead := rfl

theorem Device.carriedOut_apply (d : Device) (e : Nat) (c : Cmd) (x : Cell) (entry? : Option Entry) (act : Act) :
    d.carriedOut e c x (.apply entry? none act) = (d.worked e 2).executed
      { eng := e, cmd := c, berth := cmdBerth c.w1, entry? := d.writeBack c x entry?, act } := rfl

theorem Device.carriedOut_send {d : Device} {e : Nat} {h lane slot : Nat} (free : (d.worked e 2).slotFor h = some (lane, slot)) (c : Cmd)
    (x : Cell) (entry? : Option Entry) (first emit refresh : Bool) (act : Act) :
    d.carriedOut e c x (.apply entry? (some (h, first, emit, refresh)) act) = ((d.worked e 2).takeCredit h).executed
      { eng := e, cmd := c, berth := cmdBerth c.w1, entry? := d.writeBack c x entry?, act,
        barge? := some ((d.worked e 2).packBarge c (cmdBerth c.w1) (entry?.getD x.entry) h first emit refresh lane slot) } := by
  unfold carriedOut
  dsimp only
  rw [free]

/-- The verdict on command c by what it reads. -/
def Device.verdict (d : Device) (c : Cmd) (up : Upset) : Verdict := d.judge (c.seen (d.cellRead c up)) (cmdBerth c.w1) (d.cellRead c up)

/-- With no error in a credit counter an engine reads the Berth and carries out the verdict. -/
theorem Device.executeCmd_eq (d : Device) (e : Nat) (c : Cmd) {up : Upset} (credit : up.credit = false) : d.executeCmd e c up =
    (d.berthRead c up).carriedOut e (c.seen (d.cellRead c up)) (d.cellRead c up) (d.verdict c up) := by
  have carried : d.executeCmd e c up = (d.berthRead c up).carriedOut e (c.seen (d.cellRead c up)) (d.cellRead c up)
      ((d.berthRead c up).judge (c.seen (d.cellRead c up)) (cmdBerth c.w1) (d.cellRead c up)) := by
    have read : d.cellRead c up = (d.readBerth (cmdBerth c.w1) up).1 := rfl
    unfold executeCmd berthRead Cmd.seen
    rw [read, credit]
    dsimp only
    rcases d.servingWharf (cmdBerth c.w1) with _ | h
    all_goals
      simp only [Bool.false_and, when_false]
      generalize d.readBerth (cmdBerth c.w1) up = read
      generalize Device.judge _ _ _ _ = v
      rcases v with code | h | ⟨en, _ | ⟨h, first, emit, refresh⟩, act⟩
      · rfl
      · rfl
      · rfl
      · dsimp only [carriedOut, worked]
        generalize Device.slotFor _ h = slot
        cases slot with
        | none => rfl
        | some => rfl
  rw [carried]
  exact congrArg _ ((d.judgesAlike_berthRead c up).judge _ _ _)

end Sys2Proof.Machine
end

section
/-! Engines that start a command, and what each verdict leaves behind (R155, R156, R183-R185, R194, R197). -/

namespace Sys2Proof.Machine

open Device

variable {a b d m : Device} {e i : Nat} {c : Cmd} {up : Upset} {want : BitVec 128 → Bool}

theorem Does.imp {r : Instr} {s : State} {parts : List Part} {regs : List Nat} {post post' : Device → Prop} (h : Does r s parts regs post)
    (weaker : ∀ d, post d → post' d) : Does r s parts regs post' := by
  obtain ⟨t, run, pending, kept, regs, holds⟩ := h
  exact ⟨t, run, pending, kept, regs, weaker _ holds⟩

/-! ### The command that an engine starts (R183, R185, R197) -/

/-- Command c, at place i of engine e's slice, is the engine's best selectable command, and of the kind that `want` names. -/
structure Device.Picks (d : Device) (e : Nat) (want : BitVec 128 → Bool) (i : Nat) (c : Cmd) : Prop where
  free : d.resetBusy = false
  empty : (d.engine e).hand = none
  best : bestOf (d.choices e) = some (i, c)
  wanted : want c.w1 = true

/-- Engine e picks command c and takes it with its lease, its words and the counters of credits reading without error. -/
structure Device.Takes (d : Device) (e : Nat) (want : BitVec 128 → Bool) (up : Upset) (i : Nat) (c : Cmd) : Prop where
  picks : d.Picks e want i c
  queue : up.queue = false
  lease : up.lease = false
  credit : up.credit = false
  works : cmdOp c.w1 ≠ 0
  bank : d.bankVoid (bankOf (cmdBerth c.w1)) = false
  granted : (d.granted e).isSome = true
  cycles : (d.engine e).used + 2 ≤ d.cycles

theorem Device.Picks.step (p : d.Picks e want i c) (up : Upset) : d.engineStep e want up =
    if up.queue then (d.onEngine e (fun x => { x with slice := dropAt x.slice i })).dropWord c up e
    else if cmdOp c.w1 = 0 then (d.runNop e i c).settleFences else (d.startCmd e i c up).settleFences := by
  unfold engineStep
  rw [p.free, p.empty]
  dsimp only
  rw [p.best]
  dsimp only
  rw [p.wanted]
  rfl

theorem Device.Picks.starts (p : d.Picks e want i c) (queue : up.queue = false) (works : cmdOp c.w1 ≠ 0) :
    d.engineStep e want up = (d.startCmd e i c up).settleFences := by
  rw [p.step, queue, if_neg works]
  rfl

theorem Device.startCmd_of_whole (d : Device) (e i : Nat) (c : Cmd) (lease : up.lease = false)
    (bank : d.bankVoid (bankOf (cmdBerth c.w1)) = false) : d.startCmd e i c up =
    if (d.engine e).used + 2 ≤ d.cycles then
      if (d.granted e).isSome then (d.taken e i c).executeCmd e c up else (d.turn e none).spend e 1
    else d := by
  unfold startCmd
  rw [lease]
  dsimp only [when_false]
  rw [bank]
  rfl

theorem Device.Takes.step (t : d.Takes e want up i c) : d.engineStep e want up =
    (((d.taken e i c).berthRead c up).carriedOut e (c.seen (d.cellRead c up)) (d.cellRead c up) (d.verdict c up)).settleFences := by
  have judged : (d.taken e i c).verdict c up = d.verdict c up :=
    (JudgesAlike.of_within (d.taken_within e i c) (by simp) rfl rfl).judge _ _ _
  have cell : (d.taken e i c).cellRead c up = d.cellRead c up := rfl
  rw [t.picks.starts t.queue t.works, startCmd_of_whole d e i c t.lease t.bank, if_pos t.cycles, if_pos t.granted,
    executeCmd_eq _ _ _ t.credit, judged, cell]

/-! ### What the steps leave -/

theorem Device.Within.engine {ps : List Part} {ks : List Nat} (h : a.Within ps ks b) (e : Nat) (hp : .eng ∉ ps := by decide) :
    b.engine e = a.engine e :=
  engine_of_eng (h.eng hp) e

theorem Device.engine_rejectCmd (d : Device) (c : Cmd) (code : Code) (gen : BitVec 16) (e : Nat) :
    (d.rejectCmd c code gen).engine e = d.engine e := by
  unfold engine
  rw [rejectCmd_eng, Engines.setCounts_engine]

/-- A rejection that is not for want of a trained wharf changes no counter of a wharf. -/
theorem Device.undelivered_of_other {code : Code} (other : code ≠ 2) (d : Device) (c : Cmd) : d.undelivered c code = d := by
  unfold undelivered
  rw [beq_false_of_ne other]
  split <;> rfl

/-- The counter that a rejection raises lies on the page of a quad. -/
theorem Device.undelivered_within (d : Device) (c : Cmd) (code : Code) :
    ∃ ks, d.Within [] ks (d.undelivered c code) ∧ ∀ k ∈ ks, 0x40000 * 32 ≤ k ∧ k < 0x80000 * 32 := by
  unfold undelivered
  split
  · next h serves =>
    refine ⟨[F.WHF_UNDELIV_CNT_UNDELIVERABLE.key h], .when fun d => .when fun d => .put d _ _ _, fun k hk => ?_⟩
    have place : F.WHF_UNDELIV_CNT_UNDELIVERABLE.key h = (0x4021C + 0x1000 * (h / 4) + 0x20 * (h % 4)) * 32 := rfl
    have small := JudgesAlike.servingWharf_lt serves
    rw [List.mem_singleton.mp hk, place]
    omega
  · exact ⟨[], .refl d, by simp⟩

theorem get_exec_of_low {ps : List Part} {ks : List Nat} (w : a.Within ps ks b) (low : ∀ k ∈ ks, k < 0x80000 * 32) (e : Fin 64) :
    b.get F.ENG_CL_EXEC_CNT_EXECUTED e = a.get F.ENG_CL_EXEC_CNT_EXECUTED e :=
  w.get _ _ fun listed => Nat.not_lt.mpr (engineKeys_high e _ (by simp [engineKeys])) (low _ listed)

/-- Engine e has rejected command c from place i of its slice. -/
structure Device.Rejected (a : Device) (e i : Nat) (c : Cmd) (code : Code) (gen : BitVec 16) (d : Device) : Prop where
  slice : (d.engine e).slice = dropAt (a.engine e).slice i
  used : (d.engine e).used = (a.engine e).used + 1
  flights : d.eng.flights = a.eng.flights
  counts : d.eng.counts c.src = (a.eng.counts c.src).reject (code == 1)
  shown : d.get F.ENG_CL_EXEC_CNT_EXECUTED e = (a.get F.ENG_CL_EXEC_CNT_EXECUTED e + 1) % 2 ^ 32
  logged : a.Logged d c code gen

/-- A rejection with another code than TOO_LATE does not count as late. -/
theorem Device.Rejected.counted {e : Nat} {code : Code} {gen : BitVec 16} (h : a.Rejected e i c code gen d) (other : code ≠ 1) :
    d.eng.counts c.src = (a.eng.counts c.src).reject false := by
  rw [h.counts, beq_false_of_ne other]

/-- From d to m engine e has become x, and what is executed and counted is the same. -/
structure Device.EngineBecomes (e : Nat) (x : Engine) (d m : Device) : Prop where
  engine : m.engine e = x
  flights : m.eng.flights = d.eng.flights
  counts : ∀ s, m.eng.counts s = d.eng.counts s

namespace Device.EngineBecomes

variable {x : Engine}

theorem of_eng (h : d.EngineBecomes e x a) (eng : b.eng = a.eng) : d.EngineBecomes e x b :=
  ⟨(engine_of_eng eng e).trans h.engine, by rw [eng, h.flights], fun s => by rw [eng, h.counts]⟩

theorem dropped (d : Device) (e i : Nat) (c : Cmd) :
    d.EngineBecomes e { d.engine e with slice := dropAt (d.engine e).slice i } (d.dropped e i c) :=
  ⟨d.engine_dropped e i c, rfl, fun s => by fin_cases s <;> rfl⟩

theorem taken (d : Device) (e i : Nat) (c : Cmd) :
    d.EngineBecomes e { d.engine e with slice := dropAt (d.engine e).slice i } (d.taken e i c) :=
  ⟨d.engine_taken e i c, rfl, fun s => by fin_cases s <;> rfl⟩

theorem spend (h : d.EngineBecomes e x m) (n : Nat) : d.EngineBecomes e { x with used := x.used + n } (m.spend e n) :=
  ⟨by rw [engine_spend, h.engine], h.flights, fun s => (by fin_cases s <;> rfl : _ = m.eng.counts s).trans (h.counts s)⟩

theorem worked (h : d.EngineBecomes e x m) (n : Nat) : d.EngineBecomes e { x with used := x.used + n } (m.worked e n) :=
  (h.spend n).of_eng rfl

end Device.EngineBecomes

/-- A command that an engine has dropped from its slice is rejected after a cycle. -/
theorem Device.EngineBecomes.rejected {e : Fin 64} {code : Code} {gen g : BitVec 16}
    (fetched : d.EngineBecomes e { d.engine e with slice := dropAt (d.engine e).slice i } m) (log : d.LogAlike m)
    (exec : m.get F.ENG_CL_EXEC_CNT_EXECUTED e = d.get F.ENG_CL_EXEC_CNT_EXECUTED e) :
    d.Rejected e i c code gen (((m.worked e 1).rejectCmd { c with genSeen := g } code gen).settleFences) := by
  have settled := settleFences_within ((m.worked e 1).rejectCmd { c with genSeen := g } code gen)
  have rejects := rejectCmd_within (m.worked e 1) { c with genSeen := g } code gen
  obtain ⟨engine, flights, counts⟩ := fetched.worked 1
  constructor
  · rw [settled.engine, engine_rejectCmd, engine]
  · rw [settled.engine, engine_rejectCmd, engine]
  · rw [settled.eng, rejectCmd_eng, Engines.setCounts_flights, flights]
  · rw [settled.eng, rejectCmd_eng, Engines.counts_setCounts, counts]
  · rw [get_exec_of_low settled (by decide), get_exec_of_low rejects (by decide), get_worked, exec]
  · refine (logged_rejectCmd _ _ code gen).of_alike (log.trans ?_) (.settleFences _)
    exact .of_high (m.worked_within e 1) fun k hk => Nat.le_trans (by decide) (engineKeys_high e k hk)

theorem Device.Takes.fetched (d : Device) (e i : Nat) (c : Cmd) (up : Upset) :
    d.EngineBecomes e { d.engine e with slice := dropAt (d.engine e).slice i } ((d.taken e i c).berthRead c up) :=
  (EngineBecomes.taken d e i c).of_eng (berthRead_within _ c up).eng

theorem Device.Takes.rejected {e : Fin 64} {code : Code} (t : d.Takes e want up i c) (judged : d.verdict c up = .reject code) :
    d.Rejected e i c code (d.cellRead c up).genRead (d.engineStep e want up) := by
  obtain ⟨ks, counted, quads⟩ := ((d.taken e i c).berthRead c up).undelivered_within (c.seen (d.cellRead c up)) code
  have read := (d.taken e i c).berthRead_within c up
  rw [t.step, judged]
  refine ((Takes.fetched d e i c up).of_eng counted.eng).rejected ?_ ?_
  · refine (LogAlike.trans ?_ ((d.taken e i c).logAlike_berthRead c up)).trans (.of_high counted fun k hk => (quads k hk).1)
    exact .of_within (d.taken_within e i c) (by simp)
  · rw [get_exec_of_low counted fun k hk => (quads k hk).2, get_exec_of_low read (by decide)]
    rfl

/-! ### Commands that wait for the commit -/

/-- Engine e has executed a command from place i of its slice, and flight f of it waits for the commit. -/
structure Device.Executed (a : Device) (e i : Nat) (f : Flight) (d : Device) : Prop where
  slice : (d.engine e).slice = dropAt (a.engine e).slice i
  used : (d.engine e).used = (a.engine e).used + 2
  flights : d.eng.flights = a.eng.flights ++ [f]
  counts : ∀ s, d.eng.counts s = a.eng.counts s
  shown : d.get F.ENG_CL_EXEC_CNT_EXECUTED e = (a.get F.ENG_CL_EXEC_CNT_EXECUTED e + 1) % 2 ^ 32
  twins : d.twins = a.twins

theorem Device.executed_within (d : Device) (f : Flight) : d.Within [.eng] [] (d.executed f) := .setEng d _

/-- What an engine shows when a flight is added. -/
theorem Device.EngineBecomes.executed {x : Engine} (h : d.EngineBecomes e x m) (f : Flight) :
    (m.executed f).settleFences.engine e = x ∧ (m.executed f).settleFences.eng.flights = d.eng.flights ++ [f] ∧
      ∀ s, (m.executed f).settleFences.eng.counts s = d.eng.counts s := by
  have settled := settleFences_within (m.executed f)
  refine ⟨?_, ?_, fun s => ?_⟩
  · rw [settled.engine]
    exact h.engine
  · rw [settled.eng, ← h.flights]
    rfl
  · rw [settled.eng, ← h.counts]
    fin_cases s <;> rfl

/-- The flight of command c with its read cell, without a Barge. -/
def Device.flightOf (d : Device) (e : Nat) (c : Cmd) (up : Upset) (entry? : Option Entry) (act : Act) : Flight :=
  { eng := e, cmd := c.seen (d.cellRead c up), berth := cmdBerth c.w1, act,
    entry? := d.writeBack (c.seen (d.cellRead c up)) (d.cellRead c up) entry? }

theorem Device.Takes.executed {e : Fin 64} {entry? : Option Entry} {act : Act} (t : d.Takes e want up i c)
    (judged : d.verdict c up = .apply entry? none act) : d.Executed e i (d.flightOf e c up entry? act) (d.engineStep e want up) := by
  have read := (d.taken e i c).berthRead_within c up
  have written : ((d.taken e i c).berthRead c up).writeBack (c.seen (d.cellRead c up)) (d.cellRead c up) entry? =
      d.writeBack (c.seen (d.cellRead c up)) (d.cellRead c up) entry? :=
    ((JudgesAlike.of_within (d.taken_within e i c) (by simp) rfl rfl).trans ((d.taken e i c).judgesAlike_berthRead c up)).writeBack _ _ _
  have run : d.engineStep e want up =
      ((((d.taken e i c).berthRead c up).worked e 2).executed (d.flightOf e c up entry? act)).settleFences := by
    rw [t.step, judged, flightOf, ← written]
    rfl
  obtain ⟨engine, flights, counts⟩ := ((Takes.fetched d e i c up).worked 2).executed (d.flightOf e c up entry? act)
  have waits := (executed_within (((d.taken e i c).berthRead c up).worked e 2) (d.flightOf e c up entry? act)).trans (settleFences_within _)
  have all := ((d.taken_within e i c).trans read).trans ((worked_within _ e 2).trans waits)
  rw [run]
  refine ⟨by rw [engine], by rw [engine], flights, counts, ?_, all.parts .twins (by decide)⟩
  rw [get_exec_of_low waits (by decide), get_worked, get_exec_of_low read (by decide)]
  rfl

/-! ### Commands without a slot -/

theorem mem_reenter (c : Cmd) (l : List Cmd) : c ∈ reenter c l := by
  induction l with
  | nil => exact List.mem_singleton.mpr rfl
  | cons x t ih =>
    unfold reenter
    split
    · exact List.mem_cons_self
    · exact List.mem_cons_of_mem _ ih

theorem Device.slotFailed_within (d : Device) (h : Nat) : d.Within [.whf] [] (d.slotFailed h) :=
  .when fun _ => .of_part .whf (fun q hq => by cases q with | whf => exact absurd rfl hq | _ => rfl) rfl

theorem Device.flights_backToSlice (d : Device) (c : Cmd) : (d.backToSlice c).eng.flights = d.eng.flights := rfl

theorem Device.counts_backToSlice (d : Device) (c : Cmd) (s : Fin 4) : (d.backToSlice c).eng.counts s = d.eng.counts s := by
  fin_cases s <;> rfl

theorem Device.slice_backToSlice (d : Device) (c : Cmd) :
    ((d.backToSlice c).engine (ownerOf (cmdBerth c.w1))).slice = reenter c (d.engine (ownerOf (cmdBerth c.w1))).slice := by
  rw [backToSlice, engine_onEngine_self]

/-- Command c with its attempt of this pound failed. -/
def Cmd.tried (c : Cmd) : Cmd := { c with failed := true }

/-- The command tried again stands in its owner's slice. -/
theorem Device.any_backToSlice_tried (d : Device) (c : Cmd) :
    ((d.backToSlice c.tried).engine (ownerOf (cmdBerth c.w1))).slice.any (fun y => y.failed && y.w1 == c.w1) = true := by
  have owner : ownerOf (cmdBerth c.w1) = ownerOf (cmdBerth c.tried.w1) := rfl
  rw [owner, slice_backToSlice]
  exact List.any_eq_true.mpr ⟨c.tried, mem_reenter _ _, by simp [Cmd.tried]⟩

theorem Device.Takes.retried {h : Nat} (t : d.Takes e want up i c) (judged : d.verdict c up = .retry h) :
    ((d.engineStep e want up).engine (ownerOf (cmdBerth c.w1))).slice.any (fun y => y.failed && y.w1 == c.w1) = true ∧
      (d.engineStep e want up).eng.flights = d.eng.flights ∧ ∀ s, (d.engineStep e want up).eng.counts s = d.eng.counts s := by
  have run : d.engineStep e want up = (((((d.taken e i c).berthRead c up).spend e 1).slotFailed h).backToSlice
      (c.seen (d.cellRead c up)).tried).settleFences := by
    rw [t.step, judged]
    rfl
  obtain ⟨-, flights, counts⟩ := ((Takes.fetched d e i c up).spend 1).of_eng (slotFailed_within _ h).eng
  have settled := settleFences_within (((((d.taken e i c).berthRead c up).spend e 1).slotFailed h).backToSlice
    (c.seen (d.cellRead c up)).tried)
  rw [run]
  refine ⟨?_, ?_, fun s => ?_⟩
  · rw [settled.engine]
    exact any_backToSlice_tried _ (c.seen (d.cellRead c up))
  · rw [settled.eng, flights_backToSlice, flights]
  · rw [settled.eng, counts_backToSlice, counts]

end Sys2Proof.Machine
end

section
/-! Commands whose words and Berth read without error: what their rows change (R155, R156, R162, R266). -/

namespace Sys2Proof.Machine

open Device

variable {a b d m : Device} {e : Fin 64} {i : Nat} {c : Cmd} {want : BitVec 128 → Bool} {x : Entry}

/-- Command c with the GEN of the entry that it has read. -/
def Cmd.saw (c : Cmd) (x : Entry) : Cmd := { c with genSeen := x.gen }

/-- The Berth of command c reads without error. -/
def Device.Reads (d : Device) (c : Cmd) (x : Entry) : Prop := d.cell (cmdBerth c.w1) = { entry := x }

theorem Cell.genRead_clean (x : Entry) : ({ entry := x } : Cell).genRead = x.gen := by
  simp [genRead]

theorem Device.Reads.seen (clean : d.Reads c x) : c.seen (d.cellRead c {}) = c.saw x := by
  rw [(berthRead_clean clean).1, Cmd.seen, Cell.genRead_clean, Cmd.saw]

theorem Device.Reads.genRead (clean : d.Reads c x) : (d.cellRead c {}).genRead = x.gen := by
  rw [(berthRead_clean clean).1, Cell.genRead_clean]

theorem Device.Reads.verdict (clean : d.Reads c x) : d.verdict c {} = d.judge c (cmdBerth c.w1) { entry := x } := by
  rw [Device.verdict, clean.seen, (berthRead_clean clean).1]
  rfl

/-- Without an error nothing is written back. -/
theorem Device.Reads.writeBack (clean : d.Reads c x) (entry? : Option Entry) : d.writeBack (c.saw x) (d.cellRead c {}) entry? = entry? := by
  rw [(berthRead_clean clean).1]
  cases entry? with
  | none => simp [Device.writeBack]
  | some => rfl

theorem Device.Takes.step_clean (t : d.Takes e want {} i c) (clean : d.Reads c x) : d.engineStep e want {} =
    ((d.taken e i c).carriedOut e (c.saw x) { entry := x } (d.judge c (cmdBerth c.w1) { entry := x })).settleFences := by
  have same : (d.taken e i c).berthRead c {} = d.taken e i c := (berthRead_clean (d := d.taken e i c) clean).2
  rw [t.step, same, clean.seen, (berthRead_clean clean).1, clean.verdict]

/-! ### Rejections -/

theorem does_rejected {s : State} {r : Instr} {code : Code} (running : s.Running) (row : engineRow r = some (e, {}))
    (t : s.dev.Takes e (rowTakes r) {} i c) (clean : s.dev.Reads c x)
    (judged : s.dev.judge c (cmdBerth c.w1) { entry := x } = .reject code) (other : code ≠ 2) :
    Does r s [.eng, .flt] (engineKeys e ++ fenceKeys ++ logKeys) (s.dev.Rejected e i c code x.gen) := by
  have rejected := t.rejected (clean.verdict.trans judged)
  rw [clean.genRead] at rejected
  have run : s.dev.engineStep e (rowTakes r) {} = (((s.dev.taken e i c).worked e 1).rejectCmd (c.saw x) code x.gen).settleFences := by
    rw [t.step_clean clean, judged, carriedOut_reject, undelivered_of_other other, Cell.genRead_clean]
  have w := ((s.dev.taken_within e i c).trans (worked_within _ e 1)).trans ((rejectCmd_within _ (c.saw x) code x.gen).trans
    (settleFences_within _))
  refine does_within (exec_engineRow row s) running run (w.mono (by decide) fun k hk => ?_) (run ▸ rejected)
  simp only [List.mem_append, List.not_mem_nil, false_or] at hk ⊢
  tauto

/-! ### Effects without a Barge -/

/-- The flight of command c, which has read entry x, without a Barge. -/
def Cmd.flight (c : Cmd) (x : Entry) (e : Nat) (entry? : Option Entry) (act : Act) : Flight :=
  { eng := e, cmd := c.saw x, berth := cmdBerth c.w1, entry? := entry?, act := act }

theorem does_executed {s : State} {r : Instr} {entry? : Option Entry} {act : Act} (running : s.Running) (row : engineRow r = some (e, {}))
    (t : s.dev.Takes e (rowTakes r) {} i c) (clean : s.dev.Reads c x)
    (judged : s.dev.judge c (cmdBerth c.w1) { entry := x } = .apply entry? none act) :
    Does r s [.eng] (engineKeys e ++ fenceKeys)
      (s.dev.Executed e i (c.flight x e entry? act)) := by
  have executed := t.executed (clean.verdict.trans judged)
  have flight : s.dev.flightOf e c {} entry? act = c.flight x e entry? act := by
    rw [flightOf, clean.seen, clean.writeBack, Cmd.flight]
  rw [flight] at executed
  have written : (s.dev.taken e i c).writeBack (c.saw x) { entry := x } entry? = entry? := by
    rw [← (berthRead_clean clean).1]
    exact clean.writeBack entry?
  have run : s.dev.engineStep e (rowTakes r) {} = (((s.dev.taken e i c).worked e 2).executed (c.flight x e entry? act)).settleFences := by
    rw [t.step_clean clean, judged, carriedOut_apply, written]
    rfl
  have w := ((s.dev.taken_within e i c).trans (worked_within _ e 2)).trans ((executed_within _ (c.flight x e entry? act)).trans
    (settleFences_within _))
  exact does_within (exec_engineRow row s) running run (w.mono (by decide) (fun _ hk => hk)) (run ▸ executed)

/-! ### Effects with a Barge -/

/-- A command whose Barge waits for the commit in the slot of lane `lane`. -/
def Device.sentFlight (d : Device) (e : Nat) (c : Cmd) (x : Entry) (entry? : Option Entry) (act : Act) (h : Nat) (first emit refresh : Bool)
    (lane slot : Nat) : Flight :=
  { eng := e, cmd := c.saw x, berth := cmdBerth c.w1, entry? := entry?, act := act,
    barge? := some (d.packBarge c (cmdBerth c.w1) (entry?.getD x) h first emit refresh lane slot) }

/-- Engine e has executed a command from place i of its slice, and its Barge has taken a credit of wharf h. -/
structure Device.Sent (a : Device) (e i : Nat) (f : Flight) (h : Nat) (d : Device) : Prop where
  slice : (d.engine e).slice = dropAt (a.engine e).slice i
  used : (d.engine e).used = (a.engine e).used + 2
  flights : d.eng.flights = a.eng.flights ++ [f]
  credit : d.get F.WHF_CREDIT_HELD h = (a.get F.WHF_CREDIT_HELD h - 1) % 2 ^ 7

theorem does_sent {s : State} {r : Instr} {entry? : Option Entry} {act : Act} {h lane slot : Nat} {first emit refresh : Bool}
    (running : s.Running) (row : engineRow r = some (e, {})) (t : s.dev.Takes e (rowTakes r) {} i c) (clean : s.dev.Reads c x)
    (judged : s.dev.judge c (cmdBerth c.w1) { entry := x } = .apply entry? (some (h, first, emit, refresh)) act) (small : h < 256)
    (free : s.dev.slotFor h = some (lane, slot)) :
    Does r s [.eng] (engineKeys e ++ fenceKeys ++ [F.WHF_CREDIT_HELD.key h])
      (s.dev.Sent e i (s.dev.sentFlight e c x entry? act h first emit refresh lane slot) h) := by
  have worked : s.dev.Within [.eng] (engineKeys e) ((s.dev.taken e i c).worked e 2) :=
    ((s.dev.taken_within e i c).trans (worked_within _ e 2)).mono (by decide) (fun _ hk => hk)
  have slots : s.dev.SlotsAlike ((s.dev.taken e i c).worked e 2) := .of_within worked rfl (engineKeys_offQuads e)
  have written : (s.dev.taken e i c).writeBack (c.saw x) { entry := x } entry? = entry? := by
    rw [← (berthRead_clean clean).1]
    exact clean.writeBack entry?
  have run : s.dev.engineStep e (rowTakes r) {} = ((((s.dev.taken e i c).worked e 2).takeCredit h).executed
      (s.dev.sentFlight e c x entry? act h first emit refresh lane slot)).settleFences := by
    rw [t.step_clean clean, judged, carriedOut_send ((slots.slotFor small).trans free), written]
    rfl
  have waits := (executed_within (((s.dev.taken e i c).worked e 2).takeCredit h)
    (s.dev.sentFlight e c x entry? act h first emit refresh lane slot)).trans (settleFences_within _)
  have w := (worked.trans (.put _ F.WHF_CREDIT_HELD h (((s.dev.taken e i c).worked e 2).get F.WHF_CREDIT_HELD h - 1))).trans waits
  obtain ⟨engine, flights, -⟩ := (((EngineBecomes.taken s.dev e i c).worked 2).of_eng (b := ((s.dev.taken e i c).worked e 2).takeCredit h)
    rfl).executed (s.dev.sentFlight e c x entry? act h first emit refresh lane slot)
  have quad : F.WHF_CREDIT_HELD.key h ∉ fenceKeys := fun listed => by
    have low : ∀ k ∈ fenceKeys, offQuads k = true := by decide
    exact absurd ((low _ listed).symm.trans (Fld.key_of_laneReads (by simp [laneReads]) small)) (by decide)
  refine does_within (exec_engineRow row s) running run (w.mono (by decide) fun k hk => ?_)
    ⟨by rw [engine], by rw [engine], flights, ?_⟩
  · simp only [List.mem_append, List.not_mem_nil, false_or] at hk ⊢
    tauto
  · rw [waits.get _ _ quad, takeCredit, get_put, slots.lanes F.WHF_CREDIT_HELD (by simp [laneReads]) h small]
    rfl

end Sys2Proof.Machine
end

section
/-! The verdicts on commands whose Berth reads without error (R120, R125, R155, R156, R158). -/

namespace Sys2Proof.Machine

open Device

variable {d : Device} {c : Cmd} {x : Entry}

/-- The Berth of command c, with entry x, is valid, and the command's checks come before any of R155 that follows row 2. -/
theorem Device.judge_of_valid (valid : x.valid (cmdBerth c.w1) = true) :
    d.judge c (cmdBerth c.w1) { entry := x } = d.judgeEntry c (cmdBerth c.w1) x := by
  simp [judge, valid]

theorem Device.hopOf_of_unprepared {id : Nat} (none' : d.preparedFor id = none) : d.hopOf id = none :=
  Option.map_eq_none_iff.mp none'

/-- Command c is none of the refresh walker, comes at or after the anchor of its valid entry x, and its Berth has prepared no hop. -/
structure Device.Plain (d : Device) (c : Cmd) (x : Entry) : Prop where
  valid : x.valid (cmdBerth c.w1) = true
  host : c.refresh = false
  anchored : x.a.toNat ≤ c.t.toNat
  unprepared : d.preparedFor (cmdBerth c.w1) = none

namespace Device.Plain

variable (p : d.Plain c x)

include p

theorem early : decide (c.t.toNat < x.a.toNat) = false := decide_eq_false (Nat.not_lt.mpr p.anchored)

theorem core (op : cmdOp c.w1 ≠ 4) (bound : cmdOp c.w1 = 5 ∨ cmdOp c.w1 = 6 → x.bound = true) (kind : x.kind = 2)
    (clear : d.coreRefusal (cmdBerth c.w1) x (cmdOp c.w1 == 5) = none) : d.judge c (cmdBerth c.w1) { entry := x } =
    if cmdOp c.w1 = 7 then d.judgeHop c x else d.judgeCore c (cmdBerth c.w1) x := by
  have bound' : ¬((cmdOp c.w1 = 5 ∨ cmdOp c.w1 = 6) ∧ x.bound = false) := fun h => absurd (bound h.1) (by rw [h.2]; decide)
  rw [judge_of_valid p.valid, judgeEntry]
  simp [p.host, p.early, p.unprepared, op, bound', kind, clear]

theorem bind (op : cmdOp c.w1 = 4) : d.judge c (cmdBerth c.w1) { entry := x } = d.judgeBind c (cmdBerth c.w1) x := by
  rw [judge_of_valid p.valid, judgeEntry]
  simp [p.host, p.early, op]

theorem unbound (op : cmdOp c.w1 = 5 ∨ cmdOp c.w1 = 6) (free : x.bound = false) :
    d.judge c (cmdBerth c.w1) { entry := x } = .reject 8 := by
  have op' : cmdOp c.w1 ≠ 4 := by omega
  rw [judge_of_valid p.valid, judgeEntry]
  simp [p.host, p.early, op, op', free]

/-- The entry of a Berth after a frequency or phase command (R156). -/
theorem free (op : cmdOp c.w1 = 1 ∨ cmdOp c.w1 = 2 ∨ cmdOp c.w1 = 3) (core : x.kind ≠ 2) :
    d.judge c (cmdBerth c.w1) { entry := x } =
      if x.kind = 1 then d.sendVerdict (cmdBerth c.w1) (some
        (if cmdOp c.w1 = 1 then x.refreq c.t (cmdFreq c.w1) none else if cmdOp c.w1 = 2 then x.refreq c.t (cmdFreq c.w1) (some c.w2)
          else { x with phi := x.phi + cmdDelta c.w1 }).next) false false false
      else .apply (some
        (if cmdOp c.w1 = 1 then x.refreq c.t (cmdFreq c.w1) none else if cmdOp c.w1 = 2 then x.refreq c.t (cmdFreq c.w1) (some c.w2)
          else { x with phi := x.phi + cmdDelta c.w1 }).next) none .none := by
  rw [judge_of_valid p.valid, judgeEntry]
  obtain op | op | op := op
  all_goals simp [p.host, p.early, p.unprepared, op, core, hopAct, hopOf_of_unprepared p.unprepared]

end Device.Plain

end Sys2Proof.Machine
end

section
/-! PREP_HOP of its three kinds (R120, R121, R124, R128). -/

namespace Sys2Proof.Machine

open Device

variable {d : Device} {c : Cmd} {x : Entry}

/-- The entry of a Berth after a PREP_HOP that changes it (R121, R124). -/
abbrev Cmd.hopped (c : Cmd) (x : Entry) : Entry := (x.refreq c.t (cmdFreq c.w1) (if cmdPhaseAbs c.w1 then some c.w2 else none)).next

/-- A PREP_HOP comes to the checks of R120. -/
theorem Device.Plain.hop (p : d.Plain c x) (op : cmdOp c.w1 = 7) (kind : x.kind = 2)
    (clear : d.coreRefusal (cmdBerth c.w1) x false = none) : d.judge c (cmdBerth c.w1) { entry := x } = d.judgeHop c x := by
  have release : (cmdOp c.w1 == 5) = false := by rw [op]; decide
  exact (p.core (by omega) (by omega) kind (by rw [release]; exact clear)).trans (if_pos op)

theorem Device.judgeHop_retune (hop : cmdHopKind c.w1 = 1) (range : d.outOfRange (d.actingCore x) (cmdFreq c.w1) = false)
    (band : (d.bandLookup (d.actingCore x) (d.derived (d.actingCore x) (cmdFreq c.w1))).isSome = true) :
    d.judgeHop c x = .apply (some (c.hopped x)) none (.loads [Load.acting c (d.actingCore x) .retune (c.hopped x)]) := by
  have band' : (d.bandLookup (d.actingCore x) (d.derived (d.actingCore x) (cmdFreq c.w1))).isNone = false := by
    rw [Option.isNone_eq_false_iff]
    exact band
  simp [judgeHop, hop, range, band']

theorem Device.judgeHop_retune_refused (hop : cmdHopKind c.w1 = 1) (bad : d.outOfRange (d.actingCore x) (cmdFreq c.w1) = true ∨
    (d.bandLookup (d.actingCore x) (d.derived (d.actingCore x) (cmdFreq c.w1))).isSome = false) :
    d.judgeHop c x = .reject (if d.outOfRange (d.actingCore x) (cmdFreq c.w1) then 0x0D else 0x11) := by
  unfold judgeHop
  rw [if_pos hop]
  dsimp only
  split
  · rfl
  · next range =>
    have none' := bad.resolve_left range
    rw [Option.isSome_eq_false_iff] at none'
    rw [if_pos none']

theorem Device.judgeHop_twin (hop : cmdHopKind c.w1 = 0) (good : d.twinHopRefusal x (cmdFreq c.w1) = none) :
    d.judgeHop c x = .apply (some (c.hopped x)) none
      (.hop (x.core / 2) c.t (Load.of c (d.standbyCore (x.core / 2)) .hop (c.hopped x))) := by
  simp [judgeHop, hop, good]

theorem Device.judgeHop_park (hop : cmdHopKind c.w1 = 2) (good : d.twinHopRefusal x (cmdFreq c.w1) = none) :
    d.judgeHop c x = .apply none none
      (.loads [{ Load.of c (d.standbyCore (x.core / 2)) .park (c.hopped x) with a := c.t, f := cmdFreq c.w1 }]) := by
  simp [judgeHop, hop, good]

theorem Device.judgeHop_refused {code : Code} (hop : cmdHopKind c.w1 ≠ 1) (bad : d.twinHopRefusal x (cmdFreq c.w1) = some code) :
    d.judgeHop c x = .reject code := by
  simp [judgeHop, hop, bad]

/-- The checks of R120 give none of the codes TOO_LATE and UNDELIVERABLE. -/
theorem Device.twinHopRefusal_code {f : Freq} {code : Code} (bad : d.twinHopRefusal x f = some code) : code ≠ 1 ∧ code ≠ 2 := by
  unfold twinHopRefusal at bad
  dsimp only at bad
  split_ifs at bad
  all_goals
    obtain rfl := Option.some.inj bad
    decide

/-- Settles O30: each kind of PREP_HOP has its verdict by the checks of R120, and the row carries it out. -/
theorem engineHops : Obligations.EngineHops := by
  unfold Obligations.EngineHops
  refine ⟨?_, ?_, ?_, ?_, ?_, ?_⟩
  · intro s e i c x run op hop free empty best bank granted cycles clean valid host anchored unprepared kind clear range band
    have picks : s.dev.Picks e (rowTakes (.prepHopRetune e {})) i c := ⟨free, empty, best, by simp [rowTakes, op, hop]⟩
    have judged := ((Plain.mk valid host anchored unprepared).hop op kind clear).trans (judgeHop_retune hop range band)
    exact (does_executed run rfl ⟨picks, rfl, rfl, rfl, by omega, bank, granted, cycles⟩ clean judged).imp
      fun d h => ⟨h.slice, h.used, h.flights⟩
  · intro s e i c x run op hop free empty best bank granted cycles clean valid host anchored unprepared kind clear bad
    have picks : s.dev.Picks e (rowTakes (.prepHopRetune e {})) i c := ⟨free, empty, best, by simp [rowTakes, op, hop]⟩
    have judged := ((Plain.mk valid host anchored unprepared).hop op kind clear).trans (judgeHop_retune_refused hop bad)
    have code (b : Bool) : (if b then 0x0D else 0x11 : Code) ≠ 1 ∧ (if b then 0x0D else 0x11 : Code) ≠ 2 := by
      revert b
      decide
    exact (does_rejected run rfl ⟨picks, rfl, rfl, rfl, by omega, bank, granted, cycles⟩ clean judged (code _).2).imp
      fun d h => ⟨h.slice, h.flights, h.counted (code _).1, h.used, h.logged⟩
  · intro s e i c x run op hop free empty best bank granted cycles clean valid host anchored unprepared kind clear good
    have picks : s.dev.Picks e (rowTakes (.prepHopTwin e {})) i c := ⟨free, empty, best, by simp [rowTakes, op, hop]⟩
    have judged := ((Plain.mk valid host anchored unprepared).hop op kind clear).trans (judgeHop_twin hop good)
    exact (does_executed run rfl ⟨picks, rfl, rfl, rfl, by omega, bank, granted, cycles⟩ clean judged).imp
      fun d h => ⟨h.slice, h.used, h.flights, h.twins⟩
  · intro s e i c x code run op hop free empty best bank granted cycles clean valid host anchored unprepared kind clear bad
    have picks : s.dev.Picks e (rowTakes (.prepHopTwin e {})) i c := ⟨free, empty, best, by simp [rowTakes, op, hop]⟩
    have judged := ((Plain.mk valid host anchored unprepared).hop op kind clear).trans (judgeHop_refused (by omega) bad)
    obtain ⟨late, undelivered⟩ := twinHopRefusal_code bad
    refine (does_rejected run rfl ⟨picks, rfl, rfl, rfl, by omega, bank, granted, cycles⟩ clean judged undelivered).imp
      fun d h => ⟨h.slice, h.flights, h.counted late, h.used, h.logged⟩
  · intro s e i c x run op hop free empty best bank granted cycles clean valid host anchored unprepared kind clear good
    have picks : s.dev.Picks e (rowTakes (.prepHopPark e {})) i c := ⟨free, empty, best, by simp [rowTakes, op, hop]⟩
    have judged := ((Plain.mk valid host anchored unprepared).hop op kind clear).trans (judgeHop_park hop good)
    exact (does_executed run rfl ⟨picks, rfl, rfl, rfl, by omega, bank, granted, cycles⟩ clean judged).imp
      fun d h => ⟨h.slice, h.used, h.flights⟩
  · intro s e i c x code run op hop free empty best bank granted cycles clean valid host anchored unprepared kind clear bad
    have picks : s.dev.Picks e (rowTakes (.prepHopPark e {})) i c := ⟨free, empty, best, by simp [rowTakes, op, hop]⟩
    have judged := ((Plain.mk valid host anchored unprepared).hop op kind clear).trans (judgeHop_refused (by omega) bad)
    obtain ⟨late, undelivered⟩ := twinHopRefusal_code bad
    refine (does_rejected run rfl ⟨picks, rfl, rfl, rfl, by omega, bank, granted, cycles⟩ clean judged undelivered).imp
      fun d h => ⟨h.slice, h.flights, h.counted late, h.used, h.logged⟩

end Sys2Proof.Machine
end

section
/-! BIND, RELEASE and EMIT (R115, R156, R158, R159, R162). -/

namespace Sys2Proof.Machine

open Device

variable {d : Device} {c : Cmd} {x : Entry} {h lane slot : Nat}

/-! ### Verdicts -/

/-- A Berth on a trained wharf with a free slot sends its Barge. -/
theorem Device.sendVerdict_of_slot {id : Nat} (serves : d.servingWharf id = some h) (trained : d.wharfTrained h = true)
    (free : d.slotFor h = some (lane, slot)) (entry? : Option Entry) (first emit refresh : Bool) (act : Act) :
    d.sendVerdict id entry? first emit refresh act = .apply entry? (some (h, first, emit, refresh)) act := by
  simp [sendVerdict, serves, trained, free]

/-- The entry that a BIND leaves (R156). -/
def Cmd.bound (c : Cmd) (x : Entry) (binding : BitVec 8) : Entry := ({ x with state := 1, binding, flags := cmdFlags c.w1 } : Entry).next

/-- The entry that a RELEASE leaves (R159). -/
def Entry.released (x : Entry) : Entry := ({ x with state := 2, binding := 0 } : Entry).next

namespace Device.Plain

variable (p : d.Plain c x)

include p

theorem bindCore (op : cmdOp c.w1 = 4) (free : x.bound = false) (core : cmdBinding c.w1 / 64 ≠ 1)
    (good : d.bindRefusal (cmdBerth c.w1) (cmdBinding c.w1 % 16) x = none) (single : d.twinEnabled (cmdBinding c.w1 % 16 / 2) = false) :
    d.judge c (cmdBerth c.w1) { entry := x } = .apply (some (c.bound x (BitVec.ofNat 8 (0x80 + cmdBinding c.w1 % 16)))) none
      (.loads [Load.of c (cmdBinding c.w1 % 16) .bind (c.bound x (BitVec.ofNat 8 (0x80 + cmdBinding c.w1 % 16)))]) := by
  rw [p.bind op]
  simp [judgeBind, Cmd.bound, free, core, good, single, hopOf_of_unprepared p.unprepared]

theorem bindTwin (op : cmdOp c.w1 = 4) (free : x.bound = false) (core : cmdBinding c.w1 / 64 ≠ 1)
    (good : d.bindRefusal (cmdBerth c.w1) (cmdBinding c.w1 % 16) x = none) (twin : d.twinEnabled (cmdBinding c.w1 % 16 / 2) = true) :
    d.judge c (cmdBerth c.w1) { entry := x } =
      .apply (some (c.bound x (BitVec.ofNat 8 (0x80 + 0x20 + 2 * (cmdBinding c.w1 % 16 / 2))))) none
        (.loads [Load.acting c (d.standbyCore (cmdBinding c.w1 % 16 / 2)) .record
            (c.bound x (BitVec.ofNat 8 (0x80 + 0x20 + 2 * (cmdBinding c.w1 % 16 / 2)))),
          Load.acting c (d.activeCore (cmdBinding c.w1 % 16 / 2)) .bind
            (c.bound x (BitVec.ofNat 8 (0x80 + 0x20 + 2 * (cmdBinding c.w1 % 16 / 2))))]) := by
  rw [p.bind op]
  simp [judgeBind, Cmd.bound, free, core, good, twin, hopOf_of_unprepared p.unprepared]

theorem bindChannel (op : cmdOp c.w1 = 4) (free : x.bound = false) (channel : cmdBinding c.w1 / 64 = 1) :
    d.judge c (cmdBerth c.w1) { entry := x } = d.sendVerdict (cmdBerth c.w1) (some (c.bound x 0x40)) true false false := by
  rw [p.bind op]
  simp [judgeBind, Cmd.bound, free, channel, p.unprepared]

theorem releaseCore (op : cmdOp c.w1 = 5) (bound : x.bound = true) (kind : x.kind = 2)
    (clear : d.coreRefusal (cmdBerth c.w1) x true = none) :
    d.judge c (cmdBerth c.w1) { entry := x } = .apply (some x.released) none (.loads (releaseLoads c x)) := by
  have release : (cmdOp c.w1 == 5) = true := by rw [op]; decide
  rw [p.core (by omega) (fun _ => bound) kind (by rw [release]; exact clear), if_neg (by omega)]
  simp [judgeCore, Entry.released, op, p.unprepared]

theorem releaseOther (op : cmdOp c.w1 = 5) (bound : x.bound = true) (kind : x.kind ≠ 2) :
    d.judge c (cmdBerth c.w1) { entry := x } = .apply (some x.released) none .none := by
  rw [judge_of_valid p.valid, judgeEntry]
  simp [p.host, p.early, p.unprepared, op, bound, kind, Entry.released, hopAct, hopOf_of_unprepared p.unprepared]

theorem emitCore (op : cmdOp c.w1 = 6) (bound : x.bound = true) (kind : x.kind = 2)
    (clear : d.coreRefusal (cmdBerth c.w1) x false = none) :
    d.judge c (cmdBerth c.w1) { entry := x } = .apply none none (.loads [Load.acting c (d.actingCore x) .emit x]) := by
  have release : (cmdOp c.w1 == 5) = false := by rw [op]; decide
  rw [p.core (by omega) (fun _ => bound) kind (by rw [release]; exact clear), if_neg (by omega)]
  simp [judgeCore, op, p.unprepared]

theorem emitChannel (op : cmdOp c.w1 = 6) (bound : x.bound = true) (kind : x.kind = 1) :
    d.judge c (cmdBerth c.w1) { entry := x } = d.sendVerdict (cmdBerth c.w1) none false true false := by
  rw [judge_of_valid p.valid, judgeEntry]
  simp [p.host, p.early, p.unprepared, op, bound, kind]

end Device.Plain

/-- An EMIT of the refresh walker is sent for a Berth that takes it. -/
theorem Device.judge_refresh (valid : x.valid (cmdBerth c.w1) = true) (walker : c.refresh = true) (kind : x.kind = 1)
    (takes : x.noRefresh = false) (anchored : x.a.toNat ≤ c.t.toNat) :
    d.judge c (cmdBerth c.w1) { entry := x } = d.sendVerdict (cmdBerth c.w1) none false true true := by
  rw [judge_of_valid valid, judgeEntry]
  simp [walker, kind, takes, anchored]

theorem Device.judge_refresh_idle (valid : x.valid (cmdBerth c.w1) = true) (walker : c.refresh = true)
    (idle : x.kind ≠ 1 ∨ x.noRefresh = true ∨ c.t.toNat < x.a.toNat) :
    d.judge c (cmdBerth c.w1) { entry := x } = .apply none none .none := by
  have refused : (x.kind == 1 && !x.noRefresh && decide (x.a.toNat ≤ c.t.toNat)) = false := by
    simp only [Bool.and_eq_false_iff, beq_eq_false_iff_ne, Bool.not_eq_false', decide_eq_false_iff_not, Nat.not_le, or_assoc]
    exact idle
  rw [judge_of_valid valid, judgeEntry]
  simp [walker, refused]

/-- Settles O29: BIND, RELEASE and EMIT have their verdicts by the entry and the operands, and their rows carry them out. -/
theorem engineBinds : Obligations.EngineBinds := by
  unfold Obligations.EngineBinds
  refine ⟨?_, ?_, ?_, ?_, ?_, ?_, ?_, ?_, ?_, ?_⟩
  · intro s e i c x run op free empty best bank granted cycles clean valid host anchored unprepared unbound core good single
    have picks : s.dev.Picks e (rowTakes (.bind e {})) i c := ⟨free, empty, best, by simp [rowTakes, op]⟩
    have judged := (Plain.mk valid host anchored unprepared).bindCore op unbound core good single
    exact (does_executed run rfl ⟨picks, rfl, rfl, rfl, by omega, bank, granted, cycles⟩ clean judged).imp
      fun d h => ⟨h.slice, h.used, h.flights⟩
  · intro s e i c x run op free empty best bank granted cycles clean valid host anchored unprepared unbound core good twin
    have picks : s.dev.Picks e (rowTakes (.bind e {})) i c := ⟨free, empty, best, by simp [rowTakes, op]⟩
    have judged := (Plain.mk valid host anchored unprepared).bindTwin op unbound core good twin
    exact (does_executed run rfl ⟨picks, rfl, rfl, rfl, by omega, bank, granted, cycles⟩ clean judged).imp
      fun d h => ⟨h.slice, h.used, h.flights⟩
  · intro s e i c x h lane slot run op free empty best bank granted cycles clean valid host anchored unprepared unbound channel serves
      trained room
    have picks : s.dev.Picks e (rowTakes (.bind e {})) i c := ⟨free, empty, best, by simp [rowTakes, op]⟩
    have judged := ((Plain.mk valid host anchored unprepared).bindChannel op unbound channel).trans
      (sendVerdict_of_slot serves trained room _ _ _ _ _)
    exact (does_sent run rfl ⟨picks, rfl, rfl, rfl, by omega, bank, granted, cycles⟩ clean judged (JudgesAlike.servingWharf_lt serves)
      room).imp fun d h => ⟨h.slice, h.used, h.flights, h.credit⟩
  · intro s e i c x run op free empty best bank granted cycles clean valid host anchored unprepared bound kind clear
    have picks : s.dev.Picks e (rowTakes (.release e {})) i c := ⟨free, empty, best, by simp [rowTakes, op]⟩
    have judged := (Plain.mk valid host anchored unprepared).releaseCore op bound kind clear
    exact (does_executed run rfl ⟨picks, rfl, rfl, rfl, by omega, bank, granted, cycles⟩ clean judged).imp
      fun d h => ⟨h.slice, h.used, h.flights⟩
  · intro s e i c x run op free empty best bank granted cycles clean valid host anchored unprepared bound kind
    have picks : s.dev.Picks e (rowTakes (.release e {})) i c := ⟨free, empty, best, by simp [rowTakes, op]⟩
    have judged := (Plain.mk valid host anchored unprepared).releaseOther op bound kind
    exact (does_executed run rfl ⟨picks, rfl, rfl, rfl, by omega, bank, granted, cycles⟩ clean judged).imp
      fun d h => ⟨h.slice, h.used, h.flights⟩
  · intro s e i c x run op free empty best bank granted cycles clean valid host anchored unprepared unbound
    have picks : s.dev.Picks e (rowTakes (.release e {})) i c := ⟨free, empty, best, by simp [rowTakes, op]⟩
    have judged := (Plain.mk valid host anchored unprepared).unbound (.inl op) unbound
    exact (does_rejected run rfl ⟨picks, rfl, rfl, rfl, by omega, bank, granted, cycles⟩ clean judged (by decide)).imp
      fun d h => ⟨h.slice, h.flights, h.counts, h.logged⟩
  · intro s e i c x run op free empty best bank granted cycles clean valid host anchored unprepared bound kind clear
    have picks : s.dev.Picks e (rowTakes (.emit e {})) i c := ⟨free, empty, best, by simp [rowTakes, op]⟩
    have judged := (Plain.mk valid host anchored unprepared).emitCore op bound kind clear
    exact (does_executed run rfl ⟨picks, rfl, rfl, rfl, by omega, bank, granted, cycles⟩ clean judged).imp
      fun d h => ⟨h.slice, h.used, h.flights⟩
  · intro s e i c x h lane slot run op free empty best bank granted cycles clean valid host anchored unprepared bound kind serves trained room
    have picks : s.dev.Picks e (rowTakes (.emit e {})) i c := ⟨free, empty, best, by simp [rowTakes, op]⟩
    have judged := ((Plain.mk valid host anchored unprepared).emitChannel op bound kind).trans
      (sendVerdict_of_slot serves trained room _ _ _ _ _)
    exact (does_sent run rfl ⟨picks, rfl, rfl, rfl, by omega, bank, granted, cycles⟩ clean judged (JudgesAlike.servingWharf_lt serves)
      room).imp fun d h => ⟨h.slice, h.used, h.flights, h.credit⟩
  · intro s e i c x h lane slot run op free empty best bank granted cycles clean valid walker kind takes anchored serves trained room
    have picks : s.dev.Picks e (rowTakes (.emit e {})) i c := ⟨free, empty, best, by simp [rowTakes, op]⟩
    have judged := (judge_refresh valid walker kind takes anchored).trans (sendVerdict_of_slot serves trained room _ _ _ _ _)
    exact (does_sent run rfl ⟨picks, rfl, rfl, rfl, by omega, bank, granted, cycles⟩ clean judged (JudgesAlike.servingWharf_lt serves)
      room).imp fun d h => ⟨h.slice, h.used, h.flights, h.credit⟩
  · intro s e i c x run op free empty best bank granted cycles clean valid walker idle
    have picks : s.dev.Picks e (rowTakes (.emit e {})) i c := ⟨free, empty, best, by simp [rowTakes, op]⟩
    have judged := judge_refresh_idle (d := s.dev) valid walker idle
    exact (does_executed run rfl ⟨picks, rfl, rfl, rfl, by omega, bank, granted, cycles⟩ clean judged).imp
      fun d h => ⟨h.slice, h.used, h.flights⟩

end Sys2Proof.Machine
end

section
/-! Engines that execute no command of their slice: NOPs, stolen commands in hand, dropped words, voided banks and lost cycles (R155, R156,
R183-R186, R197). -/

namespace Sys2Proof.Machine

open Device

variable {a b d m : Device} {e i : Nat} {c : Cmd} {up : Upset} {want : BitVec 128 → Bool}

/-! ### NOP (R156) -/

theorem Device.runNop_of_time (time : (d.engine e).used + 1 ≤ d.cycles) (i : Nat) (c : Cmd) :
    d.runNop e i c = ((d.dropped e i c).worked e 1).applyCmd c 0 := if_pos time

theorem Device.engine_applyCmd (d : Device) (c : Cmd) (gen : BitVec 16) (e : Nat) : (d.applyCmd c gen).engine e = d.engine e := by
  unfold engine
  rw [applyCmd_eng, Engines.setCounts_engine]

theorem does_nop {s : State} {e : Fin 64} (running : s.Running) (p : s.dev.Picks e (rowTakes (.nop e up)) i c) (queue : up.queue = false)
    (op : cmdOp c.w1 = 0) (time : (s.dev.engine e).used + 1 ≤ s.dev.cycles) :
    Does (.nop e up) s [.eng, .flt] (engineKeys e ++ fenceKeys ++ logKeys) (fun d =>
      (d.engine e).slice = dropAt (s.dev.engine e).slice i ∧ (d.engine e).used = (s.dev.engine e).used + 1 ∧
      d.eng.counts c.src = (s.dev.eng.counts c.src).apply ∧ d.eng.flights = s.dev.eng.flights ∧
      d.get F.ENG_CL_EXEC_CNT_EXECUTED e = (s.dev.get F.ENG_CL_EXEC_CNT_EXECUTED e + 1) % 2 ^ 32 ∧ s.dev.Logged d c 0 0) := by
  have run : s.dev.engineStep e (rowTakes (.nop e up)) up = (((s.dev.dropped e i c).worked e 1).applyCmd c 0).settleFences := by
    rw [p.step, queue, if_pos op, runNop_of_time time]
    rfl
  have worked := (s.dev.dropped_within e i c).trans (worked_within _ e 1)
  have applies := applyCmd_within ((s.dev.dropped e i c).worked e 1) c 0
  have settled := settleFences_within (((s.dev.dropped e i c).worked e 1).applyCmd c 0)
  obtain ⟨engine, flights, counts⟩ := (EngineBecomes.dropped s.dev e i c).worked 1
  have log : s.dev.LogAlike ((s.dev.dropped e i c).worked e 1) :=
    .of_high worked fun k hk => Nat.le_trans (by decide) (engineKeys_high e k hk)
  refine does_within (exec_engineRow rfl s) running run ((worked.trans (applies.trans settled)).mono (by decide) fun k hk => ?_)
    ⟨?_, ?_, ?_, ?_, ?_, (logged_applyCmd _ c 0).of_alike log (.settleFences _)⟩
  · simp only [List.mem_append, List.not_mem_nil, false_or] at hk ⊢
    tauto
  · rw [settled.engine, engine_applyCmd, engine]
  · rw [settled.engine, engine_applyCmd, engine]
  · rw [settled.eng, applyCmd_eng, Engines.counts_setCounts, counts]
  · rw [settled.eng, applyCmd_eng, Engines.setCounts_flights, flights]
  · rw [get_exec_of_low settled (by decide), get_exec_of_low applies (by decide), get_worked]
    rfl

/-! ### Words that read uncorrectable (R197) -/

/-- The source that a dropped word counts for. -/
def Cmd.dropSource (c : Cmd) (up : Upset) : Fin 4 := if up.noSource then 0 else c.src

def dropKeys : List Nat := reportKeys ++ (evKeys F.ENG_EVT_SLICE_UNCORR ++ fenceKeys)

theorem Device.dropWord_within (d : Device) (c : Cmd) (up : Upset) (reporter : Nat) :
    d.Within [.eng, .flt] dropKeys (d.dropWord c up reporter) :=
  (((d.count_within (c.dropSource up) _).trans ((Within.event _ _).trans (.report _ _ _ _ _))).trans (settleFences_within _)).mono
    (by decide) (by decide)

theorem Device.dropWord_eng (d : Device) (c : Cmd) (up : Upset) (reporter : Nat) :
    (d.dropWord c up reporter).eng = d.eng.setCounts (c.dropSource up) (d.eng.counts (c.dropSource up)).discard :=
  ((settleFences_within _).eng.trans (Within.report _ _ _ _ _).eng).trans (Within.event _ _).eng

theorem Device.get_dropWord (d : Device) (c : Cmd) (up : Upset) (reporter : Nat) :
    (d.dropWord c up reporter).get F.ENG_EVT_SLICE_UNCORR = 1 := by
  rw [dropWord, (settleFences_within _).get _ _ (by decide), queueUncorr, (Within.report _ _ _ _ _).get _ _ (by decide),
    get_event _ _ (by decide) (by decide)]

theorem Device.reported_dropWord (d : Device) (c : Cmd) (up : Upset) (reporter : Nat) :
    d.Reported (d.dropWord c up reporter) 5 0 3 reporter := by
  have counted := (d.count_within (c.dropSource up) Counts.discard).trans (.event _ F.ENG_EVT_SLICE_UNCORR)
  exact (reported_report counted.flt (counted.get _ _ (by decide))).of_within (settleFences_within _)

/-- An engine without its uncorrectable word has reported it. -/
theorem does_dropWord {s : State} {r : Instr} {e : Fin 64} {x : Engine} (running : s.Running) (row : engineRow r = some (e, up))
    (fetched : s.dev.EngineBecomes e x m) (w : s.dev.Within [.eng] [] m) (run : s.dev.engineStep e (rowTakes r) up = m.dropWord c up e) :
    Does r s [.eng, .flt] dropKeys (fun d =>
      d.engine e = x ∧ d.eng.flights = s.dev.eng.flights ∧
      d.eng.counts (c.dropSource up) = (s.dev.eng.counts (c.dropSource up)).discard ∧ d.get F.ENG_EVT_SLICE_UNCORR = 1 ∧
      s.dev.Reported d 5 0 3 e) := by
  refine does_within (exec_engineRow row s) running run ((w.trans (m.dropWord_within c up e)).mono (by decide) (fun _ hk => hk))
    ⟨?_, ?_, ?_, m.get_dropWord c up e, ?_⟩
  · rw [Device.engine, dropWord_eng, Engines.setCounts_engine]
    exact fetched.engine
  · rw [dropWord_eng, Engines.setCounts_flights, fetched.flights]
  · rw [dropWord_eng, Engines.counts_setCounts, fetched.counts]
  · have reported := m.reported_dropWord c up e
    unfold Reported at reported ⊢
    rw [w.flt, w.get F.FLT_LOST_CNT_LOST 0 (by simp)] at reported
    exact reported

/-! ### Stolen commands (R186) -/

theorem Device.engineStep_of_hand_drop (free : d.resetBusy = false) (hand : (d.engine e).hand = some c) (wanted : want c.w1 = true)
    (queue : up.queue = true) : d.engineStep e want up = (d.onEngine e (fun x => { x with hand := none })).dropWord c up e := by
  unfold engineStep
  rw [free, hand]
  dsimp only
  rw [wanted, queue]
  rfl

theorem Device.engineStep_of_hand (free : d.resetBusy = false) (hand : (d.engine e).hand = some c) (wanted : want c.w1 = true)
    (queue : up.queue = false) (time : (d.engine e).used + 2 ≤ d.cycles) : d.engineStep e want up =
    (((d.when up.lease (fun d => d.voidBank (bankOf (cmdBerth c.w1)))).onEngine e (fun x => { x with hand := none })).executeCmd e c
      up).settleFences := by
  unfold engineStep
  rw [free, hand]
  dsimp only
  rw [wanted, queue, decide_eq_true time]
  rfl

/-! ### Voided banks (R197) -/

/-- The keys that the void of a bank changes. -/
def voidKeys : List Nat := [F.ENG_LEASE_VOID_VOID.key 0] ++ evKeys F.ENG_EVT_LEASE_UNCORR ++ reportKeys

/-- The bank of command c with the upset of its lease word. -/
def Device.leaseRead (d : Device) (c : Cmd) (up : Upset) : Device := d.when up.lease (fun d => d.voidBank (bankOf (cmdBerth c.w1)))

/-- A voided bank is shown. -/
def Device.voidShown (d : Device) (n : Nat) : Device := (d.putBit F.ENG_LEASE_VOID_VOID 0 n true).event F.ENG_EVT_LEASE_UNCORR

theorem Device.voidBank_eq (d : Device) (n : Nat) : d.voidBank n = (d.voidShown n).report 5 0 2 n := rfl

theorem Device.voidShown_within (d : Device) (n : Nat) :
    d.Within [] ([F.ENG_LEASE_VOID_VOID.key 0] ++ evKeys F.ENG_EVT_LEASE_UNCORR) (d.voidShown n) :=
  (Within.putBit d _ _ _ _).trans (.event _ _)

theorem Device.voidBank_within (d : Device) (n : Nat) : d.Within [.flt] voidKeys (d.voidBank n) :=
  (d.voidShown_within n).trans (.report _ _ _ _ _)

theorem Device.leaseRead_within (d : Device) (c : Cmd) (up : Upset) : d.Within [.flt] voidKeys (d.leaseRead c up) :=
  .when fun d => d.voidBank_within _

theorem Device.bankVoid_voidBank (d : Device) {n : Nat} (small : n < 32) : (d.voidBank n).bankVoid n = true := by
  rw [bankVoid, voidBank_eq, voidShown, get_report_apart _ (by decide), get_event_apart _ (by decide), bit_putBit _ small]

theorem bankOf_lt (n : Nat) : bankOf n < 32 := Nat.mod_lt _ (by decide)

theorem Device.bankVoid_leaseRead (lost : up.lease = true ∨ d.bankVoid (bankOf (cmdBerth c.w1)) = true) :
    (d.leaseRead c up).bankVoid (bankOf (cmdBerth c.w1)) = true := by
  unfold leaseRead Device.when
  split
  · exact d.bankVoid_voidBank (bankOf_lt _)
  · next whole => exact lost.resolve_left whole

theorem Device.get_leaseUncorr (lost : up.lease = true) (d : Device) (c : Cmd) : (d.leaseRead c up).get F.ENG_EVT_LEASE_UNCORR = 1 := by
  rw [leaseRead, lost, when_true, voidBank_eq, voidShown, get_report_apart _ (by decide), get_event _ _ (by decide) (by decide)]

theorem Device.flt_report (same : b.flt = a.flt) (cls src code reporter : Nat) :
    (b.report cls src code reporter).flt = (a.report cls src code reporter).flt := by
  unfold report reportAt
  rw [same]
  split
  · rfl
  · exact same

theorem Device.flt_leaseRead (d : Device) (c : Cmd) (up : Upset) :
    (d.leaseRead c up).flt = (d.when up.lease (fun x => x.report 5 0 2 (bankOf (cmdBerth c.w1)))).flt := by
  cases lost : up.lease with
  | true =>
    rw [leaseRead, lost, when_true, when_true, voidBank_eq]
    exact flt_report (voidShown_within _ _).flt _ _ _ _
  | false =>
    rw [leaseRead, lost, when_false, when_false]

theorem Device.logAlike_leaseRead (d : Device) (c : Cmd) (up : Upset) : d.LogAlike (d.leaseRead c up) := by
  cases lost : up.lease with
  | true =>
    rw [leaseRead, lost, when_true, voidBank_eq]
    exact (LogAlike.of_within (d.voidShown_within _) (by decide)).trans (.report _ _ _ _ _)
  | false =>
    rw [leaseRead, lost, when_false]
    exact .refl d

theorem Device.cycles_leaseRead (d : Device) (c : Cmd) (up : Upset) : (d.leaseRead c up).cycles = d.cycles := by
  have w := d.leaseRead_within c up
  unfold cycles
  rw [w.get F.CLK_DOM_STAT_CUR_SRC 144 (by decide), w.get F.CLK_DOM_STAT_CUR_DIV 144 (by decide)]

theorem Device.startCmd_of_void (lost : (d.leaseRead c up).bankVoid (bankOf (cmdBerth c.w1)) = true)
    (time : (d.engine e).used + 1 ≤ (d.leaseRead c up).cycles) (i : Nat) :
    d.startCmd e i c up = (((d.leaseRead c up).dropped e i c).worked e 1).rejectCmd c 0x22 0 := by
  unfold startCmd
  exact (if_pos lost).trans (if_pos time)

end Sys2Proof.Machine
end

section
/-! What an engine does with the command that it starts, and the frequency and phase commands (R125, R155, R156, R169, R183-R185, R197). -/

namespace Sys2Proof.Machine

open Device

variable {a b d m : Device} {i : Nat} {c : Cmd} {up : Upset} {x : Entry}

/-! ### Stolen commands -/

/-- Engine e has let go of the command in its hand, whose lease word has been read. -/
def Device.handed (d : Device) (e : Nat) (c : Cmd) (up : Upset) : Device :=
  (d.leaseRead c up).onEngine e (fun x => { x with hand := none })

theorem Device.handed_within (d : Device) (e : Nat) (c : Cmd) (up : Upset) :
    d.Within [.flt, .eng] voidKeys (d.handed e c up) :=
  ((d.leaseRead_within c up).trans (.onEngine _ _ _)).mono (by simp) (by simp)

theorem Device.EngineBecomes.onEngine (d : Device) (e : Nat) (f : Engine → Engine) :
    d.EngineBecomes e (f (d.engine e)) (d.onEngine e f) :=
  ⟨engine_onEngine_self _ _ _, rfl, fun s => by fin_cases s <;> rfl⟩

theorem Device.EngineBecomes.handed (d : Device) (e : Nat) (c : Cmd) (up : Upset) :
    d.EngineBecomes e { d.engine e with hand := none } (d.handed e c up) := by
  have read := (d.leaseRead_within c up).eng
  refine ⟨?_, ?_, fun s => ?_⟩
  · rw [Device.handed, engine_onEngine_self, engine_of_eng read]
  · rw [← read]
    rfl
  · rw [← read]
    fin_cases s <;> rfl

theorem Device.verdict_handed (d : Device) (e : Nat) (c : Cmd) (up : Upset) :
    (d.handed e c up).cellRead c up = d.cellRead c up ∧ d.JudgesAlike (d.handed e c up) := by
  have ledger := (d.handed_within e c up).parts .ledger (by decide)
  refine ⟨?_, .of_within (d.handed_within e c up) (by decide) (congrArg Ledger.map ledger) (EngineBecomes.handed d e c up).flights⟩
  unfold cellRead cell
  rw [ledger]

/-- A stolen command that has an effect waits for the commit. -/
theorem Device.executed_hand {e : Nat} {want : BitVec 128 → Bool} {entry? : Option Entry} {act : Act} (free : d.resetBusy = false)
    (hand : (d.engine e).hand = some c) (wanted : want c.w1 = true) (queue : up.queue = false) (credit : up.credit = false)
    (time : (d.engine e).used + 2 ≤ d.cycles) (judged : d.verdict c up = .apply entry? none act) :
    ((d.engineStep e want up).engine e).hand = none ∧ ((d.engineStep e want up).engine e).slice = (d.engine e).slice ∧
      ((d.engineStep e want up).engine e).used = (d.engine e).used + 2 ∧
      (d.engineStep e want up).eng.flights = d.eng.flights ++ [d.flightOf e c up entry? act] := by
  obtain ⟨cell, alike⟩ := d.verdict_handed e c up
  have judged' : (d.handed e c up).verdict c up = .apply entry? none act := by
    rw [← judged, Device.verdict, cell, alike.judge]
    rfl
  have written := (alike.trans ((d.handed e c up).judgesAlike_berthRead c up)).writeBack (c.seen (d.cellRead c up)) (d.cellRead c up) entry?
  have run : d.engineStep e want up =
      ((((d.handed e c up).berthRead c up).worked e 2).executed (d.flightOf e c up entry? act)).settleFences := by
    rw [engineStep_of_hand free hand wanted queue time, ← leaseRead, ← Device.handed, executeCmd_eq _ _ _ credit, judged', carriedOut_apply,
      cell, written]
    rfl
  obtain ⟨engine, flights, -⟩ := (((EngineBecomes.handed d e c up).of_eng (berthRead_within _ c up).eng).worked 2).executed
    (d.flightOf e c up entry? act)
  rw [run, engine]
  exact ⟨rfl, rfl, rfl, flights⟩

/-! ### Cycles without a command -/

theorem Device.engineStep_of_missed {e i : Nat} {want : BitVec 128 → Bool} (free : d.resetBusy = false) (empty : (d.engine e).hand = none)
    (none' : bestOf (d.choices e) = none) (best : bestOf ((d.atCycle (d.engine e).used).choices e) = some (i, c))
    (wanted : want c.w1 = true) (time : (d.engine e).used + 2 ≤ d.cycles) (up : Upset) :
    d.engineStep e want up = (d.turn e none).spend e 1 := by
  have missed : d.missedTurn e want = (d.turn e none).spend e 1 := by
    unfold missedTurn
    dsimp only
    rw [best]
    exact if_pos (by rw [wanted, decide_eq_true time]; rfl)
  unfold engineStep
  rw [free, empty, none', missed]
  rfl

theorem Device.turn_within (d : Device) (e : Nat) (took : Option Cmd) : d.Within [.eng] [] (d.turn e took) := .setEng d _

/-- An engine that spends a cycle without a command. -/
theorem Device.engine_turn_spend (d : Device) (e : Nat) :
    (((d.turn e none).spend e 1).engine e).slice = (d.engine e).slice ∧
      (((d.turn e none).spend e 1).engine e).used = (d.engine e).used + 1 ∧ ((d.turn e none).spend e 1).eng.flights = d.eng.flights := by
  rw [engine_spend]
  exact ⟨rfl, rfl, rfl⟩

theorem Device.lostCycle_within (d : Device) (e : Nat) : d.Within [.eng] [F.ENG_CL_CYC_CNT_CYCLES.key e] ((d.turn e none).spend e 1) :=
  ((d.turn_within e none).trans (spend_within _ e 1)).mono (by simp) (by simp)

theorem Device.Picks.unreadable {e i : Nat} {want : BitVec 128 → Bool} (p : d.Picks e want i c) (queue : up.queue = true) :
    d.engineStep e want up = (d.onEngine e (fun x => { x with slice := dropAt x.slice i })).dropWord c up e := by
  rw [p.step, if_pos queue]

theorem Device.Picks.ungranted {e i : Nat} {want : BitVec 128 → Bool} (p : d.Picks e want i c) (queue : up.queue = false)
    (works : cmdOp c.w1 ≠ 0) (lease : up.lease = false) (bank : d.bankVoid (bankOf (cmdBerth c.w1)) = false)
    (cycles : (d.engine e).used + 2 ≤ d.cycles) (granted : (d.granted e).isSome = false) :
    d.engineStep e want up = ((d.turn e none).spend e 1).settleFences := by
  rw [p.starts queue works, startCmd_of_whole d e i c lease bank, if_pos cycles, if_neg (Bool.not_eq_true _ ▸ granted)]

theorem Device.Picks.late {e i : Nat} {want : BitVec 128 → Bool} (p : d.Picks e want i c) (queue : up.queue = false)
    (works : cmdOp c.w1 ≠ 0) (lease : up.lease = false) (bank : d.bankVoid (bankOf (cmdBerth c.w1)) = false)
    (late : d.cycles < (d.engine e).used + 2) : d.engineStep e want up = d.settleFences := by
  rw [p.starts queue works, startCmd_of_whole d e i c lease bank, if_neg (Nat.not_le.mpr late)]

/-! ### Voided banks -/

theorem does_void {s : State} {r : Instr} {e : Fin 64} (running : s.Running) (row : engineRow r = some (e, up))
    (p : s.dev.Picks e (rowTakes r) i c) (queue : up.queue = false) (works : cmdOp c.w1 ≠ 0)
    (lost : up.lease = true ∨ s.dev.bankVoid (bankOf (cmdBerth c.w1)) = true) (time : (s.dev.engine e).used + 1 ≤ s.dev.cycles) :
    Does r s [.eng, .flt] (engineKeys e ++ fenceKeys ++ [F.ENG_LEASE_VOID_VOID.key 0] ++ evKeys F.ENG_EVT_LEASE_UNCORR ++ reportKeys ++ logKeys)
      (fun d => s.dev.Rejected e i c 0x22 0 d ∧ d.bankVoid (bankOf (cmdBerth c.w1)) = true ∧
        (up.lease = true → d.get F.ENG_EVT_LEASE_UNCORR = 1) ∧
        d.flt.queue = (s.dev.when up.lease (fun x => x.report 5 0 2 (bankOf (cmdBerth c.w1)))).flt.queue) := by
  have read := s.dev.leaseRead_within c up
  have void := bankVoid_leaseRead lost
  have run : s.dev.engineStep e (rowTakes r) up = ((((s.dev.leaseRead c up).dropped e i c).worked e 1).rejectCmd c 0x22 0).settleFences := by
    rw [p.starts queue works, startCmd_of_void void (by rw [cycles_leaseRead]; exact time)]
  have fetched : s.dev.EngineBecomes e { s.dev.engine e with slice := dropAt (s.dev.engine e).slice i } ((s.dev.leaseRead c up).dropped e i c) := by
    obtain ⟨engine, flights, counts⟩ := EngineBecomes.dropped (s.dev.leaseRead c up) e i c
    rw [engine_of_eng read.eng] at engine
    rw [read.eng] at flights counts
    exact ⟨engine, flights, counts⟩
  have log := (s.dev.logAlike_leaseRead c up).trans (.of_within (dropped_within _ e i c) (by simp))
  have rejected : s.dev.Rejected e i c 0x22 0 _ := fetched.rejected (g := c.genSeen) log
    ((dropped_within _ e i c).get _ _ (by simp) |>.trans (get_exec_of_low read (by decide) e))
  have worked := (dropped_within (s.dev.leaseRead c up) e i c).trans (worked_within _ e 1)
  have rejects := rejectCmd_within (((s.dev.leaseRead c up).dropped e i c).worked e 1) c 0x22 0
  have settled := settleFences_within ((((s.dev.leaseRead c up).dropped e i c).worked e 1).rejectCmd c 0x22 0)
  have kept (f : Fld) (low : f.key 0 < 0x80000 * 32) (other : f.key 0 ∉ logKeys ++ fenceKeys) :
      ((((s.dev.leaseRead c up).dropped e i c).worked e 1).rejectCmd c 0x22 0).settleFences.get f = (s.dev.leaseRead c up).get f := by
    have high : f.key 0 ∉ [] ++ engineKeys e := fun listed => Nat.not_lt.mpr (engineKeys_high e _ listed) low
    rw [(rejects.trans settled).get f 0 other, worked.get f 0 high]
  refine does_within (exec_engineRow row s) running run ((read.trans (worked.trans (rejects.trans settled))).mono (by decide) fun k hk => ?_)
    ⟨rejected, ?_, fun lease => ?_, ?_⟩
  · simp only [voidKeys, List.mem_append, List.not_mem_nil, false_or] at hk ⊢
    tauto
  · rw [← void, bankVoid, bankVoid, kept _ (by decide) (by decide)]
  · rw [kept _ (by decide) (by decide), get_leaseUncorr lease]
  · rw [settled.flt, rejectCmd_queue, worked.flt, flt_leaseRead]

/-! ### Verdicts on frequency and phase commands (R125, R156) -/

namespace Device.Plain

variable (p : d.Plain c x)

include p

theorem freqCore (op : cmdOp c.w1 = 1) (kind : x.kind = 2) (clear : d.coreRefusal (cmdBerth c.w1) x false = none)
    (inRange : d.outOfRange (d.actingCore x) (cmdFreq c.w1) = false) : d.judge c (cmdBerth c.w1) { entry := x } =
    .apply (some (x.refreq c.t (cmdFreq c.w1) none).next) none
      (.loads [Load.acting c (d.actingCore x) .freq (x.refreq c.t (cmdFreq c.w1) none).next]) := by
  have release : (cmdOp c.w1 == 5) = false := by rw [op]; decide
  rw [p.core (by omega) (by omega) kind (by rw [release]; exact clear), if_neg (by omega)]
  simp [judgeCore, op, inRange]

theorem freqPhaseCore (op : cmdOp c.w1 = 2) (kind : x.kind = 2) (clear : d.coreRefusal (cmdBerth c.w1) x false = none)
    (inRange : d.outOfRange (d.actingCore x) (cmdFreq c.w1) = false) : d.judge c (cmdBerth c.w1) { entry := x } =
    .apply (some (x.refreq c.t (cmdFreq c.w1) (some c.w2)).next) none
      (.loads [Load.acting c (d.actingCore x) .freq (x.refreq c.t (cmdFreq c.w1) (some c.w2)).next]) := by
  have release : (cmdOp c.w1 == 5) = false := by rw [op]; decide
  rw [p.core (by omega) (by omega) kind (by rw [release]; exact clear), if_neg (by omega)]
  simp [judgeCore, op, inRange]

theorem phaseCore (op : cmdOp c.w1 = 3) (kind : x.kind = 2) (clear : d.coreRefusal (cmdBerth c.w1) x false = none) :
    d.judge c (cmdBerth c.w1) { entry := x } = .apply (some ({ x with phi := x.phi + cmdDelta c.w1 } : Entry).next) none
      (.loads [Load.acting c (d.actingCore x) .phase ({ x with phi := x.phi + cmdDelta c.w1 } : Entry).next]) := by
  have release : (cmdOp c.w1 == 5) = false := by rw [op]; decide
  rw [p.core (by omega) (by omega) kind (by rw [release]; exact clear), if_neg (by omega)]
  simp [judgeCore, op, addPhaseLoads, hopOf_of_unprepared p.unprepared]

end Device.Plain

/-- A target pound before the anchor is refused, unless R125 has the Berth's prepared hop take the command. -/
theorem Device.judge_early (valid : x.valid (cmdBerth c.w1) = true) (host : c.refresh = false) (early : c.t.toNat < x.a.toNat)
    (unprepared : d.preparedFor (cmdBerth c.w1) = none) : d.judge c (cmdBerth c.w1) { entry := x } = .reject 7 := by
  rw [judge_of_valid valid, judgeEntry]
  simp [host, early, unprepared]

theorem Device.preparedFor_of_hop {id k : Nat} {th : Pound} (hop : d.hopOf id = some (k, th)) : d.preparedFor id = some th := by
  rw [preparedFor, hop]
  rfl

theorem Device.judge_hopBusy {k : Nat} {th : Pound} (valid : x.valid (cmdBerth c.w1) = true) (host : c.refresh = false) (kind : x.kind = 2)
    (clear : d.coreRefusal (cmdBerth c.w1) x false = none) (hop : d.hopOf (cmdBerth c.w1) = some (k, th)) (soon : c.t.toNat ≤ th.toNat)
    (anchored : x.a.toNat ≤ c.t.toNat) (op : cmdOp c.w1 = 1 ∨ cmdOp c.w1 = 2) :
    d.judge c (cmdBerth c.w1) { entry := x } = .reject 0x12 := by
  rw [judge_of_valid valid, judgeEntry, preparedFor_of_hop hop]
  obtain op | op := op
  all_goals simp [host, Nat.not_lt.mpr anchored, op, kind, clear, hopRefuses, hopPermits, hopDecides, soon]

theorem Device.judge_hopPhase {k : Nat} {th : Pound} (valid : x.valid (cmdBerth c.w1) = true) (host : c.refresh = false) (kind : x.kind = 2)
    (clear : d.coreRefusal (cmdBerth c.w1) x false = none) (hop : d.hopOf (cmdBerth c.w1) = some (k, th)) (soon : c.t.toNat ≤ th.toNat)
    (op : cmdOp c.w1 = 3) : d.judge c (cmdBerth c.w1) { entry := x } =
    .apply (some ({ x with phi := x.phi + cmdDelta c.w1 } : Entry).next) none
      (.loads (d.hopPhaseLoads c k th ({ x with phi := x.phi + cmdDelta c.w1 } : Entry).next)) := by
  rw [judge_of_valid valid, judgeEntry, preparedFor_of_hop hop]
  simp [host, op, kind, clear, hopRefuses, hopPermits, hopDecides, soon, judgeCore, addPhaseLoads, hop]

/-- Settles O28: the verdict decides what an engine does with its command, and the rows of R125 and R156 give the verdicts of the
frequency and phase commands. -/
theorem engineExecutes : Obligations.EngineExecutes := by
  unfold Obligations.EngineExecutes
  refine ⟨?_, ?_, ?_, ?_, ?_, ?_, ?_, ?_, ?_, ?_, ?_, ?_, ?_, ?_, ?_, ?_, ?_, ?_, ?_, ?_, ?_, ?_, ?_, ?_⟩
  · intro s e i c up run queue op time free empty best
    have picks : s.dev.Picks e (rowTakes (.nop e up)) i c := ⟨free, empty, best, by simp [rowTakes, op]⟩
    exact does_nop run picks queue op time
  · intro s r e up i c x code run row takes free empty best queue lease credit works bank granted cycles read judged
    subst read
    have h := Takes.rejected ⟨⟨free, empty, best, takes⟩, queue, lease, credit, works, bank, granted, cycles⟩ judged
    exact answers_on (exec_engineRow row s) run rfl ⟨h.slice, h.used, h.flights, h.counts, h.shown, h.logged⟩
  · intro s r e up i c x h run row takes free empty best queue lease credit works bank granted cycles read judged
    subst read
    obtain ⟨again, flights, counts⟩ := Takes.retried ⟨⟨free, empty, best, takes⟩, queue, lease, credit, works, bank, granted, cycles⟩ judged
    exact answers_on (exec_engineRow row s) run rfl ⟨again, flights, counts c.src⟩
  · intro s r e up i c x en act run row takes free empty best queue lease credit works bank granted cycles read judged
    subst read
    have h := Takes.executed ⟨⟨free, empty, best, takes⟩, queue, lease, credit, works, bank, granted, cycles⟩ judged
    exact answers_on (exec_engineRow row s) run rfl ⟨h.slice, h.used, h.flights, h.counts c.src, h.shown⟩
  · intro s r e up c x en act run row takes free hand queue credit time read judged
    subst read
    exact answers_on (exec_engineRow row s) run rfl (executed_hand free hand takes queue credit time judged)
  · intro s r e up c run row takes free hand queue
    exact (does_dropWord run row (.onEngine _ e _) (.onEngine _ _ _) (engineStep_of_hand_drop free hand takes queue)).imp
      fun d h => ⟨congrArg Engine.hand h.1, h.2⟩
  · intro s r e up i c run row takes free empty none' best time
    exact does_within (exec_engineRow row s) run (engineStep_of_missed free empty none' best takes time up) (lostCycle_within s.dev e)
      (engine_turn_spend s.dev e)
  · intro s r e up i c run row takes free empty best queue lease works bank granted cycles
    have picks : s.dev.Picks e (rowTakes r) i c := ⟨free, empty, best, takes⟩
    have settled := settleFences_within ((s.dev.turn e none).spend e 1)
    obtain ⟨slice, used, flights⟩ := engine_turn_spend s.dev e
    exact does_within (exec_engineRow row s) run (picks.ungranted queue works lease bank cycles granted) ((lostCycle_within s.dev e).trans settled)
      ⟨(congrArg Engine.slice (settled.engine e)).trans slice, (congrArg Engine.used (settled.engine e)).trans used,
        (congrArg Engines.flights settled.eng).trans flights⟩
  · intro s r e up i c run row takes free empty best queue works lost time
    exact (does_void run row ⟨free, empty, best, takes⟩ queue works lost time).imp fun d ⟨h, void, event, report⟩ =>
      ⟨h.slice, h.used, h.flights, h.counted (by decide), h.logged, void, event, report⟩
  · intro s r e up i c run row takes free empty best queue
    have picks : s.dev.Picks e (rowTakes r) i c := ⟨free, empty, best, takes⟩
    exact (does_dropWord run row (.onEngine _ e _) (.onEngine _ _ _) (picks.unreadable queue)).imp
      fun d h => ⟨congrArg Engine.slice h.1, h.2⟩
  · intro s r e up i c run row takes free empty best queue lease works bank late
    have picks : s.dev.Picks e (rowTakes r) i c := ⟨free, empty, best, takes⟩
    have settled := settleFences_within s.dev
    exact does_within (exec_engineRow row s) run (picks.late queue works lease bank late)
      (settleFences_within s.dev) ⟨congrArg Engine.slice (settled.engine e), settled.eng⟩
  · intro s e i c x run op free empty best bank granted cycles clean valid host anchored unprepared noChannel noCore
    have picks : s.dev.Picks e (rowTakes (.setFreq e {})) i c := ⟨free, empty, best, by simp [rowTakes, op]⟩
    have judged := ((Plain.mk valid host anchored unprepared).free (.inl op) noCore).trans (if_neg noChannel)
    simp only [op] at judged
    exact (does_executed run rfl ⟨picks, rfl, rfl, rfl, by omega, bank, granted, cycles⟩ clean judged).imp
      fun d h => ⟨h.slice, h.used, h.flights, h.counts c.src⟩
  · intro s e i c x run op free empty best bank granted cycles clean valid host anchored unprepared kind clear inRange
    have picks : s.dev.Picks e (rowTakes (.setFreq e {})) i c := ⟨free, empty, best, by simp [rowTakes, op]⟩
    have judged := (Plain.mk valid host anchored unprepared).freqCore op kind clear inRange
    exact (does_executed run rfl ⟨picks, rfl, rfl, rfl, by omega, bank, granted, cycles⟩ clean judged).imp
      fun d h => ⟨h.slice, h.used, h.flights⟩
  · intro s e i c x h lane slot run op free empty best bank granted cycles clean valid host anchored unprepared kind serves trained room
    have picks : s.dev.Picks e (rowTakes (.setFreq e {})) i c := ⟨free, empty, best, by simp [rowTakes, op]⟩
    have judged := (((Plain.mk valid host anchored unprepared).free (.inl op) (by omega)).trans (if_pos kind)).trans
      (sendVerdict_of_slot serves trained room _ _ _ _ _)
    simp only [op] at judged
    exact (does_sent run rfl ⟨picks, rfl, rfl, rfl, by omega, bank, granted, cycles⟩ clean judged (JudgesAlike.servingWharf_lt serves)
      room).imp fun d h => ⟨h.slice, h.used, h.flights, h.credit⟩
  · intro s e i c x run op free empty best bank granted cycles clean valid host anchored unprepared noChannel noCore
    have picks : s.dev.Picks e (rowTakes (.setFreqPhase e {})) i c := ⟨free, empty, best, by simp [rowTakes, op]⟩
    have judged := ((Plain.mk valid host anchored unprepared).free (.inr (.inl op)) noCore).trans (if_neg noChannel)
    simp only [op] at judged
    exact (does_executed run rfl ⟨picks, rfl, rfl, rfl, by omega, bank, granted, cycles⟩ clean judged).imp
      fun d h => ⟨h.slice, h.used, h.flights, h.counts c.src⟩
  · intro s e i c x run op free empty best bank granted cycles clean valid host anchored unprepared kind clear inRange
    have picks : s.dev.Picks e (rowTakes (.setFreqPhase e {})) i c := ⟨free, empty, best, by simp [rowTakes, op]⟩
    have judged := (Plain.mk valid host anchored unprepared).freqPhaseCore op kind clear inRange
    exact (does_executed run rfl ⟨picks, rfl, rfl, rfl, by omega, bank, granted, cycles⟩ clean judged).imp
      fun d h => ⟨h.slice, h.used, h.flights⟩
  · intro s e i c x h lane slot run op free empty best bank granted cycles clean valid host anchored unprepared kind serves trained room
    have picks : s.dev.Picks e (rowTakes (.setFreqPhase e {})) i c := ⟨free, empty, best, by simp [rowTakes, op]⟩
    have judged := (((Plain.mk valid host anchored unprepared).free (.inr (.inl op)) (by omega)).trans (if_pos kind)).trans
      (sendVerdict_of_slot serves trained room _ _ _ _ _)
    simp only [op] at judged
    exact (does_sent run rfl ⟨picks, rfl, rfl, rfl, by omega, bank, granted, cycles⟩ clean judged (JudgesAlike.servingWharf_lt serves)
      room).imp fun d h => ⟨h.slice, h.used, h.flights, h.credit⟩
  · intro s e i c x run op free empty best bank granted cycles clean valid host anchored unprepared noChannel noCore
    have picks : s.dev.Picks e (rowTakes (.addPhase e {})) i c := ⟨free, empty, best, by simp [rowTakes, op]⟩
    have judged := ((Plain.mk valid host anchored unprepared).free (.inr (.inr op)) noCore).trans (if_neg noChannel)
    simp only [op] at judged
    exact (does_executed run rfl ⟨picks, rfl, rfl, rfl, by omega, bank, granted, cycles⟩ clean judged).imp
      fun d h => ⟨h.slice, h.used, h.flights, h.counts c.src⟩
  · intro s e i c x run op free empty best bank granted cycles clean valid host anchored unprepared kind clear
    have picks : s.dev.Picks e (rowTakes (.addPhase e {})) i c := ⟨free, empty, best, by simp [rowTakes, op]⟩
    have judged := (Plain.mk valid host anchored unprepared).phaseCore op kind clear
    exact (does_executed run rfl ⟨picks, rfl, rfl, rfl, by omega, bank, granted, cycles⟩ clean judged).imp
      fun d h => ⟨h.slice, h.used, h.flights⟩
  · intro s e i c x h lane slot run op free empty best bank granted cycles clean valid host anchored unprepared kind serves trained room
    have picks : s.dev.Picks e (rowTakes (.addPhase e {})) i c := ⟨free, empty, best, by simp [rowTakes, op]⟩
    have judged := (((Plain.mk valid host anchored unprepared).free (.inr (.inr op)) (by omega)).trans (if_pos kind)).trans
      (sendVerdict_of_slot serves trained room _ _ _ _ _)
    simp only [op] at judged
    exact (does_sent run rfl ⟨picks, rfl, rfl, rfl, by omega, bank, granted, cycles⟩ clean judged (JudgesAlike.servingWharf_lt serves)
      room).imp fun d h => ⟨h.slice, h.used, h.flights, h.credit⟩
  · intro s r e up i c x run row takes none' free empty best bank granted cycles works clean valid host early unprepared
    subst none'
    have judged := judge_early (d := s.dev) valid host early unprepared
    exact (does_rejected run row ⟨⟨free, empty, best, takes⟩, rfl, rfl, rfl, works, bank, granted, cycles⟩ clean judged (by decide)).imp
      fun d h => ⟨h.slice, h.flights, h.counts, h.used, h.logged⟩
  · intro s e i c x k th run op free empty best bank granted cycles clean valid host kind clear hop soon anchored
    have picks : s.dev.Picks e (rowTakes (.setFreq e {})) i c := ⟨free, empty, best, by simp [rowTakes, op]⟩
    have judged := judge_hopBusy valid host kind clear hop soon anchored (.inl op)
    exact (does_rejected run rfl ⟨picks, rfl, rfl, rfl, by omega, bank, granted, cycles⟩ clean judged (by decide)).imp
      fun d h => ⟨h.slice, h.flights, h.counts, h.logged⟩
  · intro s e i c x k th run op free empty best bank granted cycles clean valid host kind clear hop soon anchored
    have picks : s.dev.Picks e (rowTakes (.setFreqPhase e {})) i c := ⟨free, empty, best, by simp [rowTakes, op]⟩
    have judged := judge_hopBusy valid host kind clear hop soon anchored (.inr op)
    exact (does_rejected run rfl ⟨picks, rfl, rfl, rfl, by omega, bank, granted, cycles⟩ clean judged (by decide)).imp
      fun d h => ⟨h.slice, h.flights, h.counts, h.logged⟩
  · intro s e i c x k th run op free empty best bank granted cycles clean valid host kind clear hop soon
    have picks : s.dev.Picks e (rowTakes (.addPhase e {})) i c := ⟨free, empty, best, by simp [rowTakes, op]⟩
    have judged := judge_hopPhase valid host kind clear hop soon op
    exact (does_executed run rfl ⟨picks, rfl, rfl, rfl, by omega, bank, granted, cycles⟩ clean judged).imp
      fun d h => ⟨h.slice, h.used, h.flights⟩

end Sys2Proof.Machine
end
